-- ==== Sys2Proof/Word.lean ====
section
/-!
DEFINITION. The word types of the LF144: bytes, 32-bit registers and register-file words (R4, R93).
-/

namespace Sys2Proof

/-- One byte of device memory, of a local store, of an image or of a frame. -/
abbrev Byte := BitVec 8

/-- One 32-bit word: a register of BAR0 (R4) or a word of an engine's register file (R93). -/
abbrev Word := BitVec 32

end Sys2Proof
end

