-- ==== Sys2Proof/Syntax.lean ====
section
/-!
DEFINITION. The commands of the block: one constructor of `Instr` for each row of the opcode table, with the types
of their operands.  What the device's surroundings decide (the outcome of a decode, a partner's message, a sensor's
reading) is an operand of the command that reports it.
-/

namespace Sys2Proof

/-! ## Operand types -/

/-- What a decode of a line meets besides clean words (R343): word `w` of the line corrected in its symbol `i`, or
uncorrectable with the symbols that each member's re-reads count as corrected (R359). -/
inductive LineFault where
  | corrected (w i : Nat)
  | uncorrectable (w c0 c1 c2 : Nat)
  deriving DecidableEq, Repr

/-- The longest run of passing steps of one delay sweep, first and last step; none where no step passes (R356). -/
abbrev Window := Option (Nat × Nat)

/-- What the code of an on-chip store answers on a read: clean, `n` words corrected, or the word at `a`
uncorrectable (R96, R97). -/
inductive Ecc where
  | clean
  | corrected (n : Nat)
  | uncorrectable (a : Nat)
  deriving DecidableEq, Repr

/-- A status record of the panel link with a correct CRC (R218), by its fields. -/
structure StatusRec where
  taddr  : Nat
  frame  : Nat   -- ACK, NAK, and the last completed piece of STAT and SWITCH
  att    : Nat
  upd    : Nat
  band   : Nat
  x      : Nat   -- NAK
  y      : Nat
  here   : Bool  -- STAT, SWITCH: the active port is this device's
  valid  : Bool  -- STAT, CAPS: CONTENT_VALID
  holding : Bool -- STAT
  eye    : Nat   -- STAT: the tile's eye score and its worst lane
  lane   : Nat
  errors : Nat   -- STAT: PRBS errors and invalid rows the tile reports
  tileId : Nat   -- CAPS
  version : Nat
  latency : Nat
  lanes  : Nat   -- LOCKLOSS: lane mask
  deriving DecidableEq, Repr

/-- How a stage of a group's bring-up came out (R239). -/
structure StageInfo where
  lanes   : Nat              -- DETECT: bits [17:0] as SPL_G_LANES reports them
  scores  : List (List (List Nat)) -- TRAIN: the eye score by tile position, lane and preset
  presets : List Nat         -- adaptation: the preset offered per lane
  eye     : Nat              -- adaptation: group eye score, with its lane and tile position
  eyeLane : Nat
  eyeTile : Nat
  deriving DecidableEq, Repr

/-- A frame-start record of the primary (R422). -/
structure FrameRec where
  frame    : Nat
  att      : Nat
  start    : Nat                      -- t_N in PTP ns
  deadline : Nat                      -- PTP ns
  commit   : Nat
  streams  : List (Option Nat)        -- per stream, the SEQ latched
  eyeSeq   : Nat
  eyeValid : Nat
  eyes     : List (Nat × Nat × Nat × Nat)
  level    : Nat
  bands    : List Nat
  irefs    : List (List Nat)
  overlay  : List (Nat × Int)         -- per field, state code and raw value
  full     : Bool
  deriving DecidableEq, Repr

/-- A present tile of a mirrored buffer: its place, its change bit and, where it changed, its bytes. -/
structure TileMsg where
  plane : Nat
  col   : Nat
  row   : Nat
  chg   : Bool
  bytes : Option (List Byte)
  deriving DecidableEq, Repr

/-- A mirrored stack buffer (R419 STACK): descriptor fields, planes, and each present tile with its change bit and,
where it changed, its bytes. -/
structure StackMsg where
  stream : Nat
  seq    : Nat
  tsSec  : Nat
  tsNs   : Nat
  planes : List (Nat × Nat × Bool)                          -- disparity, PLANE_ID, CHG_VALID
  tiles  : List TileMsg
  deriving DecidableEq, Repr

/-- A tile of a mirrored layer plane. -/
structure LayerTile where
  layer : Nat
  col   : Nat
  row   : Nat
  bytes : List Byte
  deriving DecidableEq, Repr

/-- A mirrored commit (R419 COMMIT): the shadow set by BAR0 offset, and the changed tiles of its layer planes. -/
structure CommitMsg where
  seq    : Nat
  shadow : List (Nat × Word)
  tiles  : List LayerTile
  deriving DecidableEq, Repr

/-- A build record for the secondary (R419 BUILD). -/
structure BuildMsg where
  number   : Nat
  restart  : Bool
  rigCopy  : Nat
  pictures : List (Option (Nat × Bool))   -- per camera, the capture time of the picture selected, and its CONCEALED
  deriving DecidableEq, Repr

/-- A frame-end record of the primary (R419 FEND): FLIP or ABORT, its frame, and the applied correction deltas by
granule. -/
structure FendRec where
  flip   : Bool
  frame  : Nat
  att    : Nat
  doneNs : Nat
  deltas : List (Nat × List Byte)
  deriving DecidableEq, Repr

/-- A part of the state copy of a join (R425). -/
inductive JoinMsg where
  | bytes (addr : Nat) (data : List Byte)
  | commit (m : CommitMsg)
  | stack (m : StackMsg) (current : Bool)
  | done
  deriving DecidableEq, Repr

/-- A delay measurement (R435): the request with its departure time, and the reply with the times of the request's
departure and arrival and of its own departure, in PTP ns. -/
inductive TdelayMsg where
  | request (sent : Nat)
  | reply (sent received replied : Nat)
  deriving DecidableEq, Repr

/-- The contents of an Ehrus message (R419). -/
inductive EhlMsg where
  | alive (tick pair : Nat) (standby inSync : Bool)
  | regw (writes : List (Nat × Word))
  | stack (m : StackMsg)
  | commit (m : CommitMsg)
  | build (m : BuildMsg)
  | fstart (r : FrameRec)
  | fend (r : FendRec)
  | handover
  | power (op : Nat)                                -- 1 SLEEP, 2 DEEP_SLEEP, 3 WAKE
  | join (m : JoinMsg)
  | tlid (seq time : Nat)
  | treset (kind time : Nat)
  | ttime (ns : Nat)
  | tdelay (m : TdelayMsg)
  | tarm (freeze : Bool) (ns : Nat)
  | tbcast (mask addr : Nat) (bytes : List Byte)
  | tstatus (level : Nat) (standby : Bool) (pair lastSeq : Nat)
  deriving DecidableEq, Repr

/-- How a message arrived: its link (0 the pair link, 1 + l for hierarchy lane l of UL0–UL3, DL0–DL3), its SEQ, and
whether its CRC was correct (R418). -/
structure MsgHdr where
  link  : Nat
  seq   : Nat
  crcOk : Bool
  deriving DecidableEq, Repr

/-- What a stream's parameter sets or sequence header announce (R276, R286, R287). -/
structure StreamFormat where
  profile : Nat              -- HEVC general_profile_idc (1 Main, 2 Main 10); AV1 seq_profile
  level   : Nat              -- HEVC: ten times the level; AV1: seq_level_idx
  extra   : Bool             -- range, screen-content or multi-layer extensions; large-scale tile decoding (R277)
  chroma  : Nat              -- 0 monochrome, 1 4:2:0, others as the standard numbers them
  depth   : Nat
  width   : Nat              -- coded size in luma samples
  height  : Nat
  dpb     : Nat              -- HEVC sps_max_dec_pic_buffering_minus1
  reorder : Nat              -- HEVC sps_max_num_reorder_pics
  latency : Nat              -- HEVC sps_max_latency_increase_plus1
  deriving DecidableEq, Repr

/-- What a core finds in an access unit: the outcome of the standards' own algorithms (R276 to R293).  Pictures are
numbered by context in decode order; samples are in raster order of the coded picture, one plane each. -/
structure DecodeResult where
  headerBad : Bool           -- an error in a parameter set or sequence header
  format    : StreamFormat
  key       : Bool           -- an IRAP access unit, or a temporal unit with a sequence header and a shown key frame
  errors    : Nat            -- errors detected (R288)
  blockLog2 : Nat            -- size of a CTU or superblock
  concealed : List Nat       -- CTUs or superblocks from an error to the end of its slice or tile, by raster index (R289)
  missing   : Bool           -- it uses a reference that is absent (R290)
  uses      : List Nat       -- numbers of the references it uses
  poisonRef : Bool           -- a reference read met poison (R292)
  hashFail  : Bool           -- a decoded picture hash does not match
  grain     : Bool           -- film grain parameters were present
  picture   : Bool           -- the unit gives a picture that will be output
  rasl      : Bool           -- a RASL picture of the CRA that decoding started at
  order     : Int
  cropX     : Nat            -- origin of the conformance window or render size
  cropY     : Nat
  luma      : List Nat
  cb        : List Nat
  cr        : List Nat
  held      : List Nat       -- numbers of the references held while it is decoded
  freed     : List Nat       -- those of them that its decode frees
  isRef     : Bool           -- it is held as a reference
  outputs   : List Int       -- ORDERs of the pictures that the standard's output process outputs now, in order (R286)
  deriving DecidableEq, Repr

/-- The next picture of a decoder context, as its headers give it: context, output width and height, bit depth. -/
structure PicInfo where
  ctx    : Nat
  width  : Nat
  height : Nat
  depth  : Nat
  deriving DecidableEq, Repr

/-- What a core measures while it codes a picture (R302): the bits of its headers; for each CTU its bits under rate
control and at QP 51; the bits of each CTU coded as a floor CTU; the QP that rate control chose; and the bytes coded. -/
structure EncodeResult where
  header : Nat
  ctus   : List (Nat × Nat)
  floors : List Nat
  qp     : Nat
  au     : List Byte
  deriving DecidableEq, Repr

/-- A reading of one Kettle site (R405): raw count, temperature in °C, and whether the count lies in its fused range. -/
structure SiteReading where
  raw     : Nat
  temp    : Int
  inRange : Bool
  deriving DecidableEq, Repr

/-- A configuration write (R439, R441, R394). -/
inductive CfgWrite where
  | bar2 (log2 : Nat)                -- Resizable BAR control of BAR2
  | msix (enable mask : Bool)        -- MSI-X Enable and Function Mask
  | power (d3hot : Bool)             -- PowerState
  deriving DecidableEq, Repr

/-- A DMA transfer whose last byte has arrived or left: its tag, and how its accesses to the local store decoded (R96,
R115). -/
structure DmaDone where
  tag : Nat
  ecc : Ecc
  deriving DecidableEq, Repr

/-- An access to CH_DBG_DATA: the word written, and how the local-store word it touches decoded (R96, R123). -/
structure DbgWord where
  word : Word
  ecc  : Ecc
  deriving DecidableEq, Repr

/-- A line that the scrubber reads: its latency in ns, and the faults in it (R343, R344). -/
structure ScrubLine where
  latency : Nat
  faults  : List LineFault
  deriving DecidableEq, Repr

/-- What a device learns as the pair link comes up: the partner's pair state, and the eye scores of PL0 to PL7 (R421,
R437). -/
structure PairFar where
  pair : Nat
  eyes : List Nat
  deriving DecidableEq, Repr

/-- What a hierarchy lane that comes up finds: the level of a far end in the tree, and the lane's eye score (R431,
R437). -/
structure LaneFar where
  level : Option Nat
  eye   : Nat
  deriving DecidableEq, Repr

/-- The commands: one constructor for each row of the opcode table, in its order. -/
inductive Instr where
  | registerWrite (off : Nat) (val : Word)
  | offDomainAccess (off : Nat) (isWrite : Bool) (val : Word)
  | bar0MalformedRequest (off : Nat) (isWrite : Bool) (dws : Nat) (be : Nat)
  | bar0UndefinedAccess (off : Nat) (isWrite : Bool) (val : Word)
  | bar2Write (off : Nat) (bytes : List Byte)
  | bar2Read (off : Nat) (len : Nat)
  | csuLoad
  | csuVerify
  | csuReload
  | csuCancel
  | imageCheckComplete (flash : List Byte)
  | spiIdTimeout
  | keyProgram (slot : Nat)
  | keyRevoke (slot : Nat)
  | rollbackProgram (target : Nat)
  | fuseBlowComplete (ok : Bool)
  | reloadLoadingDone (ok : Bool)
  | stkAcquire (i : Nat)
  | stkRegister (i : Nat) (b : Nat)
  | stkAbandon (i : Nat) (b : Nat)
  | stkRegisterMarked (i : Nat)
  | stkEnable (i : Nat)
  | stkDisable (i : Nat)
  | cpoolWrite (isSize : Bool) (val : Word)
  | ttBegin (dg : List Byte)
  | ttTile (dg : List Byte)
  | ttRemove (dg : List Byte)
  | ttEnd (dg : List Byte)
  | remoteTimeout (i : Nat)
  | workItemDispatch (c : Nat) (build : Bool)
  | add (g : Nat) (ecc : Ecc)
  | sub (g : Nat) (ecc : Ecc)
  | mul (g : Nat) (ecc : Ecc)
  | mulh (g : Nat) (ecc : Ecc)
  | mulhu (g : Nat) (ecc : Ecc)
  | and (g : Nat) (ecc : Ecc)
  | or (g : Nat) (ecc : Ecc)
  | xor (g : Nat) (ecc : Ecc)
  | shl (g : Nat) (ecc : Ecc)
  | shr (g : Nat) (ecc : Ecc)
  | sra (g : Nat) (ecc : Ecc)
  | srar (g : Nat) (ecc : Ecc)
  | min (g : Nat) (ecc : Ecc)
  | max (g : Nat) (ecc : Ecc)
  | minu (g : Nat) (ecc : Ecc)
  | maxu (g : Nat) (ecc : Ecc)
  | clampu (g : Nat) (ecc : Ecc)
  | sel (g : Nat) (ecc : Ecc)
  | cmpeq (g : Nat) (ecc : Ecc)
  | cmplt (g : Nat) (ecc : Ecc)
  | cmpltu (g : Nat) (ecc : Ecc)
  | cmple (g : Nat) (ecc : Ecc)
  | abs (g : Nat) (ecc : Ecc)
  | clz (g : Nat) (ecc : Ecc)
  | mulsr (g : Nat) (ecc : Ecc)
  | movi (g : Nat) (ecc : Ecc)
  | movhi (g : Nat) (ecc : Ecc)
  | vmovi (g : Nat) (ecc : Ecc)
  | bcst (g : Nat) (ecc : Ecc)
  | laneid (g : Nat) (ecc : Ecc)
  | vext (g : Nat) (ecc : Ecc)
  | vins (g : Nat) (ecc : Ecc)
  | plogic (g : Nat) (ecc : Ecc)
  | pany (g : Nat) (ecc : Ecc)
  | pcnt (g : Nat) (ecc : Ecc)
  | lds (g : Nat) (ecc : Ecc)
  | sts (g : Nat) (ecc : Ecc)
  | ldv (g : Nat) (ecc : Ecc)
  | stv (g : Nat) (ecc : Ecc)
  | ldx (g : Nat) (ecc : Ecc)
  | stx (g : Nat) (ecc : Ecc)
  | dmrd (g : Nat) (ecc : Ecc)
  | dmwr (g : Nat) (ecc : Ecc)
  | dmwait (g : Nat) (ecc : Ecc)
  | rdcsr (g : Nat) (ecc : Ecc)
  | wrcsr (g : Nat) (ecc : Ecc)
  | fence (g : Nat) (ecc : Ecc)
  | smp (g : Nat) (ecc : Ecc)
  | smpn (g : Nat) (ecc : Ecc)
  | smpo (g : Nat) (ecc : Ecc)
  | sweep (g : Nat) (ecc : Ecc)
  | occ (g : Nat) (ecc : Ecc)
  | pft (g : Nat) (ecc : Ecc)
  | drive (g : Nat) (ecc : Ecc)
  | emit (g : Nat) (ecc : Ecc)
  | twr (g : Nat) (ecc : Ecc)
  | br (g : Nat) (ecc : Ecc)
  | bz (g : Nat) (ecc : Ecc)
  | bnz (g : Nat) (ecc : Ecc)
  | call (g : Nat) (ecc : Ecc)
  | ret (g : Nat) (ecc : Ecc)
  | vbany (g : Nat) (ecc : Ecc)
  | vbnone (g : Nat) (ecc : Ecc)
  | done (g : Nat) (ecc : Ecc)
  | trap (g : Nat) (ecc : Ecc)
  | dmaTransferComplete (g : Nat) (tr : DmaDone)
  | wiTimeout (g : Nat)
  | engReloadStart (g : Nat)
  | engReloadDone (g : Nat) (ok : Bool)
  | lsScrub (c : Nat) (corrected : Nat) (uncorrectable : Nat)
  | pcLineFill (g : Nat) (line : Nat) (ecc : Ecc)
  | engEnableWrite (c : Nat) (val : Word)
  | dbgDataAccess (c : Nat) (isWrite : Bool) (data : DbgWord)
  | eyeSetCommit (val : Word)
  | eyeStale
  | frameStart
  | frameForced
  | frameSetupDone
  | camEnable
  | rigSelect (val : Word)
  | camRestart
  | buildInstant
  | lidCommit (val : Word)
  | commitPrepDone
  | lidOffscreen (val : Word)
  | offscreenDone
  | layerFence (val : Word)
  | lateLayerReady (l : Nat)
  | overlayFieldStale (f : Nat)
  | wbHeldClear (val : Word)
  | updateStart (upd : Nat)
  | packetSend (g : Nat)
  | corrSend (g : Nat)
  | frameComplete
  | frameDeadline
  | srAck (g : Nat) (r : StatusRec) (ok : Bool)
  | srNak (g : Nat) (r : StatusRec) (ok : Bool)
  | srStat (g : Nat) (r : StatusRec) (ok : Bool)
  | srSwitch (g : Nat) (r : StatusRec) (ok : Bool)
  | srCaps (g : Nat) (r : StatusRec) (ok : Bool)
  | srLockloss (g : Nat) (r : StatusRec) (ok : Bool)
  | srSilent (g : Nat)
  | pieceAckTimeout (t : Nat)
  | splRestore (val : Word)
  | holdRequest (val : Word)
  | holdEnter
  | holdExit
  | groupAdaptStart (g : Nat)
  | groupAdaptDone (g : Nat) (r : StageInfo)
  | splEnable
  | groupStageDone (g : Nat) (r : StageInfo)
  | groupStageTimeout (g : Nat)
  | groupFailedRetry (g : Nat)
  | splGBringup (g : Nat)
  | splGRetrain (g : Nat)
  | splGDisable (g : Nat)
  | fastRetrainDone (g : Nat) (ok : Bool) (cause : Nat)
  | splLoopbackSelect (g : Nat) (mode : Nat)
  | loopbackError (g : Nat) (n : Nat)
  | auxTrain
  | auxTrainDone (four : List Bool) (two : List Bool) (one : List Bool)
  | dpHpd (level : Bool)
  | auxChTransaction (val : Word)
  | dpChDone (ok : Bool) (reply : Word) (data : List Word)
  | dpFrameStart
  | dpUnderrun (y : Nat) (x : Nat)
  | cloneCopyDone (v : Nat)
  | tileTempWrite (t : Nat) (val : Word)
  | tileTempStale (t : Nat)
  | alsReading (reading : Option (Byte × Byte))
  | passStart
  | passDone
  | corrApplyDone
  | mapFreeze
  | mapFrozen
  | mapUnfreeze
  | mapOpen
  | mapRestored
  | mapFresh
  | calRunAll
  | calRunDone
  | pcRetrain (p : Nat)
  | pcRetrainDone (p : Nat) (windows : List Window)
  | vdecPut (x : Nat) (val : Word)
  | vdecCtxEnable (x : Nat) (val : Word)
  | vdecCtxDisable (x : Nat) (val : Word)
  | vdecFlush (x : Nat)
  | vdecReset (x : Nat)
  | decodeStart (core : Nat) (info : List PicInfo)
  | decodeComplete (core : Nat) (r : DecodeResult)
  | vencCtxEnable (e : Nat) (val : Word)
  | vencInPut (e : Nat) (val : Word)
  | encodeInstant (e : Nat)
  | encodeComplete (core : Nat) (r : EncodeResult)
  | rxFrame (p : Nat) (bytes : List Byte) (capture : Nat)
  | ingressDrain
  | txFrame (p : Nat) (capture : Nat)
  | egressDelayDrop (p : Nat) (q : Nat)
  | htxPut (r : Nat) (val : Word)
  | encTxAu (e : Nat)
  | sieveRefill
  | prpSupervisionSend
  | prpLanLost (node : Nat) (p : Nat)
  | prpNodeForget (node : Nat)
  | portLinkUp (p : Nat) (fec : Nat)
  | portLinkDown (p : Nat)
  | flowRead
  | flowWrite
  | flowReadClear
  | exactAdd (ctx : Nat)
  | exactDelete
  | lossPop
  | tsqPop (p : Nat)
  | histSample
  | incrWrite (val : Word)
  | timeStep (force : Bool)
  | timeSet (force : Bool)
  | timeRead
  | triggerArm (n : Nat) (val : Word)
  | triggerTargetWrite (n : Nat) (which : Nat) (val : Word)
  | triggerFire (n : Nat)
  | ppsEdge
  | extCapture
  | memRead (client : Nat) (rank : Nat) (a : Nat) (latency : Nat) (faults : List LineFault)
  | memWrite (client : Nat) (rank : Nat) (a : Nat) (latency : Nat) (bytes : List Byte) (faults : List LineFault)
  | scrubRead (line : ScrubLine)
  | refresh (p : Nat)
  | hbmTempRead (t0 : Int) (t1 : Int)
  | selfRefreshEnter (k : Nat)
  | hbmTrainingDone (results : List (List Window))
  | memRetireCmd (val : Word)
  | retirePreset (val : Word)
  | migrationCopy (bad : List Nat)
  | bceStart
  | bceAbort
  | bceNop
  | bceCopy
  | bceFill
  | bceLink
  | bceStop
  | ckuCompute (ctx : Nat) (cont : Bool)
  | ckuAppend (ctx : Nat) (cont : Bool)
  | ckuCheck (ctx : Nat) (cont : Bool)
  | ckuJobDone
  | ckuCtxWrite (n : Nat) (isRun : Bool) (val : Word)
  | dcoCompress
  | dcoDecompress
  | dcoResume
  | dcoAbort
  | dcoOutFull
  | dcoJobDone
  | eventTick
  | ringWriteDone
  | msixModerationExpire (c : Nat)
  | msixUnmask (v : Option Nat)
  | swRaise (val : Word)
  | earlyPop
  | ringEnable (val : Word)
  | tickDivWrite (val : Word)
  | sleepCmd
  | deepSleepCmd (force : Bool)
  | wakeCmd
  | resumeAck
  | sleepEntered
  | wakePin
  | wakeDone
  | pllLockTimeout (pll : Nat)
  | chGateWrite (val : Word)
  | kettleSample
  | kettleSampleDone (readings : List SiteReading)
  | throttleStep
  | stopWindowExpire
  | alive (h : MsgHdr) (pair : Nat) (inSync : Bool)
  | aliveSend
  | regw (h : MsgHdr) (writes : List (Nat × Word))
  | stack (h : MsgHdr) (m : StackMsg)
  | commit (h : MsgHdr) (m : CommitMsg)
  | build (h : MsgHdr) (m : BuildMsg)
  | fstart (h : MsgHdr) (r : FrameRec)
  | fend (h : MsgHdr) (r : FendRec)
  | handover (h : MsgHdr)
  | power (h : MsgHdr) (op : Nat)
  | join (h : MsgHdr) (m : JoinMsg)
  | tlid (h : MsgHdr) (q : Nat) (t : Nat)
  | treset (h : MsgHdr) (kind : Nat) (t : Nat)
  | ttime (h : MsgHdr) (ns : Nat)
  | tdelay (h : MsgHdr) (m : TdelayMsg)
  | tarm (h : MsgHdr) (freeze : Bool) (t : Nat)
  | tbcast (h : MsgHdr) (mask : Nat) (a : Nat) (bs : List Byte)
  | tstatus (h : MsgHdr)
  | ehlAck (l : Nat) (seq : Nat)
  | ehlNak (l : Nat) (seq : Nat)
  | ehlReplayTimeout (l : Nat)
  | ttimeSend
  | tdelayExchange
  | pairLinkUp (theirs : PairFar) (prio : Bool) (uid : Nat)
  | pairLinkTimeout
  | partnerSilent
  | lagMaxReached
  | ehlResync
  | ehlHandover
  | ehlTakeover
  | treeLid (seq : Nat)
  | treeReset (kind : Nat)
  | snapArm
  | freezeArm
  | lidApply
  | treeResetApply
  | snapshotTake
  | bcastStart (val : Word)
  | bcastDone (err : Nat)
  | parentSilent
  | laneDown (l : Nat) (failed : Bool)
  | timeLockChanged
  | pcieLinkTrained (speed : Nat) (width : Nat)
  | functionReset (linkLost : Bool)
  | gctlResetFull (val : Word)
  | gctlResetImage (val : Word)
  | resetPin
  | powerGoodRise (bootSel : Bool)
  | powerGoodFall
  | railPgFall (sds : Bool)
  | railReenable
  | powerEnableOutputs
  | fusesDone
  | applyDone
  | firstFrameStart
  | bootLate
  | calrecSave
  | calrecRestore
  | calrecDone
  | rcRead (off : Nat)
  | configurationRequest (w : CfgWrite)
  | hierarchyLaneUp (l : Nat) (far : LaneFar)
  | pgHbmPgSdsRise
  | vddAonBelowMinimum
  | pulseWidthEnd (pps : Bool)
  deriving DecidableEq, Repr

end Sys2Proof
end

