-- ==== Sys2Proof/Decode.lean ====
section
/-!
DEFINITION. The command that a table word spells.  The opcode table gives no row of this block any bits, so no word
spells a command.
-/

namespace Sys2Proof

/-- The command spelled by the word `w` of `nbits` bits: none, since no row of the table has an encoding. -/
def decodeTableWord (_nbits _w : Nat) : Option Instr := none

end Sys2Proof
end

