-- ==== Sys2Proof/Config.lean ====
section
/-!
DEFINITION. What the spec leaves open: one uninterpreted source of free values.  Nothing can evaluate it, so no
statement can rest on a particular value (log entry 1).
-/

namespace Sys2Proof.Config

/-- The n-th value the spec leaves open, as a 32-bit word; a narrower value takes its low bits. -/
opaque freeWord : Nat → Word

/-- Free space, in 64 KiB pages, that the device leaves before its k-th area in CONTROL: the spec gives the areas'
addresses through registers and no value for them (log entry 31). -/
opaque controlGap : Nat → BitVec 6

/-- The n-th word that the 32-bit LFSR of pseudo-channel p's controller gives; the spec gives neither its polynomial nor
how the fuse identity seeds it (R354; log entry 78). -/
opaque nrefDraw (p n : Nat) : Word

/-- Sample (x, y) of a plane of sw × sh samples scaled to w × h by the encoder's fixed 8-tap, 64-phase filter, whose
taps, phases and rounding the spec does not give (R297; log entry 77). -/
opaque encScale (sw sh w h x y : Nat) (plane : List Nat) : BitVec 10

/-- By how many blocks the far end's reference moves lane l's elastic buffer between its n-th FILL block and the one
before; references within 400 ppm move it by less than one (R417; log entry 79). -/
opaque ehlDrift (l n : Nat) : Int

end Sys2Proof.Config
end

