-- ==== Sys2Proof/Machine/Bits.lean ====
section
/-!
DEFINITION. Bit fields, signed readings, byte order and small list helpers that every family uses.
-/

namespace Sys2Proof.Machine

/-- Bits [hi:lo] of a number. -/
def bitsOf (v hi lo : Nat) : Nat := v / 2 ^ lo % 2 ^ (hi + 1 - lo)

/-- Bit `i` of a number. -/
def bitAt (v i : Nat) : Bool := v / 2 ^ i % 2 == 1

/-- The number 1 or 0 of a truth value. -/
def bit (b : Bool) : Nat := if b then 1 else 0

/-- A number read as a two's-complement value of `w` bits. -/
def signedOf (w v : Nat) : Int := if v % 2 ^ w < 2 ^ (w - 1) then (v % 2 ^ w : Nat) else (v % 2 ^ w : Nat) - (2 ^ w : Nat)

/-- An integer as a two's-complement number of `w` bits. -/
def unsignedOf (w : Nat) (v : Int) : Nat := (v % (2 ^ w : Nat)).toNat

/-- Limit a number to [lo, hi]. -/
def clampNat (lo hi v : Nat) : Nat := if v < lo then lo else if hi < v then hi else v

/-- Limit an integer to [lo, hi]. -/
def clampInt (lo hi v : Int) : Int := if v < lo then lo else if hi < v then hi else v

/-- Quotient rounded up. -/
def ceilDiv (a b : Nat) : Nat := (a + b - 1) / b

/-- The little-endian number of a byte string (R4). -/
def leNat : List Byte → Nat
  | [] => 0
  | b :: t => b.toNat + 256 * leNat t

/-- The big-endian number of a byte string (network order). -/
def beNat (l : List Byte) : Nat := leNat l.reverse

/-- `n` bytes of a number, least significant first. -/
def leBytes : Nat → Nat → List Byte
  | 0, _ => []
  | n + 1, v => BitVec.ofNat 8 v :: leBytes n (v / 256)

/-- `n` bytes of a number, most significant first. -/
def beBytes (n v : Nat) : List Byte := (leBytes n v).reverse

/-- Bytes [off, off+len) of a byte string, short at its end. -/
def slice (l : List Byte) (off len : Nat) : List Byte := (l.drop off).take len

/-- The little-endian field of `len` bytes at `off`. -/
def leAt (l : List Byte) (off len : Nat) : Nat := leNat (slice l off len)

/-- The big-endian field of `len` bytes at `off`. -/
def beAt (l : List Byte) (off len : Nat) : Nat := beNat (slice l off len)

/-- The byte at `off`, 0 past the end. -/
def byteAt (l : List Byte) (off : Nat) : Nat := (l.getD off 0).toNat

/-- A byte string with zeros after it up to `n` bytes. -/
def padTo (n : Nat) (l : List Byte) : List Byte := l ++ List.replicate (n - l.length) 0

/-- The numbers lo, lo+1, …, lo+n-1. -/
def rangeFrom (lo n : Nat) : List Nat := (List.range n).map (lo + ·)

/-- Insert by a key, before the first element with a larger key (stable). -/
def insertBy {α : Type} (key : α → Nat) (a : α) : List α → List α
  | [] => [a]
  | b :: t => if key a < key b then a :: b :: t else b :: insertBy key a t

/-- Stable insertion sort by a key, ascending. -/
def sortBy {α : Type} (key : α → Nat) (l : List α) : List α := l.foldl (fun acc a => insertBy key a acc) []

/-- The element at `i`, or the given one when the list is shorter. -/
def atD {α : Type} (l : List α) (i : Nat) (d : α) : α := l.getD i d

/-- Split a list into pieces of `n` elements; `fuel` bounds the number of pieces. -/
def chunksOf {α : Type} (n : Nat) : Nat → List α → List (List α)
  | 0, _ => []
  | fuel + 1, l => if l.isEmpty then [] else l.take n :: chunksOf n fuel (l.drop n)

/-- Number of set bits among the low `w` bits. -/
def popCount (w v : Nat) : Nat := (List.range w).foldl (fun a i => a + bit (bitAt v i)) 0

/-- The integer square root of `v` among numbers below 2^`bits`, by deciding the bits from the top. -/
def isqrtBits (v : Nat) : Nat → Nat → Nat
  | 0, acc => acc
  | n + 1, acc =>
    let t := acc + 2 ^ n
    isqrtBits v n (if t * t ≤ v then t else acc)

end Sys2Proof.Machine
end

