-- ==== Sys2Proof/Machine/RegMap.lean ====
section
/-!
DEFINITION. The register map of BAR0 (R4, R20): every register of every block's register table under the spec's own
name, as its BAR0 byte offset, with the access codes of its fields (R5) and its reset value.  A register that the
spec prints once for a family (per channel, per stream, per tile and so on) takes the index of its instance.
A reset value printed as "—" (R8) is 0 here: DESIGN CHOICE, log entry 2.
-/

namespace Sys2Proof.Machine

/-- A field of a register: the register's BAR0 offset, the field's top bit and its bottom bit. -/
structure Fld where
  off : Nat
  hi  : Nat
  lo  : Nat
  deriving DecidableEq, Repr

/-- One line of a register table: where its instances lie, which bits each access code of R5 governs, and the
value after reset. -/
structure RegRow where
  off    : Nat
  stride : Nat
  count  : Nat
  rw     : Nat
  rwl    : Nat
  w1c    : Nat
  rc     : Nat
  wo     : Nat
  reset  : Nat
  deriving DecidableEq, Repr

/-! ## GCTL (spec/16_host_interface_and_bringup.md) -/

abbrev GCTL_ID : Nat := 0x0
abbrev GCTL_STEPPING : Nat := 0x4
abbrev GCTL_STEPPING_STEPPING : Fld := ⟨GCTL_STEPPING, 7, 0⟩
abbrev GCTL_STEPPING_GRADE : Fld := ⟨GCTL_STEPPING, 9, 8⟩
abbrev GCTL_UID_LO : Nat := 0x8
abbrev GCTL_UID_HI : Nat := 0xC
abbrev GCTL_BOOT_STATUS : Nat := 0x10
abbrev GCTL_BOOT_STATUS_STAGE : Fld := ⟨GCTL_BOOT_STATUS, 2, 0⟩
abbrev GCTL_BOOT_STATUS_BOOT_SEL : Fld := ⟨GCTL_BOOT_STATUS, 3, 3⟩
abbrev GCTL_BOOT_STATUS_LAST_RESET : Fld := ⟨GCTL_BOOT_STATUS, 7, 4⟩
abbrev GCTL_BOOT_TIME : Nat := 0x14
abbrev GCTL_RESET : Nat := 0x18
abbrev GCTL_RESET_KIND : Fld := ⟨GCTL_RESET, 3, 0⟩
abbrev GCTL_RESET_SRC : Fld := ⟨GCTL_RESET, 4, 4⟩
abbrev GCTL_RESET_KEY : Fld := ⟨GCTL_RESET, 31, 16⟩
abbrev GCTL_RESET_CAUSE : Nat := 0x1C
abbrev GCTL_RESET_CAUSE_POWER : Fld := ⟨GCTL_RESET_CAUSE, 0, 0⟩
abbrev GCTL_RESET_CAUSE_PIN : Fld := ⟨GCTL_RESET_CAUSE, 1, 1⟩
abbrev GCTL_RESET_CAUSE_REG : Fld := ⟨GCTL_RESET_CAUSE, 2, 2⟩
abbrev GCTL_RESET_CAUSE_TREE : Fld := ⟨GCTL_RESET_CAUSE, 3, 3⟩
abbrev GCTL_PCIE_STATUS : Nat := 0x20
abbrev GCTL_PCIE_STATUS_SPEED : Fld := ⟨GCTL_PCIE_STATUS, 2, 0⟩
abbrev GCTL_PCIE_STATUS_WIDTH : Fld := ⟨GCTL_PCIE_STATUS, 7, 4⟩
abbrev GCTL_PCIE_STATUS_LINK_UP : Fld := ⟨GCTL_PCIE_STATUS, 8, 8⟩
abbrev GCTL_BAR2_SIZE : Nat := 0x24
abbrev GCTL_ACCESS_FAULT : Nat := 0x28
abbrev GCTL_ACCESS_FAULT_OFFSET : Fld := ⟨GCTL_ACCESS_FAULT, 25, 0⟩
abbrev GCTL_ACCESS_FAULT_KIND : Fld := ⟨GCTL_ACCESS_FAULT, 29, 28⟩
abbrev GCTL_ACCESS_FAULT_CNT : Nat := 0x2C
abbrev GCTL_CALREC_LO : Nat := 0x30
abbrev GCTL_CALREC_HI : Nat := 0x34
abbrev GCTL_CALREC_CMD : Nat := 0x38
abbrev GCTL_CALREC_STATUS : Nat := 0x3C
abbrev GCTL_CALREC_STATUS_STATE : Fld := ⟨GCTL_CALREC_STATUS, 1, 0⟩
abbrev GCTL_CALREC_STATUS_ERR : Fld := ⟨GCTL_CALREC_STATUS, 15, 8⟩
abbrev GCTL_ACCESS_FAULT_HI : Nat := 0x40
abbrev MSIX_TABLE (i : Nat) : Nat := 0x8000 + 0x4 * i
abbrev MSIX_PBA (i : Nat) : Nat := 0x9000 + 0x4 * i

def regRowsGCTL0 : List RegRow :=
  [⟨0x0, 0x0, 1, 0x0, 0x0, 0x0, 0x0, 0x0, 0x1441E57⟩,
   ⟨0x4, 0x0, 1, 0x0, 0x0, 0x0, 0x0, 0x0, 0x211⟩,
   ⟨0x8, 0x0, 1, 0x0, 0x0, 0x0, 0x0, 0x0, 0x0⟩,
   ⟨0xC, 0x0, 1, 0x0, 0x0, 0x0, 0x0, 0x0, 0x0⟩,
   ⟨0x10, 0x0, 1, 0x0, 0x0, 0x0, 0x0, 0x0, 0x10⟩,
   ⟨0x14, 0x0, 1, 0x0, 0x0, 0x0, 0x0, 0x0, 0x0⟩,
   ⟨0x18, 0x0, 1, 0x0, 0x0, 0x0, 0x0, 0xFFFF001F, 0x0⟩,
   ⟨0x1C, 0x0, 1, 0x0, 0x0, 0xF, 0x0, 0x0, 0x1⟩,
   ⟨0x20, 0x0, 1, 0x0, 0x0, 0x0, 0x0, 0x0, 0x0⟩,
   ⟨0x24, 0x0, 1, 0x0, 0x0, 0x0, 0x0, 0x0, 0x24⟩,
   ⟨0x28, 0x0, 1, 0x0, 0x0, 0x0, 0x0, 0x0, 0x0⟩,
   ⟨0x2C, 0x0, 1, 0x0, 0x0, 0x0, 0xFFFFFFFF, 0x0, 0x0⟩,
   ⟨0x30, 0x0, 1, 0xFFFFFFC0, 0x0, 0x0, 0x0, 0x0, 0x0⟩,
   ⟨0x34, 0x0, 1, 0xF, 0x0, 0x0, 0x0, 0x0, 0x0⟩,
   ⟨0x38, 0x0, 1, 0x0, 0x0, 0x0, 0x0, 0xFFFFFFFF, 0x0⟩,
   ⟨0x3C, 0x0, 1, 0x0, 0x0, 0x0, 0x0, 0x0, 0x0⟩,
   ⟨0x40, 0x0, 1, 0x0, 0x0, 0x0, 0x0, 0x0, 0x0⟩,
   ⟨0x8000, 0x4, 1024, 0xFFFFFFFF, 0x0, 0x0, 0x0, 0x0, 0x0⟩,
   ⟨0x9000, 0x4, 8, 0x0, 0x0, 0x0, 0x0, 0x0, 0x0⟩]

/-- The register rows of block GCTL. -/
def regRowsGCTL : List RegRow :=
  regRowsGCTL0

/-! ## CSU (spec/02_keonambe_image.md) -/

abbrev CSU_VERSION : Nat := 0x100000
abbrev CSU_STATUS : Nat := 0x100004
abbrev CSU_STATUS_IMAGE_VALID : Fld := ⟨CSU_STATUS, 0, 0⟩
abbrev CSU_STATUS_OPEN : Fld := ⟨CSU_STATUS, 1, 1⟩
abbrev CSU_STATUS_SOURCE : Fld := ⟨CSU_STATUS, 3, 2⟩
abbrev CSU_STATUS_BOOT_SEL : Fld := ⟨CSU_STATUS, 4, 4⟩
abbrev CSU_CPROF : Nat := 0x100008
abbrev CSU_CPROF_MAX : Fld := ⟨CSU_CPROF, 15, 0⟩
abbrev CSU_CPROF_ACTIVE : Fld := ⟨CSU_CPROF, 31, 16⟩
abbrev CSU_ACTIVE_SVN : Nat := 0x10000C
abbrev CSU_ROLLBACK : Nat := 0x100010
abbrev CSU_ROLLBACK_CMD : Nat := 0x100014
abbrev CSU_KEY_STATUS : Nat := 0x100018
abbrev CSU_KEY_STATUS_PROG : Fld := ⟨CSU_KEY_STATUS, 3, 0⟩
abbrev CSU_KEY_STATUS_REVOKED : Fld := ⟨CSU_KEY_STATUS, 7, 4⟩
abbrev CSU_KEY_STATUS_ACTIVE_SLOT : Fld := ⟨CSU_KEY_STATUS, 9, 8⟩
abbrev CSU_KEY_STATUS_BUSY : Fld := ⟨CSU_KEY_STATUS, 10, 10⟩
abbrev CSU_KEY_STATUS_FAIL : Fld := ⟨CSU_KEY_STATUS, 11, 11⟩
abbrev CSU_KEY_CMD : Nat := 0x10001C
abbrev CSU_KEY_CMD_SLOT : Fld := ⟨CSU_KEY_CMD, 1, 0⟩
abbrev CSU_KEY_CMD_OP : Fld := ⟨CSU_KEY_CMD, 3, 2⟩
abbrev CSU_KEY_HASH (i : Nat) : Nat := 0x100020 + 0x4 * i
abbrev CSU_PUSH_ADDR_LO : Nat := 0x100050
abbrev CSU_PUSH_ADDR_HI : Nat := 0x100054
abbrev CSU_PUSH_LEN : Nat := 0x100058
abbrev CSU_CMD : Nat := 0x10005C
abbrev CSU_CMD_OP : Fld := ⟨CSU_CMD, 2, 0⟩
abbrev CSU_LOAD_STATUS : Nat := 0x100060
abbrev CSU_LOAD_STATUS_STATE : Fld := ⟨CSU_LOAD_STATUS, 2, 0⟩
abbrev CSU_LOAD_STATUS_CODE : Fld := ⟨CSU_LOAD_STATUS, 15, 8⟩
abbrev CSU_LOAD_STATUS_SECTION : Fld := ⟨CSU_LOAD_STATUS, 20, 16⟩
abbrev CSU_RELOAD_STATUS : Nat := 0x100064
abbrev CSU_RELOAD_STATUS_STATE : Fld := ⟨CSU_RELOAD_STATUS, 2, 0⟩
abbrev CSU_RELOAD_STATUS_CH : Fld := ⟨CSU_RELOAD_STATUS, 5, 4⟩
abbrev CSU_RELOAD_STATUS_CODE : Fld := ⟨CSU_RELOAD_STATUS, 15, 8⟩
abbrev CSU_BUILD_ID : Nat := 0x100068
abbrev CSU_STRUCT_DIGEST (i : Nat) : Nat := 0x10006C + 0x4 * i
abbrev CSU_ROLE : Nat := 0x10009C
abbrev CSU_LOCK_FAULT : Nat := 0x1000A0
abbrev CSU_LOCK_FAULT_CNT : Nat := 0x1000A4

def regRowsCSU0 : List RegRow :=
  [⟨0x100000, 0x0, 1, 0x0, 0x0, 0x0, 0x0, 0x0, 0x10000⟩,
   ⟨0x100004, 0x0, 1, 0x0, 0x0, 0x0, 0x0, 0x0, 0x0⟩,
   ⟨0x100008, 0x0, 1, 0x0, 0x0, 0x0, 0x0, 0x0, 0x1⟩,
   ⟨0x10000C, 0x0, 1, 0x0, 0x0, 0x0, 0x0, 0x0, 0x0⟩,
   ⟨0x100010, 0x0, 1, 0x0, 0x0, 0x0, 0x0, 0x0, 0x0⟩,
   ⟨0x100014, 0x0, 1, 0x0, 0x0, 0x0, 0x0, 0xFFFFFFFF, 0x0⟩,
   ⟨0x100018, 0x0, 1, 0x0, 0x0, 0x0, 0x0, 0x0, 0x0⟩,
   ⟨0x10001C, 0x0, 1, 0x0, 0x0, 0x0, 0x0, 0xF, 0x0⟩,
   ⟨0x100020, 0x4, 12, 0x0, 0x0, 0x0, 0x0, 0xFFFFFFFF, 0x0⟩,
   ⟨0x100050, 0x0, 1, 0xFFFFFFC0, 0x0, 0x0, 0x0, 0x0, 0x0⟩,
   ⟨0x100054, 0x0, 1, 0xF, 0x0, 0x0, 0x0, 0x0, 0x0⟩,
   ⟨0x100058, 0x0, 1, 0xFFFFFFFF, 0x0, 0x0, 0x0, 0x0, 0x0⟩,
   ⟨0x10005C, 0x0, 1, 0x0, 0x0, 0x0, 0x0, 0x7, 0x0⟩,
   ⟨0x100060, 0x0, 1, 0x0, 0x0, 0x0, 0x0, 0x0, 0x0⟩,
   ⟨0x100064, 0x0, 1, 0x0, 0x0, 0x0, 0x0, 0x0, 0x0⟩,
   ⟨0x100068, 0x0, 1, 0x0, 0x0, 0x0, 0x0, 0x0, 0x0⟩,
   ⟨0x10006C, 0x4, 12, 0x0, 0x0, 0x0, 0x0, 0x0, 0x0⟩,
   ⟨0x10009C, 0x0, 1, 0x0, 0x0, 0x0, 0x0, 0x0, 0x0⟩,
   ⟨0x1000A0, 0x0, 1, 0x0, 0x0, 0x0, 0x0, 0x0, 0x0⟩,
   ⟨0x1000A4, 0x0, 1, 0x0, 0x0, 0x0, 0xFFFFFFFF, 0x0, 0x0⟩]

/-- The register rows of block CSU. -/
def regRowsCSU : List RegRow :=
  regRowsCSU0

/-! ## EVC (spec/14_events_power_thermal.md) -/

abbrev EVC_VERSION : Nat := 0x200000
abbrev EVC_CTRL : Nat := 0x200004
abbrev EVC_CTRL_RING_EN : Fld := ⟨EVC_CTRL, 0, 0⟩
abbrev EVC_CTRL_MSIX_EN : Fld := ⟨EVC_CTRL, 1, 1⟩
abbrev EVC_TICK : Nat := 0x200008
abbrev EVC_TICK_DIV : Fld := ⟨EVC_TICK, 4, 0⟩
abbrev EVC_RING_LO : Nat := 0x20000C
abbrev EVC_RING_HI : Nat := 0x200010
abbrev EVC_RING_WR : Nat := 0x200014
abbrev EVC_RING_RD : Nat := 0x200018
abbrev EVC_RECORD_CNT : Nat := 0x20001C
abbrev EVC_LOST_CNT : Nat := 0x200020
abbrev EVC_EARLY_STATUS : Nat := 0x200024
abbrev EVC_EARLY_STATUS_COUNT : Fld := ⟨EVC_EARLY_STATUS, 6, 0⟩
abbrev EVC_EARLY_STATUS_OVERFLOW : Fld := ⟨EVC_EARLY_STATUS, 8, 8⟩
abbrev EVC_EARLY_POP : Nat := 0x200028
abbrev EVC_EARLY_DATA (i : Nat) : Nat := 0x200030 + 0x4 * i
abbrev EVC_SW_RAISE : Nat := 0x200050
abbrev EVC_SW_RAISE_INDEX : Fld := ⟨EVC_SW_RAISE, 4, 0⟩
abbrev EVC_SW_RAISE_CLASS : Fld := ⟨EVC_SW_RAISE, 10, 8⟩
abbrev EVC_SW_DATA_LO : Nat := 0x200054
abbrev EVC_SW_DATA_HI : Nat := 0x200058
abbrev EVC_TICK_LO : Nat := 0x20005C
abbrev EVC_TICK_HI : Nat := 0x200060
abbrev EVC_FATAL : Nat := 0x200064
abbrev EVC_CLASS_VEC (i : Nat) : Nat := 0x200080 + 0x4 * i
abbrev EVC_CLASS_MOD (i : Nat) : Nat := 0x2000A0 + 0x4 * i
abbrev EVC_ENABLE (i : Nat) : Nat := 0x200100 + 0x4 * i
abbrev EVC_PENDING (i : Nat) : Nat := 0x200180 + 0x4 * i
abbrev EVC_LOST (i : Nat) : Nat := 0x200200 + 0x4 * i
abbrev EVC_GROUP_VEC (i : Nat) : Nat := 0x200280 + 0x4 * i
abbrev EVC_GROUP_VEC_VEC (i : Nat) : Fld := ⟨(EVC_GROUP_VEC i), 7, 0⟩
abbrev EVC_GROUP_VEC_EN (i : Nat) : Fld := ⟨(EVC_GROUP_VEC i), 8, 8⟩

def regRowsEVC0 : List RegRow :=
  [⟨0x200000, 0x0, 1, 0x0, 0x0, 0x0, 0x0, 0x0, 0x10000⟩,
   ⟨0x200004, 0x0, 1, 0x3, 0x0, 0x0, 0x0, 0x0, 0x0⟩,
   ⟨0x200008, 0x0, 1, 0x1F, 0x0, 0x0, 0x0, 0x0, 0x4⟩,
   ⟨0x20000C, 0x0, 1, 0x0, 0x0, 0x0, 0x0, 0x0, 0x0⟩,
   ⟨0x200010, 0x0, 1, 0x0, 0x0, 0x0, 0x0, 0x0, 0x0⟩,
   ⟨0x200014, 0x0, 1, 0x0, 0x0, 0x0, 0x0, 0x0, 0x0⟩,
   ⟨0x200018, 0x0, 1, 0xFFFFFFFF, 0x0, 0x0, 0x0, 0x0, 0x0⟩,
   ⟨0x20001C, 0x0, 1, 0x0, 0x0, 0x0, 0x0, 0x0, 0x0⟩,
   ⟨0x200020, 0x0, 1, 0x0, 0x0, 0x0, 0xFFFFFFFF, 0x0, 0x0⟩,
   ⟨0x200024, 0x0, 1, 0x0, 0x0, 0x100, 0x0, 0x0, 0x0⟩,
   ⟨0x200028, 0x0, 1, 0x0, 0x0, 0x0, 0x0, 0xFFFFFFFF, 0x0⟩,
   ⟨0x200030, 0x4, 8, 0x0, 0x0, 0x0, 0x0, 0x0, 0x0⟩,
   ⟨0x200050, 0x0, 1, 0x0, 0x0, 0x0, 0x0, 0x71F, 0x0⟩,
   ⟨0x200054, 0x0, 1, 0xFFFFFFFF, 0x0, 0x0, 0x0, 0x0, 0x0⟩,
   ⟨0x200058, 0x0, 1, 0xFFFFFFFF, 0x0, 0x0, 0x0, 0x0, 0x0⟩,
   ⟨0x20005C, 0x0, 1, 0x0, 0x0, 0x0, 0x0, 0x0, 0x0⟩,
   ⟨0x200060, 0x0, 1, 0x0, 0x0, 0x0, 0x0, 0x0, 0x0⟩,
   ⟨0x200064, 0x0, 1, 0x0, 0x0, 0x80000000, 0x0, 0x0, 0x0⟩,
   ⟨0x200080, 0x0, 1, 0xFF, 0x0, 0x0, 0x0, 0x0, 0x0⟩,
   ⟨0x200084, 0x0, 1, 0xFF, 0x0, 0x0, 0x0, 0x0, 0x1⟩]

def regRowsEVC1 : List RegRow :=
  [⟨0x200088, 0x0, 1, 0xFF, 0x0, 0x0, 0x0, 0x0, 0x2⟩,
   ⟨0x20008C, 0x0, 1, 0xFF, 0x0, 0x0, 0x0, 0x0, 0x3⟩,
   ⟨0x200090, 0x0, 1, 0xFF, 0x0, 0x0, 0x0, 0x0, 0x4⟩,
   ⟨0x200094, 0x0, 1, 0xFF, 0x0, 0x0, 0x0, 0x0, 0x5⟩,
   ⟨0x200098, 0x0, 1, 0xFF, 0x0, 0x0, 0x0, 0x0, 0x6⟩,
   ⟨0x20009C, 0x0, 1, 0xFF, 0x0, 0x0, 0x0, 0x0, 0x7⟩,
   ⟨0x2000A0, 0x4, 8, 0xFFFF, 0x0, 0x0, 0x0, 0x0, 0x0⟩,
   ⟨0x200100, 0x4, 32, 0xFFFFFFFF, 0x0, 0x0, 0x0, 0x0, 0xFFFFFFFF⟩,
   ⟨0x200180, 0x4, 32, 0x0, 0x0, 0xFFFFFFFF, 0x0, 0x0, 0x0⟩,
   ⟨0x200200, 0x4, 32, 0x0, 0x0, 0x0, 0xFFFFFFFF, 0x0, 0x0⟩,
   ⟨0x200280, 0x4, 32, 0x1FF, 0x0, 0x0, 0x0, 0x0, 0x0⟩]

/-- The register rows of block EVC. -/
def regRowsEVC : List RegRow :=
  regRowsEVC0 ++ regRowsEVC1

/-! ## TMU (spec/11_network_and_time.md) -/

abbrev TMU_VERSION : Nat := 0x300000
abbrev TMU_STATUS : Nat := 0x300004
abbrev TMU_STATUS_VALID : Fld := ⟨TMU_STATUS, 0, 0⟩
abbrev TMU_STATUS_STEP_REFUSED : Fld := ⟨TMU_STATUS, 1, 1⟩
abbrev TMU_STATUS_INCR_REFUSED : Fld := ⟨TMU_STATUS, 2, 2⟩
abbrev TMU_TIME_NS : Nat := 0x300008
abbrev TMU_TIME_SEC_LO : Nat := 0x30000C
abbrev TMU_TIME_SEC_HI : Nat := 0x300010
abbrev TMU_INCR_NS : Nat := 0x300014
abbrev TMU_INCR_FRAC : Nat := 0x300018
abbrev TMU_STEP_LIMIT : Nat := 0x30001C
abbrev TMU_ADJ_NS : Nat := 0x300020
abbrev TMU_ADJ_SEC : Nat := 0x300024
abbrev TMU_SET_NS : Nat := 0x300028
abbrev TMU_SET_SEC_LO : Nat := 0x30002C
abbrev TMU_SET_SEC_HI : Nat := 0x300030
abbrev TMU_CMD : Nat := 0x300034
abbrev TMU_STEP_REFUSED_CNT : Nat := 0x300038
abbrev TMU_LAST_STEP_NS : Nat := 0x30003C
abbrev TMU_PPS_CFG : Nat := 0x300040
abbrev TMU_EXT_CFG : Nat := 0x300044
abbrev TMU_EXT_NS : Nat := 0x300048
abbrev TMU_EXT_SEC : Nat := 0x30004C
abbrev TMU_EXT_STATUS : Nat := 0x300050
abbrev TMU_TRIG_NS (i : Nat) : Nat := 0x300100 + 0x10 * i
abbrev TMU_TRIG_SEC_LO (i : Nat) : Nat := 0x300104 + 0x10 * i
abbrev TMU_TRIG_SEC_HI (i : Nat) : Nat := 0x300108 + 0x10 * i
abbrev TMU_TRIG_CTRL (i : Nat) : Nat := 0x30010C + 0x10 * i
abbrev TMU_TRIG_CTRL_ARM (i : Nat) : Fld := ⟨(TMU_TRIG_CTRL i), 0, 0⟩
abbrev TMU_TRIG_CTRL_EVENT (i : Nat) : Fld := ⟨(TMU_TRIG_CTRL i), 1, 1⟩
abbrev TMU_TRIG_CTRL_PIN (i : Nat) : Fld := ⟨(TMU_TRIG_CTRL i), 2, 2⟩
abbrev TMU_TRIG_CTRL_SNAPSHOT (i : Nat) : Fld := ⟨(TMU_TRIG_CTRL i), 3, 3⟩
abbrev TMU_TRIG_CTRL_LATE (i : Nat) : Fld := ⟨(TMU_TRIG_CTRL i), 4, 4⟩
abbrev TMU_TRIG_CTRL_WIDTH_US (i : Nat) : Fld := ⟨(TMU_TRIG_CTRL i), 15, 8⟩

def regRowsTMU0 : List RegRow :=
  [⟨0x300000, 0x0, 1, 0x0, 0x0, 0x0, 0x0, 0x0, 0x10000⟩,
   ⟨0x300004, 0x0, 1, 0x0, 0x0, 0x6, 0x0, 0x0, 0x0⟩,
   ⟨0x300008, 0x0, 1, 0x0, 0x0, 0x0, 0x0, 0x0, 0x0⟩,
   ⟨0x30000C, 0x0, 1, 0x0, 0x0, 0x0, 0x0, 0x0, 0x0⟩,
   ⟨0x300010, 0x0, 1, 0x0, 0x0, 0x0, 0x0, 0x0, 0x0⟩,
   ⟨0x300014, 0x0, 1, 0xFF, 0x0, 0x0, 0x0, 0x0, 0x4⟩,
   ⟨0x300018, 0x0, 1, 0xFFFFFFFF, 0x0, 0x0, 0x0, 0x0, 0x0⟩,
   ⟨0x30001C, 0x0, 1, 0xFFFFFFFF, 0x0, 0x0, 0x0, 0x0, 0x3E8⟩,
   ⟨0x300020, 0x0, 1, 0xFFFFFFFF, 0x0, 0x0, 0x0, 0x0, 0x0⟩,
   ⟨0x300024, 0x0, 1, 0xFFFFFFFF, 0x0, 0x0, 0x0, 0x0, 0x0⟩,
   ⟨0x300028, 0x0, 1, 0xFFFFFFFF, 0x0, 0x0, 0x0, 0x0, 0x0⟩,
   ⟨0x30002C, 0x0, 1, 0xFFFFFFFF, 0x0, 0x0, 0x0, 0x0, 0x0⟩,
   ⟨0x300030, 0x0, 1, 0xFFFF, 0x0, 0x0, 0x0, 0x0, 0x0⟩,
   ⟨0x300034, 0x0, 1, 0x0, 0x0, 0x0, 0x0, 0xFFFFFFFF, 0x0⟩,
   ⟨0x300038, 0x0, 1, 0x0, 0x0, 0x0, 0xFFFFFFFF, 0x0, 0x0⟩,
   ⟨0x30003C, 0x0, 1, 0x0, 0x0, 0x0, 0x0, 0x0, 0x0⟩,
   ⟨0x300040, 0x0, 1, 0xFF01, 0x0, 0x0, 0x0, 0x0, 0x6400⟩,
   ⟨0x300044, 0x0, 1, 0x1, 0x0, 0x0, 0x0, 0x0, 0x0⟩,
   ⟨0x300048, 0x0, 1, 0x0, 0x0, 0x0, 0x0, 0x0, 0x0⟩,
   ⟨0x30004C, 0x0, 1, 0x0, 0x0, 0x0, 0x0, 0x0, 0x0⟩]

def regRowsTMU1 : List RegRow :=
  [⟨0x300050, 0x0, 1, 0x0, 0x0, 0x3, 0x0, 0x0, 0x0⟩,
   ⟨0x300100, 0x10, 8, 0xFFFFFFFF, 0x0, 0x0, 0x0, 0x0, 0x0⟩,
   ⟨0x300104, 0x10, 8, 0xFFFFFFFF, 0x0, 0x0, 0x0, 0x0, 0x0⟩,
   ⟨0x300108, 0x10, 8, 0xFFFF, 0x0, 0x0, 0x0, 0x0, 0x0⟩,
   ⟨0x30010C, 0x10, 8, 0xFF0F, 0x0, 0x0, 0x0, 0x0, 0x0⟩]

/-- The register rows of block TMU. -/
def regRowsTMU : List RegRow :=
  regRowsTMU0 ++ regRowsTMU1

/-! ## PWR (spec/14_events_power_thermal.md) -/

abbrev PWR_VERSION : Nat := 0x400000
abbrev PWR_STATE : Nat := 0x400004
abbrev PWR_CMD : Nat := 0x400008
abbrev PWR_CMD_OP : Fld := ⟨PWR_CMD, 1, 0⟩
abbrev PWR_CMD_FORCE : Fld := ⟨PWR_CMD, 4, 4⟩
abbrev PWR_CMD_ACK : Fld := ⟨PWR_CMD, 8, 8⟩
abbrev PWR_WAKE_EN : Nat := 0x40000C
abbrev PWR_WAKE_EN_HOST : Fld := ⟨PWR_WAKE_EN, 0, 0⟩
abbrev PWR_WAKE_EN_PIN : Fld := ⟨PWR_WAKE_EN, 1, 1⟩
abbrev PWR_WAKE_EN_ETH : Fld := ⟨PWR_WAKE_EN, 3, 2⟩
abbrev PWR_WAKE_EN_TRIG : Fld := ⟨PWR_WAKE_EN, 4, 4⟩
abbrev PWR_WAKE_EN_KETTLE : Fld := ⟨PWR_WAKE_EN, 5, 5⟩
abbrev PWR_WAKE_EN_PARTNER : Fld := ⟨PWR_WAKE_EN, 6, 6⟩
abbrev PWR_WAKE_CAUSE : Nat := 0x400010
abbrev PWR_ETH_WAKE (i : Nat) : Nat := 0x400014 + 0x4 * i
abbrev PWR_CH_GATE : Nat := 0x40001C
abbrev PWR_CH_GATE_STATUS : Nat := 0x400020
abbrev PWR_PLL_STATUS : Nat := 0x400024
abbrev PWR_ENTRY_TIME : Nat := 0x400028
abbrev PWR_WAKE_TIME : Nat := 0x40002C
abbrev PWR_LAST_STOP : Nat := 0x400030
abbrev PWR_LAST_STOP_KIND : Fld := ⟨PWR_LAST_STOP, 1, 0⟩
abbrev PWR_LAST_STOP_TEMP : Fld := ⟨PWR_LAST_STOP, 15, 8⟩
abbrev PWR_LAST_STOP_SITE : Fld := ⟨PWR_LAST_STOP, 20, 16⟩
abbrev PWR_LAST_STOP_VALID : Fld := ⟨PWR_LAST_STOP, 31, 31⟩
abbrev PWR_KETTLE_STATUS : Nat := 0x400100
abbrev PWR_KETTLE_STATUS_ZONE : Fld := ⟨PWR_KETTLE_STATUS, 1, 0⟩
abbrev PWR_KETTLE_STATUS_STAGE : Fld := ⟨PWR_KETTLE_STATUS, 6, 4⟩
abbrev PWR_KETTLE_STATUS_FAST : Fld := ⟨PWR_KETTLE_STATUS, 7, 7⟩
abbrev PWR_KETTLE_STATUS_TMAX : Fld := ⟨PWR_KETTLE_STATUS, 15, 8⟩
abbrev PWR_KETTLE_STATUS_SITE : Fld := ⟨PWR_KETTLE_STATUS, 20, 16⟩
abbrev PWR_KETTLE_STATUS_RESUME_HELD : Fld := ⟨PWR_KETTLE_STATUS, 24, 24⟩
abbrev PWR_KETTLE_STATUS_DEGRADED : Fld := ⟨PWR_KETTLE_STATUS, 25, 25⟩
abbrev PWR_KETTLE_LIM : Nat := 0x400104
abbrev PWR_THROTTLE : Nat := 0x400108
abbrev PWR_SITE_VALID : Nat := 0x40010C
abbrev PWR_SAMPLE_CNT : Nat := 0x400110
abbrev PWR_TEMP (i : Nat) : Nat := 0x400200 + 0x4 * i

def regRowsPWR0 : List RegRow :=
  [⟨0x400000, 0x0, 1, 0x0, 0x0, 0x0, 0x0, 0x0, 0x10000⟩,
   ⟨0x400004, 0x0, 1, 0x0, 0x0, 0x0, 0x0, 0x0, 0x0⟩,
   ⟨0x400008, 0x0, 1, 0x0, 0x0, 0x0, 0x0, 0x113, 0x0⟩,
   ⟨0x40000C, 0x0, 1, 0x7E, 0x0, 0x0, 0x0, 0x0, 0x1⟩,
   ⟨0x400010, 0x0, 1, 0x0, 0x0, 0x0, 0x0, 0x0, 0x0⟩,
   ⟨0x400014, 0x4, 2, 0x1FFFF, 0x0, 0x0, 0x0, 0x0, 0x88B5⟩,
   ⟨0x40001C, 0x0, 1, 0xF, 0x0, 0x0, 0x0, 0x0, 0xF⟩,
   ⟨0x400020, 0x0, 1, 0x0, 0x0, 0x0, 0x0, 0x0, 0x0⟩,
   ⟨0x400024, 0x0, 1, 0x0, 0x0, 0x0, 0x0, 0x0, 0x0⟩,
   ⟨0x400028, 0x0, 1, 0x0, 0x0, 0x0, 0x0, 0x0, 0x0⟩,
   ⟨0x40002C, 0x0, 1, 0x0, 0x0, 0x0, 0x0, 0x0, 0x0⟩,
   ⟨0x400030, 0x0, 1, 0x0, 0x0, 0x80000000, 0x0, 0x0, 0x0⟩,
   ⟨0x400100, 0x0, 1, 0x0, 0x0, 0x0, 0x0, 0x0, 0x0⟩,
   ⟨0x400104, 0x0, 1, 0xFFFF, 0x0, 0x0, 0x0, 0x0, 0x6964⟩,
   ⟨0x400108, 0x0, 1, 0xFFFF, 0x0, 0x0, 0x0, 0x0, 0x64⟩,
   ⟨0x40010C, 0x0, 1, 0x0, 0x0, 0x0, 0x0, 0x0, 0xFFFFFF⟩,
   ⟨0x400110, 0x0, 1, 0x0, 0x0, 0x0, 0xFFFFFFFF, 0x0, 0x0⟩,
   ⟨0x400200, 0x4, 24, 0x0, 0x0, 0x0, 0x0, 0x0, 0x0⟩]

/-- The register rows of block PWR. -/
def regRowsPWR : List RegRow :=
  regRowsPWR0

/-! ## CH (spec/04_drakor_engines.md) -/

abbrev CH_VERSION (c : Nat) : Nat := 0x800000 + 0x400000 * c
abbrev CH_STATUS (c : Nat) : Nat := 0x800004 + 0x400000 * c
abbrev CH_STATUS_ROLE (c : Nat) : Fld := ⟨(CH_STATUS c), 1, 0⟩
abbrev CH_STATUS_FRAME_ACTIVE (c : Nat) : Fld := ⟨(CH_STATUS c), 4, 4⟩
abbrev CH_STATUS_SYNTH_QUEUE (c : Nat) : Fld := ⟨(CH_STATUS c), 5, 5⟩
abbrev CH_STATUS_BUILD_QUEUE (c : Nat) : Fld := ⟨(CH_STATUS c), 6, 6⟩
abbrev CH_STATUS_SYNTH_ENGINES (c : Nat) : Fld := ⟨(CH_STATUS c), 15, 8⟩
abbrev CH_SHARE (c : Nat) : Nat := 0x800008 + 0x400000 * c
abbrev CH_SHARE_X0 (c : Nat) : Fld := ⟨(CH_SHARE c), 11, 0⟩
abbrev CH_SHARE_XN (c : Nat) : Fld := ⟨(CH_SHARE c), 27, 16⟩
abbrev CH_DISPATCH (c : Nat) : Nat := 0x80000C + 0x400000 * c
abbrev CH_DISPATCH_RUN_LEN (c : Nat) : Fld := ⟨(CH_DISPATCH c), 4, 0⟩
abbrev CH_WI_LIMIT (c : Nat) : Nat := 0x800010 + 0x400000 * c
abbrev CH_ENG_ENABLE (c : Nat) : Nat := 0x800014 + 0x400000 * c
abbrev CH_ENG_IDLE (c : Nat) : Nat := 0x800018 + 0x400000 * c
abbrev CH_ENG_FAULTED (c : Nat) : Nat := 0x80001C + 0x400000 * c
abbrev CH_ENG_OFFLINE (c : Nat) : Nat := 0x800020 + 0x400000 * c
abbrev CH_SCRUB (c : Nat) : Nat := 0x800024 + 0x400000 * c
abbrev CH_LS_CORR_CNT (c : Nat) : Nat := 0x800028 + 0x400000 * c
abbrev CH_LS_UNCORR_CNT (c : Nat) : Nat := 0x80002C + 0x400000 * c
abbrev CH_PC_CORR_CNT (c : Nat) : Nat := 0x800030 + 0x400000 * c
abbrev CH_PC_UNCORR_CNT (c : Nat) : Nat := 0x800034 + 0x400000 * c
abbrev CH_PC_FILL_CNT (c : Nat) : Nat := 0x800038 + 0x400000 * c
abbrev CH_SAMPLE_CNT (c : Nat) : Nat := 0x80003C + 0x400000 * c
abbrev CH_RUNS_DONE (c : Nat) : Nat := 0x800040 + 0x400000 * c
abbrev CH_FAULT_CNT (c : Nat) : Nat := 0x800044 + 0x400000 * c
abbrev CH_DBG_SEL (c : Nat) : Nat := 0x800048 + 0x400000 * c
abbrev CH_DBG_ADDR (c : Nat) : Nat := 0x80004C + 0x400000 * c
abbrev CH_DBG_DATA (c : Nat) : Nat := 0x800050 + 0x400000 * c
abbrev CH_ENG_STATE (c : Nat) (i : Nat) : Nat := 0x801000 + 0x400000 * c + 0x20 * i
abbrev CH_ENG_STATE_STATE (c : Nat) (i : Nat) : Fld := ⟨(CH_ENG_STATE c i), 2, 0⟩
abbrev CH_ENG_STATE_KIND (c : Nat) (i : Nat) : Fld := ⟨(CH_ENG_STATE c i), 4, 4⟩
abbrev CH_ENG_PC (c : Nat) (i : Nat) : Nat := 0x801004 + 0x400000 * c + 0x20 * i
abbrev CH_ENG_FAULT (c : Nat) (i : Nat) : Nat := 0x801008 + 0x400000 * c + 0x20 * i
abbrev CH_ENG_FAULT_CODE (c : Nat) (i : Nat) : Fld := ⟨(CH_ENG_FAULT c i), 7, 0⟩
abbrev CH_ENG_FAULT_VALID (c : Nat) (i : Nat) : Fld := ⟨(CH_ENG_FAULT c i), 8, 8⟩
abbrev CH_ENG_FAULT_OVERRUN (c : Nat) (i : Nat) : Fld := ⟨(CH_ENG_FAULT c i), 9, 9⟩
abbrev CH_ENG_FAULT_PC (c : Nat) (i : Nat) : Nat := 0x80100C + 0x400000 * c + 0x20 * i
abbrev CH_ENG_FAULT_ADDR (c : Nat) (i : Nat) : Nat := 0x801010 + 0x400000 * c + 0x20 * i
abbrev CH_ENG_FAULT_WI (c : Nat) (i : Nat) : Nat := 0x801014 + 0x400000 * c + 0x20 * i
abbrev CH_ENG_RUNS (c : Nat) (i : Nat) : Nat := 0x801018 + 0x400000 * c + 0x20 * i

def regRowsCH0 : List RegRow :=
  [⟨0x800000, 0x0, 1, 0x0, 0x0, 0x0, 0x0, 0x0, 0x10000⟩,
   ⟨0xC00000, 0x0, 1, 0x0, 0x0, 0x0, 0x0, 0x0, 0x10000⟩,
   ⟨0x1000000, 0x0, 1, 0x0, 0x0, 0x0, 0x0, 0x0, 0x10000⟩,
   ⟨0x1400000, 0x0, 1, 0x0, 0x0, 0x0, 0x0, 0x0, 0x10000⟩,
   ⟨0x800004, 0x0, 1, 0x0, 0x0, 0x0, 0x0, 0x0, 0x0⟩,
   ⟨0xC00004, 0x0, 1, 0x0, 0x0, 0x0, 0x0, 0x0, 0x0⟩,
   ⟨0x1000004, 0x0, 1, 0x0, 0x0, 0x0, 0x0, 0x0, 0x0⟩,
   ⟨0x1400004, 0x0, 1, 0x0, 0x0, 0x0, 0x0, 0x0, 0x0⟩,
   ⟨0x800008, 0x0, 1, 0x0, 0x0, 0x0, 0x0, 0x0, 0x0⟩,
   ⟨0xC00008, 0x0, 1, 0x0, 0x0, 0x0, 0x0, 0x0, 0x0⟩,
   ⟨0x1000008, 0x0, 1, 0x0, 0x0, 0x0, 0x0, 0x0, 0x0⟩,
   ⟨0x1400008, 0x0, 1, 0x0, 0x0, 0x0, 0x0, 0x0, 0x0⟩,
   ⟨0x80000C, 0x0, 1, 0x1F, 0x0, 0x0, 0x0, 0x0, 0x10⟩,
   ⟨0xC0000C, 0x0, 1, 0x1F, 0x0, 0x0, 0x0, 0x0, 0x10⟩,
   ⟨0x100000C, 0x0, 1, 0x1F, 0x0, 0x0, 0x0, 0x0, 0x10⟩,
   ⟨0x140000C, 0x0, 1, 0x1F, 0x0, 0x0, 0x0, 0x0, 0x10⟩,
   ⟨0x800010, 0x0, 1, 0xFFFFFFFF, 0x0, 0x0, 0x0, 0x0, 0x1E8480⟩,
   ⟨0xC00010, 0x0, 1, 0xFFFFFFFF, 0x0, 0x0, 0x0, 0x0, 0x1E8480⟩,
   ⟨0x1000010, 0x0, 1, 0xFFFFFFFF, 0x0, 0x0, 0x0, 0x0, 0x1E8480⟩,
   ⟨0x1400010, 0x0, 1, 0xFFFFFFFF, 0x0, 0x0, 0x0, 0x0, 0x1E8480⟩]

def regRowsCH1 : List RegRow :=
  [⟨0x800014, 0x0, 1, 0x0, 0xFFFFFFFF, 0x0, 0x0, 0x0, 0xFFFFFFFF⟩,
   ⟨0xC00014, 0x0, 1, 0x0, 0xFFFFFFFF, 0x0, 0x0, 0x0, 0xFFFFFFFF⟩,
   ⟨0x1000014, 0x0, 1, 0x0, 0xFFFFFFFF, 0x0, 0x0, 0x0, 0xFFFFFFFF⟩,
   ⟨0x1400014, 0x0, 1, 0x0, 0xFFFFFFFF, 0x0, 0x0, 0x0, 0xFFFFFFFF⟩,
   ⟨0x800018, 0x0, 1, 0x0, 0x0, 0x0, 0x0, 0x0, 0x0⟩,
   ⟨0xC00018, 0x0, 1, 0x0, 0x0, 0x0, 0x0, 0x0, 0x0⟩,
   ⟨0x1000018, 0x0, 1, 0x0, 0x0, 0x0, 0x0, 0x0, 0x0⟩,
   ⟨0x1400018, 0x0, 1, 0x0, 0x0, 0x0, 0x0, 0x0, 0x0⟩,
   ⟨0x80001C, 0x0, 1, 0x0, 0x0, 0x0, 0x0, 0x0, 0x0⟩,
   ⟨0xC0001C, 0x0, 1, 0x0, 0x0, 0x0, 0x0, 0x0, 0x0⟩,
   ⟨0x100001C, 0x0, 1, 0x0, 0x0, 0x0, 0x0, 0x0, 0x0⟩,
   ⟨0x140001C, 0x0, 1, 0x0, 0x0, 0x0, 0x0, 0x0, 0x0⟩,
   ⟨0x800020, 0x0, 1, 0x0, 0x0, 0x0, 0x0, 0x0, 0xFFFFFFFF⟩,
   ⟨0xC00020, 0x0, 1, 0x0, 0x0, 0x0, 0x0, 0x0, 0xFFFFFFFF⟩,
   ⟨0x1000020, 0x0, 1, 0x0, 0x0, 0x0, 0x0, 0x0, 0xFFFFFFFF⟩,
   ⟨0x1400020, 0x0, 1, 0x0, 0x0, 0x0, 0x0, 0x0, 0xFFFFFFFF⟩,
   ⟨0x800024, 0x0, 1, 0xFFFF, 0x0, 0x0, 0x0, 0x0, 0x100⟩,
   ⟨0xC00024, 0x0, 1, 0xFFFF, 0x0, 0x0, 0x0, 0x0, 0x100⟩,
   ⟨0x1000024, 0x0, 1, 0xFFFF, 0x0, 0x0, 0x0, 0x0, 0x100⟩,
   ⟨0x1400024, 0x0, 1, 0xFFFF, 0x0, 0x0, 0x0, 0x0, 0x100⟩]

def regRowsCH2 : List RegRow :=
  [⟨0x800028, 0x0, 1, 0x0, 0x0, 0x0, 0xFFFFFFFF, 0x0, 0x0⟩,
   ⟨0xC00028, 0x0, 1, 0x0, 0x0, 0x0, 0xFFFFFFFF, 0x0, 0x0⟩,
   ⟨0x1000028, 0x0, 1, 0x0, 0x0, 0x0, 0xFFFFFFFF, 0x0, 0x0⟩,
   ⟨0x1400028, 0x0, 1, 0x0, 0x0, 0x0, 0xFFFFFFFF, 0x0, 0x0⟩,
   ⟨0x80002C, 0x0, 1, 0x0, 0x0, 0x0, 0xFFFFFFFF, 0x0, 0x0⟩,
   ⟨0xC0002C, 0x0, 1, 0x0, 0x0, 0x0, 0xFFFFFFFF, 0x0, 0x0⟩,
   ⟨0x100002C, 0x0, 1, 0x0, 0x0, 0x0, 0xFFFFFFFF, 0x0, 0x0⟩,
   ⟨0x140002C, 0x0, 1, 0x0, 0x0, 0x0, 0xFFFFFFFF, 0x0, 0x0⟩,
   ⟨0x800030, 0x0, 1, 0x0, 0x0, 0x0, 0xFFFFFFFF, 0x0, 0x0⟩,
   ⟨0xC00030, 0x0, 1, 0x0, 0x0, 0x0, 0xFFFFFFFF, 0x0, 0x0⟩,
   ⟨0x1000030, 0x0, 1, 0x0, 0x0, 0x0, 0xFFFFFFFF, 0x0, 0x0⟩,
   ⟨0x1400030, 0x0, 1, 0x0, 0x0, 0x0, 0xFFFFFFFF, 0x0, 0x0⟩,
   ⟨0x800034, 0x0, 1, 0x0, 0x0, 0x0, 0xFFFFFFFF, 0x0, 0x0⟩,
   ⟨0xC00034, 0x0, 1, 0x0, 0x0, 0x0, 0xFFFFFFFF, 0x0, 0x0⟩,
   ⟨0x1000034, 0x0, 1, 0x0, 0x0, 0x0, 0xFFFFFFFF, 0x0, 0x0⟩,
   ⟨0x1400034, 0x0, 1, 0x0, 0x0, 0x0, 0xFFFFFFFF, 0x0, 0x0⟩,
   ⟨0x800038, 0x0, 1, 0x0, 0x0, 0x0, 0xFFFFFFFF, 0x0, 0x0⟩,
   ⟨0xC00038, 0x0, 1, 0x0, 0x0, 0x0, 0xFFFFFFFF, 0x0, 0x0⟩,
   ⟨0x1000038, 0x0, 1, 0x0, 0x0, 0x0, 0xFFFFFFFF, 0x0, 0x0⟩,
   ⟨0x1400038, 0x0, 1, 0x0, 0x0, 0x0, 0xFFFFFFFF, 0x0, 0x0⟩]

def regRowsCH3 : List RegRow :=
  [⟨0x80003C, 0x0, 1, 0x0, 0x0, 0x0, 0xFFFFFFFF, 0x0, 0x0⟩,
   ⟨0xC0003C, 0x0, 1, 0x0, 0x0, 0x0, 0xFFFFFFFF, 0x0, 0x0⟩,
   ⟨0x100003C, 0x0, 1, 0x0, 0x0, 0x0, 0xFFFFFFFF, 0x0, 0x0⟩,
   ⟨0x140003C, 0x0, 1, 0x0, 0x0, 0x0, 0xFFFFFFFF, 0x0, 0x0⟩,
   ⟨0x800040, 0x0, 1, 0x0, 0x0, 0x0, 0xFFFFFFFF, 0x0, 0x0⟩,
   ⟨0xC00040, 0x0, 1, 0x0, 0x0, 0x0, 0xFFFFFFFF, 0x0, 0x0⟩,
   ⟨0x1000040, 0x0, 1, 0x0, 0x0, 0x0, 0xFFFFFFFF, 0x0, 0x0⟩,
   ⟨0x1400040, 0x0, 1, 0x0, 0x0, 0x0, 0xFFFFFFFF, 0x0, 0x0⟩,
   ⟨0x800044, 0x0, 1, 0x0, 0x0, 0x0, 0xFFFFFFFF, 0x0, 0x0⟩,
   ⟨0xC00044, 0x0, 1, 0x0, 0x0, 0x0, 0xFFFFFFFF, 0x0, 0x0⟩,
   ⟨0x1000044, 0x0, 1, 0x0, 0x0, 0x0, 0xFFFFFFFF, 0x0, 0x0⟩,
   ⟨0x1400044, 0x0, 1, 0x0, 0x0, 0x0, 0xFFFFFFFF, 0x0, 0x0⟩,
   ⟨0x800048, 0x0, 1, 0x1F, 0x0, 0x0, 0x0, 0x0, 0x0⟩,
   ⟨0xC00048, 0x0, 1, 0x1F, 0x0, 0x0, 0x0, 0x0, 0x0⟩,
   ⟨0x1000048, 0x0, 1, 0x1F, 0x0, 0x0, 0x0, 0x0, 0x0⟩,
   ⟨0x1400048, 0x0, 1, 0x1F, 0x0, 0x0, 0x0, 0x0, 0x0⟩,
   ⟨0x80004C, 0x0, 1, 0x7FFFC, 0x0, 0x0, 0x0, 0x0, 0x0⟩,
   ⟨0xC0004C, 0x0, 1, 0x7FFFC, 0x0, 0x0, 0x0, 0x0, 0x0⟩,
   ⟨0x100004C, 0x0, 1, 0x7FFFC, 0x0, 0x0, 0x0, 0x0, 0x0⟩,
   ⟨0x140004C, 0x0, 1, 0x7FFFC, 0x0, 0x0, 0x0, 0x0, 0x0⟩]

def regRowsCH4 : List RegRow :=
  [⟨0x800050, 0x0, 1, 0xFFFFFFFF, 0x0, 0x0, 0x0, 0x0, 0x0⟩,
   ⟨0xC00050, 0x0, 1, 0xFFFFFFFF, 0x0, 0x0, 0x0, 0x0, 0x0⟩,
   ⟨0x1000050, 0x0, 1, 0xFFFFFFFF, 0x0, 0x0, 0x0, 0x0, 0x0⟩,
   ⟨0x1400050, 0x0, 1, 0xFFFFFFFF, 0x0, 0x0, 0x0, 0x0, 0x0⟩,
   ⟨0x801000, 0x20, 32, 0x0, 0x0, 0x0, 0x0, 0x0, 0x0⟩,
   ⟨0xC01000, 0x20, 32, 0x0, 0x0, 0x0, 0x0, 0x0, 0x0⟩,
   ⟨0x1001000, 0x20, 32, 0x0, 0x0, 0x0, 0x0, 0x0, 0x0⟩,
   ⟨0x1401000, 0x20, 32, 0x0, 0x0, 0x0, 0x0, 0x0, 0x0⟩,
   ⟨0x801004, 0x20, 32, 0x0, 0x0, 0x0, 0x0, 0x0, 0x0⟩,
   ⟨0xC01004, 0x20, 32, 0x0, 0x0, 0x0, 0x0, 0x0, 0x0⟩,
   ⟨0x1001004, 0x20, 32, 0x0, 0x0, 0x0, 0x0, 0x0, 0x0⟩,
   ⟨0x1401004, 0x20, 32, 0x0, 0x0, 0x0, 0x0, 0x0, 0x0⟩,
   ⟨0x801008, 0x20, 32, 0x0, 0x0, 0x300, 0x0, 0x0, 0x0⟩,
   ⟨0xC01008, 0x20, 32, 0x0, 0x0, 0x300, 0x0, 0x0, 0x0⟩,
   ⟨0x1001008, 0x20, 32, 0x0, 0x0, 0x300, 0x0, 0x0, 0x0⟩,
   ⟨0x1401008, 0x20, 32, 0x0, 0x0, 0x300, 0x0, 0x0, 0x0⟩,
   ⟨0x80100C, 0x20, 32, 0x0, 0x0, 0x0, 0x0, 0x0, 0x0⟩,
   ⟨0xC0100C, 0x20, 32, 0x0, 0x0, 0x0, 0x0, 0x0, 0x0⟩,
   ⟨0x100100C, 0x20, 32, 0x0, 0x0, 0x0, 0x0, 0x0, 0x0⟩,
   ⟨0x140100C, 0x20, 32, 0x0, 0x0, 0x0, 0x0, 0x0, 0x0⟩]

def regRowsCH5 : List RegRow :=
  [⟨0x801010, 0x20, 32, 0x0, 0x0, 0x0, 0x0, 0x0, 0x0⟩,
   ⟨0xC01010, 0x20, 32, 0x0, 0x0, 0x0, 0x0, 0x0, 0x0⟩,
   ⟨0x1001010, 0x20, 32, 0x0, 0x0, 0x0, 0x0, 0x0, 0x0⟩,
   ⟨0x1401010, 0x20, 32, 0x0, 0x0, 0x0, 0x0, 0x0, 0x0⟩,
   ⟨0x801014, 0x20, 32, 0x0, 0x0, 0x0, 0x0, 0x0, 0x0⟩,
   ⟨0xC01014, 0x20, 32, 0x0, 0x0, 0x0, 0x0, 0x0, 0x0⟩,
   ⟨0x1001014, 0x20, 32, 0x0, 0x0, 0x0, 0x0, 0x0, 0x0⟩,
   ⟨0x1401014, 0x20, 32, 0x0, 0x0, 0x0, 0x0, 0x0, 0x0⟩,
   ⟨0x801018, 0x20, 32, 0x0, 0x0, 0x0, 0xFFFFFFFF, 0x0, 0x0⟩,
   ⟨0xC01018, 0x20, 32, 0x0, 0x0, 0x0, 0xFFFFFFFF, 0x0, 0x0⟩,
   ⟨0x1001018, 0x20, 32, 0x0, 0x0, 0x0, 0xFFFFFFFF, 0x0, 0x0⟩,
   ⟨0x1401018, 0x20, 32, 0x0, 0x0, 0x0, 0xFFFFFFFF, 0x0, 0x0⟩]

/-- The register rows of block CH. -/
def regRowsCH : List RegRow :=
  regRowsCH0 ++ regRowsCH1 ++ regRowsCH2 ++ regRowsCH3 ++ regRowsCH4 ++ regRowsCH5

/-! ## CMP (spec/03_plane_stacks.md, spec/05_ray_synthesis.md, spec/06_camera_rig_path.md, spec/07_composition_and_lid.md) -/

abbrev CMP_STK_CFG (i : Nat) : Nat := 0x1810000 + 0x40 * i
abbrev CMP_STK_CFG_ENABLE (i : Nat) : Fld := ⟨(CMP_STK_CFG i), 0, 0⟩
abbrev CMP_STK_CFG_SOURCE (i : Nat) : Fld := ⟨(CMP_STK_CFG i), 2, 1⟩
abbrev CMP_STK_CFG_FRAG (i : Nat) : Fld := ⟨(CMP_STK_CFG i), 3, 3⟩
abbrev CMP_STK_CFG_REMOTE_ID (i : Nat) : Fld := ⟨(CMP_STK_CFG i), 15, 8⟩
abbrev CMP_STK_POOL_BASE (i : Nat) : Nat := 0x1810004 + 0x40 * i
abbrev CMP_STK_POOL_SIZE (i : Nat) : Nat := 0x1810008 + 0x40 * i
abbrev CMP_STK_DESC0 (i : Nat) : Nat := 0x181000C + 0x40 * i
abbrev CMP_STK_DESC1 (i : Nat) : Nat := 0x1810010 + 0x40 * i
abbrev CMP_STK_DESC2 (i : Nat) : Nat := 0x1810014 + 0x40 * i
abbrev CMP_STK_CMD (i : Nat) : Nat := 0x1810018 + 0x40 * i
abbrev CMP_STK_CMD_OP (i : Nat) : Fld := ⟨(CMP_STK_CMD i), 1, 0⟩
abbrev CMP_STK_CMD_BUF (i : Nat) : Fld := ⟨(CMP_STK_CMD i), 5, 4⟩
abbrev CMP_STK_STATE (i : Nat) : Nat := 0x181001C + 0x40 * i
abbrev CMP_STK_STATE_B0 (i : Nat) : Fld := ⟨(CMP_STK_STATE i), 1, 0⟩
abbrev CMP_STK_STATE_B1 (i : Nat) : Fld := ⟨(CMP_STK_STATE i), 3, 2⟩
abbrev CMP_STK_STATE_B2 (i : Nat) : Fld := ⟨(CMP_STK_STATE i), 5, 4⟩
abbrev CMP_STK_STATE_BUSY (i : Nat) : Fld := ⟨(CMP_STK_STATE i), 8, 8⟩
abbrev CMP_STK_STATE_CHG_FULL (i : Nat) : Fld := ⟨(CMP_STK_STATE i), 9, 9⟩
abbrev CMP_STK_STATE_GEN_VALID (i : Nat) : Fld := ⟨(CMP_STK_STATE i), 10, 10⟩
abbrev CMP_STK_STATE_ERR (i : Nat) : Fld := ⟨(CMP_STK_STATE i), 15, 12⟩
abbrev CMP_STK_SEQ (i : Nat) : Nat := 0x1810020 + 0x40 * i
abbrev CMP_STK_GEN (i : Nat) : Nat := 0x1810024 + 0x40 * i
abbrev CMP_STK_SUPERSEDED (i : Nat) : Nat := 0x1810028 + 0x40 * i
abbrev CMP_STK_RX_ERR (i : Nat) : Nat := 0x181002C + 0x40 * i
abbrev CMP_STK_RX_BAD (i : Nat) : Nat := 0x1810030 + 0x40 * i
abbrev CMP_LEASE_CTRL : Nat := 0x1810400
abbrev CMP_LEASE_CTRL_PROTECT : Fld := ⟨CMP_LEASE_CTRL, 0, 0⟩
abbrev CMP_LEASE_FAULT_LO : Nat := 0x1810404
abbrev CMP_LEASE_FAULT_HI : Nat := 0x1810408
abbrev CMP_LEASE_FAULT_HI_ADDR_HI : Fld := ⟨CMP_LEASE_FAULT_HI, 3, 0⟩
abbrev CMP_LEASE_FAULT_HI_WRITER : Fld := ⟨CMP_LEASE_FAULT_HI, 10, 8⟩
abbrev CMP_LEASE_FAULT_HI_LANDED : Fld := ⟨CMP_LEASE_FAULT_HI, 12, 12⟩
abbrev CMP_LEASE_FAULT_CNT : Nat := 0x181040C
abbrev CMP_REMOTE_TIMEOUT : Nat := 0x1810410
abbrev CMP_SYN_CFG : Nat := 0x1820000
abbrev CMP_SYN_CFG_NOVIEW_CLASS : Fld := ⟨CMP_SYN_CFG, 1, 0⟩
abbrev CMP_SYN_CFG_EYE_SRC : Fld := ⟨CMP_SYN_CFG, 4, 4⟩
abbrev CMP_SYN_CFG_QMIN : Fld := ⟨CMP_SYN_CFG, 9, 8⟩
abbrev CMP_SYN_MARGIN : Nat := 0x1820004
abbrev CMP_SYN_RECT_MAX : Nat := 0x1820008
abbrev CMP_SYN_EYE_AGE : Nat := 0x182000C
abbrev CMP_SYN_EYE_VALID : Nat := 0x1820010
abbrev CMP_SYN_EYE_SEQ : Nat := 0x1820014
abbrev CMP_SYN_STATUS : Nat := 0x1820018
abbrev CMP_SYN_STATUS_LEVEL : Fld := ⟨CMP_SYN_STATUS, 1, 0⟩
abbrev CMP_SYN_STATUS_EYES : Fld := ⟨CMP_SYN_STATUS, 15, 8⟩
abbrev CMP_SYN_STATUS_STALE : Fld := ⟨CMP_SYN_STATUS, 16, 16⟩
abbrev CMP_SYN_STATUS_FALLBACK : Fld := ⟨CMP_SYN_STATUS, 21, 20⟩
abbrev CMP_SYN_DAMAGE : Nat := 0x182001C
abbrev CMP_SYN_RECTS : Nat := 0x1820020
abbrev CMP_SYN_FOOT : Nat := 0x1820024
abbrev CMP_SYN_GEOM : Nat := 0x1820028
abbrev CMP_SYN_PITCH : Nat := 0x182002C
abbrev CMP_SYN_CMAP_LO : Nat := 0x1820030
abbrev CMP_SYN_CMAP_HI : Nat := 0x1820034
abbrev CMP_SYN_CNT_FULL : Nat := 0x1820038
abbrev CMP_SYN_CNT_HALF : Nat := 0x182003C
abbrev CMP_SYN_CNT_COARSE : Nat := 0x1820040
abbrev CMP_SYN_FALLBACK_CNT : Nat := 0x1820044
abbrev CMP_SYN_EYE_X (i : Nat) : Nat := 0x1820100 + 0x10 * i
abbrev CMP_SYN_EYE_Y (i : Nat) : Nat := 0x1820104 + 0x10 * i
abbrev CMP_SYN_EYE_Z (i : Nat) : Nat := 0x1820108 + 0x10 * i
abbrev CMP_SYN_EYE_HALF (i : Nat) : Nat := 0x182010C + 0x10 * i
abbrev CMP_CAM_CFG : Nat := 0x1830000
abbrev CMP_CAM_CFG_ENABLE : Fld := ⟨CMP_CAM_CFG, 0, 0⟩
abbrev CMP_CAM_CFG_TRACK_EN : Fld := ⟨CMP_CAM_CFG, 1, 1⟩
abbrev CMP_CAM_CFG_MIN_CAMS : Fld := ⟨CMP_CAM_CFG, 7, 4⟩
abbrev CMP_CAM_CFG_MISS_LIMIT : Fld := ⟨CMP_CAM_CFG, 11, 8⟩
abbrev CMP_CAM_STREAM : Nat := 0x1830004
abbrev CMP_CAM_PERIOD_NS : Nat := 0x1830008
abbrev CMP_CAM_PERIOD_FRAC : Nat := 0x183000C
abbrev CMP_CAM_PHASE_NS : Nat := 0x1830010
abbrev CMP_CAM_CAP_LAG : Nat := 0x1830014
abbrev CMP_CAM_SKEW_MAX : Nat := 0x1830018
abbrev CMP_CAM_RIG_LO : Nat := 0x183001C
abbrev CMP_CAM_RIG_HI : Nat := 0x1830020
abbrev CMP_CAM_RIG_SEL : Nat := 0x1830024
abbrev CMP_CAM_CMD : Nat := 0x1830028
abbrev CMP_CAM_STATUS : Nat := 0x183002C
abbrev CMP_CAM_STATUS_BUILD : Fld := ⟨CMP_CAM_STATUS, 1, 0⟩
abbrev CMP_CAM_STATUS_RIG_ACTIVE : Fld := ⟨CMP_CAM_STATUS, 2, 2⟩
abbrev CMP_CAM_STATUS_RIG_PENDING : Fld := ⟨CMP_CAM_STATUS, 3, 3⟩
abbrev CMP_CAM_STATUS_SKIP : Fld := ⟨CMP_CAM_STATUS, 7, 4⟩
abbrev CMP_CAM_BUILD_NO : Nat := 0x1830030
abbrev CMP_CAM_PRESENT : Nat := 0x1830034
abbrev CMP_CAM_STATE : Nat := 0x1830038
abbrev CMP_CAM_SKIP_CNT : Nat := 0x183003C
abbrev CMP_CAM_LATE_CNT : Nat := 0x1830040
abbrev CMP_CAM_ITEM_FAIL_CNT : Nat := 0x1830044
abbrev CMP_CAM_BUILD_TIME : Nat := 0x1830048
abbrev CMP_CAM_LAT_LAST : Nat := 0x183004C
abbrev CMP_CAM_LAT_MAX : Nat := 0x1830050
abbrev CMP_CAM_EYE_ADDR_LO : Nat := 0x1830054
abbrev CMP_CAM_EYE_ADDR_HI : Nat := 0x1830058
abbrev CMP_VERSION : Nat := 0x1800000
abbrev CMP_LID : Nat := 0x1800004
abbrev CMP_LID_SEQ : Fld := ⟨CMP_LID, 15, 0⟩
abbrev CMP_LID_CLASS : Fld := ⟨CMP_LID, 16, 16⟩
abbrev CMP_LID_STATUS : Nat := 0x1800008
abbrev CMP_LID_STATUS_PREP : Fld := ⟨CMP_LID_STATUS, 1, 0⟩
abbrev CMP_LID_STATUS_READY : Fld := ⟨CMP_LID_STATUS, 2, 2⟩
abbrev CMP_LID_STATUS_OFS_BUSY : Fld := ⟨CMP_LID_STATUS, 3, 3⟩
abbrev CMP_LID_STATUS_SEQ : Fld := ⟨CMP_LID_STATUS, 31, 16⟩
abbrev CMP_COMMIT_STATUS : Nat := 0x180000C
abbrev CMP_COMMIT_STATUS_CODE : Fld := ⟨CMP_COMMIT_STATUS, 7, 0⟩
abbrev CMP_COMMIT_STATUS_LAYER : Fld := ⟨CMP_COMMIT_STATUS, 12, 8⟩
abbrev CMP_COMMIT_STATUS_CPOOL : Fld := ⟨CMP_COMMIT_STATUS, 13, 13⟩
abbrev CMP_COMMIT_STATUS_SEQ : Fld := ⟨CMP_COMMIT_STATUS, 31, 16⟩
abbrev CMP_FRAME_CFG : Nat := 0x1800010
abbrev CMP_FRAME_CFG_STREAMS : Fld := ⟨CMP_FRAME_CFG, 7, 0⟩
abbrev CMP_FRAME_CFG_TRIGGER : Fld := ⟨CMP_FRAME_CFG, 15, 8⟩
abbrev CMP_FRAME_MIN_NS : Nat := 0x1800014
abbrev CMP_FRAME_MAX_NS : Nat := 0x1800018
abbrev CMP_FRAME_STATUS : Nat := 0x180001C
abbrev CMP_FRAME_STATUS_ACTIVE : Fld := ⟨CMP_FRAME_STATUS, 0, 0⟩
abbrev CMP_FRAME_STATUS_WAIT_HELD : Fld := ⟨CMP_FRAME_STATUS, 1, 1⟩
abbrev CMP_FRAME_STATUS_FORCED : Fld := ⟨CMP_FRAME_STATUS, 2, 2⟩
abbrev CMP_FRAME_SEQ : Nat := 0x1800020
abbrev CMP_FRAME_PLANES : Nat := 0x1800024
abbrev CMP_FRAME_START_CNT : Nat := 0x1800028
abbrev CMP_FRAME_FORCED_CNT : Nat := 0x180002C
abbrev CMP_LATE_CNT : Nat := 0x1800030
abbrev CMP_PLANE_DROP_CNT : Nat := 0x1800034
abbrev CMP_COMMIT_FAIL_CNT : Nat := 0x1800038
abbrev CMP_COMMIT_SUPERSEDED : Nat := 0x180003C
abbrev CMP_LYR_FENCE : Nat := 0x1800040
abbrev CMP_LYR_PENDING : Nat := 0x1800044
abbrev CMP_LYR_LATE : Nat := 0x1800048
abbrev CMP_LYR_HIDDEN : Nat := 0x180004C
abbrev CMP_CPOOL_BASE : Nat := 0x1800050
abbrev CMP_CPOOL_SIZE : Nat := 0x1800054
abbrev CMP_CPOOL_FREE : Nat := 0x1800058
abbrev CMP_CONV_LO : Nat := 0x180005C
abbrev CMP_CONV_HI : Nat := 0x1800060
abbrev CMP_PREP_TIME : Nat := 0x1800064
abbrev CMP_WB_CFG : Nat := 0x1800100
abbrev CMP_WB_CFG_EN : Fld := ⟨CMP_WB_CFG, 0, 0⟩
abbrev CMP_WB_CFG_VIEW : Fld := ⟨CMP_WB_CFG, 15, 8⟩
abbrev CMP_WB_CFG_COUNT : Fld := ⟨CMP_WB_CFG, 17, 16⟩
abbrev CMP_WB_PITCH : Nat := 0x1800104
abbrev CMP_WB_ADDR_LO (i : Nat) : Nat := 0x1800108 + 0x8 * i
abbrev CMP_WB_ADDR_HI (i : Nat) : Nat := 0x180010C + 0x8 * i
abbrev CMP_WB_HELD : Nat := 0x1800128
abbrev CMP_WB_LAST : Nat := 0x180012C
abbrev CMP_WB_SKIP_CNT : Nat := 0x1800130
abbrev CMP_OFS_ADDR_LO : Nat := 0x1800140
abbrev CMP_OFS_ADDR_HI : Nat := 0x1800144
abbrev CMP_OFS_PITCH : Nat := 0x1800148
abbrev CMP_OFS_STATUS : Nat := 0x180014C
abbrev CMP_LYR_CTRL (i : Nat) : Nat := 0x1800800 + 0x40 * i
abbrev CMP_LYR_CTRL_EN (i : Nat) : Fld := ⟨(CMP_LYR_CTRL i), 0, 0⟩
abbrev CMP_LYR_CTRL_FENCE_EN (i : Nat) : Fld := ⟨(CMP_LYR_CTRL i), 1, 1⟩
abbrev CMP_LYR_CTRL_MODE (i : Nat) : Fld := ⟨(CMP_LYR_CTRL i), 3, 2⟩
abbrev CMP_LYR_CTRL_FMT (i : Nat) : Fld := ⟨(CMP_LYR_CTRL i), 7, 4⟩
abbrev CMP_LYR_CTRL_MTX (i : Nat) : Fld := ⟨(CMP_LYR_CTRL i), 9, 8⟩
abbrev CMP_LYR_CTRL_LUT (i : Nat) : Fld := ⟨(CMP_LYR_CTRL i), 11, 10⟩
abbrev CMP_LYR_CTRL_LIN (i : Nat) : Fld := ⟨(CMP_LYR_CTRL i), 12, 12⟩
abbrev CMP_LYR_CTRL_PREMUL (i : Nat) : Fld := ⟨(CMP_LYR_CTRL i), 13, 13⟩
abbrev CMP_LYR_CTRL_KERNEL (i : Nat) : Fld := ⟨(CMP_LYR_CTRL i), 15, 14⟩
abbrev CMP_LYR_CTRL_GA (i : Nat) : Fld := ⟨(CMP_LYR_CTRL i), 26, 16⟩
abbrev CMP_LYR_ADDR_LO (i : Nat) : Nat := 0x1800804 + 0x40 * i
abbrev CMP_LYR_ADDR_HI (i : Nat) : Nat := 0x1800808 + 0x40 * i
abbrev CMP_LYR_CADDR_LO (i : Nat) : Nat := 0x180080C + 0x40 * i
abbrev CMP_LYR_CADDR_HI (i : Nat) : Nat := 0x1800810 + 0x40 * i
abbrev CMP_LYR_PITCH (i : Nat) : Nat := 0x1800814 + 0x40 * i
abbrev CMP_LYR_BUFSIZE (i : Nat) : Nat := 0x1800818 + 0x40 * i
abbrev CMP_LYR_CROP_XY (i : Nat) : Nat := 0x180081C + 0x40 * i
abbrev CMP_LYR_CROP_WH (i : Nat) : Nat := 0x1800820 + 0x40 * i
abbrev CMP_LYR_DEST_XY (i : Nat) : Nat := 0x1800824 + 0x40 * i
abbrev CMP_LYR_DEST_WH (i : Nat) : Nat := 0x1800828 + 0x40 * i
abbrev CMP_LYR_DISP (i : Nat) : Nat := 0x180082C + 0x40 * i
abbrev CMP_LYR_DMG_XY (i : Nat) : Nat := 0x1800830 + 0x40 * i
abbrev CMP_LYR_DMG_WH (i : Nat) : Nat := 0x1800834 + 0x40 * i
abbrev CMP_LYR_STATUS (i : Nat) : Nat := 0x1800838 + 0x40 * i
abbrev CMP_OVL_STATUS : Nat := 0x1840000
abbrev CMP_OVL_STATUS_ACTIVE : Fld := ⟨CMP_OVL_STATUS, 0, 0⟩
abbrev CMP_OVL_STATUS_HATCHED : Fld := ⟨CMP_OVL_STATUS, 7, 1⟩
abbrev CMP_OVL_STATUS_TILES : Fld := ⟨CMP_OVL_STATUS, 15, 8⟩
abbrev CMP_OVL_HATCH_CNT : Nat := 0x1840004
abbrev CMP_OVL_MSG_CNT : Nat := 0x1840008
abbrev CMP_OVL_BAD_CNT : Nat := 0x184000C
abbrev CMP_OVL_STATE (i : Nat) : Nat := 0x1840010 + 0x4 * i
abbrev CMP_OVL_AGE (i : Nat) : Nat := 0x1840040 + 0x4 * i

def regRowsCMP0 : List RegRow :=
  [⟨0x1810000, 0x40, 8, 0x1, 0xFF0E, 0x0, 0x0, 0x0, 0x0⟩,
   ⟨0x1810004, 0x40, 8, 0x0, 0x1FFFFF, 0x0, 0x0, 0x0, 0x0⟩,
   ⟨0x1810008, 0x40, 8, 0x0, 0x1FFFFF, 0x0, 0x0, 0x0, 0x0⟩,
   ⟨0x181000C, 0x40, 8, 0x1FFFFF, 0x0, 0x0, 0x0, 0x0, 0x0⟩,
   ⟨0x1810010, 0x40, 8, 0x1FFFFF, 0x0, 0x0, 0x0, 0x0, 0x0⟩,
   ⟨0x1810014, 0x40, 8, 0x1FFFFF, 0x0, 0x0, 0x0, 0x0, 0x0⟩,
   ⟨0x1810018, 0x40, 8, 0x0, 0x0, 0x0, 0x0, 0x33, 0x0⟩,
   ⟨0x181001C, 0x40, 8, 0x0, 0x0, 0x0, 0x0, 0x0, 0x0⟩,
   ⟨0x1810020, 0x40, 8, 0x0, 0x0, 0x0, 0x0, 0x0, 0x0⟩,
   ⟨0x1810024, 0x40, 8, 0x0, 0x0, 0x0, 0x0, 0x0, 0x0⟩,
   ⟨0x1810028, 0x40, 8, 0x0, 0x0, 0x0, 0xFFFFFFFF, 0x0, 0x0⟩,
   ⟨0x181002C, 0x40, 8, 0x0, 0x0, 0x0, 0xFFFFFFFF, 0x0, 0x0⟩,
   ⟨0x1810030, 0x40, 8, 0x0, 0x0, 0x0, 0xFFFFFFFF, 0x0, 0x0⟩,
   ⟨0x1810400, 0x0, 1, 0x0, 0x1, 0x0, 0x0, 0x0, 0x1⟩,
   ⟨0x1810404, 0x0, 1, 0x0, 0x0, 0x0, 0x0, 0x0, 0x0⟩,
   ⟨0x1810408, 0x0, 1, 0x0, 0x0, 0x0, 0x0, 0x0, 0x0⟩,
   ⟨0x181040C, 0x0, 1, 0x0, 0x0, 0x0, 0xFFFFFFFF, 0x0, 0x0⟩,
   ⟨0x1810410, 0x0, 1, 0xFFFF, 0x0, 0x0, 0x0, 0x0, 0x7D0⟩,
   ⟨0x1820000, 0x0, 1, 0x313, 0x0, 0x0, 0x0, 0x0, 0x1⟩,
   ⟨0x1820004, 0x0, 1, 0xFFFF, 0x0, 0x0, 0x0, 0x0, 0x5DC⟩]

def regRowsCMP1 : List RegRow :=
  [⟨0x1820008, 0x0, 1, 0x7FF, 0x0, 0x0, 0x0, 0x0, 0x100⟩,
   ⟨0x182000C, 0x0, 1, 0xFF, 0x0, 0x0, 0x0, 0x0, 0x1E⟩,
   ⟨0x1820010, 0x0, 1, 0xFF, 0x0, 0x0, 0x0, 0x0, 0x0⟩,
   ⟨0x1820014, 0x0, 1, 0xFFFF, 0x0, 0x0, 0x0, 0x0, 0x0⟩,
   ⟨0x1820018, 0x0, 1, 0x0, 0x0, 0x0, 0x0, 0x0, 0x0⟩,
   ⟨0x182001C, 0x0, 1, 0x0, 0x0, 0x0, 0x0, 0x0, 0x0⟩,
   ⟨0x1820020, 0x0, 1, 0x0, 0x0, 0x0, 0x0, 0x0, 0x0⟩,
   ⟨0x1820024, 0x0, 1, 0x0, 0x0, 0x0, 0x0, 0x0, 0x0⟩,
   ⟨0x1820028, 0x0, 1, 0x0, 0x0, 0x0, 0x0, 0x0, 0x0⟩,
   ⟨0x182002C, 0x0, 1, 0x0, 0x0, 0x0, 0x0, 0x0, 0x0⟩,
   ⟨0x1820030, 0x0, 1, 0x0, 0x0, 0x0, 0x0, 0x0, 0x0⟩,
   ⟨0x1820034, 0x0, 1, 0x0, 0x0, 0x0, 0x0, 0x0, 0x0⟩,
   ⟨0x1820038, 0x0, 1, 0x0, 0x0, 0x0, 0x0, 0x0, 0x0⟩,
   ⟨0x182003C, 0x0, 1, 0x0, 0x0, 0x0, 0x0, 0x0, 0x0⟩,
   ⟨0x1820040, 0x0, 1, 0x0, 0x0, 0x0, 0x0, 0x0, 0x0⟩,
   ⟨0x1820044, 0x0, 1, 0x0, 0x0, 0x0, 0xFFFFFFFF, 0x0, 0x0⟩,
   ⟨0x1820100, 0x10, 8, 0xFFFFFFFF, 0x0, 0x0, 0x0, 0x0, 0x0⟩,
   ⟨0x1820104, 0x10, 8, 0xFFFFFFFF, 0x0, 0x0, 0x0, 0x0, 0x0⟩,
   ⟨0x1820108, 0x10, 8, 0x1FFFF, 0x0, 0x0, 0x0, 0x0, 0x0⟩,
   ⟨0x182010C, 0x10, 8, 0xFFFFFFFF, 0x0, 0x0, 0x0, 0x0, 0x0⟩]

def regRowsCMP2 : List RegRow :=
  [⟨0x1830000, 0x0, 1, 0xFF3, 0x0, 0x0, 0x0, 0x0, 0x320⟩,
   ⟨0x1830004, 0x0, 1, 0x0, 0x7, 0x0, 0x0, 0x0, 0x0⟩,
   ⟨0x1830008, 0x0, 1, 0xFFFFFFFF, 0x0, 0x0, 0x0, 0x0, 0xFE502A⟩,
   ⟨0x183000C, 0x0, 1, 0xFFFF, 0x0, 0x0, 0x0, 0x0, 0xAAAB⟩,
   ⟨0x1830010, 0x0, 1, 0xFFFFFFFF, 0x0, 0x0, 0x0, 0x0, 0x0⟩,
   ⟨0x1830014, 0x0, 1, 0xFFFFFFFF, 0x0, 0x0, 0x0, 0x0, 0x0⟩,
   ⟨0x1830018, 0x0, 1, 0xFFFFFFFF, 0x0, 0x0, 0x0, 0x0, 0xF4240⟩,
   ⟨0x183001C, 0x0, 1, 0x0, 0x0, 0x0, 0x0, 0x0, 0x0⟩,
   ⟨0x1830020, 0x0, 1, 0x0, 0x0, 0x0, 0x0, 0x0, 0x0⟩,
   ⟨0x1830024, 0x0, 1, 0x1, 0x0, 0x0, 0x0, 0x0, 0x0⟩,
   ⟨0x1830028, 0x0, 1, 0x0, 0x0, 0x0, 0x0, 0xFFFFFFFF, 0x0⟩,
   ⟨0x183002C, 0x0, 1, 0x0, 0x0, 0x0, 0x0, 0x0, 0x0⟩,
   ⟨0x1830030, 0x0, 1, 0x0, 0x0, 0x0, 0x0, 0x0, 0x0⟩,
   ⟨0x1830034, 0x0, 1, 0x0, 0x0, 0x0, 0x0, 0x0, 0x0⟩,
   ⟨0x1830038, 0x0, 1, 0x0, 0x0, 0x0, 0x0, 0x0, 0x0⟩,
   ⟨0x183003C, 0x0, 1, 0x0, 0x0, 0x0, 0xFFFFFFFF, 0x0, 0x0⟩,
   ⟨0x1830040, 0x0, 1, 0x0, 0x0, 0x0, 0xFFFFFFFF, 0x0, 0x0⟩,
   ⟨0x1830044, 0x0, 1, 0x0, 0x0, 0x0, 0xFFFFFFFF, 0x0, 0x0⟩,
   ⟨0x1830048, 0x0, 1, 0x0, 0x0, 0x0, 0x0, 0x0, 0x0⟩,
   ⟨0x183004C, 0x0, 1, 0x0, 0x0, 0x0, 0x0, 0x0, 0x0⟩]

def regRowsCMP3 : List RegRow :=
  [⟨0x1830050, 0x0, 1, 0x0, 0x0, 0x0, 0xFFFFFFFF, 0x0, 0x0⟩,
   ⟨0x1830054, 0x0, 1, 0xFFFFFFFF, 0x0, 0x0, 0x0, 0x0, 0x0⟩,
   ⟨0x1830058, 0x0, 1, 0xF, 0x0, 0x0, 0x0, 0x0, 0x0⟩,
   ⟨0x1800000, 0x0, 1, 0x0, 0x0, 0x0, 0x0, 0x0, 0x10000⟩,
   ⟨0x1800004, 0x0, 1, 0x0, 0x0, 0x0, 0x0, 0x1FFFF, 0x0⟩,
   ⟨0x1800008, 0x0, 1, 0x0, 0x0, 0x0, 0x0, 0x0, 0x0⟩,
   ⟨0x180000C, 0x0, 1, 0x0, 0x0, 0x0, 0x0, 0x0, 0x1F00⟩,
   ⟨0x1800010, 0x0, 1, 0xFFFF, 0x0, 0x0, 0x0, 0x0, 0xFF00⟩,
   ⟨0x1800014, 0x0, 1, 0xFFFFFFFF, 0x0, 0x0, 0x0, 0x0, 0x7F2815⟩,
   ⟨0x1800018, 0x0, 1, 0xFFFFFFFF, 0x0, 0x0, 0x0, 0x0, 0x13DE435⟩,
   ⟨0x180001C, 0x0, 1, 0x0, 0x0, 0x0, 0x0, 0x0, 0x0⟩,
   ⟨0x1800020, 0x0, 1, 0x0, 0x0, 0x0, 0x0, 0x0, 0x0⟩,
   ⟨0x1800024, 0x0, 1, 0x0, 0x0, 0x0, 0x0, 0x0, 0x0⟩,
   ⟨0x1800028, 0x0, 1, 0x0, 0x0, 0x0, 0xFFFFFFFF, 0x0, 0x0⟩,
   ⟨0x180002C, 0x0, 1, 0x0, 0x0, 0x0, 0xFFFFFFFF, 0x0, 0x0⟩,
   ⟨0x1800030, 0x0, 1, 0x0, 0x0, 0x0, 0xFFFFFFFF, 0x0, 0x0⟩,
   ⟨0x1800034, 0x0, 1, 0x0, 0x0, 0x0, 0xFFFFFFFF, 0x0, 0x0⟩,
   ⟨0x1800038, 0x0, 1, 0x0, 0x0, 0x0, 0xFFFFFFFF, 0x0, 0x0⟩,
   ⟨0x180003C, 0x0, 1, 0x0, 0x0, 0x0, 0xFFFFFFFF, 0x0, 0x0⟩,
   ⟨0x1800040, 0x0, 1, 0x0, 0x0, 0x0, 0x0, 0xFFFFFF, 0x0⟩]

def regRowsCMP4 : List RegRow :=
  [⟨0x1800044, 0x0, 1, 0x0, 0x0, 0x0, 0x0, 0x0, 0x0⟩,
   ⟨0x1800048, 0x0, 1, 0x0, 0x0, 0x0, 0x0, 0x0, 0x0⟩,
   ⟨0x180004C, 0x0, 1, 0x0, 0x0, 0x0, 0x0, 0x0, 0x0⟩,
   ⟨0x1800050, 0x0, 1, 0x0, 0x1FFFFF, 0x0, 0x0, 0x0, 0x0⟩,
   ⟨0x1800054, 0x0, 1, 0x0, 0x1FFFFF, 0x0, 0x0, 0x0, 0x0⟩,
   ⟨0x1800058, 0x0, 1, 0x0, 0x0, 0x0, 0x0, 0x0, 0x0⟩,
   ⟨0x180005C, 0x0, 1, 0x0, 0x0, 0x0, 0x0, 0x0, 0x0⟩,
   ⟨0x1800060, 0x0, 1, 0x0, 0x0, 0x0, 0x0, 0x0, 0x0⟩,
   ⟨0x1800064, 0x0, 1, 0x0, 0x0, 0x0, 0x0, 0x0, 0x0⟩,
   ⟨0x1800100, 0x0, 1, 0x3FF01, 0x0, 0x0, 0x0, 0x0, 0x4E00⟩,
   ⟨0x1800104, 0x0, 1, 0xFFFFFFFF, 0x0, 0x0, 0x0, 0x0, 0x0⟩,
   ⟨0x1800108, 0x8, 4, 0xFFFFFFFF, 0x0, 0x0, 0x0, 0x0, 0x0⟩,
   ⟨0x180010C, 0x8, 4, 0xF, 0x0, 0x0, 0x0, 0x0, 0x0⟩,
   ⟨0x1800128, 0x0, 1, 0x0, 0x0, 0xF, 0x0, 0x0, 0x0⟩,
   ⟨0x180012C, 0x0, 1, 0x0, 0x0, 0x0, 0x0, 0x0, 0x0⟩,
   ⟨0x1800130, 0x0, 1, 0x0, 0x0, 0x0, 0xFFFFFFFF, 0x0, 0x0⟩,
   ⟨0x1800140, 0x0, 1, 0xFFFFFFFF, 0x0, 0x0, 0x0, 0x0, 0x0⟩,
   ⟨0x1800144, 0x0, 1, 0xF, 0x0, 0x0, 0x0, 0x0, 0x0⟩,
   ⟨0x1800148, 0x0, 1, 0xFFFFFFFF, 0x0, 0x0, 0x0, 0x0, 0x0⟩,
   ⟨0x180014C, 0x0, 1, 0x0, 0x0, 0x0, 0x0, 0x0, 0x0⟩]

def regRowsCMP5 : List RegRow :=
  [⟨0x1800800, 0x40, 24, 0x7FFFFFF, 0x0, 0x0, 0x0, 0x0, 0x4000004⟩,
   ⟨0x1800804, 0x40, 24, 0xFFFFFFFF, 0x0, 0x0, 0x0, 0x0, 0x0⟩,
   ⟨0x1800808, 0x40, 24, 0xF, 0x0, 0x0, 0x0, 0x0, 0x0⟩,
   ⟨0x180080C, 0x40, 24, 0xFFFFFFFF, 0x0, 0x0, 0x0, 0x0, 0x0⟩,
   ⟨0x1800810, 0x40, 24, 0xF, 0x0, 0x0, 0x0, 0x0, 0x0⟩,
   ⟨0x1800814, 0x40, 24, 0xFFFFFFFF, 0x0, 0x0, 0x0, 0x0, 0x0⟩,
   ⟨0x1800818, 0x40, 24, 0x3FFF3FFF, 0x0, 0x0, 0x0, 0x0, 0x0⟩,
   ⟨0x180081C, 0x40, 24, 0x3FFF3FFF, 0x0, 0x0, 0x0, 0x0, 0x0⟩,
   ⟨0x1800820, 0x40, 24, 0x3FFF3FFF, 0x0, 0x0, 0x0, 0x0, 0x0⟩,
   ⟨0x1800824, 0x40, 24, 0xFFFFFFFF, 0x0, 0x0, 0x0, 0x0, 0x0⟩,
   ⟨0x1800828, 0x40, 24, 0x7FF0FFF, 0x0, 0x0, 0x0, 0x0, 0x0⟩,
   ⟨0x180082C, 0x40, 24, 0xFFFF, 0x0, 0x0, 0x0, 0x0, 0x0⟩,
   ⟨0x1800830, 0x40, 24, 0x3FFF3FFF, 0x0, 0x0, 0x0, 0x0, 0x0⟩,
   ⟨0x1800834, 0x40, 24, 0x3FFF3FFF, 0x0, 0x0, 0x0, 0x0, 0x0⟩,
   ⟨0x1800838, 0x40, 24, 0x0, 0x0, 0x0, 0x0, 0x0, 0x0⟩,
   ⟨0x1840000, 0x0, 1, 0x0, 0x0, 0x0, 0x0, 0x0, 0x0⟩,
   ⟨0x1840004, 0x0, 1, 0x0, 0x0, 0x0, 0xFFFFFFFF, 0x0, 0x0⟩,
   ⟨0x1840008, 0x0, 1, 0x0, 0x0, 0x0, 0xFFFFFFFF, 0x0, 0x0⟩,
   ⟨0x184000C, 0x0, 1, 0x0, 0x0, 0x0, 0xFFFFFFFF, 0x0, 0x0⟩,
   ⟨0x1840010, 0x4, 8, 0x0, 0x0, 0x0, 0x0, 0x0, 0x0⟩]

def regRowsCMP6 : List RegRow :=
  [⟨0x1840040, 0x4, 16, 0x0, 0x0, 0x0, 0x0, 0x0, 0xFFFFFF⟩]

/-- The register rows of block CMP. -/
def regRowsCMP : List RegRow :=
  regRowsCMP0 ++ regRowsCMP1 ++ regRowsCMP2 ++ regRowsCMP3 ++ regRowsCMP4 ++ regRowsCMP5 ++ regRowsCMP6

/-! ## SPL (spec/08_panel_link.md) -/

abbrev SPL_VERSION : Nat := 0x1A00000
abbrev SPL_CTRL : Nat := 0x1A00004
abbrev SPL_CTRL_EN : Fld := ⟨SPL_CTRL, 0, 0⟩
abbrev SPL_CTRL_GROUP_EN : Fld := ⟨SPL_CTRL, 13, 8⟩
abbrev SPL_STATUS : Nat := 0x1A00008
abbrev SPL_STATUS_FRAME_ACTIVE : Fld := ⟨SPL_STATUS, 0, 0⟩
abbrev SPL_STATUS_HOLD : Fld := ⟨SPL_STATUS, 1, 1⟩
abbrev SPL_STATUS_WINDOW : Fld := ⟨SPL_STATUS, 7, 2⟩
abbrev SPL_STATUS_ROLE : Fld := ⟨SPL_STATUS, 8, 8⟩
abbrev SPL_DEADLINE_NS : Nat := 0x1A0000C
abbrev SPL_FLIP_DELAY : Nat := 0x1A00010
abbrev SPL_RETRY_MAX : Nat := 0x1A00014
abbrev SPL_EYE_MIN : Nat := 0x1A00018
abbrev SPL_HOLD : Nat := 0x1A0001C
abbrev SPL_RESTORE : Nat := 0x1A00020
abbrev SPL_FRAME_CNT : Nat := 0x1A00024
abbrev SPL_ATTEMPT : Nat := 0x1A00028
abbrev SPL_FLIP_NS : Nat := 0x1A0002C
abbrev SPL_FLIP_SEC_LO : Nat := 0x1A00030
abbrev SPL_FLIP_SEC_HI : Nat := 0x1A00034
abbrev SPL_ABORT_CNT : Nat := 0x1A00038
abbrev SPL_ABORT_CAUSE : Nat := 0x1A0003C
abbrev SPL_QUEUE : Nat := 0x1A00040
abbrev SPL_SUPERSEDED_CNT : Nat := 0x1A00044
abbrev SPL_RETRY_CNT : Nat := 0x1A00048
abbrev SPL_DROP_CNT : Nat := 0x1A0004C
abbrev SPL_TRICKLE_LOSS_CNT : Nat := 0x1A00050
abbrev SPL_SWITCH_CNT : Nat := 0x1A00054
abbrev SPL_G_STATE (i : Nat) : Nat := 0x1A00100 + 0x40 * i
abbrev SPL_G_STATE_STATE (i : Nat) : Fld := ⟨(SPL_G_STATE i), 2, 0⟩
abbrev SPL_G_STATE_FAST (i : Nat) : Fld := ⟨(SPL_G_STATE i), 3, 3⟩
abbrev SPL_G_STATE_CAUSE (i : Nat) : Fld := ⟨(SPL_G_STATE i), 7, 4⟩
abbrev SPL_G_CMD (i : Nat) : Nat := 0x1A00104 + 0x40 * i
abbrev SPL_G_LANES (i : Nat) : Nat := 0x1A00108 + 0x40 * i
abbrev SPL_G_EYE (i : Nat) : Nat := 0x1A0010C + 0x40 * i
abbrev SPL_G_LPBK (i : Nat) : Nat := 0x1A00110 + 0x40 * i
abbrev SPL_G_PRBS_ERR (i : Nat) : Nat := 0x1A00114 + 0x40 * i
abbrev SPL_G_TRAIN_CNT (i : Nat) : Nat := 0x1A00118 + 0x40 * i
abbrev SPL_G_PKT_CNT (i : Nat) : Nat := 0x1A0011C + 0x40 * i
abbrev SPL_G_CHAIN (i : Nat) : Nat := 0x1A00120 + 0x40 * i
abbrev SPL_T_STATUS (i : Nat) : Nat := 0x1A00400 + 0x10 * i
abbrev SPL_T_STATUS_PRESENT (i : Nat) : Fld := ⟨(SPL_T_STATUS i), 0, 0⟩
abbrev SPL_T_STATUS_HERE (i : Nat) : Fld := ⟨(SPL_T_STATUS i), 1, 1⟩
abbrev SPL_T_STATUS_CONTENT_VALID (i : Nat) : Fld := ⟨(SPL_T_STATUS i), 2, 2⟩
abbrev SPL_T_STATUS_HOLDING (i : Nat) : Fld := ⟨(SPL_T_STATUS i), 3, 3⟩
abbrev SPL_T_STATUS_EXCLUDED (i : Nat) : Fld := ⟨(SPL_T_STATUS i), 4, 4⟩
abbrev SPL_T_STATUS_RESTORE_PENDING (i : Nat) : Fld := ⟨(SPL_T_STATUS i), 5, 5⟩
abbrev SPL_T_PROG_FRAME (i : Nat) : Nat := 0x1A00404 + 0x10 * i
abbrev SPL_T_PROG_PIECE (i : Nat) : Nat := 0x1A00408 + 0x10 * i
abbrev SPL_T_ERR_CNT (i : Nat) : Nat := 0x1A0040C + 0x10 * i

def regRowsSPL0 : List RegRow :=
  [⟨0x1A00000, 0x0, 1, 0x0, 0x0, 0x0, 0x0, 0x0, 0x10000⟩,
   ⟨0x1A00004, 0x0, 1, 0x1, 0x3F00, 0x0, 0x0, 0x0, 0x3F00⟩,
   ⟨0x1A00008, 0x0, 1, 0x0, 0x0, 0x0, 0x0, 0x0, 0x0⟩,
   ⟨0x1A0000C, 0x0, 1, 0xFFFFFFFF, 0x0, 0x0, 0x0, 0x0, 0x0⟩,
   ⟨0x1A00010, 0x0, 1, 0xFFFF, 0x0, 0x0, 0x0, 0x0, 0x2710⟩,
   ⟨0x1A00014, 0x0, 1, 0xF, 0x0, 0x0, 0x0, 0x0, 0x2⟩,
   ⟨0x1A00018, 0x0, 1, 0xFF, 0x0, 0x0, 0x0, 0x0, 0x40⟩,
   ⟨0x1A0001C, 0x0, 1, 0xFF01, 0x0, 0x0, 0x0, 0x0, 0xFF00⟩,
   ⟨0x1A00020, 0x0, 1, 0x0, 0x0, 0x0, 0x0, 0xFFFFFFFF, 0x0⟩,
   ⟨0x1A00024, 0x0, 1, 0x0, 0x0, 0x0, 0x0, 0x0, 0x0⟩,
   ⟨0x1A00028, 0x0, 1, 0x0, 0x0, 0x0, 0x0, 0x0, 0x0⟩,
   ⟨0x1A0002C, 0x0, 1, 0x0, 0x0, 0x0, 0x0, 0x0, 0x0⟩,
   ⟨0x1A00030, 0x0, 1, 0x0, 0x0, 0x0, 0x0, 0x0, 0x0⟩,
   ⟨0x1A00034, 0x0, 1, 0x0, 0x0, 0x0, 0x0, 0x0, 0x0⟩,
   ⟨0x1A00038, 0x0, 1, 0x0, 0x0, 0x0, 0xFFFFFFFF, 0x0, 0x0⟩,
   ⟨0x1A0003C, 0x0, 1, 0x0, 0x0, 0x0, 0x0, 0x0, 0x0⟩,
   ⟨0x1A00040, 0x0, 1, 0x0, 0x0, 0x0, 0x0, 0x0, 0x0⟩,
   ⟨0x1A00044, 0x0, 1, 0x0, 0x0, 0x0, 0xFFFFFFFF, 0x0, 0x0⟩,
   ⟨0x1A00048, 0x0, 1, 0x0, 0x0, 0x0, 0xFFFFFFFF, 0x0, 0x0⟩,
   ⟨0x1A0004C, 0x0, 1, 0x0, 0x0, 0x0, 0xFFFFFFFF, 0x0, 0x0⟩]

def regRowsSPL1 : List RegRow :=
  [⟨0x1A00050, 0x0, 1, 0x0, 0x0, 0x0, 0xFFFFFFFF, 0x0, 0x0⟩,
   ⟨0x1A00054, 0x0, 1, 0x0, 0x0, 0x0, 0xFFFFFFFF, 0x0, 0x0⟩,
   ⟨0x1A00100, 0x40, 6, 0x0, 0x0, 0x0, 0x0, 0x0, 0x0⟩,
   ⟨0x1A00104, 0x40, 6, 0x0, 0x0, 0x0, 0x0, 0xFFFFFFFF, 0x0⟩,
   ⟨0x1A00108, 0x40, 6, 0x0, 0x0, 0x0, 0x0, 0x0, 0x0⟩,
   ⟨0x1A0010C, 0x40, 6, 0x0, 0x0, 0x0, 0x0, 0x0, 0x0⟩,
   ⟨0x1A00110, 0x40, 6, 0x3, 0x0, 0x0, 0x0, 0x0, 0x0⟩,
   ⟨0x1A00114, 0x40, 6, 0x0, 0x0, 0x0, 0xFFFFFFFF, 0x0, 0x0⟩,
   ⟨0x1A00118, 0x40, 6, 0x0, 0x0, 0x0, 0xFFFFFFFF, 0x0, 0x0⟩,
   ⟨0x1A0011C, 0x40, 6, 0x0, 0x0, 0x0, 0xFFFFFFFF, 0x0, 0x0⟩,
   ⟨0x1A00120, 0x40, 6, 0x0, 0x0, 0x0, 0x0, 0x0, 0x0⟩,
   ⟨0x1A00400, 0x10, 48, 0x0, 0x0, 0x0, 0x0, 0x0, 0x0⟩,
   ⟨0x1A00404, 0x10, 48, 0x0, 0x0, 0x0, 0x0, 0x0, 0x0⟩,
   ⟨0x1A00408, 0x10, 48, 0x0, 0x0, 0x0, 0x0, 0x0, 0x0⟩,
   ⟨0x1A0040C, 0x10, 48, 0x0, 0x0, 0x0, 0xFFFFFFFF, 0x0, 0x0⟩]

/-- The register rows of block SPL. -/
def regRowsSPL : List RegRow :=
  regRowsSPL0 ++ regRowsSPL1

/-! ## AUX (spec/08_panel_link.md) -/

abbrev AUX_VERSION : Nat := 0x1C00000
abbrev AUX_CFG : Nat := 0x1C00004
abbrev AUX_STATUS : Nat := 0x1C00008
abbrev AUX_H : Nat := 0x1C0000C
abbrev AUX_HS : Nat := 0x1C00010
abbrev AUX_V : Nat := 0x1C00014
abbrev AUX_VS : Nat := 0x1C00018
abbrev AUX_PCLK : Nat := 0x1C0001C
abbrev AUX_ORIGIN : Nat := 0x1C00020
abbrev AUX_CMD : Nat := 0x1C00024
abbrev AUX_FRAME : Nat := 0x1C00028
abbrev AUX_UNDERRUN_CNT : Nat := 0x1C0002C
abbrev AUX_SKIP_CNT : Nat := 0x1C00030
abbrev AUX_CLONE_LO : Nat := 0x1C00034
abbrev AUX_CLONE_HI : Nat := 0x1C00038
abbrev AUX_SDP_OUI : Nat := 0x1C0003C
abbrev AUX_CH_ADDR : Nat := 0x1C00040
abbrev AUX_CH_CMD : Nat := 0x1C00044
abbrev AUX_CH_DATA (i : Nat) : Nat := 0x1C00048 + 0x4 * i
abbrev AUX_CH_STATUS : Nat := 0x1C00058
abbrev AUX_LUT (i : Nat) : Nat := 0x1C10000 + 0x4 * i

def regRowsAUX0 : List RegRow :=
  [⟨0x1C00000, 0x0, 1, 0x0, 0x0, 0x0, 0x0, 0x0, 0x10000⟩,
   ⟨0x1C00004, 0x0, 1, 0x7FF03, 0x0, 0x0, 0x0, 0x0, 0x14E00⟩,
   ⟨0x1C00008, 0x0, 1, 0x0, 0x0, 0x0, 0x0, 0x0, 0x0⟩,
   ⟨0x1C0000C, 0x0, 1, 0x3FFF3FFF, 0x0, 0x0, 0x0, 0x0, 0x0⟩,
   ⟨0x1C00010, 0x0, 1, 0xBFFF3FFF, 0x0, 0x0, 0x0, 0x0, 0x0⟩,
   ⟨0x1C00014, 0x0, 1, 0x3FFF3FFF, 0x0, 0x0, 0x0, 0x0, 0x0⟩,
   ⟨0x1C00018, 0x0, 1, 0xBFFF3FFF, 0x0, 0x0, 0x0, 0x0, 0x0⟩,
   ⟨0x1C0001C, 0x0, 1, 0xFFFFF, 0x0, 0x0, 0x0, 0x0, 0x0⟩,
   ⟨0x1C00020, 0x0, 1, 0x3FFF3FFF, 0x0, 0x0, 0x0, 0x0, 0x0⟩,
   ⟨0x1C00024, 0x0, 1, 0x0, 0x0, 0x0, 0x0, 0xFFFFFFFF, 0x0⟩,
   ⟨0x1C00028, 0x0, 1, 0x0, 0x0, 0x0, 0x0, 0x0, 0x0⟩,
   ⟨0x1C0002C, 0x0, 1, 0x0, 0x0, 0x0, 0xFFFFFFFF, 0x0, 0x0⟩,
   ⟨0x1C00030, 0x0, 1, 0x0, 0x0, 0x0, 0xFFFFFFFF, 0x0, 0x0⟩,
   ⟨0x1C00034, 0x0, 1, 0x0, 0x0, 0x0, 0x0, 0x0, 0x0⟩,
   ⟨0x1C00038, 0x0, 1, 0x0, 0x0, 0x0, 0x0, 0x0, 0x0⟩,
   ⟨0x1C0003C, 0x0, 1, 0xFFFFFF, 0x0, 0x0, 0x0, 0x0, 0x0⟩,
   ⟨0x1C00040, 0x0, 1, 0xFFFFF, 0x0, 0x0, 0x0, 0x0, 0x0⟩,
   ⟨0x1C00044, 0x0, 1, 0x0, 0x0, 0x0, 0x0, 0xFFFFFFFF, 0x0⟩,
   ⟨0x1C00048, 0x4, 4, 0xFFFFFFFF, 0x0, 0x0, 0x0, 0x0, 0x0⟩,
   ⟨0x1C00058, 0x0, 1, 0x0, 0x0, 0x0, 0x0, 0x0, 0x0⟩]

def regRowsAUX1 : List RegRow :=
  [⟨0x1C10000, 0x4, 4096, 0x3FF, 0x0, 0x0, 0x0, 0x0, 0x0⟩]

/-- The register rows of block AUX. -/
def regRowsAUX : List RegRow :=
  regRowsAUX0 ++ regRowsAUX1

/-! ## VDEC (spec/10_video_codec.md) -/

abbrev VDEC_VERSION : Nat := 0x2000000
abbrev VDEC_CTRL : Nat := 0x2000004
abbrev VDEC_CORE_STATUS : Nat := 0x2000008
abbrev VDEC_CORE_BUSY (i : Nat) : Nat := 0x2000010 + 0x4 * i
abbrev VDEC_POOL_BASE : Nat := 0x2000020
abbrev VDEC_POOL_PAGES : Nat := 0x2000024
abbrev VDEC_POOL_FREE : Nat := 0x2000028
abbrev VDEC_CPL_LO : Nat := 0x200002C
abbrev VDEC_CPL_HI : Nat := 0x2000030
abbrev VDEC_CTX_CFG (i : Nat) : Nat := 0x2001000 + 0x40 * i
abbrev VDEC_CTX_CFG_EN (i : Nat) : Fld := ⟨(VDEC_CTX_CFG i), 0, 0⟩
abbrev VDEC_CTX_CFG_CODEC (i : Nat) : Fld := ⟨(VDEC_CTX_CFG i), 1, 1⟩
abbrev VDEC_CTX_CFG_ANNEXB (i : Nat) : Fld := ⟨(VDEC_CTX_CFG i), 2, 2⟩
abbrev VDEC_CTX_CFG_SRC (i : Nat) : Fld := ⟨(VDEC_CTX_CFG i), 3, 3⟩
abbrev VDEC_CTX_CFG_CORE (i : Nat) : Fld := ⟨(VDEC_CTX_CFG i), 6, 4⟩
abbrev VDEC_CTX_CFG_HASH_CHK (i : Nat) : Fld := ⟨(VDEC_CTX_CFG i), 7, 7⟩
abbrev VDEC_CTX_CFG_KEEP (i : Nat) : Fld := ⟨(VDEC_CTX_CFG i), 11, 8⟩
abbrev VDEC_CTX_MAXSIZE (i : Nat) : Nat := 0x2001004 + 0x40 * i
abbrev VDEC_CTX_REF_BASE (i : Nat) : Nat := 0x2001008 + 0x40 * i
abbrev VDEC_CTX_REF_PAGES (i : Nat) : Nat := 0x200100C + 0x40 * i
abbrev VDEC_CTX_RING_BASE (i : Nat) : Nat := 0x2001010 + 0x40 * i
abbrev VDEC_CTX_RING_CFG (i : Nat) : Nat := 0x2001014 + 0x40 * i
abbrev VDEC_CTX_PUT (i : Nat) : Nat := 0x2001018 + 0x40 * i
abbrev VDEC_CTX_GET (i : Nat) : Nat := 0x200101C + 0x40 * i
abbrev VDEC_CTX_CMD (i : Nat) : Nat := 0x2001020 + 0x40 * i
abbrev VDEC_CTX_STATUS (i : Nat) : Nat := 0x2001024 + 0x40 * i
abbrev VDEC_CTX_STATUS_STATE (i : Nat) : Fld := ⟨(VDEC_CTX_STATUS i), 1, 0⟩
abbrev VDEC_CTX_STATUS_CONCEALING (i : Nat) : Fld := ⟨(VDEC_CTX_STATUS i), 2, 2⟩
abbrev VDEC_CTX_STATUS_POOL_WAIT (i : Nat) : Fld := ⟨(VDEC_CTX_STATUS i), 3, 3⟩
abbrev VDEC_CTX_STATUS_ERR (i : Nat) : Fld := ⟨(VDEC_CTX_STATUS i), 15, 8⟩
abbrev VDEC_CTX_CPL_WR (i : Nat) : Nat := 0x2001028 + 0x40 * i
abbrev VDEC_CTX_PIC_CNT (i : Nat) : Nat := 0x200102C + 0x40 * i
abbrev VDEC_CTX_CONCEAL_CNT (i : Nat) : Nat := 0x2001030 + 0x40 * i
abbrev VDEC_CTX_DROP_CNT (i : Nat) : Nat := 0x2001034 + 0x40 * i
abbrev VDEC_CTX_ERR_CNT (i : Nat) : Nat := 0x2001038 + 0x40 * i
abbrev VDEC_CTX_CPL_RD (i : Nat) : Nat := 0x200103C + 0x40 * i

def regRowsVDEC0 : List RegRow :=
  [⟨0x2000000, 0x0, 1, 0x0, 0x0, 0x0, 0x0, 0x0, 0x10000⟩,
   ⟨0x2000004, 0x0, 1, 0x1, 0x0, 0x0, 0x0, 0x0, 0x0⟩,
   ⟨0x2000008, 0x0, 1, 0x0, 0x0, 0x0, 0x0, 0x0, 0x0⟩,
   ⟨0x2000010, 0x4, 4, 0x0, 0x0, 0x0, 0xFFFFFFFF, 0x0, 0x0⟩,
   ⟨0x2000020, 0x0, 1, 0x0, 0xFFFFF, 0x0, 0x0, 0x0, 0x0⟩,
   ⟨0x2000024, 0x0, 1, 0x0, 0xFFFF, 0x0, 0x0, 0x0, 0x0⟩,
   ⟨0x2000028, 0x0, 1, 0x0, 0x0, 0x0, 0x0, 0x0, 0x0⟩,
   ⟨0x200002C, 0x0, 1, 0x0, 0x0, 0x0, 0x0, 0x0, 0x0⟩,
   ⟨0x2000030, 0x0, 1, 0x0, 0x0, 0x0, 0x0, 0x0, 0x0⟩,
   ⟨0x2001000, 0x40, 64, 0xFF7, 0x8, 0x0, 0x0, 0x0, 0x240⟩,
   ⟨0x2001004, 0x40, 64, 0x1FFF1FFF, 0x0, 0x0, 0x0, 0x0, 0x0⟩,
   ⟨0x2001008, 0x40, 64, 0xFFFFF, 0x0, 0x0, 0x0, 0x0, 0x0⟩,
   ⟨0x200100C, 0x40, 64, 0xFFFF, 0x0, 0x0, 0x0, 0x0, 0x0⟩,
   ⟨0x2001010, 0x40, 64, 0xFFFFF, 0x0, 0x0, 0x0, 0x0, 0x0⟩,
   ⟨0x2001014, 0x40, 64, 0xFFFFFFF, 0x0, 0x0, 0x0, 0x0, 0x0⟩,
   ⟨0x2001018, 0x40, 64, 0xFFF, 0x0, 0x0, 0x0, 0x0, 0x0⟩,
   ⟨0x200101C, 0x40, 64, 0x0, 0x0, 0x0, 0x0, 0x0, 0x0⟩,
   ⟨0x2001020, 0x40, 64, 0x0, 0x0, 0x0, 0x0, 0xFFFFFFFF, 0x0⟩,
   ⟨0x2001024, 0x40, 64, 0x0, 0x0, 0x0, 0x0, 0x0, 0x0⟩,
   ⟨0x2001028, 0x40, 64, 0x0, 0x0, 0x0, 0x0, 0x0, 0x0⟩]

def regRowsVDEC1 : List RegRow :=
  [⟨0x200102C, 0x40, 64, 0x0, 0x0, 0x0, 0xFFFFFFFF, 0x0, 0x0⟩,
   ⟨0x2001030, 0x40, 64, 0x0, 0x0, 0x0, 0xFFFFFFFF, 0x0, 0x0⟩,
   ⟨0x2001034, 0x40, 64, 0x0, 0x0, 0x0, 0xFFFFFFFF, 0x0, 0x0⟩,
   ⟨0x2001038, 0x40, 64, 0x0, 0x0, 0x0, 0xFFFFFFFF, 0x0, 0x0⟩,
   ⟨0x200103C, 0x40, 64, 0xFFFFFFFF, 0x0, 0x0, 0x0, 0x0, 0x0⟩]

/-- The register rows of block VDEC. -/
def regRowsVDEC : List RegRow :=
  regRowsVDEC0 ++ regRowsVDEC1

/-! ## VENC (spec/10_video_codec.md) -/

abbrev VENC_VERSION : Nat := 0x2200000
abbrev VENC_CTRL : Nat := 0x2200004
abbrev VENC_CORE_STATUS : Nat := 0x2200008
abbrev VENC_CSC0 : Nat := 0x2200010
abbrev VENC_CSC1 : Nat := 0x2200014
abbrev VENC_CSC2 : Nat := 0x2200018
abbrev VENC_CSC3 : Nat := 0x220001C
abbrev VENC_CSC4 : Nat := 0x2200020
abbrev VENC_CSC5 : Nat := 0x2200024
abbrev VENC_CPL_LO : Nat := 0x2200028
abbrev VENC_CPL_HI : Nat := 0x220002C
abbrev VENC_CTX_CFG (i : Nat) : Nat := 0x2201000 + 0x80 * i
abbrev VENC_CTX_CFG_EN (i : Nat) : Fld := ⟨(VENC_CTX_CFG i), 0, 0⟩
abbrev VENC_CTX_CFG_CORE (i : Nat) : Fld := ⟨(VENC_CTX_CFG i), 2, 1⟩
abbrev VENC_CTX_CFG_RC_MODE (i : Nat) : Fld := ⟨(VENC_CTX_CFG i), 5, 4⟩
abbrev VENC_CTX_CFG_HRD_SEI (i : Nat) : Fld := ⟨(VENC_CTX_CFG i), 6, 6⟩
abbrev VENC_CTX_CFG_RANK5 (i : Nat) : Fld := ⟨(VENC_CTX_CFG i), 7, 7⟩
abbrev VENC_CTX_CFG_ROT (i : Nat) : Fld := ⟨(VENC_CTX_CFG i), 9, 8⟩
abbrev VENC_CTX_CFG_MIRROR (i : Nat) : Fld := ⟨(VENC_CTX_CFG i), 10, 10⟩
abbrev VENC_CTX_SIZE (i : Nat) : Nat := 0x2201004 + 0x80 * i
abbrev VENC_CTX_CROP_XY (i : Nat) : Nat := 0x2201008 + 0x80 * i
abbrev VENC_CTX_CROP_WH (i : Nat) : Nat := 0x220100C + 0x80 * i
abbrev VENC_CTX_PERIOD_NS (i : Nat) : Nat := 0x2201010 + 0x80 * i
abbrev VENC_CTX_PHASE_NS (i : Nat) : Nat := 0x2201014 + 0x80 * i
abbrev VENC_CTX_BITRATE (i : Nat) : Nat := 0x2201018 + 0x80 * i
abbrev VENC_CTX_CPB (i : Nat) : Nat := 0x220101C + 0x80 * i
abbrev VENC_CTX_QP (i : Nat) : Nat := 0x2201020 + 0x80 * i
abbrev VENC_CTX_GOP (i : Nat) : Nat := 0x2201024 + 0x80 * i
abbrev VENC_CTX_IN_BASE (i : Nat) : Nat := 0x2201028 + 0x80 * i
abbrev VENC_CTX_IN_CFG (i : Nat) : Nat := 0x220102C + 0x80 * i
abbrev VENC_CTX_IN_PUT (i : Nat) : Nat := 0x2201030 + 0x80 * i
abbrev VENC_CTX_IN_GET (i : Nat) : Nat := 0x2201034 + 0x80 * i
abbrev VENC_CTX_OUT_BASE (i : Nat) : Nat := 0x2201038 + 0x80 * i
abbrev VENC_CTX_OUT_CFG (i : Nat) : Nat := 0x220103C + 0x80 * i
abbrev VENC_CTX_OUT_PUT (i : Nat) : Nat := 0x2201040 + 0x80 * i
abbrev VENC_CTX_OUT_GET (i : Nat) : Nat := 0x2201044 + 0x80 * i
abbrev VENC_CTX_REF_BASE (i : Nat) : Nat := 0x2201048 + 0x80 * i
abbrev VENC_CTX_REF_PAGES (i : Nat) : Nat := 0x220104C + 0x80 * i
abbrev VENC_CTX_STATUS (i : Nat) : Nat := 0x2201050 + 0x80 * i
abbrev VENC_CTX_CPL_WR (i : Nat) : Nat := 0x2201054 + 0x80 * i
abbrev VENC_CTX_CPL_RD (i : Nat) : Nat := 0x2201058 + 0x80 * i
abbrev VENC_CTX_PIC_CNT (i : Nat) : Nat := 0x220105C + 0x80 * i
abbrev VENC_CTX_STARVED_CNT (i : Nat) : Nat := 0x2201060 + 0x80 * i
abbrev VENC_CTX_REPEAT_CNT (i : Nat) : Nat := 0x2201064 + 0x80 * i
abbrev VENC_CTX_DROP_CNT (i : Nat) : Nat := 0x2201068 + 0x80 * i
abbrev VENC_CTX_CPB_LEVEL (i : Nat) : Nat := 0x220106C + 0x80 * i

def regRowsVENC0 : List RegRow :=
  [⟨0x2200000, 0x0, 1, 0x0, 0x0, 0x0, 0x0, 0x0, 0x10000⟩,
   ⟨0x2200004, 0x0, 1, 0x1, 0x0, 0x0, 0x0, 0x0, 0x0⟩,
   ⟨0x2200008, 0x0, 1, 0x0, 0x0, 0x0, 0x0, 0x0, 0x0⟩,
   ⟨0x2200010, 0x0, 1, 0xFFFFFFFF, 0x0, 0x0, 0x0, 0x0, 0x139905D3⟩,
   ⟨0x2200014, 0x0, 1, 0xFFFFFFFF, 0x0, 0x0, 0x0, 0x0, 0xFCCA01FB⟩,
   ⟨0x2200018, 0x0, 1, 0xFFFFFFFF, 0x0, 0x0, 0x0, 0x0, 0xE03F533⟩,
   ⟨0x220001C, 0x0, 1, 0xFFFFFFFF, 0x0, 0x0, 0x0, 0x0, 0xF3460E03⟩,
   ⟨0x2200020, 0x0, 1, 0xFFFFFFFF, 0x0, 0x0, 0x0, 0x0, 0x40FEB7⟩,
   ⟨0x2200024, 0x0, 1, 0xFFFF, 0x0, 0x0, 0x0, 0x0, 0x200⟩,
   ⟨0x2200028, 0x0, 1, 0x0, 0x0, 0x0, 0x0, 0x0, 0x0⟩,
   ⟨0x220002C, 0x0, 1, 0x0, 0x0, 0x0, 0x0, 0x0, 0x0⟩,
   ⟨0x2201000, 0x80, 16, 0x777, 0x0, 0x0, 0x0, 0x0, 0x54⟩,
   ⟨0x2201004, 0x80, 16, 0xFFF0FFF, 0x0, 0x0, 0x0, 0x0, 0x0⟩,
   ⟨0x2201008, 0x80, 16, 0x1FFF1FFF, 0x0, 0x0, 0x0, 0x0, 0x0⟩,
   ⟨0x220100C, 0x80, 16, 0x1FFF1FFF, 0x0, 0x0, 0x0, 0x0, 0x0⟩,
   ⟨0x2201010, 0x80, 16, 0xFFFFFFFF, 0x0, 0x0, 0x0, 0x0, 0x0⟩,
   ⟨0x2201014, 0x80, 16, 0xFFFFFFFF, 0x0, 0x0, 0x0, 0x0, 0x0⟩,
   ⟨0x2201018, 0x80, 16, 0xFFFF, 0x0, 0x0, 0x0, 0x0, 0x0⟩,
   ⟨0x220101C, 0x80, 16, 0xFFFF, 0x0, 0x0, 0x0, 0x0, 0x0⟩,
   ⟨0x2201020, 0x80, 16, 0x3F3F3F3F, 0x0, 0x0, 0x0, 0x0, 0x330A201E⟩]

def regRowsVENC1 : List RegRow :=
  [⟨0x2201024, 0x80, 16, 0xFFFF, 0x0, 0x0, 0x0, 0x0, 0x3C⟩,
   ⟨0x2201028, 0x80, 16, 0xFFFFF, 0x0, 0x0, 0x0, 0x0, 0x0⟩,
   ⟨0x220102C, 0x80, 16, 0xFFF, 0x0, 0x0, 0x0, 0x0, 0x0⟩,
   ⟨0x2201030, 0x80, 16, 0xFFF, 0x0, 0x0, 0x0, 0x0, 0x0⟩,
   ⟨0x2201034, 0x80, 16, 0x0, 0x0, 0x0, 0x0, 0x0, 0x0⟩,
   ⟨0x2201038, 0x80, 16, 0xFFFFF, 0x0, 0x0, 0x0, 0x0, 0x0⟩,
   ⟨0x220103C, 0x80, 16, 0xFFFFFFF, 0x0, 0x0, 0x0, 0x0, 0x0⟩,
   ⟨0x2201040, 0x80, 16, 0x0, 0x0, 0x0, 0x0, 0x0, 0x0⟩,
   ⟨0x2201044, 0x80, 16, 0xFFF, 0x0, 0x0, 0x0, 0x0, 0x0⟩,
   ⟨0x2201048, 0x80, 16, 0xFFFFF, 0x0, 0x0, 0x0, 0x0, 0x0⟩,
   ⟨0x220104C, 0x80, 16, 0xFFFF, 0x0, 0x0, 0x0, 0x0, 0x0⟩,
   ⟨0x2201050, 0x80, 16, 0x0, 0x0, 0x0, 0x0, 0x0, 0x0⟩,
   ⟨0x2201054, 0x80, 16, 0x0, 0x0, 0x0, 0x0, 0x0, 0x0⟩,
   ⟨0x2201058, 0x80, 16, 0xFFFFFFFF, 0x0, 0x0, 0x0, 0x0, 0x0⟩,
   ⟨0x220105C, 0x80, 16, 0x0, 0x0, 0x0, 0xFFFFFFFF, 0x0, 0x0⟩,
   ⟨0x2201060, 0x80, 16, 0x0, 0x0, 0x0, 0xFFFFFFFF, 0x0, 0x0⟩,
   ⟨0x2201064, 0x80, 16, 0x0, 0x0, 0x0, 0xFFFFFFFF, 0x0, 0x0⟩,
   ⟨0x2201068, 0x80, 16, 0x0, 0x0, 0x0, 0xFFFFFFFF, 0x0, 0x0⟩,
   ⟨0x220106C, 0x80, 16, 0x0, 0x0, 0x0, 0x0, 0x0, 0x0⟩]

/-- The register rows of block VENC. -/
def regRowsVENC : List RegRow :=
  regRowsVENC0 ++ regRowsVENC1

/-! ## NET (spec/11_network_and_time.md) -/

abbrev NET_VERSION : Nat := 0x2400000
abbrev NET_CTRL : Nat := 0x2400004
abbrev NET_CTRL_EN : Fld := ⟨NET_CTRL, 0, 0⟩
abbrev NET_CTRL_PRP_EN : Fld := ⟨NET_CTRL, 1, 1⟩
abbrev NET_CTRL_DEFAULT : Fld := ⟨NET_CTRL, 2, 2⟩
abbrev NET_MAX_FRAME : Nat := 0x2400008
abbrev NET_PRP_CFG : Nat := 0x240000C
abbrev NET_PRP_NODES : Nat := 0x2400010
abbrev NET_PRP_DUP_CNT : Nat := 0x2400014
abbrev NET_PRP_OLD_CNT : Nat := 0x2400018
abbrev NET_PRP_WRONG_LAN_CNT : Nat := 0x240001C
abbrev NET_PRP_TABLE_FULL_CNT : Nat := 0x2400020
abbrev NET_FLOW_SEL : Nat := 0x2400024
abbrev NET_FLOW_CMD : Nat := 0x2400028
abbrev NET_FLOW_STATUS : Nat := 0x240002C
abbrev NET_FLOW_DATA (i : Nat) : Nat := 0x2400030 + 0x4 * i
abbrev NET_FLOW_DATA_KIND (i : Nat) : Fld := ⟨(NET_FLOW_DATA i), 2, 0⟩
abbrev NET_FLOW_DATA_RANK (i : Nat) : Fld := ⟨(NET_FLOW_DATA i), 6, 4⟩
abbrev NET_FLOW_DATA_GUARANTEED (i : Nat) : Fld := ⟨(NET_FLOW_DATA i), 7, 7⟩
abbrev NET_FLOW_DATA_PORTS (i : Nat) : Fld := ⟨(NET_FLOW_DATA i), 9, 8⟩
abbrev NET_FLOW_DATA_METER (i : Nat) : Fld := ⟨(NET_FLOW_DATA i), 11, 10⟩
abbrev NET_FLOW_DATA_YELLOW_DROP (i : Nat) : Fld := ⟨(NET_FLOW_DATA i), 12, 12⟩
abbrev NET_FLOW_DATA_IMAGE (i : Nat) : Fld := ⟨(NET_FLOW_DATA i), 13, 13⟩
abbrev NET_FLOW_DATA_TARGET (i : Nat) : Fld := ⟨(NET_FLOW_DATA i), 21, 16⟩
abbrev NET_FLOW_DATA_QUEUE (i : Nat) : Fld := ⟨(NET_FLOW_DATA i), 29, 24⟩
abbrev NET_EXACT_ADDR_LO : Nat := 0x2400050
abbrev NET_EXACT_ADDR_HI : Nat := 0x2400054
abbrev NET_EXACT_CMD : Nat := 0x2400058
abbrev NET_EXACT_USED : Nat := 0x240005C
abbrev NET_LOSS_NEXT : Nat := 0x2400060
abbrev NET_LOSS_POP : Nat := 0x2400064
abbrev NET_HIST_SEL : Nat := 0x2400068
abbrev NET_HIST_DATA : Nat := 0x240006C
abbrev NET_HIST_PERIOD : Nat := 0x2400070
abbrev NET_P_CFG (i : Nat) : Nat := 0x2400400 + 0x100 * i
abbrev NET_P_CFG_EN (i : Nat) : Fld := ⟨(NET_P_CFG i), 0, 0⟩
abbrev NET_P_CFG_MODE (i : Nat) : Fld := ⟨(NET_P_CFG i), 3, 1⟩
abbrev NET_P_CFG_FEC (i : Nat) : Fld := ⟨(NET_P_CFG i), 5, 4⟩
abbrev NET_P_CFG_OVERHEAD (i : Nat) : Fld := ⟨(NET_P_CFG i), 15, 8⟩
abbrev NET_P_STATUS (i : Nat) : Nat := 0x2400404 + 0x100 * i
abbrev NET_P_LAT_RX (i : Nat) : Nat := 0x2400408 + 0x100 * i
abbrev NET_P_LAT_TX (i : Nat) : Nat := 0x240040C + 0x100 * i
abbrev NET_P_RX_FRAMES (i : Nat) : Nat := 0x2400410 + 0x100 * i
abbrev NET_P_RX_ERR_CNT (i : Nat) : Nat := 0x2400414 + 0x100 * i
abbrev NET_P_YELLOW_DROP (i : Nat) : Nat := 0x2400418 + 0x100 * i
abbrev NET_P_RED_DROP (i : Nat) : Nat := 0x240041C + 0x100 * i
abbrev NET_P_ADMIT_LOSS (i : Nat) : Nat := 0x2400420 + 0x100 * i
abbrev NET_P_TX_FRAMES (i : Nat) : Nat := 0x2400424 + 0x100 * i
abbrev NET_P_DELAY_LOSS (i : Nat) : Nat := 0x2400428 + 0x100 * i
abbrev NET_P_BUF_USED (i : Nat) : Nat := 0x240042C + 0x100 * i
abbrev NET_P_TSQ_STATUS (i : Nat) : Nat := 0x2400430 + 0x100 * i
abbrev NET_P_TSQ_OVF_CNT (i : Nat) : Nat := 0x2400434 + 0x100 * i
abbrev NET_P_TSQ_ID (i : Nat) : Nat := 0x2400438 + 0x100 * i
abbrev NET_P_TSQ_NS (i : Nat) : Nat := 0x240043C + 0x100 * i
abbrev NET_P_TSQ_SEC (i : Nat) : Nat := 0x2400440 + 0x100 * i
abbrev NET_P_TSQ_HI (i : Nat) : Nat := 0x2400444 + 0x100 * i
abbrev NET_P_TSQ_POP (i : Nat) : Nat := 0x2400448 + 0x100 * i
abbrev NET_P_MAC_LO (i : Nat) : Nat := 0x240044C + 0x100 * i
abbrev NET_P_MAC_HI (i : Nat) : Nat := 0x2400450 + 0x100 * i
abbrev NET_HRX_BASE_LO (i : Nat) : Nat := 0x2402000 + 0x20 * i
abbrev NET_HRX_BASE_HI (i : Nat) : Nat := 0x2402004 + 0x20 * i
abbrev NET_HRX_CFG (i : Nat) : Nat := 0x2402008 + 0x20 * i
abbrev NET_HRX_PUT (i : Nat) : Nat := 0x240200C + 0x20 * i
abbrev NET_HRX_GET (i : Nat) : Nat := 0x2402010 + 0x20 * i
abbrev NET_HRX_DROP_CNT (i : Nat) : Nat := 0x2402014 + 0x20 * i
abbrev NET_HTX_BASE_LO (i : Nat) : Nat := 0x2402400 + 0x20 * i
abbrev NET_HTX_BASE_HI (i : Nat) : Nat := 0x2402404 + 0x20 * i
abbrev NET_HTX_CFG (i : Nat) : Nat := 0x2402408 + 0x20 * i
abbrev NET_HTX_PUT (i : Nat) : Nat := 0x240240C + 0x20 * i
abbrev NET_HTX_GET (i : Nat) : Nat := 0x2402410 + 0x20 * i
abbrev NET_HTX_ERR_CNT (i : Nat) : Nat := 0x2402414 + 0x20 * i
abbrev NET_Q_CFG (i : Nat) : Nat := 0x2404000 + 0x10 * i
abbrev NET_Q_SLOPE (i : Nat) : Nat := 0x2404004 + 0x10 * i
abbrev NET_Q_HICREDIT (i : Nat) : Nat := 0x2404008 + 0x10 * i
abbrev NET_Q_DELAY_MAX (i : Nat) : Nat := 0x240400C + 0x10 * i

def regRowsNET0 : List RegRow :=
  [⟨0x2400000, 0x0, 1, 0x0, 0x0, 0x0, 0x0, 0x0, 0x10000⟩,
   ⟨0x2400004, 0x0, 1, 0x1, 0x6, 0x0, 0x0, 0x0, 0x0⟩,
   ⟨0x2400008, 0x0, 1, 0x3FFF, 0x0, 0x0, 0x0, 0x0, 0x2400⟩,
   ⟨0x240000C, 0x0, 1, 0xFFFFFFFF, 0x0, 0x0, 0x0, 0x0, 0x7D00190⟩,
   ⟨0x2400010, 0x0, 1, 0x0, 0x0, 0x0, 0x0, 0x0, 0x0⟩,
   ⟨0x2400014, 0x0, 1, 0x0, 0x0, 0x0, 0xFFFFFFFF, 0x0, 0x0⟩,
   ⟨0x2400018, 0x0, 1, 0x0, 0x0, 0x0, 0xFFFFFFFF, 0x0, 0x0⟩,
   ⟨0x240001C, 0x0, 1, 0x0, 0x0, 0x0, 0xFFFFFFFF, 0x0, 0x0⟩,
   ⟨0x2400020, 0x0, 1, 0x0, 0x0, 0x0, 0xFFFFFFFF, 0x0, 0x0⟩,
   ⟨0x2400024, 0x0, 1, 0x3FFF, 0x0, 0x0, 0x0, 0x0, 0x0⟩,
   ⟨0x2400028, 0x0, 1, 0x0, 0x0, 0x0, 0x0, 0xFFFFFFFF, 0x0⟩,
   ⟨0x240002C, 0x0, 1, 0x0, 0x0, 0x0, 0x0, 0x0, 0x0⟩,
   ⟨0x2400030, 0x4, 8, 0xFFFFFFFF, 0x0, 0x0, 0x0, 0x0, 0x0⟩,
   ⟨0x2400050, 0x0, 1, 0xFFFFFFFF, 0x0, 0x0, 0x0, 0x0, 0x0⟩,
   ⟨0x2400054, 0x0, 1, 0xF, 0x0, 0x0, 0x0, 0x0, 0x0⟩,
   ⟨0x2400058, 0x0, 1, 0x0, 0x0, 0x0, 0x0, 0xFFFFFFFF, 0x0⟩,
   ⟨0x240005C, 0x0, 1, 0x0, 0x0, 0x0, 0x0, 0x0, 0x0⟩,
   ⟨0x2400060, 0x0, 1, 0x0, 0x0, 0x0, 0x0, 0x0, 0x0⟩,
   ⟨0x2400064, 0x0, 1, 0x0, 0x0, 0x0, 0x0, 0xFFFFFFFF, 0x0⟩,
   ⟨0x2400068, 0x0, 1, 0xFFF, 0x0, 0x0, 0x0, 0x0, 0x0⟩]

def regRowsNET1 : List RegRow :=
  [⟨0x240006C, 0x0, 1, 0x0, 0x0, 0x0, 0xFFFFFFFF, 0x0, 0x0⟩,
   ⟨0x2400070, 0x0, 1, 0xFFFF, 0x0, 0x0, 0x0, 0x0, 0x1000⟩,
   ⟨0x2400400, 0x100, 2, 0xFF3F, 0x0, 0x0, 0x0, 0x0, 0x1400⟩,
   ⟨0x2400404, 0x100, 2, 0x0, 0x0, 0x0, 0x0, 0x0, 0x0⟩,
   ⟨0x2400408, 0x100, 2, 0xFFFF, 0x0, 0x0, 0x0, 0x0, 0x8E80⟩,
   ⟨0x240040C, 0x100, 2, 0xFFFF, 0x0, 0x0, 0x0, 0x0, 0x3D00⟩,
   ⟨0x2400410, 0x100, 2, 0x0, 0x0, 0x0, 0xFFFFFFFF, 0x0, 0x0⟩,
   ⟨0x2400414, 0x100, 2, 0x0, 0x0, 0x0, 0xFFFFFFFF, 0x0, 0x0⟩,
   ⟨0x2400418, 0x100, 2, 0x0, 0x0, 0x0, 0xFFFFFFFF, 0x0, 0x0⟩,
   ⟨0x240041C, 0x100, 2, 0x0, 0x0, 0x0, 0xFFFFFFFF, 0x0, 0x0⟩,
   ⟨0x2400420, 0x100, 2, 0x0, 0x0, 0x0, 0xFFFFFFFF, 0x0, 0x0⟩,
   ⟨0x2400424, 0x100, 2, 0x0, 0x0, 0x0, 0xFFFFFFFF, 0x0, 0x0⟩,
   ⟨0x2400428, 0x100, 2, 0x0, 0x0, 0x0, 0xFFFFFFFF, 0x0, 0x0⟩,
   ⟨0x240042C, 0x100, 2, 0x0, 0x0, 0x0, 0x0, 0x0, 0x0⟩,
   ⟨0x2400430, 0x100, 2, 0x0, 0x0, 0x100, 0x0, 0x0, 0x0⟩,
   ⟨0x2400434, 0x100, 2, 0x0, 0x0, 0x0, 0xFFFFFFFF, 0x0, 0x0⟩,
   ⟨0x2400438, 0x100, 2, 0x0, 0x0, 0x0, 0x0, 0x0, 0x0⟩,
   ⟨0x240043C, 0x100, 2, 0x0, 0x0, 0x0, 0x0, 0x0, 0x0⟩,
   ⟨0x2400440, 0x100, 2, 0x0, 0x0, 0x0, 0x0, 0x0, 0x0⟩,
   ⟨0x2400444, 0x100, 2, 0x0, 0x0, 0x0, 0x0, 0x0, 0x0⟩]

def regRowsNET2 : List RegRow :=
  [⟨0x2400448, 0x100, 2, 0x0, 0x0, 0x0, 0x0, 0xFFFFFFFF, 0x0⟩,
   ⟨0x240044C, 0x100, 2, 0xFFFFFFFF, 0x0, 0x0, 0x0, 0x0, 0x0⟩,
   ⟨0x2400450, 0x100, 2, 0xFFFF, 0x0, 0x0, 0x0, 0x0, 0x0⟩,
   ⟨0x2402000, 0x20, 16, 0xFFFFFFFF, 0x0, 0x0, 0x0, 0x0, 0x0⟩,
   ⟨0x2402004, 0x20, 16, 0xF, 0x0, 0x0, 0x0, 0x0, 0x0⟩,
   ⟨0x2402008, 0x20, 16, 0x3FFFFFF1, 0x0, 0x0, 0x0, 0x0, 0x0⟩,
   ⟨0x240200C, 0x20, 16, 0x0, 0x0, 0x0, 0x0, 0x0, 0x0⟩,
   ⟨0x2402010, 0x20, 16, 0xFFF, 0x0, 0x0, 0x0, 0x0, 0x0⟩,
   ⟨0x2402014, 0x20, 16, 0x0, 0x0, 0x0, 0xFFFFFFFF, 0x0, 0x0⟩,
   ⟨0x2402400, 0x20, 16, 0xFFFFFFFF, 0x0, 0x0, 0x0, 0x0, 0x0⟩,
   ⟨0x2402404, 0x20, 16, 0xF, 0x0, 0x0, 0x0, 0x0, 0x0⟩,
   ⟨0x2402408, 0x20, 16, 0x3FFFFFF1, 0x0, 0x0, 0x0, 0x0, 0x0⟩,
   ⟨0x240240C, 0x20, 16, 0xFFF, 0x0, 0x0, 0x0, 0x0, 0x0⟩,
   ⟨0x2402410, 0x20, 16, 0x0, 0x0, 0x0, 0x0, 0x0, 0x0⟩,
   ⟨0x2402414, 0x20, 16, 0x0, 0x0, 0x0, 0xFFFFFFFF, 0x0, 0x0⟩,
   ⟨0x2404000, 0x10, 128, 0x0, 0x0, 0x0, 0x0, 0x0, 0x0⟩,
   ⟨0x2404004, 0x10, 128, 0xFFFFFFFF, 0x0, 0x0, 0x0, 0x0, 0x0⟩,
   ⟨0x2404008, 0x10, 128, 0xFFFFFFFF, 0x0, 0x0, 0x0, 0x0, 0x0⟩,
   ⟨0x240400C, 0x10, 128, 0xFFFFFF, 0x0, 0x0, 0x0, 0x0, 0x0⟩]

/-- The register rows of block NET. -/
def regRowsNET : List RegRow :=
  regRowsNET0 ++ regRowsNET1 ++ regRowsNET2

/-! ## MEM (spec/12_hbm_memory.md) -/

abbrev MEM_VERSION : Nat := 0x2800000
abbrev MEM_STATUS : Nat := 0x2800004
abbrev MEM_STATUS_TRAINED : Fld := ⟨MEM_STATUS, 0, 0⟩
abbrev MEM_STATUS_FAILED : Fld := ⟨MEM_STATUS, 1, 1⟩
abbrev MEM_STATUS_SELF_REFRESH : Fld := ⟨MEM_STATUS, 3, 2⟩
abbrev MEM_STATUS_UNTOUCHED : Fld := ⟨MEM_STATUS, 4, 4⟩
abbrev MEM_CMD : Nat := 0x2800008
abbrev MEM_SR_IDLE : Nat := 0x280000C
abbrev MEM_NREF : Nat := 0x2800010
abbrev MEM_SCRUB : Nat := 0x2800014
abbrev MEM_MIGRATE : Nat := 0x2800018
abbrev MEM_TRAIN_MINW : Nat := 0x280001C
abbrev MEM_CORR_CNT : Nat := 0x2800020
abbrev MEM_UNCORR_CNT : Nat := 0x2800024
abbrev MEM_POISON_READ_CNT : Nat := 0x2800028
abbrev MEM_ERR_ADDR_LO : Nat := 0x280002C
abbrev MEM_ERR_ADDR_HI : Nat := 0x2800030
abbrev MEM_ERR_ADDR_HI_ADDR_HI : Fld := ⟨MEM_ERR_ADDR_HI, 3, 0⟩
abbrev MEM_ERR_ADDR_HI_CLIENT : Fld := ⟨MEM_ERR_ADDR_HI, 12, 8⟩
abbrev MEM_ERR_ADDR_HI_PC : Fld := ⟨MEM_ERR_ADDR_HI, 21, 16⟩
abbrev MEM_ERR_ADDR_HI_ATTRIBUTED : Fld := ⟨MEM_ERR_ADDR_HI, 22, 22⟩
abbrev MEM_ERR_ADDR_HI_OVERRUN : Fld := ⟨MEM_ERR_ADDR_HI, 30, 30⟩
abbrev MEM_ERR_ADDR_HI_VALID : Fld := ⟨MEM_ERR_ADDR_HI, 31, 31⟩
abbrev MEM_RETIRE_STATUS : Nat := 0x2800034
abbrev MEM_RETIRE_STATUS_STATE : Fld := ⟨MEM_RETIRE_STATUS, 1, 0⟩
abbrev MEM_RETIRE_STATUS_SOURCE : Fld := ⟨MEM_RETIRE_STATUS, 9, 4⟩
abbrev MEM_RETIRE_STATUS_TARGET : Fld := ⟨MEM_RETIRE_STATUS, 15, 10⟩
abbrev MEM_RETIRE_STATUS_PROGRESS : Fld := ⟨MEM_RETIRE_STATUS, 31, 16⟩
abbrev MEM_SPARE_MAP : Nat := 0x2800038
abbrev MEM_RETIRE_PRESET : Nat := 0x280003C
abbrev MEM_REGION (i : Nat) : Nat := 0x2800040 + 0x4 * i
abbrev MEM_TEMP : Nat := 0x2800060
abbrev MEM_LAT_BOUND (i : Nat) : Nat := 0x2800080 + 0x4 * i
abbrev MEM_CLIENT_LOSS (i : Nat) : Nat := 0x28000C0 + 0x4 * i
abbrev MEM_PC_STAT (i : Nat) : Nat := 0x2800200 + 0x4 * i
abbrev MEM_PC_STAT_STATE (i : Nat) : Fld := ⟨(MEM_PC_STAT i), 2, 0⟩
abbrev MEM_PC_STAT_SLOT (i : Nat) : Fld := ⟨(MEM_PC_STAT i), 7, 3⟩
abbrev MEM_PC_STAT_CORR (i : Nat) : Fld := ⟨(MEM_PC_STAT i), 31, 16⟩
abbrev MEM_PC_TRAIN (i : Nat) : Nat := 0x2800300 + 0x4 * i
abbrev MEM_PC_TRAIN_MINW (i : Nat) : Fld := ⟨(MEM_PC_TRAIN i), 6, 0⟩
abbrev MEM_PC_TRAIN_LANE (i : Nat) : Fld := ⟨(MEM_PC_TRAIN i), 10, 8⟩
abbrev MEM_PC_TRAIN_LAST_MOVE (i : Nat) : Fld := ⟨(MEM_PC_TRAIN i), 22, 16⟩

def regRowsMEM0 : List RegRow :=
  [⟨0x2800000, 0x0, 1, 0x0, 0x0, 0x0, 0x0, 0x0, 0x10000⟩,
   ⟨0x2800004, 0x0, 1, 0x0, 0x0, 0x0, 0x0, 0x0, 0x10⟩,
   ⟨0x2800008, 0x0, 1, 0x0, 0x0, 0x0, 0x0, 0xFFFFFFFF, 0x0⟩,
   ⟨0x280000C, 0x0, 1, 0xFFFF, 0x0, 0x0, 0x0, 0x0, 0x40⟩,
   ⟨0x2800010, 0x0, 1, 0x1F, 0x0, 0x0, 0x0, 0x0, 0xB⟩,
   ⟨0x2800014, 0x0, 1, 0xFFFF, 0x0, 0x0, 0x0, 0x0, 0x5A0⟩,
   ⟨0x2800018, 0x0, 1, 0xFFFF, 0x0, 0x0, 0x0, 0x0, 0x40⟩,
   ⟨0x280001C, 0x0, 1, 0x7F, 0x0, 0x0, 0x0, 0x0, 0x18⟩,
   ⟨0x2800020, 0x0, 1, 0x0, 0x0, 0x0, 0xFFFFFFFF, 0x0, 0x0⟩,
   ⟨0x2800024, 0x0, 1, 0x0, 0x0, 0x0, 0xFFFFFFFF, 0x0, 0x0⟩,
   ⟨0x2800028, 0x0, 1, 0x0, 0x0, 0x0, 0xFFFFFFFF, 0x0, 0x0⟩,
   ⟨0x280002C, 0x0, 1, 0x0, 0x0, 0x0, 0x0, 0x0, 0x0⟩,
   ⟨0x2800030, 0x0, 1, 0x0, 0x0, 0xC0000000, 0x0, 0x0, 0x0⟩,
   ⟨0x2800034, 0x0, 1, 0x0, 0x0, 0x0, 0x0, 0x0, 0x0⟩,
   ⟨0x2800038, 0x0, 1, 0x0, 0x0, 0x0, 0x0, 0x0, 0x0⟩,
   ⟨0x280003C, 0x0, 1, 0x8F8F8F8F, 0x0, 0x0, 0x0, 0x0, 0x0⟩,
   ⟨0x2800040, 0x4, 7, 0x0, 0x0, 0x0, 0x0, 0x0, 0x0⟩,
   ⟨0x2800060, 0x0, 1, 0x0, 0x0, 0x0, 0x0, 0x0, 0x0⟩,
   ⟨0x2800080, 0x0, 1, 0xFFFFF, 0x0, 0x0, 0x0, 0x0, 0x7D0⟩,
   ⟨0x2800084, 0x0, 1, 0xFFFFF, 0x0, 0x0, 0x0, 0x0, 0x7D0⟩]

def regRowsMEM1 : List RegRow :=
  [⟨0x2800088, 0x0, 1, 0xFFFFF, 0x0, 0x0, 0x0, 0x0, 0x2710⟩,
   ⟨0x280008C, 0x0, 1, 0xFFFFF, 0x0, 0x0, 0x0, 0x0, 0x4E20⟩,
   ⟨0x2800090, 0x0, 1, 0xFFFFF, 0x0, 0x0, 0x0, 0x0, 0xC350⟩,
   ⟨0x2800094, 0x0, 1, 0xFFFFF, 0x0, 0x0, 0x0, 0x0, 0x7A120⟩,
   ⟨0x28000C0, 0x4, 18, 0x0, 0x0, 0x0, 0xFFFFFFFF, 0x0, 0x0⟩,
   ⟨0x2800200, 0x4, 64, 0x0, 0x0, 0x0, 0x0, 0x0, 0x0⟩,
   ⟨0x2800300, 0x4, 64, 0x0, 0x0, 0x0, 0x0, 0x0, 0x0⟩]

/-- The register rows of block MEM. -/
def regRowsMEM : List RegRow :=
  regRowsMEM0 ++ regRowsMEM1

/-! ## BCE (spec/13_support_engines.md) -/

abbrev BCE_VERSION : Nat := 0x2C00000
abbrev BCE_LIST_LO : Nat := 0x2C00004
abbrev BCE_LIST_HI : Nat := 0x2C00008
abbrev BCE_CMD : Nat := 0x2C0000C
abbrev BCE_STATUS : Nat := 0x2C00010
abbrev BCE_STATUS_STATE : Fld := ⟨BCE_STATUS, 2, 0⟩
abbrev BCE_STATUS_ERR : Fld := ⟨BCE_STATUS, 15, 8⟩
abbrev BCE_STATUS_LEASE_HIT : Fld := ⟨BCE_STATUS, 16, 16⟩
abbrev BCE_PTR_LO : Nat := 0x2C00014
abbrev BCE_PTR_HI : Nat := 0x2C00018
abbrev BCE_LAST_TAG : Nat := 0x2C0001C
abbrev BCE_SHARE : Nat := 0x2C00020
abbrev BCE_SHARE_BURST : Fld := ⟨BCE_SHARE, 6, 0⟩
abbrev BCE_SHARE_DEAD : Fld := ⟨BCE_SHARE, 31, 16⟩
abbrev BCE_CMD_CNT : Nat := 0x2C00024
abbrev BCE_BYTES_CNT : Nat := 0x2C00028
abbrev BCE_POISON_CNT : Nat := 0x2C0002C

def regRowsBCE0 : List RegRow :=
  [⟨0x2C00000, 0x0, 1, 0x0, 0x0, 0x0, 0x0, 0x0, 0x10000⟩,
   ⟨0x2C00004, 0x0, 1, 0xFFFFFFC0, 0x0, 0x0, 0x0, 0x0, 0x0⟩,
   ⟨0x2C00008, 0x0, 1, 0xF, 0x0, 0x0, 0x0, 0x0, 0x0⟩,
   ⟨0x2C0000C, 0x0, 1, 0x0, 0x0, 0x0, 0x0, 0xFFFFFFFF, 0x0⟩,
   ⟨0x2C00010, 0x0, 1, 0x0, 0x0, 0x10000, 0x0, 0x0, 0x0⟩,
   ⟨0x2C00014, 0x0, 1, 0x0, 0x0, 0x0, 0x0, 0x0, 0x0⟩,
   ⟨0x2C00018, 0x0, 1, 0x0, 0x0, 0x0, 0x0, 0x0, 0x0⟩,
   ⟨0x2C0001C, 0x0, 1, 0x0, 0x0, 0x0, 0x0, 0x0, 0x0⟩,
   ⟨0x2C00020, 0x0, 1, 0xFFFF007F, 0x0, 0x0, 0x0, 0x0, 0x10⟩,
   ⟨0x2C00024, 0x0, 1, 0x0, 0x0, 0x0, 0xFFFFFFFF, 0x0, 0x0⟩,
   ⟨0x2C00028, 0x0, 1, 0x0, 0x0, 0x0, 0xFFFFFFFF, 0x0, 0x0⟩,
   ⟨0x2C0002C, 0x0, 1, 0x0, 0x0, 0x0, 0xFFFFFFFF, 0x0, 0x0⟩]

/-- The register rows of block BCE. -/
def regRowsBCE : List RegRow :=
  regRowsBCE0

/-! ## CKU (spec/13_support_engines.md) -/

abbrev CKU_VERSION : Nat := 0x2D00000
abbrev CKU_CTRL : Nat := 0x2D00004
abbrev CKU_JOB_ADDR_LO : Nat := 0x2D00040
abbrev CKU_JOB_ADDR_HI : Nat := 0x2D00044
abbrev CKU_JOB_LEN : Nat := 0x2D00048
abbrev CKU_JOB_CMD : Nat := 0x2D0004C
abbrev CKU_JOB_CMD_OP : Fld := ⟨CKU_JOB_CMD, 1, 0⟩
abbrev CKU_JOB_CMD_CONTINUE : Fld := ⟨CKU_JOB_CMD, 2, 2⟩
abbrev CKU_JOB_CMD_CTX : Fld := ⟨CKU_JOB_CMD, 12, 8⟩
abbrev CKU_JOB_STATUS : Nat := 0x2D00050
abbrev CKU_JOB_STATUS_STATE : Fld := ⟨CKU_JOB_STATUS, 1, 0⟩
abbrev CKU_JOB_STATUS_ERR : Fld := ⟨CKU_JOB_STATUS, 15, 8⟩
abbrev CKU_JOB_STATUS_MATCH : Fld := ⟨CKU_JOB_STATUS, 16, 16⟩
abbrev CKU_JOB_RESULT : Nat := 0x2D00054
abbrev CKU_JOB_DATA_LEN : Nat := 0x2D00058
abbrev CKU_CTX_CFG (i : Nat) : Nat := 0x2D00100 + 0x20 * i
abbrev CKU_CTX_CFG_IMAGE (i : Nat) : Fld := ⟨(CKU_CTX_CFG i), 0, 0⟩
abbrev CKU_CTX_CFG_ALIVE_EN (i : Nat) : Fld := ⟨(CKU_CTX_CFG i), 1, 1⟩
abbrev CKU_CTX_CFG_BIG_ENDIAN (i : Nat) : Fld := ⟨(CKU_CTX_CFG i), 2, 2⟩
abbrev CKU_CTX_CFG_POLY (i : Nat) : Fld := ⟨(CKU_CTX_CFG i), 4, 3⟩
abbrev CKU_CTX_CFG_ALIVE_BITS (i : Nat) : Fld := ⟨(CKU_CTX_CFG i), 6, 5⟩
abbrev CKU_CTX_CFG_ALIVE_OFF (i : Nat) : Fld := ⟨(CKU_CTX_CFG i), 15, 8⟩
abbrev CKU_CTX_CFG_MIN_LEN (i : Nat) : Fld := ⟨(CKU_CTX_CFG i), 31, 16⟩
abbrev CKU_CTX_RUN (i : Nat) : Nat := 0x2D00104 + 0x20 * i
abbrev CKU_CTX_ALIVE (i : Nat) : Nat := 0x2D00108 + 0x20 * i
abbrev CKU_CTX_MSG_CNT (i : Nat) : Nat := 0x2D0010C + 0x20 * i
abbrev CKU_CTX_FAIL_CNT (i : Nat) : Nat := 0x2D00110 + 0x20 * i
abbrev CKU_CTX_REPEAT_CNT (i : Nat) : Nat := 0x2D00114 + 0x20 * i
abbrev CKU_CTX_JUMP_CNT (i : Nat) : Nat := 0x2D00118 + 0x20 * i

def regRowsCKU0 : List RegRow :=
  [⟨0x2D00000, 0x0, 1, 0x0, 0x0, 0x0, 0x0, 0x0, 0x10000⟩,
   ⟨0x2D00004, 0x0, 1, 0x1, 0x0, 0x0, 0x0, 0x0, 0x0⟩,
   ⟨0x2D00040, 0x0, 1, 0xFFFFFFFF, 0x0, 0x0, 0x0, 0x0, 0x0⟩,
   ⟨0x2D00044, 0x0, 1, 0xF, 0x0, 0x0, 0x0, 0x0, 0x0⟩,
   ⟨0x2D00048, 0x0, 1, 0xFFFFFFFF, 0x0, 0x0, 0x0, 0x0, 0x0⟩,
   ⟨0x2D0004C, 0x0, 1, 0x0, 0x0, 0x0, 0x0, 0x1F07, 0x0⟩,
   ⟨0x2D00050, 0x0, 1, 0x0, 0x0, 0x0, 0x0, 0x0, 0x0⟩,
   ⟨0x2D00054, 0x0, 1, 0x0, 0x0, 0x0, 0x0, 0x0, 0x0⟩,
   ⟨0x2D00058, 0x0, 1, 0x0, 0x0, 0x0, 0x0, 0x0, 0x0⟩,
   ⟨0x2D00100, 0x20, 32, 0xFFFFFF7E, 0x0, 0x0, 0x0, 0x0, 0x0⟩,
   ⟨0x2D00104, 0x20, 32, 0xFFFFFFFF, 0x0, 0x0, 0x0, 0x0, 0x0⟩,
   ⟨0x2D00108, 0x20, 32, 0x0, 0x0, 0x0, 0x0, 0x0, 0x0⟩,
   ⟨0x2D0010C, 0x20, 32, 0x0, 0x0, 0x0, 0xFFFFFFFF, 0x0, 0x0⟩,
   ⟨0x2D00110, 0x20, 32, 0x0, 0x0, 0x0, 0xFFFFFFFF, 0x0, 0x0⟩,
   ⟨0x2D00114, 0x20, 32, 0x0, 0x0, 0x0, 0xFFFFFFFF, 0x0, 0x0⟩,
   ⟨0x2D00118, 0x20, 32, 0x0, 0x0, 0x0, 0xFFFFFFFF, 0x0, 0x0⟩]

/-- The register rows of block CKU. -/
def regRowsCKU : List RegRow :=
  regRowsCKU0

/-! ## DCO (spec/13_support_engines.md) -/

abbrev DCO_VERSION : Nat := 0x2E00000
abbrev DCO_IN_LO : Nat := 0x2E00004
abbrev DCO_IN_HI : Nat := 0x2E00008
abbrev DCO_IN_LEN_LO : Nat := 0x2E0000C
abbrev DCO_IN_LEN_HI : Nat := 0x2E00010
abbrev DCO_OUT_LO : Nat := 0x2E00014
abbrev DCO_OUT_HI : Nat := 0x2E00018
abbrev DCO_OUT_LEN_LO : Nat := 0x2E0001C
abbrev DCO_OUT_LEN_HI : Nat := 0x2E00020
abbrev DCO_CMD : Nat := 0x2E00024
abbrev DCO_STATUS : Nat := 0x2E00028
abbrev DCO_STATUS_STATE : Fld := ⟨DCO_STATUS, 2, 0⟩
abbrev DCO_STATUS_ERR : Fld := ⟨DCO_STATUS, 15, 8⟩
abbrev DCO_STATUS_LEASE_HIT : Fld := ⟨DCO_STATUS, 16, 16⟩
abbrev DCO_IN_DONE_LO : Nat := 0x2E0002C
abbrev DCO_IN_DONE_HI : Nat := 0x2E00030
abbrev DCO_OUT_DONE_LO : Nat := 0x2E00034
abbrev DCO_OUT_DONE_HI : Nat := 0x2E00038
abbrev DCO_CRC : Nat := 0x2E0003C

def regRowsDCO0 : List RegRow :=
  [⟨0x2E00000, 0x0, 1, 0x0, 0x0, 0x0, 0x0, 0x0, 0x10000⟩,
   ⟨0x2E00004, 0x0, 1, 0xFFFFFFFF, 0x0, 0x0, 0x0, 0x0, 0x0⟩,
   ⟨0x2E00008, 0x0, 1, 0xF, 0x0, 0x0, 0x0, 0x0, 0x0⟩,
   ⟨0x2E0000C, 0x0, 1, 0xFFFFFFFF, 0x0, 0x0, 0x0, 0x0, 0x0⟩,
   ⟨0x2E00010, 0x0, 1, 0xF, 0x0, 0x0, 0x0, 0x0, 0x0⟩,
   ⟨0x2E00014, 0x0, 1, 0xFFFFFFFF, 0x0, 0x0, 0x0, 0x0, 0x0⟩,
   ⟨0x2E00018, 0x0, 1, 0xF, 0x0, 0x0, 0x0, 0x0, 0x0⟩,
   ⟨0x2E0001C, 0x0, 1, 0xFFFFFFFF, 0x0, 0x0, 0x0, 0x0, 0x0⟩,
   ⟨0x2E00020, 0x0, 1, 0xF, 0x0, 0x0, 0x0, 0x0, 0x0⟩,
   ⟨0x2E00024, 0x0, 1, 0x0, 0x0, 0x0, 0x0, 0xFFFFFFFF, 0x0⟩,
   ⟨0x2E00028, 0x0, 1, 0x0, 0x0, 0x10000, 0x0, 0x0, 0x0⟩,
   ⟨0x2E0002C, 0x0, 1, 0x0, 0x0, 0x0, 0x0, 0x0, 0x0⟩,
   ⟨0x2E00030, 0x0, 1, 0x0, 0x0, 0x0, 0x0, 0x0, 0x0⟩,
   ⟨0x2E00034, 0x0, 1, 0x0, 0x0, 0x0, 0x0, 0x0, 0x0⟩,
   ⟨0x2E00038, 0x0, 1, 0x0, 0x0, 0x0, 0x0, 0x0, 0x0⟩,
   ⟨0x2E0003C, 0x0, 1, 0x0, 0x0, 0x0, 0x0, 0x0, 0x0⟩]

/-- The register rows of block DCO. -/
def regRowsDCO : List RegRow :=
  regRowsDCO0

/-! ## EHL (spec/15_pairs_and_hierarchy.md) -/

abbrev EHL_VERSION : Nat := 0x3000000
abbrev EHL_CFG : Nat := 0x3000004
abbrev EHL_CFG_PAIR_EN : Fld := ⟨EHL_CFG, 0, 0⟩
abbrev EHL_CFG_PRIO : Fld := ⟨EHL_CFG, 1, 1⟩
abbrev EHL_CFG_PAIR_DEEP : Fld := ⟨EHL_CFG, 2, 2⟩
abbrev EHL_CFG_TREE_EN : Fld := ⟨EHL_CFG, 4, 4⟩
abbrev EHL_CFG_MANAGER : Fld := ⟨EHL_CFG, 5, 5⟩
abbrev EHL_CFG_LID_GATE : Fld := ⟨EHL_CFG, 6, 6⟩
abbrev EHL_STATUS : Nat := 0x3000008
abbrev EHL_STATUS_PAIR : Fld := ⟨EHL_STATUS, 2, 0⟩
abbrev EHL_STATUS_ROLE : Fld := ⟨EHL_STATUS, 3, 3⟩
abbrev EHL_STATUS_IN_SYNC : Fld := ⟨EHL_STATUS, 4, 4⟩
abbrev EHL_STATUS_JOINING : Fld := ⟨EHL_STATUS, 5, 5⟩
abbrev EHL_STATUS_DESYNC : Fld := ⟨EHL_STATUS, 10, 8⟩
abbrev EHL_STATUS_LOCK : Fld := ⟨EHL_STATUS, 11, 11⟩
abbrev EHL_STATUS_LEVEL : Fld := ⟨EHL_STATUS, 13, 12⟩
abbrev EHL_STATUS_PARENT : Fld := ⟨EHL_STATUS, 15, 14⟩
abbrev EHL_STATUS_CHILDREN : Fld := ⟨EHL_STATUS, 19, 16⟩
abbrev EHL_CMD : Nat := 0x300000C
abbrev EHL_CMD_OP : Fld := ⟨EHL_CMD, 3, 0⟩
abbrev EHL_CMD_KIND : Fld := ⟨EHL_CMD, 7, 4⟩
abbrev EHL_CMD_SEQ : Fld := ⟨EHL_CMD, 31, 16⟩
abbrev EHL_PAIR_TIMEOUT : Nat := 0x3000010
abbrev EHL_LAG_MAX : Nat := 0x3000014
abbrev EHL_LAG : Nat := 0x3000018
abbrev EHL_REFUSED_ADDR : Nat := 0x300001C
abbrev EHL_REFUSED_CNT : Nat := 0x3000020
abbrev EHL_TAKEOVER_CNT : Nat := 0x3000024
abbrev EHL_TAKEOVER_TIME : Nat := 0x3000028
abbrev EHL_DESYNC_CNT : Nat := 0x300002C
abbrev EHL_REPLAY_CNT : Nat := 0x3000030
abbrev EHL_TREE_DEPTH : Nat := 0x3000034
abbrev EHL_LID_APPLY_NS : Nat := 0x3000038
abbrev EHL_LID_LATE_CNT : Nat := 0x300003C
abbrev EHL_SNAP_NS : Nat := 0x3000040
abbrev EHL_SNAP_SEC_LO : Nat := 0x3000044
abbrev EHL_SNAP_SEC_HI : Nat := 0x3000048
abbrev EHL_SNAP_STATUS : Nat := 0x300004C
abbrev EHL_SNAP_FRAME : Nat := 0x3000050
abbrev EHL_SNAP_SEQ : Nat := 0x3000054
abbrev EHL_SNAP_ATT : Nat := 0x3000058
abbrev EHL_SNAP_TIME_NS : Nat := 0x300005C
abbrev EHL_SNAP_TIME_SEC : Nat := 0x3000060
abbrev EHL_SNAP_TICK_LO : Nat := 0x3000064
abbrev EHL_SNAP_TICK_HI : Nat := 0x3000068
abbrev EHL_FREEZE_LO : Nat := 0x300006C
abbrev EHL_FREEZE_HI : Nat := 0x3000070
abbrev EHL_BC_SRC_LO : Nat := 0x3000074
abbrev EHL_BC_SRC_HI : Nat := 0x3000078
abbrev EHL_BC_DST_LO : Nat := 0x300007C
abbrev EHL_BC_DST_HI : Nat := 0x3000080
abbrev EHL_BC_LEN : Nat := 0x3000084
abbrev EHL_BC_CTRL : Nat := 0x3000088
abbrev EHL_BC_STATUS : Nat := 0x300008C
abbrev EHL_TIME_CFG : Nat := 0x3000090
abbrev EHL_TIME_ASYM : Nat := 0x3000094
abbrev EHL_TIME_OFFSET : Nat := 0x3000098
abbrev EHL_LINK_DELAY : Nat := 0x300009C
abbrev EHL_LANE_STATUS (i : Nat) : Nat := 0x3000100 + 0x4 * i
abbrev EHL_LANE_STATUS_STATE (i : Nat) : Fld := ⟨(EHL_LANE_STATUS i), 1, 0⟩
abbrev EHL_LANE_STATUS_EYE (i : Nat) : Fld := ⟨(EHL_LANE_STATUS i), 15, 8⟩
abbrev EHL_LANE_STATUS_FILL_ADJ (i : Nat) : Fld := ⟨(EHL_LANE_STATUS i), 23, 16⟩

def regRowsEHL0 : List RegRow :=
  [⟨0x3000000, 0x0, 1, 0x0, 0x0, 0x0, 0x0, 0x0, 0x10000⟩,
   ⟨0x3000004, 0x0, 1, 0x44, 0x33, 0x0, 0x0, 0x0, 0x0⟩,
   ⟨0x3000008, 0x0, 1, 0x0, 0x0, 0x0, 0x0, 0x0, 0x0⟩,
   ⟨0x300000C, 0x0, 1, 0x0, 0x0, 0x0, 0x0, 0xFFFF00FF, 0x0⟩,
   ⟨0x3000010, 0x0, 1, 0x1FFF, 0x0, 0x0, 0x0, 0x0, 0x7D0⟩,
   ⟨0x3000014, 0x0, 1, 0xFFFF, 0x0, 0x0, 0x0, 0x0, 0x7D0⟩,
   ⟨0x3000018, 0x0, 1, 0x0, 0x0, 0x0, 0x0, 0x0, 0x0⟩,
   ⟨0x300001C, 0x0, 1, 0x0, 0x0, 0x0, 0x0, 0x0, 0x0⟩,
   ⟨0x3000020, 0x0, 1, 0x0, 0x0, 0x0, 0xFFFFFFFF, 0x0, 0x0⟩,
   ⟨0x3000024, 0x0, 1, 0x0, 0x0, 0x0, 0xFFFFFFFF, 0x0, 0x0⟩,
   ⟨0x3000028, 0x0, 1, 0x0, 0x0, 0x0, 0x0, 0x0, 0x0⟩,
   ⟨0x300002C, 0x0, 1, 0x0, 0x0, 0x0, 0xFFFFFFFF, 0x0, 0x0⟩,
   ⟨0x3000030, 0x0, 1, 0x0, 0x0, 0x0, 0xFFFFFFFF, 0x0, 0x0⟩,
   ⟨0x3000034, 0x0, 1, 0x3, 0x0, 0x0, 0x0, 0x0, 0x1⟩,
   ⟨0x3000038, 0x0, 1, 0x0, 0x0, 0x0, 0x0, 0x0, 0x0⟩,
   ⟨0x300003C, 0x0, 1, 0x0, 0x0, 0x0, 0xFFFFFFFF, 0x0, 0x0⟩,
   ⟨0x3000040, 0x0, 1, 0xFFFFFFFF, 0x0, 0x0, 0x0, 0x0, 0x0⟩,
   ⟨0x3000044, 0x0, 1, 0xFFFFFFFF, 0x0, 0x0, 0x0, 0x0, 0x0⟩,
   ⟨0x3000048, 0x0, 1, 0xFFFF, 0x0, 0x0, 0x0, 0x0, 0x0⟩,
   ⟨0x300004C, 0x0, 1, 0x0, 0x0, 0x6, 0x0, 0x0, 0x0⟩]

def regRowsEHL1 : List RegRow :=
  [⟨0x3000050, 0x0, 1, 0x0, 0x0, 0x0, 0x0, 0x0, 0x0⟩,
   ⟨0x3000054, 0x0, 1, 0x0, 0x0, 0x0, 0x0, 0x0, 0x0⟩,
   ⟨0x3000058, 0x0, 1, 0x0, 0x0, 0x0, 0x0, 0x0, 0x0⟩,
   ⟨0x300005C, 0x0, 1, 0x0, 0x0, 0x0, 0x0, 0x0, 0x0⟩,
   ⟨0x3000060, 0x0, 1, 0x0, 0x0, 0x0, 0x0, 0x0, 0x0⟩,
   ⟨0x3000064, 0x0, 1, 0x0, 0x0, 0x0, 0x0, 0x0, 0x0⟩,
   ⟨0x3000068, 0x0, 1, 0x0, 0x0, 0x0, 0x0, 0x0, 0x0⟩,
   ⟨0x300006C, 0x0, 1, 0x0, 0x0, 0x0, 0x0, 0x0, 0x0⟩,
   ⟨0x3000070, 0x0, 1, 0x0, 0x0, 0x0, 0x0, 0x0, 0x0⟩,
   ⟨0x3000074, 0x0, 1, 0xFFFFFFFF, 0x0, 0x0, 0x0, 0x0, 0x0⟩,
   ⟨0x3000078, 0x0, 1, 0xF, 0x0, 0x0, 0x0, 0x0, 0x0⟩,
   ⟨0x300007C, 0x0, 1, 0xFFFFFFFF, 0x0, 0x0, 0x0, 0x0, 0x0⟩,
   ⟨0x3000080, 0x0, 1, 0xF, 0x0, 0x0, 0x0, 0x0, 0x0⟩,
   ⟨0x3000084, 0x0, 1, 0xFFFFFFFF, 0x0, 0x0, 0x0, 0x0, 0x0⟩,
   ⟨0x3000088, 0x0, 1, 0x10F, 0x0, 0x0, 0x0, 0x0, 0x0⟩,
   ⟨0x300008C, 0x0, 1, 0x0, 0x0, 0x0, 0x0, 0x0, 0x0⟩,
   ⟨0x3000090, 0x0, 1, 0x3, 0x0, 0x0, 0x0, 0x0, 0x0⟩,
   ⟨0x3000094, 0x0, 1, 0xFFFFFFFF, 0x0, 0x0, 0x0, 0x0, 0x0⟩,
   ⟨0x3000098, 0x0, 1, 0x0, 0x0, 0x0, 0x0, 0x0, 0x0⟩,
   ⟨0x300009C, 0x0, 1, 0x0, 0x0, 0x0, 0x0, 0x0, 0x0⟩]

def regRowsEHL2 : List RegRow :=
  [⟨0x3000100, 0x4, 16, 0x0, 0x0, 0x0, 0x0, 0x0, 0x0⟩]

/-- The register rows of block EHL. -/
def regRowsEHL : List RegRow :=
  regRowsEHL0 ++ regRowsEHL1 ++ regRowsEHL2

/-! ## CAL (spec/09_panel_drive_and_scorch.md) -/

abbrev CAL_VERSION : Nat := 0x3800000
abbrev CAL_MAP_CTRL : Nat := 0x3800004
abbrev CAL_MAP_CTRL_FREEZE : Fld := ⟨CAL_MAP_CTRL, 0, 0⟩
abbrev CAL_MAP_CTRL_OPEN : Fld := ⟨CAL_MAP_CTRL, 1, 1⟩
abbrev CAL_MAP_CMD : Nat := 0x3800008
abbrev CAL_MAP_STATUS : Nat := 0x380000C
abbrev CAL_MAP_STATUS_VALID : Fld := ⟨CAL_MAP_STATUS, 0, 0⟩
abbrev CAL_MAP_STATUS_FROZEN : Fld := ⟨CAL_MAP_STATUS, 1, 1⟩
abbrev CAL_MAP_STATUS_PASS_ACTIVE : Fld := ⟨CAL_MAP_STATUS, 2, 2⟩
abbrev CAL_MAP_STATUS_FULL_DAMAGE : Fld := ⟨CAL_MAP_STATUS, 3, 3⟩
abbrev CAL_PASS_CNT : Nat := 0x3800010
abbrev CAL_PASS_SEC : Nat := 0x3800014
abbrev CAL_PASS_TIME : Nat := 0x3800018
abbrev CAL_PASS_OVERRUN_CNT : Nat := 0x380001C
abbrev CAL_TRICKLE : Nat := 0x3800020
abbrev CAL_TRICKLE_PENDING : Nat := 0x3800024
abbrev CAL_TRICKLE_SENT_CNT : Nat := 0x3800028
abbrev CAL_CORR_REJECT_CNT : Nat := 0x380002C
abbrev CAL_POISON_CNT : Nat := 0x3800030
abbrev CAL_BRIGHT_CFG : Nat := 0x3800034
abbrev CAL_BRIGHT_CFG_MODE : Fld := ⟨CAL_BRIGHT_CFG, 0, 0⟩
abbrev CAL_BRIGHT_CFG_ALS_SRC : Fld := ⟨CAL_BRIGHT_CFG, 1, 1⟩
abbrev CAL_BRIGHT_CFG_MANUAL : Fld := ⟨CAL_BRIGHT_CFG, 31, 16⟩
abbrev CAL_ALS_VALUE : Nat := 0x3800038
abbrev CAL_ALS_I2C : Nat := 0x380003C
abbrev CAL_BRIGHT_STATUS : Nat := 0x3800040
abbrev CAL_DELTA_T : Nat := 0x3800044
abbrev CAL_CMD : Nat := 0x3800048
abbrev CAL_RUN_STATUS : Nat := 0x380004C
abbrev CAL_RUN_STATUS_STATE : Fld := ⟨CAL_RUN_STATUS, 1, 0⟩
abbrev CAL_RUN_STATUS_TEMP : Fld := ⟨CAL_RUN_STATUS, 15, 8⟩
abbrev CAL_RUN_STATUS_LAST_REJECT : Fld := ⟨CAL_RUN_STATUS, 16, 16⟩
abbrev CAL_REJECT_CNT : Nat := 0x3800050
abbrev CAL_TTEMP_AGE : Nat := 0x3800054
abbrev CAL_TILE_TEMP (i : Nat) : Nat := 0x3800100 + 0x4 * i
abbrev CAL_TILE_STATUS (i : Nat) : Nat := 0x3800200 + 0x4 * i
abbrev CAL_TILE_STATUS_BAND (i : Nat) : Fld := ⟨(CAL_TILE_STATUS i), 2, 0⟩
abbrev CAL_TILE_STATUS_STALE (i : Nat) : Fld := ⟨(CAL_TILE_STATUS i), 3, 3⟩
abbrev CAL_TILE_STATUS_REFSET_PENDING (i : Nat) : Fld := ⟨(CAL_TILE_STATUS i), 4, 4⟩
abbrev CAL_TILE_STATUS_IREF_G (i : Nat) : Fld := ⟨(CAL_TILE_STATUS i), 27, 16⟩

def regRowsCAL0 : List RegRow :=
  [⟨0x3800000, 0x0, 1, 0x0, 0x0, 0x0, 0x0, 0x0, 0x10000⟩,
   ⟨0x3800004, 0x0, 1, 0x3, 0x0, 0x0, 0x0, 0x0, 0x0⟩,
   ⟨0x3800008, 0x0, 1, 0x0, 0x0, 0x0, 0x0, 0xFFFFFFFF, 0x0⟩,
   ⟨0x380000C, 0x0, 1, 0x0, 0x0, 0x0, 0x0, 0x0, 0x0⟩,
   ⟨0x3800010, 0x0, 1, 0x0, 0x0, 0x0, 0x0, 0x0, 0x0⟩,
   ⟨0x3800014, 0x0, 1, 0x0, 0x0, 0x0, 0x0, 0x0, 0x0⟩,
   ⟨0x3800018, 0x0, 1, 0x0, 0x0, 0x0, 0x0, 0x0, 0x0⟩,
   ⟨0x380001C, 0x0, 1, 0x0, 0x0, 0x0, 0xFFFFFFFF, 0x0, 0x0⟩,
   ⟨0x3800020, 0x0, 1, 0x3F, 0x0, 0x0, 0x0, 0x0, 0x10⟩,
   ⟨0x3800024, 0x0, 1, 0x0, 0x0, 0x0, 0x0, 0x0, 0x0⟩,
   ⟨0x3800028, 0x0, 1, 0x0, 0x0, 0x0, 0xFFFFFFFF, 0x0, 0x0⟩,
   ⟨0x380002C, 0x0, 1, 0x0, 0x0, 0x0, 0xFFFFFFFF, 0x0, 0x0⟩,
   ⟨0x3800030, 0x0, 1, 0x0, 0x0, 0x0, 0xFFFFFFFF, 0x0, 0x0⟩,
   ⟨0x3800034, 0x0, 1, 0xFFFF0003, 0x0, 0x0, 0x0, 0x0, 0x80000000⟩,
   ⟨0x3800038, 0x0, 1, 0xFFFF, 0x0, 0x0, 0x0, 0x0, 0x0⟩,
   ⟨0x380003C, 0x0, 1, 0xFF7F, 0x0, 0x0, 0x0, 0x0, 0x0⟩,
   ⟨0x3800040, 0x0, 1, 0x0, 0x0, 0x0, 0x0, 0x0, 0x0⟩,
   ⟨0x3800044, 0x0, 1, 0x1F, 0x0, 0x0, 0x0, 0x0, 0x8⟩,
   ⟨0x3800048, 0x0, 1, 0x0, 0x0, 0x0, 0x0, 0xFFFFFFFF, 0x0⟩,
   ⟨0x380004C, 0x0, 1, 0x0, 0x0, 0x0, 0x0, 0x0, 0x0⟩]

def regRowsCAL1 : List RegRow :=
  [⟨0x3800050, 0x0, 1, 0x0, 0x0, 0x0, 0xFFFFFFFF, 0x0, 0x0⟩,
   ⟨0x3800054, 0x0, 1, 0xFFFF, 0x0, 0x0, 0x0, 0x0, 0x3E8⟩,
   ⟨0x3800100, 0x4, 48, 0xFF, 0x0, 0x0, 0x0, 0x0, 0x0⟩,
   ⟨0x3800200, 0x4, 48, 0x0, 0x0, 0x0, 0x0, 0x0, 0x0⟩]

/-- The register rows of block CAL. -/
def regRowsCAL : List RegRow :=
  regRowsCAL0 ++ regRowsCAL1

/-- All register rows, block by block in the order of the block map (R20). -/
def regTable : List RegRow :=
  regRowsGCTL ++ regRowsCSU ++ regRowsEVC ++ regRowsTMU ++ regRowsPWR ++ regRowsCH ++ regRowsCMP ++ regRowsSPL ++ regRowsAUX ++ regRowsVDEC ++ regRowsVENC ++ regRowsNET ++ regRowsMEM ++ regRowsBCE ++ regRowsCKU ++ regRowsDCO ++ regRowsEHL ++ regRowsCAL

/-- `off` is one of `count` offsets from `base` on, `stride` apart. -/
def offsetIn (off base stride count : Nat) : Bool :=
  if count ≤ 1 then off == base
  else decide (base ≤ off) && (off - base) % stride == 0 && decide ((off - base) / stride < count)

/-- `off` is one of the instances of row `r`. -/
def RegRow.covers (r : RegRow) (off : Nat) : Bool := offsetIn off r.off r.stride r.count

/-- The row that describes the register at an offset; none where the block map leaves the offset undefined. -/
def regRowAt (off : Nat) : Option RegRow := regTable.find? (·.covers off)

/-- Reset values of the register tables.  GCTL_STEPPING shows the part's fuses (R2): that they say A1 and AE, 0x211, is
the model's choice (DESIGN CHOICE, log entry 11). -/
def resetRows0 : List (Nat × Nat × Nat × Nat) :=
  [(0x0, 0x0, 1, 0x1441E57),
   (0x4, 0x0, 1, 0x211),
   (0x10, 0x0, 1, 0x10),
   (0x1C, 0x0, 1, 0x1),
   (0x24, 0x0, 1, 0x24),
   (0x100000, 0x0, 1, 0x10000),
   (0x100008, 0x0, 1, 0x1),
   (0x200000, 0x0, 1, 0x10000),
   (0x200008, 0x0, 1, 0x4),
   (0x200084, 0x0, 1, 0x1),
   (0x200088, 0x0, 1, 0x2),
   (0x20008C, 0x0, 1, 0x3),
   (0x200090, 0x0, 1, 0x4),
   (0x200094, 0x0, 1, 0x5),
   (0x200098, 0x0, 1, 0x6),
   (0x20009C, 0x0, 1, 0x7),
   (0x200100, 0x4, 32, 0xFFFFFFFF),
   (0x300000, 0x0, 1, 0x10000),
   (0x300014, 0x0, 1, 0x4),
   (0x30001C, 0x0, 1, 0x3E8),
   (0x300040, 0x0, 1, 0x6400),
   (0x400000, 0x0, 1, 0x10000),
   (0x40000C, 0x0, 1, 0x1),
   (0x400014, 0x4, 2, 0x88B5),
   (0x40001C, 0x0, 1, 0xF),
   (0x400104, 0x0, 1, 0x6964),
   (0x400108, 0x0, 1, 0x64),
   (0x40010C, 0x0, 1, 0xFFFFFF),
   (0x800000, 0x0, 1, 0x10000),
   (0xC00000, 0x0, 1, 0x10000),
   (0x1000000, 0x0, 1, 0x10000),
   (0x1400000, 0x0, 1, 0x10000),
   (0x80000C, 0x0, 1, 0x10),
   (0xC0000C, 0x0, 1, 0x10),
   (0x100000C, 0x0, 1, 0x10),
   (0x140000C, 0x0, 1, 0x10),
   (0x800010, 0x0, 1, 0x1E8480),
   (0xC00010, 0x0, 1, 0x1E8480),
   (0x1000010, 0x0, 1, 0x1E8480),
   (0x1400010, 0x0, 1, 0x1E8480)]

def resetRows1 : List (Nat × Nat × Nat × Nat) :=
  [(0x800014, 0x0, 1, 0xFFFFFFFF),
   (0xC00014, 0x0, 1, 0xFFFFFFFF),
   (0x1000014, 0x0, 1, 0xFFFFFFFF),
   (0x1400014, 0x0, 1, 0xFFFFFFFF),
   (0x800020, 0x0, 1, 0xFFFFFFFF),
   (0xC00020, 0x0, 1, 0xFFFFFFFF),
   (0x1000020, 0x0, 1, 0xFFFFFFFF),
   (0x1400020, 0x0, 1, 0xFFFFFFFF),
   (0x800024, 0x0, 1, 0x100),
   (0xC00024, 0x0, 1, 0x100),
   (0x1000024, 0x0, 1, 0x100),
   (0x1400024, 0x0, 1, 0x100),
   (0x1810400, 0x0, 1, 0x1),
   (0x1810410, 0x0, 1, 0x7D0),
   (0x1820000, 0x0, 1, 0x1),
   (0x1820004, 0x0, 1, 0x5DC),
   (0x1820008, 0x0, 1, 0x100),
   (0x182000C, 0x0, 1, 0x1E),
   (0x1830000, 0x0, 1, 0x320),
   (0x1830008, 0x0, 1, 0xFE502A),
   (0x183000C, 0x0, 1, 0xAAAB),
   (0x1830018, 0x0, 1, 0xF4240),
   (0x1800000, 0x0, 1, 0x10000),
   (0x180000C, 0x0, 1, 0x1F00),
   (0x1800010, 0x0, 1, 0xFF00),
   (0x1800014, 0x0, 1, 0x7F2815),
   (0x1800018, 0x0, 1, 0x13DE435),
   (0x1800100, 0x0, 1, 0x4E00),
   (0x1800800, 0x40, 24, 0x4000004),
   (0x1840040, 0x4, 16, 0xFFFFFF),
   (0x1A00000, 0x0, 1, 0x10000),
   (0x1A00004, 0x0, 1, 0x3F00),
   (0x1A00010, 0x0, 1, 0x2710),
   (0x1A00014, 0x0, 1, 0x2),
   (0x1A00018, 0x0, 1, 0x40),
   (0x1A0001C, 0x0, 1, 0xFF00),
   (0x1C00000, 0x0, 1, 0x10000),
   (0x1C00004, 0x0, 1, 0x14E00),
   (0x2000000, 0x0, 1, 0x10000),
   (0x2001000, 0x40, 64, 0x240)]

def resetRows2 : List (Nat × Nat × Nat × Nat) :=
  [(0x2200000, 0x0, 1, 0x10000),
   (0x2200010, 0x0, 1, 0x139905D3),
   (0x2200014, 0x0, 1, 0xFCCA01FB),
   (0x2200018, 0x0, 1, 0xE03F533),
   (0x220001C, 0x0, 1, 0xF3460E03),
   (0x2200020, 0x0, 1, 0x40FEB7),
   (0x2200024, 0x0, 1, 0x200),
   (0x2201000, 0x80, 16, 0x54),
   (0x2201020, 0x80, 16, 0x330A201E),
   (0x2201024, 0x80, 16, 0x3C),
   (0x2400000, 0x0, 1, 0x10000),
   (0x2400008, 0x0, 1, 0x2400),
   (0x240000C, 0x0, 1, 0x7D00190),
   (0x2400070, 0x0, 1, 0x1000),
   (0x2400400, 0x100, 2, 0x1400),
   (0x2400408, 0x100, 2, 0x8E80),
   (0x240040C, 0x100, 2, 0x3D00),
   (0x2800000, 0x0, 1, 0x10000),
   (0x2800004, 0x0, 1, 0x10),
   (0x280000C, 0x0, 1, 0x40),
   (0x2800010, 0x0, 1, 0xB),
   (0x2800014, 0x0, 1, 0x5A0),
   (0x2800018, 0x0, 1, 0x40),
   (0x280001C, 0x0, 1, 0x18),
   (0x2800080, 0x0, 1, 0x7D0),
   (0x2800084, 0x0, 1, 0x7D0),
   (0x2800088, 0x0, 1, 0x2710),
   (0x280008C, 0x0, 1, 0x4E20),
   (0x2800090, 0x0, 1, 0xC350),
   (0x2800094, 0x0, 1, 0x7A120),
   (0x2C00000, 0x0, 1, 0x10000),
   (0x2C00020, 0x0, 1, 0x10),
   (0x2D00000, 0x0, 1, 0x10000),
   (0x2E00000, 0x0, 1, 0x10000),
   (0x3000000, 0x0, 1, 0x10000),
   (0x3000010, 0x0, 1, 0x7D0),
   (0x3000014, 0x0, 1, 0x7D0),
   (0x3000034, 0x0, 1, 0x1),
   (0x3800000, 0x0, 1, 0x10000),
   (0x3800020, 0x0, 1, 0x10)]

def resetRows3 : List (Nat × Nat × Nat × Nat) :=
  [(0x3800034, 0x0, 1, 0x80000000),
   (0x3800044, 0x0, 1, 0x8),
   (0x3800054, 0x0, 1, 0x3E8),
   (0x800C, 0x10, 256, 0x1)]

/-- The registers whose reset value is not 0: first offset, stride, count, value. -/
def resetRows : List (Nat × Nat × Nat × Nat) := resetRows0 ++ resetRows1 ++ resetRows2 ++ resetRows3

/-- The value of the register at `off` after reset (R8 registers: 0, log entry 2; the MSI-X vector-control words have
their mask set, as PCIe defines them, log entry 4). -/
def resetWord (off : Nat) : Word :=
  match resetRows.find? (fun r => offsetIn off r.1 r.2.1 r.2.2.1) with
  | some r => BitVec.ofNat 32 r.2.2.2
  | none => 0

end Sys2Proof.Machine
end

