-- ==== Sys2Proof/Machine/Store.lean ====
section
/-!
DEFINITION. Sparse storage: a list of (address, value) pairs in one canonical form (addresses strictly rising, no
entry equal to what an unlisted address reads as).  Device memory (R22), engine local stores (R96) and the register
file of BAR0 (R4) are all kept this way.
-/

namespace Sys2Proof.Machine

variable {α : Type} [DecidableEq α]

/-- What address `k` reads as: its listed value, else `dflt k`. -/
def sparseGet (dflt : Nat → α) : List (Nat × α) → Nat → α
  | [], k => dflt k
  | e :: t, k => if e.1 = k then e.2 else sparseGet dflt t k

/-- Put (`k`, `v`) before the first entry with a higher address. -/
def sparsePlace (k : Nat) (v : α) : List (Nat × α) → List (Nat × α)
  | [] => [(k, v)]
  | e :: t => if k < e.1 then (k, v) :: e :: t else e :: sparsePlace k v t

/-- Drop every entry for address `k`. -/
def sparseDrop (k : Nat) : List (Nat × α) → List (Nat × α)
  | [] => []
  | e :: t => if e.1 = k then sparseDrop k t else e :: sparseDrop k t

/-- Write `v` at `k`; writing the value an unlisted address reads as removes the entry. -/
def sparseSet (dflt : Nat → α) (m : List (Nat × α)) (k : Nat) (v : α) : List (Nat × α) :=
  if v = dflt k then sparseDrop k m else sparsePlace k v (sparseDrop k m)

/-- Every address of the list lies above `lo`, the addresses rise strictly, and no entry is a default. -/
def sparseWfFrom (dflt : Nat → α) : Option Nat → List (Nat × α) → Bool
  | _, [] => true
  | lo, e :: t =>
    (match lo with
     | none => true
     | some l => decide (l < e.1)) && !decide (e.2 = dflt e.1) && sparseWfFrom dflt (some e.1) t

/-- The canonical form. -/
def sparseWf (dflt : Nat → α) (m : List (Nat × α)) : Bool := sparseWfFrom dflt none m

/-- An ordered set of numbers kept as a strictly rising list: insertion. -/
def setInsert (k : Nat) : List Nat → List Nat
  | [] => [k]
  | x :: t => if k < x then k :: x :: t else if k = x then x :: t else x :: setInsert k t

/-- An ordered set of numbers: removal. -/
def setErase (k : Nat) (l : List Nat) : List Nat := l.filter (fun x => x != k)

end Sys2Proof.Machine
end

