-- ==== Sys2Proof/Machine/State.lean ====
section
/-!
DEFINITION. The state of the LF144 as plain data.  A register field that represents a piece of state IS that state
(`State.regs`, keyed by BAR0 offset); what the registers do not show is held in one structure per block.
-/

namespace Sys2Proof.Machine

/-! ## Event controller (R386 to R396) -/

/-- A source raised in the running tick: R387. -/
structure Raised where
  source : Nat
  cls    : Nat
  data   : Nat
  multi  : Bool
  deriving DecidableEq, Repr

/-- One entry of a record, with all its fields of R388. -/
structure EvEntry where
  source  : Nat
  cls     : Nat
  first   : Bool
  last    : Bool
  multi   : Bool
  entries : Nat
  record  : Nat
  tick    : Nat
  timeNs  : Nat
  tvalid  : Bool
  timeSec : Nat
  data    : Nat
  deriving DecidableEq, Repr

/-- Event controller state beyond its registers. -/
structure Evc where
  tick     : Nat                  -- ticks since power-good, modulo 2^64 (R386)
  div      : Nat                  -- the divider in force (R386)
  raised   : List Raised          -- raised in the running tick, in order of happening
  recordNo : Nat                  -- the number the next record takes (R388)
  waiting  : List (List EvEntry)  -- records accepted for the ring whose writes have not all landed (R390)
  held     : List (List EvEntry)  -- records formed in SLEEP, written at wake (R399)
  early    : List EvEntry         -- the early queue (R392)
  lostOwed : Nat                  -- lost records that source 896 has still to report (R391)
  lastMsg  : List (Option Nat)    -- per class, the tick of its last message (R395)
  deferred : List (Nat × Nat)     -- class and vector of the deferred messages (R395)
  masked   : List (Nat × Nat)     -- vector and class of the messages that wait in the pending-bit array (R394)
  sent     : List Nat             -- MSI-X vectors sent to the host, oldest first (output of the block)
  deriving DecidableEq, Repr

def Evc.reset : Evc :=
  { tick := 0, div := 4, raised := [], recordNo := 0, waiting := [], held := [], early := [], lostOwed := 0
    lastMsg := List.replicate 8 none, deferred := [], masked := [], sent := [] }

/-! ## Time unit (R312 to R317) -/

/-- Time unit state beyond its registers. -/
structure Tmu where
  time    : Nat          -- PTP time in units of 2^-32 ns (R312)
  phase   : Nat          -- half-nanoseconds since the last 4 ns time-clock tick
  incr    : Nat          -- the increment in force, Q8.32 ns (R312)
  late    : List Bool    -- trigger n is armed with its target already reached (R317)
  ppsOut  : Bool         -- level of PTP_PPS_OUT
  trigOut : Bool         -- level of PTP_TRIG_OUT
  ppsTill : Nat          -- half-ns when each pulse has lasted its width
  trigTill : Nat
  stepped : Option Nat   -- PTP ns before a forward step of this tick (R313)
  deriving DecidableEq, Repr

def Tmu.reset : Tmu :=
  { time := 0, phase := 0, incr := 4 * 2 ^ 32, late := List.replicate 8 false, ppsOut := false, trigOut := false
    ppsTill := 0, trigTill := 0, stepped := none }

/-! ## Power and the Kettle (R397 to R411) -/

/-- Supply pins and enables (R462 to R464). -/
structure Rails where
  aonGood   : Bool   -- VDD_AON and VDD_IO are at or above their minimum
  enHbm     : Bool   -- level of PWR_EN_HBM
  enSds     : Bool   -- level of PWR_EN_SDS
  pgHbm     : Bool   -- level of PG_HBM
  pgSds     : Bool   -- level of PG_SDS
  powerGood : Bool   -- level of PWR_GOOD
  waiting   : Bool   -- a boot starts once PG_HBM and PG_SDS are both high (R464)
  fallAt    : Nat    -- half-ns when the enables were last driven low
  deriving DecidableEq, Repr

def Rails.reset : Rails :=
  { aonGood := true, enHbm := true, enSds := true, pgHbm := true, pgSds := true, powerGood := true, waiting := false, fallAt := 0 }

/-- Power and thermal state beyond its registers. -/
structure Pwr where
  deep        : Bool          -- the entry under way leads to DEEP_SLEEP
  entryStart  : Nat           -- half-ns when ENTERING began (R399)
  slept       : Bool          -- SLEEP was reached before the wake under way (R403)
  wakeStart   : Nat           -- half-ns of the tick that registered the wake cause (R401)
  pllRetry    : Nat           -- bit per PLL: it has been enabled once more (R402)
  pllFrom     : List (Option Nat)  -- per PLL, half-ns of an enable whose lock is still to come (R16)
  gateClosing : Nat           -- bit per channel: its gate closes at the next frame start (R404)
  sampling    : Bool          -- a temperature sample is under way (R406)
  warn        : Bool          -- the WARN zone is entered and not left (R407)
  throttle    : Bool          -- the THROTTLE zone is entered and not left (R407)
  stageAt     : Nat           -- half-ns of the last change of the throttle stage or of the zone (R408)
  stageInForce : Nat          -- the stage latched by the last frame start (R408)
  coolSince   : Option Nat    -- half-ns of the first sample of the window below 95 °C in STOPPED (R411)
  stopBoot    : Bool          -- the running boot follows a thermal stop (R411)
  thermN      : Bool          -- THERM_N is asserted (R407)
  stopping    : Option (Int × Nat)  -- an orderly stop waits for the frame: temperature and site (R409)
  woken       : Bool          -- the step 66 µs into the wake has been made (R401)
  pinAsked    : Bool          -- RESET_N fell while STOPPED (R447)
  rails       : Rails
  deriving DecidableEq, Repr

def Pwr.reset : Pwr :=
  { deep := false, entryStart := 0, slept := false, wakeStart := 0, pllRetry := 0, pllFrom := List.replicate 17 none, gateClosing := 0, sampling := false, warn := false
    throttle := false, stageAt := 0, stageInForce := 0, coolSince := none, stopBoot := false, thermN := false
    stopping := none, woken := false, pinAsked := false, rails := .reset }

/-! ## Memory subsystem (R339 to R361) -/

/-- A pseudo-channel migration under way (R360). -/
structure Migration where
  trio   : Nat
  member : Nat
  source : Nat
  target : Nat
  line   : Nat    -- the pointer: the next trio line to copy
  deriving DecidableEq, Repr

/-- A member's part of a line request, in a bank queue or waiting in the fabric (R349, R351). -/
structure MemReq where
  client : Nat
  rank   : Nat
  line   : Nat    -- A of R341
  bank   : Nat
  row    : Nat
  deriving DecidableEq, Repr

/-- A pseudo-channel's controller (R349, R350, R354): what it has queued and what waits for it in the fabric, both in
order of arrival; per bank with an open row, that row and the requests it has served; the bank pointer; the draws taken
from its LFSR; the rows it refreshed last as neighbours. -/
structure Controller where
  queue   : List MemReq
  waits   : List MemReq
  rows    : List (Nat × Nat × Nat)
  pointer : Nat
  draws   : Nat
  near    : List (Nat × Nat)
  deriving DecidableEq, Repr

def Controller.reset : Controller := { queue := [], waits := [], rows := [], pointer := 0, draws := 0, near := [] }

/-- Memory subsystem state beyond its registers. -/
structure Hbm where
  slots    : List Nat           -- slot 3n + m holds this physical pseudo-channel (R340)
  spares   : List (Option Nat)  -- per half, its unused spare (R339)
  mig      : Option Migration
  queued   : List (Option Nat)  -- per half, the queued retirement (R359)
  delays   : List (List Nat)    -- per pseudo-channel, its 8 trained delays: read, write of lanes 0 to 3 (R356, R453)
  lastDone : List Nat           -- per stack, half-ns of the last completion (R355)
  scrub    : Nat                -- the next line the patrol scrubber reads (R348)
  refBank  : List Nat           -- per pseudo-channel, the bank its controller refreshes next (R353)
  hot      : List Bool          -- per stack, it is at 95 °C or above (R353)
  ctl      : List Controller    -- per pseudo-channel (R349)
  fabTurn  : Nat                -- the fabric's rotation among the channels (R351)
  deriving DecidableEq, Repr

/-- Slots and spares of R339 and R340 at reset. -/
def Hbm.reset : Hbm :=
  { slots := (List.range 60).map (fun k => 16 * (k / 15) + k % 15)
    spares := (List.range 4).map (fun h => some (16 * h + 15))
    mig := none, queued := List.replicate 4 none, delays := List.replicate 64 (List.replicate 8 0)
    lastDone := [0, 0], scrub := 0, refBank := List.replicate 64 0, hot := [false, false]
    ctl := List.replicate 64 .reset, fabTurn := 0 }

/-! ## PCIe endpoint and global control (R439 to R454) -/

/-- What the host reads back: the completion of its last read request. -/
structure Completion where
  bytes    : List Byte
  poisoned : Bool      -- the EP bit (R445)
  deriving DecidableEq, Repr

/-- PCIe function and boot state beyond the registers. -/
structure Pcie where
  msixEn     : Bool            -- MSI-X Enable of the capability (R394)
  funcMask   : Bool            -- Function Mask of the capability
  d3         : Bool            -- the function is in D3hot (R439)
  completion : Option Completion
  bootSel    : Bool            -- level of BOOT_SEL (R45)
  prevEyes   : List Nat        -- group eye scores a calibration record gave (R454)
  resetAsked : Option (Nat × Bool × Nat)  -- an accepted reset that waits for the frame: kind, pushed source, trigger (R446)
  lateRaised : Bool            -- source 12 has been raised since power-good (R451)
  calPresets : Option (List Nat)          -- presets a calibration record offers (R454)
  calWork    : Option (Bool × Nat)        -- the calibration record operation under way: RESTORE, and its address
  oldHost    : Option (Nat × Nat)         -- HOST of the image that an IMAGE reset removed: base and size (R446)
  resetTick  : Option Nat                 -- the tick of the last FULL or IMAGE reset (R447)
  linkSeen   : Bool                       -- the link has trained since the last FULL reset
  fnSaved    : Option (Nat × Nat × Bool × Bool × Bool)  -- configuration space as the FUNCTION reset of a tick found it: the
                                          -- tick, BAR2 size, MSI-X Enable, Function Mask, D3hot (R447)
  deriving DecidableEq, Repr

def Pcie.reset : Pcie :=
  { msixEn := false, funcMask := false, d3 := false, completion := none, bootSel := false, prevEyes := List.replicate 6 0
    resetAsked := none, lateRaised := false, calPresets := none
    calWork := none, oldHost := none, resetTick := none, linkSeen := false, fnSaved := none }

/-! ## Plane stacks and leases (R72 to R87) -/

/-- A tile of the change accumulator: plane, column, row, and the kept disparity (R75). -/
structure AccTile where
  plane : Nat
  col   : Nat
  row   : Nat
  disp  : Int
  deriving DecidableEq, Repr

/-- A tile of the remote generation being received (R85). -/
structure RxTile where
  plane  : Nat
  col    : Nat
  row    : Nat
  slot   : Option Nat   -- allocated by its first fragment
  frags  : Nat          -- bit per fragment received
  crc    : Nat
  seq    : Nat          -- highest PKT_SEQ of its fragments
  remove : Option Nat   -- PKT_SEQ of its REMOVE
  deriving DecidableEq, Repr

/-- The open remote generation of a stream (R85). -/
structure RxGen where
  gen    : Nat
  buf    : Nat
  planes : List (Nat × Nat × Nat)   -- disparity (16 bits), PLANE_ID, first slot of the table block
  used   : List Nat                 -- slots of the buffer being filled
  tiles  : List RxTile
  count  : Nat                      -- distinct packets received
  last   : Option (Nat × Nat × Nat) -- END: PKT_COUNT, TS_NS, TS_SEC
  endAt  : Nat                      -- half-ns of END's arrival
  deriving DecidableEq, Repr

/-- One stack stream beyond its registers. -/
structure Stream where
  active    : Bool            -- the stream counts as enabled (R89)
  returning : Bool            -- disabled; the buffers return when the frame in progress ends (R89)
  marking   : Option Nat      -- the buffer being marked (R76)
  marked    : Bool            -- its marking has completed in the running tick (R74)
  holds     : List (List Nat) -- per buffer, the slots its READY or CURRENT state protects (R79)
  accum     : List AccTile    -- the change accumulator (R75)
  rx        : Option RxGen
  rxHeld    : List (List Byte) -- datagrams that wait until the buffer before is marked, oldest first (R85)
  needFull  : Bool            -- a generation was incomplete and no FULL one has come since (R87)
  deriving DecidableEq, Repr

def Stream.reset : Stream :=
  { active := false, returning := false, marking := none, marked := false, holds := [[], [], []], accum := [], rx := none
    rxHeld := [], needFull := false }

/-- What the leases protect besides stream holds (R79): slots, and page ranges as first page and count. -/
structure Lease where
  frameSlots : List Nat
  framePages : List (Nat × Nat)
  layerPages : List (List (Nat × Nat))   -- per layer, the pages of its last committed buffer
  commitPages : List (Nat × Nat)          -- pages of commits not yet latched (R197)
  deriving DecidableEq, Repr

def Lease.reset : Lease := { frameSlots := [], framePages := [], layerPages := List.replicate 24 [], commitPages := [] }

/-! ## Support engines (R364 to R385) -/

/-- The running job of the check unit (R375). -/
structure CkuJob where
  op    : Nat    -- 1 COMPUTE, 2 APPEND, 3 CHECK
  ctx   : Nat
  start : Nat    -- the CRC register the job starts from
  addr  : Nat
  len   : Nat
  deriving DecidableEq, Repr

/-- The job of the dictionary coder (R380 to R382). -/
structure DcoJob where
  compress : Bool
  inAddr   : Nat
  inLen    : Nat
  pos      : Nat                -- input bytes consumed
  outDone  : Nat                -- bytes written to the present buffer
  outq     : List Byte          -- bytes produced that no buffer has taken yet
  bits     : Nat                -- bits not yet making a byte, least significant first
  nbits    : Nat
  dict     : List (Nat × Nat)   -- entries from 258 on: prefix code and last byte
  codeNo   : Nat                -- codes since the last CLEAR
  cur      : Option Nat         -- compressor: code of the match; decompressor: the code before
  curLen   : Nat                -- compressor: input bytes of the match
  full     : Nat                -- compressor: input bytes coded since the dictionary became full
  total    : Nat                -- uncompressed bytes so far
  crc      : Nat                -- CRC-32C register of the uncompressed data
  ended    : Bool               -- END is written, or read with its trailer
  err      : Nat                -- 0, or the ERR code that ends the job
  deriving DecidableEq, Repr

/-- Support-engine state beyond the registers. -/
structure Support where
  bceBytes : Nat              -- bytes written below a whole unit of BCE_BYTES_CNT
  bceAt    : Nat              -- half-ns at which the current command could begin (R368)
  cku      : Option CkuJob
  dco      : Option DcoJob
  deriving DecidableEq, Repr

def Support.reset : Support := { bceBytes := 0, bceAt := 0, cku := none, dco := none }

/-! ## Configuration and security unit (R31 to R59) -/

/-- The sections of the active full image. -/
structure Img where
  structSec : List Byte
  geometry  : List Byte
  panel     : List Byte
  net       : List Byte
  policy    : List Byte
  identity  : List Byte
  deriving DecidableEq, Repr

/-- What an image gives one channel (R38, R101): entry points, and DMWR windows as base and size in bytes. -/
structure ChanCfg where
  synthEntry : Nat
  buildEntry : Nat
  windows    : List (Nat × Nat)
  deriving DecidableEq, Repr

def ChanCfg.reset : ChanCfg := { synthEntry := 0, buildEntry := 0, windows := [] }

/-- The check under way (R45, R48, R49). -/
inductive CheckKind where
  | spiA | spiB | load | verify | reload | resetPush
  deriving DecidableEq, Repr

/-- A fuse operation under way (R43, R44): the fuses still to blow. -/
structure FuseOp where
  key    : Bool        -- a key operation; else a rollback advance
  slot   : Nat
  revoke : Bool
  todo   : List Nat    -- PROGRAM: digest fuses then 384 for the marker; rollback: counter fuses
  deriving DecidableEq, Repr

/-- CSU state beyond its registers. -/
structure Csu where
  image    : Option Img
  chans    : List ChanCfg
  staged   : Option Nat                     -- length of the channel image staged in CONTROL (R54)
  checking : Option CheckKind
  fuses    : List Nat                       -- per key slot, the digest fuses blown, as a number of 384 bits
  op       : Option FuseOp
  deriving DecidableEq, Repr

def Csu.reset : Csu :=
  { image := none, chans := List.replicate 4 .reset, staged := none, checking := none, fuses := [0, 0, 0, 0], op := none }

/-! ## Drakor ray engines (R93 to R124) -/

/-- An outstanding device-memory transfer (R115). -/
structure Xfer where
  ls    : Nat
  dev   : Nat
  len   : Nat
  write : Bool
  pc    : Nat     -- address of the instruction that started it
  deriving DecidableEq, Repr

/-- A work item: WI0 to WI7 (R106, R166). -/
structure Item where
  build : Bool
  wi    : List Nat
  deriving DecidableEq, Repr

/-- One engine (R93); its program counter is CH_ENG_PC and its state CH_ENG_STATE. -/
structure Engine where
  sx      : List Word                -- sx0 to sx31; sx0 stays 0
  vx      : List (List Word)         -- vx0 to vx31, 16 lanes each
  pm      : List Nat                 -- pm0 to pm7, 16 bits; pm0 stays 0xFFFF
  wi      : List Word
  scratch : List Word
  ls      : List Host.Cell           -- local store by byte address, unlisted bytes 0
  tags    : List (Option Xfer)
  emitted : Nat                      -- bit per ray index emitted in the run (R117)
  item    : Option Item
  cycHi   : Word                     -- CYCLE_HI as latched (R105)
  valid   : Bool                     -- the local store holds the program
  dirty   : Bool                     -- a debug write broke the identity with the reload copy (R123)
  start   : Nat                      -- half-ns when the item started (R119 TIMEOUT)
  deriving DecidableEq, Repr

def Engine.reset : Engine :=
  { sx := List.replicate 32 0, vx := List.replicate 32 (List.replicate 16 0), pm := 0xFFFF :: List.replicate 7 0
    wi := List.replicate 8 0, scratch := List.replicate 32 0, ls := [], tags := List.replicate 8 none, emitted := 0
    item := none, cycHi := 0, valid := false, dirty := false, start := 0 }

/-- A valid line of a plane cache: its device address over 256, its bytes, and the 16-byte words that memory reported
poisoned, by address over 16 (R97, R116). -/
structure CacheLine where
  line : Nat
  data : List Byte
  bad  : List Nat
  deriving DecidableEq, Repr

/-- One channel's dispatcher (R107), plane cache and scrubber. -/
structure Channel where
  runs    : List Item
  builds  : List Item
  samples : Nat            -- lane-samples below a whole unit of CH_SAMPLE_CNT
  turnS   : Nat            -- the rotation pointers: the engine after the last one granted a run, and a build item
  turnB   : Nat
  cache   : List CacheLine -- the valid lines, the last filled first (R97)
  scrub   : Nat            -- the local-store word the patrol scrubber reads next (R96)
  gateAt  : Nat            -- half-ns when the gate opened (R105)
  deriving DecidableEq, Repr

def Channel.reset : Channel :=
  { runs := [], builds := [], samples := 0, turnS := 0, turnB := 0, cache := [], scrub := 0, gateAt := 0 }

/-! ## Frames (R137 to R150, R179 to R201) -/

/-- A rectangle of hogels, half-open. -/
structure Rect where
  x0 : Nat
  x1 : Nat
  y0 : Nat
  y1 : Nat
  deriving DecidableEq, Repr

/-- Where a plane of the frame stack comes from. -/
inductive PlaneSrc where
  | overlay
  | layer (l : Nat)
  | stream (i p : Nat)
  deriving DecidableEq, Repr

/-- An entry of the plane directory (R108, R179). -/
structure DirPlane where
  src   : PlaneSrc
  disp  : Int                        -- effective disparity
  tiles : List (Nat × Nat × Nat)     -- present tiles: column, row, slot
  deriving DecidableEq, Repr

/-- The frame in progress, or the last one. -/
structure Frame where
  seen     : Bool                    -- a frame has started since the image was applied
  startAt  : Nat                     -- half-ns of t_N
  minNs    : Nat                     -- the periods latched with the frame
  maxNs    : Nat
  deadline : Nat                     -- half-ns
  setup    : Bool                    -- frame-start processing is under way
  planes   : List DirPlane
  changed  : List (Nat × Nat × Int)  -- changed tiles reported to synthesis: column, row, disparity
  hogels   : List Rect               -- hogel-space damage latched by the frame
  carried  : List Rect               -- damage carried from an aborted frame
  full     : Bool                    -- the next frame start damages the whole panel (R425, R450)
  rects    : List (Rect × Nat)       -- the final list of R149, with the channel of each
  fallback : Nat                     -- the step of R147 used
  shares   : List (Nat × Nat)        -- per channel, first column and columns of its hogel share
  runLens  : List Nat                -- per channel, RUN_LEN as read at the frame start
  usable   : List (Nat × Nat × Nat × Nat)  -- the eye-boxes usable in the frame
  classes  : Option (List Nat)       -- per class block, the normalised classes, 2 bits a view
  cmap     : Nat                     -- the class-map copy of the frame
  codes    : List (Nat × Nat)        -- per hogel, the rays whose codes are in the mirror, as a 432-bit mask
  irefs    : List (List Nat)         -- reference currents latched, per tile
  bandOf   : List Nat                -- band latched, per tile
  builds   : List (Nat × Nat)        -- camera builds whose latency awaits a completion: build number, TS in ns
  abortAt  : Option Nat              -- the tick of the last abort
  eyes     : List (Nat × Nat × Nat × Nat)  -- the committed eye set: X, Y, Z, HALF words
  eyeValid : Nat
  eyeSeq   : Nat
  eyeAge   : Nat                     -- frame starts since the last commit
  eyeNew   : Bool                    -- an eye set was committed since the last frame start
  eyesIn   : Option (List (Nat × Nat × Nat × Nat) × Nat × Nat)  -- the set committed in the running tick: boxes, VALID, SEQ (R152)
  armed    : Bool                    -- at the end of the tick before, a trigger held and no WAIT hold applied (R199)
  ended    : Bool                    -- at the end of the tick before, no frame was in progress
  kValid   : Bool                    -- the correction map in force: VALID as latched (R255)
  kMap     : List Host.Cell          -- its bytes
  kBad     : List Nat                -- its poisoned 16-byte words
  deriving DecidableEq, Repr

def Frame.reset : Frame :=
  { seen := false, startAt := 0, minNs := 0, maxNs := 0, deadline := 0, setup := false, planes := [], changed := [], hogels := []
    carried := [], full := false, rects := [], fallback := 0, shares := [], runLens := [], usable := [], classes := none, cmap := 0, codes := [], irefs := [], bandOf := [], builds := [], abortAt := none
    eyes := List.replicate 8 (0, 0, 0, 0), eyeValid := 0, eyeSeq := 0, eyeAge := 0, eyeNew := false
    eyesIn := none, armed := false, ended := false, kValid := false, kMap := [], kBad := [] }

/-- A layer of a commit (R182, R198, R201). -/
structure LayerPlane where
  regs    : List Word                    -- the words at +0x00 to +0x34 as copied
  pending : Bool
  ready   : Bool
  asHold  : Bool                         -- a WAIT layer that has been treated as HOLD
  scaler  : Option Nat
  tiles   : List (Nat × Nat × Nat)       -- column, row, slot
  deriving DecidableEq, Repr

/-- A commit (R196). -/
structure Commit where
  seq    : Nat
  cfg    : Word
  minNs  : Nat
  maxNs  : Nat
  wb     : List Word                     -- CMP_WB_CFG, PITCH, and the four address pairs
  ofs    : List Word                     -- offscreen address pair and pitch
  layers : List LayerPlane
  since  : Nat                           -- half-ns of acceptance
  deriving DecidableEq, Repr

/-- Composer state beyond its registers. -/
structure Composer where
  prep    : Option Commit
  ofs     : Option Commit
  gated   : Option Commit                -- registered, waiting for a TLID (R433)
  ready   : Option Commit
  current : Option Commit
  arrived : Option Commit                -- registered in the running tick; READY from its end on (R200)
  shown   : List (Option LayerPlane)     -- per layer, the buffer it showed last
  wbNext  : Nat                          -- the writeback buffer next in rotation
  deriving DecidableEq, Repr

def Composer.reset : Composer :=
  { prep := none, ofs := none, gated := none, ready := none, current := none, arrived := none
    shown := List.replicate 24 none, wbNext := 0 }

/-- One telemetry context of the overlay (R192). -/
structure Telem where
  result  : Option Nat        -- the last message's result: 0 pass or jump, 1 CRC failure, 2 repeated
  payload : Option (List Byte) -- of the last passing message
  at_     : Nat               -- PTP ns of its arrival
  deriving DecidableEq, Repr

/-- Overlay state beyond its registers. -/
structure Overlay where
  ctx     : List Telem
  values  : List Int                          -- per field, the raw value of the last evaluation
  trigger : Bool                              -- a state or displayed value changed since the last frame start (R199)
  release : Bool                              -- a field became hatched: WAIT holds end (R201)
  changed : Bool                              -- the same two for the running tick, whose end passes them on
  hatched : Bool
  atEnd   : List (Nat × Int)                  -- per field, state and raw value at the end of the tick before (R194)
  shown   : List (Nat × Nat × List Byte)      -- tiles of the last rendered overlay: column, row, bytes
  turn    : Nat                               -- which third of the overlay slots the last rendering used
  deriving DecidableEq, Repr

def Overlay.reset : Overlay :=
  { ctx := List.replicate 16 ⟨none, none, 0⟩, values := [], trigger := false, release := false
    changed := false, hatched := false, atEnd := [], shown := [], turn := 0 }

/-! ## Panel link (R208 to R251) -/

/-- A piece of an update (R221). -/
structure Piece where
  tile    : Nat
  band    : Nat
  next    : Nat                    -- packets sent so far, in send order
  retry   : Bool                   -- it is being sent again
  acked   : Bool
  sends   : List ((Nat × Nat) × Nat) -- packets sent more than once: position and extra sends
  lastAt  : Nat                    -- half-ns of its last data row
  order   : Nat                    -- its place in the order in which pieces began; 0 before its first packet
  deriving DecidableEq, Repr

/-- An update of the frame's queue (R221): 0 pending, 1 in flight, 2 complete. -/
structure Update where
  upd     : Nat
  restore : Option Nat             -- the tile of a restore
  rect    : Rect
  phase   : Nat
  pieces  : List Piece
  deriving DecidableEq, Repr

/-- A packet that a NAK or a timeout asked for again (R220). -/
inductive Resend where
  | rect (upd tile band x y : Nat)
  | corr (g : Nat)
  | refset (tile : Nat)
  deriving DecidableEq, Repr

/-- A CORR packet (R265). -/
structure Corr where
  granule : Nat
  tile    : Nat
  delta   : List Byte
  sent    : Bool
  acked   : Bool
  frame   : Nat
  att     : Nat
  retries : Nat
  lastAt  : Nat                    -- half-ns of its last data row
  deriving DecidableEq, Repr

/-- A REFSET of the frame (R258). -/
structure Refset where
  tile    : Nat
  iref    : List Nat
  band    : Nat
  sent    : Bool
  acked   : Bool
  retries : Nat
  lastAt  : Nat
  deriving DecidableEq, Repr

/-- One lane group. -/
structure Group where
  presets  : List Nat              -- per data lane
  offered  : Option (List Nat × Nat)  -- presets of an accepted adaptation with its eye score
  resend   : List Resend
  corr     : List Corr
  lastTile : Nat                   -- the tile whose piece last sent a packet (rotation)
  lastCorr : Option Nat            -- the last granule it sent
  packets  : Nat                   -- packets below a whole unit of SPL_G_PKT_CNT
  since    : Nat                   -- half-ns when the stage began
  eyeLow   : Bool                  -- source 323 raised and not recovered
  caps     : List (Nat × Nat × Nat) -- CAPS reports of this bring-up: address, TILE_ID, latency
  adapting : Bool
  fresh    : Bool                  -- bring-up after a hold or a retrain rather than at start
  sent     : List Byte             -- the last packet sent, header row and payload
  scram    : List Nat              -- per data lane, the last 58 bits sent, the oldest in bit 0 (R213)
  line     : List (Nat × Nat)      -- the last row on the lanes: each block's sync header and scrambled bits (R212)
  prbs     : List Nat              -- far-end test: per lane, the last 31 bits sent; empty outside it (R242)
  fastAt   : Nat                   -- half-ns when the last fast retrain began (R240)
  deriving DecidableEq, Repr

def Group.reset : Group :=
  { presets := List.replicate 16 0, offered := none, resend := [], corr := [], lastTile := 0, lastCorr := none, packets := 0
    since := 0, eyeLow := false, caps := [], adapting := false, fresh := false, sent := []
    scram := List.replicate 16 0, line := [], prbs := [], fastAt := 0 }

/-- Panel-link state beyond its registers. -/
structure Spl where
  groups   : List Group
  queue    : List Update
  refsets  : List Refset
  carriedRestores : List Nat       -- restores requested for the next frame start, as tiles
  restoresIn : List Nat            -- restores requested in the running tick (R231)
  holdAsked : Bool                 -- SPL_HOLD asks for HOLD, which is not entered (R235)
  holdBy   : Nat                   -- what else asks for it: 0 nothing, 1 entry to sleep, 2 an orderly stop
  holdWas  : Bool                  -- HOLD was asked for at the end of the tick before (R231)
  holdLevel : Nat                  -- LEVEL of the HOLD last entered
  mark     : List Byte             -- the last MARK row sent
  begun    : Nat                   -- pieces of the frame begun so far
  trained  : List Bool             -- per tile, its group has trained since it was last included (R226)
  resumeOwed : Bool                -- HOLD is being left and RESUME is still to be sent (R235)
  eyes     : List (Nat × Nat)      -- per tile, the eye score and worst lane last reported; 255 before the first report
  deriving DecidableEq, Repr

def Spl.reset : Spl :=
  { groups := List.replicate 6 .reset, queue := [], refsets := [], carriedRestores := [], restoresIn := [], holdAsked := false, holdBy := 0, holdWas := false, holdLevel := 0
    mark := [], begun := 0, trained := List.replicate 48 false, resumeOwed := false, eyes := List.replicate 48 (255, 0) }

/-- One copy of a captured view (R245): role 0 FREE, 1 SCAN, 2 LATEST, 3 WORK. -/
structure Copy where
  role  : Nat
  frame : Option Nat               -- frame number of the content; none when unknown
  done  : Bool                     -- WORK: the unchanged hogels have been copied
  time  : Nat                      -- completion time of that frame, PTP ns
  deriving DecidableEq, Repr

/-- A captured view (R244). -/
structure CloneView where
  view   : Nat
  copies : List Copy
  deriving DecidableEq, Repr

/-- Auxiliary-output state beyond its registers. -/
structure Aux where
  views    : List CloneView         -- the view of AUX_CFG, then the writeback view where it differs
  prev     : List Rect              -- the rectangles of the last completed frame
  training : Bool                   -- link training is under way
  chBusy   : Option (Nat × Nat)     -- the sideband transaction under way: request code and length
  blank    : List (Nat × Nat)       -- lines of the running DisplayPort frame that go black from a column on
  infoFrame : List Byte             -- the last InfoFrame SDP sent
  deriving DecidableEq, Repr

def Aux.reset : Aux :=
  { views := [], prev := [], training := false, chBusy := none, blank := [], infoFrame := [] }

/-! ## Panel drive, Scorch map and calibration (R252 to R275) -/

/-- An integration pass (R261, R262). -/
structure Pass where
  second : Nat       -- sample second n
  weight : Nat
  start  : Nat       -- half-ns
  left   : Option (List Nat) -- granules still to visit, ascending; none: all of them (R262)
  deriving DecidableEq, Repr

/-- Panel-drive and calibration state beyond its registers. -/
structure Cal where
  stamps    : List (Option Nat)          -- per tile, half-ns of the last temperature write
  acked     : List (Option (List Nat))   -- per tile, the reference currents it last acknowledged
  bandNew   : List Bool                  -- per tile, its band changed and no REFSET has been acknowledged since
  alsAt     : Nat                        -- half-ns of the last ambient step
  pass      : Option Pass
  lastSec   : Option Nat                 -- sample second of the previous pass
  due       : Bool                       -- a pass start waits for the running pass (R261)
  pending   : List Nat                   -- pending granules, ascending (R264)
  applying  : Bool                       -- the apply of a frame's deltas is under way (R266)
  heldLevel : Option Nat                 -- HOLD level in force during the last sleep (R263)
  falls     : List Rect                  -- hogels whose correction fell (R268)
  runAgain  : Bool                       -- a trigger came during the run (R273)
  runStep   : Nat                        -- next pseudo-channel, then next group, of the run
  retraining : Option Nat                -- the pseudo-channel being retrained (R357)
  retrainAt : Nat                        -- half-ns of the last retrain start
  newDelays : List (Nat × List Nat)      -- delays that the run under way has accepted
  delaysIn  : List (Nat × List Nat)      -- delays of a finished run, for the next completion (R357)
  presetsIn : List (Nat × List Nat)      -- presets of a finished run by group, for the next completion
  stampsIn  : List Nat                   -- tiles whose temperature was written in the running tick (R256)
  refAgain  : List Nat                   -- tiles whose REFSET an abort discarded (R258)
  secTick   : Option Nat                 -- the event tick in which the last whole second came (R261)
  i2c       : Option (Nat × Nat)         -- the last read of the sensor port: address and register (R257)
  rejected  : Bool
  deriving DecidableEq, Repr

def Cal.reset : Cal :=
  { stamps := List.replicate 48 none, acked := List.replicate 48 none, bandNew := List.replicate 48 false, alsAt := 0
    pass := none, lastSec := none, due := false, pending := [], applying := false, heldLevel := none, falls := [], runAgain := false
    runStep := 0, retraining := none, retrainAt := 0, newDelays := [], delaysIn := [], presetsIn := [], stampsIn := []
    refAgain := [], secTick := none, i2c := none, rejected := false }

/-! ## Camera path (R154 to R178) -/

/-- A decoded picture the sequencer may select (R159). -/
structure Pic where
  ctx       : Nat
  slot      : Nat        -- picture buffer of the decoder context
  luma      : Nat        -- addresses and pitches of the picture
  chroma    : Nat
  pitch     : Nat
  cpitch    : Nat
  width     : Nat
  height    : Nat
  depth     : Nat
  capture   : Nat        -- capture time of its record, PTP ns
  concealed : Bool
  doneTick  : Nat        -- the event tick in which its decode completed
  deriving DecidableEq, Repr

/-- A build under way (R165, R166). -/
structure Build where
  number  : Nat
  buf     : Nat
  items   : Nat          -- items queued or running
  earliest : Nat         -- earliest capture time among the pictures, ns
  start   : Nat          -- half-ns of the build instant
  noSlot  : Bool
  used    : List Nat     -- slots of the buffer being filled
  disps   : List Nat     -- disparity of each plane, 16 bits
  tables  : List Nat     -- first slot of each plane's table block
  pics    : List (Nat × Nat) -- context and picture buffer of each picture in use
  wrote   : List (Nat × Nat × Bool) -- each position written: the carried pointer and occupancy (R173)
  deriving DecidableEq, Repr

/-- Camera-path state beyond its registers. -/
structure Cam where
  rigValid : Bool                    -- a valid rig copy has been in force
  misses   : List Nat                -- per camera, consecutive late instants
  pics     : List Pic
  build    : Option Build
  registering : Option Build         -- the buffer is being marked
  restart  : Bool
  restartIn : Bool                   -- RESTART written in the running tick (R175)
  selIn    : Bool                    -- RIG_SEL written in the running tick (R175)
  poolShort : Option Nat             -- free slots just after a build ended for lack of slots
  instant  : Option Nat              -- the event tick of the last build instant
  eyeSeq   : Option Nat              -- SEQ of the eye set committed last, by the host or the tracker (R174)
  buildMsg : Option (BuildMsg × Nat) -- on a secondary, the BUILD record that waits, and its build instant (R423)
  deriving DecidableEq, Repr

def Cam.reset : Cam :=
  { rigValid := false, misses := List.replicate 16 0, pics := [], build := none, registering := none, restart := false
    restartIn := false, selIn := false, poolShort := none, instant := none, eyeSeq := none, buildMsg := none }

/-! ## Ehrus links (R416 to R438) -/

/-- The transmitter and receiver of one link (R418). -/
structure EhlLink where
  nextSeq  : Nat
  waiting  : List (EhlMsg × Nat)     -- what the transmitter has still to send, with the bytes left, in order of arrival (R420)
  upAt     : Nat                     -- half-ns when the link came up: its row 0 began
  row      : Nat                     -- the first row not yet taken by a message
  unacked  : List (Nat × EhlMsg)     -- sent, oldest first
  sentAt   : Nat                     -- half-ns of the oldest unacknowledged transmission
  expect   : Nat                     -- the SEQ the receiver takes next
  naked    : Bool                    -- a NAK is out: messages are discarded until the replay
  lastRx   : Nat                     -- half-ns of the last message received
  reply    : Option (Bool × Nat)     -- the last ACK (true) or NAK sent, with its SEQ
  deriving DecidableEq, Repr

def EhlLink.reset : EhlLink :=
  { nextSeq := 0, waiting := [], upAt := 0, row := 0, unacked := [], sentAt := 0, expect := 0, naked := false, lastRx := 0, reply := none }

/-- The elastic buffer of a lane's receiver (R417): blocks in it, FILL blocks met and FILL blocks added or deleted in
the ms that runs. -/
structure Elastic where
  upAt  : Nat                        -- half-ns when the lane came up
  level : Nat
  fills : Nat
  adj   : Nat
  ms    : Nat                        -- whole ms since the lane came up
  deriving DecidableEq, Repr

/-- The buffer of a lane that comes up at `t` is half full (log entry 79). -/
def Elastic.start (t : Nat) : Elastic := { upAt := t, level := 16, fills := 0, adj := 0, ms := 0 }

/-- Ehrus state beyond the registers. -/
structure Ehl where
  links    : List EhlLink            -- 0 the pair link, 1 to 4 UL0 to UL3, 5 to 8 DL0 to DL3
  linkUp   : Bool                    -- the pair link is up
  since    : Nat                     -- half-ns when LINKING began
  lastAlive : Nat                    -- half-ns
  aliveSent : Nat
  partnerPair : Nat
  partnerSync : Bool
  fstart   : Option FrameRec         -- an FSTART that waits for its buffers (R423)
  fstartAt : Nat
  fend     : Option FendRec
  fendAt   : Nat
  synthDone : Bool                   -- the secondary's own synthesis of the frame has ended
  mirrored : List (Nat × Nat × Nat)  -- per mirrored buffer: stream, buffer, SEQ
  commitsIn : List Commit            -- mirrored commits that no FSTART has named
  joinLeft : List (Nat × Nat)        -- what the join has still to copy: address and length
  syncFrame : Nat                    -- 0 none, 1 the next frame start, 2 the frame in progress
  selfDone : Bool                    -- the sync frame has completed here
  lids     : List (Nat × Nat)        -- TLIDs that wait: SEQ and T in PTP ns
  lastLid  : Nat
  treeReset : Option (Nat × Nat)     -- kind and T
  arm      : Option (Bool × Nat × Nat) -- freeze, target in PTP ns, half-ns of the first tick that may act
  bcast    : Option (Nat × Nat)      -- MASK and children whose acknowledgement is missing
  bcErr    : Nat
  delay    : Option Nat              -- half-ns of departure of the last TDELAY request
  ttimeSent : Nat
  timeSet  : Bool                    -- the first TTIME of the source has been applied
  lockAt   : Option Nat              -- half-ns since which the offset has stayed within ±20 ns
  later    : List (EhlMsg × Nat)     -- FSTARTs and FENDs behind the ones that wait, with their arrival in half-ns
  parents  : List (Option Nat)       -- per up lane, the level of a far end that is in the tree and not silent
  elastic  : List (Option Elastic)   -- per lane, while it is UP
  deriving DecidableEq, Repr

def Ehl.reset : Ehl :=
  { links := List.replicate 9 .reset, linkUp := false, since := 0, lastAlive := 0, aliveSent := 0, partnerPair := 0
    partnerSync := false, fstart := none, fstartAt := 0, fend := none, fendAt := 0, synthDone := false, mirrored := []
    commitsIn := [], joinLeft := [], syncFrame := 0, selfDone := false, lids := [], lastLid := 0, treeReset := none, arm := none
    bcast := none, bcErr := 0, delay := none, ttimeSent := 0, timeSet := false, lockAt := none, later := []
    parents := List.replicate 4 none, elastic := List.replicate 16 none }

/-! ## Network unit (R309 to R335) -/

/-- A flow context as configured (R318 to R322). -/
structure FlowCtx where
  ctx    : Nat
  kind   : Nat
  rank   : Nat
  guar   : Bool          -- GUARANTEED
  ports  : Nat
  meter  : Nat           -- 0 none, 1 RFC 2697, 2 RFC 2698
  ydrop  : Bool          -- YELLOW_DROP
  image  : Bool          -- defined by the image or the device
  target : Nat
  queue  : Nat
  rates  : List Nat      -- CIR, CBS, EIR or PIR, EBS or PBS
  tmpl   : Nat
  rtp    : Bool          -- RTP_CLOCK
  av1    : Bool
  deriving DecidableEq, Repr

/-- A flow-table entry: key, context, and whether software added it (R322). -/
structure ExactEntry where
  key  : List Byte
  ctx  : Nat
  soft : Bool
  deriving DecidableEq, Repr

/-- Buckets of a meter in 1/65,536 byte (R329): committed, and excess or peak. -/
structure Bucket where
  ctx : Nat
  tc  : Nat
  te  : Nat
  deriving DecidableEq, Repr

/-- The counts of a context: GREEN, DROPPED, LOSS (R335). -/
structure FlowCount where
  ctx     : Nat
  green   : Nat
  dropped : Nat
  loss    : Nat
  deriving DecidableEq, Repr

/-- A node-table entry (R311). -/
structure Node where
  addr  : Nat
  high  : Nat
  seen  : Nat            -- bit i: the SeqNr i + 1 below the highest has been seen
  last  : Nat            -- half-ns of its last frame
  born  : Nat
  lastP : List (Option Nat)  -- per port, half-ns when last heard
  lost  : List Bool      -- per port, its silence has been reported
  deriving DecidableEq, Repr

/-- A frame held in an ingress buffer (R330), without FCS and RCT. -/
structure InFrame where
  ctx    : Nat
  rank   : Nat
  kind   : Nat
  target : Nat
  bytes  : List Byte
  len    : Nat           -- bytes of buffer
  stamp  : Nat           -- receive timestamp in 1/256 ns of PTP time
  yellow : Bool
  rct    : Bool          -- an RCT was removed
  shared : Bool          -- it lies in the shared part
  deriving DecidableEq, Repr

/-- A frame in an egress queue, without FCS (R332). -/
structure OutFrame where
  ctx   : Nat
  bytes : List Byte
  ts    : Option Nat     -- TS_ID of a frame with TS_REQ
  enq   : Nat            -- half-ns of its enqueue tick
  enc   : Option Nat     -- the encoder context whose AU it carries
  deriving DecidableEq, Repr

/-- An egress queue: its frames, and the shaper's credit in 10^-8 bit as of a moment in 1/100 half-ns (R332). -/
structure Queue where
  frames : List OutFrame
  credit : Int
  at_    : Nat
  deriving DecidableEq, Repr

/-- An entry of a transmit-timestamp queue (R316). -/
structure TxStamp where
  id   : Nat
  time : Nat             -- 1/256 ns of PTP time
  deriving DecidableEq, Repr

/-- RTP reassembly for a decoder context (R324). -/
structure RtpRx where
  next    : Option Nat   -- expected sequence number
  ssrc    : Nat
  opened  : Bool         -- an AU is being gathered
  ts      : Nat          -- RTP timestamp of that AU
  stamp   : Nat          -- receive timestamp of its first packet
  units   : List (List Byte)     -- the NAL units or OBUs gathered
  frag    : Option (List Byte)   -- the one that fragments are building
  loss    : Bool
  discont : Bool         -- owed to the next AU
  auDisc  : Bool         -- the AU being gathered carries DISCONT
  pos     : Nat          -- where the next AU goes in the data area
  auNo    : Nat
  deriving DecidableEq, Repr

def RtpRx.reset : RtpRx :=
  { next := none, ssrc := 0, opened := false, ts := 0, stamp := 0, units := [], frag := none, loss := false, discont := false
    auDisc := false, pos := 0, auNo := 0 }

/-- Packetisation of an encoder context's AUs (R327). -/
structure EncTx where
  seq  : Nat             -- the next RTP sequence number
  next : Nat             -- packets of the present AU that have been queued
  out  : Nat             -- queued copies not yet sent or dropped
  all  : Bool            -- every packet of the AU has been queued
  deriving DecidableEq, Repr

/-- Network-unit state beyond its registers. -/
structure Net where
  flows    : List FlowCtx            -- as commanded
  flowsOn  : List FlowCtx            -- as in force for the frames of this tick (R322)
  exact    : List ExactEntry
  exactOn  : List ExactEntry
  counts   : List FlowCount
  buckets  : List Bucket
  refilled : Option Nat              -- the tick of the last refill (R329)
  nodes    : List Node
  seqNr    : Nat                     -- the node's SeqNr counter (R311)
  supAt    : Nat                     -- half-ns of the last supervision frame
  supSeq   : Nat                     -- its sequence number
  held     : List (List InFrame)     -- per port, the ingress buffer, oldest first
  drainTurn : Nat                    -- the port drained next among equals (R330)
  loss     : List Nat                -- the loss list (R331)
  queues   : List Queue              -- queue q of port p at 64 p + q; 128 + p holds the port's own supervision frames
  txEnd    : List Nat                -- per port, the end of the frame being sent, in 1/100 half-ns
  txTurn   : List Nat                -- per port, the rotation pointer of R333
  tsq      : List (List TxStamp)     -- per port
  hist     : List (Nat × Nat)        -- histogram bins by the bits of NET_HIST_SEL (R334)
  histTick : Nat                     -- the tick of the last depth sample
  errAt    : List (Option Nat)       -- per port, half-ns when source 514 + 32p was last raised
  sent     : List (List Byte)        -- per port, the last frame sent
  rtp      : List RtpRx              -- per decoder context
  encTx    : List EncTx              -- per encoder context
  deriving DecidableEq, Repr

def Net.reset : Net :=
  { flows := [], flowsOn := [], exact := [], exactOn := [], counts := [], buckets := [], refilled := none, nodes := [], seqNr := 0
    supAt := 0, supSeq := 0, held := [[], []], drainTurn := 0, loss := [], queues := List.replicate 130 ⟨[], 0, 0⟩, txEnd := [0, 0], txTurn := [0, 0]
    tsq := [[], []], hist := [], histTick := 0, errAt := [none, none], sent := [[], []], rtp := List.replicate 64 .reset
    encTx := List.replicate 16 ⟨0, 0, 0, false⟩ }

/-! ## Video codec (R276 to R306) -/

/-- A picture of a decoder context in the pool (R284 to R286, R294). -/
structure PoolPic where
  ctx     : Nat
  slot    : Nat          -- its number among the pictures of its context
  luma    : Nat          -- first page of each plane, and its pages
  lpages  : Nat
  chroma  : Nat
  cpages  : Nat
  width   : Nat
  height  : Nat
  depth   : Nat
  order   : Nat
  flags   : Nat          -- as its record will carry them
  auNo    : Nat
  tsNs    : Nat
  tsSec   : Nat
  doneNs  : Nat
  doneSec : Nat
  doneTick : Nat
  blocks  : Nat          -- CONCEAL_BLK
  shown   : Option Nat   -- its number among the output pictures of its context
  deriving DecidableEq, Repr

/-- A picture that a decoder context holds as a reference (R287, R289): its number in decode order and its samples. -/
structure RefPic where
  number    : Nat
  width     : Nat
  height    : Nat
  concealed : Bool
  luma      : List Nat
  cb        : List Nat
  cr        : List Nat
  deriving DecidableEq, Repr

/-- A decoder context beyond its registers. -/
structure DecCtx where
  seen     : Nat         -- PUT as of the last tick end (R281)
  resync   : Bool        -- the next picture carries RESYNC (R291)
  flushAsked : Bool      -- what waits for the picture in progress (R304)
  resetAsked : Bool
  offAsked : Bool
  poolRaised : Bool      -- source 421 has been raised for the next picture (R284)
  nextSlot : Nat
  outCount : Nat
  decoded  : Nat         -- number of the next picture in decode order
  refs     : List RefPic -- the references held, newest first
  deriving DecidableEq, Repr

def DecCtx.reset : DecCtx :=
  { seen := 0, resync := false, flushAsked := false, resetAsked := false, offAsked := false, poolRaised := false, nextSlot := 0, outCount := 0
    decoded := 0, refs := [] }

/-- The picture in progress on a decoder core. -/
structure DecJob where
  ctx    : Nat
  flags  : Nat           -- of the AU's descriptor
  tsNs   : Nat
  tsSec  : Nat
  auNo   : Nat
  poison : Bool          -- the AU data held a poisoned word
  luma   : Nat
  chroma : Nat
  width  : Nat
  height : Nat
  depth  : Nat
  deriving DecidableEq, Repr

/-- An encoder context beyond its registers. -/
structure EncCtx where
  seen    : Nat          -- IN_PUT as of the last tick end (R304)
  coded   : Nat          -- pictures coded since it was enabled
  fill    : Nat          -- F of the next picture at its instant, before Δ is added (R300)
  instant : Nat          -- PTP ns of the last coded picture's instant
  lastAt  : Option Nat   -- the event tick of the last encode instant handled
  sinceIdr : Nat         -- pictures since the last IDR
  remake  : Bool         -- crop, ROT or MIRROR changed: the next picture is an IDR (R295)
  auNo    : Nat
  pos     : Nat          -- where the next AU goes in the data area
  deriving DecidableEq, Repr

def EncCtx.reset : EncCtx :=
  { seen := 0, coded := 0, fill := 0, instant := 0, lastAt := none, sinceIdr := 0, remake := false, auNo := 0, pos := 0 }

/-- A picture that an encoder context has to code. -/
structure EncJob where
  ctx     : Nat
  instant : Nat
  input   : Bool         -- it codes an input; else a repeat
  idr     : Bool
  tag     : Nat
  tsNs    : Nat
  tsSec   : Nat
  inGet   : Nat
  poison  : Bool
  before  : Nat          -- F(n)
  source  : List (List Nat)  -- the planes Y, Cb and Cr that the core codes (R297); none for a repeat
  deriving DecidableEq, Repr

/-- Codec state beyond the registers. -/
structure Codec where
  dec    : List DecCtx
  pool   : List PoolPic
  cores  : List (Option DecJob)
  turn   : List Nat              -- per core and precedence, the rotation pointer: 2 c + class
  busy   : List Nat              -- per decoder core, FABCLK cycles not yet counted in VDEC_CORE_BUSY (R305)
  enc    : List EncCtx
  waitE  : List EncJob
  coresE : List (Option EncJob)
  turnE  : List Nat              -- per core and rank class
  deriving DecidableEq, Repr

def Codec.reset : Codec :=
  { dec := List.replicate 64 .reset, pool := [], cores := List.replicate 4 none, turn := List.replicate 8 0
    busy := List.replicate 4 0
    enc := List.replicate 16 .reset, waitE := [], coresE := [none, none], turnE := List.replicate 4 0 }

/-! ## The stops of a step -/

/-- Why a step stops with a fault: nothing in the spec stops this block as a whole (an engine fault of R119 stops
one engine and is state), so the type has no constructor. -/
inductive Fault where
  deriving DecidableEq, Repr

/-- Why a command is refused a meaning. -/
inductive Refusal where
  /-- Raised by a dispatch arm whose command has no meaning yet; safe. -/
  | notModelled (mnemonic : String)
  deriving DecidableEq, Repr

/-! ## The state -/

/-- The whole machine. -/
structure State where
  regs    : List (Nat × Word)    -- BAR0 by offset; an unlisted register holds its reset value (R4, R20)
  was     : List (Nat × Word)    -- the registers at the end of the tick before, for the same-tick rules (R54, R200, R231)
  mem     : List Host.Cell       -- device memory by address (R22)
  poison  : List Nat             -- 16-byte words in poison form (R346), by address / 16
  now     : Nat                  -- half-nanoseconds since the last power-good
  freeCtr : Nat                  -- the model's own: how many free values have been taken
  evc     : Evc
  tmu     : Tmu
  pwr     : Pwr
  hbm     : Hbm
  pcie    : Pcie
  streams : List Stream          -- the eight stack streams (R72)
  lease   : Lease
  sup     : Support
  csu     : Csu
  engines : List Engine          -- the 128 engines, by global number (R10)
  chans   : List Channel
  frame   : Frame
  cmp     : Composer
  ovl     : Overlay
  spl     : Spl
  aux     : Aux
  cal     : Cal
  cam     : Cam
  ehl     : Ehl
  net     : Net
  codec   : Codec
  pending : List Instr           -- commands waiting, first in, first out
  deriving DecidableEq, Repr

/-- Right after power-good rises for the first time: registers at their reset values, memory with nothing listed. -/
def State.reset : State :=
  { regs := [], was := [], mem := [], poison := [], now := 0, freeCtr := 0, evc := .reset, tmu := .reset, pwr := .reset
    hbm := .reset, pcie := .reset, streams := List.replicate 8 .reset, lease := .reset, sup := .reset
    csu := .reset, engines := List.replicate 128 .reset, chans := List.replicate 4 .reset, frame := .reset, cmp := .reset
    ovl := .reset, spl := .reset, aux := .reset, cal := .reset, cam := .reset, ehl := .reset, net := .reset, codec := .reset
    pending := [] }

end Sys2Proof.Machine
end

