-- ==== Sys2Proof/Machine/Ops.lean ====
section
/-!
DEFINITION. The named operations over the register file, over device memory and over the event sources that every
family uses.
-/

namespace Sys2Proof.Machine

/-! ## Registers (R4, R5) -/

/-- The contents of the register at BAR0 offset `off`. -/
def State.rd (s : State) (off : Nat) : Word := sparseGet resetWord s.regs off

/-- The state with `v` in the register at `off`. -/
def State.wr (s : State) (off : Nat) (v : Word) : State := { s with regs := sparseSet resetWord s.regs off v }

/-- The contents of a register as a number. -/
def State.rdN (s : State) (off : Nat) : Nat := (s.rd off).toNat

/-- The state with a number, modulo 2^32, in a register. -/
def State.wrN (s : State) (off v : Nat) : State := s.wr off (BitVec.ofNat 32 v)

/-- The field of a register word. -/
def Fld.ext (f : Fld) (w : Word) : Nat := w.toNat / 2 ^ f.lo % 2 ^ (f.hi + 1 - f.lo)

/-- A register word with the field set to `x`, taken modulo its width. -/
def Fld.ins (f : Fld) (w : Word) (x : Nat) : Word :=
  let n := 2 ^ (f.hi + 1 - f.lo)
  BitVec.ofNat 32 (w.toNat % 2 ^ f.lo + (x % n) * 2 ^ f.lo + w.toNat / 2 ^ (f.hi + 1) * 2 ^ (f.hi + 1))

/-- The value of a register field. -/
def State.get (s : State) (f : Fld) : Nat := f.ext (s.rd f.off)

/-- The state with `x` in a register field. -/
def State.put (s : State) (f : Fld) (x : Nat) : State := s.wr f.off (f.ins (s.rd f.off) x)

/-- A one-bit field as a truth value. -/
def State.on (s : State) (f : Fld) : Bool := s.get f == 1

/-- Set or clear one bit of a register. -/
def State.putBit (s : State) (off i : Nat) (b : Bool) : State := s.put ⟨off, i, i⟩ (bit b)

/-- Set a one-bit field. -/
def State.putB (s : State) (f : Fld) (b : Bool) : State := s.put f (bit b)

/-- Add `n` to a saturating counter register (R335, R362, R412 and the other RC registers). -/
def State.countN (s : State) (off n : Nat) : State := s.wrN off (min (s.rdN off + n) 0xFFFFFFFF)

/-- Add one to a saturating counter register. -/
def State.count (s : State) (off : Nat) : State := s.countN off 1

/-- Bits [hi:lo] of the register at `off`, for registers the spec describes in one line. -/
def State.bits (s : State) (off hi lo : Nat) : Nat := s.get ⟨off, hi, lo⟩

/-- The 36-bit address in a LO and HI register pair. -/
def State.addr36 (s : State) (lo hi : Nat) : Nat := s.rdN lo + 2 ^ 32 * (s.rdN hi % 16)

/-- Put a 36-bit address into a LO and HI register pair. -/
def State.putAddr36 (s : State) (lo hi a : Nat) : State := (s.wrN lo (a % 2 ^ 32)).wrN hi (a / 2 ^ 32 % 16)

/-! ## Registers at the end of the tick before (R54, R200, R231) -/

def State.wasRd (s : State) (off : Nat) : Word := sparseGet resetWord s.was off
def State.wasN (s : State) (off : Nat) : Nat := (s.wasRd off).toNat
def State.wasGet (s : State) (f : Fld) : Nat := f.ext (s.wasRd f.off)
def State.wasBits (s : State) (off hi lo : Nat) : Nat := s.wasGet ⟨off, hi, lo⟩

/-! ## Free values -/

/-- The next free value. -/
def State.freeVal (s : State) : Word := Config.freeWord s.freeCtr

/-- The state once its next free value has been taken. -/
def State.freeNext (s : State) : State := { s with freeCtr := s.freeCtr + 1 }

/-- The state once `n` free values have been taken. -/
def State.freeSkip (s : State) (n : Nat) : State := { s with freeCtr := s.freeCtr + n }

/-! ## Events (R387, R389) -/

/-- Class numbers in order of precedence. -/
abbrev clsFatal : Nat := 0
abbrev clsThermal : Nat := 1
abbrev clsLink : Nat := 2
abbrev clsMemory : Nat := 3
abbrev clsTime : Nat := 4
abbrev clsStream : Nat := 5
abbrev clsCompletion : Nat := 6
abbrev clsGeneral : Nat := 7

/-- The sources of each class, from the owning chapters' event tables, for sources with one fixed number. -/
def classSources : List (Nat × List Nat) :=
  [(clsFatal, [34, 106, 648]),
   (clsThermal, [99, 100, 102, 103, 107, 649]),
   (clsLink, [9, 321, 322, 323, 324, 325, 326, 327, 385, 386, 513, 514, 515, 516, 545, 546, 547, 548, 801, 802, 803,
              807, 808, 810, 873]),
   (clsMemory, [3, 5, 6, 423, 485, 640, 641, 642, 643, 645, 646, 647, 650, 706, 771, 867, 868]),
   (clsTime, [64, 65, 66, 67, 69, 71, 814, 816]),
   (clsStream, [258, 261, 263, 272, 273, 274, 276, 277, 280, 289, 292, 293, 294, 295, 417, 418, 419, 420, 421, 425,
                481, 484, 577, 579, 581, 582, 739, 804, 811, 930, 931, 932, 938, 939, 940, 946, 947, 948]),
   (clsCompletion, [0, 8, 10, 32, 36, 38, 68, 70, 96, 97, 104, 105, 262, 265, 266, 268, 275, 320, 328, 329, 330, 387,
                    416, 480, 512, 544, 644, 704, 736, 768, 769, 800, 805, 809, 813, 815, 865, 869, 872, 874])]

/-- Classes of the channel sources 128 + 32c + i, by index i (R124). -/
def channelClass (i : Nat) : Nat :=
  if 1 ≤ i ∧ i ≤ 4 then clsMemory else if i = 5 then clsCompletion else clsGeneral

/-- The class of a source (R389); GENERAL for every source no list names. -/
def sourceClass (n : Nat) : Nat :=
  if 128 ≤ n ∧ n < 256 then channelClass (n % 32)
  else match classSources.find? (fun e => e.2.contains n) with
    | some e => e.1
    | none => clsGeneral

/-- Raise a source in a list of raised sources: a second raise in the tick ORs a mask, or sets MULTI and keeps the
first data (R387). -/
def raiseIn (mask : Bool) (src cls data : Nat) : List Raised → List Raised
  | [] => [⟨src, cls, data, false⟩]
  | r :: t =>
    if r.source = src then (if mask then { r with data := r.data ||| data } else { r with multi := true }) :: t
    else r :: raiseIn mask src cls data t

/-- Raise source `src` of class `cls` with data. -/
def State.raiseCls (s : State) (mask : Bool) (src cls data : Nat) : State :=
  { s with evc := { s.evc with raised := raiseIn mask src cls data s.evc.raised } }

/-- Raise a source with data. -/
def State.raise (s : State) (src data : Nat) : State := s.raiseCls false src (sourceClass src) data

/-- Raise a source whose data is a mask: bit `i`. -/
def State.raiseMask (s : State) (src mask : Nat) : State := s.raiseCls true src (sourceClass src) mask

/-- Raise a source at most once per tick, without MULTI. -/
def State.raiseOnce (s : State) (src data : Nat) : State :=
  if s.evc.raised.any (fun r => r.source == src) then s else s.raise src data

/-- Raise a source when a condition holds. -/
def State.raiseIf (s : State) (c : Bool) (src data : Nat) : State := if c then s.raise src data else s

/-- Code POOL of CMP_COMMIT_STATUS (R196). -/
abbrev commitPool : Nat := 0x0A

/-! ## Time -/

/-- The code of PWR_STATE.STATE (R397). -/
def State.pwrState (s : State) : Nat := s.get ⟨PWR_STATE, 2, 0⟩

/-- The always-on domain runs alone: SLEEP, DEEP_SLEEP or STOPPED, or a wake from SLEEP before the retained state
has moved into CORE, 56 µs after its cause (R397, R401). -/
def State.asleep (s : State) : Bool :=
  s.pwrState == 3 || s.pwrState == 5 || s.pwrState == 6
    || (s.pwrState == 4 && s.pwr.slept && decide (s.now < s.pwr.wakeStart + 112000))

/-- The PLLs in the order of R16, as the bits of PWR_PLL_STATUS. -/
abbrev pllEngine : Nat := 1
abbrev pllFabric : Nat := 2
abbrev pllTime : Nat := 5
abbrev pllPcie : Nat := 14

/-- The PLL has locked, so the functions of its domain run (R16). -/
def State.pllLocked (s : State) (p : Nat) : Bool := bitAt (s.rdN PWR_PLL_STATUS) p

/-- Half-nanoseconds of one event tick: the divider in force, or 1 µs while asleep (R386, R397). -/
def State.tickHalfNs (s : State) : Nat :=
  if s.asleep then 2000 else 125 * s.evc.div

/-- PTP seconds. -/
def State.ptpSec (s : State) : Nat := s.tmu.time / (10 ^ 9 * 2 ^ 32)

/-- PTP nanoseconds within the second. -/
def State.ptpNs (s : State) : Nat := s.tmu.time / 2 ^ 32 % 10 ^ 9

/-- PTP time in whole nanoseconds. -/
def State.ptpTotalNs (s : State) : Nat := s.tmu.time / 2 ^ 32

/-- The PTP ns from which instants of this tick are taken: a forward step brings in those that it passes over (R313). -/
def State.ptpFrom (s : State) : Nat := s.tmu.stepped.getD s.ptpTotalNs

/-- PTP time in nanoseconds, rounded up, at the end of the running event tick: an instant in whole nanoseconds falls in
the tick or before it when it lies below this, and at exactly the end it belongs to the next tick (R9, log entry 12). -/
def State.ptpTickEnd (s : State) : Nat := (s.tmu.time + s.tickHalfNs * s.tmu.incr / 8 + 2 ^ 32 - 1) / 2 ^ 32

/-- PTP time in whole nanoseconds at the end of the running event tick. -/
def State.ptpAtEnd (s : State) : Nat := (s.tmu.time + s.tickHalfNs * s.tmu.incr / 8) / 2 ^ 32

/-- Microseconds since power-good. -/
def State.nowUs (s : State) : Nat := s.now / 2000

/-! ## Device memory (R22, R343 to R346) -/

/-- What a byte of device memory that nothing has written reads as (log entry 3). -/
def emptyByte (_ : Nat) : Byte := 0

/-- One byte of device memory. -/
def memByte (m : List Host.Cell) (a : Nat) : Byte := sparseGet emptyByte m a

/-- Store one byte. -/
def memPut (m : List Host.Cell) (a : Nat) (b : Byte) : List Host.Cell := sparseSet emptyByte m a b

/-- Store bytes from `a` on. -/
def memPutAll (m : List Host.Cell) (a : Nat) : List Byte → List Host.Cell
  | [] => m
  | b :: t => memPutAll (memPut m a b) (a + 1) t

/-- The canonical form of device memory. -/
abbrev Memory.wf (m : List Host.Cell) : Bool := sparseWf emptyByte m

/-- `n` bytes from `a` on. -/
def State.memRead (s : State) (a n : Nat) : List Byte := (List.range n).map (fun i => memByte s.mem (a + i))

/-- The little-endian number of `n` bytes at `a`. -/
def State.memNat (s : State) (a n : Nat) : Nat := leNat (s.memRead a n)

/-- The 16-byte word that holds address `a` is in poison form. -/
def State.poisonedAt (s : State) (a : Nat) : Bool := s.poison.contains (a / 16)

/-- Some 16-byte word of [a, a+n) is in poison form. -/
def State.poisonedIn (s : State) (a n : Nat) : Bool := s.poison.any (fun w => decide (a / 16 ≤ w ∧ w * 16 < a + n))

/-- Size of device memory: 40 GiB. -/
abbrev memSize : Nat := 40 * 2 ^ 30

/-- Count and report a read request by `client` that met a word in poison form (R343, R346). -/
def State.notePoisonRead (s : State) (client : Nat) : State := (s.count MEM_POISON_READ_CNT).raiseMask 642 (2 ^ client)

/-- Put the word that holds `a` into poison form. -/
def State.putPoison (s : State) (a : Nat) : State := { s with poison := setInsert (a / 16) s.poison }

/-- Bytes of [a, a+n) grouped by the 16-byte word they fall in: word number, first address, byte count. -/
def wordSpans (a n : Nat) : List (Nat × Nat × Nat) :=
  if n = 0 then []
  else (List.range ((a + n - 1) / 16 + 1 - a / 16)).map (fun k =>
    let w := a / 16 + k
    let lo := max a (16 * w)
    (w, lo, min (a + n) (16 * w + 16) - lo))

/-- A write landing in one 16-byte word (R345): a whole-word write replaces poison, a narrower one into a word in
poison form is discarded and reported with its client. -/
def State.memWriteWord (s : State) (client a : Nat) (bs : List Byte) : State :=
  if bs.length < 16 && s.poisonedAt a then s.notePoisonRead client
  else
    let s := { s with mem := memPutAll s.mem a bs }
    if bs.length < 16 then s else { s with poison := setErase (a / 16) s.poison }

/-- A write of `bs` at `a` by `client`: R345 word by word, and UNTOUCHED clears at the first byte that lands (R361). -/
def State.memWrite (s : State) (client a : Nat) (bs : List Byte) : State :=
  let s' := (wordSpans a bs.length).foldl
    (fun st w => st.memWriteWord client w.2.1 (slice bs (w.2.1 - a) w.2.2)) s
  if bs.isEmpty || (wordSpans a bs.length).all (fun w => decide (w.2.2 < 16) && s.poisonedAt w.2.1) then s'
  else s'.put MEM_STATUS_UNTOUCHED 0

/-- Store a little-endian number of `n` bytes. -/
def State.memWriteNat (s : State) (client a n v : Nat) : State := s.memWrite client a (leBytes n v)

/-! ## Regions (R22, R37): 0 HOST, 1 PLANE, 2 CODEC, 3 MIRROR, 4 SCORCH, 5 CORRECT, 6 CONTROL -/

/-- Base address of region `r`. -/
def State.regionBase (s : State) (r : Nat) : Nat := 2 ^ 29 * s.bits (MEM_REGION r) 6 0

/-- Size of region `r` in bytes. -/
def State.regionSize (s : State) (r : Nat) : Nat := 2 ^ 29 * s.bits (MEM_REGION r) 22 16

/-- [a, a+n) lies wholly inside region `r`. -/
def State.inRegion (s : State) (r a n : Nat) : Bool :=
  decide (s.regionBase r ≤ a ∧ a + n ≤ s.regionBase r + s.regionSize r)

/-- The region that holds address `a`, if any. -/
def State.regionOf (s : State) (a : Nat) : Option Nat := (List.range 7).find? (fun r => s.inRegion r a 1)

end Sys2Proof.Machine
end

