-- ==== Sys2Proof/Machine/EhlLink.lean ====
section
/-!
DEFINITION. The Ehrus links (R416 to R420): rows and FILL blocks, sending a message, the transmitter's precedence, and
the receivers' elastic buffers.
-/

namespace Sys2Proof.Machine

/-! ## Links: 0 is the pair link, 1 to 4 are UL0 to UL3, 5 to 8 are DL0 to DL3 -/

def State.ehlLink (s : State) (l : Nat) : EhlLink := s.ehl.links.getD l .reset
def State.setLink (s : State) (l : Nat) (f : EhlLink → EhlLink) : State :=
  { s with ehl := { s.ehl with links := s.ehl.links.modify l f } }

/-- A link that comes up at `t`: numbering starts afresh (log entry 79). -/
def linkAt (t : Nat) : EhlLink := { EhlLink.reset with upAt := t, lastRx := t }

/-- The link carries messages: the pair link is up, or the hierarchy lane's state is UP (R437). -/
def State.ehlUp (s : State) (l : Nat) : Bool :=
  if l = 0 then s.ehl.linkUp else l < 9 && s.get (EHL_LANE_STATUS_STATE (7 + l)) == 2

/-! ## Messages in the transmitter (R418, R420) -/

/-- Precedence of a message. -/
def ehlClass : EhlMsg → Nat
  | .handover | .alive .. | .treset .. | .tlid .. | .tarm .. => 1
  | .fstart _ | .fend _ | .ttime _ | .tdelay _ | .tstatus .. | .power _ => 2
  | .regw _ | .stack _ | .commit _ | .build _ => 3
  | .join _ | .tbcast .. => 4

/-- Data bytes of a mirrored buffer and of a mirrored commit. -/
def stackBytes (m : StackMsg) : Nat :=
  64 + 16 * m.planes.length + m.tiles.foldl (fun n t => n + 8 + (match t.bytes with | some _ => 5120 | none => 0)) 0
def commitBytes (m : CommitMsg) : Nat := 8 * m.shadow.length + 5128 * m.tiles.length

/-- Data bytes of a message; the spec gives the kinds' contents and no layout, so that only the time a message takes on
its link rests on them (log entry 80). -/
def ehlBytes : EhlMsg → Nat
  | .alive .. | .tlid .. | .treset .. | .tarm .. | .ttime _ => 16
  | .regw w => 8 * w.length
  | .stack m => stackBytes m
  | .commit m => commitBytes m
  | .build m => 16 + 16 * m.pictures.length
  | .fstart _ => 4096
  | .fend r => 24 + 6920 * r.deltas.length
  | .handover => 0
  | .power _ | .tstatus .. => 8
  | .join (.bytes _ d) => d.length
  | .join (.commit m) => commitBytes m
  | .join (.stack m _) => stackBytes m
  | .join .done => 8
  | .tdelay _ => 32
  | .tbcast _ _ bs => bs.length

/-- Data bytes of the piece that leaves next: a message holds at most 4,096 (R418, log entry 80). -/
def pieceOf (left : Nat) : Nat := min left 4096

/-- Rows of a message with `n` data bytes, its MSG and END blocks with it: 8 blocks a row on the pair link, one on a
hierarchy lane (R416, R418). -/
def linkRows (l n : Nat) : Nat := if l = 0 then ceilDiv (2 + ceilDiv n 8) 8 else 2 + ceilDiv n 8

/-- The first row that begins at or after `t`: a row takes 66 bits of a lane at 32 Gb/s, 33/8 half-ns (R416). -/
def rowFrom (k : EhlLink) (t : Nat) : Nat := ceilDiv (8 * (t - k.upAt)) 33

/-- The row behind `n` rows taken from row `r` on: every 2,048th row carries FILL instead (R417). -/
def rowAfter (r n : Nat) : Nat :=
  let u := r - r / 2048
  u + n + (u + n - 1) / 2047

/-- Send a message: it waits for the transmitter (R420). -/
def State.ehlSend (s : State) (l : Nat) (m : EhlMsg) : State :=
  if s.ehlUp l then s.setLink l (fun k => { k with waiting := k.waiting ++ [(m, ehlBytes m)] }) else s

/-- Index of the message that leaves next: the first one of the lowest precedence number (R420). -/
def nextOut (w : List (EhlMsg × Nat)) : Option Nat :=
  (List.range 4).findSome? (fun c => w.findIdx? (fun e => ehlClass e.1 == c + 1))

/-- A message with the time of its departure (R419, R435). -/
def stamped (t : Nat) : EhlMsg → EhlMsg
  | .ttime _ => .ttime t
  | .tdelay (.request _) => .tdelay (.request t)
  | .tdelay (.reply a b _) => .tdelay (.reply a b t)
  | m => m

/-- Piece i of the waiting messages takes its rows from row `r` on; behind its last piece the message takes the link's
next SEQ and is kept until it is acknowledged (R418). -/
def State.ehlLeave (s : State) (l i r : Nat) : State :=
  let k := s.ehlLink l
  match k.waiting[i]? with
  | none => s
  | some (m, left) =>
    let n := pieceOf left
    let t := s.ptpTotalNs + (k.upAt + 33 * r / 8 - s.now) / 2
    s.setLink l (fun x =>
      let y := { x with row := rowAfter r (linkRows l n) }
      if n < left then { y with waiting := x.waiting.set i (m, left - n) }
      else { y with waiting := x.waiting.eraseIdx i, nextSeq := (x.nextSeq + 1) % 65536
                    unacked := x.unacked ++ [(x.nextSeq, stamped t m)], sentAt := if x.unacked.isEmpty then s.now else x.sentAt })

/-- The transmitter of link `l` begins, in this tick, every message whose turn comes in it. -/
def State.ehlServe (s : State) (l : Nat) : Nat → State
  | 0 => s
  | n + 1 =>
    let k := s.ehlLink l
    let r := max k.row (rowFrom k s.now)
    match nextOut k.waiting with
    | none => s
    | some i => if r < rowFrom k (s.now + s.tickHalfNs) then (s.ehlLeave l i r).ehlServe l n else s

/-! ## Elastic buffers (R417) -/

/-- A lane's buffer meets a FILL block: one is deleted while the buffer is more than half full, one is added when it has
fallen to 4 blocks. -/
def meetFill (l : Nat) (e : Elastic) : Elastic :=
  let v := ((e.level : Int) + clampInt (-1) 1 (Config.ehlDrift l e.fills)).toNat
  let y := { e with fills := e.fills + 1 }
  if 16 < v then { y with level := v - 1, adj := e.adj + 1 }
  else if v ≤ 4 then { y with level := v + 1, adj := e.adj + 1 }
  else { y with level := v }

/-- Lane `l` at the end of the tick: the FILL blocks of the tick, and FILL_ADJ at each whole ms (R417, R437). -/
def State.settleLane (s : State) (l : Nat) (e : Elastic) : State :=
  let t := s.now + s.tickHalfNs - e.upAt
  let e1 := if e.fills < t / 8448 then meetFill l e else e
  let s1 := if e1.ms < t / 2000000 then s.put (EHL_LANE_STATUS_FILL_ADJ l) (min e1.adj 255) else s
  let e2 := if e1.ms < t / 2000000 then { e1 with ms := t / 2000000, adj := 0 } else e1
  { s1 with ehl := { s1.ehl with elastic := s1.ehl.elastic.set l (some e2) } }

/-- The links at the end of a tick (R417, R420). -/
def State.settleLinks (s : State) : State :=
  let s1 := (List.range 9).foldl (fun (st : State) l =>
    if (st.ehlLink l).waiting.isEmpty || !st.ehlUp l then st else st.ehlServe l (st.tickHalfNs + 1)) s
  (List.range 16).foldl (fun (st : State) l => match st.ehl.elastic.getD l none with | some e => st.settleLane l e | none => st) s1

end Sys2Proof.Machine
end

