-- ==== Sys2Proof/Machine/Crypto.lean ====
section
/-!
DEFINITION. The published algorithms the spec names: the CRCs of R373, SHA-384 and ECDSA over P-384 (R36), on plain
numbers.
-/

namespace Sys2Proof.Machine

/-! ## CRCs (R373) -/

/-- One bit of a reflected CRC register. -/
def crcReflBit (poly crc : Nat) : Nat := if crc % 2 = 1 then crc / 2 ^^^ poly else crc / 2

/-- One byte of a reflected CRC. -/
def crcReflByte (poly crc : Nat) (b : Byte) : Nat :=
  (List.range 8).foldl (fun c _ => crcReflBit poly c) (crc ^^^ b.toNat)

/-- One byte of a CRC of `w` bits, most significant bit first. -/
def crcFwdByte (w poly crc : Nat) (b : Byte) : Nat :=
  (List.range 8).foldl (fun c _ => if 2 ^ (w - 1) ≤ c then (2 * c ^^^ poly) % 2 ^ w else 2 * c) (crc ^^^ b.toNat * 2 ^ (w - 8))

/-- Polynomial numbers of R373: width in bytes, initial value, final XOR. -/
def crcBytes (poly : Nat) : Nat := if poly ≤ 1 then 4 else if poly = 2 then 2 else 1
def crcInit (poly : Nat) : Nat := if poly ≤ 1 then 0xFFFFFFFF else if poly = 2 then 0xFFFF else 0xFF
def crcXor (poly : Nat) : Nat := if poly ≤ 1 then 0xFFFFFFFF else if poly = 2 then 0 else 0xFF

/-- The running value after one more byte (R373). -/
def crcStep (poly crc : Nat) (b : Byte) : Nat :=
  if poly = 0 then crcReflByte 0x82F63B78 crc b
  else if poly = 1 then crcReflByte 0xEDB88320 crc b
  else if poly = 2 then crcFwdByte 16 0x1021 crc b
  else crcFwdByte 8 0x2F crc b

/-- The running value after a byte string. -/
def crcRun (poly crc : Nat) (bs : List Byte) : Nat := bs.foldl (crcStep poly) crc

/-- The final CRC of a byte string. -/
def crcOf (poly : Nat) (bs : List Byte) : Nat := crcRun poly (crcInit poly) bs ^^^ crcXor poly

/-- CRC-32C, which images, maps and the calibration record use. -/
def crc32c (bs : List Byte) : Nat := crcOf 0 bs

/-- CRC-32 of IEEE 802.3, the frame check sequence. -/
def crc32 (bs : List Byte) : Nat := crcOf 1 bs

/-! ## SHA-384 -/

def shaK0 : List Nat :=
  [0x428A2F98D728AE22, 0x7137449123EF65CD, 0xB5C0FBCFEC4D3B2F, 0xE9B5DBA58189DBBC, 0x3956C25BF348B538,
   0x59F111F1B605D019, 0x923F82A4AF194F9B, 0xAB1C5ED5DA6D8118, 0xD807AA98A3030242, 0x12835B0145706FBE,
   0x243185BE4EE4B28C, 0x550C7DC3D5FFB4E2, 0x72BE5D74F27B896F, 0x80DEB1FE3B1696B1, 0x9BDC06A725C71235,
   0xC19BF174CF692694, 0xE49B69C19EF14AD2, 0xEFBE4786384F25E3, 0x0FC19DC68B8CD5B5, 0x240CA1CC77AC9C65,
   0x2DE92C6F592B0275, 0x4A7484AA6EA6E483, 0x5CB0A9DCBD41FBD4, 0x76F988DA831153B5, 0x983E5152EE66DFAB,
   0xA831C66D2DB43210, 0xB00327C898FB213F, 0xBF597FC7BEEF0EE4, 0xC6E00BF33DA88FC2, 0xD5A79147930AA725,
   0x06CA6351E003826F, 0x142929670A0E6E70, 0x27B70A8546D22FFC, 0x2E1B21385C26C926, 0x4D2C6DFC5AC42AED,
   0x53380D139D95B3DF, 0x650A73548BAF63DE, 0x766A0ABB3C77B2A8, 0x81C2C92E47EDAEE6, 0x92722C851482353B]

def shaK1 : List Nat :=
  [0xA2BFE8A14CF10364, 0xA81A664BBC423001, 0xC24B8B70D0F89791, 0xC76C51A30654BE30, 0xD192E819D6EF5218,
   0xD69906245565A910, 0xF40E35855771202A, 0x106AA07032BBD1B8, 0x19A4C116B8D2D0C8, 0x1E376C085141AB53,
   0x2748774CDF8EEB99, 0x34B0BCB5E19B48A8, 0x391C0CB3C5C95A63, 0x4ED8AA4AE3418ACB, 0x5B9CCA4F7763E373,
   0x682E6FF3D6B2B8A3, 0x748F82EE5DEFB2FC, 0x78A5636F43172F60, 0x84C87814A1F0AB72, 0x8CC702081A6439EC,
   0x90BEFFFA23631E28, 0xA4506CEBDE82BDE9, 0xBEF9A3F7B2C67915, 0xC67178F2E372532B, 0xCA273ECEEA26619C,
   0xD186B8C721C0C207, 0xEADA7DD6CDE0EB1E, 0xF57D4F7FEE6ED178, 0x06F067AA72176FBA, 0x0A637DC5A2C898A6,
   0x113F9804BEF90DAE, 0x1B710B35131C471B, 0x28DB77F523047D84, 0x32CAAB7B40C72493, 0x3C9EBE0A15C9BEBC,
   0x431D67C49C100D4C, 0x4CC5D4BECB3E42B6, 0x597F299CFC657E2A, 0x5FCB6FAB3AD6FAEC, 0x6C44198C4A475817]

def shaInit : List Nat :=
  [0xCBBB9D5DC1059ED8, 0x629A292A367CD507, 0x9159015A3070DD17, 0x152FECD8F70E5939, 0x67332667FFC00B31, 0x8EB44A8768581511, 0xDB0C2E0D64F98FA7, 0x47B5481DBEFA4FA4]

/-- Rotate a 64-bit number right. -/
def ror64 (x n : Nat) : Nat := (x / 2 ^ n ||| x * 2 ^ (64 - n)) % 2 ^ 64

/-- The last sixteen schedule words, oldest first, moved on by one. -/
def shaNext (w : List Nat) : List Nat :=
  let w1 := w.getD 1 0
  let w14 := w.getD 14 0
  let s0 := ror64 w1 1 ^^^ ror64 w1 8 ^^^ w1 / 2 ^ 7
  let s1 := ror64 w14 19 ^^^ ror64 w14 61 ^^^ w14 / 2 ^ 6
  w.drop 1 ++ [(w.getD 0 0 + s0 + w.getD 9 0 + s1) % 2 ^ 64]

/-- One round over the eight working variables. -/
def shaRound (v : List Nat) (k w : Nat) : List Nat :=
  match v with
  | [a, b, c, d, e, f, g, h] =>
    let t1 := h + (ror64 e 14 ^^^ ror64 e 18 ^^^ ror64 e 41) + ((e &&& f) ^^^ ((2 ^ 64 - 1 - e) &&& g)) + k + w
    let t2 := (ror64 a 28 ^^^ ror64 a 34 ^^^ ror64 a 39) + ((a &&& b) ^^^ (a &&& c) ^^^ (b &&& c))
    [(t1 + t2) % 2 ^ 64, a, b, c, (d + t1) % 2 ^ 64, e, f, g]
  | _ => v

/-- The rounds of a block, with the rolling schedule. -/
def shaRounds : List Nat → List Nat → List Nat → List Nat
  | [], v, _ => v
  | k :: ks, v, w => shaRounds ks (shaRound v k (w.getD 0 0)) (shaNext w)

/-- One 128-byte block. -/
def shaBlock (h : List Nat) (blk : List Byte) : List Nat :=
  let w := (List.range 16).map (fun i => beAt blk (8 * i) 8)
  (h.zip (shaRounds (shaK0 ++ shaK1) h w)).map (fun p => (p.1 + p.2) % 2 ^ 64)

/-- The padded message. -/
def shaPad (m : List Byte) : List Byte :=
  m ++ [0x80] ++ List.replicate ((239 - m.length % 128) % 128) 0 ++ beBytes 16 (8 * m.length)

/-- SHA-384, 48 bytes. -/
def sha384 (m : List Byte) : List Byte :=
  let p := shaPad m
  (((chunksOf 128 (p.length / 128) p).foldl shaBlock shaInit).take 6).flatMap (beBytes 8)

/-! ## ECDSA over P-384 -/

def p384p : Nat := 2 ^ 384 - 2 ^ 128 - 2 ^ 96 + 2 ^ 32 - 1
def p384n : Nat :=
  0xFFFFFFFFFFFFFFFFFFFFFFFFFFFFFFFFFFFFFFFFFFFFFFFFC7634D81F4372DDF581A0DB248B0A77AECEC196ACCC52973
def p384b : Nat :=
  0xB3312FA7E23EE7E4988E056BE3F82D19181D9C6EFE8141120314088F5013875AC656398D8A2ED19D2A85C8EDD3EC2AEF
def p384gx : Nat :=
  0xAA87CA22BE8B05378EB1C71EF320AD746E1D3B628BA79B9859F741E082542A385502F25DBF55296C3A545E3872760AB7
def p384gy : Nat :=
  0x3617DE4A96262C6F5D9E98BF9292DC29F8F41DBD289A147CE9DA3113B5F0B8C00A60B1CE1D7E819D7A431D7C90EA0E5F

/-- b^e mod m over the low `n` bits of e. -/
def powMod (m : Nat) : Nat → Nat → Nat → Nat → Nat
  | 0, _, _, acc => acc
  | n + 1, b, e, acc => powMod m n (b * b % m) (e / 2) (if e % 2 = 1 then acc * b % m else acc)

/-- Inverse modulo a prime. -/
def invMod (m a : Nat) : Nat := powMod m 384 (a % m) (m - 2) 1

/-- A point in Jacobian coordinates; z = 0 is the point at infinity. -/
structure JPoint where
  x : Nat
  y : Nat
  z : Nat
  deriving DecidableEq, Repr

def subMod (a b : Nat) : Nat := (a + p384p - b % p384p) % p384p

/-- Doubling on y² = x³ - 3x + b. -/
def JPoint.dbl (q : JPoint) : JPoint :=
  if q.z = 0 ∨ q.y = 0 then ⟨1, 1, 0⟩
  else
    let zz := q.z * q.z % p384p
    let yy := q.y * q.y % p384p
    let s := 4 * q.x * yy % p384p
    let m := 3 * (subMod q.x zz) * (q.x + zz) % p384p
    let x := subMod (m * m) (2 * s)
    ⟨x, subMod (m * subMod s x) (8 * yy * yy), 2 * q.y * q.z % p384p⟩

/-- Addition. -/
def JPoint.add (q r : JPoint) : JPoint :=
  if q.z = 0 then r else if r.z = 0 then q
  else
    let z1 := q.z * q.z % p384p
    let z2 := r.z * r.z % p384p
    let u1 := q.x * z2 % p384p
    let u2 := r.x * z1 % p384p
    let s1 := q.y * z2 * r.z % p384p
    let s2 := r.y * z1 * q.z % p384p
    if u1 = u2 then (if s1 = s2 then q.dbl else ⟨1, 1, 0⟩)
    else
      let h := subMod u2 u1
      let rr := subMod s2 s1
      let hh := h * h % p384p
      let hhh := h * hh % p384p
      let v := u1 * hh % p384p
      let x := subMod (rr * rr) (hhh + 2 * v)
      ⟨x, subMod (rr * subMod v x) (s1 * hhh), h * q.z * r.z % p384p⟩

/-- k·q over the low `n` bits of k. -/
def JPoint.mul : Nat → Nat → JPoint → JPoint → JPoint
  | 0, _, _, acc => acc
  | n + 1, k, q, acc => JPoint.mul n (k / 2) q.dbl (if k % 2 = 1 then acc.add q else acc)

/-- The affine x coordinate. -/
def JPoint.affineX (q : JPoint) : Nat := q.x * invMod p384p (q.z * q.z) % p384p

/-- (x, y) lies on the curve. -/
def onP384 (x y : Nat) : Bool :=
  decide (x < p384p ∧ y < p384p) && (y * y % p384p == subMod (x * x * x + p384b) (3 * x))

/-- The signature (r, s) verifies for the digest z under the public key (x, y). -/
def ecdsaVerify (z x y r s : Nat) : Bool :=
  if r = 0 ∨ p384n ≤ r ∨ s = 0 ∨ p384n ≤ s ∨ onP384 x y = false then false
  else
    let w := invMod p384n s
    let pt := (JPoint.mul 384 (z * w % p384n) ⟨p384gx, p384gy, 1⟩ ⟨1, 1, 0⟩).add
      (JPoint.mul 384 (r * w % p384n) ⟨x, y, 1⟩ ⟨1, 1, 0⟩)
    if pt.z = 0 then false else pt.affineX % p384n == r

end Sys2Proof.Machine
end

