-- ==== Sys2Proof/Machine/Events.lean ====
section
/-!
DEFINITION. The event controller (R386 to R396): records, the ring and the early queue, MSI-X messages; and the
commands of its family.
-/

namespace Sys2Proof.Machine

/-- The 32 bytes of an entry (R388). -/
def EvEntry.bytes (e : EvEntry) : List Byte :=
  leBytes 2 (e.source + 2 ^ 10 * e.cls + 2 ^ 13 * bit e.first + 2 ^ 14 * bit e.last + 2 ^ 15 * bit e.multi)
  ++ leBytes 2 e.entries ++ leBytes 4 e.record ++ leBytes 8 e.tick
  ++ leBytes 4 (e.timeNs + 2 ^ 31 * bit e.tvalid) ++ leBytes 4 e.timeSec ++ leBytes 8 e.data

/-- The source's enable bit reads 1: FATAL sources cannot be disabled (R393). -/
def State.sourceEnabled (s : State) (src cls : Nat) : Bool :=
  cls == clsFatal || sourceClass src == clsFatal || bitAt (s.rdN (EVC_ENABLE (src / 32))) (src % 32)

/-- OR one bit into the register of a group of sources. -/
def State.groupBit (s : State) (off src : Nat) : State := s.wrN off (s.rdN off ||| 2 ^ (src % 32))

/-- The sources of the tick that are recorded, ordered by class and then by source (R388, R393). -/
def State.recordable (s : State) : List Raised :=
  sortBy (fun r => 1024 * r.cls + r.source) (s.evc.raised.filter (fun r => s.sourceEnabled r.source r.cls))

/-- Entry `i` of `n` of the record `r` is part of, with the tick and time of its end. -/
def State.entryOf (s : State) (n : Nat) (ir : Nat × Raised) : EvEntry :=
  { source := ir.2.source, cls := ir.2.cls, first := ir.1 == 0, last := ir.1 + 1 == n, multi := ir.2.multi, entries := n
    record := s.evc.recordNo, tick := s.evc.tick, timeNs := s.ptpNs, tvalid := s.on TMU_STATUS_VALID
    timeSec := s.ptpSec % 2 ^ 32, data := ir.2.data % 2 ^ 64 }

/-- Free space of the ring at the end of the tick: records whose writes are still to land take theirs (R390). -/
def State.ringFree (s : State) : Nat :=
  4096 - ((s.rdN EVC_RING_WR + 2 ^ 32 - s.rdN EVC_RING_RD) % 2 ^ 32 + (s.evc.waiting.map List.length).sum)

/-- The record is one that needs no reserve: it holds FATAL, THERMAL or source 896 (R391). -/
def urgentRecord (rec : List EvEntry) : Bool :=
  rec.any (fun e => e.cls == clsFatal || e.cls == clsThermal || e.source == 896)

/-- A record that does not fit is lost and counted (R391, R392). -/
def State.loseRecord (s : State) (rec : List EvEntry) : State :=
  (rec.foldl (fun st e => st.groupBit (EVC_LOST (e.source / 32)) e.source) s).count EVC_LOST_CNT

/-- Show the head of the early queue and its length in the registers (R392). -/
def State.showEarly (s : State) : State :=
  let head := match s.evc.early with | [] => List.replicate 32 0 | e :: _ => e.bytes
  (List.range 8).foldl (fun st i => st.wrN (EVC_EARLY_DATA i) (leAt head (4 * i) 4))
    (s.put EVC_EARLY_STATUS_COUNT s.evc.early.length)

/-- Where a formed record goes: the ring (R391), or the early queue while RING_EN is 0 (R392). -/
def State.placeRecord (s : State) (rec : List EvEntry) : State :=
  if s.on EVC_CTRL_RING_EN then
    if rec.length + (if urgentRecord rec then 0 else 16) ≤ s.ringFree then
      { s with evc := { s.evc with waiting := s.evc.waiting ++ [rec] } }
    else
      let s' := s.loseRecord rec
      { s' with evc := { s'.evc with lostOwed := s'.evc.lostOwed + 1 } }
  else if s.evc.early.length + rec.length ≤ 64 then
    State.showEarly { s with evc := { s.evc with early := s.evc.early ++ rec } }
  else (s.loseRecord rec).put EVC_EARLY_STATUS_OVERFLOW 1

/-- The first FATAL source raised is held in EVC_FATAL until software clears it (R393). -/
def State.noteFatal (s : State) : State :=
  match s.evc.raised.find? (fun r => r.cls == clsFatal) with
  | some r => if bitAt (s.rdN EVC_FATAL) 31 then s else s.wrN EVC_FATAL (2 ^ 31 + r.source)
  | none => s

/-- A disabled source sets its pending bit instead of being recorded (R393). -/
def State.notePending (s : State) : State :=
  (s.evc.raised.filter (fun r => !s.sourceEnabled r.source r.cls)).foldl
    (fun st r => st.groupBit (EVC_PENDING (r.source / 32)) r.source) s

/-- All entries raised in the tick form one record, which takes the next record number (R388). -/
def State.formRecord (s : State) : State :=
  let raised := s.recordable
  let rec' := ((List.range raised.length).zip raised).map (s.entryOf raised.length)
  let s1 := (s.noteFatal).notePending
  let s2 := { s1 with evc := { s1.evc with raised := [] } }
  if raised.isEmpty then s2
  else
    let s3 := { s2 with evc := { s2.evc with recordNo := (s2.evc.recordNo + 1) % 2 ^ 32 } }
    if s.asleep then { s3 with evc := { s3.evc with held := s3.evc.held ++ [rec'] } }
    else s3.placeRecord rec'

/-- The records held in SLEEP are written at wake, in tick order (R399). -/
def State.flushHeld (s : State) : State :=
  s.evc.held.foldl State.placeRecord { s with evc := { s.evc with held := [] } }

/-- Held records are written once the device is awake. -/
def State.flushAwake (s : State) : State := if s.asleep then s else s.flushHeld

/-- In the first tick with free space after a loss, source 896 is raised with the number of lost records (R391). -/
def State.reportLost (s : State) : State :=
  if s.on EVC_CTRL_RING_EN && decide (0 < s.evc.lostOwed) && decide (0 < s.ringFree) then
    let s' := s.raise 896 s.evc.lostOwed
    { s' with evc := { s'.evc with lostOwed := 0 } }
  else s

/-- Show the tick number (R412). -/
def State.showTick (s : State) : State := s.wrN EVC_TICK_LO (s.evc.tick % 2 ^ 32)

/-- The 250 MHz time clock over `half` half-nanoseconds: each 4 ns tick adds the increment (R312). -/
def Tmu.advance (t : Tmu) (half : Nat) : Tmu :=
  { t with time := (t.time + (t.phase + half) / 8 * t.incr) % (2 ^ 48 * 10 ^ 9 * 2 ^ 32), phase := (t.phase + half) % 8 }

/-- Time passes by one event tick; the time clock stands still while its PLL has not locked, as in DEEP_SLEEP and
STOPPED (R16, R314). -/
def State.passTick (s : State) : State :=
  { s with now := s.now + s.tickHalfNs, tmu := { (if s.pllLocked pllTime then s.tmu.advance s.tickHalfNs else s.tmu) with stepped := none } }

/-- The tick boundary: the number advances and a written divider comes into force (R386). -/
def State.nextTick (s : State) : State :=
  State.showTick { s with evc := { s.evc with tick := (s.evc.tick + 1) % 2 ^ 64
                                              div := clampNat 1 16 (s.get EVC_TICK_DIV) } }

/-! ## Messages (R394, R395) -/

/-- The vector of an entry (R394). -/
def State.vectorOf (s : State) (e : EvEntry) : Nat :=
  if 2 ≤ e.cls ∧ s.on (EVC_GROUP_VEC_EN (e.source / 32)) then s.get (EVC_GROUP_VEC_VEC (e.source / 32))
  else s.bits (EVC_CLASS_VEC e.cls) 7 0

/-- Keep the first pair of each vector. -/
def dedupVec : List Nat → List (Nat × Nat) → List (Nat × Nat)
  | _, [] => []
  | seen, p :: t => if seen.contains p.2 then dedupVec seen t else p :: dedupVec (p.2 :: seen) t

/-- Class and vector of the messages of a record: class order, then ascending vector, each vector once (R394). -/
def State.messagesOf (s : State) (rec : List EvEntry) : List (Nat × Nat) :=
  dedupVec [] (sortBy (fun p => 256 * p.1 + p.2) (rec.map (fun e => (e.cls, s.vectorOf e))))

/-- The vector is masked by the function mask or by its own mask bit (R394). -/
def State.vectorMasked (s : State) (v : Nat) : Bool := s.pcie.funcMask || bitAt (s.rdN (MSIX_TABLE (4 * v + 3))) 0

/-- A message of class `c` leaves with vector `v`, and opens the class's moderation window. -/
def State.deliver (s : State) (c v : Nat) : State :=
  { s with evc := { s.evc with sent := s.evc.sent ++ [v], lastMsg := s.evc.lastMsg.set c (some s.evc.tick) } }

/-- A masked message sets the vector's pending bit in its place. -/
def State.holdMasked (s : State) (c v : Nat) : State :=
  let s' := s.wrN (MSIX_PBA (v / 32)) (s.rdN (MSIX_PBA (v / 32)) ||| 2 ^ (v % 32))
  if s'.evc.masked.any (fun p => p.1 == v) then s'
  else { s' with evc := { s'.evc with masked := s'.evc.masked ++ [(v, c)] } }

/-- Send a message, or hold it behind its mask. -/
def State.sendMsg (s : State) (p : Nat × Nat) : State :=
  if s.vectorMasked p.2 then s.holdMasked p.1 p.2 else s.deliver p.1 p.2

/-- The class is inside its moderation window (R395). -/
def State.moderated (s : State) (c : Nat) : Bool :=
  2 ≤ c && (match s.evc.lastMsg.getD c none with
    | some t => decide (s.evc.tick < t + s.bits (EVC_CLASS_MOD c) 15 0)
    | none => false)

/-- A message is sent, or deferred and merged with those of its vector (R395). -/
def State.postMsg (s : State) (p : Nat × Nat) : State :=
  if s.moderated p.1 then
    if s.evc.deferred.contains p then s else { s with evc := { s.evc with deferred := s.evc.deferred ++ [p] } }
  else s.sendMsg p

/-- The messages of a record, when EVC_RING_WR has advanced past it (R394). -/
def State.postRecord (s : State) (rec : List EvEntry) : State :=
  if s.on EVC_CTRL_MSIX_EN && s.pcie.msixEn then (s.messagesOf rec).foldl State.postMsg s else s

/-- Every write of the record has landed: its entries are in the ring and EVC_RING_WR advances past it (R390). -/
def State.landRecord (s : State) (rec : List EvEntry) : State :=
  let base := s.addr36 EVC_RING_LO EVC_RING_HI
  let wr := s.rdN EVC_RING_WR
  let s1 := ((List.range rec.length).zip rec).foldl
    (fun st ie => st.memWrite 15 (base + 32 * ((wr + ie.1) % 4096)) ie.2.bytes) s
  let s2 := (s1.wrN EVC_RING_WR ((wr + rec.length) % 2 ^ 32)).wrN EVC_RECORD_CNT (s1.rdN EVC_RECORD_CNT + 1)
  s2.postRecord rec

/-- Send the pending messages of the vectors that a cleared mask lets out (R394). -/
def State.sendPending (s : State) : State :=
  (s.evc.masked.filter (fun p => !s.vectorMasked p.1)).foldl
    (fun st p =>
      let st' := st.wrN (MSIX_PBA (p.1 / 32)) (st.rdN (MSIX_PBA (p.1 / 32)) &&& (2 ^ 32 - 1 - 2 ^ (p.1 % 32)))
      State.deliver { st' with evc := { st'.evc with masked := st'.evc.masked.filter (fun q => q.1 != p.1) } } p.2 p.1) s

/-- Group the entries of the early queue into their records. -/
def groupRecords : List EvEntry → List (List EvEntry)
  | [] => []
  | e :: t => match groupRecords t with
    | [] => [[e]]
    | [] :: rest => [e] :: rest
    | (f :: g) :: rest => if e.record = f.record then (e :: f :: g) :: rest else [e] :: (f :: g) :: rest

/-! ## The effects of the family's commands -/

/-- End of an event tick (R386 to R393). -/
def eventTick (s : State) : State := ((((s.reportLost).passTick).flushAwake).formRecord).nextTick

/-- The writes of the oldest waiting record have landed (R390). -/
def ringWriteDone (s : State) : State :=
  match s.evc.waiting with
  | [] => s
  | rec :: rest => State.landRecord { s with evc := { s.evc with waiting := rest } } rec

/-- The moderation window of class `c` ends: its deferred messages go, one for each vector (R395). -/
def moderationExpire (c : Nat) (s : State) : State :=
  if s.moderated c then s
  else
    let due := s.evc.deferred.filter (fun p => p.1 == c)
    due.foldl State.sendMsg { s with evc := { s.evc with deferred := s.evc.deferred.filter (fun p => p.1 != c) } }

/-- Software clears the mask of one vector, or the function mask (R394). -/
def msixUnmask (v : Option Nat) (s : State) : State :=
  match v with
  | some v => (s.put ⟨MSIX_TABLE (4 * v + 3), 0, 0⟩ 0).sendPending
  | none => State.sendPending { s with pcie := { s.pcie with funcMask := false } }

/-- A write of EVC_SW_RAISE (R396). -/
def swRaise (val : Word) (s : State) : State :=
  if EVC_SW_RAISE_CLASS.ext val = 0 then s.raise 898 0
  else s.raiseCls false (960 + EVC_SW_RAISE_INDEX.ext val) (EVC_SW_RAISE_CLASS.ext val)
    (s.rdN EVC_SW_DATA_LO + 2 ^ 32 * s.rdN EVC_SW_DATA_HI)

/-- A write of 1 to EVC_EARLY_POP removes the head entry (R392). -/
def earlyPop (s : State) : State := State.showEarly { s with evc := { s.evc with early := s.evc.early.drop 1 } }

/-- The early queue moves to the ring ahead of any new record (R392). -/
def State.moveEarly (s : State) : State :=
  let s1 := State.showEarly { s with evc := { s.evc with waiting := s.evc.waiting ++ groupRecords s.evc.early, early := [] } }
  s1.raiseIf (s.on EVC_EARLY_STATUS_OVERFLOW) 897 0

/-- A write of EVC_CTRL: RING_EN is accepted only once a full image is applied (R392, R394). -/
def ringEnable (val : Word) (s : State) : State :=
  let s1 := s.put EVC_CTRL_MSIX_EN (EVC_CTRL_MSIX_EN.ext val)
  if EVC_CTRL_RING_EN.ext val = 0 then s1.put EVC_CTRL_RING_EN 0
  else if s.on EVC_CTRL_RING_EN || !s.on CSU_STATUS_IMAGE_VALID then s1
  else (s1.put EVC_CTRL_RING_EN 1).moveEarly

/-- A write of EVC_TICK applies from the next tick boundary (R386). -/
def tickDivWrite (val : Word) (s : State) : State := s.put EVC_TICK_DIV (EVC_TICK_DIV.ext val)

end Sys2Proof.Machine
end

