-- ==== Sys2Proof/Machine/PowerBase.lean ====
section
/-!
DEFINITION. Wake causes (R400, R403) and the small power operations that other units call.
-/

namespace Sys2Proof.Machine

/-- Wake-cause bits of PWR_WAKE_EN and PWR_WAKE_CAUSE. -/
abbrev wakeHost : Nat := 0
abbrev wakePin : Nat := 1
abbrev wakeEth (p : Nat) : Nat := 2 + p
abbrev wakeTrig : Nat := 4
abbrev wakeKettle : Nat := 5
abbrev wakePartner : Nat := 6

/-- A wake cause on either device of a pair is a wake request to the other (R430). -/
def State.wakePair (s : State) (cause : Nat) : State := if cause = wakePartner then s else s.ehlSend 0 (.power 3)

/-- A wake cause is registered when its bit is set, in SLEEP and in ENTERING, where it stops the entry; a later
cause of the same wake is added (R400, R403). -/
def State.wake (s : State) (cause : Nat) : State :=
  if !bitAt (s.rdN PWR_WAKE_EN) cause then s
  else if s.pwrState = 2 ∨ s.pwrState = 3 then
    let s1 := (s.wrN PWR_WAKE_CAUSE (2 ^ cause)).put ⟨PWR_STATE, 2, 0⟩ 4
    State.wakePair { s1 with pwr := { s1.pwr with slept := s.pwrState == 3, wakeStart := s.now, woken := false } } cause
  else if s.pwrState = 4 then s.wrN PWR_WAKE_CAUSE (s.rdN PWR_WAKE_CAUSE ||| 2 ^ cause)
  else s

/-- Microseconds from a moment to now. -/
def State.usSince (s : State) (t : Nat) : Nat := (s.now - t) / 2000

end Sys2Proof.Machine
end

