-- ==== Sys2Proof/Machine/Controllers.lean ====
section
/-!
DEFINITION. The memory controllers of the pseudo-channels (R349 to R351, R354): bank queues, the fabric's order, row
commands and neighbour refresh.
-/

namespace Sys2Proof.Machine

/-! ## Ranks and precedence (R351) -/

/-- Ranks that a client carries. -/
def clientRanks (c : Nat) : List Nat :=
  match c with
  | 4 => [1] | 14 => [1, 6, 7] | 5 => [1, 2, 6, 7] | 8 => [2, 3, 4, 5, 6, 7] | 17 => [2, 7] | 6 => [4, 7] | 7 => [5, 7] | 9 => [6]
  | _ => if c < 4 then [1, 4, 7] else [7]

/-- The rank at which a client's request travels: a rank that the client carries, else its lowest. -/
def carriedRank (c r : Nat) : Nat := if (clientRanks c).contains r then r else (clientRanks c).getLastD 7

/-- Precedence of a client within a rank. -/
def clientPrecedence (c : Nat) : Nat :=
  if c < 4 then 3
  else match c with
    | 4 => 1 | 15 => 1 | 14 => 2 | 5 => 4 | 8 => 5 | 17 => 6 | 6 => 7 | 7 => 8 | 9 => 9 | 13 => 10 | 12 => 11 | 10 => 12 | 11 => 13 | _ => 14

/-! ## Bank queues (R349) -/

/-- Ranks 1 and 2 may use the reserved entries. -/
def MemReq.urgent (q : MemReq) : Bool := decide (q.rank ≤ 2)

/-- A bank's queue has an entry for the request: 16 entries, four of them kept for ranks 1 and 2. -/
def Controller.roomFor (c : Controller) (q : MemReq) : Bool :=
  let b := c.queue.filter (fun x => x.bank == q.bank)
  decide (b.length < 16) && (q.urgent || decide ((b.filter (fun x => !x.urgent)).length < 12))

/-- Order of the requests of one bank in the fabric: by rank, precedence, and the channels' rotation. -/
def MemReq.fabricKey (turn : Nat) (q : MemReq) : Nat :=
  (q.rank * 16 + clientPrecedence q.client) * 4 + (if q.client < 4 then (q.client + 4 - turn) % 4 else 0)

/-- The first of the waiting requests, in the fabric's order, that finds an entry: its index. An earlier request to the
same line goes before it. -/
def Controller.nextIn (c : Controller) (turn : Nat) : Option Nat :=
  let idx := (List.range c.waits.length).zip c.waits
  let ok := idx.filter (fun e => c.roomFor e.2 && !(c.waits.take e.1).any (fun x => x.line == e.2.line))
  ((sortBy (fun (e : Nat × MemReq) => e.2.fabricKey turn) ok).head?).map Prod.fst

/-- Requests move from the fabric into the queues as far as they find entries. -/
def Controller.letIn (turn : Nat) : Nat → Controller → Controller
  | 0, c => c
  | fuel + 1, c => match c.nextIn turn with
    | none => c
    | some i => match c.waits[i]? with
      | none => c
      | some q => Controller.letIn turn fuel { c with waits := c.waits.eraseIdx i, queue := c.queue ++ [q] }

/-- A member request reaches its controller. -/
def Controller.accept (turn : Nat) (q : MemReq) (c : Controller) : Controller :=
  Controller.letIn turn (c.waits.length + 1) { c with waits := c.waits ++ [q] }

/-! ## Arbitration (R350) -/

/-- The open row of a bank, and the requests it has served. -/
def Controller.openRow (c : Controller) (b : Nat) : Option (Nat × Nat) := (c.rows.find? (fun e => e.1 == b)).map Prod.snd

/-- A bank's requests that may be served: none passes an earlier one to its line. -/
def Controller.servable (c : Controller) (b : Nat) : List MemReq :=
  ((List.range c.queue.length).zip c.queue).filterMap (fun e =>
    if e.2.bank = b ∧ (c.queue.take e.1).all (fun x => x.line != e.2.line) then some e.2 else none)

/-- The oldest request of highest rank. -/
def topRank (l : List MemReq) : Option MemReq := (sortBy MemReq.rank l).head?

/-- The request that a bank offers: one to its open row, up to four in turn, unless a request of higher rank waits for
another row; else the oldest of highest rank. -/
def Controller.bankHead (c : Controller) (b : Nat) : Option MemReq :=
  let l := c.servable b
  let hit := match c.openRow b with
    | some (row, n) => if n < 4 then topRank (l.filter (fun q => q.row == row)) else none
    | none => none
  match hit with
  | some q => if l.any (fun x => x.row != q.row && decide (x.rank < q.rank)) then topRank l else some q
  | none => topRank l

/-- The request served next: the highest rank among the banks' heads; between equals the bank at or after the pointer. -/
def Controller.pick (c : Controller) : Option MemReq :=
  let banks := (c.queue.map MemReq.bank).eraseDups
  let heads := banks.filterMap c.bankHead
  (sortBy (fun (q : MemReq) => q.rank * 48 + (q.bank + 48 - c.pointer) % 48) heads).head?

/-! ## Neighbour refresh (R354) -/

/-- K in force: 0 disables, other values are the nearest of 4 to 20. -/
def nrefK (v : Nat) : Nat := if v = 0 then 0 else clampNat 4 20 v

/-- The draw of an activate: one chance in 2^K. -/
def nrefHit (p k n : Nat) : Bool := k != 0 && (Config.nrefDraw p n).toNat % 2 ^ k == 0

/-- Rows directly above and below, within the bank. -/
def neighbours (bank row : Nat) : List (Nat × Nat) :=
  (if 0 < row then [(bank, row - 1)] else []) ++ (if row < 16383 then [(bank, row + 1)] else [])

/-- Row `row` of a bank is activated: the pointer passes the bank, and a neighbour refresh may follow at once. -/
def Controller.activate (p k bank row : Nat) (c : Controller) : Controller :=
  { c with
    rows := (bank, row, 0) :: c.rows.filter (fun e => e.1 != bank)
    pointer := (bank + 1) % 48
    draws := if k = 0 then c.draws else c.draws + 1
    near := if nrefHit p k c.draws then c.near ++ neighbours bank row else c.near }

/-- A request is served: its row is opened where it is not, or has served four; the request leaves its queue, which the
fabric fills again. -/
def Controller.serve (p k turn : Nat) (q : MemReq) (c : Controller) : Controller :=
  let c1 := match c.openRow q.bank with
    | some (row, n) => if row = q.row ∧ n < 4 then c else c.activate p k q.bank q.row
    | none => c.activate p k q.bank q.row
  Controller.letIn turn (c1.waits.length + 1) { c1 with
    rows := c1.rows.map (fun e => if e.1 = q.bank then (e.1, e.2.1, e.2.2 + 1) else e)
    queue := c1.queue.erase q }

/-- Every request that the controller has is served, in the order of R350. -/
def Controller.drain (p k turn : Nat) : Nat → Controller → Controller
  | 0, c => c
  | fuel + 1, c => match c.pick with
    | none => c
    | some q => Controller.drain p k turn fuel (c.serve p k turn q)

/-- Nothing is queued or waiting. -/
def Controller.idle (c : Controller) : Bool := c.queue.isEmpty && c.waits.isEmpty

/-- What a controller does with its requests of a tick. -/
def Controller.run (p k turn : Nat) (c : Controller) : Controller :=
  if c.idle then (if c.near.isEmpty then c else { c with near := [] })
  else Controller.drain p k turn (c.queue.length + c.waits.length) { c with near := [] }

/-- A bank is refreshed: its open row is closed (R353). -/
def Controller.closeBank (b : Nat) (c : Controller) : Controller := { c with rows := c.rows.filter (fun e => e.1 != b) }

end Sys2Proof.Machine
end

