-- ==== Sys2Proof/Machine/Memory.lean ====
section
/-!
DEFINITION. The HBM memory subsystem (R339 to R363): the address map, the decode of reads, poison, the requests of a
tick, self-refresh, training, retirement and migration.
-/

namespace Sys2Proof.Machine

/-! ## The address map (R341, R344) -/

/-- Where the lines of device memory lie. -/
structure LineAddr where
  trio    : Nat
  line    : Nat   -- L, the trio line
  rowSet  : Nat   -- G
  j       : Nat
  triple  : Nat   -- bank triple t
  row     : Nat
  deriving DecidableEq, Repr

/-- The location of device address `x` (R341). -/
def lineAddr (x : Nat) : LineAddr :=
  let a := x / 256
  let l := a / 20
  let g := l / 32
  { trio := a % 20, line := l, rowSet := g, j := l % 32, triple := (g % 16) ^^^ (g / 16 % 16), row := g / 16 % 16384 }

/-- Bank of burst `b` of a line's row set, and its column (R341). -/
def burstBank (la : LineAddr) (b : Nat) : Nat := 3 * la.triple + b / 32
def burstColumn (b : Nat) : Nat := b % 32

/-- Device address of trio line `l` of trio `n`. -/
def lineBase (n l : Nat) : Nat := 256 * (l * 20 + n)

/-- The group of symbol `i` of codeword `w` (R344), and the group's member, burst within the member's three and byte lane. -/
def symbolGroup (w i : Nat) : Nat := i + 18 * (w % 2)
def groupMember (g : Nat) : Nat := g / 12
def groupBurst (g : Nat) : Nat := g % 12 / 4
def groupLane (g : Nat) : Nat := g % 4

/-- Where data byte `d` of a line is stored (R344): member, burst, byte lane, beat. -/
def symbolPlace (d : Nat) : Nat × Nat × Nat × Nat :=
  let g := symbolGroup (d / 16) (d % 16)
  (groupMember g, groupBurst g, groupLane g, d / 16 / 2)

/-! ## Pseudo-channels -/

abbrev pcActive : Nat := 0
abbrev pcSpare : Nat := 1
abbrev pcSource : Nat := 2
abbrev pcTarget : Nat := 3
abbrev pcRetired : Nat := 4

/-- The stack of a pseudo-channel, and the stack of a trio. -/
def stackOfPc (p : Nat) : Nat := p / 32
def stackOfTrio (n : Nat) : Nat := n / 10

/-- The pseudo-channel that serves member `m` of the line at `x`: the spare below the migration pointer (R360). -/
def State.servingPc (s : State) (x m : Nat) : Nat :=
  let la := lineAddr x
  let own := s.hbm.slots.getD (3 * la.trio + m) 0
  match s.hbm.mig with
  | some g => if g.trio = la.trio ∧ g.member = m ∧ la.line < g.line then g.target else own
  | none => own

/-- MEM_PC_STATp.STATE. -/
def State.pcState (s : State) (p : Nat) : Nat := s.get (MEM_PC_STAT_STATE p)

/-- Set the state and slot that MEM_PC_STATp shows. -/
def State.showPc (s : State) (p st slot : Nat) : State := (s.put (MEM_PC_STAT_STATE p) st).put (MEM_PC_STAT_SLOT p) slot

/-- A request to a stack ends its self-refresh and moves the end of its last completion (R355). -/
def State.touchStack (s : State) (k : Nat) : State :=
  let s1 := s.put MEM_STATUS_SELF_REFRESH (s.get MEM_STATUS_SELF_REFRESH &&& (3 - 2 ^ k))
  { s1 with hbm := { s1.hbm with lastDone := s1.hbm.lastDone.set k s1.now } }

/-! ## Retirement (R358 to R361) -/

/-- Bits of MEM_SPARE_MAP for half `h`: the index of the retired pseudo-channel and USED. -/
def State.recordSpare (s : State) (h p : Nat) : State :=
  (s.put ⟨MEM_SPARE_MAP, 8 * h + 3, 8 * h⟩ (p % 16)).put ⟨MEM_SPARE_MAP, 8 * h + 7, 8 * h + 7⟩ 1

/-- The slot a pseudo-channel holds. -/
def State.slotOf (s : State) (p : Nat) : Option Nat := s.hbm.slots.findIdx? (fun q => q == p)

/-- Start the migration of `p` into the spare of its half (R359, R360). -/
def State.startMigration (s : State) (p slot t : Nat) : State :=
  let s1 := { s with hbm := { s.hbm with
      mig := some { trio := slot / 3, member := slot % 3, source := p, target := t, line := 0 }
      spares := s.hbm.spares.set (p / 16) none } }
  let s2 := (s1.put (MEM_PC_STAT_STATE p) pcSource).showPc t pcTarget (slot / 3)
  ((((s2.put MEM_RETIRE_STATUS_STATE 1).put MEM_RETIRE_STATUS_SOURCE p).put MEM_RETIRE_STATUS_TARGET t).put
    MEM_RETIRE_STATUS_PROGRESS 0).raiseMask 643 (2 ^ p)

/-- Retirement of `p`: started, queued behind the running migration, or refused for want of a spare (R359). -/
def State.retire (s : State) (p : Nat) : State :=
  let h := p / 16
  match s.slotOf p with
  | none => s
  | some slot =>
    if s.pcState p = pcSource ∨ s.pcState p = pcRetired then s
    else match s.hbm.mig with
      | some _ =>
        if (s.hbm.queued.getD h none).isSome then s
        else State.put { s with hbm := { s.hbm with queued := s.hbm.queued.set h (some p) } } MEM_RETIRE_STATUS_STATE 2
      | none =>
        match s.hbm.spares.getD h none with
        | none => s.raiseMask 645 (2 ^ p)
        | some t => s.startMigration p slot t

/-- Give the slot of `p` to the spare of its half at once, with no migration (R356, R361); none where the half has
no spare left. -/
def State.retireNow (s : State) (p : Nat) : Option State :=
  match s.slotOf p, s.hbm.spares.getD (p / 16) none with
  | some slot, some t =>
    let s1 := { s with hbm := { s.hbm with slots := s.hbm.slots.set slot t, spares := s.hbm.spares.set (p / 16) none } }
    some (((s1.showPc p pcRetired 31).showPc t pcActive (slot / 3)).recordSpare (p / 16) p)
  | _, _ => none

/-! ## Reads (R343, R347) -/

/-- Member with the highest count, when it is above 0 and no other member shares it (R359). -/
def attributedMember (c0 c1 c2 : Nat) : Option Nat :=
  if c1 < c0 ∧ c2 < c0 then some 0 else if c0 < c1 ∧ c2 < c1 then some 1
  else if c0 < c2 ∧ c1 < c2 then some 2 else none

/-- Record an UNCORRECTABLE word for `client`, attributed to a pseudo-channel or to none (R347). -/
def State.recordError (s : State) (a client : Nat) (pc : Option Nat) : State :=
  let ovr := s.on MEM_ERR_ADDR_HI_VALID
  let hi := a / 2 ^ 32 % 16 + 2 ^ 8 * (client % 32) + 2 ^ 16 * (pc.getD 0) + 2 ^ 22 * bit pc.isSome
    + 2 ^ 30 * bit (ovr || s.on MEM_ERR_ADDR_HI_OVERRUN) + 2 ^ 31
  (s.wrN MEM_ERR_ADDR_LO (a % 2 ^ 32)).wrN MEM_ERR_ADDR_HI hi

/-- A CORRECTED word of `client`'s read: counted, reported, charged to its pseudo-channel (R343, R362). -/
def State.correctedWord (s : State) (client p : Nat) : State :=
  ((s.count MEM_CORR_CNT).put (MEM_PC_STAT_CORR p) (min (s.get (MEM_PC_STAT_CORR p) + 1) 0xFFFF)).raiseMask 640 (2 ^ client)

/-- An UNCORRECTABLE word at `a`: poison form, count, record, source 641, and attribution with what follows from it
(R343, R346, R347, R359). -/
def State.uncorrectableWord (s : State) (a client : Nat) (c0 c1 c2 : Nat) : State :=
  let pc := (attributedMember c0 c1 c2).map (s.servingPc a)
  let s1 := ((s.count MEM_UNCORR_CNT).recordError a client pc).putPoison a
  match pc with
  | none => (s1.raiseMask 641 (2 ^ client)).raiseMask 646 (2 ^ client)
  | some p => (s1.raiseMask 641 (2 ^ client)).retire p

/-- A request of `rank` that took `latency` ns is late outside [accept, accept + bound): a ranked loss of its client
(R352, R30). -/
def State.noteLatency (s : State) (client rank latency : Nat) : State :=
  if 2 ≤ rank ∧ rank ≤ 7 ∧ s.bits (MEM_LAT_BOUND (rank - 2)) 19 0 ≤ latency then
    (s.count (MEM_CLIENT_LOSS client)).raiseMask (936 + rank) (2 ^ client)
  else s

/-- What a decode of word `w` of a line meets in the arrays; the environment's part of R343. -/
def State.applyFault (s : State) (client base : Nat) (f : LineFault) : State :=
  match f with
  | .corrected w i =>
    if s.poisonedAt (base + 16 * w) then s else s.correctedWord client (s.servingPc base (groupMember (symbolGroup w i)))
  | .uncorrectable w c0 c1 c2 =>
    if s.poisonedAt (base + 16 * w) then s else s.uncorrectableWord (base + 16 * w) client c0 c1 c2

/-- The member requests of a line reach their controllers (R349, R351). -/
def State.acceptLine (s : State) (client rank a : Nat) : State :=
  let la := lineAddr a
  let q : MemReq := { client, rank, line := a / 256, bank := burstBank la (3 * la.j), row := la.row }
  let turn := s.hbm.fabTurn
  let ctl := (List.range 3).foldl (fun (l : List Controller) m => l.modify (s.servingPc a m) (Controller.accept turn q)) s.hbm.ctl
  { s with hbm := { s.hbm with ctl := ctl, fabTurn := if client < 4 then (client + 1) % 4 else turn } }

/-- A client's request for the line at `a`: it wakes the stack, and its members reach the controllers (R349, R355). -/
def State.requestLine (s : State) (client rank a : Nat) : State :=
  (s.touchStack (stackOfTrio (lineAddr a).trio)).acceptLine client (carriedRank client rank) a

/-- A client's read of the line at `a` (R343, R346, R352, R355). -/
def memReadLine (client rank a latency : Nat) (faults : List LineFault) (s : State) : State :=
  let base := 256 * (a / 256)
  if memSize ≤ base then s
  else
    let s1 := s.requestLine client rank base
    let s2 := if s.poisonedIn base 256 then s1.notePoisonRead client else s1
    (faults.foldl (fun st f => st.applyFault client base f) s2).noteLatency client (carriedRank client rank) latency

/-- A client's write at `a`; a read-modify-write may itself meet an error (R345). -/
def memWriteLine (client rank a latency : Nat) (bs : List Byte) (faults : List LineFault) (s : State) : State :=
  if memSize < a + bs.length then s
  else
    let s1 := s.requestLine client rank a
    let s2 := faults.foldl (fun st f => st.applyFault client (256 * (a / 256)) f) s1
    (s2.memWrite client a bs).noteLatency client (carriedRank client rank) latency

/-- The patrol scrubber reads the next line, as client 16 at rank 7; lines of a stack in self-refresh are skipped
and PERIOD 0 stops it (R348). -/
def scrubRead (latency : Nat) (faults : List LineFault) (s : State) : State :=
  if s.rdN MEM_SCRUB = 0 then s
  else
    let base := 256 * s.hbm.scrub
    let asleep := bitAt (s.get MEM_STATUS_SELF_REFRESH) (stackOfTrio (lineAddr base).trio)
    let s1 := { s with hbm := { s.hbm with scrub := (s.hbm.scrub + 1) % (memSize / 256) } }
    if asleep then s1 else memReadLine 16 7 base latency faults s1

/-- At the end of a tick the controllers have served its requests in the order of R350; the stacks they went to have
completed them then (R349, R355). -/
def State.serveMem (s : State) : State :=
  let k := nrefK (s.bits MEM_NREF 4 0)
  let had (i : Nat) : Bool := (List.range 32).any (fun j => !(s.hbm.ctl.getD (32 * i + j) .reset).idle)
  { s with hbm := { s.hbm with
      ctl := ((List.range 64).zip s.hbm.ctl).map (fun e => e.2.run e.1 k s.hbm.fabTurn)
      lastDone := (List.range 2).map (fun i => if had i then s.now else s.hbm.lastDone.getD i 0) } }

/-- Controller `p` refreshes its next bank; a stack in self-refresh refreshes itself (R353, R355). -/
def refreshBank (p : Nat) (s : State) : State :=
  if 64 ≤ p ∨ bitAt (s.get MEM_STATUS_SELF_REFRESH) (stackOfPc p) then s
  else { s with hbm := { s.hbm with
    refBank := s.hbm.refBank.modify p (fun b => (b + 1) % 48)
    ctl := s.hbm.ctl.modify p (Controller.closeBank (s.hbm.refBank.getD p 0)) } }

/-- One stack's temperature: source 649 once on reaching 95 °C (R353). -/
def State.stackTemp (s : State) (k : Nat) (t : Int) : State :=
  let hotNow := decide (95 ≤ t)
  let s1 := s.put ⟨MEM_TEMP, 8 * k + 7, 8 * k⟩ (unsignedOf 8 t)
  let s2 := if hotNow && !(s.hbm.hot.getD k false) then s1.raiseMask 649 ((2 ^ 32 - 1) * 2 ^ (32 * k)) else s1
  { s2 with hbm := { s2.hbm with hot := s2.hbm.hot.set k hotNow } }

/-- Every 1 ms the controllers read both stacks; with the rails off they read nothing (R353, R405). -/
def hbmTempRead (t0 t1 : Int) (s : State) : State :=
  if s.pwrState = 5 ∨ s.pwrState = 6 then s else (s.stackTemp 0 t0).stackTemp 1 t1

/-- A stack idle for the window [last completion, + MEM_SR_IDLE) enters self-refresh (R355). -/
def selfRefreshEnter (k : Nat) (s : State) : State :=
  let idle := s.bits MEM_SR_IDLE 15 0
  let busy := (match s.hbm.mig with | some g => stackOfTrio g.trio == k | none => false)
    || (List.range 32).any (fun j => !(s.hbm.ctl.getD (32 * k + j) .reset).idle)
  if 2 ≤ k ∨ idle = 0 ∨ busy = true ∨ s.now + s.tickHalfNs ≤ s.hbm.lastDone.getD k 0 + 2000 * idle then s
  else
    State.put { s with hbm := { s.hbm with ctl := ((List.range 64).zip s.hbm.ctl).map (fun (e : Nat × Controller) =>
      if stackOfPc e.1 = k then { e.2 with rows := [] } else e.2) } } MEM_STATUS_SELF_REFRESH (s.get MEM_STATUS_SELF_REFRESH ||| 2 ^ k)

/-! ## Training (R356) -/

/-- Width of a window of passing steps, and the delay at its centre. -/
def windowWidth (w : Window) : Nat := match w with | some (a, b) => b + 1 - a | none => 0
def windowCentre (w : Window) : Nat := match w with | some (a, b) => (a + b) / 2 | none => 0

/-- Index of the first narrowest window. -/
def narrowest (ws : List Window) : Nat :=
  (List.range ws.length).foldl
    (fun best i => if windowWidth (ws.getD i none) < windowWidth (ws.getD best none) then i else best) 0

/-- Training result of one pseudo-channel: its registers, its delays, and 650 for a narrow window. -/
def State.trainPc (s : State) (p : Nat) (ws : List Window) : State :=
  let i := narrowest ws
  let w := windowWidth (ws.getD i none)
  let s1 := s.wrN (MEM_PC_TRAIN p) (w % 128 + 2 ^ 8 * (i / 2) + 2 ^ 11 * (i % 2))
  let s2 := { s1 with hbm := { s1.hbm with delays := s1.hbm.delays.set p (ws.map windowCentre) } }
  let s3 := match s.slotOf p with
    | some slot => s2.showPc p pcActive (slot / 3)
    | none => s2.showPc p (if s.pcState p = pcRetired then pcRetired else pcSpare) 31
  if 0 < w ∧ w < s.bits MEM_TRAIN_MINW 6 0 then s3.raiseMask 650 (2 ^ p) else s3

/-- A pseudo-channel with no passing step on some lane: retired to its half's spare, or the memory fails (R356). -/
def State.trainFailed (s : State) (p : Nat) : State :=
  match s.slotOf p with
  | none =>
    State.raiseMask ({ s with hbm := { s.hbm with spares := s.hbm.spares.set (p / 16) none } }.showPc p pcRetired 31)
      647 (2 ^ p)
  | some _ =>
    match s.retireNow p with
    | some s' => s'.raiseMask 647 (2 ^ p)
    | none => (s.put MEM_STATUS_FAILED 1).raiseMask 648 (2 ^ p)

/-- Power-up training ends (R356): spares are judged before the pseudo-channels that may need them. -/
def hbmTrainingDone (results : List (List Window)) (s : State) : State :=
  if s.on MEM_STATUS_TRAINED then s else
  let ps := List.range 64
  let failed := ps.filter (fun p => (results.getD p []).any (fun w => windowWidth w == 0))
  let s1 := ps.foldl (fun st p => st.trainPc p (results.getD p [])) s
  let s2 := (failed.filter (fun p => (s.slotOf p).isNone)).foldl State.trainFailed s1
  let s3 := (failed.filter (fun p => (s.slotOf p).isSome)).foldl State.trainFailed s2
  s3.put MEM_STATUS_TRAINED 1

/-- MEM_CMD.RETIRE with pseudo-channel p (R359). -/
def memRetireCmd (val : Word) (s : State) : State :=
  if bitAt val.toNat 0 then s.retire (bitsOf val.toNat 13 8) else s

/-- A write of MEM_RETIRE_PRESET, accepted only while UNTOUCHED: each valid byte retires its pseudo-channel at once
(R361). -/
def retirePreset (val : Word) (s : State) : State :=
  if s.on MEM_STATUS_UNTOUCHED then
    (List.range 4).foldl (fun st h =>
      if bitAt val.toNat (8 * h + 7) then (st.retireNow (16 * h + bitsOf val.toNat (8 * h + 3) (8 * h))).getD st else st)
      (s.wrN MEM_RETIRE_PRESET (val.toNat &&& 0x8F8F8F8F))
  else s

/-! ## Migration (R360) -/

/-- Start the first queued retirement, by half, that a spare can take; STATE shows whether others wait (R359). -/
def State.startQueued (s : State) : State :=
  let s1 := (List.range 4).foldl (fun st h => match st.hbm.mig, st.hbm.queued.getD h none with
    | none, some p => State.retire { st with hbm := { st.hbm with queued := st.hbm.queued.set h none } } p
    | _, _ => st) s
  if s1.hbm.mig.isSome && s1.hbm.queued.any Option.isSome then s1.put MEM_RETIRE_STATUS_STATE 2 else s1

/-- The last line is copied: the spare is ACTIVE in the slot, the source RETIRED (R360). -/
def State.endMigration (s : State) (g : Migration) : State :=
  let s1 := { s with hbm := { s.hbm with mig := none, slots := s.hbm.slots.set (3 * g.trio + g.member) g.target } }
  let s2 := ((s1.showPc g.target pcActive g.trio).showPc g.source pcRetired 31).recordSpare (g.source / 16) g.source
  ((s2.put MEM_RETIRE_STATUS_STATE 0).raiseMask 644 (2 ^ g.source)).startQueued

/-- The words of the copied line that read UNCORRECTABLE take poison form in the spare; no new retirement starts. -/
def State.migratePoison (s : State) (base w : Nat) : State :=
  let cl := s.freeVal.toNat % 32
  ((((s.freeNext).count MEM_UNCORR_CNT).recordError (base + 16 * w) cl none).putPoison (base + 16 * w)).raiseMask 641 (2 ^ cl)

/-- One line of the migration is copied and the pointer advances (R360). -/
def migrationCopy (bad : List Nat) (s : State) : State :=
  match s.hbm.mig with
  | none => s
  | some g =>
    let s1 := bad.foldl (fun st w => if st.poisonedAt (lineBase g.trio g.line + 16 * w) then st
                                     else st.migratePoison (lineBase g.trio g.line) w) s
    let g' := { g with line := g.line + 1 }
    if g'.line = 2 ^ 23 then s1.endMigration g'
    else State.put { s1 with hbm := { s1.hbm with mig := some g' } } MEM_RETIRE_STATUS_PROGRESS (g'.line / 128)

end Sys2Proof.Machine
end

