-- ==== Sys2Proof/Machine/Stacks.lean ====
section
/-!
DEFINITION. Plane stacks (R60 to R92): leases and lease protection, stack buffers in memory, the stack streams, and
the remote tile receiver.
-/

namespace Sys2Proof.Machine

/-! ## Slots and leases -/

/-- Bytes of a slot (R66). -/
abbrev slotBytes : Nat := 5120

/-- Address of slot `q` (R66). -/
def State.slotAddr (s : State) (q : Nat) : Nat := s.regionBase 1 + slotBytes * q

/-- Number of whole slots of the PLANE region (R66). -/
def State.slotCount (s : State) : Nat := s.regionSize 1 / slotBytes

/-- The slot that holds address `a`, if it lies in one. -/
def State.slotAt (s : State) (a : Nat) : Option Nat :=
  if s.inRegion 1 a 1 ∧ (a - s.regionBase 1) / slotBytes < s.slotCount then some ((a - s.regionBase 1) / slotBytes) else none

/-- The page lies in one of the ranges. -/
def pageIn (p : Nat) (ranges : List (Nat × Nat)) : Bool := ranges.any (fun r => decide (r.1 ≤ p ∧ p < r.1 + r.2))

/-- The pages of [a, a+n) as a range. -/
def pagesOf (a n : Nat) : Nat × Nat := if n = 0 then (a / 65536, 0) else (a / 65536, (a + n - 1) / 65536 + 1 - a / 65536)

/-- A stream hold protects slot `q`. -/
def State.slotHeld (s : State) (q : Nat) : Bool := s.streams.any (fun st => st.holds.any (fun h => h.contains q))

/-- Slot `q` is protected (R79). -/
def State.slotProtected (s : State) (q : Nat) : Bool := s.lease.frameSlots.contains q || s.slotHeld q

/-- The granule of address `a` is protected (R79). -/
def State.protectedAt (s : State) (a : Nat) : Bool :=
  if s.inRegion 1 a 1 then (match s.slotAt a with | some q => s.slotProtected q | none => false)
  else pageIn (a / 65536) s.lease.framePages || pageIn (a / 65536) s.lease.commitPages || s.lease.layerPages.any (pageIn (a / 65536))

/-- Writer codes of CMP_LEASE_FAULT_HI (R82). -/
abbrev writerHost : Nat := 0
abbrev writerBce : Nat := 1
abbrev writerVdec : Nat := 2
abbrev writerVenc : Nat := 3
abbrev writerAux : Nat := 4
abbrev writerTile : Nat := 5
abbrev writerBuild : Nat := 6
abbrev writerDco : Nat := 7

/-- Record a write into a protected granule (R80, R81). -/
def State.leaseFault (s : State) (writer a : Nat) (landed : Bool) (data : Nat) : State :=
  (((s.wrN CMP_LEASE_FAULT_LO (a % 2 ^ 32)).wrN CMP_LEASE_FAULT_HI
    (a / 2 ^ 32 % 16 + 2 ^ 8 * writer + 2 ^ 12 * bit landed)).count CMP_LEASE_FAULT_CNT).raise (if landed then 291 else 290) data

/-- A landed write into a slot that a stream's buffer references sets CHG_FULL of that stream (R81). -/
def State.markChgFull (s : State) (q : Nat) : State :=
  (List.range 8).foldl (fun st i =>
    if ((st.streams.getD i .reset).holds.any (fun h => h.contains q)) then st.put (CMP_STK_STATE_CHG_FULL i) 1 else st) s

/-- A device or host write judged against the leases, word by word (R80, R81); whether a byte was discarded is the
second answer. -/
def State.dmaWrite (s : State) (client writer a : Nat) (bs : List Byte) (data : Nat) : State × Bool :=
  let spans := wordSpans a bs.length
  let hit := spans.filter (fun w => s.protectedAt w.2.1)
  match hit with
  | [] => (s.memWrite client a bs, false)
  | h :: _ =>
    if s.on CMP_LEASE_CTRL_PROTECT then
      let s1 := (spans.filter (fun w => !s.protectedAt w.2.1)).foldl
        (fun st w => st.memWrite client w.2.1 (slice bs (w.2.1 - a) w.2.2)) s
      (s1.leaseFault writer h.2.1 false data, true)
    else
      let s1 := (s.memWrite client a bs).leaseFault writer h.2.1 true data
      (hit.foldl (fun st w => match s.slotAt w.2.1 with | some q => st.markChgFull q | none => st) s1, false)

/-! ## Geometry in force (R60) -/

def State.geomW (s : State) : Nat := s.bits CMP_SYN_GEOM 11 0
def State.geomH (s : State) : Nat := s.bits CMP_SYN_GEOM 26 16

/-- Tile columns and rows. -/
def State.tileCols (s : State) : Nat := ceilDiv s.geomW 32
def State.tileRows (s : State) : Nat := ceilDiv s.geomH 32

/-! ## Stack buffers in memory (R68 to R71) -/

/-- A plane record of a buffer: R69. -/
structure PlaneRec where
  disp     : Int
  planeId  : Nat
  chgValid : Bool
  table    : Nat
  deriving DecidableEq, Repr

/-- Stream and buffer fields. -/
def State.stream (s : State) (i : Nat) : Stream := s.streams.getD i .reset
def State.setStream (s : State) (i : Nat) (f : Stream → Stream) : State := { s with streams := s.streams.modify i f }

/-- State of buffer `b` of stream `i`: 0 FREE, 1 FILLING, 2 READY, 3 CURRENT (R89). -/
def State.bufState (s : State) (i b : Nat) : Nat := s.get ⟨CMP_STK_STATE i, 2 * b + 1, 2 * b⟩
def State.setBuf (s : State) (i b v : Nat) : State := s.put ⟨CMP_STK_STATE i, 2 * b + 1, 2 * b⟩ v

/-- The buffer of stream `i` in a state, if any. -/
def State.bufIn (s : State) (i v : Nat) : Option Nat := (List.range 3).find? (fun b => s.bufState i b == v)

/-- Descriptor slot of buffer `b`. -/
def State.descSlot (s : State) (i b : Nat) : Nat :=
  s.bits (if b = 0 then CMP_STK_DESC0 i else if b = 1 then CMP_STK_DESC1 i else CMP_STK_DESC2 i) 20 0

/-- Pool of stream `i`: first slot and size; the composition pool alike. -/
def State.poolBase (s : State) (i : Nat) : Nat := s.bits (CMP_STK_POOL_BASE i) 20 0
def State.poolSize (s : State) (i : Nat) : Nat := s.bits (CMP_STK_POOL_SIZE i) 20 0
def State.inPool (s : State) (i q : Nat) : Bool := decide (s.poolBase i ≤ q ∧ q < s.poolBase i + s.poolSize i)

/-- The plane records of the descriptor at `a` (R69). -/
def State.planeRecs (s : State) (a : Nat) : List PlaneRec :=
  (List.range (s.memNat (a + 4) 1)).map (fun p =>
    let r := a + 0x40 + 16 * p
    { disp := signedOf 16 (s.memNat r 2), planeId := s.memNat (r + 2) 1, chgValid := bitAt (s.memNat (r + 3) 1) 0
      table := s.memNat (r + 4) 4 % 2 ^ 21 })

/-- The plane records of buffer `b` of stream `i`. -/
def State.bufPlanes (s : State) (i b : Nat) : List PlaneRec := s.planeRecs (s.slotAddr (s.descSlot i b))

/-- Tile (c, r) of a block: its bit of the occupancy or of the change bitmap, and its pointer (R71). -/
def State.occBit (s : State) (table c r : Nat) : Bool := bitAt (s.memNat (s.slotAddr table + 16 * r + c / 8) 1) (c % 8)
def State.chgBit (s : State) (table c r : Nat) : Bool := bitAt (s.memNat (s.slotAddr table + 832 + 16 * r + c / 8) 1) (c % 8)
def State.tilePtr (s : State) (table c r : Nat) : Nat := s.memNat (s.slotAddr table + 1664 + 384 * r + 4 * c) 4 % 2 ^ 21

/-- A present tile of a latched buffer: its bit is set and its pointer lies in the stream's pool (R92). -/
def State.tilePresent (s : State) (i table c r : Nat) : Bool := s.occBit table c r && s.inPool i (s.tilePtr table c r)

/-- All (c, r) of the tile grid, row by row. -/
def State.tileGrid (s : State) : List (Nat × Nat) :=
  (List.range s.tileRows).flatMap (fun r => (List.range s.tileCols).map (fun c => (c, r)))

/-- The slots a buffer references: descriptor, table blocks, present tiles inside the pool (R76). -/
def State.bufSlots (s : State) (i b : Nat) : List Nat :=
  s.descSlot i b :: (s.bufPlanes i b).flatMap (fun p =>
    rangeFrom p.table 5 ++ (s.tileGrid.filter (fun t => s.tilePresent i p.table t.1 t.2)).map (fun t => s.tilePtr p.table t.1 t.2))

/-- The plane record at `r` passes the checks of R69 and of the pool. -/
def State.recValid (s : State) (i r : Nat) : Bool :=
  let t := s.memNat (r + 4) 4
  decide (s.memNat (r + 3) 1 < 2 ∧ t < 2 ^ 21) && s.memNat (r + 8) 8 == 0 && s.inPool i t && s.inPool i (t + 4)

/-- The bytes [a, a+n) of memory are 0. -/
def State.memZero (s : State) (a n : Nat) : Bool := (s.memRead a n).all (fun x => x == 0)

/-- The descriptor and plane records pass the checks of R68 to R70 and R76, poison apart. -/
def State.descValid (s : State) (i b : Nat) : Bool :=
  let q := s.descSlot i b
  let a := s.slotAddr q
  let n := s.memNat (a + 4) 1
  let recs := s.bufPlanes i b
  s.inPool i q && s.memNat a 4 == 1 && decide (1 ≤ n ∧ n ≤ 64) && s.memNat (a + 5) 1 == s.get (CMP_STK_CFG_SOURCE i)
    && s.memNat (a + 6) 2 == 0 && s.memNat (a + 8) 2 == s.geomW && s.memNat (a + 0x0A) 2 == s.geomH
    && decide (s.memNat (a + 0x10) 4 < 10 ^ 9) && s.memZero (a + 0x1A) (0x40 - 0x1A)
    && s.memZero (a + 0x40 + 16 * n) (slotBytes - 0x40 - 16 * n)
    && (List.range n).all (fun p => s.recValid i (a + 0x40 + 16 * p))
    && (recs.zip (recs.drop 1)).all (fun p => decide (p.2.disp ≤ p.1.disp))

/-- The label of the first plane that fails a test, 0 where none does: what the events 289 and 295 carry as PLANE_ID (R69,
log entry 66). -/
def firstPlaneId (recs : List PlaneRec) (bad : Nat → Bool) : Nat :=
  match (List.range recs.length).find? bad with | some p => ((recs[p]?).map PlaneRec.planeId).getD 0 | none => 0

/-- PLANE_ID of the first record of buffer `b` that REGISTER refuses. -/
def State.badRecId (s : State) (i b : Nat) : Nat :=
  let recs := (s.bufPlanes i b).take 64
  let disp := fun p => ((recs[p]?).map PlaneRec.disp).getD 0
  firstPlaneId recs (fun p => !s.recValid i (s.slotAddr (s.descSlot i b) + 0x40 + 16 * p) || (p != 0 && decide (disp (p - 1) < disp p)))

/-- A word of the descriptor or of a plane table block is in poison form (R76). -/
def State.descPoisoned (s : State) (i b : Nat) : Bool :=
  s.poisonedIn (s.slotAddr (s.descSlot i b)) slotBytes
    || (s.bufPlanes i b).any (fun p => s.poisonedIn (s.slotAddr p.table) (5 * slotBytes))

/-! ## Change detection (R75, R77) -/

/-- The one of larger magnitude, the first of equals. -/
def largerMag (a b : Int) : Int := if a.natAbs < b.natAbs then b else a

/-- Tile (c, r) of plane p, given the plane in the older and in the newer buffer: changed, and its disparity (R77). -/
def State.tileChanged (s : State) (i : Nat) (a b : Option PlaneRec) (c r : Nat) : Option Int :=
  match a, b with
  | none, none => none
  | some pa, none => if s.tilePresent i pa.table c r then some pa.disp else none
  | none, some pb => if s.tilePresent i pb.table c r then some pb.disp else none
  | some pa, some pb =>
    let ia := s.tilePresent i pa.table c r
    let ib := s.tilePresent i pb.table c r
    let moved := ia != ib || (ia && s.tilePtr pa.table c r != s.tilePtr pb.table c r)
      || (pa.disp != pb.disp && (ia || ib)) || ((ia || ib) && pb.chgValid && s.chgBit pb.table c r)
    if moved then some (largerMag pa.disp pb.disp) else none

/-- The tiles that differ from an older buffer, or every present tile when there is none (R75, R77). -/
def State.changedTiles (s : State) (i : Nat) (older : Option (List PlaneRec)) (newer : List PlaneRec) : List AccTile :=
  let old := older.getD []
  (List.range (max old.length newer.length)).flatMap (fun p =>
    s.tileGrid.filterMap (fun t => (s.tileChanged i (old[p]?) (newer[p]?) t.1 t.2).map (fun d => ⟨p, t.1, t.2, d⟩)))

/-- Add a tile to a change set, keeping the disparity of larger magnitude (R75). -/
def accumAdd (acc : List AccTile) (t : AccTile) : List AccTile :=
  if acc.any (fun x => x.plane == t.plane && x.col == t.col && x.row == t.row) then
    acc.map (fun x => if x.plane == t.plane && x.col == t.col && x.row == t.row then { x with disp := largerMag x.disp t.disp } else x)
  else acc ++ [t]

/-! ## Buffer transitions (R73) -/

/-- The buffer becomes FREE and its stream hold ends (R79). -/
def State.freeBuf (s : State) (i b : Nat) : State :=
  let s1 := (s.setBuf i b 0).setStream i (fun st => { st with holds := st.holds.set b [] })
  { s1 with ehl := { s1.ehl with mirrored := s1.ehl.mirrored.filter (fun m => !(m.1 == i && m.2.1 == b)) } }

/-- ACQUIRE: the lowest-numbered FREE buffer, when none is FILLING (R73). -/
def State.acquirable (s : State) (i : Nat) : Option Nat :=
  if (s.bufIn i 1).isSome then none else s.bufIn i 0

/-- Refuse a command with a code (R90). -/
def State.stkRefuse (s : State) (i code : Nat) : State := (s.put (CMP_STK_STATE_ERR i) code).raise 288 0

/-- The refusals common to the three commands, in the model's order (R90, log entry 20). -/
def State.stkGate (s : State) (i : Nat) : Option Nat :=
  if s.on (CMP_STK_STATE_BUSY i) then some 7
  else if !(s.stream i).active then some 5
  else if s.get (CMP_STK_CFG_SOURCE i) ≠ 0 then some 1
  else none

/-- CMP_STK_CMD ACQUIRE (R73). -/
def stkAcquire (i : Nat) (s : State) : State :=
  match s.stkGate i with
  | some c => s.stkRefuse i c
  | none => match s.acquirable i with
    | some b => (s.setBuf i b 1).put (CMP_STK_STATE_ERR i) 0
    | none => s.stkRefuse i 2

/-- CMP_STK_CMD ABANDON (R73). -/
def stkAbandon (i b : Nat) (s : State) : State :=
  match s.stkGate i with
  | some c => s.stkRefuse i c
  | none => if b < 3 ∧ s.bufState i b = 1 then (s.freeBuf i b).put (CMP_STK_STATE_ERR i) 0 else s.stkRefuse i 3

/-- REGISTER checks the buffer and starts marking, or leaves it FILLING with DESC (R76). -/
def State.registerBuf (s : State) (i b : Nat) : State :=
  let s1 := if s.descPoisoned i b then s.notePoisonRead 5 else s
  if s.descPoisoned i b || !s.descValid i b then (s1.put (CMP_STK_STATE_ERR i) 4).raise 289 (s.badRecId i b)
  else ((s1.put (CMP_STK_STATE_ERR i) 0).put (CMP_STK_STATE_BUSY i) 1).setStream i (fun st => { st with marking := some b })

/-- CMP_STK_CMD REGISTER (R76). -/
def stkRegister (i b : Nat) (s : State) : State :=
  match s.stkGate i with
  | some c => s.stkRefuse i c
  | none => if b < 3 ∧ s.bufState i b = 1 then s.registerBuf i b else s.stkRefuse i 3

/-- A READY buffer is superseded: its changes are accumulated and it becomes FREE (R73, R75). -/
def State.supersede (s : State) (i a : Nat) : State :=
  let cur := (s.bufIn i 3).map (s.bufPlanes i)
  let ch := s.changedTiles i cur (s.bufPlanes i a)
  ((s.setStream i (fun st => { st with accum := ch.foldl accumAdd st.accum })).freeBuf i a).count (CMP_STK_SUPERSEDED i)

/-- Buffer `b` is marked: it becomes READY with its hold, superseding any older READY buffer (R73, R76, R79).  On a
secondary it supersedes none: it waits under its SEQ for an FSTART that names it (R423). -/
def State.becomeReady (s : State) (i b : Nat) : State :=
  let slots := s.bufSlots i b
  let seq := s.memNat (s.slotAddr (s.descSlot i b) + 0x0C) 4
  let s1 := if s.get EHL_STATUS_PAIR = 3 then { s with ehl := { s.ehl with mirrored := s.ehl.mirrored ++ [(i, b, seq)] } }
    else match s.bufIn i 2 with | some a => s.supersede i a | none => s
  ((s1.setBuf i b 2).put (CMP_STK_STATE_BUSY i) 0).setStream i
    (fun st => { st with marking := none, marked := false, holds := st.holds.set b slots })

/-- Marking of the registered buffer completes (R76): it is READY from the end of the tick on, so a frame start of this
tick does not latch it (R74). -/
def stkRegisterMarked (i : Nat) (s : State) : State :=
  if (s.stream i).marking.isSome then s.setStream i (fun st => { st with marked := true }) else s

/-! ## Enabling (R67, R89) -/

/-- Two slot ranges share a slot. -/
def rangesMeet (a n b m : Nat) : Bool := decide (0 < n ∧ 0 < m ∧ a < b + m ∧ b < a + n)

/-- The pool of stream `i` may not be used (R67). -/
def State.poolBad (s : State) (i : Nat) : Bool :=
  decide (s.slotCount < s.poolBase i + s.poolSize i)
    || (List.range 8).any (fun j => j != i && (s.stream j).active && rangesMeet (s.poolBase i) (s.poolSize i) (s.poolBase j) (s.poolSize j))
    || rangesMeet (s.poolBase i) (s.poolSize i) (s.bits CMP_CPOOL_BASE 20 0) (s.bits CMP_CPOOL_SIZE 20 0)

/-- Enable a stream afresh, or refuse it with POOL; ENABLE reads the value written either way (R67, R89). -/
def State.enableStream (s : State) (i : Nat) : State :=
  if s.poolBad i then (s.put (CMP_STK_CFG_ENABLE i) 1).stkRefuse i 6
  else (((s.put (CMP_STK_CFG_ENABLE i) 1).put (CMP_STK_STATE_ERR i) 0).put (CMP_STK_STATE_GEN_VALID i) 0).setStream i
    (fun st => { st with active := true })

/-- All buffers of a disabled stream return to FREE; a write of 1 meanwhile enables it afresh (R89). -/
def State.returnBuffers (s : State) (i : Nat) : State :=
  let s1 := (List.range 3).foldl (fun st b => st.freeBuf i b) s
  let s2 := ((s1.put (CMP_STK_STATE_BUSY i) 0).put (CMP_STK_STATE_CHG_FULL i) 0).setStream i (fun _ => .reset)
  if s2.on (CMP_STK_CFG_ENABLE i) then s2.enableStream i else s2

/-- Every disabled stream whose return waits for the frame gets it (R89). -/
def State.returnStreams (s : State) : State :=
  (List.range 8).foldl (fun st i => if (st.stream i).returning then st.returnBuffers i else st) s

/-- A write of 1 to CMP_STK_CFG.ENABLE (R67, R89). -/
def stkEnable (i : Nat) (s : State) : State :=
  if (s.stream i).active then s
  else if (s.stream i).returning then s.put (CMP_STK_CFG_ENABLE i) 1
  else s.enableStream i

/-- A write of 0 to CMP_STK_CFG.ENABLE: the stream counts as disabled at once (R85, R89). -/
def stkDisable (i : Nat) (s : State) : State :=
  let s1 := (s.put (CMP_STK_CFG_ENABLE i) 0)
  if !(s.stream i).active then s1
  else
    let s2 := (s1.put (CMP_STK_STATE_GEN_VALID i) 0).setStream i (fun st => { st with active := false, returning := true, rx := none, rxHeld := [] })
    if s.on CMP_FRAME_STATUS_ACTIVE then s2 else s2.returnBuffers i

/-- A write of CMP_CPOOL_BASE or CMP_CPOOL_SIZE: the composition pool stays inside the slots, apart from the pools
of enabled streams, and holds at least 1,024 slots (R67). -/
def cpoolWrite (isSize : Bool) (val : Word) (s : State) : State :=
  let v := val.toNat % 2 ^ 21
  let base := if isSize then s.bits CMP_CPOOL_BASE 20 0 else v
  let size := if isSize then v else s.bits CMP_CPOOL_SIZE 20 0
  let bad := decide (s.slotCount < base + size) || (isSize && decide (v < 1024))
    || (List.range 8).any (fun j => (s.stream j).active && rangesMeet base size (s.poolBase j) (s.poolSize j))
  if bad then
    (s.wrN CMP_COMMIT_STATUS (commitPool + 2 ^ 8 * 31 + 2 ^ 13)).raiseOnce 256 0
  else s.wrN (if isSize then CMP_CPOOL_SIZE else CMP_CPOOL_BASE) v

/-! ## The remote tile receiver (R83 to R87) -/

/-- The stream a datagram's STREAM byte names: enabled, remote, with that REMOTE_ID; of several the lowest, which is the model's
choice (R83, log entry 8). -/
def State.remoteStream (s : State) (id : Nat) : Option Nat :=
  (List.range 8).find? (fun i => (s.stream i).active && s.get (CMP_STK_CFG_SOURCE i) == 1 && s.get (CMP_STK_CFG_REMOTE_ID i) == id)

/-- The stream that counts a datagram that names none: the lowest enabled remote one, else stream 0 (log entry 67). -/
def State.strayStream (s : State) : Nat :=
  ((List.range 8).find? (fun i => (s.stream i).active && s.get (CMP_STK_CFG_SOURCE i) == 1)).getD 0

/-- Discard a datagram: counted, and source 293 at most once per tick (R86). -/
def State.badDatagram (s : State) (i : Option Nat) : State := (s.count (CMP_STK_RX_BAD (i.getD s.strayStream))).raiseOnce 293 0

/-- The open generation is abandoned: its buffer is FREE again (R85). -/
def State.dropGen (s : State) (i : Nat) : State :=
  match (s.stream i).rx with
  | none => s
  | some g => (s.freeBuf i g.buf).setStream i (fun st => { st with rx := none })

/-- An incomplete generation: abandoned, counted, source 292; deltas are refused from now on (R85, R87). -/
def State.incompleteGen (s : State) (i : Nat) : State :=
  match (s.stream i).rx with
  | none => s
  | some _ => (((s.dropGen i).count (CMP_STK_RX_ERR i)).raise 292 0).setStream i (fun st => { st with needFull := true })

/-- Slot `q` holds the descriptor of one of the stream's buffers. -/
def State.holdsDesc (s : State) (i q : Nat) : Bool := (List.range 3).any (fun b => s.descSlot i b == q)

/-- A slot that a unit may take for a buffer of stream `i`: not protected, no descriptor's, not used by the buffer being
filled (R80, R85). -/
def State.slotOpen (s : State) (i : Nat) (used : List Nat) (q : Nat) : Bool :=
  !s.slotProtected q && !s.holdsDesc i q && !used.contains q

/-- Lowest run of `n` pool slots that may be taken (R85). -/
def State.freeRun (s : State) (i : Nat) (used : List Nat) (n : Nat) : Option Nat :=
  (rangeFrom (s.poolBase i) (s.poolSize i + 1 - n)).find? (fun q => (rangeFrom q n).all (s.slotOpen i used))

/-- No slot is left: the generation is abandoned with source 294 (R87). -/
def State.poolExhausted (s : State) (i : Nat) : State := (s.dropGen i).raise 294 0

/-- Allocate a table block for each plane, in order; none when the pool is exhausted. -/
def State.allocTables (s : State) (i : Nat) : Nat → List Nat → Option (List Nat)
  | 0, _ => some []
  | n + 1, used => match s.freeRun i used 5 with
    | none => none
    | some q => (s.allocTables i n (rangeFrom q 5 ++ used)).map (q :: ·)

/-- Zero the five slots of a table. -/
def State.zeroTable (s : State) (q : Nat) : State := s.memWrite 8 (s.slotAddr q) (List.replicate (5 * slotBytes) 0)

/-- Write the first contents of a plane's table block: the occupancy and pointers of the base plane, no change bits. -/
def State.initTable (s : State) (q : Nat) (base : Option PlaneRec) : State :=
  match base with
  | none => s.zeroTable q
  | some p => ((s.zeroTable q).memWrite 8 (s.slotAddr q) (s.memRead (s.slotAddr p.table) 832)).memWrite 8 (s.slotAddr q + 1664)
      (s.memRead (s.slotAddr p.table + 1664) (384 * 51))

/-- Slots that a base plane's present tiles occupy. -/
def State.planeTileSlots (s : State) (i : Nat) (p : PlaneRec) : List Nat :=
  (s.tileGrid.filter (fun t => s.tilePresent i p.table t.1 t.2)).map (fun t => s.tilePtr p.table t.1 t.2)

/-- Type-specific body length, for the stream's fragment form (R84). -/
def ttLength (typ : Nat) (whole : Bool) (dg : List Byte) : Nat :=
  if typ = 1 then 0x18 + 4 * byteAt dg 0x14
  else if typ = 2 then 0x18 + (if whole then 5120 else 1280)
  else if typ = 3 then 0x14 else 0x20

/-- The header checks of R83 and R86 up to the generation: the stream, when the datagram may be handled.  That fields of several
bytes are little-endian is the model's choice (log entry 7). -/
def State.ttCheck (s : State) (typ : Nat) (dg : List Byte) : Except (Option Nat) Nat :=
  let i := s.remoteStream (byteAt dg 4)
  if leAt dg 0 2 ≠ 0x5354 ∨ byteAt dg 2 ≠ 1 ∨ byteAt dg 3 ≠ typ then .error i
  else match i with
    | none => .error none
    | some i => if dg.length = ttLength typ (s.on (CMP_STK_CFG_FRAG i)) dg then .ok i else .error (some i)

/-- Open generation `gen` in buffer `b` with the planes of the BEGIN datagram (R85). -/
def State.openGen (s : State) (i b gen : Nat) (dg : List Byte) : State :=
  let n := byteAt dg 0x14
  let base := if bitAt (byteAt dg 5) 0 then [] else
    match s.bufIn i 2 with
    | some a => s.bufPlanes i a
    | none => match s.bufIn i 3 with | some a => s.bufPlanes i a | none => []
  let s0 := s.setBuf i b 1
  match s.allocTables i n [s.descSlot i b] with
  | none => State.poolExhausted (s0.setStream i (fun st => { st with rx := some ⟨gen, b, [], [], [], 1, none, 0⟩ })) i
  | some tables =>
    let planes := (List.range n).map (fun p => (leAt dg (0x18 + 4 * p) 2, byteAt dg (0x1A + 4 * p), tables.getD p 0))
    let s1 := (List.range n).foldl (fun st p => st.initTable (tables.getD p 0) (base[p]?)) s0
    let used := s.descSlot i b :: tables.flatMap (fun q => rangeFrom q 5) ++ (base.take n).flatMap (s.planeTileSlots i)
    s1.setStream i (fun st => { st with rx := some ⟨gen, b, planes, used, [], 1, none, 0⟩
                                        needFull := st.needFull && !bitAt (byteAt dg 5) 0 })

/-- Set or clear a bit of a bitmap row and store it. -/
def State.putBitmap (s : State) (a c : Nat) (v : Bool) : State :=
  let old := s.memNat (a + c / 8) 1
  let cleared := if bitAt old (c % 8) then old - 2 ^ (c % 8) else old
  s.memWriteNat 8 (a + c / 8) 1 (cleared + (if v then 2 ^ (c % 8) else 0))

/-- The tile of the open generation, new when it has not been named yet. -/
def RxGen.tile (g : RxGen) (p c r : Nat) : RxTile :=
  (g.tiles.find? (fun t => t.plane == p && t.col == c && t.row == r)).getD ⟨p, c, r, none, 0, 0, 0, none⟩

/-- Replace the tile's record. -/
def RxGen.setTile (g : RxGen) (t : RxTile) : RxGen :=
  { g with tiles := g.tiles.filter (fun x => !(x.plane == t.plane && x.col == t.col && x.row == t.row)) ++ [t] }

/-- The whole slot of a descriptor with its plane records: disparity, label, CHG_VALID, table slot (R68, R69). -/
def State.descBytes (s : State) (source seq tsNs tsSec : Nat) (recs : List (Nat × Nat × Bool × Nat)) : List Byte :=
  padTo slotBytes (leBytes 4 1 ++ leBytes 1 recs.length ++ leBytes 1 source ++ leBytes 2 0
    ++ leBytes 2 s.geomW ++ leBytes 2 s.geomH ++ leBytes 4 seq ++ leBytes 4 tsNs ++ leBytes 6 tsSec ++ List.replicate 0x26 0
    ++ recs.flatMap (fun p => leBytes 2 p.1 ++ leBytes 1 p.2.1 ++ leBytes 1 (bit p.2.2.1) ++ leBytes 4 p.2.2.2 ++ leBytes 8 0))

/-- A unit writes the descriptor of buffer `b`, judged by the leases as every writer is (R80). -/
def State.writeDesc (s : State) (client writer i b source seq tsNs tsSec : Nat) (recs : List (Nat × Nat × Bool × Nat)) : State :=
  (s.dmaWrite client writer (s.slotAddr (s.descSlot i b)) (s.descBytes source seq tsNs tsSec recs) 0).1

/-- Write the descriptor of a complete generation and register the buffer (R85). -/
def State.completeGen (s : State) (i : Nat) (g : RxGen) (tsNs tsSec : Nat) : State :=
  let recs := g.planes.map (fun p => (p.1, p.2.1, true, p.2.2))
  let s1 := (s.writeDesc 8 writerTile i g.buf 1 g.gen tsNs tsSec recs).setStream i (fun st => { st with rx := none })
  ((s1.wrN (CMP_STK_GEN i) g.gen).put (CMP_STK_STATE_GEN_VALID i) 1).registerBuf i g.buf

/-- Half-ns of CMP_REMOTE_TIMEOUT. -/
def State.remoteHalfNs (s : State) : Nat := 2000 * s.bits CMP_REMOTE_TIMEOUT 15 0

/-- The generation completes when END has arrived and every packet has been received, within the window (R85). -/
def State.checkGen (s : State) (i : Nat) : State :=
  match (s.stream i).rx with
  | some g => match g.last with
    | some (n, tsNs, tsSec) =>
      if g.count ≠ n then s else if s.now < g.endAt + s.remoteHalfNs then s.completeGen i g tsNs tsSec else s.incompleteGen i
    | none => s
  | none => s

/-- The datagram waits: its stream's last buffer is still being marked, so no buffer is FREE to be filled yet (R72, R85,
log entry 68). -/
def State.ttWaits (s : State) (i : Nat) : Bool := (s.stream i).marking.isSome

def State.holdDatagram (s : State) (i : Nat) (dg : List Byte) : State :=
  s.setStream i (fun st => { st with rxHeld := st.rxHeld ++ [dg] })

/-- A BEGIN datagram; a delta that is refused still abandons the open generation first (R85, log entry 69). -/
def ttBegin (dg : List Byte) (s : State) : State :=
  match s.ttCheck 1 dg with
  | .error i => s.badDatagram i
  | .ok i => if s.ttWaits i then s.holdDatagram i dg else
    let gen := leAt dg 8 4
    let n := byteAt dg 0x14
    let repeated := match (s.stream i).rx with | some g => g.gen == gen | none => false
    if repeated then s
    else if n = 0 ∨ 64 < n then s.badDatagram (some i)
    else
      let s1 := s.incompleteGen i
      let full := bitAt (byteAt dg 5) 0
      if !full && !(s.on (CMP_STK_STATE_GEN_VALID i) && !(s1.stream i).needFull && leAt dg 0x10 4 == s.rdN (CMP_STK_GEN i)) then s1.badDatagram (some i)
      else match s1.acquirable i with
        | some b => s1.openGen i b gen dg
        | none => s1.badDatagram (some i)

/-- A tile whose payload CRC is `ok` takes its place in its plane's table; one that is not loses its generation (R86, R87). -/
def State.placeTile (s : State) (i : Nat) (g : RxGen) (t : RxTile) (ok : Bool) : State :=
  if !ok then s.incompleteGen i
  else if (match t.remove with | some k => decide (t.seq < k) | none => false) then s
  else
    let a := s.slotAddr (g.planes.getD t.plane (0, 0, 0)).2.2
    ((s.memWriteNat 8 (a + 1664 + 384 * t.row + 4 * t.col) 4 (t.slot.getD 0)).putBitmap (a + 16 * t.row) t.col true).putBitmap
      (a + 832 + 16 * t.row) t.col true

/-- All fragments of a tile have arrived: its pointer, occupancy and change bit are set, unless a later REMOVE
decides, or the generation fails its TILE_CRC (R85). -/
def State.finishTile (s : State) (i : Nat) (g : RxGen) (t : RxTile) : State :=
  s.placeTile i g t (crc32c (s.memRead (s.slotAddr (t.slot.getD 0)) slotBytes) == t.crc)

/-- Place a fragment of a tile; the slot is allocated by the tile's first fragment (R85, R87). -/
def State.placeFragment (s : State) (i : Nat) (g : RxGen) (t : RxTile) (dg : List Byte) : State :=
  let whole := s.on (CMP_STK_CFG_FRAG i)
  let f := byteAt dg 0x13
  let slot := match t.slot with | some q => some q | none => s.freeRun i g.used 1
  match slot with
  | none => s.poolExhausted i
  | some q =>
    let t' := { t with slot := some q, frags := t.frags ||| 2 ^ f, crc := leAt dg 0x14 4, seq := max t.seq (leAt dg 0x0C 4) }
    let g' := { g.setTile t' with used := q :: g.used, count := g.count + 1 }
    let s1 := (s.memWrite 8 (s.slotAddr q + 1280 * f) (dg.drop 0x18)).setStream i (fun st => { st with rx := some g' })
    let s2 := if t'.frags = (if whole then 1 else 15) then s1.finishTile i g' t' else s1
    s2.checkGen i

/-- Plane, column and row of a TILE or REMOVE lie in range (R86). -/
def State.ttInRange (s : State) (g : RxGen) (dg : List Byte) : Bool :=
  decide (byteAt dg 0x10 < g.planes.length ∧ byteAt dg 0x11 < s.tileCols ∧ byteAt dg 0x12 < s.tileRows)

/-- A TILE datagram (R85). -/
def ttTile (dg : List Byte) (s : State) : State :=
  match s.ttCheck 2 dg with
  | .error i => s.badDatagram i
  | .ok i => if s.ttWaits i then s.holdDatagram i dg else match (s.stream i).rx with
    | none => s.badDatagram (some i)
    | some g =>
      let f := byteAt dg 0x13
      if g.gen ≠ leAt dg 8 4 ∨ s.ttInRange g dg = false ∨ (if s.on (CMP_STK_CFG_FRAG i) then 1 else 4) ≤ f then
        s.badDatagram (some i)
      else
        let t := g.tile (byteAt dg 0x10) (byteAt dg 0x11) (byteAt dg 0x12)
        if bitAt t.frags f then s else s.placeFragment i g t dg

/-- A REMOVE datagram clears occupancy and sets the change bit, unless a later TILE decides (R85). -/
def ttRemove (dg : List Byte) (s : State) : State :=
  match s.ttCheck 3 dg with
  | .error i => s.badDatagram i
  | .ok i => if s.ttWaits i then s.holdDatagram i dg else match (s.stream i).rx with
    | none => s.badDatagram (some i)
    | some g =>
      if g.gen ≠ leAt dg 8 4 ∨ s.ttInRange g dg = false then s.badDatagram (some i)
      else
        let t := g.tile (byteAt dg 0x10) (byteAt dg 0x11) (byteAt dg 0x12)
        if t.remove.isSome then s
        else
          let k := leAt dg 0x0C 4
          let g' := { g.setTile { t with remove := some k } with count := g.count + 1 }
          let done := t.frags == (if s.on (CMP_STK_CFG_FRAG i) then 1 else 15)
          let a := s.slotAddr (g.planes.getD t.plane (0, 0, 0)).2.2
          let s1 := s.setStream i (fun st => { st with rx := some g' })
          let s2 := if done && decide (k < t.seq) then s1
            else (s1.putBitmap (a + 16 * t.row) t.col false).putBitmap (a + 832 + 16 * t.row) t.col true
          s2.checkGen i

/-- An END datagram (R85). -/
def ttEnd (dg : List Byte) (s : State) : State :=
  match s.ttCheck 4 dg with
  | .error i => s.badDatagram i
  | .ok i => if s.ttWaits i then s.holdDatagram i dg else match (s.stream i).rx with
    | none => s.badDatagram (some i)
    | some g =>
      if g.gen ≠ leAt dg 8 4 then s.badDatagram (some i)
      else if g.last.isSome then s
      else
        let g' := { g with last := some (leAt dg 0x10 4, leAt dg 0x14 4, leAt dg 0x18 6), endAt := s.now, count := g.count + 1 }
        (s.setStream i (fun st => { st with rx := some g' })).checkGen i

/-- A datagram from the network: its type decides (R83); an unknown type is discarded. -/
def State.tileDatagram (s : State) (dg : List Byte) : State :=
  match byteAt dg 3 with
  | 1 => ttBegin dg s
  | 2 => ttTile dg s
  | 3 => ttRemove dg s
  | 4 => ttEnd dg s
  | _ => s.badDatagram (s.remoteStream (byteAt dg 4))

/-- The window [END, END + timeout) ends without completion (R85). -/
def remoteTimeout (i : Nat) (s : State) : State :=
  match (s.stream i).rx with
  | some g =>
    if g.last.isSome ∧ g.endAt + s.remoteHalfNs < s.now + s.tickHalfNs then s.incompleteGen i else s
  | none => s

end Sys2Proof.Machine
end

