-- ==== Sys2Proof/Machine/Image.lean ====
section
/-!
DEFINITION. The Keonambe image (R31 to R41, R473): the fields of its header, directory and sections, and the checks
of a section's contents that step 9 of R48 makes.
-/

namespace Sys2Proof.Machine

/-! ## Header and directory (R32 to R36) -/

abbrev imgMagic (b : List Byte) : Nat := leAt b 0 4
abbrev imgFormat (b : List Byte) : Nat := leAt b 4 2
abbrev imgCprof (b : List Byte) : Nat := leAt b 6 2
abbrev imgLen (b : List Byte) : Nat := leAt b 8 4
abbrev imgKind (b : List Byte) : Nat := byteAt b 0x0C
abbrev imgTarget (b : List Byte) : Nat := byteAt b 0x0D
abbrev imgSvn (b : List Byte) : Nat := byteAt b 0x0E
abbrev imgSlot (b : List Byte) : Nat := byteAt b 0x0F
abbrev imgSections (b : List Byte) : Nat := leAt b 0x10 2

/-- Bytes [off, off+n) are all 0 (R473). -/
def zeroIn (b : List Byte) (off n : Nat) : Bool := (slice b off n).all (fun x => x == 0)

/-- No byte from `pos` on is nonzero but those the spans list, offset and length, in order of offset. -/
def gapsZero (b : List Byte) (pos : Nat) : List (Nat × Nat) → Bool
  | [] => zeroIn b pos (b.length - pos)
  | e :: t => zeroIn b pos (e.1 - pos) && gapsZero b (max pos (e.1 + e.2)) t

/-- The bytes that a layout does not list are 0 (R473): `spans` are the listed ones, offset and length. -/
def unlistedZero (b : List Byte) (spans : List (Nat × Nat)) : Bool := gapsZero b 0 (sortBy Prod.fst spans)

/-- A directory entry (R34). -/
structure DirEnt where
  typ  : Nat
  mask : Nat
  flags : Nat
  off  : Nat
  len  : Nat
  crc  : Nat
  deriving DecidableEq, Repr

/-- Directory entry `i`. -/
def dirEnt (b : List Byte) (i : Nat) : DirEnt :=
  let o := 0x100 + 16 * i
  ⟨leAt b o 2, byteAt b (o + 2), byteAt b (o + 3), leAt b (o + 4) 4, leAt b (o + 8) 4, leAt b (o + 12) 4⟩

/-- All directory entries. -/
def dirEnts (b : List Byte) : List DirEnt := (List.range (imgSections b)).map (dirEnt b)

/-- The bytes of an entry's section. -/
def entBytes (b : List Byte) (e : DirEnt) : List Byte := slice b e.off e.len

/-- Index of the first entry of a type. -/
def sectionIdx (b : List Byte) (typ : Nat) : Nat := ((dirEnts b).findIdx? (fun e => e.typ == typ)).getD 0

/-- The section of a type, empty when there is none. -/
def sectionOf (b : List Byte) (typ : Nat) : List Byte :=
  match (dirEnts b).find? (fun e => e.typ == typ) with
  | some e => entBytes b e
  | none => []

/-- Index of the first element that fails a test. -/
def firstBad {α : Type} (l : List α) (ok : α → Bool) : Option Nat := l.findIdx? (fun x => !ok x)

/-- Step 1 of R48: the failing code, if any; `room` is the length available. -/
def step1 (b : List Byte) (room : Nat) : Option Nat :=
  let full := imgKind b == 1
  if imgMagic b ≠ 0x4B454F4E then some 0x01
  else if imgFormat b ≠ 1 then some 0x02
  else if imgLen b < 512 ∨ 16 * 2 ^ 20 < imgLen b ∨ imgLen b % 64 ≠ 0 ∨ room < imgLen b then some 0x03
  else if !(full || imgKind b == 2) || !(if full then imgTarget b == 0xFF else decide (imgTarget b < 4)) || decide (64 < imgSvn b)
      || !zeroIn b 0x12 2 || !zeroIn b 0x70 0x90 || (full && !zeroIn b 0x40 48) || !zeroIn b (imgLen b - 64) 64 then some 0x02
  else none

/-- Two sections share no byte; an empty one shares none. -/
def entsApart (a b : DirEnt) : Bool := decide (a.off + a.len ≤ b.off ∨ b.off + b.len ≤ a.off)

/-- Every pair of a list passes a test. -/
def allPairs {α : Type} (ok : α → α → Bool) : List α → Bool
  | [] => true
  | a :: t => t.all (ok a) && allPairs ok t

/-- Step 2 of R48: code BAD_DIRECTORY and the entry it names, if any; sections are counted by type only (R35).  The
refusal of an ENGINE CH_MASK with a bit above channel 3 is the model's choice (log entry 60). -/
def step2 (b : List Byte) : Option (Nat × Nat) :=
  let n := imgSections b
  let endDir := 0x100 + 16 * n
  let endAll := imgLen b - 256
  let es := dirEnts b
  let entOk := fun (e : DirEnt) => decide (1 ≤ e.typ ∧ e.typ ≤ 7) && e.flags == 0 && e.off % 64 == 0
    && decide (endDir ≤ e.off ∧ e.off + e.len ≤ endAll) && (if e.typ = 2 then decide (e.mask < 16) else e.mask == 0)
  let cnt := fun t => (es.filter (fun e => e.typ == t)).length
  if 32 < n ∨ endAll < endDir then some (0x04, 0)
  else match firstBad es entOk with
    | some i => some (0x04, i)
    | none =>
      match firstBad (List.range n) (fun i => (es.take i).all (entsApart (es.getD i ⟨0, 0, 0, 0, 0, 0⟩))) with
      | some i => some (0x04, i)
      | none =>
        let kinds := if imgKind b = 1 then decide (1 ≤ cnt 2) && [1, 3, 4, 5, 6, 7].all (fun t => cnt t == 1)
          else cnt 1 == 1 && cnt 2 == 1 && n == 2
        if kinds then none else some (0x04, 0)

/-- Step 3 of R48: the first section whose CRC differs. -/
def step3 (b : List Byte) : Option (Nat × Nat) :=
  (firstBad (dirEnts b) (fun e => crc32c (entBytes b e) == e.crc)).map (fun i => (0x05, i))

/-- The signature block's public key and signature (R36). -/
def imgKey (b : List Byte) : List Byte := slice b (imgLen b - 256) 96
def imgSig (b : List Byte) : Bool :=
  let o := imgLen b - 256
  ecdsaVerify (beNat (sha384 (b.take (imgLen b - 160)))) (beAt b o 48) (beAt b (o + 48) 48) (beAt b (o + 0x60) 48) (beAt b (o + 0x90) 48)

/-! ## STRUCT (R37 to R39) -/

abbrev recRole (st : List Byte) (c : Nat) : Nat := byteAt st (0x10 + 16 * c)
abbrev recReload (st : List Byte) (c : Nat) : Nat := byteAt st (0x11 + 16 * c)
abbrev recSynth (st : List Byte) (c : Nat) : Nat := leAt st (0x14 + 16 * c) 4
abbrev recBuild (st : List Byte) (c : Nat) : Nat := leAt st (0x18 + 16 * c) 4
abbrev structRegion (st : List Byte) (r : Nat) : Nat × Nat := (leAt st (0x50 + 16 * r) 8, leAt st (0x58 + 16 * r) 8)

/-- The mask of unlocked bits for BAR0 offset `off` (R53). -/
def unlockMask (st : List Byte) (off : Nat) : Nat :=
  (List.range (leAt st 0xC0 4)).foldl
    (fun m i => if leAt st (0xC4 + 8 * i) 4 = off then m ||| leAt st (0xC8 + 8 * i) 4 else m) 0

/-- A role with synthesis engines, and one with build engines (R12). -/
def roleSynthesises (role : Nat) : Bool := role == 1 || role == 3
def roleHasBuild (role : Nat) : Bool := role == 2 || role == 3

/-- A channel record in form (R38): the entry point of a kind of engine that the role has not is 0. -/
def recOk (st : List Byte) (c : Nat) : Bool :=
  decide (recRole st c ≤ 3 ∧ recReload st c ≤ 1) && zeroIn st (0x12 + 16 * c) 2 && zeroIn st (0x1C + 16 * c) 4
    && (roleSynthesises (recRole st c) || recSynth st c == 0) && (roleHasBuild (recRole st c) || recBuild st c == 0)

/-- The non-empty regions, in order of base, cover device memory without gap or overlap (R39). -/
def regionsTile (pos : Nat) : List (Nat × Nat) → Bool
  | [] => pos == memSize
  | r :: t => r.1 == pos && regionsTile (r.1 + r.2) t

/-- The region records of a full image (R39). -/
def regionsOk (st : List Byte) : Bool :=
  let rs := (List.range 7).map (structRegion st)
  (List.range 7).all (fun i =>
    let r := structRegion st i
    r.1 % 2 ^ 29 == 0 && r.2 % 2 ^ 29 == 0 && decide (0 < r.2 ∨ (i = 2 ∧ r.1 < memSize)))
  && regionsTile 0 (sortBy Prod.fst (rs.filter (fun r => decide (0 < r.2))))

/-- RWL bits of the register at `off`, none where no register is defined. -/
def rwlBits (off : Nat) : Nat := match regRowAt off with | some r => r.rwl | none => 0

/-- The unlock table names RWL bits only (R39). -/
def unlockOk (st : List Byte) : Bool :=
  let n := leAt st 0xC0 4
  decide (n ≤ 512 ∧ 0xC4 + 8 * n ≤ st.length) && (List.range n).all (fun i =>
    let off := leAt st (0xC4 + 8 * i) 4
    let m := leAt st (0xC8 + 8 * i) 4
    rwlBits off != 0 && (m &&& rwlBits off) == m)

/-- A role set that keeps a synthesising channel (R12). -/
def rolesOk (roles : List Nat) : Bool := roles.any roleSynthesises

/-- A full image's STRUCT section (R37 to R39). -/
def structOk (st : List Byte) : Bool :=
  decide (0xC4 ≤ st.length) && leAt st 0 4 == 1 && (List.range 4).all (recOk st)
    && rolesOk ((List.range 4).map (recRole st)) && regionsOk st && unlockOk st

/-! ## ENGINE (R101, R102) -/

/-- Window and segment records. -/
def engWindow (e : List Byte) (i : Nat) : Nat × Nat := (leAt e (0x10 + 16 * i) 8, 65536 * leAt e (0x18 + 16 * i) 4)
def engSegment (e : List Byte) (i : Nat) : Nat × Nat × Nat :=
  (leAt e (0x50 + 16 * i) 4, leAt e (0x54 + 16 * i) 4, leAt e (0x58 + 16 * i) 4)
def engWindows (e : List Byte) : List (Nat × Nat) := (List.range (byteAt e 6)).map (engWindow e)
def engSegments (e : List Byte) : List (Nat × Nat × Nat) := (List.range (leAt e 4 2)).map (engSegment e)

/-- An ENGINE section, given the HOST region as base and size (R101, R102). -/
def engineOk (host : Nat × Nat) (e : List Byte) : Bool :=
  let ns := leAt e 4 2
  let nw := byteAt e 6
  decide (0x50 + 16 * ns ≤ e.length) && leAt e 0 4 == 1 && decide (1 ≤ ns ∧ ns ≤ 64 ∧ nw ≤ 4) && zeroIn e 7 9
    && zeroIn e (0x10 + 16 * nw) (16 * (4 - nw))
    && (List.range nw).all (fun i => let w := engWindow e i
        w.1 % 65536 == 0 && decide (w.1 < 2 ^ 36 ∧ 65536 ≤ w.2 ∧ host.1 ≤ w.1 ∧ w.1 + w.2 ≤ host.1 + host.2)
          && zeroIn e (0x1C + 16 * i) 4)
    && (List.range ns).all (fun i => let g := engSegment e i
        g.1 % 16 == 0 && g.2.1 % 16 == 0 && g.2.2 % 16 == 0
          && decide (16 ≤ g.2.1 ∧ g.1 + g.2.1 ≤ 0x80000 ∧ g.2.2 + g.2.1 ≤ e.length) && zeroIn e (0x5C + 16 * i) 4)
    && allPairs (fun a b => decide (a.1 + a.2.1 ≤ b.1 ∨ b.1 + b.2.1 ≤ a.1)) (engSegments e)

/-- An entry point: nonzero, aligned, below 0x8_0000 and inside a segment (R102). -/
def entryOk (e : List Byte) (p : Nat) : Bool :=
  p != 0 && p % 4 == 0 && decide (p < 0x80000) && (engSegments e).any (fun g => decide (g.1 ≤ p ∧ p < g.1 + g.2.1))

/-- The entry points a role needs lie in the section (R102). -/
def entriesOk (e : List Byte) (role synth build : Nat) : Bool :=
  (!roleSynthesises role || entryOk e synth) && (!roleHasBuild role || entryOk e build)

/-- Local-store contents that an ENGINE section gives, unlisted bytes 0 (R101). -/
def engineStore (e : List Byte) : List Host.Cell :=
  (engSegments e).foldl (fun m g => memPutAll m g.1 (slice e g.2.2 g.2.1)) []

/-- The same as 512 KiB of bytes: a channel's reload copy (R103). -/
def engineImage (e : List Byte) : List Byte := (List.range 0x80000).map (memByte (engineStore e))

/-- What an ENGINE section and a channel record give a channel beside its local-store contents. -/
def chanCfgOf (e : List Byte) (synth build : Nat) : ChanCfg :=
  { synthEntry := synth, buildEntry := build, windows := engWindows e }

/-! ## GEOMETRY (R126, R127) -/

def geoDir (g : List Byte) (i : Nat) : Int × Int := (signedOf 16 (leAt g (0x40 + 4 * i) 2), signedOf 16 (leAt g (0x42 + 4 * i) 2))
def geoUMax (g : List Byte) : Nat := (List.range 432).foldl (fun m i => max m (geoDir g i).1.natAbs) 0
def geoVMax (g : List Byte) : Nat := (List.range 432).foldl (fun m i => max m (geoDir g i).2.natAbs) 0

/-- The GEOMETRY section. -/
def geometryOk (g : List Byte) : Bool :=
  let w := leAt g 4 2
  let h := leAt g 6 2
  let p := leAt g 8 2
  decide (0x40 + 1728 ≤ g.length) && leAt g 0 4 == 1 && decide (64 ≤ w ∧ w ≤ 2880 ∧ 32 ≤ h ∧ h ≤ 1620 ∧ 50 ≤ p ∧ p ≤ 2000)
    && w % 16 == 0 && leAt g 0x0A 2 != 0 && unlistedZero g [(0, 0x0C), (0x40, 1728)]
    && decide (geoUMax g ≤ 24576 ∧ geoVMax g ≤ 24576)

/-! ## PANEL (R210, R211, R252, R253) -/

/-- A tile record (R210). -/
structure TileRec where
  x0 : Nat
  x1 : Nat
  y0 : Nat
  y1 : Nat
  group : Nat
  pos   : Nat
  ref   : Nat
  deriving DecidableEq, Repr

def panelTileCount (p : List Byte) : Nat := byteAt p (leAt p 4 4 + 4)
def panelTile (p : List Byte) (t : Nat) : TileRec :=
  let o := leAt p 4 4 + 0x10 + 16 * t
  ⟨leAt p o 2, leAt p (o + 2) 2, leAt p (o + 4) 2, leAt p (o + 6) 2, byteAt p (o + 8), byteAt p (o + 9), leAt p (o + 10) 4⟩
def panelTiles (p : List Byte) : List TileRec := (List.range (panelTileCount p)).map (panelTile p)

/-- Rows y of [y0, y1) with y mod 6 = g. -/
def rowsOf (g y0 y1 : Nat) : List Nat := (rangeFrom y0 (y1 - y0)).filter (fun y => y % 6 == g)

/-- The tiles of a group cover every hogel of its rows exactly once, with positions 0 to n-1 (R211). -/
def groupOk (w h : Nat) (ts : List TileRec) (g : Nat) : Bool :=
  let mine := ts.filter (fun t => t.group == g)
  decide (mine.length ≤ 8) && sortBy id (mine.map (·.pos)) == List.range mine.length
    && (mine.map (fun t => (t.x1 - t.x0) * (rowsOf g t.y0 t.y1).length)).foldl (· + ·) 0 == w * (rowsOf g 0 h).length
    && allPairs (fun a b => decide (a.x1 ≤ b.x0 ∨ b.x1 ≤ a.x0) || (rowsOf g (max a.y0 b.y0) (min a.y1 b.y1)).isEmpty) mine

/-- The tile map (R210, R211). -/
def tileMapOk (w h : Nat) (p : List Byte) : Bool :=
  let o := leAt p 4 4
  let n := panelTileCount p
  decide (o + 0x10 + 16 * n ≤ p.length) && leAt p o 4 == 1 && decide (6 ≤ n ∧ n ≤ 48)
    && (List.range n).all (fun t => let r := panelTile p t
        decide (r.group < 6 ∧ r.x0 ≤ r.x1 ∧ r.x1 ≤ w ∧ r.y0 ≤ r.y1 ∧ r.y1 ≤ h) && r.x0 % 16 == 0 && r.x1 % 16 == 0
          && zeroIn p (o + 0x10 + 16 * t + 14) 2)
    && (List.range 6).all (groupOk w h (panelTiles p))

/-- Strictly ascending. -/
def ascending : List Int → Bool
  | a :: b :: t => decide (a < b) && ascending (b :: t)
  | _ => true

/-- Never descending. -/
def nonDescending : List Nat → Bool
  | a :: b :: t => decide (a ≤ b) && nonDescending (b :: t)
  | _ => true

abbrev panelBands (p : List Byte) : Nat := byteAt p 0x14
abbrev panelPts (p : List Byte) : Nat := byteAt p 0x17
abbrev panelKmax (p : List Byte) : Nat := byteAt p 0x48
abbrev panelDmax (p : List Byte) : Nat := byteAt p 0x49
def panelBandLo (p : List Byte) (b : Nat) : Int := signedOf 8 (byteAt p (0x18 + b))
def panelLux (p : List Byte) (i : Nat) : Nat := leAt p (0x20 + 4 * i) 2
def panelFactor (p : List Byte) (i : Nat) : Nat := leAt p (0x22 + 4 * i) 2
/-- Where the entries of the drive, stress and correction tables lie in the section (R253). -/
def driveEntry (p : List Byte) (t b c : Nat) : Nat := leAt p 8 4 + 8 * (24 * t + 3 * b + c)
def stressEntry (p : List Byte) (c e : Nat) : Nat := leAt p 0x0C 4 + 16384 * c + 4 * e
def ctabEntry (p : List Byte) (c i : Nat) : Nat := leAt p 0x10 4 + 1024 * c + i

/-- The bytes of the PANEL section that its layouts list (R210, R252, R253). -/
def panelSpans (p : List Byte) : List (Nat × Nat) :=
  let n := panelTileCount p
  [(0, 0x4C), (leAt p 4 4, 5), (leAt p 4 4 + 0x10, 16 * n), (leAt p 8 4, 192 * n), (leAt p 0x0C 4, 3 * 16384), (leAt p 0x10 4, 3 * 1024)]

/-- The drive, stress and correction tables (R253). -/
def panelTablesOk (p : List Byte) : Bool :=
  let n := panelTileCount p
  let d := leAt p 8 4
  let st := leAt p 0x0C 4
  let ct := leAt p 0x10 4
  decide (d + 192 * n ≤ p.length ∧ st + 3 * 16384 ≤ p.length ∧ ct + 3 * 1024 ≤ p.length)
    && (List.range (24 * n)).all (fun i => decide (leAt p (d + 8 * i + 4) 2 < 4096) && zeroIn p (d + 8 * i + 6) 2)
    && (List.range (3 * 4096)).all (fun i => byteAt p (st + 4 * i + 3) == 0)
    && (List.range 3).all (fun c =>
        let l := (List.range 1024).map (fun i => byteAt p (ctabEntry p c i))
        nonDescending l && l.all (fun x => decide (x ≤ panelKmax p)))

/-- The PANEL section for a panel of W × H hogels (R211, R252, R253). -/
def panelOk (w h : Nat) (p : List Byte) : Bool :=
  let nb := panelBands p
  let np := panelPts p
  decide (0x4C ≤ p.length) && leAt p 0 4 == 1 && [4, 8, 0x0C, 0x10].all (fun o => leAt p o 4 % 16 == 0)
    && decide (1 ≤ nb ∧ nb ≤ 8 ∧ byteAt p 0x15 < nb ∧ byteAt p 0x16 ≤ 15 ∧ 2 ≤ np ∧ np ≤ 8)
    && ascending ((rangeFrom 1 (nb - 1)).map (panelBandLo p))
    && ascending ((List.range np).map (fun i => (panelLux p i : Int))) && (List.range np).all (fun i => decide (panelFactor p i ≤ 32768))
    && decide (1 ≤ leAt p 0x44 2 ∧ leAt p 0x44 2 ≤ 255 ∧ leAt p 0x46 2 ≤ 4095 ∧ 1 ≤ panelDmax p)
    && tileMapOk w h p && panelTablesOk p && unlistedZero p (panelSpans p)

/-! ## POLICY (R40, R190, R320, R372) and the overlay description (R191) -/

abbrev polQuality (p : List Byte) (k : Nat) : Nat := byteAt p (4 + k)
abbrev polResumeAck (p : List Byte) : Nat := leAt p 8 4
abbrev polMinNs (p : List Byte) : Nat := leAt p 0x0C 4
abbrev polMaxNs (p : List Byte) : Nat := leAt p 0x10 4
abbrev polOvl (p : List Byte) : List Byte := if leAt p 0x14 4 = 0 then [] else slice p (leAt p 0x14 4) (leAt p 0x18 4)
/-- RESERVE of rank r, 2 to 7, in KiB (R320). -/
def polReserve (p : List Byte) (r : Nat) : Nat := if leAt p 0x1C 4 = 0 then 0 else leAt p (leAt p 0x1C 4 + 4 + 2 * (r - 2)) 2
/-- The check-block record of context n (R372): FLAGS, POLY, ALIVE_BITS, ALIVE_OFF, MIN_LEN; all 0 without a block. -/
def polCku (p : List Byte) (n : Nat) : Nat × Nat × Nat × Nat × Nat :=
  let o := leAt p 0x20 4
  if o = 0 then (0, 0, 0, 0, 0)
  else let r := o + 16 + 8 * n
    (byteAt p r, byteAt p (r + 1), byteAt p (r + 2), byteAt p (r + 3), leAt p (r + 4) 2)

/-- A field record (R191). -/
structure OvlField where
  x : Nat
  y : Nat
  w : Nat
  h : Nat
  ctx : Nat
  typ : Nat
  off : Nat
  maxAge : Nat
  digits : Nat
  dp  : Nat
  mul : Int
  shift : Nat
  scale : Nat
  fg : Nat
  bg : Nat
  deriving DecidableEq, Repr

abbrev ovlFields (d : List Byte) : Nat := byteAt d 4
abbrev ovlStatics (d : List Byte) : Nat := byteAt d 5
abbrev ovlGw (d : List Byte) : Nat := byteAt d 8
abbrev ovlGh (d : List Byte) : Nat := byteAt d 9
def ovlDisp (d : List Byte) : Int := signedOf 16 (leAt d 6 2)
def ovlField (d : List Byte) (f : Nat) : OvlField :=
  let o := leAt d 0x10 4 + 48 * f
  { x := leAt d o 2, y := leAt d (o + 2) 2, w := leAt d (o + 4) 2, h := leAt d (o + 6) 2, ctx := byteAt d (o + 8), typ := byteAt d (o + 9)
    off := leAt d (o + 10) 2, maxAge := leAt d (o + 12) 2, digits := byteAt d (o + 14), dp := byteAt d (o + 15)
    mul := signedOf 32 (leAt d (o + 16) 4), shift := byteAt d (o + 20), scale := byteAt d (o + 21), fg := leAt d (o + 0x18) 5
    bg := leAt d (o + 0x20) 5 }
/-- A static record: column, row, offset of its bytes. -/
def ovlStatic (d : List Byte) (i : Nat) : Nat × Nat × Nat :=
  let o := leAt d 0x14 4 + 8 * i
  (byteAt d o, byteAt d (o + 1), leAt d (o + 4) 4)
def ovlCku (d : List Byte) (t : Nat) : Nat := byteAt d (0x20 + t)

/-- Text cells of a field. -/
def OvlField.cells (f : OvlField) : Nat := 1 + f.digits + (if 0 < f.dp then 1 else 0)

/-- The tiles a rectangle of hogels touches: column, row. -/
def tilesTouched (x y w h : Nat) : List (Nat × Nat) :=
  if w = 0 ∨ h = 0 then []
  else (rangeFrom (y / 32) ((y + h - 1) / 32 + 1 - y / 32)).flatMap (fun r =>
    (rangeFrom (x / 32) ((x + w - 1) / 32 + 1 - x / 32)).map (fun c => (c, r)))

/-- Drop repeated elements. -/
def dedup {α : Type} [BEq α] : List α → List α
  | [] => []
  | a :: t => a :: (dedup t).filter (fun b => !(b == a))

/-- A field record in range, its rectangle large enough for its text, its context used (R191). -/
def ovlFieldOk (w h : Nat) (d : List Byte) (f : OvlField) : Bool :=
  decide (f.x + f.w ≤ w ∧ f.y + f.h ≤ h ∧ f.ctx ≤ 15 ∧ f.typ ≤ 3 ∧ 1 ≤ f.maxAge ∧ f.maxAge ≤ 10000 ∧ 1 ≤ f.digits ∧ f.digits ≤ 9
      ∧ f.dp < f.digits ∧ f.shift ≤ 31 ∧ 1 ≤ f.scale ∧ f.scale ≤ 4)
    && ovlCku d f.ctx != 0xFF && decide (f.cells * ovlGw d * f.scale ≤ f.w ∧ ovlGh d * f.scale ≤ f.h)

/-- The tiles the overlay touches. -/
def ovlTiles (d : List Byte) : List (Nat × Nat) :=
  dedup ((List.range (ovlStatics d)).map (fun i => ((ovlStatic d i).1, (ovlStatic d i).2.1))
    ++ (List.range (ovlFields d)).flatMap (fun f => let r := ovlField d f; tilesTouched r.x r.y r.w r.h))

/-- The bytes of an overlay description that its layouts list (R191). -/
def ovlSpans (d : List Byte) : List (Nat × Nat) :=
  [(0, 0x0A), (0x0C, 12), (0x20, 16), (leAt d 0x0C 4, 48 * ovlGh d), (leAt d 0x10 4, 48 * ovlFields d), (leAt d 0x14 4, 8 * ovlStatics d)]
    ++ (List.range (ovlStatics d)).map (fun i => ((ovlStatic d i).2.2, 5120))

/-- The overlay description (R191, R372). -/
def overlayOk (w h : Nat) (pol d : List Byte) : Bool :=
  let nf := ovlFields d
  let ns := ovlStatics d
  let fo := leAt d 0x10 4
  let so := leAt d 0x14 4
  decide (0x30 ≤ d.length ∧ nf ≤ 64 ∧ ns ≤ 96 ∧ 4 ≤ ovlGw d ∧ ovlGw d ≤ 32 ∧ 4 ≤ ovlGh d ∧ ovlGh d ≤ 48) && leAt d 0 4 == 1
    && unlistedZero d (ovlSpans d)
    && decide (leAt d 0x0C 4 + 48 * ovlGh d ≤ d.length ∧ fo + 48 * nf ≤ d.length ∧ so + 8 * ns ≤ d.length)
    && (List.range 16).all (fun t => ovlCku d t == 0xFF || (decide (ovlCku d t < 32) && bitAt (polCku pol (ovlCku d t)).1 0))
    && (List.range nf).all (fun f => ovlFieldOk w h d (ovlField d f) && zeroIn d (fo + 48 * f + 0x16) 2
        && zeroIn d (fo + 48 * f + 0x1D) 3 && zeroIn d (fo + 48 * f + 0x25) 11)
    && (List.range ns).all (fun i => let r := ovlStatic d i
        decide (r.1 < ceilDiv w 32 ∧ r.2.1 < ceilDiv h 32 ∧ r.2.2 + 5120 ≤ d.length) && zeroIn d (so + 8 * i + 2) 2)
    && allPairs (fun a b => !(a == b)) ((List.range ns).map (fun i => ((ovlStatic d i).1, (ovlStatic d i).2.1)))
    && decide ((ovlTiles d).length ≤ 128)

/-- The network block of POLICY (R320). -/
def polNetOk (p : List Byte) : Bool :=
  let o := leAt p 0x1C 4
  o == 0 || (o % 16 == 0 && decide (o + 16 ≤ p.length) && leAt p o 4 == 1)

/-- The check block of POLICY (R372); a record that is not DEFINED has its layout's reserved bytes checked only. -/
def polCkuOk (p : List Byte) : Bool :=
  let o := leAt p 0x20 4
  o == 0 || (o % 16 == 0 && decide (o + 272 ≤ p.length) && leAt p o 4 == 1 && zeroIn p (o + 4) 12
    && (List.range 32).all (fun n =>
        let (fl, poly, ab, ao, ml) := polCku p n
        zeroIn p (o + 16 + 8 * n + 6) 2
          && (!bitAt fl 0 || decide (poly ≤ 3 ∧ ab ≤ 2 ∧ ao + (if ab = 2 then 2 else 1) + crcBytes poly ≤ ml))))

/-- The POLICY section for a panel of W × H hogels (R40, R190, R191, R320, R372). -/
def policyOk (w h : Nat) (p : List Byte) : Bool :=
  decide (0x24 ≤ p.length) && leAt p 0 4 == 1 && (List.range 4).all (fun k => decide (polQuality p k ≤ 3)) && decide (polResumeAck p ≤ 1)
    && decide (6944444 ≤ polMinNs p ∧ polMaxNs p ≤ 20833333 ∧ polMinNs p ≤ polMaxNs p)
    && leAt p 0x14 4 % 16 == 0 && polNetOk p && polCkuOk p
    && (leAt p 0x14 4 == 0 || (decide (leAt p 0x14 4 + leAt p 0x18 4 ≤ p.length) && overlayOk w h p (polOvl p)))

/-! ## NET (R319 to R321, R327) -/

/-- A context record (R320). -/
structure NetCtx where
  ctx    : Nat
  kind   : Nat
  rank   : Nat
  flags  : Nat
  meter  : Nat
  target : Nat
  queue  : Nat
  rates  : List Nat      -- CIR, CBS, EIR or PIR, EBS or PBS
  tmpl   : Nat
  deriving DecidableEq, Repr

def netCtx (n : List Byte) (i : Nat) : NetCtx :=
  let o := leAt n 0x10 4 + 32 * i
  { ctx := leAt n o 2, kind := byteAt n (o + 2), rank := byteAt n (o + 3), flags := byteAt n (o + 4), meter := byteAt n (o + 5)
    target := byteAt n (o + 6), queue := byteAt n (o + 7), rates := (List.range 4).map (fun k => leAt n (o + 8 + 4 * k) 4)
    tmpl := byteAt n (o + 24) }
def netCtxs (n : List Byte) : List NetCtx := (List.range (leAt n 4 2)).map (netCtx n)
/-- A rule: key, mask, context; an exact entry: key, context. -/
def netRule (n : List Byte) (i : Nat) : List Byte × List Byte × Nat :=
  let o := leAt n 0x14 4 + 112 * i
  (slice n o 48, slice n (o + 48) 48, leAt n (o + 96) 2)
def netExact (n : List Byte) (i : Nat) : List Byte × Nat :=
  let o := leAt n 0x18 4 + 64 * i
  (slice n o 48, leAt n (o + 48) 2)
def netTmpl (n : List Byte) (i : Nat) : List Byte := slice n (leAt n 0x1C 4 + 64 * i) 64
/-- Queue record of port p, queue q. -/
def netQueue (n : List Byte) (p q : Nat) : List Byte := slice n (leAt n 0x20 4 + 16 * (64 * p + q)) 16

/-- The fields of a key break no range: one bit per port, four flags, a 12-bit VID, reserved bytes 0 (R319). -/
def netKeyOk (k : List Byte) : Bool :=
  decide (byteAt k 0 < 4 ∧ byteAt k 1 < 16 ∧ byteAt k 2 < 16) && byteAt k 7 == 0 && zeroIn k 0x2C 4

/-- Ranks and targets each kind admits (R321). -/
def kindRankOk (c : NetCtx) : Bool :=
  match c.kind with
  | 0 => c.rank == 7
  | 1 => (c.rank == 3 || c.rank == 6 || c.rank == 7) && decide (c.target < 16)
  | 2 => c.rank == 6
  | 3 => c.rank == 4 && decide (c.target < 64)
  | 4 => c.rank == 2 && decide (c.target < 16)
  | 5 => c.rank == (if bitAt c.flags 0 then 5 else 7) && decide (c.target < 16)
  | 6 => c.rank == 3 || c.rank == 5 || c.rank == 7
  | _ => false

/-- A context record (R320, R321). -/
def netCtxOk (n : List Byte) (c : NetCtx) : Bool :=
  decide (2 ≤ c.ctx ∧ c.ctx ≤ 16383 ∧ c.meter ≤ 2) && kindRankOk c
    && (!(c.kind == 5 || c.kind == 6) || (decide (c.queue < 64) && [0, 1].all (fun p => byteAt (netQueue n p c.queue) 0 == c.rank)))
    && (c.kind != 5 || (decide (c.tmpl < leAt n 0x0A 2) && bitsOf c.flags 2 1 != 0))

/-- The bytes of the NET section that its layouts list (R320). -/
def netSpans (n : List Byte) : List (Nat × Nat) :=
  let at_ := fun k => leAt n (0x10 + 4 * k) 4
  [(0, 0x0D), (0x10, 20), (at_ 0, 32 * leAt n 4 2), (at_ 1, 112 * leAt n 6 2), (at_ 2, 64 * leAt n 8 2), (at_ 3, 64 * leAt n 0x0A 2),
   (at_ 4, 16 * 128)]

/-- The NET section, with the reserves that POLICY gives (R320, R321). -/
def netOk (pol n : List Byte) : Bool :=
  let nc := leAt n 4 2
  let nr := leAt n 6 2
  let ne := leAt n 8 2
  let nt := leAt n 0x0A 2
  let at_ := fun k => leAt n (0x10 + 4 * k) 4
  let cs := netCtxs n
  let known := fun c => decide (c < 2) || cs.any (fun x => x.ctx == c)
  decide (0x24 ≤ n.length ∧ nr ≤ 512 ∧ ne ≤ 16384 ∧ nt ≤ 64) && leAt n 0 4 == 1 && unlistedZero n (netSpans n)
    && decide (at_ 0 + 32 * nc ≤ n.length ∧ at_ 1 + 112 * nr ≤ n.length ∧ at_ 2 + 64 * ne ≤ n.length ∧ at_ 3 + 64 * nt ≤ n.length
        ∧ at_ 4 + 16 * 128 ≤ n.length)
    && decide (((List.range 6).map (fun k => polReserve pol (k + 2))).foldl (· + ·) 0 ≤ 2048)
    && (List.range 128).all (fun q => let r := slice n (at_ 4 + 16 * q) 16
        (byteAt r 0 == 3 || byteAt r 0 == 5 || byteAt r 0 == 7) && zeroIn r 2 2)
    && (List.range nc).all (fun i => netCtxOk n (netCtx n i) && zeroIn n (at_ 0 + 32 * i + 25) 7)
    && allPairs (fun (a b : NetCtx) => a.ctx != b.ctx && !((a.kind == 3 || a.kind == 4) && a.kind == b.kind && a.target == b.target)) cs
    && (List.range nr).all (fun i => let r := netRule n i; netKeyOk r.1 && known r.2.2 && zeroIn n (at_ 1 + 112 * i + 98) 14)
    && (List.range ne).all (fun i => let r := netExact n i; netKeyOk r.1 && known r.2 && zeroIn n (at_ 2 + 64 * i + 50) 14)
    && allPairs (fun (a b : List Byte × Nat) => !(a.1 == b.1)) ((List.range ne).map (netExact n))
    && (List.range nt).all (fun i => let t := netTmpl n i
        decide (byteAt t 8 < 4 ∧ 256 ≤ leAt t 0x34 2 ∧ leAt t 0x34 2 ≤ 8900) && zeroIn t 0x36 10)

end Sys2Proof.Machine
end

