-- ==== Sys2Proof/Machine/Panel.lean ====
section
/-!
DEFINITION. The panel as the image describes it (R125 to R127, R210, R252): tiles, ray directions, the places of the
mirror, the Scorch map and the correction map, and the current code (R254).
-/

namespace Sys2Proof.Machine

/-! ## Sections in force -/

/-- A section of the active image, empty while none is applied. -/
def State.panelSec (s : State) : List Byte := match s.csu.image with | some i => i.panel | none => []
def State.geoSec (s : State) : List Byte := match s.csu.image with | some i => i.geometry | none => []
def State.polSec (s : State) : List Byte := match s.csu.image with | some i => i.policy | none => []
def State.netSec (s : State) : List Byte := match s.csu.image with | some i => i.net | none => []

/-- Tiles of the map (R210). -/
def State.tiles (s : State) : List TileRec := panelTiles s.panelSec
def State.tileRec (s : State) (t : Nat) : TileRec := s.tiles.getD t ⟨0, 0, 0, 0, 0, 0, 0⟩

/-- The tile that drives hogel (x, y) (R210). -/
def State.tileOf (s : State) (x y : Nat) : Option Nat :=
  s.tiles.findIdx? (fun t => t.group == y % 6 && decide (t.x0 ≤ x ∧ x < t.x1 ∧ t.y0 ≤ y ∧ y < t.y1))

/-- TADDR of tile t, and the tile of a TADDR (R210). -/
def TileRec.addr (t : TileRec) : Nat := 8 * t.group + t.pos
def State.tileAt (s : State) (taddr : Nat) : Option Nat := s.tiles.findIdx? (fun t => t.addr == taddr)

/-- The tiles of group g. -/
def State.groupTiles (s : State) (g : Nat) : List Nat :=
  (List.range s.tiles.length).filter (fun t => (s.tileRec t).group == g)

/-- Rows y of a rectangle that group g carries (R210). -/
def groupRows (g : Nat) (r : Rect) : List Nat := rowsOf g r.y0 r.y1

/-! ## The device's areas in CONTROL: 0 class map, 1 conversion block, 2 rig copies, 3 clone copies, 4 build record and
tracker entries, 5 freeze image, 6 event ring, 7 decoder records, 8 encoder records, 9 the PANEL section, 10 to 13 the
channels' reload copies, 14 the staged channel image -/

/-- Length of area `k`. -/
def State.controlLen (s : State) (k : Nat) : Nat :=
  match k with
  | 0 => 96 * s.tileCols * s.tileRows
  | 1 => 16384
  | 2 => 0x40000
  | 3 => 24 * s.geomW * s.geomH
  | 4 => 2048
  | 6 => 131072
  | 7 => 131072
  | 8 => 32768
  | 9 => s.panelSec.length
  | 14 => 0x1000000
  | 10 | 11 | 12 | 13 => 0x80000
  | _ => 65536

/-- Address of area `k`: the event ring at the start of CONTROL (R390), then the others one after another, each after a
free gap, 64 KiB aligned. -/
def State.controlAt (s : State) (k : Nat) : Nat :=
  if k = 6 then s.regionBase 6
  else s.regionBase 6 + s.controlLen 6
    + ((rangeFrom 0 k).filter (fun j => j != 6)).foldl (fun a j => a + 65536 * ceilDiv (s.controlLen j) 65536) 0
    + (rangeFrom 0 (k + 1)).foldl (fun a j => a + 65536 * (Config.controlGap j).toNat) 0

/-- Channel `c`'s reload copy in CONTROL, as the contents of a local store (R103). -/
def State.reloadCopy (s : State) (c : Nat) : List Host.Cell :=
  let a := s.controlAt (10 + c)
  (s.mem.filter (fun (e : Host.Cell) => decide (a ≤ e.1 ∧ e.1 < a + 0x80000))).map (fun e => (e.1 - a, e.2))

/-- `n` bytes at an offset of the PANEL section, from its copy in CONTROL (R252). -/
def State.panelWord (s : State) (off n : Nat) : Nat := s.memNat (s.controlAt 9 + off) n

/-- The entries of the tables that DRIVE and the Scorch passes read: DOFF, IREFBASE, stress rate, correction value (R253). -/
def State.doff (s : State) (t b c : Nat) : Int := signedOf 32 (s.panelWord (driveEntry s.panelSec t b c) 4)
def State.irefBase (s : State) (t b c : Nat) : Nat := s.panelWord (driveEntry s.panelSec t b c + 4) 2 % 4096
def State.stress (s : State) (c e : Nat) : Nat := s.panelWord (stressEntry s.panelSec c e) 3
def State.ctab (s : State) (c i : Nat) : Nat := s.panelWord (ctabEntry s.panelSec c i) 1

/-! ## Rays -/

/-- Hogel number W·y + x. -/
def State.hogel (s : State) (x y : Nat) : Nat := s.geomW * y + x

/-- Mirror address of a hogel (R216). -/
def State.mirrorAddr (s : State) (x y : Nat) : Nat := s.regionBase 3 + 648 * s.hogel x y

/-- Ray number 432·(W·y + x) + i, for i = 3k + s. -/
def State.rayIdx (s : State) (x y i : Nat) : Nat := 432 * s.hogel x y + i

/-- Addresses in the Scorch map (R260) and the correction map (R264). -/
def State.scorchAddr (s : State) (ray : Nat) : Nat := s.regionBase 4 + 2 * ray
def State.corrAddr (s : State) (ray : Nat) : Nat := s.regionBase 5 + ray

/-- The code of ray i of a hogel in the mirror (R216). -/
def State.mirrorCode (s : State) (x y i : Nat) : Nat :=
  bitsOf (s.memNat (s.mirrorAddr x y + 3 * (i / 2)) 3) (12 * (i % 2) + 11) (12 * (i % 2))

/-- A 24-bit pair of codes with one of them replaced. -/
def putCode (pair i code : Nat) : Nat := if i % 2 = 0 then 4096 * (pair / 4096) + code % 4096 else pair % 4096 + 4096 * (code % 4096)

/-- Replace the code of ray i of a hogel in the mirror. -/
def State.putMirror (s : State) (client x y i code : Nat) : State :=
  let a := s.mirrorAddr x y + 3 * (i / 2)
  s.memWriteNat client a 3 (putCode (s.memNat a 3) i code)

/-! ## The current code (R254) -/

/-- `n` squarings. -/
def squarings : Nat → Nat → Nat
  | 0, x => x
  | n + 1, x => squarings n (x * x)

/-- The largest k with 2^k at most `n`, for a k in [acc, acc + 2^b): one bit of it at a time. -/
def floorLog : Nat → Nat → Nat → Nat
  | 0, acc, _ => acc
  | b + 1, acc, n => floorLog b (if 2 ^ (acc + 2 ^ b) ≤ n then acc + 2 ^ b else acc) n

/-- LOG2T[i] = floor(65,536 × log2(1 + i/1,024) + 0.5), from the 2^17-th power of 1,024 + i. -/
def log2T (i : Nat) : Nat := (floorLog 21 0 (squarings 17 (1024 + i)) - 10 * 2 ^ 17 + 1) / 2

/-- A signed number as 32-bit arithmetic keeps it (R254). -/
def wrap32 (x : Int) : Int := signedOf 32 (unsignedOf 32 x)

/-- The code of composited value `c` with log offset `doff` and correction value `k` (R254). -/
def driveCode (c : Nat) (doff : Int) (k : Nat) : Nat :=
  if c = 0 then 0
  else
    let e := c.log2
    let f := c * 2 ^ (31 - e) / 2 ^ 21 % 1024
    let v := wrap32 ((65536 * e + log2T f : Nat) + doff)
    let u : Int := max (wrap32 (v + 128) / 256) 1
    (min (u + (k : Int)) 4095).toNat

/-- The code under correction `d` of a shown code `e` (R259). -/
def correctCode (e d : Nat) : Nat := if e = 0 then 0 else min (e + d) 4095

/-- The correction map in force for a frame, latched at its start: the CORRECT region's bytes and poisoned words, and
VALID (R255, R269). -/
def State.latchMap (s : State) : State :=
  let lo := s.corrAddr 0
  let hi := s.corrAddr (s.rayIdx 0 s.geomH 0)
  { s with frame := { s.frame with
      kValid := s.on CAL_MAP_STATUS_VALID
      kMap := s.mem.filter (fun (e : Host.Cell) => decide (lo ≤ e.1 ∧ e.1 < hi))
      kBad := s.poison.filter (fun w => decide (lo / 16 ≤ w ∧ w * 16 < hi)) } }

/-- The correction value that the frame takes for a ray, and whether its word is poisoned; 0 while the maps are not valid
(R255, R269, R271). -/
def State.corrK (s : State) (ray : Nat) : Nat × Bool :=
  let a := s.corrAddr ray
  if !s.frame.kValid then (0, false)
  else if s.frame.kBad.contains (a / 16) || s.poisonedAt a then (0, true)
  else ((memByte s.frame.kMap a).toNat, false)

/-- A poisoned map word is met: counted, source 868 (R271). -/
def State.mapPoison (s : State) : State := (s.count CAL_POISON_CNT).raiseOnce 868 0

/-- The code of ray i of hogel (x, y) for composited value c, and whether its correction word was poisoned (R254,
R255). -/
def State.rayCode (s : State) (x y i c : Nat) : Nat × Bool :=
  let t := (s.tileOf x y).getD 0
  let k := s.corrK (s.rayIdx x y i)
  (driveCode c (s.doff t (s.frame.bandOf.getD t 0) (i % 3)) k.1, k.2)

end Sys2Proof.Machine
end

