-- ==== Sys2Proof/Machine/EngineBase.lean ====
section
/-!
DEFINITION. Drakor ray engines: what the frame path and the camera path need of them (R104 to R110, R115, R119):
engine states, queues, dispatch, DMA transfers, fault records, and the stop of an aborted frame's runs.
-/

namespace Sys2Proof.Machine

/-! ## Engines and channels; engine g is number g mod 32 of channel g / 32 (R10) -/

def State.eng (s : State) (g : Nat) : Engine := s.engines.getD g .reset
def State.setEng (s : State) (g : Nat) (f : Engine → Engine) : State := { s with engines := s.engines.modify g f }
def State.chan (s : State) (c : Nat) : Channel := s.chans.getD c .reset
def State.setChan (s : State) (c : Nat) (f : Channel → Channel) : State := { s with chans := s.chans.modify c f }

/-- CH_ENG_STATE.STATE (R110). -/
abbrev esOffline : Nat := 0
abbrev esIdle : Nat := 1
abbrev esRun : Nat := 2
abbrev esFault : Nat := 3
abbrev esReload : Nat := 4
abbrev esParked : Nat := 5

def State.engState (s : State) (g : Nat) : Nat := s.get (CH_ENG_STATE_STATE (g / 32) (g % 32))

/-- Enter a state, and show it in the channel's masks (R122). -/
def State.setEngState (s : State) (g st : Nat) : State :=
  (((s.put (CH_ENG_STATE_STATE (g / 32) (g % 32)) st).putBit (CH_ENG_IDLE (g / 32)) (g % 32) (st == esIdle)).putBit
    (CH_ENG_FAULTED (g / 32)) (g % 32) (decide (esFault ≤ st ∧ st ≤ esParked))).putBit
    (CH_ENG_OFFLINE (g / 32)) (g % 32) (st == esOffline)

/-- The engine is a build engine (R12, CH_ENG_STATE.KIND). -/
def State.engBuilds (s : State) (g : Nat) : Bool := s.on (CH_ENG_STATE_KIND (g / 32) (g % 32))

/-- Its bit of CH_ENG_ENABLE is 1. -/
def State.engEnabled (s : State) (g : Nat) : Bool := bitAt (s.rdN (CH_ENG_ENABLE (g / 32))) (g % 32)

/-- Program counter. -/
def State.engPc (s : State) (g : Nat) : Nat := s.rdN (CH_ENG_PC (g / 32) (g % 32))
def State.setPc (s : State) (g pc : Nat) : State := s.wrN (CH_ENG_PC (g / 32) (g % 32)) pc

/-- The engines of a channel. -/
def chanEngines (c : Nat) : List Nat := rangeFrom (32 * c) 32

/-- Role of a channel: 0 DISABLED, 1 SYNTH, 2 BUILD, 3 SPLIT. -/
def State.role (s : State) (c : Nat) : Nat := s.get (CH_STATUS_ROLE c)

/-- Engine `e` of a channel of this role builds (R12). -/
def roleBuilds (role e : Nat) : Bool := role == 2 || (role == 3 && decide (16 ≤ e))

/-- The channel's ENGCLK gate is open (R404). -/
def State.gateOpen (s : State) (c : Nat) : Bool := bitAt (s.rdN PWR_CH_GATE_STATUS) c

/-- The channel is in LOADING or READY of a reload (R54). -/
def State.reloading (s : State) (c : Nat) : Bool :=
  (s.get CSU_RELOAD_STATUS_STATE == 3 || s.get CSU_RELOAD_STATUS_STATE == 4) && s.get CSU_RELOAD_STATUS_CH == c

/-- The channel runs: it has a role, its gate is open and not closing, and no reload holds it (R17, R54, R404). -/
def State.chanRuns (s : State) (c : Nat) : Bool :=
  s.role c != 0 && s.gateOpen c && !bitAt s.pwr.gateClosing c && !s.reloading c

/-- The source of a channel event, for one engine: data is the mask of engines (R124). -/
def State.chanEvent (s : State) (g i : Nat) : State := s.raiseMask (128 + 32 * (g / 32) + i) (2 ^ (g % 32))

/-- Show whether the channel's queues hold items. -/
def State.showQueues (s : State) (c : Nat) : State :=
  (s.putB (CH_STATUS_SYNTH_QUEUE c) (!(s.chan c).runs.isEmpty)).putB (CH_STATUS_BUILD_QUEUE c) (!(s.chan c).builds.isEmpty)

/-- The last build item of a closing channel has ended: its gate closes (R404). -/
def State.closeGate (s : State) (c : Nat) : State :=
  if bitAt s.pwr.gateClosing c && (chanEngines c).all (fun g => s.engState g != esRun) then
    let s1 := (chanEngines c).foldl (fun st g => st.setEngState g esOffline) (s.putBit PWR_CH_GATE_STATUS c false)
    State.raise { s1 with pwr := { s1.pwr with gateClosing := s1.pwr.gateClosing - 2 ^ c } } 105 0
  else s

/-- An engine's work item has ended: it waits for work, or goes OFFLINE when its bit is cleared or its channel no
longer runs (R110). -/
def State.engFree (s : State) (g : Nat) : State :=
  let s1 := (s.setEng g (fun e => { e with item := none })).setEngState g
    (if s.engEnabled g && s.chanRuns (g / 32) then esIdle else esOffline)
  s1.closeGate (g / 32)

/-! ## Local store (R96) -/

abbrev lsSize : Nat := 0x80000

def Engine.lsRead (e : Engine) (a n : Nat) : List Byte := (List.range n).map (fun i => sparseGet emptyByte e.ls (a + i))
def Engine.lsNat (e : Engine) (a n : Nat) : Nat := leNat (e.lsRead a n)
def Engine.lsWrite (e : Engine) (a : Nat) (bs : List Byte) : Engine := { e with ls := memPutAll e.ls a bs }

/-- [a, a+n) overlaps the local-store range of an outstanding transfer (R98). -/
def Engine.lsBusy (e : Engine) (a n : Nat) : Bool :=
  e.tags.any (fun t => match t with | some x => decide (a < x.ls + x.len ∧ x.ls < a + n) | none => false)

/-! ## Plane cache (R97): 8,192 sets of 16 lines -/

/-- Put a line into its set, in the place of line `victim` mod 16 of a full one (log entry 70). -/
def Channel.fill (ch : Channel) (victim : Nat) (l : CacheLine) : Channel :=
  let rest := ch.cache.filter (fun k => k.line != l.line)
  let set := rest.filter (fun k => k.line % 8192 == l.line % 8192)
  { ch with cache := l :: (if set.length < 16 then rest else rest.filter (fun k => k.line != (set.getD (victim % 16) l).line)) }

/-- Discard a line. -/
def Channel.discard (ch : Channel) (line : Nat) : Channel := { ch with cache := ch.cache.filter (fun k => k.line != line) }

/-- Device memory as the samplers of channel c read it: through the lines that its cache holds. -/
def State.throughCache (s : State) (c : Nat) : State :=
  (s.chan c).cache.foldl (fun st l =>
    { st with mem := memPutAll st.mem (256 * l.line) l.data
              poison := l.bad.foldl (fun p w => setInsert w p) (st.poison.filter (fun w => w / 16 != l.line)) }) s

/-! ## Dispatch (R104 to R107) -/

/-- WI word `i`. -/
def Engine.word (e : Engine) (i : Nat) : Nat := (e.wi.getD i 0).toNat

/-- Hogel count of the run in hand. -/
def Engine.runLen (e : Engine) : Nat := e.word 2 % 32

/-- Start an item: registers clear, WI0 to WI7 load, and the engine starts at its entry point (R104). -/
def State.startItem (s : State) (g : Nat) (it : Item) : State :=
  let cfg := s.csu.chans.getD (g / 32) .reset
  let s1 := s.setEng g (fun e => { e with
    sx := List.replicate 32 0, vx := List.replicate 32 (List.replicate 16 0), pm := 0xFFFF :: List.replicate 7 0
    wi := it.wi.map (BitVec.ofNat 32), scratch := List.replicate 32 0, emitted := 0, item := some it, start := s.now })
  (s1.setPc g (if it.build then cfg.buildEntry else cfg.synthEntry)).setEngState g esRun

/-- The engine granted next: the first idle one of the kind from the pointer on (R28, R107). -/
def State.grantee (s : State) (c : Nat) (build : Bool) (turn : Nat) : Option Nat :=
  ((List.range 32).map (fun k => 32 * c + (turn + k) % 32)).find? (fun g => s.engState g == esIdle && s.engBuilds g == build)

/-- An idle engine takes the next item from its queue (R107). -/
def workItemDispatch (c : Nat) (build : Bool) (s : State) : State :=
  let ch := s.chan c
  match s.grantee c build (if build then ch.turnB else ch.turnS), (if build then ch.builds else ch.runs) with
  | some g, it :: rest =>
    let s1 := s.setChan c (fun ch => if build then { ch with builds := rest, turnB := (g + 1) % 32 }
                                     else { ch with runs := rest, turnS := (g + 1) % 32 })
    (s1.startItem g it).showQueues c
  | _, _ => s

/-! ## DMA (R115) -/

/-- Carry out an outstanding transfer; true when a DMRD met poison, and then nothing is written. -/
def State.dmaCarry (s : State) (g : Nat) (x : Xfer) : State × Bool :=
  if x.write then ((s.dmaWrite (g / 32) writerBuild x.dev ((s.eng g).lsRead x.ls x.len) 0).1, false)
  else if s.poisonedIn x.dev x.len then (s.notePoisonRead (g / 32), true)
  else (s.setEng g (fun e => e.lsWrite x.ls (s.memRead x.dev x.len)), false)

/-- Let every outstanding transfer of an engine end; the first one that met poison is the second answer. -/
def State.dmaDrain (s : State) (g : Nat) : State × Option Xfer :=
  let r := (s.eng g).tags.foldl (fun (acc : State × Option Xfer) t => match t with
    | none => acc
    | some x => let d := acc.1.dmaCarry g x; (d.1, if acc.2.isNone && d.2 then some x else acc.2)) (s, none)
  (r.1.setEng g (fun e => { e with tags := List.replicate 8 none }), r.2)

/-! ## Fault records (R119, R121) -/

abbrev fcIllegal : Nat := 1
abbrev fcLsRange : Nat := 2
abbrev fcDmRange : Nat := 3
abbrev fcLsUncorr : Nat := 4
abbrev fcDmPoison : Nat := 5
abbrev fcEmitRange : Nat := 6
abbrev fcEmitDup : Nat := 7
abbrev fcDoneIncomplete : Nat := 8
abbrev fcTimeout : Nat := 9
abbrev fcTrap : Nat := 0xA
abbrev fcReloadFail : Nat := 0xB

/-- Write the fault record; a fault with no address leaves a free value in CH_ENG_FAULT_ADDR (log entry 21). -/
def State.faultRecord (s : State) (g code pc : Nat) (addr : Option Nat) : State :=
  let c := g / 32
  let e := g % 32
  let again := s.on (CH_ENG_FAULT_VALID c e)
  let s1 := ((s.put (CH_ENG_FAULT_CODE c e) code).put (CH_ENG_FAULT_VALID c e) 1).wrN (CH_ENG_FAULT_PC c e) pc
  let s2 := if again then s1.put (CH_ENG_FAULT_OVERRUN c e) 1 else s1
  let s3 := match addr with
    | some a => s2.wrN (CH_ENG_FAULT_ADDR c e) (a % 2 ^ 32)
    | none => (s2.freeNext).wr (CH_ENG_FAULT_ADDR c e) s2.freeVal
  (s3.wrN (CH_ENG_FAULT_WI c e) ((s.eng g).word 1)).count (CH_FAULT_CNT c)

/-- A fault stops the engine: record, state FAULT and event; its transfers end first, and the item leaves it
(R119, R124). -/
def State.stopFaulted (s : State) (g code pc : Nat) (addr : Option Nat) : State :=
  let s1 := ((s.dmaDrain g).1.faultRecord g code pc addr).setEngState g esFault
  let s2 := if code = fcLsUncorr then s1.count (CH_LS_UNCORR_CNT (g / 32)) else s1
  ((s2.setEng g (fun e => { e with item := none, valid := false })).chanEvent g
    (if code = fcLsUncorr ∨ code = fcDmPoison then 1 else 0)).closeGate (g / 32)

/-! ## Abort (R109, R121) -/

/-- A synthesis engine in RUN stops: its transfers complete first, and a fault that they meet is recorded. -/
def State.abortRun (s : State) (g : Nat) : State :=
  match s.dmaDrain g with
  | (s1, some x) => s1.stopFaulted g fcDmPoison x.pc (some x.dev)
  | (s1, none) => s1.engFree g

/-- The frame aborts: queued runs are dropped and synthesis engines in RUN return to IDLE (R109). -/
def State.dropRuns (s : State) : State :=
  let s1 := (List.range 4).foldl (fun st c => (st.setChan c (fun ch => { ch with runs := [] })).showQueues c) s
  (List.range 128).foldl (fun st g => if st.engState g == esRun && !st.engBuilds g then st.abortRun g else st) s1

/-- The frame has ended: no channel holds a share of a frame in progress. -/
def State.endShares (s : State) : State := (List.range 4).foldl (fun st c => st.put (CH_STATUS_FRAME_ACTIVE c) 0) s

end Sys2Proof.Machine
end

