-- ==== Sys2Proof/Machine/EhlBase.lean ====
section
/-!
DEFINITION. What the frame path needs of a redundant pair (R421, R427, R429): the pair states, handover and demotion.
-/

namespace Sys2Proof.Machine

/-! ## Pair states (R421) -/

abbrev pairUnpaired : Nat := 0
abbrev pairLinking : Nat := 1
abbrev pairPrimary : Nat := 2
abbrev pairSecondary : Nat := 3
abbrev pairSolo : Nat := 4
abbrev pairDetached : Nat := 5

def State.pairState (s : State) : Nat := s.get EHL_STATUS_PAIR

/-- ROLE is DRIVE in PRIMARY, SOLO and UNPAIRED, and STANDBY otherwise; SPL_STATUS.ROLE follows it. -/
def State.setPair (s : State) (p : Nat) : State :=
  let standby := bit (p == pairLinking || p == pairSecondary || p == pairDetached)
  ((s.put EHL_STATUS_PAIR p).put EHL_STATUS_ROLE standby).put SPL_STATUS_ROLE standby

/-- The device drives the tiles. -/
def State.drives (s : State) : Bool := s.get SPL_STATUS_ROLE == 0

/-- The device takes its frames from its partner. -/
def State.isSecondary (s : State) : Bool := s.pairState == pairSecondary

/-- Send to the secondary of a pair. -/
def State.toPartner (s : State) (m : EhlMsg) : State := if s.pairState = pairPrimary then s.ehlSend 0 m else s

/-- Enter SECONDARY: a join follows, and one that this device was giving ends (R425). -/
def State.enterSecondary (s : State) : State :=
  let s1 := ((s.setPair pairSecondary).put EHL_STATUS_IN_SYNC 0).put EHL_STATUS_JOINING 1
  { s1 with ehl := { s1.ehl with joinLeft := [], syncFrame := 0, selfDone := false } }

/-- The primary asks its partner to take over, and becomes SECONDARY (R427, R429). -/
def State.handOver (s : State) : State :=
  if s.pairState = pairPrimary ∧ s.ehl.linkUp then ((s.ehlSend 0 .handover).enterSecondary).raise 803 0 else s

/-- A PRIMARY that loses a tile demotes itself (R429). -/
def State.demote (s : State) : State :=
  if s.pairState = pairPrimary then
    if s.ehl.linkUp then s.handOver else ((s.setPair pairDetached).put EHL_STATUS_IN_SYNC 0).raise 803 0
  else s

/-- The secondary loses sync for a reason (R424). -/
def State.desync (s : State) (reason : Nat) : State :=
  if s.isSecondary && s.on EHL_STATUS_IN_SYNC then
    let s1 := (((s.put EHL_STATUS_IN_SYNC 0).put EHL_STATUS_DESYNC reason).count EHL_DESYNC_CNT).raise 804 0
    { s1 with ehl := { s1.ehl with fstart := none, later := [] } }
  else s

/-- A host write that the secondary refuses (R426). -/
def State.refuseHost (s : State) (off : Nat) : State := ((s.wrN EHL_REFUSED_ADDR off).count EHL_REFUSED_CNT).raise 806 0

end Sys2Proof.Machine
end

