-- ==== Sys2Proof/Machine/Spl.lean ====
section
/-!
DEFINITION. The Scalas panel link (R208 to R242): rows and packets, the update queue, the status return, exclusion
and restores, HOLD, bring-up and retrains, test modes.
-/

namespace Sys2Proof.Machine

/-! ## Groups and tiles -/

def State.group (s : State) (g : Nat) : Group := s.spl.groups.getD g .reset
def State.setGroup (s : State) (g : Nat) (f : Group → Group) : State :=
  { s with spl := { s.spl with groups := s.spl.groups.modify g f } }

/-- SPL_G_STATE.STATE (R239). -/
abbrev gDisabled : Nat := 0
abbrev gDetect : Nat := 1
abbrev gTrain : Nat := 2
abbrev gLock : Nat := 3
abbrev gCaps : Nat := 4
abbrev gActive : Nat := 5
abbrev gHold : Nat := 6
abbrev gFailed : Nat := 7

def State.gState (s : State) (g : Nat) : Nat := s.get (SPL_G_STATE_STATE g)

/-- Enter a state; the stage limits run from now. -/
def State.setG (s : State) (g st : Nat) : State := (s.put (SPL_G_STATE_STATE g) st).setGroup g (fun k => { k with since := s.now })

/-- A frame is in progress on the link. -/
def State.frameOn (s : State) : Bool := s.on SPL_STATUS_FRAME_ACTIVE

/-- FRAME and ATT of the frame in progress, and those the next frame start gives (R227, R265). -/
def State.frameNo (s : State) : Nat := (s.rdN SPL_FRAME_CNT + 1) % 65536
def State.attNow (s : State) : Nat := s.bits SPL_ATTEMPT 7 0
def State.attNext (s : State) : Nat := (s.attNow + 1) % 256

/-- Blanking window of group g is open (R232). -/
def State.windowOpen (s : State) (g : Nat) : Bool := bitAt (s.get SPL_STATUS_WINDOW) g

/-- The group is enabled: SPL_CTRL.EN and its bit of GROUP_EN (R239). -/
def State.groupEnabled (s : State) (g : Nat) : Bool := s.on SPL_CTRL_EN && bitAt (s.get SPL_CTRL_GROUP_EN) g

/-! ## Rows (R212 to R215) -/

/-- A block of 64 bits through a lane's scrambler 1 + x^39 + x^58, whose last 58 bits are `h`: the bits sent and the last
58 of them (R213). -/
def scrambleBlock (h w : Nat) : Nat × Nat :=
  let a := (w ^^^ (h / 2 ^ 19) ^^^ h) % 2 ^ 39
  let h1 := h / 2 ^ 39 + 2 ^ 19 * a
  let b := (w / 2 ^ 39 ^^^ (h1 / 2 ^ 19) ^^^ h1) % 2 ^ 25
  (a + 2 ^ 39 * b, h1 / 2 ^ 25 + 2 ^ 33 * b)

/-- A row leaves: lane n carries bytes 8n to 8n + 7 in a block with sync header 0b10 for a control row and 0b01 for a data
row, scrambled but for the header (R212, R213). -/
def Group.sendRow (k : Group) (row : Bool × List Byte) : Group :=
  let r := (List.range 16).map (fun n => scrambleBlock (k.scram.getD n 0) (leAt row.2 (8 * n) 8))
  { k with scram := r.map Prod.snd, line := r.map (fun e => (if row.1 then 2 else 1, e.1)) }

/-- Rows leave on group g, one after another. -/
def State.sendRows (s : State) (g : Nat) (rows : List (Bool × List Byte)) : State :=
  s.setGroup g (fun k => rows.foldl Group.sendRow k)

/-- An IDLE row. -/
def idleRow : List Byte := leBytes 1 0x1E ++ List.replicate 127 0

/-- A TS1 row: the group and the TX preset of each lane (R214). -/
def ts1Row (g : Nat) (presets : List Nat) : List Byte :=
  leBytes 1 0x2D ++ leBytes 1 g ++ (List.range 8).flatMap (fun i => leBytes 1 (presets.getD (2 * i) 0 % 16 + 16 * (presets.getD (2 * i + 1) 0 % 16)))
    ++ List.replicate 118 0

/-- A TS2 row: the group, the protocol version, the role, and SPL_FRAME_CNT (R214). -/
def ts2Row (g role frames : Nat) : List Byte :=
  leBytes 1 0x33 ++ leBytes 1 g ++ leBytes 1 1 ++ leBytes 1 role ++ leBytes 4 frames ++ List.replicate 120 0

/-- A MARK row: kind, FRAME, ATT, LEVEL, DELAY, and its CRC-32C (R214). -/
def markRow (kind frame att level delay : Nat) : List Byte :=
  let b := leBytes 1 0x4B ++ leBytes 1 kind ++ leBytes 2 frame ++ leBytes 1 att ++ leBytes 1 level ++ leBytes 4 delay
    ++ List.replicate 110 0
  b ++ leBytes 4 (crc32c b) ++ List.replicate 4 0

/-- A MARK leaves on every ACTIVE group in the same row slot, in three consecutive rows (R214). -/
def State.sendMark (s : State) (row : List Byte) : State :=
  (List.range 6).foldl (fun (st : State) g => if st.gState g = gActive then st.sendRows g (List.replicate 3 (true, row)) else st)
    { s with spl := { s.spl with mark := row } }

/-- A MARK of the driving device: a secondary sends STANDBY alone (R236). -/
def State.driveMark (s : State) (row : List Byte) : State := if s.drives then s.sendMark row else s

/-- Every 1 µs a device on standby sends STANDBY (R236). -/
def State.standbyMark (s : State) : State :=
  if s.drives || (s.now + s.tickHalfNs) / 2000 == s.now / 2000 then s else s.sendMark (markRow 6 0 0 0 0)

/-- A packet: its header row and its payload (R215). -/
def packetBytes (kind taddr flags frame att upd x y nrows pkts : Nat) (payload : List Byte) : List Byte :=
  let b := leBytes 1 0x78 ++ leBytes 1 kind ++ leBytes 1 taddr ++ leBytes 1 flags ++ leBytes 2 frame ++ leBytes 2 att
    ++ leBytes 2 upd ++ leBytes 2 x ++ leBytes 2 y ++ leBytes 2 nrows ++ leBytes 4 (crc32c payload)
  b ++ leBytes 4 (crc32c b) ++ leBytes 2 pkts ++ List.replicate 102 0 ++ payload

/-- The rows of a packet: its header in a control row, its payload in data rows. -/
def packetRows (bytes : List Byte) : List (Bool × List Byte) :=
  (List.range (bytes.length / 128)).map (fun i => (i == 0, (bytes.drop (128 * i)).take 128))

/-- A packet leaves on group g. -/
def State.sendPacket (s : State) (g : Nat) (bytes : List Byte) : State :=
  let n := (s.group g).packets + 1
  ((s.sendRows g (packetRows bytes)).setGroup g (fun k => { k with sent := bytes, packets := n % 65536 })).countN (SPL_G_PKT_CNT g) (n / 65536)

/-! ## Pieces (R210, R221) -/

/-- The part of a rectangle that lies in tile `t` and band `m`. -/
def pieceArea (r : Rect) (t : TileRec) (m : Nat) : Rect :=
  ⟨max r.x0 t.x0, min r.x1 t.x1, max (max r.y0 t.y0) (32 * m), min (min r.y1 t.y1) (32 * m + 32)⟩

/-- Packets of an area on group g in send order: first hogel column and row. -/
def areaPackets (g : Nat) (a : Rect) : List (Nat × Nat) :=
  (groupRows g a).flatMap (fun y => (List.range ((a.x1 - a.x0) / 16)).map (fun k => (a.x0 + 16 * k, y)))

def State.piecePackets (s : State) (u : Update) (p : Piece) : List (Nat × Nat) :=
  let t := s.tileRec p.tile
  areaPackets t.group (pieceArea u.rect t p.band)

/-- The pieces of a rectangle, by tile and then by band. -/
def State.piecesOf (s : State) (r : Rect) : List Piece :=
  (List.range s.tiles.length).flatMap (fun t =>
    ((rangeFrom (r.y0 / 32) ((r.y1 + 31) / 32 - r.y0 / 32)).filter (fun m =>
      !(areaPackets (s.tileRec t).group (pieceArea r (s.tileRec t) m)).isEmpty)).map
      (fun m => { tile := t, band := m, next := 0, retry := false, acked := false, sends := [], lastAt := 0, order := 0 }))

/-- The whole of tile t as an update (R221). -/
def State.restoreUpdate (s : State) (t : Nat) : Update :=
  let r := s.tileRec t
  let rect : Rect := ⟨r.x0, r.x1, r.y0, r.y1⟩
  { upd := 1024 + t, restore := some t, rect := rect, phase := 0, pieces := (s.piecesOf rect).filter (fun p => p.tile == t) }

/-- A frame rectangle as an update. -/
def State.rectUpdate (s : State) (n : Nat) (r : Rect) : Update :=
  { upd := n, restore := none, rect := r, phase := 0, pieces := s.piecesOf r }

/-- Every code of the packet at (x, y) is in the mirror; restores are always there (R216, R221). -/
def State.packetReady (s : State) (u : Update) (x y : Nat) : Bool :=
  u.restore.isSome || (List.range 16).all (fun h => sparseGet (fun _ => 0) s.frame.codes (s.hogel (x + h) y) == 2 ^ 432 - 1)

/-- The piece is ready: its first packet is in the mirror. -/
def State.pieceReady (s : State) (u : Update) (p : Piece) : Bool :=
  match (s.piecePackets u p).head? with | some q => s.packetReady u q.1 q.2 | none => false

/-- Two rectangles overlap. -/
def Rect.meets (a b : Rect) : Bool := decide (a.x0 < b.x1 ∧ b.x0 < a.x1 ∧ a.y0 < b.y1 ∧ b.y0 < a.y1)

/-- Row y holds hogels of an update inside its rectangle: every row of a frame rectangle, the group's own of a restore. -/
def State.updateRow (s : State) (u : Update) (y : Nat) : Bool :=
  match u.restore with | some t => y % 6 == (s.tileRec t).group | none => true

/-- Two updates share a hogel; rows repeat their groups every six. -/
def State.overlap (s : State) (u v : Update) : Bool :=
  let y := max u.rect.y0 v.rect.y0
  u.rect.meets v.rect
    && (rangeFrom y (min 6 (min u.rect.y1 v.rect.y1 - y))).any (fun k => s.updateRow u k && s.updateRow v k)

/-! ## The queue (R221 to R223) -/

/-- Show the numbers of updates in flight and pending. -/
def State.showQueue (s : State) : State :=
  s.wrN SPL_QUEUE ((s.spl.queue.filter (fun u => u.phase == 1)).length + 2 ^ 8 * (s.spl.queue.filter (fun u => u.phase == 0)).length)

/-- A restore of tile t waits for a frame start. -/
def State.restoreWaits (s : State) (t : Nat) : Bool := s.spl.carriedRestores.contains t || s.spl.restoresIn.contains t

/-- An update whose pieces are all acknowledged or dropped is complete; a complete restore is no longer pending. -/
def State.settleQueue (s : State) : State :=
  let done (u : Update) : Bool := u.phase != 2 && u.pieces.all (fun p => p.acked)
  let s1 := (s.spl.queue.filter done).foldl (fun st u => match u.restore with
    | some t => if st.restoreWaits t then st else st.put (SPL_T_STATUS_RESTORE_PENDING t) 0
    | none => st) s
  State.showQueue { s1 with spl := { s1.spl with queue := s1.spl.queue.map (fun u => if done u then { u with phase := 2 } else u) } }

/-- Change the pieces of the queue. -/
def State.mapPieces (s : State) (f : Update → Piece → Piece) : State :=
  { s with spl := { s.spl with queue := s.spl.queue.map (fun u => { u with pieces := u.pieces.map (f u) }) } }

/-! ## Exclusion and restores (R226, R233) -/

/-- Tile t is excluded. -/
def State.excluded (s : State) (t : Nat) : Bool :=
  !s.on (SPL_T_STATUS_PRESENT t) || s.gState (s.tileRec t).group != gActive || !s.on (SPL_T_STATUS_HERE t)

/-- Request a restore of tile t, for the frames that start from the next tick on; requests merge (R231, R233). -/
def State.requestRestore (s : State) (t : Nat) : State :=
  State.put { s with spl := { s.spl with restoresIn := setInsert t s.spl.restoresIn } } (SPL_T_STATUS_RESTORE_PENDING t) 1

/-- A restore of an aborted frame is requested again (R230). -/
def State.carryRestore (s : State) (t : Nat) : State :=
  State.put { s with spl := { s.spl with carriedRestores := setInsert t s.spl.carriedRestores } } (SPL_T_STATUS_RESTORE_PENDING t) 1

/-- At the end of a tick its restore requests join the others. -/
def State.settleRestores (s : State) : State :=
  { s with spl := { s.spl with carriedRestores := s.spl.restoresIn.foldl (fun l t => setInsert t l) s.spl.carriedRestores, restoresIn := [] } }

/-- Drop what is addressed to tile t: pieces, its REFSET and its sent CORR packets count as acknowledged. -/
def State.dropTile (s : State) (t : Nat) : State :=
  let n := (s.spl.queue.map (fun u => (u.pieces.filter (fun p => p.tile == t && !p.acked)).length)).foldl (· + ·) 0
  let s1 := (s.countN SPL_DROP_CNT n).mapPieces (fun _ p => if p.tile == t then { p with acked := true } else p)
  let g := (s.tileRec t).group
  let s2 := s1.setGroup g (fun k => { k with
    corr := k.corr.map (fun c => if c.tile == t && c.sent then { c with acked := true } else c)
    resend := k.resend.filter (fun r => match r with
      | .rect _ tile _ _ _ => tile != t
      | .refset tile => tile != t
      | .corr _ => true) })
  State.settleQueue { s2 with spl := { s2.spl with
    refsets := s2.spl.refsets.map (fun r => if r.tile == t then { r with acked := true } else r) } }

/-- Judge tile t again: exclusion raises 327 and drops its pieces; inclusion requests a restore, with 328, when the
tile has no valid content or its group has trained (R226). -/
def State.judgeTile (s : State) (t : Nat) : State :=
  let was := s.on (SPL_T_STATUS_EXCLUDED t)
  let now := s.excluded t
  let s1 := s.putB (SPL_T_STATUS_EXCLUDED t) now
  if now && !was then (s1.raiseMask 327 (2 ^ t)).dropTile t
  else if was && !now then
    let s2 := { s1 with spl := { s1.spl with trained := s1.spl.trained.set t false } }
    if !s.on (SPL_T_STATUS_CONTENT_VALID t) || s.spl.trained.getD t false then (s2.requestRestore t).raiseMask 328 (2 ^ t) else s2
  else s1

/-- Judge every tile of group g again. -/
def State.judgeGroup (s : State) (g : Nat) : State := (s.groupTiles g).foldl State.judgeTile s

/-- A write of SPL_RESTORE: one tile, or all (R233). -/
def splRestore (val : Word) (s : State) : State :=
  if bitAt val.toNat 8 then (List.range s.tiles.length).foldl State.requestRestore s
  else if val.toNat % 64 < s.tiles.length then s.requestRestore (val.toNat % 64) else s

/-! ## Windows (R232) -/

/-- The window of group g closes: each CORR packet that it did not send is a ranked loss (R30). -/
def State.closeWindow (s : State) (g : Nat) : State :=
  let n := ((s.group g).corr.filter (fun c => !c.sent)).length
  let s1 := s.put SPL_STATUS_WINDOW (s.get SPL_STATUS_WINDOW - 2 ^ g)
  if n = 0 then s1 else (s1.countN SPL_TRICKLE_LOSS_CNT n).raise 951 0

/-- Close the window of every group on which a piece of the frame's queue is ready. -/
def State.closeWindows (s : State) : State :=
  (List.range 6).foldl (fun st g =>
    if st.frameOn && st.windowOpen g && st.spl.queue.any (fun u => u.pieces.any (fun p =>
        (st.tileRec p.tile).group == g && !p.acked && st.pieceReady u p)) then st.closeWindow g else st) s

/-! ## Sending (R222 to R225) -/

/-- The update that may start: the oldest that meets the conditions of R222. -/
def State.startable (s : State) : Option Update :=
  let flying := s.spl.queue.filter (fun u => u.phase == 1)
  if 16 ≤ flying.length then none
  else (List.range s.spl.queue.length).findSome? (fun i => match s.spl.queue[i]? with
    | some u =>
      if u.phase == 0 && flying.all (fun v => !s.overlap v u)
          && (s.spl.queue.take i).all (fun v => v.phase != 0 || !s.overlap v u)
          && u.pieces.any (fun p => !p.acked && s.pieceReady u p) then some u else none
    | none => none)

/-- The update of number `upd` is in flight; its pieces for the tiles `gone` are dropped. -/
def Update.begin (upd : Nat) (gone : List Nat) (v : Update) : Update :=
  if v.upd = upd then
    { v with phase := 1, pieces := v.pieces.map (fun p => if gone.contains p.tile then { p with acked := true } else p) }
  else v

/-- A pending update starts (R222); pieces for excluded tiles are dropped (R226). -/
def updateStart (upd : Nat) (s : State) : State :=
  match s.startable with
  | some u =>
    if u.upd ≠ upd ∨ s.frameOn = false ∨ s.frame.setup ∨ s.drives = false then s
    else
      let gone := (List.range s.tiles.length).filter s.excluded
      let n := (u.pieces.filter (fun p => gone.contains p.tile && !p.acked)).length
      let s1 := { s with spl := { s.spl with queue := s.spl.queue.map (Update.begin upd gone) } }
      ((s1.countN SPL_DROP_CNT n).closeWindows).settleQueue
  | none => s

/-- A piece of the tile is partly sent, other than this one; it holds back every piece but the re-sends of R220 (R224). -/
def State.openElsewhere (s : State) (u : Update) (p : Piece) : Bool :=
  s.spl.queue.any (fun v => v.phase == 1 && v.pieces.any (fun q =>
    q.tile == p.tile && !q.acked && !(v.upd == u.upd && q.band == p.band)
      && decide (0 < q.next ∧ q.next < (s.piecePackets v q).length)))

/-- The piece can send its next packet on group g. -/
def State.sendable (s : State) (g : Nat) (u : Update) (p : Piece) : Bool :=
  (s.tileRec p.tile).group == g && !p.acked && !s.excluded p.tile
    && (match (s.piecePackets u p)[p.next]? with | some q => s.packetReady u q.1 q.2 | none => false)
    && (p.retry || !s.openElsewhere u p)

/-- The piece of an update that sends next on group g: tiles rotate, bands from the top (R225). -/
def State.pickPiece (s : State) (g : Nat) (retry : Bool) (u : Update) : Option Piece :=
  let can := u.pieces.filter (fun p => p.retry == retry && s.sendable g u p)
  let after := can.find? (fun p => decide ((s.group g).lastTile < p.tile))
  match can.find? (fun p => p.tile == (s.group g).lastTile && decide (0 < p.next)) with
  | some p => if (can.filter (fun q => q.tile != p.tile)).isEmpty then some p else after.orElse (fun _ => can.head?)
  | none => after.orElse (fun _ => can.head?)

/-- Oldest update first. -/
def State.pickUpdate (s : State) (g : Nat) (retry : Bool) : Option (Update × Piece) :=
  (s.spl.queue.filter (fun u => u.phase == 1)).findSome? (fun u => (s.pickPiece g retry u).map (fun p => (u, p)))

/-- A RECT packet, read from the mirror (R215, R216). -/
def State.rectBytes (s : State) (u : Update) (p : Piece) (x y : Nat) (retry : Bool) : List Byte :=
  packetBytes 1 (s.tileRec p.tile).addr (bit retry + 2 * bit u.restore.isSome) s.frameNo s.attNow u.upd x y 81
    (s.piecePackets u p).length (s.memRead (s.mirrorAddr x y) 10368)

/-- A read of the mirror for the link may meet poison (client 4). -/
def State.readMirror (s : State) (x y : Nat) : State :=
  if s.poisonedIn (s.mirrorAddr x y) 10368 then s.notePoisonRead 4 else s

/-- Send the next packet of a piece. -/
def State.sendPiece (s : State) (g : Nat) (u : Update) (p : Piece) : State :=
  match (s.piecePackets u p)[p.next]? with
  | none => s
  | some q =>
    let s1 := ((s.readMirror q.1 q.2).sendPacket g (s.rectBytes u p q.1 q.2 p.retry)).setGroup g (fun k => { k with lastTile := p.tile })
    let order := if p.order = 0 then s.spl.begun + 1 else p.order
    let s2 := { s1 with spl := { s1.spl with begun := max s1.spl.begun order } }
    s2.mapPieces (fun v r => if v.upd = u.upd ∧ r.tile = p.tile ∧ r.band = p.band then
      { r with next := p.next + 1, lastAt := s.now, order := order } else r)

/-- A REFSET packet: reference currents and band (R258). -/
def State.refsetBytes (s : State) (r : Refset) (retry : Bool) : List Byte :=
  packetBytes 3 (s.tileRec r.tile).addr (bit retry) s.frameNo s.attNow 2047 0 0 1 1
    ((List.range 3).flatMap (fun c => leBytes 2 (r.iref.getD c 0)) ++ leBytes 1 r.band ++ List.replicate 121 0)

/-- Send the REFSET of a tile. -/
def State.sendRefset (s : State) (g t : Nat) (retry : Bool) : State :=
  match s.spl.refsets.find? (fun r => r.tile == t) with
  | none => s
  | some r =>
    let s1 := s.sendPacket g (s.refsetBytes r retry)
    { s1 with spl := { s1.spl with refsets := s1.spl.refsets.map (fun q =>
        if q.tile = t then { q with sent := true, lastAt := s.now } else q) } }

/-- Hogel of a granule: its first column and its row (R260). -/
def State.granuleAt (s : State) (g : Nat) : Nat × Nat := (g % (s.geomW / 16) * 16, g / (s.geomW / 16))

/-- A CORR packet (R265). -/
def State.corrBytes (s : State) (c : Corr) (frame att : Nat) (retry : Bool) : List Byte :=
  let q := s.granuleAt c.granule
  packetBytes 2 (s.tileRec c.tile).addr (bit retry) frame att 2047 q.1 q.2 54 1 c.delta

/-- A packet asked for again can leave: a RECT packet once its codes are in the mirror (R216). -/
def State.resendReady (s : State) (r : Resend) : Bool :=
  match r with
  | .rect upd _ _ x y => (match s.spl.queue.find? (fun u => u.upd == upd) with | some u => s.packetReady u x y | none => true)
  | _ => true

/-- Send again an entry of the re-send list (R220). -/
def State.sendAgain (s : State) (g : Nat) (r : Resend) : State :=
  let s1 := s.setGroup g (fun k => { k with resend := k.resend.erase r })
  match r with
  | .rect upd tile band x y =>
    (match s.spl.queue.find? (fun u => u.upd == upd) with
     | some u => (match u.pieces.find? (fun p => p.tile == tile && p.band == band) with
       | some p => ((s1.readMirror x y).sendPacket g (s.rectBytes u p x y true)).mapPieces (fun v q =>
           if v.upd = upd ∧ q.tile = tile ∧ q.band = band then { q with lastAt := s.now } else q)
       | none => s1)
     | none => s1)
  | .corr gr =>
    (match (s.group g).corr.find? (fun c => c.granule == gr) with
     | some c => (s1.sendPacket g (s.corrBytes c c.frame c.att true)).setGroup g (fun k => { k with
         corr := k.corr.map (fun d => if d.granule = gr then { d with lastAt := s.now } else d) })
     | none => s1)
  | .refset t => s1.sendRefset g t true

/-- The group sends packets: ACTIVE, driving, outside HOLD and adaptation (R225, R234 to R236). -/
def State.canSend (s : State) (g : Nat) : Bool :=
  s.gState g == gActive && s.drives && !s.on SPL_STATUS_HOLD && !(s.group g).adapting

/-- The REFSET that leaves next on group g; one for an excluded tile counts as acknowledged (R225, R226). -/
def State.nextRefset (s : State) (g : Nat) : Option State :=
  match s.spl.refsets.find? (fun r => (s.tileRec r.tile).group == g && !r.sent && !r.acked) with
  | some r =>
    if s.excluded r.tile then
      some { s with spl := { s.spl with refsets := s.spl.refsets.map (fun q => if q.tile = r.tile then { q with acked := true } else q) } }
    else some (s.sendRefset g r.tile false)
  | none => none

/-- The packet that leaves next on group g by precedence: re-sends, pieces, REFSETs (R225). -/
def State.nextPacket (s : State) (g : Nat) : Option State :=
  match (s.group g).resend.find? s.resendReady with
  | some r => some (s.sendAgain g r)
  | none =>
    if !s.frameOn then none
    else match s.pickUpdate g true with
      | some up => some (s.sendPiece g up.1 up.2)
      | none => match s.pickUpdate g false with
        | some up => some (s.sendPiece g up.1 up.2)
        | none => s.nextRefset g

/-- PRBS31 (x^31 + x^28 + 1) on a lane, 66 bits: the bits sent, and the last 31 of them, the oldest in bit 0. -/
def prbsBlock (h : Nat) : Nat × Nat :=
  (List.range 66).foldl (fun (a : Nat × Nat) i =>
    let b := (a.2 ^^^ a.2 / 2 ^ 3) % 2
    (a.1 + 2 ^ i * b, a.2 / 2 + 2 ^ 30 * b)) (0, h)

/-- A stretch of PRBS31 on every lane (R242). -/
def Group.sendPrbs (k : Group) : Group :=
  let r := k.prbs.map prbsBlock
  { k with prbs := r.map Prod.snd, line := r.map (fun e => (e.1 % 4, e.1 / 4)) }

/-- Group g sends its next row or packet (R214, R225, R234, R236, R239, R242): training rows, PRBS31 in the far-end test,
packets by precedence, IDLE; nothing while its lanes are off. -/
def packetSend (g : Nat) (s : State) : State :=
  if 6 ≤ g then s
  else if !(s.group g).prbs.isEmpty then s.setGroup g Group.sendPrbs
  else match s.gState g with
    | 2 => s.sendRows g [(true, ts1Row g (s.group g).presets)]
    | 3 | 4 => s.sendRows g [(true, ts2Row g (s.get SPL_STATUS_ROLE) (s.rdN SPL_FRAME_CNT))]
    | 5 =>
      if (s.group g).adapting then s.sendRows g [(true, ts1Row g (s.group g).presets)]
      else ((if s.canSend g then s.nextPacket g else none).getD (s.sendRows g [(true, idleRow)]))
    | _ => s

/-- FRAME and ATT of a CORR packet that leaves now: those of the frame whose FLIP applies it, the next one, or the one
that has started without a piece ready yet (R232, R265, log entry 76). -/
def State.corrAtt (s : State) : Nat := if s.frameOn then s.attNow else s.attNext

/-- CORR packets may leave: the maps are in use, not frozen, and the trickle is on (R267, R269, R270). -/
def State.trickleOn (s : State) : Bool :=
  s.on CAL_MAP_STATUS_VALID && !s.on CAL_MAP_CTRL_FREEZE && s.bits CAL_TRICKLE 5 0 != 0

/-- Inside its window a group sends its first queued CORR packet (R225, R232, R265); one for an excluded tile is dropped
and counts as acknowledged (R226). -/
def corrSend (g : Nat) (s : State) : State :=
  match (s.group g).corr.find? (fun c => !c.sent) with
  | some c =>
    if !s.canSend g || !s.windowOpen g || !s.trickleOn || (s.nextPacket g).isSome then s
    else
      let out := s.excluded c.tile
      let s1 := s.setGroup g (fun k => { k with
        lastCorr := some c.granule
        corr := k.corr.map (fun d =>
          if d.granule = c.granule then { d with sent := true, acked := out, frame := s.frameNo, att := s.corrAtt, lastAt := s.now } else d) })
      if out then s1.count SPL_DROP_CNT
      else (s1.sendPacket g (s.corrBytes c s.frameNo s.corrAtt false)).count CAL_TRICKLE_SENT_CNT
  | none => s

/-! ## Trainings (R239, R240) -/

/-- The group's tiles must report CAPS again, and are excluded. -/
def State.untrain (s : State) (g : Nat) : State :=
  let s1 := (s.groupTiles g).foldl (fun st t =>
    State.put { st with spl := { st.spl with trained := st.spl.trained.set t true } } (SPL_T_STATUS_PRESENT t) 0) s
  ((s1.setGroup g (fun k => { k with caps := [], resend := [], adapting := false, prbs := [] })).put ⟨SPL_G_CHAIN g, 3, 0⟩ 0).judgeGroup g

/-- Leave ACTIVE unrequested: source 321, and a primary hands over first (R240, R427). -/
def State.leaveActive (s : State) (g : Nat) : State :=
  if s.gState g = gActive then (s.handOver).raiseMask 321 (2 ^ g) else s

/-- Start a fast retrain with a cause; it skips DETECT. -/
def State.fastRetrain (s : State) (g cause : Nat) (requested : Bool) : State :=
  if s.gState g ≠ gActive then s
  else
    let s1 := if requested then s else s.leaveActive g
    ((((s1.setG g gTrain).setGroup g (fun k => { k with fastAt := s.now })).put (SPL_G_STATE_FAST g) 1).put (SPL_G_STATE_CAUSE g) cause).untrain g

/-- Start a full bring-up. -/
def State.bringUp (s : State) (g : Nat) : State := ((s.setG g gDetect).put (SPL_G_STATE_FAST g) 0).untrain g

/-- A training ends badly: FAILED, counted, source 322; MAP also raises 332. -/
def State.trainFail (s : State) (g cause : Nat) : State :=
  ((((s.setG g gFailed).put (SPL_G_STATE_CAUSE g) cause).count (SPL_G_TRAIN_CNT g)).raiseMask 322 (2 ^ g)) |>
    (fun st => if cause = 5 then st.raiseMask 332 (2 ^ g) else st)

/-- RESUME is sent once no group that left HOLD is retraining (R235). -/
def State.tryResume (s : State) : State :=
  if s.spl.resumeOwed && (List.range 6).all (fun g => !(s.on (SPL_G_STATE_FAST g) && decide (gTrain ≤ s.gState g ∧ s.gState g ≤ gCaps))
      && s.gState g != gHold) then
    let s1 := (List.range 48).foldl (fun st t => st.put (SPL_T_STATUS_HOLDING t) 0) (s.put SPL_STATUS_HOLD 0)
    State.sendMark { s1 with spl := { s1.spl with resumeOwed := false } } (markRow 4 0 0 0 0)
  else s

/-- The group reaches ACTIVE: counted, source 320, and a restore of each of its tiles (R226, R239). -/
def State.groupUp (s : State) (g : Nat) : State :=
  let s1 := (((s.setG g gActive).count (SPL_G_TRAIN_CNT g)).raiseMask 320 (2 ^ g)).judgeGroup g
  ((s1.groupTiles g).foldl State.requestRestore s1).tryResume

/-- Setting SPL_CTRL.EN starts the bring-up of the enabled groups (R239). -/
def splEnable (s : State) : State :=
  let s1 := s.put SPL_CTRL_EN 1
  (List.range 6).foldl (fun st g => if st.gState g = gDisabled && st.groupEnabled g && st.bits (SPL_G_LPBK g) 1 0 == 0 then st.bringUp g else st) s1

/-- SPL_G_CMD 1: full bring-up of an enabled group. -/
def splGBringup (g : Nat) (s : State) : State :=
  if g < 6 ∧ s.groupEnabled g then (s.bringUp g).put (SPL_G_STATE_CAUSE g) 9 else s

/-- SPL_G_CMD 2: fast retrain. -/
def splGRetrain (g : Nat) (s : State) : State := if g < 6 then s.fastRetrain g 9 true else s

/-- A group stops: DISABLED by command, its tiles excluded (R211, R239). -/
def State.stopGroup (s : State) (g : Nat) : State :=
  ((((s.setG g gDisabled).put (SPL_G_STATE_CAUSE g) 9).put (SPL_G_STATE_FAST g) 0).untrain g).tryResume

/-- SPL_G_CMD 3: disable. -/
def splGDisable (g : Nat) (s : State) : State := if g < 6 then s.stopGroup g else s

/-- Groups whose bit of GROUP_EN is cleared stay DISABLED (R211). -/
def State.stopGroups (s : State) : State :=
  (List.range 6).foldl (fun (st : State) g =>
    if !bitAt (st.get SPL_CTRL_GROUP_EN) g && st.gState g != gDisabled then st.stopGroup g else st) s

/-- The group's eye score is the lowest of its tiles (R241); source 323 once, until it has recovered by 16. -/
def State.showEye (s : State) (g : Nat) : State :=
  match s.groupTiles g with
  | [] => s
  | t0 :: rest =>
    let t := rest.foldl (fun b t => if (s.spl.eyes.getD t (255, 0)).1 < (s.spl.eyes.getD b (255, 0)).1 then t else b) t0
    let e := s.spl.eyes.getD t (255, 0)
    let s1 := s.wrN (SPL_G_EYE g) (e.1 % 256 + 2 ^ 8 * (e.2 % 16) + 2 ^ 12 * ((s.tileRec t).pos % 8)
      + 2 ^ 16 * ((s.group g).presets.getD e.2 0 % 16))
    let floor := s.bits SPL_EYE_MIN 7 0
    if e.1 < floor then
      if (s.group g).eyeLow then s1 else (s1.setGroup g (fun k => { k with eyeLow := true })).raiseMask 323 (2 ^ g)
    else if floor + 16 ≤ e.1 then s1.setGroup g (fun k => { k with eyeLow := false }) else s1

/-- Take an adaptation's eye score for the whole chain. -/
def State.takeEye (s : State) (g : Nat) (r : StageInfo) : State :=
  State.showEye { s with spl := { s.spl with eyes := (s.groupTiles g).foldl (fun l t =>
    l.set t (if (s.tileRec t).pos = r.eyeTile then (r.eye % 256, r.eyeLane) else (255, 0))) s.spl.eyes } } g

/-- The eye score that a tile, by its position in the chain, reports for a preset of a lane; at most 255 (R239, R241). -/
def tileScore (r : StageInfo) (pos lane preset : Nat) : Nat := min 255 (((r.scores.getD pos []).getD lane []).getD preset 0)

/-- The first position of a list's least entry. -/
def leastAt (l : List Nat) : Nat := (List.range l.length).foldl (fun b i => if l.getD i 0 < l.getD b 0 then i else b) 0

/-- The preset of a lane whose score is highest at the worst of the `n` tiles; the lowest of equals (R239). -/
def bestPreset (r : StageInfo) (n lane : Nat) : Nat :=
  let worst (p : Nat) : Nat := ((List.range n).map (fun k => tileScore r k lane p)).foldl min 255
  leastAt ((List.range 11).map (fun p => 255 - worst p))

/-- The preset search ends: each lane keeps its best preset, and each tile's score is that of its worst lane (R239, R241). -/
def State.takePresets (s : State) (g : Nat) (r : StageInfo) : State :=
  let n := (s.groupTiles g).length
  let ps := (List.range 16).map (bestPreset r n)
  let s1 := s.setGroup g (fun k => { k with presets := ps })
  let eye (t : Nat) : Nat × Nat :=
    let l := (List.range 16).map (fun i => tileScore r (s.tileRec t).pos i (ps.getD i 0))
    (l.foldl min 255, leastAt l)
  let eyes := (s.groupTiles g).foldl (fun (l : List (Nat × Nat)) t => l.set t (eye t)) s.spl.eyes
  let s2 := { s1 with spl := { s1.spl with eyes := eyes } }
  State.showEye { s2 with pcie := { s2.pcie with
    prevEyes := s2.pcie.prevEyes.set g ((s.groupTiles g).foldl (fun b t => min b (eyes.getD t (255, 0)).1) 255) } } g

/-- The far-end test: after the training PRBS31 leaves on every lane; where its sequence begins the spec leaves open
(R242). -/
def State.startPrbs (s : State) (g : Nat) : State :=
  { s.setGroup g (fun k => { k with prbs := (List.range 16).map (fun n => (Config.freeWord (s.freeCtr + n)).toNat % 2 ^ 31) }) with
    freeCtr := s.freeCtr + 16 }

/-- Every tile of the map has reported CAPS on the group. -/
def State.capsComplete (s : State) (g : Nat) : Bool := (s.groupTiles g).all (fun t => s.on (SPL_T_STATUS_PRESENT t))

/-- A stage of a bring-up ends as R239 asks, and the next begins. -/
def groupStageDone (g : Nat) (r : StageInfo) (s : State) : State :=
  if 6 ≤ g then s
  else match s.gState g with
    | 1 =>
      let s1 := s.wrN (SPL_G_LANES g) (r.lanes % 2 ^ 18)
      if r.lanes % 2 ^ 18 = 2 ^ 18 - 1 then s1.setG g gTrain else s1
    | 2 =>
      if !(s.group g).prbs.isEmpty then s
      else
        let s1 := if s.on (SPL_G_STATE_FAST g) then s else s.takePresets g r
        if s.bits (SPL_G_LPBK g) 1 0 = 3 then s1.startPrbs g else s1.setG g gLock
    | 3 => s.setG g gCaps
    | 4 => if s.capsComplete g then s.groupUp g else s
    | _ => s

/-- Limit of a stage in half-ns (R239, R240). -/
def stageLimit (st : Nat) : Nat := if st = gDetect then 4000000 else if st = gTrain then 40000000 else 2000000

/-- A fast retrain has failed: the failing stage is its cause, and a full bring-up follows (R240). -/
def State.fastFailed (s : State) (g cause : Nat) : State := ((s.trainFail g cause).bringUp g).tryResume

/-- A stage's limit expires: FAILED with the stage as the cause; a fast retrain has 120 µs for all its stages (R239, R240);
the far-end test has no limit after its training. -/
def groupStageTimeout (g : Nat) (s : State) : State :=
  let st := s.gState g
  if 6 ≤ g ∨ st < gDetect ∨ gCaps < st ∨ !(s.group g).prbs.isEmpty then s
  else if s.on (SPL_G_STATE_FAST g) then (if s.now + s.tickHalfNs ≤ (s.group g).fastAt + 240000 then s else s.fastFailed g st)
  else if s.now + s.tickHalfNs ≤ (s.group g).since + stageLimit st then s
  else s.trainFail g st

/-- Ten ms after FAILED the group returns to DETECT. -/
def groupFailedRetry (g : Nat) (s : State) : State :=
  if 6 ≤ g ∨ s.gState g ≠ gFailed ∨ s.now + s.tickHalfNs ≤ (s.group g).since + 20000000 then s else s.bringUp g

/-- A fast retrain ends: ACTIVE, or with the failing stage as its cause and a full bring-up (R240). -/
def fastRetrainDone (g : Nat) (ok : Bool) (cause : Nat) (s : State) : State :=
  if 6 ≤ g ∨ !s.on (SPL_G_STATE_FAST g) ∨ s.gState g < gTrain ∨ gCaps < s.gState g then s
  else if ok then if s.capsComplete g then s.groupUp g else s
  else s.fastFailed g cause

/-! ## Status return (R218 to R220) -/

/-- The tile a record names, when the device takes the record: CRC correct and TADDR of this group's map (R218). -/
def State.srTile (s : State) (g : Nat) (r : StatusRec) (ok : Bool) : Option Nat :=
  if ok then (s.tileAt r.taddr).filter (fun t => (s.tileRec t).group == g) else none

/-- The last completed piece a tile reports. -/
def State.showProgress (s : State) (t : Nat) (r : StatusRec) : State :=
  (s.wrN (SPL_T_PROG_FRAME t) (r.frame % 65536 + 2 ^ 16 * (r.att % 256))).wrN (SPL_T_PROG_PIECE t) (r.upd % 2048 + 2 ^ 16 * (r.band % 64))

/-- The deadline of the frame in progress passes in the running tick: an acknowledgement is too late (R231). -/
def State.deadlinePasses (s : State) : Bool := s.frameOn && s.drives && decide (s.frame.deadline < s.now + s.tickHalfNs)

/-- An acknowledgement of the oldest sent REFSET or CORR packet of the tile with this FRAME and ATT. -/
def State.ackDrive (s : State) (g t : Nat) (r : StatusRec) : State :=
  if s.deadlinePasses then s
  else if r.frame = s.frameNo ∧ r.att = s.attNow ∧ s.frameOn ∧ s.spl.refsets.any (fun q => q.tile == t && q.sent && !q.acked) then
    { s with spl := { s.spl with refsets := s.spl.refsets.map (fun q => if q.tile = t then { q with acked := true } else q) } }
  else match (s.group g).corr.find? (fun c => c.tile == t && c.sent && !c.acked && c.frame == r.frame && c.att == r.att) with
    | some c => s.setGroup g (fun k => { k with corr := k.corr.map (fun d => if d.granule = c.granule then { d with acked := true } else d) })
    | none => s

/-- ACK (R218): a piece of the frame in progress, or a REFSET or CORR packet. -/
def srAck (g : Nat) (r : StatusRec) (ok : Bool) (s : State) : State :=
  match s.srTile g r ok with
  | none => s
  | some t =>
    if r.upd = 2047 then s.ackDrive g t r
    else
      let s1 := s.showProgress t r
      if s.frameOn ∧ r.frame = s.frameNo ∧ r.att = s.attNow ∧ s.deadlinePasses = false then
        (s1.mapPieces (fun u p => if u.upd = r.upd ∧ p.tile = t ∧ p.band = r.band ∧ u.phase = 1 then { p with acked := true } else p)).settleQueue
      else s1

/-- Count a re-send (R220). -/
def State.noteRetry (s : State) (g : Nat) : State := (s.count SPL_RETRY_CNT).raiseMask 325 (2 ^ g)

/-- Extra sends so far of packet (x, y) of a piece. -/
def Piece.sendsOf (p : Piece) (x y : Nat) : Nat := match p.sends.find? (fun e => e.1 == (x, y)) with | some e => e.2 | none => 0
def Piece.addSend (p : Piece) (x y : Nat) : Piece :=
  { p with sends := ((x, y), p.sendsOf x y + 1) :: p.sends.filter (fun e => e.1 != (x, y)) }

/-- Cause RETRY: the packet would be sent more often than SPL_RETRY_MAX allows. -/
def State.retryOrRetrain (s : State) (g sends : Nat) (again : State) : State :=
  if s.bits SPL_RETRY_MAX 3 0 ≤ sends then s.fastRetrain g 7 false else again

/-- Most extra sends so far of any of a piece's packets. -/
def Piece.mostSends (p : Piece) (pk : List (Nat × Nat)) : Nat := (pk.map (fun q => p.sendsOf q.1 q.2)).foldl max 0

/-- A piece begins again: each packet that it has sent counts as one more send (R219, R220). -/
def Piece.again (p : Piece) (pk : List (Nat × Nat)) : Piece :=
  { (pk.take p.next).foldl (fun x c => x.addSend c.1 c.2) p with next := 0 }

/-- A RECT packet of the frame is asked for again; a later piece to the tile that had begun starts over (R219, R220). -/
def State.nakRect (s : State) (g : Nat) (u : Update) (p : Piece) (x y : Nat) : State :=
  let later (q : Piece) : Bool := q.tile == p.tile && !q.acked && decide (p.order < q.order)
  let most := (s.spl.queue.flatMap (fun v => (v.pieces.filter later).map (fun q => q.mostSends ((s.piecePackets v q).take q.next)))).foldl max 0
  s.retryOrRetrain g (max most (p.sendsOf x y))
    (((s.noteRetry g).setGroup g (fun k => { k with resend := k.resend ++ [.rect u.upd p.tile p.band x y] })).mapPieces (fun v q =>
      if v.upd = u.upd ∧ q.tile = p.tile ∧ q.band = p.band then q.addSend x y
      else if later q then q.again (s.piecePackets v q) else q))

/-- A CORR packet, or a tile's REFSET, is asked for again (R217, R220). -/
def State.corrAgain (s : State) (g : Nat) (c : Corr) : State :=
  s.retryOrRetrain g c.retries ((s.noteRetry g).setGroup g (fun k => { k with
    resend := k.resend ++ [.corr c.granule]
    corr := k.corr.map (fun d => if d.granule = c.granule then { d with retries := d.retries + 1 } else d) }))
def State.refsetAgain (s : State) (g : Nat) (q : Refset) : State :=
  let s1 := (s.noteRetry g).setGroup g (fun k => { k with resend := k.resend ++ [.refset q.tile] })
  s.retryOrRetrain g q.retries { s1 with spl := { s1.spl with
    refsets := s1.spl.refsets.map (fun x => if x.tile = q.tile then { x with retries := x.retries + 1 } else x) } }

/-- NAK (R220): of the frame in progress, or of a CORR packet for the next frame; one of an aborted frame is ignored
(R231). -/
def srNak (g : Nat) (r : StatusRec) (ok : Bool) (s : State) : State :=
  match s.srTile g r ok with
  | none => s
  | some t =>
    let s1 := s.count (SPL_T_ERR_CNT t)
    let current := s.frameOn && r.frame == s.frameNo && r.att == s.attNow
    let rect := if current then s.spl.queue.findSome? (fun u => (u.pieces.find? (fun p =>
      u.phase == 1 && p.tile == t && !p.acked && ((s.piecePackets u p).take p.next).contains (r.x, r.y))).map (fun p => (u, p))) else none
    match rect with
    | some up => s1.nakRect g up.1 up.2 r.x r.y
    | none =>
      match (s.group g).corr.find? (fun c => c.tile == t && c.sent && !c.acked && c.frame == r.frame && c.att == r.att
          && s.granuleAt c.granule == (r.x, r.y)) with
      | some c => s1.corrAgain g c
      | none =>
        match (if current then s.spl.refsets.find? (fun q => q.tile == t && q.sent && !q.acked) else none) with
        | some q => s1.refsetAgain g q
        | none => s1

/-- 20 µs have passed since a last data row (R220). -/
def State.ackLate (s : State) (lastAt : Nat) : Bool := decide (lastAt + 40000 < s.now + s.tickHalfNs)

/-- The REFSET or the CORR packet of tile t that waits for its ACK beyond 20 µs (R217, R220). -/
def State.driveAckTimeout (s : State) (t : Nat) : State :=
  let g := (s.tileRec t).group
  match s.spl.refsets.find? (fun q => q.tile == t && q.sent && !q.acked && s.ackLate q.lastAt && !(s.group g).resend.contains (.refset t)) with
  | some q => s.refsetAgain g q
  | none => match (s.group g).corr.find? (fun c => c.tile == t && c.sent && !c.acked && s.ackLate c.lastAt
      && !(s.group g).resend.contains (.corr c.granule)) with
    | some c => s.corrAgain g c
    | none => s

/-- 20 µs after the last row of a piece without its ACK the whole piece is sent again (R220). -/
def pieceAckTimeout (t : Nat) (s : State) : State :=
  let g := (s.tileRec t).group
  match s.spl.queue.findSome? (fun u => (u.pieces.find? (fun p => u.phase == 1 && p.tile == t && !p.acked
      && p.next == (s.piecePackets u p).length && s.ackLate p.lastAt)).map (fun p => (u, p))) with
  | none => s.driveAckTimeout t
  | some up =>
    let pk := s.piecePackets up.1 up.2
    s.retryOrRetrain g (up.2.mostSends pk)
      ((s.noteRetry g).mapPieces (fun v q => if v.upd = up.1.upd ∧ q.tile = t ∧ q.band = up.2.band then
        { q.again pk with retry := true } else q))

/-- STAT (R218). -/
def srStat (g : Nat) (r : StatusRec) (ok : Bool) (s : State) : State :=
  match s.srTile g r ok with
  | none => s
  | some t =>
    let s1 := ((s.putB (SPL_T_STATUS_HERE t) r.here).putB (SPL_T_STATUS_CONTENT_VALID t) r.valid).putB (SPL_T_STATUS_HOLDING t) r.holding
    let s2 := if s.bits (SPL_G_LPBK g) 1 0 = 3 then (if r.errors = 0 then s1 else (s1.countN (SPL_G_PRBS_ERR g) r.errors).raiseMask 331 (2 ^ g))
              else s1.countN (SPL_T_ERR_CNT t) r.errors
    let s3 := { s2 with spl := { s2.spl with eyes := s2.spl.eyes.set t (r.eye % 256, r.lane) } }
    (((s3.showProgress t r).showEye g).judgeTile t)

/-- The pieces of tile t after it has switched here: those that it has completed, in the order in which they began, are
done, and every later one is sent (R238).  Where this device did not send the piece reported, the order is not known
here: that piece alone is done (log entry 75). -/
def State.markDone (s : State) (t : Nat) (r : StatusRec) : State :=
  let ours := r.frame == s.frameNo && r.att == s.attNow
  let last := (s.spl.queue.flatMap (fun u => (u.pieces.filter (fun p => ours && p.tile == t && u.upd == r.upd && p.band == r.band)).map
    (fun p => p.order))).foldl max 0
  let done (u : Update) (p : Piece) : Bool :=
    ours && (u.upd == r.upd && p.band == r.band || decide (0 < p.order ∧ p.order ≤ last))
  let s1 := (s.setGroup (s.tileRec t).group (fun k => { k with
      resend := k.resend.filter (fun x => match x with | .rect _ tile _ _ _ => tile != t | _ => true) })).mapPieces
    (fun u p => if p.tile = t then (if done u p then { p with acked := true } else { p with acked := false, next := 0, retry := false }) else p)
  State.settleQueue { s1 with spl := { s1.spl with
    queue := s1.spl.queue.map (fun u => if u.phase = 2 ∧ u.pieces.any (fun p => !p.acked) then { u with phase := 1 } else u) } }

/-- SWITCH (R237, R238, R429): the driving device resends what the tile has not completed; a PRIMARY that loses the
tile demotes itself; a DETACHED device that gets one becomes SOLO and restores every tile. -/
def srSwitch (g : Nat) (r : StatusRec) (ok : Bool) (s : State) : State :=
  match s.srTile g r ok with
  | none => s
  | some t =>
    let s1 := (((s.putB (SPL_T_STATUS_HERE t) r.here).count SPL_SWITCH_CNT).raiseMask 326 (2 ^ t)).showProgress t r
    if r.here then
      let s2 := if s.pairState = pairDetached then
          let s3 := (s1.setPair pairSolo).raise 807 0
          (List.range s.tiles.length).foldl State.requestRestore s3
        else s1
      let s4 := if s.frameOn && s2.drives && !s2.excluded t then s2.markDone t r else s2
      s4.judgeTile t
    else (s1.demote).judgeTile t

/-- CAPS (R239): identity, content and chain latency; a tile that does not match the map fails the group in CAPS. -/
def srCaps (g : Nat) (r : StatusRec) (ok : Bool) (s : State) : State :=
  if !ok then s
  else match s.tileAt r.taddr with
    | none => s
    | some t =>
      let bad := (s.tileRec t).group != g || ((s.tileRec t).ref != 0 && (s.tileRec t).ref != r.tileId)
      if bad then if s.gState g = gCaps then (s.trainFail g 5).tryResume else s
      else
        let s1 := (s.put (SPL_T_STATUS_PRESENT t) 1).putB (SPL_T_STATUS_CONTENT_VALID t) r.valid
        let caps := (r.taddr, r.tileId, r.latency) :: ((s.group g).caps.filter (fun c => c.1 != r.taddr))
        let last := caps.foldl (fun b c => if b.1 ≤ c.1 then c else b) (0, 0, 0)
        let s2 := (s1.setGroup g (fun k => { k with caps := caps })).wrN (SPL_G_CHAIN g) (caps.length % 16 + 2 ^ 8 * (last.2.2 % 4096))
        s2.judgeTile t

/-- LOCKLOSS starts a fast retrain (R240). -/
def srLockloss (g : Nat) (r : StatusRec) (ok : Bool) (s : State) : State :=
  match s.srTile g r ok with
  | none => s
  | some _ => s.fastRetrain g 8 false

/-- The status return is silent for 10 µs (R240). -/
def srSilent (g : Nat) (s : State) : State := if g < 6 then s.fastRetrain g 6 false else s

/-! ## HOLD (R235) -/

/-- A write of SPL_HOLD: REQ 1 asks for HOLD after the frame in progress, or after a HOLD that is being left. -/
def holdRequest (val : Word) (s : State) : State :=
  let s1 := s.wrN SPL_HOLD (val.toNat &&& 0xFF01)
  { s1 with spl := { s1.spl with holdAsked := bitAt val.toNat 0 && (!s.on SPL_STATUS_HOLD || s.spl.resumeOwed) } }

/-- Sleep entry (1) or an orderly stop (2) asks for HOLD. -/
def State.askHold (s : State) (by_ : Nat) : State :=
  if s.on SPL_STATUS_HOLD && !s.spl.resumeOwed then s else { s with spl := { s.spl with holdBy := max by_ s.spl.holdBy } }

/-- HOLD is asked for and not entered. -/
def State.wantsHold (s : State) : Bool := s.spl.holdAsked || s.spl.holdBy != 0

/-- The LEVEL that HOLD carries: of SPL_HOLD, or 77 for an orderly stop. -/
def State.holdLevelNow (s : State) : Nat := if s.spl.holdBy = 2 then 77 else s.bits SPL_HOLD 15 8

/-- No frame is in progress: HOLD leaves on every ACTIVE group, with source 330. -/
def holdEnter (s : State) : State :=
  if !s.wantsHold || s.frameOn || s.on SPL_STATUS_HOLD then s
  else
    let act := (List.range 6).filter (fun g => s.gState g == gActive)
    let s1 := (s.sendMark (markRow 3 0 0 s.holdLevelNow 0)).put SPL_STATUS_HOLD 1
    let s2 := act.foldl (fun st g => ((st.groupTiles g).foldl (fun x t => x.put (SPL_T_STATUS_HOLDING t) 1) (st.setG g gHold)).judgeGroup g) s1
    State.raise { s2 with spl := { s2.spl with holdAsked := false, holdBy := 0, holdLevel := s.holdLevelNow } } 330 0

/-- Each group in HOLD starts its fast retrain; RESUME follows the last one. -/
def State.leaveHold (s : State) : State :=
  let s1 := (List.range 6).foldl (fun st g => if st.gState g = gHold then
    ((((st.setG g gTrain).setGroup g (fun k => { k with fastAt := s.now })).put (SPL_G_STATE_FAST g) 1).put (SPL_G_STATE_CAUSE g) 0).untrain g
    else st) s
  State.tryResume { s1 with spl := { s1.spl with resumeOwed := true } }

/-- HOLD ends when it is no longer asked for. -/
def holdExit (s : State) : State :=
  if s.on SPL_STATUS_HOLD && !bitAt (s.rdN SPL_HOLD) 0 && !s.spl.resumeOwed && (s.pwrState == 0 || s.pwrState == 1) then s.leaveHold else s

/-! ## Test modes (R242) -/

/-- A write of SPL_G_LPBK, accepted only while the group is DISABLED; far-end mode runs DETECT and TRAIN. -/
def splLoopbackSelect (g mode : Nat) (s : State) : State :=
  if 6 ≤ g ∨ s.gState g ≠ gDisabled then s
  else
    let s1 := s.wrN (SPL_G_LPBK g) (mode % 4)
    if mode % 4 = 3 then s1.bringUp g else s1

/-- A PRBS checker counts errors. -/
def loopbackError (g n : Nat) (s : State) : State :=
  if 6 ≤ g ∨ s.bits (SPL_G_LPBK g) 1 0 = 0 ∨ n = 0 then s else (s.countN (SPL_G_PRBS_ERR g) n).raiseMask 331 (2 ^ g)

end Sys2Proof.Machine
end

