-- ==== Sys2Proof/Machine/Damage.lean ====
section
/-!
DEFINITION. Viewer classes, damage, rectangles, hogel shares and runs (R106, R107, R135 to R149).
-/

namespace Sys2Proof.Machine

/-! ## Classes (R137, R138) -/

/-- The committed eye set word quadruple: X, Y, Z and HALF. -/
abbrev EyeBox := Nat × Nat × Nat × Nat

def eyeZ (e : EyeBox) : Nat := e.2.2.1 % 2 ^ 17
def eyeHx (e : EyeBox) : Nat := e.2.2.2 % 65536
def eyeHy (e : EyeBox) : Nat := e.2.2.2 / 65536 % 65536

/-- The half-width test of R137 along one axis. -/
def eyeHit (lo hi : Int) (centre half margin : Int) : Bool :=
  decide (lo ≤ 200 * (centre + half + margin) ∧ 200 * (centre - half - margin) ≤ hi)

/-- Class of view k of block (c, r): 0 FULL, 1 HALF, 2 COARSE (R137). -/
def State.viewClass (s : State) (eyes : List EyeBox) (c r k : Nat) : Nat :=
  let w : Int := s.geomW
  let h : Int := s.geomH
  let pitch : Int := s.bits CMP_SYN_PITCH 15 0
  let tstep : Int := s.bits CMP_SYN_PITCH 31 16
  let uv := geoDir s.geoSec (3 * k + 1)
  let lox := (2 * (32 * c : Nat) + 1 - w) * pitch
  let hix := (2 * (min (32 * c + 31) (s.geomW - 1) : Nat) + 1 - w) * pitch
  let loy := (2 * (32 * r : Nat) + 1 - h) * pitch
  let hiy := (2 * (min (32 * r + 31) (s.geomH - 1) : Nat) + 1 - h) * pitch
  let hit (m : Int) (e : EyeBox) : Bool :=
    let zh : Int := 200 * eyeZ e
    let ox := zh * uv.1 * tstep / 2 ^ 28
    let oy := zh * uv.2 * tstep / 2 ^ 28
    eyeHit (lox + ox) (hix + ox) (signedOf 32 e.1) (eyeHx e) m && eyeHit (loy + oy) (hiy + oy) (signedOf 32 e.2.1) (eyeHy e) m
  if eyes.isEmpty then (let n := s.get CMP_SYN_CFG_NOVIEW_CLASS; if n = 3 then 1 else n)
  else if eyes.any (hit 0) then 0
  else if eyes.any (hit (s.bits CMP_SYN_MARGIN 15 0)) then 1 else 2

/-- The quad and the pair that view k belongs to. -/
def quadOf (k : Nat) : List Nat :=
  let b := k / 12 / 2 * 2 * 12 + k % 12 / 2 * 2
  [b, b + 1, b + 12, b + 13]
def pairOf (k : Nat) : List Nat := [k / 2 * 2, k / 2 * 2 + 1]

/-- Normalisation (R138). -/
def normalise (cls : List Nat) : List Nat :=
  let s1 := (List.range 144).map (fun k =>
    if cls.getD k 0 = 2 ∧ (quadOf k).any (fun v => cls.getD v 0 != 2) then 1 else cls.getD k 0)
  (List.range 144).map (fun k => if s1.getD k 0 = 1 ∧ (pairOf k).any (fun v => s1.getD v 0 == 0) then 0 else s1.getD k 0)

/-- The classes of a block as its class-map number (R139). -/
def packClasses (l : List Nat) : Nat := l.foldr (fun c acc => c + 4 * acc) 0

/-- The class of view k in a block's number. -/
def classOf (blk k : Nat) : Nat := blk / 4 ^ k % 4

/-- The normalised classes of every block, row by row. -/
def State.classBlocks (s : State) (eyes : List EyeBox) : List Nat :=
  s.tileGrid.map (fun t => packClasses (normalise ((List.range 144).map (s.viewClass eyes t.1 t.2))))

/-! ## Damage (R144 to R146) -/

/-- The 32 × 32 hogel area of tile (c, r), clipped. -/
def State.blockRect (s : State) (t : Nat × Nat) : Rect :=
  ⟨32 * t.1, min (32 * t.1 + 32) s.geomW, 32 * t.2, min (32 * t.2 + 32) s.geomH⟩

/-- The whole panel. -/
def State.panelRect (s : State) : Rect := ⟨0, s.geomW, 0, s.geomH⟩

/-- The parallax footprint of a changed tile, clipped (R145). -/
def State.footprint (s : State) (t : Nat × Nat × Int) : Rect :=
  let fx := ceilDiv (s.bits CMP_SYN_FOOT 15 0 * t.2.2.natAbs) (2 ^ 23) + 1
  let fy := ceilDiv (s.bits CMP_SYN_FOOT 31 16 * t.2.2.natAbs) (2 ^ 23) + 1
  ⟨32 * t.1 - fx, min (32 * t.1 + 32 + fx) s.geomW, 32 * t.2.1 - fy, min (32 * t.2.1 + 32 + fy) s.geomH⟩

/-- Blocks whose classes differ from the previous frame's. -/
def State.classDamage (s : State) (old : Option (List Nat)) (new : List Nat) : List Rect :=
  match old with
  | none => []
  | some o => ((s.tileGrid.zip (o.zip new)).filter (fun e => e.2.1 != e.2.2)).map (fun e => s.blockRect e.1)

/-- Damaged cells of cell row `cy`: one flag for each 16-column cell. -/
def State.cellRow (s : State) (dmg : List Rect) (cy : Nat) : List Bool :=
  (List.range (s.geomW / 16)).map (fun cx => dmg.any (fun r =>
    decide (r.x0 < r.x1 ∧ r.y0 < r.y1) && r.meets ⟨16 * cx, 16 * cx + 16, 16 * cy, 16 * cy + 16⟩))

/-- Maximal runs of set flags from position `i` on; `from?` is the start of an open run. -/
def runsOf : Nat → Option Nat → List Bool → List (Nat × Nat)
  | i, some a, [] => [(a, i)]
  | _, none, [] => []
  | i, some a, b :: t => if b then runsOf (i + 1) (some a) t else (a, i) :: runsOf (i + 1) none t
  | i, none, b :: t => runsOf (i + 1) (if b then some i else none) t

/-- Add a run of cell row cy: it extends the rectangle right above it with the same start and end, or begins one. -/
def addRun (cy : Nat) (acc : List Rect) (run : Nat × Nat) : List Rect :=
  if acc.any (fun r => r.y1 == cy && r.x0 == run.1 && r.x1 == run.2) then
    acc.map (fun r => if r.y1 == cy && r.x0 == run.1 && r.x1 == run.2 then { r with y1 := cy + 1 } else r)
  else acc ++ [⟨run.1, run.2, cy, cy + 1⟩]

/-- Rectangles in cells from the runs of each cell row (R146). -/
def mergeRuns : Nat → List Rect → List (List (Nat × Nat)) → List Rect
  | _, acc, [] => acc
  | cy, acc, rs :: t => mergeRuns (cy + 1) (rs.foldl (addRun cy) acc) t

/-- Cells to hogels, clipped to the panel. -/
def State.cellsToHogels (s : State) (r : Rect) : Rect :=
  ⟨16 * r.x0, min (16 * r.x1) s.geomW, 16 * r.y0, min (16 * r.y1) s.geomH⟩

/-- Rectangles of the runs of each cell row. -/
def State.formRects (s : State) (rows : List (List (Nat × Nat))) : List Rect := (mergeRuns 0 [] rows).map s.cellsToHogels

/-- One band per damaged cell row (R147 step 1). -/
def bandOfRow (rs : List (Nat × Nat)) : List (Nat × Nat) :=
  match rs with
  | [] => []
  | r :: t => [(r.1, (t.getLast?.getD r).2)]

/-- One bounding rectangle (R147 step 2), in cells. -/
def boundingCells (rs : List Rect) : List Rect :=
  match rs with
  | [] => []
  | r :: t => [t.foldl (fun a b => ⟨min a.x0 b.x0, max a.x1 b.x1, min a.y0 b.y0, max a.y1 b.y1⟩) r]

def Rect.area (r : Rect) : Nat := (r.x1 - r.x0) * (r.y1 - r.y0)

/-! ## Shares (R148, R149) -/

/-- Synthesis engines of channel c that are not OFFLINE; a channel whose gate is closing takes no share (R17, R110). -/
def State.synthEngines (s : State) (c : Nat) : Nat :=
  if s.chanRuns c then ((chanEngines c).filter (fun g => !s.engBuilds g && s.engState g != esOffline)).length else 0

/-- Damaged hogels in columns below 16 j; 16 j when there is no damage. -/
def cumDamage (rects : List Rect) (j : Nat) : Nat :=
  if rects.isEmpty then 16 * j
  else (rects.map (fun r => (min r.x1 (16 * j) - r.x0) * (r.y1 - r.y0))).foldl (· + ·) 0

/-- The shares of channels c, c+1, …: running sum `sum` of engines and first free column `lo`, in cells (R148). -/
def sharesFrom (cols total : Nat) (rects : List Rect) (sum lo : Nat) : List Nat → List (Nat × Nat)
  | [] => []
  | n :: t =>
    if n = 0 then (0, 0) :: sharesFrom cols total rects sum lo t
    else
      let hi := if sum + n = total then cols
        else ((List.range (cols + 1)).find? (fun j => decide (cumDamage rects cols * (sum + n) ≤ cumDamage rects j * total))).getD cols
      (16 * lo, 16 * hi - 16 * lo) :: sharesFrom cols total rects (sum + n) hi t

/-- The hogel share of each channel: first column and number of columns. -/
def State.hogelShares (s : State) (rects : List Rect) : List (Nat × Nat) :=
  let ns := (List.range 4).map s.synthEngines
  sharesFrom (s.geomW / 16) (ns.foldl (· + ·) 0) rects 0 0 ns

/-- Split a rectangle at the shares, left to right; with no share it stays whole, with no channel (R149). -/
def splitRect (shares : List (Nat × Nat)) (r : Rect) : List (Rect × Nat) :=
  if shares.all (fun h => h.2 == 0) then [(r, 4)]
  else (List.range 4).filterMap (fun c =>
    let h := shares.getD c (0, 0)
    let p : Rect := { r with x0 := max r.x0 h.1, x1 := min r.x1 (h.1 + h.2) }
    if p.x0 < p.x1 then some (p, c) else none)

/-- The final list of rectangles with their channels, the shares, and the fallback step used (R146 to R149). -/
def State.planDamage (s : State) (dmg : List Rect) : List (Rect × Nat) × List (Nat × Nat) × Nat :=
  let rows := (List.range (ceilDiv s.geomH 16)).map (fun cy => runsOf 0 none (s.cellRow dmg cy))
  let rects := s.formRects rows
  let shares := s.hogelShares rects
  let lim := clampNat 8 1024 (s.bits CMP_SYN_RECT_MAX 10 0)
  let split (l : List Rect) := l.flatMap (splitRect shares)
  if (split rects).length ≤ lim then (split rects, shares, 0)
  else
    let bands := s.formRects (rows.map bandOfRow)
    if (split bands).length ≤ lim then (split bands, shares, 1)
    else (split ((boundingCells (mergeRuns 0 [] rows)).map s.cellsToHogels), shares, 2)

/-! ## Level and plane limits (R140, R142) -/

/-- Plane counts of a level for FULL, HALF and COARSE. -/
def levelPlanes (level : Nat) : Nat × Nat × Nat :=
  match level with | 0 => (64, 32, 16) | 1 => (48, 24, 12) | 2 => (32, 16, 8) | _ => (24, 12, 4)

/-- The level in force: the highest of the image's, QMIN and the throttle level (R140, R408). -/
def State.frameLevel (s : State) : Nat :=
  let n := ((List.range 4).map s.synthEngines).foldl (· + ·) 0
  let img := if n = 0 then 0 else polQuality s.polSec (4 - ceilDiv n 32)
  max (max img (s.get CMP_SYN_CFG_QMIN)) (min s.pwr.stageInForce 3)

/-! ## Class map and runs (R106, R107, R139, R142) -/

/-- Base of a class-map copy. -/
def State.cmapBase (s : State) (copy : Nat) : Nat :=
  s.addr36 CMP_SYN_CMAP_LO CMP_SYN_CMAP_HI + copy * (48 * s.tileCols * s.tileRows)

/-- Write the classes into the frame's copy. -/
def State.writeClassMap (s : State) : State :=
  match s.frame.classes with
  | none => s
  | some l => s.memWrite 5 (s.cmapBase s.frame.cmap) (l.flatMap (fun b => leBytes 36 b ++ List.replicate 12 0))

/-- The runs of one row of a rectangle from column x on; `fuel` bounds their number. -/
def rowRuns (len x1 : Nat) : Nat → Nat → List (Nat × Nat)
  | 0, _ => []
  | fuel + 1, x => if x1 ≤ x then [] else (x, min len (x1 - x)) :: rowRuns len x1 fuel (x + len)

/-- A run as a work item. -/
def State.runItem (s : State) (rect y x n : Nat) : Item :=
  let lim := levelPlanes (s.get CMP_SYN_STATUS_LEVEL)
  let p := s.frame.planes.length
  { build := false
    wi := [1, x + 2 ^ 16 * y, n, rect, (s.cmapBase s.frame.cmap + 48 * (s.tileCols * (y / 32) + x / 32)) / 16 % 2 ^ 32,
           min lim.1 p + 2 ^ 8 * min lim.2.1 p + 2 ^ 16 * min lim.2.2 p, 0, 0] }

/-- The runs of channel c in the order of R107. -/
def State.channelRuns (s : State) (c : Nat) : List Item :=
  let len := s.frame.runLens.getD c 16
  ((List.range s.frame.rects.length).zip s.frame.rects).flatMap (fun e =>
    if e.2.2 = c then
      (rangeFrom e.2.1.y0 (e.2.1.y1 - e.2.1.y0)).flatMap (fun y =>
        (rowRuns len e.2.1.x1 (e.2.1.x1 - e.2.1.x0) e.2.1.x0).map (fun q => s.runItem e.1 y q.1 q.2))
    else [])

end Sys2Proof.Machine
end

