-- ==== Sys2Proof/Machine/Cal.lean ====
section
/-!
DEFINITION. Panel drive, brightness, the Scorch map and calibration (R252 to R275, R357).
-/

namespace Sys2Proof.Machine

/-! ## Ambient light (R257) -/

/-- The target factor of reading `a` on the brightness curve. -/
def brightTarget (p : List Byte) (a : Nat) : Int :=
  let n := panelPts p
  if a ≤ panelLux p 0 then panelFactor p 0
  else if panelLux p (n - 1) ≤ a then panelFactor p (n - 1)
  else
    let i := ((List.range (n - 1)).find? (fun i => decide (panelLux p i ≤ a ∧ a < panelLux p (i + 1)))).getD 0
    panelFactor p i + Int.tdiv (((panelFactor p (i + 1) : Int) - panelFactor p i) * ((a : Int) - panelLux p i))
      ((panelLux p (i + 1) : Int) - panelLux p i)

/-- One step of the filtered factor. -/
def brightStep (p : List Byte) (bf bt : Int) : Int :=
  bf + ((bt - bf) * (if bf < bt then leAt p 0x40 2 else leAt p 0x42 2) + 32768) / 65536

/-- One ambient reading: with ALS_SRC = 1 a read over the sensor port at the address and register of CAL_ALS_I2C, whose
two bytes are big-endian; no acknowledge keeps the reading before and raises 871. -/
def State.takeLight (s : State) (reading : Option (Byte × Byte)) : State :=
  if !s.on CAL_BRIGHT_CFG_ALS_SRC then s
  else
    let s1 := { s with cal := { s.cal with i2c := some (s.bits CAL_ALS_I2C 6 0, s.bits CAL_ALS_I2C 15 8) } }
    match reading with
    | some v => s1.wrN CAL_ALS_VALUE (256 * v.1.toNat + v.2.toNat)
    | none => s1.raise 871 0

/-- Every 100 ms one ambient reading is taken and the filtered factor steps; `reading` is what the sensor answers. -/
def alsReading (reading : Option (Byte × Byte)) (s : State) : State :=
  if s.csu.image.isNone ∨ s.now + s.tickHalfNs ≤ s.cal.alsAt + 200000000 then s
  else
    let s1 := s.takeLight reading
    let bf := brightStep s.panelSec (s.bits CAL_BRIGHT_STATUS 15 0) (brightTarget s.panelSec (s1.bits CAL_ALS_VALUE 15 0))
    State.put { s1 with cal := { s1.cal with alsAt := s.cal.alsAt + 200000000 } } ⟨CAL_BRIGHT_STATUS, 15, 0⟩ (unsignedOf 16 bf)

/-- The factor in use. -/
def State.brightNow (s : State) : Nat :=
  if s.on CAL_BRIGHT_CFG_MODE then min (s.get CAL_BRIGHT_CFG_MANUAL) 32768 else s.bits CAL_BRIGHT_STATUS 15 0

/-! ## Temperature bands (R256) -/

/-- A write of CAL_TILE_TEMPt stamps the reading, for the frames that start from the next tick on. -/
def tileTempWrite (t : Nat) (val : Word) (s : State) : State :=
  if 48 ≤ t then s
  else
    let s1 := s.wrN (CAL_TILE_TEMP t) (val.toNat % 256)
    { s1 with cal := { s1.cal with stampsIn := setInsert t s1.cal.stampsIn } }

/-- At the end of a tick its temperature readings count. -/
def State.settleTemps (s : State) : State :=
  { s with cal := { s.cal with stamps := s.cal.stampsIn.foldl (fun l t => l.set t (some s.now)) s.cal.stamps, stampsIn := [] } }

/-- The reading of tile t is stale at a moment. -/
def State.tempStale (s : State) (t at_ : Nat) : Bool :=
  match s.cal.stamps.getD t none with
  | some w => decide (w + 2000000 * s.bits CAL_TTEMP_AGE 15 0 < at_)
  | none => true

/-- The stale state begins, with source 870 once. -/
def State.goStale (s : State) (t : Nat) : State :=
  if s.on (CAL_TILE_STATUS_STALE t) then s else (s.put (CAL_TILE_STATUS_STALE t) 1).raiseMask 870 (2 ^ t)

/-- A tile's temperature ages past CAL_TTEMP_AGE; the band moves at the next frame start. -/
def tileTempStale (t : Nat) (s : State) : State :=
  if t < s.tiles.length ∧ s.tempStale t (s.now + s.tickHalfNs) ∧ !s.cal.stampsIn.contains t then s.goStale t else s

/-- Band of a tile for reading `temp` and band `b` in force. -/
def bandFor (p : List Byte) (b : Nat) (temp : Int) : Nat :=
  match (rangeFrom (b + 1) (panelBands p - (b + 1))).reverse.find? (fun k => decide (panelBandLo p k ≤ temp)) with
  | some k => k
  | none => if 0 < b ∧ temp < panelBandLo p b - (byteAt p 0x16 : Int) then b - 1 else b

/-- Evaluate tile t at a frame start: a change of band raises 869 and the tile's rectangle as damage, and queues a
REFSET. -/
def State.evalBand (s : State) (t : Nat) : State :=
  let b := s.get (CAL_TILE_STATUS_BAND t)
  let stale := s.tempStale t s.now
  let s1 := if stale then s.goStale t else s.put (CAL_TILE_STATUS_STALE t) 0
  let b' := if stale then byteAt s.panelSec 0x15 else bandFor s.panelSec b (signedOf 8 (s.wasN (CAL_TILE_TEMP t)))
  if b' = b then s1
  else
    let r := s.tileRec t
    let s2 := (s1.put (CAL_TILE_STATUS_BAND t) b').raiseMask 869 (2 ^ t)
    { s2 with cal := { s2.cal with bandNew := s2.cal.bandNew.set t true }
              frame := { s2.frame with hogels := ⟨r.x0, r.x1, r.y0, r.y1⟩ :: s2.frame.hogels } }

/-! ## Reference currents (R258) -/

/-- IREF of tile t and colour c for factor `bq` in band `b`. -/
def State.irefOf (s : State) (t b bq c : Nat) : Nat :=
  clampNat (leAt s.panelSec 0x46 2) 4095 ((s.irefBase t b c * bq + 16384) / 32768)

/-- The tile needs a REFSET: a colour differs by IREF_HYST, its band changed, an abort discarded one, or a restore of it is
queued. -/
def State.needsRefset (s : State) (t : Nat) (iref : List Nat) (restores : List Nat) : Bool :=
  s.cal.bandNew.getD t false || s.cal.refAgain.contains t || restores.contains t
    || (match s.cal.acked.getD t none with
        | none => true
        | some a => (List.range 3).any (fun c =>
            decide (leAt s.panelSec 0x44 2 ≤ ((a.getD c 0 : Int) - (iref.getD c 0 : Int)).natAbs)))

/-- A pending REFSET is a frame trigger. -/
def State.refsetWaits (s : State) : Bool :=
  (List.range s.tiles.length).any (fun t => !s.excluded t && s.needsRefset t
    ((List.range 3).map (s.irefOf t (s.get (CAL_TILE_STATUS_BAND t)) s.brightNow)) [])

/-- The frame's REFSET of tile t; one for an excluded tile counts as acknowledged. -/
def State.makeRefset (s : State) (restores : List Nat) (t : Nat) : Option Refset :=
  let iref := s.frame.irefs.getD t []
  if s.needsRefset t iref restores then
    some { tile := t, iref := iref, band := s.frame.bandOf.getD t 0, sent := false, acked := s.excluded t, retries := 0, lastAt := 0 }
  else none

/-- Drive inputs of a frame: bands, the factor, reference currents and REFSETs (R255 to R258). -/
def State.latchDrive (s : State) (restores : List Nat) : State :=
  let ts := List.range s.tiles.length
  let s1 := ts.foldl State.evalBand s
  let bq := s1.brightNow
  let bands := ts.map (fun t => s1.get (CAL_TILE_STATUS_BAND t))
  let s2 := { s1 with frame := { s1.frame with bandOf := bands
                                               irefs := ts.map (fun t => (List.range 3).map (s1.irefOf t (bands.getD t 0) bq)) } }
  let refs := ts.filterMap (s2.makeRefset restores)
  let s3 := ts.foldl (fun (st : State) t => st.putB (CAL_TILE_STATUS_REFSET_PENDING t) (refs.any (fun r => r.tile == t)))
    (s2.put ⟨CAL_BRIGHT_STATUS, 31, 16⟩ bq)
  { s3 with spl := { s3.spl with refsets := refs }, cal := { s3.cal with refAgain := [] } }

/-- An abort discards the frame's REFSETs; they are queued again at the next frame start (R258). -/
def State.discardRefsets (s : State) : State :=
  { s with cal := { s.cal with refAgain := s.spl.refsets.foldl (fun l r => setInsert r.tile l) s.cal.refAgain }
           spl := { s.spl with refsets := [] } }

/-- At a completion the acknowledged REFSETs are what the tiles hold. -/
def State.settleRefsets (s : State) : State :=
  let s1 := (s.spl.refsets.filter (fun r => r.sent && r.acked && !s.excluded r.tile)).foldl (fun st r =>
    let st1 := (st.put (CAL_TILE_STATUS_REFSET_PENDING r.tile) 0).put (CAL_TILE_STATUS_IREF_G r.tile) (r.iref.getD 1 0)
    { st1 with cal := { st1.cal with acked := st1.cal.acked.set r.tile (some r.iref), bandNew := st1.cal.bandNew.set r.tile false } }) s
  { s1 with spl := { s1.spl with refsets := [] } }

/-! ## Integration passes (R261 to R264, R271, R272) -/

/-- The reference currents a pass takes for a tile: as last acknowledged; free values where none has been. -/
def State.passIref (s : State) (t c : Nat) : Nat :=
  match s.cal.acked.getD t none with
  | some a => a.getD c 0
  | none => (Config.freeWord (s.freeCtr + 3 * t + c)).toNat % 4096

/-- IR of R261 for tile t and colour c. -/
def State.passIr (s : State) (t c : Nat) : Nat :=
  match s.cal.heldLevel with
  | some l => (s.passIref t c * l + 127) / 255
  | none => if s.on (SPL_T_STATUS_HOLDING t) then (s.passIref t c * s.spl.holdLevel + 127) / 255 else s.passIref t c

/-- The new scorch level of a ray (R261). -/
def scorchStep (stress ir m idx n level : Nat) : Nat :=
  let inc := stress * (ir + 1) / 4096
  let d := (2654435761 * idx + 2246822519 * (n % 2 ^ 32)) % 2 ^ 32 / 2 ^ 8
  min (level + (inc * m + d) / 2 ^ 24) 65535

/-- Lowest index of the correction table of colour c whose value reaches k; 1,023 where none does (R271). -/
def State.ctabIndex (s : State) (c k : Nat) : Nat := ((List.range 1024).find? (fun i => decide (k ≤ s.ctab c i))).getD 1023

/-- The scorch levels of a granule after the pass has visited it; its poisoned words are rewritten from the
correction map. -/
def State.passLevels (s : State) (ps : Pass) (gr : Nat) : List Nat :=
  let q := s.granuleAt gr
  let t := (s.tileOf q.1 q.2).getD 0
  (List.range 6912).map (fun j =>
    let i := j % 432
    let ray := s.rayIdx (q.1 + j / 432) q.2 i
    let a := s.scorchAddr ray
    if s.poisonedAt a then 64 * s.ctabIndex (i % 3) (s.memNat (s.corrAddr ray) 1)
    else scorchStep (s.stress (i % 3) (s.mirrorCode (q.1 + j / 432) q.2 i)) (s.passIr t (i % 3)) ps.weight ray
      ps.second (s.memNat a 2))

/-- Target of each ray of a granule (R264). -/
def State.targets (s : State) (gr : Nat) : List Nat :=
  let q := s.granuleAt gr
  let base := s.rayIdx q.1 q.2 0
  (List.range 6912).map (fun j => s.ctab (j % 432 % 3) (s.memNat (s.scorchAddr (base + j)) 2 / 64))

/-- Correction values in force of a granule. -/
def State.inForce (s : State) (gr : Nat) : List Nat :=
  let q := s.granuleAt gr
  (s.memRead (s.corrAddr (s.rayIdx q.1 q.2 0)) 6912).map BitVec.toNat

/-- Poisoned words of a byte range. -/
def State.poisonWords (s : State) (a n : Nat) : List Nat := s.poison.filter (fun w => decide (a / 16 ≤ w ∧ w * 16 < a + n))

/-- Show the number of pending granules. -/
def State.setPending (s : State) (l : List Nat) : State :=
  State.wrN { s with cal := { s.cal with pending := l } } CAL_TRICKLE_PENDING l.length

/-- Rewrite the poisoned correction words of a granule from the targets; where that lowers K, its hogels are damage
and the granule is not pending (R268, R272); a secondary's map changes by the primary's deltas alone (R52). -/
def State.repairCorr (s : State) (gr : Nat) : State :=
  let q := s.granuleAt gr
  let a := s.corrAddr (s.rayIdx q.1 q.2 0)
  let ws := s.poisonWords a 6912
  if ws.isEmpty || s.isSecondary then s
  else
    let kt := s.targets gr
    let old := s.inForce gr
    let bad (j : Nat) : Bool := ws.contains ((a + j) / 16)
    let s1 := ws.foldl (fun st _ => st.mapPoison) (s.notePoisonRead 12)
    let s2 := s1.memWrite 12 a ((List.range 6912).map (fun j => BitVec.ofNat 8 ((if bad j then kt else old).getD j 0)))
    if (List.range 6912).any (fun j => bad j && decide (kt.getD j 0 < old.getD j 0)) then
      State.setPending { s2 with cal := { s2.cal with falls := ⟨q.1, q.1 + 16, q.2, q.2 + 1⟩ :: s2.cal.falls } } (setErase gr s2.cal.pending)
    else s2

/-- Derivation: a granule with a target above K is pending; one with a target below K is implausible (R264). On a
secondary nothing is derived (R423). -/
def State.derive (s : State) (gr : Nat) : State :=
  if s.isSecondary then s
  else
    let pairs := (s.targets gr).zip (s.inForce gr)
    if pairs.any (fun e => decide (e.1 < e.2)) then (s.count CAL_CORR_REJECT_CNT).raiseOnce 867 0
    else if pairs.any (fun e => decide (e.2 < e.1)) then s.setPending (setInsert gr s.cal.pending) else s

/-- The pass visits a granule. -/
def State.visitGranule (ps : Pass) (s : State) (gr : Nat) : State :=
  let q := s.granuleAt gr
  let a := s.scorchAddr (s.rayIdx q.1 q.2 0)
  let bad := s.poisonWords a 13824
  let s1 := if bad.isEmpty then s else bad.foldl (fun st _ => st.mapPoison) (s.notePoisonRead 12)
  (((s1.memWrite 12 a ((s.passLevels ps gr).flatMap (leBytes 2))).repairCorr gr).derive gr)

/-- PTP second that begins in this tick, if one does. -/
def State.secondBegins (s : State) : Option Nat :=
  let unit := 10 ^ 9 * 2 ^ 32
  let k := (unit - 1 + s.tmu.time) / unit
  if unit * k < s.tmu.time + s.tickHalfNs * s.tmu.incr / 8 then some k else none

/-- Passes may run: maps valid, no freeze, no sleep (R263, R269, R270). -/
def State.passAllowed (s : State) : Bool :=
  s.on CAL_MAP_STATUS_VALID && !s.on CAL_MAP_CTRL_FREEZE && (s.pwrState == 0 || s.pwrState == 1)

/-- A pass begins with sample second n; its weight spans the seconds since the previous one (R261). -/
def State.beginPass (s : State) (n : Nat) : State :=
  let m := match s.cal.lastSec with | none => 1 | some l => clampNat 1 (2 ^ 32 - 1) (n - l)
  State.put { s with cal := { s.cal with pass := some { second := n, weight := m, start := s.now, left := none }, lastSec := some n, due := false } }
    CAL_MAP_STATUS_PASS_ACTIVE 1

/-- At a whole PTP second a pass starts, or waits for the running one. -/
def passStart (s : State) : State :=
  match s.secondBegins with
  | none => s
  | some n =>
    if s.cal.secTick = some s.evc.tick then s
    else
      let s1 := { s with cal := { s.cal with secTick := some s.evc.tick, due := s.cal.pass.isSome } }
      if s.cal.pass.isNone && s.passAllowed then s1.beginPass n else s1

/-- The granule is deferred: it lies in a rectangle of the frame in progress or in damage carried from an aborted one
(R262). -/
def State.deferred (s : State) (gr : Nat) : Bool :=
  let q := s.granuleAt gr
  let r : Rect := ⟨q.1, q.1 + 16, q.2, q.2 + 1⟩
  (s.frameOn && s.frame.rects.any (fun (e : Rect × Nat) => e.1.meets r)) || s.frame.carried.any r.meets

/-- Granules that the pass has still to visit, ascending. -/
def State.passLeft (s : State) (p : Pass) : List Nat := p.left.getD (List.range (s.geomW / 16 * s.geomH))

/-- A pass that has visited every granule ends; the next one starts where it is due. -/
def State.endPass (s : State) (p : Pass) : State :=
  let s1 := (((s.wrN CAL_PASS_CNT (s.rdN CAL_PASS_CNT + 1)).wrN CAL_PASS_SEC (p.second % 2 ^ 32)).wrN CAL_PASS_TIME
    (s.usSince p.start % 2 ^ 24)).raise 865 0
  let s2 := State.put { s1 with cal := { s1.cal with pass := none, heldLevel := none, due := false } } CAL_MAP_STATUS_PASS_ACTIVE 0
  if s.cal.due && s2.passAllowed then ((s2.beginPass s2.ptpSec).count CAL_PASS_OVERRUN_CNT).raise 866 0 else s2

/-- The pass visits the granules that are left in ascending order, but for those that are deferred; with none left it has
ended (R261, R262, log entry 22). -/
def passDone (s : State) : State :=
  match s.cal.pass with
  | none => s
  | some p =>
    let left := s.passLeft p
    let wait := left.filter s.deferred
    let s1 := (left.filter (fun gr => !s.deferred gr)).foldl (State.visitGranule p) s
    let s2 := { s1 with freeCtr := s1.freeCtr + 144 }
    if wait.isEmpty then s2.endPass p else { s2 with cal := { s2.cal with pass := some { p with left := some wait } } }

/-! ## The correction trickle (R265 to R268) -/

/-- Granules group g takes in a window: pending, of its rows, ascending from the last one sent and wrapping. -/
def State.takeGranules (s : State) (g : Nat) : List Nat :=
  let mine := s.cal.pending.filter (fun gr => (s.granuleAt gr).2 % 6 == g && !(s.group g).corr.any (fun c => c.granule == gr))
  let after := match (s.group g).lastCorr with
    | some l => mine.filter (fun gr => decide (l < gr)) ++ mine.filter (fun gr => decide (gr ≤ l))
    | none => mine
  after.take (s.bits CAL_TRICKLE 5 0 - (s.group g).corr.length)

/-- A CORR packet for a granule: Δ = min(Kt − K, DMAX). -/
def State.makeCorr (s : State) (gr : Nat) : Corr :=
  let q := s.granuleAt gr
  { granule := gr, tile := (s.tileOf q.1 q.2).getD 0
    delta := ((s.targets gr).zip (s.inForce gr)).map (fun e => BitVec.ofNat 8 (min (e.1 - e.2) (panelDmax s.panelSec)))
    sent := false, acked := false, frame := 0, att := 0, retries := 0, lastAt := 0 }

/-- In a blanking window each group queues its CORR packets (R265). -/
def State.queueCorr (s : State) : State :=
  if !s.on CAL_MAP_STATUS_VALID || s.on CAL_MAP_CTRL_FREEZE || s.isSecondary || !s.drives then s
  else (List.range 6).foldl (fun st g =>
    if st.windowOpen g then
      st.setGroup g (fun k => { k with corr := k.corr ++ (st.takeGranules g).map st.makeCorr })
    else st) s

/-- Apply the deltas of one granule to the correction map and the mirror (R266). -/
def State.applyDelta (s : State) (gr : Nat) (delta : List Byte) : State :=
  let q := s.granuleAt gr
  let a := s.corrAddr (s.rayIdx q.1 q.2 0)
  let k := s.inForce gr
  let s1 := s.memWrite 12 a ((List.range 6912).map (fun j => BitVec.ofNat 8 (k.getD j 0 + byteAt delta j)))
  let codes := (List.range 6912).map (fun j => correctCode (s.mirrorCode (q.1 + j / 432) q.2 (j % 432)) (byteAt delta j))
  let s2 := s1.memWrite 12 (s.mirrorAddr q.1 q.2)
    ((List.range 3456).flatMap (fun m => leBytes 3 (codes.getD (2 * m) 0 + 4096 * codes.getD (2 * m + 1) 0)))
  if s2.targets gr == s2.inForce gr then s2.setPending (setErase gr s2.cal.pending) else s2

/-- At a completion: the deltas of every CORR packet of the frame; the next frame start waits for the apply. -/
def State.applyDeltas (s : State) (ds : List (Nat × List Byte)) : State :=
  if ds.isEmpty then s
  else
    let s1 := ds.foldl (fun st d => st.applyDelta d.1 d.2) s
    { s1 with cal := { s1.cal with applying := true } }

/-- CORR packets that carry a frame's numbers. -/
def State.frameCorr (s : State) (frame att : Nat) : List Corr :=
  (List.range 6).flatMap (fun g => (s.group g).corr.filter (fun c => c.sent && c.frame == frame && c.att == att))

/-- Those packets leave the groups. -/
def State.dropCorr (s : State) (frame att : Nat) : State :=
  (List.range 6).foldl (fun st g => st.setGroup g (fun k => { k with
    corr := k.corr.filter (fun c => !(c.sent && c.frame == frame && c.att == att))
    resend := k.resend.filter (fun r => match r with | .corr _ => false | _ => true) })) s

/-- The apply has finished: the held next frame start is released, and the groups take their granules. -/
def corrApplyDone (s : State) : State :=
  if s.cal.applying then State.queueCorr { s with cal := { s.cal with applying := false } } else s

/-! ## Keeping the maps (R269, R270) -/

def mapFreeze (s : State) : State := s.put CAL_MAP_CTRL_FREEZE 1

/-- No CORR packet that has been sent waits for its frame. -/
def State.corrSettled (s : State) : Bool := s.spl.groups.all (fun k => k.corr.all (fun c => !c.sent))

/-- The running pass, the derivation and the apply have finished, that of packets already sent among them. -/
def mapFrozen (s : State) : State :=
  if s.on CAL_MAP_CTRL_FREEZE && s.cal.pass.isNone && !s.cal.applying && s.corrSettled then s.put CAL_MAP_STATUS_FROZEN 1 else s

def mapUnfreeze (s : State) : State := ((s.put CAL_MAP_CTRL_FREEZE 0).put CAL_MAP_CTRL_OPEN 0).put CAL_MAP_STATUS_FROZEN 0

/-- OPEN is accepted only while FROZEN. -/
def mapOpen (s : State) : State := if s.on CAL_MAP_STATUS_FROZEN then s.put CAL_MAP_CTRL_OPEN 1 else s

/-- Queued CORR packets leave the groups: they were made for other maps. -/
def State.clearCorr (s : State) : State :=
  { s with spl := { s.spl with groups := s.spl.groups.map (fun (k : Group) =>
      { k with corr := [], resend := k.resend.filter (fun r => match r with | .corr _ => false | _ => true) }) } }

/-- RESTORED: OPEN clears, VALID sets, and the next frame start damages the whole panel, when 874 is raised (R268). -/
def mapRestored (s : State) : State :=
  ((((s.put CAL_MAP_CTRL_OPEN 0).put CAL_MAP_STATUS_VALID 1).put CAL_MAP_STATUS_FULL_DAMAGE 1).clearCorr).setPending []

/-- FRESH: the zeroed maps are valid. -/
def mapFresh (s : State) : State := (s.put CAL_MAP_STATUS_VALID 1).raise 874 0

/-! ## Calibration runs (R234, R273, R357) -/

/-- A run starts with the pseudo-channels. -/
def State.beginRun (s : State) : State :=
  State.put { s with cal := { s.cal with runStep := 0, rejected := false, retraining := none, runAgain := false } } CAL_RUN_STATUS_STATE 1

/-- A trigger of a run; during a run it starts a new one when that ends, and on the way to sleep after the wake. -/
def State.triggerRun (s : State) : State :=
  if s.get CAL_RUN_STATUS_STATE = 0 ∧ s.pwrState ≤ 1 then s.beginRun else { s with cal := { s.cal with runAgain := true } }

/-- A run that waits starts once it can. -/
def State.waitingRun (s : State) : State :=
  if s.cal.runAgain && s.get CAL_RUN_STATUS_STATE == 0 && decide (s.pwrState ≤ 1) then s.beginRun else s

def calRunAll (s : State) : State := s.triggerRun

/-- A result is rejected: the old values stay (R273). -/
def State.rejectResult (s : State) : State :=
  State.raiseOnce (State.count (State.put { s with cal := { s.cal with rejected := true } } CAL_RUN_STATUS_LAST_REJECT 1) CAL_REJECT_CNT) 873 0

/-- The next active pseudo-channel of the run. -/
def State.nextPc (s : State) : Option Nat :=
  (rangeFrom s.cal.runStep (64 - s.cal.runStep)).find? (fun p => s.pcState p == pcActive && (s.slotOf p).isSome)

/-- One pseudo-channel starts its 3 µs retrain, 100 µs after the one before (R357). -/
def pcRetrain (p : Nat) (s : State) : State :=
  if s.get CAL_RUN_STATUS_STATE ≠ 1 ∨ s.cal.retraining.isSome ∨ s.nextPc ≠ some p
      ∨ (s.cal.runStep ≠ 0 ∧ s.now + s.tickHalfNs ≤ s.cal.retrainAt + 200000) then s
  else { s with cal := { s.cal with retraining := some p, retrainAt := s.now } }

/-- After a pseudo-channel: the next one, or the groups. -/
def State.pcNext (s : State) (p : Nat) : State :=
  let s1 := { s with cal := { s.cal with retraining := none, runStep := p + 1 } }
  if s1.nextPc.isSome then s1 else State.put { s1 with cal := { s1.cal with runStep := 0 } } CAL_RUN_STATUS_STATE 2

/-- The retrain ends: the new centres are offered, or rejected when a delay moves too far (R273). -/
def pcRetrainDone (p : Nat) (ws : List Window) (s : State) : State :=
  if s.cal.retraining ≠ some p then s
  else
    let old := s.hbm.delays.getD p []
    let new : List Nat := (List.range 8).map (fun i => match ws.getD i none with | some w => windowCentre (some w) | none => old.getD i 0)
    let far := (List.range 8).any (fun i =>
      decide (byteAt s.panelSec 0x4A < ((new.getD i 0 : Int) - (old.getD i 0 : Int)).natAbs))
    if far then (s.rejectResult).pcNext p
    else State.pcNext { s with cal := { s.cal with newDelays := s.cal.newDelays.filter (fun e => e.1 != p) ++ [(p, new)] } } p

/-- The next active group of the run. -/
def State.nextGroup (s : State) : Option Nat :=
  (rangeFrom s.cal.runStep (6 - s.cal.runStep)).find? (fun g => s.gState g == gActive)

/-- Earliest start of the next frame in half-ns, by the latched period and the throttle floor (R199, R408). -/
def State.minPeriod (s : State) : Nat :=
  let floor := if s.pwr.stageInForce = 4 then 10416667 else if 5 ≤ s.pwr.stageInForce then 16666667 else 0
  max s.frame.minNs floor
def State.earliest (s : State) : Nat := s.frame.startAt + 2 * s.minPeriod

/-- The calibration unit adapts one group inside its window, when 25 µs remain before the earliest start (R234). -/
def groupAdaptStart (g : Nat) (s : State) : State :=
  if s.get CAL_RUN_STATUS_STATE ≠ 2 ∨ s.nextGroup ≠ some g ∨ !s.windowOpen g ∨ s.frameOn ∨ (s.group g).adapting
      ∨ s.earliest < s.now + 50000 then s
  else s.setGroup g (fun k => { k with adapting := true })

/-- The adaptation ends: new presets are offered, or rejected by R273's limits on the eye score. -/
def groupAdaptDone (g : Nat) (r : StageInfo) (s : State) : State :=
  if 6 ≤ g ∨ !(s.group g).adapting then s
  else
    let s1 := s.setGroup g (fun k => { k with adapting := false })
    let s2 := { s1 with cal := { s1.cal with runStep := g + 1 } }
    if r.eye < byteAt s.panelSec 0x4B ∨ r.eye + 16 < s.pcie.prevEyes.getD g 0 then s2.rejectResult
    else
      let s3 := { s2 with pcie := { s2.pcie with prevEyes := s2.pcie.prevEyes.set g (r.eye % 256) } }
      (s3.setGroup g (fun k => { k with offered := some (r.presets, r.eye) })).takeEye g r

/-- The values that a run has accepted wait for the next completion. -/
def State.acceptRun (s : State) : State :=
  let ps := (List.range 6).filterMap (fun g => (s.group g).offered.map (fun o => (g, o.1)))
  let s1 := (List.range 6).foldl (fun (st : State) g => st.setGroup g (fun k => { k with offered := none })) s
  { s1 with cal := { s1.cal with newDelays := [], delaysIn := s.cal.delaysIn ++ s.cal.newDelays, presetsIn := s.cal.presetsIn ++ ps } }

/-- The run ends: source 872, its temperature recorded; a trigger that came meanwhile starts another. -/
def calRunDone (s : State) : State :=
  if s.get CAL_RUN_STATUS_STATE ≠ 2 ∨ s.nextGroup.isSome ∨ (List.range 6).any (fun g => (s.group g).adapting) then s
  else
    let s1 := ((((s.acceptRun).put CAL_RUN_STATUS_STATE 0).put CAL_RUN_STATUS_TEMP (s.get PWR_KETTLE_STATUS_TMAX)).putB
      CAL_RUN_STATUS_LAST_REJECT s.cal.rejected).raise 872 0
    if s.cal.runAgain then s1.beginRun else s1

/-- The accepted values of the runs that have ended take effect together at a frame completion (R234, R273, R357); presets
that a calibration record offered are followed by a fast retrain of each ACTIVE group (R454). -/
def State.takeCalibration (s : State) : State :=
  let s1 := { s with hbm := { s.hbm with delays := s.cal.delaysIn.foldl (fun (l : List (List Nat)) (e : Nat × List Nat) => l.set e.1 e.2) s.hbm.delays }
                     cal := { s.cal with delaysIn := [], presetsIn := [] } }
  let s2 := s.cal.presetsIn.foldl (fun (st : State) (e : Nat × List Nat) => st.setGroup e.1 (fun k => { k with presets := e.2 })) s1
  match s2.pcie.calPresets with
  | none => s2
  | some ps =>
    let s3 := { s2 with pcie := { s2.pcie with calPresets := none } }
    (List.range 6).foldl (fun st g =>
      (st.setGroup g (fun k => { k with presets := (ps.drop (16 * g)).take 16 })).fastRetrain g 0 true) s3

end Sys2Proof.Machine
end

