-- ==== Sys2Proof/Machine/Calrec.lean ====
section
/-!
DEFINITION. The calibration record (R453, R454).
-/

namespace Sys2Proof.Machine

/-- Length of a calibration record. -/
abbrev calrecLen : Nat := 4096

abbrev calrecMagic : Nat := 0x43524543

/-- The device's UID as eight bytes, and bytes 0 to 15 of CSU_STRUCT_DIGEST. -/
def State.uidBytes (s : State) : List Byte := leBytes 4 (s.rdN GCTL_UID_LO) ++ leBytes 4 (s.rdN GCTL_UID_HI)
def State.digestHead (s : State) : List Byte := (List.range 4).flatMap (fun i => leBytes 4 (s.rdN (CSU_STRUCT_DIGEST i)))

/-- The record of the values in force (R453). -/
def State.calrecBytes (s : State) : List Byte :=
  let head := padTo 0x10 (padTo 8 (leBytes 4 calrecMagic ++ leBytes 2 1) ++ s.uidBytes) ++ s.digestHead
  let save := padTo 0x40 (head ++ leBytes 6 s.ptpSec ++ leBytes 1 (s.get CAL_RUN_STATUS_TEMP))
  let delays := (List.range 64).flatMap (fun p => (List.range 8).flatMap (fun i => leBytes 1 ((s.hbm.delays.getD p []).getD i 0)))
  let presets := (List.range 6).flatMap (fun g => (List.range 16).flatMap (fun n => leBytes 1 ((s.group g).presets.getD n 0)))
  let eyes := (List.range 6).flatMap (fun g => leBytes 1 (s.bits (SPL_G_EYE g) 7 0))
  let body := padTo 0xFFC (padTo 0x2B0 (save ++ delays ++ presets ++ eyes) ++ leBytes 4 (s.rdN MEM_SPARE_MAP))
  body ++ leBytes 4 (crc32c body)

/-- Address of the record. -/
def State.calrecAddr (s : State) : Nat := s.addr36 GCTL_CALREC_LO GCTL_CALREC_HI / 64 * 64

/-- The record operation ends with an error (R454). -/
def State.calrecFail (s : State) (err : Nat) : State :=
  ((s.put GCTL_CALREC_STATUS_STATE 3).put GCTL_CALREC_STATUS_ERR err).raise 11 0

/-- The record operation completes (R454). -/
def State.calrecGood (s : State) : State := (s.put GCTL_CALREC_STATUS_STATE 2).raise 10 0

/-- A record operation starts; one that may not is refused with BUSY, an address outside HOST with REGION. -/
def State.calrecStart (s : State) (restore : Bool) : State :=
  if s.pcie.calWork.isSome then (s.put GCTL_CALREC_STATUS_ERR 1).raise 11 0
  else if restore && s.get CAL_RUN_STATUS_STATE != 0 then s.calrecFail 1
  else if !s.inRegion 0 s.calrecAddr calrecLen then s.calrecFail 2
  else
    let s1 := (s.put GCTL_CALREC_STATUS_STATE 1).put GCTL_CALREC_STATUS_ERR 0
    { s1 with pcie := { s1.pcie with calWork := some (restore, s.calrecAddr) } }

def calrecSave (s : State) : State := s.calrecStart false

def calrecRestore (s : State) : State := s.calrecStart true

/-- The check a record fails, in the order of the ERR codes' checks; none when it passes (R454). -/
def State.calrecCheck (s : State) (r : List Byte) : Option Nat :=
  if leAt r 0 4 ≠ calrecMagic then some 3
  else if leAt r 4 2 ≠ 1 then some 8
  else if crc32c (r.take 0xFFC) ≠ leAt r 0xFFC 4 then some 4
  else if slice r 8 8 ≠ s.uidBytes then some 5
  else if slice r 0x10 16 ≠ s.digestHead then some 6
  else none

/-- The presets of a record, each group's judged by R273's limits on the eye score it carries. -/
def State.calrecPresets (s : State) (r : List Byte) : State :=
  let bad := fun (g : Nat) => decide (byteAt r (0x2A0 + g) < byteAt s.panelSec 0x4B)
    || decide (byteAt r (0x2A0 + g) + 16 < s.pcie.prevEyes.getD g 0)
  let ps := (List.range 6).flatMap (fun g => (List.range 16).map (fun n =>
    if bad g then (s.group g).presets.getD n 0 else byteAt r (0x240 + 16 * g + n)))
  let s1 := ((List.range 6).filter bad).foldl (fun st _ => st.rejectResult) s
  { s1 with pcie := { s1.pcie with calPresets := some ps, prevEyes := (List.range 6).map (fun g => byteAt r (0x2A0 + g)) } }

/-- The first pseudo-channel whose recorded delays differ by more than HBM_DLY_MAX from the trained ones. -/
def State.calrecDelayOff (s : State) (r : List Byte) : Option Nat :=
  (List.range 64).find? (fun p => (List.range 8).any (fun i =>
    decide (byteAt s.panelSec 0x4A < ((byteAt r (0x40 + 8 * p + i) : Int) - ((s.hbm.delays.getD p []).getD i 0 : Int)).natAbs)))

/-- The recorded spare map names a pseudo-channel that is not RETIRED. -/
def State.calrecSpareOff (s : State) (r : List Byte) : Bool :=
  (List.range 4).any (fun h => bitAt (byteAt r (0x2B0 + h)) 7 && s.pcState (16 * h + byteAt r (0x2B0 + h) % 16) != pcRetired)

/-- A record that passes its checks is taken (R454). -/
def State.calrecTake (s : State) (r : List Byte) : State :=
  let s1 := s.calrecPresets r
  let s2 := match s.calrecDelayOff r with | some p => s1.raise 11 p | none => s1
  (s2.raiseIf (s.calrecSpareOff r) 11 0).calrecGood

/-- The record has been written, or read and checked (R453, R454). -/
def calrecDone (s : State) : State :=
  match s.pcie.calWork with
  | none => s
  | some (restore, a) =>
    let s1 := { s with pcie := { s.pcie with calWork := none } }
    if restore then
      if s.poisonedIn a calrecLen then (s1.notePoisonRead 12).calrecFail 7
      else match s.calrecCheck (s.memRead a calrecLen) with
        | some e => s1.calrecFail e
        | none => s1.calrecTake (s.memRead a calrecLen)
    else ((s1.dmaWrite 12 writerHost a s.calrecBytes 0).1).calrecGood

end Sys2Proof.Machine
end

