-- ==== Sys2Proof/Machine/Camera.lean ====
section
/-!
DEFINITION. The camera path (R135, R154 to R176): eye-set commits, the rig table, build instants, build items, their
ends, and the tracker.
-/

namespace Sys2Proof.Machine

/-! ## Eye sets (R135, R152) -/

/-- An eye set is committed, for the frames that start from the next tick on (R135, R152). -/
def State.commitEyes (s : State) (eyes : List (Nat × Nat × Nat × Nat)) (valid seq : Nat) : State :=
  { s with frame := { s.frame with eyesIn := some (eyes, valid, seq) }, cam := { s.cam with eyeSeq := some seq } }

/-- At the end of a tick the set committed in it counts as a frame trigger and ends the stale state (R136, R199). -/
def State.settleEyes (s : State) : State :=
  match s.frame.eyesIn with
  | some e => State.put { s with frame := { s.frame with eyes := e.1, eyeValid := e.2.1, eyeSeq := e.2.2, eyeNew := true, eyesIn := none } }
      CMP_SYN_STATUS_STALE 0
  | none => s

/-- The shadow eye-boxes. -/
def State.shadowEyes (s : State) : List (Nat × Nat × Nat × Nat) :=
  (List.range 8).map (fun e => (s.rdN (CMP_SYN_EYE_X e), s.rdN (CMP_SYN_EYE_Y e), s.rdN (CMP_SYN_EYE_Z e), s.rdN (CMP_SYN_EYE_HALF e)))

/-- A write of CMP_SYN_EYE_SEQ: it commits the shadow set unless the tracker does (R135). -/
def eyeSetCommit (val : Word) (s : State) : State :=
  let s1 := s.wrN CMP_SYN_EYE_SEQ (val.toNat % 65536)
  if s.on CMP_SYN_CFG_EYE_SRC then s1 else s1.commitEyes s.shadowEyes (s.bits CMP_SYN_EYE_VALID 7 0) (val.toNat % 65536)

/-! ## The rig table (R155 to R158) -/

/-- Address of a rig copy. -/
def State.rigBase (s : State) (copy : Nat) : Nat := s.addr36 CMP_CAM_RIG_LO CMP_CAM_RIG_HI + 0x20000 * copy

/-- A camera record. -/
structure CamRec where
  enable    : Bool
  concealed : Bool
  track     : Bool
  ctx       : Nat
  width     : Nat
  height    : Nat
  depth     : Nat
  offset    : Int
  deriving DecidableEq, Repr

def State.camRec (s : State) (base c : Nat) : CamRec :=
  let a := base + 0x100 + 128 * c
  let f := s.memNat a 1
  { enable := bitAt f 0, concealed := bitAt f 1, track := bitAt f 2, ctx := s.memNat (a + 1) 1, width := s.memNat (a + 2) 2
    height := s.memNat (a + 4) 2, depth := s.memNat (a + 6) 1, offset := signedOf 32 (s.memNat (a + 8) 4) }

def State.camCount (s : State) (base : Nat) : Nat := s.memNat (base + 4) 1
def State.rigPlanes (s : State) (base : Nat) : Nat := s.memNat (base + 5) 1
def State.rigDisp (s : State) (base p : Nat) : Nat := s.memNat (base + 0x10 + 2 * p) 2

/-- MIN_CAMS and MISS_LIMIT, 0 taken as 1. -/
def State.minCams (s : State) : Nat := max 1 (s.get CMP_CAM_CFG_MIN_CAMS)
def State.missLimit (s : State) : Nat := max 1 (s.get CMP_CAM_CFG_MISS_LIMIT)

def CamRec.ok (r : CamRec) : Bool :=
  decide (r.ctx < 64 ∧ 64 ≤ r.width ∧ r.width ≤ 3840 ∧ 64 ≤ r.height ∧ r.height ≤ 2160 ∧ (r.depth = 8 ∨ r.depth = 10))

/-- Every byte of a rig copy that R156 and R157 do not list is 0; a record's FLAGS [7:3] are reserved as well. -/
def State.rigZeros (s : State) (base : Nat) : Bool :=
  s.memZero (base + 0x0E) 2 && s.memZero (base + 0x90) 0x70 && s.memZero (base + 0x11900) (0x20000 - 0x11900)
    && (List.range (s.camCount base)).all (fun c =>
      let a := base + 0x100 + 128 * c
      decide (s.memNat a 1 < 8) && s.memZero (a + 0x07) 1 && s.memZero (a + 0x1E) 2 && s.memZero (a + 0x38) 0x48)

/-- The checks of R158. -/
def State.rigOk (s : State) (base : Nat) : Bool :=
  let n := s.camCount base
  let p := s.rigPlanes base
  let step := s.memNat (base + 6) 1
  let mv := s.memNat (base + 7) 1
  let recs := (List.range n).map (s.camRec base)
  let en := recs.filter (fun r => r.enable)
  s.memNat base 4 == 1 && decide (1 ≤ n ∧ n ≤ 16 ∧ 1 ≤ p ∧ p ≤ 64 ∧ (step = 1 ∨ step = 2 ∨ step = 4) ∧ 2 ≤ mv ∧ mv ≤ 16)
    && decide (s.memNat (base + 0x0A) 1 < p ∧ s.memNat (base + 0x0B) 1 < n ∧ s.memNat (base + 0x0C) 2 ≤ 1023)
    && s.rigZeros base
    && (rangeFrom p (64 - p)).all (fun k => s.rigDisp base k == 0)
    && (List.range (p - 1)).all (fun k => decide (signedOf 16 (s.rigDisp base (k + 1)) ≤ signedOf 16 (s.rigDisp base k)))
    && recs.all CamRec.ok && decide ((dedup (en.map (fun r => r.ctx))).length = en.length)
    && decide (s.minCams ≤ (en.filter (fun r => !r.track)).length)
    && (List.range n).all (fun c => (List.range 1024).all (fun i => decide (s.memNat (base + 0x9900 + 2048 * c + 2 * i) 2 ≤ 1023)))

/-- The copy in force. -/
def State.rig (s : State) : Nat := s.rigBase (s.get CMP_CAM_STATUS_RIG_ACTIVE)

/-- Cameras bound by the copy in force; none while no valid copy has been in force. -/
def State.boundCams (s : State) : List (Nat × CamRec) :=
  if s.cam.rigValid then ((List.range (s.camCount s.rig)).map (fun c => (c, s.camRec s.rig c))).filter (fun e => e.2.enable) else []

/-- The sweep cameras. -/
def State.sweepCams (s : State) : List (Nat × CamRec) := s.boundCams.filter (fun e => !e.2.track)

/-- A write of CMP_CAM_RIG_SEL, for the build instants from the next tick on (R175). -/
def rigSelect (val : Word) (s : State) : State :=
  State.put { s.wrN CMP_CAM_RIG_SEL (val.toNat % 2) with cam := { s.cam with selIn := true } } CMP_CAM_STATUS_RIG_PENDING 1

/-- A copy that was pending at the end of the tick before is checked at a build instant (R158, R175). -/
def State.checkRig (s : State) : State :=
  if s.wasGet CMP_CAM_STATUS_RIG_PENDING = 0 then s
  else
    let sel := s.wasN CMP_CAM_RIG_SEL % 2
    let s1 := s.putB CMP_CAM_STATUS_RIG_PENDING s.cam.selIn
    if s.rigOk (s.rigBase sel) then
      State.put { s1 with cam := { s1.cam with rigValid := true } } CMP_CAM_STATUS_RIG_ACTIVE sel
    else s1.raise 278 0

/-! ## The camera stream -/

def State.camStream (s : State) : Nat := s.bits CMP_CAM_STREAM 2 0

/-- Free slots of the camera pool: those that may be taken (R80). -/
def State.camFree (s : State) (used : List Nat) : List Nat :=
  (rangeFrom (s.poolBase s.camStream) (s.poolSize s.camStream)).filter (s.slotOpen s.camStream used)

/-! ## Build engines and items (R164, R166, R173) -/

/-- Build engines of channel c that take work. -/
def State.buildEngines (s : State) (c : Nat) : Nat :=
  if s.chanRuns c then ((chanEngines c).filter (fun g => s.engBuilds g && s.engState g != esOffline)).length else 0

/-- First tile column after channel c's: the smallest j with j × NB ≥ TC × S. -/
def State.buildColumn (s : State) (ns : List Nat) (c : Nat) : Nat :=
  ceilDiv (s.tileCols * ((ns.take (c + 1)).foldl (· + ·) 0)) (ns.foldl (· + ·) 0)

/-- Channel of tile column `col`. -/
def State.buildChannel (s : State) (ns : List Nat) (col : Nat) : Nat :=
  ((List.range 4).find? (fun c => decide (0 < ns.getD c 0 ∧ col < s.buildColumn ns c))).getD 0

def State.pushBuild (s : State) (c : Nat) (front : Bool) (it : Item) : State :=
  (s.setChan c (fun ch => { ch with builds := if front then it :: ch.builds else ch.builds ++ [it] })).showQueues c

/-- A tracker item. -/
def Item.tracks (it : Item) : Bool := bitAt (it.wi.getD 1 0) 31

/-- A build stops without registering: its queued items are dropped and its buffer is abandoned. -/
def State.dropBuild (s : State) (b : Build) : State :=
  let s1 := (List.range 4).foldl (fun st c =>
    (st.setChan c (fun ch => { ch with builds := ch.builds.filter Item.tracks })).showQueues c) s
  State.put (State.freeBuf { s1 with cam := { s1.cam with build := none } } s1.camStream b.buf) CMP_CAM_STATUS_BUILD 0

/-- TWR found no slot (R173). -/
def State.buildNoSlot (s : State) (b : Build) : State :=
  let s1 := ((s.dropBuild b).count CMP_CAM_SKIP_CNT).raise 277 0
  { s1 with cam := { s1.cam with poolShort := some (s1.camFree []).length } }

/-- The last item of a build has ended: the descriptor is written and the buffer registered. -/
def State.finishBuild (s : State) (b : Build) : State :=
  let i := s.camStream
  let recs := (List.range b.disps.length).map (fun p => (b.disps.getD p 0, p, true, b.tables.getD p 0))
  let s1 := (s.writeDesc 5 writerBuild i b.buf 2 b.number (b.earliest % 10 ^ 9) (b.earliest / 10 ^ 9) recs).registerBuf i b.buf
  if s1.on (CMP_STK_STATE_BUSY i) then
    State.put { s1 with cam := { s1.cam with build := none, registering := some b } } CMP_CAM_STATUS_BUILD 2
  else s1.dropBuild b

/-- An item of the running build has ended. -/
def State.itemEnded (s : State) (number : Nat) : State :=
  match s.cam.build with
  | none => s
  | some b =>
    if b.number ≠ number then s
    else if b.items ≤ 1 then s.finishBuild { b with items := 0 }
    else { s with cam := { s.cam with build := some { b with items := b.items - 1 } } }

/-- Marking of a registered buffer completes (R76); the camera path's build is then complete. -/
def State.stkMarked (s : State) (i : Nat) : State :=
  let s1 := match (s.stream i).marking with | some b => s.becomeReady i b | none => s
  match s.cam.registering with
  | some b =>
    if i = s.camStream ∧ (s.stream i).marking = some b.buf then
      State.put (State.wrN { s1 with cam := { s1.cam with registering := none } } CMP_CAM_BUILD_TIME (s.usSince b.start % 2 ^ 24))
        CMP_CAM_STATUS_BUILD (if s1.cam.build.isSome then 1 else 0)
    else s1
  | none => s1

/-- Set a bit of a table's occupancy or change bitmap. -/
def State.setTileBit (s : State) (client a k c : Nat) (on : Bool) : State :=
  let x := a + k + c / 8
  let v := s.memNat x 1
  s.memWriteNat client x 1 (v - v / 2 ^ (c % 8) % 2 * 2 ^ (c % 8) + bit on * 2 ^ (c % 8))

/-- Point a table's tile at a slot, with its occupancy and change bits (R65, R77). -/
def State.setTile (s : State) (client a r c q : Nat) (present changed : Bool) : State :=
  ((s.memWriteNat client (a + 1664 + 384 * r + 4 * c) 4 q).setTileBit client (a + 16 * r) 0 c present).setTileBit client (a + 16 * r) 832 c changed

/-- An abandoned item's position keeps the carried tiles (R173). -/
def State.keepCarried (s : State) (b : Build) (client col row : Nat) : State :=
  b.wrote.foldl (fun (st : State) (w : Nat × Nat × Bool) =>
    if bitsOf w.1 13 8 = row ∧ bitsOf w.1 6 0 = col then
      st.setTile client (s.slotAddr (b.tables.getD (bitsOf w.1 21 16) 0)) row col w.2.1 w.2.2 false
    else st) s

/-- TWR: the slot of a new tile of the buffer being filled (R118); none when there is no slot or no build. -/
def State.tileWrite (s : State) (client pos : Nat) (bytes : List Byte) : State × Option Nat :=
  match s.cam.build with
  | none => (s, none)
  | some b =>
    match s.camFree b.used with
    | [] => (s.buildNoSlot b, none)
    | q :: _ =>
      let a := s.slotAddr (b.tables.getD (bitsOf pos 21 16) 0)
      let r := bitsOf pos 13 8
      let c := bitsOf pos 6 0
      let old := (s.memNat (a + 1664 + 384 * r + 4 * c) 4, bitAt (s.memNat (a + 16 * r + c / 8) 1) (c % 8))
      let wrote := if b.wrote.any (fun w => w.1 == pos % 2 ^ 22) then b.wrote else (pos % 2 ^ 22, old) :: b.wrote
      let s1 := (s.memWrite client (s.slotAddr q) bytes).setTile client a r c q true true
      ({ s1 with cam := { s1.cam with build := some { b with used := q :: b.used, wrote := wrote } } }, some q)

/-! ## The tracker (R174) -/

/-- An area lies in a DMWR window of a channel (R101). -/
def State.inWindow (s : State) (c a n : Nat) : Bool :=
  (s.csu.chans.getD c .reset).windows.any (fun w => decide (w.1 ≤ a ∧ a + n ≤ w.1 + w.2))

/-- A tracker item of channel c has ended with DONE. -/
def State.trackerEnded (s : State) (c : Nat) : State :=
  let a := s.addr36 CMP_CAM_EYE_ADDR_LO CMP_CAM_EYE_ADDR_HI
  if !s.inWindow c a 0x90 then s.raise 279 0
  else
    let seq := s.memNat a 2
    if !s.on CMP_SYN_CFG_EYE_SRC || s.cam.eyeSeq == some seq then s
    else
      let eyes := (List.range 8).map (fun e =>
        let p := a + 0x10 + 16 * e
        (s.memNat p 4, s.memNat (p + 4) 4, s.memNat (p + 8) 4, s.memNat (p + 12) 4))
      s.commitEyes eyes (s.memNat (a + 2) 1) seq

/-- A build item of engine channel c ends with DONE. -/
def State.buildItemDone (s : State) (c : Nat) (it : Item) : State :=
  if it.tracks then s.trackerEnded c else s.itemEnded (it.wi.getD 2 0)

/-- A build item is abandoned after an engine fault (R120, R173). -/
def State.buildItemFailed (s : State) (it : Item) : State :=
  let s1 := (s.count CMP_CAM_ITEM_FAIL_CNT).raise 276 0
  if it.tracks then s1
  else
    let s2 := match s1.cam.build with
      | some b => if b.number = it.wi.getD 2 0 then s1.keepCarried b 5 (it.wi.getD 1 0 % 2 ^ 7) (it.wi.getD 1 0 / 2 ^ 8 % 2 ^ 6) else s1
      | none => s1
    s2.itemEnded (it.wi.getD 2 0)

/-- Entry of a camera in a build record (R167), also the tracker's entry. -/
def camEntry (p : Pic) (capture : Nat) : List Byte :=
  leBytes 4 (p.luma / 16) ++ leBytes 4 (p.chroma / 16) ++ leBytes 2 p.pitch ++ leBytes 2 p.cpitch ++ leBytes 4 (capture % 10 ^ 9)
    ++ leBytes 6 (capture / 10 ^ 9) ++ leBytes 1 (bit p.concealed) ++ List.replicate 9 0

/-- Capture time of a picture for a camera (R159). -/
def Pic.captureFor (p : Pic) (r : CamRec) : Int := (p.capture : Int) + r.offset

/-- The picture fits its camera record (R159). -/
def Pic.fits (p : Pic) (r : CamRec) : Bool :=
  p.ctx == r.ctx && p.width == r.width && p.height == r.height && p.depth == r.depth && (!p.concealed || r.concealed)

/-- A decoded picture of a bound context (R159, R174): a sweep camera's eligible picture waits for the builds. -/
def State.camPicture (s : State) (p : Pic) : State :=
  match s.boundCams.find? (fun e => e.2.ctx == p.ctx) with
  | none => s
  | some e =>
    let others := s.cam.pics.filter (fun q => !(q.ctx == p.ctx && q.slot == p.slot))
    let s1 := { s with cam := { s.cam with pics := if p.fits e.2 && !e.2.track then others ++ [p] else others } }
    if p.width ≠ e.2.width ∨ p.height ≠ e.2.height ∨ p.depth ≠ e.2.depth then s1.raiseMask 273 (2 ^ e.1)
    else if !(e.2.track && s.on CMP_CAM_CFG_TRACK_EN && p.fits e.2) then s1
    else match (List.range 4).find? (fun c => decide (0 < s1.buildEngines c)) with
      | none => s1
      | some c =>
        let a := s1.controlAt 4 + 1024 + 32 * e.1
        (s1.memWrite 5 a (camEntry p (p.captureFor e.2).toNat)).pushBuild c true
          { build := true, wi := [2, 2 ^ 31 + e.1, s.rdN CMP_CAM_BUILD_NO, a / 16, 0, 0, 0, 0] }

/-! ## Build instants (R161 to R167) -/

/-- The build instants under the timing registers as they stood at the end of the tick before (R175): the k-th, in ns,
rounded down to a tick of 4 ns (R161). -/
def State.buildPeriod (s : State) : Nat := 65536 * s.wasN CMP_CAM_PERIOD_NS + s.wasBits CMP_CAM_PERIOD_FRAC 15 0
def State.buildInstantAt (s : State) (k : Nat) : Nat := (s.wasN CMP_CAM_PHASE_NS + k * s.buildPeriod / 65536) / 4 * 4

/-- The first build instant at or after a PTP time in ns. -/
def State.instantFrom (s : State) (t : Nat) : Option Nat :=
  if s.buildPeriod = 0 then none
  else some (s.buildInstantAt (ceilDiv (65536 * ((t + 3) / 4 * 4 - s.wasN CMP_CAM_PHASE_NS)) s.buildPeriod))

/-- The last build instant before a PTP time in ns; the first of all where there is none. -/
def State.instantBefore (s : State) (t : Nat) : Nat :=
  if s.buildPeriod = 0 then t
  else s.buildInstantAt (ceilDiv (65536 * ((t + 3) / 4 * 4 - s.wasN CMP_CAM_PHASE_NS)) s.buildPeriod - 1)

/-- The target capture time of the build of an instant (R161). -/
def State.targetOf (s : State) (t : Nat) : Int := (t : Int) - (s.wasN CMP_CAM_CAP_LAG : Int)

/-- The eligible picture nearest to the target, the earlier of two (R162). -/
def State.selectPic (s : State) (target : Int) (r : CamRec) : Option Pic :=
  let skew : Int := s.wasN CMP_CAM_SKEW_MAX
  let ok := s.cam.pics.filter (fun p => p.fits r && decide (p.doneTick < s.evc.tick)
    && decide (target - skew ≤ p.captureFor r ∧ p.captureFor r < target + skew))
  ok.foldl (fun best p => match best with
    | none => some p
    | some b =>
      let db := (b.captureFor r - target).natAbs
      let dp := (p.captureFor r - target).natAbs
      if dp < db ∨ (dp = db ∧ p.captureFor r < b.captureFor r) then some p else best) none

def State.camState (s : State) (c : Nat) : Nat := s.get ⟨CMP_CAM_STATE, 2 * c + 1, 2 * c⟩
def State.setCamState (s : State) (c st : Nat) : State := s.put ⟨CMP_CAM_STATE, 2 * c + 1, 2 * c⟩ st

/-- A sweep camera has no picture at an instant, or has one (R163); a MISSING camera stays so until it has one. -/
def State.judgeCam (s : State) (c : Nat) (selected : Bool) : State :=
  let old := s.camState c
  if selected then
    let s1 := State.setCamState { s with cam := { s.cam with misses := s.cam.misses.set c 0 } } c 1
    if old = 3 then s1.raiseMask 275 (2 ^ c) else s1
  else
    let m := s.cam.misses.getD c 0 + 1
    let s1 := State.count { s with cam := { s.cam with misses := s.cam.misses.set c m } } CMP_CAM_LATE_CNT
    let new := if old = 3 ∨ s.missLimit ≤ m then 3 else 2
    let s2 := s1.setCamState c new
    if new = old then s2 else if new = 3 then s2.raiseMask 274 (2 ^ c) else s2.raiseMask 273 (2 ^ c)

/-- A camera is enabled: it enters LATE with no instant missed (R163). -/
def State.camLate (s : State) (c : Nat) : State :=
  (State.setCamState { s with cam := { s.cam with misses := s.cam.misses.set c 0 } } c 2).raiseMask 273 (2 ^ c)

/-- A camera without a sweep record is DISABLED (R163). -/
def State.camOff (s : State) (c : Nat) : State :=
  State.setCamState { s with cam := { s.cam with misses := s.cam.misses.set c 0 } } c 0

/-- The cameras' states when the rig copy in force may have changed: the sweep cameras it enables leave DISABLED, the
others enter it (R163). -/
def State.bindCams (s : State) : State :=
  let sweep := s.sweepCams.map Prod.fst
  (List.range 16).foldl (fun (st : State) c =>
    if !sweep.contains c then st.camOff c else if st.camState c = 0 then st.camLate c else st) s

/-- A build is skipped for a reason (R164). -/
def State.skipBuild (s : State) (reason : Nat) : State :=
  ((s.put CMP_CAM_STATUS_SKIP reason).count CMP_CAM_SKIP_CNT).raise 272 0

/-- The build before is still under way; at an instant, as at the end of the tick before (R164). -/
def State.buildBusy (s : State) : Bool := s.cam.build.isSome || s.cam.registering.isSome
def State.wasBuilding (s : State) : Bool := s.wasGet CMP_CAM_STATUS_BUILD != 0 || s.buildBusy

/-- The reason to skip the build of an instant with `n` cameras selected, in the model's order of test; `busy`: the
previous build had not completed. -/
def State.skipReason (s : State) (busy : Bool) (n : Nat) : Option Nat :=
  let i := s.camStream
  if !s.cam.rigValid then some 3
  else if !(s.stream i).active || s.get (CMP_STK_CFG_SOURCE i) != 2 then some 6
  else if (List.range 4).all (fun c => s.buildEngines c == 0) then some 4
  else if busy || (s.acquirable i).isNone then some 2
  else if (match s.cam.poolShort with | some k => decide ((s.camFree []).length ≤ k) | none => false) then some 5
  else if n < s.minCams then some 1 else none

/-- Start the build: the buffer, the build record and the items (R165 to R167). -/
def State.startBuild (s : State) (target : Int) (restart : Bool) (sel : List (Nat × CamRec × Pic)) : State :=
  let i := s.camStream
  let b := (s.acquirable i).getD 0
  let n := s.rigPlanes s.rig
  let carried := if restart then none else (s.bufIn i 2).orElse (fun _ => s.bufIn i 3)
  let base := match carried with | some a => s.bufPlanes i a | none => []
  let number := (s.rdN CMP_CAM_BUILD_NO + 1) % 2 ^ 32
  match s.allocTables i n [s.descSlot i b] with
  | none =>
    let s1 := s.skipBuild 5
    { s1 with cam := { s1.cam with poolShort := some (s1.camFree []).length } }
  | some tables =>
    let s1 := (List.range n).foldl (fun st p => st.initTable (tables.getD p 0) base[p]?) (s.setBuf i b 1)
    let rec0 := leBytes 4 number ++ leBytes 4 (bit restart) ++ leBytes 4 (target.toNat % 10 ^ 9) ++ leBytes 6 (target.toNat / 10 ^ 9)
      ++ leBytes 2 0 ++ leBytes 2 (sel.foldl (fun m e => m + 2 ^ e.1) 0) ++ leBytes 2 0 ++ leBytes 4 (s.rig / 16)
      ++ leBytes 4 (match carried with | some a => s.descSlot i a | none => 0xFFFFFFFF) ++ leBytes 4 (s.descSlot i b) ++ List.replicate 28 0
    let recs := (List.range 16).flatMap (fun c => match sel.find? (fun e => e.1 == c) with
      | some e => camEntry e.2.2 (e.2.2.captureFor e.2.1).toNat
      | none => List.replicate 32 0)
    let a := s.controlAt 4
    let s2 := s1.memWrite 5 a (rec0 ++ recs ++ List.replicate 448 0)
    let caps := sel.map (fun e => (e.2.2.captureFor e.2.1).toNat)
    let build : Build :=
      { number := number, buf := b, items := s.tileCols * s.tileRows, earliest := caps.foldl min (caps.headD 0), start := s.now, noSlot := false
        used := s.descSlot i b :: tables.flatMap (fun q => rangeFrom q 5) ++ (base.take n).flatMap (s.planeTileSlots i)
        disps := (List.range n).map (s.rigDisp s.rig), tables := tables, pics := sel.map (fun e => (e.2.2.ctx, e.2.2.slot))
        wrote := [] }
    let ns := (List.range 4).map s.buildEngines
    let s3 := s.tileGrid.foldl (fun st t => st.setChan (s.buildChannel ns t.1) (fun ch =>
      { ch with builds := ch.builds ++ [{ build := true, wi := [2, t.1 + 2 ^ 8 * t.2, number, a / 16, 0, 0, 0, 0] }] })) s2
    let s4 := (List.range 4).foldl State.showQueues { s3 with cam := { s3.cam with build := some build, restart := false, poolShort := none } }
    let s5 := ((s4.wrN CMP_CAM_BUILD_NO number).wrN CMP_CAM_PRESENT (sel.foldl (fun m e => m + 2 ^ e.1) 0)).put CMP_CAM_STATUS_BUILD 1
    s5.toPartner (.build { number := number, restart := restart, rigCopy := s.get CMP_CAM_STATUS_RIG_ACTIVE
                           pictures := (List.range 16).map (fun c => (sel.find? (fun e => e.1 == c)).map (fun e => (e.2.2.capture, e.2.2.concealed))) })

/-- The earliest build instant that is still to come; a secondary's builds follow their instants by less than a period
(R423). -/
def State.comingInstant (s : State) : Option Nat :=
  let t := if s.cam.instant = some s.evc.tick then s.ptpTickEnd else s.ptpFrom
  if s.isSecondary then some (s.instantBefore (t - s.buildPeriod / 65536)) else s.instantFrom t

/-- A picture that a later build could still select (R160). -/
def State.picSelectable (s : State) (p : Pic) : Bool :=
  match s.boundCams.find? (fun e => e.2.ctx == p.ctx), s.comingInstant with
  | some e, some t => !e.2.track && p.fits e.2 && decide (s.targetOf t - (s.wasN CMP_CAM_SKEW_MAX : Int) ≤ p.captureFor e.2)
  | _, _ => false

/-- At the end of a tick: a RESTART or a selection written in it counts for the instants to come (R175), and the
pictures that no later build can select are let go (R160). -/
def State.settleCams (s : State) : State :=
  { s with cam := { s.cam with restart := s.cam.restart || s.cam.restartIn, restartIn := false, selIn := false
                               pics := s.cam.pics.filter s.picSelectable } }

/-- The pictures a BUILD record of the primary names (R423). -/
def State.namedPics (s : State) (m : BuildMsg) : List (Nat × CamRec × Pic) :=
  s.sweepCams.filterMap (fun e => match m.pictures.getD e.1 none with
    | some p => (s.cam.pics.find? (fun q => q.fits e.2 && q.capture == p.1 && q.concealed == p.2)).map (fun q => (e.1, e.2, q))
    | none => none)

/-- On a secondary a build runs on the primary's BUILD record only (R423); `t` is its build instant, and a camera is
judged by whether the record names a picture of it. -/
def State.mirroredBuild (s : State) (m : BuildMsg) (t : Nat) : State :=
  let s0 := State.put { s with cam := { s.cam with buildMsg := none, rigValid := true } } CMP_CAM_STATUS_RIG_ACTIVE (m.rigCopy % 2)
  let s1 := s0.sweepCams.foldl (fun (st : State) e => st.judgeCam e.1 (m.pictures.getD e.1 none).isSome) s0.bindCams
  let sel := s1.namedPics m
  let s2 := s1.wrN CMP_CAM_BUILD_NO ((m.number + 2 ^ 32 - 1) % 2 ^ 32)
  let missing := s1.sweepCams.any (fun e => (m.pictures.getD e.1 none).isSome && !sel.any (fun p => p.1 == e.1))
  match s2.skipReason s2.buildBusy 16 with
  | some r => (s2.skipBuild r).desync (if r = 5 then 3 else 2)
  | none => if missing then s2.desync 2 else
      let s3 := s2.startBuild (s2.targetOf t) m.restart sel
      if s3.cam.build.isNone then s3.desync 3 else s3

/-- The pictures that a build takes for a target capture time, by sweep camera (R162). -/
def State.buildPicks (s : State) (target : Int) : List (Nat × CamRec × Option Pic) :=
  s.sweepCams.map (fun e => (e.1, e.2, s.selectPic target e.2))

/-- Every sweep camera is judged by its picture (R163). -/
def State.judgeCams (s : State) (target : Int) : State :=
  (s.buildPicks target).foldl (fun (st : State) e => st.judgeCam e.1 e.2.2.isSome) s

/-- The build of an instant: started, or skipped with its reason (R162 to R164). -/
def State.buildAt (s : State) (t : Nat) : State :=
  let target := s.targetOf t
  let s1 := (State.checkRig { s with cam := { s.cam with instant := some s.evc.tick } }).bindCams
  let s2 := s1.judgeCams target
  let sel := (s1.buildPicks target).filterMap (fun e => e.2.2.map (fun p => (e.1, e.2.1, p)))
  match s2.skipReason s2.wasBuilding sel.length with
  | some r => s2.skipBuild r
  | none => s2.startBuild target s2.cam.restart sel

/-- A build instant (R161 to R164): a pending rig copy is checked, cameras are judged, and the build starts or is
skipped. -/
def buildInstant (s : State) : State :=
  if s.isSecondary || !s.on CMP_CAM_CFG_ENABLE || decide (1 < s.pwrState) || s.pwr.stopping.isSome || s.cam.instant == some s.evc.tick then s
  else match s.instantFrom s.ptpFrom with
    | none => s
    | some t => if s.ptpTickEnd ≤ t then s else s.buildAt t

/-- Setting CMP_CAM_CFG.ENABLE: refused while the stream's source is not the camera path (R154). -/
def camEnable (s : State) : State :=
  if s.get (CMP_STK_CFG_SOURCE s.camStream) ≠ 2 then s.put CMP_CAM_STATUS_SKIP 6
  else s.sweepCams.foldl (fun st e => if st.camState e.1 = 2 then st else st.camLate e.1) (s.put CMP_CAM_CFG_ENABLE 1)

/-- CMP_CAM_CMD.RESTART, for the build instants from the next tick on (R165, R175). -/
def camRestart (s : State) : State := { s with cam := { s.cam with restartIn := true } }

/-! ## Channels that stop building (R55, R173, R404) -/

/-- The build item that an engine runs stops: its transfers end, and the item goes back to its channel's queue (R55). -/
def State.returnBuild (s : State) (g : Nat) : State :=
  match (s.eng g).item with
  | some it =>
    if it.build && s.engState g == esRun then
      (((s.dmaDrain g).1.setEng g (fun e => { e with item := none })).setChan (g / 32) (fun ch => { ch with builds := it :: ch.builds })).showQueues (g / 32)
    else s
  | none => s

/-- The engines of a channel that is about to load go OFFLINE, and the build items they run go back to its queue (R54,
R55). -/
def State.offlineChannel (s : State) (c : Nat) : State :=
  (chanEngines c).foldl (fun (st : State) g => (st.returnBuild g).setEngState g esOffline) s

/-- The queued items of a channel that stops move to the other build channels in turn; with none, the build is
abandoned (R55, R173). -/
def State.moveBuilds (s : State) (c : Nat) : State :=
  let items := (s.chan c).builds
  if items.isEmpty then s
  else
    let s1 := (s.setChan c (fun ch => { ch with builds := [] })).showQueues c
    match (List.range 4).filter (fun k => k != c && decide (0 < s1.buildEngines k)) with
    | [] => (match s1.cam.build with | some b => s1.dropBuild b | none => s1)
    | dst => ((List.range items.length).zip items).foldl (fun (st : State) (e : Nat × Item) => st.pushBuild (dst.getD (e.1 % dst.length) 0) false e.2) s1

end Sys2Proof.Machine
end

