-- ==== Sys2Proof/Machine/AuxOut.lean ====
section
/-!
DEFINITION. The auxiliary output (R243 to R247): the clone unit's copies, DisplayPort training, the sideband channel
and scanout.
-/

namespace Sys2Proof.Machine

/-! ## Copies (R244, R245) -/

abbrev roleFree : Nat := 0
abbrev roleScan : Nat := 1
abbrev roleLatest : Nat := 2
abbrev roleWork : Nat := 3

/-- Address of copy `j` of captured view `v`: copies of W × H pixels of 4 bytes stand one after another. -/
def State.copyAddr (s : State) (v j : Nat) : Nat := s.addr36 AUX_CLONE_LO AUX_CLONE_HI + (3 * v + j) * (4 * s.geomW * s.geomH)

/-- Address of pixel (x, y) of a copy. -/
def State.copyPixel (s : State) (v j x y : Nat) : Nat := s.copyAddr v j + 4 * (s.geomW * y + x)

/-- The view AUX_CFG selects. -/
def State.auxView (s : State) : Nat := min (s.bits AUX_CFG 15 8) 143

/-- A FREE copy of unknown content. -/
def Copy.blank : Copy := ⟨roleFree, none, false, 0⟩

/-- A copy with a role. -/
def CloneView.setRole (v : CloneView) (j role : Nat) : CloneView :=
  { v with copies := v.copies.modify j (fun c => { c with role := role }) }

/-- The copy with a role. -/
def CloneView.find (v : CloneView) (role : Nat) : Option Nat := v.copies.findIdx? (fun c => c.role == role)

/-- The newest completed copy: LATEST, or SCAN when there is none. -/
def CloneView.newest (v : CloneView) : Option Nat := (v.find roleLatest).orElse (fun _ => v.find roleScan)

/-- Age key of a copy's content: unknown content is the oldest. -/
def Copy.key (c : Copy) : Nat := match c.frame with | some f => f + 1 | none => 0

/-- The FREE copy with the newest content, the lowest index among equals. -/
def CloneView.freeCopy (v : CloneView) : Option Nat :=
  (List.range v.copies.length).foldl (fun best j =>
    let c := v.copies.getD j ⟨roleScan, none, false, 0⟩
    if c.role ≠ roleFree then best
    else match best with
      | some b => if (v.copies.getD b ⟨roleScan, none, false, 0⟩).key < c.key then some j else best
      | none => some j) none

/-- A view captured anew: its copies are FREE and unknown, but one that is being scanned stays. -/
def CloneView.renew (view : Nat) (old : Option CloneView) : CloneView :=
  match old with
  | some v => if v.view = view then v
              else { view := view, copies := v.copies.map (fun c => if c.role = roleScan then c else Copy.blank) }
  | none => { view := view, copies := List.replicate 3 Copy.blank }

/-- A captured view at a frame start: WORK is chosen; second answer, whether no copy is FREE. -/
def CloneView.start (v : CloneView) : CloneView × Bool :=
  match v.freeCopy with
  | some j => ({ v with copies := v.copies.modify j (fun c => { c with role := roleWork, done := false }) }, false)
  | none => (v, true)

/-- A frame is not captured or not promoted: counted, source 388. -/
def State.cloneSkip (s : State) (n : Nat) : State := if n = 0 then s else (s.countN AUX_SKIP_CNT n).raise 388 0

/-- Frame start: the captured views and their WORK copies; `wb` is the writeback view while writeback is enabled. -/
def State.cloneStart (s : State) (wb : Option Nat) : State :=
  let a := CloneView.renew s.auxView s.aux.views.head?
  let l := match wb with
    | some w => if w = s.auxView then [a] else [a, CloneView.renew w s.aux.views[1]?]
    | none => [a]
  let r := l.map CloneView.start
  State.cloneSkip { s with aux := { s.aux with views := r.map (fun e => e.1) } } (r.filter (fun e => e.2)).length

/-- Copy one hogel's pixel. -/
def State.copyHogel (s : State) (v src dst x y : Nat) : State :=
  s.memWrite 13 (s.copyPixel v dst x y) (s.memRead (s.copyPixel v src x y) 4)

/-- Hogels that the WORK copy lacks: those outside the frame's rectangles that changed since its content, which are those
of the last completed frame's rectangles when WORK is one frame behind it, and any otherwise (R245). -/
def State.lacking (s : State) (work newest : Copy) : List (Nat × Nat) :=
  let last := s.rdN SPL_FRAME_CNT
  let behind := decide (0 < last) && newest.frame == some last && work.frame == some (last - 1)
  let from_ := if behind then s.aux.prev else [⟨0, s.geomW, 0, s.geomH⟩]
  (List.range s.geomH).flatMap (fun y => ((List.range s.geomW).filter (fun x =>
    from_.any (fun r => decide (r.x0 ≤ x ∧ x < r.x1 ∧ r.y0 ≤ y ∧ y < r.y1))
      && s.frame.rects.all (fun r => !decide (r.1.x0 ≤ x ∧ x < r.1.x1 ∧ r.1.y0 ≤ y ∧ y < r.1.y1)))).map (fun x => (x, y)))

/-- The copying into the WORK copy of captured view `v` ends. -/
def cloneCopyDone (v : Nat) (s : State) : State :=
  match s.aux.views[v]? with
  | none => s
  | some cv => match cv.find roleWork with
    | none => s
    | some j =>
      let work := cv.copies.getD j Copy.blank
      if work.done then s
      else
        let s1 := match cv.newest with
          | none => s
          | some n => (s.lacking work (cv.copies.getD n Copy.blank)).foldl (fun (st : State) (q : Nat × Nat) => st.copyHogel v n j q.1 q.2) s
        { s1 with aux := { s1.aux with views := s1.aux.views.modify v (fun u =>
            { u with copies := u.copies.modify j (fun c => { c with done := true }) }) } }

/-- A code enters the mirror: each WORK copy of a view that shows the ray takes its pixel component (R244). -/
def State.captureRay (s : State) (x y i code : Nat) : State :=
  (List.range s.aux.views.length).foldl (fun st v => match st.aux.views[v]? with
    | none => st
    | some cv => match cv.find roleWork with
      | some j =>
        if cv.view = i / 3 then
          let f : Fld := ⟨0, 10 * (i % 3) + 9, 10 * (i % 3)⟩
          let w : Word := BitVec.ofNat 32 (st.memNat (st.copyPixel v j x y) 4)
          st.memWrite 13 (st.copyPixel v j x y) (leBytes 4 (f.ins w (st.bits (AUX_LUT (code % 4096)) 9 0)).toNat)
        else st
      | none => st) s

/-- A captured view at a completion: a finished WORK becomes LATEST. -/
def CloneView.complete (frame time : Nat) (v : CloneView) : CloneView × Bool :=
  match v.find roleWork with
  | none => (v, false)
  | some j =>
    if (v.copies.getD j Copy.blank).done then
      let v1 := match v.find roleLatest with | some l => v.setRole l roleFree | none => v
      ({ v1 with copies := v1.copies.modify j (fun _ => ⟨roleLatest, some frame, true, time⟩) }, false)
    else ({ v with copies := v.copies.modify j (fun _ => Copy.blank) }, true)

/-- Completion of the frame with number `frame` at the PTP time `time` (R228, R245). -/
def State.cloneComplete (s : State) (frame time : Nat) : State :=
  let r := s.aux.views.map (CloneView.complete frame time)
  State.cloneSkip { s with aux := { s.aux with views := r.map (fun e => e.1), prev := s.frame.rects.map (fun e => e.1) } }
    (r.filter (fun e => e.2)).length

/-- Abort: WORK becomes FREE with its content unknown. -/
def State.cloneAbort (s : State) : State :=
  { s with aux := { s.aux with views := s.aux.views.map (fun v =>
      { v with copies := v.copies.map (fun c => if c.role = roleWork then Copy.blank else c) }) } }

/-! ## DisplayPort (R243, R246, R247) -/

abbrev auxHpd : Fld := ⟨AUX_STATUS, 0, 0⟩
abbrev auxTrained : Fld := ⟨AUX_STATUS, 1, 1⟩
abbrev auxScanning : Fld := ⟨AUX_STATUS, 8, 8⟩

/-- AUX_CMD.TRAIN starts training. -/
def auxTrain (s : State) : State :=
  State.put (State.put { s with aux := { s.aux with training := true } } auxTrained 0) auxScanning 0

/-- The rates with which training succeeds on `l` lanes, as (rate, lanes), the highest rate first. -/
def trainSteps (l : Nat) (passed : List Bool) : List (Nat × Nat) :=
  (([3, 2, 1, 0].zip passed).filter (fun e => e.2)).map (fun e => (e.1, l))

/-- Training ends; per lane count, from the highest rate down, the operands say whether clock recovery and channel
equalisation succeed.  From HBR3 on four lanes it falls back in rate, then in lanes: the first success gives the rate and
the lanes; with none, source 385 (R243, R251). -/
def auxTrainDone (four two one : List Bool) (s : State) : State :=
  if !s.aux.training then s
  else
    let s1 := { s with aux := { s.aux with training := false } }
    match (if s.on auxHpd then (trainSteps 4 four ++ trainSteps 2 two ++ trainSteps 1 one).head? else none) with
    | some e => ((s1.put auxTrained 1).put ⟨AUX_STATUS, 3, 2⟩ e.1).put ⟨AUX_STATUS, 6, 4⟩ e.2
    | none => s1.raise 385 0

/-- Hot-plug changes: source 384; its loss stops scanout. -/
def dpHpd (level : Bool) (s : State) : State :=
  if s.on auxHpd == level then s
  else
    let s1 := (s.putB auxHpd level).raise 384 0
    if level then s1
    else State.put (State.put { s1 with aux := { s1.aux with training := false } } auxTrained 0) auxScanning 0

/-- A write of AUX_CH_CMD starts a sideband transaction. -/
def auxChTransaction (val : Word) (s : State) : State :=
  if s.aux.chBusy.isSome then s
  else State.put { s with aux := { s.aux with chBusy := some (val.toNat % 16, bitsOf val.toNat 7 4 + 1) } } ⟨AUX_CH_STATUS, 1, 0⟩ 1

/-- The transaction ends: reply code, and the data words of a read; source 387. -/
def dpChDone (ok : Bool) (reply : Word) (data : List Word) (s : State) : State :=
  if s.aux.chBusy.isNone then s
  else
    let s1 := (List.range (min 4 data.length)).foldl (fun st i => st.wr (AUX_CH_DATA i) (data.getD i 0)) s
    let s2 := (s1.put ⟨AUX_CH_STATUS, 1, 0⟩ (if ok then 2 else 3)).put ⟨AUX_CH_STATUS, 7, 4⟩ (reply.toNat % 16)
    State.raise { s2 with aux := { s2.aux with chBusy := none } } 387 0

/-- The captured view that scanout shows, and its SCAN copy. -/
def State.scanCopy (s : State) : Option Copy :=
  match s.aux.views.head? with
  | some v => match v.find roleScan with | some j => v.copies[j]? | none => none
  | none => none

/-- InfoFrame of type 0x81: OUI, frame number, completion time and view, with the checksum of CTA-861. -/
def infoFrame (oui frame ns sec view : Nat) : List Byte :=
  let body := leBytes 3 oui ++ leBytes 4 frame ++ leBytes 4 ns ++ leBytes 4 sec ++ leBytes 1 view
  let head : List Byte := [0x81, 1, BitVec.ofNat 8 body.length]
  head ++ [BitVec.ofNat 8 (256 - ((head ++ body).map BitVec.toNat).sum % 256)] ++ body

/-- The active area of a DisplayPort frame starts: a newer LATEST becomes SCAN; AUX_FRAME and the InfoFrame follow. -/
def dpFrameStart (s : State) : State :=
  if !(s.on ⟨AUX_CFG, 0, 0⟩ && s.on auxHpd && s.on auxTrained) then s
  else
    let key (v : CloneView) (j : Option Nat) : Nat := match j with | some i => (v.copies.getD i Copy.blank).key | none => 0
    let s1 := match s.aux.views.head? with
      | some v => match v.find roleLatest with
        | some l =>
          if key v (v.find roleScan) < key v (some l) then
            let v1 := match v.find roleScan with | some c => v.setRole c roleFree | none => v
            { s with aux := { s.aux with views := s.aux.views.set 0 (v1.setRole l roleScan) } }
          else s
        | none => s
      | none => s
    let n := match s1.scanCopy with | some c => c.frame.getD 0 | none => 0
    let t := match s1.scanCopy with | some c => c.time | none => 0
    let s2 := (State.put { s1 with aux := { s1.aux with blank := [] } } auxScanning 1).wrN AUX_FRAME n
    if s.on ⟨AUX_CFG, 1, 1⟩ then
      { s2 with aux := { s2.aux with infoFrame := infoFrame (s.bits AUX_SDP_OUI 23 0) n (t % 10 ^ 9) (t / 10 ^ 9) s.auxView } }
    else s2

/-- The output pixel (X, Y) of the running DisplayPort frame: three 8-bit components. -/
def State.dpPixel (s : State) (px py : Nat) : List Nat :=
  let k := max 1 (s.bits AUX_CFG 18 16)
  let ox := s.bits AUX_ORIGIN 13 0
  let oy := s.bits AUX_ORIGIN 29 16
  match s.aux.views.head? with
  | some v => match v.find roleScan with
    | some j =>
      if decide (ox ≤ px ∧ px < ox + s.geomW * k ∧ oy ≤ py ∧ py < oy + s.geomH * k)
          && !s.aux.blank.any (fun b => b.1 == py && decide (b.2 ≤ px)) then
        let w := s.memNat (s.copyPixel 0 j ((px - ox) / k) ((py - oy) / k)) 4
        (List.range 3).map (fun c => min ((bitsOf w (10 * c + 9) (10 * c) + 2) / 4) 255)
      else [0, 0, 0]
    | none => [0, 0, 0]
  | none => [0, 0, 0]

/-- Scanout data of line `y` is late from column `x` on: the rest of the line is black, counted, source 386. -/
def dpUnderrun (y x : Nat) (s : State) : State :=
  if !s.on auxScanning then s
  else (State.count { s with aux := { s.aux with blank := (y, x) :: s.aux.blank } } AUX_UNDERRUN_CNT).raise 386 0

end Sys2Proof.Machine
end

