-- ==== Sys2Proof/Machine/Overlay.lean ====
section
/-!
DEFINITION. The verified overlay (R190 to R195): telemetry, field states, rendering.
-/

namespace Sys2Proof.Machine

/-- The overlay description of the active image. -/
def State.ovlDesc (s : State) : List Byte := polOvl s.polSec

/-- CMP_OVL_STATUS.ACTIVE: the description holds a field or a static tile (R190). -/
def State.ovlActive (s : State) : Bool := s.on CMP_OVL_STATUS_ACTIVE

/-- States of a field (R193). -/
abbrev fsNever : Nat := 0
abbrev fsOk : Nat := 1
abbrev fsStale : Nat := 2
abbrev fsRepeated : Nat := 3
abbrev fsCheckFail : Nat := 4
abbrev fsOver : Nat := 5

def fieldHatched (st : Nat) : Bool := st != fsOk && st != fsOver

/-- Bytes of a value of a TYPE. -/
def fieldBytes (typ : Nat) : Nat := if typ < 2 then 2 else 4

/-- The raw value of a field in a payload; none where the payload is too short. -/
def OvlField.raw (f : OvlField) (p : List Byte) : Option Int :=
  let n := fieldBytes f.typ
  if p.length < f.off + n then none
  else some (if f.typ % 2 = 1 then signedOf (8 * n) (leAt p f.off n) else (leAt p f.off n : Int))

/-- The value v of R194. -/
def OvlField.value (f : OvlField) (raw : Int) : Int := raw * f.mul / (2 ^ f.shift : Nat)

/-- |v| exceeds the digits. -/
def OvlField.over (f : OvlField) (raw : Int) : Bool := decide (10 ^ f.digits - 1 < (f.value raw).natAbs)

/-- State and raw value of a field at PTP time `now` in ns: the first condition of R193 that holds. -/
def fieldEval (f : OvlField) (t : Telem) (now : Nat) : Nat × Int :=
  let raw := match t.payload with | some p => f.raw p | none => some 0
  let v := raw.getD 0
  match t.result with
  | none => (fsNever, v)
  | some r =>
    if r = 1 ∨ raw.isNone then (fsCheckFail, v)
    else if r = 2 then (fsRepeated, v)
    else if 1000000 * f.maxAge ≤ now - t.at_ then (fsStale, v)
    else if f.over v then (fsOver, v) else (fsOk, v)

/-- Characters of a field's text: 0 to 9, 10 '-', 11 '.', 12 space. -/
def OvlField.text (f : OvlField) (st : Nat) (raw : Int) : List Nat :=
  let v := f.value raw
  let digit (i : Nat) : Nat :=   -- the digit of weight 10^i
    if st = fsOver then 10
    else if f.dp < i ∧ v.natAbs < 10 ^ i then 12
    else v.natAbs / 10 ^ i % 10
  let ds := (List.range f.digits).reverse.map digit
  (if v < 0 then 10 else 12) :: (if f.dp = 0 then ds else ds.take (f.digits - f.dp) ++ 11 :: ds.drop (f.digits - f.dp))

/-- Show a field's state code (R193). -/
def State.fieldState (s : State) (f : Nat) : Nat := s.get ⟨CMP_OVL_STATE (f / 8), 4 * (f % 8) + 3, 4 * (f % 8)⟩

/-- A field takes a state and a raw value: sources 261 and 262, the trigger and the release of WAIT holds (R195). -/
def State.setField (s : State) (f st : Nat) (raw : Int) : State :=
  let fd := ovlField s.ovlDesc f
  let old := s.fieldState f
  let shown := st != old || (!fieldHatched st && fd.text st raw != fd.text old (s.ovl.values.getD f 0))
  let s1 := s.put ⟨CMP_OVL_STATE (f / 8), 4 * (f % 8) + 3, 4 * (f % 8)⟩ st
  let s2 := { s1 with ovl := { s1.ovl with
    values := s1.ovl.values.set f raw, changed := s1.ovl.changed || shown
    hatched := s1.ovl.hatched || (!fieldHatched old && fieldHatched st) } }
  if st = old then s2
  else if fieldHatched st then s2.raiseMask 261 (2 ^ f)
  else if fieldHatched old then s2.raiseMask 262 (2 ^ f) else s2

/-- Evaluate field f at PTP time `now`. -/
def State.evalField (now : Nat) (s : State) (f : Nat) : State :=
  let fd := ovlField s.ovlDesc f
  let r := fieldEval fd (s.ovl.ctx.getD fd.ctx ⟨none, none, 0⟩) now
  s.setField f r.1 r.2

/-- Microseconds since the last passing message of each context that has one. -/
def State.showAges (s : State) : State :=
  (List.range 16).foldl (fun st t => match (s.ovl.ctx.getD t ⟨none, none, 0⟩).payload with
    | some _ => st.wrN (CMP_OVL_AGE t) (min ((s.ptpAtEnd - (s.ovl.ctx.getD t ⟨none, none, 0⟩).at_) / 1000) 0xFFFFFF)
    | none => st) s

/-- State and raw value of every field. -/
def State.fieldVals (s : State) : List (Nat × Int) :=
  (List.range (ovlFields s.ovlDesc)).map (fun f => (s.fieldState f, s.ovl.values.getD f 0))

/-- The end of a tick gives each field its state (R193); frames that start from then on draw it, and its changes are
triggers and end WAIT holds (R194, R195). -/
def State.evalOverlay (s : State) : State :=
  let s1 := ((List.range (ovlFields s.ovlDesc)).foldl (State.evalField s.ptpAtEnd) s).showAges
  { s1 with ovl := { s1.ovl with trigger := s1.ovl.trigger || s1.ovl.changed, release := s1.ovl.release || s1.ovl.hatched
                                 changed := false, hatched := false, atEnd := s1.fieldVals } }

/-- A field's last passing message ages beyond MAX_AGE_MS within this tick: the field goes STALE. -/
def overlayFieldStale (f : Nat) (s : State) : State :=
  if f < ovlFields s.ovlDesc then
    let fd := ovlField s.ovlDesc f
    let r := fieldEval fd (s.ovl.ctx.getD fd.ctx ⟨none, none, 0⟩) s.ptpAtEnd
    if r.1 = fsStale then s.setField f r.1 r.2 else s
  else s

/-- A telemetry message of context t with its check result and arrival time (R192). -/
def State.telemetry (s : State) (t : Nat) (payload : List Byte) (failed repeated : Bool) (arrival : Nat) : State :=
  let s1 := s.count CMP_OVL_MSG_CNT
  let c := s.ovl.ctx.getD t ⟨none, none, 0⟩
  let c' : Telem := if failed then { c with result := some 1 } else if repeated then { c with result := some 2 }
    else { result := some 0, payload := some payload, at_ := arrival }
  let s2 := { s1 with ovl := { s1.ovl with ctx := s1.ovl.ctx.set t c' } }
  if failed || repeated then (s2.count CMP_OVL_BAD_CNT).raiseOnce 263 0 else s2

/-! ## Rendering (R194) -/

/-- A sample of 40 bits (R62). -/
def mkSample (r g b a : Nat) : Nat := r + 2 ^ 10 * g + 2 ^ 20 * b + 2 ^ 30 * a

/-- The sample of a field at hogel (x, y) of its rectangle. -/
def fieldSample (d : List Byte) (f : OvlField) (st : Nat) (txt : List Nat) (x y : Nat) : Nat :=
  if fieldHatched st then (if (x + y) / 8 % 2 = 1 then mkSample 1023 1023 0 1023 else mkSample 0 0 0 1023)
  else
    let cw := ovlGw d * f.scale
    let ch := ovlGh d * f.scale
    let left := f.x + f.w - f.cells * cw
    let top := f.y + (f.h - ch) / 2
    if left ≤ x ∧ top ≤ y ∧ y < top + ch then
      let g := txt.getD ((x - left) / cw) 12
      let bitSet := g < 12 && bitAt (leAt d (leAt d 0x0C 4 + 4 * (g * ovlGh d + (y - top) / f.scale)) 4) ((x - left) % cw / f.scale)
      if bitSet then f.fg else f.bg
    else f.bg

/-- A field to draw: its record, state and text. -/
abbrev Drawn := OvlField × Nat × List Nat

/-- Sample at hogel (x, y): the highest-numbered field there, else the static tile's. -/
def overlaySample (d : List Byte) (fields : List Drawn) (static : Option Nat) (x y n : Nat) : Nat :=
  match fields.reverse.find? (fun e => decide (e.1.x ≤ x ∧ x < e.1.x + e.1.w ∧ e.1.y ≤ y ∧ y < e.1.y + e.1.h)) with
  | some e => fieldSample d e.1 e.2.1 e.2.2 x y
  | none => match static with | some o => leAt d (o + 5 * n) 5 | none => 0

/-- The overlay plane for field states and raw values: tiles with their 5,120 bytes. -/
def renderOverlay (d : List Byte) (vals : List (Nat × Int)) : List (Nat × Nat × List Byte) :=
  let fields : List Drawn := (List.range (ovlFields d)).map (fun f =>
    let v := vals.getD f (fsNever, 0)
    (ovlField d f, v.1, (ovlField d f).text v.1 v.2))
  let statics := (List.range (ovlStatics d)).map (ovlStatic d)
  (ovlTiles d).map (fun t =>
    let st := (statics.find? (fun e => e.1 == t.1 && e.2.1 == t.2)).map (fun e => e.2.2)
    (t.1, t.2, (List.range 1024).flatMap (fun n => leBytes 5 (overlaySample d fields st (32 * t.1 + n % 32) (32 * t.2 + n / 32) n))))

/-- Slots of the overlay: three sets of 128 in the first 384 of the composition pool, used in turn. -/
def State.ovlSlot (s : State) (turn i : Nat) : Nat := s.bits CMP_CPOOL_BASE 20 0 + 128 * turn + i

/-- Render at a frame start: the plane, its changed tiles, and the counters. -/
def State.renderFrame (s : State) (vals : List (Nat × Int)) : State × Option DirPlane × List (Nat × Nat × Int) :=
  if !s.ovlActive then (s, none, [])
  else
    let d := s.ovlDesc
    let tiles := renderOverlay d vals
    let turn := (s.ovl.turn + 1) % 3
    let ix := (List.range tiles.length).zip tiles
    let s1 := ix.foldl (fun st e => st.memWrite 5 (st.slotAddr (st.ovlSlot turn e.1)) e.2.2.2) s
    let changed := tiles.filter (fun t => !s.ovl.shown.contains t)
    let hatched := (vals.filter (fun v => fieldHatched v.1)).length
    let s2 := ((s1.put CMP_OVL_STATUS_HATCHED hatched).put CMP_OVL_STATUS_TILES tiles.length).countN CMP_OVL_HATCH_CNT hatched
    ({ s2 with ovl := { s2.ovl with shown := tiles, turn := turn, trigger := false, release := false } },
     some { src := .overlay, disp := ovlDisp d, tiles := ix.map (fun e => (e.2.1, e.2.2.1, s.ovlSlot turn e.1)) },
     changed.map (fun t => (t.1, t.2.1, ovlDisp d)))

end Sys2Proof.Machine
end

