-- ==== Sys2Proof/Machine/Sampler.lean ====
section
/-!
DEFINITION. The sampler's arithmetic (R65, R130 to R134): sample positions, taps, and compositing.
-/

namespace Sys2Proof.Machine

/-- The slot of a present tile of a directory plane. -/
def DirPlane.slot (p : DirPlane) (c r : Nat) : Option Nat := (p.tiles.find? (fun t => t.1 == c && t.2.1 == r)).map (fun t => t.2.2)

/-- Components R, G, B, A of a 40-bit sample (R62). -/
def sampleParts (v : Nat) : List Nat := [bitsOf v 9 0, bitsOf v 19 10, bitsOf v 29 20, bitsOf v 39 30]

/-- Address of the stored sample at (x, y), where the plane has a tile there. -/
def State.tapAddr (s : State) (p : DirPlane) (x y : Int) : Option Nat :=
  if 0 ≤ x ∧ x < s.geomW ∧ 0 ≤ y ∧ y < s.geomH then
    let x := x.toNat
    let y := y.toNat
    (p.slot (x / 32) (y / 32)).map (fun q => s.slotAddr q + 5 * (32 * (y % 32) + x % 32))
  else none

/-- t(x, y): the stored sample, or zeros where there is none or its word is poisoned (R65, R116). -/
def State.tap (s : State) (p : DirPlane) (x y : Int) : List Nat :=
  match s.tapAddr p x y with
  | some a => if s.poisonedIn a 5 then [0, 0, 0, 0] else sampleParts (s.memNat a 5)
  | none => [0, 0, 0, 0]

/-- A tap lies in a poisoned word. -/
def State.tapPoisoned (s : State) (p : DirPlane) (x y : Int) : Bool :=
  match s.tapAddr p x y with
  | some a => s.poisonedIn a 5
  | none => false

/-- Sample position in units of 1/256 hogel (R130). -/
def samplePos (x y u v d : Int) : Int × Int := (256 * x + (u * d + 16384) / 32768, 256 * y + (v * d + 16384) / 32768)

/-- The four bilinear taps of a position. -/
def tapsOf (q : Int × Int) : List (Int × Int) :=
  let x0 := q.1 / 256
  let y0 := q.2 / 256
  [(x0, y0), (x0 + 1, y0), (x0, y0 + 1), (x0 + 1, y0 + 1)]

/-- Weights of the four taps (R131). -/
def tapWeights (q : Int × Int) : List Nat :=
  let fx := (q.1 % 256).toNat
  let fy := (q.2 % 256).toNat
  [(256 - fx) * (256 - fy), fx * (256 - fy), (256 - fx) * fy, fx * fy]

/-- Bilinear sample at a position (R131). -/
def State.bilinear (s : State) (p : DirPlane) (q : Int × Int) : List Nat :=
  let ts := (tapsOf q).map (fun t => s.tap p t.1 t.2)
  (List.range 4).map (fun m => (((tapWeights q).zip ts).foldl (fun a e => a + e.1 * e.2.getD m 0) 32768) / 65536)

/-- The single tap of the nearest-tap rule (R131). -/
def nearestTap (q : Int × Int) : Int × Int := ((q.1 + 128) / 256, (q.2 + 128) / 256)

/-- One accumulator: C_R, C_G, C_B, A_acc. -/
abbrev Accum := List Nat

/-- Composite a sample behind an accumulator; true when the lane terminates (R132, R133). -/
def compositeBehind (acc : Accum) (smp : List Nat) : Accum × Bool :=
  let t := 65536 - acc.getD 3 0
  let c := (List.range 3).map (fun m => min (acc.getD m 0 + t * smp.getD m 0) 67043328)
  let a10 := smp.getD 3 0 + smp.getD 3 0 / 512
  let a := 65536 - (t * (1024 - a10) + 512) / 1024
  (c ++ [a], decide (65472 ≤ a))

end Sys2Proof.Machine
end

