-- ==== Sys2Proof/Machine/Composer.lean ====
section
/-!
DEFINITION. Layers and commits (R182 to R189, R196 to R198, R201 to R205): conversion, scaling, preparation, fences,
writeback and offscreen compositions.
-/

namespace Sys2Proof.Machine

/-! ## The words of a layer (R182, R206) -/

def LayerPlane.word (l : LayerPlane) (i : Nat) : Nat := (l.regs.getD i 0).toNat
def LayerPlane.en (l : LayerPlane) : Bool := bitAt (l.word 0) 0
def LayerPlane.fenceEn (l : LayerPlane) : Bool := bitAt (l.word 0) 1
/-- MODE: 0 WAIT, 1 HOLD, 2 DROP; 3 is taken as HOLD. -/
def LayerPlane.mode (l : LayerPlane) : Nat := if bitsOf (l.word 0) 3 2 = 3 then 1 else bitsOf (l.word 0) 3 2
def LayerPlane.fmt (l : LayerPlane) : Nat := bitsOf (l.word 0) 7 4
def LayerPlane.mtx (l : LayerPlane) : Nat := bitsOf (l.word 0) 9 8
def LayerPlane.lut (l : LayerPlane) : Nat := bitsOf (l.word 0) 11 10
def LayerPlane.lin (l : LayerPlane) : Bool := bitAt (l.word 0) 12
def LayerPlane.premul (l : LayerPlane) : Bool := bitAt (l.word 0) 13
def LayerPlane.kernel (l : LayerPlane) : Nat := bitsOf (l.word 0) 15 14
def LayerPlane.ga (l : LayerPlane) : Nat := min (bitsOf (l.word 0) 26 16) 1024
def LayerPlane.addr (l : LayerPlane) : Nat := l.word 1 + 2 ^ 32 * (l.word 2 % 16)
def LayerPlane.caddr (l : LayerPlane) : Nat := l.word 3 + 2 ^ 32 * (l.word 4 % 16)
def LayerPlane.pitch (l : LayerPlane) : Nat := l.word 5 % 65536
def LayerPlane.cpitch (l : LayerPlane) : Nat := l.word 5 / 65536
def LayerPlane.bw (l : LayerPlane) : Nat := bitsOf (l.word 6) 13 0
def LayerPlane.bh (l : LayerPlane) : Nat := bitsOf (l.word 6) 29 16
def LayerPlane.sx (l : LayerPlane) : Nat := bitsOf (l.word 7) 13 0
def LayerPlane.sy (l : LayerPlane) : Nat := bitsOf (l.word 7) 29 16
def LayerPlane.sw (l : LayerPlane) : Nat := bitsOf (l.word 8) 13 0
def LayerPlane.sh (l : LayerPlane) : Nat := bitsOf (l.word 8) 29 16
def LayerPlane.dx (l : LayerPlane) : Int := signedOf 16 (l.word 9)
def LayerPlane.dy (l : LayerPlane) : Int := signedOf 16 (l.word 9 / 65536)
def LayerPlane.dw (l : LayerPlane) : Nat := bitsOf (l.word 10) 11 0
def LayerPlane.dh (l : LayerPlane) : Nat := bitsOf (l.word 10) 26 16
def LayerPlane.disp (l : LayerPlane) : Int := signedOf 16 (l.word 11)

def LayerPlane.scaled (l : LayerPlane) : Bool := l.sw != l.dw || l.sh != l.dh

/-- Formats (R183). -/
def fmtYuv (f : Nat) : Bool := decide (4 ≤ f)
/-- Bytes of a pixel, or of a component of a YUV plane. -/
def fmtBytes (f : Nat) : Nat := if f < 3 then 4 else if f = 3 then 5 else if f % 2 = 0 then 1 else 2
def fmtSubX (f : Nat) : Nat := if 4 ≤ f ∧ f ≤ 7 then 2 else 1
def fmtSubY (f : Nat) : Nat := if f = 4 ∨ f = 5 then 2 else 1

/-- Rows of the chroma plane. -/
def LayerPlane.crows (l : LayerPlane) : Nat := ceilDiv l.bh (fmtSubY l.fmt)

/-- Planes of the buffer: address and length. -/
def LayerPlane.extents (l : LayerPlane) : List (Nat × Nat) :=
  (l.addr, l.pitch * l.bh) :: (if fmtYuv l.fmt then [(l.caddr, l.cpitch * l.crows)] else [])

/-- Pages of the buffer (R197). -/
def LayerPlane.pages (l : LayerPlane) : List (Nat × Nat) := l.extents.map (fun e => pagesOf e.1 e.2)

/-! ## Conversion (R184, R185) -/

def State.convBase (s : State) : Nat := s.addr36 CMP_CONV_LO CMP_CONV_HI

def widen8 (v : Nat) : Nat := v * 4 + v / 64

/-- Word `i` of matrix n, signed. -/
def State.convMtx (s : State) (n i : Nat) : Int := signedOf 16 (s.memNat (s.convBase + 32 * n + 2 * i) 2)
/-- Entry of table n; larger values are taken as 1,023. -/
def State.convLut (s : State) (n i : Nat) : Nat := min (s.memNat (s.convBase + 0x100 + 2048 * n + 2 * i) 2) 1023
/-- Entry of kernel n. -/
def State.convKernel (s : State) (n i : Nat) : Int := signedOf 16 (s.memNat (s.convBase + 0x2100 + 1024 * n + 2 * i) 2)

/-- A component of a YUV plane at byte address `a`, in 10 bits. -/
def State.yuvComp (s : State) (fmt a : Nat) : Int := if fmt % 2 = 0 then widen8 (s.memNat a 1) else (s.memNat a 2 / 64 : Nat)

/-- R, G, B and A in 10 bits of a non-YUV pixel word, and of a YUV pixel through its matrix. -/
def State.pixelIn (s : State) (l : LayerPlane) (x y : Nat) : List Nat :=
  let b := fmtBytes l.fmt
  if fmtYuv l.fmt then
    let ca := l.caddr + l.cpitch * (y / fmtSubY l.fmt) + 2 * b * (x / fmtSubX l.fmt)
    let m := s.convMtx l.mtx
    let yo : Int := s.memNat (s.convBase + 32 * l.mtx + 18) 2
    let co : Int := s.memNat (s.convBase + 32 * l.mtx + 20) 2
    let dy := s.yuvComp l.fmt (l.addr + l.pitch * y + b * x) - yo
    let db := s.yuvComp l.fmt ca - co
    let dr := s.yuvComp l.fmt (ca + b) - co
    (List.range 3).map (fun k =>
      (clampInt 0 1023 ((m (3 * k) * dy + m (3 * k + 1) * db + m (3 * k + 2) * dr + 4096) / 8192)).toNat) ++ [1023]
  else
    let v := s.memNat (l.addr + l.pitch * y + b * x) b
    if l.fmt = 3 then sampleParts v
    else if l.fmt = 2 then [bitsOf v 9 0, bitsOf v 19 10, bitsOf v 29 20, 341 * bitsOf v 31 30]
    else [widen8 (bitsOf v 7 0), widen8 (bitsOf v 15 8), widen8 (bitsOf v 23 16), if l.fmt = 1 then 1023 else widen8 (bitsOf v 31 24)]

/-- The premultiplied sample of source pixel (x, y) (R184). -/
def State.srcSample (s : State) (l : LayerPlane) (x y : Nat) : List Nat :=
  let p := s.pixelIn l x y
  let scale (v : Nat) : Nat := (v * l.ga + 512) / 1024
  if l.fmt = 3 then p.map scale
  else
    let a2 := scale (p.getD 3 0)
    (List.range 3).map (fun k =>
      let lin := if l.lin then p.getD k 0 else s.convLut l.lut (p.getD k 0)
      if l.premul then scale lin else (1025 * (lin * a2) + 524288) / 2 ^ 20) ++ [a2]

/-! ## Scaling (R186, R187) -/

/-- Source positions of output j of an axis, clamped to the crop, with the kernel index of each. -/
def axisTaps (sz d j : Nat) : List (Nat × Nat) :=
  let rq : Int := max 65536 (65536 * sz / d : Nat)
  let y : Int := (32768 * ((2 * j + 1) * sz) / d : Nat)
  let lo : Int := -((-(y - 32768 - 4 * rq)) / 65536)
  let hi : Int := -((-(y - 32768 + 4 * rq)) / 65536)
  (List.range (hi - lo).toNat).map (fun (k : Nat) =>
    let l : Int := lo + k
    ((clampInt 0 ((sz : Int) - 1) l).toNat, ((65536 * l + 32768 - y) * 64 / rq + 256).toNat))

/-- One pass of R187 for one component. -/
def axisPass (ktab : Nat → Int) (sz d j : Nat) (src : Nat → Nat) : Nat :=
  if sz = d then src j
  else
    let r := (axisTaps sz d j).foldl (fun (a : Int × Int) t => let w := ktab t.2; (a.1 + w * (src t.1 : Nat), a.2 + w)) (0, 0)
    if 0 < r.2 then (clampInt 0 1023 ((2 * r.1 + r.2) / (2 * r.2))).toNat else 0

/-- The layer's sample at hogel (x, y): zeros outside its destination. -/
def State.layerSample (s : State) (l : LayerPlane) (x y : Nat) : Nat :=
  let jx := (x : Int) - l.dx
  let jy := (y : Int) - l.dy
  if 0 ≤ jx ∧ jx < l.dw ∧ 0 ≤ jy ∧ jy < l.dh then
    let k := s.convKernel l.kernel
    let c (m : Nat) : Nat := axisPass k l.sw l.dw jx.toNat (fun col =>
      axisPass k l.sh l.dh jy.toNat (fun row => (s.srcSample l (l.sx + col) (l.sy + row)).getD m 0))
    mkSample (c 0) (c 1) (c 2) (c 3)
  else 0

/-! ## Tiles and damage (R186, R189) -/

/-- The part of [lo, lo+n) inside [0, m). -/
def clipAxis (lo : Int) (n m : Nat) : Nat × Nat := ((clampInt 0 m lo).toNat, (clampInt 0 m (lo + n)).toNat)

/-- Tiles that a rectangle of signed hogels touches on the panel. -/
def State.tilesIn (s : State) (x : Int) (w : Nat) (y : Int) (h : Nat) : List (Nat × Nat) :=
  let cx := clipAxis x w s.geomW
  let cy := clipAxis y h s.geomH
  tilesTouched cx.1 cy.1 (cx.2 - cx.1) (cy.2 - cy.1)

/-- Tiles of the layer plane. -/
def State.layerTiles (s : State) (l : LayerPlane) : List (Nat × Nat) := s.tilesIn l.dx l.dw l.dy l.dh

/-- What must be equal for the source damage to hold: buffer address, FMT, crop, destination, GA, PREMUL, LIN and the
tables selected. -/
def LayerPlane.key (l : LayerPlane) : List Nat := [bitsOf (l.word 0) 26 4, l.addr, l.caddr, l.word 7, l.word 8, l.word 9, l.word 10]

/-- Changed part of an axis from source damage [a, b) (R189): start and length within the destination. -/
def changedAxis (sz d s0 : Nat) (a b : Int) : Int × Nat :=
  let k : Int := if sz = d then 0 else ((4 * max sz d + d - 1) / d : Nat)
  let d0 := (a - s0 - k) * d / sz
  let d1 := -((-((b - s0 + k) * d)) / sz)
  let lo := max d0 0
  (lo, (min d1 d - lo).toNat)

/-- Tiles that the source damage of the commit touches. -/
def State.damagedTiles (s : State) (l : LayerPlane) : List (Nat × Nat) :=
  let ax := bitsOf (l.word 12) 13 0
  let ay := bitsOf (l.word 12) 29 16
  let w := bitsOf (l.word 13) 13 0
  let h := bitsOf (l.word 13) 29 16
  if w = 0 ∨ h = 0 then []
  else
    let cx := changedAxis l.sw l.dw l.sx ax (ax + w)
    let cy := changedAxis l.sh l.dh l.sy ay (ay + h)
    s.tilesIn (l.dx + cx.1) cx.2 (l.dy + cy.1) cy.2

/-! ## Checks (R188, R196) -/

/-- A plane of W × H pixels of 4 bytes at an address with a pitch lies as R204 asks. -/
def State.imageOk (s : State) (addr pitch : Nat) : Bool :=
  addr % 65536 == 0 && pitch % 64 == 0 && decide (4 * s.geomW ≤ pitch) && s.inRegion 0 addr (pitch * s.geomH)

/-- Buffer n of the writeback registers of a commit. -/
def Commit.wbAddr (c : Commit) (n : Nat) : Nat := (c.wb.getD (2 + 2 * n) 0).toNat + 2 ^ 32 * ((c.wb.getD (3 + 2 * n) 0).toNat % 16)
def Commit.wbPitch (c : Commit) : Nat := (c.wb.getD 1 0).toNat
def Commit.wbEn (c : Commit) : Bool := bitAt (c.wb.getD 0 0).toNat 0
def Commit.wbView (c : Commit) : Nat := min (bitsOf (c.wb.getD 0 0).toNat 15 8) 143
def Commit.wbCount (c : Commit) : Nat := bitsOf (c.wb.getD 0 0).toNat 17 16 + 1
def Commit.ofsAddr (c : Commit) : Nat := (c.ofs.getD 0 0).toNat + 2 ^ 32 * ((c.ofs.getD 1 0).toNat % 16)
def Commit.ofsPitch (c : Commit) : Nat := (c.ofs.getD 2 0).toNat
def Commit.streams (c : Commit) : Nat := c.cfg.toNat % 256
def Commit.triggers (c : Commit) : Nat := c.cfg.toNat / 256 % 256
def Commit.layer (c : Commit) (l : Nat) : LayerPlane := c.layers.getD l ⟨[], false, false, false, none, []⟩
def Commit.setLayer (c : Commit) (l : Nat) (f : LayerPlane → LayerPlane) : Commit := { c with layers := c.layers.modify l f }

/-- Commit-level checks. -/
def State.commitCheck (s : State) (c : Commit) (offscreen : Bool) : Option Nat :=
  if offscreen then (if s.imageOk c.ofsAddr c.ofsPitch then none else some 0x0D)
  else if c.minNs < polMinNs s.polSec ∨ polMaxNs s.polSec < c.maxNs ∨ c.maxNs < c.minNs then some 0x0C
  else if c.wbEn && !(List.range c.wbCount).all (fun n => s.imageOk (c.wbAddr n) c.wbPitch) then some 0x0D
  else if (List.range 8).any (fun i => bitAt c.streams i && !(s.stream i).active) then some 0x0E
  else none

/-- The crop is empty, outside the buffer or misaligned, or the pitch is too small. -/
def LayerPlane.cropBad (l : LayerPlane) : Bool :=
  let ux := fmtSubX l.fmt
  let uy := fmtSubY l.fmt
  decide (l.sw = 0 ∨ l.sh = 0 ∨ l.bw < l.sx + l.sw ∨ l.bh < l.sy + l.sh)
    || decide (l.sx % ux ≠ 0 ∨ l.sw % ux ≠ 0 ∨ l.sy % uy ≠ 0 ∨ l.sh % uy ≠ 0)
    || decide (l.pitch < l.bw * fmtBytes l.fmt) || (fmtYuv l.fmt && decide (l.cpitch < ceilDiv l.bw ux * 2 * fmtBytes l.fmt))

/-- Checks of an enabled layer, in the order of the codes; `rank` counts the scaled layers below it. -/
def State.layerCheck (s : State) (l : LayerPlane) (rank : Nat) : Option Nat :=
  if 9 < l.fmt then some 0x02
  else if l.addr % 65536 ≠ 0 ∨ l.pitch % 64 ≠ 0 ∨ (fmtYuv l.fmt ∧ (l.caddr % 65536 ≠ 0 ∨ l.cpitch % 64 ≠ 0)) then some 0x03
  else if !l.extents.all (fun e => s.inRegion 0 e.1 e.2) then some 0x04
  else if l.cropBad then some 0x05
  else if l.dw = 0 ∨ l.dh = 0 ∨ s.geomW < l.dw ∨ s.geomH < l.dh then some 0x06
  else if !l.scaled then none
  else if 8 ≤ rank then some 0x07
  else if 8 * l.dh < l.sh ∨ 8 * l.dw < l.sw then some 0x08
  else if 393216 < max 8 (ceilDiv (8 * l.sh) l.dh) * l.sw * 5 then some 0x09
  else none

/-- Scaled enabled layers below layer l. -/
def Commit.scaledBelow (c : Commit) (l : Nat) : Nat := ((List.range l).filter (fun k => (c.layer k).en && (c.layer k).scaled)).length

/-- The first failing layer with its code. -/
def State.layersCheck (s : State) (c : Commit) : Option (Nat × Nat) :=
  (List.range 24).findSome? (fun l => if (c.layer l).en then (s.layerCheck (c.layer l) (c.scaledBelow l)).map (fun e => (e, l)) else none)

/-! ## Rasterisation -/

/-- Slots that the composition buffers hold. -/
def Commit.slots (c : Commit) : List Nat := c.layers.flatMap (fun l => l.tiles.map (fun t => t.2.2))
def State.usedSlots (s : State) : List Nat :=
  ([s.cmp.prep, s.cmp.ofs, s.cmp.arrived, s.cmp.gated, s.cmp.ready, s.cmp.current].flatMap (fun c => match c with
      | some k => k.slots | none => []))
    ++ s.ehl.commitsIn.flatMap Commit.slots
    ++ s.cmp.shown.flatMap (fun l => match l with | some k => k.tiles.map (fun t => t.2.2) | none => [])

/-- Slots of the pool for layer tiles. -/
def State.layerSlots (s : State) : List Nat := rangeFrom (s.bits CMP_CPOOL_BASE 20 0 + 384) (s.bits CMP_CPOOL_SIZE 20 0 - 384)

/-- The lowest free slot that is not in `used` and not protected. -/
def State.freeSlot (s : State) (used : List Nat) : Option Nat := s.layerSlots.find? (fun q => !used.contains q && !s.slotProtected q)

/-- Show the number of free slots. -/
def State.showPool (s : State) : State :=
  s.wrN CMP_CPOOL_FREE (s.layerSlots.length - (dedup s.usedSlots).length)

/-- First and last source position that outputs [j, j+n) of an axis read. -/
def axisSpan (sz d j n : Nat) : Nat × Nat :=
  let ps := (rangeFrom j n).flatMap (fun k => if sz = d then [k] else (axisTaps sz d k).map (fun t => t.1))
  (ps.foldl min (sz - 1), ps.foldl max 0)

/-- The rasterisation of tile (c, r) reads a poisoned word of the layer buffer. -/
def State.tilePoisoned (s : State) (l : LayerPlane) (t : Nat × Nat) : Bool :=
  let x0 := max l.dx (32 * t.1)
  let x1 := min (l.dx + l.dw) (32 * t.1 + 32)
  let y0 := max l.dy (32 * t.2)
  let y1 := min (l.dy + l.dh) (32 * t.2 + 32)
  let h := axisSpan l.sw l.dw (x0 - l.dx).toNat (x1 - x0).toNat
  let v := axisSpan l.sh l.dh (y0 - l.dy).toNat (y1 - y0).toNat
  let b := fmtBytes l.fmt
  let ux := fmtSubX l.fmt
  let uy := fmtSubY l.fmt
  (rangeFrom v.1 (v.2 + 1 - v.1)).any (fun row =>
    let y := l.sy + row
    s.poisonedIn (l.addr + l.pitch * y + b * (l.sx + h.1)) (b * (h.2 + 1 - h.1))
      || (fmtYuv l.fmt && s.poisonedIn (l.caddr + l.cpitch * (y / uy) + 2 * b * ((l.sx + h.1) / ux))
          (2 * b * ((l.sx + h.2) / ux + 1 - (l.sx + h.1) / ux))))

/-- The conversion-block parts that the layer uses hold a poisoned word. -/
def State.convPoisoned (s : State) (l : LayerPlane) : Bool :=
  (fmtYuv l.fmt && s.poisonedIn (s.convBase + 32 * l.mtx) 22)
    || (!l.lin && l.fmt != 3 && s.poisonedIn (s.convBase + 0x100 + 2048 * l.lut) 2048)
    || (l.scaled && s.poisonedIn (s.convBase + 0x2100 + 1024 * l.kernel) 1024)

/-- The 5,120 bytes of tile (c, r) of a layer. -/
def State.layerTileBytes (s : State) (l : LayerPlane) (t : Nat × Nat) : List Byte :=
  (List.range 1024).flatMap (fun n => leBytes 5 (s.layerSample l (32 * t.1 + n % 32) (32 * t.2 + n / 32)))

/-- Rasterise one tile into a free slot: the slot, or the code of the failure. -/
def State.rasterTile (s : State) (l : LayerPlane) (used : List Nat) (t : Nat × Nat) : State × (Nat ⊕ Nat) :=
  if s.tilePoisoned l t then (s.notePoisonRead 5, .inr 0x0B)
  else match s.freeSlot used with
    | none => (s, .inr 0x0A)
    | some q => (s.memWrite 5 (s.slotAddr q) (s.layerTileBytes l t), .inl q)

/-- Rasterise tiles into free slots: the tiles with their slots, or the code of the failure. -/
def State.rasterTiles (s : State) (l : LayerPlane) (used : List Nat) :
    List (Nat × Nat) → List (Nat × Nat × Nat) → State × List (Nat × Nat × Nat) × Option Nat
  | [], acc => (s, acc, none)
  | t :: rest, acc =>
    let r := s.rasterTile l (used ++ acc.map (fun a => a.2.2)) t
    match r.2 with
    | .inr code => (r.1, acc, some code)
    | .inl q => r.1.rasterTiles l used rest (acc ++ [(t.1, t.2, q)])

/-- Rasterise a layer against the tiles `base` of the buffer it is prepared against; with none, whole.  The third
answer is a failing code and the layer number it names. -/
def State.rasterLayer (s : State) (n : Nat) (l : LayerPlane) (used : List Nat) (base : Option (List (Nat × Nat × Nat))) :
    State × LayerPlane × Option (Nat × Nat) :=
  let all := s.layerTiles l
  let todo := match base with
    | none => all
    | some b => all.filter (fun t => (s.damagedTiles l).contains t || !b.any (fun e => e.1 == t.1 && e.2.1 == t.2))
  let kept := match base with
    | none => []
    | some b => b.filter (fun e => all.contains (e.1, e.2.1) && !todo.contains (e.1, e.2.1))
  if !todo.isEmpty && s.convPoisoned l then (s.notePoisonRead 5, l, some (0x0B, 31))
  else
    let r := s.rasterTiles l used todo []
    match r.2.2 with
    | some code => (r.1, l, some (code, n))
    | none => (r.1, { l with tiles := kept ++ r.2.1, ready := true }, none)

/-! ## Commits (R196 to R198) -/

/-- Commits not yet latched, superseded or failed. -/
def State.openCommits (s : State) : List Commit := [s.cmp.prep, s.cmp.ofs, s.cmp.arrived, s.cmp.gated, s.cmp.ready].filterMap id

/-- Pages of the layer buffers of those commits, and the conversion block while there is one (R197). -/
def State.showCommitPages (s : State) : State :=
  let l := s.openCommits.flatMap (fun k => (k.layers.filter LayerPlane.en).flatMap LayerPlane.pages)
  let conv := if s.openCommits.isEmpty then [] else [pagesOf s.convBase 16384]
  { s with lease := { s.lease with commitPages := conv ++ l } }

/-- The shadow set as a commit. -/
def State.shadowCommit (s : State) (seq : Nat) : Commit :=
  { seq := seq, cfg := s.rd CMP_FRAME_CFG, minNs := s.rdN CMP_FRAME_MIN_NS, maxNs := s.rdN CMP_FRAME_MAX_NS
    wb := s.rd CMP_WB_CFG :: s.rd CMP_WB_PITCH :: (List.range 4).flatMap (fun n => [s.rd (CMP_WB_ADDR_LO n), s.rd (CMP_WB_ADDR_HI n)])
    ofs := [s.rd CMP_OFS_ADDR_LO, s.rd CMP_OFS_ADDR_HI, s.rd CMP_OFS_PITCH]
    layers := (List.range 24).map (fun l => ⟨(List.range 14).map (fun i => s.rd (CMP_LYR_CTRL l + 4 * i)), false, false, false, none, []⟩)
    since := s.now }

/-- The DISPLAY commits that the device holds, newest first. -/
def State.heldCommits (s : State) : List Commit :=
  [s.cmp.prep, s.cmp.arrived, s.cmp.gated, s.cmp.ready, s.cmp.current].filterMap id

/-- Layer l is pending in some commit. -/
def State.layerPending (s : State) (l : Nat) : Bool := s.heldCommits.any (fun c => (c.layer l).en && (c.layer l).pending)

/-- Show the pending layers. -/
def State.showPending (s : State) : State :=
  s.wrN CMP_LYR_PENDING ((List.range 24).foldl (fun m l => if s.layerPending l then m + 2 ^ l else m) 0)

/-- FENCE_EN makes a layer pending; a later commit that names the same buffer address keeps the state it finds (R201). -/
def State.fenceLayer (s : State) (l : Nat) (lp : LayerPlane) : LayerPlane :=
  if lp.en && lp.fenceEn then
    match s.heldCommits.find? (fun c => (c.layer l).en && (c.layer l).fenceEn && (c.layer l).addr == lp.addr) with
    | some c => { lp with pending := (c.layer l).pending }
    | none => { lp with pending := true }
  else lp

/-- CMP_LID of class DISPLAY: the shadow set becomes a commit, or the write is refused as BUSY (R196). -/
def lidCommit (val : Word) (s : State) : State :=
  let seq := val.toNat % 65536
  if s.cmp.prep.isSome then
    (s.wrN CMP_COMMIT_STATUS (1 + 2 ^ 8 * 31 + 2 ^ 16 * seq)).raiseOnce 257 0
  else
    let c := s.shadowCommit seq
    let c' := { c with layers := (List.range 24).map (fun l => s.fenceLayer l (c.layer l)) }
    let s1 := (List.range 24).foldl (fun st l => st.wrN (CMP_LYR_DMG_WH l) 0) s
    let s2 := (s1.put CMP_LID_STATUS_PREP 1).put CMP_LID_STATUS_SEQ seq
    State.showCommitPages (State.showPending { s2 with cmp := { s2.cmp with prep := some c' } })

/-- The code, layer and SEQ of the last commit. -/
def State.commitResult (s : State) (code layer seq : Nat) : State := s.wrN CMP_COMMIT_STATUS (code + 2 ^ 8 * layer + 2 ^ 16 * seq)

/-- The newest registered commit: what a preparation starts from. -/
def State.newestCommit (s : State) : Option Commit :=
  ((s.cmp.arrived.orElse (fun _ => s.cmp.gated)).orElse (fun _ => s.cmp.ready)).orElse (fun _ => s.cmp.current)

/-- The tiles of layer l of the newest commit, where the source damage is relative to them (R189). -/
def State.baseTiles (s : State) (l : Nat) (lp : LayerPlane) : Option (List (Nat × Nat × Nat)) :=
  match s.newestCommit with
  | some k => let b := k.layer l; if b.en && b.ready && b.key == lp.key then some b.tiles else none
  | none => none

/-- Rasterise layers l, l+1, … of a commit. -/
def State.rasterCommit (s : State) (c : Commit) (offscreen : Bool) : List Nat → State × Commit × Option (Nat × Nat)
  | [] => (s, c, none)
  | l :: rest =>
    let lp := c.layer l
    if !lp.en then s.rasterCommit c offscreen rest
    else if lp.pending then
      let base := (s.baseTiles l lp).getD []
      s.rasterCommit (c.setLayer l (fun k => { k with tiles := base })) offscreen rest
    else
      let r := s.rasterLayer l lp (s.usedSlots ++ c.slots) (if offscreen then none else s.baseTiles l lp)
      match r.2.2 with
      | some e => (r.1, c, some e)
      | none => r.1.rasterCommit (c.setLayer l (fun _ => r.2.1)) offscreen rest

/-- Scalers in ascending layer number (R188). -/
def Commit.assignScalers (c : Commit) : Commit :=
  { c with layers := (List.range 24).map (fun l =>
      let k := c.layer l
      { k with scaler := if k.en && k.scaled then some (c.scaledBelow l) else none }) }

/-- Show the scaler of each layer. -/
def State.showScalers (s : State) (c : Commit) : State :=
  (List.range 24).foldl (fun st l => st.wrN (CMP_LYR_STATUS l) (match (c.layer l).scaler with | some n => n + 8 | none => 0)) s

/-- A commit registers: frames that start from the next tick on can latch it (R200). -/
def State.readyCommit (s : State) (c : Commit) : State :=
  let s1 := if s.cmp.arrived.isSome then s.count CMP_COMMIT_SUPERSEDED else s
  State.showCommitPages { s1 with cmp := { s1.cmp with arrived := some c } }

/-- At the end of a tick the commit registered in it becomes READY, superseding an older READY commit (R198). -/
def State.settleCommit (s : State) : State :=
  match s.cmp.arrived with
  | none => s
  | some c =>
    let s1 := if s.cmp.ready.isSome then s.count CMP_COMMIT_SUPERSEDED else s
    let s2 := (s1.put CMP_LID_STATUS_READY 1).put ⟨CMP_FRAME_SEQ, 31, 16⟩ c.seq
    State.showPool (State.showPending (State.showCommitPages { s2 with cmp := { s2.cmp with arrived := none, ready := some c } }))

/-- A commit for the partner: its shadow set with the layers that are not ready, and the tiles that lie in none of the
slots `old` (R419). -/
def State.commitMsgFrom (s : State) (old : List Nat) (c : Commit) : CommitMsg :=
  { seq := c.seq
    shadow := (CMP_LYR_PENDING, BitVec.ofNat 32 ((List.range 24).foldl (fun m l => if (c.layer l).en && !(c.layer l).ready then m + 2 ^ l else m) 0))
      :: (CMP_FRAME_CFG, c.cfg) :: (CMP_FRAME_MIN_NS, BitVec.ofNat 32 c.minNs) :: (CMP_FRAME_MAX_NS, BitVec.ofNat 32 c.maxNs)
      :: ((List.range 10).map (fun i => (CMP_WB_CFG + 4 * i, c.wb.getD i 0))
        ++ (List.range 24).flatMap (fun l => (List.range 14).map (fun i => (CMP_LYR_CTRL l + 4 * i, (c.layer l).regs.getD i 0))))
    tiles := (List.range 24).flatMap (fun l => ((c.layer l).tiles.filter (fun t => !old.contains t.2.2)).map (fun t =>
      { layer := l, col := t.1, row := t.2.1, bytes := s.memRead (s.slotAddr t.2.2) 5120 })) }

/-- The tiles of a commit that the newest registered one does not share, for the partner (R419). -/
def State.commitMsg (s : State) (c : Commit) : CommitMsg :=
  s.commitMsgFrom (match s.newestCommit with | some k => k.slots | none => []) c

/-- A commit registers: gated where the tree's Lid must release it, else READY (R196, R433). -/
def State.registerCommit (s : State) (c : Commit) : State :=
  let s1 := ((s.commitResult 0 31 c.seq).showScalers c).toPartner (.commit (s.commitMsg c))
  if s.on EHL_CFG_LID_GATE then
    match s1.ehl.lids.find? (fun e => e.1 == c.seq && decide (e.2 < s1.ptpTickEnd)) with
    | some e =>
      let s2 := { s1 with ehl := { s1.ehl with lids := s1.ehl.lids.filter (fun x => x != e), lastLid := c.seq } }
      State.readyCommit (if e.2 < s1.ptpTotalNs then State.raise (State.count s2 EHL_LID_LATE_CNT) 811 0 else s2) c
    | none =>
      let s2 := if s1.cmp.gated.isSome then s1.count CMP_COMMIT_SUPERSEDED else s1
      State.showCommitPages { s2 with cmp := { s2.cmp with gated := some c } }
  else s1.readyCommit c

/-- A commit fails: nothing of it takes effect; source 256 (R196). -/
def State.failCommit (s : State) (c : Commit) (code layer : Nat) : State :=
  (((s.commitResult code layer c.seq).count CMP_COMMIT_FAIL_CNT).raiseOnce 256 0).showPending

/-- The checks have passed, about 2 µs after the commit: its tiles are being rasterised (R196, R206, log entry 74). -/
def State.showRaster (s : State) : State :=
  match s.cmp.prep with
  | some c =>
    if s.get CMP_LID_STATUS_PREP = 1 && decide (c.since + 4000 < s.now + s.tickHalfNs) && (s.commitCheck c false).isNone
        && (s.layersCheck c).isNone then s.put CMP_LID_STATUS_PREP 2
    else s
  | none => s

/-- The preparation of the DISPLAY commit ends (R196). -/
def commitPrepDone (s : State) : State :=
  match s.cmp.prep with
  | none => s
  | some c =>
    let s0 := (s.put CMP_LID_STATUS_PREP 0).wrN CMP_PREP_TIME (s.usSince c.since % 65536)
    let drop (st : State) : State := { st with cmp := { st.cmp with prep := none } }
    let s1 := match s.commitCheck c false with
      | some code => (drop s0).failCommit c code 31
      | none => match s.layersCheck c with
        | some e => (drop s0).failCommit c e.1 e.2
        | none =>
          let r := s0.rasterCommit c.assignScalers false (List.range 24)
          match r.2.2 with
          | some e => (drop r.1).failCommit c e.1 e.2
          | none => (drop r.1).registerCommit r.2.1
    s1.showCommitPages.showPool

/-! ## Late layers (R201) -/

/-- A signalled layer of a commit is no longer pending. -/
def Commit.signal (m : Nat) (c : Commit) : Commit :=
  { c with layers := (List.range 24).map (fun l => if bitAt m l then { c.layer l with pending := false } else c.layer l) }

/-- A write of CMP_LYR_FENCE: bits of layers that are not pending are ignored. -/
def layerFence (val : Word) (s : State) : State :=
  let m := val.toNat % 2 ^ 24 &&& s.rdN CMP_LYR_PENDING
  State.showPending { s with cmp := { s.cmp with
    prep := s.cmp.prep.map (Commit.signal m), arrived := s.cmp.arrived.map (Commit.signal m), gated := s.cmp.gated.map (Commit.signal m), ready := s.cmp.ready.map (Commit.signal m)
    current := s.cmp.current.map (Commit.signal m) } }

/-- The layer is signalled and not yet rasterised. -/
def LayerPlane.waits (l : LayerPlane) : Bool := l.en && !l.pending && !l.ready

/-- Rasterise layer l of a registered commit; a failure leaves it late. -/
def State.rasterLate (s : State) (l : Nat) (c : Commit) : State × Commit :=
  let lp := c.layer l
  if lp.waits then
    let r := s.rasterLayer l lp (s.usedSlots ++ c.slots) (if lp.tiles.isEmpty then none else some lp.tiles)
    if r.2.2.isNone then (r.1, c.setLayer l (fun _ => r.2.1)) else (r.1, c)
  else (s, c)

/-- A signalled layer has been rasterised and is ready. -/
def lateLayerReady (l : Nat) (s : State) : State :=
  let go (st : State) (get : Composer → Option Commit) (put : Composer → Commit → Composer) : State :=
    match get st.cmp with
    | some c =>
      let r := st.rasterLate l c
      let st1 := { r.1 with cmp := put r.1.cmp r.2 }
      if (c.layer l).waits && (r.2.layer l).ready then st1.toPartner (.commit (st.commitMsg r.2)) else st1
    | none => st
  let s1 := go s (fun c => c.current) (fun k c => { k with current := some c })
  let s2 := go s1 (fun c => c.ready) (fun k c => { k with ready := some c })
  let s3 := go s2 (fun c => c.gated) (fun k c => { k with gated := some c })
  (go s3 (fun c => c.arrived) (fun k c => { k with arrived := some c })).showPool

/-! ## Offscreen (R205) -/

/-- CMP_LID of class OFFSCREEN. -/
def lidOffscreen (val : Word) (s : State) : State :=
  let seq := val.toNat % 65536
  if s.cmp.ofs.isSome then (s.commitResult 1 31 seq).raiseOnce 257 0
  else
    let s1 := (s.put CMP_LID_STATUS_OFS_BUSY 1).put ⟨CMP_OFS_STATUS, 1, 0⟩ 1
    State.showCommitPages { s1 with cmp := { s1.cmp with ofs := some (s.shadowCommit seq) } }

/-- Layer planes by decreasing disparity, then layer number (R179). -/
def layerOrder (c : Commit) : List DirPlane :=
  let l := ((List.range 24).filter (fun l => (c.layer l).en)).map (fun l =>
    ({ src := .layer l, disp := (c.layer l).disp, tiles := (c.layer l).tiles } : DirPlane))
  sortBy (fun p => (32768 - p.disp).toNat) l

/-- The offscreen pixel of hogel (x, y). -/
def State.offscreenPixel (s : State) (planes : List DirPlane) (x y : Nat) : Nat :=
  let r := planes.foldl (fun (a : Accum × Bool) p =>
    if a.2 then a else compositeBehind a.1 (s.bilinear p (256 * (x : Int), 256 * (y : Int)))) ([0, 0, 0, 0], false)
  let c (m : Nat) : Nat := min ((r.1.getD m 0 + 32768) / 65536) 1023
  c 0 + 2 ^ 10 * c 1 + 2 ^ 20 * c 2

/-- An offscreen commit that fails (R205). -/
def State.offscreenFail (s : State) (c : Commit) (code layer : Nat) : State :=
  let s1 := (((s.commitResult code layer c.seq).count CMP_COMMIT_FAIL_CNT).put ⟨CMP_OFS_STATUS, 1, 0⟩ 3).put ⟨CMP_OFS_STATUS, 15, 8⟩ code
  s1.raiseOnce 267 0

/-- The rows of the offscreen picture are written, as a DMA writer that the leases judge (R205). -/
def State.offscreenPaint (s : State) (c : Commit) (planes : Commit) : State :=
  let ps := layerOrder planes
  let rows := (List.range s.geomH).map (fun y => (y, (List.range s.geomW).flatMap (fun x => leBytes 4 (s.offscreenPixel ps x y))))
  let s2 := rows.foldl (fun (st : State) (e : Nat × List Byte) => (st.dmaWrite 5 writerAux (c.ofsAddr + c.ofsPitch * e.1) e.2 0).1) s
  (((s2.commitResult 0 31 c.seq).put ⟨CMP_OFS_STATUS, 1, 0⟩ 2).put ⟨CMP_OFS_STATUS, 15, 8⟩ 0).raiseOnce 266 0

/-- No offscreen commit is under way any more. -/
def State.offscreenEnd (s : State) : State :=
  ((State.put { s with cmp := { s.cmp with ofs := none } } CMP_LID_STATUS_OFS_BUSY 0).showCommitPages).showPool

/-- The offscreen composition ends; a pending layer makes it fail with BUSY (R205). -/
def offscreenDone (s : State) : State :=
  match s.cmp.ofs with
  | none => s
  | some c =>
    let s1 := match s.commitCheck c true with
      | some code => s.offscreenFail c code 31
      | none => match s.layersCheck c with
        | some e => s.offscreenFail c e.1 e.2
        | none => if (List.range 24).any (fun l => (c.layer l).en && s.layerPending l) then s.offscreenFail c 1 31 else
          let r := s.rasterCommit c true (List.range 24)
          match r.2.2 with
          | some e => r.1.offscreenFail c e.1 e.2
          | none => r.1.offscreenPaint c r.2.1
    s1.offscreenEnd

/-! ## Writeback (R203) -/

/-- The buffer in rotation that is not held. -/
def State.wbPick (s : State) (n : Nat) : Option Nat :=
  ((List.range n).map (fun k => (s.cmp.wbNext + k) % n)).find? (fun b => !bitAt (s.rdN CMP_WB_HELD) b)

/-- A row of a clone copy in the layout of RGB10A2, with [31:30] 0. -/
def State.copyRow (s : State) (v j y : Nat) : List Byte :=
  (List.range s.geomW).flatMap (fun x => leBytes 4 (s.memNat (s.copyPixel v j x y) 4 % 2 ^ 30))

/-- A completed frame writes the image of the writeback view. -/
def State.writeback (s : State) : State :=
  match s.cmp.current with
  | none => s
  | some c =>
    if !c.wbEn then s
    else match s.aux.views.findIdx? (fun v => v.view == c.wbView) with
      | none => s
      | some v => match (s.aux.views.getD v ⟨0, []⟩).newest with
        | none => s
        | some j => match s.wbPick c.wbCount with
          | none => (s.count CMP_WB_SKIP_CNT).raiseOnce 264 0
          | some b =>
            let s1 := (List.range s.geomH).foldl (fun st y => (st.dmaWrite 13 writerAux (c.wbAddr b + c.wbPitch * y)
              (st.copyRow v j y) 0).1) s
            let s2 := (s1.wrN CMP_WB_HELD (s1.rdN CMP_WB_HELD ||| 2 ^ b)).wrN CMP_WB_LAST (b + 2 ^ 16 * c.seq)
            State.raiseOnce { s2 with cmp := { s2.cmp with wbNext := b + 1 } } 265 0

/-- Software clears bits of CMP_WB_HELD: the buffers return to rotation. -/
def wbHeldClear (val : Word) (s : State) : State :=
  s.wrN CMP_WB_HELD (s.rdN CMP_WB_HELD - (s.rdN CMP_WB_HELD &&& val.toNat % 16))

end Sys2Proof.Machine
end

