-- ==== Sys2Proof/Machine/Frame.lean ====
section
/-!
DEFINITION. Frames (R15, R136, R150, R179 to R181, R199 to R201, R226 to R231): the frame start with everything it
latches, frame-start processing, completion and abort on the link.
-/

namespace Sys2Proof.Machine

/-! ## Latching (R73 to R77, R198, R200) -/

/-- The periods of the CURRENT commit; the reset values of the shadow registers before any commit. -/
def State.periods (s : State) : Nat × Nat :=
  match s.cmp.current with | some c => (c.minNs, c.maxNs) | none => (8333333, 20833333)

/-- The commit that the next frame start latches: the READY one, or on a secondary the one its FSTART names. -/
def State.latchCommit (s : State) : State :=
  match s.ehl.fstart, s.isSecondary with
  | some r, true =>
    (match s.ehl.commitsIn.find? (fun c => c.seq == r.commit) with
     | some c => State.put { s with cmp := { s.cmp with current := some c }
                                    ehl := { s.ehl with commitsIn := (s.ehl.commitsIn.dropWhile (fun k => k.seq != r.commit)).drop 1 } }
         ⟨CMP_FRAME_SEQ, 15, 0⟩ c.seq
     | none => s)
  | _, _ =>
    match s.cmp.ready with
    | some c => State.showCommitPages (State.put (State.wrN { s with cmp := { s.cmp with current := some c, ready := none } }
        CMP_FRAME_SEQ (c.seq % 65536)) CMP_LID_STATUS_READY 0)
    | none => s

/-- Streams that a frame includes (R180). -/
def State.included (s : State) (i : Nat) : Bool :=
  (match s.cmp.current with | some c => bitAt c.streams i | none => false) && s.on (CMP_STK_CFG_ENABLE i) && (s.stream i).active

/-- Every present tile of a buffer's planes, as changed tiles with each plane's own disparity. -/
def State.presentTiles (s : State) (i : Nat) (ps : List PlaneRec) : List AccTile :=
  ((List.range ps.length).zip ps).flatMap (fun e =>
    (s.tileGrid.filter (fun t => s.tilePresent i e.2.table t.1 t.2)).map (fun t => ⟨e.1, t.1, t.2, e.2.disp⟩))

/-- The buffer of a stream that the frame start makes CURRENT: the READY one, or on a secondary the one of the SEQ that
the FSTART names (R74, R423). -/
def State.latchBuf (s : State) (i : Nat) : Option Nat :=
  match s.ehl.fstart, s.isSecondary with
  | some r, true =>
    (match r.streams.getD i none with
     | some q => (s.ehl.mirrored.find? (fun m => m.1 == i && m.2.2 == q)).bind (fun m =>
         if s.bufIn i 3 = some m.2.1 then none else some m.2.1)
     | none => none)
  | _, _ => s.bufIn i 2

/-- On a secondary, the READY buffers registered before the one latched are superseded (R75, R423). -/
def State.supersedeOlder (s : State) (i b : Nat) : State :=
  let older := ((s.ehl.mirrored.filter (fun m => m.1 == i)).takeWhile (fun m => m.2.1 != b)).filter (fun m => s.bufState i m.2.1 == 2)
  if s.isSecondary then older.foldl (fun st m => st.supersede i m.2.1) s else s

/-- Latch stream i: the changed tiles of R77 and the state after it. -/
def State.latchStream (s0 : State) (i : Nat) : State × List AccTile :=
  let s := match s0.latchBuf i with | some b => s0.supersedeOlder i b | none => s0
  let cur := s.bufIn i 3
  let full := s.on (CMP_STK_STATE_CHG_FULL i)
  let s0 := s.put (CMP_STK_STATE_CHG_FULL i) 0
  match s.latchBuf i with
  | none => (s0, if full then (match cur with | some a => s.presentTiles i (s.bufPlanes i a) | none => []) else [])
  | some b =>
    let newer := s.bufPlanes i b
    let kept := (s.stream i).accum.map (fun t => match newer[t.plane]? with
      | some p => { t with disp := largerMag t.disp p.disp } | none => t)
    let ch := s.changedTiles i (cur.map (s.bufPlanes i)) newer ++ kept ++ (if full then s.presentTiles i newer else [])
    let s1 := match cur with | some a => s0.freeBuf i a | none => s0
    let s2 := (s1.setBuf i b 3).setStream i (fun st => { st with accum := [] })
    let a := s.slotAddr (s.descSlot i b)
    let s3 := s2.wrN (CMP_STK_SEQ i) (s.memNat (a + 0x0C) 4)
    let s4 := if i = s.camStream && s.get (CMP_STK_CFG_SOURCE i) == 2 then
        { s3 with frame := { s3.frame with builds := (s.memNat (a + 0x0C) 4, s.memNat (a + 0x10) 4 + 10 ^ 9 * s.memNat (a + 0x14) 6) :: s3.frame.builds } }
      else s3
    (s4, ch)

/-- A latched buffer holds a pointer outside its pool (R92). -/
def State.badTable (s : State) (i : Nat) (p : PlaneRec) : Bool :=
  s.tileGrid.any (fun t => s.occBit p.table t.1 t.2 && !s.inPool i (s.tilePtr p.table t.1 t.2))
def State.badPointer (s : State) (i b : Nat) : Bool := (s.bufPlanes i b).any (s.badTable i)

/-- PLANE_ID of the first plane with such a pointer. -/
def State.badPtrId (s : State) (i b : Nat) : Nat :=
  firstPlaneId (s.bufPlanes i b) (fun p => match (s.bufPlanes i b)[p]? with | some r => s.badTable i r | none => false)

/-- Latch every included stream; the changed tiles come with their stream. -/
def State.latchStreams (s : State) : State × List (Nat × AccTile) :=
  (List.range 8).foldl (fun (acc : State × List (Nat × AccTile)) i =>
    if acc.1.included i then
      let r := acc.1.latchStream i
      let s1 := match r.1.bufIn i 3 with
        | some b => if r.1.badPointer i b then r.1.raise 295 (r.1.badPtrId i b) else r.1
        | none => r.1
      (s1, acc.2 ++ r.2.map (fun t => (i, t)))
    else acc) (s, [])

/-! ## Layers at a frame start (R201) -/

/-- A layer of the latched commit is late. -/
def LayerPlane.late (l : LayerPlane) : Bool := l.en && !l.ready

/-- The layer that a frame shows in place l, if any: the ready one, or for a late one its previous buffer under HOLD. -/
def State.shownLayer (s : State) (l : Nat) (lp : LayerPlane) : Option LayerPlane :=
  if !lp.en then none
  else if lp.ready then some lp
  else if lp.mode = 2 then none
  else s.cmp.shown.getD l none

/-- Late layers are recorded and follow their modes; the planes shown come back. -/
def State.latchLayers (s : State) : State × List (Option LayerPlane) :=
  match s.cmp.current with
  | none => (s, List.replicate 24 none)
  | some c =>
    let ls := List.range 24
    let shown := ls.map (fun l => s.shownLayer l (c.layer l))
    let late := (ls.filter (fun l => (c.layer l).late)).foldl (fun m l => m + 2 ^ l) 0
    let hidden := (ls.filter (fun l => (c.layer l).late && (shown.getD l none).isNone)).foldl (fun m l => m + 2 ^ l) 0
    let c' := { c with layers := c.layers.map (fun k => if k.late && k.mode == 0 then { k with asHold := true } else k) }
    let keep := ls.map (fun l => if (c.layer l).en then (if (c.layer l).ready then some (c.layer l) else s.cmp.shown.getD l none) else none)
    let s1 := ((s.wrN CMP_LYR_LATE late).wrN CMP_LYR_HIDDEN hidden).countN CMP_LATE_CNT (popCount 24 late)
    let s2 := { s1 with cmp := { s1.cmp with current := some c', shown := keep }
                        lease := { s1.lease with layerPages := ls.map (fun l => match keep.getD l none with | some k => k.pages | none => s.lease.layerPages.getD l []) } }
    (if late = 0 then s2 else s2.raiseMask 258 late, shown)

/-! ## The frame plane stack (R179 to R181) -/

/-- Stream planes of the frame with their own disparities. -/
def State.streamPlanes (s : State) : List DirPlane :=
  (List.range 8).flatMap (fun i =>
    if s.included i then (match s.bufIn i 3 with
      | some b => ((List.range (s.bufPlanes i b).length).zip (s.bufPlanes i b)).map (fun e =>
          { src := .stream i e.1, disp := e.2.disp
            tiles := (s.tileGrid.filter (fun t => s.tilePresent i e.2.table t.1 t.2)).map (fun t => (t.1, t.2, s.tilePtr e.2.table t.1 t.2)) })
      | none => [])
    else [])

/-- The merged planes in the order of R179, under an active overlay's disparity. -/
def mergePlanes (ovl : Option DirPlane) (layers streams : List DirPlane) : List DirPlane :=
  let eff (p : DirPlane) : DirPlane := match ovl with
    | some o => { p with disp := min p.disp o.disp } | none => p
  ovl.toList ++ sortBy (fun p => (32768 - p.disp).toNat) ((layers ++ streams).map eff)

/-- Present tiles of a plane as changed tiles. -/
def DirPlane.allChanged (p : DirPlane) (d : Int) : List (Nat × Nat × Int) := p.tiles.map (fun t => (t.1, t.2.1, d))

/-- Changed tiles of a layer plane that was in the previous frame stack: tiles whose slots differ, with the larger of
the two disparities (R145). -/
def layerChanges (old new : DirPlane) : List (Nat × Nat × Int) :=
  let d := largerMag old.disp new.disp
  ((new.tiles.filter (fun t => !old.tiles.contains t)).map (fun t => (t.1, t.2.1, d)))
    ++ ((old.tiles.filter (fun t => new.slot t.1 t.2.1 == none)).map (fun t => (t.1, t.2.1, d)))

/-- Changed tiles from entering, leaving, disparities and layers (R181). -/
def stackChanges (old new : List DirPlane) : List (Nat × Nat × Int) :=
  new.flatMap (fun p => match old.find? (fun q => q.src == p.src) with
    | none => p.allChanged p.disp
    | some q => (if q.disp = p.disp then [] else p.allChanged (largerMag q.disp p.disp))
        ++ (match p.src with | .layer _ => layerChanges q p | _ => []))
  ++ old.flatMap (fun q => if new.any (fun p => p.src == q.src) then [] else q.allChanged q.disp)

/-- Merge the planes into the plane directory; at most 64 are kept.  DROPPED has 8 bits: a greater number leaves a free
value there (log entry 73). -/
def State.mergeStack (s : State) (ovl : Option DirPlane) (shown : List (Option LayerPlane)) : State :=
  let layers := (List.range 24).filterMap (fun l => (shown.getD l none).map (fun k =>
    ({ src := .layer l, disp := k.disp, tiles := k.tiles } : DirPlane)))
  let all := mergePlanes ovl layers s.streamPlanes
  let dropped := all.length - 64
  let shown := if dropped < 256 then dropped else s.freeVal.toNat % 256
  let s0 := if dropped < 256 then s else s.freeNext
  let s1 := (s0.wrN CMP_FRAME_PLANES (min all.length 64 + 2 ^ 8 * shown)).countN CMP_PLANE_DROP_CNT dropped
  let s2 := s1.raiseIf (0 < dropped) 260 0
  { s2 with frame := { s2.frame with planes := all.take 64 } }

/-! ## Eyes (R136) -/

/-- CMP_SYN_EYE_AGE frame starts have passed without a commit: stale, source 280 once. -/
def State.judgeEyes (s : State) : State :=
  let age := s.bits CMP_SYN_EYE_AGE 7 0
  if age ≠ 0 ∧ age ≤ s.frame.eyeAge ∧ !s.on CMP_SYN_STATUS_STALE then (s.put CMP_SYN_STATUS_STALE 1).raise 280 0 else s

/-- The set becomes stale at a frame start (R136, R152); a set committed since that start is not stale. -/
def eyeStale (s : State) : State :=
  if s.isSecondary || s.frame.eyeNew || s.frame.startAt != s.now || !s.frame.seen then s else s.judgeEyes

/-- One more frame start: the age of the committed set (R136). -/
def State.ageEyes (s : State) (fresh : Bool) : State :=
  { s with frame := { s.frame with eyeAge := if fresh then 0 else s.frame.eyeAge + 1, eyeNew := false } }

/-- The eye-boxes usable in the frame, of those in `mask`; a valid one with Z, HX or HY of 0 raises 281. -/
def State.useEyes (s : State) (mask : Nat) : State :=
  let valid := (List.range 8).filter (fun e => bitAt mask e)
  let box (e : Nat) : EyeBox := s.frame.eyes.getD e (0, 0, 0, 0)
  let bad (e : Nat) : Bool := decide (eyeZ (box e) = 0 ∨ eyeHx (box e) = 0 ∨ eyeHy (box e) = 0)
  let use := valid.filter (fun e => !bad e)
  let s2 := (s.raiseIf (valid.any bad) 281 0).put CMP_SYN_STATUS_EYES (use.foldl (fun m e => m + 2 ^ e) 0)
  { s2 with frame := { s2.frame with usable := use.map box } }

/-- The valid mask that counts: a stale set is treated as holding no valid eye-box. -/
def State.eyeMask (s : State) : Nat := if s.on CMP_SYN_STATUS_STALE then 0 else s.frame.eyeValid

/-- The committed eye set is latched. -/
def State.latchEyes (s : State) : State :=
  let s1 := (s.ageEyes s.frame.eyeNew).judgeEyes
  s1.useEyes s1.eyeMask

/-! ## Channels at a frame start (R17, R54, R110, R404, R408) -/

/-- Show the synthesis engines counted (R110). -/
def State.countEngines (s : State) : State := (List.range 4).foldl (fun st c => st.put (CH_STATUS_SYNTH_ENGINES c) (st.synthEngines c)) s

/-- The throttle stage, closing gates, a staged or finished reload, and the engines that take work from now on; the stage
and the reload as they stood at the end of the tick before. -/
def State.latchChannels (s : State) : State :=
  let s1 := { s with pwr := { s.pwr with stageInForce := s.wasGet PWR_KETTLE_STATUS_STAGE } }
  let closing := (List.range 4).filter (fun c => s1.role c != 0 && s1.gateOpen c && !bitAt (s1.rdN PWR_CH_GATE) c && !bitAt s1.pwr.gateClosing c)
  let s2 := closing.foldl (fun st c =>
    (((chanEngines c).foldl (fun (x : State) g => if x.engState g = esRun then x else x.setEngState g esOffline)
      (State.moveBuilds { st with pwr := { st.pwr with gateClosing := st.pwr.gateClosing + 2 ^ c } } c)).closeGate c)) s1
  let ch := s2.get CSU_RELOAD_STATUS_CH
  let stage := if s.wasGet CSU_RELOAD_STATUS_STATE = s2.get CSU_RELOAD_STATUS_STATE then s2.get CSU_RELOAD_STATUS_STATE else 0
  let s3 := if stage = 4 then
      (s2.put CSU_RELOAD_STATUS_STATE 0).raise 36 0
    else if stage = 2 then
      ((s2.put CSU_RELOAD_STATUS_STATE 3).offlineChannel ch).moveBuilds ch
    else s2
  (List.range 128).foldl (fun st g =>
    if (st.engState g == esOffline || st.engState g == esParked) && st.chanRuns (g / 32) && st.engEnabled g && (st.eng g).valid then
      (if (st.eng g).dirty then st.setEngState g esReload
       else (if st.engState g = esParked then st.chanEvent g 5 else st).setEngState g esIdle)
    else if st.engState g == esParked then st.setEngState g esOffline else st) s3

/-! ## Triggers and guards (R199, R201) -/

/-- The commit that the next frame start would make CURRENT. -/
def State.nextCommit (s : State) : Option Commit := s.cmp.ready.orElse (fun _ => s.cmp.current)

/-- A WAIT layer holds the frame start. -/
def State.waitHeld (s : State) : Bool :=
  !s.ovl.release && (match s.nextCommit with
    | some c => c.layers.any (fun l => l.late && l.mode == 0 && !l.asHold)
    | none => false)

/-- A trigger holds. -/
def State.triggered (s : State) : Bool :=
  s.cmp.ready.isSome
    || (List.range 8).any (fun i => s.included i && (s.bufIn i 2).isSome && (match s.cmp.current with | some c => bitAt c.triggers i | none => false))
    || (match s.cmp.current with
        | some c => (List.range 24).any (fun l => bitAt (s.rdN CMP_LYR_LATE) l && (c.layer l).en && (c.layer l).ready)
        | none => false)
    || !s.frame.carried.isEmpty || s.frame.full || s.on CAL_MAP_STATUS_FULL_DAMAGE || !s.cal.falls.isEmpty
    || s.ovl.trigger || s.frame.eyeNew || !s.spl.carriedRestores.isEmpty || s.refsetWaits

/-- No frame is in progress, or was at the end of the tick before, and nothing forbids a frame start; a HOLD asked for in
the running tick does not (R231). -/
def State.mayStart (s : State) : Bool :=
  s.csu.image.isSome && !s.frameOn && s.frame.ended && !s.on SPL_STATUS_HOLD && !s.spl.holdWas && !s.cal.applying
    && decide (s.pwrState ≤ 1) && s.pcie.resetAsked.isNone && s.pwr.stopping.isNone

/-- At the end of a tick: what the frame starts of the next one build on (R199, R231). -/
def State.armFrame (s : State) : State :=
  { s with frame := { s.frame with armed := s.triggered && !s.waitHeld, ended := !s.frameOn }
           spl := { s.spl with holdWas := s.wantsHold } }

/-- The waiting FSTART's buffers and commit are all here (R423). -/
def State.fstartReady (s : State) (r : FrameRec) : Bool :=
  (r.commit == s.get ⟨CMP_FRAME_SEQ, 15, 0⟩ || s.ehl.commitsIn.any (fun c => c.seq == r.commit))
    && (List.range 8).all (fun i => match r.streams.getD i none with
        | some q => s.ehl.mirrored.any (fun m => m.1 == i && m.2.2 == q && (s.bufState i m.2.1 == 2 || s.bufState i m.2.1 == 3))
        | none => true)

/-! ## The frame start -/

/-- Leases of the frame: the slots and pages it reads (R79). -/
def State.takeLeases (s : State) (shown : List (Option LayerPlane)) : State :=
  let bufs := (List.range 8).flatMap (fun i => if s.included i then (match s.bufIn i 3 with | some b => s.bufSlots i b | none => []) else [])
  { s with lease := { s.lease with
      frameSlots := dedup (bufs ++ s.frame.planes.flatMap (fun p => p.tiles.map (fun t => t.2.2)))
      framePages := shown.flatMap (fun l => match l with | some k => k.pages | none => []) } }

/-- The drive inputs of the frame: latched here, or on a secondary as the primary latched them (R422). -/
def State.driveInputs (s : State) (restores : List Nat) : State :=
  match s.ehl.fstart, s.isSecondary with
  | some r, true =>
    let s1 := ((List.range s.tiles.length).zip r.bands).foldl (fun (st : State) (e : Nat × Nat) => st.put (CAL_TILE_STATUS_BAND e.1) e.2) s
    { s1 with frame := { s1.frame with bandOf := r.bands, irefs := r.irefs }, spl := { s1.spl with refsets := [] } }
  | _, _ => s.latchDrive restores

/-- Field states and raw values that the frame shows: those at the end of the tick before (R194). -/
def State.overlayInputs (s : State) : List (Nat × Int) :=
  match s.ehl.fstart, s.isSecondary with | some r, true => r.overlay | _, _ => s.ovl.atEnd

/-- The eye set of the frame. -/
def State.eyeInputs (s : State) : State :=
  match s.ehl.fstart, s.isSecondary with
  | some r, true =>
    State.useEyes { s.ageEyes (r.eyeSeq != s.frame.eyeSeq) with
      frame := { (s.ageEyes (r.eyeSeq != s.frame.eyeSeq)).frame with eyes := r.eyes, eyeValid := r.eyeValid, eyeSeq := r.eyeSeq }
      cam := { s.cam with eyeSeq := some r.eyeSeq } } r.eyeValid
  | _, _ => s.latchEyes

/-- The frame-start record for the secondary (R422). -/
def State.frameRec (s : State) : FrameRec :=
  { frame := s.frameNo, att := s.attNow, start := s.ptpTotalNs, deadline := s.ptpTotalNs + (s.frame.deadline - s.now) / 2
    commit := s.get ⟨CMP_FRAME_SEQ, 15, 0⟩
    streams := (List.range 8).map (fun i => if s.included i then (s.bufIn i 3).map (fun b => s.memNat (s.slotAddr (s.descSlot i b) + 0x0C) 4) else none)
    eyeSeq := s.frame.eyeSeq, eyeValid := s.eyeMask, eyes := s.frame.eyes
    level := s.get CMP_SYN_STATUS_LEVEL, bands := s.frame.bandOf, irefs := s.frame.irefs, overlay := s.ovl.atEnd
    full := decide (s.ehl.syncFrame = 2) }

/-- The links, the numbers and the record of a frame that begins (R15, R199, R227, R425). -/
def State.frameOpened (s : State) (forced : Bool) : State :=
  let s1 := (s.wrN SPL_ATTEMPT s.attNext).put SPL_STATUS_FRAME_ACTIVE 1
  let s2 := ((((s1.put CMP_FRAME_STATUS_ACTIVE 1).putB CMP_FRAME_STATUS_FORCED forced).put CMP_FRAME_STATUS_WAIT_HELD 0).count CMP_FRAME_START_CNT).raise 268 0
  let s3 := if forced then (s2.count CMP_FRAME_FORCED_CNT).raise 259 0 else s2
  { (s3.raiseIf (s.on CAL_MAP_STATUS_FULL_DAMAGE) 874 0).put CAL_MAP_STATUS_FULL_DAMAGE 0 with
    frame := { s3.frame with armed := false, ended := false, hogels := [], carried := [], full := false, codes := [], abortAt := none, seen := true, setup := true
                             startAt := s.now, cmap := 1 - s3.frame.cmap
                             runLens := (List.range 4).map (fun c => let n := s.get (CH_DISPATCH_RUN_LEN c); if n = 0 ∨ 16 < n then 16 else n) }
    cal := { s3.cal with falls := [] }
    ehl := { s3.ehl with synthDone := false, syncFrame := if s3.ehl.syncFrame = 1 then 2 else s3.ehl.syncFrame } }

/-- The commit that the frame shows, and its periods and deadline; it starts at `now` (R15, R196, R229).  A write of
SPL_DEADLINE_NS in the tick is for the next one (R231). -/
def State.framePeriods (s4 : State) (now : Nat) : State :=
  let s5 := s4.latchCommit
  let per := s5.periods
  let dl := if s5.wasN SPL_DEADLINE_NS = 0 then per.2 else s5.wasN SPL_DEADLINE_NS
  { s5 with frame := { s5.frame with minNs := per.1, maxNs := per.2, deadline := now + 2 * dl } }

/-- The tiles that differ from the planes `old` of the frame before: those of the overlay, of the streams, and of a stack that
changed (R181). -/
def State.frameChanged (s7 : State) (old : List DirPlane) (overlay : List (Nat × Nat × Int)) (streams : List (Nat × AccTile)) :
    List (Nat × Nat × Int) :=
  let eff (ps : List DirPlane) (i p : Nat) : Int := match ps.find? (fun q => q.src == .stream i p) with | some q => q.disp | none => 0
  let strm := streams.map (fun (t : Nat × AccTile) =>
    (t.2.col, t.2.row, largerMag (largerMag t.2.disp (eff old t.1 t.2.plane)) (eff s7.frame.planes t.1 t.2.plane)))
  overlay ++ strm ++ stackChanges old s7.frame.planes

/-- The eyes, the channels and the level of the frame, a secondary's from its FSTART `start` (R17, R150, R422). -/
def State.frameLevelled (s7 : State) (start : Option FrameRec) : State :=
  let s8 := ((s7.eyeInputs).latchChannels).countEngines
  s8.put CMP_SYN_STATUS_LEVEL (match start with | some r => r.level | none => s8.frameLevel)

/-- Every line of the plane cache of a channel that holds a share is invalid from the frame start on (R97). -/
def State.dropLines (s : State) : State :=
  { s with chans := ((List.range 4).zip s.chans).map (fun e =>
      if 0 < (s.frame.shares.getD e.1 (0, 0)).2 then { e.2 with cache := [] } else e.2) }

/-- The drive, the classes and the damage of the frame, whose predecessor was `s`, with its plan (R146, R149, R181). -/
def State.frameDamage (s9 s : State) (full : Bool) (changed : List (Nat × Nat × Int)) : State :=
  let restores := s.spl.carriedRestores
  let classes := s9.classBlocks s9.frame.usable
  let s10 := (s9.driveInputs restores).latchMap
  let dmg := changed.map s10.footprint ++ s10.classDamage s.frame.classes classes ++ (s.frame.carried ++ s.cal.falls) ++ s10.frame.hogels
    ++ (if full || s.frame.full || s.on CAL_MAP_STATUS_FULL_DAMAGE then [s10.panelRect] else [])
  let plan := s10.planDamage dmg
  { s10 with
    frame := { s10.frame with changed := changed, classes := some classes, rects := plan.1, shares := plan.2.1, fallback := plan.2.2 }
    spl := { s10.spl with carriedRestores := [], queue := restores.map s10.restoreUpdate, begun := 0 } }

/-- The leases and the clone of the frame; a primary tells its partner (R79, R245, R422). -/
def State.frameLeased (s11 : State) (shown : List (Option LayerPlane)) (secondary : Bool) : State :=
  let s12 := ((s11.takeLeases shown).showQueue).showPool
  let s13 := s12.cloneStart (match s12.cmp.current with | some c => if c.wbEn then some c.wbView else none | none => none)
  if secondary then { s13 with ehl := { s13.ehl with fstart := none } } else s13.toPartner (.fstart s13.frameRec)

/-- A frame starts: everything R200 names is latched as one state. -/
def State.startFrame (s : State) (forced full : Bool) : State :=
  let s6 := (s.frameOpened forced).framePeriods s.now
  let st := s6.latchStreams
  let ov := st.1.renderFrame st.1.overlayInputs
  let ly := State.latchLayers { ov.1 with ovl := { ov.1.ovl with trigger := false, release := false } }
  let s7 := ly.1.mergeStack ov.2.1 ly.2
  ((s7.frameLevelled (if s.isSecondary then s.ehl.fstart else none)).frameDamage s full
    (s7.frameChanged s.frame.planes ov.2.2 st.2)).dropLines.frameLeased ly.2 s.isSecondary

/-- The first tick at or after t_N + MAX_NS, and after the minimum period, has come: the frame is forced (R15, R199). -/
def State.forceDue (s : State) : Bool :=
  s.frame.seen && s.drives && s.mayStart && decide (s.frame.startAt + 2 * s.frame.maxNs ≤ s.now) && decide (s.earliest ≤ s.now)

/-- A frame start with a trigger, at or after the earliest start (R199); on a secondary, from its primary's record. -/
def frameStart (s : State) : State :=
  if s.isSecondary then
    match s.ehl.fstart with
    | some r =>
      if s.csu.image.isSome && !s.frameOn && !s.cal.applying && s.fstartReady r then
        let s1 := if s.frameNo = r.frame then s else s.put ⟨SPL_FRAME_CNT, 15, 0⟩ (r.frame + 65535)
        let s1 := if r.full then { s1 with ehl := { s1.ehl with syncFrame := 1 } } else s1
        let s2 := (s1.wrN SPL_ATTEMPT ((r.att + 255) % 256)).startFrame false r.full
        { s2 with frame := { s2.frame with deadline := s2.now + 2 * (r.deadline - r.start) } }
      else s
    | none => s
  else if s.forceDue then s.startFrame true false
  else if s.frame.seen && s.drives && s.mayStart && s.frame.armed && decide (s.earliest ≤ s.now) then s.startFrame false false
  else s

/-- MAX_NS has passed since the last frame start: the frame is forced (R199). -/
def frameForced (s : State) : State := if s.forceDue then s.startFrame true false else s

/-- Every enabled group is ACTIVE or FAILED: stage FIRST_FRAME. -/
def State.linkDone (s : State) : State :=
  if s.get GCTL_BOOT_STATUS_STAGE = 4 && (List.range 6).all (fun g => !s.groupEnabled g || s.gState g == gActive || s.gState g == gFailed) then
    s.put GCTL_BOOT_STATUS_STAGE 5
  else s

/-- The first frame start is forced once no group is in TRAIN, LOCK or CAPS (R450). -/
def firstFrameStart (s : State) : State :=
  if !s.frame.seen && s.drives && s.mayStart && s.linkDone.get GCTL_BOOT_STATUS_STAGE == 5
      && (List.range 6).all (fun g => !(decide (gTrain ≤ s.gState g ∧ s.gState g ≤ gCaps))) then s.linkDone.startFrame true true
  else s

/-! ## Frame-start processing ends (R139, R147, R150, R222, R223) -/

/-- A restore is covered by the frame's rectangles: each of its own hogels lies in one. -/
def State.restoreCovered (s : State) (rects : List Rect) (u : Update) : Bool :=
  (rangeFrom u.rect.y0 (u.rect.y1 - u.rect.y0)).all (fun y => !s.updateRow u y || (rangeFrom u.rect.x0 (u.rect.x1 - u.rect.x0)).all (fun x =>
    rects.any (fun r => decide (r.x0 ≤ x ∧ x < r.x1 ∧ r.y0 ≤ y ∧ y < r.y1))))

/-- Count of a class in the map. -/
def classCount (l : List Nat) (c : Nat) : Nat :=
  (l.map (fun b => ((List.range 144).filter (fun k => classOf b k == c)).length)).foldl (· + ·) 0

/-- A frame aborts for the lowest cause of the tick (R229, R230). -/
def State.abortFrame (s : State) (cause : Nat) : State :=
  if !s.frameOn then
    -- a lower cause in the tick of the abort takes its place
    if s.frame.abortAt = some s.evc.tick ∧ cause < s.bits SPL_ABORT_CAUSE 1 0 then s.put ⟨SPL_ABORT_CAUSE, 1, 0⟩ cause else s
  else
    let frame := s.frameNo
    let att := s.attNow
    let s1 := (s.dropRuns.endShares).driveMark (markRow 2 frame att 0 0)
    let s2 := (((s1.put SPL_STATUS_FRAME_ACTIVE 0).put CMP_FRAME_STATUS_ACTIVE 0).put SPL_STATUS_WINDOW 0x3F).count SPL_ABORT_CNT
    let s3 := (s2.wrN SPL_ABORT_CAUSE (cause + 2 ^ 8 * att + 2 ^ 16 * frame)).raise 324 0
    let s4 := ((s.spl.queue.filterMap (fun u => u.restore)).foldl State.carryRestore s3).discardRefsets
    let s5 := { s4 with
      frame := { s4.frame with carried := s.frame.rects.map (fun (e : Rect × Nat) => e.1), abortAt := some s.evc.tick, setup := false }
      spl := { s4.spl with queue := [], groups := s4.spl.groups.map (fun (k : Group) => { k with resend := [] }) }
      lease := { s4.lease with frameSlots := [], framePages := [] } }
    let s6 := (s5.dropCorr frame att).returnStreams
    let s7 := (s6.cloneAbort).showQueue
    let s8 := if s.isSecondary then { s7 with ehl := { s7.ehl with fend := none } }
      else s7.toPartner (.fend { flip := false, frame := frame, att := att, doneNs := 0, deltas := [] })
    s8.queueCorr

/-- The results of frame setup shown: the class map and its counts, the rectangles, the damage and the fallback used
(R148, R150). -/
def State.showSetup (s : State) : State :=
  let rects := s.frame.rects.map (fun (e : Rect × Nat) => e.1)
  let cl := s.frame.classes.getD []
  let s1 := ((s.writeClassMap).wrN CMP_SYN_CNT_FULL (classCount cl 0)).wrN CMP_SYN_CNT_HALF (classCount cl 1)
  let s2 := ((s1.wrN CMP_SYN_CNT_COARSE (classCount cl 2)).wrN CMP_SYN_RECTS rects.length).wrN CMP_SYN_DAMAGE
    ((rects.map Rect.area).foldl (· + ·) 0)
  let s3 := s2.put CMP_SYN_STATUS_FALLBACK s.frame.fallback
  if s.frame.fallback = 0 then s3 else (s3.count CMP_SYN_FALLBACK_CNT).raise 282 0

/-- The queue is formed: restores that the rectangles cover are superseded, and the rectangles follow the others
(R222, R223). -/
def State.formQueue (s : State) : State :=
  let rects := s.frame.rects.map (fun (e : Rect × Nat) => e.1)
  let gone := s.spl.queue.filter (s.restoreCovered rects)
  let s5 := s.countN SPL_SUPERSEDED_CNT gone.length
  let s6 := gone.foldl (fun st u => match u.restore with
    | some t => if st.restoreWaits t then st else st.put (SPL_T_STATUS_RESTORE_PENDING t) 0
    | none => st) s5
  { s6 with spl := { s6.spl with queue := s.spl.queue.filter (fun u => !s.restoreCovered rects u)
    ++ ((List.range rects.length).zip rects).map (fun (e : Nat × Rect) => s6.rectUpdate e.1 e.2) } }

/-- Every channel takes its share and its runs (R107, R146). -/
def State.shareOut (s : State) : State :=
  (List.range 4).foldl (fun st c =>
    let h := s.frame.shares.getD c (0, 0)
    let st1 := (st.wrN (CH_SHARE c) (h.1 + 2 ^ 16 * h.2)).putB (CH_STATUS_FRAME_ACTIVE c) (decide (0 < h.2))
    (st1.setChan c (fun ch => { ch with runs := s.channelRuns c, turnS := ch.turnS })).showQueues c) s

/-- Frame-start processing ends: the class map, the registers, the queue and the runs (R150); with no synthesis engine
counted at the frame start, source 283 (R149). -/
def frameSetupDone (s : State) : State :=
  if !s.frame.setup then s
  else
    let s1 : State := { s with frame := { s.frame with setup := false } }
    let s9 := ((((s1.showSetup).formQueue).shareOut).settleQueue).closeWindows
    if (List.range 4).all (fun c => s.get (CH_STATUS_SYNTH_ENGINES c) == 0) then
      let s10 := s9.raise 283 0
      if s.frame.rects.isEmpty then s10 else s10.abortFrame 3
    else s9

/-! ## Completion (R228) and abort (R229) -/

/-- The frame can send FLIP. -/
def State.canFlip (s : State) : Bool :=
  s.frameOn && !s.frame.setup && s.spl.queue.all (fun u => u.phase == 2) && s.spl.refsets.all (fun r => r.acked)
    && (s.frameCorr s.frameNo s.attNow).all (fun c => c.acked)

/-- Own synthesis of the frame has ended: no run waits and none is running. -/
def State.synthEnded (s : State) : Bool :=
  !s.frame.setup && s.chans.all (fun c => c.runs.isEmpty) && (List.range 128).all (fun g => s.engState g != esRun || s.engBuilds g)

/-- Latency of the camera builds whose damage this frame completes (R176). -/
def State.buildLatency (s : State) (doneNs : Nat) : State :=
  let s1 := s.frame.builds.foldl (fun st b =>
    let us := (doneNs - b.2) / 1000 % 2 ^ 24
    (st.wrN CMP_CAM_LAT_LAST us).wrN CMP_CAM_LAT_MAX (max (st.rdN CMP_CAM_LAT_MAX) us)) s
  { s1 with frame := { s1.frame with builds := [] } }

/-- The first frame has completed: the boot is DONE, source 8 (R449). -/
def State.bootDone (s : State) : State :=
  if s.get GCTL_BOOT_STATUS_STAGE = 5 then
    ((s.put GCTL_BOOT_STATUS_STAGE 6).wrN GCTL_BOOT_TIME (s.nowUs % 2 ^ 24)).raise 8 (s.nowUs % 2 ^ 24)
  else s

/-- IN_SYNC and source 805 at the end of a join or resync (R425). -/
def State.enterSync (s : State) : State := ((s.put EHL_STATUS_IN_SYNC 1).put EHL_STATUS_JOINING 0).raise 805 0

/-- A sync frame completes here (R425); the primary waits for its partner to complete it too. -/
def State.syncDone (s : State) : State :=
  if s.ehl.syncFrame = 2 then
    let s1 := { s with ehl := { s.ehl with syncFrame := 0, selfDone := true } }
    if s.isSecondary then s1.enterSync else s1
  else s

/-- The next FSTART or FEND of the primary comes up once the one before it is done (R422). -/
def State.takeLater (s : State) : State :=
  match s.ehl.later with
  | (.fstart r, t) :: rest =>
    if s.ehl.fstart.isNone && s.ehl.fend.isNone && !s.frameOn then
      (match rest with
       | (.fend f, tf) :: rest' => { s with ehl := { s.ehl with fstart := some r, fstartAt := t, fend := some f, fendAt := tf, later := rest' } }
       | _ => { s with ehl := { s.ehl with fstart := some r, fstartAt := t, later := rest } })
    else s
  | (.fend f, t) :: rest => if s.ehl.fend.isNone then { s with ehl := { s.ehl with fend := some f, fendAt := t, later := rest } } else s
  | _ => s

/-- The frame completes on the link with DELAY `delay` and the deltas that it applies. -/
def State.completeFrame (s : State) (delay : Nat) (doneNs : Nat) (deltas : List (Nat × List Byte)) : State :=
  let frame := s.frameNo
  let att := s.attNow
  let s1 := (s.driveMark (markRow 1 frame att 0 delay)).wrN SPL_FRAME_CNT ((s.rdN SPL_FRAME_CNT + 1) % 2 ^ 32)
  let s2 := ((s1.wrN SPL_FLIP_NS (doneNs % 10 ^ 9)).wrN SPL_FLIP_SEC_LO (doneNs / 10 ^ 9 % 2 ^ 32)).wrN SPL_FLIP_SEC_HI (doneNs / 10 ^ 9 / 2 ^ 32 % 2 ^ 16)
  let s3 := ((((s2.put SPL_STATUS_FRAME_ACTIVE 0).put CMP_FRAME_STATUS_ACTIVE 0).put SPL_STATUS_WINDOW 0x3F).raise 329 0).endShares
  let s4 := State.returnStreams { s3 with lease := { s3.lease with frameSlots := [], framePages := [] } }
  let s5 := (((s4.settleRefsets).takeCalibration).applyDeltas deltas).dropCorr frame att
  let s6 := if deltas.isEmpty then s5.queueCorr else s5
  let s7 := (s6.cloneComplete (s6.rdN SPL_FRAME_CNT) doneNs).writeback
  let s8 := ((s7.buildLatency doneNs).bootDone).syncDone
  State.showQueue { s8 with spl := { s8.spl with queue := [] } }

/-- Every update, REFSET and CORR packet is acknowledged: FLIP leaves and the frame completes, before its deadline; on
a secondary, when its own synthesis has ended and the FEND is here (R228, R422). -/
def frameComplete (s : State) : State :=
  if s.isSecondary then
    match s.ehl.fend with
    | some r =>
      if s.frameOn && s.synthEnded && r.frame == s.frameNo then
        let s1 := { s with ehl := { s.ehl with fend := none } }
        (if r.flip then s1.completeFrame 0 r.doneNs r.deltas else s1.abortFrame 1).takeLater
      else s
    | none => s
  else if s.canFlip && s.drives && decide (s.now < s.frame.deadline) then
    let delay := clampNat 2000 50000 (s.bits SPL_FLIP_DELAY 15 0)
    let ds := (s.frameCorr s.frameNo s.attNow).map (fun c => (c.granule, c.delta))
    let done := s.ptpTotalNs + delay
    (s.completeFrame delay done ds).toPartner (.fend { flip := true, frame := s.frameNo, att := s.attNow, doneNs := done, deltas := ds })
  else s

/-- The deadline is reached before completion, or before the end of the tick in which the frame aborted (R229). -/
def frameDeadline (s : State) : State :=
  if (s.frameOn || s.frame.abortAt == some s.evc.tick) && s.drives && decide (s.frame.deadline < s.now + s.tickHalfNs) then
    s.abortFrame 1
  else s

end Sys2Proof.Machine
end

