-- ==== Sys2Proof/Machine/EhlMirror.lean ====
section
/-!
DEFINITION. Mirroring between the devices of a pair (R419, R422, R423): stack buffers and commits as messages, and
what the secondary makes of them.
-/

namespace Sys2Proof.Machine

/-- Memory traffic of the Ehrus link unit (R351). -/
abbrev clientEhl : Nat := 14

/-! ## The primary's side -/

/-- The stream is mirrored by STACK messages: its source is the host or a remote server (R423). -/
def State.mirrors (s : State) (i : Nat) : Bool := s.get (CMP_STK_CFG_SOURCE i) != 2

/-- A buffer as a message, with the bytes of the tiles that differ from `older` (R419). -/
def State.stackMsg (s : State) (i b : Nat) (older : Option (List PlaneRec)) : StackMsg :=
  let a := s.slotAddr (s.descSlot i b)
  let ps := s.bufPlanes i b
  let old := older.getD []
  { stream := i, seq := s.memNat (a + 0x0C) 4, tsSec := s.memNat (a + 0x14) 6, tsNs := s.memNat (a + 0x10) 4
    planes := ps.map (fun p => (unsignedOf 16 p.disp, p.planeId, p.chgValid))
    tiles := (List.range ps.length).flatMap (fun p => match ps[p]? with
      | none => []
      | some r => (s.tileGrid.filter (fun t => s.tilePresent i r.table t.1 t.2)).map (fun t =>
          { plane := p, col := t.1, row := t.2, chg := s.chgBit r.table t.1 t.2
            bytes := if older.isNone || (s.tileChanged i (old[p]?) (some r) t.1 t.2).isSome
              then some (s.memRead (s.slotAddr (s.tilePtr r.table t.1 t.2)) slotBytes) else none })) }

/-- The planes of the buffer registered last: the READY one, else the CURRENT one. -/
def State.lastPlanes (s : State) (i : Nat) : Option (List PlaneRec) :=
  match s.bufIn i 2 with
  | some a => some (s.bufPlanes i a)
  | none => (s.bufIn i 3).map (s.bufPlanes i)

/-- A marked buffer becomes READY; a primary sends the registration of a host or remote stream to its partner (R76, R419). -/
def State.stkRegistered (s : State) (i : Nat) : State :=
  match (s.stream i).marking with
  | some b => if s.mirrors i then (s.stkMarked i).toPartner (.stack (s.stackMsg i b (s.lastPlanes i))) else s.stkMarked i
  | none => s

/-- The datagrams that waited for the marking of stream `i` are handled in their order (R85). -/
def State.releaseDatagrams (s : State) (i : Nat) : State :=
  ((s.stream i).rxHeld).foldl State.tileDatagram (s.setStream i (fun st => { st with rxHeld := [] }))

/-- At the end of a tick the buffers whose marking completed in it become READY (R74). -/
def State.settleMarked (s : State) : State :=
  (List.range 8).foldl (fun (st : State) i => if (st.stream i).marked then (st.stkRegistered i).releaseDatagrams i else st) s

/-! ## The secondary's side: STACK -/

/-- A waiting FSTART names SEQ `q` of stream `i`. -/
def State.fstartNames (s : State) (i q : Nat) : Bool :=
  (match s.ehl.fstart with | some r => r.streams.getD i none == some q | none => false)
    || s.ehl.later.any (fun (e : EhlMsg × Nat) => match e.1 with | .fstart r => r.streams.getD i none == some q | _ => false)

/-- The buffer that a mirrored registration fills: a FREE one, else the oldest READY one that no FSTART names. -/
def State.mirrorBuf (s : State) (i : Nat) : Option (Nat × Bool) :=
  match s.bufIn i 0 with
  | some b => some (b, false)
  | none => ((s.ehl.mirrored.filter (fun m => m.1 == i && s.bufState i m.2.1 == 2 && !s.fstartNames i m.2.2)).head?).map (fun m => (m.2.1, true))

/-- Planes of the mirrored buffer registered last. -/
def State.mirrorBase (s : State) (i : Nat) : List PlaneRec :=
  match (s.ehl.mirrored.filter (fun m => m.1 == i)).getLast? with
  | some m => s.bufPlanes i m.2.1
  | none => match s.bufIn i 3 with | some b => s.bufPlanes i b | none => []

/-- Give each tile of a mirrored plane its slot: a fresh one with the bytes of the message, else the slot of the base
plane; none when the pool lacks slots. -/
def State.mirrorTiles (s : State) (i : Nat) (base : List PlaneRec) (used : List Nat) :
    List TileMsg → List (TileMsg × Nat) → Option (State × List (TileMsg × Nat))
  | [], acc => some (s, acc)
  | t :: rest, acc => match t.bytes with
    | none => s.mirrorTiles i base used rest (acc ++ [(t, match base[t.plane]? with | some p => s.tilePtr p.table t.col t.row | none => 0)])
    | some bs => match s.freeRun i used 1 with
      | none => none
      | some q => (s.memWrite clientEhl (s.slotAddr q) bs).mirrorTiles i base (q :: used) rest (acc ++ [(t, q)])

/-- A bitmap of 52 rows of 16 bytes with the bits of the given tiles (R71). -/
def bitmapBytes (ts : List (Nat × Nat)) : List Byte :=
  (List.range 832).map (fun k => BitVec.ofNat 8
    ((List.range 8).foldl (fun a i => a + bit (ts.contains (8 * (k % 16) + i, k / 16)) * 2 ^ i) 0))

/-- The bytes of a plane table block: occupancy, change bits, pointers (R71). -/
def tableBytes (ts : List (TileMsg × Nat)) : List Byte :=
  bitmapBytes (ts.map (fun e => (e.1.col, e.1.row))) ++ bitmapBytes ((ts.filter (fun e => e.1.chg)).map (fun e => (e.1.col, e.1.row)))
    ++ (List.range (96 * 51)).flatMap (fun k => leBytes 4 (match ts.find? (fun e => e.1.col == k % 96 && e.1.row == k / 96) with
        | some e => e.2 | none => 0))

/-- Write the descriptor and tables of a mirrored buffer and register it. -/
def State.mirrorWrite (s : State) (m : StackMsg) (b : Nat) (tables : List Nat) (ts : List (TileMsg × Nat)) (current : Bool) : State :=
  let i := m.stream
  let s1 := (List.range m.planes.length).foldl (fun st p =>
    st.memWrite clientEhl (st.slotAddr (tables.getD p 0)) (padTo (5 * slotBytes) (tableBytes (ts.filter (fun e => e.1.plane == p))))) s
  let recs := (List.range m.planes.length).map (fun p =>
    let r := m.planes.getD p (0, 0, false)
    (r.1, r.2.1, r.2.2, tables.getD p 0))
  let s2 := (s1.writeDesc clientEhl writerTile i b (s.get (CMP_STK_CFG_SOURCE i)) m.seq m.tsNs m.tsSec recs).becomeReady i b
  if current then s2.setBuf i b 3 else s2

/-- A STACK message or the copy of a buffer in a join (R423, R425). -/
def State.mirrorStack (s : State) (m : StackMsg) (current : Bool) : State :=
  let i := m.stream
  if 8 ≤ i then s
  else
    let s0 := if current then (List.range 3).foldl (fun st b => st.freeBuf i b) s else s
    match s0.mirrorBuf i with
    | none => s0.desync 3
    | some (b, old) =>
      let base := s0.mirrorBase i
      let s1 := if old then s0.supersede i b else s0
      match s1.allocTables i m.planes.length [s1.descSlot i b] with
      | none => s1.desync 3
      | some tables =>
        match s1.mirrorTiles i base (s1.descSlot i b :: tables.flatMap (fun q => rangeFrom q 5)) m.tiles [] with
        | none => s1.desync 3
        | some (s2, ts) => s2.mirrorWrite m b tables ts current

/-! ## The secondary's side: COMMIT -/

/-- A word of a mirrored shadow set. -/
def shadowWord (m : CommitMsg) (off : Nat) : Word :=
  match m.shadow.find? (fun e => e.1 == off) with | some e => e.2 | none => 0

/-- The commit that a message describes, its tiles apart. -/
def State.commitOf (s : State) (m : CommitMsg) : Commit :=
  { seq := m.seq, cfg := shadowWord m CMP_FRAME_CFG, minNs := (shadowWord m CMP_FRAME_MIN_NS).toNat, maxNs := (shadowWord m CMP_FRAME_MAX_NS).toNat
    wb := (List.range 10).map (fun i => shadowWord m (CMP_WB_CFG + 4 * i)), ofs := []
    layers := (List.range 24).map (fun l =>
      ⟨(List.range 14).map (fun i => shadowWord m (CMP_LYR_CTRL l + 4 * i)), bitAt (shadowWord m CMP_LYR_PENDING).toNat l,
        !bitAt (shadowWord m CMP_LYR_PENDING).toNat l, false, none, []⟩)
    since := s.now }

/-- Place tile (c, r) of layer `l`: its bytes in a free slot where the message carries it, else the slot where the commit
before has it; nothing where neither has it. -/
def State.mirrorTile (s : State) (m : CommitMsg) (prev : Option Commit) (l : Nat) (used : List Nat) (t : Nat × Nat) :
    Option (State × List (Nat × Nat × Nat) × List Nat) :=
  match m.tiles.find? (fun x => x.layer == l && x.col == t.1 && x.row == t.2) with
  | some x => (s.freeSlot used).map (fun q => (s.memWrite clientEhl (s.slotAddr q) x.bytes, [(t.1, t.2, q)], [q]))
  | none => some (s, (prev.bind (fun k => (k.layer l).tiles.find? (fun e => e.1 == t.1 && e.2.1 == t.2))).toList, [])

/-- Place the tiles of layer `l`: from the message, else where the commit before has them. -/
def State.mirrorLayer (s : State) (m : CommitMsg) (prev : Option Commit) (l : Nat) (used : List Nat) :
    List (Nat × Nat) → List (Nat × Nat × Nat) → Option (State × List (Nat × Nat × Nat))
  | [], acc => some (s, acc)
  | t :: rest, acc => match s.mirrorTile m prev l used t with
    | none => none
    | some r => r.1.mirrorLayer m prev l (r.2.2 ++ used) rest (acc ++ r.2.1)

/-- Place the tiles of every ready layer. -/
def State.mirrorLayers (s : State) (m : CommitMsg) (prev : Option Commit) (c : Commit) : List Nat → Option (State × Commit)
  | [] => some (s, c)
  | l :: rest =>
    let lp := c.layer l
    if lp.en && lp.ready then
      match s.mirrorLayer m prev l (s.usedSlots ++ c.slots) (s.layerTiles lp) [] with
      | none => none
      | some r => r.1.mirrorLayers m prev (c.setLayer l (fun k => { k with tiles := r.2 })) rest
    else s.mirrorLayers m prev c rest

/-- A mirrored commit with its tiles in this device's pool. -/
def State.mirrorCommit (s : State) (m : CommitMsg) : Option (State × Commit) :=
  let prev := s.ehl.commitsIn.getLast?.orElse (fun _ => s.cmp.current)
  s.mirrorLayers m prev (s.commitOf m) (List.range 24)

/-- A COMMIT message: it waits for the FSTART that names it; one that is known already takes the late layers (R201,
R423). -/
def State.takeCommit (s : State) (m : CommitMsg) : State :=
  match s.mirrorCommit m with
  | none => s.desync 3
  | some (s1, c) =>
    let isIt (k : Commit) : Bool := k.seq == c.seq
    if s1.ehl.commitsIn.any isIt then
      State.showPool { s1 with ehl := { s1.ehl with commitsIn := s1.ehl.commitsIn.map (fun k => if isIt k then c else k) } }
    else match s1.cmp.current with
      | some k => if isIt k then State.showPool { s1 with cmp := { s1.cmp with current := some c } }
        else State.showPool { s1 with ehl := { s1.ehl with commitsIn := s1.ehl.commitsIn ++ [c] } }
      | none => State.showPool { s1 with ehl := { s1.ehl with commitsIn := s1.ehl.commitsIn ++ [c] } }

/-- The CURRENT commit of the primary, copied in a join (R425). -/
def State.takeCurrent (s : State) (m : CommitMsg) : State :=
  match s.mirrorCommit m with
  | none => s.desync 3
  | some (s1, c) => State.showPool (State.put { s1 with cmp := { s1.cmp with current := some c } } ⟨CMP_FRAME_SEQ, 15, 0⟩ c.seq)

end Sys2Proof.Machine
end

