-- ==== Sys2Proof/Machine/Tmu.lean ====
section
/-!
DEFINITION. The time unit (R312 to R317): increment, steps, triggers and pins.
-/

namespace Sys2Proof.Machine

/-- Seconds before the 48-bit count wraps, in units of 2^-32 ns. -/
abbrev timeModulus : Nat := 2 ^ 48 * 10 ^ 9 * 2 ^ 32

/-- The Q8.32 increment lies in [3.996, 4.004] ns (R312). -/
def incrInRange (q : Nat) : Bool := decide (3996 * 2 ^ 32 ≤ 1000 * q ∧ 1000 * q ≤ 4004 * 2 ^ 32)

/-- A write of TMU_INCR_FRAC applies the pair, or refuses it and shows the increment in force (R312). -/
def incrWrite (val : Word) (s : State) : State :=
  let q := 2 ^ 32 * s.bits TMU_INCR_NS 7 0 + val.toNat
  if incrInRange q then
    let s1 := s.wr TMU_INCR_FRAC val
    { s1 with tmu := { s1.tmu with incr := q } }
  else
    ((((s.wrN TMU_INCR_NS (s.tmu.incr / 2 ^ 32)).wrN TMU_INCR_FRAC (s.tmu.incr % 2 ^ 32)).put TMU_STATUS_INCR_REFUSED 1)).raise 65 0

/-- Refuse a step (R313). -/
def State.refuseStep (s : State) : State :=
  ((s.put TMU_STATUS_STEP_REFUSED 1).count TMU_STEP_REFUSED_CNT).raise 64 0

/-- The target of trigger `n` in nanoseconds. -/
def State.trigTarget (s : State) (n : Nat) : Nat :=
  10 ^ 9 * (s.rdN (TMU_TRIG_SEC_LO n) + 2 ^ 32 * s.bits (TMU_TRIG_SEC_HI n) 15 0) + s.rdN (TMU_TRIG_NS n)

/-- An accepted step changes the time in one go, sets VALID and records its signed size; the instants that a forward
step passes over occur in this tick (R313). -/
def State.applyStep (s : State) (t : Nat) (size : Int) : State :=
  let s1 := { s with tmu := { s.tmu with
    time := t % timeModulus, stepped := if s.tmu.time < t % timeModulus then some (min s.ptpFrom s.ptpTotalNs) else none } }
  ((s1.put TMU_STATUS_VALID 1).wrN TMU_LAST_STEP_NS
    (unsignedOf 32 (clampInt (-(2 ^ 31)) (2 ^ 31 - 1) size))).raise 66 0

/-- TMU_CMD STEP adds TMU_ADJ_SEC and TMU_ADJ_NS, keeping the fraction, unless the magnitude is refused (R313). -/
def timeStep (force : Bool) (s : State) : State :=
  let d : Int := 10 ^ 9 * signedOf 32 (s.rdN TMU_ADJ_SEC) + signedOf 32 (s.rdN TMU_ADJ_NS)
  if !force && decide (s.rdN TMU_STEP_LIMIT < d.natAbs) then s.refuseStep
  else s.applyStep (((s.tmu.time : Int) + 2 ^ 32 * d) % (timeModulus : Nat)).toNat d

/-- TMU_CMD SET loads a time and clears the fraction; refused for its nanoseconds, or, once VALID, for its
magnitude (R313). -/
def timeSet (force : Bool) (s : State) : State :=
  let sec := s.rdN TMU_SET_SEC_LO + 2 ^ 32 * s.bits TMU_SET_SEC_HI 15 0
  let t : Nat := 2 ^ 32 * (10 ^ 9 * sec + s.rdN TMU_SET_NS)
  let d : Int := (t : Int) - (s.tmu.time : Int)
  if 10 ^ 9 ≤ s.rdN TMU_SET_NS then s.refuseStep
  else if s.on TMU_STATUS_VALID && !force && decide (2 ^ 32 * s.rdN TMU_STEP_LIMIT < d.natAbs) then s.refuseStep
  else s.applyStep t (d / 2 ^ 32)

/-- A read of TMU_TIME_NS latches the seconds and the fraction of the same tick (R312). -/
def timeRead (s : State) : State :=
  ((s.wrN TMU_TIME_NS s.ptpNs).wrN TMU_TIME_SEC_LO (s.ptpSec % 2 ^ 32)).wrN TMU_TIME_SEC_HI
    (s.ptpSec / 2 ^ 32 % 2 ^ 16 + 2 ^ 16 * (s.tmu.time / 2 ^ 16 % 2 ^ 16))

/-- Remember whether the armed trigger `n` has its target behind it (R317). -/
def State.judgeLate (s : State) (n : Nat) : State :=
  let l := s.on (TMU_TRIG_CTRL_ARM n) && decide (s.trigTarget n ≤ s.ptpTotalNs)
  { s with tmu := { s.tmu with late := s.tmu.late.set n l } }

/-- A write of TMU_TRIG_CTRL: its writable bits, and the arming of the trigger (R317). -/
def triggerArm (n : Nat) (val : Word) (s : State) : State :=
  (s.wrN (TMU_TRIG_CTRL n) ((val.toNat &&& 0xFF0F) + (s.rdN (TMU_TRIG_CTRL n) &&& 0x10))).judgeLate n

/-- Which target register of a trigger a write goes to. -/
def triggerReg (n which : Nat) : Nat :=
  if which = 0 then TMU_TRIG_NS n else if which = 1 then TMU_TRIG_SEC_LO n else TMU_TRIG_SEC_HI n

/-- A write of a target register; an armed trigger is compared at once (R317). -/
def triggerTargetWrite (n which : Nat) (val : Word) (s : State) : State :=
  (s.wrN (triggerReg n which) (if which = 2 then val.toNat % 2 ^ 16 else val.toNat)).judgeLate n

/-- Copy the values of a snapshot into the EHL snapshot registers (R436). -/
def State.copySnapshot (s : State) : State :=
  ((((((s.wr EHL_SNAP_FRAME (s.rd SPL_FRAME_CNT)).wr EHL_SNAP_SEQ (s.rd CMP_FRAME_SEQ)).wrN EHL_SNAP_ATT
    (s.bits SPL_ATTEMPT 7 0)).wrN EHL_SNAP_TIME_NS s.ptpNs).wrN EHL_SNAP_TIME_SEC (s.ptpSec % 2 ^ 32)).wrN
    EHL_SNAP_TICK_LO (s.evc.tick % 2 ^ 32)).wrN EHL_SNAP_TICK_HI (s.evc.tick / 2 ^ 32)

/-- A snapshot of this device alone: DONE with KIND 0, and source 813 (R317). -/
def State.ownSnapshot (s : State) : State :=
  (((s.copySnapshot).put ⟨EHL_SNAP_STATUS, 1, 1⟩ 1).put ⟨EHL_SNAP_STATUS, 3, 3⟩ 0).raise 813 0

/-- The time-clock tick in which trigger `n` fires: its actions, and ARM clears (R317). -/
def triggerFire (n : Nat) (s : State) : State :=
  if !s.on (TMU_TRIG_CTRL_ARM n) || decide (s.ptpTickEnd ≤ s.trigTarget n) then s
  else
    let late := s.tmu.late.getD n false
    let s1 := (s.put (TMU_TRIG_CTRL_ARM n) 0).put (TMU_TRIG_CTRL_LATE n) (bit late)
    let s2 := { s1 with tmu := { s1.tmu with late := s1.tmu.late.set n false } }
    let s3 := s2.raiseIf late 69 0
    let s4 := if s.on (TMU_TRIG_CTRL_EVENT n) then (s3.raise 68 0).wake wakeTrig else s3
    let s5 := if s.on (TMU_TRIG_CTRL_PIN n) then { s4 with tmu := { s4.tmu with
      trigOut := true, trigTill := s.now + 2000 * max 1 (s.get (TMU_TRIG_CTRL_WIDTH_US n)) } } else s4
    if s.on (TMU_TRIG_CTRL_SNAPSHOT n) then s5.ownSnapshot else s5

/-- A whole second of PTP time falls in the running tick. -/
def State.secondPasses (s : State) : Bool := decide ((s.ptpFrom + 10 ^ 9 - 1) / 10 ^ 9 * 10 ^ 9 < s.ptpTickEnd)

/-- A whole second: PTP_PPS_OUT rises while TMU_PPS_CFG.EN is 1 (R317). -/
def ppsEdge (s : State) : State :=
  if s.bits TMU_PPS_CFG 0 0 = 1 ∧ s.secondPasses then
    { s with tmu := { s.tmu with ppsOut := true, ppsTill := s.now + 2000000 * max 1 (s.bits TMU_PPS_CFG 15 8) } }
  else s

/-- The pulse of PTP_PPS_OUT (`pps`) or of PTP_TRIG_OUT has lasted its width in the running tick (R317). -/
def pulseWidthEnd (pps : Bool) (s : State) : State :=
  if pps then (if s.tmu.ppsTill < s.now + s.tickHalfNs then { s with tmu := { s.tmu with ppsOut := false } } else s)
  else if s.tmu.trigTill < s.now + s.tickHalfNs then { s with tmu := { s.tmu with trigOut := false } } else s

/-- A rising edge on PTP_EXT_IN in the running tick, captured to 1/16 of it; where in the tick the edge lies is a free
value.  An uncleared capture is overwritten with OVERRUN (R315, R317; log entry 1). -/
def extCapture (s : State) : State :=
  if s.bits TMU_EXT_CFG 0 0 = 1 then
    let stamp := (s.tmu.time + s.tmu.incr * (s.freeVal.toNat % 16) / 16) / 2 ^ 32
    let s1 := (if s.bits TMU_EXT_STATUS 0 0 = 1 then s.put ⟨TMU_EXT_STATUS, 1, 1⟩ 1 else s).freeNext
    (((s1.wrN TMU_EXT_NS (stamp % 10 ^ 9)).wrN TMU_EXT_SEC (stamp / 10 ^ 9 % 2 ^ 32)).put ⟨TMU_EXT_STATUS, 0, 0⟩ 1).raise 70 0
  else s

end Sys2Proof.Machine
end

