-- ==== Sys2Proof/Machine/EhlPair.lean ====
section
/-!
DEFINITION. What a device of a pair or of a tree does by itself (R421, R425 to R436): joins, takeover, link and lane
events, and the EHL commands.
-/

namespace Sys2Proof.Machine

/-! ## The join on the primary (R425) -/

/-- Behind the map copies: the CURRENT commit, the READY and CURRENT buffers, the commits that no frame has latched
(log entry 81), and the end mark; the next build restarts and the next frame start is the sync frame. -/
def State.endJoin (s : State) : State :=
  let s1 := match s.cmp.current with
    | some c => s.ehlSend 0 (.join (.commit (s.commitMsgFrom [] c)))
    | none => s
  let bufs := (List.range 8).flatMap (fun i => if s.mirrors i then
      (match s.bufIn i 3 with | some b => [(i, b, true)] | none => []) ++ (match s.bufIn i 2 with | some b => [(i, b, false)] | none => [])
    else [])
  let s2 := bufs.foldl (fun (st : State) (e : Nat × Nat × Bool) => st.ehlSend 0 (.join (.stack (s.stackMsg e.1 e.2.1 none) e.2.2))) s1
  let s3 := ([s.cmp.gated, s.cmp.ready, s.cmp.arrived].foldl (fun (st : State) (k : Option Commit) => match k with
    | some c => st.ehlSend 0 (.commit (s.commitMsgFrom [] c)) | none => st) s2).ehlSend 0 (.join .done)
  { s3 with cam := { s3.cam with restart := true }, ehl := { s3.ehl with syncFrame := 1 }, frame := { s3.frame with full := true } }

/-- The next piece of the map copy leaves, of at most 4,096 bytes. -/
def State.pumpJoin (s : State) : State :=
  match s.ehl.joinLeft with
  | [] => s
  | (a, n) :: rest =>
    let k := min n 4096
    let left := if k < n then (a + k, n - k) :: rest else rest
    let s1 := if k = 0 then s else s.ehlSend 0 (.join (.bytes a (s.memRead a k)))
    let s2 := { s1 with ehl := { s1.ehl with joinLeft := left } }
    if left.isEmpty then s2.endJoin else s2

/-- A join or a resync starts: the maps are copied first (R425). -/
def State.startJoin (s : State) : State :=
  let s1 := (s.put EHL_STATUS_IN_SYNC 0).put EHL_STATUS_JOINING 1
  State.pumpJoin { s1 with ehl := { s1.ehl with selfDone := false, joinLeft := [(s.regionBase 4, s.regionSize 4), (s.regionBase 5, s.regionSize 5)] } }

/-! ## Acknowledgements (R418) -/

/-- SEQ `q` lies before or at SEQ `k` on the circle of 65,536 numbers. -/
def seqUpTo (q k : Nat) : Bool := decide ((k + 65536 - q % 65536) % 65536 < 32768)

/-- An ACK block: messages up to its SEQ are released; the copy of a join goes on once the link is free. -/
def ehlAck (l seq : Nat) (s : State) : State :=
  let k := s.ehlLink l
  let s1 := s.setLink l (fun x => { x with unacked := k.unacked.filter (fun m => !seqUpTo m.1 seq), sentAt := s.now, lastRx := s.now })
  if l = 0 && s.pairState = pairPrimary && (s1.ehlLink 0).unacked.isEmpty && (s1.ehlLink 0).waiting.isEmpty then s1.pumpJoin else s1

/-- The transmitter replays the messages it still holds, ahead of all that wait (R418, R420). -/
def State.ehlReplay (s : State) (l : Nat) : State :=
  let k := s.ehlLink l
  (s.countN EHL_REPLAY_CNT k.unacked.length).setLink l (fun x => { x with
    sentAt := s.now
    row := k.unacked.foldl (fun r e => rowAfter r (linkRows l (ehlBytes e.2))) (max k.row (rowFrom k s.now)) })

/-- A NAK block: messages before its SEQ have arrived, those from it on are replayed. -/
def ehlNak (l seq : Nat) (s : State) : State :=
  let left := (s.ehlLink l).unacked.filter (fun m => seqUpTo seq m.1)
  (s.setLink l (fun x => { x with unacked := left, lastRx := s.now })).ehlReplay l

/-- No ACK has arrived for 2 µs. -/
def ehlReplayTimeout (l : Nat) (s : State) : State :=
  let k := s.ehlLink l
  if k.unacked.isEmpty || decide (s.now + s.tickHalfNs ≤ k.sentAt + 4000) then s else s.ehlReplay l

/-! ## Takeover (R427) -/

/-- The tiles to restore after a takeover: all of them when the device was not IN_SYNC. -/
def State.takeoverRestores (s : State) : State :=
  if s.on EHL_STATUS_IN_SYNC then
    (List.range s.tiles.length).foldl (fun st t =>
      if st.on (SPL_T_STATUS_PRESENT t) && !st.on (SPL_T_STATUS_CONTENT_VALID t) then st.requestRestore t else st) s
  else
    let s1 := (List.range s.tiles.length).foldl State.requestRestore s
    { s1 with frame := { s1.frame with full := true } }

/-- The attempt counter after a takeover; a frame that was known and had not begun here starts anew as its next attempt
(log entry 82). -/
def State.takeoverAttempt (s : State) : State :=
  match s.ehl.fstart with
  | some r => s.wrN SPL_ATTEMPT ((r.att + 1) % 256)
  | none => if s.frameOn then s else s.wrN SPL_ATTEMPT ((s.attNow + 2) % 256)

/-- Mirrored inputs become the device's own: the newest READY buffer of each stream, and the newest commit. -/
def State.takeoverInputs (s : State) : State :=
  let s1 := (List.range 8).foldl (fun (st : State) i =>
    let l := (st.ehl.mirrored.filter (fun m => m.1 == i)).filter (fun m => st.bufState i m.2.1 == 2)
    l.dropLast.foldl (fun (x : State) m => x.supersede i m.2.1) st) s
  let s2 := { s1 with ehl := { s1.ehl with mirrored := [], commitsIn := [] } }
  match s.ehl.commitsIn.getLast? with | some c => s2.readyCommit c | none => s2

/-- The secondary takes over. -/
def State.takeover (s : State) : State :=
  let s1 := (((s.setPair pairPrimary).sendMark (markRow 5 0 0 0 0)).takeoverAttempt).takeoverRestores
  let s2 := ((s1.put EHL_STATUS_IN_SYNC 0).put EHL_STATUS_JOINING 0).takeoverInputs
  let s3 := { s2 with ehl := { s2.ehl with fstart := none, fend := none, later := [], joinLeft := [], syncFrame := 0, selfDone := false } }
  ((s3.count EHL_TAKEOVER_CNT).wrN EHL_TAKEOVER_TIME (min ((s.now - s.ehl.lastAlive) / 2) 65535)).raise 802 0

/-- EHL_PAIR_TIMEOUT in force, in ns (R437). -/
def State.pairTimeout (s : State) : Nat := clampNat 1000 6000 (s.bits EHL_PAIR_TIMEOUT 12 0)

/-- The silence window has ended with no ALIVE. -/
def State.partnerGone (s : State) : Bool := decide (s.ehl.lastAlive + 2 * s.pairTimeout < s.now + s.tickHalfNs)

/-- The partner falls silent: a SECONDARY takes over, a PRIMARY goes on alone (R421, R427). -/
def partnerSilent (s : State) : State :=
  if !s.partnerGone then s
  else if s.isSecondary then (s.raise 801 0).takeover
  else if s.pairState = pairPrimary && s.ehl.partnerPair != 0 then
    let s1 := (((s.setPair pairSolo).put EHL_STATUS_IN_SYNC 0).put EHL_STATUS_JOINING 0).raise 801 0
    { s1 with ehl := { s1.ehl with partnerPair := 0, joinLeft := [], syncFrame := 0, selfDone := false } }
  else s

/-- Every 0.5 µs ALIVE leaves on the pair link (R419). -/
def aliveSend (s : State) : State :=
  if !s.ehl.linkUp || decide (s.now + s.tickHalfNs ≤ s.ehl.aliveSent + 1000) then s
  else
    let s1 := s.ehlSend 0 (.alive (s.evc.tick % 2 ^ 64) s.pairState (!s.drives) (s.on EHL_STATUS_IN_SYNC))
    { s1 with ehl := { s1.ehl with aliveSent := s.now } }

/-! ## The pair link (R421, R424) -/

/-- A lane comes up with its eye score (R437). -/
def State.laneUp (s : State) (l eye : Nat) : State :=
  let s1 := (s.put (EHL_LANE_STATUS_STATE l) 2).put (EHL_LANE_STATUS_EYE l) (min eye 255)
  { s1 with ehl := { s1.ehl with elastic := s1.ehl.elastic.set l (some (Elastic.start s.now)) } }

/-- The roles of a pair whose link came up: whether this device drives, and whether the priorities were equal.  A
DETACHED device becomes SECONDARY (log entry 83 where both are). -/
def State.arbitrate (s : State) (theirs : Nat) (prio : Bool) (uid : Nat) : Bool × Bool :=
  let driving (p : Nat) : Bool := p == pairPrimary || p == pairSolo
  let mine := s.rdN GCTL_UID_LO + 2 ^ 32 * s.rdN GCTL_UID_HI
  if driving s.pairState != driving theirs then (driving s.pairState, false)
  else if (s.pairState == pairDetached) != (theirs == pairDetached) then (theirs == pairDetached, false)
  else if s.on EHL_CFG_PRIO != prio then (s.on EHL_CFG_PRIO, false)
  else (decide (mine < uid), true)

/-- The pair link comes up: numbering starts afresh, arbitration sets the roles, and the secondary joins; a link that
was down for longer than EHL_PAIR_TIMEOUT costs a secondary its sync. -/
def pairLinkUp (theirs : Nat) (prio : Bool) (uid : Nat) (eyes : List Nat) (s : State) : State :=
  if !s.on EHL_CFG_PAIR_EN || s.pairState = pairUnpaired || s.ehl.linkUp then s
  else
    let r := s.arbitrate theirs prio uid
    let s1 := (List.range 8).foldl (fun st l => st.laneUp l (eyes.getD l 0)) s
    let s2 := State.setLink { s1 with ehl := { s1.ehl with linkUp := true, lastAlive := s.now, aliveSent := s.now, partnerPair := theirs } } 0 (fun _ => linkAt s.now)
    let keep := (s.pairState = pairPrimary && theirs = pairSecondary) || (s.isSecondary && theirs = pairPrimary)
    let s3 := if keep then (if s.partnerGone then s2.desync 4 else s2)
      else if r.1 then (s2.setPair pairPrimary).startJoin else s2.enterSecondary
    (s3.raise 800 0).raiseIf (!keep && r.2) 812 0

/-- LINKING has lasted 100 ms without link. -/
def pairLinkTimeout (s : State) : State :=
  if s.pairState = pairLinking && !s.ehl.linkUp && decide (s.ehl.since + 200000000 < s.now + s.tickHalfNs) then s.setPair pairSolo else s

/-! ## Lag (R424) -/

/-- The secondary's lag in half-ns: how long an FSTART waits, or how long its synthesis has run on after the FEND. -/
def State.lagHalfNs (s : State) : Nat :=
  let a := if s.ehl.fstart.isSome then s.now - s.ehl.fstartAt else 0
  let b := if s.ehl.fend.isSome then s.now - s.ehl.fendAt else 0
  let c := match s.ehl.later with | (_, t) :: _ => s.now - t | [] => 0
  max a (max b c)

/-- EHL_LAG shows the lag in µs. -/
def State.showLag (s : State) : State :=
  if s.isSecondary then s.wrN EHL_LAG (min (s.lagHalfNs / 2000) 65535) else s

def lagMaxReached (s : State) : State :=
  if s.isSecondary && decide (0 < s.lagHalfNs) && decide (2000 * s.bits EHL_LAG_MAX 15 0 < s.lagHalfNs + s.tickHalfNs) then s.desync 1 else s

/-! ## Commands of a pair (R425, R427, R437) -/

/-- A command that the state does not allow (R437). -/
def State.ehlRefuse (s : State) : State := s.raiseOnce 812 0

def ehlResync (s : State) : State :=
  if s.pairState = pairPrimary && s.ehl.linkUp then s.startJoin else s.ehlRefuse

def ehlHandover (s : State) : State :=
  if s.pairState = pairPrimary && s.ehl.linkUp && s.on EHL_STATUS_IN_SYNC then s.handOver else s.ehlRefuse

def ehlTakeover (s : State) : State := if s.isSecondary then s.takeover else s.ehlRefuse

/-! ## The tree (R431 to R436) -/

/-- The device is the tree's manager. -/
def State.manages (s : State) : Bool := s.on EHL_CFG_TREE_EN && s.on EHL_CFG_MANAGER

/-- Links to the children in the tree: 5 to 8 for DL0 to DL3. -/
def State.childLinks (s : State) : List Nat := ((List.range 4).filter (fun n => bitAt (s.get EHL_STATUS_CHILDREN) n && s.ehlUp (5 + n))).map (5 + ·)

/-- A down message goes to every child. -/
def State.toChildren (s : State) (m : EhlMsg) : State := s.childLinks.foldl (fun st l => st.ehlSend l m) s

/-- Link of the active parent. -/
def State.parentLink (s : State) : Nat := 1 + s.get EHL_STATUS_PARENT

/-- The device has an active parent. -/
def State.hasParent (s : State) : Bool := (s.ehl.parents.getD (s.get EHL_STATUS_PARENT) none).isSome

/-- TSTATUS to the active parent. -/
def State.sendStatus (s : State) : State :=
  if s.hasParent then s.ehlSend s.parentLink (.tstatus (s.get EHL_STATUS_LEVEL) (!s.drives) s.pairState s.ehl.lastLid) else s

/-- Apply time of a manager's command: now + 1.8 µs + 0.9 µs × DEPTH, in PTP ns (R433). -/
def State.treeTime (s : State) : Nat := s.ptpTotalNs + 1800 + 900 * max 1 (s.bits EHL_TREE_DEPTH 1 0)

/-- The Lid with SEQ `q` is applied: the gated commit becomes READY, or the Lid waits for a commit in preparation; any
other is ignored (R433). -/
def State.applyLid (s : State) (q t : Nat) (late : Bool) : State :=
  let waits := s.on EHL_CFG_LID_GATE && (match s.cmp.prep with | some c => c.seq == q | none => false)
  match s.cmp.gated with
  | some c =>
    if c.seq = q then
      let s1 := { s with cmp := { s.cmp with gated := none }, ehl := { s.ehl with lastLid := q } }
      let s2 := if late then (s1.count EHL_LID_LATE_CNT).raise 811 0 else s1
      (s2.readyCommit c).sendStatus
    else if waits then { s with ehl := { s.ehl with lids := s.ehl.lids ++ [(q, t)] } } else s.ehlRefuse
  | none => if waits then { s with ehl := { s.ehl with lids := s.ehl.lids ++ [(q, t)] } } else s.ehlRefuse

/-- A TLID reaches the device: it is applied at T, or at once when T has passed; a secondary only marks its time. -/
def State.takeLid (s : State) (q t : Nat) : State :=
  let s1 := s.wrN EHL_LID_APPLY_NS (t % 10 ^ 9)
  if s.isSecondary then s1
  else if t < s.ptpTotalNs then s1.applyLid q t true
  else { s1 with ehl := { s1.ehl with lids := s1.ehl.lids ++ [(q, t)] } }

/-- EHL_CMD TREE_LID on the manager. -/
def treeLid (seq : Nat) (s : State) : State :=
  if s.manages then (s.toChildren (.tlid (seq % 65536) s.treeTime)).takeLid (seq % 65536) s.treeTime else s.ehlRefuse

/-- Time T of waiting Lids is reached in this tick. -/
def lidApply (s : State) : State :=
  let due := s.ehl.lids.filter (fun e => decide (e.2 < s.ptpTickEnd))
  due.foldl (fun (st : State) e => st.applyLid e.1 e.2 false) { s with ehl := { s.ehl with lids := s.ehl.lids.filter (fun e => !decide (e.2 < s.ptpTickEnd)) } }

/-- EHL_CMD TREE_RESET on the manager. -/
def treeReset (kind : Nat) (s : State) : State :=
  if s.manages && (kind == 1 || kind == 2) then
    let s1 := s.toChildren (.treset kind s.treeTime)
    { s1 with ehl := { s1.ehl with treeReset := some (kind, s.treeTime) } }
  else s.ehlRefuse

/-- Target of EHL_SNAP_NS and EHL_SNAP_SEC, in PTP ns. -/
def State.snapTarget (s : State) : Nat :=
  10 ^ 9 * (s.rdN EHL_SNAP_SEC_LO + 2 ^ 32 * s.bits EHL_SNAP_SEC_HI 15 0) + s.rdN EHL_SNAP_NS

/-- A snapshot or freeze is armed here; LATE when its target is already reached, and then the next tick acts (R436). -/
def State.armHere (s : State) (freeze : Bool) (t : Nat) : State :=
  let s1 := (s.put ⟨EHL_SNAP_STATUS, 0, 0⟩ 1).putB ⟨EHL_SNAP_STATUS, 3, 3⟩ freeze
  let late := decide (t ≤ s.ptpTotalNs)
  let s2 := { s1 with ehl := { s1.ehl with arm := some (freeze, t, if late then s.now + s.tickHalfNs else s.now) } }
  if late then (s2.put ⟨EHL_SNAP_STATUS, 2, 2⟩ 1).raise 814 0 else s2

def snapArm (s : State) : State :=
  if s.manages then (s.toChildren (.tarm false s.snapTarget)).armHere false s.snapTarget else s.ehlRefuse

def freezeArm (s : State) : State :=
  if s.manages then (s.toChildren (.tarm true s.snapTarget)).armHere true s.snapTarget else s.ehlRefuse

/-- Offsets of the registers with an RC field, in the order of the block map. -/
def rcOffsets : List Nat :=
  (regTable.filter (fun r => r.rc != 0)).flatMap (fun r => (List.range r.count).map (fun i => r.off + r.stride * i))

/-- The freeze image: every RC register, four bytes each. -/
def State.freezeImage (s : State) : State :=
  let s1 := s.memWrite clientEhl (s.addr36 EHL_FREEZE_LO EHL_FREEZE_HI) (rcOffsets.flatMap (fun o => leBytes 4 (s.rdN o)))
  ((s1.put ⟨EHL_SNAP_STATUS, 1, 1⟩ 1).put ⟨EHL_SNAP_STATUS, 3, 3⟩ 1).raise 813 0

/-- The armed target is reached: the snapshot registers or the freeze image are written (R436). -/
def snapshotTake (s : State) : State :=
  match s.ehl.arm with
  | none => s
  | some (freeze, t, first) =>
    if s.ptpTickEnd ≤ t || decide (s.now < first) then s
    else
      let s1 := State.put { s with ehl := { s.ehl with arm := none } } ⟨EHL_SNAP_STATUS, 0, 0⟩ 0
      if freeze then s1.freezeImage else s1.ownSnapshot

/-! ## Broadcast (R434) -/

/-- Address pairs of EHL_BC_SRC and EHL_BC_DST. -/
def State.bcSrc (s : State) : Nat := s.addr36 EHL_BC_SRC_LO EHL_BC_SRC_HI / 8 * 8
def State.bcDst (s : State) : Nat := s.addr36 EHL_BC_DST_LO EHL_BC_DST_HI / 8 * 8

/-- A broadcast ends in failure. -/
def State.bcFail (s : State) (err : Nat) : State :=
  let s1 := (s.wrN EHL_BC_STATUS (3 + 2 ^ 8 * err)).raise 814 0
  { s1 with ehl := { s1.ehl with bcast := none } }

/-- START in EHL_BC_CTRL: the bytes leave in messages of at most 1,024 bytes to the children named in MASK. -/
def bcastStart (val : Word) (s : State) : State :=
  let mask := val.toNat % 16
  let s0 := s.wrN EHL_BC_CTRL mask
  let len := s.rdN EHL_BC_LEN / 8 * 8
  if s.bits EHL_BC_STATUS 1 0 = 1 then s0
  else if memSize < s.bcSrc + len then s0.bcFail 1
  else if (List.range 4).any (fun n => bitAt mask n && !s.ehlUp (5 + n)) then s0.bcFail 2
  else
    let s1 := s0.wrN EHL_BC_STATUS 1
    let s2 := { s1 with ehl := { s1.ehl with bcast := some (mask, mask) } }
    (List.range (ceilDiv len 1024)).foldl (fun st k =>
      (List.range 4).foldl (fun st1 n => if bitAt mask n then
        st1.ehlSend (5 + n) (.tbcast 15 (s.bcDst + 1024 * k) (s.memRead (s.bcSrc + 1024 * k) (min 1024 (len - 1024 * k)))) else st1) st) s2

/-- Every device has acknowledged the broadcast, or it has failed. -/
def bcastDone (err : Nat) (s : State) : State :=
  if s.bits EHL_BC_STATUS 1 0 ≠ 1 then s
  else if err = 0 then
    let s1 := (s.wrN EHL_BC_STATUS 2).raise 815 0
    { s1 with ehl := { s1.ehl with bcast := none } }
  else s.bcFail (err % 256)

/-! ## Lanes (R431, R437) -/

/-- Hierarchy link of lane l: 1 to 8 for lanes 8 to 15. -/
def laneLink (l : Nat) : Nat := l - 7

/-- The lowest-numbered up lane whose far end is in the tree becomes the active parent. -/
def State.pickParent (s : State) : State :=
  match (List.range 4).find? (fun n => (s.ehl.parents.getD n none).isSome) with
  | some n => (s.put EHL_STATUS_PARENT n).put EHL_STATUS_LEVEL (min 3 ((s.ehl.parents.getD n none).getD 0 + 1))
  | none => s

/-- A hierarchy lane comes up; `level` is the far end's level where it is in the tree. -/
def hierarchyLaneUp (l : Nat) (level : Option Nat) (eye : Nat) (s : State) : State :=
  if l < 8 ∨ 15 < l then s
  else
    let s1 := (s.laneUp l eye).setLink (laneLink l) (fun _ => linkAt s.now)
    if !s.on EHL_CFG_TREE_EN then s1
    else if 12 ≤ l then (if level.isSome then s1.put EHL_STATUS_CHILDREN (s1.get EHL_STATUS_CHILDREN ||| 2 ^ (l - 12)) else s1)
    else
      let joined := !s.hasParent && level.isSome && !s.on EHL_CFG_MANAGER
      let s2 := { s1 with ehl := { s1.ehl with parents := s1.ehl.parents.set (l - 8) level } }
      if s.on EHL_CFG_MANAGER then s2
      else if joined then ((s2.pickParent).sendStatus).raiseMask 809 (2 ^ l)
      else s2

/-- The active parent is lost: the next lane in the tree takes its place (R431). -/
def State.loseParent (s : State) : State :=
  (State.pickParent { s with ehl := { s.ehl with parents := s.ehl.parents.set (s.get EHL_STATUS_PARENT) none } }).raiseMask 810 (2 ^ (8 + s.get EHL_STATUS_PARENT))

def parentSilent (s : State) : State :=
  if s.hasParent && decide ((s.ehlLink s.parentLink).lastRx + 20000 < s.now + s.tickHalfNs) then s.loseParent else s

/-- A lane leaves UP (R438). -/
def laneDown (l : Nat) (failed : Bool) (s : State) : State :=
  if 15 < l ∨ s.get (EHL_LANE_STATUS_STATE l) ≠ 2 then s
  else
    let s0 := (s.put (EHL_LANE_STATUS_STATE l) (if failed then 3 else 1)).raiseMask 808 (2 ^ l)
    let s1 := { s0 with ehl := { s0.ehl with elastic := s0.ehl.elastic.set l none } }
    if l < 8 then { s1 with ehl := { s1.ehl with linkUp := false } }
    else if 12 ≤ l then s1.putBit EHL_STATUS (16 + (l - 12)) false
    else if s.hasParent && s.get EHL_STATUS_PARENT == l - 8 then s1.loseParent
    else { s1 with ehl := { s1.ehl with parents := s1.ehl.parents.set (l - 8) none } }

/-! ## Time over the links (R435) -/

/-- Every 1 ms TTIME leaves on the down lanes, and for the partner of a pair (log entry 84). -/
def ttimeSend (s : State) : State :=
  if s.now + s.tickHalfNs ≤ s.ehl.ttimeSent + 2000000 then s
  else
    let s1 := ((s.toChildren (.ttime s.ptpTotalNs))).ehlSend 0 (.ttime s.ptpTotalNs)
    { s1 with ehl := { s1.ehl with ttimeSent := s.now } }

/-- The link of the time source: the active parent, or the partner. -/
def State.timeLink (s : State) : Option Nat :=
  match s.bits EHL_TIME_CFG 1 0 with
  | 1 => if s.hasParent then some s.parentLink else none
  | 2 => some 0
  | _ => none

/-- A TDELAY request goes to the time source. -/
def tdelayExchange (s : State) : State :=
  match s.timeLink with
  | some l =>
    let s1 := s.ehlSend l (.tdelay (.request s.ptpTotalNs))
    { s1 with ehl := { s1.ehl with delay := some s.now } }
  | none => s

/-- Time lock is gained after 1 s within ±20 ns, or lost. -/
def timeLockChanged (s : State) : State :=
  let held := match s.ehl.lockAt with | some t => decide (t + 2 * 10 ^ 9 < s.now + s.tickHalfNs) | none => false
  if s.on EHL_STATUS_LOCK then (if s.ehl.lockAt.isNone then (s.put EHL_STATUS_LOCK 0).raise 816 0 else s)
  else if held then (s.put EHL_STATUS_LOCK 1).raise 816 0
  else s

end Sys2Proof.Machine
end

