-- ==== Sys2Proof/Machine/Engines.lean ====
section
/-!
DEFINITION. Drakor instructions (R93 to R98, R104 to R106, R111 to R119, R128 to R134): fetch, legality, the shared
operations, and the end of an instruction.  The commands of each instruction stand in EngineRows.
-/

namespace Sys2Proof.Machine

/-! ## Registers of an engine (R93) -/

def Engine.getSx (e : Engine) (r : Nat) : Word := if r = 0 then 0 else e.sx.getD r 0
def Engine.setSx (e : Engine) (r : Nat) (v : Word) : Engine := if r = 0 then e else { e with sx := e.sx.set r v }
def Engine.getVx (e : Engine) (r i : Nat) : Word := (e.vx.getD r []).getD i 0
def Engine.getPm (e : Engine) (r : Nat) : Nat := if r = 0 then 0xFFFF else e.pm.getD r 0
def Engine.setPm (e : Engine) (r v : Nat) : Engine := if r = 0 then e else { e with pm := e.pm.set r (v % 65536) }

/-- Write the lanes of vx `r` whose bit of `mask` is set. -/
def Engine.setVx (e : Engine) (r mask : Nat) (v : Nat → Word) : Engine :=
  { e with vx := e.vx.set r ((List.range 16).map (fun i => if bitAt mask i then v i else e.getVx r i)) }

/-- The lanes of a mask. -/
def lanesOf (mask : Nat) : List Nat := (List.range 16).filter (fun i => bitAt mask i)

/-! ## Instruction words (R111) -/

def iOpc (w : Nat) : Nat := bitsOf w 31 24
def iPm (w : Nat) : Nat := bitsOf w 23 21
def iDst (w : Nat) : Nat := bitsOf w 20 16
def iSa (w : Nat) : Nat := bitsOf w 15 11
def iSb (w : Nat) : Nat := bitsOf w 10 6
def iFn (w : Nat) : Nat := bitsOf w 5 0
def iImm11 (w : Nat) : Int := signedOf 11 (w % 2 ^ 11)
def iImm16 (w : Nat) : Nat := w % 65536
def iSp (w : Nat) : Nat := bitsOf w 5 1
def iClr (w : Nat) : Bool := bitAt w 0
def iBsa (w : Nat) : Nat := bitsOf w 23 19
def iOff19 (w : Nat) : Int := signedOf 19 (w % 2 ^ 19)

/-- The opcodes of classes 0b10 and 0b11 (R114). -/
def dataOpcodes : List Nat :=
  [0x80, 0x81, 0x82, 0x83, 0x84, 0x85, 0x86, 0x87, 0x88, 0x89, 0x90, 0x91, 0x92, 0x93, 0x94, 0x95, 0x98, 0x99, 0x9A, 0x9C, 0x9D, 0x9E,
   0xA0, 0xA1, 0xA2, 0xA3, 0xA4, 0xA5, 0xA8, 0xA9, 0xAA, 0xC0, 0xC1, 0xC2, 0xC3, 0xC4, 0xC8, 0xC9, 0xD0, 0xD1]

/-- The instruction that an opcode spells: OPC[4:0] for the ALU classes in their defined forms, else the opcode. -/
def instrOf (opc : Nat) : Option Nat :=
  if opc < 0x80 then
    let k := opc % 32
    if 0x18 < k then none
    else if opc / 32 = 1 ∧ (k = 0x10 ∨ k = 0x11 ∨ 0x15 < k) then none
    else some k
  else if dataOpcodes.contains opc then some opc else none

/-! ## Legality (R112) -/

/-- The ALU forms: unused fields, and the predicate and compare registers. -/
def aluLegal (w : Nat) : Bool :=
  let k := iOpc w % 32
  let form := iOpc w / 32
  let vector := decide (2 ≤ form)
  let fnOk := if k = 0x18 then true
    else if k = 0x11 then (if vector then decide (iFn w < 8) else decide (iFn w < 32))
    else iFn w == 0
  if form = 1 then iPm w == 0
  else (vector || iPm w == 0) && fnOk && (!(k == 0x16 || k == 0x17) || iSb w == 0)
    && (!(vector && decide (0x12 ≤ k ∧ k ≤ 0x15)) || decide (iDst w < 8))

/-- The other instructions; `build` is the kind of the engine. -/
def dataLegal (build : Bool) (w : Nat) : Bool :=
  let quad (r : Nat) : Bool := r % 4 == 0
  let pm0 := iPm w == 0
  match iOpc w with
  | 0x80 | 0x81 => pm0
  | 0x82 => true
  | 0x83 => iSb w == 0 && iFn w == 0
  | 0x84 => iSa w == 0 && iSb w == 0 && iFn w == 0
  | 0x85 | 0x86 => pm0 && iSb w == 0 && decide (iFn w < 16)
  | 0x87 => pm0 && decide (iDst w < 8 ∧ iSa w < 8 ∧ iSb w < 8 ∧ iFn w < 4)
  | 0x88 | 0x89 => pm0 && decide (iSa w < 8) && iSb w == 0 && iFn w == 0
  | 0x90 | 0x91 => pm0
  | 0x92 | 0x93 | 0x94 | 0x95 => true
  | 0x98 | 0x99 => pm0 && iSa w % 2 == 0 && decide (iFn w < 8)
  | 0x9A => pm0 && iDst w == 0 && iSa w == 0 && iSb w == 0 && decide (iFn w < 16)
  | 0x9C => pm0 && iSa w == 0 && iSb w == 0 && decide (iFn w < 48)
  | 0x9D => pm0 && iDst w == 0 && iSb w == 0 && decide (16 ≤ iFn w ∧ iFn w < 48)
  | 0x9E => pm0 && iDst w == 0 && iSa w == 0 && iSb w == 0 && iFn w == 0
  | 0xA0 | 0xA1 => !build && quad (iDst w) && quad (iSa w) && iSb w == 0 && !iClr w
  | 0xA2 => !build && quad (iDst w) && quad (iSa w) && iSb w == 0 && !iClr w && !pm0
  | 0xA3 => !build && quad (iDst w) && quad (iSa w) && !pm0
  | 0xA4 => !build && decide (iDst w < 8) && quad (iSa w) && iSb w == 0 && !iClr w
  | 0xA5 => !build && iDst w == 0 && quad (iSa w) && iSb w == 0 && !iClr w
  | 0xA8 => !build && quad (iSa w) && iFn w == 0
  | 0xA9 => !build && iDst w == 0 && iFn w == 0
  | 0xAA => build && pm0 && iFn w == 0
  | 0xC0 | 0xC3 => iBsa w == 0
  | 0xC1 | 0xC2 => true
  | 0xC4 | 0xD0 => iBsa w == 0 && w % 2 ^ 19 == 0
  | 0xC8 | 0xC9 => decide (iBsa w < 8)
  | 0xD1 => pm0 && iDst w == 0
  | _ => false

/-! ## How an instruction ends -/

/-- The end of an instruction: it has changed the state, has waited, has ended the item, or faults. -/
inductive EngEnd where
  | next (s : State)                        -- the program counter advances by 4
  | jump (s : State) (pc : Nat)
  | wait                                    -- operands or resources are not ready: no change
  | ended (s : State)                       -- DONE
  | fault (code : Nat) (addr : Option Nat)
  deriving DecidableEq, Repr

/-- The codes of a run that starts again: the mirror no longer counts as holding them (R120, R216). -/
def State.unmarkRun (s : State) (e : Engine) : State :=
  let h := s.hogel (bitsOf (e.word 1) 11 0) (bitsOf (e.word 1) 26 16)
  let zero (_ : Nat) : Nat := 0
  { s with frame := { s.frame with codes := (List.range e.runLen).foldl (fun l i => sparseSet zero l (h + i) 0) s.frame.codes } }

/-- A fault: the engine stops, and its item is re-dispatched or abandoned (R119, R120). -/
def State.engFault (s : State) (g code pc : Nat) (addr : Option Nat) : State :=
  let item := (s.eng g).item
  let s1 := s.stopFaulted g code pc addr
  match item with
  | none => s1
  | some it =>
    if it.build then s1.buildItemFailed it
    else if code = fcLsUncorr then
      if s1.frameOn then ((s1.unmarkRun (s.eng g)).setChan (g / 32) (fun c => { c with runs := it :: c.runs })).showQueues (g / 32) else s1
    else if s1.isSecondary then s1.desync 5
    else s1.abortFrame 2

/-- An uncorrectable word of an engine's local store: fault LS_UNCORR.  An engine in OFFLINE, FAULT or RELOAD keeps its
state, but its store no longer holds the program (R96, R110, log entry 72). -/
def State.lsUncorr (s : State) (g pc : Nat) (addr : Option Nat) : State :=
  let k := s.engState g
  if k = esRun ∨ k = esIdle ∨ k = esParked then s.engFault g fcLsUncorr pc addr
  else (((s.faultRecord g fcLsUncorr pc addr).count (CH_LS_UNCORR_CNT (g / 32))).setEng g (fun e => { e with valid := false })).chanEvent g 1

/-- Words that the code of the local store corrected (R96). -/
def State.lsCorrected (s : State) (g n : Nat) : State := if n = 0 then s else (s.countN (CH_LS_CORR_CNT (g / 32)) n).chanEvent g 2

/-- Run instruction `k` on engine g: it fetches its word, checks it, and ends as `body` says.  The command does nothing
when the engine is not running or its next word spells another instruction. -/
def State.engRow (s : State) (g : Nat) (ecc : Ecc) (k : Nat) (body : State → Nat → EngEnd) : State :=
  if 128 ≤ g ∨ s.engState g ≠ esRun then s
  else
    let pc := s.engPc g
    let e := s.eng g
    if pc % 4 ≠ 0 ∨ lsSize ≤ pc then s.engFault g fcLsRange pc (some pc)
    else if e.lsBusy pc 4 then s
    else
      let w := e.lsNat pc 4
      let ins := instrOf (iOpc w)
      if ins.isSome && ins != some k then s
      else match ecc with
        | .uncorrectable a => s.engFault g fcLsUncorr pc (some a)
        | _ =>
          let s1 := match ecc with | .corrected n => s.lsCorrected g n | _ => s
          if ins.isNone || !(if iOpc w < 0x80 then aluLegal w else dataLegal (s.engBuilds g) w) then s1.engFault g fcIllegal pc none
          else match body s1 w with
            | .next t => t.setPc g ((pc + 4) % 2 ^ 32)
            | .jump t p => t.setPc g (p % 2 ^ 32)
            | .wait => s
            | .ended t => t
            | .fault code addr => s1.engFault g code pc addr

/-- An instruction that only changes its engine's registers. -/
def State.pure (s : State) (g : Nat) (f : Engine → Engine) : EngEnd := .next (s.setEng g f)

/-! ## ALU (R113) -/

/-- Arithmetic shift right of an integer, with rounding. -/
def roundShift (v : Int) (n : Nat) : Int := if n = 0 then v else (v + 2 ^ (n - 1)) / 2 ^ n

/-- Leading zeros of a word. -/
def clz32 (a : Word) : Nat := if a.toNat = 0 then 32 else 31 - a.toNat.log2

def ofBool32 (b : Bool) : Word := if b then 1 else 0

/-- Result of ALU operation `k` with FN `fn` and the predicate `p` of SEL. -/
def aluOp (k fn : Nat) (p : Bool) (a b : Word) : Word :=
  let n := b.toNat % 32
  match k with
  | 0x00 => a + b
  | 0x01 => a - b
  | 0x02 => a * b
  | 0x03 => BitVec.ofInt 32 (a.toInt * b.toInt / 2 ^ 32)
  | 0x04 => BitVec.ofNat 32 (a.toNat * b.toNat / 2 ^ 32)
  | 0x05 => a &&& b
  | 0x06 => a ||| b
  | 0x07 => a ^^^ b
  | 0x08 => a <<< n
  | 0x09 => a >>> n
  | 0x0A => BitVec.ofInt 32 (a.toInt / 2 ^ n)
  | 0x0B => BitVec.ofInt 32 (roundShift a.toInt n)
  | 0x0C => if a.toInt ≤ b.toInt then a else b
  | 0x0D => if a.toInt ≤ b.toInt then b else a
  | 0x0E => if a.toNat ≤ b.toNat then a else b
  | 0x0F => if a.toNat ≤ b.toNat then b else a
  | 0x10 => if a.toInt < 0 then 0 else if b.toInt < a.toInt then b else a
  | 0x11 => if p then a else b
  | 0x12 => ofBool32 (a == b)
  | 0x13 => ofBool32 (decide (a.toInt < b.toInt))
  | 0x14 => ofBool32 (decide (a.toNat < b.toNat))
  | 0x15 => ofBool32 (decide (a.toInt ≤ b.toInt))
  | 0x16 => if a.toInt < 0 then -a else a
  | 0x17 => BitVec.ofNat 32 (clz32 a)
  | _ => BitVec.ofInt 32 (roundShift (a.toInt * b.toInt) fn)

/-- The four forms of an ALU instruction on an engine. -/
def Engine.alu (e : Engine) (w : Nat) : Engine :=
  let k := iOpc w % 32
  let fn := iFn w
  match iOpc w / 32 with
  | 0 => e.setSx (iDst w) (aluOp k fn (e.getSx (fn % 32) != 0) (e.getSx (iSa w)) (e.getSx (iSb w)))
  | 1 => e.setSx (iDst w) (aluOp k 0 false (e.getSx (iSa w)) (BitVec.ofInt 32 (iImm11 w)))
  | f =>
    let mask := e.getPm (iPm w)
    let r (i : Nat) : Word := aluOp k fn (bitAt (e.getPm (fn % 8)) i) (e.getVx (iSa w) i)
      (if f = 2 then e.getVx (iSb w) i else e.getSx (iSb w))
    if 0x12 ≤ k ∧ k ≤ 0x15 then
      e.setPm (iDst w) ((List.range 16).foldl (fun m i =>
        m + (if bitAt mask i then (r i).toNat % 2 else bit (bitAt (e.getPm (iDst w)) i)) * 2 ^ i) 0)
    else e.setVx (iDst w) mask r

/-- An ALU instruction. -/
def aluRow (k g : Nat) (ecc : Ecc) (s : State) : State := s.engRow g ecc k (fun t w => t.pure g (fun e => e.alu w))

/-! ## Local store (R96, R98, R114) -/

/-- The address BASE + scale × OFF11. -/
def Engine.lsAddr (e : Engine) (w scale : Nat) : Nat := (e.getSx (iSa w) + BitVec.ofInt 32 (scale * iImm11 w)).toNat

/-- Address of lane i of LDX and STX. -/
def Engine.laneAddr (e : Engine) (w i : Nat) : Nat := (e.getVx (iSa w) i + BitVec.ofInt 32 (4 * iImm11 w)).toNat

/-- An access of `n` bytes at `a`: a fault when it is out of range or misaligned, a wait when a transfer overlaps. -/
def Engine.lsGate (e : Engine) (a n : Nat) (go : EngEnd) : EngEnd :=
  if a % n ≠ 0 ∨ lsSize < a + n then .fault fcLsRange (some a) else if e.lsBusy a n then .wait else go

/-- The accesses of the lanes in PM: the first bad address faults. -/
def Engine.laneGate (e : Engine) (w : Nat) (go : EngEnd) : EngEnd :=
  let as := (lanesOf (e.getPm (iPm w))).map (e.laneAddr w)
  match as.find? (fun a => decide (a % 4 ≠ 0 ∨ lsSize < a + 4)) with
  | some a => .fault fcLsRange (some a)
  | none => if as.any (fun a => e.lsBusy a 4) then .wait else go

/-! ## DMA (R115) -/

/-- DMRD and DMWR start a transfer, or wait for its tag or for an overlapping one. -/
def dmaStart (g : Nat) (write : Bool) (s : State) (w : Nat) : EngEnd :=
  let e := s.eng g
  let ls := (e.getSx (iDst w)).toNat
  let dev := (e.getSx (iSa w)).toNat + 2 ^ 32 * ((e.getSx (iSa w + 1)).toNat % 16)
  let len := (e.getSx (iSb w)).toNat
  let tag := iFn w % 8
  if (e.tags.getD tag none).isSome then .wait
  else if ls % 16 ≠ 0 ∨ lsSize < ls + len then .fault fcLsRange (some ls)
  else if dev % 16 ≠ 0 ∨ len % 16 ≠ 0 ∨ len = 0 ∨ 65536 < len then .fault fcDmRange (some dev)
  else if write && (!s.engBuilds g || !s.inWindow (g / 32) dev len) then .fault fcDmRange (some dev)
  else if !write && decide (memSize < dev + len) then .fault fcDmRange (some dev)
  else if e.lsBusy ls len then .wait
  else .next (s.setEng g (fun e => { e with tags := e.tags.set tag (some { ls := ls, dev := dev, len := len, write := write, pc := s.engPc g }) }))

/-! ## Sampler (R116, R128 to R132) -/

/-- The ray of lane i: X, Y, U, V and LIMIT. -/
def Engine.ray (e : Engine) (r i : Nat) : Int × Int × Int × Int × Nat :=
  let a := (e.getVx r i).toNat
  let b := (e.getVx (r + 1) i).toNat
  ((bitsOf a 11 0 : Nat), (bitsOf a 26 16 : Nat), signedOf 16 b, signedOf 16 (b / 65536), min (bitsOf (e.getVx (r + 2) i).toNat 6 0) 64)

/-- The sample position of lane i on a plane. -/
def Engine.samplePos (e : Engine) (p : DirPlane) (r i : Nat) : Int × Int :=
  let q := e.ray r i
  Machine.samplePos q.1 q.2.1 q.2.2.1 q.2.2.2.1 p.disp

/-- Count lane-samples in units of 65,536. -/
def State.countSamples (s : State) (c n : Nat) : State :=
  let t := (s.chan c).samples + n
  (s.setChan c (fun k => { k with samples := t % 65536 })).countN (CH_SAMPLE_CNT c) (t / 65536)

/-- SMP and SMPN. -/
def sampleQuad (g : Nat) (near : Bool) (s : State) (w : Nat) : EngEnd :=
  let e := s.eng g
  let mask := e.getPm (iPm w)
  let d := iDst w
  let p? := s.frame.planes[(e.getSx (iSp w)).toNat]?
  let m := s.throughCache (g / 32)
  let smp (i : Nat) : List Nat := match p? with
    | none => [0, 0, 0, 0]
    | some p =>
      let q := e.samplePos p (iSa w) i
      if near then let t := nearestTap q; m.tap p t.1 t.2 else m.bilinear p q
  let poisoned := match p? with
    | none => false
    | some p => (lanesOf mask).any (fun i =>
        let q := e.samplePos p (iSa w) i
        (if near then [nearestTap q] else tapsOf q).any (fun t => m.tapPoisoned p t.1 t.2))
  let s1 := (s.setEng g (fun e => (List.range 4).foldl (fun x m => x.setVx (d + m) mask (fun i => BitVec.ofNat 32 ((smp i).getD m 0))) e)).countSamples
    (g / 32) (lanesOf mask).length
  .next (if poisoned then s1.chanEvent g 4 else s1)

/-- One SMPO step of plane index `p` on engine g (R132). -/
def State.smpoStep (s : State) (g w p : Nat) : State :=
  let e := s.eng g
  let pm := iPm w
  let mask := e.getPm pm
  let d := iDst w
  let lanes := lanesOf mask
  let beyond := lanes.filter (fun i => decide ((e.ray (iSa w) i).2.2.2.2 ≤ p))
  let live := lanes.filter (fun i => !beyond.contains i)
  let p? := s.frame.planes[p]?
  let m := s.throughCache (g / 32)
  let acc (i : Nat) : Accum := (List.range 4).map (fun m => (e.getVx (d + m) i).toNat)
  let res (i : Nat) : Accum × Bool := compositeBehind (acc i) (match p? with
    | none => [0, 0, 0, 0] | some q => m.bilinear q (e.samplePos q (iSa w) i))
  let poisoned := match p? with
    | none => false
    | some q => live.any (fun i => (tapsOf (e.samplePos q (iSa w) i)).any (fun t => m.tapPoisoned q t.1 t.2))
  let liveMask := live.foldl (fun m i => m + 2 ^ i) 0
  let keep := (live.filter (fun i => !(res i).2)).foldl (fun m i => m + 2 ^ i) 0
  let e1 := (List.range 4).foldl (fun (x : Engine) m => x.setVx (d + m) liveMask (fun i => BitVec.ofNat 32 ((res i).1.getD m 0))) e
  let s1 := (s.setEng g (fun _ => e1.setPm pm keep)).countSamples (g / 32) live.length
  if poisoned then s1.chanEvent g 4 else s1

/-- The planes of a SWEEP from p on, `fuel` steps at most: it stops when pm PM is empty; the second answer is the first
plane that it did not sample. -/
def State.sweepFrom (s : State) (g w : Nat) : Nat → Nat → State × Nat
  | 0, p => (s, p)
  | n + 1, p => if (s.eng g).getPm (iPm w) = 0 then (s, p) else (s.smpoStep g w p).sweepFrom g w n (p + 1)

/-! ## Output (R117) -/

/-- Hogel and ray of an index of the run in hand. -/
def Engine.rayOf (e : Engine) (idx : Nat) : Nat × Nat × Nat := (bitsOf (e.word 1) 11 0 + idx / 432, bitsOf (e.word 1) 26 16, idx % 432)

/-- The code of lane i; a free value for an index off the panel. -/
def driveLane (s : State) (e : Engine) (w i : Nat) : Word :=
  let q := e.rayOf (e.getVx (iSb w) i).toNat
  if q.1 < s.geomW ∧ q.2.1 < s.geomH then
    BitVec.ofNat 32 (s.rayCode q.1 q.2.1 q.2.2 (e.getVx (iSa w + q.2.2 % 3) i).toNat).1
  else Config.freeWord (s.freeCtr + i)

/-- Poisoned words of the correction map that the lanes of a DRIVE meet are noted; they cost a secondary its sync (R424). -/
def State.drivePoison (s : State) (g w : Nat) : State :=
  let e := s.eng g
  let mask := e.getPm (iPm w)
  let bad := dedup ((lanesOf mask).filterMap (fun i =>
    let q := e.rayOf (e.getVx (iSb w) i).toNat
    if decide (q.1 < s.geomW ∧ q.2.1 < s.geomH) && (s.rayCode q.1 q.2.1 q.2.2 0).2 then
      some (s.corrAddr (s.rayIdx q.1 q.2.1 q.2.2) / 16) else none))
  let s0 := bad.foldl (fun st _ => (st.notePoisonRead (g / 32)).mapPoison) s
  if bad.isEmpty then s0 else s0.desync 5

/-- DRIVE. -/
def driveEnd (g : Nat) (s : State) (w : Nat) : EngEnd :=
  .next (((s.drivePoison g w).freeSkip 16).setEng g (fun e => e.setVx (iDst w) (e.getPm (iPm w)) (driveLane s e w)))

/-- One code enters the mirror, the packet assembly and the clone copies (R117, R216, R244). -/
def State.emitCode (s : State) (g idx code : Nat) : State :=
  let q := (s.eng g).rayOf idx
  let h := s.hogel q.1 q.2.1
  let s1 := (s.putMirror (g / 32) q.1 q.2.1 q.2.2 code).captureRay q.1 q.2.1 q.2.2 code
  let zero (_ : Nat) : Nat := 0
  { s1 with frame := { s1.frame with codes := sparseSet zero s1.frame.codes h (sparseGet zero s1.frame.codes h ||| 2 ^ q.2.2) } }

/-- EMIT. -/
def emitEnd (g : Nat) (s : State) (w : Nat) : EngEnd :=
  let e := s.eng g
  let es := (lanesOf (e.getPm (iPm w))).map (fun i => ((e.getVx (iSb w) i).toNat, (e.getVx (iSa w) i).toNat % 4096))
  match es.find? (fun x => decide (432 * e.runLen ≤ x.1)) with
  | some x => .fault fcEmitRange (some x.1)
  | none =>
    let dup := (List.range es.length).find? (fun j =>
      let x := es.getD j (0, 0)
      bitAt e.emitted x.1 || (es.take j).any (fun y => y.1 == x.1))
    match dup with
    | some j => .fault fcEmitDup (some (es.getD j (0, 0)).1)
    | none =>
      let s1 := s.setEng g (fun k => { k with emitted := es.foldl (fun m x => m ||| 2 ^ x.1) k.emitted })
      .next (es.foldl (fun (st : State) (x : Nat × Nat) => st.emitCode g x.1 x.2) s1).closeWindows

/-- DONE ends the item (R104, R117). -/
def doneEnd (g : Nat) (s : State) (_ : Nat) : EngEnd :=
  let e := s.eng g
  match e.item with
  | none => .wait
  | some it =>
    if !it.build && e.emitted != 2 ^ (432 * e.runLen) - 1 then .fault fcDoneIncomplete none
    else
      let s1 := ((s.count (CH_RUNS_DONE (g / 32))).count (CH_ENG_RUNS (g / 32) (g % 32))).engFree g
      .ended (if it.build then s1.buildItemDone (g / 32) it else s1)

/-! ## Control registers (R105) -/

/-- ENGCLK cycles, 1.5 a nanosecond, since the gate of channel c opened: those up to the start of the tick, and a free
number of the tick's own (log entry 71). -/
def State.engCycles (s : State) (c : Nat) : Nat :=
  3 * (s.now - (s.chan c).gateAt) / 4 + s.freeVal.toNat % (3 * s.tickHalfNs / 4 + 1)

/-- The register that RDCSR reads. -/
def State.csr (s : State) (g i : Nat) : Word :=
  let e := s.eng g
  if i = 0 then BitVec.ofNat 32 g
  else if i = 1 then BitVec.ofNat 32 (g / 32)
  else if i = 2 then BitVec.ofNat 32 (bit (s.engBuilds g))
  else if i = 3 then BitVec.ofNat 32 (s.engCycles (g / 32))
  else if i = 4 then e.cycHi
  else if i = 5 then BitVec.ofNat 32 (s.rdN SPL_FRAME_CNT + 1)
  else if i = 6 then BitVec.ofNat 32 (s.get CMP_SYN_STATUS_LEVEL)
  else if i = 7 then BitVec.ofNat 32 s.frame.planes.length
  else if i < 16 then e.wi.getD (i - 8) 0
  else e.scratch.getD (i - 16) 0

/-- RDCSR: reading CYCLE_LO latches CYCLE_HI. -/
def rdcsrEnd (g : Nat) (s : State) (w : Nat) : EngEnd :=
  let s1 := s.setEng g (fun e => e.setSx (iDst w) (s.csr g (iFn w)))
  if iFn w = 3 then
    .next (s1.freeNext.setEng g (fun e => { e with cycHi := BitVec.ofNat 32 (s.engCycles (g / 32) / 2 ^ 32) }))
  else .next s1

/-! ## TWR (R118) -/

/-- TWR; a position outside the stack leaves a free value and writes nothing. -/
def twrEnd (g : Nat) (s : State) (w : Nat) : EngEnd :=
  let e := s.eng g
  let a := (e.getSx (iSa w)).toNat
  let pos := (e.getSx (iSb w)).toNat
  if a % 16 ≠ 0 ∨ lsSize < a + 5120 then .fault fcLsRange (some a)
  else if e.lsBusy a 5120 then .wait
  else
    let n := match s.cam.build with | some b => b.tables.length | none => 64
    if bitsOf pos 21 16 < n ∧ bitsOf pos 13 8 < s.tileRows ∧ bitsOf pos 6 0 < s.tileCols then
      let r := s.tileWrite (g / 32) pos (e.lsRead a 5120)
      .next (r.1.setEng g (fun k => k.setSx (iDst w) (BitVec.ofNat 32 (r.2.getD 0xFFFFFFFF))))
    else .next (s.freeNext.setEng g (fun k => k.setSx (iDst w) s.freeVal))

end Sys2Proof.Machine
end

