-- ==== Sys2Proof/Machine/HostBase.lean ====
section
/-!
DEFINITION. What host accesses share: the locks of RWL bits (R53), plain writes by access code (R5), and read
completions.
-/

namespace Sys2Proof.Machine

/-- Bits of the register at `off` that the applied image leaves unlocked (R53). -/
def State.unlocked (s : State) (off : Nat) : Nat :=
  match s.csu.image with
  | some im => unlockMask im.structSec off
  | none => 0

/-- A refused write is recorded, counted and reported (R53). -/
def State.lockFault (s : State) (off : Nat) : State := ((s.wrN CSU_LOCK_FAULT off).count CSU_LOCK_FAULT_CNT).raise 35 0

/-- A write of the bits `mask` of an RWL register: locked bits keep their value, and a change of one is refused. -/
def State.lockedBits (s : State) (off mask : Nat) (val : Word) : State :=
  let old := s.rdN off
  let free := mask &&& s.unlocked off
  let s1 := s.wrN off (old ^^^ ((old ^^^ val.toNat) &&& free))
  if (old ^^^ val.toNat) &&& (mask ^^^ free) ≠ 0 then s1.lockFault off else s1

/-- A write of a register all of whose written bits are RWL. -/
def State.lockedWrite (s : State) (off : Nat) (val : Word) : State := s.lockedBits off (rwlBits off) val

/-- A plain write by the access codes of the register's fields (R5). -/
def State.plainWrite (s : State) (off : Nat) (val : Word) : State :=
  match regRowAt off with
  | none => s
  | some r =>
    let old := s.rdN off
    let s1 := s.wrN off ((old ^^^ ((old ^^^ val.toNat) &&& r.rw)) &&& (2 ^ 32 - 1 - (val.toNat &&& r.w1c)))
    if r.rwl = 0 then s1 else s1.lockedBits off r.rwl val

/-- The completion of a host read. -/
def State.complete (s : State) (bytes : List Byte) (poisoned : Bool) : State :=
  { s with pcie := { s.pcie with completion := some ⟨bytes, poisoned⟩ } }

end Sys2Proof.Machine
end

