-- ==== Sys2Proof/Machine/EngineRows.lean ====
section
/-!
DEFINITION. The commands of the Drakor engines: each instruction (R113 to R119), and what happens around them (R96,
R97, R110, R115, R119, R123).
-/

namespace Sys2Proof.Machine

/-! ## ALU (R113): the four forms of each operation -/

def engAdd (g : Nat) (ecc : Ecc) (s : State) : State := aluRow 0x00 g ecc s
def engSub (g : Nat) (ecc : Ecc) (s : State) : State := aluRow 0x01 g ecc s
def engMul (g : Nat) (ecc : Ecc) (s : State) : State := aluRow 0x02 g ecc s
def engMulh (g : Nat) (ecc : Ecc) (s : State) : State := aluRow 0x03 g ecc s
def engMulhu (g : Nat) (ecc : Ecc) (s : State) : State := aluRow 0x04 g ecc s
def engAnd (g : Nat) (ecc : Ecc) (s : State) : State := aluRow 0x05 g ecc s
def engOr (g : Nat) (ecc : Ecc) (s : State) : State := aluRow 0x06 g ecc s
def engXor (g : Nat) (ecc : Ecc) (s : State) : State := aluRow 0x07 g ecc s
def engShl (g : Nat) (ecc : Ecc) (s : State) : State := aluRow 0x08 g ecc s
def engShr (g : Nat) (ecc : Ecc) (s : State) : State := aluRow 0x09 g ecc s
def engSra (g : Nat) (ecc : Ecc) (s : State) : State := aluRow 0x0A g ecc s
def engSrar (g : Nat) (ecc : Ecc) (s : State) : State := aluRow 0x0B g ecc s
def engMin (g : Nat) (ecc : Ecc) (s : State) : State := aluRow 0x0C g ecc s
def engMax (g : Nat) (ecc : Ecc) (s : State) : State := aluRow 0x0D g ecc s
def engMinu (g : Nat) (ecc : Ecc) (s : State) : State := aluRow 0x0E g ecc s
def engMaxu (g : Nat) (ecc : Ecc) (s : State) : State := aluRow 0x0F g ecc s
def engClampu (g : Nat) (ecc : Ecc) (s : State) : State := aluRow 0x10 g ecc s
def engSel (g : Nat) (ecc : Ecc) (s : State) : State := aluRow 0x11 g ecc s
def engCmpeq (g : Nat) (ecc : Ecc) (s : State) : State := aluRow 0x12 g ecc s
def engCmplt (g : Nat) (ecc : Ecc) (s : State) : State := aluRow 0x13 g ecc s
def engCmpltu (g : Nat) (ecc : Ecc) (s : State) : State := aluRow 0x14 g ecc s
def engCmple (g : Nat) (ecc : Ecc) (s : State) : State := aluRow 0x15 g ecc s
def engAbs (g : Nat) (ecc : Ecc) (s : State) : State := aluRow 0x16 g ecc s
def engClz (g : Nat) (ecc : Ecc) (s : State) : State := aluRow 0x17 g ecc s
def engMulsr (g : Nat) (ecc : Ecc) (s : State) : State := aluRow 0x18 g ecc s

/-! ## Moves and predicates (R114) -/

/-- IMM16, sign-extended. -/
def immWord (w : Nat) : Word := BitVec.ofInt 32 (signedOf 16 (iImm16 w))

def engMovi (g : Nat) (ecc : Ecc) (s : State) : State :=
  s.engRow g ecc 0x80 (fun t w => t.pure g (fun e => e.setSx (iDst w) (immWord w)))
def engMovhi (g : Nat) (ecc : Ecc) (s : State) : State :=
  s.engRow g ecc 0x81 (fun t w => t.pure g (fun e =>
    e.setSx (iDst w) (BitVec.ofNat 32 ((e.getSx (iDst w)).toNat % 65536 + 65536 * iImm16 w))))
def engVmovi (g : Nat) (ecc : Ecc) (s : State) : State :=
  s.engRow g ecc 0x82 (fun t w => t.pure g (fun e => e.setVx (iDst w) (e.getPm (iPm w)) (fun _ => immWord w)))
def engBcst (g : Nat) (ecc : Ecc) (s : State) : State :=
  s.engRow g ecc 0x83 (fun t w => t.pure g (fun e => e.setVx (iDst w) (e.getPm (iPm w)) (fun _ => e.getSx (iSa w))))
def engLaneid (g : Nat) (ecc : Ecc) (s : State) : State :=
  s.engRow g ecc 0x84 (fun t w => t.pure g (fun e => e.setVx (iDst w) (e.getPm (iPm w)) (fun i => BitVec.ofNat 32 i)))
def engVext (g : Nat) (ecc : Ecc) (s : State) : State :=
  s.engRow g ecc 0x85 (fun t w => t.pure g (fun e => e.setSx (iDst w) (e.getVx (iSa w) (iFn w))))
def engVins (g : Nat) (ecc : Ecc) (s : State) : State :=
  s.engRow g ecc 0x86 (fun t w => t.pure g (fun e => e.setVx (iDst w) (2 ^ iFn w) (fun _ => e.getSx (iSa w))))

/-- PLOGIC's operation FN. -/
def plogicOp (fn a b : Nat) : Nat :=
  match fn with
  | 0 => a &&& b
  | 1 => a ||| b
  | 2 => a ^^^ b
  | _ => a &&& (65535 ^^^ b)

def engPlogic (g : Nat) (ecc : Ecc) (s : State) : State :=
  s.engRow g ecc 0x87 (fun t w => t.pure g (fun e => e.setPm (iDst w) (plogicOp (iFn w) (e.getPm (iSa w)) (e.getPm (iSb w)))))
def engPany (g : Nat) (ecc : Ecc) (s : State) : State :=
  s.engRow g ecc 0x88 (fun t w => t.pure g (fun e => e.setSx (iDst w) (ofBool32 (e.getPm (iSa w) != 0))))
def engPcnt (g : Nat) (ecc : Ecc) (s : State) : State :=
  s.engRow g ecc 0x89 (fun t w => t.pure g (fun e => e.setSx (iDst w) (BitVec.ofNat 32 (lanesOf (e.getPm (iSa w))).length)))

/-! ## Local-store accesses (R96, R98, R114) -/

def engLds (g : Nat) (ecc : Ecc) (s : State) : State :=
  s.engRow g ecc 0x90 (fun t w =>
    let e := t.eng g
    let a := e.lsAddr w 4
    e.lsGate a 4 (t.pure g (fun e => e.setSx (iDst w) (BitVec.ofNat 32 (e.lsNat a 4)))))
def engSts (g : Nat) (ecc : Ecc) (s : State) : State :=
  s.engRow g ecc 0x91 (fun t w =>
    let e := t.eng g
    let a := e.lsAddr w 4
    e.lsGate a 4 (t.pure g (fun e => e.lsWrite a (leBytes 4 (e.getSx (iDst w)).toNat))))
def engLdv (g : Nat) (ecc : Ecc) (s : State) : State :=
  s.engRow g ecc 0x92 (fun t w =>
    let e := t.eng g
    let a := e.lsAddr w 64
    e.lsGate a 64 (t.pure g (fun e => e.setVx (iDst w) (e.getPm (iPm w)) (fun i => BitVec.ofNat 32 (e.lsNat (a + 4 * i) 4)))))
def engStv (g : Nat) (ecc : Ecc) (s : State) : State :=
  s.engRow g ecc 0x93 (fun t w =>
    let e := t.eng g
    let a := e.lsAddr w 64
    e.lsGate a 64 (t.pure g (fun e =>
      (lanesOf (e.getPm (iPm w))).foldl (fun (x : Engine) i => x.lsWrite (a + 4 * i) (leBytes 4 (e.getVx (iDst w) i).toNat)) e)))
def engLdx (g : Nat) (ecc : Ecc) (s : State) : State :=
  s.engRow g ecc 0x94 (fun t w =>
    (t.eng g).laneGate w (t.pure g (fun e =>
      e.setVx (iDst w) (e.getPm (iPm w)) (fun i => BitVec.ofNat 32 (e.lsNat (e.laneAddr w i) 4)))))
def engStx (g : Nat) (ecc : Ecc) (s : State) : State :=
  s.engRow g ecc 0x95 (fun t w =>
    (t.eng g).laneGate w (t.pure g (fun e =>
      (lanesOf (e.getPm (iPm w))).foldl (fun (x : Engine) i => x.lsWrite (e.laneAddr w i) (leBytes 4 (e.getVx (iDst w) i).toNat)) e)))

/-! ## DMA, control registers and FENCE (R105, R114, R115) -/

def engDmrd (g : Nat) (ecc : Ecc) (s : State) : State := s.engRow g ecc 0x98 (dmaStart g false)
def engDmwr (g : Nat) (ecc : Ecc) (s : State) : State := s.engRow g ecc 0x99 (dmaStart g true)

/-- DMWAIT waits for tag FN[2:0], or for all tags with FN[3]. -/
def engDmwait (g : Nat) (ecc : Ecc) (s : State) : State :=
  s.engRow g ecc 0x9A (fun t w =>
    let tags := (t.eng g).tags
    if (if 8 ≤ iFn w then tags.any Option.isSome else (tags.getD (iFn w) none).isSome) then .wait else .next t)
def engRdcsr (g : Nat) (ecc : Ecc) (s : State) : State := s.engRow g ecc 0x9C (rdcsrEnd g)
def engWrcsr (g : Nat) (ecc : Ecc) (s : State) : State :=
  s.engRow g ecc 0x9D (fun t w => t.pure g (fun e => { e with scratch := e.scratch.set (iFn w - 16) (e.getSx (iSa w)) }))
def engFence (g : Nat) (ecc : Ecc) (s : State) : State :=
  s.engRow g ecc 0x9E (fun t _ => if (t.eng g).tags.any Option.isSome then .wait else .next t)

/-! ## Sampler and output (R116 to R118, R128 to R134) -/

def engSmp (g : Nat) (ecc : Ecc) (s : State) : State := s.engRow g ecc 0xA0 (sampleQuad g false)
def engSmpn (g : Nat) (ecc : Ecc) (s : State) : State := s.engRow g ecc 0xA1 (sampleQuad g true)
def engSmpo (g : Nat) (ecc : Ecc) (s : State) : State :=
  s.engRow g ecc 0xA2 (fun t w => .next (t.smpoStep g w ((t.eng g).getSx (iSp w)).toNat))

/-- SWEEP: CLR empties the accumulators of the lanes in PM first; the first plane not sampled goes to sx SP.  No lane
outlives plane 63, so 65 steps reach the end of any sweep. -/
def engSweep (g : Nat) (ecc : Ecc) (s : State) : State :=
  s.engRow g ecc 0xA3 (fun t w =>
    let e := t.eng g
    let sp := (e.getSx (iSp w)).toNat
    let sl := (e.getSx (iSb w)).toNat
    let t1 := if iClr w then t.setEng g (fun e => (List.range 4).foldl (fun (x : Engine) m => x.setVx (iDst w + m) (e.getPm (iPm w)) (fun _ => 0)) e) else t
    let r := t1.sweepFrom g w (min (sl - sp) 65) sp
    .next (r.1.setEng g (fun e => e.setSx (iSp w) (BitVec.ofNat 32 r.2))))

/-- OCC: the lanes of PM whose footprint on the plane touches a present tile. -/
def engOcc (g : Nat) (ecc : Ecc) (s : State) : State :=
  s.engRow g ecc 0xA4 (fun t w => t.pure g (fun e =>
    match t.frame.planes[(e.getSx (iSp w)).toNat]? with
    | none => e.setPm (iDst w) 0
    | some p => e.setPm (iDst w) (((lanesOf (e.getPm (iPm w))).filter (fun i =>
        (tapsOf (e.samplePos p (iSa w) i)).any (fun q => (t.tapAddr p q.1 q.2).isSome))).foldl (fun m i => m + 2 ^ i) 0)))

/-- PFT changes when data arrive, never a result (R94). -/
def engPft (g : Nat) (ecc : Ecc) (s : State) : State := s.engRow g ecc 0xA5 (fun t _ => .next t)
def engDrive (g : Nat) (ecc : Ecc) (s : State) : State := s.engRow g ecc 0xA8 (driveEnd g)
def engEmit (g : Nat) (ecc : Ecc) (s : State) : State := s.engRow g ecc 0xA9 (emitEnd g)
def engTwr (g : Nat) (ecc : Ecc) (s : State) : State := s.engRow g ecc 0xAA (twrEnd g)

/-! ## Control (R112, R114) -/

/-- Branch when a condition holds: the target is the address of the branch plus 4 × OFF19. -/
def State.branch (s : State) (g w : Nat) (c : Bool) : EngEnd :=
  if c then .jump s (BitVec.ofInt 32 (s.engPc g + 4 * iOff19 w)).toNat else .next s

def engBr (g : Nat) (ecc : Ecc) (s : State) : State := s.engRow g ecc 0xC0 (fun t w => t.branch g w true)
def engBz (g : Nat) (ecc : Ecc) (s : State) : State :=
  s.engRow g ecc 0xC1 (fun t w => t.branch g w ((t.eng g).getSx (iBsa w) == 0))
def engBnz (g : Nat) (ecc : Ecc) (s : State) : State :=
  s.engRow g ecc 0xC2 (fun t w => t.branch g w ((t.eng g).getSx (iBsa w) != 0))
def engCall (g : Nat) (ecc : Ecc) (s : State) : State :=
  s.engRow g ecc 0xC3 (fun t w => (t.setEng g (fun e => e.setSx 31 (BitVec.ofNat 32 (t.engPc g + 4)))).branch g w true)
def engRet (g : Nat) (ecc : Ecc) (s : State) : State :=
  s.engRow g ecc 0xC4 (fun t _ => .jump t ((t.eng g).getSx 31).toNat)
def engVbany (g : Nat) (ecc : Ecc) (s : State) : State :=
  s.engRow g ecc 0xC8 (fun t w => t.branch g w ((t.eng g).getPm (iBsa w) != 0))
def engVbnone (g : Nat) (ecc : Ecc) (s : State) : State :=
  s.engRow g ecc 0xC9 (fun t w => t.branch g w ((t.eng g).getPm (iBsa w) == 0))
def engDone (g : Nat) (ecc : Ecc) (s : State) : State := s.engRow g ecc 0xD0 (doneEnd g)
def engTrap (g : Nat) (ecc : Ecc) (s : State) : State := s.engRow g ecc 0xD1 (fun _ w => .fault fcTrap (some (iImm16 w)))

/-! ## Around the instructions -/

/-- Release a DMA tag. -/
def State.freeTag (s : State) (g tag : Nat) : State := s.setEng g (fun e => { e with tags := e.tags.set tag none })

/-- A transfer completes and releases its tag, or faults with DM_POISON (R115).  A DMWR reads local store, whose code
answers `ecc`: an uncorrectable word stops the engine and nothing is written (R96). -/
def dmaTransferComplete (g tag : Nat) (ecc : Ecc) (s : State) : State :=
  match (s.eng g).tags.getD tag none with
  | none => s
  | some x =>
    match x.write, ecc with
    | true, .uncorrectable a => (s.freeTag g tag).lsUncorr g x.pc (some a)
    | w, e =>
      let s0 := match w, e with | true, .corrected n => s.lsCorrected g n | _, _ => s
      let r := s0.dmaCarry g x
      let s1 := r.1.freeTag g tag
      if r.2 then s1.engFault g fcDmPoison x.pc (some x.dev) else s1

/-- A work item has run CH_WI_LIMIT cycles of 1.5 GHz; 0 disables the limit (R119). -/
def wiTimeout (g : Nat) (s : State) : State :=
  let limit := s.rdN (CH_WI_LIMIT (g / 32))
  if g < 128 ∧ s.engState g = esRun ∧ limit ≠ 0 ∧ 3 * (s.eng g).start + 4 * limit < 3 * (s.now + s.tickHalfNs) then
    s.engFault g fcTimeout (s.engPc g) none
  else s

/-- One cycle after a fault the engine enters RELOAD (R110). -/
def engReloadStart (g : Nat) (s : State) : State := if g < 128 ∧ s.engState g = esFault then s.setEngState g esReload else s

/-- The engine's local store has been rewritten from the reload copy and scrubbed, or the copy cannot be read, and then
the store does not hold the program (R110, R119). -/
def engReloadDone (g : Nat) (ok : Bool) (s : State) : State :=
  if 128 ≤ g ∨ s.engState g ≠ esReload then s
  else if !ok || s.poisonedIn (s.controlAt (10 + g / 32)) lsSize then
    ((State.setEng (s.faultRecord g fcReloadFail (s.engPc g) none) g (fun e => { e with valid := false })).setEngState g esOffline).chanEvent g 6
  else
    let s1 := s.setEng g (fun e => { e with ls := s.reloadCopy (g / 32), valid := true, dirty := false })
    if !(s1.engEnabled g && s1.chanRuns (g / 32)) then s1.setEngState g esOffline
    else if s1.engBuilds g then (s1.setEngState g esIdle).chanEvent g 5
    else s1.setEngState g esParked

/-- The patrol scrubber has read its next word of every engine of channel c: masks of the engines whose word was
corrected, and of those whose word could not be (R96). -/
def lsScrub (c corrected uncorrectable : Nat) (s : State) : State :=
  if 4 ≤ c ∨ !s.gateOpen c then s
  else
    let a := 16 * (s.chan c).scrub
    let s0 := s.setChan c (fun ch => { ch with scrub := (ch.scrub + 1) % 32768 })
    let s1 := ((List.range 32).filter (fun e => bitAt corrected e)).foldl (fun st e => st.lsCorrected (32 * c + e) 1) s0
    ((List.range 32).filter (fun e => bitAt uncorrectable e)).foldl (fun (st : State) e =>
      st.lsUncorr (32 * c + e) (st.engPc (32 * c + e)) (some a)) s1

/-- The cache of channel c takes a line from memory; the line that leaves a full set is a free choice. -/
def State.cacheLine (s : State) (c line : Nat) : State :=
  (s.setChan c (fun ch => ch.fill s.freeVal.toNat
    ⟨line, s.memRead (256 * line) 256, s.poison.filter (fun w => w / 16 == line)⟩)).freeNext

/-- A plane-cache line arrives for engine g of channel g / 32: it is filled, corrected, or discarded and fetched again
(R97); `line` is its device address over 256. -/
def pcLineFill (g line : Nat) (ecc : Ecc) (s : State) : State :=
  let c := g / 32
  if 128 ≤ g ∨ !s.gateOpen c ∨ memSize ≤ 256 * line then s
  else
    let s0 := if s.poisonedIn (256 * line) 256 then s.notePoisonRead c else s
    let s1 := s0.count (CH_PC_FILL_CNT c)
    match ecc with
    | .clean => s1.cacheLine c line
    | .corrected n => (s1.cacheLine c line).countN (CH_PC_CORR_CNT c) n
    | .uncorrectable _ => ((s1.setChan c (fun ch => ch.discard line)).count (CH_PC_UNCORR_CNT c)).chanEvent g 3

/-- A write of CH_ENG_ENABLE (RWL): an engine whose bit is cleared ends its item first (R110). -/
def engEnableWrite (c : Nat) (val : Word) (s : State) : State :=
  if 4 ≤ c then s
  else
    let s1 := s.lockedWrite (CH_ENG_ENABLE c) val
    (chanEngines c).foldl (fun (st : State) g =>
      let k := st.engState g
      if !st.engEnabled g && (k == esIdle || k == esParked) then st.setEngState g esOffline else st) s1

/-- An access to CH_DBG_DATA reaches an engine in OFFLINE only; each access steps CH_DBG_ADDR by 4 (R123).  Both a read
and a 4-byte write read the word, whose code answers `ecc`; an uncorrectable one reads as a free value and takes no
write (R96). -/
def dbgDataAccess (c : Nat) (isWrite : Bool) (val : Word) (ecc : Ecc) (s : State) : State :=
  if 4 ≤ c then s
  else
    let g := 32 * c + s.bits (CH_DBG_SEL c) 4 0
    let a := s.bits (CH_DBG_ADDR c) 18 2 * 4
    let step (st : State) : State := st.wrN (CH_DBG_ADDR c) ((a + 4) % 2 ^ 19)
    if s.engState g ≠ esOffline then
      let s1 := step (s.chanEvent g 0)
      if isWrite then s1 else s1.complete (leBytes 4 0) false
    else match ecc with
      | .uncorrectable _ =>
        let s1 := (step s).lsUncorr g (s.engPc g) (some (16 * (a / 16)))
        if isWrite then s1 else s1.freeNext.complete (leBytes 4 s1.freeVal.toNat) false
      | e =>
        let s1 := match e with | .corrected n => s.lsCorrected g n | _ => s
        if isWrite then
          step (s1.setEng g (fun e => { e.lsWrite a (leBytes 4 val.toNat) with dirty := true }))
        else (step s1).complete ((s.eng g).lsRead a 4) false

end Sys2Proof.Machine
end

