-- ==== Sys2Proof/Machine/Support.lean ====
section
/-!
DEFINITION. The block copy engine (R364 to R371), the check unit (R372 to R378) and the dictionary coder (R379 to
R385).
-/

namespace Sys2Proof.Machine

/-! ## Block copy engine -/

/-- The fields of a 64-byte command (R365). -/
structure BceCmd where
  op     : Nat
  irq    : Bool
  esz    : Nat
  w      : Nat
  h      : Nat
  src    : Nat
  dst    : Nat
  spitch : Nat
  dpitch : Nat
  pat    : List Byte
  tag    : Nat
  deriving DecidableEq, Repr

/-- The command in memory at `a` (R365). -/
def State.bceCmdAt (s : State) (a : Nat) : BceCmd :=
  let b := s.memRead a 64
  { op := byteAt b 0, irq := bitAt (byteAt b 1) 0, esz := byteAt b 2, w := leAt b 4 2, h := leAt b 6 2, src := leAt b 8 8
    dst := leAt b 0x10 8, spitch := leAt b 0x18 4, dpitch := leAt b 0x1C 4, pat := slice b 0x20 16, tag := leAt b 0x30 4 }

/-- Bytes of one row, and the length of an extent (R365). -/
def BceCmd.rowBytes (c : BceCmd) : Nat := c.w * 2 ^ c.esz
def BceCmd.extent (c : BceCmd) (pitch : Nat) : Nat := (c.h - 1) * pitch + c.rowBytes

/-- The first failing check of a COPY or FILL, 0 when it passes (R366). -/
def State.bceError (s : State) (c : BceCmd) : Nat :=
  let copy := c.op == 1
  let e := 2 ^ c.esz
  let ds := c.extent c.dpitch
  let ss := c.extent c.spitch
  if 4 < c.esz ∨ c.w = 0 ∨ 16384 < c.w ∨ c.h = 0 ∨ 16384 < c.h then 2
  else if 1 < c.h ∧ (c.dpitch < c.rowBytes ∨ (copy = true ∧ c.spitch < c.rowBytes)) then 3
  else if c.dst % e ≠ 0 ∨ c.dpitch % e ≠ 0 ∨ (copy = true ∧ (c.src % e ≠ 0 ∨ c.spitch % e ≠ 0)) then 4
  else if memSize < c.dst + ds ∨ (copy = true ∧ memSize < c.src + ss) then 5
  else if !(s.inRegion 0 c.dst ds || s.inRegion 1 c.dst ds || s.inRegion 2 c.dst ds) then 6
  else if copy = true ∧ c.spitch ≠ c.dpitch ∧ c.src < c.dst + ds ∧ c.dst < c.src + ss then 7
  else 0

/-- The current command pointer. -/
def State.bcePtr (s : State) : Nat := s.addr36 BCE_PTR_LO BCE_PTR_HI

/-- A command fails: ERR, STOPPED, BCE_PTR left at it, source 705 (R366). -/
def State.bceFail (s : State) (err : Nat) : State := ((s.put BCE_STATUS_ERR err).put BCE_STATUS_STATE 3).raise 705 0

/-- A command completes: TAG, counters, IRQ, and the pointer moves on (R365, R370). -/
def State.bceDone (s : State) (c : BceCmd) (next : Nat) : State :=
  let s1 := (s.wrN BCE_LAST_TAG c.tag).count BCE_CMD_CNT
  (s1.putAddr36 BCE_PTR_LO BCE_PTR_HI next).raiseIf c.irq 704 0

/-- Count bytes written in units of 65,536. -/
def State.bceCount (s : State) (n : Nat) : State :=
  let t := s.sup.bceBytes + n
  State.countN { s with sup := { s.sup with bceBytes := t % 65536 } } BCE_BYTES_CNT (t / 65536)

/-- One row's write, under the leases (R364, R369). -/
def State.bceRow (s : State) (a : Nat) (bs : List Byte) : State :=
  let r := s.dmaWrite 10 writerBce a bs 0
  if r.2 then r.1.put BCE_STATUS_LEASE_HIT 1 else r.1

/-- The vertical and horizontal offsets of a COPY with equal pitches (R367). -/
def BceCmd.offsets (c : BceCmd) : Int × Int :=
  let d : Int := (c.dst : Int) - (c.src : Int)
  let p : Int := c.dpitch
  let oy := (2 * d + p) / (2 * p)
  (oy, d - p * oy)

/-- The rows of a command in the order of R367, top-down for a FILL. -/
def BceCmd.rowOrder (c : BceCmd) : List Nat :=
  let o := c.offsets
  if c.op = 1 ∧ (0 < o.1 ∨ (o.1 = 0 ∧ 0 < o.2)) then (List.range c.h).reverse else List.range c.h

/-- A destination row cut at the 256-byte lines of memory: offsets and lengths, in the order of R367. -/
def BceCmd.rowPieces (c : BceCmd) (r : Nat) : List (Nat × Nat) :=
  let a := c.dst + r * c.dpitch
  let n := c.rowBytes
  let l := (List.range ((a + n - 1) / 256 + 1 - a / 256)).map (fun i =>
    let lo := max a (256 * (a / 256 + i))
    (lo - a, min (a + n) (256 * (a / 256 + i + 1)) - lo))
  if c.op = 1 ∧ 0 < c.offsets.2 then l.reverse else l

/-- The pieces of a COPY or FILL in the order in which they are written: row, offset, bytes. -/
def BceCmd.pieces (c : BceCmd) : List (Nat × Nat × Nat) := c.rowOrder.flatMap (fun r => (c.rowPieces r).map (fun p => (r, p)))

/-- Poison the destination words that take a byte from a poisoned source word, and count the source words (R369). -/
def State.bcePoison (s : State) (srcPoison : List Nat) (src dst n : Nat) : State :=
  (srcPoison.filter (fun w => decide (src < w * 16 + 16 ∧ w * 16 < src + n))).foldl (fun st w =>
    let lo := max src (w * 16)
    let hi := min (src + n) (w * 16 + 16)
    let st1 := (wordSpans (dst + (lo - src)) (hi - lo)).foldl (fun x sp => if x.protectedAt sp.2.1 && x.on CMP_LEASE_CTRL_PROTECT then x
      else x.putPoison sp.2.1) st
    ((st1.count BCE_POISON_CNT).notePoisonRead 10).raise 706 0) s

/-- Pieces of a checked COPY, each with the bytes that the source held before the command (R367). -/
def State.bceCopy (s : State) (c : BceCmd) (ps : List (Nat × Nat × Nat)) : State :=
  if c.src = c.dst ∧ c.spitch = c.dpitch then s
  else
    let src (p : Nat × Nat × Nat) : Nat := c.src + p.1 * c.spitch + p.2.1
    let dst (p : Nat × Nat × Nat) : Nat := c.dst + p.1 * c.dpitch + p.2.1
    let s1 := ps.foldl (fun st p => st.bceRow (dst p) (s.memRead (src p) p.2.2)) s
    (ps.foldl (fun st p => st.bcePoison s.poison (src p) (dst p) p.2.2) s1).bceCount ((ps.map (fun p => p.2.2)).sum)

/-- Pieces of a checked FILL. -/
def State.bceFill (s : State) (c : BceCmd) (ps : List (Nat × Nat × Nat)) : State :=
  let e := 2 ^ c.esz
  (ps.foldl (fun st p => st.bceRow (c.dst + p.1 * c.dpitch + p.2.1) ((List.range p.2.2).map (fun i => c.pat.getD ((p.2.1 + i) % e) 0))) s).bceCount
    ((ps.map (fun p => p.2.2)).sum)

/-- Half-ns that a COPY or FILL takes at least: a wait of DEAD cycles for each burst of BURST lines (R368). -/
def State.bceTime (s : State) (c : BceCmd) : Nat :=
  if c.op = 1 ∨ c.op = 2 then 2 * s.get BCE_SHARE_DEAD * (c.h * ceilDiv c.rowBytes 256 / clampNat 1 64 (s.get BCE_SHARE_BURST)) else 0

/-- The command has had its time. -/
def State.bceReady (s : State) (c : BceCmd) : Bool := decide (s.sup.bceAt + s.bceTime c < s.now + s.tickHalfNs)

/-- The command in progress ends, and the next can begin. -/
def State.bcePace (s : State) (c : BceCmd) : State := { s with sup := { s.sup with bceAt := max s.now (s.sup.bceAt + s.bceTime c) } }

/-- A readable command runs when its OP is the row's and it has had its time; an unknown OP fails (R364 to R366, R368). -/
def State.bceExec (s : State) (op a : Nat) (c : BceCmd) : State :=
  if 4 < c.op then s.bceFail 1
  else if c.op ≠ op then s
  else if (op = 1 ∨ op = 2) ∧ s.bceError c ≠ 0 then s.bceFail (s.bceError c)
  else if !s.bceReady c then s
  else
    let s1 := s.bcePace c
    match op with
    | 0 => s1.bceDone c (a + 64)
    | 1 => (s1.bceCopy c c.pieces).bceDone c (a + 64)
    | 2 => (s1.bceFill c c.pieces).bceDone c (a + 64)
    | 3 => if c.src % 64 ≠ 0 ∨ memSize ≤ c.src then s.bceFail 8 else s1.bceDone c c.src
    | _ => ((s1.bceDone { c with irq := false } a).put BCE_STATUS_STATE 2).raise 704 0

/-- The command at BCE_PTR, when it is one of the row's OP; an unreadable one fails (R364, R366). -/
def State.bceRun (op : Nat) (s : State) : State :=
  let a := s.bcePtr
  if s.get BCE_STATUS_STATE ≠ 1 then s
  else if a % 64 ≠ 0 ∨ memSize ≤ a then s.bceFail 8
  else if s.poisonedIn a 64 then (s.notePoisonRead 10).bceFail 8
  else s.bceExec op a (s.bceCmdAt a)

/-- The command at BCE_PTR, when it is a NOP, a COPY, a FILL, a LINK or a STOP (R365). -/
def bceNop (s : State) : State := s.bceRun 0
def bceCopy (s : State) : State := s.bceRun 1
def bceFill (s : State) : State := s.bceRun 2
def bceLink (s : State) : State := s.bceRun 3
def bceStop (s : State) : State := s.bceRun 4

/-- BCE_CMD START (R364, R366). -/
def bceStart (s : State) : State :=
  if s.get BCE_STATUS_STATE = 1 then (s.put BCE_STATUS_ERR 9).raise 705 0
  else
    State.putAddr36 { ((s.put BCE_STATUS_STATE 1).put BCE_STATUS_ERR 0).put BCE_STATUS_LEASE_HIT 0 with
      sup := { s.sup with bceAt := s.now } } BCE_PTR_LO BCE_PTR_HI (s.addr36 BCE_LIST_LO BCE_LIST_HI)

/-- The part of the command in progress that an ABORT leaves done: a free number of its lines, in order (R369). -/
def State.bcePart (s : State) : State :=
  let a := s.bcePtr
  let c := s.bceCmdAt a
  let ps := c.pieces.take (s.freeVal.toNat % (c.pieces.length + 1))
  if a % 64 ≠ 0 ∨ memSize ≤ a ∨ s.poisonedIn a 64 ∨ (c.op ≠ 1 ∧ c.op ≠ 2) ∨ s.bceError c ≠ 0 then s
  else if c.op = 1 then s.freeNext.bceCopy c ps else s.freeNext.bceFill c ps

/-- BCE_CMD ABORT stops a running list (R369). -/
def bceAbort (s : State) : State := if s.get BCE_STATUS_STATE = 1 then s.bcePart.put BCE_STATUS_STATE 4 else s

/-! ## Check unit -/

/-- Configuration of context `n`. -/
def State.ckuPoly (s : State) (n : Nat) : Nat := s.get (CKU_CTX_CFG_POLY n)

/-- The stored CRC at the end of a byte string, in the context's byte order (R372). -/
def storedCrc (big : Bool) (bs : List Byte) : Nat := if big then beNat bs else leNat bs

/-- Bytes of the alive counter and its range (R372). -/
def aliveBytes (sel : Nat) : Nat := if 2 ≤ sel then 2 else 1
def aliveRange (sel : Nat) : Nat := if sel = 0 then 16 else if sel = 1 then 256 else 65536

/-- Results of a telemetry check (R374). -/
inductive TelemResult where
  | crcFailure
  | pass
  | repeated
  | jump
  deriving DecidableEq, Repr

/-- Check a telemetry message in context `n` (R374). -/
def State.checkTelemetry (s : State) (n : Nat) (pl : List Byte) : State × TelemResult :=
  let s1 := s.count (CKU_CTX_MSG_CNT n)
  let c := crcBytes (s.ckuPoly n)
  let body := pl.take (pl.length - c)
  let good := decide (s.get (CKU_CTX_CFG_MIN_LEN n) ≤ pl.length) && decide (c ≤ pl.length)
    && crcOf (s.ckuPoly n) body == storedCrc (s.on (CKU_CTX_CFG_BIG_ENDIAN n)) (pl.drop (pl.length - c))
  if !good then (s1.count (CKU_CTX_FAIL_CNT n), .crcFailure)
  else if !s.on (CKU_CTX_CFG_ALIVE_EN n) then (s1, .pass)
  else
    let sel := s.get (CKU_CTX_CFG_ALIVE_BITS n)
    let v := leAt pl (s.get (CKU_CTX_CFG_ALIVE_OFF n)) (aliveBytes sel) % aliveRange sel
    let old := s.bits (CKU_CTX_ALIVE n) 15 0
    let stored := s1.wrN (CKU_CTX_ALIVE n) (v + 2 ^ 16)
    if !bitAt (s.rdN (CKU_CTX_ALIVE n)) 16 then (stored, .pass)
    else if v = old then (s1.count (CKU_CTX_REPEAT_CNT n), .repeated)
    else if v = (old + 1) % aliveRange sel then (stored, .pass)
    else ((stored.count (CKU_CTX_JUMP_CNT n)).raise 739 0, .jump)

/-- A job command is refused or a job fails (R375, R377). -/
def State.ckuFail (s : State) (err : Nat) : State := ((s.put CKU_JOB_STATUS_ERR err).put CKU_JOB_STATUS_STATE 3).raise 737 0

/-- Start a job of operation `op` (R375, R376). -/
def State.ckuStart (s : State) (op ctx : Nat) (cont : Bool) : State :=
  let addr := s.addr36 CKU_JOB_ADDR_LO CKU_JOB_ADDR_HI
  let len := s.rdN CKU_JOB_LEN
  if s.sup.cku.isSome then (s.put CKU_JOB_STATUS_ERR 1).raise 737 0
  else if s.on (CKU_CTX_CFG_IMAGE ctx) then s.ckuFail 2
  else if len = 0 ∨ memSize < addr + len ∨ (op = 3 ∧ len < crcBytes (s.ckuPoly ctx)) then s.ckuFail 3
  else
    let start := if cont then s.rdN (CKU_CTX_RUN ctx) else crcInit (s.ckuPoly ctx)
    let s1 := ((s.put CKU_JOB_STATUS_STATE 1).put CKU_JOB_STATUS_ERR 0).put CKU_JOB_STATUS_MATCH 0
    { s1 with sup := { s1.sup with cku := some { op, ctx, start, addr, len } } }

def ckuCompute (ctx : Nat) (cont : Bool) (s : State) : State := s.ckuStart 1 ctx cont
def ckuAppend (ctx : Nat) (cont : Bool) (s : State) : State := s.ckuStart 2 ctx cont
def ckuCheck (ctx : Nat) (cont : Bool) (s : State) : State := s.ckuStart 3 ctx cont

/-- What a job leaves in its registers (R375). -/
def State.ckuResult (s : State) (j : CkuJob) : State :=
  let poly := s.ckuPoly j.ctx
  let c := crcBytes poly
  if j.op = 3 then
    let bs := s.memRead j.addr j.len
    let ok := crcRun poly j.start (bs.take (j.len - c)) ^^^ crcXor poly
      == storedCrc (s.on (CKU_CTX_CFG_BIG_ENDIAN j.ctx)) (bs.drop (j.len - c))
    ((s.putB CKU_JOB_STATUS_MATCH ok).wrN CKU_JOB_DATA_LEN (j.len - c)).wrN (CKU_CTX_RUN j.ctx) (crcInit poly)
  else
    let r := crcRun poly j.start (s.memRead j.addr j.len)
    let s1 := s.wrN (CKU_CTX_RUN j.ctx) r
    if j.op = 2 then s1.wrN CKU_JOB_RESULT (r ^^^ crcXor poly) else s1

/-- The running job ends, while CKU_CTRL.EN lets jobs run (R375, R377). -/
def ckuJobDone (s : State) : State :=
  match s.sup.cku with
  | none => s
  | some j =>
    if s.bits CKU_CTRL 0 0 = 0 then s
    else
      let s1 := { s with sup := { s.sup with cku := none } }
      if s.poisonedIn j.addr j.len then (s1.notePoisonRead 17).ckuFail 4
      else ((s1.ckuResult j).put CKU_JOB_STATUS_STATE 2).raise 736 0

/-- A write of CKU_CTX_CFG or CKU_CTX_RUN (R376). -/
def ckuCtxWrite (n : Nat) (isRun : Bool) (val : Word) (s : State) : State :=
  let running := match s.sup.cku with | some j => j.ctx == n | none => false
  if s.on (CKU_CTX_CFG_IMAGE n) || running then (s.put CKU_JOB_STATUS_ERR 2).raise 737 0
  else if isRun then s.wr (CKU_CTX_RUN n) val
  else s.wrN (CKU_CTX_CFG n) (val.toNat &&& 0xFFFFFF7E)

/-! ## Dictionary coder -/

abbrev lzwClear : Nat := 256
abbrev lzwEnd : Nat := 257
abbrev lzwMax : Nat := 65536

/-- Width of code number `n` after the last CLEAR (R380; numbered from 0, log entry 30). -/
def lzwWidth (n : Nat) : Nat := min 16 ((257 + n).log2 + 1)

/-- Move whole bytes out of a bit buffer; `fuel` bounds their number. -/
def drainBits : Nat → Nat → Nat → List Byte × Nat × Nat
  | 0, bits, n => ([], bits, n)
  | fuel + 1, bits, n =>
    if n < 8 then ([], bits, n)
    else
      let r := drainBits fuel (bits / 256) (n - 8)
      (BitVec.ofNat 8 bits :: r.1, r.2)

/-- Write one code, least significant bit first (R379, R380). -/
def DcoJob.emit (j : DcoJob) (code : Nat) : DcoJob :=
  let r := drainBits 4 (j.bits + code * 2 ^ j.nbits) (j.nbits + lzwWidth j.codeNo)
  { j with outq := j.outq ++ r.1, bits := r.2.1, nbits := r.2.2, codeNo := j.codeNo + 1 }

/-- Emit CLEAR and empty the dictionary. -/
def DcoJob.clear (j : DcoJob) : DcoJob := { j.emit lzwClear with dict := [], codeNo := 0, full := 0 }

/-- The code of the dictionary string `w` extended by byte `b`. -/
def DcoJob.find (j : DcoJob) (w b : Nat) : Option Nat := (j.dict.findIdx? (fun e => e == (w, b))).map (258 + ·)

/-- The compressor takes one input byte (R380). -/
def DcoJob.pack (j : DcoJob) (x : Byte) : DcoJob :=
  let b := x.toNat
  let j := { j with pos := j.pos + 1, total := j.total + 1, crc := crcStep 0 j.crc x }
  match j.cur with
  | none => { j with cur := some b, curLen := 1 }
  | some w => match j.find w b with
    | some c => { j with cur := some c, curLen := j.curLen + 1 }
    | none =>
      let e := j.emit w
      let e' :=
        if 258 + j.dict.length < lzwMax then { e with dict := e.dict ++ [(w, b)] }
        else
          let f := { e with full := e.full + j.curLen }
          if 65536 ≤ f.full then f.clear else f
      { e' with cur := some b, curLen := 1 }

/-- The compressor's end of input: the remaining match, END, zero bits, the trailer (R379, R380). -/
def DcoJob.packEnd (j : DcoJob) : DcoJob :=
  let j1 := match j.cur with | some w => j.emit w | none => j
  let j2 := j1.emit lzwEnd
  let tail := if j2.nbits = 0 then [] else [BitVec.ofNat 8 j2.bits]
  { j2 with outq := j2.outq ++ tail ++ leBytes 4 (j.crc ^^^ 0xFFFFFFFF) ++ leBytes 8 j.total, bits := 0, nbits := 0, ended := true }

/-- The bytes of a code's string; `fuel` bounds its length. -/
def lzwString (dict : List (Nat × Nat)) : Nat → Nat → List Byte → List Byte
  | 0, _, acc => acc
  | fuel + 1, code, acc =>
    if code < 256 then BitVec.ofNat 8 code :: acc
    else
      let e := dict.getD (code - 258) (0, 0)
      lzwString dict fuel e.1 (BitVec.ofNat 8 e.2 :: acc)

/-- The decompressor takes one code (R380, R381). -/
def DcoJob.unpack (j : DcoJob) (code : Nat) : DcoJob :=
  let next := 258 + j.dict.length
  let j := { j with codeNo := j.codeNo + 1 }
  if code = lzwClear then { j with dict := [], codeNo := 0, cur := none }
  else if code = lzwEnd then { j with ended := true, bits := 0, nbits := 0 }
  else match j.cur with
    | none =>
      if 256 ≤ code then { j with err := 5 }
      else
        { j with cur := some code, outq := j.outq ++ [BitVec.ofNat 8 code], total := j.total + 1
                 crc := crcStep 0 j.crc (BitVec.ofNat 8 code) }
    | some p =>
      if next < code ∨ (code = next ∧ lzwMax ≤ next) then { j with err := 5 }
      else
        let ps := lzwString j.dict (j.dict.length + 1) p []
        let str := if code = next then ps ++ ps.take 1 else lzwString j.dict (j.dict.length + 1) code []
        { j with cur := some code, outq := j.outq ++ str, total := j.total + str.length, crc := crcRun 0 j.crc str
                 dict := if next < lzwMax then j.dict ++ [(p, (str.getD 0 0).toNat)] else j.dict }

/-- The decompressor's trailer (R379, R381). -/
def DcoJob.trailer (j : DcoJob) (t : List Byte) : DcoJob :=
  if t.length < 12 then { j with err := 5 }
  else if leAt t 0 4 ≠ j.crc ^^^ 0xFFFFFFFF then { j with err := 6, pos := j.pos + 12 }
  else if leAt t 4 8 ≠ j.total then { j with err := 7, pos := j.pos + 12 }
  else { j with pos := j.pos + 12, inLen := j.pos + 12 }

/-- Where a run of the coder stops. -/
inductive DcoStop where
  | full
  | done
  | failed
  deriving DecidableEq, Repr

/-- Run the coder over the rest of its input into a buffer of `room` bytes: the bytes it writes, the job, and where
it stops (R381, R382).  Each round empties the queue, or consumes an input byte or a code. -/
def dcoRun (input : List Byte) (room : Nat) : Nat → DcoJob → List Byte → List Byte × DcoJob × DcoStop
  | 0, j, out => (out, j, .done)
  | fuel + 1, j, out =>
    if !j.outq.isEmpty then
      let n := min j.outq.length (room - out.length)
      if n = 0 then (out, j, .full)
      else dcoRun input room fuel { j with outq := j.outq.drop n } (out ++ j.outq.take n)
    else if j.err ≠ 0 then (out, j, .failed)
    else if j.compress then
      if j.ended then (out, j, .done)
      else match input[j.pos]? with
        | some x => dcoRun input room fuel (j.pack x) out
        | none => dcoRun input room fuel j.packEnd out
    else if j.ended then
      let j' := j.trailer (input.drop j.pos)
      (out, j', if j'.err = 0 then .done else .failed)
    else if lzwWidth j.codeNo ≤ j.nbits then
      let w := lzwWidth j.codeNo
      dcoRun input room fuel { j.unpack (j.bits % 2 ^ w) with
        bits := if j.bits % 2 ^ w = lzwEnd then 0 else j.bits / 2 ^ w
        nbits := if j.bits % 2 ^ w = lzwEnd then 0 else j.nbits - w } out
    else match input[j.pos]? with
      | some x => dcoRun input room fuel { j with bits := j.bits + x.toNat * 2 ^ j.nbits, nbits := j.nbits + 8, pos := j.pos + 1 } out
      | none => (out, { j with err := 5 }, .failed)

/-- Register views of a job's progress (R382, R384). -/
def State.dcoShow (s : State) (j : DcoJob) : State :=
  ((s.putAddr36 DCO_IN_DONE_LO DCO_IN_DONE_HI j.pos).putAddr36 DCO_OUT_DONE_LO DCO_OUT_DONE_HI j.outDone).wrN DCO_CRC
    (j.crc ^^^ 0xFFFFFFFF)

/-- A job fails and its state is lost (R381, R385). -/
def State.dcoFail (s : State) (err : Nat) : State :=
  let s1 := ((s.put DCO_STATUS_ERR err).put DCO_STATUS_STATE 4).raise 770 0
  { s1 with sup := { s1.sup with dco := none } }

def State.dcoIn (s : State) : Nat := s.addr36 DCO_IN_LO DCO_IN_HI
def State.dcoInLen (s : State) : Nat := s.addr36 DCO_IN_LEN_LO DCO_IN_LEN_HI
def State.dcoOut (s : State) : Nat := s.addr36 DCO_OUT_LO DCO_OUT_HI
def State.dcoOutLen (s : State) : Nat := s.addr36 DCO_OUT_LEN_LO DCO_OUT_LEN_HI

/-- The output range may be written: HOST, or SCORCH and CORRECT while OPEN (R383). -/
def State.dcoOutOk (s : State) : Bool :=
  s.inRegion 0 s.dcoOut s.dcoOutLen
    || (s.on CAL_MAP_CTRL_OPEN && (s.inRegion 4 s.dcoOut s.dcoOutLen || s.inRegion 5 s.dcoOut s.dcoOutLen))

/-- The header the compressor writes (R379). -/
def dcoHeader : List Byte := leBytes 4 0x31434F44 ++ leBytes 1 1 ++ leBytes 1 16 ++ leBytes 2 0

/-- Start a job (R379 to R383). -/
def State.dcoStart (s : State) (compress : Bool) : State :=
  if s.get DCO_STATUS_STATE = 1 then s.put DCO_STATUS_ERR 1
  else if memSize < s.dcoIn + s.dcoInLen ∨ memSize < s.dcoOut + s.dcoOutLen then s.dcoFail 2
  else if !s.dcoOutOk then s.dcoFail 3
  else
    let hdr := s.memRead s.dcoIn (min 8 s.dcoInLen)
    let j : DcoJob :=
      { compress, inAddr := s.dcoIn, inLen := s.dcoInLen, pos := if compress then 0 else hdr.length, outDone := 0
        outq := if compress then dcoHeader else [], bits := 0, nbits := 0, dict := [], codeNo := 0, cur := none, curLen := 0
        full := 0, total := 0, crc := 0xFFFFFFFF, ended := false, err := if compress || hdr == dcoHeader then 0 else 5 }
    let s1 := ((s.put DCO_STATUS_STATE 1).put DCO_STATUS_ERR 0).dcoShow { j with pos := 0 }
    { s1 with sup := { s1.sup with dco := some j } }

def dcoCompress (s : State) : State := s.dcoStart true
def dcoDecompress (s : State) : State := s.dcoStart false

/-- DCO_CMD RESUME continues a job in OUT_FULL with a new output buffer (R382). -/
def dcoResume (s : State) : State :=
  if s.get DCO_STATUS_STATE = 1 then s.put DCO_STATUS_ERR 1
  else match s.sup.dco with
    | some j =>
      if s.get DCO_STATUS_STATE ≠ 3 then s.dcoFail 9
      else if memSize < s.dcoOut + s.dcoOutLen then s.dcoFail 2
      else if !s.dcoOutOk then s.dcoFail 3
      else
        let s1 := ((s.put DCO_STATUS_STATE 1).put DCO_STATUS_ERR 0).dcoShow { j with outDone := 0 }
        { s1 with sup := { s1.sup with dco := some { j with outDone := 0 } } }
    | none => s.dcoFail 9

/-- DCO_CMD ABORT discards the job (R384). -/
def dcoAbort (s : State) : State :=
  if s.get DCO_STATUS_STATE = 1 ∨ s.get DCO_STATUS_STATE = 3 then
    let s1 := s.put DCO_STATUS_STATE 5
    { s1 with sup := { s1.sup with dco := none } }
  else s

/-- What the running job comes to from here. -/
def State.dcoOutcome (s : State) (j : DcoJob) : List Byte × DcoJob × DcoStop :=
  dcoRun (s.memRead j.inAddr j.inLen) s.dcoOutLen (4 * j.inLen + 70000) j []

/-- The bytes of a run reach the output buffer under the leases (R383). -/
def State.dcoStore (s : State) (out : List Byte) (j : DcoJob) : State :=
  let r := s.dmaWrite 11 writerDco s.dcoOut out 0
  let s1 := if r.2 then r.1.put DCO_STATUS_LEASE_HIT 1 else r.1
  s1.dcoShow { j with outDone := out.length }

/-- Offset in the input of the first poisoned word that the job has yet to read. -/
def State.dcoPoison (s : State) (j : DcoJob) : Option Nat :=
  (s.poison.filter (fun w => decide (j.inAddr + j.pos < 16 * w + 16 ∧ 16 * w < j.inAddr + j.inLen))).foldl (fun b w =>
    some (min (b.getD (16 * w - j.inAddr)) (16 * w - j.inAddr))) none

/-- The job reads a poisoned word before it stops where `e` says (R383). -/
def State.dcoHitsPoison (s : State) (j e : DcoJob) : Bool :=
  match s.dcoPoison j with | some p => decide (p < e.pos) | none => false

/-- The output buffer fills (R382). -/
def dcoOutFull (s : State) : State :=
  match s.sup.dco with
  | some j =>
    let r := s.dcoOutcome j
    if s.get DCO_STATUS_STATE ≠ 1 ∨ s.dcoHitsPoison j r.2.1 = true ∨ r.2.2 ≠ .full then s
    else if !s.dcoOutOk then s.dcoFail 3
    else
      let s1 := (((s.dcoStore r.1 r.2.1).put DCO_STATUS_STATE 3).raise 769 0)
      { s1 with sup := { s1.sup with dco := some { r.2.1 with outDone := r.1.length } } }
  | none => s

/-- The job completes, or fails: by a poisoned input word, by its region, or by its stream (R381, R383, R385). -/
def dcoJobDone (s : State) : State :=
  match s.sup.dco with
  | some j =>
    let r := s.dcoOutcome j
    if s.get DCO_STATUS_STATE ≠ 1 then s
    else if s.dcoHitsPoison j r.2.1 then ((s.notePoisonRead 11).raise 771 0).dcoFail 8
    else match r.2.2 with
      | .full => s
      | .failed => if !s.dcoOutOk then s.dcoFail 3 else (s.dcoStore r.1 r.2.1).dcoFail r.2.1.err
      | .done =>
        if !s.dcoOutOk then s.dcoFail 3
        else
          let s1 := ((s.dcoStore r.1 r.2.1).put DCO_STATUS_STATE 2).raise 768 0
          { s1 with sup := { s1.sup with dco := none } }
  | none => s

end Sys2Proof.Machine
end

