-- ==== Sys2Proof/Machine/NetBase.lean ====
section
/-!
DEFINITION. The receive side of the network unit up to admission (R309 to R311, R315, R318, R319, R322, R328 to R331):
frame checks, PRP, classification, the Sieve and the ingress buffer.
-/

namespace Sys2Proof.Machine

/-! ## Frames -/

/-- The sum of a byte string as 16-bit words, most significant byte first. -/
def wordSum : List Byte → Nat
  | [] => 0
  | [a] => 256 * a.toNat
  | a :: b :: t => 256 * a.toNat + b.toNat + wordSum t

/-- A byte string that holds its own ones' complement checksum is consistent. -/
def sumOk (bs : List Byte) : Bool := wordSum bs != 0 && wordSum bs % 65535 == 0

/-- The ones' complement checksum of a sum. -/
def checksum (sum : Nat) : Nat := if sum % 65535 = 0 then (if sum = 0 then 0xFFFF else 0) else 65535 - sum % 65535

/-- What classification reads of a frame: its lookup key (R319) and its UDP payload. -/
structure Parsed where
  key : List Byte
  udp : Option (List Byte)
  deriving DecidableEq, Repr

/-- An IP packet accepted for classification (R310): version, protocol, addresses, payload. -/
def parseIp (et : Nat) (b : List Byte) : Option (Nat × Nat × List Byte × List Byte × List Byte) :=
  if et = 0x0800 then
    let tl := beAt b 2 2
    if 20 ≤ b.length ∧ byteAt b 0 = 0x45 ∧ 20 ≤ tl ∧ tl ≤ b.length ∧ sumOk (b.take 20) = true ∧ beAt b 6 2 % 0x4000 = 0 then
      some (4, byteAt b 9, slice b 12 4, slice b 16 4, slice b 20 (tl - 20))
    else none
  else if et = 0x86DD then
    let pl := beAt b 4 2
    if 40 ≤ b.length ∧ byteAt b 0 / 16 = 6 ∧ 40 + pl ≤ b.length then
      some (6, byteAt b 6, slice b 8 16, slice b 24 16, slice b 40 pl)
    else none
  else none

/-- The checksum of a UDP datagram holds; 0 passes over IPv4 only (R310). -/
def udpOk (v : Nat) (src dst dg : List Byte) : Bool :=
  if v = 4 ∧ beAt dg 6 2 = 0 then true
  else sumOk (src ++ dst ++ beBytes 4 dg.length ++ beBytes 4 17 ++ dg)

/-- The key and UDP payload of a frame on port `p`: its tag, its EtherType and what follows it (R319). -/
def parseFrame (p : Nat) (tagged : Bool) (vid et : Nat) (body : List Byte) : Parsed :=
  let head := fun (flags proto : Nat) => leBytes 1 (2 ^ p) ++ leBytes 1 (bit tagged + flags) ++ beBytes 2 vid ++ beBytes 2 et
    ++ leBytes 1 proto ++ [0]
  match parseIp et body with
  | none => { key := padTo 48 (head 0 0), udp := none }
  | some (v, proto, src, dst, pay) =>
    let ul := beAt pay 4 2
    let isUdp := proto == 17 && decide (8 ≤ pay.length ∧ 8 ≤ ul ∧ ul ≤ pay.length) && udpOk v src dst (pay.take ul)
    let flags := (if v = 4 then 2 else 4) + (if isUdp then 8 else 0)
    { key := head flags proto ++ padTo 16 src ++ padTo 16 dst ++ (if isUdp then pay.take 4 else List.replicate 4 0) ++ List.replicate 4 0
      udp := if isUdp then some (slice pay 8 (ul - 8)) else none }

/-- A tagged frame; its VID, its EtherType after the tag, and where the rest begins. -/
def frameTagged (f : List Byte) : Bool := beAt f 12 2 == 0x8100
def frameVid (f : List Byte) : Nat := if frameTagged f then beAt f 14 2 % 4096 else 0
def frameType (f : List Byte) : Nat := if frameTagged f then beAt f 16 2 else beAt f 12 2
def frameHead (f : List Byte) : Nat := if frameTagged f then 18 else 14

/-- PTP messages: EtherType 0x88F7, or UDP ports 319 and 320 (R311). -/
def isPtp (et : Nat) (q : Parsed) : Bool :=
  et == 0x88F7 || (q.udp.isSome && [319, 320].any (fun n => beAt q.key 0x28 2 == n || beAt q.key 0x2A 2 == n))

/-- A frame passes R310: its FCS, its length, one tag at most, and it is no MAC control frame (R309). -/
def State.frameOk (s : State) (f : List Byte) : Bool :=
  let n := f.length
  decide (64 ≤ n ∧ n ≤ s.bits NET_MAX_FRAME 13 0) && crc32 (f.take (n - 4)) == leAt f (n - 4) 4
    && frameType f != 0x8100 && frameType f != 0x8808

/-- The redundancy control trailer of a frame without its FCS (R311): SeqNr and LanId. -/
def rctOf (f : List Byte) : Option (Nat × Nat) :=
  let n := f.length
  let w := beAt f (n - 4) 2
  if frameHead f + 6 ≤ n ∧ beAt f (n - 2) 2 = 0x88FB ∧ w % 4096 = n - frameHead f then some (beAt f (n - 6) 2, w / 4096) else none

/-- MAC address of a port: a PRP node uses that of P0 on both (R311). -/
def State.portMac (s : State) (p : Nat) : List Byte :=
  let q := if s.on NET_CTRL_PRP_EN then 0 else p
  leBytes 2 (s.rdN (NET_P_MAC_HI q)) ++ leBytes 4 (s.rdN (NET_P_MAC_LO q))

/-- The port runs (R309). -/
def State.portOn (s : State) (p : Nat) : Bool := p < 2 && s.on NET_CTRL_EN && s.on (NET_P_CFG_EN p)

/-- A discarded frame: counted, source 514 + 32p at most once per millisecond (R310). -/
def State.rxError (s : State) (p : Nat) : State :=
  let s1 := s.count (NET_P_RX_ERR_CNT p)
  let due := match s.net.errAt.getD p none with | some t => decide (t + 2000000 ≤ s.now) | none => true
  if due then State.raiseMask { s1 with net := { s1.net with errAt := s1.net.errAt.set p (some s.now) } } (514 + 32 * p) (2 ^ p)
  else s1

/-! ## The node table (R311) -/

def State.forgetNs (s : State) : Nat := 2000000 * s.bits NET_PRP_CFG 15 0
def State.supNs (s : State) : Nat := 2000000 * s.bits NET_PRP_CFG 31 16

/-- Show the number of entries. -/
def State.showNodes (s : State) : State := s.wrN NET_PRP_NODES s.net.nodes.length

/-- Entries with no frame for FORGET_MS are cleared. -/
def State.forgetNodes (s : State) : State :=
  State.showNodes { s with net := { s.net with nodes := s.net.nodes.filter (fun e => decide (s.now < e.last + s.forgetNs)) } }

/-- When the node was last heard on a LAN, its first frame's time standing in where it never was. -/
def Node.heard (e : Node) (p : Nat) : Nat := (e.lastP.getD p none).getD e.born

/-- A node of the table, heard on port `p`. -/
def Node.hear (e : Node) (p now : Nat) : Node :=
  { e with last := now, lastP := e.lastP.set p (some now), lost := e.lost.set p false }

/-- The SeqNr of a frame against an entry: 0 new, 1 a duplicate, 2 more than 128 behind; and the entry after it. -/
def Node.judge (e : Node) (seq : Nat) : Nat × Node :=
  let d := (seq + 65536 - e.high) % 65536
  if d = 0 then (1, e)
  else if d < 32768 then (0, { e with high := seq, seen := ((e.seen * 2 ^ d) ||| 2 ^ (d - 1)) % 2 ^ 128 })
  else
    let back := 65536 - d
    if 128 < back then (2, e) else (if bitAt e.seen (back - 1) then 1 else 0, { e with seen := e.seen ||| 2 ^ (back - 1) })

/-- A frame with an RCT updates the node table; true when it is a duplicate to be discarded. -/
def State.prpNode (s : State) (p addr seq : Nat) (ptp : Bool) : State × Bool :=
  let s := s.forgetNodes
  match s.net.nodes.find? (fun e => e.addr == addr) with
  | none =>
    if 1024 ≤ s.net.nodes.length then ((s.count NET_PRP_TABLE_FULL_CNT).raiseMask 580 (2 ^ p), false)
    else
      let e : Node := { addr, high := seq, seen := 0, last := s.now, born := s.now, lastP := [none, none], lost := [false, false] }
      (State.showNodes { s with net := { s.net with nodes := s.net.nodes ++ [e.hear p s.now] } }, false)
  | some e =>
    let (r, e') := (e.hear p s.now).judge seq
    let s1 := { s with net := { s.net with nodes := s.net.nodes.map (fun (x : Node) => if x.addr = addr then e' else x) } }
    if r = 2 then (s1.count NET_PRP_OLD_CNT, false)
    else if r = 1 ∧ ptp = false then (s1.count NET_PRP_DUP_CNT, true)
    else (s1, false)

/-- A node unheard on port `p`'s LAN for 3 × SUP_MS, and heard on the other within that time (R311). -/
def prpLanLost (node p : Nat) (s : State) : State :=
  match s.net.nodes[node]? with
  | none => s
  | some e =>
    let w := 3 * s.supNs
    let other := match e.lastP.getD (1 - p) none with | some t => decide (s.now ≤ t + w) | none => false
    if p < 2 ∧ e.lost.getD p false = false ∧ e.heard p + w < s.now + s.tickHalfNs ∧ other = true then
      State.raiseMask { s with net := { s.net with nodes := s.net.nodes.set node { e with lost := e.lost.set p true } } } (516 + 32 * p) (2 ^ p)
    else s

/-- An entry with no frame for FORGET_MS is cleared (R311). -/
def prpNodeForget (node : Nat) (s : State) : State :=
  match s.net.nodes[node]? with
  | none => s
  | some e =>
    if e.last + s.forgetNs < s.now + s.tickHalfNs then State.showNodes { s with net := { s.net with nodes := s.net.nodes.eraseIdx node } }
    else s

/-! ## Flow contexts (R318, R322) -/

/-- Contexts 0 and 1, which the device defines (R318). -/
def defaultCtx (drop : Bool) : FlowCtx :=
  { ctx := 0, kind := if drop then 0 else 1, rank := 7, guar := false, ports := 0, meter := 0, ydrop := false, image := true
    target := 0, queue := 0, rates := [0, 0, 0, 0], tmpl := 0, rtp := false, av1 := false }
def prpCtx : FlowCtx := { defaultCtx true with ctx := 1, rank := 3 }

/-- A context of a table; context 0 keeps the meter fields software wrote. -/
def State.ctxIn (s : State) (l : List FlowCtx) (n : Nat) : Option FlowCtx :=
  match l.find? (fun c => c.ctx == n) with
  | some c => some (if n = 0 then { c with kind := if s.on NET_CTRL_DEFAULT then 0 else 1 } else c)
  | none => if n = 0 then some (defaultCtx (s.on NET_CTRL_DEFAULT)) else if n = 1 then some prpCtx else none

/-- Counts of a context. -/
def State.flowCount (s : State) (n : Nat) : FlowCount := (s.net.counts.find? (fun c => c.ctx == n)).getD ⟨n, 0, 0, 0⟩
def State.setFlowCount (s : State) (c : FlowCount) : State :=
  { s with net := { s.net with counts := insertBy FlowCount.ctx c (s.net.counts.filter (fun x => x.ctx != c.ctx)) } }
def satAdd (n : Nat) : Nat := min (n + 1) 0xFFFFFFFF
def State.ctxGreen (s : State) (n : Nat) : State := let c := s.flowCount n; s.setFlowCount { c with green := satAdd c.green }
def State.ctxDropped (s : State) (n : Nat) : State := let c := s.flowCount n; s.setFlowCount { c with dropped := satAdd c.dropped }

/-- The context a key matches: the flow table, then the rules in order, then context 0 (R318). -/
def State.matchCtx (s : State) (key : List Byte) : Nat :=
  match s.net.exactOn.find? (fun e => e.key == key) with
  | some e => e.ctx
  | none =>
    let n := s.netSec
    match (List.range (leAt n 6 2)).find? (fun i =>
        let r := netRule n i
        ((key.zip r.1).zip r.2.1).all (fun (x : (Byte × Byte) × Byte) => x.1.1 &&& x.2 == x.1.2 &&& x.2)) with
    | some i => (netRule n i).2.2
    | none => 0

/-! ## The Sieve (R328, R329) -/

def State.bucket (s : State) (c : FlowCtx) : Bucket :=
  (s.net.buckets.find? (fun b => b.ctx == c.ctx)).getD ⟨c.ctx, 65536 * c.rates.getD 1 0, 65536 * c.rates.getD 3 0⟩
def State.setBucket (s : State) (b : Bucket) : State :=
  { s with net := { s.net with buckets := insertBy Bucket.ctx b (s.net.buckets.filter (fun x => x.ctx != b.ctx)) } }

/-- One refill of a bucket pair over a tick. -/
def FlowCtx.refill (c : FlowCtx) (tickHalf : Nat) (b : Bucket) : Bucket :=
  let units := fun (k : Nat) => 65536 * (c.rates.getD k 0 * tickHalf) / 16000000
  let cbs := 65536 * c.rates.getD 1 0
  let ebs := 65536 * c.rates.getD 3 0
  if c.meter = 1 then
    let t := b.tc + units 0
    { b with tc := min t cbs, te := min (b.te + (t - min t cbs)) ebs }
  else { b with tc := min (b.tc + units 0) cbs, te := min (b.te + units 2) ebs }

/-- At the start of an event tick every bucket is refilled, once (R329). -/
def sieveRefill (s : State) : State :=
  if s.net.refilled = some s.evc.tick then s
  else
    { s with net := { s.net with
        refilled := some s.evc.tick
        buckets := s.net.buckets.map (fun (b : Bucket) => match s.ctxIn s.net.flowsOn b.ctx with
          | some c => c.refill s.tickHalfNs b
          | none => b) } }

/-- Colours: 0 green, 1 yellow, 2 red. -/
def State.meterFrame (s : State) (c : FlowCtx) (len : Nat) : State × Nat :=
  let b := s.bucket c
  let n := 65536 * len
  if c.meter = 1 then
    if n ≤ b.tc then (s.setBucket { b with tc := b.tc - n }, 0)
    else if n ≤ b.te then (s.setBucket { b with te := b.te - n }, 1)
    else (s.setBucket b, 2)
  else if c.meter = 2 then
    if b.te < n then (s.setBucket b, 2)
    else if b.tc < n then (s.setBucket { b with te := b.te - n }, 1)
    else (s.setBucket { b with tc := b.tc - n, te := b.te - n }, 0)
  else (s, 0)

/-- Commanded changes of contexts and entries come into force for the next tick; a reduced bucket size clamps its
bucket (R322, R329). -/
def State.latchFlows (s : State) : State :=
  { s with net := { s.net with
      flowsOn := s.net.flows, exactOn := s.net.exact
      buckets := s.net.buckets.map (fun (b : Bucket) => match s.ctxIn s.net.flows b.ctx with
        | some c => { b with tc := min b.tc (65536 * c.rates.getD 1 0), te := min b.te (65536 * c.rates.getD 3 0) }
        | none => b) } }

/-! ## Losses and admission (R330, R331) -/

/-- Show the head of the loss list. -/
def State.showLoss (s : State) : State :=
  let ovf := if s.net.loss.isEmpty then 0 else s.bits NET_LOSS_NEXT 30 30
  s.wrN NET_LOSS_NEXT (match s.net.loss with | [] => 0 | c :: _ => c + 2 ^ 30 * ovf + 2 ^ 31)

/-- A ranked loss of a context. -/
def State.rankedLoss (s : State) (ctx rank : Nat) : State :=
  let c := s.flowCount ctx
  let s1 := (s.setFlowCount { c with loss := satAdd c.loss }).raiseOnce (928 + rank) ctx
  if s.net.loss.contains ctx then s1
  else if 64 ≤ s.net.loss.length then s1.put ⟨NET_LOSS_NEXT, 30, 30⟩ 1
  else State.showLoss { s1 with net := { s1.net with loss := s1.net.loss ++ [ctx] } }

def State.reserve (s : State) (r : Nat) : Nat := if 2 ≤ r ∧ r ≤ 7 then 1024 * polReserve s.polSec r else 0

/-- Bytes of the shared part. -/
def State.sharedPart (s : State) : Nat := 2048 * 1024 - ((rangeFrom 2 6).map s.reserve).foldl (· + ·) 0

def heldSum (l : List InFrame) (f : InFrame → Bool) : Nat := ((l.filter f).map InFrame.len).foldl (· + ·) 0

/-- Show the bytes held. -/
def State.showBuf (s : State) (p : Nat) : State := s.wrN (NET_P_BUF_USED p) (heldSum (s.net.held.getD p []) (fun _ => true))

/-- Whether a frame of a rank is admitted, and whether into the shared part. -/
def State.admits (s : State) (p : Nat) (f : InFrame) : Option Bool :=
  let l := s.net.held.getD p []
  let sh := heldSum l (fun x => x.shared)
  if f.yellow then (if 2 * (sh + f.len) ≤ s.sharedPart then some true else none)
  else if heldSum l (fun x => !x.shared && x.rank == f.rank) + f.len ≤ s.reserve f.rank then some false
  else if sh + f.len ≤ s.sharedPart then some true
  else none

/-- Admission of a metered frame. -/
def State.takeIn (s : State) (p : Nat) (f : InFrame) : State :=
  match s.admits p f with
  | some shared =>
    State.showBuf { s with net := { s.net with held := s.net.held.modify p (fun l => l ++ [{ f with shared }]) } } p
  | none =>
    if f.yellow then (s.count (NET_P_YELLOW_DROP p)).ctxDropped f.ctx
    else (s.count (NET_P_ADMIT_LOSS p)).rankedLoss f.ctx f.rank

/-! ## Reception (R310, R311, R318) -/

/-- A frame of context `n` is metered and admitted. -/
def State.classify (s : State) (n p : Nat) (f : List Byte) (rct : Bool) (wire stamp : Nat) : State :=
  match s.ctxIn s.net.flowsOn n with
  | none => s
  | some c =>
    let (s1, col) := s.meterFrame c wire
    if col = 2 then
      ((s1.count (NET_P_RED_DROP p)).ctxDropped n).raiseMask (if 2 ≤ c.rank ∧ c.rank ≤ 4 then 577 else 578) (2 ^ p)
    else if col = 1 ∧ c.ydrop = true then (s1.count (NET_P_YELLOW_DROP p)).ctxDropped n
    else
      let s2 := if col = 0 then s1.ctxGreen n else s1
      if c.kind = 0 then s2.ctxDropped n
      else s2.takeIn p { ctx := n, rank := c.rank, kind := c.kind, target := c.target, bytes := f, len := wire, stamp, yellow := col == 1,
                         rct, shared := false }

/-- A frame that passed R310: PRP, then classification; a supervision frame belongs to context 1 (R318). -/
def State.takeFrame (s : State) (p : Nat) (f : List Byte) (capture : Nat) : State :=
  let body := f.take (f.length - 4)
  let stamp := capture / 64 * 64 - s.bits (NET_P_LAT_RX p) 15 0
  let prp := s.on NET_CTRL_PRP_EN
  let rct := if prp then rctOf body else none
  let plain := if rct.isSome then body.take (body.length - 6) else body
  let et := frameType plain
  let q := parseFrame p (frameTagged plain) (frameVid plain) et (plain.drop (frameHead plain))
  let (s1, dup) : State × Bool := match rct with
    | none => (s, false)
    | some (seq, lan) =>
      let s0 := if lan = 0xA + p then s else (s.count NET_PRP_WRONG_LAN_CNT).raiseMask (515 + 32 * p) (2 ^ p)
      s0.prpNode p (beAt plain 6 6) seq (isPtp et q)
  if dup then s1
  else s1.classify (if prp ∧ et = 0x88FB then 1 else s1.matchCtx q.key) p plain rct.isSome f.length stamp

/-- The wake match of a port in SLEEP (R399, R400). -/
def State.wakeMatch (s : State) (p : Nat) (f : List Byte) : State :=
  if f.take 6 == s.portMac p && (frameType f == s.bits (PWR_ETH_WAKE p) 15 0 || s.bits (PWR_ETH_WAKE p) 16 16 == 1) then s.wake (wakeEth p)
  else s

/-- A frame completes reception on port `p`; `capture` is its PTP time at the SFD in 1/256 ns (R310, R315, R400). -/
def rxFrame (p : Nat) (bytes : List Byte) (capture : Nat) (s : State) : State :=
  if !s.portOn p then s
  else if s.asleep then (if s.pwrState = 3 ∨ s.pwrState = 4 then s.wakeMatch p bytes else s)
  else
    let s1 := s.count (NET_P_RX_FRAMES p)
    if s.frameOk bytes then s1.takeFrame p bytes capture else s1.rxError p

end Sys2Proof.Machine
end

