-- ==== Sys2Proof/Machine/NetSinks.lean ====
section
/-!
DEFINITION. Where the network unit's ingress frames go (R323 to R326, R330): telemetry, RTP reassembly for the
decoder, the tile receiver and the host receive rings.
-/

namespace Sys2Proof.Machine

/-! ## TELEM (R323) -/

/-- A telemetry frame: its UDP payload passes to the context's check unit and to the overlay (R192, R323, R374). -/
def State.sinkTelem (s : State) (f : InFrame) (udp : Option (List Byte)) : State :=
  let bad := (s.ctxDropped f.ctx).raiseOnce 579 f.ctx
  let d := s.ovlDesc
  match udp with
  | none => bad
  | some pl =>
    if pl.length = 0 ∨ 1024 < pl.length ∨ d.isEmpty ∨ ovlCku d f.target = 0xFF then bad
    else
      let (s1, r) := s.checkTelemetry (ovlCku d f.target) pl
      s1.telemetry f.target pl (r == .crcFailure) (r == .repeated) (f.stamp / 256)

/-! ## DECODE (R324) -/

def State.rtpOf (s : State) (x : Nat) : RtpRx := s.net.rtp.getD x .reset
def State.setRtp (s : State) (x : Nat) (f : RtpRx → RtpRx) : State := { s with net := { s.net with rtp := s.net.rtp.modify x f } }

/-- Ring of decoder context `x`: base, descriptors, and the bounds of its data area as offsets from the base (R279). -/
def State.vdecRing (s : State) (x : Nat) : Nat × Nat × Nat × Nat :=
  let d := s.bits (VDEC_CTX_RING_CFG x) 27 16
  (65536 * s.bits (VDEC_CTX_RING_BASE x) 19 0, d, 32 * d, 65536 * s.bits (VDEC_CTX_RING_CFG x) 15 0)

/-- The descriptor indices in [get, put) modulo `n`. -/
def ringSpan (get put n : Nat) : List Nat := if n = 0 then [] else (List.range ((put + n - get) % n)).map (fun i => (get + i) % n)

/-- Place `len` bytes in a data area [lo, hi): after the last AU at `pos`, else from the start; none where they would
meet the data of an outstanding descriptor. -/
def placeAu (lo hi pos len : Nat) (busy : List (Nat × Nat)) : Option Nat :=
  let a := (max pos lo + 15) / 16 * 16
  let lo' := (lo + 15) / 16 * 16
  let ok := fun (p : Nat) => decide (p + len ≤ hi) && busy.all (fun (b : Nat × Nat) => decide (p + len ≤ b.1 ∨ b.1 + b.2 ≤ p))
  if ok a then some a else if hi < a + len ∧ ok lo' then some lo' else none

/-- Data ranges of outstanding descriptors of a ring. -/
def State.ringBusy (s : State) (base : Nat) (idx : List Nat) : List (Nat × Nat) :=
  idx.map (fun i => (s.memNat (base + 32 * i) 4, s.memNat (base + 32 * i + 4) 4))

/-- The 32 bytes of an AU descriptor (R280). -/
def auDescriptor (off len ns sec flags au : Nat) : List Byte :=
  leBytes 4 off ++ leBytes 4 len ++ leBytes 4 ns ++ leBytes 6 sec ++ leBytes 2 flags ++ leBytes 4 au ++ List.replicate 8 0

/-- Unsigned LEB128. -/
def leb128 : Nat → Nat → List Byte
  | 0, _ => []
  | fuel + 1, v => if v < 128 then [BitVec.ofNat 8 v] else BitVec.ofNat 8 (128 + v % 128) :: leb128 fuel (v / 128)

/-- An LEB128 value: the number and the bytes it took. -/
def leb128At : Nat → List Byte → Option (Nat × Nat)
  | 0, _ => none
  | _, [] => none
  | fuel + 1, b :: t =>
    if b.toNat < 128 then some (b.toNat, 1)
    else (leb128At fuel t).map (fun (r : Nat × Nat) => (b.toNat % 128 + 128 * r.1, r.2 + 1))

/-- Type of an OBU. -/
def obuType (o : List Byte) : Nat := byteAt o 0 / 8 % 16

/-- OBUs grouped into frame units: a unit that holds a frame takes only tile groups and repeated headers after it. -/
def frameUnits (os : List (List Byte)) : List (List (List Byte)) :=
  os.foldl (fun (acc : List (List (List Byte))) o => match acc.reverse with
    | [] => [[o]]
    | u :: before =>
      if u.any (fun x => obuType x == 3 || obuType x == 6) && obuType o != 4 && obuType o != 7 then acc ++ [[o]]
      else (before.reverse) ++ [u ++ [o]]) []

/-- A byte string behind its length. -/
def lengthed (b : List Byte) : List Byte := leb128 8 b.length ++ b

/-- An AU from its NAL units, behind start codes, or from its OBUs in the length-delimited format (R324). -/
def auBytes (av1 : Bool) (units : List (List Byte)) : List Byte :=
  if av1 then lengthed ((frameUnits units).flatMap (fun u => lengthed (u.flatMap lengthed)))
  else units.flatMap (fun u => [0, 0, 0, 1] ++ u)

/-- Capture time of an AU (R324): its RTP timestamp on the 90 kHz clock, or its first packet's arrival. -/
def rtpCapture (clock : Bool) (ts arrival : Nat) : Nat :=
  if clock then
    let m := ((arrival + 1) * 9 - 1) / 100000
    let back := (m + 2 ^ 32 - ts % 2 ^ 32) % 2 ^ 32
    100000 * (m - back) / 9
  else arrival

/-- The AU being gathered ends: it is written whole, or discarded with source 582 (R324). -/
def State.endAu (s : State) (c : FlowCtx) : State :=
  let x := c.target
  let r := s.rtpOf x
  let units := match r.frag with | some u => r.units ++ [u] | none => r.units
  let closed := fun (t : State) => t.setRtp x (fun k => { k with opened := false, units := [], frag := none, loss := false, auDisc := false })
  if !r.opened then s
  else
    let data := if units.isEmpty then [] else auBytes c.av1 units
    let (base, n, lo, hi) := s.vdecRing x
    let put := s.bits (VDEC_CTX_PUT x) 11 0
    let get := s.bits (VDEC_CTX_GET x) 11 0
    let full := n == 0 || (put + 1) % n == get || !s.on (VDEC_CTX_CFG_EN x)
    if data.isEmpty then closed s
    else match (if full then none else placeAu lo hi r.pos data.length (s.ringBusy base (ringSpan get put n))) with
    | none => (closed (s.setRtp x (fun k => { k with discont := true }))).raiseOnce 582 c.ctx
    | some off =>
      let t := rtpCapture c.rtp r.ts (r.stamp / 256)
      let s0 := (s.dmaWrite 8 writerTile (base + off) data 0).1
      let s1 := Prod.fst (s0.dmaWrite 8 writerTile (base + 32 * put)
        (auDescriptor off data.length (t % 10 ^ 9) (t / 10 ^ 9) (bit r.loss + 2 * bit r.auDisc) r.auNo) 0)
      closed ((s1.wrN (VDEC_CTX_PUT x) ((put + 1) % n)).setRtp x (fun k => { k with
        pos := off + data.length, auNo := (k.auNo + 1) % 2 ^ 32 }))

/-- The NAL units of an aggregation packet. -/
def apUnits : Nat → List Byte → List (List Byte)
  | 0, _ => []
  | fuel + 1, b =>
    let n := beAt b 0 2
    if b.length < 2 ∨ n = 0 ∨ b.length < 2 + n then [] else slice b 2 n :: apUnits fuel (b.drop (2 + n))

/-- An RFC 7798 payload enters the AU (R324): single NAL units, aggregation packets and fragmentation units; a
fragment whose NAL unit has not begun is dropped, and PACI packets are discarded. -/
def RtpRx.takeHevc (r : RtpRx) (p : List Byte) : RtpRx :=
  let typ := byteAt p 0 / 2 % 64
  if p.length < 2 ∨ typ = 50 then r
  else if typ = 48 then { r with units := r.units ++ apUnits p.length (p.drop 2) }
  else if typ = 49 then
    let fu := byteAt p 2
    let body := p.drop 3
    let cur := if 128 ≤ fu then some ([BitVec.ofNat 8 (128 * (byteAt p 0 / 128) + fu % 64 * 2 + byteAt p 0 % 2), p.getD 1 0] ++ body)
      else r.frag.map (· ++ body)
    match cur with
    | none => r
    | some u => if fu / 64 % 2 = 1 then { r with units := r.units ++ [u], frag := none } else { r with frag := some u }
  else { r with units := r.units ++ [p] }

/-- The OBU elements of an AV1 RTP payload: `w` of them, or 0 when each carries its length. -/
def obuElements : Nat → Nat → List Byte → List (List Byte)
  | 0, _, _ => []
  | fuel + 1, w, b =>
    if b.isEmpty then []
    else if w = 1 then [b]
    else match leb128At 8 b with
      | none => []
      | some (n, k) => slice b k n :: obuElements fuel (w - 1) (b.drop (k + n))

/-- An AV1 RTP payload enters the AU (R324): its first element may continue an OBU, and its last may go on. -/
def RtpRx.takeAv1 (r : RtpRx) (p : List Byte) : RtpRx :=
  let h := byteAt p 0
  let els := obuElements p.length (h / 16 % 4) (p.drop 1)
  match els with
  | [] => r
  | e :: rest =>
    let first := if 128 ≤ h then r.frag.map (· ++ e) else some e
    let all := (match first with | some u => [u] | none => []) ++ rest
    if h / 64 % 2 = 1 then
      match all.reverse with
      | [] => { r with frag := none }
      | u :: before => { r with units := r.units ++ before.reverse, frag := some u }
    else { r with units := r.units ++ all, frag := none }

/-- The payload of an RTP packet: its header, contributing sources, extension and padding removed. -/
def rtpPayload (b : List Byte) : Option (List Byte) :=
  let cc := byteAt b 0 % 16
  let h1 := 12 + 4 * cc
  let h2 := if byteAt b 0 / 16 % 2 = 1 then h1 + 4 + 4 * beAt b (h1 + 2) 2 else h1
  let pad := if byteAt b 0 / 32 % 2 = 1 then byteAt b (b.length - 1) else 0
  if byteAt b 0 / 64 ≠ 2 ∨ b.length < h2 + pad then none else some (slice b h2 (b.length - h2 - pad))

/-- A packet with RTP header `b` and payload `p` in its context (R324). -/
def State.takeRtp (s : State) (f : InFrame) (c : FlowCtx) (b p : List Byte) : State :=
  let x := c.target
  let r := s.rtpOf x
  let seq := beAt b 2 2
  let ts := beAt b 4 4
  let ssrc := beAt b 8 4
  let same := r.ssrc == ssrc
  let d := match r.next with | some n => if same then (seq + 65536 - n) % 65536 else 0 | none => 0
  if 32768 ≤ d then s.ctxDropped f.ctx
  else
    let gap := decide (0 < d)
    let change := r.next.isSome && !same
    let inside := gap && r.opened && r.ts == ts && same
    let s1 := if gap then s.raiseOnce 581 f.ctx else s
    let s2 := s1.setRtp x (fun k => { k with
      next := some ((seq + 1) % 65536), ssrc, loss := k.loss || (gap && k.opened), discont := k.discont || change || (gap && !inside) })
    let s3 := if r.opened && (r.ts != ts || change) then s2.endAu c else s2
    let s4 := s3.setRtp x (fun k => if k.opened then k
      else { k with opened := true, ts, stamp := f.stamp, auDisc := k.discont, discont := false })
    let s5 := s4.setRtp x (fun k => if c.av1 then k.takeAv1 p else k.takeHevc p)
    if 128 ≤ byteAt b 1 then s5.endAu c else s5

/-- A DECODE frame. -/
def State.sinkDecode (s : State) (f : InFrame) (udp : Option (List Byte)) : State :=
  match udp, s.ctxIn s.net.flowsOn f.ctx with
  | some b, some c => match rtpPayload b with
    | some p => s.takeRtp f c b p
    | none => s.ctxDropped f.ctx
  | _, _ => s.ctxDropped f.ctx

/-! ## Host receive rings (R326) -/

def State.hrxBase (s : State) (r : Nat) : Nat := s.addr36 (NET_HRX_BASE_LO r) (NET_HRX_BASE_HI r)
def State.hrxDescs (s : State) (r : Nat) : Nat := s.bits (NET_HRX_CFG r) 15 4

/-- A frame for host receive ring `target`. -/
def State.sinkHost (s : State) (p : Nat) (f : InFrame) : State :=
  let r := f.target
  let n := s.hrxDescs r
  let put := s.bits (NET_HRX_PUT r) 11 0
  let d := s.hrxBase r + 32 * put
  if s.bits (NET_HRX_CFG r) 0 0 = 0 ∨ n = 0 ∨ (put + 1) % n = s.bits (NET_HRX_GET r) 11 0 ∨ s.bits (NET_HRX_CFG r) 29 16 < f.bytes.length
      ∨ !s.inRegion 0 d 32 ∨ s.poisonedIn d 32 ∨ !s.inRegion 0 (s.memNat d 4 * 16) f.bytes.length then
    ((s.count (NET_HRX_DROP_CNT r)).ctxDropped f.ctx).raiseOnce 583 f.ctx
  else
    let a := s.memNat d 4 * 16
    let t := f.stamp / 256
    let s1 := (s.dmaWrite 8 writerTile a f.bytes 0).1
    let s2 := Prod.fst (s1.dmaWrite 8 writerTile (d + 4) (leBytes 2 f.bytes.length ++ leBytes 1 p ++ leBytes 1 (1 + 2 * bit f.yellow + 4 * bit f.rct)
      ++ leBytes 2 f.ctx ++ leBytes 2 (256 * (f.stamp % 256)) ++ leBytes 4 (t % 10 ^ 9) ++ leBytes 6 (t / 10 ^ 9)) 0)
    s2.wrN (NET_HRX_PUT r) ((put + 1) % n)

/-! ## The drain (R330) -/

/-- UDP payload of a held frame. -/
def InFrame.udp (f : InFrame) : Option (List Byte) :=
  (parseFrame 0 (frameTagged f.bytes) (frameVid f.bytes) (frameType f.bytes) (f.bytes.drop (frameHead f.bytes))).udp

/-- A frame reaches its destination (R321). -/
def State.deliverFrame (s : State) (p : Nat) (f : InFrame) : State :=
  match f.kind with
  | 1 => s.sinkHost p f
  | 2 => match f.udp with | some dg => s.tileDatagram dg | none => s.ctxDropped f.ctx
  | 3 => s.sinkDecode f f.udp
  | 4 => s.sinkTelem f f.udp
  | _ => s

/-- The first frame of the highest rank a port holds: its index. -/
def nextHeld (l : List InFrame) : Option Nat :=
  match l with
  | [] => none
  | _ =>
    let best := (l.map InFrame.rank).foldl min 8
    l.findIdx? (fun f => f.rank == best)

/-- The port drained next: the higher rank, the rotation between equals. -/
def State.drainPort (s : State) : Option Nat :=
  let rank := fun (p : Nat) => ((s.net.held.getD p []).map InFrame.rank).foldl min 8
  if rank 0 = 8 ∧ rank 1 = 8 then none
  else if rank 0 < rank 1 then some 0 else if rank 1 < rank 0 then some 1 else some s.net.drainTurn

/-- Take a frame out of a port's buffer and deliver it. -/
def State.drainFrame (s : State) (p i : Nat) : State :=
  match (s.net.held.getD p [])[i]? with
  | none => s
  | some f =>
    (State.showBuf { s with net := { s.net with held := s.net.held.modify p (fun l => l.eraseIdx i), drainTurn := 1 - p } } p).deliverFrame p f

/-- One frame drains, by rank and oldest first (R330). -/
def ingressDrain (s : State) : State :=
  match s.drainPort with
  | none => s
  | some p => match nextHeld (s.net.held.getD p []) with
    | none => s
    | some i => s.drainFrame p i

/-- Every held frame drains, as sleep entry asks (R399). -/
def State.drainAll (s : State) : State :=
  (List.range ((s.net.held.map List.length).sum)).foldl (fun st _ => ingressDrain st) s

end Sys2Proof.Machine
end

