-- ==== Sys2Proof/Machine/Net.lean ====
section
/-!
DEFINITION. The send side of the network unit (R311, R316, R326, R327, R332 to R334), its flow commands (R322), its
links and its lists.
-/

namespace Sys2Proof.Machine

/-! ## Egress queues (R332) -/

/-- Credit units: 5 × 10^-9 bit, what 1 kb/s gives in 1/100 half-nanosecond. -/
abbrev creditBit : Int := 200000000

/-- Rate of a port in Gb/s (R309). -/
def State.portRate (s : State) (p : Nat) : Nat :=
  match s.get (NET_P_CFG_MODE p) with | 2 => 50 | 3 => 25 | 4 => 25 | _ => 100

def State.queueRank (s : State) (k : Nat) : Nat := if 128 ≤ k then 3 else s.bits (NET_Q_CFG k) 2 0
def State.queueShaped (s : State) (k : Nat) : Bool := k < 128 && s.bits (NET_Q_CFG k) 3 3 == 1
def State.queue (s : State) (k : Nat) : Queue := s.net.queues.getD k ⟨[], 0, 0⟩
def State.setQueue (s : State) (k : Nat) (f : Queue → Queue) : State := { s with net := { s.net with queues := s.net.queues.modify k f } }

/-- The credit of a queue brought up to a moment (R332). -/
def Queue.settle (slope hi till : Nat) (q : Queue) : Queue :=
  let up := q.credit + (slope : Int) * ((till - q.at_ : Nat) : Int)
  let c := if q.frames.isEmpty then (if 0 < q.credit then 0 else min up 0) else min up ((hi : Int) * creditBit)
  { q with credit := c, at_ := max q.at_ till }

def State.settleQueueAt (s : State) (k till : Nat) : State :=
  s.setQueue k (Queue.settle (s.rdN (NET_Q_SLOPE k)) (s.rdN (NET_Q_HICREDIT k)) till)

/-- The queues of port `p`: its 64 and its own supervision queue. -/
def portQueues (p : Nat) : List Nat := rangeFrom (64 * p) 64 ++ [128 + p]

/-- A queue takes up to 1,024 frames. -/
def State.queueRoom (s : State) (k : Nat) : Bool := decide ((s.queue k).frames.length < 1024)

/-- Enqueue a frame. -/
def State.enqueue (s : State) (k : Nat) (f : OutFrame) : State :=
  (if s.queueShaped k then s.settleQueueAt k (100 * s.now) else s).setQueue k (fun q => { q with frames := q.frames ++ [f] })

/-- Frames are at least 60 bytes before the RCT. -/
def padFrame (f : List Byte) : List Byte := padTo 60 f

/-- The trailer of a frame on port `p` (R311). -/
def rctBytes (f : List Byte) (seq p : Nat) : List Byte :=
  beBytes 2 seq ++ beBytes 2 (4096 * (0xA + p) + (f.length + 6 - frameHead f) % 4096) ++ [0x88, 0xFB]

/-- The frame is a PTP message. -/
def framePtp (f : List Byte) : Bool :=
  isPtp (frameType f) (parseFrame 0 (frameTagged f) (frameVid f) (frameType f) (f.drop (frameHead f)))

/-- A frame for the ports of `mask`, in queue `q` of each: on both ports of a PRP node it takes an RCT (R311); an
encoder's frame has the port's own source address (R327). -/
def State.sendFrame (s : State) (mask q : Nat) (f : OutFrame) : State :=
  let twin := mask == 3 && s.on NET_CTRL_PRP_EN && !framePtp f.bytes
  let seq := s.net.seqNr
  let s1 := if twin then { s with net := { s.net with seqNr := (seq + 1) % 65536 } } else s
  ((List.range 2).filter (fun p => bitAt mask p)).foldl (fun st p =>
    let b := if f.enc.isSome then f.bytes.take 6 ++ s.portMac p ++ f.bytes.drop 12 else f.bytes
    st.enqueue (if 64 ≤ q then 128 + p else 64 * p + q) { f with bytes := if twin then b ++ rctBytes b seq p else b, enq := st.now }) s1

/-- Every port of `mask` has room in queue `q`. -/
def State.maskRoom (s : State) (mask q : Nat) : Bool := (List.range 2).all (fun p => !bitAt mask p || s.queueRoom (64 * p + q))

/-! ## Host transmit rings (R326) -/

/-- Process the descriptors of transmit ring `r` from GET on; a full queue stops the ring. -/
def State.pumpHtx (s : State) (r : Nat) : Nat → State
  | 0 => s
  | fuel + 1 =>
    let n := s.bits (NET_HTX_CFG r) 15 4
    let get := s.bits (NET_HTX_GET r) 11 0
    if !s.on NET_CTRL_EN ∨ s.bits (NET_HTX_CFG r) 0 0 = 0 ∨ n = 0 ∨ get = s.bits (NET_HTX_PUT r) 11 0 then s
    else
      let d := s.addr36 (NET_HTX_BASE_LO r) (NET_HTX_BASE_HI r) + 32 * get
      let a := s.memNat d 4 * 16
      let len := s.memNat (d + 4) 2
      let mask := s.memNat (d + 6) 1 % 4
      let q := s.memNat (d + 10) 1
      let ctx := s.bits (NET_HTX_CFG r) 29 16
      let poison := s.poisonedIn d 32 || s.poisonedIn a len
      let next := (if poison then s.notePoisonRead 8 else s).wrN (NET_HTX_GET r) ((get + 1) % n)
      let ok := !poison && s.inRegion 0 d 32 && decide (60 ≤ len ∧ len + 4 ≤ s.bits NET_MAX_FRAME 13 0 ∧ q < 64 ∧ a + len ≤ memSize)
        && (match s.ctxIn s.net.flowsOn ctx with
            | some c => c.kind == 6 && [0, 1].all (fun p => !bitAt mask p || s.queueRank (64 * p + q) == c.rank)
            | none => false)
      if !ok then ((next.count (NET_HTX_ERR_CNT r)).raiseOnce 584 ctx).pumpHtx r fuel
      else if !s.maskRoom mask q then s
      else
        (next.sendFrame mask q { ctx, bytes := s.memRead a len, ts := if s.memNat (d + 7) 1 % 2 = 1 then some (s.memNat (d + 8) 2) else none
                                 enq := 0, enc := none }).pumpHtx r fuel

/-- A write of NET_HTX_PUT (R326). -/
def htxPut (r : Nat) (val : Word) (s : State) : State :=
  if r < 16 then (s.wrN (NET_HTX_PUT r) (val.toNat % 4096)).pumpHtx r 4096 else s

/-! ## Encoder output (R327) -/

/-- Positions of start codes 00 00 01 in a byte string, with their index. -/
def nalStarts : List Byte → Nat → List Nat
  | a :: b :: c :: t, i => if a = 0 ∧ b = 0 ∧ c = 1 then i :: nalStarts (b :: c :: t) (i + 1) else nalStarts (b :: c :: t) (i + 1)
  | _, _ => []

/-- The NAL units of an AU: what lies between start codes, without the zero before a longer one. -/
def nalUnits (au : List Byte) : List (List Byte) :=
  let st := nalStarts au 0
  (List.range st.length).map (fun i =>
    let a := st.getD i 0 + 3
    let b := if i + 1 < st.length then st.getD (i + 1) 0 else au.length
    let u := slice au a (b - a)
    if i + 1 < st.length ∧ (u.reverse.getD 0 1) = 0 then u.take (u.length - 1) else u)

/-- The pieces of a NAL unit's body in fragments of at most `n` bytes. -/
def fuParts (n : Nat) (body : List Byte) : List (List Byte) := chunksOf (max n 1) body.length body

/-- RTP payloads of a NAL unit: itself, or its fragmentation units (R327). -/
def nalPayloads (maxPay : Nat) (u : List Byte) : List (List Byte) :=
  if u.length ≤ maxPay then [u]
  else
    let ps := fuParts (maxPay - 3) (u.drop 2)
    let b0 := byteAt u 0
    (List.range ps.length).map (fun i =>
      leBytes 1 (128 * (b0 / 128) + 98 + b0 % 2) ++ [u.getD 1 0]
        ++ leBytes 1 (128 * bit (i == 0) + 64 * bit (i + 1 == ps.length) + b0 / 2 % 64) ++ ps.getD i [])

/-- A frame around a UDP payload by a template (R327). -/
def State.tmplFrame (s : State) (p : Nat) (t pay : List Byte) : List Byte :=
  let v6 := bitAt (byteAt t 8) 1
  let udpLen := 8 + pay.length
  let src := if v6 then slice t 0x10 16 else slice t 0x10 4
  let dst := if v6 then slice t 0x20 16 else slice t 0x20 4
  let ports := beBytes 2 (leAt t 0x30 2) ++ beBytes 2 (leAt t 0x32 2)
  let udp0 := ports ++ beBytes 2 udpLen
  let cs := checksum (wordSum (src ++ dst ++ beBytes 4 udpLen ++ beBytes 4 17 ++ udp0 ++ [0, 0] ++ pay))
  let udp := udp0 ++ beBytes 2 (if cs = 0 then 0xFFFF else cs) ++ pay
  let tos := byteAt t 9 % 64 * 4
  let ip := if v6 then
      beBytes 4 (6 * 2 ^ 28 + 2 ^ 20 * tos) ++ beBytes 2 udpLen ++ [17] ++ leBytes 1 (byteAt t 0x0A) ++ src ++ dst
    else
      let h := fun (c : Nat) => [0x45] ++ leBytes 1 tos ++ beBytes 2 (20 + udpLen) ++ [0, 0, 0x40, 0] ++ leBytes 1 (byteAt t 0x0A) ++ [17]
        ++ beBytes 2 c ++ src ++ dst
      h (checksum (wordSum (h 0)))
  padFrame (slice t 0 6 ++ s.portMac p ++ (if bitAt (byteAt t 8) 0 then [0x81, 0x00] ++ beBytes 2 (leAt t 6 2) else [])
    ++ (if v6 then [0x86, 0xDD] else [0x08, 0x00]) ++ ip ++ udp)

/-- The RTP packet with sequence number `seq`. -/
def rtpPacket (t : List Byte) (marker : Bool) (seq ts : Nat) (pay : List Byte) : List Byte :=
  [0x80] ++ leBytes 1 (128 * bit marker + byteAt t 0x0B % 128) ++ beBytes 2 seq ++ beBytes 4 (ts % 2 ^ 32) ++ beBytes 4 (leAt t 0x0C 4) ++ pay

def State.encTx (s : State) (e : Nat) : EncTx := s.net.encTx.getD e ⟨0, 0, 0, false⟩
def State.setEncTx (s : State) (e : Nat) (f : EncTx → EncTx) : State := { s with net := { s.net with encTx := s.net.encTx.modify e f } }

/-- Every packet of the AU is sent or dropped: VENC_CTX_OUT_GET advances (R327). -/
def State.encSettle (s : State) (e : Nat) : State :=
  let k := s.encTx e
  let n := s.bits (VENC_CTX_OUT_CFG e) 27 16
  if k.all ∧ k.out = 0 ∧ n ≠ 0 then
    (s.wrN (VENC_CTX_OUT_GET e) ((s.bits (VENC_CTX_OUT_GET e) 11 0 + 1) % n)).setEncTx e (fun k => { k with next := 0, all := false })
  else s

/-- Queue the packets of an AU from `i` on, as far as the queues have room. -/
def State.queuePackets (s : State) (e : Nat) (c : FlowCtx) (t : List Byte) (ts : Nat) (ps : List (List Byte)) : Nat → State
  | 0 => s
  | fuel + 1 =>
    let k := s.encTx e
    if ps.length ≤ k.next then (s.setEncTx e (fun k => { k with all := true })).encSettle e
    else if !s.maskRoom c.ports c.queue then s
    else
      let pkt := rtpPacket t (k.next + 1 == ps.length) k.seq ts (ps.getD k.next [])
      let copies := bit (bitAt c.ports 0) + bit (bitAt c.ports 1)
      let s1 := s.sendFrame c.ports c.queue
        { ctx := c.ctx, bytes := s.tmplFrame (if bitAt c.ports 0 then 0 else 1) t pkt, ts := none, enq := 0, enc := some e }
      (s1.setEncTx e (fun k => { k with seq := (k.seq + 1) % 65536, next := k.next + 1, out := k.out + copies })).queuePackets e c t ts ps fuel

/-- The AU at VENC_CTX_OUT_GET is packetised into its flow's queue, as far as that has room (R327); one that reads as
poison is dropped whole. -/
def encTxAu (e : Nat) (s : State) : State :=
  match s.net.flowsOn.find? (fun c => c.kind == 5 && c.target == e) with
  | none => s
  | some c =>
    let get := s.bits (VENC_CTX_OUT_GET e) 11 0
    if !s.on NET_CTRL_EN ∨ 16 ≤ e ∨ get = s.bits (VENC_CTX_OUT_PUT e) 11 0 ∨ (s.encTx e).all = true then s
    else
      let base := 65536 * s.bits (VENC_CTX_OUT_BASE e) 19 0
      let d := base + 32 * get
      let t := netTmpl s.netSec c.tmpl
      let ts := (10 ^ 9 * s.memNat (d + 12) 6 + s.memNat (d + 8) 4) * 9 / 100000
      let a := base + s.memNat d 4
      let n := s.memNat (d + 4) 4
      let bad := s.poisonedIn d 32 || s.poisonedIn a n
      let ps := if bad then [] else (nalUnits (s.memRead a n)).flatMap (nalPayloads (leAt t 0x34 2))
      (if bad then s.notePoisonRead 8 else s).queuePackets e c t ts ps (ps.length + 1)

/-! ## Sending (R316, R333, R334) -/

/-- The bin of a number: 0 below `unit`, i in [2^(i−1), 2^i) units. -/
def histBin (unit v : Nat) : Nat := if v < unit then 0 else min 15 ((v / unit).log2 + 1)

def State.histAt (s : State) (i : Nat) : Nat := ((s.net.hist.find? (fun (e : Nat × Nat) => e.1 == i)).map Prod.snd).getD 0
/-- Show the bin that NET_HIST_SEL selects. -/
def State.showHist (s : State) : State := s.wrN NET_HIST_DATA (s.histAt (s.bits NET_HIST_SEL 11 0))
def State.setHist (s : State) (i v : Nat) : State :=
  State.showHist { s with net := { s.net with hist := insertBy Prod.fst (i, v) (s.net.hist.filter (fun e => e.1 != i)) } }
/-- Add one to a bin of queue `k`; kind 0 depth, 1 delay. -/
def State.histAdd (s : State) (k kind b : Nat) : State :=
  if 128 ≤ k then s
  else
    let i := k % 64 + 64 * (k / 64) + 128 * kind + 256 * b
    s.setHist i (min (s.histAt i + 1) 0xFFFFFFFF)

/-- Depth of a queue in bytes. -/
def Queue.depth (q : Queue) : Nat := (q.frames.map (fun f => f.bytes.length + 4)).foldl (· + ·) 0

/-- Every NET_HIST_PERIOD ticks each queue's depth counts in a bin (R334). -/
def histSample (s : State) : State :=
  let period := clampNat 16 65535 (s.bits NET_HIST_PERIOD 15 0)
  if s.evc.tick < s.net.histTick + period then s
  else
    (List.range 128).foldl (fun st k => st.histAdd k 0 (histBin 64 (st.queue k).depth))
      { s with net := { s.net with histTick := s.evc.tick } }

/-- Show the head of a transmit-timestamp queue and its length (R316). -/
def State.showTsq (s : State) (p : Nat) : State :=
  let l := s.net.tsq.getD p []
  let h := l.headD ⟨0, 0⟩
  let t := h.time / 256
  ((((s.put ⟨NET_P_TSQ_STATUS p, 4, 0⟩ l.length).wrN (NET_P_TSQ_ID p) h.id).wrN (NET_P_TSQ_NS p) (t % 10 ^ 9)).wrN (NET_P_TSQ_SEC p)
    (t / 10 ^ 9 % 2 ^ 32)).wrN (NET_P_TSQ_HI p) (t / 10 ^ 9 / 2 ^ 32 % 2 ^ 16 + 2 ^ 16 * (256 * (h.time % 256)))

/-- A timestamped frame has been sent (R316). -/
def State.pushStamp (s : State) (p : Nat) (e : TxStamp) : State :=
  if 16 ≤ (s.net.tsq.getD p []).length then
    ((s.put ⟨NET_P_TSQ_STATUS p, 8, 8⟩ 1).count (NET_P_TSQ_OVF_CNT p)).raiseOnce 67 0
  else State.showTsq { s with net := { s.net with tsq := s.net.tsq.modify p (fun l => l ++ [e]) } } p

/-- NET_P_TSQ_POP removes the head (R316). -/
def tsqPop (p : Nat) (s : State) : State :=
  if p < 2 then State.showTsq { s with net := { s.net with tsq := s.net.tsq.modify p (fun l => l.drop 1) } } p else s

/-- A copy of a queued frame has been sent or dropped. -/
def State.outDone (s : State) (f : OutFrame) : State :=
  match f.enc with
  | some e => (s.setEncTx e (fun k => { k with out := k.out - 1 })).encSettle e
  | none => s

/-- Half-ns times 100 at which port `p` may start its next frame. -/
def State.boundary (s : State) (p : Nat) : Nat := max (100 * s.now) (s.net.txEnd.getD p 0)

/-- Half-ns at which the delay window of a frame in queue `k` ends, by the bound of the tick's start (R333). -/
def State.delayEnd (s : State) (k : Nat) (f : OutFrame) : Option Nat :=
  let bound := s.wasBits (NET_Q_DELAY_MAX k) 23 0
  if 128 ≤ k ∨ bound = 0 then none else some (f.enq + 2000 * bound)

/-- The head of queue `k` can go at `t` (1/100 half-ns): its delay window has not ended. -/
def State.headReady (s : State) (k t : Nat) : Bool :=
  match (s.queue k).frames with
  | [] => false
  | f :: _ => match s.delayEnd k f with
    | none => true
    | some e => decide (t < 100 * e)

/-- The queue that sends next: highest rank, shaped before unshaped, then the rotation (R333). -/
def State.egressPick (s : State) (p : Nat) : Option Nat :=
  let el := (portQueues p).filter (fun k => s.headReady k (s.boundary p) && (!s.queueShaped k || decide (0 ≤ (s.queue k).credit)))
  let key := fun (k : Nat) => 2 * s.queueRank k + bit (!s.queueShaped k)
  let best := (el.map key).foldl min 16
  let tied := el.filter (fun k => key k == best)
  let turn := s.net.txTurn.getD p 0
  (tied.find? (fun k => decide (turn ≤ k))).orElse (fun _ => tied.head?)

/-- After a queue gives up its head: the credit of R332 where it was sent, and the sources that waited for room. -/
def State.pumpAll (s : State) : State := (List.range 16).foldl (fun st r => st.pumpHtx r 4096) s

/-- The frame `f` at the front of queue `k` leaves port `p` at `t` with its FCS; its queue, its credit, the port's time, the counters,
the latency histogram and the transmit timestamp follow (R315, R316, R332 to R334). -/
def State.sendFront (s1 : State) (p k t capture : Nat) (f : OutFrame) (rest : List OutFrame) : State :=
  let n := f.bytes.length + 4 + s1.get (NET_P_CFG_OVERHEAD p)
  let dur := 1600 * n / s1.portRate p
  let fcs := leBytes 4 (crc32 f.bytes)
  let s2 := s1.setQueue k (fun q => { q with
    frames := rest, at_ := t + dur
    credit := if s1.queueShaped k then q.credit + (s1.rdN (NET_Q_SLOPE k) : Int) * (dur : Int) - 8 * (n : Int) * creditBit else 0 })
  let s3 := { s2 with net := { s2.net with
    txEnd := s2.net.txEnd.set p (t + dur), txTurn := s2.net.txTurn.set p (k + 1), sent := s2.net.sent.set p (f.bytes ++ fcs) } }
  let s4 := (s3.count (NET_P_TX_FRAMES p)).histAdd k 1 (histBin 2000 (t / 100 - f.enq))
  let s5 := match f.ts with
    | some id => s4.pushStamp p ⟨id, capture + s1.bits (NET_P_LAT_TX p) 15 0⟩
    | none => s4
  (s5.outDone f).pumpAll

/-- The shaped queues of port `p` with their credit at `t` (R332). -/
def State.settlePort (s : State) (p t : Nat) : State :=
  ((portQueues p).filter s.queueShaped).foldl (fun st k => st.settleQueueAt k t) s

/-- At a frame boundary port `p` sends from the queue of R333; `capture` is the PTP time at the SFD in 1/256 ns. -/
def txFrame (p capture : Nat) (s : State) : State :=
  if !s.portOn p ∨ s.bits (NET_P_STATUS p) 0 0 = 0 ∨ 100 * (s.now + s.tickHalfNs) ≤ s.boundary p then s
  else
    match (s.settlePort p (s.boundary p)).egressPick p with
    | none => s
    | some k => match ((s.settlePort p (s.boundary p)).queue k).frames with
      | [] => s
      | f :: rest => (s.settlePort p (s.boundary p)).sendFront p k (s.boundary p) capture f rest

/-- The head of queue `q` of port `p` is still queued at its delay bound: a ranked loss (R331, R333). -/
def egressDelayDrop (p q : Nat) (s : State) : State :=
  let k := 64 * p + q
  match (s.queue k).frames with
  | [] => s
  | f :: rest =>
    if 2 ≤ p ∨ 64 ≤ q ∨ s.now + s.tickHalfNs ≤ (s.delayEnd k f).getD (s.now + s.tickHalfNs) then s
    else
      let s1 := (s.settleQueueAt k (100 * s.now)).setQueue k (fun x => { x with frames := rest })
      (((s1.count (NET_P_DELAY_LOSS p)).rankedLoss f.ctx (s.queueRank k)).outDone f).pumpAll

/-- The queued frames are discarded at sleep entry, without a loss (R399). -/
def State.discardEgress (s : State) : State :=
  let fs := s.net.queues.flatMap Queue.frames
  fs.foldl State.outDone { s with net := { s.net with queues := s.net.queues.map (fun (q : Queue) => { q with frames := [], credit := min q.credit 0 }) } }

/-! ## Supervision and links (R311, R337) -/

/-- The supervision frame of a doubly attached node, in IEC 62439-3's format. -/
def State.supFrame (s : State) : List Byte :=
  padFrame ([0x01, 0x15, 0x4E, 0x00, 0x01, 0x00] ++ s.portMac 0 ++ [0x88, 0xFB, 0x00, 0x01] ++ beBytes 2 s.net.supSeq ++ [20, 6] ++ s.portMac 0 ++ [0, 0])

/-- Every SUP_MS a supervision frame leaves on both ports, under context 1 at rank 3 (R311, R318). -/
def prpSupervisionSend (s : State) : State :=
  if !s.on NET_CTRL_EN || !s.on NET_CTRL_PRP_EN || decide (s.now + s.tickHalfNs ≤ s.net.supAt + s.supNs) then s
  else
    let s1 := { s with net := { s.net with supAt := s.now, supSeq := (s.net.supSeq + 1) % 65536 } }
    s1.sendFrame 3 64 { ctx := 1, bytes := s.supFrame, ts := none, enq := 0, enc := none }

/-- FEC in use, by mode: fixed, or what configuration and negotiation give (R309). -/
def State.fecInUse (s : State) (p fec : Nat) : Nat :=
  match s.get (NET_P_CFG_MODE p) with
  | 1 => if s.get (NET_P_CFG_FEC p) = 2 then 2 else 0
  | 2 => 2
  | 3 => fec % 4
  | 4 => if s.get (NET_P_CFG_FEC p) = 0 then 0 else 2
  | _ => 0

/-- A port gains link; `fec` is what negotiation gave a 25GBASE port (R337). -/
def portLinkUp (p fec : Nat) (s : State) : State :=
  if !s.portOn p ∨ s.bits (NET_P_STATUS p) 0 0 = 1 then s
  else
    let an := [1, 2, 4].contains (s.get (NET_P_CFG_MODE p))
    (s.wrN (NET_P_STATUS p) (1 + 2 * bit (!an) + 4 * s.fecInUse p fec + 16)).raiseMask (512 + 32 * p) (2 ^ p)

/-- A port loses link (R337). -/
def portLinkDown (p : Nat) (s : State) : State :=
  if 2 ≤ p ∨ s.bits (NET_P_STATUS p) 0 0 = 0 then s else (s.wrN (NET_P_STATUS p) 0).raiseMask (513 + 32 * p) (2 ^ p)

/-! ## Flow commands (R322) -/

abbrev flowLocked : Nat := 1
abbrev flowRank : Nat := 2
abbrev flowFull : Nat := 3
abbrev flowAbsent : Nat := 4
abbrev flowKey : Nat := 5

def State.flowRefuse (s : State) (err : Nat) : State := (s.put ⟨NET_FLOW_STATUS, 15, 8⟩ err).raiseOnce 576 (s.bits NET_FLOW_SEL 13 0)
def State.flowGood (s : State) : State := s.put ⟨NET_FLOW_STATUS, 15, 8⟩ 0

/-- NET_FLOW_DATA0 of a context. -/
def FlowCtx.data0 (c : FlowCtx) : Nat :=
  c.kind + 2 ^ 4 * c.rank + 2 ^ 7 * bit c.guar + 2 ^ 8 * c.ports + 2 ^ 10 * c.meter + 2 ^ 12 * bit c.ydrop + 2 ^ 13 * bit c.image
    + 2 ^ 16 * c.target + 2 ^ 24 * c.queue

/-- NET_FLOW_CMD READ (R322); a context that nothing defines reads as zeros. -/
def flowRead (s : State) : State :=
  let n := s.bits NET_FLOW_SEL 13 0
  let k := s.flowCount n
  let ws := match s.ctxIn s.net.flows n with
    | some c => c.data0 :: c.rates
    | none => [0, 0, 0, 0, 0]
  let all := ws ++ [k.green, k.dropped, k.loss]
  ((List.range 8).foldl (fun st i => st.wrN (NET_FLOW_DATA i) (all.getD i 0)) s).flowGood

/-- READ and clear. -/
def flowReadClear (s : State) : State := (flowRead s).setFlowCount ⟨s.bits NET_FLOW_SEL 13 0, 0, 0, 0⟩

/-- The context that NET_FLOW_DATA0 to DATA4 describe. -/
def State.flowData (s : State) : FlowCtx :=
  { ctx := s.bits NET_FLOW_SEL 13 0, kind := s.get (NET_FLOW_DATA_KIND 0), rank := s.get (NET_FLOW_DATA_RANK 0), guar := false
    ports := s.get (NET_FLOW_DATA_PORTS 0), meter := s.get (NET_FLOW_DATA_METER 0) % 3, ydrop := s.on (NET_FLOW_DATA_YELLOW_DROP 0), image := false
    target := s.get (NET_FLOW_DATA_TARGET 0), queue := s.get (NET_FLOW_DATA_QUEUE 0), rates := (List.range 4).map (fun i => s.rdN (NET_FLOW_DATA (i + 1)))
    tmpl := 0, rtp := false, av1 := false }

/-- Put a context into the commanded table. -/
def State.putFlow (s : State) (c : FlowCtx) : State :=
  State.flowGood { s with net := { s.net with flows := insertBy FlowCtx.ctx c (s.net.flows.filter (fun x => x.ctx != c.ctx)) } }

/-- NET_FLOW_CMD WRITE: the meter fields of an image context of rank 6 or 7, or a whole HOST_RX or DROP context that the
image does not define (R322). -/
def flowWrite (s : State) : State :=
  let d := s.flowData
  match s.ctxIn s.net.flows d.ctx with
  | some c =>
    if c.image then
      if d.ctx = 1 ∨ d.kind ≠ c.kind ∨ d.rank ≠ c.rank ∨ d.ports ≠ c.ports ∨ d.target ≠ c.target ∨ d.queue ≠ c.queue then s.flowRefuse flowLocked
      else if c.rank < 6 then s.flowRefuse flowRank
      else s.putFlow { c with meter := d.meter, ydrop := d.ydrop, rates := d.rates }
    else if 1 < d.kind ∨ (d.kind = 1 ∧ 15 < d.target) then s.flowRefuse flowLocked
    else if d.rank < 6 then s.flowRefuse flowRank
    else s.putFlow d
  | none =>
    if 1 < d.kind ∨ (d.kind = 1 ∧ 15 < d.target) then s.flowRefuse flowLocked
    else if d.rank < 6 then s.flowRefuse flowRank
    else s.putFlow d

/-- The key at NET_EXACT_ADDR, where it lies in HOST, is readable and breaks no range. -/
def State.exactKey (s : State) : Option (List Byte) :=
  let a := s.addr36 NET_EXACT_ADDR_LO NET_EXACT_ADDR_HI
  let k := s.memRead a 48
  if a % 16 = 0 ∧ s.inRegion 0 a 48 = true ∧ s.poisonedIn a 48 = false ∧ netKeyOk k = true then some k else none

def State.setExact (s : State) (l : List ExactEntry) : State :=
  ({ s with net := { s.net with exact := l } }.wrN NET_EXACT_USED l.length).flowGood

/-- NET_EXACT_CMD ADD (R322). -/
def exactAdd (ctx : Nat) (s : State) : State :=
  match s.exactKey with
  | none => s.flowRefuse flowKey
  | some k => match s.ctxIn s.net.flows ctx with
    | none => s.flowRefuse flowAbsent
    | some c =>
      if c.image then s.flowRefuse flowLocked
      else match s.net.exact.find? (fun e => e.key == k) with
        | some e => if e.soft then s.setExact (s.net.exact.map (fun (x : ExactEntry) => if x.key == k then { x with ctx } else x))
                    else s.flowRefuse flowLocked
        | none => if 16384 ≤ s.net.exact.length then s.flowRefuse flowFull else s.setExact (s.net.exact ++ [⟨k, ctx, true⟩])

/-- NET_EXACT_CMD DELETE (R322). -/
def exactDelete (s : State) : State :=
  match s.exactKey with
  | none => s.flowRefuse flowKey
  | some k => match s.net.exact.find? (fun e => e.key == k) with
    | none => s.flowRefuse flowAbsent
    | some e => if e.soft then s.setExact (s.net.exact.filter (fun x => !(x.key == k))) else s.flowRefuse flowLocked

/-- NET_LOSS_POP (R331). -/
def lossPop (s : State) : State := State.showLoss { s with net := { s.net with loss := s.net.loss.drop 1 } }

end Sys2Proof.Machine
end

