-- ==== Sys2Proof/Machine/Pictures.lean ====
section
/-!
DEFINITION. Samples of the codec's pictures: concealment and the output layout of decoded pictures (R284, R289, R290),
and the steps from an encoder input to the picture that a core codes (R297, R298).
-/

namespace Sys2Proof.Machine

/-! ## Decoded pictures -/

/-- Mid-grey at a bit depth (R289). -/
def midGrey (depth : Nat) : Nat := 2 ^ (depth - 1)

/-- The substitute: the most recent reference of the same size that is not CONCEALED (R289). -/
def substituteOf (refs : List RefPic) (w h : Nat) : Option RefPic :=
  refs.find? (fun p => p.width == w && p.height == h && !p.concealed)

/-- A plane of `w` samples a row whose concealed blocks take the co-located samples of the substitute, or mid-grey;
blocks are 2 ^ `lg` samples, `across` of them in a row of the picture (R289). -/
def concealPlane (w lg across depth : Nat) (blocks : List Nat) (sub : Option (List Nat)) (plane : List Nat) : List Nat :=
  ((List.range plane.length).zip plane).map (fun (e : Nat × Nat) =>
    if blocks.contains (e.1 / w / 2 ^ lg * across + e.1 % w / 2 ^ lg) then
      (match sub with | some l => l.getD e.1 (midGrey depth) | none => midGrey depth)
    else e.2)

/-- The planes of a decoded picture, concealed where it has errors; a monochrome picture has chroma of mid-grey (R284). -/
def decodedPlanes (r : DecodeResult) (sub : Option RefPic) : List Nat × List Nat × List Nat :=
  let f := r.format
  let across := ceilDiv f.width (2 ^ r.blockLog2)
  let cw := ceilDiv f.width 2
  let fix (lg w : Nat) (pick : RefPic → List Nat) (plane : List Nat) : List Nat :=
    concealPlane w lg across f.depth r.concealed (sub.map pick) plane
  let grey := List.replicate (cw * ceilDiv f.height 2) (midGrey f.depth)
  (fix r.blockLog2 f.width RefPic.luma (r.luma.take (f.width * f.height)),
   if f.chroma = 0 then grey else fix (r.blockLog2 - 1) cw RefPic.cb (r.cb.take (cw * ceilDiv f.height 2)),
   if f.chroma = 0 then grey else fix (r.blockLog2 - 1) cw RefPic.cr (r.cr.take (cw * ceilDiv f.height 2)))

/-- A component in a plane: one byte, or two bytes with the value in [15:6] (R183). -/
def planeBytes (depth v : Nat) : List Byte := if depth = 10 then leBytes 2 (64 * v) else leBytes 1 v

/-- Row bytes of a picture `w` wide in a plane with `per` components a column. -/
def lumaRow (depth sw x y w : Nat) (plane : List Nat) : List Byte :=
  (List.range w).flatMap (fun i => planeBytes depth (plane.getD (sw * y + x + i) 0))

/-- The same for the interleaved Cb, Cr plane. -/
def chromaRow (depth sw x y w : Nat) (cb cr : List Nat) : List Byte :=
  (List.range w).flatMap (fun i => planeBytes depth (cb.getD (sw * y + x + i) 0) ++ planeBytes depth (cr.getD (sw * y + x + i) 0))

/-! ## Encoder inputs -/

/-- An input descriptor (R296). -/
structure EncIn where
  addr  : Nat
  caddr : Nat
  pitch : Nat
  cpitch : Nat
  width : Nat
  height : Nat
  fmt   : Nat
  force : Bool
  tag   : Nat
  tsNs  : Nat
  tsSec : Nat
  deriving DecidableEq, Repr

/-- A component of 10 bits at byte address `a` of a YUV plane; one of a poisoned word is mid-grey (R297, R303). -/
def State.encComp (s : State) (fmt a : Nat) : Nat :=
  if s.poisonedAt a then 512 else if fmt = 1 then 4 * s.memNat a 1 else s.memNat a 2 / 64

/-- Component `k` of an input at (x, y) of its plane: R, G, B of a pixel, or Y, Cb, Cr. -/
def State.encPixel (s : State) (d : EncIn) (k x y : Nat) : Nat :=
  if d.fmt = 0 then
    let a := d.addr + d.pitch * y + 4 * x
    if s.poisonedAt a then 512 else bitsOf (s.memNat a 4) (10 * k + 9) (10 * k)
  else if k = 0 then s.encComp d.fmt (d.addr + d.pitch * y + d.fmt * x)
  else s.encComp d.fmt (d.caddr + d.cpitch * y + 2 * d.fmt * x + d.fmt * (k - 1))

/-- Where sample (x, y) of the rotated and mirrored image lies in the crop of w × h samples: clockwise by 90 × `rot`
degrees, then mirrored horizontally (R297). -/
def turnAt (rot : Nat) (mirror : Bool) (w h x y : Nat) : Nat × Nat :=
  let across := if rot % 2 = 1 then h else w
  let x' := if mirror then across - 1 - x else x
  match rot % 4 with
  | 0 => (x', y)
  | 1 => (y, h - 1 - x')
  | 2 => (w - 1 - x', h - 1 - y)
  | _ => (w - 1 - y, x')

/-- A component of the crop [cx, cx + cw) × [cy, cy + ch) of its plane, rotated, mirrored and scaled to w × h; an image of
that size already is taken as it is (R297). -/
def State.encPlane (s : State) (d : EncIn) (k rot : Nat) (mirror : Bool) (cx cy cw ch w h : Nat) : List Nat :=
  let tw := if rot % 2 = 1 then ch else cw
  let th := if rot % 2 = 1 then cw else ch
  let turned := (List.range (tw * th)).map (fun i =>
    let p := turnAt rot mirror cw ch (i % tw) (i / tw)
    s.encPixel d k (cx + p.1) (cy + p.2))
  if tw = w ∧ th = h then turned
  else (List.range (w * h)).map (fun i => (Config.encScale tw th w h (i % w) (i / w) turned).toNat)

/-- Coefficient `i` of the conversion matrix, signed Q3.13; entries 9 and 10 are YOFF and COFF (R298). -/
def State.cscHalf (s : State) (i : Nat) : Nat := s.rdN (VENC_CSC0 + 4 * (i / 2)) / 2 ^ (16 * (i % 2)) % 65536
def State.cscM (s : State) (i : Nat) : Int := signedOf 16 (s.cscHalf i)

/-- Y, Cb or Cr (`k` = 0, 1, 2) of an RGB sample (R298). -/
def State.cscOf (s : State) (k r g b : Nat) : Nat :=
  (clampInt 0 1023 ((s.cscM (3 * k) * r + s.cscM (3 * k + 1) * g + s.cscM (3 * k + 2) * b + 4096) / 8192
    + (s.cscHalf (if k = 0 then 9 else 10) : Nat))).toNat

/-- A chroma plane of w × h samples averaged over its 2 × 2 blocks (R297). -/
def halvePlane (w h : Nat) (plane : List Nat) : List Nat :=
  (List.range (w / 2 * (h / 2))).map (fun i =>
    let at_ := w * (2 * (i / (w / 2))) + 2 * (i % (w / 2))
    (plane.getD at_ 0 + plane.getD (at_ + 1) 0 + plane.getD (at_ + w) 0 + plane.getD (at_ + w + 1) 0 + 2) / 4)

/-- The planes Y, Cb and Cr of w × h output samples that an input gives (R297, R298). -/
def State.encSource (s : State) (d : EncIn) (rot : Nat) (mirror : Bool) (cx cy cw ch w h : Nat) : List (List Nat) :=
  if d.fmt = 0 then
    let p := (List.range 3).map (fun k => s.encPlane d k rot mirror cx cy cw ch w h)
    let conv (k : Nat) : List Nat := (List.range (w * h)).map (fun i =>
      s.cscOf k ((p.getD 0 []).getD i 0) ((p.getD 1 []).getD i 0) ((p.getD 2 []).getD i 0))
    [conv 0, halvePlane w h (conv 1), halvePlane w h (conv 2)]
  else
    s.encPlane d 0 rot mirror cx cy cw ch w h :: [1, 2].map (fun k =>
      s.encPlane d k rot mirror (cx / 2) (cy / 2) (ceilDiv (cx + cw) 2 - cx / 2) (ceilDiv (cy + ch) 2 - cy / 2) (w / 2) (h / 2))

end Sys2Proof.Machine
end

