-- ==== Sys2Proof/Machine/Decoder.lean ====
section
/-!
DEFINITION. The video decoder (R276 to R294, R304, R305): contexts, pool, core scheduling, completion records.
-/

namespace Sys2Proof.Machine

abbrev decOff : Nat := 0
abbrev decWait : Nat := 1
abbrev decRun : Nat := 2

def State.dec (s : State) (x : Nat) : DecCtx := s.codec.dec.getD x .reset
def State.setDec (s : State) (x : Nat) (f : DecCtx → DecCtx) : State := { s with codec := { s.codec with dec := s.codec.dec.modify x f } }
def State.decState (s : State) (x : Nat) : Nat := s.get (VDEC_CTX_STATUS_STATE x)
def State.decErr (s : State) (x e : Nat) : State := s.put (VDEC_CTX_STATUS_ERR x) e
/-- Codes of VDEC_CTX_STATUS.ERR. -/
abbrev deSyntax : Nat := 1
abbrev deUnsupported : Nat := 2
abbrev deSize : Nat := 3
abbrev deRefMissing : Nat := 4
abbrev deRing : Nat := 5
abbrev deDesc : Nat := 6
abbrev dePoolWait : Nat := 7
abbrev dePoison : Nat := 8

/-- Pages of a reference slot (R287). -/
def refPages (w h : Nat) : Nat := ceilDiv (963 * (ceilDiv w 64 * 64 * (ceilDiv h 64 * 64)) / 512) 65536

/-! ## The pool (R284, R285) -/

/-- Pitch of a plane, and its pages: the chroma plane is as wide in bytes and half as high. -/
def picPitch (w depth : Nat) : Nat := (w * (if depth = 10 then 2 else 1) + 63) / 64 * 64
def lumaPages (w h depth : Nat) : Nat := ceilDiv (picPitch w depth * h) 65536
def chromaPages (w h depth : Nat) : Nat := ceilDiv (picPitch w depth * ceilDiv h 2) 65536

def PoolPic.ranges (p : PoolPic) : List (Nat × Nat) := [(p.luma, p.lpages), (p.chroma, p.cpages)]
def DecJob.ranges (j : DecJob) : List (Nat × Nat) :=
  [(j.luma, lumaPages j.width j.height j.depth), (j.chroma, chromaPages j.width j.height j.depth)]

/-- The camera path holds the picture (R160). -/
def State.camHolds (s : State) (ctx slot : Nat) : Bool :=
  s.cam.pics.any (fun p => p.ctx == ctx && p.slot == slot && s.picSelectable p)
    || (match s.cam.build with | some b => b.pics.contains (ctx, slot) | none => false)
    || (match s.cam.registering with | some b => b.pics.contains (ctx, slot) | none => false)

def State.keep (s : State) (x : Nat) : Nat := max 1 (s.get (VDEC_CTX_CFG_KEEP x))

/-- The picture stays in the pool (R285). -/
def State.picStays (s : State) (p : PoolPic) : Bool :=
  (match p.shown with
   | none => true
   | some k => decide ((s.dec p.ctx).outCount < k + 1 + s.keep p.ctx))
    || s.camHolds p.ctx p.slot
    || p.ranges.any (fun (r : Nat × Nat) => (List.range r.2).any (fun i => s.protectedAt (65536 * (r.1 + i))))

/-- Pages of the pool that are taken. -/
def State.takenPages (s : State) : List (Nat × Nat) :=
  s.codec.pool.flatMap PoolPic.ranges ++ s.codec.cores.flatMap (fun (j : Option DecJob) => match j with | some k => k.ranges | none => [])

/-- A pool page is free. -/
def State.pageFree (s : State) (p : Nat) : Bool := !pageIn p s.takenPages && !s.protectedAt (65536 * p)

/-- Release the pictures that nothing holds, and show the free pages. -/
def State.trimPool (s : State) : State :=
  let s1 := { s with codec := { s.codec with pool := s.codec.pool.filter s.picStays } }
  s1.wrN VDEC_POOL_FREE (((rangeFrom (s.bits VDEC_POOL_BASE 19 0) (s.bits VDEC_POOL_PAGES 15 0)).filter
    (fun p => !pageIn p s1.takenPages)).length)

/-- First page of the lowest run of `n` free pages, none of them in `used`. -/
def State.pageRun (s : State) (n : Nat) (used : List (Nat × Nat)) : Option Nat :=
  let b := s.bits VDEC_POOL_BASE 19 0
  let m := s.bits VDEC_POOL_PAGES 15 0
  if n = 0 then some b
  else (rangeFrom b (m + 1 - n)).find? (fun p => (List.range n).all (fun i => s.pageFree (p + i) && !pageIn (p + i) used))

/-- Pages for a picture: luma, then chroma. -/
def State.allocPic (s : State) (w h depth : Nat) : Option (Nat × Nat) :=
  let nl := lumaPages w h depth
  match s.pageRun nl [] with
  | none => none
  | some l => (s.pageRun (chromaPages w h depth) [(l, nl)]).map (fun c => (l, c))

/-! ## Completion records (R294) -/

/-- Write a record into entry CPL_WR mod 32 of a ring. -/
def State.putRecord (s : State) (client base wrOff rdOff full ctx : Nat) (rest : List Byte) : State :=
  let n := s.rdN wrOff
  let s1 := if 32 ≤ (n + 2 ^ 32 - s.rdN rdOff) % 2 ^ 32 then s.raiseMask full (2 ^ ctx) else s
  (s1.memWrite client (base + 2048 * ctx + 64 * (n % 32)) (padTo 64 (leBytes 4 n ++ leBytes 1 ctx ++ rest))).wrN wrOff ((n + 1) % 2 ^ 32)

def State.decRecord (s : State) (x : Nat) (rest : List Byte) : State :=
  s.putRecord 6 (s.addr36 VDEC_CPL_LO VDEC_CPL_HI) (VDEC_CTX_CPL_WR x) (VDEC_CTX_CPL_RD x) 422 x rest

/-- A record of kind AU_DISCARDED or CTX_ERROR. -/
def State.decNote (s : State) (x kind code : Nat) (auNo ns sec : Nat) : State :=
  s.decRecord x (leBytes 1 kind ++ leBytes 2 0 ++ List.replicate 17 0 ++ leBytes 1 code ++ leBytes 2 0 ++ leBytes 4 auNo ++ leBytes 4 ns
    ++ leBytes 6 sec ++ leBytes 2 0 ++ leBytes 4 s.ptpNs ++ leBytes 4 (s.ptpSec % 2 ^ 32))

/-- The record of an output picture, from KIND on. -/
def PoolPic.record (p : PoolPic) : List Byte :=
  let pitch := picPitch p.width p.depth
  leBytes 1 1 ++ leBytes 2 p.flags ++ leBytes 4 (4096 * p.luma) ++ leBytes 4 (4096 * p.chroma) ++ leBytes 2 pitch ++ leBytes 2 pitch
    ++ leBytes 2 p.width ++ leBytes 2 p.height ++ leBytes 1 p.depth ++ leBytes 1 0 ++ leBytes 2 0 ++ leBytes 4 p.auNo ++ leBytes 4 p.tsNs
    ++ leBytes 6 p.tsSec ++ leBytes 2 0 ++ leBytes 4 p.doneNs ++ leBytes 4 p.doneSec ++ leBytes 4 p.blocks ++ leBytes 4 p.order

/-- The picture as the sequencer takes it (R159). -/
def PoolPic.pic (p : PoolPic) : Pic :=
  let pitch := picPitch p.width p.depth
  { ctx := p.ctx, slot := p.slot, luma := 65536 * p.luma, chroma := 65536 * p.chroma, pitch, cpitch := pitch, width := p.width
    height := p.height, depth := p.depth, capture := 10 ^ 9 * p.tsSec + p.tsNs, concealed := p.flags % 2 == 1, doneTick := p.doneTick }

/-- A picture is output (R286): its record, its number, source 416, and the hand-over to the camera path. -/
def State.outputPic (s : State) (p : PoolPic) : State :=
  let k := (s.dec p.ctx).outCount
  let s1 := { s with codec := { s.codec with pool := s.codec.pool.map (fun (q : PoolPic) =>
    if q.ctx = p.ctx ∧ q.slot = p.slot then { q with shown := some k } else q) } }
  let s2 := ((s1.setDec p.ctx (fun d => { d with outCount := d.outCount + 1 })).count (VDEC_CTX_PIC_CNT p.ctx)).decRecord p.ctx p.record
  (s2.raiseMask 416 (2 ^ p.ctx)).camPicture p.pic

/-- Pictures of a context that wait for output, in output order. -/
def State.waitingPics (s : State) (x : Nat) : List PoolPic :=
  sortBy (fun (p : PoolPic) => (p.order + 2 ^ 31) % 2 ^ 32) (s.codec.pool.filter (fun p => p.ctx == x && p.shown.isNone))

/-- Output every waiting picture (R281, R304). -/
def State.flushCtx (s : State) (x : Nat) : State := (s.waitingPics x).foldl State.outputPic s

/-- Discard the waiting pictures without records. -/
def State.discardWaiting (s : State) (x : Nat) : State :=
  { s with codec := { s.codec with pool := s.codec.pool.filter (fun p => !(p.ctx == x && p.shown.isNone)) } }

/-- Enter WAIT_KEY with source 419, or 420 for UNSUPPORTED and SIZE (R291). -/
def State.enterWait (s : State) (x code : Nat) : State :=
  ((s.put (VDEC_CTX_STATUS_STATE x) decWait).setDec x (fun d => { d with resync := true, refs := [] })).raiseMask
    (if code = deUnsupported ∨ code = deSize then 420 else 419) (2 ^ x)

/-- The core that decodes context `x`. -/
def State.decCore (s : State) (x : Nat) : Option Nat :=
  (List.range 4).find? (fun c => match s.codec.cores.getD c none with | some j => j.ctx == x | none => false)

/-- What waited for the picture in progress takes effect (R304). -/
def State.settleCtx (s : State) (x : Nat) : State :=
  let d := s.dec x
  let s0 := s.setDec x (fun d => { d with flushAsked := false, resetAsked := false, offAsked := false })
  let s1 := if d.flushAsked then s0.flushCtx x else s0
  let s2 := if d.resetAsked then (s1.discardWaiting x).enterWait x 0 else s1
  if d.offAsked then (s2.discardWaiting x).put (VDEC_CTX_STATUS_STATE x) decOff else s2

/-! ## Commands (R281, R282, R304) -/

/-- A write of VDEC_CTX_PUT; the network unit's contexts discard it (R279). -/
def vdecPut (x : Nat) (val : Word) (s : State) : State :=
  if 64 ≤ x ∨ s.on (VDEC_CTX_CFG_SRC x) then s else s.wrN (VDEC_CTX_PUT x) (val.toNat % 4096)

def vdecFlush (x : Nat) (s : State) : State :=
  if 64 ≤ x ∨ s.decState x = decOff then s
  else
    let s1 := s.setDec x (fun d => { d with flushAsked := true })
    if (s.decCore x).isSome then s1 else (s1.settleCtx x).trimPool

def vdecReset (x : Nat) (s : State) : State :=
  if 64 ≤ x ∨ s.decState x = decOff then s
  else
    let s1 := s.setDec x (fun d => { d with resetAsked := true })
    if (s.decCore x).isSome then s1 else (s1.settleCtx x).trimPool

/-- Stream ring and reference area of a context, as byte ranges. -/
def State.decAreas (s : State) (x : Nat) : List (Nat × Nat) :=
  [(65536 * s.bits (VDEC_CTX_RING_BASE x) 19 0, 65536 * s.bits (VDEC_CTX_RING_CFG x) 15 0),
   (65536 * s.bits (VDEC_CTX_REF_BASE x) 19 0, 65536 * s.bits (VDEC_CTX_REF_PAGES x) 15 0)]

def State.poolArea (s : State) : Nat × Nat := (65536 * s.bits VDEC_POOL_BASE 19 0, 65536 * s.bits VDEC_POOL_PAGES 15 0)

def areasMeet (a b : Nat × Nat) : Bool := rangesMeet a.1 a.2 b.1 b.2

/-- Areas of the other enabled decoder contexts. -/
def State.otherDecAreas (s : State) (x : Nat) : List (Nat × Nat) :=
  ((List.range 64).filter (fun y => y != x && s.on (VDEC_CTX_CFG_EN y))).flatMap s.decAreas

/-- The conditions of R282. -/
def State.decEnableOk (s : State) (x : Nat) : Bool :=
  let w := s.bits (VDEC_CTX_MAXSIZE x) 12 0
  let h := s.bits (VDEC_CTX_MAXSIZE x) 28 16
  (s.decAreas x).all (fun (a : Nat × Nat) => s.inRegion 2 a.1 a.2 && !areasMeet a s.poolArea && (s.otherDecAreas x).all (fun b => !areasMeet a b))
    && decide (s.bits (VDEC_CTX_RING_CFG x) 27 16 * 32 < 65536 * s.bits (VDEC_CTX_RING_CFG x) 15 0)
    && decide (w ≤ 4096 ∧ h ≤ 4096 ∧ w * h ≤ 8912896)

/-- A refused enable or configuration write (R282). -/
def State.decRefuse (s : State) (x : Nat) : State := (s.decErr x deRing).raiseMask 424 (2 ^ x)

/-- The configuration fields of a write of VDEC_CTX_CFG; SRC is an RWL bit (R53). -/
def State.decCfgFields (s : State) (x : Nat) (val : Word) : State :=
  let mask := 0xFF6 - 8
  s.wrN (VDEC_CTX_CFG x) ((s.rdN (VDEC_CTX_CFG x) &&& (0xFFF ^^^ mask)) ||| (val.toNat &&& mask))

/-- A write of VDEC_CTX_CFG with EN = 1 (R282, R291). -/
def vdecCtxEnable (x : Nat) (val : Word) (s : State) : State :=
  if 64 ≤ x then s
  else
    let s1 := s.decCfgFields x val
    if s.on (VDEC_CTX_CFG_EN x) then s1
    else if s1.decEnableOk x then
      let s2 := (s1.put (VDEC_CTX_CFG_EN x) 1).decErr x 0
      if (s.decCore x).isSome then s2.setDec x (fun d => { d with offAsked := false, resetAsked := true }) else s2.enterWait x 0
    else s1.decRefuse x

/-- A write of VDEC_CTX_CFG with EN = 0: OFF once the picture in progress ends (R304). -/
def vdecCtxDisable (x : Nat) (val : Word) (s : State) : State :=
  if 64 ≤ x then s
  else
    let s1 := s.decCfgFields x val
    if s.on (VDEC_CTX_CFG_EN x) then
      let s2 := (s1.put (VDEC_CTX_CFG_EN x) 0).setDec x (fun d => { d with offAsked := true })
      if (s.decCore x).isSome then s2 else (s2.settleCtx x).trimPool
    else s1

/-! ## Scheduling (R281, R283, R284) -/

/-- The descriptor at GET: data offset, length, TS, flags, AU number; none when it breaks R280. -/
def State.decDesc (s : State) (x : Nat) : Nat × Nat × Nat × Nat × Nat × Nat :=
  let (base, _, _, _) := s.vdecRing x
  let b := s.memRead (base + 32 * s.bits (VDEC_CTX_GET x) 11 0) 32
  (leAt b 0 4, leAt b 4 4, leAt b 8 4, leAt b 0x0C 6, leAt b 0x12 2, leAt b 0x14 4)

def State.descBad (s : State) (x : Nat) : Bool :=
  let (_, _, lo, hi) := s.vdecRing x
  let (off, len, _, _, _, _) := s.decDesc x
  off % 16 != 0 || len == 0 || decide (off < lo) || decide (hi < off + len)

/-- GET moves on. -/
def State.decNext (s : State) (x : Nat) : State :=
  let n := s.bits (VDEC_CTX_RING_CFG x) 27 16
  if n = 0 then s else s.wrN (VDEC_CTX_GET x) ((s.bits (VDEC_CTX_GET x) 11 0 + 1) % n)

/-- An AU of the context is eligible (R281). -/
def State.hasAu (s : State) (x : Nat) : Bool :=
  s.on (VDEC_CTX_CFG_EN x) && s.decState x != decOff && s.bits (VDEC_CTX_RING_CFG x) 27 16 != 0
    && s.bits (VDEC_CTX_GET x) 11 0 != (s.dec x).seen && (s.decCore x).isNone

/-- Skip the descriptors that break R280. -/
def State.skipBad (s : State) (x : Nat) : Nat → State
  | 0 => s
  | fuel + 1 =>
    if s.hasAu x && s.descBad x then
      let (_, _, ns, sec, _, au) := s.decDesc x
      (((s.decNote x 2 deDesc au ns sec).count (VDEC_CTX_DROP_CNT x)).decNext x).skipBad x fuel
    else s

/-- The lowest idle core. -/
def State.firstIdle (s : State) : Option Nat := (List.range 4).find? (fun c => (s.codec.cores.getD c none).isNone)

/-- The context may run on core `c` (R283). -/
def State.runsOn (s : State) (x c : Nat) : Bool :=
  let k := s.get (VDEC_CTX_CFG_CORE x)
  if k < 4 then k == c else s.firstIdle == some c

/-- 0 for a context bound to an enabled camera, 1 for the others (R283). -/
def State.decClass (s : State) (x : Nat) : Nat := bit (!(s.boundCams.any (fun e => e.2.ctx == x)))

def infoOf (info : List PicInfo) (x : Nat) : PicInfo := (info.find? (fun i => i.ctx == x)).getD ⟨x, 0, 0, 8⟩

/-- Mark the contexts whose next picture finds no pages (R284). -/
def State.notePoolWait (s : State) (info : List PicInfo) (x : Nat) : State :=
  let i := infoOf info x
  if (s.allocPic i.width i.height i.depth).isSome then s.put (VDEC_CTX_STATUS_POOL_WAIT x) 0
  else
    let s1 := s.put (VDEC_CTX_STATUS_POOL_WAIT x) 1
    if (s.dec x).poolRaised then s1
    else ((s1.decErr x dePoolWait).setDec x (fun d => { d with poolRaised := true })).raiseMask 421 (2 ^ x)

/-- The context that core `c` takes: by precedence, then the rotation (R283). -/
def State.decPick (s : State) (info : List PicInfo) (c : Nat) : Option Nat :=
  let ready := (List.range 64).filter (fun x => s.hasAu x && s.runsOn x c
    && (let i := infoOf info x; (s.allocPic i.width i.height i.depth).isSome))
  let pick := fun (cls : Nat) =>
    let l := ready.filter (fun x => s.decClass x == cls)
    let t := s.codec.turn.getD (2 * c + cls) 0
    (l.find? (fun x => decide (t ≤ x))).orElse (fun _ => l.head?)
  (pick 0).orElse (fun _ => pick 1)

def State.showCores (s : State) : State :=
  s.put ⟨VDEC_CORE_STATUS, 3, 0⟩ ((List.range 4).foldl (fun a c => a + 2 ^ c * bit ((s.codec.cores.getD c none).isSome)) 0)

/-- Skip the bad descriptors at the front of context x's ring. -/
def State.skipAllBad (s : State) (x : Nat) : State := s.skipBad x 4096

/-- What precedes a start: pages of the pool that are no longer needed are given back, unusable access units are skipped, and
the contexts that wait for the pool are noted (R283). -/
def State.decReady (s : State) (info : List PicInfo) : State :=
  let s0 := (List.range 64).foldl (fun st x => st.skipAllBad x) s.trimPool
  ((List.range 64).filter s0.hasAu).foldl (fun st x => st.notePoolWait info x) s0

/-- `core` takes the access unit at the front of context `x`: its job, its output pages, and its turn (R283, R286). -/
def State.startDecode (s1 : State) (core : Nat) (i : PicInfo) (x : Nat) : State :=
  let (off, len, ns, sec, fl, au) := s1.decDesc x
  let (base, _, _, _) := s1.vdecRing x
  let poison := s1.poisonedIn (base + off) len
  let (l, c) := (s1.allocPic i.width i.height i.depth).getD (0, 0)
  let s2 := if poison then (((s1.notePoisonRead 6).decErr x dePoison).raiseMask 423 (2 ^ x)) else s1
  let job : DecJob := { ctx := x, flags := fl, tsNs := ns, tsSec := sec, auNo := au, poison, luma := l, chroma := c, width := i.width
                        height := i.height, depth := i.depth }
  State.showCores { s2 with codec := { s2.codec with
    cores := s2.codec.cores.set core (some job), turn := s2.codec.turn.set (2 * core + s1.decClass x) (x + 1) } }

/-- An idle core takes the next picture; `info` gives the sizes that the contexts' headers announce (R283, R284). -/
def decodeStart (core : Nat) (info : List PicInfo) (s : State) : State :=
  if 4 ≤ core ∨ s.bits VDEC_CTRL 0 0 = 0 ∨ s.pwrState ≠ 1 ∨ (s.codec.cores.getD core none).isSome then s
  else
    match (s.decReady info).decPick info core with
    | none => s.decReady info
    | some x => (s.decReady info).startDecode core (infoOf info x) x

/-- The decoder takes the stream: standard, profile, level, chroma, depth and size (R276, R277). -/
def formatOk (av1 : Bool) (f : StreamFormat) : Bool :=
  !f.extra && decide (f.width ≤ 4096 ∧ f.height ≤ 4096 ∧ f.width * f.height ≤ 8912896 ∧ (f.depth = 8 ∨ f.depth = 10))
    && (if av1 then decide (f.profile = 0 ∧ f.level ≤ 13 ∧ f.chroma ≤ 1)
        else decide ((f.profile = 1 ∧ f.depth = 8 ∨ f.profile = 2) ∧ f.level ≤ 51 ∧ f.chroma = 1))

/-- Reference slots that a stream needs (R287). -/
def slotsNeeded (av1 : Bool) (f : StreamFormat) : Nat := if av1 then 9 else f.dpb + 1

/-- The code that refuses the stream: an error in a parameter set or sequence header, UNSUPPORTED or SIZE (R276, R287, R291). -/
def State.streamRefusal (s : State) (x : Nat) (r : DecodeResult) : Nat :=
  let w := s.bits (VDEC_CTX_MAXSIZE x) 12 0
  let h := s.bits (VDEC_CTX_MAXSIZE x) 28 16
  let av1 := s.on (VDEC_CTX_CFG_CODEC x)
  if r.headerBad then deSyntax
  else if !formatOk av1 r.format then deUnsupported
  else if w < r.format.width ∨ h < r.format.height ∨ s.bits (VDEC_CTX_REF_PAGES x) 15 0 / max 1 (refPages w h) < slotsNeeded av1 r.format then deSize
  else 0

/-- The AU is discarded, with a record. -/
def State.discardAu (s : State) (j : DecJob) (code : Nat) : State :=
  (s.decNote j.ctx 2 code j.auNo j.tsNs j.tsSec).count (VDEC_CTX_DROP_CNT j.ctx)

/-- The references held while an access unit is decoded, and the substitute among them (R289). -/
def DecCtx.heldRefs (d : DecCtx) (r : DecodeResult) : List RefPic := d.refs.filter (fun p => r.held.contains p.number)
def DecCtx.substitute (d : DecCtx) (r : DecodeResult) : Option RefPic := substituteOf (d.heldRefs r) r.format.width r.format.height

/-- It uses a CONCEALED reference (R290). -/
def DecCtx.usesConcealed (d : DecCtx) (r : DecodeResult) : Bool :=
  (d.heldRefs r).any (fun p => p.concealed && r.uses.contains p.number)

/-- The picture is CONCEALED (R290): by the mark in force, which an IRAP picture or key frame clears, or by itself. -/
def concealedBy (mark : Bool) (d : DecCtx) (j : DecJob) (r : DecodeResult) : Bool :=
  ((mark || bitAt j.flags 1) && !r.key) || !r.concealed.isEmpty || r.missing || d.usesConcealed r || bitAt j.flags 0 || j.poison || r.poisonRef

/-- A decoded picture hash fails; only a context that checks it sees it (R277, R293). -/
def State.hashFails (s : State) (x : Nat) (r : DecodeResult) : Bool := r.hashFail && s.on (VDEC_CTX_CFG_HASH_CHK x) && !s.on (VDEC_CTX_CFG_CODEC x)

/-- Raise and count what the decode met (R288 to R293). -/
def State.decReports (s : State) (x : Nat) (conc : Bool) (r : DecodeResult) : State :=
  let hash := s.hashFails x r
  let s1 := s.countN (VDEC_CTX_ERR_CNT x) (r.errors + bit hash)
  let s2 := if r.errors = 0 then s1 else s1.decErr x deSyntax
  let s3 := if conc && r.picture then s2.count (VDEC_CTX_CONCEAL_CNT x) else s2
  let s4 := if r.concealed.isEmpty then s3 else s3.raiseMask 417 (2 ^ x)
  let s5 := if r.missing then (s4.decErr x deRefMissing).raiseMask 418 (2 ^ x) else s4
  let s6 := if r.poisonRef then ((s5.notePoisonRead 6).decErr x dePoison).raiseMask 423 (2 ^ x) else s5
  if hash then s6.raiseMask 425 (2 ^ x) else s6

/-- FLAGS of a picture's record (R294): POISON is set for a poisoned reference, and for poisoned data in a concealed
slice (R292, R304). -/
def State.picFlags (s : State) (j : DecJob) (conc : Bool) (r : DecodeResult) : Nat :=
  let d := s.dec j.ctx
  let sub := (d.substitute r).isSome
  bit conc + 2 * bit (!r.concealed.isEmpty) + 4 * bit (r.missing && sub) + 8 * bit (r.missing && !sub) + 16 * bit d.resync
    + 32 * bit (r.grain && s.on (VDEC_CTX_CFG_CODEC j.ctx)) + 64 * bit (r.poisonRef || j.poison && !r.concealed.isEmpty)
    + 128 * bit (s.hashFails j.ctx r)

/-- The cropped picture is written into its pages, row by row (R284). -/
def State.writePic (s : State) (j : DecJob) (r : DecodeResult) (p : List Nat × List Nat × List Nat) : State :=
  let pitch := picPitch j.width j.depth
  let w := r.format.width
  let s1 := (List.range j.height).foldl (fun st y =>
    (st.dmaWrite 6 writerVdec (65536 * j.luma + pitch * y) (lumaRow j.depth w r.cropX (r.cropY + y) j.width p.1) 0).1) s
  (List.range (ceilDiv j.height 2)).foldl (fun st y =>
    (st.dmaWrite 6 writerVdec (65536 * j.chroma + pitch * y)
      (chromaRow j.depth (ceilDiv w 2) (r.cropX / 2) (r.cropY / 2 + y) (ceilDiv j.width 2) p.2.1 p.2.2) 0).1) s1

/-- The picture enters the pool. -/
def State.storePic (s : State) (j : DecJob) (conc : Bool) (r : DecodeResult) : State :=
  let d := s.dec j.ctx
  let s2 := s.writePic j r (decodedPlanes r (d.substitute r))
  let p : PoolPic := { ctx := j.ctx, slot := d.nextSlot, luma := j.luma, lpages := lumaPages j.width j.height j.depth, chroma := j.chroma
                       cpages := chromaPages j.width j.height j.depth, width := j.width, height := j.height, depth := j.depth
                       order := unsignedOf 32 r.order, flags := s.picFlags j conc r, auNo := j.auNo, tsNs := j.tsNs, tsSec := j.tsSec
                       doneNs := s.ptpNs, doneSec := s.ptpSec % 2 ^ 32, doneTick := s.evc.tick, blocks := r.concealed.length, shown := none }
  State.setDec { s2 with codec := { s2.codec with pool := s2.codec.pool ++ [p] } } j.ctx
    (fun d => { d with resync := false, nextSlot := d.nextSlot + 1 })

/-- The references held after an access unit, with its picture when that is one of them (R287). -/
def State.keepRefs (s : State) (x : Nat) (conc : Bool) (r : DecodeResult) : State :=
  s.setDec x (fun d =>
    let p := decodedPlanes r (d.substitute r)
    let old := (d.heldRefs r).filter (fun q => !r.freed.contains q.number)
    let new : RefPic := { number := d.decoded, width := r.format.width, height := r.format.height, concealed := conc, luma := p.1, cb := p.2.1, cr := p.2.2 }
    { d with refs := if r.isRef then new :: old else old, decoded := d.decoded + 1 })

/-- The ORDERs of the pictures output now: an HEVC stream without reordering outputs each as it is decoded (R286). -/
def State.outputsOf (s : State) (x : Nat) (r : DecodeResult) : List Int :=
  if !s.on (VDEC_CTX_CFG_CODEC x) && r.format.reorder == 0 && r.format.latency == 0 then (if r.picture then [r.order] else []) else r.outputs

/-- Output the pictures whose ORDERs the standard's output process names. -/
def State.outputOrders (s : State) (x : Nat) (l : List Int) : State :=
  l.foldl (fun st o => match st.codec.pool.find? (fun p => p.ctx == x && p.shown.isNone && p.order == unsignedOf 32 o) with
    | some p => st.outputPic p
    | none => st) s

/-- A decoded AU in DECODING; a RASL picture of the CRA that decoding started at is discarded (R291). -/
def State.decodeDone (s : State) (j : DecJob) (r : DecodeResult) : State :=
  let x := j.ctx
  let s3 :=
    if r.rasl then (s.putB (VDEC_CTX_STATUS_CONCEALING x) (s.on (VDEC_CTX_STATUS_CONCEALING x) || bitAt j.flags 1)).count (VDEC_CTX_DROP_CNT x)
    else
      let conc := concealedBy (s.on (VDEC_CTX_STATUS_CONCEALING x)) (s.dec x) j r
      let s1 := ((s.putB (VDEC_CTX_STATUS_CONCEALING x) conc).decReports x conc r)
      ((if r.picture then s1.storePic j conc r else s1).keepRefs x conc r).outputOrders x (s.outputsOf x r)
  if bitAt j.flags 2 then s3.flushCtx x else s3

/-- `core` is free of job `j`, whose access unit is passed (R286). -/
def State.freeCore (s : State) (core : Nat) (j : DecJob) : State :=
  ((State.showCores { s with codec := { s.codec with cores := s.codec.cores.set core none } }).decNext j.ctx).setDec j.ctx
    (fun d => { d with poolRaised := false })

/-- The access unit of `j` is refused with `code`: it is discarded, its errors counted and the code shown; a context that was not
waiting writes a record and waits for a key picture (R287, R289). -/
def State.refuseDecode (s1 : State) (j : DecJob) (r : DecodeResult) (code : Nat) : State :=
  let a := ((s1.discardAu j code).countN (VDEC_CTX_ERR_CNT j.ctx) r.errors).decErr j.ctx code
  if s1.decState j.ctx == decWait then (if code = deSyntax then a else a.raiseMask 420 (2 ^ j.ctx))
  else (a.decNote j.ctx 3 code j.auNo j.tsNs j.tsSec).enterWait j.ctx code

/-- A context that waits for a key picture discards the access unit of `j` (R289). -/
def State.waitDecode (s1 : State) (j : DecJob) : State :=
  (s1.put (VDEC_CTX_STATUS_CONCEALING j.ctx) (bit (s1.on (VDEC_CTX_STATUS_CONCEALING j.ctx) || bitAt j.flags 1))).discardAu j
    (s1.get (VDEC_CTX_STATUS_ERR j.ctx))

/-- A core's picture ends (R286 to R294, R304). -/
def decodeComplete (core : Nat) (r : DecodeResult) (s : State) : State :=
  match s.codec.cores.getD core none with
  | none => s
  | some j =>
    let s1 := s.freeCore core j
    (State.settleCtx (if s1.streamRefusal j.ctx r ≠ 0 then s1.refuseDecode j r (s1.streamRefusal j.ctx r)
      else if s1.decState j.ctx == decWait && !r.key then s1.waitDecode j
      else (s1.put (VDEC_CTX_STATUS_STATE j.ctx) decRun).decodeDone j r) j.ctx).trimPool

/-- FABCLK cycles that the cores spent on pictures, a whole tick for a core that is busy at its end (R305). -/
def State.countBusy (s : State) : State :=
  let acc := (List.range 4).map (fun c => s.codec.busy.getD c 0 + if (s.codec.cores.getD c none).isSome then s.tickHalfNs / 2 else 0)
  let s1 := (List.range 4).foldl (fun st c => st.countN (VDEC_CORE_BUSY c) (acc.getD c 0 / 65536)) s
  { s1 with codec := { s1.codec with busy := acc.map (· % 65536) } }

/-- At a tick end the producers' PUT writes of the tick come into force (R281, R304). -/
def State.latchPuts (s : State) : State :=
  let dec := ((List.range 64).zip s.codec.dec).map (fun (e : Nat × DecCtx) => { e.2 with seen := s.bits (VDEC_CTX_PUT e.1) 11 0 })
  let enc := ((List.range 16).zip s.codec.enc).map (fun (e : Nat × EncCtx) => { e.2 with seen := s.bits (VENC_CTX_IN_PUT e.1) 11 0 })
  { s with codec := { s.codec with dec := dec, enc := enc } }

end Sys2Proof.Machine
end

