-- ==== Sys2Proof/Machine/Encoder.lean ====
section
/-!
DEFINITION. The video encoder (R278, R295 to R304, R306): contexts, encode instants, rate control bounds, records.
-/

namespace Sys2Proof.Machine

/-- Codes of VENC_CTX_STATUS.ERR. -/
abbrev eeConfig : Nat := 1
abbrev eeScale : Nat := 2
abbrev eeInput : Nat := 3
abbrev eeOutSpace : Nat := 4
abbrev eePoison : Nat := 5
abbrev eeRefSpace : Nat := 6

def State.enc (s : State) (e : Nat) : EncCtx := s.codec.enc.getD e .reset
def State.setEnc (s : State) (e : Nat) (f : EncCtx → EncCtx) : State := { s with codec := { s.codec with enc := s.codec.enc.modify e f } }
def State.encErr (s : State) (e c : Nat) : State := s.put ⟨VENC_CTX_STATUS e, 15, 8⟩ c

def State.encW (s : State) (e : Nat) : Nat := s.bits (VENC_CTX_SIZE e) 11 0
def State.encH (s : State) (e : Nat) : Nat := s.bits (VENC_CTX_SIZE e) 27 16
/-- RC_MODE: 0 CQP, 1 CBR, 2 VBR; 3 taken as CBR. -/
def State.rcMode (s : State) (e : Nat) : Nat := if s.get (VENC_CTX_CFG_RC_MODE e) = 3 then 1 else s.get (VENC_CTX_CFG_RC_MODE e)
/-- R in b/s and S in bits (R300), and the encode period in ns. -/
def State.encR (s : State) (e : Nat) : Nat := 1000 * s.bits (VENC_CTX_BITRATE e) 15 0
def State.encS (s : State) (e : Nat) : Nat := 1000 * s.bits (VENC_CTX_CPB e) 15 0
def State.encPeriod (s : State) (e : Nat) : Nat := s.rdN (VENC_CTX_PERIOD_NS e)

/-- FB of R301. -/
def floorBits (w h : Nat) : Nat := 1024 + 64 * (ceilDiv w 64 * ceilDiv h 64)

/-- Input ring, output ring and reference area of a context as byte ranges. -/
def State.encInArea (s : State) (e : Nat) : Nat × Nat := (65536 * s.bits (VENC_CTX_IN_BASE e) 19 0, 32 * s.bits (VENC_CTX_IN_CFG e) 11 0)
def State.encOutArea (s : State) (e : Nat) : Nat × Nat := (65536 * s.bits (VENC_CTX_OUT_BASE e) 19 0, 65536 * s.bits (VENC_CTX_OUT_CFG e) 15 0)
def State.encRefArea (s : State) (e : Nat) : Nat × Nat := (65536 * s.bits (VENC_CTX_REF_BASE e) 19 0, 65536 * s.bits (VENC_CTX_REF_PAGES e) 15 0)

/-- The CODEC areas that others use. -/
def State.otherCodecAreas (s : State) (e : Nat) : List (Nat × Nat) :=
  s.poolArea :: ((List.range 64).filter (fun x => s.on (VDEC_CTX_CFG_EN x))).flatMap s.decAreas
    ++ ((List.range 16).filter (fun k => k != e && s.on (VENC_CTX_CFG_EN k))).flatMap (fun k => [s.encOutArea k, s.encRefArea k])

/-- The code that refuses an enable, 0 when it is accepted (R301). -/
def State.encEnableCode (s : State) (e : Nat) : Nat :=
  let w := s.encW e
  let h := s.encH e
  let fb := floorBits w h
  let size := decide (256 ≤ w ∧ w ≤ 3840 ∧ w % 8 = 0 ∧ 144 ≤ h ∧ h ≤ 2160 ∧ h % 8 = 0)
  let rate := s.rcMode e == 0 || decide (fb ≤ s.encR e * s.encPeriod e / 10 ^ 9 ∧ 2 * fb ≤ s.encS e)
  let out := s.encOutArea e
  let ref := s.encRefArea e
  let areas := s.inRegion 0 (s.encInArea e).1 (s.encInArea e).2 && s.inRegion 2 out.1 out.2 && s.inRegion 2 ref.1 ref.2
    && !areasMeet out ref && [out, ref].all (fun (a : Nat × Nat) => (s.otherCodecAreas e).all (fun b => !areasMeet a b))
    && decide (s.bits (VENC_CTX_OUT_CFG e) 27 16 * 32 < out.2)
  if !(size && rate && areas) then eeConfig
  else if s.bits (VENC_CTX_REF_PAGES e) 15 0 < 2 * refPages w h then eeRefSpace
  else 0

/-- A refused enable or configuration write (R301, R304). -/
def State.encRefuse (s : State) (e c : Nat) : State := (s.encErr e c).raiseMask 482 (2 ^ e)

/-- PTP ns of the last encode instant, rounded down to a tick of the time clock, that is not after a time (R295). -/
def State.instantTo (s : State) (e t : Nat) : Option Nat :=
  let p := max 1 (s.encPeriod e)
  let ph := s.rdN (VENC_CTX_PHASE_NS e)
  if t / 4 * 4 + 3 < ph then none else some (((t / 4 * 4 + 3 - ph) / p * p + ph) / 4 * 4)

/-- The encode instant that falls in the running tick. -/
def State.instantNow (s : State) (e : Nat) : Option Nat := (s.instantTo e (s.ptpTickEnd - 1)).filter (fun t => s.ptpFrom ≤ t)

/-- A write of VENC_CTX_CFG: CORE, HRD_SEI, ROT and MIRROR as written, RC_MODE only while EN is 0 (R304). -/
def State.encCfgFields (s : State) (e : Nat) (val : Word) : State :=
  let on := s.on (VENC_CTX_CFG_EN e)
  let mask := if on then 0x746 else 0x776
  let old := s.rdN (VENC_CTX_CFG e)
  let s1 := s.wrN (VENC_CTX_CFG e) ((old &&& (0x7FF ^^^ mask)) ||| (val.toNat &&& mask))
  let s2 := if on && bitsOf old 10 8 != bitsOf val.toNat 10 8 then s1.setEnc e (fun k => { k with remake := true }) else s1
  if on && bitsOf old 5 4 != bitsOf val.toNat 5 4 then s2.encRefuse e eeConfig else s2

/-- A write of VENC_CTX_CFG with EN = 1 (R301). -/
def vencCtxEnable (e : Nat) (val : Word) (s : State) : State :=
  if 16 ≤ e then s
  else
    let s1 := s.encCfgFields e val
    if s.on (VENC_CTX_CFG_EN e) then s1
    else
      let c := s1.encEnableCode e
      if c ≠ 0 then s1.encRefuse e c
      else
        let s2 := ((s1.put (VENC_CTX_CFG_EN e) 1).encErr e 0).put ⟨VENC_CTX_STATUS e, 0, 0⟩ 1
        s2.setEnc e (fun k => { k with coded := 0, fill := s.encS e / 2, sinceIdr := 0, remake := false })

/-- A write of VENC_CTX_CFG with EN = 0: instants stop; a picture in progress ends. -/
def State.encDisable (s : State) (e : Nat) (val : Word) : State :=
  let s1 := ((s.encCfgFields e val).put (VENC_CTX_CFG_EN e) 0).put ⟨VENC_CTX_STATUS e, 0, 0⟩ 0
  { s1 with codec := { s1.codec with waitE := s1.codec.waitE.filter (fun j => j.ctx != e) } }

/-- A write of VENC_CTX_IN_PUT (R295, R296). -/
def vencInPut (e : Nat) (val : Word) (s : State) : State := if e < 16 then s.wrN (VENC_CTX_IN_PUT e) (val.toNat % 4096) else s

/-! ## Records (R303) -/

/-- What a record says of a picture or an instant. -/
structure EncRec where
  kind  : Nat
  flags : Nat
  tag   : Nat
  code  : Nat
  qp    : Nat
  inGet : Nat
  bits  : Nat
  cpb   : Nat
  row   : Nat
  ctu   : Nat
  auNo  : Nat
  tsNs  : Nat
  tsSec : Nat
  deriving DecidableEq, Repr

def State.encRecord (s : State) (e : Nat) (r : EncRec) : State :=
  (s.putRecord 7 (s.addr36 VENC_CPL_LO VENC_CPL_HI) (VENC_CTX_CPL_WR e) (VENC_CTX_CPL_RD e) 486 e
    (leBytes 1 r.kind ++ leBytes 2 r.flags ++ leBytes 2 r.tag ++ leBytes 1 r.code ++ leBytes 1 r.qp ++ leBytes 4 r.inGet
      ++ leBytes 4 r.bits ++ leBytes 4 r.cpb ++ leBytes 2 r.row ++ leBytes 2 r.ctu ++ leBytes 4 r.auNo ++ leBytes 4 r.tsNs ++ leBytes 6 r.tsSec
      ++ leBytes 2 0 ++ leBytes 4 s.ptpNs ++ leBytes 4 (s.ptpSec % 2 ^ 32))).raiseMask 480 (2 ^ e)

/-- A record of an instant that coded nothing: QP_AVG, CPB_BEFORE, AU_NO and, without an input, TS have no value of
their own and are free. -/
def State.encNote (s : State) (e kind code tag : Nat) (ts : Option (Nat × Nat)) : State :=
  let v := s.freeVal.toNat
  let s1 := s.freeNext
  let w := s1.freeVal.toNat
  let s2 := s1.freeNext
  let (ns, sec) := ts.getD (w, w)
  s2.encRecord e { kind, flags := 0, tag, code, qp := v % 256, inGet := s.bits (VENC_CTX_IN_GET e) 11 0, bits := 0, cpb := v, row := 0xFFFF, ctu := 0xFFFF, auNo := v, tsNs := ns, tsSec := sec }

/-- A dropped instant, or an access unit that finds no room in the output ring (R299). -/
def State.loseEncode (s : State) (e : Nat) : State :=
  (((s.count (VENC_CTX_DROP_CNT e)).encErr e eeOutSpace).encNote e 3 eeOutSpace 0xFFFF none).raiseMask 484 (2 ^ e)

/-! ## Inputs (R296, R297) -/

def State.encInput (s : State) (e i : Nat) : EncIn :=
  let b := s.memRead (65536 * s.bits (VENC_CTX_IN_BASE e) 19 0 + 32 * i) 32
  { addr := leAt b 0 4 * 16, caddr := leAt b 4 4 * 16, pitch := leAt b 8 2, cpitch := leAt b 10 2, width := leAt b 12 2, height := leAt b 14 2
    fmt := byteAt b 16, force := bitAt (byteAt b 17) 0, tag := leAt b 18 2, tsNs := leAt b 20 4, tsSec := leAt b 24 6 }

/-- Row bytes of the first plane, and the planes as byte ranges. -/
def EncIn.rowBytes (d : EncIn) : Nat := d.width * (if d.fmt = 0 then 4 else d.fmt)
def EncIn.planes (d : EncIn) : List (Nat × Nat) :=
  (d.addr, (d.height - 1) * d.pitch + d.rowBytes)
    :: (if d.fmt = 0 then [] else [(d.caddr, (ceilDiv d.height 2 - 1) * d.cpitch + ceilDiv d.width 2 * 2 * d.fmt)])

/-- The descriptor keeps R296. -/
def EncIn.ok (d : EncIn) : Bool :=
  decide (64 ≤ d.width ∧ d.width ≤ 4096 ∧ 64 ≤ d.height ∧ d.height ≤ 4096 ∧ d.fmt ≤ 2 ∧ d.pitch % 64 = 0 ∧ (d.fmt = 0 ∨ d.cpitch % 64 = 0))
    && d.planes.all (fun (r : Nat × Nat) => decide (r.1 + r.2 ≤ memSize))

/-- Crop of an input: origin and size (R297). -/
def State.encCrop (s : State) (e : Nat) (d : EncIn) : Nat × Nat × Nat × Nat :=
  let cw := s.bits (VENC_CTX_CROP_WH e) 12 0
  let ch := s.bits (VENC_CTX_CROP_WH e) 28 16
  let cx := s.bits (VENC_CTX_CROP_XY e) 12 0
  let cy := s.bits (VENC_CTX_CROP_XY e) 28 16
  (if cw = 0 then 0 else cx, if ch = 0 then 0 else cy, if cw = 0 then d.width else cw, if ch = 0 then d.height else ch)

/-- The crop lies inside the input, and each axis scales by a ratio in [0.5, 4] (R297). -/
def State.encScales (s : State) (e : Nat) (d : EncIn) : Bool :=
  let (cx, cy, cw, ch) := s.encCrop e d
  let turned := s.get (VENC_CTX_CFG_ROT e) % 2 == 1
  let sw := if turned then ch else cw
  let sh := if turned then cw else ch
  decide (cx + cw ≤ d.width ∧ cy + ch ≤ d.height ∧ s.encW e ≤ 2 * sw ∧ sw ≤ 4 * s.encW e ∧ s.encH e ≤ 2 * sh ∧ sh ≤ 4 * s.encH e)

/-- The code that rejects an input, 0 when it is coded. -/
def State.encInputCode (s : State) (e : Nat) (d : EncIn) : Nat := if !d.ok then eeInput else if !s.encScales e d then eeScale else 0

/-- The picture that an input gives (R297). -/
def State.encPicture (s : State) (e : Nat) (d : EncIn) : List (List Nat) :=
  let (cx, cy, cw, ch) := s.encCrop e d
  s.encSource d (s.get (VENC_CTX_CFG_ROT e)) (s.on (VENC_CTX_CFG_MIRROR e)) cx cy cw ch (s.encW e) (s.encH e)

/-- The crop of an input meets a poisoned word. -/
def State.encPoisoned (s : State) (e : Nat) (d : EncIn) : Bool :=
  let (cx, cy, cw, ch) := s.encCrop e d
  let px := if d.fmt = 0 then 4 else d.fmt
  (rangeFrom cy ch).any (fun y => s.poisonedIn (d.addr + y * d.pitch + cx * px) (cw * px))
    || (d.fmt != 0 && (rangeFrom (cy / 2) (ceilDiv ch 2)).any (fun y => s.poisonedIn (d.caddr + y * d.cpitch + cx / 2 * 2 * px) (cw * px)))

/-! ## The output ring (R299) -/

/-- Bytes of the output ring's data area that no outstanding AU holds. -/
def State.encFree (s : State) (e : Nat) : Nat :=
  let (base, size) := s.encOutArea e
  let n := s.bits (VENC_CTX_OUT_CFG e) 27 16
  size - 32 * n - ((s.ringBusy base (ringSpan (s.bits (VENC_CTX_OUT_GET e) 11 0) (s.bits (VENC_CTX_OUT_PUT e) 11 0) n)).map Prod.snd).sum

/-- Where an AU of `len` bytes goes in the output ring. -/
def State.encPlace (s : State) (e len : Nat) : Option Nat :=
  let (base, size) := s.encOutArea e
  let n := s.bits (VENC_CTX_OUT_CFG e) 27 16
  let put := s.bits (VENC_CTX_OUT_PUT e) 11 0
  let get := s.bits (VENC_CTX_OUT_GET e) 11 0
  if n = 0 ∨ (put + 1) % n = get then none else placeAu (32 * n) size (s.enc e).pos len (s.ringBusy base (ringSpan get put n))

/-- Pictures of a context that are waiting or in progress. -/
def State.encBacklog (s : State) (e : Nat) : Nat :=
  (s.codec.waitE.filter (fun j => j.ctx == e)).length
    + (s.codec.coresE.filter (fun (j : Option EncJob) => match j with | some k => k.ctx == e | none => false)).length

/-- The instant is dropped: the ring lacks free bytes or a free descriptor (R299). -/
def State.encNoSpace (s : State) (e : Nat) : Bool :=
  let n := s.bits (VENC_CTX_OUT_CFG e) 27 16
  decide (s.encFree e < ceilDiv (s.encS e) 8 + 4096) || n == 0 || (s.bits (VENC_CTX_OUT_PUT e) 11 0 + 1) % n == s.bits (VENC_CTX_OUT_GET e) 11 0

/-! ## Cores -/

def State.showEncCores (s : State) : State :=
  s.put ⟨VENC_CORE_STATUS, 1, 0⟩ ((List.range 2).foldl (fun a c => a + 2 ^ c * bit ((s.codec.coresE.getD c none).isSome)) 0)

/-- 0 for a context at rank 5, 1 for the others (R299). -/
def State.encClass (s : State) (e : Nat) : Nat := bit (!s.on (VENC_CTX_CFG_RANK5 e))

/-- The waiting picture that core `c` takes: its index. -/
def State.encPick (s : State) (c : Nat) : Option Nat :=
  let busy := s.codec.coresE.filterMap (fun (j : Option EncJob) => j.map EncJob.ctx)
  let may := fun (j : EncJob) => let k := s.get (VENC_CTX_CFG_CORE j.ctx); (k == c || decide (2 ≤ k)) && !busy.contains j.ctx
  let first := fun (i : Nat) (j : EncJob) => ((s.codec.waitE.take i).all (fun k => k.ctx != j.ctx))
  let cand := ((List.range s.codec.waitE.length).zip s.codec.waitE).filter (fun (e : Nat × EncJob) => may e.2 && first e.1 e.2)
  let key := fun (e : Nat × EncJob) =>
    let t := s.codec.turnE.getD (2 * c + s.encClass e.2.ctx) 0
    (2 ^ 80 * s.encClass e.2.ctx + e.2.instant) * 32 + (e.2.ctx + 32 - t) % 32
  ((sortBy key cand).head?).map Prod.fst

/-- F(n) of a picture at its instant (R300). -/
def State.encFill (s : State) (e instant : Nat) : Nat :=
  let k := s.enc e
  if k.coded = 0 then s.encS e / 2 else min (s.encS e) (k.fill + s.encR e * (instant - k.instant) / 10 ^ 9)

/-- Core `c`, when idle, takes a waiting picture. -/
def State.encAssign (s : State) (c : Nat) : State :=
  if (s.codec.coresE.getD c none).isSome then s
  else match s.encPick c with
    | none => s
    | some i => match s.codec.waitE[i]? with
      | none => s
      | some j =>
        let j' := { j with before := s.encFill j.ctx j.instant }
        State.showEncCores { s with codec := { s.codec with
          waitE := s.codec.waitE.eraseIdx i, coresE := s.codec.coresE.set c (some j')
          turnE := s.codec.turnE.set (2 * c + s.encClass j.ctx) (j.ctx + 1) } }

/-- A picture waits for a core. -/
def State.encQueue (s : State) (j : EncJob) : State :=
  (State.encAssign { s with codec := { s.codec with waitE := s.codec.waitE ++ [j] } } 0).encAssign 1

/-! ## Instants (R295) -/

/-- An instant with a repeat: a P picture of skipped CTUs. -/
def State.encRepeat (s : State) (e instant : Nat) : State :=
  if (s.enc e).coded = 0 ∧ s.encBacklog e = 0 then s
  else
    let v := s.freeVal.toNat
    let s1 := s.freeNext.setEnc e (fun x => { x with sinceIdr := x.sinceIdr + 1 })
    s1.encQueue { ctx := e, instant, input := false, idr := false, tag := 0xFFFF, tsNs := v % 10 ^ 9, tsSec := s1.freeVal.toNat
                  inGet := s.bits (VENC_CTX_IN_GET e) 11 0, poison := false, before := 0, source := [] } |>.freeNext

/-- An instant with an input. -/
def State.encCode (s : State) (e instant : Nat) (d : EncIn) : State :=
  let k := s.enc e
  let gop := s.bits (VENC_CTX_GOP e) 15 0
  let firstPic := k.coded == 0 && s.encBacklog e == 0
  let idr := firstPic || d.force || k.remake || (gop != 0 && decide (gop ≤ k.sinceIdr + 1))
  let poison := s.encPoisoned e d
  let s1 := if poison then ((s.notePoisonRead 7).encErr e eePoison).raiseMask 485 (2 ^ e) else s
  (s1.setEnc e (fun x => { x with sinceIdr := if idr then 0 else x.sinceIdr + 1, remake := false })).encQueue
    { ctx := e, instant, input := true, idr, tag := d.tag, tsNs := d.tsNs, tsSec := d.tsSec, inGet := s.bits (VENC_CTX_IN_GET e) 11 0, poison, before := 0
      source := s.encPicture e d }

/-- What context `e` does at its instant `t` (R295, R297, R299). -/
def State.encodeAt (s : State) (e t : Nat) : State :=
  let n := s.bits (VENC_CTX_IN_CFG e) 11 0
  let seen := (s.enc e).seen
  let has := decide (n ≠ 0) && s.bits (VENC_CTX_IN_GET e) 11 0 != seen
  if !has && (s.enc e).coded == 0 && s.encBacklog e == 0 then s
  else if s.encNoSpace e then s.loseEncode e
  else if !has then s.encRepeat e t
  else
    let d := s.encInput e ((seen + n - 1) % n)
    let s1 := s.wrN (VENC_CTX_IN_GET e) seen
    let code := s.encInputCode e d
    if code ≠ 0 then (((s1.encErr e code).encNote e 4 code d.tag (some (d.tsNs, d.tsSec))).raiseMask 483 (2 ^ e)).encRepeat e t
    else s1.encCode e t d

/-- An encode instant of context `e` falls in the running tick (R295). -/
def encodeInstant (e : Nat) (s : State) : State :=
  if 16 ≤ e ∨ s.bits VENC_CTRL 0 0 = 0 ∨ !s.on (VENC_CTX_CFG_EN e) ∨ s.pwrState ≠ 1 ∨ (s.enc e).lastAt = some s.evc.tick then s
  else match s.instantNow e with
    | none => s
    | some t => (s.setEnc e (fun x => { x with lastAt := some s.evc.tick })).encodeAt e t

/-! ## Completion (R300, R302, R303) -/

/-- The coding of a picture so far (R302): bits with the headers, stage, and where stages 1 and 2 began; QPs of the CTUs
that are no floor CTUs, summed, and their number. -/
structure CodeRun where
  bits  : Nat
  stage : Nat
  row   : Nat
  ctu   : Nat
  qps   : Nat
  coded : Nat
  deriving DecidableEq, Repr

/-- CTU `i` of `n`, `across` in a row: the test of stage 1 at the start of a row, then that of stage 2 on the CTU as it would
be coded; a floor CTU takes at most 64 bits (R302). -/
def codeCtu (budget n across qp : Nat) (r : EncodeResult) (c : CodeRun) (i : Nat) : CodeRun :=
  let rows := n / across
  let y := i / across
  let starved := decide (c.stage = 0 ∧ i % across = 0 ∧ 1 ≤ y ∧ budget * y < c.bits * y + (rows - y) * c.bits)
  let c1 := if starved then { c with stage := 1, row := y } else c
  let m := r.ctus.getD i (64, 64)
  let cost := if c1.stage = 0 then m.1 else m.2
  if c1.stage = 2 ∨ budget < c1.bits + cost + 64 * (n - 1 - i) then
    let c2 := if c1.stage = 2 then c1 else { c1 with stage := 2, ctu := i, row := if c1.stage = 0 then y else c1.row }
    { c2 with bits := c2.bits + min 64 (r.floors.getD i 64) }
  else { c1 with bits := c1.bits + cost, qps := c1.qps + (if c1.stage = 0 then qp else 51), coded := c1.coded + 1 }

/-- A picture coded within a budget; without one (CQP) every CTU is coded as measured, and a repeat skips every CTU. -/
def codePicture (budget : Option Nat) (w h qp : Nat) (skip : Bool) (r : EncodeResult) : CodeRun :=
  let across := ceilDiv w 64
  let n := across * ceilDiv h 64
  let r1 := if skip then { r with ctus := (List.range n).map (fun i => let b := min 64 (r.floors.getD i 64); (b, b)) } else r
  let start : CodeRun := { bits := min 1024 r.header, stage := 0, row := 0xFFFF, ctu := 0xFFFF, qps := 0, coded := 0 }
  match budget with
  | some b => (List.range n).foldl (codeCtu b n across qp r1) start
  | none => { start with bits := r.header + ((List.range n).map (fun i => (r1.ctus.getD i (64, 64)).1)).sum, qps := n * qp, coded := n }

/-- QP of a picture: QP_I or QP_P in CQP; else the rate control's choice within [QP_MIN, QP_MAX] (R300). -/
def State.encQp (s : State) (j : EncJob) (r : EncodeResult) : Nat :=
  let q (hi lo : Nat) : Nat := s.bits (VENC_CTX_QP j.ctx) hi lo
  if s.rcMode j.ctx = 0 then (if j.idr then q 5 0 else q 13 8) else clampNat (q 21 16) (q 29 24) r.qp

/-- The coding of job `j`. -/
def State.encRun (s : State) (j : EncJob) (r : EncodeResult) : CodeRun :=
  codePicture (if s.rcMode j.ctx = 0 then none else some j.before) (s.encW j.ctx) (s.encH j.ctx) (s.encQp j r) (!j.input) r

/-- A filler data NAL unit of at least `n` bytes. -/
def fillerNal (n : Nat) : List Byte := if n = 0 then [] else [0, 0, 1, 0x4C, 0x01] ++ List.replicate (n - 6) 0xFF ++ [0x80]

/-- Bytes of filler that CBR appends: the excess of F(n + 1) over S one period later (R300). -/
def State.encFiller (s : State) (j : EncJob) (bits : Nat) : Nat :=
  if s.rcMode j.ctx = 1 then
    ceilDiv (j.before - bits + s.encR j.ctx * s.encPeriod j.ctx / 10 ^ 9 - s.encS j.ctx) 8
  else 0

/-- Core `core` is free of its picture. -/
def State.freeEncCore (s : State) (core : Nat) : State :=
  State.showEncCores { s with codec := { s.codec with coresE := s.codec.coresE.set core none } }

/-- The access unit `au` of job `j`, coded as `c` tells with `fill` bytes of filler, is placed at `off` of the output area:
its bytes and its descriptor are written, PUT advances, the state of the context and its counters follow, and a record is
written (R296, R299, R302). -/
def State.finishEncode (s : State) (j : EncJob) (c : CodeRun) (qp fill : Nat) (au : List Byte) (off : Nat) : State :=
  let e := j.ctx
  let hrd := s.rcMode e != 0
  let (base, _) := s.encOutArea e
  let n := s.bits (VENC_CTX_OUT_CFG e) 27 16
  let put := s.bits (VENC_CTX_OUT_PUT e) 11 0
  let k := s.enc e
  let total := c.bits + 8 * fill
  let s1 := (s.dmaWrite 7 writerVenc (base + off) au 0).1
  let s2 := (s1.dmaWrite 7 writerVenc (base + 32 * put) (auDescriptor off au.length j.tsNs j.tsSec (8 * bit j.idr) k.auNo) 0).1
  let s3 := (s2.wrN (VENC_CTX_OUT_PUT e) ((put + 1) % n)).setEnc e (fun x => { x with
    coded := x.coded + 1, fill := j.before - total, instant := j.instant, auNo := (x.auNo + 1) % 2 ^ 32, pos := off + au.length })
  let starved := decide (1 ≤ c.stage)
  let s4 := ((s3.count (VENC_CTX_PIC_CNT e)).put ⟨VENC_CTX_STATUS e, 16, 16⟩ (bit starved)).wrN (VENC_CTX_CPB_LEVEL e) (if hrd then j.before else 0)
  let s5 := if j.input then s4 else s4.count (VENC_CTX_REPEAT_CNT e)
  let s6 := if starved then (s5.count (VENC_CTX_STARVED_CNT e)).raiseMask 481 (2 ^ e) else s5
  let flags := bit starved + 2 * bit (c.stage == 2) + 4 * bit j.idr + 8 * bit j.poison
  s6.encRecord e { kind := if j.input then 1 else 2, flags, tag := j.tag, code := if j.poison then eePoison else 0
                   qp := if c.coded = 0 then qp else c.qps / c.coded, inGet := j.inGet, bits := total, cpb := if hrd then j.before else 0
                   row := c.row, ctu := c.ctu, auNo := k.auNo, tsNs := j.tsNs, tsSec := j.tsSec }

/-- A core's picture ends: its AU, its record and the HRD model (R299 to R303); the cores then take what waits. -/
def encodeComplete (core : Nat) (r : EncodeResult) (s : State) : State :=
  match s.codec.coresE.getD core none with
  | none => s
  | some j =>
    let c := s.encRun j r
    let fill := fillerNal (s.encFiller j c.bits)
    let au := padTo (ceilDiv c.bits 8) (r.au.take (ceilDiv c.bits 8)) ++ fill
    let s1 := s.freeEncCore core
    let s2 := match s1.encPlace j.ctx au.length with
      | none => s1.loseEncode j.ctx
      | some off => s1.finishEncode j c (s.encQp j r) fill.length au off
    (s2.encAssign 0).encAssign 1

end Sys2Proof.Machine
end

