-- ==== Sys2Proof/Machine/Csu.lean ====
section
/-!
DEFINITION. The configuration and security unit (R42 to R59): keys and rollback, checking an image, applying a full
image, and reloading one channel.
-/

namespace Sys2Proof.Machine

/-! ## Keys (R42, R43) -/

/-- The part is open: no key slot is programmed. -/
def State.partOpen (s : State) : Bool := s.get CSU_KEY_STATUS_PROG == 0

/-- Slot n is programmed and not revoked. -/
def State.slotUsable (s : State) (n : Nat) : Bool := bitAt (s.get CSU_KEY_STATUS_PROG) n && !bitAt (s.get CSU_KEY_STATUS_REVOKED) n

/-- An open part takes any key; a closed one only the key whose digest its slot holds (R42, R43). -/
def State.keyAccepted (s : State) (b : List Byte) : Bool :=
  s.partOpen || (s.slotUsable (imgSlot b) && leNat (sha384 (imgKey b)) == s.csu.fuses.getD (imgSlot b) 0)

/-! ## Checking an image (R48) -/

/-- The entries of type ENGINE that name channel c, by index. -/
def enginesFor (b : List Byte) (c : Nat) : List Nat :=
  (List.range (imgSections b)).filter (fun i => (dirEnt b i).typ == 2 && bitAt (dirEnt b i).mask c)

/-- An ENGINE section fits the channels it names. -/
def engineEntOk (host : Nat × Nat) (b : List Byte) (i : Nat) (recs : List (Nat × Nat × Nat × Nat)) : Bool :=
  let e := entBytes b (dirEnt b i)
  engineOk host e && recs.all (fun r => !bitAt (dirEnt b i).mask r.1 || entriesOk e r.2.1 r.2.2.1 r.2.2.2)

/-- Step 9 of R48 for a full image: code STRUCTURE and the section that fails.  The order STRUCT, ENGINE, GEOMETRY, PANEL,
NET, POLICY, and the first ENGINE section for a channel that none names, are the model's choice (log entries 61, 62). -/
def fullContents (b : List Byte) : Option (Nat × Nat) :=
  let st := sectionOf b 1
  let w := leAt (sectionOf b 3) 4 2
  let h := leAt (sectionOf b 3) 6 2
  let recs := (List.range 4).map (fun c => (c, recRole st c, recSynth st c, recBuild st c))
  let ents := (List.range (imgSections b)).filter (fun i => (dirEnt b i).typ == 2)
  if !structOk st then some (0x0B, sectionIdx b 1)
  else match (List.range 4).find? (fun c => recRole st c != 0 && (enginesFor b c).length != 1) with
  | some c => some (0x0B, (enginesFor b c).getD 1 (sectionIdx b 2))
  | none => match ents.find? (fun i => !engineEntOk (structRegion st 0) b i recs) with
    | some i => some (0x0B, i)
    | none =>
      if !geometryOk (sectionOf b 3) then some (0x0B, sectionIdx b 3)
      else if !panelOk w h (sectionOf b 4) then some (0x0B, sectionIdx b 4)
      else if !netOk (sectionOf b 6) (sectionOf b 5) then some (0x0B, sectionIdx b 5)
      else if !policyOk w h (sectionOf b 6) then some (0x0B, sectionIdx b 6)
      else none

/-- Step 9 of R48 for a channel image, against the active full image; its ENGINE section names TARGET_CH only (R35, R39,
R49). -/
def State.channelContents (s : State) (b : List Byte) : Option (Nat × Nat) :=
  let st := sectionOf b 1
  let c := imgTarget b
  match s.csu.image with
  | none => some (0x0B, sectionIdx b 1)
  | some im =>
    let roles := (List.range 4).map (fun k => if k = c then recRole st c else s.role k)
    if !(decide (0xC4 ≤ st.length) && leAt st 0 4 == 1 && recOk st c) || slice b 0x40 48 != sha384 im.structSec
        || recReload im.structSec c != 1 || !rolesOk roles then some (0x0B, sectionIdx b 1)
    else if (dirEnt b (sectionIdx b 2)).mask != 2 ^ c
        || !engineEntOk (structRegion im.structSec 0) b (sectionIdx b 2) [(c, recRole st c, recSynth st c, recBuild st c)] then
      some (0x0B, sectionIdx b 2)
    else none

/-- The part's grade and stepping are admitted (R41); a section too short for its layout admits none (log entry 63). -/
def State.identityOk (s : State) (b : List Byte) : Bool :=
  let id := sectionOf b 7
  decide (0x50 ≤ id.length) && bitAt (byteAt id 0) (s.get GCTL_STEPPING_GRADE - 1) && decide (byteAt id 1 ≤ s.get GCTL_STEPPING_STEPPING)

/-- Checks 2 to 9 of R48 on the bytes of an image: the first failing code and its section. -/
def State.laterChecks (s : State) (b : List Byte) : Option (Nat × Nat) :=
  match step2 b with
  | some e => some e
  | none => match step3 b with
    | some e => some e
    | none =>
      if !s.keyAccepted b then some (0x06, 0)
      else if !imgSig b then some (0x07, 0)
      else if imgSvn b < s.bits CSU_ROLLBACK 6 0 then some (0x08, 0)
      else if imgCprof b < 1 ∨ s.bits CSU_CPROF 15 0 < imgCprof b then some (0x09, 0)
      else if imgKind b = 1 then (if s.identityOk b then fullContents b else some (0x0A, sectionIdx b 7))
      else s.channelContents b

/-- All checks of R48 on an image that a source holds; `room` is the length available, and `kind` the kind the
operation takes; an image of the other kind fails with BAD_FORMAT after step 1, which is the model's choice (R49, log entry 6). -/
def State.imageChecks (s : State) (b : List Byte) (room : Nat) (kind : Option Nat) : Option (Nat × Nat) :=
  match step1 b room with
  | some c => some (c, 0)
  | none =>
    if (match kind with | some k => imgKind b != k | none => false) then some (0x02, 0)
    else s.laterChecks (b.take (imgLen b))

/-- Address and length of the pushed image (R47). -/
def State.pushAt (s : State) : Nat × Nat := (s.addr36 CSU_PUSH_ADDR_LO CSU_PUSH_ADDR_HI / 64 * 64, s.rdN CSU_PUSH_LEN)

/-- Bytes of the pushed image that its header announces, at most 16 MiB. -/
def State.pushBytes (s : State) : List Byte := s.memRead s.pushAt.1 (max 512 (min (s.memNat (s.pushAt.1 + 8) 4) (16 * 2 ^ 20)))

/-- The pushed image lies where a push may lie: in HOST, or below 40 GiB before the first full image (R47). -/
def State.pushPlaced (s : State) (len : Nat) : Bool :=
  if s.on CSU_STATUS_IMAGE_VALID then s.inRegion 0 s.pushAt.1 len else decide (s.pushAt.1 + len ≤ memSize)

/-- Checks of a pushed image: MEMORY where a word read is in poison form (R58). -/
def State.pushChecks (s : State) (kind : Option Nat) : State × Option (Nat × Nat) :=
  let a := s.pushAt.1
  let room := if s.pushPlaced (imgLen s.pushBytes) then s.pushAt.2 else 0
  if s.poisonedIn a 256 then (s.notePoisonRead 15, some (0x0D, 0))
  else match step1 s.pushBytes room with
    | some c => (s, some (c, 0))
    | none =>
      if s.poisonedIn a (imgLen s.pushBytes) then (s.notePoisonRead 15, some (0x0D, 0))
      else (s, s.imageChecks s.pushBytes room kind)

/-! ## Applying a full image (R48, R449) -/

/-- Show an area of CONTROL in a register pair. -/
def State.showArea (s : State) (lo hi k : Nat) : State := s.putAddr36 lo hi (s.controlAt k)

/-- The CSU writes an area of CONTROL. -/
def State.writeArea (s : State) (k : Nat) (bs : List Byte) : State := s.memWrite 15 (s.controlAt k) bs

/-- The role of a channel with the kinds of its engines; the local stores take the reload copy (R12, R48, R103). -/
def State.setRole (s : State) (c role : Nat) (cfg : ChanCfg) : State :=
  let s1 := { s with csu := { s.csu with chans := s.csu.chans.set c cfg } }
  let s2 := (s1.put (CH_STATUS_ROLE c) role).put ⟨CSU_ROLE, 8 * c + 7, 8 * c⟩ role
  (chanEngines c).foldl (fun st g =>
    (st.setEng g (fun e => { e with ls := s.reloadCopy c, valid := role != 0, dirty := false })).putB (CH_ENG_STATE_KIND (g / 32) (g % 32))
      (roleBuilds role (g % 32))) s2

/-- A channel's gate follows PWR_CH_GATE and its role (R38, R404); while the engine PLL is stopped it is enabled, and
the gate opens once it has locked (R16). -/
def State.openGate (s : State) (c : Nat) : State :=
  if s.role c != 0 && bitAt (s.rdN PWR_CH_GATE) c && !s.gateOpen c then
    if s.pllLocked pllEngine then
      ((s.putBit PWR_CH_GATE_STATUS c true).setChan c (fun ch => { ch with gateAt := s.now })).raise 105 0
    else if (s.pwr.pllFrom.getD pllEngine none).isSome then s
    else { s with pwr := { s.pwr with pllFrom := s.pwr.pllFrom.set pllEngine (some s.now) } }
  else s

/-- The flow context of a context record (R320). -/
def NetCtx.flow (c : NetCtx) : FlowCtx :=
  { ctx := c.ctx, kind := c.kind, rank := c.rank, guar := bitAt c.flags 0, ports := bitsOf c.flags 2 1, meter := c.meter
    ydrop := bitAt c.flags 5, image := true, target := c.target, queue := c.queue, rates := c.rates, tmpl := c.tmpl
    rtp := bitAt c.flags 3, av1 := bitAt c.flags 4 }

/-- The network unit takes its section: flags, contexts, entries and queue records (R320, R321). -/
def State.applyNet (s : State) (n : List Byte) : State :=
  let cs := sortBy FlowCtx.ctx ((netCtxs n).map NetCtx.flow)
  let ex := (List.range (leAt n 8 2)).map (fun i => (⟨(netExact n i).1, (netExact n i).2, false⟩ : ExactEntry))
  let s1 : State := { s with net := { s.net with flows := cs, flowsOn := cs, exact := ex, exactOn := ex } }
  let s2 := ((s1.putB NET_CTRL_PRP_EN (bitAt (byteAt n 0x0C) 0)).putB NET_CTRL_DEFAULT (bitAt (byteAt n 0x0C) 1)).wrN NET_EXACT_USED ex.length
  let s3 := (List.range 128).foldl (fun st q =>
    let r := slice n (leAt n 0x20 4 + 16 * q) 16
    (((st.wrN (NET_Q_CFG q) (byteAt r 0 % 8 + 8 * (byteAt r 1 % 2))).wrN (NET_Q_SLOPE q) (leAt r 4 4)).wrN (NET_Q_HICREDIT q) (leAt r 8 4)).wrN
      (NET_Q_DELAY_MAX q) (leAt r 12 4)) s2
  cs.foldl (fun st c =>
    if c.kind = 3 then st.put (VDEC_CTX_CFG_SRC c.target) 1
    else if c.kind = 5 && c.guar then st.put (VENC_CTX_CFG_RANK5 c.target) 1 else st) s3

/-- The check unit takes the image contexts (R372). -/
def State.applyChecks (s : State) (pol : List Byte) : State :=
  (List.range 32).foldl (fun st n =>
    let (fl, poly, ab, ao, ml) := polCku pol n
    if bitAt fl 0 then
      st.wrN (CKU_CTX_CFG n) (1 + 2 * bit (bitAt fl 1) + 4 * bit (bitAt fl 2) + 8 * (poly % 4) + 32 * (ab % 4) + 256 * ao + 65536 * ml)
    else st) s

/-- The registers that report an applied image's geometry, areas and overlay (R127, R139, R185, R190, R269). -/
def State.applyReports (s : State) : State :=
  let g := s.geoSec
  let s1 := (((s.wrN CMP_SYN_FOOT (geoUMax g + 65536 * geoVMax g)).wrN CMP_SYN_GEOM (leAt g 4 2 + 65536 * leAt g 6 2)).wrN CMP_SYN_PITCH (leAt g 8 2 + 65536 * leAt g 0x0A 2))
  let s2 := ((s1.showArea CMP_SYN_CMAP_LO CMP_SYN_CMAP_HI 0).showArea CMP_CONV_LO CMP_CONV_HI 1).showArea CMP_CAM_RIG_LO CMP_CAM_RIG_HI 2
  let s3 := (((s2.showArea AUX_CLONE_LO AUX_CLONE_HI 3).showArea EHL_FREEZE_LO EHL_FREEZE_HI 5).showArea EVC_RING_LO EVC_RING_HI 6)
  let s4 := (s3.showArea VDEC_CPL_LO VDEC_CPL_HI 7).showArea VENC_CPL_LO VENC_CPL_HI 8
  let d := s4.ovlDesc
  let s5 := s4.putB CMP_OVL_STATUS_ACTIVE (decide (0 < ovlFields d + ovlStatics d))
  let s6 := s5.put ⟨CAL_BRIGHT_STATUS, 15, 0⟩ (panelFactor s5.panelSec (panelPts s5.panelSec - 1))
  { s6 with ovl := { s6.ovl with values := List.replicate (ovlFields d) 0 }
            cal := { s6.cal with alsAt := s6.now } }

/-- Memory that survives an IMAGE reset: bytes of the old HOST that lie in the new HOST; the zeroed maps and clone copies
(R244, R269, R446). -/
def State.applyMemory (s : State) : State :=
  let keeps (a : Nat) : Bool :=
    (match s.pcie.oldHost with
     | some h => decide (h.1 ≤ a ∧ a < h.1 + h.2) && s.inRegion 0 a 1
     | none => true) && !s.inRegion 4 a 1 && !s.inRegion 5 a 1 && !(decide (s.controlAt 3 ≤ a ∧ a < s.controlAt 3 + s.controlLen 3))
  { s with mem := s.mem.filter (fun (e : Host.Cell) => keeps e.1), poison := s.poison.filter (fun w => keeps (16 * w))
           pcie := { s.pcie with oldHost := none } }

/-- The lanes that a pair or a tree uses train once an image is applied (log entry 85). -/
def State.trainLanes (s : State) : State :=
  if s.csu.image.isSome then
    (List.range 16).foldl (fun (st : State) l =>
      if (if l < 8 then st.on EHL_CFG_PAIR_EN else st.on EHL_CFG_TREE_EN) && st.get (EHL_LANE_STATUS_STATE l) == 0 then
        st.put (EHL_LANE_STATUS_STATE l) 1 else st) s
  else s

/-- The pair starts linking when a device with an image is a member of a pair (R421). -/
def State.startLinking (s0 : State) : State :=
  let s := s0.trainLanes
  if s.on EHL_CFG_PAIR_EN && s.csu.image.isSome && s.pairState == pairUnpaired then
    let s1 := s.setPair pairLinking
    { s1 with ehl := { s1.ehl with since := s.now } }
  else s

/-- A full image that passed every check takes effect as one step: the PANEL section and the reload copies are in CONTROL,
stage APPLY, source 32 (R48, R103, R252, R449). -/
def State.applyImage (s : State) (b : List Byte) (source : Nat) : State :=
  let st := sectionOf b 1
  let im : Img := { structSec := st, geometry := sectionOf b 3, panel := sectionOf b 4, net := sectionOf b 5
                    policy := sectionOf b 6, identity := sectionOf b 7 }
  let s1 : State := { s with csu := { s.csu with image := some im } }
  let s2 := (List.range 7).foldl (fun x r =>
    x.wrN (MEM_REGION r) ((structRegion st r).1 / 2 ^ 29 % 128 + 2 ^ 16 * ((structRegion st r).2 / 2 ^ 29 % 128))) s1
  let s3 := (((s2.put CSU_STATUS_IMAGE_VALID 1).put CSU_STATUS_SOURCE source).put ⟨CSU_CPROF, 31, 16⟩ (imgCprof b)).wrN CSU_ACTIVE_SVN (imgSvn b)
  let s4 := (s3.put CSU_KEY_STATUS_ACTIVE_SLOT (imgSlot b)).wrN CSU_BUILD_ID (leAt b 0x14 4)
  let dg := sha384 st
  let s5 := (List.range 12).foldl (fun x i => x.wrN (CSU_STRUCT_DIGEST i) (leAt dg (4 * i) 4)) s4
  let eng := fun c => match enginesFor b c with | i :: _ => entBytes b (dirEnt b i) | [] => []
  let s5' := (List.range 4).foldl (fun (x : State) c => x.writeArea (10 + c) (engineImage (eng c))) ((s5.applyMemory).writeArea 9 im.panel)
  let s6 := (List.range 4).foldl (fun x c =>
    (x.setRole c (recRole st c) (chanCfgOf (eng c) (recSynth st c) (recBuild st c))).openGate c) s5'
  let s7 := (s6.applyReports).applyNet im.net
  let s8 := ((s7.applyChecks im.policy).put ⟨PWR_STATE, 2, 0⟩ 1).put GCTL_BOOT_STATUS_STAGE 3
  let s8 := { s8 with cal := { s8.cal with lastSec := none, stamps := List.replicate 48 none, stampsIn := [] } }
  let s9 := (List.range s8.tiles.length).foldl (fun (x : State) t => x.put (SPL_T_STATUS_EXCLUDED t) 1) s8
  ((((s9.put CAL_MAP_STATUS_VALID 0).put MEM_STATUS_UNTOUCHED 0).raise 32 0).raise 864 0).startLinking

/-! ## The operations (R45 to R49, R54) -/

/-- A refusal with BUSY: source 33 with the code in its DATA (R49). -/
def State.csuBusy (s : State) : State := s.raise 33 0x0C

/-- A check runs. -/
def State.csuChecking (s : State) : Bool := s.csu.checking.isSome

/-- Start a check reported in CSU_LOAD_STATUS. -/
def State.startCheck (s : State) (k : CheckKind) : State :=
  State.wrN { s with csu := { s.csu with checking := some k } } CSU_LOAD_STATUS 1

/-- CSU_CMD LOAD. -/
def csuLoad (s : State) : State :=
  if s.csuChecking || s.on CSU_STATUS_IMAGE_VALID then s.csuBusy
  else (s.startCheck .load).put GCTL_BOOT_STATUS_STAGE 2

/-- CSU_CMD VERIFY. -/
def csuVerify (s : State) : State := if s.csuChecking then s.csuBusy else s.startCheck .verify

/-- CSU_CMD RELOAD. -/
def csuReload (s : State) : State :=
  if s.csuChecking || s.get CSU_RELOAD_STATUS_STATE != 0 then s.csuBusy
  else State.wrN { s with csu := { s.csu with checking := some .reload } } CSU_RELOAD_STATUS
    (1 + 2 ^ 4 * (s.memNat (s.pushAt.1 + 0x0D) 1 % 4))

/-- The reload returns to IDLE and leaves the channel unchanged. -/
def State.dropReload (s : State) : State :=
  State.put { s with csu := { s.csu with staged := none, checking := if s.csu.checking = some .reload then none else s.csu.checking } }
    CSU_RELOAD_STATUS_STATE 0

/-- CSU_CMD CANCEL: from CHECKING, STAGED or FAILED to IDLE (R56). -/
def csuCancel (s : State) : State :=
  let st := s.get CSU_RELOAD_STATUS_STATE
  if st = 1 ∨ st = 2 ∨ st = 5 then s.dropReload else s

/-- The channel of a failed reload: DISABLED, its gate closed (R56). -/
def State.disableChannel (s : State) (c : Nat) : State :=
  let s1 := s.setRole c 0 .reset
  let s2 := (chanEngines c).foldl (fun st g => st.setEngState g esOffline) s1
  if s2.gateOpen c then (s2.putBit PWR_CH_GATE_STATUS c false).raise 105 0 else s2

/-- A reload fails in LOADING with a code (R56); on a secondary it costs the sync (R424). -/
def State.reloadFail (s : State) (code : Nat) : State :=
  let ch := s.get CSU_RELOAD_STATUS_CH
  let s1 := ((s.disableChannel ch).put CSU_RELOAD_STATUS_STATE 5).put CSU_RELOAD_STATUS_CODE code
  State.raise { s1 with csu := { s1.csu with staged := none } } 37 code

/-- A happening of R56 meets a reload: in LOADING it fails with `code`, in CHECKING and STAGED it returns to IDLE. -/
def State.meetReload (s : State) (code : Nat) : State :=
  let st := s.get CSU_RELOAD_STATUS_STATE
  if st = 3 then s.reloadFail code else if st = 1 ∨ st = 2 then s.dropReload else s

/-- A reset, an orderly stop or a hard cut meets a reload; R58 has no code for these, and the model reports 0 (R56, log
entry 64). -/
def State.interruptReload (s : State) : State := s.meetReload 0

/-- The bytes staged in CONTROL are poisoned (R54, R56). -/
def State.stagedBad (s : State) : Bool :=
  match s.csu.staged with | some n => s.poisonedIn (s.controlAt 14) n | none => false

/-- An uncorrectable error in the staged image: MEMORY (R56, R58). -/
def State.stagedCheck (s : State) : State := if s.stagedBad then s.meetReload 0x0D else s

/-- A memory command, after which the staged image is looked at (R56). -/
def thenStaged (f : State → State) (s : State) : State := (f s).stagedCheck

/-- The status of a finished check. -/
def State.checkStatus (s : State) (r : Option (Nat × Nat)) : State :=
  match r with
  | none => s.wrN CSU_LOAD_STATUS 2
  | some e => s.wrN CSU_LOAD_STATUS (3 + 2 ^ 8 * e.1 + 2 ^ 16 * (e.2 % 32))

/-- Wait for a host push (R449). -/
def State.waitHost (s : State) : State := s.put GCTL_BOOT_STATUS_STAGE 7

/-- The image load begins from the source that BOOT_SEL names (R45, R449). -/
def State.startLoad (s : State) : State :=
  let s1 := (s.putB CSU_STATUS_BOOT_SEL s.pcie.bootSel).putB GCTL_BOOT_STATUS_BOOT_SEL s.pcie.bootSel
  let s2 := s1.putB CSU_STATUS_OPEN s1.partOpen
  if s.pcie.bootSel then s2.waitHost else (s2.startCheck .spiA).put GCTL_BOOT_STATUS_STAGE 1

/-- A copy from the flash has been checked (R45, R46). -/
def State.flashChecked (s : State) (copyA : Bool) (flash : List Byte) : State :=
  let r := s.imageChecks flash flash.length (some 1)
  let s1 := s.checkStatus r
  match r with
  | none => s1.applyImage flash (if copyA then 1 else 2)
  | some _ =>
    if copyA then (s1.raise 40 0).startCheck .spiB
    else (s1.raise 34 0).waitHost

/-- Stage a channel image in CONTROL for a reload (R54). -/
def State.stageChannel (s : State) (b : List Byte) : State :=
  let s1 := s.writeArea 14 b
  State.wrN { s1 with csu := { s1.csu with staged := some b.length } } CSU_RELOAD_STATUS (2 + 2 ^ 4 * imgTarget b)

/-- The checks of a pushed image for LOAD are complete (R45 to R49). -/
def State.loadChecked (s : State) : State :=
  let r := s.pushChecks (some 1)
  match r.2 with
  | none => (r.1.checkStatus none).applyImage (r.1.pushBytes.take (imgLen r.1.pushBytes)) 3
  | some e => ((r.1.checkStatus (some e)).raise 33 0).waitHost

/-- The checks of a pushed image for VERIFY are complete. -/
def State.verifyChecked (s : State) : State :=
  let r := s.pushChecks none
  (r.1.checkStatus r.2).raiseIf r.2.isSome 33 0

/-- The checks of the image that an IMAGE reset takes from memory are complete: it must lie in the old and the new HOST
region. -/
def State.resetPushChecked (s : State) : State :=
  let inOld := match s.pcie.oldHost with
    | some h => decide (h.1 ≤ s.pushAt.1 ∧ s.pushAt.1 + imgLen s.pushBytes ≤ h.1 + h.2) | none => false
  let r := s.pushChecks (some 1)
  let b := r.1.pushBytes.take (imgLen r.1.pushBytes)
  let host := structRegion (sectionOf b 1) 0
  let inNew := decide (host.1 ≤ s.pushAt.1 ∧ s.pushAt.1 + imgLen b ≤ host.1 + host.2)
  match (if inOld then r.2 else some (0x03, 0)) with
  | none => if inNew then (r.1.checkStatus none).applyImage b 3 else ((r.1.checkStatus (some (0x03, 0))).raise 33 0).startLoad
  | some e => ((r.1.checkStatus (some e)).raise 33 0).startLoad

/-- The checks of a channel image are complete: it is staged (R54). -/
def State.reloadChecked (s : State) : State :=
  let r := s.pushChecks (some 2)
  match r.2 with
  | some e => ((r.1.put CSU_RELOAD_STATUS_STATE 0).put CSU_RELOAD_STATUS_CODE e.1).raise 33 0
  | none => r.1.stageChannel (r.1.pushBytes.take (imgLen r.1.pushBytes))

/-- The CSU finishes checking an image: `flash` holds the bytes of the copy read from SPI NOR, for the checks of a
copy (R45 to R49, R54). -/
def imageCheckComplete (flash : List Byte) (s : State) : State :=
  let idle : State := { s with csu := { s.csu with checking := none } }
  match s.csu.checking with
  | none => s
  | some .spiA => idle.flashChecked true flash
  | some .spiB => idle.flashChecked false flash
  | some .load => idle.loadChecked
  | some .verify => idle.verifyChecked
  | some .resetPush => idle.resetPushChecked
  | some .reload => idle.reloadChecked

/-- No flash responds within 10 ms: the SPI sources end with code SPI (R46). -/
def spiIdTimeout (s : State) : State :=
  if s.csu.checking = some .spiA then
    (State.raise ({ s with csu := { s.csu with checking := none } } |>.checkStatus (some (0x0E, 0))) 34 0).waitHost
  else s

/-- The channel image staged in CONTROL. -/
def State.stagedImage (s : State) : List Byte := s.memRead (s.controlAt 14) (s.csu.staged.getD 0)

/-- The staged image takes effect: its programs become the reload copy and the stores' contents, and its role is set
(R54, R103). -/
def State.loadStaged (s : State) (c : Nat) : State :=
  let b := s.stagedImage
  let st := sectionOf b 1
  let s1 := (s.writeArea (10 + c) (engineImage (sectionOf b 2))).setRole c (recRole st c)
    (chanCfgOf (sectionOf b 2) (recSynth st c) (recBuild st c))
  let s2 := State.put { s1 with csu := { s1.csu with staged := none } } CSU_RELOAD_STATUS_STATE 4
  if recRole st c = 0 then (if s2.gateOpen c then (s2.putBit PWR_CH_GATE_STATUS c false).raise 105 0 else s2) else s2.openGate c

/-- Loading has finished: programs are written, the stores are scrubbed and the new role is set; a scrub that failed
ends the reload with MEMORY (R54, R56); either way a secondary loses its sync (R424). -/
def reloadLoadingDone (ok : Bool) (s : State) : State :=
  if s.get CSU_RELOAD_STATUS_STATE ≠ 3 then s
  else if ok && s.csu.staged.isSome && !s.stagedBad then (s.loadStaged (s.get CSU_RELOAD_STATUS_CH)).desync 5
  else (s.reloadFail 0x0D).desync 5

/-! ## Fuses (R43, R44) -/

/-- The staged digest as a number of 384 fuses. -/
def State.keyHash (s : State) : Nat := (List.range 12).foldl (fun a i => a + s.rdN (CSU_KEY_HASH i) * 2 ^ (32 * i)) 0

/-- A key operation is refused. -/
def State.keyRefuse (s : State) : State := (s.put CSU_KEY_STATUS_FAIL 1).raise 39 0

/-- The active full image lets software program keys. -/
def State.provision (s : State) : Bool := match s.csu.image with | some im => byteAt im.identity 2 == 1 | none => false

/-- A fuse operation begins. -/
def State.startFuses (s : State) (op : FuseOp) : State :=
  State.put { s with csu := { s.csu with op := some op } } (if op.key then CSU_KEY_STATUS_BUSY else ⟨CSU_ROLLBACK, 8, 8⟩) 1

/-- CSU_KEY_CMD PROGRAM (R42, R43); on an open part, slots 1 to 3 ask for PROVISION as on a closed one (log entry 65). -/
def keyProgram (slot : Nat) (s : State) : State :=
  let k := slot % 4
  let blown := s.csu.fuses.getD k 0
  let h := s.keyHash
  if s.csu.op.isSome || bitAt (s.get CSU_KEY_STATUS_PROG) k || !(if s.partOpen then k == 0 || s.provision else s.provision)
      || (blown &&& h) != blown then s.keyRefuse
  else s.startFuses { key := true, slot := k, revoke := false
                      todo := (List.range 384).filter (fun i => bitAt h i && !bitAt blown i) ++ [384] }

/-- CSU_KEY_CMD REVOKE (R43). -/
def keyRevoke (slot : Nat) (s : State) : State :=
  let k := slot % 4
  if s.csu.op.isSome || !bitAt (s.get CSU_KEY_STATUS_PROG) k then s.keyRefuse
  else if bitAt (s.get CSU_KEY_STATUS_REVOKED) k then (s.put CSU_KEY_STATUS_FAIL 0).raise 38 0
  else if (s.on CSU_STATUS_IMAGE_VALID && s.get CSU_KEY_STATUS_ACTIVE_SLOT == k) || (List.range 4).all (fun n => n == k || !s.slotUsable n) then s.keyRefuse
  else s.startFuses { key := true, slot := k, revoke := true, todo := [385] }

/-- A write of CSU_ROLLBACK_CMD (R44). -/
def rollbackProgram (target : Nat) (s : State) : State :=
  let c := s.bits CSU_ROLLBACK 6 0
  let t := target % 128
  if s.csu.op.isSome || !(decide (c < t ∧ t ≤ s.bits CSU_ACTIVE_SVN 6 0) && s.on CSU_STATUS_IMAGE_VALID) then
    (s.put ⟨CSU_ROLLBACK, 9, 9⟩ 1).raise 39 0
  else s.startFuses { key := false, slot := 0, revoke := false, todo := rangeFrom c (t - c) }

/-- One fuse has been blown. -/
def State.blowFuse (s : State) (op : FuseOp) (f : Nat) : State :=
  if !op.key then s.put ⟨CSU_ROLLBACK, 6, 0⟩ (s.bits CSU_ROLLBACK 6 0 + 1)
  else if f = 385 then s.put CSU_KEY_STATUS_REVOKED (s.get CSU_KEY_STATUS_REVOKED ||| 2 ^ op.slot)
  else if f = 384 then (s.put CSU_KEY_STATUS_PROG (s.get CSU_KEY_STATUS_PROG ||| 2 ^ op.slot)).put CSU_STATUS_OPEN 0
  else { s with csu := { s.csu with fuses := s.csu.fuses.modify op.slot (fun x => x ||| 2 ^ f) } }

/-- The operation ends with its own result. -/
def State.endFuses (s : State) (op : FuseOp) (fail : Bool) : State :=
  let s1 : State := { s with csu := { s.csu with op := none } }
  let s2 := if op.key then (s1.put CSU_KEY_STATUS_BUSY 0).putB CSU_KEY_STATUS_FAIL fail
    else (s1.put ⟨CSU_ROLLBACK, 8, 8⟩ 0).putB ⟨CSU_ROLLBACK, 9, 9⟩ fail
  s2.raise (if fail then 39 else 38) 0

/-- One fuse finishes blowing and verifying (R43, R44). -/
def fuseBlowComplete (ok : Bool) (s : State) : State :=
  match s.csu.op with
  | none => s
  | some op => match op.todo with
    | [] => s.endFuses op false
    | f :: rest =>
      if !ok then s.endFuses op true
      else
        let s1 := s.blowFuse op f
        if rest.isEmpty then s1.endFuses op false
        else { s1 with csu := { s1.csu with op := some { op with todo := rest } } }

end Sys2Proof.Machine
end

