-- ==== Sys2Proof/Machine/Resets.lean ====
section
/-!
DEFINITION. Resets (R446 to R448), the loss of the CORE domain, and the rails (R462 to R464).
-/

namespace Sys2Proof.Machine

/-! ## What survives -/

/-- Registers that show fuses, with everything else in them at reset (R43, R44, R446). -/
def State.fuseRegs (s : State) (r : State) : State :=
  (((r.put CSU_KEY_STATUS_PROG (s.get CSU_KEY_STATUS_PROG)).put CSU_KEY_STATUS_REVOKED (s.get CSU_KEY_STATUS_REVOKED)).put
    ⟨CSU_ROLLBACK, 6, 0⟩ (s.bits CSU_ROLLBACK 6 0))

/-- Copy registers that a test names from one state to another. -/
def State.keepRegs (s r : State) (keep : Nat → Bool) : State :=
  (s.regs.filter (fun (e : Nat × Word) => keep e.1)).foldl (fun st e => st.wr e.1 e.2) r

/-- The machine at its reset values, with what outlasts every reset: fuses, the pins, the commands that wait, the
messages already sent and the count of free values. -/
def State.blank (s : State) : State :=
  s.fuseRegs { State.reset with
    freeCtr := s.freeCtr, pending := s.pending
    evc := { Evc.reset with sent := s.evc.sent }
    pwr := { Pwr.reset with rails := s.pwr.rails }
    pcie := { Pcie.reset with bootSel := s.pcie.bootSel }
    csu := { Csu.reset with fuses := s.csu.fuses } }

/-- Every PLL has locked (R16). -/
def State.pllsLocked (s : State) : State :=
  State.wrN { s with pwr := { s.pwr with pllFrom := List.replicate 17 none } } PWR_PLL_STATUS 0x1FFFF

/-! ## FULL (R446) -/

/-- The machine after a FULL reset by a trigger, at stage FUSES. -/
def State.fullState (s : State) (trigger : Nat) : State :=
  let r := ((s.blank).wr PWR_LAST_STOP (s.rd PWR_LAST_STOP)).wrN GCTL_RESET_CAUSE (2 ^ trigger)
  { r with pcie := { r.pcie with resetTick := some 0 } }

/-- A FULL reset boots from the image load; a second one in its tick is the same reset (R446, R447). -/
def State.fullReset (s : State) (trigger : Nat) : State :=
  if s.pcie.resetTick = some s.evc.tick ∧ s.get GCTL_BOOT_STATUS_LAST_RESET = 1 then s
  else (s.fullState trigger).pllsLocked.startLoad

/-! ## IMAGE (R446) -/

/-- Registers an IMAGE reset keeps: the PCIe link, the memory subsystem, PLLs and, for a pushed image, its place. -/
def imageKeeps (src : Bool) (off : Nat) : Bool :=
  off == GCTL_PCIE_STATUS || off == GCTL_BAR2_SIZE || off == MEM_STATUS || off == MEM_SPARE_MAP || off == MEM_RETIRE_STATUS
    || off == MEM_MIGRATE || off == PWR_PLL_STATUS || off == MEM_TEMP || decide (MEM_PC_STAT 0 ≤ off ∧ off < MEM_PC_TRAIN 64)
    || (src && (off == CSU_PUSH_ADDR_LO || off == CSU_PUSH_ADDR_HI || off == CSU_PUSH_LEN))

/-- The IMAGE reset takes effect: the boot runs from the image load. -/
def State.imageReset (s : State) (src : Bool) (trigger : Nat) : State :=
  let host := (s.regionBase 0, s.regionSize 0)
  let inHost (a : Nat) : Bool := !s.on CSU_STATUS_IMAGE_VALID || decide (host.1 ≤ a ∧ a < host.1 + host.2)
  let r0 := s.keepRegs s.blank (imageKeeps src)
  let r1 : State := { r0 with
    mem := s.mem.filter (fun (e : Host.Cell) => inHost e.1), poison := s.poison.filter (fun w => inHost (16 * w)), now := s.now, hbm := s.hbm
    tmu := { Tmu.reset with time := s.tmu.time, phase := s.tmu.phase }
    evc := { Evc.reset with sent := s.evc.sent, tick := s.evc.tick, recordNo := s.evc.recordNo, raised := s.evc.raised }
    pcie := { s.pcie with resetAsked := none, calWork := none, calPresets := none, prevEyes := List.replicate 6 0
                          oldHost := if s.on CSU_STATUS_IMAGE_VALID then some host else none, resetTick := some s.evc.tick } }
  let r2 := (((r1.putB TMU_STATUS_VALID (s.on TMU_STATUS_VALID)).put GCTL_BOOT_STATUS_LAST_RESET 2).wrN GCTL_RESET_CAUSE (2 ^ trigger))
  if src then
    let r3 := (r2.putB CSU_STATUS_BOOT_SEL s.pcie.bootSel).putB GCTL_BOOT_STATUS_BOOT_SEL s.pcie.bootSel
    ((r3.putB CSU_STATUS_OPEN r3.partOpen).startCheck .resetPush).put GCTL_BOOT_STATUS_STAGE 2
  else r2.startLoad

/-- An accepted IMAGE reset takes effect once no frame is in progress and HOLD is in force (R446). -/
def State.settleReset (s : State) : State :=
  match s.pcie.resetAsked with
  | some (_, src, trigger) =>
    if !s.frameOn && (s.on SPL_STATUS_HOLD || s.csu.image.isNone) then s.imageReset src trigger else s
  | none => s

/-- A FUNCTION reset of the same tick gives way to a wider one: the configuration space, which the wider reset keeps, is
as before it, and source 0 is not raised (R447). -/
def State.undoFunction (s : State) : State :=
  match s.pcie.fnSaved with
  | some (t, n, en, mask, d3) =>
    if t = s.evc.tick then
      let s1 := s.put ⟨GCTL_BAR2_SIZE, 5, 0⟩ n
      { s1 with pcie := { s1.pcie with msixEn := en, funcMask := mask, d3 := d3, fnSaved := none }
                evc := { s1.evc with raised := s1.evc.raised.filter (fun r => r.source != 0) } }
    else s
  | none => s

/-- An IMAGE reset is accepted; a FULL reset of the same tick absorbs it, and it absorbs a FUNCTION reset (R447). -/
def State.askImageReset (s : State) (src : Bool) (trigger : Nat) : State :=
  if s.pcie.resetTick = some s.evc.tick ∨ s.pcie.resetAsked.isSome then s
  else
    let s1 := (s.undoFunction).interruptReload
    (State.askHold { s1 with pcie := { s1.pcie with resetAsked := some (2, src, trigger) } } (s.bits SPL_HOLD 15 8)).settleReset

/-- A GCTL_RESET write without KEY is discarded (R447). -/
def resetKeyOk (val : Word) : Bool := GCTL_RESET_KEY.ext val == 0x5253

/-- A recorded access to an undefined offset (R443). -/
def State.accessFault (s : State) (kind off src : Nat) : State :=
  ((s.wrN GCTL_ACCESS_FAULT (off % 2 ^ 26 + 2 ^ 28 * kind)).count GCTL_ACCESS_FAULT_CNT).raise src 0

/-- GCTL_RESET with kind FULL. -/
def gctlResetFull (val : Word) (s : State) : State :=
  if resetKeyOk val then s.fullReset 2 else s.accessFault 1 GCTL_RESET 2

/-- GCTL_RESET with kind IMAGE. -/
def gctlResetImage (val : Word) (s : State) : State :=
  if resetKeyOk val then s.askImageReset (GCTL_RESET_SRC.ext val == 1) 2 else s.accessFault 1 GCTL_RESET 2

/-- A reset that a TRESET brings (R434, R446). -/
def State.treeKind (s : State) (kind : Nat) : State :=
  if kind = 1 then s.fullReset 3 else if kind = 2 then s.askImageReset false 3 else s

/-! ## FUNCTION (R448) -/

/-- The host rings stop and the host transmit queues are discarded. -/
def State.resetNetHost (s : State) : State :=
  let s1 := (List.range 16).foldl (fun st r => (st.put ⟨NET_HRX_CFG r, 0, 0⟩ 0).put ⟨NET_HTX_CFG r, 0, 0⟩ 0) s
  let host (f : OutFrame) : Bool := match s.ctxIn s.net.flowsOn f.ctx with | some c => c.kind == 6 | none => false
  { s1 with net := { s1.net with queues := s1.net.queues.map (fun (q : Queue) => { q with frames := q.frames.filter (fun f => !host f) }) } }

/-- FILLING buffers of host streams are abandoned. -/
def State.resetStreams (s : State) : State :=
  (List.range 8).foldl (fun st i =>
    if st.get (CMP_STK_CFG_SOURCE i) = 0 then
      (match st.bufIn i 1 with | some b => (st.freeBuf i b).setStream i (fun k => { k with marking := none, marked := false, rxHeld := [] }) | none => st).put (CMP_STK_STATE_BUSY i) 0
    else st) s

/-- Records waiting for the ring go to the early queue. -/
def State.resetRing (s : State) : State :=
  let s1 := ((s.wr EVC_CTRL 0).wr EVC_RING_WR 0).wr EVC_RING_RD 0
  let s2 := { s1 with evc := { s1.evc with waiting := [], masked := [], deferred := [] } }
  s.evc.waiting.foldl State.placeRecord ((List.range 8).foldl (fun st i => st.wr (MSIX_PBA i) 0) s2)

/-- What a FUNCTION reset returns to reset: the BAR2 size, the ring and the host's network state, MSI-X, the host's streams and
decoder contexts, and the jobs of BCE, CKU and DCO (R448). -/
def State.functionState (s : State) : State :=
  let s1 := ((s.wrN GCTL_BAR2_SIZE 36).resetRing).resetNetHost
  let s2 := { s1 with pcie := { s1.pcie with msixEn := false, funcMask := false, d3 := false } }
  let s3 := (List.range 1024).foldl (fun st i => st.wr (MSIX_TABLE i) (resetWord (MSIX_TABLE i))) s2
  let s4 := (s3.resetStreams)
  let s5 := (List.range 64).foldl (fun st x =>
    if st.on (VDEC_CTX_CFG_SRC x) || !st.on (VDEC_CTX_CFG_EN x) then st else vdecCtxDisable x (st.rd (VDEC_CTX_CFG x) &&& 0xFFFFFFFE) st) s4
  let s6 := dcoAbort (bceAbort s5)
  if s6.sup.cku.isSome then State.put { s6 with sup := { s6.sup with cku := none } } CKU_JOB_STATUS_STATE 0 else s6

/-- FLR, PERST_N, hot reset or link down; absorbed by a wider reset of its tick or one that waits (R447, R448). -/
def functionReset (linkLost : Bool) (s : State) : State :=
  if s.pwrState = 6 ∨ s.pwrState = 5 ∨ s.pcie.resetAsked.isSome ∨ s.pcie.resetTick = some s.evc.tick then s
  else
    let s1 := if linkLost then (s.functionState.wrN GCTL_PCIE_STATUS 0).raise 9 0 else s.functionState
    let s2 := (s1.put GCTL_BOOT_STATUS_LAST_RESET 3).raise 0 3
    { s2 with pcie := { s2.pcie with
        fnSaved := some (s.evc.tick, s.bits GCTL_BAR2_SIZE 5 0, s.pcie.msixEn, s.pcie.funcMask, s.pcie.d3) } }

/-- Contents that DEEP_SLEEP, a stop or a loss of the rails destroys: everything outside AON.  PWR and its units, the
held events, the fuses and the boot pin stay. -/
def State.dropCore (s : State) : State :=
  let r := s.keepRegs s.blank (fun off => decide (0x400000 * (PWR_STATE / 0x400000) ≤ off ∧ off < 0x400000 * (PWR_STATE / 0x400000) + 0x400000))
  { r with
    now := s.now, pwr := s.pwr, hbm := { Hbm.reset with hot := s.hbm.hot }
    evc := { Evc.reset with sent := s.evc.sent, tick := s.evc.tick, raised := s.evc.raised, recordNo := s.evc.recordNo, held := s.evc.held }
    pcie := { Pcie.reset with bootSel := s.pcie.bootSel, lateRaised := true } }

/-- The boot that leaves DEEP_SLEEP or STOPPED: from the image load, with source 71, and 102 after a stop (R314, R400,
R411). -/
def State.wakeBoot (s : State) (stopped : Bool) : State :=
  let s1 := ((s.put ⟨PWR_STATE, 2, 0⟩ 0).pllsLocked).raise 71 0
  let s2 := { s1 with pwr := { s1.pwr with stopBoot := stopped, coolSince := none, pinAsked := false } }
  if s.pwr.pinAsked then (State.raiseIf ((s2.fullState 1).pllsLocked.startLoad) stopped 102 0).raise 71 0
  else (s2.raiseIf stopped 102 0).startLoad

/-! ## Pins and rails (R446, R449, R462 to R464) -/

def State.setRails (s : State) (f : Rails → Rails) : State := { s with pwr := { s.pwr with rails := f s.pwr.rails } }

/-- RESET_N low for 1 µs: a FULL reset; in STOPPED and DEEP_SLEEP the boot waits for the rails (R411, R447). -/
def resetPin (s : State) : State :=
  if !s.pwr.rails.powerGood || s.pwr.rails.waiting then s
  else if s.pwrState = 6 then { s with pwr := { s.pwr with pinAsked := true } }
  else if s.pwrState = 5 then
    State.setRails { s with pwr := { s.pwr with pinAsked := true } } (fun r => { r with enHbm := true, enSds := true, waiting := true })
  else s.fullReset 1

/-- PWR_GOOD rises: a FULL reset at stage FUSES (R446, R449). -/
def powerGoodRise (bootSel : Bool) (s : State) : State :=
  if !s.pwr.rails.aonGood || !s.pwr.rails.enHbm || !s.pwr.rails.enSds then s
  else
    let r := State.fullState { s with pcie := { s.pcie with bootSel := bootSel } } 0
    (r.setRails (fun r => { r with powerGood := true, pgHbm := true, pgSds := true, waiting := false })).wrN PWR_PLL_STATUS 1

/-- PWR_GOOD falls: the fast domains stop and both enables go low (R464). -/
def powerGoodFall (s : State) : State :=
  if s.pwr.rails.powerGood then
    ((s.dropCore).put ⟨PWR_STATE, 2, 0⟩ 0).setRails (fun r => { r with
      powerGood := false, enHbm := false, enSds := false, pgHbm := false, pgSds := false, waiting := false, fallAt := s.now })
  else s

/-- PG_HBM or PG_SDS falls while its enable is high: as a fall of PWR_GOOD, and both enables go high again later. -/
def railPgFall (sds : Bool) (s : State) : State :=
  let r := s.pwr.rails
  if s.pwrState = 5 ∨ (if sds then !r.enSds || !r.pgSds else !r.enHbm || !r.pgHbm) then s
  else
    ((s.dropCore).put ⟨PWR_STATE, 2, 0⟩ 0).setRails (fun r => { r with
      enHbm := false, enSds := false, pgHbm := false, pgSds := false, waiting := true, fallAt := s.now })

/-- After 10 ms low both enables are driven high again. -/
def railReenable (s : State) : State :=
  let r := s.pwr.rails
  if r.waiting && !r.enHbm && decide (r.fallAt + 20000000 < s.now + s.tickHalfNs) then
    s.setRails (fun r => { r with enHbm := true, enSds := true })
  else s

/-- Both power-good inputs are high after their enables: a waiting boot runs (R400, R464). -/
def pgHbmPgSdsRise (s : State) : State :=
  let r := s.pwr.rails
  if !r.enHbm || !r.enSds then s
  else
    let s1 := s.setRails (fun r => { r with pgHbm := true, pgSds := true, waiting := false })
    if !r.waiting then s1
    else if s.pwrState = 5 then s1.wakeBoot false
    else (s1.fullState 0).wrN PWR_PLL_STATUS 1

/-- 100 µs after VDD_AON and VDD_IO are in range both enables go high (R463). -/
def powerEnableOutputs (s : State) : State :=
  if s.pwr.rails.powerGood || s.pwrState == 5 || s.pwrState == 6 then s
  else s.setRails (fun r => { r with aonGood := true, enHbm := true, enSds := true })

/-- VDD_AON or VDD_IO falls below its minimum: both enables are low, and everything but the fuses is lost (R462). -/
def vddAonBelowMinimum (s : State) : State :=
  (s.blank).setRails (fun _ => { Rails.reset with aonGood := false, enHbm := false, enSds := false, pgHbm := false, pgSds := false, powerGood := false })

/-! ## Boot stages (R411, R449 to R451) -/

/-- The FUSES stage ends with every PLL locked: the image load begins. -/
def fusesDone (s : State) : State :=
  if s.get GCTL_BOOT_STATUS_STAGE = 0 ∧ s.pwrState = 0 ∧ !bitAt (s.rdN PWR_PLL_STATUS) 31 ∧ !s.pwr.rails.waiting then (s.pllsLocked).startLoad else s

/-- The device sets SPL_CTRL.EN and starts LINK, and the calibration run of a power-up is due (R273, R449). -/
def State.startLink (s : State) : State := ((splEnable s).put GCTL_BOOT_STATUS_STAGE 4).triggerRun

/-- APPLY ends: LINK begins, unless a boot after a thermal stop waits for ACK (R411). -/
def applyDone (s : State) : State :=
  if s.get GCTL_BOOT_STATUS_STAGE ≠ 3 ∨ s.on PWR_KETTLE_STATUS_RESUME_HELD then s
  else if s.pwr.stopBoot && polResumeAck s.polSec == 1 then (s.put PWR_KETTLE_STATUS_RESUME_HELD 1).raise 107 0
  else s.startLink

/-- DONE is not reached 1.8 s after power-good: source 12, once (R451). -/
def bootLate (s : State) : State :=
  if s.pcie.lateRaised || s.get GCTL_BOOT_STATUS_STAGE == 6 || decide (s.now + s.tickHalfNs ≤ 3600000000) then s
  else State.raise { s with pcie := { s.pcie with lateRaised := true } } 12 (s.get GCTL_BOOT_STATUS_STAGE)

/-- The PCIe link trains (R440): speed code and lanes; source 9 below 32 GT/s ×8. -/
def pcieLinkTrained (speed width : Nat) (s : State) : State :=
  let s1 := s.wrN GCTL_PCIE_STATUS (speed % 8 + 2 ^ 4 * (width % 16) + 2 ^ 8)
  State.raiseIf { s1 with pcie := { s1.pcie with linkSeen := true } } (decide (speed % 8 < 5 ∨ width % 16 < 8)) 9 0

end Sys2Proof.Machine
end

