-- ==== Sys2Proof/Machine/Power.lean ====
section
/-!
DEFINITION. Power states and the Kettle (R397 to R411).
-/

namespace Sys2Proof.Machine

/-! ## Entry to sleep (R398, R399) -/

/-- A reload, a migration, or a support engine's job is running (R398 BUSY). -/
def State.powerBusy (s : State) : Bool :=
  let r := s.get CSU_RELOAD_STATUS_STATE
  decide (1 ≤ r ∧ r ≤ 4) || s.hbm.mig.isSome || s.get BCE_STATUS_STATE == 1 || s.sup.cku.isSome || s.sup.dco.isSome

/-- The REFUSE code of a sleep command, if it is refused. -/
def State.sleepRefusal (s : State) (deep force : Bool) : Option Nat :=
  if s.pwrState ≠ 1 then some 1
  else if s.powerBusy then some 2
  else if deep && !force && s.on CAL_MAP_STATUS_VALID && !s.on CAL_MAP_STATUS_FROZEN then some 3
  else none

/-- A sleep command: refused with its code, or entry begins and the partner follows (R398, R399, R430). -/
def State.sleepCmd (s : State) (deep force : Bool) : State :=
  match s.sleepRefusal deep force with
  | some c => (s.put ⟨PWR_STATE, 15, 8⟩ c).raise 98 0
  | none =>
    let s1 := (s.wrN PWR_STATE 2).askHold 1
    let s2 := { s1 with pwr := { s1.pwr with deep := deep, entryStart := s.now, slept := false, woken := false } }
    if !deep then s2.toPartner (.power 1) else if s.on EHL_CFG_PAIR_DEEP then s2.toPartner (.power 2) else s2

/-- PWR_CMD SLEEP. -/
def sleepCmd (s : State) : State := s.sleepCmd false false

/-- PWR_CMD DEEP_SLEEP. -/
def deepSleepCmd (force : Bool) (s : State) : State := s.sleepCmd true force

/-- What entry waits for has ended: no frame, HOLD in force, no pass, no build, idle codec cores (R399). -/
def State.entryReady (s : State) : Bool :=
  !s.frameOn && s.on SPL_STATUS_HOLD && s.cal.pass.isNone && s.cam.build.isNone && s.cam.registering.isNone
    && s.codec.cores.all Option.isNone && s.codec.coresE.all Option.isNone

/-- Every gate closes; each change raises 105 (R399, R404). -/
def State.closeGates (s : State) : State :=
  let s1 := (List.range 4).foldl (fun st c => if st.gateOpen c then (st.putBit PWR_CH_GATE_STATUS c false).raise 105 0 else st) s
  (List.range 128).foldl (fun st g => st.setEngState g esOffline) { s1 with pwr := { s1.pwr with gateClosing := 0 } }

/-- PLLs that stop in SLEEP: engine, fabric, memory and SPL (R399). -/
abbrev sleepPlls : Nat := 2 ^ 1 + 2 ^ 2 + 2 ^ 3 + 2 ^ 4 + 2 ^ 6 + 2 ^ 7 + 2 ^ 8 + 2 ^ 9 + 2 ^ 10 + 2 ^ 11

/-- The local stores of the engines and the plane caches lose their contents with CORE (R18). -/
def State.loseStores (s : State) : State :=
  { s with engines := s.engines.map (fun e => { e with ls := [], valid := false, dirty := false })
           chans := s.chans.map (fun c => { c with cache := [] }) }

/-- Entry finishes: SLEEP with source 96, or DEEP_SLEEP, which loses everything outside AON (R399). -/
def State.finishEntry (s : State) : State :=
    let s1 := (s.drainAll).discardEgress
    let s2 := (s1.closeGates).put MEM_STATUS_SELF_REFRESH 3
    let s3 := (s2.wrN PWR_PLL_STATUS (s2.rdN PWR_PLL_STATUS &&& (2 ^ 32 - 1 - sleepPlls))).wrN PWR_ENTRY_TIME (s.usSince s.pwr.entryStart % 2 ^ 24)
    if s.pwr.deep then
      (((s3.dropCore).put ⟨PWR_STATE, 2, 0⟩ 5).wrN PWR_PLL_STATUS 1).setRails (fun r => { r with
        enHbm := false, enSds := false, pgHbm := false, pgSds := false, fallAt := s.now })
    else
      let s4 := ((s3.loseStores).put ⟨PWR_STATE, 2, 0⟩ 3).raise 96 0
      { s4 with cal := { s4.cal with heldLevel := some s.spl.holdLevel }, pwr := { s4.pwr with pllRetry := 0 } }

/-- PWR_CMD WAKE alone has stopped the entry, in this very tick (R403). -/
def State.wokenThisTick (s : State) : Bool :=
  s.pwrState == 4 && !s.pwr.slept && !s.pwr.woken && s.pwr.wakeStart == s.now && s.rdN PWR_WAKE_CAUSE == 2 ^ wakeHost

/-- Entry finishes when nothing it waits for is left; a WAKE written in the same tick applies to the state that the entry
reaches, where DEEP_SLEEP ignores it (R399, R400, R403). -/
def sleepEntered (s : State) : State :=
  if !s.entryReady then s
  else if s.pwrState = 2 then s.finishEntry
  else if s.wokenThisTick then ((s.put ⟨PWR_STATE, 2, 0⟩ 2).finishEntry).wake wakeHost
  else s

/-! ## Waking (R400 to R403) -/

/-- PWR_CMD WAKE. -/
def wakeCmd (s : State) : State := s.wake wakeHost

/-- WAKE_N low for 1 µs: in DEEP_SLEEP both enables go high and a boot waits for the rails (R400, R464). -/
def wakePinLow (s : State) : State :=
  if s.pwrState = 5 then
    if bitAt (s.rdN PWR_WAKE_EN) wakePin && !s.pwr.rails.waiting then
      (s.wrN PWR_WAKE_CAUSE (2 ^ wakePin)).setRails (fun r => { r with enHbm := true, enSds := true, waiting := true })
    else s
  else s.wake wakePin

/-- The PLLs that SLEEP stopped are enabled 40 µs into the wake and lock by 55 µs, where the stacks leave self-refresh
(R16, R401); after a first failure they lock as after any enable. -/
def State.wakeClocks (s : State) : State :=
  if s.pwrState = 4 && s.pwr.slept && s.rdN PWR_PLL_STATUS &&& (sleepPlls + 2 ^ 31) == 0 && s.pwr.pllRetry == 0
      && decide (s.pwr.wakeStart + 110000 < s.now + s.tickHalfNs) then
    s.pllsLocked.put MEM_STATUS_SELF_REFRESH 0
  else s

/-- 66 µs into the wake: with every PLL locked, engines reload, the groups leave HOLD, the gates open as PWR_CH_GATE
requests; a stopped entry only undoes its HOLD (R401, R403). -/
def State.wakeStep (s : State) : State :=
  if s.pwrState ≠ 4 ∨ s.pwr.woken ∨ bitAt (s.rdN PWR_PLL_STATUS) 31 ∨ (s.pwr.slept && s.rdN PWR_PLL_STATUS != 0x1FFFF) = true then s
  else if s.pwr.slept && decide (s.now + s.tickHalfNs ≤ s.pwr.wakeStart + 132000) then s
  else
    let s1 := { s with pwr := { s.pwr with woken := true } }
    let s2 := if s.pwr.slept then
        (List.range 128).foldl (fun st g => if st.role (g / 32) != 0 && st.engEnabled g then st.setEngState g esReload else st)
          ((List.range 4).foldl State.openGate s1)
      else s1
    if s2.on SPL_STATUS_HOLD then (if bitAt (s2.rdN SPL_HOLD) 0 then s2 else s2.leaveHold)
    else { s2 with spl := { s2.spl with holdBy := 0 } }

/-- The engines that reload have their programs again and are PARKED (R103, R401). -/
def State.parkEngines (s : State) : State :=
  (List.range 128).foldl (fun st g =>
    if st.engState g = esReload then
      (st.setEng g (fun e => { e with ls := s.reloadCopy (g / 32), valid := true, dirty := false })).setEngState g esParked
    else st) s

/-- The wake sequence reaches ACTIVE; the data of source 97 is the cause mask, as the example of R403 shows (R401). -/
def wakeDone (s : State) : State :=
  let s1 := s.wakeStep
  if s1.pwrState = 4 && s1.pwr.woken then
    let s2 := ((s1.parkEngines).put ⟨PWR_STATE, 2, 0⟩ 1).wrN PWR_WAKE_TIME (s1.usSince s1.pwr.wakeStart % 2 ^ 24)
    State.raise { s2 with pwr := { s2.pwr with woken := false, slept := false } } 97 (s.rdN PWR_WAKE_CAUSE)
  else s

/-- A PLL has not locked 50 µs after its enable: it is enabled once more; a second failure is FATAL (R402). -/
def pllLockTimeout (pll : Nat) (s : State) : State :=
  if 17 ≤ pll ∨ ¬(s.pwrState = 0 ∨ s.pwrState = 4) then s
  else
    let s1 := s.putBit PWR_PLL_STATUS pll false
    if bitAt s.pwr.pllRetry pll then
      State.raise (State.putBit { s1 with pwr := { s1.pwr with pllFrom := s1.pwr.pllFrom.set pll none } } PWR_PLL_STATUS 31 true) 106 0
    else { s1 with pwr := { s1.pwr with pllRetry := s.pwr.pllRetry + 2 ^ pll, pllFrom := s1.pwr.pllFrom.set pll (some s.now) } }

/-- PLL `p` locks 15 µs after its enable (R16, log entry 50). -/
def State.lockPll (s : State) (p : Nat) : State :=
  match s.pwr.pllFrom.getD p none with
  | some t =>
    if t + 30000 < s.now + s.tickHalfNs then
      State.putBit { s with pwr := { s.pwr with pllFrom := s.pwr.pllFrom.set p none } } PWR_PLL_STATUS p true
    else s
  | none => s

/-! ## Gates (R404) -/

/-- A write of PWR_CH_GATE: a set bit opens the gate, a cleared one acts at the next frame start. -/
def chGateWrite (val : Word) (s : State) : State :=
  let s1 := s.wrN PWR_CH_GATE (val.toNat % 16)
  if 2 < s.pwrState then s1
  else
    let keep := (List.range 4).foldl (fun m c => if bitAt s.pwr.gateClosing c && !bitAt val.toNat c then m + 2 ^ c else m) 0
    (List.range 4).foldl State.openGate { s1 with pwr := { s1.pwr with gateClosing := keep } }

/-- PLLs lock; gates that waited for the engine PLL open once it has locked, and it stops while no gate is open
(R16, R404). -/
def State.settlePlls (s : State) : State :=
  let s1 := (List.range 17).foldl State.lockPll s
  let s2 := if s1.pllLocked pllEngine && !s.pllLocked pllEngine && s.pwrState = 1 then (List.range 4).foldl State.openGate s1 else s1
  if s2.pwrState = 1 && s2.bits PWR_CH_GATE_STATUS 3 0 == 0 then s2.putBit PWR_PLL_STATUS pllEngine false else s2

/-! ## Stops (R409 to R411) -/

/-- PWR_LAST_STOP and the loss of every domain but AON and IO. -/
def State.stopNow (s : State) (kind : Nat) (temp : Int) (site : Nat) : State :=
  let s1 := ((s.interruptReload).wrN PWR_LAST_STOP (kind + 2 ^ 8 * unsignedOf 8 temp + 2 ^ 16 * (site % 32) + 2 ^ 31)).dropCore
  let s2 := ((s1.put ⟨PWR_STATE, 2, 0⟩ 6).wrN PWR_CH_GATE_STATUS 0).wrN PWR_PLL_STATUS 1
  let s3 := s2.setRails (fun r => { r with enHbm := false, enSds := false, pgHbm := false, pgSds := false, waiting := false, fallAt := s.now })
  { s3 with pwr := { s3.pwr with stopping := none, coolSince := none, thermN := true, woken := false, slept := false, gateClosing := 0 } }

/-- The hard cut: at once, whatever the state (R410, R427). -/
def State.hardCut (s : State) (temp : Int) (site : Nat) : State := (s.handOver).stopNow 2 temp site

/-- An orderly stop: the frame ends, HOLD leaves with LEVEL 77 and the device powers down; a primary with a partner in
sync hands over instead (R409, R427). -/
def State.orderlyStop (s : State) (temp : Int) (site : Nat) : State :=
  let s := if s.pwr.stopping.isSome then s else s.interruptReload
  if s.pwr.stopping.isSome then s
  else if s.pairState == pairPrimary && s.on EHL_STATUS_IN_SYNC then (s.handOver).stopNow 1 temp site
  else if s.asleep then s.stopNow 1 temp site
  else if s.frameOn then
    State.askHold { s with pwr := { s.pwr with stopping := some (temp, site) } } 2
  else (holdEnter (s.askHold 2)).stopNow 1 temp site

/-- HOLD is in force, or no frame is in progress: a waiting orderly stop runs to its end. -/
def State.settleStop (s : State) : State :=
  match s.pwr.stopping with
  | some (t, k) => if !s.frameOn && s.on SPL_STATUS_HOLD then s.stopNow 1 t k else s
  | none => s

/-- HOLD is entered, and what waited for it goes on: an orderly stop, else an IMAGE reset (R409, R446). -/
def holdEnterThen (s : State) : State := ((holdEnter s).settleStop).settleReset

/-- 10 s below 95 °C have passed: the device boots (R411). -/
def stopWindowExpire (s : State) : State :=
  match s.pwr.coolSince with
  | some t =>
    if s.pwrState = 6 && decide (t + 20000000000 < s.now + s.tickHalfNs) then
      let s1 := s.setRails (fun r => { r with enHbm := true, enSds := true, pgHbm := true, pgSds := true })
      State.wakeBoot { s1 with pwr := { s1.pwr with thermN := s.pwr.warn || s.pwr.throttle } } true
    else s
  | none => s

/-- PWR_CMD ACK continues a boot held after a thermal stop (R411). -/
def resumeAck (s : State) : State :=
  if s.on PWR_KETTLE_STATUS_RESUME_HELD then
    State.startLink (State.put { s with pwr := { s.pwr with stopBoot := false } } PWR_KETTLE_STATUS_RESUME_HELD 0)
  else s

/-! ## The Kettle (R405 to R408) -/

/-- Reading of site n. -/
def siteOf (rs : List SiteReading) (n : Nat) : SiteReading := rs.getD n ⟨0, 0, false⟩

/-- The median of the other 23 sites. -/
def medianOther (rs : List SiteReading) (n : Nat) : Int :=
  let others := ((List.range 24).filter (fun k => k != n)).map (fun k => (siteOf rs k).temp)
  (sortBy (fun t => (t + 2 ^ 20).toNat) others).getD 11 0

/-- The site is valid (R405). -/
def siteValid (rs : List SiteReading) (n : Nat) : Bool :=
  (siteOf rs n).inRange && decide (((siteOf rs n).temp - medianOther rs n).natAbs ≤ 15)

/-- Valid sites, ascending. -/
def validSites (rs : List SiteReading) : List Nat := (List.range 24).filter (siteValid rs)

/-- The hottest valid site, the lowest-numbered of equals. -/
def hottest (rs : List SiteReading) : Option Nat :=
  (validSites rs).foldl (fun b n => match b with
    | none => some n
    | some k => if (siteOf rs k).temp < (siteOf rs n).temp then some n else some k) none

/-- The WARN and THROTTLE limits in force (R407). -/
def State.warnLimit (s : State) : Int := min (s.bits PWR_KETTLE_LIM 7 0) 100
def State.throttleLimit (s : State) : Int := min (s.bits PWR_KETTLE_LIM 15 8) 105

/-- A sample of all sites starts (R406). -/
def kettleSample (s : State) : State := { s with pwr := { s.pwr with sampling := true } }

/-- The readings in the registers: sample count, each site, the valid set with 103 on a change. -/
def State.showSites (s : State) (rs : List SiteReading) : State :=
  let s1 := (List.range 24).foldl (fun st n =>
    let r := siteOf rs n
    st.wrN (PWR_TEMP n) (unsignedOf 8 r.temp + 2 ^ 8 * bit (siteValid rs n) + 2 ^ 16 * (r.raw % 65536))) (s.count PWR_SAMPLE_CNT)
  let mask := (validSites rs).foldl (fun m n => m + 2 ^ n) 0
  (s1.wrN PWR_SITE_VALID mask).raiseIf (mask != s.bits PWR_SITE_VALID 23 0) 103 0

/-- Stack temperatures: MEM_TEMP, or the sites beside the stacks while the HBM rails are off (R405). -/
def State.kettleStack (s : State) (rs : List SiteReading) (tmax : Int) (k : Nat) : Int :=
  if s.pwrState = 5 ∨ s.pwrState = 6 then (if siteValid rs (22 + k) then (siteOf rs (22 + k)).temp else tmax)
  else signedOf 8 (s.bits MEM_TEMP (8 * k + 7) (8 * k))

/-- Entering and leaving WARN and THROTTLE (R407, R408). -/
def State.judgeZones (s : State) (tmax stack : Int) : State :=
  let wl := s.warnLimit
  let tl := s.throttleLimit
  let warn := decide (wl ≤ tmax) || (s.pwr.warn && decide (wl - 3 < tmax))
  let thr := decide (tl ≤ tmax ∨ 95 ≤ stack) || (s.pwr.throttle && decide (tl - 3 < tmax ∨ 92 < stack))
  let s1 := if warn && !s.pwr.warn then (s.raise 99 0).wake wakeKettle else s.raiseIf (s.pwr.warn && !warn) 104 0
  let s2 := if thr && !s.pwr.throttle then
      let n := min 5 (s1.get PWR_KETTLE_STATUS_STAGE + 1)
      (s1.put PWR_KETTLE_STATUS_STAGE n).raiseIf (n != s1.get PWR_KETTLE_STATUS_STAGE) 100 0
    else s1
  let s3 := s2.put PWR_KETTLE_STATUS_ZONE (if thr then 2 else if warn then 1 else 0)
  { s3 with pwr := { s3.pwr with
      warn := warn, throttle := thr, stageAt := if thr = s.pwr.throttle then s.pwr.stageAt else s.now
      thermN := warn || thr || s.pwrState == 6 } }

/-- A temperature change starts a calibration run (R273). -/
def State.kettleCal (s : State) (tmax : Int) : State :=
  if s.pwrState = 1 && s.get GCTL_BOOT_STATUS_STAGE == 6
      && decide (max 1 (s.bits CAL_DELTA_T 4 0) < (tmax - signedOf 8 (s.get CAL_RUN_STATUS_TEMP)).natAbs) then s.triggerRun
  else s

/-- What a completed sample does to the device: a hard cut, an orderly stop, the window of a stopped device, or a
calibration run (R407, R409 to R411). -/
def State.kettleActs (s : State) (valid : Nat) (tmax : Int) (site : Nat) (t0 t1 : Int) : State :=
  let stack := max t0 t1
  if s.pwrState = 6 then
    if tmax < 95 ∧ stack < 95 then { s with pwr := { s.pwr with coolSince := s.pwr.coolSince.orElse (fun _ => some s.now) } }
    else { s with pwr := { s.pwr with coolSince := none } }
  else if 125 ≤ tmax then s.hardCut tmax site
  else if 115 ≤ tmax ∨ valid < 8 then s.orderlyStop tmax site
  else if 105 ≤ stack then s.orderlyStop stack (if 105 ≤ t0 then 24 else 25)
  else s.kettleCal tmax

/-- A sample completes 10 µs after it starts (R405 to R407); with no valid site TMAX is a free value. -/
def kettleSampleDone (readings : List SiteReading) (s : State) : State :=
  if !s.pwr.sampling then s
  else
    let s0 := State.showSites { s with pwr := { s.pwr with sampling := false } } readings
    let n := (validSites readings).length
    let free := (hottest readings).isNone
    let s1 := if free then s0.freeNext else s0
    let base : Int := match hottest readings with | some k => (siteOf readings k).temp | none => signedOf 8 s0.freeVal.toNat
    let site := match hottest readings with | some k => k | none => s0.freeVal.toNat / 256 % 24
    let tmax := if n < 20 && !free then base + 5 else base
    let t0 := s1.kettleStack readings tmax 0
    let t1 := s1.kettleStack readings tmax 1
    let fast := !(s1.asleep) && decide (s1.warnLimit - 5 ≤ tmax ∨ 90 ≤ max t0 t1)
    let s2 := (((s1.put PWR_KETTLE_STATUS_TMAX (unsignedOf 8 tmax)).put PWR_KETTLE_STATUS_SITE site).putB PWR_KETTLE_STATUS_DEGRADED
      (decide (n < 20))).putB PWR_KETTLE_STATUS_FAST fast
    (s2.judgeZones tmax (max t0 t1)).kettleActs n tmax site t0 t1

/-- STEP_MS of the throttle in half-ns. -/
def State.stepHalfNs (s : State) : Nat := 2000000 * clampNat 10 1000 (s.bits PWR_THROTTLE 15 0)

/-- The stage rises every STEP_MS in THROTTLE, and falls every 10 × STEP_MS after it (R408). -/
def throttleStep (s : State) : State :=
  let st := s.get PWR_KETTLE_STATUS_STAGE
  let set_ (n : Nat) : State := (State.put { s with pwr := { s.pwr with stageAt := s.now } } PWR_KETTLE_STATUS_STAGE n).raise 100 0
  if s.pwr.throttle then
    if st < 5 ∧ s.pwr.stageAt + s.stepHalfNs < s.now + s.tickHalfNs then set_ (st + 1) else s
  else if 0 < st ∧ s.pwr.stageAt + 10 * s.stepHalfNs < s.now + s.tickHalfNs then set_ (st - 1) else s

end Sys2Proof.Machine
end

