-- ==== Sys2Proof/Machine/RegisterWrite.lean ====
section
/-!
DEFINITION. What a write of a BAR0 register does, offset by offset (R5, R20): the action of the register where it has
one, else the plain write by access code.  A host write comes here once nothing refuses it; a REGW message of the
primary comes here on the secondary.
-/

namespace Sys2Proof.Machine

/-- The index of `off` among `count` offsets from `base` on, `stride` apart. -/
def atIdx (base stride count off : Nat) : Option Nat := if offsetIn off base stride count then some ((off - base) / stride) else none

/-! ## Global control, CSU, events, time, power -/

/-- A write of GCTL_RESET: KEY first, then the kind (R447). -/
def State.writeReset (s : State) (val : Word) : State :=
  if !resetKeyOk val then s.accessFault 1 GCTL_RESET 2
  else if GCTL_RESET_KIND.ext val = 1 then gctlResetFull val s
  else if GCTL_RESET_KIND.ext val = 2 then gctlResetImage val s
  else s

/-- A write of an MSI-X table word; clearing a vector's mask sends what waits (R394, R442). -/
def State.writeMsix (s : State) (i : Nat) (val : Word) : State :=
  let s1 := s.wr (MSIX_TABLE i) val
  if i % 4 = 3 && !bitAt val.toNat 0 then s1.sendPending else s1

def State.writeGctl (s : State) (off : Nat) (val : Word) : State :=
  if off = GCTL_RESET then s.writeReset val
  else if off = GCTL_CALREC_CMD then
    (match val.toNat % 4 with | 1 => calrecSave s | 2 => calrecRestore s | _ => s)
  else match atIdx (MSIX_TABLE 0) 4 1024 off with
    | some i => s.writeMsix i val
    | none => s.plainWrite off val

def State.writeCsu (s : State) (off : Nat) (val : Word) : State :=
  if off = CSU_CMD then
    (match CSU_CMD_OP.ext val with | 1 => csuLoad s | 2 => csuVerify s | 3 => csuReload s | 4 => csuCancel s | _ => s)
  else if off = CSU_KEY_CMD then
    (match CSU_KEY_CMD_OP.ext val with
     | 1 => keyProgram (CSU_KEY_CMD_SLOT.ext val) s | 2 => keyRevoke (CSU_KEY_CMD_SLOT.ext val) s | _ => s)
  else if off = CSU_ROLLBACK_CMD then rollbackProgram (val.toNat % 128) s
  else match atIdx (CSU_KEY_HASH 0) 4 12 off with
    | some i => s.wr (CSU_KEY_HASH i) val
    | none => s.plainWrite off val

/-- Enable bits of the FATAL sources read 1 (R393). -/
def fatalBits (g : Nat) : Nat := if g = 1 then 2 ^ 2 else if g = 3 then 2 ^ 10 else if g = 20 then 2 ^ 8 else 0

def State.writeEvc (s : State) (off : Nat) (val : Word) : State :=
  if off = EVC_CTRL then ringEnable val s
  else if off = EVC_TICK then tickDivWrite val s
  else if off = EVC_EARLY_POP then (if bitAt val.toNat 0 then earlyPop s else s)
  else if off = EVC_SW_RAISE then swRaise val s
  else match atIdx (EVC_ENABLE 0) 4 32 off with
    | some g => s.wrN off (val.toNat ||| fatalBits g)
    | none => s.plainWrite off val

def State.writeTmu (s : State) (off : Nat) (val : Word) : State :=
  if off = TMU_INCR_FRAC then incrWrite val s
  else if off = TMU_CMD then
    (match val.toNat % 4 with | 1 => timeStep (bitAt val.toNat 2) s | 2 => timeSet (bitAt val.toNat 2) s | _ => s)
  else match atIdx (TMU_TRIG_NS 0) 4 32 off with
    | some k => if k % 4 = 3 then triggerArm (k / 4) val s else triggerTargetWrite (k / 4) (k % 4) val s
    | none => s.plainWrite off val

def State.writePwr (s : State) (off : Nat) (val : Word) : State :=
  if off = PWR_CMD then
    let s1 := if PWR_CMD_ACK.ext val = 1 then resumeAck s else s
    (match PWR_CMD_OP.ext val with | 1 => Machine.sleepCmd s1 | 2 => deepSleepCmd (PWR_CMD_FORCE.ext val == 1) s1 | 3 => wakeCmd s1 | _ => s1)
  else if off = PWR_CH_GATE then chGateWrite val s
  else s.plainWrite off val

/-! ## Channels -/

def State.writeCh (s : State) (off : Nat) (val : Word) : State :=
  let c := (off - CH_VERSION 0) / 0x400000
  if off = CH_ENG_ENABLE c then engEnableWrite c val s
  else if off = CH_DBG_DATA c then dbgDataAccess c true val .clean s
  else s.plainWrite off val

/-! ## Composer -/

/-- A write of CMP_CPOOL_BASE or CMP_CPOOL_SIZE: RWL bits, then the checks of R67. -/
def cpoolHost (isSize : Bool) (val : Word) (s : State) : State :=
  let off := if isSize then CMP_CPOOL_SIZE else CMP_CPOOL_BASE
  let old := s.rdN off
  let mask := 2 ^ 21 - 1
  let free := mask &&& s.unlocked off
  let s1 := if free = 0 then s else (cpoolWrite isSize (BitVec.ofNat 32 (old ^^^ ((old ^^^ val.toNat) &&& free))) s).showPool
  if (old ^^^ val.toNat) &&& (mask ^^^ free) ≠ 0 then s1.lockFault off else s1

/-- A write of CMP_STK_CFG: its RWL fields, and ENABLE. -/
def State.writeStkCfg (s : State) (i : Nat) (val : Word) : State :=
  let s1 := s.lockedWrite (CMP_STK_CFG i) val
  if bitAt val.toNat 0 then stkEnable i s1 else stkDisable i s1

/-- A write of CMP_STK_CMD. -/
def State.writeStkCmd (s : State) (i : Nat) (val : Word) : State :=
  match (CMP_STK_CMD_OP i).ext val with
  | 1 => stkAcquire i s
  | 2 => stkRegister i ((CMP_STK_CMD_BUF i).ext val) s
  | 3 => stkAbandon i ((CMP_STK_CMD_BUF i).ext val) s
  | _ => s

/-- A write of CMP_CAM_CFG. -/
def State.writeCamCfg (s : State) (val : Word) : State :=
  let s1 := s.wrN CMP_CAM_CFG ((val.toNat &&& 0xFF2) + (s.rdN CMP_CAM_CFG &&& 1))
  if !bitAt val.toNat 0 then s1.put CMP_CAM_CFG_ENABLE 0
  else if s.on CMP_CAM_CFG_ENABLE then s1 else camEnable s1

def State.writeStk (s : State) (off : Nat) (val : Word) : State :=
  match atIdx (CMP_STK_CFG 0) 0x40 8 off with
  | some i => s.writeStkCfg i val
  | none => match atIdx (CMP_STK_CMD 0) 0x40 8 off with
    | some i => s.writeStkCmd i val
    | none => s.plainWrite off val

def State.writeCmp (s : State) (off : Nat) (val : Word) : State :=
  if off = CMP_LID then (if CMP_LID_CLASS.ext val = 1 then lidOffscreen val s else lidCommit val s)
  else if off = CMP_LYR_FENCE then layerFence val s
  else if off = CMP_WB_HELD then wbHeldClear val s
  else if off = CMP_CPOOL_BASE then cpoolHost false val s
  else if off = CMP_CPOOL_SIZE then cpoolHost true val s
  else if off = CMP_SYN_EYE_SEQ then eyeSetCommit val s
  else if off = CMP_CAM_CFG then s.writeCamCfg val
  else if off = CMP_CAM_RIG_SEL then rigSelect val s
  else if off = CMP_CAM_CMD then (if bitAt val.toNat 0 then camRestart s else s)
  else s.writeStk off val

/-! ## Panel link, auxiliary output, calibration -/

/-- A write of SPL_G_CMD. -/
def State.writeGroupCmd (s : State) (g : Nat) (val : Word) : State :=
  match val.toNat % 4 with
  | 1 => splGBringup g s
  | 2 => splGRetrain g s
  | 3 => splGDisable g s
  | _ => s

def State.writeSpl (s : State) (off : Nat) (val : Word) : State :=
  if off = SPL_CTRL then
    let s1 := (s.lockedBits SPL_CTRL 0x3F00 val).stopGroups
    if bitAt val.toNat 0 then splEnable s1 else s1.put SPL_CTRL_EN 0
  else if off = SPL_HOLD then holdRequest val s
  else if off = SPL_RESTORE then splRestore val s
  else match atIdx (SPL_G_CMD 0) 0x40 6 off with
    | some g => s.writeGroupCmd g val
    | none => match atIdx (SPL_G_LPBK 0) 0x40 6 off with
      | some g => splLoopbackSelect g val.toNat s
      | none => s.plainWrite off val

def State.writeAux (s : State) (off : Nat) (val : Word) : State :=
  if off = AUX_CMD then (if bitAt val.toNat 0 then auxTrain s else s)
  else if off = AUX_CH_CMD then auxChTransaction val s
  else s.plainWrite off val

/-- A write of CAL_MAP_CTRL: FREEZE, and OPEN while FROZEN (R270). -/
def State.writeMapCtrl (s : State) (val : Word) : State :=
  let s1 := if bitAt val.toNat 0 then mapFreeze s else mapUnfreeze s
  if bitAt val.toNat 1 then mapOpen s1 else s1.put CAL_MAP_CTRL_OPEN 0

def State.writeCal (s : State) (off : Nat) (val : Word) : State :=
  if off = CAL_MAP_CTRL then s.writeMapCtrl val
  else if off = CAL_MAP_CMD then (match val.toNat % 4 with | 1 => mapRestored s | 2 => mapFresh s | _ => s)
  else if off = CAL_CMD then (if bitAt val.toNat 0 then calRunAll s else s)
  else if off = CAL_ALS_VALUE then (if s.on CAL_BRIGHT_CFG_ALS_SRC then s else s.plainWrite off val)
  else match atIdx (CAL_TILE_TEMP 0) 4 48 off with
    | some t => tileTempWrite t val s
    | none => s.plainWrite off val

/-! ## Codec -/

/-- A write of VDEC_CTX_CFG: the SRC bit by its lock, then EN. -/
def State.writeDecCfg (s : State) (x : Nat) (val : Word) : State :=
  let s1 := s.lockedBits (VDEC_CTX_CFG x) 8 val
  if bitAt val.toNat 0 then vdecCtxEnable x val s1 else vdecCtxDisable x val s1

/-- Registers of a decoder context: by their offset within it; ring, size and reference registers of an enabled
context keep their value (R304). -/
def State.writeDecCtx (s : State) (x : Nat) (off : Nat) (val : Word) : State :=
  if off = VDEC_CTX_CFG x then s.writeDecCfg x val
  else if off = VDEC_CTX_PUT x then vdecPut x val s
  else if off = VDEC_CTX_CMD x then (match val.toNat % 4 with | 1 => vdecFlush x s | 2 => vdecReset x s | _ => s)
  else if s.on (VDEC_CTX_CFG_EN x) && (off == VDEC_CTX_MAXSIZE x || off == VDEC_CTX_REF_BASE x || off == VDEC_CTX_REF_PAGES x
      || off == VDEC_CTX_RING_BASE x || off == VDEC_CTX_RING_CFG x) then s.decRefuse x
  else s.plainWrite off val

def State.writeVdec (s : State) (off : Nat) (val : Word) : State :=
  if VDEC_CTX_CFG 0 ≤ off ∧ off < VDEC_CTX_CFG 64 then s.writeDecCtx ((off - VDEC_CTX_CFG 0) / 0x40) off val
  else s.plainWrite off val

/-- Registers of an encoder context; those of R301's checks keep their value while EN is 1 (R304). -/
def State.writeEncCtx (s : State) (e : Nat) (off : Nat) (val : Word) : State :=
  if off = VENC_CTX_CFG e then (if bitAt val.toNat 0 then vencCtxEnable e val s else s.encDisable e val)
  else if off = VENC_CTX_IN_PUT e then vencInPut e val s
  else if s.on (VENC_CTX_CFG_EN e) then
    if [VENC_CTX_SIZE e, VENC_CTX_PERIOD_NS e, VENC_CTX_BITRATE e, VENC_CTX_CPB e, VENC_CTX_IN_BASE e, VENC_CTX_IN_CFG e,
        VENC_CTX_OUT_BASE e, VENC_CTX_OUT_CFG e, VENC_CTX_REF_BASE e, VENC_CTX_REF_PAGES e].contains off then s.encRefuse e eeConfig
    else
      let s1 := s.plainWrite off val
      if (off == VENC_CTX_CROP_XY e || off == VENC_CTX_CROP_WH e) && s1.rdN off != s.rdN off then s1.setEnc e (fun k => { k with remake := true })
      else s1
  else s.plainWrite off val

def State.writeVenc (s : State) (off : Nat) (val : Word) : State :=
  if VENC_CTX_CFG 0 ≤ off ∧ off < VENC_CTX_CFG 16 then s.writeEncCtx ((off - VENC_CTX_CFG 0) / 0x80) off val
  else s.plainWrite off val

/-! ## Network -/

/-- Ports that may no longer run lose their link (R309). -/
def State.settlePorts (s : State) : State :=
  (List.range 2).foldl (fun st p => if st.on NET_CTRL_EN && st.on (NET_P_CFG_EN p) then st else portLinkDown p st) s

def State.writeFlow (s : State) (off : Nat) (val : Word) : State :=
  if off = NET_FLOW_CMD then (match val.toNat % 4 with | 1 => flowRead s | 2 => flowWrite s | 3 => flowReadClear s | _ => s)
  else match val.toNat % 4 with | 1 => exactAdd (bitsOf val.toNat 29 16) s | 2 => exactDelete s | _ => s

def State.writeNet (s : State) (off : Nat) (val : Word) : State :=
  if off = NET_FLOW_CMD ∨ off = NET_EXACT_CMD then s.writeFlow off val
  else if off = NET_LOSS_POP then (if bitAt val.toNat 0 then lossPop s else s)
  else if off = NET_HIST_SEL then (s.plainWrite off val).showHist
  else if off = NET_MAX_FRAME then s.wrN NET_MAX_FRAME (clampNat 1518 9216 (val.toNat % 2 ^ 14))
  else if off = NET_CTRL ∨ off = NET_P_CFG 0 ∨ off = NET_P_CFG 1 then (s.plainWrite off val).settlePorts
  else if off = NET_P_TSQ_POP 0 ∨ off = NET_P_TSQ_POP 1 then
    (if bitAt val.toNat 0 then tsqPop (if off = NET_P_TSQ_POP 0 then 0 else 1) s else s)
  else match atIdx (NET_HTX_PUT 0) 0x20 16 off with
    | some r => htxPut r val s
    | none => s.plainWrite off val

/-! ## Memory and support engines -/

def State.writeMem (s : State) (off : Nat) (val : Word) : State :=
  if off = MEM_CMD then memRetireCmd val s
  else if off = MEM_RETIRE_PRESET then retirePreset val s
  else s.plainWrite off val

def State.writeBce (s : State) (off : Nat) (val : Word) : State :=
  if off = BCE_CMD then (match val.toNat % 4 with | 1 => bceStart s | 2 => bceAbort s | _ => s) else s.plainWrite off val

def State.writeCku (s : State) (off : Nat) (val : Word) : State :=
  let ctx := CKU_JOB_CMD_CTX.ext val
  let cont := CKU_JOB_CMD_CONTINUE.ext val == 1
  if off = CKU_JOB_CMD then
    (match CKU_JOB_CMD_OP.ext val with
     | 1 => ckuCompute ctx cont s | 2 => ckuAppend ctx cont s | 3 => ckuCheck ctx cont s | _ => s)
  else match atIdx (CKU_CTX_CFG 0) 0x20 32 off with
    | some n => ckuCtxWrite n false val s
    | none => match atIdx (CKU_CTX_RUN 0) 0x20 32 off with
      | some n => ckuCtxWrite n true val s
      | none => s.plainWrite off val

def State.writeDco (s : State) (off : Nat) (val : Word) : State :=
  if off = DCO_CMD then
    (match val.toNat % 8 with | 1 => dcoCompress s | 2 => dcoDecompress s | 3 => dcoResume s | 4 => dcoAbort s | _ => s)
  else s.plainWrite off val

/-! ## Ehrus -/

/-- A write of EHL_CMD. -/
def State.writeEhlCmd (s : State) (val : Word) : State :=
  match EHL_CMD_OP.ext val with
  | 1 => ehlResync s
  | 2 => ehlHandover s
  | 3 => ehlTakeover s
  | 4 => treeLid (EHL_CMD_SEQ.ext val) s
  | 5 => treeReset (EHL_CMD_KIND.ext val) s
  | 6 => snapArm s
  | 7 => freezeArm s
  | _ => s

def State.writeEhl (s : State) (off : Nat) (val : Word) : State :=
  if off = EHL_CMD then s.writeEhlCmd val
  else if off = EHL_CFG then (s.plainWrite off val).startLinking
  else if off = EHL_BC_CTRL then (if bitAt val.toNat 8 then bcastStart val s else s.wrN EHL_BC_CTRL (val.toNat % 16))
  else if off = EHL_TIME_CFG then
    let s1 := s.plainWrite off val
    if s1.rdN off = s.rdN off then s1 else { s1 with ehl := { s1.ehl with timeSet := false, lockAt := none } }
  else s.plainWrite off val

/-! ## The whole map -/

/-- The effect of a register write that nothing refuses, by block (R20). -/
def State.hostWrite (s : State) (off : Nat) (val : Word) : State :=
  if off < 0x100000 then s.writeGctl off val
  else if off < 0x200000 then s.writeCsu off val
  else if off < 0x300000 then s.writeEvc off val
  else if off < 0x400000 then s.writeTmu off val
  else if off < 0x800000 then s.writePwr off val
  else if off < 0x1800000 then s.writeCh off val
  else if off < 0x1A00000 then s.writeCmp off val
  else if off < 0x1C00000 then s.writeSpl off val
  else if off < 0x2000000 then s.writeAux off val
  else if off < 0x2200000 then s.writeVdec off val
  else if off < 0x2400000 then s.writeVenc off val
  else if off < 0x2800000 then s.writeNet off val
  else if off < 0x2C00000 then s.writeMem off val
  else if off < 0x2D00000 then s.writeBce off val
  else if off < 0x2E00000 then s.writeCku off val
  else if off < 0x3000000 then s.writeDco off val
  else if off < 0x3800000 then s.writeEhl off val
  else s.writeCal off val

end Sys2Proof.Machine
end

