-- ==== Sys2Proof/Machine/Ehrus.lean ====
section
/-!
DEFINITION. Messages that arrive on the Ehrus links (R418, R419) and what they do.
-/

namespace Sys2Proof.Machine

/-! ## Reception (R418) -/

/-- Note the block sent back and the moment of the last message. -/
def State.ehlReply (s : State) (l : Nat) (ok : Bool) (q : Nat) : State :=
  s.setLink l (fun k => { k with reply := some (ok, q), lastRx := s.now })

/-- A message arrives: a wrong CRC is answered by a NAK and messages are discarded until the replay; a correct one is
taken in SEQ order, once, and acknowledged. -/
def State.ehlReceive (s : State) (h : MsgHdr) (f : State → State) : State :=
  if 9 ≤ h.link || !s.ehlUp h.link then s
  else
    let k := s.ehlLink h.link
    if !h.crcOk then
      if k.naked then s.setLink h.link (fun x => { x with lastRx := s.now })
      else (s.setLink h.link (fun x => { x with naked := true })).ehlReply h.link false k.expect
    else if h.seq ≠ k.expect then s.setLink h.link (fun x => { x with lastRx := s.now })
    else f ((s.setLink h.link (fun x => { x with expect := (k.expect + 1) % 65536, naked := false })).ehlReply h.link true h.seq)

/-- A message of the pair link. -/
def State.fromPartner (s : State) (h : MsgHdr) (f : State → State) : State :=
  s.ehlReceive h (fun t => if h.link = 0 then f t else t)

/-- A message of the pair link that only a secondary takes. -/
def State.fromPrimary (s : State) (h : MsgHdr) (f : State → State) : State :=
  s.fromPartner h (fun t => if t.isSecondary then f t else t)

/-- A down message: from the active parent. -/
def State.fromParent (s : State) (h : MsgHdr) (f : State → State) : State :=
  s.ehlReceive h (fun t => if t.hasParent && h.link == t.parentLink then f t else t)

/-! ## The pair -/

/-- ALIVE restarts the silence window; the primary ends a join when both sync frames have completed, and starts a
resync when its partner has lost sync (R424, R425, R427). -/
def alive (h : MsgHdr) (pair : Nat) (inSync : Bool) (s : State) : State :=
  s.fromPartner h (fun t0 =>
    let t := { t0 with ehl := { t0.ehl with lastAlive := t0.now, partnerPair := pair, partnerSync := inSync } }
    if t.pairState ≠ pairPrimary then t
    else if t.on EHL_STATUS_JOINING then
      (if t.ehl.selfDone && inSync then State.enterSync { t with ehl := { t.ehl with selfDone := false } } else t)
    else if t.on EHL_STATUS_IN_SYNC && !inSync && pair == pairSecondary then t.startJoin
    else t)

/-- REGW: the primary's register writes, in its order (R426). -/
def regw (h : MsgHdr) (writes : List (Nat × Word)) (s : State) : State :=
  s.fromPrimary h (fun t => (writes.take 512).foldl (fun (st : State) (e : Nat × Word) => st.hostWrite e.1 e.2) t)

/-- STACK: a mirrored registration. -/
def stack (h : MsgHdr) (m : StackMsg) (s : State) : State := s.fromPrimary h (fun t => t.mirrorStack m false)

/-- COMMIT: a mirrored commit. -/
def commit (h : MsgHdr) (m : CommitMsg) (s : State) : State := s.fromPrimary h (fun t => t.takeCommit m)

/-- BUILD: the build starts, or waits for the one under way. -/
def build (h : MsgHdr) (m : BuildMsg) (s : State) : State :=
  s.fromPrimary h (fun t =>
    if t.buildBusy then { t with cam := { t.cam with buildMsg := some (m, t.instantBefore t.ptpTickEnd) } }
    else t.mirroredBuild m (t.instantBefore t.ptpTickEnd))

/-- A BUILD record that waits starts once the camera path is free. -/
def State.waitingBuild (s : State) : State :=
  match s.cam.buildMsg with
  | some m => if s.isSecondary && !s.buildBusy then s.mirroredBuild m.1 m.2 else s
  | none => s

/-- A frame record of the primary goes behind those that wait (R422). -/
def State.queueFrameMsg (s : State) (m : EhlMsg) : State :=
  State.takeLater { s with ehl := { s.ehl with later := s.ehl.later ++ [(m, s.now)] } }

/-- FSTART: the secondary's next frame; one out of sync takes it only as a sync frame (R424, R425). -/
def fstart (h : MsgHdr) (r : FrameRec) (s : State) : State :=
  s.fromPrimary h (fun t => if t.on EHL_STATUS_IN_SYNC || r.full then t.queueFrameMsg (.fstart r) else t)

/-- A frame of this number is in progress, waits or is queued. -/
def State.knowsFrame (s : State) (n : Nat) : Bool :=
  (s.frameOn && s.frameNo == n) || (match s.ehl.fstart with | some r => r.frame == n | none => false)
    || s.ehl.later.any (fun (e : EhlMsg × Nat) => match e.1 with | .fstart r => r.frame == n | _ => false)

/-- FEND: the end of the frame that its FSTART began (R422). -/
def fend (h : MsgHdr) (r : FendRec) (s : State) : State :=
  s.fromPrimary h (fun t => if t.knowsFrame r.frame then t.queueFrameMsg (.fend r) else t)

/-- HANDOVER: a secondary takes over at once, and the former primary then joins (R427). -/
def handover (h : MsgHdr) (s : State) : State :=
  s.fromPartner h (fun t =>
    if t.isSecondary then (t.takeover).startJoin
    else if t.pairState = pairPrimary then t.startJoin else t)

/-- POWER: the partner's sleep or wake request; a secondary that refuses the sleep loses sync (R430). -/
def power (h : MsgHdr) (op : Nat) (s : State) : State :=
  s.fromPartner h (fun t =>
    if op = 3 then t.wake wakePartner
    else if t.isSecondary then
      let t1 := State.sleepCmd t (op == 2) false
      if (State.sleepRefusal t (op == 2) false).isSome then t1.desync 5 else t1
    else t)

/-- JOIN: a part of the primary's state (R425). -/
def join (h : MsgHdr) (m : JoinMsg) (s : State) : State :=
  s.fromPrimary h (fun t => match m with
    | .bytes a d => t.memWrite clientEhl a d
    | .commit c => t.takeCurrent c
    | .stack k cur => t.mirrorStack k cur
    | .done => t)

/-! ## The tree -/

/-- TLID (R433). -/
def tlid (h : MsgHdr) (q t : Nat) (s : State) : State :=
  s.fromParent h (fun x => (x.toChildren (.tlid q t)).takeLid q t)

/-- TRESET (R434). -/
def treset (h : MsgHdr) (kind t : Nat) (s : State) : State :=
  s.fromParent h (fun x =>
    let x1 := x.toChildren (.treset kind t)
    { x1 with ehl := { x1.ehl with treeReset := some (kind, t) } })

/-- Time T of a tree reset is reached. -/
def treeResetApply (s : State) : State :=
  match s.ehl.treeReset with
  | some (kind, t) => if s.ptpTickEnd ≤ t then s else State.treeKind { s with ehl := { s.ehl with treeReset := none } } kind
  | none => s

/-- TARM (R436). -/
def tarm (h : MsgHdr) (freeze : Bool) (t : Nat) (s : State) : State :=
  s.fromParent h (fun x => (x.toChildren (.tarm freeze t)).armHere freeze t)

/-- TBCAST: bytes for HOST, forwarded to the children (R434). -/
def tbcast (h : MsgHdr) (mask a : Nat) (bs : List Byte) (s : State) : State :=
  s.fromParent h (fun x =>
    let x1 := x.toChildren (.tbcast mask a bs)
    if x1.inRegion 0 a bs.length then (x1.dmaWrite clientEhl writerHost a bs 0).1 else x1)

/-- TSTATUS: the child is in the tree (R419). -/
def tstatus (h : MsgHdr) (s : State) : State :=
  s.ehlReceive h (fun x => if 5 ≤ h.link && x.on EHL_CFG_TREE_EN then
    x.put EHL_STATUS_CHILDREN (x.get EHL_STATUS_CHILDREN ||| 2 ^ (h.link - 5)) else x)

/-! ## Time (R435) -/

/-- The link delay with its asymmetry, in ns. -/
def State.linkDelay (s : State) : Nat := s.bits EHL_LINK_DELAY 15 0

/-- The increment that removes an offset of `o` ns within 100 ms, inside the range of R312. -/
def servoIncr (o : Int) : Nat :=
  (clampInt (ceilDiv (3996 * 2 ^ 32) 1000 : Nat) (4004 * 2 ^ 32 / 1000 : Nat) (4 * 2 ^ 32 - o * (4 * 2 ^ 32) / 10 ^ 8)).toNat

/-- TTIME from the time source: the first one sets the time, later ones steer the increment. -/
def State.steer (s : State) (ns : Nat) : State :=
  let target := ns + s.linkDelay
  let o : Int := (s.ptpTotalNs : Int) - (target : Int)
  let s1 := s.wrN EHL_TIME_OFFSET (unsignedOf 32 (clampInt (-(2 ^ 31)) (2 ^ 31 - 1) o))
  if !s.ehl.timeSet then
    let s2 := s1.applyStep (2 ^ 32 * target) (-o)
    { s2 with ehl := { s2.ehl with timeSet := true, lockAt := none } }
  else
    let q := servoIncr o
    let s2 := (s1.wrN TMU_INCR_NS (q / 2 ^ 32)).wrN TMU_INCR_FRAC (q % 2 ^ 32)
    { s2 with tmu := { s2.tmu with incr := q }
              ehl := { s2.ehl with lockAt := if o.natAbs ≤ 20 then s.ehl.lockAt.orElse (fun _ => some s.now) else none } }

/-- TTIME: forwarding is the child's own TTIME; only the selected source counts. -/
def ttime (h : MsgHdr) (ns : Nat) (s : State) : State :=
  s.ehlReceive h (fun x => if x.timeLink = some h.link then x.steer ns else x)

/-- TDELAY: a request is answered, a reply gives the link delay. -/
def tdelay (h : MsgHdr) (m : TdelayMsg) (s : State) : State :=
  s.ehlReceive h (fun x => match m with
    | .request sent => x.ehlSend h.link (.tdelay (.reply sent x.ptpTotalNs x.ptpTotalNs))
    | .reply sent received replied =>
      if x.timeLink = some h.link && x.ehl.delay.isSome then
        let trip : Int := (x.ptpTotalNs : Int) - (sent : Int) - ((replied : Int) - (received : Int))
        let d := trip / 2 + signedOf 32 (x.rdN EHL_TIME_ASYM)
        State.wrN { x with ehl := { x.ehl with delay := none } } EHL_LINK_DELAY (clampInt 0 65535 d).toNat
      else x)

end Sys2Proof.Machine
end

