-- ==== Sys2Proof/Machine/Host.lean ====
section
/-!
DEFINITION. What reaches the device from outside its own units: the conditions under which a command acts at all
(power, sleep, the power management of PCIe), host accesses through BAR0 and BAR2 (R20 to R24, R443 to R445), and
configuration requests (R439, R441).
-/

namespace Sys2Proof.Machine

/-! ## When a command acts -/

/-- The CORE domain runs: it is powered, and its PLL has locked (R16, R18, R397, R399). -/
def State.coreOn (s : State) : Bool := s.pwr.rails.powerGood && !s.pwr.rails.waiting && !s.asleep && s.pllLocked pllFabric

/-- The state `t` a command leads to from `s`: the queue stays as it is. -/
def State.keepQueue (s t : State) : State := { t with pending := s.pending }

/-- A command of the pins and rails, or a host access, which judges its block itself. -/
def State.runAlways (s : State) (f : State → State) : State := s.keepQueue (f s)

/-- A command of the always-on domain: nothing happens while PWR_GOOD is low. -/
def State.runAon (s : State) (f : State → State) : State := s.keepQueue (if s.pwr.rails.powerGood then f s else s)

/-- A command of the domain that PLL `p` clocks: nothing happens there before the PLL has locked (R16). -/
def State.runPll (s : State) (p : Nat) (f : State → State) : State :=
  s.keepQueue (if s.pwr.rails.powerGood && s.pllLocked p then f s else s)

/-- A command of a unit in CORE: nothing happens there while the domain is off. -/
def State.runCore (s : State) (f : State → State) : State := s.keepQueue (if s.coreOn then f s else s)

/-! ## BAR0 (R20, R21, R426, R443) -/

/-- Channel `c` does not answer: its gate is closed, or it is being loaded (R21, R54). -/
def State.chanOff (s : State) (c : Nat) : Bool :=
  !s.gateOpen c || (s.get CSU_RELOAD_STATUS_STATE == 3 && s.get CSU_RELOAD_STATUS_CH == c)

/-- The block that holds `off` is off, or is a channel that does not answer; the PWR block alone answers while CORE is
off (R21, R399). -/
def State.blockOff (s : State) (off : Nat) : Bool :=
  if 0x400000 ≤ off ∧ off < 0x800000 then !s.pwr.rails.powerGood
  else !s.coreOn || (decide (0x800000 ≤ off ∧ off < 0x1800000) && s.chanOff ((off - 0x800000) / 0x400000))

/-- Registers that a secondary refuses and a primary passes on (R426). -/
def pairShared (off : Nat) : Bool :=
  decide (0x1800000 ≤ off ∧ off < 0x1A00000) || decide (0x3800000 ≤ off ∧ off < 0x4000000)
    || (decide (0x1A00000 ≤ off ∧ off < 0x1C00000)
        && !(List.range 6).any (fun g => off == SPL_G_CMD g || off == SPL_G_LPBK g))

/-- Writes that reach the partner as COMMIT and STACK messages instead of REGW (R419). -/
def sentOtherwise (off : Nat) : Bool :=
  off == CMP_LID || off == CMP_LYR_FENCE || (List.range 8).any (fun i => off == CMP_STK_CMD i)

/-- A host write of a defined register whose effect is `f`: refused where its block is off (R21) or where this device is
the secondary (R426); a primary passes it on.  A function in D3hot takes no request (R439, log entry 40). -/
def State.hostDo (s : State) (off : Nat) (val : Word) (f : State → State) : State :=
  if s.pcie.d3 then s
  else if s.blockOff off then s.raise 7 off
  else if s.isSecondary && pairShared off then s.refuseHost off
  else if pairShared off && !sentOtherwise off then (f s).toPartner (.regw [(off, val)])
  else f s

/-- A command that is a host write of the register at `off`. -/
def State.runHost (s : State) (off : Nat) (val : Word) (f : State → State) : State := s.keepQueue (s.hostDo off val f)

/-- What a read of the register at `off` returns: bits of access WO read 0 (R5). -/
def State.readWord (s : State) (off : Nat) : Nat :=
  match regRowAt off with
  | some r => s.rdN off &&& (2 ^ 32 - 1 - r.wo)
  | none => 0

/-- RC fields clear once they are read (R5). -/
def State.clearRc (s : State) (off : Nat) : State :=
  match regRowAt off with
  | some r => if r.rc = 0 then s else s.wrN off (s.rdN off &&& (2 ^ 32 - 1 - r.rc))
  | none => s

/-- The side effects of a register read beyond its RC fields (R312, R335, R412). -/
def State.readEffect (s : State) (off : Nat) : State :=
  if off = EVC_TICK_LO then s.wrN EVC_TICK_HI (s.evc.tick / 2 ^ 32)
  else if off = NET_HIST_DATA then s.setHist (s.bits NET_HIST_SEL 11 0) 0
  else s.clearRc off

/-- A read of a defined register that answers: its completion and its side effects. -/
def State.hostRead (s : State) (off : Nat) : State :=
  if off = TMU_TIME_NS then (timeRead s).complete (leBytes 4 ((timeRead s).rdN TMU_TIME_NS)) false
  else match atIdx (CH_DBG_DATA 0) 0x400000 4 off with
    | some c => dbgDataAccess c false 0 .clean s
    | none => (s.complete (leBytes 4 (s.readWord off)) false).readEffect off

/-- The completion of a read that returns zeros. -/
def State.readZero (s : State) (isWrite : Bool) (dws : Nat) : State :=
  if isWrite then s else s.complete (List.replicate (4 * dws) 0) false

/-- An aligned access of one DW: it answers, as `go` says, where a block defines the register and is on (R21, R443). -/
def State.hostGate (s : State) (off : Nat) (isWrite : Bool) (go : State → State) : State :=
  if s.pcie.d3 then s
  else if s.blockOff off then (s.raise 7 off).readZero isWrite 1
  else match regRowAt off with
    | none => (s.accessFault 1 off 2).readZero isWrite 1
    | some _ => go s

def State.hostAccess (s : State) (off : Nat) (isWrite : Bool) (val : Word) : State :=
  s.hostGate off isWrite (fun t => if isWrite then t.hostDo off val (fun u => u.hostWrite off val) else t.hostRead off)

/-- An access to CH_DBG_DATA of channel c, with what the code of the local-store word answers. -/
def State.debugAccess (s : State) (c : Nat) (isWrite : Bool) (val : Word) (ecc : Ecc) : State :=
  s.hostGate (CH_DBG_DATA c) isWrite (fun t =>
    if isWrite then t.hostDo (CH_DBG_DATA c) val (dbgDataAccess c true val ecc) else dbgDataAccess c false 0 ecc t)

/-- A write of a register through BAR0, whatever row of the table its effect belongs to (R5). -/
def registerWrite (off : Nat) (val : Word) (s : State) : State :=
  if off % 4 = 0 ∧ off < 0x4000000 then s.hostAccess off true val else s

/-- A read of a register through BAR0 (R5). -/
def rcRead (off : Nat) (s : State) : State :=
  if off % 4 = 0 ∧ off < 0x4000000 then s.hostAccess off false 0 else s

/-- An access to a block that is off or gated (R21). -/
def offDomainAccess (off : Nat) (isWrite : Bool) (val : Word) (s : State) : State :=
  if off % 4 = 0 ∧ off < 0x4000000 ∧ s.blockOff off then s.hostAccess off isWrite val else s

/-- An aligned access to an offset that no block defines (R443). -/
def bar0UndefinedAccess (off : Nat) (isWrite : Bool) (val : Word) (s : State) : State :=
  if off % 4 = 0 ∧ off < 0x4000000 ∧ regRowAt off = none then s.hostAccess off isWrite val else s

/-- The MSI-X table and pending-bit array, where a 64-bit aligned request is allowed (R442). -/
def msixArea (off : Nat) : Bool := decide (0x8000 ≤ off ∧ off < 0x9000) || decide (0x9000 ≤ off ∧ off < 0x9020)

/-- The request is malformed (R442, R443). -/
def malformed (off dws be : Nat) : Bool :=
  !(be == 0xF && off % 4 == 0 && (dws == 1 || (dws == 2 && off % 8 == 0 && msixArea off)))

/-- A BAR0 request longer than one DW, or with byte enables other than 0xF (R443). -/
def bar0MalformedRequest (off : Nat) (isWrite : Bool) (dws be : Nat) (s : State) : State :=
  if s.pcie.d3 ∨ ¬malformed off dws be then s else (s.accessFault 0 off 1).readZero isWrite dws

/-! ## BAR2 (R22 to R24, R80, R441, R445) -/

/-- Bytes of a request that BAR2 at its programmed size covers (R441). -/
def State.bar2Len (s : State) (off len : Nat) : Nat := min len (2 ^ s.bits GCTL_BAR2_SIZE 5 0 - off)

/-- Address `a` lies in the rig copy that is not in force (R155). -/
def State.rigOpen (s : State) (a : Nat) : Bool :=
  let base := s.addr36 CMP_CAM_RIG_LO CMP_CAM_RIG_HI + 0x20000 * (1 - s.get CMP_CAM_STATUS_RIG_ACTIVE)
  decide (base ≤ a ∧ a < base + 0x20000)

/-- Address `a` lies in the conversion block (R185). -/
def State.convOpen (s : State) (a : Nat) : Bool := decide (s.convBase ≤ a ∧ a < s.convBase + 16384)

/-- Address `a` lies in the bitstream ring of a decoder context (R22). -/
def State.ringOpen (s : State) (a : Nat) : Bool :=
  (List.range 64).any (fun x =>
    let base := 65536 * s.bits (VDEC_CTX_RING_BASE x) 19 0
    decide (base ≤ a ∧ a < base + 65536 * s.bits (VDEC_CTX_RING_CFG x) 15 0))

/-- Host writes to `a` are refused by its region (R22, R24, R155, R185). -/
def State.regionRefuses (s : State) (a : Nat) : Bool :=
  match s.regionOf a with
  | some 2 => !s.ringOpen a
  | some 3 => true
  | some 4 => true
  | some 5 => true
  | some 6 => !(s.rigOpen a || s.convOpen a)
  | _ => false

/-- Address `a` lies in the composition pool (R67). -/
def State.inCompPool (s : State) (a : Nat) : Bool :=
  match s.slotAt a with
  | some q => decide (s.bits CMP_CPOOL_BASE 20 0 ≤ q ∧ q < s.bits CMP_CPOOL_BASE 20 0 + s.bits CMP_CPOOL_SIZE 20 0)
  | none => false

/-- How a host write treats the place of a byte. -/
inductive HostPlace where
  | beyond     -- at or above 40 GiB (R23)
  | refused    -- R24
  | mirrored   -- PLANE of a secondary (R426)
  | pool       -- the composition pool (R80)
  | leased     -- a protected granule (R80, R81)
  | opened
  deriving DecidableEq, Repr

/-- The row of R445 for address `a`. -/
def State.hostPlace (s : State) (a : Nat) : HostPlace :=
  if memSize ≤ a then .beyond
  else if !s.on CSU_STATUS_IMAGE_VALID then .opened
  else if s.regionRefuses a then .refused
  else if s.isSecondary && s.regionOf a == some 1 then .mirrored
  else if s.inCompPool a then .pool
  else if s.protectedAt a then .leased
  else .opened

/-- The bytes of a span land, or not, by its place; every place is made of whole 16-byte words. -/
def State.bar2Span (off : Nat) (bs : List Byte) (s : State) (w : Nat × Nat × Nat) : State :=
  match s.hostPlace w.2.1 with
  | .opened => s.memWrite 9 w.2.1 (slice bs (w.2.1 - off) w.2.2)
  | .leased =>
    if s.on CMP_LEASE_CTRL_PROTECT then s
    else
      let s1 := s.memWrite 9 w.2.1 (slice bs (w.2.1 - off) w.2.2)
      (match s.slotAt w.2.1 with | some q => s1.markChgFull q | none => s1)
  | _ => s

/-- Address of the first byte of the request in a place of some kind. -/
def State.firstIn (s : State) (spans : List (Nat × Nat × Nat)) (p : HostPlace → Bool) : Option Nat :=
  (spans.find? (fun (w : Nat × Nat × Nat) => p (s.hostPlace w.2.1))).map (fun w => w.2.1)

/-- The reports of a write: each source once, with the address of the first byte concerned (R445). -/
def State.bar2Reports (s : State) (spans : List (Nat × Nat × Nat)) (t : State) : State :=
  let t1 := match s.firstIn spans (· == .beyond) with | some a => t.raise 5 a | none => t
  let t2 := match s.firstIn spans (· == .refused) with | some a => t1.raise 6 a | none => t1
  let t3 := match s.firstIn spans (· == .mirrored) with | some a => t2.refuseHost a | none => t2
  match s.firstIn spans (fun p => p == .pool || p == .leased) with
  | some a => t3.leaseFault writerHost a (s.hostPlace a == .leased && !s.on CMP_LEASE_CTRL_PROTECT) a
  | none => t3

/-- A write of `bs` at offset `off` of BAR2 (R445).  While CORE is off it is discarded with source 7: the model's choice, as R21
speaks of registers only (log entry 5). -/
def bar2Write (off : Nat) (bs : List Byte) (s : State) : State :=
  if s.pcie.d3 then s
  else if !s.coreOn then s.raise 7 off
  else if !s.on MEM_STATUS_TRAINED then s.raise 4 off
  else
    let data := bs.take (s.bar2Len off bs.length)
    let spans := wordSpans off data.length
    s.bar2Reports spans (spans.foldl (State.bar2Span off data) s)

/-- Free bytes: the data of a poisoned completion (R445). -/
def State.freeBytes (s : State) (n : Nat) : List Byte :=
  (List.range n).map (fun i => (Config.freeWord (s.freeCtr + i)).setWidth 8)

/-- A read of `len` bytes at offset `off` of BAR2 (R445).  While CORE is off it completes with zeros and source 7: the model's
choice, as R21 speaks of registers only (log entry 5). -/
def bar2Read (off len : Nat) (s : State) : State :=
  if s.pcie.d3 then s
  else if !s.coreOn then (s.raise 7 off).complete (List.replicate len 0) false
  else if !s.on MEM_STATUS_TRAINED then (s.raise 4 off).complete (List.replicate len 0) false
  else
    let n := s.bar2Len off len
    let bytes := (List.range n).map (fun i => if off + i < memSize then memByte s.mem (off + i) else 0)
    let beyond := max off memSize
    let s1 := s.raiseIf (decide (beyond < off + n)) 5 beyond
    match (wordSpans off n).find? (fun (w : Nat × Nat × Nat) => s.poisonedAt w.2.1) with
    | none => s1.complete bytes false
    | some w =>
      let s2 := (((s1.notePoisonRead 9).wrN GCTL_ACCESS_FAULT (w.2.1 / 64 % 2 ^ 26 + 2 ^ 29)).count GCTL_ACCESS_FAULT_CNT).raise 3 w.2.1
      ((s2.wrN GCTL_ACCESS_FAULT_HI (w.2.1 / 2 ^ 32 % 16)).complete (s.freeBytes n) true).freeSkip n

/-! ## Configuration requests (R439, R441, R394) -/

def configurationRequest (w : CfgWrite) (s : State) : State :=
  match w with
  | .bar2 n => if 28 ≤ n ∧ n ≤ 36 then s.put ⟨GCTL_BAR2_SIZE, 5, 0⟩ n else s
  | .msix enable mask =>
    let s1 := { s with pcie := { s.pcie with msixEn := enable, funcMask := mask } }
    if mask then s1 else s1.sendPending
  | .power d3 => { s with pcie := { s.pcie with d3 } }

end Sys2Proof.Machine
end

