-- ==== Sys2Proof/Machine/Tick.lean ====
section
/-!
DEFINITION. The end of an event tick (R386 to R393): what every unit settles there, then the tick's record.  Time
passes with this command alone.
-/

namespace Sys2Proof.Machine

/-- A primary that raises a FATAL source hands over (R427). -/
def State.fatalHandover (s : State) : State := if s.evc.raised.any (fun r => r.cls == clsFatal) then s.handOver else s

/-- A WAIT layer holds a frame start that could otherwise come (R201). -/
def State.showWaitHeld (s : State) : State :=
  s.putB CMP_FRAME_STATUS_WAIT_HELD
    (s.frame.seen && s.drives && s.mayStart && s.triggered && decide (s.earliest ≤ s.now + s.tickHalfNs) && s.waitHeld)

/-- What the tick brought for the frames that start after it: READY buffers (R74), the commit (R200), the eye set (R152),
restores (R231), and the overlay's states (R193). -/
def State.settleInputs (s : State) : State :=
  ((((((s.settleMarked).settleCommit).settleEyes).settleTemps).settleRestores).evalOverlay).showRaster

/-- What the units in CORE settle at the end of a tick: the inputs of frames, the boot's stage (R450), the pair (R424,
R427), producers' PUT writes (R281), flow changes (R322), pages of the picture pool, a BUILD that waits; last, what the
next tick's frame start builds on (R199). -/
def State.settleCore (s : State) : State :=
  if s.coreOn then
    (((((((((((((s.serveMem).settleInputs).settleCams).countBusy).standbyMark).waitingRun).fatalHandover).linkDone).latchPuts).latchFlows).trimPool).showLag).waitingBuild).armFrame.showWaitHeld
  else s

/-- What power and resets settle at the end of a tick (R401, R404, R409, R446). -/
def State.settlePower (s : State) : State := (((((s.wakeClocks).wakeStep).settlePlls).settleStop).settleReset)

/-- The registers at the end of the tick, for the same-tick rules. -/
def State.keepWas (s : State) : State := { s with was := s.regs }

/-- EVENT_TICK: nothing is counted while PWR_GOOD is low. -/
def eventTickEnd (s : State) : State := if s.pwr.rails.powerGood then (eventTick (((s.settleCore).settleLinks).settlePower)).keepWas else s

end Sys2Proof.Machine
end

