-- ==== Sys2Proof/Machine/MeaningsBoot.lean ====
section
/-!
DEFINITION. The meanings of the commands of resets, rails, boot, the calibration record, and the rows the table lists last, one definition for each row of the table.
-/

namespace Sys2Proof.Machine

/-- PCIE_LINK_TRAINED (R440). The PCIe link trains, raising source 9 if below 32 GT/s ×8. -/
def execPcieLinkTrained (speed : Nat) (width : Nat) (s : State) : Host.Outcome State Fault Refusal :=
  .next (s.runPll pllPcie (pcieLinkTrained speed width))

/-- FUNCTION_RESET (R448). FLR, PERST_N, hot reset or link down resets the PCIe function and host-facing state, with source 0. -/
def execFunctionReset (linkLost : Bool) (s : State) : Host.Outcome State Fault Refusal :=
  .next (s.runPll pllPcie (functionReset linkLost))

/-- GCTL_RESET_FULL (R446). GCTL_RESET with KEY and kind FULL resets the whole device and reboots. -/
def execGctlResetFull (val : Word) (s : State) : Host.Outcome State Fault Refusal :=
  .next (s.runHost GCTL_RESET val (gctlResetFull val))

/-- GCTL_RESET_IMAGE (R446). GCTL_RESET with KEY and kind IMAGE holds the panel and reloads an image. -/
def execGctlResetImage (val : Word) (s : State) : Host.Outcome State Fault Refusal :=
  .next (s.runHost GCTL_RESET val (gctlResetImage val))

/-- RESET_PIN (R446). RESET_N held low for 1 µs causes a FULL reset. -/
def execResetPin (s : State) : Host.Outcome State Fault Refusal :=
  .next (s.runAlways resetPin)

/-- POWER_GOOD_RISE (R449). PWR_GOOD rises, which starts the boot at FUSES. -/
def execPowerGoodRise (bootSel : Bool) (s : State) : Host.Outcome State Fault Refusal :=
  .next (s.runAlways (powerGoodRise bootSel))

/-- POWER_GOOD_FALL (R464). PWR_GOOD falls, so the device stops its fast domains and drops both enables. -/
def execPowerGoodFall (s : State) : Host.Outcome State Fault Refusal :=
  .next (s.runAlways powerGoodFall)

/-- RAIL_PG_FALL (R464). PG_HBM or PG_SDS falls while enabled, so the device acts as on a fall of PWR_GOOD. -/
def execRailPgFall (sds : Bool) (s : State) : Host.Outcome State Fault Refusal :=
  .next (s.runAlways (railPgFall sds))

/-- RAIL_REENABLE (R464). After 10 ms low, the device drives both enables high again. -/
def execRailReenable (s : State) : Host.Outcome State Fault Refusal :=
  .next (s.runAlways railReenable)

/-- POWER_ENABLE_OUTPUTS (R463). 100 µs after AON and IO are in range, the device drives PWR_EN_HBM and PWR_EN_SDS high. -/
def execPowerEnableOutputs (s : State) : Host.Outcome State Fault Refusal :=
  .next (s.runAlways powerEnableOutputs)

/-- FUSES_DONE (R449). The FUSES stage ends, so image load, HBM training and PCIe training begin. -/
def execFusesDone (s : State) : Host.Outcome State Fault Refusal :=
  .next (s.runAon fusesDone)

/-- APPLY_DONE (R449). APPLY ends, so the device sets SPL_CTRL.EN and starts LINK. -/
def execApplyDone (s : State) : Host.Outcome State Fault Refusal :=
  .next (s.runCore applyDone)

/-- FIRST_FRAME_START (R450). No group remains in TRAIN, LOCK or CAPS, so the first frame is forced with the whole panel damaged. -/
def execFirstFrameStart (s : State) : Host.Outcome State Fault Refusal :=
  .next (s.runCore firstFrameStart)

/-- BOOT_LATE (R451). DONE is not reached 1.8 s after power-good, so source 12 is raised. -/
def execBootLate (s : State) : Host.Outcome State Fault Refusal :=
  .next (s.runAon bootLate)

/-- CALREC_SAVE (R453). GCTL_CALREC_CMD SAVE writes the calibration record to HOST. -/
def execCalrecSave (s : State) : Host.Outcome State Fault Refusal :=
  .next (s.runHost GCTL_CALREC_CMD 1 calrecSave)

/-- CALREC_RESTORE (R454). GCTL_CALREC_CMD RESTORE reads and checks a calibration record and offers its presets. -/
def execCalrecRestore (s : State) : Host.Outcome State Fault Refusal :=
  .next (s.runHost GCTL_CALREC_CMD 2 calrecRestore)

/-- CALREC_DONE (R454). A SAVE or RESTORE completes, with source 10, or a mismatch with source 11. -/
def execCalrecDone (s : State) : Host.Outcome State Fault Refusal :=
  .next (s.runCore calrecDone)

/-- RC_READ (R5). A host read of a register holding an RC field returns the value and then clears the field; a read of EVC_TICK_LO also latches EVC_TICK_HI. -/
def execRcRead (off : Nat) (s : State) : Host.Outcome State Fault Refusal :=
  .next (s.runAlways (rcRead off))

/-- CONFIGURATION_REQUEST (R441). A PCIe configuration write resizes BAR2 through the Resizable BAR capability or sets the MSI-X Enable and Function Mask bits and the power state. -/
def execConfigurationRequest (w : CfgWrite) (s : State) : Host.Outcome State Fault Refusal :=
  .next (s.runPll pllPcie (configurationRequest w))

/-- HIERARCHY_LANE_UP (R431). An Ehrus up or down lane comes up, so the device finds its active parent or child and joins the tree, with source 809. -/
def execHierarchyLaneUp (l : Nat) (far : LaneFar) (s : State) : Host.Outcome State Fault Refusal :=
  .next (s.runCore (hierarchyLaneUp l far.level far.eye))

/-- PG_HBM_PG_SDS_RISE (R464). PG_HBM and PG_SDS are both high after their enables were driven, so the boot runs as for a rise of PWR_GOOD. -/
def execPgHbmPgSdsRise (s : State) : Host.Outcome State Fault Refusal :=
  .next (s.runAlways pgHbmPgSdsRise)

/-- VDD_AON_BELOW_MINIMUM (R462). VDD_AON or VDD_IO falls below its minimum, so both enable outputs go low. -/
def execVddAonBelowMinimum (s : State) : Host.Outcome State Fault Refusal :=
  .next (s.runAlways vddAonBelowMinimum)

/-- PULSE_WIDTH_END (R317). WIDTH_MS after a PPS edge or WIDTH_US after a trigger firing, PTP_PPS_OUT or PTP_TRIG_OUT falls low. -/
def execPulseWidthEnd (pps : Bool) (s : State) : Host.Outcome State Fault Refusal :=
  .next (s.runPll pllTime (pulseWidthEnd pps))

end Sys2Proof.Machine
end

