-- ==== Sys2Proof/Machine/MeaningsCal.lean ====
section
/-!
DEFINITION. The meanings of the commands of panel drive, the Scorch map and calibration, one definition for each row of the table.
-/

namespace Sys2Proof.Machine

/-- TILE_TEMP_WRITE (R256). A write of CAL_TILE_TEMPt stamps a new tile temperature reading. -/
def execTileTempWrite (t : Nat) (val : Word) (s : State) : Host.Outcome State Fault Refusal :=
  .next (s.runHost (CAL_TILE_TEMP t) val (tileTempWrite t val))

/-- TILE_TEMP_STALE (R256). A tile temperature ages past CAL_TTEMP_AGE, so the tile takes FALLBACK_BAND, with source 870. -/
def execTileTempStale (t : Nat) (s : State) : Host.Outcome State Fault Refusal :=
  .next (s.runCore (tileTempStale t))

/-- ALS_READING (R257). Every 100 ms an ambient reading is taken and the filtered brightness factor steps. -/
def execAlsReading (reading : Option (Byte × Byte)) (s : State) : Host.Outcome State Fault Refusal :=
  .next (s.runCore (alsReading reading))

/-- PASS_START (R261). An integration pass starts at a whole PTP second, or late after an unfinished pass. -/
def execPassStart (s : State) : Host.Outcome State Fault Refusal :=
  .next (s.runCore passStart)

/-- PASS_DONE (R261). An integration pass finishes updating scorch levels and deriving pending granules, with source 865. -/
def execPassDone (s : State) : Host.Outcome State Fault Refusal :=
  .next (s.runCore passDone)

/-- CORR_APPLY_DONE (R266). The apply of a frame's deltas finishes and releases the held next frame start. -/
def execCorrApplyDone (s : State) : Host.Outcome State Fault Refusal :=
  .next (s.runCore corrApplyDone)

/-- MAP_FREEZE (R270). Setting CAL_MAP_CTRL.FREEZE asks the device to stop passes and trickle after the current step. -/
def execMapFreeze (s : State) : Host.Outcome State Fault Refusal :=
  .next (s.runHost CAL_MAP_CTRL (s.rd CAL_MAP_CTRL ||| 1) mapFreeze)

/-- MAP_FROZEN (R270). The running pass, derivation and apply finish, so FROZEN is set. -/
def execMapFrozen (s : State) : Host.Outcome State Fault Refusal :=
  .next (s.runCore mapFrozen)

/-- MAP_UNFREEZE (R270). Clearing FREEZE resumes passes and trickle. -/
def execMapUnfreeze (s : State) : Host.Outcome State Fault Refusal :=
  .next (s.runHost CAL_MAP_CTRL (s.rd CAL_MAP_CTRL &&& 0xFFFFFFFE) mapUnfreeze)

/-- MAP_OPEN (R270). Setting CAL_MAP_CTRL.OPEN while frozen lets the dictionary coder write the maps. -/
def execMapOpen (s : State) : Host.Outcome State Fault Refusal :=
  .next (s.runHost CAL_MAP_CTRL (s.rd CAL_MAP_CTRL ||| 2) mapOpen)

/-- MAP_RESTORED (R270). CAL_MAP_CMD RESTORED closes OPEN, sets VALID and damages the whole panel, with source 874. -/
def execMapRestored (s : State) : Host.Outcome State Fault Refusal :=
  .next (s.runHost CAL_MAP_CMD 1 mapRestored)

/-- MAP_FRESH (R269). CAL_MAP_CMD FRESH declares the zeroed maps valid for a new panel. -/
def execMapFresh (s : State) : Host.Outcome State Fault Refusal :=
  .next (s.runHost CAL_MAP_CMD 2 mapFresh)

/-- CAL_RUN_ALL (R273). CAL_CMD RUN_ALL starts a full calibration run. -/
def execCalRunAll (s : State) : Host.Outcome State Fault Refusal :=
  .next (s.runHost CAL_CMD 1 calRunAll)

/-- CAL_RUN_DONE (R273). A calibration run ends, accepting or rejecting its results, with source 872. -/
def execCalRunDone (s : State) : Host.Outcome State Fault Refusal :=
  .next (s.runCore calRunDone)

/-- PC_RETRAIN (R357). Every 100 µs of a run, one pseudo-channel starts a 3 µs retrain. -/
def execPcRetrain (p : Nat) (s : State) : Host.Outcome State Fault Refusal :=
  .next (s.runCore (pcRetrain p))

/-- PC_RETRAIN_DONE (R357). A pseudo-channel retrain ends and offers its new delays. -/
def execPcRetrainDone (p : Nat) (windows : List Window) (s : State) : Host.Outcome State Fault Refusal :=
  .next (s.runCore (pcRetrainDone p windows))

end Sys2Proof.Machine
end

