-- ==== Sys2Proof/Machine/MeaningsCodec.lean ====
section
/-!
DEFINITION. The meanings of the commands of video decode and encode, one definition for each row of the table.
-/

namespace Sys2Proof.Machine

/-- VDEC_PUT (R281). A write of VDEC_CTX_PUT hands access units to the decoder. -/
def execVdecPut (x : Nat) (val : Word) (s : State) : Host.Outcome State Fault Refusal :=
  .next (s.runHost (VDEC_CTX_PUT x) val (vdecPut x val))

/-- VDEC_CTX_ENABLE (R282). Setting VDEC_CTX_CFG.EN enables a decoder context, or is refused with RING. -/
def execVdecCtxEnable (x : Nat) (val : Word) (s : State) : Host.Outcome State Fault Refusal :=
  .next (s.runHost (VDEC_CTX_CFG x) val (vdecCtxEnable x val))

/-- VDEC_CTX_DISABLE (R304). Clearing VDEC_CTX_CFG.EN puts the context OFF once the current picture ends. -/
def execVdecCtxDisable (x : Nat) (val : Word) (s : State) : Host.Outcome State Fault Refusal :=
  .next (s.runHost (VDEC_CTX_CFG x) val (vdecCtxDisable x val))

/-- VDEC_FLUSH (R304). VDEC_CTX_CMD FLUSH outputs every waiting picture once the current picture ends. -/
def execVdecFlush (x : Nat) (s : State) : Host.Outcome State Fault Refusal :=
  .next (s.runHost (VDEC_CTX_CMD x) 1 (vdecFlush x))

/-- VDEC_RESET (R304). VDEC_CTX_CMD RESET discards waiting pictures and enters WAIT_KEY. -/
def execVdecReset (x : Nat) (s : State) : Host.Outcome State Fault Refusal :=
  .next (s.runHost (VDEC_CTX_CMD x) 2 (vdecReset x))

/-- DECODE_START (R283). An idle core takes the next picture of a ready context by precedence. -/
def execDecodeStart (core : Nat) (info : List PicInfo) (s : State) : Host.Outcome State Fault Refusal :=
  .next (s.runCore (decodeStart core info))

/-- DECODE_COMPLETE (R286). A picture's decode completes, with any concealment, and pictures are output with completion records. -/
def execDecodeComplete (core : Nat) (r : DecodeResult) (s : State) : Host.Outcome State Fault Refusal :=
  .next (s.runCore (decodeComplete core r))

/-- VENC_CTX_ENABLE (R301). Setting VENC_CTX_CFG.EN enables an encoder context, or is refused with CONFIG or REF_SPACE. -/
def execVencCtxEnable (e : Nat) (val : Word) (s : State) : Host.Outcome State Fault Refusal :=
  .next (s.runHost (VENC_CTX_CFG e) val (vencCtxEnable e val))

/-- VENC_IN_PUT (R295). A write of VENC_CTX_IN_PUT hands input descriptors to the encoder. -/
def execVencInPut (e : Nat) (val : Word) (s : State) : Host.Outcome State Fault Refusal :=
  .next (s.runHost (VENC_CTX_IN_PUT e) val (vencInPut e val))

/-- ENCODE_INSTANT (R295). At an encode instant the context takes its newest input and codes it, a repeat, or nothing, or drops the instant. -/
def execEncodeInstant (e : Nat) (s : State) : Host.Outcome State Fault Refusal :=
  .next (s.runCore (encodeInstant e))

/-- ENCODE_COMPLETE (R302). A picture's encode ends within its budget, writing its AU and record. -/
def execEncodeComplete (core : Nat) (r : EncodeResult) (s : State) : Host.Outcome State Fault Refusal :=
  .next (s.runCore (encodeComplete core r))

end Sys2Proof.Machine
end

