-- ==== Sys2Proof/Machine/MeaningsEhrus.lean ====
section
/-!
DEFINITION. The meanings of the commands of pairs and hierarchies, one definition for each row of the table.
-/

namespace Sys2Proof.Machine

/-- ALIVE (R419). An ALIVE message from the partner restarts its silence window. -/
def execAlive (h : MsgHdr) (pair : Nat) (inSync : Bool) (s : State) : Host.Outcome State Fault Refusal :=
  .next (s.runCore (alive h pair inSync))

/-- ALIVE_SEND (R419). Every 0.5 µs the device sends ALIVE on the pair link. -/
def execAliveSend (s : State) : Host.Outcome State Fault Refusal :=
  .next (s.runCore aliveSend)

/-- REGW (R426). A REGW message applies the primary's register writes on the secondary. -/
def execRegw (h : MsgHdr) (writes : List (Nat × Word)) (s : State) : Host.Outcome State Fault Refusal :=
  .next (s.runCore (regw h writes))

/-- STACK (R423). A STACK message registers a mirrored stream buffer on the secondary. -/
def execStack (h : MsgHdr) (m : StackMsg) (s : State) : Host.Outcome State Fault Refusal :=
  .next (s.runCore (stack h m))

/-- COMMIT (R423). A COMMIT message gives the secondary a registered commit and its layer tiles. -/
def execCommit (h : MsgHdr) (m : CommitMsg) (s : State) : Host.Outcome State Fault Refusal :=
  .next (s.runCore (commit h m))

/-- BUILD (R423). A BUILD message starts a build on the secondary with the primary's picture selection. -/
def execBuild (h : MsgHdr) (m : BuildMsg) (s : State) : Host.Outcome State Fault Refusal :=
  .next (s.runCore (build h m))

/-- FSTART (R422). An FSTART message starts the secondary's frame with the primary's latched inputs. -/
def execFstart (h : MsgHdr) (r : FrameRec) (s : State) : Host.Outcome State Fault Refusal :=
  .next (s.runCore (fstart h r))

/-- FEND (R422). An FEND message lets the secondary's frame complete or abort and apply the CORR deltas. -/
def execFend (h : MsgHdr) (r : FendRec) (s : State) : Host.Outcome State Fault Refusal :=
  .next (s.runCore (fend h r))

/-- HANDOVER (R427). A HANDOVER message makes the secondary take over at once. -/
def execHandover (h : MsgHdr) (s : State) : Host.Outcome State Fault Refusal :=
  .next (s.runCore (handover h))

/-- POWER (R430). A POWER message makes the partner follow a sleep or wake request. -/
def execPower (h : MsgHdr) (op : Nat) (s : State) : Host.Outcome State Fault Refusal :=
  .next (s.runAon (power h op))

/-- JOIN (R425). A JOIN message copies primary state into the secondary during a join or resync. -/
def execJoin (h : MsgHdr) (m : JoinMsg) (s : State) : Host.Outcome State Fault Refusal :=
  .next (s.runCore (join h m))

/-- TLID (R433). A TLID message marks a gated commit for application at time T and is forwarded down. -/
def execTlid (h : MsgHdr) (q : Nat) (t : Nat) (s : State) : Host.Outcome State Fault Refusal :=
  .next (s.runCore (tlid h q t))

/-- TRESET (R434). A TRESET message schedules a reset at time T and is forwarded down. -/
def execTreset (h : MsgHdr) (kind : Nat) (t : Nat) (s : State) : Host.Outcome State Fault Refusal :=
  .next (s.runCore (treset h kind t))

/-- TTIME (R435). A TTIME message disciplines the child's time from its parent. -/
def execTtime (h : MsgHdr) (ns : Nat) (s : State) : Host.Outcome State Fault Refusal :=
  .next (s.runCore (ttime h ns))

/-- TDELAY (R435). A TDELAY request or reply measures the link delay. -/
def execTdelay (h : MsgHdr) (m : TdelayMsg) (s : State) : Host.Outcome State Fault Refusal :=
  .next (s.runCore (tdelay h m))

/-- TARM (R436). A TARM message arms a snapshot or freeze for a target time. -/
def execTarm (h : MsgHdr) (freeze : Bool) (t : Nat) (s : State) : Host.Outcome State Fault Refusal :=
  .next (s.runCore (tarm h freeze t))

/-- TBCAST (R434). A TBCAST message writes broadcast data into HOST and is forwarded to children. -/
def execTbcast (h : MsgHdr) (mask : Nat) (a : Nat) (bs : List Byte) (s : State) : Host.Outcome State Fault Refusal :=
  .next (s.runCore (tbcast h mask a bs))

/-- TSTATUS (R419). A TSTATUS message reports a child's level, role and last Lid applied. -/
def execTstatus (h : MsgHdr) (s : State) : Host.Outcome State Fault Refusal :=
  .next (s.runCore (tstatus h))

/-- EHL_ACK (R418). An ACK block releases acknowledged messages from the transmitter. -/
def execEhlAck (l : Nat) (seq : Nat) (s : State) : Host.Outcome State Fault Refusal :=
  .next (s.runCore (ehlAck l seq))

/-- EHL_NAK (R418). A NAK block makes the transmitter replay from the failed SEQ. -/
def execEhlNak (l : Nat) (seq : Nat) (s : State) : Host.Outcome State Fault Refusal :=
  .next (s.runCore (ehlNak l seq))

/-- EHL_REPLAY_TIMEOUT (R418). No ACK within 2 µs makes the transmitter replay. -/
def execEhlReplayTimeout (l : Nat) (s : State) : Host.Outcome State Fault Refusal :=
  .next (s.runCore (ehlReplayTimeout l))

/-- TTIME_SEND (R419). Every 1 ms the parent sends TTIME on its down lanes. -/
def execTtimeSend (s : State) : Host.Outcome State Fault Refusal :=
  .next (s.runCore ttimeSend)

/-- TDELAY_EXCHANGE (R435). Every 1 ms a device sends a TDELAY request to its time source. -/
def execTdelayExchange (s : State) : Host.Outcome State Fault Refusal :=
  .next (s.runCore tdelayExchange)

/-- PAIR_LINK_UP (R421). The pair link comes up and arbitration sets the roles, with source 800. -/
def execPairLinkUp (theirs : PairFar) (prio : Bool) (uid : Nat) (s : State) : Host.Outcome State Fault Refusal :=
  .next (s.runCore (pairLinkUp theirs.pair prio uid theirs.eyes))

/-- PAIR_LINK_TIMEOUT (R421). LINKING lasts 100 ms without link, so the device becomes SOLO. -/
def execPairLinkTimeout (s : State) : Host.Outcome State Fault Refusal :=
  .next (s.runCore pairLinkTimeout)

/-- PARTNER_SILENT (R427). The ALIVE silence window ends, so the secondary takes over. -/
def execPartnerSilent (s : State) : Host.Outcome State Fault Refusal :=
  .next (s.runCore partnerSilent)

/-- LAG_MAX_REACHED (R424). The secondary's lag reaches EHL_LAG_MAX, so it loses sync. -/
def execLagMaxReached (s : State) : Host.Outcome State Fault Refusal :=
  .next (s.runCore lagMaxReached)

/-- EHL_RESYNC (R425). EHL_CMD RESYNC starts a resync. -/
def execEhlResync (s : State) : Host.Outcome State Fault Refusal :=
  .next (s.runHost EHL_CMD 1 ehlResync)

/-- EHL_HANDOVER (R427). EHL_CMD HANDOVER sends HANDOVER to an in-sync partner. -/
def execEhlHandover (s : State) : Host.Outcome State Fault Refusal :=
  .next (s.runHost EHL_CMD 2 ehlHandover)

/-- EHL_TAKEOVER (R427). EHL_CMD TAKEOVER makes the secondary take over. -/
def execEhlTakeover (s : State) : Host.Outcome State Fault Refusal :=
  .next (s.runHost EHL_CMD 3 ehlTakeover)

/-- TREE_LID (R433). EHL_CMD TREE_LID on the manager sends TLID with an apply time. -/
def execTreeLid (seq : Nat) (s : State) : Host.Outcome State Fault Refusal :=
  .next (s.runHost EHL_CMD 4 (treeLid seq))

/-- TREE_RESET (R434). EHL_CMD TREE_RESET on the manager sends TRESET with a reset kind. -/
def execTreeReset (kind : Nat) (s : State) : Host.Outcome State Fault Refusal :=
  .next (s.runHost EHL_CMD 5 (treeReset kind))

/-- SNAP_ARM (R436). EHL_CMD SNAP_ARM arms a snapshot of the tree. -/
def execSnapArm (s : State) : Host.Outcome State Fault Refusal :=
  .next (s.runHost EHL_CMD 6 snapArm)

/-- FREEZE_ARM (R436). EHL_CMD FREEZE_ARM arms a counter freeze of the tree. -/
def execFreezeArm (s : State) : Host.Outcome State Fault Refusal :=
  .next (s.runHost EHL_CMD 7 freezeArm)

/-- LID_APPLY (R433). At time T a gated commit named by a TLID becomes READY. -/
def execLidApply (s : State) : Host.Outcome State Fault Refusal :=
  .next (s.runCore lidApply)

/-- TREE_RESET_APPLY (R434). At time T every device applies the tree reset. -/
def execTreeResetApply (s : State) : Host.Outcome State Fault Refusal :=
  .next (s.runCore treeResetApply)

/-- SNAPSHOT_TAKE (R436). At the target time the device copies its snapshot registers or freeze image, with source 813. -/
def execSnapshotTake (s : State) : Host.Outcome State Fault Refusal :=
  .next (s.runCore snapshotTake)

/-- BCAST_START (R434). Setting EHL_BC_CTRL.START sends a broadcast to the named children. -/
def execBcastStart (val : Word) (s : State) : Host.Outcome State Fault Refusal :=
  .next (s.runHost EHL_BC_CTRL val (bcastStart val))

/-- BCAST_DONE (R434). Every device acknowledges the broadcast, or it fails, with source 815 or 814. -/
def execBcastDone (err : Nat) (s : State) : Host.Outcome State Fault Refusal :=
  .next (s.runCore (bcastDone err))

/-- PARENT_SILENT (R431). The active parent is silent for 10 µs, so the device moves to the next up lane. -/
def execParentSilent (s : State) : Host.Outcome State Fault Refusal :=
  .next (s.runCore parentSilent)

/-- LANE_DOWN (R438). An Ehrus lane leaves UP, with source 808. -/
def execLaneDown (l : Nat) (failed : Bool) (s : State) : Host.Outcome State Fault Refusal :=
  .next (s.runCore (laneDown l failed))

/-- TIME_LOCK_CHANGED (R435). Tree or pair time lock is gained after 1 s within ±20 ns, or lost. -/
def execTimeLockChanged (s : State) : Host.Outcome State Fault Refusal :=
  .next (s.runCore timeLockChanged)

end Sys2Proof.Machine
end

