-- ==== Sys2Proof/Machine/MeaningsEngine.lean ====
section
/-!
DEFINITION. The meanings of the commands of the ray engines, one definition for each row of the table.
-/

namespace Sys2Proof.Machine

/-- WORK_ITEM_DISPATCH (R107). An idle engine takes the next run or build item from its queue and starts at its entry point. -/
def execWorkItemDispatch (c : Nat) (build : Bool) (s : State) : Host.Outcome State Fault Refusal :=
  .next (s.runCore (workItemDispatch c build))

/-- ADD (R113). ADD writes a + b. -/
def execAdd (g : Nat) (ecc : Ecc) (s : State) : Host.Outcome State Fault Refusal :=
  .next (s.runCore (engAdd g ecc))

/-- SUB (R113). SUB writes a − b. -/
def execSub (g : Nat) (ecc : Ecc) (s : State) : Host.Outcome State Fault Refusal :=
  .next (s.runCore (engSub g ecc))

/-- MUL (R113). MUL writes the low 32 bits of a × b. -/
def execMul (g : Nat) (ecc : Ecc) (s : State) : Host.Outcome State Fault Refusal :=
  .next (s.runCore (engMul g ecc))

/-- MULH (R113). MULH writes the high 32 bits of the signed product. -/
def execMulh (g : Nat) (ecc : Ecc) (s : State) : Host.Outcome State Fault Refusal :=
  .next (s.runCore (engMulh g ecc))

/-- MULHU (R113). MULHU writes the high 32 bits of the unsigned product. -/
def execMulhu (g : Nat) (ecc : Ecc) (s : State) : Host.Outcome State Fault Refusal :=
  .next (s.runCore (engMulhu g ecc))

/-- AND (R113). AND writes a & b. -/
def execAnd (g : Nat) (ecc : Ecc) (s : State) : Host.Outcome State Fault Refusal :=
  .next (s.runCore (engAnd g ecc))

/-- OR (R113). OR writes a | b. -/
def execOr (g : Nat) (ecc : Ecc) (s : State) : Host.Outcome State Fault Refusal :=
  .next (s.runCore (engOr g ecc))

/-- XOR (R113). XOR writes a ^ b. -/
def execXor (g : Nat) (ecc : Ecc) (s : State) : Host.Outcome State Fault Refusal :=
  .next (s.runCore (engXor g ecc))

/-- SHL (R113). SHL shifts a left by n. -/
def execShl (g : Nat) (ecc : Ecc) (s : State) : Host.Outcome State Fault Refusal :=
  .next (s.runCore (engShl g ecc))

/-- SHR (R113). SHR shifts a right by n with zero fill. -/
def execShr (g : Nat) (ecc : Ecc) (s : State) : Host.Outcome State Fault Refusal :=
  .next (s.runCore (engShr g ecc))

/-- SRA (R113). SRA shifts a right by n with sign fill. -/
def execSra (g : Nat) (ecc : Ecc) (s : State) : Host.Outcome State Fault Refusal :=
  .next (s.runCore (engSra g ecc))

/-- SRAR (R113). SRAR shifts a right by n with rounding and sign fill. -/
def execSrar (g : Nat) (ecc : Ecc) (s : State) : Host.Outcome State Fault Refusal :=
  .next (s.runCore (engSrar g ecc))

/-- MIN (R113). MIN writes the signed minimum. -/
def execMin (g : Nat) (ecc : Ecc) (s : State) : Host.Outcome State Fault Refusal :=
  .next (s.runCore (engMin g ecc))

/-- MAX (R113). MAX writes the signed maximum. -/
def execMax (g : Nat) (ecc : Ecc) (s : State) : Host.Outcome State Fault Refusal :=
  .next (s.runCore (engMax g ecc))

/-- MINU (R113). MINU writes the unsigned minimum. -/
def execMinu (g : Nat) (ecc : Ecc) (s : State) : Host.Outcome State Fault Refusal :=
  .next (s.runCore (engMinu g ecc))

/-- MAXU (R113). MAXU writes the unsigned maximum. -/
def execMaxu (g : Nat) (ecc : Ecc) (s : State) : Host.Outcome State Fault Refusal :=
  .next (s.runCore (engMaxu g ecc))

/-- CLAMPU (R113). CLAMPU clamps a to the range 0 to b. -/
def execClampu (g : Nat) (ecc : Ecc) (s : State) : Host.Outcome State Fault Refusal :=
  .next (s.runCore (engClampu g ecc))

/-- SEL (R113). SEL writes a or b as p selects. -/
def execSel (g : Nat) (ecc : Ecc) (s : State) : Host.Outcome State Fault Refusal :=
  .next (s.runCore (engSel g ecc))

/-- CMPEQ (R113). CMPEQ writes whether a equals b. -/
def execCmpeq (g : Nat) (ecc : Ecc) (s : State) : Host.Outcome State Fault Refusal :=
  .next (s.runCore (engCmpeq g ecc))

/-- CMPLT (R113). CMPLT writes whether a < b, signed. -/
def execCmplt (g : Nat) (ecc : Ecc) (s : State) : Host.Outcome State Fault Refusal :=
  .next (s.runCore (engCmplt g ecc))

/-- CMPLTU (R113). CMPLTU writes whether a < b, unsigned. -/
def execCmpltu (g : Nat) (ecc : Ecc) (s : State) : Host.Outcome State Fault Refusal :=
  .next (s.runCore (engCmpltu g ecc))

/-- CMPLE (R113). CMPLE writes whether a ≤ b, signed. -/
def execCmple (g : Nat) (ecc : Ecc) (s : State) : Host.Outcome State Fault Refusal :=
  .next (s.runCore (engCmple g ecc))

/-- ABS (R113). ABS writes |a|. -/
def execAbs (g : Nat) (ecc : Ecc) (s : State) : Host.Outcome State Fault Refusal :=
  .next (s.runCore (engAbs g ecc))

/-- CLZ (R113). CLZ writes the leading-zero count of a. -/
def execClz (g : Nat) (ecc : Ecc) (s : State) : Host.Outcome State Fault Refusal :=
  .next (s.runCore (engClz g ecc))

/-- MULSR (R113). MULSR writes the rounded, shifted signed 64-bit product. -/
def execMulsr (g : Nat) (ecc : Ecc) (s : State) : Host.Outcome State Fault Refusal :=
  .next (s.runCore (engMulsr g ecc))

/-- MOVI (R114). MOVI loads a sign-extended 16-bit immediate into a scalar register. -/
def execMovi (g : Nat) (ecc : Ecc) (s : State) : Host.Outcome State Fault Refusal :=
  .next (s.runCore (engMovi g ecc))

/-- MOVHI (R114). MOVHI sets the upper half of a scalar register. -/
def execMovhi (g : Nat) (ecc : Ecc) (s : State) : Host.Outcome State Fault Refusal :=
  .next (s.runCore (engMovhi g ecc))

/-- VMOVI (R114). VMOVI loads an immediate into the lanes of a vector register under PM. -/
def execVmovi (g : Nat) (ecc : Ecc) (s : State) : Host.Outcome State Fault Refusal :=
  .next (s.runCore (engVmovi g ecc))

/-- BCST (R114). BCST broadcasts a scalar into the lanes under PM. -/
def execBcst (g : Nat) (ecc : Ecc) (s : State) : Host.Outcome State Fault Refusal :=
  .next (s.runCore (engBcst g ecc))

/-- LANEID (R114). LANEID writes each lane's number under PM. -/
def execLaneid (g : Nat) (ecc : Ecc) (s : State) : Host.Outcome State Fault Refusal :=
  .next (s.runCore (engLaneid g ecc))

/-- VEXT (R114). VEXT extracts one lane into a scalar register. -/
def execVext (g : Nat) (ecc : Ecc) (s : State) : Host.Outcome State Fault Refusal :=
  .next (s.runCore (engVext g ecc))

/-- VINS (R114). VINS inserts a scalar into one lane. -/
def execVins (g : Nat) (ecc : Ecc) (s : State) : Host.Outcome State Fault Refusal :=
  .next (s.runCore (engVins g ecc))

/-- PLOGIC (R114). PLOGIC combines two predicate registers. -/
def execPlogic (g : Nat) (ecc : Ecc) (s : State) : Host.Outcome State Fault Refusal :=
  .next (s.runCore (engPlogic g ecc))

/-- PANY (R114). PANY writes whether any predicate bit is set. -/
def execPany (g : Nat) (ecc : Ecc) (s : State) : Host.Outcome State Fault Refusal :=
  .next (s.runCore (engPany g ecc))

/-- PCNT (R114). PCNT counts the predicate bits that are set. -/
def execPcnt (g : Nat) (ecc : Ecc) (s : State) : Host.Outcome State Fault Refusal :=
  .next (s.runCore (engPcnt g ecc))

/-- LDS (R114). LDS loads 4 bytes of local store into a scalar register. -/
def execLds (g : Nat) (ecc : Ecc) (s : State) : Host.Outcome State Fault Refusal :=
  .next (s.runCore (engLds g ecc))

/-- STS (R114). STS stores a scalar register to local store. -/
def execSts (g : Nat) (ecc : Ecc) (s : State) : Host.Outcome State Fault Refusal :=
  .next (s.runCore (engSts g ecc))

/-- LDV (R114). LDV loads 64 bytes of local store into a vector register under PM. -/
def execLdv (g : Nat) (ecc : Ecc) (s : State) : Host.Outcome State Fault Refusal :=
  .next (s.runCore (engLdv g ecc))

/-- STV (R114). STV stores the lanes under PM of a vector register to local store. -/
def execStv (g : Nat) (ecc : Ecc) (s : State) : Host.Outcome State Fault Refusal :=
  .next (s.runCore (engStv g ecc))

/-- LDX (R114). LDX gathers lanes from per-lane local-store addresses. -/
def execLdx (g : Nat) (ecc : Ecc) (s : State) : Host.Outcome State Fault Refusal :=
  .next (s.runCore (engLdx g ecc))

/-- STX (R114). STX scatters lanes to per-lane local-store addresses. -/
def execStx (g : Nat) (ecc : Ecc) (s : State) : Host.Outcome State Fault Refusal :=
  .next (s.runCore (engStx g ecc))

/-- DMRD (R115). DMRD starts a transfer from device memory to local store under a tag. -/
def execDmrd (g : Nat) (ecc : Ecc) (s : State) : Host.Outcome State Fault Refusal :=
  .next (s.runCore (engDmrd g ecc))

/-- DMWR (R115). DMWR starts a transfer from local store into a build engine's window of device memory. -/
def execDmwr (g : Nat) (ecc : Ecc) (s : State) : Host.Outcome State Fault Refusal :=
  .next (s.runCore (engDmwr g ecc))

/-- DMWAIT (R114). DMWAIT waits for one DMA tag or for all of them. -/
def execDmwait (g : Nat) (ecc : Ecc) (s : State) : Host.Outcome State Fault Refusal :=
  .next (s.runCore (engDmwait g ecc))

/-- RDCSR (R105). RDCSR reads a control register into a scalar register. -/
def execRdcsr (g : Nat) (ecc : Ecc) (s : State) : Host.Outcome State Fault Refusal :=
  .next (s.runCore (engRdcsr g ecc))

/-- WRCSR (R105). WRCSR writes a scratch control register. -/
def execWrcsr (g : Nat) (ecc : Ecc) (s : State) : Host.Outcome State Fault Refusal :=
  .next (s.runCore (engWrcsr g ecc))

/-- FENCE (R114). FENCE waits until every earlier instruction, emitted codes included, has completed. -/
def execFence (g : Nat) (ecc : Ecc) (s : State) : Host.Outcome State Fault Refusal :=
  .next (s.runCore (engFence g ecc))

/-- SMP (R116). SMP takes a bilinear sample of a plane along a ray quad. -/
def execSmp (g : Nat) (ecc : Ecc) (s : State) : Host.Outcome State Fault Refusal :=
  .next (s.runCore (engSmp g ecc))

/-- SMPN (R116). SMPN samples a plane with the nearest-tap rule. -/
def execSmpn (g : Nat) (ecc : Ecc) (s : State) : Host.Outcome State Fault Refusal :=
  .next (s.runCore (engSmpn g ecc))

/-- SMPO (R132). SMPO samples one plane, composites it into the accumulator and clears terminated lanes. -/
def execSmpo (g : Nat) (ecc : Ecc) (s : State) : Host.Outcome State Fault Refusal :=
  .next (s.runCore (engSmpo g ecc))

/-- SWEEP (R116). SWEEP runs SMPO over a range of planes until no lane remains. -/
def execSweep (g : Nat) (ecc : Ecc) (s : State) : Host.Outcome State Fault Refusal :=
  .next (s.runCore (engSweep g ecc))

/-- OCC (R116). OCC marks the lanes whose footprint on a plane touches a present tile. -/
def execOcc (g : Nat) (ecc : Ecc) (s : State) : Host.Outcome State Fault Refusal :=
  .next (s.runCore (engOcc g ecc))

/-- PFT (R116). PFT prefetches the plane-cache lines of lanes' taps. -/
def execPft (g : Nat) (ecc : Ecc) (s : State) : Host.Outcome State Fault Refusal :=
  .next (s.runCore (engPft g ecc))

/-- DRIVE (R254). DRIVE turns composited values into 12-bit current codes. -/
def execDrive (g : Nat) (ecc : Ecc) (s : State) : Host.Outcome State Fault Refusal :=
  .next (s.runCore (engDrive g ecc))

/-- EMIT (R117). EMIT sends codes at ray indices towards the mirror and the panel link. -/
def execEmit (g : Nat) (ecc : Ecc) (s : State) : Host.Outcome State Fault Refusal :=
  .next (s.runCore (engEmit g ecc))

/-- TWR (R118). TWR writes a tile from local store into an allocated slot of the camera buffer being filled. -/
def execTwr (g : Nat) (ecc : Ecc) (s : State) : Host.Outcome State Fault Refusal :=
  .next (s.runCore (engTwr g ecc))

/-- BR (R114). BR branches unconditionally. -/
def execBr (g : Nat) (ecc : Ecc) (s : State) : Host.Outcome State Fault Refusal :=
  .next (s.runCore (engBr g ecc))

/-- BZ (R114). BZ branches if a scalar register is zero. -/
def execBz (g : Nat) (ecc : Ecc) (s : State) : Host.Outcome State Fault Refusal :=
  .next (s.runCore (engBz g ecc))

/-- BNZ (R114). BNZ branches if a scalar register is nonzero. -/
def execBnz (g : Nat) (ecc : Ecc) (s : State) : Host.Outcome State Fault Refusal :=
  .next (s.runCore (engBnz g ecc))

/-- CALL (R114). CALL writes the link to sx31 and branches. -/
def execCall (g : Nat) (ecc : Ecc) (s : State) : Host.Outcome State Fault Refusal :=
  .next (s.runCore (engCall g ecc))

/-- RET (R114). RET jumps to sx31. -/
def execRet (g : Nat) (ecc : Ecc) (s : State) : Host.Outcome State Fault Refusal :=
  .next (s.runCore (engRet g ecc))

/-- VBANY (R114). VBANY branches if any bit of a predicate is set. -/
def execVbany (g : Nat) (ecc : Ecc) (s : State) : Host.Outcome State Fault Refusal :=
  .next (s.runCore (engVbany g ecc))

/-- VBNONE (R114). VBNONE branches if no bit of a predicate is set. -/
def execVbnone (g : Nat) (ecc : Ecc) (s : State) : Host.Outcome State Fault Refusal :=
  .next (s.runCore (engVbnone g ecc))

/-- DONE (R117). DONE ends the work item, after checking that every ray has been emitted. -/
def execDone (g : Nat) (ecc : Ecc) (s : State) : Host.Outcome State Fault Refusal :=
  .next (s.runCore (engDone g ecc))

/-- TRAP (R119). TRAP raises fault TRAP with a code. -/
def execTrap (g : Nat) (ecc : Ecc) (s : State) : Host.Outcome State Fault Refusal :=
  .next (s.runCore (engTrap g ecc))

/-- DMA_TRANSFER_COMPLETE (R115). A DMRD or DMWR transfer completes and releases its tag, or faults with DM_POISON. -/
def execDmaTransferComplete (g : Nat) (tr : DmaDone) (s : State) : Host.Outcome State Fault Refusal :=
  .next (s.runCore (dmaTransferComplete g tr.tag tr.ecc))

/-- WI_TIMEOUT (R119). A work item runs CH_WI_LIMIT cycles and faults with TIMEOUT. -/
def execWiTimeout (g : Nat) (s : State) : Host.Outcome State Fault Refusal :=
  .next (s.runCore (wiTimeout g))

/-- ENG_RELOAD_START (R110). One cycle after a fault, the engine enters RELOAD. -/
def execEngReloadStart (g : Nat) (s : State) : Host.Outcome State Fault Refusal :=
  .next (s.runCore (engReloadStart g))

/-- ENG_RELOAD_DONE (R110). The engine's local store has been rewritten and scrubbed, so it becomes PARKED, or OFFLINE with RELOAD_FAIL. -/
def execEngReloadDone (g : Nat) (ok : Bool) (s : State) : Host.Outcome State Fault Refusal :=
  .next (s.runCore (engReloadDone g ok))

/-- LS_SCRUB (R96). The patrol scrubber reads and corrects one local-store word every CH_SCRUB.INTERVAL cycles. -/
def execLsScrub (c : Nat) (corrected : Nat) (uncorrectable : Nat) (s : State) : Host.Outcome State Fault Refusal :=
  .next (s.runCore (lsScrub c corrected uncorrectable))

/-- PC_LINE_FILL (R97). A plane-cache line arrives from memory and is corrected, or is discarded and fetched again. -/
def execPcLineFill (g : Nat) (line : Nat) (ecc : Ecc) (s : State) : Host.Outcome State Fault Refusal :=
  .next (s.runCore (pcLineFill g line ecc))

/-- ENG_ENABLE_WRITE (R110). A write of CH_ENG_ENABLE takes engines offline after their current item, or allows them to take work. -/
def execEngEnableWrite (c : Nat) (val : Word) (s : State) : Host.Outcome State Fault Refusal :=
  .next (s.runHost (CH_ENG_ENABLE c) val (engEnableWrite c val))

/-- DBG_DATA_ACCESS (R123). An access to CH_DBG_DATA reads or writes an offline engine's local store, or is refused. -/
def execDbgDataAccess (c : Nat) (isWrite : Bool) (data : DbgWord) (s : State) : Host.Outcome State Fault Refusal :=
  .next (s.keepQueue (if c < 4 then s.debugAccess c isWrite data.word data.ecc else s))

end Sys2Proof.Machine
end

