-- ==== Sys2Proof/Machine/MeaningsEvents.lean ====
section
/-!
DEFINITION. The meanings of the commands of the event controller, one definition for each row of the table.
-/

namespace Sys2Proof.Machine

/-- EVENT_TICK (R388). At the end of an event tick the raised sources form one record, which is queued for the ring, lost, or sent to the early queue. -/
def execEventTick (s : State) : Host.Outcome State Fault Refusal :=
  .next (s.runAon eventTickEnd)

/-- RING_WRITE_DONE (R390). The last entry of a record lands, so EVC_RING_WR advances and its MSI-X messages are sent. -/
def execRingWriteDone (s : State) : Host.Outcome State Fault Refusal :=
  .next (s.runCore ringWriteDone)

/-- MSIX_MODERATION_EXPIRE (R395). A class moderation window ends, and the deferred messages are sent. -/
def execMsixModerationExpire (c : Nat) (s : State) : Host.Outcome State Fault Refusal :=
  .next (s.runCore (moderationExpire c))

/-- MSIX_UNMASK (R394). Clearing a function or vector mask sends the pending message once. -/
def execMsixUnmask (v : Option Nat) (s : State) : Host.Outcome State Fault Refusal :=
  .next (s.keepQueue (match v with
    | some n => s.hostDo (MSIX_TABLE (4 * n + 3)) 0 (msixUnmask (some n))
    | none => if s.pwr.rails.powerGood then msixUnmask none s else s))

/-- SW_RAISE (R396). A write of EVC_SW_RAISE raises a software source, or is refused with source 898. -/
def execSwRaise (val : Word) (s : State) : Host.Outcome State Fault Refusal :=
  .next (s.runHost EVC_SW_RAISE val (swRaise val))

/-- EARLY_POP (R392). EVC_EARLY_POP removes the head entry of the early queue. -/
def execEarlyPop (s : State) : Host.Outcome State Fault Refusal :=
  .next (s.runHost EVC_EARLY_POP 1 earlyPop)

/-- RING_ENABLE (R392). Setting EVC_CTRL.RING_EN moves early records to the ring and directs new records there. -/
def execRingEnable (val : Word) (s : State) : Host.Outcome State Fault Refusal :=
  .next (s.runHost EVC_CTRL val (ringEnable val))

/-- TICK_DIV_WRITE (R386). A write of EVC_TICK sets the tick period from the next boundary. -/
def execTickDivWrite (val : Word) (s : State) : Host.Outcome State Fault Refusal :=
  .next (s.runHost EVC_TICK val (tickDivWrite val))

end Sys2Proof.Machine
end

