-- ==== Sys2Proof/Machine/MeaningsFrame.lean ====
section
/-!
DEFINITION. The meanings of the commands of frames, cameras and the composer, one definition for each row of the table.
-/

namespace Sys2Proof.Machine

/-- EYE_SET_COMMIT (R135). A write of CMP_SYN_EYE_SEQ commits the shadow eye set. -/
def execEyeSetCommit (val : Word) (s : State) : Host.Outcome State Fault Refusal :=
  .next (s.runHost CMP_SYN_EYE_SEQ val (eyeSetCommit val))

/-- EYE_STALE (R136). CMP_SYN_EYE_AGE frame starts pass without a commit, so the eye set becomes stale, with source 280. -/
def execEyeStale (s : State) : Host.Outcome State Fault Refusal :=
  .next (s.runCore eyeStale)

/-- FRAME_START (R199). A frame starts at the first tick after its earliest start with a trigger held, and the Composer latches the committed state. -/
def execFrameStart (s : State) : Host.Outcome State Fault Refusal :=
  .next (s.runCore frameStart)

/-- FRAME_FORCED (R199). MAX_NS elapses after the last frame start, so a frame is forced, with source 259. -/
def execFrameForced (s : State) : Host.Outcome State Fault Refusal :=
  .next (s.runCore frameForced)

/-- FRAME_SETUP_DONE (R150). Frame-start processing ends, with classes, damage, rectangles and shares valid, and dispatch of runs begins. -/
def execFrameSetupDone (s : State) : Host.Outcome State Fault Refusal :=
  .next (s.runCore frameSetupDone)

/-- CAM_ENABLE (R154). Setting CMP_CAM_CFG.ENABLE starts build instants, or is refused with SKIP STREAM. -/
def execCamEnable (s : State) : Host.Outcome State Fault Refusal :=
  .next (s.runHost CMP_CAM_CFG (s.rd CMP_CAM_CFG ||| 1) camEnable)

/-- RIG_SELECT (R158). A write of CMP_CAM_RIG_SEL requests a rig copy for checking at the next build instant. -/
def execRigSelect (val : Word) (s : State) : Host.Outcome State Fault Refusal :=
  .next (s.runHost CMP_CAM_RIG_SEL val (rigSelect val))

/-- CAM_RESTART (R165). CMP_CAM_CMD RESTART makes the next build start from an empty stack. -/
def execCamRestart (s : State) : Host.Outcome State Fault Refusal :=
  .next (s.runHost CMP_CAM_CMD 1 camRestart)

/-- BUILD_INSTANT (R162). At a build instant the sequencer selects pictures, updates camera states and queues build items, or skips the build. -/
def execBuildInstant (s : State) : Host.Outcome State Fault Refusal :=
  .next (s.runCore buildInstant)

/-- LID_COMMIT (R196). A CMP_LID write of class DISPLAY copies the shadow set into a commit and starts its preparation, or is refused as BUSY. -/
def execLidCommit (val : Word) (s : State) : Host.Outcome State Fault Refusal :=
  .next (s.runHost CMP_LID val (lidCommit val))

/-- COMMIT_PREP_DONE (R196). A commit's preparation ends, so it registers and becomes READY, or fails with a code. -/
def execCommitPrepDone (s : State) : Host.Outcome State Fault Refusal :=
  .next (s.runCore commitPrepDone)

/-- LID_OFFSCREEN (R205). A CMP_LID write of class OFFSCREEN starts an offscreen composition. -/
def execLidOffscreen (val : Word) (s : State) : Host.Outcome State Fault Refusal :=
  .next (s.runHost CMP_LID val (lidOffscreen val))

/-- OFFSCREEN_DONE (R205). An offscreen composition completes or fails, with source 266 or 267. -/
def execOffscreenDone (s : State) : Host.Outcome State Fault Refusal :=
  .next (s.runCore offscreenDone)

/-- LAYER_FENCE (R201). A write of CMP_LYR_FENCE signals pending layers, which then start rasterising. -/
def execLayerFence (val : Word) (s : State) : Host.Outcome State Fault Refusal :=
  .next (s.runHost CMP_LYR_FENCE val (layerFence val))

/-- LATE_LAYER_READY (R201). A pending layer finishes rasterising and becomes ready, so it triggers a frame. -/
def execLateLayerReady (l : Nat) (s : State) : Host.Outcome State Fault Refusal :=
  .next (s.runCore (lateLayerReady l))

/-- OVERLAY_FIELD_STALE (R193). A field's last passing message ages beyond MAX_AGE_MS, so the field goes STALE and is hatched. -/
def execOverlayFieldStale (f : Nat) (s : State) : Host.Outcome State Fault Refusal :=
  .next (s.runCore (overlayFieldStale f))

/-- WB_HELD_CLEAR (R203). Clearing a CMP_WB_HELD bit returns a writeback buffer to rotation. -/
def execWbHeldClear (val : Word) (s : State) : Host.Outcome State Fault Refusal :=
  .next (s.runHost CMP_WB_HELD val (wbHeldClear val))

end Sys2Proof.Machine
end

