-- ==== Sys2Proof/Machine/MeaningsHost.lean ====
section
/-!
DEFINITION. The meanings of the commands of host accesses to registers and memory, one definition for each row of the table.
-/

namespace Sys2Proof.Machine

/-- REGISTER_WRITE (R5). A host write to a register field that has no row of its own sets the value by its access code. -/
def execRegisterWrite (off : Nat) (val : Word) (s : State) : Host.Outcome State Fault Refusal :=
  .next (s.runAlways (registerWrite off val))

/-- OFF_DOMAIN_ACCESS (R21). An access to a register of a powered-off block or a gated channel reads 0, discards the write and raises source 7. -/
def execOffDomainAccess (off : Nat) (isWrite : Bool) (val : Word) (s : State) : Host.Outcome State Fault Refusal :=
  .next (s.runAlways (offDomainAccess off isWrite val))

/-- BAR0_MALFORMED_REQUEST (R443). A BAR0 request longer than one DW or with partial byte enables is discarded or read as 0 and recorded with KIND SIZE. -/
def execBar0MalformedRequest (off : Nat) (isWrite : Bool) (dws : Nat) (be : Nat) (s : State) : Host.Outcome State Fault Refusal :=
  .next (s.runAlways (bar0MalformedRequest off isWrite dws be))

/-- BAR0_UNDEFINED_ACCESS (R443). An aligned access to an undefined BAR0 offset reads 0 or is discarded and raises source 2. -/
def execBar0UndefinedAccess (off : Nat) (isWrite : Bool) (val : Word) (s : State) : Host.Outcome State Fault Refusal :=
  .next (s.runAlways (bar0UndefinedAccess off isWrite val))

/-- BAR2_WRITE (R445). A host write through BAR2 is judged byte by byte against training, range, regions, poison and leases. -/
def execBar2Write (off : Nat) (bytes : List Byte) (s : State) : Host.Outcome State Fault Refusal :=
  .next (s.runAlways (bar2Write off bytes))

/-- BAR2_READ (R445). A host read through BAR2 returns memory, zeros or a poisoned completion byte by byte. -/
def execBar2Read (off : Nat) (len : Nat) (s : State) : Host.Outcome State Fault Refusal :=
  .next (s.runAlways (bar2Read off len))

end Sys2Proof.Machine
end

