-- ==== Sys2Proof/Machine/MeaningsImage.lean ====
section
/-!
DEFINITION. The meanings of the commands of the image, its checks, keys and reloads, one definition for each row of the table.
-/

namespace Sys2Proof.Machine

/-- CSU_LOAD (R48). CSU_CMD LOAD starts the checking of a pushed full image. -/
def execCsuLoad (s : State) : Host.Outcome State Fault Refusal :=
  .next (s.runHost CSU_CMD 1 csuLoad)

/-- CSU_VERIFY (R49). CSU_CMD VERIFY starts checks 1 to 9 on a pushed image without applying it. -/
def execCsuVerify (s : State) : Host.Outcome State Fault Refusal :=
  .next (s.runHost CSU_CMD 2 csuVerify)

/-- CSU_RELOAD (R54). CSU_CMD RELOAD starts checking a channel image for a one-channel reload. -/
def execCsuReload (s : State) : Host.Outcome State Fault Refusal :=
  .next (s.runHost CSU_CMD 3 csuReload)

/-- CSU_CANCEL (R56). CSU_CMD CANCEL returns a reload in CHECKING, STAGED or FAILED to IDLE. -/
def execCsuCancel (s : State) : Host.Outcome State Fault Refusal :=
  .next (s.runHost CSU_CMD 4 csuCancel)

/-- IMAGE_CHECK_COMPLETE (R48). The CSU finishes checking an image and records pass or the first failing code. -/
def execImageCheckComplete (flash : List Byte) (s : State) : Host.Outcome State Fault Refusal :=
  .next (s.runCore (imageCheckComplete flash))

/-- SPI_ID_TIMEOUT (R46). The JEDEC identification still reads all 0x00 or 0xFF after 10 ms, so the SPI sources end with code SPI. -/
def execSpiIdTimeout (s : State) : Host.Outcome State Fault Refusal :=
  .next (s.runCore spiIdTimeout)

/-- KEY_PROGRAM (R43). CSU_KEY_CMD PROGRAM starts blowing a staged key digest into an empty slot, or is refused. -/
def execKeyProgram (slot : Nat) (s : State) : Host.Outcome State Fault Refusal :=
  .next (s.runHost CSU_KEY_CMD 0 (keyProgram slot))

/-- KEY_REVOKE (R43). CSU_KEY_CMD REVOKE blows a slot's revoke fuse, or is refused. -/
def execKeyRevoke (slot : Nat) (s : State) : Host.Outcome State Fault Refusal :=
  .next (s.runHost CSU_KEY_CMD 0 (keyRevoke slot))

/-- ROLLBACK_PROGRAM (R44). A write to CSU_ROLLBACK_CMD with target t starts advancing the rollback fuse count. -/
def execRollbackProgram (target : Nat) (s : State) : Host.Outcome State Fault Refusal :=
  .next (s.runHost CSU_ROLLBACK_CMD 0 (rollbackProgram target))

/-- FUSE_BLOW_COMPLETE (R43). One fuse finishes blowing and verifying, and the key or rollback operation goes on or completes with source 38 or 39. -/
def execFuseBlowComplete (ok : Bool) (s : State) : Host.Outcome State Fault Refusal :=
  .next (s.runCore (fuseBlowComplete ok))

/-- RELOAD_LOADING_DONE (R54). Programs are written and local stores scrubbed, so the reload enters READY. -/
def execReloadLoadingDone (ok : Bool) (s : State) : Host.Outcome State Fault Refusal :=
  .next (s.runCore (reloadLoadingDone ok))

end Sys2Proof.Machine
end

