-- ==== Sys2Proof/Machine/MeaningsMemory.lean ====
section
/-!
DEFINITION. The meanings of the commands of the memory subsystem, one definition for each row of the table.
-/

namespace Sys2Proof.Machine

/-- MEM_READ (R343). A client's read of a line is decoded as clean, corrected, poison or uncorrectable. -/
def execMemRead (client : Nat) (rank : Nat) (a : Nat) (latency : Nat) (faults : List LineFault) (s : State) : Host.Outcome State Fault Refusal :=
  .next (s.runCore (thenStaged (memReadLine client rank a latency faults)))

/-- MEM_WRITE (R345). A client's write stores a whole word or does a read-modify-write. -/
def execMemWrite (client : Nat) (rank : Nat) (a : Nat) (latency : Nat) (bytes : List Byte) (faults : List LineFault) (s : State) : Host.Outcome State Fault Refusal :=
  .next (s.runCore (thenStaged (memWriteLine client rank a latency bytes faults)))

/-- SCRUB_READ (R348). The patrol scrubber reads the next line of device memory. -/
def execScrubRead (line : ScrubLine) (s : State) : Host.Outcome State Fault Refusal :=
  .next (s.runCore (thenStaged (scrubRead line.latency line.faults)))

/-- REFRESH (R353). A controller refreshes its next bank at the refresh interval. -/
def execRefresh (p : Nat) (s : State) : Host.Outcome State Fault Refusal :=
  .next (s.runCore (refreshBank p))

/-- HBM_TEMP_READ (R353). Every 1 ms each stack temperature is read and the refresh rate set. -/
def execHbmTempRead (t0 : Int) (t1 : Int) (s : State) : Host.Outcome State Fault Refusal :=
  .next (s.runAon (hbmTempRead t0 t1))

/-- SELF_REFRESH_ENTER (R355). A stack idle for MEM_SR_IDLE enters self-refresh. -/
def execSelfRefreshEnter (k : Nat) (s : State) : Host.Outcome State Fault Refusal :=
  .next (s.runCore (selfRefreshEnter k))

/-- HBM_TRAINING_DONE (R356). Power-up training ends, putting pseudo-channels in service, retiring them, or failing the memory. -/
def execHbmTrainingDone (results : List (List Window)) (s : State) : Host.Outcome State Fault Refusal :=
  .next (s.runCore (hbmTrainingDone results))

/-- MEM_RETIRE_CMD (R359). MEM_CMD RETIRE starts retirement of a named pseudo-channel. -/
def execMemRetireCmd (val : Word) (s : State) : Host.Outcome State Fault Refusal :=
  .next (s.runHost MEM_CMD val (memRetireCmd val))

/-- RETIRE_PRESET (R361). A write of MEM_RETIRE_PRESET while UNTOUCHED retires pseudo-channels at once. -/
def execRetirePreset (val : Word) (s : State) : Host.Outcome State Fault Refusal :=
  .next (s.runHost MEM_RETIRE_PRESET val (retirePreset val))

/-- MIGRATION_COPY (R360). Every INTERVAL cycles the migration copies one trio line into the spare and advances its pointer. -/
def execMigrationCopy (bad : List Nat) (s : State) : Host.Outcome State Fault Refusal :=
  .next (s.runCore (thenStaged (migrationCopy bad)))

end Sys2Proof.Machine
end

