-- ==== Sys2Proof/Machine/MeaningsNet.lean ====
section
/-!
DEFINITION. The meanings of the commands of the network, one definition for each row of the table.
-/

namespace Sys2Proof.Machine

/-- RX_FRAME (R310). A frame completes reception on a port and is checked, de-duplicated, classified, metered and admitted. -/
def execRxFrame (p : Nat) (bytes : List Byte) (capture : Nat) (s : State) : Host.Outcome State Fault Refusal :=
  .next (s.runAon (rxFrame p bytes capture))

/-- INGRESS_DRAIN (R330). An admitted frame drains from the ingress buffer to its destination by rank. -/
def execIngressDrain (s : State) : Host.Outcome State Fault Refusal :=
  .next (s.runCore ingressDrain)

/-- TX_FRAME (R333). At a frame boundary a port sends from the highest eligible egress queue. -/
def execTxFrame (p : Nat) (capture : Nat) (s : State) : Host.Outcome State Fault Refusal :=
  .next (s.runCore (txFrame p capture))

/-- EGRESS_DELAY_DROP (R333). A head frame still queued at its delay bound is dropped as a ranked loss. -/
def execEgressDelayDrop (p : Nat) (q : Nat) (s : State) : Host.Outcome State Fault Refusal :=
  .next (s.runCore (egressDelayDrop p q))

/-- HTX_PUT (R326). A write of NET_HTX_PUT hands host transmit descriptors to the port. -/
def execHtxPut (r : Nat) (val : Word) (s : State) : Host.Outcome State Fault Refusal :=
  .next (s.runHost (NET_HTX_PUT r) val (htxPut r val))

/-- ENC_TX_AU (R327). The network unit packetises an encoder output AU into RTP frames. -/
def execEncTxAu (e : Nat) (s : State) : Host.Outcome State Fault Refusal :=
  .next (s.runCore (encTxAu e))

/-- SIEVE_REFILL (R329). At each event tick every Sieve bucket is refilled. -/
def execSieveRefill (s : State) : Host.Outcome State Fault Refusal :=
  .next (s.runCore sieveRefill)

/-- PRP_SUPERVISION_SEND (R311). Every SUP_MS a supervision frame is sent on both ports. -/
def execPrpSupervisionSend (s : State) : Host.Outcome State Fault Refusal :=
  .next (s.runCore prpSupervisionSend)

/-- PRP_LAN_LOST (R311). A node goes unheard on one LAN for 3 × SUP_MS, with source 516 + 32p. -/
def execPrpLanLost (node : Nat) (p : Nat) (s : State) : Host.Outcome State Fault Refusal :=
  .next (s.runCore (prpLanLost node p))

/-- PRP_NODE_FORGET (R311). A node-table entry with no frame for FORGET_MS is cleared. -/
def execPrpNodeForget (node : Nat) (s : State) : Host.Outcome State Fault Refusal :=
  .next (s.runCore (prpNodeForget node))

/-- PORT_LINK_UP (R337). A port gains link, with source 512 + 32p. -/
def execPortLinkUp (p : Nat) (fec : Nat) (s : State) : Host.Outcome State Fault Refusal :=
  .next (s.runCore (portLinkUp p fec))

/-- PORT_LINK_DOWN (R337). A port loses link, with source 513 + 32p. -/
def execPortLinkDown (p : Nat) (s : State) : Host.Outcome State Fault Refusal :=
  .next (s.runCore (portLinkDown p))

/-- FLOW_READ (R322). NET_FLOW_CMD READ copies a flow context into NET_FLOW_DATA. -/
def execFlowRead (s : State) : Host.Outcome State Fault Refusal :=
  .next (s.runHost NET_FLOW_CMD 1 flowRead)

/-- FLOW_WRITE (R322). NET_FLOW_CMD WRITE writes the permitted fields of a flow context, or is refused. -/
def execFlowWrite (s : State) : Host.Outcome State Fault Refusal :=
  .next (s.runHost NET_FLOW_CMD 2 flowWrite)

/-- FLOW_READ_CLEAR (R322). NET_FLOW_CMD READ and clear reads a flow context and clears its counters. -/
def execFlowReadClear (s : State) : Host.Outcome State Fault Refusal :=
  .next (s.runHost NET_FLOW_CMD 3 flowReadClear)

/-- EXACT_ADD (R322). NET_EXACT_CMD ADD adds or replaces a flow-table entry read from HOST, or is refused. -/
def execExactAdd (ctx : Nat) (s : State) : Host.Outcome State Fault Refusal :=
  .next (s.runHost NET_EXACT_CMD 1 (exactAdd ctx))

/-- EXACT_DELETE (R322). NET_EXACT_CMD DELETE removes a software flow-table entry. -/
def execExactDelete (s : State) : Host.Outcome State Fault Refusal :=
  .next (s.runHost NET_EXACT_CMD 2 exactDelete)

/-- LOSS_POP (R331). NET_LOSS_POP removes the head of the loss list. -/
def execLossPop (s : State) : Host.Outcome State Fault Refusal :=
  .next (s.runHost NET_LOSS_POP 1 lossPop)

/-- TSQ_POP (R316). NET_P_TSQ_POP removes the head timestamp entry. -/
def execTsqPop (p : Nat) (s : State) : Host.Outcome State Fault Refusal :=
  .next (s.runHost (NET_P_TSQ_POP p) 1 (tsqPop p))

/-- HIST_SAMPLE (R334). Every NET_HIST_PERIOD ticks each queue's depth is added to a histogram bin. -/
def execHistSample (s : State) : Host.Outcome State Fault Refusal :=
  .next (s.runCore histSample)

end Sys2Proof.Machine
end

