-- ==== Sys2Proof/Machine/MeaningsPanel.lean ====
section
/-!
DEFINITION. The meanings of the commands of the panel link and the auxiliary output, one definition for each row of the table.
-/

namespace Sys2Proof.Machine

/-- UPDATE_START (R222). A pending update starts once in-flight, overlap and readiness conditions allow it. -/
def execUpdateStart (upd : Nat) (s : State) : Host.Outcome State Fault Refusal :=
  .next (s.runCore (updateStart upd))

/-- PACKET_SEND (R225). A group chooses its next row or packet by precedence and sends it. -/
def execPacketSend (g : Nat) (s : State) : Host.Outcome State Fault Refusal :=
  .next (s.runCore (packetSend g))

/-- CORR_SEND (R232). Inside a blanking window a group sends a queued CORR packet. -/
def execCorrSend (g : Nat) (s : State) : Host.Outcome State Fault Refusal :=
  .next (s.runCore (corrSend g))

/-- FRAME_COMPLETE (R228). Every update and CORR packet is acknowledged, so FLIP is sent on all groups and the frame completes on the link. -/
def execFrameComplete (s : State) : Host.Outcome State Fault Refusal :=
  .next (s.runCore frameComplete)

/-- FRAME_DEADLINE (R229). The frame deadline is reached before completion, so the frame aborts with cause DEADLINE. -/
def execFrameDeadline (s : State) : Host.Outcome State Fault Refusal :=
  .next (s.runCore frameDeadline)

/-- SR_ACK (R218). An ACK status record marks a piece acknowledged. -/
def execSrAck (g : Nat) (r : StatusRec) (ok : Bool) (s : State) : Host.Outcome State Fault Refusal :=
  .next (s.runCore (srAck g r ok))

/-- SR_NAK (R220). A NAK status record makes the group re-send the named packet, or start a fast retrain once the retry limit is passed. -/
def execSrNak (g : Nat) (r : StatusRec) (ok : Bool) (s : State) : Host.Outcome State Fault Refusal :=
  .next (s.runCore (srNak g r ok))

/-- SR_STAT (R218). A STAT status record updates a tile's port, content, holding and eye state. -/
def execSrStat (g : Nat) (r : StatusRec) (ok : Bool) (s : State) : Host.Outcome State Fault Refusal :=
  .next (s.runCore (srStat g r ok))

/-- SR_SWITCH (R238). A SWITCH status record reports a tile's port switch and triggers resends or demotion. -/
def execSrSwitch (g : Nat) (r : StatusRec) (ok : Bool) (s : State) : Host.Outcome State Fault Refusal :=
  .next (s.runCore (srSwitch g r ok))

/-- SR_CAPS (R239). A CAPS status record reports a tile's identity and chain latency. -/
def execSrCaps (g : Nat) (r : StatusRec) (ok : Bool) (s : State) : Host.Outcome State Fault Refusal :=
  .next (s.runCore (srCaps g r ok))

/-- SR_LOCKLOSS (R240). A LOCKLOSS status record starts a fast retrain of the group. -/
def execSrLockloss (g : Nat) (r : StatusRec) (ok : Bool) (s : State) : Host.Outcome State Fault Refusal :=
  .next (s.runCore (srLockloss g r ok))

/-- SR_SILENT (R240). A group's status return is silent for 10 µs, so the group starts a fast retrain. -/
def execSrSilent (g : Nat) (s : State) : Host.Outcome State Fault Refusal :=
  .next (s.runCore (srSilent g))

/-- PIECE_ACK_TIMEOUT (R220). A piece has no ACK 20 µs after its last row, so it is re-sent whole. -/
def execPieceAckTimeout (t : Nat) (s : State) : Host.Outcome State Fault Refusal :=
  .next (s.runCore (pieceAckTimeout t))

/-- SPL_RESTORE (R233). A write of SPL_RESTORE requests a restore of one tile or of every tile. -/
def execSplRestore (val : Word) (s : State) : Host.Outcome State Fault Refusal :=
  .next (s.runHost SPL_RESTORE val (splRestore val))

/-- HOLD_REQUEST (R235). Setting SPL_HOLD.REQ asks the SPL to enter HOLD after the frame in progress. -/
def execHoldRequest (val : Word) (s : State) : Host.Outcome State Fault Refusal :=
  .next (s.runHost SPL_HOLD val (holdRequest val))

/-- HOLD_ENTER (R235). Once the frame in progress has ended, HOLD is sent on every active group, with source 330. -/
def execHoldEnter (s : State) : Host.Outcome State Fault Refusal :=
  .next (s.runCore holdEnterThen)

/-- HOLD_EXIT (R235). Leaving HOLD runs a fast retrain on each group, followed by RESUME. -/
def execHoldExit (s : State) : Host.Outcome State Fault Refusal :=
  .next (s.runCore holdExit)

/-- GROUP_ADAPT_START (R234). The calibration unit starts adapting one group inside its blanking window. -/
def execGroupAdaptStart (g : Nat) (s : State) : Host.Outcome State Fault Refusal :=
  .next (s.runCore (groupAdaptStart g))

/-- GROUP_ADAPT_DONE (R234). A 25 µs group adaptation ends and offers new presets. -/
def execGroupAdaptDone (g : Nat) (r : StageInfo) (s : State) : Host.Outcome State Fault Refusal :=
  .next (s.runCore (groupAdaptDone g r))

/-- SPL_ENABLE (R239). Setting SPL_CTRL.EN starts bring-up of the enabled groups. -/
def execSplEnable (s : State) : Host.Outcome State Fault Refusal :=
  .next (s.runHost SPL_CTRL (s.rd SPL_CTRL ||| 1) splEnable)

/-- GROUP_STAGE_DONE (R239). A group finishes a bring-up stage (DETECT, TRAIN, LOCK or CAPS) and moves to the next, reaching ACTIVE with source 320. -/
def execGroupStageDone (g : Nat) (r : StageInfo) (s : State) : Host.Outcome State Fault Refusal :=
  .next (s.runCore (groupStageDone g r))

/-- GROUP_STAGE_TIMEOUT (R239). A bring-up stage limit expires, so the group goes FAILED with source 322. -/
def execGroupStageTimeout (g : Nat) (s : State) : Host.Outcome State Fault Refusal :=
  .next (s.runCore (groupStageTimeout g))

/-- GROUP_FAILED_RETRY (R239). Ten ms after FAILED, the group returns to DETECT. -/
def execGroupFailedRetry (g : Nat) (s : State) : Host.Outcome State Fault Refusal :=
  .next (s.runCore (groupFailedRetry g))

/-- SPL_G_BRINGUP (R239). SPL_G_CMD value 1 requests a full bring-up of a group. -/
def execSplGBringup (g : Nat) (s : State) : Host.Outcome State Fault Refusal :=
  .next (s.runHost (SPL_G_CMD g) 1 (splGBringup g))

/-- SPL_G_RETRAIN (R240). SPL_G_CMD value 2 requests a fast retrain of a group. -/
def execSplGRetrain (g : Nat) (s : State) : Host.Outcome State Fault Refusal :=
  .next (s.runHost (SPL_G_CMD g) 2 (splGRetrain g))

/-- SPL_G_DISABLE (R239). SPL_G_CMD value 3 disables a group. -/
def execSplGDisable (g : Nat) (s : State) : Host.Outcome State Fault Refusal :=
  .next (s.runHost (SPL_G_CMD g) 3 (splGDisable g))

/-- FAST_RETRAIN_DONE (R240). A fast retrain ends, returning the group to ACTIVE or falling back to a full bring-up. -/
def execFastRetrainDone (g : Nat) (ok : Bool) (cause : Nat) (s : State) : Host.Outcome State Fault Refusal :=
  .next (s.runCore (fastRetrainDone g ok cause))

/-- SPL_LOOPBACK_SELECT (R242). A write of SPL_G_LPBK selects a test mode on a disabled group. -/
def execSplLoopbackSelect (g : Nat) (mode : Nat) (s : State) : Host.Outcome State Fault Refusal :=
  .next (s.runHost (SPL_G_LPBK g) (BitVec.ofNat 32 mode) (splLoopbackSelect g mode))

/-- LOOPBACK_ERROR (R242). A PRBS checker counts an error, with source 331. -/
def execLoopbackError (g : Nat) (n : Nat) (s : State) : Host.Outcome State Fault Refusal :=
  .next (s.runCore (loopbackError g n))

/-- AUX_TRAIN (R247). AUX_CMD TRAIN starts DisplayPort link training. -/
def execAuxTrain (s : State) : Host.Outcome State Fault Refusal :=
  .next (s.runHost AUX_CMD 1 auxTrain)

/-- AUX_TRAIN_DONE (R243). DisplayPort training ends, trained or failed, with source 385 on failure. -/
def execAuxTrainDone (four : List Bool) (two : List Bool) (one : List Bool) (s : State) : Host.Outcome State Fault Refusal :=
  .next (s.runCore (auxTrainDone four two one))

/-- DP_HPD (R247). A change of hot-plug detect is reported, and its loss stops scanout. -/
def execDpHpd (level : Bool) (s : State) : Host.Outcome State Fault Refusal :=
  .next (s.runCore (dpHpd level))

/-- AUX_CH_TRANSACTION (R243). A write of AUX_CH_CMD starts a sideband transaction. -/
def execAuxChTransaction (val : Word) (s : State) : Host.Outcome State Fault Refusal :=
  .next (s.runHost AUX_CH_CMD val (auxChTransaction val))

/-- DP_CH_DONE (R251). A sideband transaction ends, with source 387. -/
def execDpChDone (ok : Bool) (reply : Word) (data : List Word) (s : State) : Host.Outcome State Fault Refusal :=
  .next (s.runCore (dpChDone ok reply data))

/-- DP_FRAME_START (R246). At the start of a DisplayPort frame's active area a newer LATEST copy becomes SCAN, and the InfoFrame is sent. -/
def execDpFrameStart (s : State) : Host.Outcome State Fault Refusal :=
  .next (s.runCore dpFrameStart)

/-- DP_UNDERRUN (R247). Late scanout data blanks the rest of a line, with source 386. -/
def execDpUnderrun (y : Nat) (x : Nat) (s : State) : Host.Outcome State Fault Refusal :=
  .next (s.runCore (dpUnderrun y x))

/-- CLONE_COPY_DONE (R245). The clone unit finishes copying unchanged hogels into the WORK copy. -/
def execCloneCopyDone (v : Nat) (s : State) : Host.Outcome State Fault Refusal :=
  .next (s.runCore (cloneCopyDone v))

end Sys2Proof.Machine
end

