-- ==== Sys2Proof/Machine/MeaningsPower.lean ====
section
/-!
DEFINITION. The meanings of the commands of power states and heat, one definition for each row of the table.
-/

namespace Sys2Proof.Machine

/-- SLEEP_CMD (R398). PWR_CMD SLEEP starts entry to SLEEP, or is refused. -/
def execSleepCmd (s : State) : Host.Outcome State Fault Refusal :=
  .next (s.runHost PWR_CMD 1 sleepCmd)

/-- DEEP_SLEEP_CMD (R398). PWR_CMD DEEP_SLEEP starts entry to DEEP_SLEEP, or is refused. -/
def execDeepSleepCmd (force : Bool) (s : State) : Host.Outcome State Fault Refusal :=
  .next (s.runHost PWR_CMD 2 (deepSleepCmd force))

/-- WAKE_CMD (R400). PWR_CMD WAKE registers a wake cause. -/
def execWakeCmd (s : State) : Host.Outcome State Fault Refusal :=
  .next (s.runHost PWR_CMD 3 wakeCmd)

/-- RESUME_ACK (R411). PWR_CMD ACK continues a boot held after a thermal stop. -/
def execResumeAck (s : State) : Host.Outcome State Fault Refusal :=
  .next (s.runHost PWR_CMD 0x100 resumeAck)

/-- SLEEP_ENTERED (R399). Entry finishes once the waited work has ended, so the device reaches SLEEP or DEEP_SLEEP. -/
def execSleepEntered (s : State) : Host.Outcome State Fault Refusal :=
  .next (s.runCore sleepEntered)

/-- WAKE_PIN (R400). WAKE_N held low for 1 µs registers a wake cause. -/
def execWakePin (s : State) : Host.Outcome State Fault Refusal :=
  .next (s.runAon wakePinLow)

/-- WAKE_DONE (R401). The wake sequence reaches ACTIVE with engines PARKED, and source 97 is raised. -/
def execWakeDone (s : State) : Host.Outcome State Fault Refusal :=
  .next (s.runAon wakeDone)

/-- PLL_LOCK_TIMEOUT (R402). A PLL unlocked 50 µs after enable is retried once, and a second failure raises FATAL source 106. -/
def execPllLockTimeout (pll : Nat) (s : State) : Host.Outcome State Fault Refusal :=
  .next (s.runAon (pllLockTimeout pll))

/-- CH_GATE_WRITE (R404). A write of PWR_CH_GATE requests channel gates open or closed from the next frame start. -/
def execChGateWrite (val : Word) (s : State) : Host.Outcome State Fault Refusal :=
  .next (s.runHost PWR_CH_GATE val (chGateWrite val))

/-- KETTLE_SAMPLE (R406). A Kettle sample of all sites starts at the sampling interval. -/
def execKettleSample (s : State) : Host.Outcome State Fault Refusal :=
  .next (s.runAon kettleSample)

/-- KETTLE_SAMPLE_DONE (R407). A completed sample is compared with the limits, changing zones and sampling rate. -/
def execKettleSampleDone (readings : List SiteReading) (s : State) : Host.Outcome State Fault Refusal :=
  .next (s.runAon (kettleSampleDone readings))

/-- THROTTLE_STEP (R408). The throttle stage rises every STEP_MS in THROTTLE or falls every 10 × STEP_MS after it. -/
def execThrottleStep (s : State) : Host.Outcome State Fault Refusal :=
  .next (s.runAon throttleStep)

/-- STOP_WINDOW_EXPIRE (R411). After 10 s below 95 °C the device leaves STOPPED and boots. -/
def execStopWindowExpire (s : State) : Host.Outcome State Fault Refusal :=
  .next (s.runAon stopWindowExpire)

end Sys2Proof.Machine
end

