-- ==== Sys2Proof/Machine/MeaningsStacks.lean ====
section
/-!
DEFINITION. The meanings of the commands of plane stacks and the remote tile receiver, one definition for each row of the table.
-/

namespace Sys2Proof.Machine

/-- STK_ACQUIRE (R73). CMP_STK_CMD ACQUIRE makes the lowest FREE buffer of a host stream FILLING, or is refused. -/
def execStkAcquire (i : Nat) (s : State) : Host.Outcome State Fault Refusal :=
  .next (s.runHost (CMP_STK_CMD i) 0 (stkAcquire i))

/-- STK_REGISTER (R76). CMP_STK_CMD REGISTER checks a FILLING buffer and starts marking its slots. -/
def execStkRegister (i : Nat) (b : Nat) (s : State) : Host.Outcome State Fault Refusal :=
  .next (s.runHost (CMP_STK_CMD i) 0 (stkRegister i b))

/-- STK_ABANDON (R73). CMP_STK_CMD ABANDON returns a FILLING buffer to FREE. -/
def execStkAbandon (i : Nat) (b : Nat) (s : State) : Host.Outcome State Fault Refusal :=
  .next (s.runHost (CMP_STK_CMD i) 0 (stkAbandon i b))

/-- STK_REGISTER_MARKED (R76). Marking of a registered buffer completes, so it becomes READY, superseding and accumulating any older READY buffer. -/
def execStkRegisterMarked (i : Nat) (s : State) : Host.Outcome State Fault Refusal :=
  .next (s.runCore (stkRegisterMarked i))

/-- STK_ENABLE (R67). Setting CMP_STK_CFG.ENABLE enables a stack stream, or refuses it with code POOL. -/
def execStkEnable (i : Nat) (s : State) : Host.Outcome State Fault Refusal :=
  .next (s.runHost (CMP_STK_CFG i) (s.rd (CMP_STK_CFG i) ||| 1) (stkEnable i))

/-- STK_DISABLE (R89). Clearing CMP_STK_CFG.ENABLE disables a stream and schedules the return of its buffers to FREE. -/
def execStkDisable (i : Nat) (s : State) : Host.Outcome State Fault Refusal :=
  .next (s.runHost (CMP_STK_CFG i) (s.rd (CMP_STK_CFG i) &&& 0xFFFFFFFE) (stkDisable i))

/-- CPOOL_WRITE (R67). A write of CMP_CPOOL_BASE or CMP_CPOOL_SIZE sets the composition pool, or is refused with code POOL. -/
def execCpoolWrite (isSize : Bool) (val : Word) (s : State) : Host.Outcome State Fault Refusal :=
  .next (s.runHost (if isSize then CMP_CPOOL_SIZE else CMP_CPOOL_BASE) val (cpoolHost isSize val))

/-- TT_BEGIN (R85). A BEGIN datagram opens a remote generation and acquires a buffer, or is discarded. -/
def execTtBegin (dg : List Byte) (s : State) : Host.Outcome State Fault Refusal :=
  .next (s.runCore (ttBegin dg))

/-- TT_TILE (R85). A TILE datagram writes a tile fragment into an allocated slot of the open generation. -/
def execTtTile (dg : List Byte) (s : State) : Host.Outcome State Fault Refusal :=
  .next (s.runCore (ttTile dg))

/-- TT_REMOVE (R85). A REMOVE datagram clears a tile's occupancy in the open generation. -/
def execTtRemove (dg : List Byte) (s : State) : Host.Outcome State Fault Refusal :=
  .next (s.runCore (ttRemove dg))

/-- TT_END (R85). An END datagram gives the packet count and timestamp of the open generation. -/
def execTtEnd (dg : List Byte) (s : State) : Host.Outcome State Fault Refusal :=
  .next (s.runCore (ttEnd dg))

/-- REMOTE_TIMEOUT (R85). A generation not complete within CMP_REMOTE_TIMEOUT of END is abandoned, with source 292. -/
def execRemoteTimeout (i : Nat) (s : State) : Host.Outcome State Fault Refusal :=
  .next (s.runCore (remoteTimeout i))

end Sys2Proof.Machine
end

