-- ==== Sys2Proof/Machine/MeaningsSupport.lean ====
section
/-!
DEFINITION. The meanings of the commands of block copy, check and dictionary engines, one definition for each row of the table.
-/

namespace Sys2Proof.Machine

/-- BCE_START (R364). BCE_CMD START begins executing a command list, or is refused with BUSY. -/
def execBceStart (s : State) : Host.Outcome State Fault Refusal :=
  .next (s.runHost BCE_CMD 1 bceStart)

/-- BCE_ABORT (R369). BCE_CMD ABORT stops the list at the next line boundary. -/
def execBceAbort (s : State) : Host.Outcome State Fault Refusal :=
  .next (s.runHost BCE_CMD 2 bceAbort)

/-- BCE_NOP (R365). A NOP command does nothing. -/
def execBceNop (s : State) : Host.Outcome State Fault Refusal :=
  .next (s.runCore bceNop)

/-- BCE_COPY (R367). A COPY command is checked and copies a rectangle in overlap-safe order. -/
def execBceCopy (s : State) : Host.Outcome State Fault Refusal :=
  .next (s.runCore bceCopy)

/-- BCE_FILL (R365). A FILL command is checked and fills a rectangle with a pattern. -/
def execBceFill (s : State) : Host.Outcome State Fault Refusal :=
  .next (s.runCore bceFill)

/-- BCE_LINK (R365). A LINK command continues the list at another address. -/
def execBceLink (s : State) : Host.Outcome State Fault Refusal :=
  .next (s.runCore bceLink)

/-- BCE_STOP (R365). A STOP command ends the list with DONE and raises source 704. -/
def execBceStop (s : State) : Host.Outcome State Fault Refusal :=
  .next (s.runCore bceStop)

/-- CKU_COMPUTE (R375). CKU_JOB_CMD COMPUTE starts updating a context's running CRC over a buffer. -/
def execCkuCompute (ctx : Nat) (cont : Bool) (s : State) : Host.Outcome State Fault Refusal :=
  .next (s.runHost CKU_JOB_CMD 1 (ckuCompute ctx cont))

/-- CKU_APPEND (R375). CKU_JOB_CMD APPEND starts computing a final CRC to append. -/
def execCkuAppend (ctx : Nat) (cont : Bool) (s : State) : Host.Outcome State Fault Refusal :=
  .next (s.runHost CKU_JOB_CMD 2 (ckuAppend ctx cont))

/-- CKU_CHECK (R375). CKU_JOB_CMD CHECK starts checking a buffer against its trailing CRC. -/
def execCkuCheck (ctx : Nat) (cont : Bool) (s : State) : Host.Outcome State Fault Refusal :=
  .next (s.runHost CKU_JOB_CMD 3 (ckuCheck ctx cont))

/-- CKU_JOB_DONE (R375). A check-unit job completes or fails, with source 736 or 737. -/
def execCkuJobDone (s : State) : Host.Outcome State Fault Refusal :=
  .next (s.runCore ckuJobDone)

/-- CKU_CTX_WRITE (R376). A write of CKU_CTX_CFG or CKU_CTX_RUN sets a software context, or is refused with CTX. -/
def execCkuCtxWrite (n : Nat) (isRun : Bool) (val : Word) (s : State) : Host.Outcome State Fault Refusal :=
  .next (s.runHost (if isRun then CKU_CTX_RUN n else CKU_CTX_CFG n) val (ckuCtxWrite n isRun val))

/-- DCO_COMPRESS (R380). DCO_CMD COMPRESS starts an LZW compression job. -/
def execDcoCompress (s : State) : Host.Outcome State Fault Refusal :=
  .next (s.runHost DCO_CMD 1 dcoCompress)

/-- DCO_DECOMPRESS (R381). DCO_CMD DECOMPRESS starts a decompression job. -/
def execDcoDecompress (s : State) : Host.Outcome State Fault Refusal :=
  .next (s.runHost DCO_CMD 2 dcoDecompress)

/-- DCO_RESUME (R382). DCO_CMD RESUME continues a job stopped by a full output buffer. -/
def execDcoResume (s : State) : Host.Outcome State Fault Refusal :=
  .next (s.runHost DCO_CMD 3 dcoResume)

/-- DCO_ABORT (R384). DCO_CMD ABORT stops the job at the next code boundary. -/
def execDcoAbort (s : State) : Host.Outcome State Fault Refusal :=
  .next (s.runHost DCO_CMD 4 dcoAbort)

/-- DCO_OUT_FULL (R382). The output buffer fills, so the job stops in OUT_FULL, with source 769. -/
def execDcoOutFull (s : State) : Host.Outcome State Fault Refusal :=
  .next (s.runCore dcoOutFull)

/-- DCO_JOB_DONE (R381). A dictionary-coder job completes or fails, with source 768 or 770. -/
def execDcoJobDone (s : State) : Host.Outcome State Fault Refusal :=
  .next (s.runCore dcoJobDone)

end Sys2Proof.Machine
end

