-- ==== Sys2Proof/Machine/MeaningsTime.lean ====
section
/-!
DEFINITION. The meanings of the commands of the time unit, one definition for each row of the table.
-/

namespace Sys2Proof.Machine

/-- INCR_WRITE (R312). A write of TMU_INCR_FRAC applies the increment pair, or refuses it. -/
def execIncrWrite (val : Word) (s : State) : Host.Outcome State Fault Refusal :=
  .next (s.runHost TMU_INCR_FRAC val (incrWrite val))

/-- TIME_STEP (R313). TMU_CMD STEP adds a signed step to time at the next tick, or is refused. -/
def execTimeStep (force : Bool) (s : State) : Host.Outcome State Fault Refusal :=
  .next (s.runHost TMU_CMD 1 (timeStep force))

/-- TIME_SET (R313). TMU_CMD SET loads a new time at the next tick, or is refused. -/
def execTimeSet (force : Bool) (s : State) : Host.Outcome State Fault Refusal :=
  .next (s.runHost TMU_CMD 2 (timeSet force))

/-- TIME_READ (R312). A read of TMU_TIME_NS latches the seconds and fraction of the same tick. -/
def execTimeRead (s : State) : Host.Outcome State Fault Refusal :=
  .next (s.keepQueue (rcRead TMU_TIME_NS s))

/-- TRIGGER_ARM (R317). Setting ARM in TMU_TRIG_CTRL arms a trigger, firing it late if its target has already passed. -/
def execTriggerArm (n : Nat) (val : Word) (s : State) : Host.Outcome State Fault Refusal :=
  .next (s.runHost (TMU_TRIG_CTRL n) val (triggerArm n val))

/-- TRIGGER_TARGET_WRITE (R317). A target write to an armed trigger applies from the next time-clock tick. -/
def execTriggerTargetWrite (n : Nat) (which : Nat) (val : Word) (s : State) : Host.Outcome State Fault Refusal :=
  .next (s.runHost (TMU_TRIG_NS n + 4 * which) val (triggerTargetWrite n which val))

/-- TRIGGER_FIRE (R317). Time reaches a trigger's target, so it fires its EVENT, PIN and SNAPSHOT actions. -/
def execTriggerFire (n : Nat) (s : State) : Host.Outcome State Fault Refusal :=
  .next (s.runPll pllTime (triggerFire n))

/-- PPS_EDGE (R317). At each whole second PTP_PPS_OUT rises. -/
def execPpsEdge (s : State) : Host.Outcome State Fault Refusal :=
  .next (s.runPll pllTime ppsEdge)

/-- EXT_CAPTURE (R317). A rising edge on PTP_EXT_IN is timestamped, with source 70. -/
def execExtCapture (s : State) : Host.Outcome State Fault Refusal :=
  .next (s.runPll pllTime extCapture)

end Sys2Proof.Machine
end

