-- ==== Sys2Proof/Machine/Dispatch.lean ====
section
/-!
DEFINITION. The one case split over the commands: each arm is one direct call of the command's meaning.
-/

namespace Sys2Proof.Machine

def exec (i : Instr) (s : State) : Host.Outcome State Fault Refusal :=
  match i with
  | .registerWrite off val => Sys2Proof.Machine.execRegisterWrite off val s
  | .offDomainAccess off isWrite val => Sys2Proof.Machine.execOffDomainAccess off isWrite val s
  | .bar0MalformedRequest off isWrite dws be => Sys2Proof.Machine.execBar0MalformedRequest off isWrite dws be s
  | .bar0UndefinedAccess off isWrite val => Sys2Proof.Machine.execBar0UndefinedAccess off isWrite val s
  | .bar2Write off bytes => Sys2Proof.Machine.execBar2Write off bytes s
  | .bar2Read off len => Sys2Proof.Machine.execBar2Read off len s
  | .csuLoad => Sys2Proof.Machine.execCsuLoad s
  | .csuVerify => Sys2Proof.Machine.execCsuVerify s
  | .csuReload => Sys2Proof.Machine.execCsuReload s
  | .csuCancel => Sys2Proof.Machine.execCsuCancel s
  | .imageCheckComplete flash => Sys2Proof.Machine.execImageCheckComplete flash s
  | .spiIdTimeout => Sys2Proof.Machine.execSpiIdTimeout s
  | .keyProgram slot => Sys2Proof.Machine.execKeyProgram slot s
  | .keyRevoke slot => Sys2Proof.Machine.execKeyRevoke slot s
  | .rollbackProgram target => Sys2Proof.Machine.execRollbackProgram target s
  | .fuseBlowComplete ok => Sys2Proof.Machine.execFuseBlowComplete ok s
  | .reloadLoadingDone ok => Sys2Proof.Machine.execReloadLoadingDone ok s
  | .stkAcquire j => Sys2Proof.Machine.execStkAcquire j s
  | .stkRegister j b => Sys2Proof.Machine.execStkRegister j b s
  | .stkAbandon j b => Sys2Proof.Machine.execStkAbandon j b s
  | .stkRegisterMarked j => Sys2Proof.Machine.execStkRegisterMarked j s
  | .stkEnable j => Sys2Proof.Machine.execStkEnable j s
  | .stkDisable j => Sys2Proof.Machine.execStkDisable j s
  | .cpoolWrite isSize val => Sys2Proof.Machine.execCpoolWrite isSize val s
  | .ttBegin dg => Sys2Proof.Machine.execTtBegin dg s
  | .ttTile dg => Sys2Proof.Machine.execTtTile dg s
  | .ttRemove dg => Sys2Proof.Machine.execTtRemove dg s
  | .ttEnd dg => Sys2Proof.Machine.execTtEnd dg s
  | .remoteTimeout j => Sys2Proof.Machine.execRemoteTimeout j s
  | .workItemDispatch c build => Sys2Proof.Machine.execWorkItemDispatch c build s
  | .add g ecc => Sys2Proof.Machine.execAdd g ecc s
  | .sub g ecc => Sys2Proof.Machine.execSub g ecc s
  | .mul g ecc => Sys2Proof.Machine.execMul g ecc s
  | .mulh g ecc => Sys2Proof.Machine.execMulh g ecc s
  | .mulhu g ecc => Sys2Proof.Machine.execMulhu g ecc s
  | .and g ecc => Sys2Proof.Machine.execAnd g ecc s
  | .or g ecc => Sys2Proof.Machine.execOr g ecc s
  | .xor g ecc => Sys2Proof.Machine.execXor g ecc s
  | .shl g ecc => Sys2Proof.Machine.execShl g ecc s
  | .shr g ecc => Sys2Proof.Machine.execShr g ecc s
  | .sra g ecc => Sys2Proof.Machine.execSra g ecc s
  | .srar g ecc => Sys2Proof.Machine.execSrar g ecc s
  | .min g ecc => Sys2Proof.Machine.execMin g ecc s
  | .max g ecc => Sys2Proof.Machine.execMax g ecc s
  | .minu g ecc => Sys2Proof.Machine.execMinu g ecc s
  | .maxu g ecc => Sys2Proof.Machine.execMaxu g ecc s
  | .clampu g ecc => Sys2Proof.Machine.execClampu g ecc s
  | .sel g ecc => Sys2Proof.Machine.execSel g ecc s
  | .cmpeq g ecc => Sys2Proof.Machine.execCmpeq g ecc s
  | .cmplt g ecc => Sys2Proof.Machine.execCmplt g ecc s
  | .cmpltu g ecc => Sys2Proof.Machine.execCmpltu g ecc s
  | .cmple g ecc => Sys2Proof.Machine.execCmple g ecc s
  | .abs g ecc => Sys2Proof.Machine.execAbs g ecc s
  | .clz g ecc => Sys2Proof.Machine.execClz g ecc s
  | .mulsr g ecc => Sys2Proof.Machine.execMulsr g ecc s
  | .movi g ecc => Sys2Proof.Machine.execMovi g ecc s
  | .movhi g ecc => Sys2Proof.Machine.execMovhi g ecc s
  | .vmovi g ecc => Sys2Proof.Machine.execVmovi g ecc s
  | .bcst g ecc => Sys2Proof.Machine.execBcst g ecc s
  | .laneid g ecc => Sys2Proof.Machine.execLaneid g ecc s
  | .vext g ecc => Sys2Proof.Machine.execVext g ecc s
  | .vins g ecc => Sys2Proof.Machine.execVins g ecc s
  | .plogic g ecc => Sys2Proof.Machine.execPlogic g ecc s
  | .pany g ecc => Sys2Proof.Machine.execPany g ecc s
  | .pcnt g ecc => Sys2Proof.Machine.execPcnt g ecc s
  | .lds g ecc => Sys2Proof.Machine.execLds g ecc s
  | .sts g ecc => Sys2Proof.Machine.execSts g ecc s
  | .ldv g ecc => Sys2Proof.Machine.execLdv g ecc s
  | .stv g ecc => Sys2Proof.Machine.execStv g ecc s
  | .ldx g ecc => Sys2Proof.Machine.execLdx g ecc s
  | .stx g ecc => Sys2Proof.Machine.execStx g ecc s
  | .dmrd g ecc => Sys2Proof.Machine.execDmrd g ecc s
  | .dmwr g ecc => Sys2Proof.Machine.execDmwr g ecc s
  | .dmwait g ecc => Sys2Proof.Machine.execDmwait g ecc s
  | .rdcsr g ecc => Sys2Proof.Machine.execRdcsr g ecc s
  | .wrcsr g ecc => Sys2Proof.Machine.execWrcsr g ecc s
  | .fence g ecc => Sys2Proof.Machine.execFence g ecc s
  | .smp g ecc => Sys2Proof.Machine.execSmp g ecc s
  | .smpn g ecc => Sys2Proof.Machine.execSmpn g ecc s
  | .smpo g ecc => Sys2Proof.Machine.execSmpo g ecc s
  | .sweep g ecc => Sys2Proof.Machine.execSweep g ecc s
  | .occ g ecc => Sys2Proof.Machine.execOcc g ecc s
  | .pft g ecc => Sys2Proof.Machine.execPft g ecc s
  | .drive g ecc => Sys2Proof.Machine.execDrive g ecc s
  | .emit g ecc => Sys2Proof.Machine.execEmit g ecc s
  | .twr g ecc => Sys2Proof.Machine.execTwr g ecc s
  | .br g ecc => Sys2Proof.Machine.execBr g ecc s
  | .bz g ecc => Sys2Proof.Machine.execBz g ecc s
  | .bnz g ecc => Sys2Proof.Machine.execBnz g ecc s
  | .call g ecc => Sys2Proof.Machine.execCall g ecc s
  | .ret g ecc => Sys2Proof.Machine.execRet g ecc s
  | .vbany g ecc => Sys2Proof.Machine.execVbany g ecc s
  | .vbnone g ecc => Sys2Proof.Machine.execVbnone g ecc s
  | .done g ecc => Sys2Proof.Machine.execDone g ecc s
  | .trap g ecc => Sys2Proof.Machine.execTrap g ecc s
  | .dmaTransferComplete g tr => Sys2Proof.Machine.execDmaTransferComplete g tr s
  | .wiTimeout g => Sys2Proof.Machine.execWiTimeout g s
  | .engReloadStart g => Sys2Proof.Machine.execEngReloadStart g s
  | .engReloadDone g ok => Sys2Proof.Machine.execEngReloadDone g ok s
  | .lsScrub c corrected uncorrectable => Sys2Proof.Machine.execLsScrub c corrected uncorrectable s
  | .pcLineFill g line ecc => Sys2Proof.Machine.execPcLineFill g line ecc s
  | .engEnableWrite c val => Sys2Proof.Machine.execEngEnableWrite c val s
  | .dbgDataAccess c isWrite data => Sys2Proof.Machine.execDbgDataAccess c isWrite data s
  | .eyeSetCommit val => Sys2Proof.Machine.execEyeSetCommit val s
  | .eyeStale => Sys2Proof.Machine.execEyeStale s
  | .frameStart => Sys2Proof.Machine.execFrameStart s
  | .frameForced => Sys2Proof.Machine.execFrameForced s
  | .frameSetupDone => Sys2Proof.Machine.execFrameSetupDone s
  | .camEnable => Sys2Proof.Machine.execCamEnable s
  | .rigSelect val => Sys2Proof.Machine.execRigSelect val s
  | .camRestart => Sys2Proof.Machine.execCamRestart s
  | .buildInstant => Sys2Proof.Machine.execBuildInstant s
  | .lidCommit val => Sys2Proof.Machine.execLidCommit val s
  | .commitPrepDone => Sys2Proof.Machine.execCommitPrepDone s
  | .lidOffscreen val => Sys2Proof.Machine.execLidOffscreen val s
  | .offscreenDone => Sys2Proof.Machine.execOffscreenDone s
  | .layerFence val => Sys2Proof.Machine.execLayerFence val s
  | .lateLayerReady l => Sys2Proof.Machine.execLateLayerReady l s
  | .overlayFieldStale f => Sys2Proof.Machine.execOverlayFieldStale f s
  | .wbHeldClear val => Sys2Proof.Machine.execWbHeldClear val s
  | .updateStart upd => Sys2Proof.Machine.execUpdateStart upd s
  | .packetSend g => Sys2Proof.Machine.execPacketSend g s
  | .corrSend g => Sys2Proof.Machine.execCorrSend g s
  | .frameComplete => Sys2Proof.Machine.execFrameComplete s
  | .frameDeadline => Sys2Proof.Machine.execFrameDeadline s
  | .srAck g r ok => Sys2Proof.Machine.execSrAck g r ok s
  | .srNak g r ok => Sys2Proof.Machine.execSrNak g r ok s
  | .srStat g r ok => Sys2Proof.Machine.execSrStat g r ok s
  | .srSwitch g r ok => Sys2Proof.Machine.execSrSwitch g r ok s
  | .srCaps g r ok => Sys2Proof.Machine.execSrCaps g r ok s
  | .srLockloss g r ok => Sys2Proof.Machine.execSrLockloss g r ok s
  | .srSilent g => Sys2Proof.Machine.execSrSilent g s
  | .pieceAckTimeout t => Sys2Proof.Machine.execPieceAckTimeout t s
  | .splRestore val => Sys2Proof.Machine.execSplRestore val s
  | .holdRequest val => Sys2Proof.Machine.execHoldRequest val s
  | .holdEnter => Sys2Proof.Machine.execHoldEnter s
  | .holdExit => Sys2Proof.Machine.execHoldExit s
  | .groupAdaptStart g => Sys2Proof.Machine.execGroupAdaptStart g s
  | .groupAdaptDone g r => Sys2Proof.Machine.execGroupAdaptDone g r s
  | .splEnable => Sys2Proof.Machine.execSplEnable s
  | .groupStageDone g r => Sys2Proof.Machine.execGroupStageDone g r s
  | .groupStageTimeout g => Sys2Proof.Machine.execGroupStageTimeout g s
  | .groupFailedRetry g => Sys2Proof.Machine.execGroupFailedRetry g s
  | .splGBringup g => Sys2Proof.Machine.execSplGBringup g s
  | .splGRetrain g => Sys2Proof.Machine.execSplGRetrain g s
  | .splGDisable g => Sys2Proof.Machine.execSplGDisable g s
  | .fastRetrainDone g ok cause => Sys2Proof.Machine.execFastRetrainDone g ok cause s
  | .splLoopbackSelect g mode => Sys2Proof.Machine.execSplLoopbackSelect g mode s
  | .loopbackError g n => Sys2Proof.Machine.execLoopbackError g n s
  | .auxTrain => Sys2Proof.Machine.execAuxTrain s
  | .auxTrainDone four two one => Sys2Proof.Machine.execAuxTrainDone four two one s
  | .dpHpd level => Sys2Proof.Machine.execDpHpd level s
  | .auxChTransaction val => Sys2Proof.Machine.execAuxChTransaction val s
  | .dpChDone ok reply data => Sys2Proof.Machine.execDpChDone ok reply data s
  | .dpFrameStart => Sys2Proof.Machine.execDpFrameStart s
  | .dpUnderrun y x => Sys2Proof.Machine.execDpUnderrun y x s
  | .cloneCopyDone v => Sys2Proof.Machine.execCloneCopyDone v s
  | .tileTempWrite t val => Sys2Proof.Machine.execTileTempWrite t val s
  | .tileTempStale t => Sys2Proof.Machine.execTileTempStale t s
  | .alsReading reading => Sys2Proof.Machine.execAlsReading reading s
  | .passStart => Sys2Proof.Machine.execPassStart s
  | .passDone => Sys2Proof.Machine.execPassDone s
  | .corrApplyDone => Sys2Proof.Machine.execCorrApplyDone s
  | .mapFreeze => Sys2Proof.Machine.execMapFreeze s
  | .mapFrozen => Sys2Proof.Machine.execMapFrozen s
  | .mapUnfreeze => Sys2Proof.Machine.execMapUnfreeze s
  | .mapOpen => Sys2Proof.Machine.execMapOpen s
  | .mapRestored => Sys2Proof.Machine.execMapRestored s
  | .mapFresh => Sys2Proof.Machine.execMapFresh s
  | .calRunAll => Sys2Proof.Machine.execCalRunAll s
  | .calRunDone => Sys2Proof.Machine.execCalRunDone s
  | .pcRetrain p => Sys2Proof.Machine.execPcRetrain p s
  | .pcRetrainDone p windows => Sys2Proof.Machine.execPcRetrainDone p windows s
  | .vdecPut x val => Sys2Proof.Machine.execVdecPut x val s
  | .vdecCtxEnable x val => Sys2Proof.Machine.execVdecCtxEnable x val s
  | .vdecCtxDisable x val => Sys2Proof.Machine.execVdecCtxDisable x val s
  | .vdecFlush x => Sys2Proof.Machine.execVdecFlush x s
  | .vdecReset x => Sys2Proof.Machine.execVdecReset x s
  | .decodeStart core info => Sys2Proof.Machine.execDecodeStart core info s
  | .decodeComplete core r => Sys2Proof.Machine.execDecodeComplete core r s
  | .vencCtxEnable e val => Sys2Proof.Machine.execVencCtxEnable e val s
  | .vencInPut e val => Sys2Proof.Machine.execVencInPut e val s
  | .encodeInstant e => Sys2Proof.Machine.execEncodeInstant e s
  | .encodeComplete core r => Sys2Proof.Machine.execEncodeComplete core r s
  | .rxFrame p bytes capture => Sys2Proof.Machine.execRxFrame p bytes capture s
  | .ingressDrain => Sys2Proof.Machine.execIngressDrain s
  | .txFrame p capture => Sys2Proof.Machine.execTxFrame p capture s
  | .egressDelayDrop p q => Sys2Proof.Machine.execEgressDelayDrop p q s
  | .htxPut r val => Sys2Proof.Machine.execHtxPut r val s
  | .encTxAu e => Sys2Proof.Machine.execEncTxAu e s
  | .sieveRefill => Sys2Proof.Machine.execSieveRefill s
  | .prpSupervisionSend => Sys2Proof.Machine.execPrpSupervisionSend s
  | .prpLanLost node p => Sys2Proof.Machine.execPrpLanLost node p s
  | .prpNodeForget node => Sys2Proof.Machine.execPrpNodeForget node s
  | .portLinkUp p fec => Sys2Proof.Machine.execPortLinkUp p fec s
  | .portLinkDown p => Sys2Proof.Machine.execPortLinkDown p s
  | .flowRead => Sys2Proof.Machine.execFlowRead s
  | .flowWrite => Sys2Proof.Machine.execFlowWrite s
  | .flowReadClear => Sys2Proof.Machine.execFlowReadClear s
  | .exactAdd ctx => Sys2Proof.Machine.execExactAdd ctx s
  | .exactDelete => Sys2Proof.Machine.execExactDelete s
  | .lossPop => Sys2Proof.Machine.execLossPop s
  | .tsqPop p => Sys2Proof.Machine.execTsqPop p s
  | .histSample => Sys2Proof.Machine.execHistSample s
  | .incrWrite val => Sys2Proof.Machine.execIncrWrite val s
  | .timeStep force => Sys2Proof.Machine.execTimeStep force s
  | .timeSet force => Sys2Proof.Machine.execTimeSet force s
  | .timeRead => Sys2Proof.Machine.execTimeRead s
  | .triggerArm n val => Sys2Proof.Machine.execTriggerArm n val s
  | .triggerTargetWrite n which val => Sys2Proof.Machine.execTriggerTargetWrite n which val s
  | .triggerFire n => Sys2Proof.Machine.execTriggerFire n s
  | .ppsEdge => Sys2Proof.Machine.execPpsEdge s
  | .extCapture => Sys2Proof.Machine.execExtCapture s
  | .memRead client rank a latency faults => Sys2Proof.Machine.execMemRead client rank a latency faults s
  | .memWrite client rank a latency bytes faults => Sys2Proof.Machine.execMemWrite client rank a latency bytes faults s
  | .scrubRead line => Sys2Proof.Machine.execScrubRead line s
  | .refresh p => Sys2Proof.Machine.execRefresh p s
  | .hbmTempRead t0 t1 => Sys2Proof.Machine.execHbmTempRead t0 t1 s
  | .selfRefreshEnter k => Sys2Proof.Machine.execSelfRefreshEnter k s
  | .hbmTrainingDone results => Sys2Proof.Machine.execHbmTrainingDone results s
  | .memRetireCmd val => Sys2Proof.Machine.execMemRetireCmd val s
  | .retirePreset val => Sys2Proof.Machine.execRetirePreset val s
  | .migrationCopy bad => Sys2Proof.Machine.execMigrationCopy bad s
  | .bceStart => Sys2Proof.Machine.execBceStart s
  | .bceAbort => Sys2Proof.Machine.execBceAbort s
  | .bceNop => Sys2Proof.Machine.execBceNop s
  | .bceCopy => Sys2Proof.Machine.execBceCopy s
  | .bceFill => Sys2Proof.Machine.execBceFill s
  | .bceLink => Sys2Proof.Machine.execBceLink s
  | .bceStop => Sys2Proof.Machine.execBceStop s
  | .ckuCompute ctx cont => Sys2Proof.Machine.execCkuCompute ctx cont s
  | .ckuAppend ctx cont => Sys2Proof.Machine.execCkuAppend ctx cont s
  | .ckuCheck ctx cont => Sys2Proof.Machine.execCkuCheck ctx cont s
  | .ckuJobDone => Sys2Proof.Machine.execCkuJobDone s
  | .ckuCtxWrite n isRun val => Sys2Proof.Machine.execCkuCtxWrite n isRun val s
  | .dcoCompress => Sys2Proof.Machine.execDcoCompress s
  | .dcoDecompress => Sys2Proof.Machine.execDcoDecompress s
  | .dcoResume => Sys2Proof.Machine.execDcoResume s
  | .dcoAbort => Sys2Proof.Machine.execDcoAbort s
  | .dcoOutFull => Sys2Proof.Machine.execDcoOutFull s
  | .dcoJobDone => Sys2Proof.Machine.execDcoJobDone s
  | .eventTick => Sys2Proof.Machine.execEventTick s
  | .ringWriteDone => Sys2Proof.Machine.execRingWriteDone s
  | .msixModerationExpire c => Sys2Proof.Machine.execMsixModerationExpire c s
  | .msixUnmask v => Sys2Proof.Machine.execMsixUnmask v s
  | .swRaise val => Sys2Proof.Machine.execSwRaise val s
  | .earlyPop => Sys2Proof.Machine.execEarlyPop s
  | .ringEnable val => Sys2Proof.Machine.execRingEnable val s
  | .tickDivWrite val => Sys2Proof.Machine.execTickDivWrite val s
  | .sleepCmd => Sys2Proof.Machine.execSleepCmd s
  | .deepSleepCmd force => Sys2Proof.Machine.execDeepSleepCmd force s
  | .wakeCmd => Sys2Proof.Machine.execWakeCmd s
  | .resumeAck => Sys2Proof.Machine.execResumeAck s
  | .sleepEntered => Sys2Proof.Machine.execSleepEntered s
  | .wakePin => Sys2Proof.Machine.execWakePin s
  | .wakeDone => Sys2Proof.Machine.execWakeDone s
  | .pllLockTimeout pll => Sys2Proof.Machine.execPllLockTimeout pll s
  | .chGateWrite val => Sys2Proof.Machine.execChGateWrite val s
  | .kettleSample => Sys2Proof.Machine.execKettleSample s
  | .kettleSampleDone readings => Sys2Proof.Machine.execKettleSampleDone readings s
  | .throttleStep => Sys2Proof.Machine.execThrottleStep s
  | .stopWindowExpire => Sys2Proof.Machine.execStopWindowExpire s
  | .alive h pair inSync => Sys2Proof.Machine.execAlive h pair inSync s
  | .aliveSend => Sys2Proof.Machine.execAliveSend s
  | .regw h writes => Sys2Proof.Machine.execRegw h writes s
  | .stack h m => Sys2Proof.Machine.execStack h m s
  | .commit h m => Sys2Proof.Machine.execCommit h m s
  | .build h m => Sys2Proof.Machine.execBuild h m s
  | .fstart h r => Sys2Proof.Machine.execFstart h r s
  | .fend h r => Sys2Proof.Machine.execFend h r s
  | .handover h => Sys2Proof.Machine.execHandover h s
  | .power h op => Sys2Proof.Machine.execPower h op s
  | .join h m => Sys2Proof.Machine.execJoin h m s
  | .tlid h q t => Sys2Proof.Machine.execTlid h q t s
  | .treset h kind t => Sys2Proof.Machine.execTreset h kind t s
  | .ttime h ns => Sys2Proof.Machine.execTtime h ns s
  | .tdelay h m => Sys2Proof.Machine.execTdelay h m s
  | .tarm h freeze t => Sys2Proof.Machine.execTarm h freeze t s
  | .tbcast h mask a bs => Sys2Proof.Machine.execTbcast h mask a bs s
  | .tstatus h => Sys2Proof.Machine.execTstatus h s
  | .ehlAck l seq => Sys2Proof.Machine.execEhlAck l seq s
  | .ehlNak l seq => Sys2Proof.Machine.execEhlNak l seq s
  | .ehlReplayTimeout l => Sys2Proof.Machine.execEhlReplayTimeout l s
  | .ttimeSend => Sys2Proof.Machine.execTtimeSend s
  | .tdelayExchange => Sys2Proof.Machine.execTdelayExchange s
  | .pairLinkUp theirs prio uid => Sys2Proof.Machine.execPairLinkUp theirs prio uid s
  | .pairLinkTimeout => Sys2Proof.Machine.execPairLinkTimeout s
  | .partnerSilent => Sys2Proof.Machine.execPartnerSilent s
  | .lagMaxReached => Sys2Proof.Machine.execLagMaxReached s
  | .ehlResync => Sys2Proof.Machine.execEhlResync s
  | .ehlHandover => Sys2Proof.Machine.execEhlHandover s
  | .ehlTakeover => Sys2Proof.Machine.execEhlTakeover s
  | .treeLid seq => Sys2Proof.Machine.execTreeLid seq s
  | .treeReset kind => Sys2Proof.Machine.execTreeReset kind s
  | .snapArm => Sys2Proof.Machine.execSnapArm s
  | .freezeArm => Sys2Proof.Machine.execFreezeArm s
  | .lidApply => Sys2Proof.Machine.execLidApply s
  | .treeResetApply => Sys2Proof.Machine.execTreeResetApply s
  | .snapshotTake => Sys2Proof.Machine.execSnapshotTake s
  | .bcastStart val => Sys2Proof.Machine.execBcastStart val s
  | .bcastDone err => Sys2Proof.Machine.execBcastDone err s
  | .parentSilent => Sys2Proof.Machine.execParentSilent s
  | .laneDown l failed => Sys2Proof.Machine.execLaneDown l failed s
  | .timeLockChanged => Sys2Proof.Machine.execTimeLockChanged s
  | .pcieLinkTrained speed width => Sys2Proof.Machine.execPcieLinkTrained speed width s
  | .functionReset linkLost => Sys2Proof.Machine.execFunctionReset linkLost s
  | .gctlResetFull val => Sys2Proof.Machine.execGctlResetFull val s
  | .gctlResetImage val => Sys2Proof.Machine.execGctlResetImage val s
  | .resetPin => Sys2Proof.Machine.execResetPin s
  | .powerGoodRise bootSel => Sys2Proof.Machine.execPowerGoodRise bootSel s
  | .powerGoodFall => Sys2Proof.Machine.execPowerGoodFall s
  | .railPgFall sds => Sys2Proof.Machine.execRailPgFall sds s
  | .railReenable => Sys2Proof.Machine.execRailReenable s
  | .powerEnableOutputs => Sys2Proof.Machine.execPowerEnableOutputs s
  | .fusesDone => Sys2Proof.Machine.execFusesDone s
  | .applyDone => Sys2Proof.Machine.execApplyDone s
  | .firstFrameStart => Sys2Proof.Machine.execFirstFrameStart s
  | .bootLate => Sys2Proof.Machine.execBootLate s
  | .calrecSave => Sys2Proof.Machine.execCalrecSave s
  | .calrecRestore => Sys2Proof.Machine.execCalrecRestore s
  | .calrecDone => Sys2Proof.Machine.execCalrecDone s
  | .rcRead off => Sys2Proof.Machine.execRcRead off s
  | .configurationRequest w => Sys2Proof.Machine.execConfigurationRequest w s
  | .hierarchyLaneUp l far => Sys2Proof.Machine.execHierarchyLaneUp l far s
  | .pgHbmPgSdsRise => Sys2Proof.Machine.execPgHbmPgSdsRise s
  | .vddAonBelowMinimum => Sys2Proof.Machine.execVddAonBelowMinimum s
  | .pulseWidthEnd pps => Sys2Proof.Machine.execPulseWidthEnd pps s

end Sys2Proof.Machine
end

