-- ==== Sys2Proof/Safety.lean ====
section
/-!
DEFINITION. What the statements speak of: commands that answer a state, host writes that reach their register, the fetch
of an engine's word, and the canonical form of device memory.
-/

namespace Sys2Proof.Machine

/-- Command `c` on `s` answers the next state `t`, with the queue as it was. -/
def answers (c : Instr) (s t : State) : Prop := exec c s = .next (s.keepQueue t)

/-- Device memory is in canonical form: addresses strictly rise, and no listed byte equals what an unlisted one reads. -/
abbrev State.memCanonical (s : State) : Prop := Memory.wf s.mem = true

/-! ## Host accesses -/

/-- A host write of the register at `off` reaches it: the function is in D0, the block is on (R21), and the device is no
secondary that refuses it (R426). -/
abbrev State.reaches (s : State) (off : Nat) : Prop :=
  s.pcie.d3 = false ∧ s.blockOff off = false ∧ (s.isSecondary && pairShared off) = false

/-- What else a host write does: a primary passes it to its partner (R419, R426). -/
def State.passedOn (t : State) (off : Nat) (val : Word) : State :=
  if pairShared off && !sentOtherwise off then t.toPartner (.regw [(off, val)]) else t

/-! ## Device memory -/

/-- The commands that store no byte in device memory on any operands and in any state.  Of the rest, some store (a DMA, a
status or event ring, a table), and some reach a store through what they set off (an engine that faults in a build). -/
def storesNothing : Instr → Bool
  | .bar0MalformedRequest .. => true
  | .bar2Read .. => true
  | .csuLoad .. => true
  | .csuVerify .. => true
  | .csuReload .. => true
  | .csuCancel .. => true
  | .spiIdTimeout .. => true
  | .keyProgram .. => true
  | .keyRevoke .. => true
  | .rollbackProgram .. => true
  | .fuseBlowComplete .. => true
  | .stkAcquire .. => true
  | .stkRegister .. => true
  | .stkAbandon .. => true
  | .stkRegisterMarked .. => true
  | .stkEnable .. => true
  | .stkDisable .. => true
  | .cpoolWrite .. => true
  | .remoteTimeout .. => true
  | .workItemDispatch .. => true
  | .engReloadStart .. => true
  | .engReloadDone .. => true
  | .pcLineFill .. => true
  | .engEnableWrite .. => true
  | .eyeSetCommit .. => true
  | .eyeStale .. => true
  | .camEnable .. => true
  | .rigSelect .. => true
  | .camRestart .. => true
  | .lidCommit .. => true
  | .lidOffscreen .. => true
  | .layerFence .. => true
  | .overlayFieldStale .. => true
  | .wbHeldClear .. => true
  | .updateStart .. => true
  | .packetSend .. => true
  | .corrSend .. => true
  | .srAck .. => true
  | .srStat .. => true
  | .srSwitch .. => true
  | .srCaps .. => true
  | .srLockloss .. => true
  | .srSilent .. => true
  | .splRestore .. => true
  | .holdRequest .. => true
  | .holdExit .. => true
  | .groupAdaptStart .. => true
  | .groupAdaptDone .. => true
  | .splEnable .. => true
  | .groupStageDone .. => true
  | .groupStageTimeout .. => true
  | .groupFailedRetry .. => true
  | .splGBringup .. => true
  | .splGRetrain .. => true
  | .splGDisable .. => true
  | .fastRetrainDone .. => true
  | .splLoopbackSelect .. => true
  | .loopbackError .. => true
  | .auxTrain .. => true
  | .auxTrainDone .. => true
  | .dpHpd .. => true
  | .auxChTransaction .. => true
  | .dpChDone .. => true
  | .dpFrameStart .. => true
  | .dpUnderrun .. => true
  | .tileTempWrite .. => true
  | .tileTempStale .. => true
  | .alsReading .. => true
  | .passStart .. => true
  | .corrApplyDone .. => true
  | .mapFreeze .. => true
  | .mapFrozen .. => true
  | .mapUnfreeze .. => true
  | .mapOpen .. => true
  | .mapRestored .. => true
  | .mapFresh .. => true
  | .calRunAll .. => true
  | .calRunDone .. => true
  | .pcRetrain .. => true
  | .pcRetrainDone .. => true
  | .vdecPut .. => true
  | .vdecCtxEnable .. => true
  | .vencCtxEnable .. => true
  | .vencInPut .. => true
  | .rxFrame .. => true
  | .txFrame .. => true
  | .egressDelayDrop .. => true
  | .htxPut .. => true
  | .encTxAu .. => true
  | .sieveRefill .. => true
  | .prpSupervisionSend .. => true
  | .prpLanLost .. => true
  | .prpNodeForget .. => true
  | .portLinkUp .. => true
  | .portLinkDown .. => true
  | .flowRead .. => true
  | .flowWrite .. => true
  | .flowReadClear .. => true
  | .exactAdd .. => true
  | .exactDelete .. => true
  | .lossPop .. => true
  | .tsqPop .. => true
  | .histSample .. => true
  | .incrWrite .. => true
  | .timeStep .. => true
  | .timeSet .. => true
  | .triggerArm .. => true
  | .triggerTargetWrite .. => true
  | .triggerFire .. => true
  | .ppsEdge .. => true
  | .extCapture .. => true
  | .memRead .. => true
  | .scrubRead .. => true
  | .refresh .. => true
  | .hbmTempRead .. => true
  | .selfRefreshEnter .. => true
  | .hbmTrainingDone .. => true
  | .memRetireCmd .. => true
  | .retirePreset .. => true
  | .migrationCopy .. => true
  | .bceStart .. => true
  | .ckuCompute .. => true
  | .ckuAppend .. => true
  | .ckuCheck .. => true
  | .ckuJobDone .. => true
  | .ckuCtxWrite .. => true
  | .dcoCompress .. => true
  | .dcoDecompress .. => true
  | .dcoResume .. => true
  | .dcoAbort .. => true
  | .msixModerationExpire .. => true
  | .swRaise .. => true
  | .earlyPop .. => true
  | .ringEnable .. => true
  | .tickDivWrite .. => true
  | .sleepCmd .. => true
  | .deepSleepCmd .. => true
  | .wakeCmd .. => true
  | .resumeAck .. => true
  | .wakePin .. => true
  | .wakeDone .. => true
  | .pllLockTimeout .. => true
  | .chGateWrite .. => true
  | .kettleSample .. => true
  | .throttleStep .. => true
  | .aliveSend .. => true
  | .ehlAck .. => true
  | .ehlNak .. => true
  | .ehlReplayTimeout .. => true
  | .ttimeSend .. => true
  | .tdelayExchange .. => true
  | .pairLinkUp .. => true
  | .pairLinkTimeout .. => true
  | .partnerSilent .. => true
  | .lagMaxReached .. => true
  | .ehlResync .. => true
  | .ehlHandover .. => true
  | .ehlTakeover .. => true
  | .treeLid .. => true
  | .treeReset .. => true
  | .snapArm .. => true
  | .freezeArm .. => true
  | .lidApply .. => true
  | .bcastStart .. => true
  | .bcastDone .. => true
  | .parentSilent .. => true
  | .laneDown .. => true
  | .timeLockChanged .. => true
  | .pcieLinkTrained .. => true
  | .railReenable .. => true
  | .powerEnableOutputs .. => true
  | .fusesDone .. => true
  | .applyDone .. => true
  | .bootLate .. => true
  | .calrecSave .. => true
  | .calrecRestore .. => true
  | .configurationRequest .. => true
  | .hierarchyLaneUp .. => true
  | .pulseWidthEnd .. => true
  | _ => false

/-! ## Engines -/

/-- Engine `g` runs and fetches the word `w`, whole and not overlapped by a transfer (R96, R98, R111). -/
abbrev State.fetches (s : State) (g w : Nat) : Prop :=
  s.coreOn = true ∧ g < 128 ∧ s.engState g = esRun ∧ s.engPc g % 4 = 0 ∧ s.engPc g < lsSize
    ∧ (s.eng g).lsBusy (s.engPc g) 4 = false ∧ (s.eng g).lsNat (s.engPc g) 4 = w

/-- The state with the program counter of engine `g` behind the instruction that it had in `s`. -/
def State.advanced (s : State) (g : Nat) (t : State) : State := t.setPc g ((s.engPc g + 4) % 2 ^ 32)

/-- The state with engine `g` changed by `f` and its program counter behind the instruction. -/
def State.retired (s : State) (g : Nat) (f : Engine → Engine) : State := s.advanced g (s.setEng g f)

/-- An Ehrus message is accepted (R418): its link is up, its CRC is correct and its number is the one expected. -/
abbrev State.accepts (s : State) (h : MsgHdr) : Prop :=
  h.link < 9 ∧ s.ehlUp h.link = true ∧ h.crcOk = true ∧ h.seq = (s.ehlLink h.link).expect

/-- The state in which an accepted message takes its effect: the next number is expected and the message is acknowledged (R418). -/
def State.acked (s : State) (h : MsgHdr) : State :=
  (s.setLink h.link (fun x => { x with expect := ((s.ehlLink h.link).expect + 1) % 65536, naked := false })).ehlReply h.link true h.seq

/-- The header of a command that is an Ehrus message (R419). -/
def messageHeader : Instr → Option MsgHdr
  | .alive h .. | .regw h .. | .stack h .. | .commit h .. | .build h .. | .fstart h .. | .fend h .. | .handover h | .power h .. | .join h .. => some h
  | .tlid h .. | .treset h .. | .ttime h .. | .tdelay h .. | .tarm h .. | .tbcast h .. | .tstatus h => some h
  | _ => none

end Sys2Proof.Machine
end

