-- ==== Sys2Proof/WellFormed.lean ====
section
/-!
DEFINITION. Which commands are well formed: every operand lies in the range that the spec gives it.
-/

namespace Sys2Proof

/-- A register offset: 32-bit aligned, inside the 64 MiB of BAR0 (R4, R441). -/
def regOffset (off : Nat) : Bool := decide (off % 4 = 0 ∧ off < 0x4000000)

/-- An offset of BAR0 (R441). -/
def barOffset (off : Nat) : Bool := decide (off < 0x4000000)

/-- First byte enables of a request (R443). -/
def byteEnables (be : Nat) : Bool := decide (be < 16)

/-- Bytes of a request, at most the largest read request (R439). -/
def requestLen (n : Nat) : Bool := decide (1 ≤ n ∧ n ≤ 4096)

/-- An offset of BAR2 at its largest size (R23). -/
def bar2Offset (off : Nat) : Bool := decide (off < 2 ^ 36)

/-- A key slot (R43). -/
def keySlot (k : Nat) : Bool := decide (k < 4)

/-- A rollback counter value (R44). -/
def rollbackTarget (n : Nat) : Bool := decide (n < 128)

/-- A stack stream (R72). -/
def streamNo (i : Nat) : Bool := decide (i < 8)

/-- A buffer of a stream (R73). -/
def bufferNo (b : Nat) : Bool := decide (b < 3)

/-- Bytes of a datagram: no more than a frame holds (R309). -/
def datagramLen (n : Nat) : Bool := decide (n ≤ 9216)

/-- A ray channel (R10). -/
def channelNo (c : Nat) : Bool := decide (c < 4)

/-- A global engine number (R10). -/
def engineNo (g : Nat) : Bool := decide (g < 128)

/-- A DMA tag (R115). -/
def tagNo (t : Nat) : Bool := decide (t < 8)

/-- One bit per engine of a channel (R96). -/
def engineMask (m : Nat) : Bool := decide (m < 2 ^ 32)

/-- A lane group (R208). -/
def groupNo (g : Nat) : Bool := decide (g < 6)

/-- A tile of the map (R210). -/
def tileNo (t : Nat) : Bool := decide (t < 48)

/-- A composition layer (R182). -/
def layerNo (l : Nat) : Bool := decide (l < 24)

/-- A field of the overlay (R190). -/
def fieldNo (f : Nat) : Bool := decide (f < 64)

/-- A loop-back mode (R242). -/
def loopbackMode (m : Nat) : Bool := decide (m < 4)

/-- A captured view (R244). -/
def viewNo (v : Nat) : Bool := decide (v < 2)

/-- A pseudo-channel (R339). -/
def pseudoChannel (p : Nat) : Bool := decide (p < 64)

/-- A decoder context (R276). -/
def decoderCtx (x : Nat) : Bool := decide (x < 64)

/-- A decoder core (R276). -/
def decoderCore (k : Nat) : Bool := decide (k < 4)

/-- An encoder context (R295). -/
def encoderCtx (e : Nat) : Bool := decide (e < 16)

/-- An encoder core (R295). -/
def encoderCore (k : Nat) : Bool := decide (k < 2)

/-- An Ethernet port (R309). -/
def portNo (p : Nat) : Bool := decide (p < 2)

/-- An egress queue of a port (R332). -/
def queueNo (q : Nat) : Bool := decide (q < 64)

/-- A host ring (R325). -/
def ringNo (r : Nat) : Bool := decide (r < 16)

/-- A flow context (R318). -/
def flowNo (x : Nat) : Bool := decide (x < 16384)

/-- A time trigger (R317). -/
def triggerNo (n : Nat) : Bool := decide (n < 8)

/-- A target register of a trigger (R336). -/
def targetReg (w : Nat) : Bool := decide (w < 3)

/-- A memory client (R351). -/
def clientNo (k : Nat) : Bool := decide (k < 18)

/-- A rank (R26). -/
def rankNo (r : Nat) : Bool := decide (1 ≤ r ∧ r ≤ 7)

/-- A device address (R22). -/
def memAddr (a : Nat) : Bool := decide (a < 40 * 2 ^ 30)

/-- An HBM stack (R339). -/
def stackNo (k : Nat) : Bool := decide (k < 2)

/-- A check context (R374). -/
def checkCtx (n : Nat) : Bool := decide (n < 32)

/-- An event class (R389). -/
def classNo (c : Nat) : Bool := decide (c < 8)

/-- An MSI-X vector, or the function mask (R394). -/
def vectorNo (v : Option Nat) : Bool := (match v with | some n => decide (n < 256) | none => true)

/-- A PLL (R16). -/
def pllNo (k : Nat) : Bool := decide (k < 17)

/-- A link of the Ehrus unit: the pair link or a hierarchy lane (R416). -/
def linkNo (l : Nat) : Bool := decide (l < 9)

/-- An Ehrus lane (R416). -/
def laneNo (l : Nat) : Bool := decide (l < 16)

/-- A hierarchy lane (R416). -/
def hierarchyLane (l : Nat) : Bool := decide (8 ≤ l ∧ l < 16)

/-- A speed code of the PCIe link (R439). -/
def pciSpeed (k : Nat) : Bool := decide (1 ≤ k ∧ k ≤ 5)

/-- A BAR2 size that the capability offers (R441). -/
def bar2Size (w : CfgWrite) : Bool := (match w with | .bar2 n => decide (28 ≤ n ∧ n ≤ 36) | _ => true)

/-- Faults of a 256-byte line name its words and their symbols (R343, R344). -/
def lineFaults (fs : List LineFault) : Bool := (fs.all (fun f => match f with | .corrected w i => decide (w < 16 ∧ i < 18) | .uncorrectable w _ _ _ => decide (w < 16)))

/-- A status record names a tile address, a frame and an attempt (R218). -/
def statusFields (r : StatusRec) : Bool := decide (r.taddr < 48 ∧ r.frame < 2 ^ 16 ∧ r.att < 256)

/-- Announced pictures name decoder contexts (R283). -/
def clientsOf (ps : List PicInfo) : Bool := (ps.all (fun i => decide (i.ctx < 64)))

/-- Words of a line (R344). -/
def lineWords (l : List Nat) : Bool := (l.all (fun w => decide (w < 16)))

/-- The command is well formed. -/
def Instr.wellFormed (i : Instr) : Bool :=
  match i with
  | .registerWrite off _ => regOffset off
  | .offDomainAccess off _ _ => regOffset off
  | .bar0MalformedRequest off _ _ be => barOffset off && byteEnables be
  | .bar0UndefinedAccess off _ _ => regOffset off
  | .bar2Write off bytes => bar2Offset off && requestLen bytes.length
  | .bar2Read off len => bar2Offset off && requestLen len
  | .csuLoad => true
  | .csuVerify => true
  | .csuReload => true
  | .csuCancel => true
  | .imageCheckComplete _ => true
  | .spiIdTimeout => true
  | .keyProgram slot => keySlot slot
  | .keyRevoke slot => keySlot slot
  | .rollbackProgram target => rollbackTarget target
  | .fuseBlowComplete _ => true
  | .reloadLoadingDone _ => true
  | .stkAcquire i => streamNo i
  | .stkRegister i b => streamNo i && bufferNo b
  | .stkAbandon i b => streamNo i && bufferNo b
  | .stkRegisterMarked i => streamNo i
  | .stkEnable i => streamNo i
  | .stkDisable i => streamNo i
  | .cpoolWrite _ _ => true
  | .ttBegin dg => datagramLen dg.length
  | .ttTile dg => datagramLen dg.length
  | .ttRemove dg => datagramLen dg.length
  | .ttEnd dg => datagramLen dg.length
  | .remoteTimeout i => streamNo i
  | .workItemDispatch c _ => channelNo c
  | .add g _ => engineNo g
  | .sub g _ => engineNo g
  | .mul g _ => engineNo g
  | .mulh g _ => engineNo g
  | .mulhu g _ => engineNo g
  | .and g _ => engineNo g
  | .or g _ => engineNo g
  | .xor g _ => engineNo g
  | .shl g _ => engineNo g
  | .shr g _ => engineNo g
  | .sra g _ => engineNo g
  | .srar g _ => engineNo g
  | .min g _ => engineNo g
  | .max g _ => engineNo g
  | .minu g _ => engineNo g
  | .maxu g _ => engineNo g
  | .clampu g _ => engineNo g
  | .sel g _ => engineNo g
  | .cmpeq g _ => engineNo g
  | .cmplt g _ => engineNo g
  | .cmpltu g _ => engineNo g
  | .cmple g _ => engineNo g
  | .abs g _ => engineNo g
  | .clz g _ => engineNo g
  | .mulsr g _ => engineNo g
  | .movi g _ => engineNo g
  | .movhi g _ => engineNo g
  | .vmovi g _ => engineNo g
  | .bcst g _ => engineNo g
  | .laneid g _ => engineNo g
  | .vext g _ => engineNo g
  | .vins g _ => engineNo g
  | .plogic g _ => engineNo g
  | .pany g _ => engineNo g
  | .pcnt g _ => engineNo g
  | .lds g _ => engineNo g
  | .sts g _ => engineNo g
  | .ldv g _ => engineNo g
  | .stv g _ => engineNo g
  | .ldx g _ => engineNo g
  | .stx g _ => engineNo g
  | .dmrd g _ => engineNo g
  | .dmwr g _ => engineNo g
  | .dmwait g _ => engineNo g
  | .rdcsr g _ => engineNo g
  | .wrcsr g _ => engineNo g
  | .fence g _ => engineNo g
  | .smp g _ => engineNo g
  | .smpn g _ => engineNo g
  | .smpo g _ => engineNo g
  | .sweep g _ => engineNo g
  | .occ g _ => engineNo g
  | .pft g _ => engineNo g
  | .drive g _ => engineNo g
  | .emit g _ => engineNo g
  | .twr g _ => engineNo g
  | .br g _ => engineNo g
  | .bz g _ => engineNo g
  | .bnz g _ => engineNo g
  | .call g _ => engineNo g
  | .ret g _ => engineNo g
  | .vbany g _ => engineNo g
  | .vbnone g _ => engineNo g
  | .done g _ => engineNo g
  | .trap g _ => engineNo g
  | .dmaTransferComplete g tr => engineNo g && tagNo tr.tag
  | .wiTimeout g => engineNo g
  | .engReloadStart g => engineNo g
  | .engReloadDone g _ => engineNo g
  | .lsScrub c corrected uncorrectable => channelNo c && engineMask corrected && engineMask uncorrectable
  | .pcLineFill g _ _ => engineNo g
  | .engEnableWrite c _ => channelNo c
  | .dbgDataAccess c _ _ => channelNo c
  | .eyeSetCommit _ => true
  | .eyeStale => true
  | .frameStart => true
  | .frameForced => true
  | .frameSetupDone => true
  | .camEnable => true
  | .rigSelect _ => true
  | .camRestart => true
  | .buildInstant => true
  | .lidCommit _ => true
  | .commitPrepDone => true
  | .lidOffscreen _ => true
  | .offscreenDone => true
  | .layerFence _ => true
  | .lateLayerReady l => layerNo l
  | .overlayFieldStale f => fieldNo f
  | .wbHeldClear _ => true
  | .updateStart _ => true
  | .packetSend g => groupNo g
  | .corrSend g => groupNo g
  | .frameComplete => true
  | .frameDeadline => true
  | .srAck g r _ => groupNo g && statusFields r
  | .srNak g r _ => groupNo g && statusFields r
  | .srStat g r _ => groupNo g && statusFields r
  | .srSwitch g r _ => groupNo g && statusFields r
  | .srCaps g r _ => groupNo g && statusFields r
  | .srLockloss g r _ => groupNo g && statusFields r
  | .srSilent g => groupNo g
  | .pieceAckTimeout t => tileNo t
  | .splRestore _ => true
  | .holdRequest _ => true
  | .holdEnter => true
  | .holdExit => true
  | .groupAdaptStart g => groupNo g
  | .groupAdaptDone g _ => groupNo g
  | .splEnable => true
  | .groupStageDone g _ => groupNo g
  | .groupStageTimeout g => groupNo g
  | .groupFailedRetry g => groupNo g
  | .splGBringup g => groupNo g
  | .splGRetrain g => groupNo g
  | .splGDisable g => groupNo g
  | .fastRetrainDone g _ _ => groupNo g
  | .splLoopbackSelect g mode => groupNo g && loopbackMode mode
  | .loopbackError g _ => groupNo g
  | .auxTrain => true
  | .auxTrainDone _ _ _ => true
  | .dpHpd _ => true
  | .auxChTransaction _ => true
  | .dpChDone _ _ _ => true
  | .dpFrameStart => true
  | .dpUnderrun _ x => decoderCtx x
  | .cloneCopyDone v => viewNo v
  | .tileTempWrite t _ => tileNo t
  | .tileTempStale t => tileNo t
  | .alsReading _ => true
  | .passStart => true
  | .passDone => true
  | .corrApplyDone => true
  | .mapFreeze => true
  | .mapFrozen => true
  | .mapUnfreeze => true
  | .mapOpen => true
  | .mapRestored => true
  | .mapFresh => true
  | .calRunAll => true
  | .calRunDone => true
  | .pcRetrain p => pseudoChannel p
  | .pcRetrainDone p _ => pseudoChannel p
  | .vdecPut x _ => decoderCtx x
  | .vdecCtxEnable x _ => decoderCtx x
  | .vdecCtxDisable x _ => decoderCtx x
  | .vdecFlush x => decoderCtx x
  | .vdecReset x => decoderCtx x
  | .decodeStart core info => decoderCore core && clientsOf info
  | .decodeComplete core _ => decoderCore core
  | .vencCtxEnable e _ => encoderCtx e
  | .vencInPut e _ => encoderCtx e
  | .encodeInstant e => encoderCtx e
  | .encodeComplete core _ => encoderCore core
  | .rxFrame p _ _ => portNo p
  | .ingressDrain => true
  | .txFrame p _ => portNo p
  | .egressDelayDrop p q => portNo p && queueNo q
  | .htxPut r _ => ringNo r
  | .encTxAu e => encoderCtx e
  | .sieveRefill => true
  | .prpSupervisionSend => true
  | .prpLanLost _ p => portNo p
  | .prpNodeForget _ => true
  | .portLinkUp p _ => portNo p
  | .portLinkDown p => portNo p
  | .flowRead => true
  | .flowWrite => true
  | .flowReadClear => true
  | .exactAdd ctx => flowNo ctx
  | .exactDelete => true
  | .lossPop => true
  | .tsqPop p => portNo p
  | .histSample => true
  | .incrWrite _ => true
  | .timeStep _ => true
  | .timeSet _ => true
  | .timeRead => true
  | .triggerArm n _ => triggerNo n
  | .triggerTargetWrite n which _ => triggerNo n && targetReg which
  | .triggerFire n => triggerNo n
  | .ppsEdge => true
  | .extCapture => true
  | .memRead client rank a _ faults => clientNo client && rankNo rank && memAddr a && lineFaults faults
  | .memWrite client rank a _ _ faults => clientNo client && rankNo rank && memAddr a && lineFaults faults
  | .scrubRead line => lineFaults line.faults
  | .refresh p => pseudoChannel p
  | .hbmTempRead _ _ => true
  | .selfRefreshEnter k => stackNo k
  | .hbmTrainingDone _ => true
  | .memRetireCmd _ => true
  | .retirePreset _ => true
  | .migrationCopy bad => lineWords bad
  | .bceStart => true
  | .bceAbort => true
  | .bceNop => true
  | .bceCopy => true
  | .bceFill => true
  | .bceLink => true
  | .bceStop => true
  | .ckuCompute ctx _ => checkCtx ctx
  | .ckuAppend ctx _ => checkCtx ctx
  | .ckuCheck ctx _ => checkCtx ctx
  | .ckuJobDone => true
  | .ckuCtxWrite n _ _ => checkCtx n
  | .dcoCompress => true
  | .dcoDecompress => true
  | .dcoResume => true
  | .dcoAbort => true
  | .dcoOutFull => true
  | .dcoJobDone => true
  | .eventTick => true
  | .ringWriteDone => true
  | .msixModerationExpire c => classNo c
  | .msixUnmask v => vectorNo v
  | .swRaise _ => true
  | .earlyPop => true
  | .ringEnable _ => true
  | .tickDivWrite _ => true
  | .sleepCmd => true
  | .deepSleepCmd _ => true
  | .wakeCmd => true
  | .resumeAck => true
  | .sleepEntered => true
  | .wakePin => true
  | .wakeDone => true
  | .pllLockTimeout pll => pllNo pll
  | .chGateWrite _ => true
  | .kettleSample => true
  | .kettleSampleDone _ => true
  | .throttleStep => true
  | .stopWindowExpire => true
  | .alive h _ _ => linkNo h.link
  | .aliveSend => true
  | .regw h _ => linkNo h.link
  | .stack h _ => linkNo h.link
  | .commit h _ => linkNo h.link
  | .build h _ => linkNo h.link
  | .fstart h _ => linkNo h.link
  | .fend h _ => linkNo h.link
  | .handover h => linkNo h.link
  | .power h _ => linkNo h.link
  | .join h _ => linkNo h.link
  | .tlid h _ _ => linkNo h.link
  | .treset h _ _ => linkNo h.link
  | .ttime h _ => linkNo h.link
  | .tdelay h _ => linkNo h.link
  | .tarm h _ _ => linkNo h.link
  | .tbcast h _ _ _ => linkNo h.link
  | .tstatus h => linkNo h.link
  | .ehlAck l _ => linkNo l
  | .ehlNak l _ => linkNo l
  | .ehlReplayTimeout l => linkNo l
  | .ttimeSend => true
  | .tdelayExchange => true
  | .pairLinkUp _ _ _ => true
  | .pairLinkTimeout => true
  | .partnerSilent => true
  | .lagMaxReached => true
  | .ehlResync => true
  | .ehlHandover => true
  | .ehlTakeover => true
  | .treeLid _ => true
  | .treeReset _ => true
  | .snapArm => true
  | .freezeArm => true
  | .lidApply => true
  | .treeResetApply => true
  | .snapshotTake => true
  | .bcastStart _ => true
  | .bcastDone _ => true
  | .parentSilent => true
  | .laneDown l _ => laneNo l
  | .timeLockChanged => true
  | .pcieLinkTrained speed _ => pciSpeed speed
  | .functionReset _ => true
  | .gctlResetFull _ => true
  | .gctlResetImage _ => true
  | .resetPin => true
  | .powerGoodRise _ => true
  | .powerGoodFall => true
  | .railPgFall _ => true
  | .railReenable => true
  | .powerEnableOutputs => true
  | .fusesDone => true
  | .applyDone => true
  | .firstFrameStart => true
  | .bootLate => true
  | .calrecSave => true
  | .calrecRestore => true
  | .calrecDone => true
  | .rcRead off => regOffset off
  | .configurationRequest w => bar2Size w
  | .hierarchyLaneUp l _ => hierarchyLane l
  | .pgHbmPgSdsRise => true
  | .vddAonBelowMinimum => true
  | .pulseWidthEnd _ => true

end Sys2Proof
end

