-- ==== Sys2Proof/Certificates/Slice0/Obligations.lean ====
section
/-!
DEFINITION. The statements of this model.
-/

open Sys2Proof Sys2Proof.Machine

/-- For every command c, queue rest and state s, a step of s with c at the front of its queue is exec of c on s with the rest as queue. A step of a state with no command waiting answers that state (the model's choice, log entry 10) (R4, R6). -/
def Obligations.StepRunsFrontCommand : Prop :=
  (∀ (c : Instr) (rest : List Instr) (s : State), step { s with pending := c :: rest } = exec c { s with pending := rest })
  ∧ (∀ s : State, s.pending = [] → step s = .next s)

/-- Every command answers a next state whose queue is the one it was given: no command faults, is refused, or touches the queue. From every state, as many steps as commands wait end in a state in which none waits, without a fault or a refusal on the way (R4, R444). -/
def Obligations.EveryCommandAnswers : Prop :=
  (∀ (c : Instr) (s : State), ∃ t, exec c s = .next t ∧ t.pending = s.pending)
  ∧ (∀ s : State, ∃ t : State, Host.Core.run Sys2Proof.core s.pending.length s = Host.Outcome.next t ∧ t.pending = [])

/-- From every state whose device memory is in canonical form, not only from states that a run reaches, a step that answers a next state answers one whose device memory is in canonical form (R22, R345). -/
def Obligations.StepKeepsMemoryCanonical : Prop :=
  ∀ s t : State, s.memCanonical → step s = .next t → t.memCanonical

/-- Right after reset device memory lists nothing, which is its canonical form, and these registers read what their tables state: EVC_VERSION, PWR_VERSION, EVC_TICK, the class vectors, the event enables, PWR_WAKE_EN, PWR_ETH_WAKE, PWR_CH_GATE, PWR_KETTLE_LIM, PWR_THROTTLE, PWR_SITE_VALID and PWR_STATE; the tick divider in force is that of EVC_TICK (R20, R22, R412, R413). -/
def Obligations.ResetState : Prop :=
  State.reset.mem = [] ∧ State.reset.memCanonical ∧ State.reset.rd EVC_VERSION = 0x00010000 ∧ State.reset.rd EVC_TICK = 0x00000004
    ∧ (List.range 8).all (fun c => State.reset.rdN (EVC_CLASS_VEC c) == c) = true
    ∧ (List.range 32).all (fun g => State.reset.rd (EVC_ENABLE g) == 0xFFFFFFFF) = true
    ∧ State.reset.rd PWR_VERSION = 0x00010000 ∧ State.reset.rd PWR_STATE = 0 ∧ State.reset.rd PWR_WAKE_EN = 0x00000001
    ∧ State.reset.rd (PWR_ETH_WAKE 0) = 0x000088B5 ∧ State.reset.rd (PWR_ETH_WAKE 1) = 0x000088B5
    ∧ State.reset.rd PWR_CH_GATE = 0x0000000F ∧ State.reset.rd PWR_CH_GATE_STATUS = 0 ∧ State.reset.rd PWR_KETTLE_LIM = 0x00006964
    ∧ State.reset.rd PWR_THROTTLE = 0x00000064 ∧ State.reset.rd PWR_SITE_VALID = 0x00FFFFFF ∧ State.reset.evc.div = 4

/-- For a function that is not in D3hot: a read of an aligned BAR0 offset whose block is off completes with four bytes 0 and raises source 7 with the offset; a write of it only raises source 7 with the offset. Source 7 is of class GENERAL. Every block outside the PWR area is off while CORE is off, and every offset of a channel whose ENGCLK gate is closed is off (R21). -/
def Obligations.OffDomainAccess : Prop :=
  (∀ (s : State) (off : Nat) (val : Word), s.pcie.d3 = false → off % 4 = 0 → off < 0x4000000 → s.blockOff off = true →
      answers (.rcRead off) s ((s.raise 7 off).complete [0, 0, 0, 0] false) ∧ answers (.registerWrite off val) s (s.raise 7 off)
      ∧ answers (.offDomainAccess off false val) s ((s.raise 7 off).complete [0, 0, 0, 0] false)
      ∧ answers (.offDomainAccess off true val) s (s.raise 7 off))
  ∧ (sourceClass 7 = clsGeneral)
  ∧ (∀ (s : State) (off : Nat), off < 0x400000 ∨ 0x800000 ≤ off → s.coreOn = false → s.blockOff off = true)
  ∧ (∀ (s : State) (c k : Nat), c < 4 → k < 0x400000 → s.gateOpen c = false → s.blockOff (0x800000 + 0x400000 * c + k) = true)

/-- Outside D3hot: a BAR0 request that is not one DW with byte enables 0xF, at an offset outside the MSI-X table and pending-bit array, records its offset (KIND 0) in GCTL_ACCESS_FAULT, counts in GCTL_ACCESS_FAULT_CNT and raises source 1 with the offset; a read completes with zeros. An aligned DW access to an offset below 64 MiB that no block defines, in a block that is on, records its offset with KIND 1, counts and raises source 2 with the offset; a read completes with zeros (R443). -/
def Obligations.MalformedAndUndefinedAccess : Prop :=
  (∀ (s : State) (off dws be : Nat), s.pcie.d3 = false → dws ≠ 1 ∨ be ≠ 0xF → msixArea off = false →
      answers (.bar0MalformedRequest off true dws be) s
        (((s.wrN GCTL_ACCESS_FAULT (off % 2 ^ 26)).count GCTL_ACCESS_FAULT_CNT).raise 1 off)
      ∧ answers (.bar0MalformedRequest off false dws be) s
        ((((s.wrN GCTL_ACCESS_FAULT (off % 2 ^ 26)).count GCTL_ACCESS_FAULT_CNT).raise 1 off).complete (List.replicate (4 * dws) 0) false))
  ∧ (∀ (s : State) (off : Nat) (val : Word), s.pcie.d3 = false → off % 4 = 0 → off < 0x4000000 → s.blockOff off = false →
      regRowAt off = none →
      answers (.bar0UndefinedAccess off true val) s
        (((s.wrN GCTL_ACCESS_FAULT (off % 2 ^ 26 + 2 ^ 28)).count GCTL_ACCESS_FAULT_CNT).raise 2 off)
      ∧ answers (.bar0UndefinedAccess off false val) s
        ((((s.wrN GCTL_ACCESS_FAULT (off % 2 ^ 26 + 2 ^ 28)).count GCTL_ACCESS_FAULT_CNT).raise 2 off).complete [0, 0, 0, 0] false))

/-- Outside D3hot, a read of a defined register of a block that is on completes with its value, WO bits as 0; its RC bits are 0 afterwards, its other bits, every other register and memory keep their value. Not stated here: TMU_TIME_NS, EVC_TICK_LO, NET_HIST_DATA and CH_DBG_DATA, whose reads have an action of their own (R5). -/
def Obligations.RegisterRead : Prop :=
  ∀ (s : State) (off : Nat) (r : RegRow), s.pcie.d3 = false → off % 4 = 0 → off < 0x4000000 → s.blockOff off = false →
      regRowAt off = some r → off ≠ TMU_TIME_NS → off ≠ EVC_TICK_LO → off ≠ NET_HIST_DATA → (∀ c < 4, off ≠ CH_DBG_DATA c) →
      ∃ t, exec (.rcRead off) s = .next t
        ∧ t.pcie.completion = some ⟨leBytes 4 (s.rdN off &&& (2 ^ 32 - 1 - r.wo)), false⟩
        ∧ (∀ b < 32, bitAt (t.rdN off) b = (bitAt (s.rdN off) b && !bitAt r.rc b))
        ∧ (∀ o, o ≠ off → t.rd o = s.rd o) ∧ t.mem = s.mem

/-- The plain write of a register without locked fields gives every RW bit the written value, clears every W1C bit that is written 1, and keeps every other bit; every other register and memory keep their value (R5). -/
def Obligations.PlainWriteByAccessCode : Prop :=
  ∀ (s : State) (off : Nat) (val : Word) (r : RegRow), regRowAt off = some r → r.rwl = 0 →
      (∀ b < 32, bitAt ((s.plainWrite off val).rdN off) b
        = ((if bitAt r.rw b then bitAt val.toNat b else bitAt (s.rdN off) b) && !(bitAt r.w1c b && bitAt val.toNat b)))
      ∧ (∀ o, o ≠ off → (s.plainWrite off val).rd o = s.rd o) ∧ (s.plainWrite off val).mem = s.mem

/-- A host write of a defined register that it reaches answers the effect of that register, followed by what a primary passes to its partner; on a secondary a write of a register that the pair shares has one effect: its offset goes to EHL_REFUSED_ADDR, EHL_REFUSED_CNT counts it, and source 806 is raised (R5, R20, R426). -/
def Obligations.RegisterWriteReaches : Prop :=
  (∀ (s : State) (off : Nat) (val : Word) (r : RegRow), s.reaches off → off % 4 = 0 → off < 0x4000000 → regRowAt off = some r →
      answers (.registerWrite off val) s ((s.hostWrite off val).passedOn off val))
  ∧ (∀ (s : State) (off : Nat) (val : Word) (r : RegRow), s.pcie.d3 = false → s.blockOff off = false → s.pairState = pairSecondary →
      pairShared off = true → off % 4 = 0 → off < 0x4000000 → regRowAt off = some r →
      answers (.registerWrite off val) s (((s.wrN EHL_REFUSED_ADDR off).count EHL_REFUSED_CNT).raise 806 0))

/-- The write of a register's RWL bits gives those that are unlocked the written value and keeps the register's other bits (the two lock-fault registers apart); where a locked bit was to change, the offset is in CSU_LOCK_FAULT, CSU_LOCK_FAULT_CNT has counted, and source 35 is raised (R53). -/
def Obligations.LockedWrite : Prop :=
  (∀ (s : State) (off mask : Nat) (val : Word), off ≠ CSU_LOCK_FAULT → off ≠ CSU_LOCK_FAULT_CNT → mask < 2 ^ 32 →
      (∀ b < 32, bitAt ((s.lockedBits off mask val).rdN off) b
        = (if bitAt mask b && bitAt (s.unlocked off) b then bitAt val.toNat b else bitAt (s.rdN off) b)))
  ∧ (∀ (s : State) (off mask : Nat) (val : Word), (∃ b < 32, bitAt mask b = true ∧ bitAt (s.unlocked off) b = false ∧ bitAt val.toNat b ≠ bitAt (s.rdN off) b) →
      off < 2 ^ 32 → off ≠ CSU_LOCK_FAULT → off ≠ CSU_LOCK_FAULT_CNT →
      (s.lockedBits off mask val).rdN CSU_LOCK_FAULT = off
      ∧ (s.lockedBits off mask val).rdN CSU_LOCK_FAULT_CNT = min (s.rdN CSU_LOCK_FAULT_CNT + 1) 0xFFFFFFFF
      ∧ (s.lockedBits off mask val).evc.raised = raiseIn false 35 (sourceClass 35) 0 s.evc.raised)

/-- Outside D3hot and with CORE on: before MEM_STATUS.TRAINED a write only raises source 4 with its offset; afterwards a write of one 16-byte word inside the programmed size, to a place that accepts host writes, puts its bytes into memory, changes no other byte, and leaves the word free of poison. A write of one 16-byte word to a place that does not accept host writes (one that a lease protects, with PROTECT set, among them) answers a state with the same memory (R445, R23). -/
def Obligations.Bar2Write : Prop :=
  (∀ (s : State) (off : Nat) (bs : List Byte), s.pcie.d3 = false → s.coreOn = true → s.on MEM_STATUS_TRAINED = false →
      answers (.bar2Write off bs) s (s.raise 4 off))
  ∧ (∀ (s : State) (w : Nat) (bs : List Byte), s.pcie.d3 = false → s.coreOn = true → s.on MEM_STATUS_TRAINED = true → bs.length = 16 →
      16 * w + 16 ≤ 2 ^ s.bits GCTL_BAR2_SIZE 5 0 → s.hostPlace (16 * w) = .opened →
      ∃ t, exec (.bar2Write (16 * w) bs) s = .next t ∧ (∀ i < 16, memByte t.mem (16 * w + i) = bs.getD i 0)
        ∧ (∀ a, a < 16 * w ∨ 16 * w + 16 ≤ a → memByte t.mem a = memByte s.mem a) ∧ t.poisonedAt (16 * w) = false)
  ∧ (∀ (s : State) (w : Nat) (bs : List Byte), bs.length = 16 → s.coreOn = true →
      s.hostPlace (16 * w) ≠ .opened → (s.hostPlace (16 * w) = .leased → s.on CMP_LEASE_CTRL_PROTECT = true) →
      ∃ t, exec (.bar2Write (16 * w) bs) s = .next t ∧ t.mem = s.mem)

/-- Outside D3hot and with CORE on: before MEM_STATUS.TRAINED a read completes with zeros and raises source 4 with its offset. Afterwards a read inside the programmed size that meets no word in poison form completes with the memory's bytes below 40 GiB and 0 above, leaves memory as it was, and raises source 5 with the first address above where it goes there, and nothing where it does not; one that meets a word in poison form completes as poisoned, leaves memory as it was, records the first such word's address with KIND 2 in GCTL_ACCESS_FAULT and GCTL_ACCESS_FAULT_HI and counts it in GCTL_ACCESS_FAULT_CNT (R445, R23). -/
def Obligations.Bar2Read : Prop :=
  (∀ (s : State) (off len : Nat), s.pcie.d3 = false → s.coreOn = true → s.on MEM_STATUS_TRAINED = false →
      answers (.bar2Read off len) s ((s.raise 4 off).complete (List.replicate len 0) false))
  ∧ (∀ (s : State) (off len : Nat), s.pcie.d3 = false → s.coreOn = true → s.on MEM_STATUS_TRAINED = true →
      off + len ≤ 2 ^ s.bits GCTL_BAR2_SIZE 5 0 → (wordSpans off len).all (fun w => !s.poisonedAt w.2.1) = true →
      ∃ t, exec (.bar2Read off len) s = .next t ∧ t.mem = s.mem
        ∧ t.pcie.completion = some ⟨(List.range len).map (fun i => if off + i < memSize then memByte s.mem (off + i) else 0), false⟩
        ∧ t.evc.raised = (if max off memSize < off + len then raiseIn false 5 (sourceClass 5) (max off memSize) s.evc.raised else s.evc.raised))
  ∧ (∀ (s : State) (off len : Nat) (w : Nat × Nat × Nat), s.pcie.d3 = false → s.coreOn = true → s.on MEM_STATUS_TRAINED = true →
      off + len ≤ 2 ^ s.bits GCTL_BAR2_SIZE 5 0 → (wordSpans off len).find? (fun w => s.poisonedAt w.2.1) = some w →
      ∃ t c, exec (.bar2Read off len) s = .next t ∧ t.mem = s.mem ∧ t.pcie.completion = some c ∧ c.poisoned = true
        ∧ t.rdN GCTL_ACCESS_FAULT = w.2.1 / 64 % 2 ^ 26 + 2 ^ 28 * 2 ∧ t.rdN GCTL_ACCESS_FAULT_HI = w.2.1 / 2 ^ 32 % 16
        ∧ t.rdN GCTL_ACCESS_FAULT_CNT = min (s.rdN GCTL_ACCESS_FAULT_CNT + 1) 0xFFFFFFFF)

/-- With PWR_GOOD high and the PCIe PLL locked: a Resizable BAR write of a size from 2^28 to 2^36 sets GCTL_BAR2_SIZE and changes nothing else; one of another size changes nothing; a write of the MSI-X control sets the Enable and Function Mask bits, and one that clears the mask then lets out the messages that wait; a write of the power state sets it (R441, R394, R439). -/
def Obligations.ConfigurationRequests : Prop :=
  (∀ (s : State) (n : Nat), s.pwr.rails.powerGood = true → s.pllLocked pllPcie = true → 28 ≤ n → n ≤ 36 →
      answers (.configurationRequest (.bar2 n)) s (s.put ⟨GCTL_BAR2_SIZE, 5, 0⟩ n))
  ∧ (∀ (s : State) (n : Nat), s.pwr.rails.powerGood = true → s.pllLocked pllPcie = true → n < 28 ∨ 36 < n → answers (.configurationRequest (.bar2 n)) s s)
  ∧ (∀ (s : State) (en : Bool), s.pwr.rails.powerGood = true → s.pllLocked pllPcie = true →
      answers (.configurationRequest (.msix en true)) s { s with pcie := { s.pcie with msixEn := en, funcMask := true } }
      ∧ answers (.configurationRequest (.msix en false)) s
          (State.sendPending { s with pcie := { s.pcie with msixEn := en, funcMask := false } }))
  ∧ (∀ (s : State) (d : Bool), s.pwr.rails.powerGood = true → s.pllLocked pllPcie = true →
      answers (.configurationRequest (.power d)) s { s with pcie := { s.pcie with d3 := d } })

/-- A LOAD with no image active, and a VERIFY, written while no check runs set their check going and write CHECKING into CSU_LOAD_STATUS; LOAD also shows boot stage 2. A RELOAD written while no check runs and the reload is IDLE sets its check going and writes CHECKING with the target channel of the pushed header into CSU_RELOAD_STATUS. Otherwise each of the three only raises source 33 with code BUSY as data. CANCEL in CHECKING, STAGED or FAILED returns the reload to IDLE with nothing staged and its check ended, and in the other states it changes nothing. At the end of LOADING, a load that succeeded with an unpoisoned staged image takes that image into the channel, and any other one fails the reload with code MEMORY; on a secondary in sync either costs the sync. A reload that fails is FAILED with its code and holds nothing staged (R48, R49, R54, R55, R56, R58). -/
def Obligations.LoadsVerifiesAndReloads : Prop :=
  (∀ (s : State), s.reaches CSU_CMD → s.csu.checking = none → s.on CSU_STATUS_IMAGE_VALID = false →
      answers (.csuLoad) s ((State.wrN { s with csu := { s.csu with checking := some .load } } CSU_LOAD_STATUS 1).put GCTL_BOOT_STATUS_STAGE 2))
  ∧ (∀ (s : State), s.reaches CSU_CMD → s.csu.checking = none →
      answers (.csuVerify) s (State.wrN { s with csu := { s.csu with checking := some .verify } } CSU_LOAD_STATUS 1))
  ∧ (∀ (s : State), s.reaches CSU_CMD → s.csu.checking = none → s.get CSU_RELOAD_STATUS_STATE = 0 →
      answers (.csuReload) s (State.wrN { s with csu := { s.csu with checking := some .reload } } CSU_RELOAD_STATUS (1 + 2 ^ 4 * (s.memNat (s.pushAt.1 + 0x0D) 1 % 4))))
  ∧ (∀ (s : State), s.reaches CSU_CMD → s.csu.checking ≠ none ∨ s.on CSU_STATUS_IMAGE_VALID = true →
      answers (.csuLoad) s (s.raise 33 0x0C))
  ∧ (∀ (s : State), s.reaches CSU_CMD → s.csu.checking ≠ none →
      answers (.csuVerify) s (s.raise 33 0x0C))
  ∧ (∀ (s : State), s.reaches CSU_CMD → s.csu.checking ≠ none ∨ s.get CSU_RELOAD_STATUS_STATE ≠ 0 →
      answers (.csuReload) s (s.raise 33 0x0C))
  ∧ (∀ (s : State), s.reaches CSU_CMD → s.get CSU_RELOAD_STATUS_STATE = 1 ∨ s.get CSU_RELOAD_STATUS_STATE = 2 ∨ s.get CSU_RELOAD_STATUS_STATE = 5 →
      answers (.csuCancel) s (State.put { s with csu := { s.csu with staged := none, checking := if s.csu.checking = some .reload then none else s.csu.checking } } CSU_RELOAD_STATUS_STATE 0))
  ∧ (∀ (s : State), s.reaches CSU_CMD → s.get CSU_RELOAD_STATUS_STATE ≠ 1 → s.get CSU_RELOAD_STATUS_STATE ≠ 2 → s.get CSU_RELOAD_STATUS_STATE ≠ 5 →
      answers (.csuCancel) s (s))
  ∧ (∀ (s : State) (n : Nat), s.coreOn = true → s.get CSU_RELOAD_STATUS_STATE = 3 → s.csu.staged = some n → s.poisonedIn (s.controlAt 14) n = false →
      answers (.reloadLoadingDone true) s ((s.loadStaged (s.get CSU_RELOAD_STATUS_CH)).desync 5))
  ∧ (∀ (s : State) (ok : Bool), s.coreOn = true → s.get CSU_RELOAD_STATUS_STATE = 3 → ok = false ∨ s.csu.staged = none ∨ (∃ n, s.csu.staged = some n ∧ s.poisonedIn (s.controlAt 14) n = true) →
      answers (.reloadLoadingDone ok) s ((s.reloadFail 0x0D).desync 5))
  ∧ (∀ (s : State) (code : Nat), code < 256 → (s.reloadFail code).get CSU_RELOAD_STATUS_STATE = 5 ∧ (s.reloadFail code).get CSU_RELOAD_STATUS_CODE = code
      ∧ (s.reloadFail code).csu.staged = none)

/-- Each clause is for a state in which CORE runs and the check named is under way; r is what the checks find in that state with no check running any more. VERIFY: the status shows PASSED, or FAILED with the code and the section of the failed check and then source 33 is raised besides; image, channels and memory stay as they were. LOAD: a pushed image that passes shows PASSED and is applied as source 3; one that fails shows FAILED with its code and section, raises source 33 and waits for a host push (boot stage 7). Flash copy A: one that passes is applied as source 1; one that fails shows its code and section, raises source 40 and starts the check of copy B. Copy B: one that passes is applied as source 2; one that fails shows its code and section, raises source 34 and waits for a host push. No flash responding: the status shows code SPI, source 34 is raised and the device waits for a host push. RELOAD: an image that passes is staged, with STAGED and its target channel in CSU_RELOAD_STATUS and memory as the checks left it outside the staging area; one that fails returns the reload to IDLE with its code and raises source 33 (R45, R46, R48, R49, R54, R58, R59). -/
def Obligations.ImageChecksEnd : Prop :=
  (∀ (s : State) (flash : List Byte) (r : State × Option (Nat × Nat)), s.coreOn = true → s.csu.checking = some .verify →
      r = State.pushChecks { s with csu := { s.csu with checking := none } } none →
      ∃ t, exec (.imageCheckComplete flash) s = .next t
        ∧ t.rdN CSU_LOAD_STATUS = (match r.2 with | none => 2 | some e => (3 + 2 ^ 8 * e.1 + 2 ^ 16 * (e.2 % 32)) % 2 ^ 32)
        ∧ t.evc.raised = (if r.2 = none then r.1.evc.raised else raiseIn false 33 (sourceClass 33) 0 r.1.evc.raised)
        ∧ t.csu.checking = none ∧ t.csu.image = s.csu.image ∧ t.csu.chans = s.csu.chans ∧ t.mem = s.mem)
  ∧ (∀ (s : State) (flash : List Byte) (r : State × Option (Nat × Nat)), s.coreOn = true → s.csu.checking = some .load → r = State.pushChecks { s with csu := { s.csu with checking := none } } (some 1) →
      answers (.imageCheckComplete flash) s (match r.2 with
        | none => (r.1.wrN CSU_LOAD_STATUS 2).applyImage (r.1.pushBytes.take (imgLen r.1.pushBytes)) 3
        | some e => ((r.1.wrN CSU_LOAD_STATUS (3 + 2 ^ 8 * e.1 + 2 ^ 16 * (e.2 % 32))).raise 33 0).put GCTL_BOOT_STATUS_STAGE 7))
  ∧ (∀ (s : State) (flash : List Byte) (r : Option (Nat × Nat)), s.coreOn = true → s.csu.checking = some .spiA → r = State.imageChecks { s with csu := { s.csu with checking := none } } flash flash.length (some 1) →
      answers (.imageCheckComplete flash) s (match r with
        | none => (State.wrN { s with csu := { s.csu with checking := none } } CSU_LOAD_STATUS 2).applyImage flash 1
        | some e => ((State.wrN { s with csu := { s.csu with checking := none } } CSU_LOAD_STATUS (3 + 2 ^ 8 * e.1 + 2 ^ 16 * (e.2 % 32))).raise 40 0).startCheck .spiB))
  ∧ (∀ (s : State) (flash : List Byte) (r : Option (Nat × Nat)), s.coreOn = true → s.csu.checking = some .spiB → r = State.imageChecks { s with csu := { s.csu with checking := none } } flash flash.length (some 1) →
      answers (.imageCheckComplete flash) s (match r with
        | none => (State.wrN { s with csu := { s.csu with checking := none } } CSU_LOAD_STATUS 2).applyImage flash 2
        | some e => ((State.wrN { s with csu := { s.csu with checking := none } } CSU_LOAD_STATUS (3 + 2 ^ 8 * e.1 + 2 ^ 16 * (e.2 % 32))).raise 34 0).put GCTL_BOOT_STATUS_STAGE 7))
  ∧ (∀ (s : State), s.coreOn = true → s.csu.checking = some .spiA →
      answers (.spiIdTimeout) s (((State.wrN { s with csu := { s.csu with checking := none } } CSU_LOAD_STATUS (3 + 2 ^ 8 * 0x0E)).raise 34 0).put GCTL_BOOT_STATUS_STAGE 7))
  ∧ (∀ (s : State) (flash : List Byte) (r : State × Option (Nat × Nat)) (b : List Byte), s.coreOn = true → s.csu.checking = some .reload → r = State.pushChecks { s with csu := { s.csu with checking := none } } (some 2) → b = r.1.pushBytes.take (imgLen r.1.pushBytes) →
      answers (.imageCheckComplete flash) s (match r.2 with
        | none => State.wrN { r.1.writeArea 14 b with csu := { (r.1.writeArea 14 b).csu with staged := some b.length } } CSU_RELOAD_STATUS (2 + 2 ^ 4 * imgTarget b)
        | some e => ((r.1.put CSU_RELOAD_STATUS_STATE 0).put CSU_RELOAD_STATUS_CODE e.1).raise 33 0))

/-- With no fuse operation under way: a PROGRAM of an empty slot, by a part whose image allows it or of slot 0 of an open part (slots 1 to 3 of an open part: the model's choice, log entry 65), whose staged digest covers the digest fuses already blown, sets BUSY and has to blow the missing digest fuses in rising order and the marker fuse (384) last; a PROGRAM that one of these conditions fails sets FAIL and raises source 39. A REVOKE of a programmed and unrevoked slot that is not the active image's, with another usable slot left, sets BUSY and has the revoke fuse (385) to blow; a REVOKE of a revoked slot clears FAIL and raises source 38 (the model's choice); one of an unprogrammed slot, of the active image's slot or of the last usable slot, and any REVOKE during an operation, sets FAIL and raises source 39. A rollback target above the count and not above the SVN of the active image sets BUSY of CSU_ROLLBACK and has the fuses between to blow; any other one sets its FAIL and raises source 39. A digest fuse that verifies, with others to follow, is blown and is no longer to do. The marker fuse makes the slot programmed and the part closed; the revoke fuse revokes the slot; the last rollback fuse raises the count by one; each of these ends the operation with BUSY and FAIL clear and raises source 38. A fuse of a key operation that does not verify ends it with FAIL, blows nothing and raises source 39 (R43, R44). -/
def Obligations.KeyFuses : Prop :=
  (∀ (s : State) (k : Nat), s.reaches CSU_KEY_CMD → k < 4 → s.csu.op = none → bitAt (s.get CSU_KEY_STATUS_PROG) k = false → s.provision = true ∨ (s.partOpen = true ∧ k = 0) → s.csu.fuses.getD k 0 &&& s.keyHash = s.csu.fuses.getD k 0 →
      answers (.keyProgram k) s (State.put { s with csu := { s.csu with op := some { key := true, slot := k, revoke := false, todo := (List.range 384).filter (fun i => bitAt s.keyHash i && !bitAt (s.csu.fuses.getD k 0) i) ++ [384] } } } CSU_KEY_STATUS_BUSY 1))
  ∧ (∀ (s : State) (k : Nat), s.reaches CSU_KEY_CMD → k < 4 → s.csu.op ≠ none ∨ bitAt (s.get CSU_KEY_STATUS_PROG) k = true ∨ (s.provision = false ∧ (s.partOpen = false ∨ k ≠ 0)) ∨ s.csu.fuses.getD k 0 &&& s.keyHash ≠ s.csu.fuses.getD k 0 →
      answers (.keyProgram k) s ((s.put CSU_KEY_STATUS_FAIL 1).raise 39 0))
  ∧ (∀ (s : State) (k : Nat), s.reaches CSU_KEY_CMD → k < 4 → s.csu.op = none → bitAt (s.get CSU_KEY_STATUS_PROG) k = true → bitAt (s.get CSU_KEY_STATUS_REVOKED) k = false → s.on CSU_STATUS_IMAGE_VALID = true → s.get CSU_KEY_STATUS_ACTIVE_SLOT ≠ k → (∃ n < 4, n ≠ k ∧ s.slotUsable n = true) →
      answers (.keyRevoke k) s (State.put { s with csu := { s.csu with op := some { key := true, slot := k, revoke := true, todo := [385] } } } CSU_KEY_STATUS_BUSY 1))
  ∧ (∀ (s : State) (k : Nat), s.reaches CSU_KEY_CMD → k < 4 → bitAt (s.get CSU_KEY_STATUS_PROG) k = false ∨ s.csu.op ≠ none →
      answers (.keyRevoke k) s ((s.put CSU_KEY_STATUS_FAIL 1).raise 39 0))
  ∧ (∀ (s : State) (k : Nat), s.reaches CSU_KEY_CMD → k < 4 → bitAt (s.get CSU_KEY_STATUS_REVOKED) k = false → (s.on CSU_STATUS_IMAGE_VALID = true ∧ s.get CSU_KEY_STATUS_ACTIVE_SLOT = k) ∨ (∀ n < 4, n ≠ k → s.slotUsable n = false) →
      answers (.keyRevoke k) s ((s.put CSU_KEY_STATUS_FAIL 1).raise 39 0))
  ∧ (∀ (s : State) (k : Nat), s.reaches CSU_KEY_CMD → k < 4 → s.csu.op = none → bitAt (s.get CSU_KEY_STATUS_PROG) k = true → bitAt (s.get CSU_KEY_STATUS_REVOKED) k = true →
      answers (.keyRevoke k) s ((s.put CSU_KEY_STATUS_FAIL 0).raise 38 0))
  ∧ (∀ (s : State) (n : Nat), s.reaches CSU_ROLLBACK_CMD → n < 128 → s.csu.op = none → s.on CSU_STATUS_IMAGE_VALID = true → s.bits CSU_ROLLBACK 6 0 < n → n ≤ s.bits CSU_ACTIVE_SVN 6 0 →
      answers (.rollbackProgram n) s (State.put { s with csu := { s.csu with op := some { key := false, slot := 0, revoke := false, todo := rangeFrom (s.bits CSU_ROLLBACK 6 0) (n - s.bits CSU_ROLLBACK 6 0) } } } ⟨CSU_ROLLBACK, 8, 8⟩ 1))
  ∧ (∀ (s : State) (n : Nat), s.reaches CSU_ROLLBACK_CMD → n < 128 → s.csu.op ≠ none ∨ n ≤ s.bits CSU_ROLLBACK 6 0 ∨ s.bits CSU_ACTIVE_SVN 6 0 < n ∨ s.on CSU_STATUS_IMAGE_VALID = false →
      answers (.rollbackProgram n) s ((s.put ⟨CSU_ROLLBACK, 9, 9⟩ 1).raise 39 0))
  ∧ (∀ (s : State) (k f : Nat) (n : Nat) (rest : List Nat), s.coreOn = true → s.csu.op = some { key := true, slot := k, revoke := false, todo := f :: n :: rest } → f < 384 →
      answers (.fuseBlowComplete true) s ({ s with csu := { s.csu with fuses := s.csu.fuses.modify k (fun x => x ||| 2 ^ f), op := some { key := true, slot := k, revoke := false, todo := n :: rest } } }))
  ∧ (∀ (s : State) (k : Nat), s.coreOn = true → k < 4 → s.csu.op = some { key := true, slot := k, revoke := false, todo := [384] } →
      ∃ t, exec (.fuseBlowComplete true) s = .next t ∧ bitAt (t.get CSU_KEY_STATUS_PROG) k = true
        ∧ t.on CSU_STATUS_OPEN = false
        ∧ t.on CSU_KEY_STATUS_BUSY = false
        ∧ t.on CSU_KEY_STATUS_FAIL = false
        ∧ t.csu.op = none
        ∧ t.csu.fuses = s.csu.fuses
        ∧ t.evc.raised = raiseIn false 38 (sourceClass 38) 0 s.evc.raised)
  ∧ (∀ (s : State) (k : Nat), s.coreOn = true → k < 4 → s.csu.op = some { key := true, slot := k, revoke := true, todo := [385] } →
      ∃ t, exec (.fuseBlowComplete true) s = .next t ∧ bitAt (t.get CSU_KEY_STATUS_REVOKED) k = true
        ∧ t.on CSU_KEY_STATUS_BUSY = false
        ∧ t.on CSU_KEY_STATUS_FAIL = false
        ∧ t.csu.op = none
        ∧ t.evc.raised = raiseIn false 38 (sourceClass 38) 0 s.evc.raised)
  ∧ (∀ (s : State) (f : Nat), s.coreOn = true → s.csu.op = some { key := false, slot := 0, revoke := false, todo := [f] } → s.bits CSU_ROLLBACK 6 0 < 64 →
      ∃ t, exec (.fuseBlowComplete true) s = .next t ∧ t.bits CSU_ROLLBACK 6 0 = s.bits CSU_ROLLBACK 6 0 + 1
        ∧ t.bits CSU_ROLLBACK 8 8 = 0
        ∧ t.bits CSU_ROLLBACK 9 9 = 0
        ∧ t.csu.op = none
        ∧ t.evc.raised = raiseIn false 38 (sourceClass 38) 0 s.evc.raised)
  ∧ (∀ (s : State) (k : Nat) (r : Bool) (f : Nat) (rest : List Nat), s.coreOn = true → s.csu.op = some { key := true, slot := k, revoke := r, todo := f :: rest } →
      ∃ t, exec (.fuseBlowComplete false) s = .next t ∧ t.csu.fuses = s.csu.fuses
        ∧ t.csu.op = none
        ∧ t.on CSU_KEY_STATUS_BUSY = false
        ∧ t.on CSU_KEY_STATUS_FAIL = true
        ∧ t.evc.raised = raiseIn false 39 (sourceClass 39) 0 s.evc.raised)

/-- On an active host stream that is not BUSY: ACQUIRE with no buffer FILLING makes the lowest-numbered FREE buffer FILLING and clears ERR; REGISTER of a FILLING buffer whose descriptor passes clears ERR, sets BUSY and starts marking it; REGISTER of one whose descriptor fails without a poisoned word shows ERR 4 and raises source 289 with the label of the plane that fails (log entry 66) and does nothing else; ABANDON of a FILLING buffer frees it and clears ERR. A buffer that is freed reads FREE and its stream stays as active as it was. A command that the gate refuses shows the gate's code in ERR, raises source 288 and does nothing else; the gate's code is 7 while BUSY, else 5 on a disabled stream, else 1 where the source is not host (the order of the three is the model's choice, log entry 20). Past the gate, an ACQUIRE with a buffer FILLING or none FREE is refused with code 2, and a REGISTER or ABANDON of a buffer that is not FILLING with code 3 (R73, R76, R90). -/
def Obligations.StackCommands : Prop :=
  (∀ (s : State) (i k : Nat), s.reaches (CMP_STK_CMD i) → i < 8 → s.on (CMP_STK_STATE_BUSY i) = false → (s.stream i).active = true → s.get (CMP_STK_CFG_SOURCE i) = 0 → k < 3 → s.bufState i k = 0 → (∀ b < 3, s.bufState i b ≠ 1) → (∀ b < k, s.bufState i b ≠ 0) →
      answers (.stkAcquire i) s ((s.put ⟨CMP_STK_STATE i, 2 * k + 1, 2 * k⟩ 1).put (CMP_STK_STATE_ERR i) 0))
  ∧ (∀ (s : State) (i b : Nat), s.reaches (CMP_STK_CMD i) → i < 8 → s.on (CMP_STK_STATE_BUSY i) = false → (s.stream i).active = true → s.get (CMP_STK_CFG_SOURCE i) = 0 → b < 3 → s.bufState i b = 1 → s.descPoisoned i b = false → s.descValid i b = true →
      answers (.stkRegister i b) s (((s.put (CMP_STK_STATE_ERR i) 0).put (CMP_STK_STATE_BUSY i) 1).setStream i (fun st => { st with marking := some b })))
  ∧ (∀ (s : State) (i b : Nat), s.reaches (CMP_STK_CMD i) → i < 8 → s.on (CMP_STK_STATE_BUSY i) = false → (s.stream i).active = true → s.get (CMP_STK_CFG_SOURCE i) = 0 → b < 3 → s.bufState i b = 1 → s.descPoisoned i b = false → s.descValid i b = false →
      answers (.stkRegister i b) s ((s.put (CMP_STK_STATE_ERR i) 4).raise 289 (s.badRecId i b)))
  ∧ (∀ (s : State) (i b : Nat), s.reaches (CMP_STK_CMD i) → i < 8 → s.on (CMP_STK_STATE_BUSY i) = false → (s.stream i).active = true → s.get (CMP_STK_CFG_SOURCE i) = 0 → b < 3 → s.bufState i b = 1 →
      answers (.stkAbandon i b) s ((s.freeBuf i b).put (CMP_STK_STATE_ERR i) 0))
  ∧ (∀ (s : State) (i b : Nat), b < 3 → (s.freeBuf i b).bufState i b = 0 ∧ ((s.freeBuf i b).stream i).active = (s.stream i).active)
  ∧ (∀ (s : State) (i b c : Nat), s.reaches (CMP_STK_CMD i) → i < 8 → s.stkGate i = some c →
      answers (.stkAcquire i) s ((s.put (CMP_STK_STATE_ERR i) c).raise 288 0) ∧ answers (.stkRegister i b) s ((s.put (CMP_STK_STATE_ERR i) c).raise 288 0)
      ∧ answers (.stkAbandon i b) s ((s.put (CMP_STK_STATE_ERR i) c).raise 288 0))
  ∧ (∀ (s : State) (i c : Nat), s.stkGate i = some c ↔
      c = (if s.on (CMP_STK_STATE_BUSY i) then 7 else if (s.stream i).active = false then 5 else 1)
      ∧ (s.on (CMP_STK_STATE_BUSY i) = true ∨ (s.stream i).active = false ∨ s.get (CMP_STK_CFG_SOURCE i) ≠ 0))
  ∧ (∀ (s : State) (i : Nat), s.reaches (CMP_STK_CMD i) → i < 8 → s.on (CMP_STK_STATE_BUSY i) = false → (s.stream i).active = true → s.get (CMP_STK_CFG_SOURCE i) = 0 → (∃ b < 3, s.bufState i b = 1) ∨ (∀ b < 3, s.bufState i b ≠ 0) →
      answers (.stkAcquire i) s ((s.put (CMP_STK_STATE_ERR i) 2).raise 288 0))
  ∧ (∀ (s : State) (i b : Nat), s.reaches (CMP_STK_CMD i) → i < 8 → s.stkGate i = none → ¬(b < 3 ∧ s.bufState i b = 1) →
      answers (.stkRegister i b) s ((s.put (CMP_STK_STATE_ERR i) 3).raise 288 0) ∧ answers (.stkAbandon i b) s ((s.put (CMP_STK_STATE_ERR i) 3).raise 288 0))

/-- The end of marking only notes that the marking of the buffer under way is complete, and changes nothing where none is. At the end of the tick, with no other stream so noted and no datagram waiting, the buffer is registered and nothing else settles. Registering it makes it READY, clears BUSY, ends the marking and keeps memory. With another buffer READY, on a device that is no synchronised secondary, registering it makes that one FREE and counts it in CMP_STK_SUPERSEDED. Becoming READY sets the buffer's stream hold to the slots it references (R73, R74, R75, R76, R79). -/
def Obligations.StackMarked : Prop :=
  (∀ (s : State) (i b : Nat), s.coreOn = true → (s.stream i).marking = some b →
      answers (.stkRegisterMarked i) s (s.setStream i (fun st => { st with marked := true })))
  ∧ (∀ (s : State) (i : Nat), s.coreOn = true → (s.stream i).marking = none →
      answers (.stkRegisterMarked i) s (s))
  ∧ (∀ (s : State) (i : Nat), i < 8 → (s.stream i).marked = true → (∀ j < 8, j ≠ i → (s.stream j).marked = false) →
      ((s.stkRegistered i).stream i).rxHeld = [] → s.settleMarked = (s.stkRegistered i).setStream i (fun st => { st with rxHeld := [] }))
  ∧ (∀ (s : State) (i b : Nat), i < 8 → b < 3 → (s.stream i).marking = some b → i < s.streams.length →
      s.mirrors i = false ∨ s.pairState ≠ pairPrimary → s.cam.registering = none →
      (s.stkRegistered i).bufState i b = 2 ∧ (s.stkRegistered i).on (CMP_STK_STATE_BUSY i) = false
        ∧ ((s.stkRegistered i).stream i).marking = none ∧ (s.stkRegistered i).mem = s.mem)
  ∧ (∀ (s : State) (i a b : Nat), i < 8 → a < 3 → b < 3 → a ≠ b → (s.stream i).marking = some b → s.get EHL_STATUS_PAIR ≠ 3 →
      s.bufState i a = 2 → s.bufIn i 2 = some a → s.mirrors i = false ∨ s.pairState ≠ pairPrimary → s.cam.registering = none →
      (s.stkRegistered i).bufState i a = 0 ∧ (s.stkRegistered i).bufState i b = 2
        ∧ (s.stkRegistered i).rdN (CMP_STK_SUPERSEDED i) = min (s.rdN (CMP_STK_SUPERSEDED i) + 1) 0xFFFFFFFF)
  ∧ (∀ (s : State) (i b : Nat), i < s.streams.length → b < (s.stream i).holds.length → s.get EHL_STATUS_PAIR = 3 ∨ s.bufIn i 2 = none →
      ((s.becomeReady i b).stream i).holds.getD b [] = s.bufSlots i b)

/-- Enabling a stream whose pool is in order sets ENABLE, clears ERR and GEN_VALID and makes it active; one whose pool is not shows ENABLE 1 and ERR 6, stays disabled and raises source 288; one that waits for the return of its buffers only gets ENABLE 1, and one already active stays as it is. Disabling an active stream clears ENABLE and GEN_VALID, ends its activity and its open generation and drops the datagrams that wait; its buffers return at once when no frame is in progress, and wait for its end otherwise. Disabling one that is not active clears ENABLE. Each host write is passed to the partner of a primary. A return with ENABLE 0 leaves the three buffers FREE, BUSY and CHG_FULL clear and the stream as at reset (R67, R85, R89). -/
def Obligations.StackEnableDisable : Prop :=
  (∀ (s : State) (i : Nat), s.reaches (CMP_STK_CFG i) → (s.stream i).active = false → (s.stream i).returning = false → s.poolBad i = false →
      answers (.stkEnable i) s (((((s.put (CMP_STK_CFG_ENABLE i) 1).put (CMP_STK_STATE_ERR i) 0).put (CMP_STK_STATE_GEN_VALID i) 0).setStream i (fun st => { st with active := true })).passedOn (CMP_STK_CFG i) (s.rd (CMP_STK_CFG i) ||| 1)))
  ∧ (∀ (s : State) (i : Nat), s.reaches (CMP_STK_CFG i) → (s.stream i).active = false → (s.stream i).returning = false → s.poolBad i = true →
      answers (.stkEnable i) s ((((s.put (CMP_STK_CFG_ENABLE i) 1).put (CMP_STK_STATE_ERR i) 6).raise 288 0).passedOn (CMP_STK_CFG i) (s.rd (CMP_STK_CFG i) ||| 1)))
  ∧ (∀ (s : State) (i : Nat), s.reaches (CMP_STK_CFG i) → (s.stream i).active = false → (s.stream i).returning = true →
      answers (.stkEnable i) s ((s.put (CMP_STK_CFG_ENABLE i) 1).passedOn (CMP_STK_CFG i) (s.rd (CMP_STK_CFG i) ||| 1)))
  ∧ (∀ (s : State) (i : Nat), s.reaches (CMP_STK_CFG i) → (s.stream i).active = true →
      answers (.stkEnable i) s (s.passedOn (CMP_STK_CFG i) (s.rd (CMP_STK_CFG i) ||| 1)))
  ∧ (∀ (s : State) (i : Nat), s.reaches (CMP_STK_CFG i) → (s.stream i).active = true → s.on CMP_FRAME_STATUS_ACTIVE = true →
      answers (.stkDisable i) s ((((s.put (CMP_STK_CFG_ENABLE i) 0).put (CMP_STK_STATE_GEN_VALID i) 0).setStream i (fun st => { st with active := false, returning := true, rx := none, rxHeld := [] })).passedOn (CMP_STK_CFG i) (s.rd (CMP_STK_CFG i) &&& 0xFFFFFFFE)))
  ∧ (∀ (s : State) (i : Nat), s.reaches (CMP_STK_CFG i) → (s.stream i).active = true → s.on CMP_FRAME_STATUS_ACTIVE = false →
      answers (.stkDisable i) s (((((s.put (CMP_STK_CFG_ENABLE i) 0).put (CMP_STK_STATE_GEN_VALID i) 0).setStream i (fun st => { st with active := false, returning := true, rx := none, rxHeld := [] })).returnBuffers i).passedOn (CMP_STK_CFG i) (s.rd (CMP_STK_CFG i) &&& 0xFFFFFFFE)))
  ∧ (∀ (s : State) (i : Nat), s.reaches (CMP_STK_CFG i) → (s.stream i).active = false →
      answers (.stkDisable i) s ((s.put (CMP_STK_CFG_ENABLE i) 0).passedOn (CMP_STK_CFG i) (s.rd (CMP_STK_CFG i) &&& 0xFFFFFFFE)))
  ∧ (∀ (s : State) (i : Nat), i < s.streams.length → s.on (CMP_STK_CFG_ENABLE i) = false →
      (∀ b < 3, (s.returnBuffers i).bufState i b = 0) ∧ (s.returnBuffers i).on (CMP_STK_STATE_BUSY i) = false
        ∧ (s.returnBuffers i).on (CMP_STK_STATE_CHG_FULL i) = false ∧ (s.returnBuffers i).stream i = .reset)

/-- A host write of CMP_CPOOL_BASE or CMP_CPOOL_SIZE whose bits are all unlocked takes its value as the pool's new base or size, shows the free slots, and is passed to the partner of a primary. Where the pool then reaches beyond the slots or is given a size below 1,024, its registers keep their value, CMP_COMMIT_STATUS reports POOL with LAYER 31 and CPOOL 1, and source 256 is raised, at most once in a tick; where it stays inside the slots, clear of the pools of active streams and not below 1,024, it is set (R53, R67, R206). -/
def Obligations.CompositionPoolWrite : Prop :=
  (∀ (s : State) (isSize : Bool) (val : Word) (off : Nat), off = (if isSize then CMP_CPOOL_SIZE else CMP_CPOOL_BASE) → s.reaches off →
      (2 ^ 21 - 1) &&& s.unlocked off = 2 ^ 21 - 1 →
      answers (.cpoolWrite isSize val) s
        ((cpoolWrite isSize (BitVec.ofNat 32 (s.rdN off ^^^ ((s.rdN off ^^^ val.toNat) &&& (2 ^ 21 - 1)))) s).showPool.passedOn off val))
  ∧ (∀ (s : State) (isSize : Bool) (v : Nat), v < 2 ^ 21 →
      (s.slotCount < (if isSize then s.bits CMP_CPOOL_BASE 20 0 + v else v + s.bits CMP_CPOOL_SIZE 20 0) ∨ (isSize = true ∧ v < 1024)) →
      cpoolWrite isSize (BitVec.ofNat 32 v) s = (s.wrN CMP_COMMIT_STATUS (0x0A + 2 ^ 8 * 31 + 2 ^ 13)).raiseOnce 256 0)
  ∧ (∀ (s : State) (isSize : Bool) (v : Nat), v < 2 ^ 21 → (isSize = true → 1024 ≤ v) →
      (if isSize then s.bits CMP_CPOOL_BASE 20 0 + v else v + s.bits CMP_CPOOL_SIZE 20 0) ≤ s.slotCount →
      (∀ j < 8, (s.stream j).active = true →
        rangesMeet (if isSize then s.bits CMP_CPOOL_BASE 20 0 else v) (if isSize then v else s.bits CMP_CPOOL_SIZE 20 0) (s.poolBase j) (s.poolSize j) = false) →
      cpoolWrite isSize (BitVec.ofNat 32 v) s = s.wrN (if isSize then CMP_CPOOL_SIZE else CMP_CPOOL_BASE) v)

/-- A datagram of a stream whose buffer is being marked waits (log entry 68). Otherwise: a FULL BEGIN with 1 to 64 planes on a stream with no open generation and a buffer to acquire opens its generation there, and so does a delta BEGIN whose base is the stream's last generation while that is valid and no generation has been incomplete since; a BEGIN of the open generation changes nothing; a delta BEGIN while GEN_VALID is 0 or a FULL generation is needed is a bad datagram. A TILE of the open generation in range places its fragment, and a fragment that has come changes nothing. A REMOVE of a tile of the open generation that none of its fragments has reached notes its packet number and counts the packet. The first END notes the packet count, the timestamp and its arrival, counts the packet and lets the generation complete, and a second one changes nothing. A datagram that fails the header checks is a bad datagram: counted in CMP_STK_RX_BAD and source 293 raised, at most once in a tick. When the window after END ends in the tick, the generation is abandoned and counted in CMP_STK_RX_ERR, source 292 is raised, and a FULL generation is needed. An abandoned generation is open no longer and its buffer is FREE (R83, R85, R86, R87). -/
def Obligations.TileTransport : Prop :=
  (∀ (s : State) (dg : List Byte) (i b : Nat), s.coreOn = true → (s.stream i).marking = some b →
      (s.ttCheck 1 dg = .ok i → answers (.ttBegin dg) s (s.setStream i (fun st => { st with rxHeld := st.rxHeld ++ [dg] })))
      ∧ (s.ttCheck 2 dg = .ok i → answers (.ttTile dg) s (s.setStream i (fun st => { st with rxHeld := st.rxHeld ++ [dg] })))
      ∧ (s.ttCheck 3 dg = .ok i → answers (.ttRemove dg) s (s.setStream i (fun st => { st with rxHeld := st.rxHeld ++ [dg] })))
      ∧ (s.ttCheck 4 dg = .ok i → answers (.ttEnd dg) s (s.setStream i (fun st => { st with rxHeld := st.rxHeld ++ [dg] }))))
  ∧ (∀ (s : State) (dg : List Byte) (i b : Nat), s.coreOn = true → s.ttCheck 1 dg = .ok i → (s.stream i).marking = none → 1 ≤ byteAt dg 0x14 → byteAt dg 0x14 ≤ 64 → (s.stream i).rx = none → bitAt (byteAt dg 5) 0 = true → s.acquirable i = some b →
      answers (.ttBegin dg) s (s.openGen i b (leAt dg 8 4) dg))
  ∧ (∀ (s : State) (dg : List Byte) (i b : Nat), s.coreOn = true → s.ttCheck 1 dg = .ok i → (s.stream i).marking = none → 1 ≤ byteAt dg 0x14 → byteAt dg 0x14 ≤ 64 → (s.stream i).rx = none → bitAt (byteAt dg 5) 0 = false → s.on (CMP_STK_STATE_GEN_VALID i) = true → (s.stream i).needFull = false → leAt dg 0x10 4 = s.rdN (CMP_STK_GEN i) → s.acquirable i = some b →
      answers (.ttBegin dg) s (s.openGen i b (leAt dg 8 4) dg))
  ∧ (∀ (s : State) (dg : List Byte) (i : Nat) (g : RxGen), s.coreOn = true → s.ttCheck 1 dg = .ok i → (s.stream i).marking = none → (s.stream i).rx = some g → g.gen = leAt dg 8 4 →
      answers (.ttBegin dg) s (s))
  ∧ (∀ (s : State) (dg : List Byte) (i : Nat), s.coreOn = true → s.ttCheck 1 dg = .ok i → (s.stream i).marking = none → 1 ≤ byteAt dg 0x14 → byteAt dg 0x14 ≤ 64 → (s.stream i).rx = none → bitAt (byteAt dg 5) 0 = false → s.on (CMP_STK_STATE_GEN_VALID i) = false ∨ (s.stream i).needFull = true →
      answers (.ttBegin dg) s (s.badDatagram (some i)))
  ∧ (∀ (s : State) (dg : List Byte) (i : Nat) (g : RxGen), s.coreOn = true → s.ttCheck 2 dg = .ok i → (s.stream i).marking = none → (s.stream i).rx = some g → g.gen = leAt dg 8 4 → s.ttInRange g dg = true → byteAt dg 0x13 < (if s.on (CMP_STK_CFG_FRAG i) then 1 else 4) →
      answers (.ttTile dg) s (if bitAt (g.tile (byteAt dg 0x10) (byteAt dg 0x11) (byteAt dg 0x12)).frags (byteAt dg 0x13) then s
        else s.placeFragment i g (g.tile (byteAt dg 0x10) (byteAt dg 0x11) (byteAt dg 0x12)) dg))
  ∧ (∀ (s : State) (dg : List Byte) (i : Nat) (g : RxGen), s.coreOn = true → i < s.streams.length → s.ttCheck 3 dg = .ok i → (s.stream i).marking = none → (s.stream i).rx = some g → g.gen = leAt dg 8 4 → s.ttInRange g dg = true → (g.tile (byteAt dg 0x10) (byteAt dg 0x11) (byteAt dg 0x12)).remove = none → g.last = none → (g.tile (byteAt dg 0x10) (byteAt dg 0x11) (byteAt dg 0x12)).frags = 0 →
      ∃ t, exec (.ttRemove dg) s = .next t ∧ (t.stream i).rx = some { g.setTile { g.tile (byteAt dg 0x10) (byteAt dg 0x11) (byteAt dg 0x12) with remove := some (leAt dg 0x0C 4) } with count := g.count + 1 }
        ∧ t.engines = s.engines)
  ∧ (∀ (s : State) (dg : List Byte) (i : Nat) (g : RxGen), s.coreOn = true → s.ttCheck 4 dg = .ok i → (s.stream i).marking = none → (s.stream i).rx = some g → g.gen = leAt dg 8 4 →
      answers (.ttEnd dg) s (if g.last.isSome then s
        else (s.setStream i (fun st => { st with rx := some { g with last := some (leAt dg 0x10 4, leAt dg 0x14 4, leAt dg 0x18 6), endAt := s.now, count := g.count + 1 } })).checkGen i))
  ∧ (∀ (s : State) (dg : List Byte) (i : Option Nat), s.coreOn = true →
      (s.ttCheck 1 dg = .error i → answers (.ttBegin dg) s (s.badDatagram i)) ∧ (s.ttCheck 2 dg = .error i → answers (.ttTile dg) s (s.badDatagram i))
      ∧ (s.ttCheck 3 dg = .error i → answers (.ttRemove dg) s (s.badDatagram i)) ∧ (s.ttCheck 4 dg = .error i → answers (.ttEnd dg) s (s.badDatagram i)))
  ∧ (∀ (s : State) (i : Nat), s.badDatagram (some i) = (s.count (CMP_STK_RX_BAD i)).raiseOnce 293 0)
  ∧ (∀ (s : State) (i : Nat) (g : RxGen), s.coreOn = true → (s.stream i).rx = some g → g.last ≠ none → g.endAt + 2000 * s.bits CMP_REMOTE_TIMEOUT 15 0 < s.now + s.tickHalfNs →
      answers (.remoteTimeout i) s ((((s.dropGen i).count (CMP_STK_RX_ERR i)).raise 292 0).setStream i (fun st => { st with needFull := true })))
  ∧ (∀ (s : State) (i : Nat) (g : RxGen), i < s.streams.length → (s.stream i).rx = some g →
      ((s.dropGen i).stream i).rx = none ∧ (g.buf < 3 → (s.dropGen i).bufState i g.buf = 0))

/-- An engine in RUN whose fetched word spells an ALU instruction in one of its legal forms retires it: its engine is as Engine.alu of the word leaves it, its program counter has moved on by 4, and nothing else changes (R93, R112, R113). -/
def Obligations.AluInstructionsComplete : Prop :=
  (∀ (s : State) (g w : Nat), s.fetches g w → aluLegal w = true →
      (instrOf (iOpc w) = some 0x00 → answers (.add g .clean) s (s.retired g (fun e => e.alu w)))
      ∧ (instrOf (iOpc w) = some 0x01 → answers (.sub g .clean) s (s.retired g (fun e => e.alu w)))
      ∧ (instrOf (iOpc w) = some 0x02 → answers (.mul g .clean) s (s.retired g (fun e => e.alu w)))
      ∧ (instrOf (iOpc w) = some 0x03 → answers (.mulh g .clean) s (s.retired g (fun e => e.alu w)))
      ∧ (instrOf (iOpc w) = some 0x04 → answers (.mulhu g .clean) s (s.retired g (fun e => e.alu w)))
      ∧ (instrOf (iOpc w) = some 0x05 → answers (.and g .clean) s (s.retired g (fun e => e.alu w)))
      ∧ (instrOf (iOpc w) = some 0x06 → answers (.or g .clean) s (s.retired g (fun e => e.alu w)))
      ∧ (instrOf (iOpc w) = some 0x07 → answers (.xor g .clean) s (s.retired g (fun e => e.alu w)))
      ∧ (instrOf (iOpc w) = some 0x08 → answers (.shl g .clean) s (s.retired g (fun e => e.alu w)))
      ∧ (instrOf (iOpc w) = some 0x09 → answers (.shr g .clean) s (s.retired g (fun e => e.alu w)))
      ∧ (instrOf (iOpc w) = some 0x0A → answers (.sra g .clean) s (s.retired g (fun e => e.alu w)))
      ∧ (instrOf (iOpc w) = some 0x0B → answers (.srar g .clean) s (s.retired g (fun e => e.alu w)))
      ∧ (instrOf (iOpc w) = some 0x0C → answers (.min g .clean) s (s.retired g (fun e => e.alu w))))
  ∧ (∀ (s : State) (g w : Nat), s.fetches g w → aluLegal w = true →
      (instrOf (iOpc w) = some 0x0D → answers (.max g .clean) s (s.retired g (fun e => e.alu w)))
      ∧ (instrOf (iOpc w) = some 0x0E → answers (.minu g .clean) s (s.retired g (fun e => e.alu w)))
      ∧ (instrOf (iOpc w) = some 0x0F → answers (.maxu g .clean) s (s.retired g (fun e => e.alu w)))
      ∧ (instrOf (iOpc w) = some 0x10 → answers (.clampu g .clean) s (s.retired g (fun e => e.alu w)))
      ∧ (instrOf (iOpc w) = some 0x11 → answers (.sel g .clean) s (s.retired g (fun e => e.alu w)))
      ∧ (instrOf (iOpc w) = some 0x12 → answers (.cmpeq g .clean) s (s.retired g (fun e => e.alu w)))
      ∧ (instrOf (iOpc w) = some 0x13 → answers (.cmplt g .clean) s (s.retired g (fun e => e.alu w)))
      ∧ (instrOf (iOpc w) = some 0x14 → answers (.cmpltu g .clean) s (s.retired g (fun e => e.alu w)))
      ∧ (instrOf (iOpc w) = some 0x15 → answers (.cmple g .clean) s (s.retired g (fun e => e.alu w)))
      ∧ (instrOf (iOpc w) = some 0x16 → answers (.abs g .clean) s (s.retired g (fun e => e.alu w)))
      ∧ (instrOf (iOpc w) = some 0x17 → answers (.clz g .clean) s (s.retired g (fun e => e.alu w)))
      ∧ (instrOf (iOpc w) = some 0x18 → answers (.mulsr g .clean) s (s.retired g (fun e => e.alu w))))

/-- For all operands a and b: sums, differences and products are taken modulo 2^32; MULH and MULHU are the high words of the 64-bit products; AND, OR and XOR work bit by bit; shifts use b modulo 32, SRA fills with the sign, and SRAR adds half before it shifts; minima and maxima are signed or unsigned as named; CLAMPU limits a signed a to 0 and b, and SEL chooses by the predicate; compares give 1 or 0; ABS as an unsigned number is the magnitude of a, so that of the most negative number is itself; CLZ counts the zeros above the highest one; MULSR shifts the signed product by FN with half added before, and FN 0 takes it as it is (R113). -/
def Obligations.AluResults : Prop :=
  (∀ (fn : Nat) (p : Bool) (a b : Word), (aluOp 0x00 fn p a b).toNat = (a.toNat + b.toNat) % 2 ^ 32
      ∧ (aluOp 0x01 fn p a b).toNat = (a.toNat + 2 ^ 32 - b.toNat) % 2 ^ 32 ∧ (aluOp 0x02 fn p a b).toNat = a.toNat * b.toNat % 2 ^ 32)
  ∧ (∀ (fn : Nat) (p : Bool) (a b : Word), aluOp 0x03 fn p a b = ((a.signExtend 64 * b.signExtend 64) >>> 32).setWidth 32
      ∧ aluOp 0x04 fn p a b = ((a.setWidth 64 * b.setWidth 64) >>> 32).setWidth 32)
  ∧ (∀ (fn : Nat) (p : Bool) (a b : Word) (i : Nat), i < 32 → (aluOp 0x05 fn p a b).getLsbD i = (a.getLsbD i && b.getLsbD i)
      ∧ (aluOp 0x06 fn p a b).getLsbD i = (a.getLsbD i || b.getLsbD i) ∧ (aluOp 0x07 fn p a b).getLsbD i = (a.getLsbD i ^^ b.getLsbD i))
  ∧ (∀ (fn : Nat) (p : Bool) (a b : Word), (aluOp 0x08 fn p a b).toNat = a.toNat * 2 ^ (b.toNat % 32) % 2 ^ 32
      ∧ (aluOp 0x09 fn p a b).toNat = a.toNat / 2 ^ (b.toNat % 32) ∧ aluOp 0x0A fn p a b = a.sshiftRight (b.toNat % 32))
  ∧ (∀ (fn : Nat) (p : Bool) (a b : Word), b.toNat % 32 = 0 → aluOp 0x0B fn p a b = a)
  ∧ (∀ (fn : Nat) (p : Bool) (a b : Word), b.toNat % 32 ≠ 0 →
      aluOp 0x0B fn p a b = ((a.signExtend 33 + BitVec.ofNat 33 (2 ^ (b.toNat % 32 - 1))).sshiftRight (b.toNat % 32)).setWidth 32)
  ∧ (∀ (fn : Nat) (p : Bool) (a b : Word), (aluOp 0x0C fn p a b).toInt = min a.toInt b.toInt ∧ (aluOp 0x0D fn p a b).toInt = max a.toInt b.toInt
      ∧ (aluOp 0x0E fn p a b).toNat = min a.toNat b.toNat ∧ (aluOp 0x0F fn p a b).toNat = max a.toNat b.toNat)
  ∧ (∀ (fn : Nat) (p : Bool) (a b : Word), (a.toInt < 0 → aluOp 0x10 fn p a b = 0) ∧ (0 ≤ a.toInt → b.toInt < a.toInt → aluOp 0x10 fn p a b = b)
      ∧ (0 ≤ a.toInt → a.toInt ≤ b.toInt → aluOp 0x10 fn p a b = a) ∧ aluOp 0x11 fn true a b = a ∧ aluOp 0x11 fn false a b = b)
  ∧ (∀ (fn : Nat) (p : Bool) (a b : Word), aluOp 0x12 fn p a b = (if a = b then 1 else 0) ∧ aluOp 0x13 fn p a b = (if a.toInt < b.toInt then 1 else 0)
      ∧ aluOp 0x14 fn p a b = (if a.toNat < b.toNat then 1 else 0) ∧ aluOp 0x15 fn p a b = (if a.toInt ≤ b.toInt then 1 else 0))
  ∧ (∀ (fn : Nat) (p : Bool) (a b : Word), (aluOp 0x16 fn p a b).toNat = a.toInt.natAbs
      ∧ (a = 0 → (aluOp 0x17 fn p a b).toNat = 32) ∧ (a ≠ 0 → 2 ^ (31 - (aluOp 0x17 fn p a b).toNat) ≤ a.toNat ∧ a.toNat < 2 ^ (32 - (aluOp 0x17 fn p a b).toNat)))
  ∧ (∀ (fn : Nat) (p : Bool) (a b : Word), aluOp 0x18 0 p a b = a * b
      ∧ (1 ≤ fn → fn ≤ 63 → aluOp 0x18 fn p a b = ((a.signExtend 65 * b.signExtend 65 + BitVec.ofNat 65 (2 ^ (fn - 1))).sshiftRight fn).setWidth 32))

/-- The scalar forms write sx DST, but nothing where DST is 0; the immediate form takes the sign-extended IMM11 as b. The vector forms write vx DST in the lanes of pm PM and leave the other lanes; a vector compare writes the bits of those lanes in pm DST. The other registers keep their value (R93, R113). -/
def Obligations.AluForms : Prop :=
  (∀ (e : Engine) (w : Nat), e.sx.length = 32 → iOpc w / 32 = 0 → iDst w ≠ 0 →
      (e.alu w).getSx (iDst w) = aluOp (iOpc w % 32) (iFn w) (e.getSx (iFn w % 32) != 0) (e.getSx (iSa w)) (e.getSx (iSb w))
      ∧ (∀ r, r ≠ iDst w → (e.alu w).getSx r = e.getSx r) ∧ (e.alu w).vx = e.vx ∧ (e.alu w).pm = e.pm ∧ (e.alu w).ls = e.ls)
  ∧ (∀ (e : Engine) (w : Nat), e.sx.length = 32 → iOpc w / 32 = 1 → iDst w ≠ 0 →
      (e.alu w).getSx (iDst w) = aluOp (iOpc w % 32) 0 false (e.getSx (iSa w)) (BitVec.signExtend 32 (BitVec.ofNat 11 w))
      ∧ (∀ r, r ≠ iDst w → (e.alu w).getSx r = e.getSx r) ∧ (e.alu w).vx = e.vx ∧ (e.alu w).pm = e.pm ∧ (e.alu w).ls = e.ls)
  ∧ (∀ (e : Engine) (w : Nat), iOpc w / 32 ≤ 1 → iDst w = 0 → e.alu w = e)
  ∧ (∀ (e : Engine) (w : Nat), e.vx.length = 32 → 2 ≤ iOpc w / 32 → ¬(0x12 ≤ iOpc w % 32 ∧ iOpc w % 32 ≤ 0x15) →
      (∀ i < 16, (e.alu w).getVx (iDst w) i = if bitAt (e.getPm (iPm w)) i then
        aluOp (iOpc w % 32) (iFn w) (bitAt (e.getPm (iFn w % 8)) i) (e.getVx (iSa w) i) (if iOpc w / 32 = 2 then e.getVx (iSb w) i else e.getSx (iSb w))
        else e.getVx (iDst w) i)
      ∧ (∀ r i, r ≠ iDst w → (e.alu w).getVx r i = e.getVx r i) ∧ (e.alu w).sx = e.sx ∧ (e.alu w).pm = e.pm ∧ (e.alu w).ls = e.ls)
  ∧ (∀ (e : Engine) (w : Nat), e.pm.length = 8 → 2 ≤ iOpc w / 32 → 0x12 ≤ iOpc w % 32 → iOpc w % 32 ≤ 0x15 → 0 < iDst w → iDst w < 8 →
      (∀ i < 16, bitAt ((e.alu w).getPm (iDst w)) i = if bitAt (e.getPm (iPm w)) i then
        aluOp (iOpc w % 32) (iFn w) (bitAt (e.getPm (iFn w % 8)) i) (e.getVx (iSa w) i) (if iOpc w / 32 = 2 then e.getVx (iSb w) i else e.getSx (iSb w)) == 1
        else bitAt (e.getPm (iDst w)) i)
      ∧ (∀ r, r ≠ iDst w → (e.alu w).getPm r = e.getPm r) ∧ (e.alu w).sx = e.sx ∧ (e.alu w).vx = e.vx ∧ (e.alu w).ls = e.ls)

/-- MOVI and VMOVI write the sign-extended IMM16, MOVHI replaces the upper half of sx DST, BCST broadcasts sx SA, LANEID writes lane numbers, VEXT and VINS move one lane; the vector forms write the lanes of pm PM. PLOGIC combines two predicate registers, PANY and PCNT read one. Only those registers and the program counter change (R93, R112, R114). -/
def Obligations.MovesAndPredicates : Prop :=
  (∀ (s : State) (g w : Nat), s.fetches g w → dataLegal (s.engBuilds g) w = true →
      (iOpc w = 0x80 → answers (.movi g .clean) s (s.retired g (fun e => e.setSx (iDst w) (BitVec.signExtend 32 (BitVec.ofNat 16 w)))))
      ∧ (iOpc w = 0x81 → answers (.movhi g .clean) s (s.retired g (fun e => e.setSx (iDst w) ((BitVec.ofNat 16 w) ++ (e.getSx (iDst w)).setWidth 16))))
      ∧ (iOpc w = 0x82 → answers (.vmovi g .clean) s (s.retired g (fun e => e.setVx (iDst w) (e.getPm (iPm w)) (fun _ => BitVec.signExtend 32 (BitVec.ofNat 16 w)))))
      ∧ (iOpc w = 0x83 → answers (.bcst g .clean) s (s.retired g (fun e => e.setVx (iDst w) (e.getPm (iPm w)) (fun _ => e.getSx (iSa w)))))
      ∧ (iOpc w = 0x84 → answers (.laneid g .clean) s (s.retired g (fun e => e.setVx (iDst w) (e.getPm (iPm w)) (fun i => BitVec.ofNat 32 i))))
      ∧ (iOpc w = 0x85 → answers (.vext g .clean) s (s.retired g (fun e => e.setSx (iDst w) (e.getVx (iSa w) (iFn w)))))
      ∧ (iOpc w = 0x86 → answers (.vins g .clean) s (s.retired g (fun e => e.setVx (iDst w) (2 ^ iFn w) (fun _ => e.getSx (iSa w))))))
  ∧ (∀ (s : State) (g w : Nat), s.fetches g w → dataLegal (s.engBuilds g) w = true →
      (iOpc w = 0x87 → iFn w = 0 → answers (.plogic g .clean) s (s.retired g (fun e => e.setPm (iDst w) (e.getPm (iSa w) &&& e.getPm (iSb w)))))
      ∧ (iOpc w = 0x87 → iFn w = 1 → answers (.plogic g .clean) s (s.retired g (fun e => e.setPm (iDst w) (e.getPm (iSa w) ||| e.getPm (iSb w)))))
      ∧ (iOpc w = 0x87 → iFn w = 2 → answers (.plogic g .clean) s (s.retired g (fun e => e.setPm (iDst w) (e.getPm (iSa w) ^^^ e.getPm (iSb w)))))
      ∧ (iOpc w = 0x87 → iFn w = 3 → answers (.plogic g .clean) s (s.retired g (fun e => e.setPm (iDst w) (e.getPm (iSa w) &&& (65535 ^^^ e.getPm (iSb w))))))
      ∧ (iOpc w = 0x88 → answers (.pany g .clean) s (s.retired g (fun e => e.setSx (iDst w) (if e.getPm (iSa w) = 0 then 0 else 1))))
      ∧ (iOpc w = 0x89 → answers (.pcnt g .clean) s (s.retired g (fun e => e.setSx (iDst w) (BitVec.ofNat 32 (lanesOf (e.getPm (iSa w))).length)))))

/-- LDS, STS, LDV or STV whose address is aligned to its size, lies inside the local store and meets no outstanding transfer completes: LDS and STS move one word, LDV and STV sixteen words in the lanes of pm PM. LDX and STX whose lane addresses in pm PM are so complete with one word per lane at the lane's address. One that is misaligned or out of range faults with LS_RANGE and the address, of LDX and STX the first such lane's; one that is neither and overlaps a transfer waits. After a store of bytes at an address the local store reads those bytes inside its range and as before outside it, a word stored and loaded again is the word, and the canonical form stays (R96, R98, R114, R119). -/
def Obligations.LocalStoreAccesses : Prop :=
  (∀ (s : State) (g w : Nat), s.fetches g w → dataLegal (s.engBuilds g) w = true →
      (iOpc w = 0x90 → ((s.eng g).lsAddr w 4) % 4 = 0 → ((s.eng g).lsAddr w 4) + 4 ≤ lsSize → (s.eng g).lsBusy ((s.eng g).lsAddr w 4) 4 = false →
        answers (.lds g .clean) s (s.retired g (fun e => e.setSx (iDst w) (BitVec.ofNat 32 (e.lsNat ((s.eng g).lsAddr w 4) 4)))))
      ∧ (iOpc w = 0x91 → ((s.eng g).lsAddr w 4) % 4 = 0 → ((s.eng g).lsAddr w 4) + 4 ≤ lsSize → (s.eng g).lsBusy ((s.eng g).lsAddr w 4) 4 = false →
        answers (.sts g .clean) s (s.retired g (fun e => e.lsWrite ((s.eng g).lsAddr w 4) (leBytes 4 (e.getSx (iDst w)).toNat))))
      ∧ (iOpc w = 0x92 → ((s.eng g).lsAddr w 64) % 64 = 0 → ((s.eng g).lsAddr w 64) + 64 ≤ lsSize → (s.eng g).lsBusy ((s.eng g).lsAddr w 64) 64 = false →
        answers (.ldv g .clean) s (s.retired g (fun e => e.setVx (iDst w) (e.getPm (iPm w)) (fun i => BitVec.ofNat 32 (e.lsNat (((s.eng g).lsAddr w 64) + 4 * i) 4)))))
      ∧ (iOpc w = 0x93 → ((s.eng g).lsAddr w 64) % 64 = 0 → ((s.eng g).lsAddr w 64) + 64 ≤ lsSize → (s.eng g).lsBusy ((s.eng g).lsAddr w 64) 64 = false →
        answers (.stv g .clean) s (s.retired g (fun e => (lanesOf (e.getPm (iPm w))).foldl (fun (x : Engine) i => x.lsWrite (((s.eng g).lsAddr w 64) + 4 * i) (leBytes 4 (e.getVx (iDst w) i).toNat)) e))))
  ∧ (∀ (s : State) (g w : Nat), s.fetches g w →
      (∀ i ∈ lanesOf ((s.eng g).getPm (iPm w)), (s.eng g).laneAddr w i % 4 = 0 ∧ (s.eng g).laneAddr w i + 4 ≤ lsSize ∧ (s.eng g).lsBusy ((s.eng g).laneAddr w i) 4 = false) →
      (iOpc w = 0x94 → answers (.ldx g .clean) s (s.retired g (fun e =>
        e.setVx (iDst w) (e.getPm (iPm w)) (fun i => BitVec.ofNat 32 (e.lsNat (e.laneAddr w i) 4)))))
      ∧ (iOpc w = 0x95 → answers (.stx g .clean) s (s.retired g (fun e =>
        (lanesOf (e.getPm (iPm w))).foldl (fun (x : Engine) i => x.lsWrite (e.laneAddr w i) (leBytes 4 (e.getVx (iDst w) i).toNat)) e))))
  ∧ (∀ (s : State) (g w a : Nat), s.fetches g w → dataLegal (s.engBuilds g) w = true →
      (iOpc w = 0x90 → a = (s.eng g).lsAddr w 4 → a % 4 ≠ 0 ∨ lsSize < a + 4 → answers (.lds g .clean) s (s.engFault g fcLsRange (s.engPc g) (some a)))
      ∧ (iOpc w = 0x91 → a = (s.eng g).lsAddr w 4 → a % 4 ≠ 0 ∨ lsSize < a + 4 → answers (.sts g .clean) s (s.engFault g fcLsRange (s.engPc g) (some a)))
      ∧ (iOpc w = 0x92 → a = (s.eng g).lsAddr w 64 → a % 64 ≠ 0 ∨ lsSize < a + 64 → answers (.ldv g .clean) s (s.engFault g fcLsRange (s.engPc g) (some a)))
      ∧ (iOpc w = 0x93 → a = (s.eng g).lsAddr w 64 → a % 64 ≠ 0 ∨ lsSize < a + 64 → answers (.stv g .clean) s (s.engFault g fcLsRange (s.engPc g) (some a))))
  ∧ (∀ (s : State) (g w a : Nat), s.fetches g w →
      ((lanesOf ((s.eng g).getPm (iPm w))).map ((s.eng g).laneAddr w)).find? (fun a => decide (a % 4 ≠ 0 ∨ lsSize < a + 4)) = some a →
      (iOpc w = 0x94 → answers (.ldx g .clean) s (s.engFault g fcLsRange (s.engPc g) (some a)))
      ∧ (iOpc w = 0x95 → answers (.stx g .clean) s (s.engFault g fcLsRange (s.engPc g) (some a))))
  ∧ (∀ (s : State) (g w a : Nat), s.fetches g w → dataLegal (s.engBuilds g) w = true →
      (iOpc w = 0x90 → a = (s.eng g).lsAddr w 4 → a % 4 = 0 → a + 4 ≤ lsSize → (s.eng g).lsBusy a 4 = true → answers (.lds g .clean) s s)
      ∧ (iOpc w = 0x91 → a = (s.eng g).lsAddr w 4 → a % 4 = 0 → a + 4 ≤ lsSize → (s.eng g).lsBusy a 4 = true → answers (.sts g .clean) s s)
      ∧ (iOpc w = 0x92 → a = (s.eng g).lsAddr w 64 → a % 64 = 0 → a + 64 ≤ lsSize → (s.eng g).lsBusy a 64 = true → answers (.ldv g .clean) s s)
      ∧ (iOpc w = 0x93 → a = (s.eng g).lsAddr w 64 → a % 64 = 0 → a + 64 ≤ lsSize → (s.eng g).lsBusy a 64 = true → answers (.stv g .clean) s s))
  ∧ (∀ (e : Engine) (a n : Nat) (bs : List Byte), bs.length = n → (e.lsWrite a bs).lsRead a n = bs)
  ∧ (∀ (e : Engine) (a b n : Nat) (bs : List Byte), b + n ≤ a ∨ a + bs.length ≤ b → (e.lsWrite a bs).lsRead b n = e.lsRead b n)
  ∧ (∀ (e : Engine) (a : Nat) (v : Word), BitVec.ofNat 32 ((e.lsWrite a (leBytes 4 v.toNat)).lsNat a 4) = v)
  ∧ (∀ (e : Engine) (a : Nat) (bs : List Byte), sparseWf emptyByte e.ls = true → sparseWf emptyByte (e.lsWrite a bs).ls = true)

/-- DMRD and DMWR whose operands are in range start a transfer under their tag when the tag is free and no outstanding transfer overlaps; DMWAIT of a tag completes when it is free and waits otherwise; DMWAIT of all tags and FENCE complete when every tag is free and wait otherwise; RDCSR writes sx DST from the control register, and one of CYCLE_LO also latches the count above 2^32 for CYCLE_HI; WRCSR writes a scratch register. The control registers are the engine and channel numbers, the kind, the cycle count, the latched CYCLE_HI, the number of the frame in work, the level, the plane count, WI0 to WI7 and the scratch registers. The cycle count lies between 1.5 cycles for each ns from the gate's opening to the start of the tick and to its end (the place in the tick is a free value, log entry 71) (R105, R114, R115). -/
def Obligations.TransfersAndControlRegisters : Prop :=
  (∀ (s : State) (g w ls dev len : Nat), s.fetches g w → dataLegal (s.engBuilds g) w = true → ls = ((s.eng g).getSx (iDst w)).toNat →
      dev = ((s.eng g).getSx (iSa w)).toNat + 2 ^ 32 * (((s.eng g).getSx (iSa w + 1)).toNat % 16) → len = ((s.eng g).getSx (iSb w)).toNat →
      (s.eng g).tags.getD (iFn w % 8) none = none → ls % 16 = 0 → ls + len ≤ lsSize → dev % 16 = 0 → len % 16 = 0 → 0 < len → len ≤ 65536 →
      (s.eng g).lsBusy ls len = false →
      (iOpc w = 0x98 → dev + len ≤ memSize → answers (.dmrd g .clean) s (s.retired g (fun e =>
        { e with tags := e.tags.set (iFn w % 8) (some { ls := ls, dev := dev, len := len, write := false, pc := s.engPc g }) })))
      ∧ (iOpc w = 0x99 → s.engBuilds g = true → s.inWindow (g / 32) dev len = true → answers (.dmwr g .clean) s (s.retired g (fun e =>
        { e with tags := e.tags.set (iFn w % 8) (some { ls := ls, dev := dev, len := len, write := true, pc := s.engPc g }) }))))
  ∧ (∀ (s : State) (g w : Nat), s.fetches g w → dataLegal (s.engBuilds g) w = true →
      (iOpc w = 0x9A → iFn w < 8 → (s.eng g).tags.getD (iFn w) none = none → answers (.dmwait g .clean) s (s.retired g (fun e => e)))
      ∧ (iOpc w = 0x9A → iFn w < 8 → (s.eng g).tags.getD (iFn w) none ≠ none → answers (.dmwait g .clean) s (s))
      ∧ (iOpc w = 0x9A → 8 ≤ iFn w → (∀ t ∈ (s.eng g).tags, t = none) → answers (.dmwait g .clean) s (s.retired g (fun e => e)))
      ∧ (iOpc w = 0x9A → 8 ≤ iFn w → (∃ t ∈ (s.eng g).tags, t ≠ none) → answers (.dmwait g .clean) s (s))
      ∧ (iOpc w = 0x9E → (∀ t ∈ (s.eng g).tags, t = none) → answers (.fence g .clean) s (s.retired g (fun e => e)))
      ∧ (iOpc w = 0x9E → (∃ t ∈ (s.eng g).tags, t ≠ none) → answers (.fence g .clean) s (s))
      ∧ (iOpc w = 0x9C → iFn w ≠ 3 → answers (.rdcsr g .clean) s (s.retired g (fun e => e.setSx (iDst w) (s.csr g (iFn w)))))
      ∧ (iOpc w = 0x9D → answers (.wrcsr g .clean) s (s.retired g (fun e => { e with scratch := e.scratch.set (iFn w - 16) (e.getSx (iSa w)) }))))
  ∧ (∀ (s : State) (g w : Nat), s.fetches g w → dataLegal (s.engBuilds g) w = true →
      (iOpc w = 0x9C → iFn w = 3 → answers (.rdcsr g .clean) s (s.advanced g (((s.setEng g (fun e => e.setSx (iDst w) (BitVec.ofNat 32 (s.engCycles (g / 32))))).freeNext).setEng g (fun e => { e with cycHi := BitVec.ofNat 32 (s.engCycles (g / 32) / 2 ^ 32) })))))
  ∧ (∀ (s : State) (g : Nat), s.csr g 0 = BitVec.ofNat 32 g ∧ s.csr g 1 = BitVec.ofNat 32 (g / 32) ∧ s.csr g 2 = (if s.engBuilds g then 1 else 0)
      ∧ s.csr g 3 = BitVec.ofNat 32 (s.engCycles (g / 32)) ∧ s.csr g 4 = (s.eng g).cycHi ∧ s.csr g 5 = BitVec.ofNat 32 (s.rdN SPL_FRAME_CNT + 1)
      ∧ s.csr g 6 = BitVec.ofNat 32 (s.get CMP_SYN_STATUS_LEVEL) ∧ s.csr g 7 = BitVec.ofNat 32 s.frame.planes.length
      ∧ (∀ i < 8, s.csr g (8 + i) = (s.eng g).wi.getD i 0) ∧ (∀ i < 32, s.csr g (16 + i) = (s.eng g).scratch.getD i 0))
  ∧ (∀ (s : State) (c : Nat), 3 * (s.now - (s.chan c).gateAt) / 4 ≤ s.engCycles c
      ∧ s.engCycles c ≤ 3 * (s.now - (s.chan c).gateAt) / 4 + 3 * s.tickHalfNs / 4)

/-- A DMRD that meets no poison puts the device bytes into the local store and frees its tag; one that meets poison notes it, writes nothing, frees its tag and faults the engine with DM_POISON and the device address. A DMWR writes the local-store bytes as writer code 6, judged by the leases, and frees its tag, with the corrected words counted first; one that meets an uncorrectable word frees its tag and stops the engine for it, and writes nothing. A tag without a transfer changes nothing (R98, R115, R119). -/
def Obligations.TransferCompletes : Prop :=
  (∀ (s : State) (g : Nat) (tr : DmaDone) (x : Xfer), s.coreOn = true → (s.eng g).tags.getD tr.tag none = some x → x.write = false → s.poisonedIn x.dev x.len = false →
      answers (.dmaTransferComplete g tr) s ((s.setEng g (fun e => e.lsWrite x.ls (s.memRead x.dev x.len))).freeTag g tr.tag))
  ∧ (∀ (s : State) (g : Nat) (tr : DmaDone) (x : Xfer), s.coreOn = true → (s.eng g).tags.getD tr.tag none = some x → x.write = false → s.poisonedIn x.dev x.len = true →
      answers (.dmaTransferComplete g tr) s (((s.notePoisonRead (g / 32)).freeTag g tr.tag).engFault g fcDmPoison x.pc (some x.dev)))
  ∧ (∀ (s : State) (g : Nat) (tr : DmaDone) (x : Xfer), s.coreOn = true → (s.eng g).tags.getD tr.tag none = some x → x.write = true → tr.ecc = .clean →
      answers (.dmaTransferComplete g tr) s (((s.dmaWrite (g / 32) writerBuild x.dev ((s.eng g).lsRead x.ls x.len) 0).1).freeTag g tr.tag))
  ∧ (∀ (s : State) (g n : Nat) (tr : DmaDone) (x : Xfer), s.coreOn = true → (s.eng g).tags.getD tr.tag none = some x → x.write = true → tr.ecc = .corrected n →
      answers (.dmaTransferComplete g tr) s ((((s.lsCorrected g n).dmaWrite (g / 32) writerBuild x.dev (((s.lsCorrected g n).eng g).lsRead x.ls x.len) 0).1).freeTag g tr.tag))
  ∧ (∀ (s : State) (g a : Nat) (tr : DmaDone) (x : Xfer), s.coreOn = true → (s.eng g).tags.getD tr.tag none = some x → x.write = true → tr.ecc = .uncorrectable a →
      answers (.dmaTransferComplete g tr) s ((s.freeTag g tr.tag).lsUncorr g x.pc (some a)))
  ∧ (∀ (s : State) (g : Nat) (tr : DmaDone), s.coreOn = true → (s.eng g).tags.getD tr.tag none = none →
      answers (.dmaTransferComplete g tr) s (s))

/-- Device memory is read through the channel's plane cache. SMP and SMPN of a plane of the directory whose taps are not poisoned write the four components of the bilinear colour, or of the nearest tap, to vx DST to DST + 3 in the lanes of pm PM and count the samples; SMP and SMPN of a plane index beyond the directory write 0 there and count the samples. SMPO runs the step that composites the plane of sx SP. OCC writes pm DST 0 where the plane index is beyond the directory, and otherwise the lanes of pm PM whose footprint meets a present tile, and keeps vx, sx and memory. PFT changes no result. SWEEP runs the steps from sx SP on, at most up to sx SB, with the accumulators of pm PM cleared first where CLR is 1, and writes the first plane it did not sample to sx SP. A sweep of no step samples nothing, a step with pm PM empty ends it, and any other step composites its plane and goes on to the next (R116, R128, R129, R130, R132, R133). -/
def Obligations.SamplerInstructions : Prop :=
  (∀ (s m : State) (g w : Nat) (p : DirPlane), s.fetches g w → dataLegal (s.engBuilds g) w = true → s.frame.planes[((s.eng g).getSx (iSp w)).toNat]? = some p →
      m = s.throughCache (g / 32) →
      (∀ i ∈ lanesOf ((s.eng g).getPm (iPm w)), (tapsOf ((s.eng g).samplePos p (iSa w) i)).any (fun t => m.tapPoisoned p t.1 t.2) = false) → iOpc w = 0xA0 →
      answers (.smp g .clean) s (s.advanced g ((s.setEng g (fun e => (List.range 4).foldl (fun x k => x.setVx (iDst w + k) ((s.eng g).getPm (iPm w))
        (fun i => BitVec.ofNat 32 ((m.bilinear p ((s.eng g).samplePos p (iSa w) i)).getD k 0))) e)).countSamples (g / 32) (lanesOf ((s.eng g).getPm (iPm w))).length)))
  ∧ (∀ (s m : State) (g w : Nat) (p : DirPlane), s.fetches g w → dataLegal (s.engBuilds g) w = true → s.frame.planes[((s.eng g).getSx (iSp w)).toNat]? = some p →
      m = s.throughCache (g / 32) →
      (∀ i ∈ lanesOf ((s.eng g).getPm (iPm w)), m.tapPoisoned p (nearestTap ((s.eng g).samplePos p (iSa w) i)).1 (nearestTap ((s.eng g).samplePos p (iSa w) i)).2 = false) →
      iOpc w = 0xA1 →
      answers (.smpn g .clean) s (s.advanced g ((s.setEng g (fun e => (List.range 4).foldl (fun x k => x.setVx (iDst w + k) ((s.eng g).getPm (iPm w))
        (fun i => BitVec.ofNat 32 ((m.tap p (nearestTap ((s.eng g).samplePos p (iSa w) i)).1 (nearestTap ((s.eng g).samplePos p (iSa w) i)).2).getD k 0))) e)).countSamples
        (g / 32) (lanesOf ((s.eng g).getPm (iPm w))).length)))
  ∧ (∀ (s : State) (g w : Nat), s.fetches g w → dataLegal (s.engBuilds g) w = true →
      (iOpc w = 0xA0 → s.frame.planes[((s.eng g).getSx (iSp w)).toNat]? = none → answers (.smp g .clean) s (s.advanced g ((s.setEng g (fun e => (List.range 4).foldl (fun x m => x.setVx (iDst w + m) ((s.eng g).getPm (iPm w)) (fun _ => 0)) e)).countSamples (g / 32) (lanesOf ((s.eng g).getPm (iPm w))).length)))
      ∧ (iOpc w = 0xA1 → s.frame.planes[((s.eng g).getSx (iSp w)).toNat]? = none → answers (.smpn g .clean) s (s.advanced g ((s.setEng g (fun e => (List.range 4).foldl (fun x m => x.setVx (iDst w + m) ((s.eng g).getPm (iPm w)) (fun _ => 0)) e)).countSamples (g / 32) (lanesOf ((s.eng g).getPm (iPm w))).length)))
      ∧ (iOpc w = 0xA2 → answers (.smpo g .clean) s (s.advanced g (s.smpoStep g w ((s.eng g).getSx (iSp w)).toNat)))
      ∧ (iOpc w = 0xA4 → s.frame.planes[((s.eng g).getSx (iSp w)).toNat]? = none → answers (.occ g .clean) s (s.retired g (fun e => e.setPm (iDst w) 0))))
  ∧ (∀ (s : State) (g w : Nat) (p : DirPlane), s.fetches g w → dataLegal (s.engBuilds g) w = true → iOpc w = 0xA4 → iDst w ≠ 0 → (s.eng g).pm.length = 8 → g < s.engines.length →
      s.frame.planes[((s.eng g).getSx (iSp w)).toNat]? = some p →
      ∃ t, exec (.occ g .clean) s = .next t ∧ (∀ i < 16, bitAt ((t.eng g).getPm (iDst w)) i =
        (bitAt ((s.eng g).getPm (iPm w)) i && (tapsOf ((s.eng g).samplePos p (iSa w) i)).any (fun q => (s.tapAddr p q.1 q.2).isSome)))
        ∧ (t.eng g).vx = (s.eng g).vx ∧ (t.eng g).sx = (s.eng g).sx ∧ t.mem = s.mem)
  ∧ (∀ (s : State) (g w : Nat), s.fetches g w → dataLegal (s.engBuilds g) w = true →
      (iOpc w = 0xA5 → answers (.pft g .clean) s (s.advanced g s)))
  ∧ (∀ (s t r : State) (g w sp n : Nat), s.fetches g w → dataLegal (s.engBuilds g) w = true → iOpc w = 0xA3 → sp = ((s.eng g).getSx (iSp w)).toNat →
      t = (if iClr w then s.setEng g (fun e => (List.range 4).foldl (fun x m => x.setVx (iDst w + m) (e.getPm (iPm w)) (fun _ => 0)) e) else s) →
      (r, n) = t.sweepFrom g w (min (((s.eng g).getSx (iSb w)).toNat - sp) 65) sp →
      answers (.sweep g .clean) s (s.advanced g (r.setEng g (fun e => e.setSx (iSp w) (BitVec.ofNat 32 n)))))
  ∧ (∀ (s : State) (g w n p : Nat), s.sweepFrom g w 0 p = (s, p)
      ∧ ((s.eng g).getPm (iPm w) = 0 → s.sweepFrom g w (n + 1) p = (s, p))
      ∧ ((s.eng g).getPm (iPm w) ≠ 0 → s.sweepFrom g w (n + 1) p = (s.smpoStep g w p).sweepFrom g w n (p + 1)))

/-- DRIVE of rays on the panel, with no poisoned word of the correction map, writes their codes to the lanes of pm PM and changes no register but the program counter, no memory and no event. EMIT of rays of the run that were not emitted notes them, puts each code where it belongs in turn and closes the windows that it ends; an index beyond the run faults with EMIT_RANGE and the first such index, one emitted before or named twice with EMIT_DUP and the first such index. TWR of an aligned tile at a place in the stack, that meets no transfer, writes it and returns its slot in sx DST, or all ones where it was not written (R117, R118, R134). -/
def Obligations.OutputInstructions : Prop :=
  (∀ (s : State) (g w : Nat), s.fetches g w → dataLegal (s.engBuilds g) w = true → iOpc w = 0xA8 → g < s.engines.length → (s.eng g).vx.length = 32 →
      (∀ i ∈ lanesOf ((s.eng g).getPm (iPm w)), ((s.eng g).rayOf ((s.eng g).getVx (iSb w) i).toNat).1 < s.geomW ∧ ((s.eng g).rayOf ((s.eng g).getVx (iSb w) i).toNat).2.1 < s.geomH
        ∧ (s.rayCode ((s.eng g).rayOf ((s.eng g).getVx (iSb w) i).toNat).1 ((s.eng g).rayOf ((s.eng g).getVx (iSb w) i).toNat).2.1 ((s.eng g).rayOf ((s.eng g).getVx (iSb w) i).toNat).2.2 0).2 = false) →
      ∃ t, exec (.drive g .clean) s = .next t ∧ (∀ i ∈ lanesOf ((s.eng g).getPm (iPm w)), (t.eng g).getVx (iDst w) i =
        (let q := (s.eng g).rayOf ((s.eng g).getVx (iSb w) i).toNat
         BitVec.ofNat 32 (s.rayCode q.1 q.2.1 q.2.2 ((s.eng g).getVx (iSa w + q.2.2 % 3) i).toNat).1))
        ∧ t.regs = (s.setPc g ((s.engPc g + 4) % 2 ^ 32)).regs ∧ t.mem = s.mem ∧ t.evc = s.evc)
  ∧ (∀ (s : State) (g w : Nat) (es : List (Nat × Nat)), s.fetches g w → dataLegal (s.engBuilds g) w = true → iOpc w = 0xA9 →
      es = (lanesOf ((s.eng g).getPm (iPm w))).map (fun i => (((s.eng g).getVx (iSb w) i).toNat, ((s.eng g).getVx (iSa w) i).toNat % 4096)) →
      (∀ k < es.length, (es.getD k (0, 0)).1 < 432 * (s.eng g).runLen) → (∀ k < es.length, bitAt (s.eng g).emitted (es.getD k (0, 0)).1 = false) → es.Pairwise (fun x y => x.1 ≠ y.1) →
      answers (.emit g .clean) s (s.advanced g (es.foldl (fun (st : State) (x : Nat × Nat) => st.emitCode g x.1 x.2)
        (s.setEng g (fun k => { k with emitted := es.foldl (fun m x => m ||| 2 ^ x.1) k.emitted }))).closeWindows))
  ∧ (∀ (s : State) (g w a : Nat), s.fetches g w → dataLegal (s.engBuilds g) w = true → iOpc w = 0xA9 →
      ((lanesOf ((s.eng g).getPm (iPm w))).map (fun i => ((s.eng g).getVx (iSb w) i).toNat)).find? (fun x => decide (432 * (s.eng g).runLen ≤ x)) = some a →
      answers (.emit g .clean) s (s.engFault g fcEmitRange (s.engPc g) (some a)))
  ∧ (∀ (s : State) (g w j : Nat) (xs : List Nat), s.fetches g w → dataLegal (s.engBuilds g) w = true → iOpc w = 0xA9 →
      xs = (lanesOf ((s.eng g).getPm (iPm w))).map (fun i => ((s.eng g).getVx (iSb w) i).toNat) → (∀ x ∈ xs, x < 432 * (s.eng g).runLen) →
      j < xs.length → (bitAt (s.eng g).emitted (xs.getD j 0) = true ∨ xs.getD j 0 ∈ xs.take j) →
      (∀ k < j, bitAt (s.eng g).emitted (xs.getD k 0) = false ∧ xs.getD k 0 ∉ xs.take k) →
      answers (.emit g .clean) s (s.engFault g fcEmitDup (s.engPc g) (some (xs.getD j 0))))
  ∧ (∀ (s : State) (g w pos a n : Nat), s.fetches g w → dataLegal (s.engBuilds g) w = true → iOpc w = 0xAA → a = ((s.eng g).getSx (iSa w)).toNat → pos = ((s.eng g).getSx (iSb w)).toNat →
      a % 16 = 0 → a + 5120 ≤ lsSize → (s.eng g).lsBusy a 5120 = false → n = (match s.cam.build with | some b => b.tables.length | none => 64) →
      bitsOf pos 21 16 < n → bitsOf pos 13 8 < s.tileRows → bitsOf pos 6 0 < s.tileCols →
      answers (.twr g .clean) s (s.advanced g ((s.tileWrite (g / 32) pos ((s.eng g).lsRead a 5120)).1.setEng g (fun k =>
        k.setSx (iDst w) (BitVec.ofNat 32 ((s.tileWrite (g / 32) pos ((s.eng g).lsRead a 5120)).2.getD 0xFFFFFFFF))))))

/-- A branch that is taken goes to its own address plus 4 times OFF19, one that is not goes on; CALL also writes the return address to sx 31 and RET goes there. DONE of a run whose rays were all emitted, or of a build item, counts the run and ends the item; with rays missing it faults with DONE_INCOMPLETE. TRAP faults with its immediate as address (R104, R112, R114, R117, R119). -/
def Obligations.BranchesAndEnds : Prop :=
  (∀ (s : State) (g w : Nat), s.fetches g w → dataLegal (s.engBuilds g) w = true →
      (iOpc w = 0xC0 → answers (.br g .clean) s (s.setPc g (BitVec.ofInt 32 (s.engPc g + 4 * signedOf 19 (w % 2 ^ 19))).toNat))
      ∧ (iOpc w = 0xC1 → (s.eng g).getSx (iBsa w) = 0 → answers (.bz g .clean) s (s.setPc g (BitVec.ofInt 32 (s.engPc g + 4 * signedOf 19 (w % 2 ^ 19))).toNat))
      ∧ (iOpc w = 0xC1 → (s.eng g).getSx (iBsa w) ≠ 0 → answers (.bz g .clean) s (s.advanced g s))
      ∧ (iOpc w = 0xC2 → (s.eng g).getSx (iBsa w) ≠ 0 → answers (.bnz g .clean) s (s.setPc g (BitVec.ofInt 32 (s.engPc g + 4 * signedOf 19 (w % 2 ^ 19))).toNat))
      ∧ (iOpc w = 0xC2 → (s.eng g).getSx (iBsa w) = 0 → answers (.bnz g .clean) s (s.advanced g s))
      ∧ (iOpc w = 0xC3 → answers (.call g .clean) s ((s.setEng g (fun e => e.setSx 31 (BitVec.ofNat 32 (s.engPc g + 4)))).setPc g (BitVec.ofInt 32 (s.engPc g + 4 * signedOf 19 (w % 2 ^ 19))).toNat))
      ∧ (iOpc w = 0xC4 → answers (.ret g .clean) s (s.setPc g ((s.eng g).getSx 31).toNat))
      ∧ (iOpc w = 0xC8 → (s.eng g).getPm (iBsa w) ≠ 0 → answers (.vbany g .clean) s (s.setPc g (BitVec.ofInt 32 (s.engPc g + 4 * signedOf 19 (w % 2 ^ 19))).toNat))
      ∧ (iOpc w = 0xC8 → (s.eng g).getPm (iBsa w) = 0 → answers (.vbany g .clean) s (s.advanced g s))
      ∧ (iOpc w = 0xC9 → (s.eng g).getPm (iBsa w) = 0 → answers (.vbnone g .clean) s (s.setPc g (BitVec.ofInt 32 (s.engPc g + 4 * signedOf 19 (w % 2 ^ 19))).toNat))
      ∧ (iOpc w = 0xC9 → (s.eng g).getPm (iBsa w) ≠ 0 → answers (.vbnone g .clean) s (s.advanced g s)))
  ∧ (∀ (s : State) (g w : Nat) (it : Item), s.fetches g w → dataLegal (s.engBuilds g) w = true → iOpc w = 0xD0 → (s.eng g).item = some it →
      (it.build = false → (s.eng g).emitted = 2 ^ (432 * (s.eng g).runLen) - 1 →
        answers (.done g .clean) s (((s.count (CH_RUNS_DONE (g / 32))).count (CH_ENG_RUNS (g / 32) (g % 32))).engFree g))
      ∧ (it.build = true → answers (.done g .clean) s ((((s.count (CH_RUNS_DONE (g / 32))).count (CH_ENG_RUNS (g / 32) (g % 32))).engFree g).buildItemDone (g / 32) it))
      ∧ (it.build = false → (s.eng g).emitted ≠ 2 ^ (432 * (s.eng g).runLen) - 1 → answers (.done g .clean) s (s.engFault g fcDoneIncomplete (s.engPc g) none)))
  ∧ (∀ (s : State) (g w : Nat), s.fetches g w → dataLegal (s.engBuilds g) w = true →
      (iOpc w = 0xD1 → answers (.trap g .clean) s (s.engFault g fcTrap (s.engPc g) (some (w % 65536)))))

/-- A fault with an address writes its code, the address of the instruction, the address of the fault and word 1 of the work item into the engine's fault record, sets VALID, sets OVERRUN where a record was still VALID, and counts in CH_FAULT_CNT; an engine that enters a state shows it in CH_ENG_STATE and in the masks of its channel, and no other engine changes its state; an engine that a fault stops is in FAULT, has no item and no transfer, and its store does not count as holding the program (R119, R121, R122, R124). -/
def Obligations.EngineFaultRecord : Prop :=
  (∀ (s : State) (g code pc a : Nat), g < 128 → code < 256 → pc < 2 ^ 32 → a < 2 ^ 32 →
      (s.faultRecord g code pc (some a)).get (CH_ENG_FAULT_CODE (g / 32) (g % 32)) = code
      ∧ (s.faultRecord g code pc (some a)).on (CH_ENG_FAULT_VALID (g / 32) (g % 32)) = true
      ∧ (s.on (CH_ENG_FAULT_VALID (g / 32) (g % 32)) = true → (s.faultRecord g code pc (some a)).on (CH_ENG_FAULT_OVERRUN (g / 32) (g % 32)) = true)
      ∧ (s.faultRecord g code pc (some a)).rdN (CH_ENG_FAULT_PC (g / 32) (g % 32)) = pc ∧ (s.faultRecord g code pc (some a)).rdN (CH_ENG_FAULT_ADDR (g / 32) (g % 32)) = a
      ∧ (s.faultRecord g code pc (some a)).rdN (CH_ENG_FAULT_WI (g / 32) (g % 32)) = (s.eng g).word 1
      ∧ (s.faultRecord g code pc (some a)).rdN (CH_FAULT_CNT (g / 32)) = min (s.rdN (CH_FAULT_CNT (g / 32)) + 1) 0xFFFFFFFF)
  ∧ (∀ (s : State) (g st : Nat), g < 128 → st < 8 → (s.setEngState g st).engState g = st
      ∧ bitAt ((s.setEngState g st).rdN (CH_ENG_IDLE (g / 32))) (g % 32) = (st == 1)
      ∧ bitAt ((s.setEngState g st).rdN (CH_ENG_FAULTED (g / 32))) (g % 32) = decide (3 ≤ st ∧ st ≤ 5)
      ∧ bitAt ((s.setEngState g st).rdN (CH_ENG_OFFLINE (g / 32))) (g % 32) = (st == 0)
      ∧ (∀ k < 128, k ≠ g → (s.setEngState g st).engState k = s.engState k))
  ∧ (∀ (s : State) (g code pc : Nat) (a : Option Nat), g < 128 → g < s.engines.length → bitAt s.pwr.gateClosing (g / 32) = false →
      (s.stopFaulted g code pc a).engState g = 3 ∧ ((s.stopFaulted g code pc a).eng g).item = none ∧ ((s.stopFaulted g code pc a).eng g).tags = List.replicate 8 none
        ∧ ((s.stopFaulted g code pc a).eng g).valid = false)

/-- The command of an instruction does nothing while the engine is not in RUN, while a transfer overlaps the word, or where the word spells another instruction. A program counter that is misaligned or beyond the local store faults with LS_RANGE, a word with an uncorrectable error with LS_UNCORR, and a word that is no legal instruction with ILLEGAL. A corrected word is counted and the instruction goes on (R96, R111, R112, R119). -/
def Obligations.EngineFetchRefusals : Prop :=
  (∀ (s : State) (g k : Nat) (ecc : Ecc) (body : State → Nat → EngEnd), 128 ≤ g ∨ s.engState g ≠ 2 → s.engRow g ecc k body = s)
  ∧ (∀ (s : State) (g k : Nat) (ecc : Ecc) (body : State → Nat → EngEnd), g < 128 → s.engState g = 2 → s.engPc g % 4 ≠ 0 ∨ lsSize ≤ s.engPc g →
      s.engRow g ecc k body = s.engFault g fcLsRange (s.engPc g) (some (s.engPc g)))
  ∧ (∀ (s : State) (g k j w : Nat) (ecc : Ecc) (body : State → Nat → EngEnd), s.fetches g w → instrOf (iOpc w) = some j → j ≠ k → s.engRow g ecc k body = s)
  ∧ (∀ (s : State) (g k w a : Nat) (body : State → Nat → EngEnd), s.fetches g w → instrOf (iOpc w) = some k →
      s.engRow g (.uncorrectable a) k body = s.engFault g fcLsUncorr (s.engPc g) (some a))
  ∧ (∀ (s : State) (g k w : Nat) (body : State → Nat → EngEnd), s.fetches g w →
      instrOf (iOpc w) = none ∨ (instrOf (iOpc w) = some k ∧ (if iOpc w < 0x80 then aluLegal w else dataLegal (s.engBuilds g) w) = false) →
      s.engRow g .clean k body = s.engFault g fcIllegal (s.engPc g) none)
  ∧ (∀ (s : State) (g k w n : Nat) (f : Engine → Engine), s.fetches g w → instrOf (iOpc w) = some k → (if iOpc w < 0x80 then aluLegal w else dataLegal (s.engBuilds g) w) = true → n ≠ 0 →
      s.engRow g (.corrected n) k (fun t w => t.pure g f) =
        (((s.countN (CH_LS_CORR_CNT (g / 32)) n).chanEvent g 2).setEng g f).setPc g ((s.engPc g + 4) % 2 ^ 32))

/-- A granted engine takes the first run, or the first build item, of its channel's queue, and starts it. A running item past CH_WI_LIMIT faults with TIMEOUT. An engine in FAULT enters RELOAD. At the end of RELOAD with a readable and unpoisoned copy its store is the copy, valid and not dirty, and the engine goes OFFLINE where it is disabled or its channel does not run, to IDLE with event 5 as a build engine, and to PARKED otherwise; one whose copy cannot be read or is poisoned records RELOAD_FAIL, is not valid, goes OFFLINE and raises event 6. The scrubber moves its pointer on, with no finding changes nothing else, counts a corrected word with event 2, and stops an engine for an uncorrectable one. A fill of a line counts and puts the line into the cache, with its corrections counted too; an uncorrectable line counts, leaves the cache, counts in CH_PC_UNCORR_CNT and raises event 3. A write of CH_ENG_ENABLE with all bits unlocked is kept, takes a disabled idle engine OFFLINE and leaves a running one in RUN. A debug write to an OFFLINE engine stores the word, makes the store dirty and steps the address by 4; a read completes with the word and steps the address; an access to an engine that is not OFFLINE raises event 0, steps the address, and reads 0 or writes nothing (R96, R97, R104, R107, R110, R119, R123, R124). -/
def Obligations.EngineLifecycle : Prop :=
  (∀ (s : State) (c g : Nat) (it : Item) (rest : List Item), s.coreOn = true → s.grantee c false (s.chan c).turnS = some g → (s.chan c).runs = it :: rest →
      answers (.workItemDispatch c false) s (((s.setChan c (fun ch => { ch with runs := rest, turnS := (g + 1) % 32 })).startItem g it).showQueues c))
  ∧ (∀ (s : State) (c g : Nat) (it : Item) (rest : List Item), s.coreOn = true → s.grantee c true (s.chan c).turnB = some g → (s.chan c).builds = it :: rest →
      answers (.workItemDispatch c true) s (((s.setChan c (fun ch => { ch with builds := rest, turnB := (g + 1) % 32 })).startItem g it).showQueues c))
  ∧ (∀ (s : State) (g : Nat), s.coreOn = true → g < 128 → s.engState g = 2 → s.rdN (CH_WI_LIMIT (g / 32)) ≠ 0 → 3 * (s.eng g).start + 4 * s.rdN (CH_WI_LIMIT (g / 32)) < 3 * (s.now + s.tickHalfNs) →
      answers (.wiTimeout g) s (s.engFault g fcTimeout (s.engPc g) none))
  ∧ (∀ (s : State) (g : Nat), s.coreOn = true → g < 128 → s.engState g = 3 →
      answers (.engReloadStart g) s (s.setEngState g 4))
  ∧ (∀ (s : State) (g : Nat), s.coreOn = true → g < 128 → s.engState g = 4 → s.poisonedIn (s.controlAt (10 + g / 32)) lsSize = false → s.engEnabled g = false ∨ s.chanRuns (g / 32) = false →
      answers (.engReloadDone g true) s ((s.setEng g (fun e => { e with ls := s.reloadCopy (g / 32), valid := true, dirty := false })).setEngState g 0))
  ∧ (∀ (s : State) (g : Nat), s.coreOn = true → g < 128 → s.engState g = 4 → s.poisonedIn (s.controlAt (10 + g / 32)) lsSize = false → s.engEnabled g = true → s.chanRuns (g / 32) = true → s.engBuilds g = true →
      answers (.engReloadDone g true) s (((s.setEng g (fun e => { e with ls := s.reloadCopy (g / 32), valid := true, dirty := false })).setEngState g 1).chanEvent g 5))
  ∧ (∀ (s : State) (g : Nat), s.coreOn = true → g < 128 → s.engState g = 4 → s.poisonedIn (s.controlAt (10 + g / 32)) lsSize = false → s.engEnabled g = true → s.chanRuns (g / 32) = true → s.engBuilds g = false →
      answers (.engReloadDone g true) s ((s.setEng g (fun e => { e with ls := s.reloadCopy (g / 32), valid := true, dirty := false })).setEngState g 5))
  ∧ (∀ (s : State) (g : Nat) (ok : Bool), s.coreOn = true → g < 128 → s.engState g = 4 → ok = false ∨ s.poisonedIn (s.controlAt (10 + g / 32)) lsSize = true →
      answers (.engReloadDone g ok) s (((State.setEng (s.faultRecord g fcReloadFail (s.engPc g) none) g (fun e => { e with valid := false })).setEngState g 0).chanEvent g 6))
  ∧ (∀ (s : State) (c : Nat), s.coreOn = true → c < 4 → s.gateOpen c = true →
      answers (.lsScrub c 0 0) s (s.setChan c (fun ch => { ch with scrub := (ch.scrub + 1) % 32768 })))
  ∧ (∀ (s : State) (c k : Nat), s.coreOn = true → c < 4 → k < 32 → s.gateOpen c = true →
      answers (.lsScrub c (2 ^ k) 0) s (((s.setChan c (fun ch => { ch with scrub := (ch.scrub + 1) % 32768 })).countN (CH_LS_CORR_CNT c) 1).chanEvent (32 * c + k) 2))
  ∧ (∀ (s : State) (c k : Nat), s.coreOn = true → c < 4 → k < 32 → s.gateOpen c = true →
      answers (.lsScrub c 0 (2 ^ k)) s ((s.setChan c (fun ch => { ch with scrub := (ch.scrub + 1) % 32768 })).lsUncorr (32 * c + k) (s.engPc (32 * c + k)) (some (16 * (s.chan c).scrub))))
  ∧ (∀ (s : State) (g line : Nat), s.coreOn = true → g < 128 → s.gateOpen (g / 32) = true → 256 * line < memSize → s.poisonedIn (256 * line) 256 = false →
      answers (.pcLineFill g line .clean) s ((s.count (CH_PC_FILL_CNT (g / 32))).cacheLine (g / 32) line))
  ∧ (∀ (s : State) (g line n : Nat), s.coreOn = true → g < 128 → s.gateOpen (g / 32) = true → 256 * line < memSize → s.poisonedIn (256 * line) 256 = false →
      answers (.pcLineFill g line (.corrected n)) s (((s.count (CH_PC_FILL_CNT (g / 32))).cacheLine (g / 32) line).countN (CH_PC_CORR_CNT (g / 32)) n))
  ∧ (∀ (s : State) (g line a : Nat), s.coreOn = true → g < 128 → s.gateOpen (g / 32) = true → 256 * line < memSize → s.poisonedIn (256 * line) 256 = false →
      answers (.pcLineFill g line (.uncorrectable a)) s ((((s.count (CH_PC_FILL_CNT (g / 32))).setChan (g / 32) (fun ch => ch.discard line)).count (CH_PC_UNCORR_CNT (g / 32))).chanEvent g 3))
  ∧ (∀ (s : State) (c : Nat) (val : Word), s.reaches (CH_ENG_ENABLE c) → c < 4 → s.unlocked (CH_ENG_ENABLE c) &&& rwlBits (CH_ENG_ENABLE c) = 2 ^ 32 - 1 →
      ∃ t, exec (.engEnableWrite c val) s = .next t ∧ t.rdN (CH_ENG_ENABLE c) = val.toNat
        ∧ (∀ e < 32, bitAt val.toNat e = false → s.engState (32 * c + e) = 1 → t.engState (32 * c + e) = 0)
        ∧ (∀ g < 128, s.engState g = 2 → t.engState g = 2))
  ∧ (∀ (s : State) (c g : Nat) (val : Word), s.reaches (CH_DBG_DATA c) → c < 4 → g = 32 * c + s.bits (CH_DBG_SEL c) 4 0 → s.engState g = 0 →
      answers (.dbgDataAccess c true ⟨val, .clean⟩) s ((s.setEng g (fun e => { e.lsWrite (s.bits (CH_DBG_ADDR c) 18 2 * 4) (leBytes 4 val.toNat) with dirty := true })).wrN (CH_DBG_ADDR c) ((s.bits (CH_DBG_ADDR c) 18 2 * 4 + 4) % 2 ^ 19)))
  ∧ (∀ (s : State) (c g : Nat), s.reaches (CH_DBG_DATA c) → c < 4 → g = 32 * c + s.bits (CH_DBG_SEL c) 4 0 → s.engState g = 0 →
      answers (.dbgDataAccess c false ⟨0, .clean⟩) s ((s.wrN (CH_DBG_ADDR c) ((s.bits (CH_DBG_ADDR c) 18 2 * 4 + 4) % 2 ^ 19)).complete ((s.eng g).lsRead (s.bits (CH_DBG_ADDR c) 18 2 * 4) 4) false))
  ∧ (∀ (s : State) (c g : Nat) (isWrite : Bool) (val : Word), s.reaches (CH_DBG_DATA c) → c < 4 → g = 32 * c + s.bits (CH_DBG_SEL c) 4 0 → s.engState g ≠ 0 →
      answers (.dbgDataAccess c isWrite ⟨val, .clean⟩) s (if isWrite then (s.chanEvent g 0).wrN (CH_DBG_ADDR c) ((s.bits (CH_DBG_ADDR c) 18 2 * 4 + 4) % 2 ^ 19)
        else ((s.chanEvent g 0).wrN (CH_DBG_ADDR c) ((s.bits (CH_DBG_ADDR c) 18 2 * 4 + 4) % 2 ^ 19)).complete [0, 0, 0, 0] false))

/-- A host write of CMP_SYN_EYE_SEQ keeps its low half and, where the registers are the source, notes the shadow eye-boxes, the valid mask and the number as the set to come; where they are not, it does nothing more. The set to come takes force at the end of the tick and clears STALE. At a frame start of this tick without a newer set, the set goes STALE with source 280 once CMP_SYN_EYE_AGE starts have passed. Enabling the camera path with another source on its stream only shows SKIP 6; with the camera source, ENABLE is 1 and every sweep camera below 16 is in LATE, and a single sweep camera that was not in LATE enters it with its count cleared and source 273. A write of CMP_CAM_RIG_SEL keeps its low bit, sets RIG_PENDING and notes the write for the tick; a RESTART is noted, and holds from the end of the tick on. Each of these host writes is passed to the partner of a primary. A build instant in the tick, on no secondary, with the path enabled, the power in an operating state and no instant taken yet, runs the build of that instant. The build checks the pending rig copy and judges the cameras; with a reason to skip, it shows the reason in SKIP, counts and raises source 272; with none, it starts. A build that gets its tables takes the next number, shows BUILD 1, ends a RESTART, and has one item for each tile of the panel (R135, R136, R152, R154, R158, R161, R162, R163, R164, R165, R175). -/
def Obligations.ViewersCamerasAndBuilds : Prop :=
  (∀ (s : State) (val : Word), s.reaches CMP_SYN_EYE_SEQ → s.on CMP_SYN_CFG_EYE_SRC = false →
      answers (.eyeSetCommit val) s (State.passedOn { s.wrN CMP_SYN_EYE_SEQ (val.toNat % 65536) with frame := { s.frame with eyesIn := some (s.shadowEyes, s.bits CMP_SYN_EYE_VALID 7 0, val.toNat % 65536) }, cam := { s.cam with eyeSeq := some (val.toNat % 65536) } } CMP_SYN_EYE_SEQ val))
  ∧ (∀ (s : State) (val : Word), s.reaches CMP_SYN_EYE_SEQ → s.on CMP_SYN_CFG_EYE_SRC = true →
      answers (.eyeSetCommit val) s ((s.wrN CMP_SYN_EYE_SEQ (val.toNat % 65536)).passedOn CMP_SYN_EYE_SEQ val))
  ∧ (∀ (s : State) (e : List EyeBox × Nat × Nat), s.frame.eyesIn = some e →
      s.settleEyes = State.put { s with frame := { s.frame with eyes := e.1, eyeValid := e.2.1, eyeSeq := e.2.2, eyeNew := true, eyesIn := none } } CMP_SYN_STATUS_STALE 0)
  ∧ (∀ (s : State), s.coreOn = true → s.isSecondary = false → s.frame.eyeNew = false → s.frame.startAt = s.now → s.frame.seen = true → s.bits CMP_SYN_EYE_AGE 7 0 ≠ 0 → s.bits CMP_SYN_EYE_AGE 7 0 ≤ s.frame.eyeAge → s.on CMP_SYN_STATUS_STALE = false →
      answers (.eyeStale) s ((s.put CMP_SYN_STATUS_STALE 1).raise 280 0))
  ∧ (∀ (s : State), s.reaches CMP_CAM_CFG → s.get (CMP_STK_CFG_SOURCE s.camStream) ≠ 2 →
      answers (.camEnable) s ((s.put CMP_CAM_STATUS_SKIP 6).passedOn CMP_CAM_CFG (s.rd CMP_CAM_CFG ||| 1)))
  ∧ (∀ (s : State), s.reaches CMP_CAM_CFG → s.get (CMP_STK_CFG_SOURCE s.camStream) = 2 →
      ∃ t, exec (.camEnable) s = .next t ∧ t.on CMP_CAM_CFG_ENABLE = true
        ∧ (∀ e ∈ s.sweepCams, e.1 < 16 → t.camState e.1 = 2))
  ∧ (∀ (s : State) (c : Nat) (e : CamRec), s.reaches CMP_CAM_CFG → s.get (CMP_STK_CFG_SOURCE s.camStream) = 2 → s.sweepCams = [(c, e)] → (s.put CMP_CAM_CFG_ENABLE 1).camState c ≠ 2 →
      answers (.camEnable) s (((State.setCamState { s.put CMP_CAM_CFG_ENABLE 1 with cam := { s.cam with misses := s.cam.misses.set c 0 } } c 2).raiseMask 273 (2 ^ c)).passedOn CMP_CAM_CFG (s.rd CMP_CAM_CFG ||| 1)))
  ∧ (∀ (s : State) (val : Word), s.reaches CMP_CAM_RIG_SEL →
      answers (.rigSelect val) s ((State.put { s.wrN CMP_CAM_RIG_SEL (val.toNat % 2) with cam := { s.cam with selIn := true } } CMP_CAM_STATUS_RIG_PENDING 1).passedOn CMP_CAM_RIG_SEL val))
  ∧ (∀ (s : State), s.reaches CMP_CAM_CMD →
      answers (.camRestart) s (State.passedOn { s with cam := { s.cam with restartIn := true } } CMP_CAM_CMD 1))
  ∧ (∀ (s : State), s.cam.restartIn = true → s.settleCams.cam.restart = true ∧ s.settleCams.cam.restartIn = false)
  ∧ (∀ (s : State) (t : Nat), s.coreOn = true → s.isSecondary = false → s.on CMP_CAM_CFG_ENABLE = true → s.pwrState ≤ 1 → s.pwr.stopping = none → s.cam.instant ≠ some s.evc.tick → s.instantFrom s.ptpFrom = some t → t < s.ptpTickEnd →
      answers (.buildInstant) s (s.buildAt t))
  ∧ (∀ (s u v : State) (t n : Nat) (r : Option Nat), u = (State.checkRig { s with cam := { s.cam with instant := some s.evc.tick } }).bindCams →
      v = u.judgeCams (s.targetOf t) → n = ((u.buildPicks (s.targetOf t)).filterMap (fun e => e.2.2.map (fun p => (e.1, e.2.1, p)))).length →
      r = v.skipReason v.wasBuilding n →
      s.buildAt t = (match r with
        | some k => ((v.put CMP_CAM_STATUS_SKIP k).count CMP_CAM_SKIP_CNT).raise 272 0
        | none => v.startBuild (s.targetOf t) v.cam.restart ((u.buildPicks (s.targetOf t)).filterMap (fun e => e.2.2.map (fun p => (e.1, e.2.1, p))))))
  ∧ (∀ (s : State) (target : Int) (restart : Bool) (sel : List (Nat × CamRec × Pic)) (ts : List Nat),
      s.allocTables s.camStream (s.rigPlanes s.rig) [s.descSlot s.camStream ((s.acquirable s.camStream).getD 0)] = some ts →
      (s.startBuild target restart sel).rdN CMP_CAM_BUILD_NO = (s.rdN CMP_CAM_BUILD_NO + 1) % 2 ^ 32 ∧ (s.startBuild target restart sel).get CMP_CAM_STATUS_BUILD = 1
      ∧ (s.startBuild target restart sel).cam.restart = false
      ∧ ∃ b, (s.startBuild target restart sel).cam.build = some b ∧ b.number = (s.rdN CMP_CAM_BUILD_NO + 1) % 2 ^ 32 ∧ b.items = s.tileCols * s.tileRows)

/-- On a device that is no secondary, a frame starts where one has started before, this device drives, nothing forbids it, the earliest time has come, and at the end of the tick before a trigger waited with no WAIT layer holding it back; it starts forced where the maximum period has passed as well, by either command; in any other case FRAME_START changes nothing. What allows a start: an image, no frame in progress now or at the end of the tick before, no HOLD now or asked for before, no calibration being taken, power state 0 or 1, no reset asked for and no stop under way. On a secondary whose FSTART waits with all it names, the frame starts with its numbers, and with its deadline. A frame that opens shows FRAME_ACTIVE and ACTIVE, counts in CMP_FRAME_START_CNT, counts in CMP_FRAME_FORCED_CNT where it is forced, is in set-up, and starts at the present time. The end of the set-up shows its results, forms the queue and gives every channel its share and runs; with no synthesis engine counted source 283 is raised besides, and a frame with rectangles aborts with cause 3 (R15, R146, R149, R150, R199, R201, R422). -/
def Obligations.FramesStartAndSetUp : Prop :=
  (∀ (s : State), s.coreOn = true → s.isSecondary = false → s.forceDue = false → s.frame.seen = true → s.drives = true → s.mayStart = true → s.frame.armed = true → s.earliest ≤ s.now →
      answers (.frameStart) s (s.startFrame false false))
  ∧ (∀ (s : State), s.armFrame.frame.armed = (s.triggered && !s.waitHeld) ∧ s.armFrame.frame.ended = !s.frameOn)
  ∧ (∀ (s : State), s.coreOn = true → s.isSecondary = false → s.frame.seen = true → s.drives = true → s.mayStart = true → s.frame.startAt + 2 * s.frame.maxNs ≤ s.now → s.earliest ≤ s.now →
      answers .frameStart s (s.startFrame true false) ∧ answers .frameForced s (s.startFrame true false))
  ∧ (∀ (s : State), s.coreOn = true → s.isSecondary = false → s.frame.seen = false ∨ s.drives = false ∨ s.mayStart = false ∨ (s.frame.armed = false ∧ s.now < s.frame.startAt + 2 * s.frame.maxNs) ∨ s.now < s.earliest →
      answers (.frameStart) s (s))
  ∧ (∀ (s : State), s.mayStart = true ↔ s.csu.image ≠ none ∧ s.on SPL_STATUS_FRAME_ACTIVE = false ∧ s.frame.ended = true ∧ s.on SPL_STATUS_HOLD = false ∧ s.spl.holdWas = false
      ∧ s.cal.applying = false ∧ s.pwrState ≤ 1 ∧ s.pcie.resetAsked = none ∧ s.pwr.stopping = none)
  ∧ (∀ (s : State) (r : FrameRec) (u v : State), s.coreOn = true → s.isSecondary = true → s.ehl.fstart = some r → s.csu.image ≠ none → s.on SPL_STATUS_FRAME_ACTIVE = false → s.cal.applying = false → s.fstartReady r = true → r.full = false → u = (if s.frameNo = r.frame then s else s.put ⟨SPL_FRAME_CNT, 15, 0⟩ (r.frame + 65535)) → v = (u.wrN SPL_ATTEMPT ((r.att + 255) % 256)).startFrame false false →
      answers (.frameStart) s ({ v with frame := { v.frame with deadline := v.now + 2 * (r.deadline - r.start) } }))
  ∧ (∀ (s : State) (forced : Bool), (s.frameOpened forced).on SPL_STATUS_FRAME_ACTIVE = true ∧ (s.frameOpened forced).on CMP_FRAME_STATUS_ACTIVE = true
      ∧ (s.frameOpened forced).rdN CMP_FRAME_START_CNT = min (s.rdN CMP_FRAME_START_CNT + 1) 0xFFFFFFFF
      ∧ (s.frameOpened forced).rdN CMP_FRAME_FORCED_CNT = (if forced then min (s.rdN CMP_FRAME_FORCED_CNT + 1) 0xFFFFFFFF else s.rdN CMP_FRAME_FORCED_CNT)
      ∧ (s.frameOpened forced).frame.setup = true ∧ (s.frameOpened forced).frame.startAt = s.now)
  ∧ (∀ (s : State), s.coreOn = true → s.frame.setup = true → (∃ c < 4, s.get (CH_STATUS_SYNTH_ENGINES c) ≠ 0) →
      answers (.frameSetupDone) s ((((((State.showSetup { s with frame := { s.frame with setup := false } }).formQueue).shareOut).settleQueue).closeWindows)))
  ∧ (∀ (s : State), s.coreOn = true → s.frame.setup = true → (∀ c < 4, s.get (CH_STATUS_SYNTH_ENGINES c) = 0) →
      answers (.frameSetupDone) s (if s.frame.rects = [] then (((((State.showSetup { s with frame := { s.frame with setup := false } }).formQueue).shareOut).settleQueue).closeWindows).raise 283 0
        else ((((((State.showSetup { s with frame := { s.frame with setup := false } }).formQueue).shareOut).settleQueue).closeWindows).raise 283 0).abortFrame 3))

/-- A write of CMP_LID while a commit is in preparation shows BUSY with LAYER 31 and its number in CMP_COMMIT_STATUS and raises source 257, at most once in a tick; otherwise it puts the shadow set with its layer fences in preparation, shows PREP 1 and the number, and keeps memory and engines. A layer without a fence keeps what it has; a fenced one that no held commit carries at the same address waits. The end of a preparation that fails a check, or the raster, drops the commit and fails it with the code and layer; one that passes registers the commit as rasterised. A commit that has arrived becomes READY at the end of the tick and is counted superseding one that was READY. An offscreen write is refused in the same way while one is under way; otherwise it shows OFS_BUSY and status 1 and takes the shadow set. The end of an offscreen commit fails it with the code and layer of the first check, with BUSY and layer 31 where a layer is pending, or with those of the raster, and paints it otherwise. A write of CMP_LYR_FENCE signals the pending layers that it names in every commit that is held, and keeps memory. A late layer of the CURRENT commit that becomes ready is rasterised into it and sent to the partner. A field whose age is past shows STALE with its value, and one whose evaluation is another changes nothing. A field that turns hatched is noted for source 261, one that is hatched no longer for source 262. A write of CMP_WB_HELD clears the bits written 1 and is passed to the partner (R193, R196, R200, R201, R203, R205, R207). -/
def Obligations.CommitsAndLayers : Prop :=
  (∀ (s : State) (val : Word) (c : Commit), s.reaches CMP_LID → s.cmp.prep = some c →
      answers (.lidCommit val) s ((s.wrN CMP_COMMIT_STATUS (1 + 2 ^ 8 * 31 + 2 ^ 16 * (val.toNat % 65536))).raiseOnce 257 0))
  ∧ (∀ (s : State) (val : Word), s.reaches CMP_LID → s.cmp.prep = none →
      ∃ t, exec (.lidCommit val) s = .next t ∧ t.cmp.prep = some { (s.shadowCommit (val.toNat % 65536)) with layers := (List.range 24).map (fun l => s.fenceLayer l ((s.shadowCommit (val.toNat % 65536)).layer l)) }
        ∧ t.get CMP_LID_STATUS_PREP = 1
        ∧ t.get CMP_LID_STATUS_SEQ = val.toNat % 65536
        ∧ t.cmp.ready = s.cmp.ready
        ∧ t.mem = s.mem
        ∧ t.engines = s.engines)
  ∧ (∀ (s : State) (l : Nat) (lp : LayerPlane), (lp.en = false ∨ lp.fenceEn = false → s.fenceLayer l lp = lp)
      ∧ (lp.en = true → lp.fenceEn = true → (∀ c ∈ s.heldCommits, ¬((c.layer l).en = true ∧ (c.layer l).fenceEn = true ∧ (c.layer l).addr = lp.addr)) →
        s.fenceLayer l lp = { lp with pending := true }))
  ∧ (∀ (s : State) (c : Commit) (code : Nat), s.coreOn = true → s.cmp.prep = some c → s.commitCheck c false = some code →
      answers (.commitPrepDone) s (((State.failCommit { ((s.put CMP_LID_STATUS_PREP 0).wrN CMP_PREP_TIME (s.usSince c.since % 65536)) with cmp := { (((s.put CMP_LID_STATUS_PREP 0).wrN CMP_PREP_TIME (s.usSince c.since % 65536))).cmp with prep := none } } c code 31).showCommitPages).showPool))
  ∧ (∀ (s : State) (c : Commit) (code l : Nat), s.coreOn = true → s.cmp.prep = some c → s.commitCheck c false = none → s.layersCheck c = some (code, l) →
      answers (.commitPrepDone) s (((State.failCommit { ((s.put CMP_LID_STATUS_PREP 0).wrN CMP_PREP_TIME (s.usSince c.since % 65536)) with cmp := { (((s.put CMP_LID_STATUS_PREP 0).wrN CMP_PREP_TIME (s.usSince c.since % 65536))).cmp with prep := none } } c code l).showCommitPages).showPool))
  ∧ (∀ (s : State) (c d : Commit) (u : State) (code l : Nat), s.coreOn = true → s.cmp.prep = some c → s.commitCheck c false = none → s.layersCheck c = none → ((s.put CMP_LID_STATUS_PREP 0).wrN CMP_PREP_TIME (s.usSince c.since % 65536)).rasterCommit c.assignScalers false (List.range 24) = (u, d, some (code, l)) →
      answers (.commitPrepDone) s (((State.failCommit { u with cmp := { (u).cmp with prep := none } } c code l).showCommitPages).showPool))
  ∧ (∀ (s : State) (c d : Commit) (u : State), s.coreOn = true → s.cmp.prep = some c → s.commitCheck c false = none → s.layersCheck c = none → ((s.put CMP_LID_STATUS_PREP 0).wrN CMP_PREP_TIME (s.usSince c.since % 65536)).rasterCommit c.assignScalers false (List.range 24) = (u, d, none) →
      answers (.commitPrepDone) s (((State.registerCommit { u with cmp := { (u).cmp with prep := none } } d).showCommitPages).showPool))
  ∧ (∀ (s : State) (c : Commit), s.cmp.arrived = some c → s.settleCommit.cmp.ready = some c ∧ s.settleCommit.cmp.arrived = none
      ∧ s.settleCommit.on CMP_LID_STATUS_READY = true
      ∧ s.settleCommit.rdN CMP_COMMIT_SUPERSEDED = (if s.cmp.ready = none then s.rdN CMP_COMMIT_SUPERSEDED else min (s.rdN CMP_COMMIT_SUPERSEDED + 1) 0xFFFFFFFF))
  ∧ (∀ (s : State) (val : Word) (c : Commit), s.reaches CMP_LID → s.cmp.ofs = some c →
      answers (.lidOffscreen val) s ((s.wrN CMP_COMMIT_STATUS (1 + 2 ^ 8 * 31 + 2 ^ 16 * (val.toNat % 65536))).raiseOnce 257 0))
  ∧ (∀ (s : State) (val : Word), s.reaches CMP_LID → s.cmp.ofs = none →
      answers (.lidOffscreen val) s (State.showCommitPages { (s.put CMP_LID_STATUS_OFS_BUSY 1).put ⟨CMP_OFS_STATUS, 1, 0⟩ 1 with cmp := { s.cmp with ofs := some (s.shadowCommit (val.toNat % 65536)) } }))
  ∧ (∀ (s : State) (c : Commit) (code : Nat), s.coreOn = true → s.cmp.ofs = some c → s.commitCheck c true = some code →
      answers (.offscreenDone) s ((s.offscreenFail c code 31).offscreenEnd))
  ∧ (∀ (s : State) (c : Commit) (code l : Nat), s.coreOn = true → s.cmp.ofs = some c → s.commitCheck c true = none → s.layersCheck c = some (code, l) →
      answers (.offscreenDone) s ((s.offscreenFail c code l).offscreenEnd))
  ∧ (∀ (s : State) (c : Commit), s.coreOn = true → s.cmp.ofs = some c → s.commitCheck c true = none → s.layersCheck c = none → (∃ l < 24, (c.layer l).en = true ∧ s.layerPending l = true) →
      answers (.offscreenDone) s ((s.offscreenFail c 1 31).offscreenEnd))
  ∧ (∀ (s : State) (c d : Commit) (u : State) (r : Option (Nat × Nat)), s.coreOn = true → s.cmp.ofs = some c → s.commitCheck c true = none → s.layersCheck c = none → (∀ l < 24, (c.layer l).en = true → s.layerPending l = false) → s.rasterCommit c true (List.range 24) = (u, d, r) →
      answers (.offscreenDone) s (match r with
        | some e => (u.offscreenFail c e.1 e.2).offscreenEnd
        | none => (u.offscreenPaint c d).offscreenEnd))
  ∧ (∀ (s : State) (val : Word) (m : Nat), s.reaches CMP_LYR_FENCE → m = val.toNat % 2 ^ 24 &&& s.rdN CMP_LYR_PENDING →
      ∃ t, exec (.layerFence val) s = .next t ∧ t.cmp = { s.cmp with prep := s.cmp.prep.map (Commit.signal m), arrived := s.cmp.arrived.map (Commit.signal m), gated := s.cmp.gated.map (Commit.signal m), ready := s.cmp.ready.map (Commit.signal m), current := s.cmp.current.map (Commit.signal m) }
        ∧ t.mem = s.mem)
  ∧ (∀ (s : State) (l : Nat) (c d : Commit) (u : State), s.coreOn = true → s.cmp.current = some c → s.rasterLate l c = (u, d) → (c.layer l).waits = true → (d.layer l).ready = true → u.cmp.ready = none → u.cmp.gated = none → u.cmp.arrived = none →
      answers (.lateLayerReady l) s ((State.toPartner { u with cmp := { u.cmp with current := some d } } (.commit (State.commitMsg { u with cmp := { u.cmp with current := some d } } d))).showPool))
  ∧ (∀ (s : State) (f st : Nat) (raw : Int), s.coreOn = true → f < ovlFields s.ovlDesc → fieldEval (ovlField s.ovlDesc f) (s.ovl.ctx.getD (ovlField s.ovlDesc f).ctx ⟨none, none, 0⟩) s.ptpAtEnd = (st, raw) →
      answers (.overlayFieldStale f) s (if st = fsStale then s.setField f fsStale raw else s))
  ∧ (∀ (s : State) (f st : Nat) (raw : Int), st < 16 → (s.setField f st raw).fieldState f = st
      ∧ (fieldHatched (s.fieldState f) = false → fieldHatched st = true → ∃ u, s.setField f st raw = State.raiseMask u 261 (2 ^ f))
      ∧ (fieldHatched (s.fieldState f) = true → fieldHatched st = false → ∃ u, s.setField f st raw = State.raiseMask u 262 (2 ^ f)))
  ∧ (∀ (s : State) (val : Word), s.reaches CMP_WB_HELD →
      answers (.wbHeldClear val) s ((s.wrN CMP_WB_HELD (s.rdN CMP_WB_HELD - (s.rdN CMP_WB_HELD &&& val.toNat % 16))).passedOn CMP_WB_HELD val))

/-- The update named first in turn starts while a frame past its set-up is driven: its pieces for excluded tiles are over and counted in SPL_DROP_CNT, and windows and queue settle; where no update is in turn, no frame is past its set-up or this device does not drive, nothing changes. A row of a group: far-end test blocks while that test runs; else a TS1 row in TRAIN and while it adapts, a TS2 row in LOCK and CAPS, the next packet in ACTIVE where it may send and has one, an IDLE row in ACTIVE otherwise, and nothing in the other states. The next packet is the first resend that may go, else in a frame a piece of the class that comes first, else one of the others, else a REFSET packet. A correction packet of a tile that is not excluded goes out in an open window with nothing before it, is sent, and counts in CAL_TRICKLE_SENT_CNT; that of an excluded tile is over and counts in SPL_DROP_CNT. A frame that can flip before its deadline completes with its delay and its corrections, and the partner gets a FEND that says so; otherwise the command changes nothing. At the deadline a frame in progress that this device drives aborts with cause 1, and before it nothing changes. A piece whose acknowledgement is late is sent again from its first packet, or its group retrains past the limit; with none late, a REFSET or correction packet that is late is treated so (R212, R214, R216, R220, R222, R225, R228, R229, R230, R232, R265). -/
def Obligations.PanelUpdatesAndPackets : Prop :=
  (∀ (s : State) (upd : Nat) (u : Update), s.coreOn = true → s.startable = some u → u.upd = upd → s.frameOn = true → s.frame.setup = false → s.drives = true →
      answers (.updateStart upd) s (((State.countN { s with spl := { s.spl with queue := s.spl.queue.map (Update.begin upd ((List.range s.tiles.length).filter s.excluded)) } } SPL_DROP_CNT ((u.pieces.filter (fun p => ((List.range s.tiles.length).filter s.excluded).contains p.tile && !p.acked)).length)).closeWindows).settleQueue))
  ∧ (∀ (s : State) (upd : Nat), s.coreOn = true → s.startable = none ∨ s.frameOn = false ∨ s.frame.setup = true ∨ s.drives = false →
      answers (.updateStart upd) s (s))
  ∧ (∀ (s : State) (g : Nat), s.coreOn = true → g < 6 → (s.group g).prbs ≠ [] →
      answers (.packetSend g) s (s.setGroup g Group.sendPrbs))
  ∧ (∀ (s : State) (g : Nat), s.coreOn = true → g < 6 → (s.group g).prbs = [] → s.gState g = gTrain ∨ (s.gState g = gActive ∧ (s.group g).adapting = true) →
      answers (.packetSend g) s (s.sendRows g [(true, ts1Row g (s.group g).presets)]))
  ∧ (∀ (s : State) (g : Nat), s.coreOn = true → g < 6 → (s.group g).prbs = [] → s.gState g = gLock ∨ s.gState g = gCaps →
      answers (.packetSend g) s (s.sendRows g [(true, ts2Row g (s.get SPL_STATUS_ROLE) (s.rdN SPL_FRAME_CNT))]))
  ∧ (∀ (s : State) (g : Nat) (u : State), s.coreOn = true → g < 6 → (s.group g).prbs = [] → s.canSend g = true → s.nextPacket g = some u →
      answers (.packetSend g) s (u))
  ∧ (∀ (s : State) (g : Nat), s.coreOn = true → g < 6 → (s.group g).prbs = [] → s.gState g = gActive → (s.group g).adapting = false → s.canSend g = false ∨ s.nextPacket g = none →
      answers (.packetSend g) s (s.sendRows g [(true, idleRow)]))
  ∧ (∀ (s : State) (g : Nat), s.coreOn = true → g < 6 → (s.group g).prbs = [] → s.gState g < gTrain ∨ gActive < s.gState g →
      answers (.packetSend g) s (s))
  ∧ (∀ (s : State) (g : Nat), s.nextPacket g = (match (s.group g).resend.find? s.resendReady with
        | some r => some (s.sendAgain g r)
        | none => if s.frameOn = false then none else match s.pickUpdate g true with
          | some e => some (s.sendPiece g e.1 e.2)
          | none => match s.pickUpdate g false with | some e => some (s.sendPiece g e.1 e.2) | none => s.nextRefset g))
  ∧ (∀ (s : State) (g : Nat) (c : Corr), s.coreOn = true → (s.group g).corr.find? (fun c => !c.sent) = some c → s.canSend g = true → s.windowOpen g = true → s.trickleOn = true → s.nextPacket g = none → s.excluded c.tile = false →
      answers (.corrSend g) s (((s.setGroup g (fun k => { k with lastCorr := some c.granule, corr := k.corr.map (fun d => if d.granule = c.granule then { d with sent := true, acked := false, frame := s.frameNo, att := s.corrAtt, lastAt := s.now } else d) })).sendPacket g (s.corrBytes c s.frameNo s.corrAtt false)).count CAL_TRICKLE_SENT_CNT))
  ∧ (∀ (s : State) (g : Nat) (c : Corr), s.coreOn = true → (s.group g).corr.find? (fun c => !c.sent) = some c → s.canSend g = true → s.windowOpen g = true → s.trickleOn = true → s.nextPacket g = none → s.excluded c.tile = true →
      answers (.corrSend g) s ((s.setGroup g (fun k => { k with lastCorr := some c.granule, corr := k.corr.map (fun d => if d.granule = c.granule then { d with sent := true, acked := true, frame := s.frameNo, att := s.corrAtt, lastAt := s.now } else d) })).count SPL_DROP_CNT))
  ∧ (∀ (s : State) (delay : Nat) (ds : List (Nat × List Byte)), s.coreOn = true → s.isSecondary = false → s.canFlip = true → s.drives = true → s.now < s.frame.deadline →
      delay = clampNat 2000 50000 (s.bits SPL_FLIP_DELAY 15 0) → ds = (s.frameCorr s.frameNo s.attNow).map (fun c => (c.granule, c.delta)) →
      answers .frameComplete s ((s.completeFrame delay (s.ptpTotalNs + delay) ds).toPartner
        (.fend { flip := true, frame := s.frameNo, att := s.attNow, doneNs := s.ptpTotalNs + delay, deltas := ds })))
  ∧ (∀ (s : State), s.coreOn = true → s.isSecondary = false → s.canFlip = false ∨ s.drives = false ∨ s.frame.deadline ≤ s.now →
      answers (.frameComplete) s (s))
  ∧ (∀ (s : State), s.coreOn = true → s.frameOn = true → s.drives = true → s.frame.deadline < s.now + s.tickHalfNs →
      answers (.frameDeadline) s (s.abortFrame 1))
  ∧ (∀ (s : State), s.coreOn = true → s.drives = false ∨ s.now + s.tickHalfNs ≤ s.frame.deadline →
      answers (.frameDeadline) s (s))
  ∧ (∀ (s : State) (t : Nat) (u : Update) (p : Piece) (pk : List (Nat × Nat)), s.coreOn = true → s.spl.queue.findSome? (fun u => (u.pieces.find? (fun p => u.phase == 1 && p.tile == t && !p.acked && p.next == (s.piecePackets u p).length && decide (p.lastAt + 40000 < s.now + s.tickHalfNs))).map (fun p => (u, p))) = some (u, p) → pk = s.piecePackets u p →
      answers (.pieceAckTimeout t) s (if s.bits SPL_RETRY_MAX 3 0 ≤ p.mostSends pk then s.fastRetrain (s.tileRec t).group 7 false
        else (s.noteRetry (s.tileRec t).group).mapPieces (fun v q => if v.upd = u.upd ∧ q.tile = t ∧ q.band = p.band then { q.again pk with retry := true } else q)))
  ∧ (∀ (s : State) (t : Nat), s.coreOn = true → s.spl.queue.findSome? (fun u => (u.pieces.find? (fun p => u.phase == 1 && p.tile == t && !p.acked && p.next == (s.piecePackets u p).length && decide (p.lastAt + 40000 < s.now + s.tickHalfNs))).map (fun p => (u, p))) = none →
      answers (.pieceAckTimeout t) s (s.driveAckTimeout t))

/-- A record that is bad, or from a tile that is not the one configured, changes nothing. An ACK of an update shows the progress of the tile and, for the frame in progress before its deadline passes, marks the pieces that it names and settles the queue; an ACK 2047 is taken as one of the drive data, and there marks the REFSET packet of the frame in progress, or else the oldest correction packet with its numbers, unless the deadline passes. A NAK counts an error of the tile, and then has the piece of the frame, or the correction packet, or the REFSET packet that it names sent again, or does nothing more. STAT shows HERE, CONTENT_VALID and HOLDING, counts the tile's errors, or in far-end test the group's with source 331, keeps the eye score, shows progress, and judges the tile. SWITCH to this device outside a frame shows HERE, counts, raises source 326, shows progress and judges the tile, and at a DETACHED device makes it SOLO with source 807 and restores of all tiles before; in a frame that this device drives it settles what the tile has of an included tile besides. SWITCH away shows HERE 0, counts, raises source 326, shows progress, gives up the role and judges the tile. CAPS of a tile that does not belong there fails the training of a group in CAPS with cause 5; any other marks the tile present, adds it to the chain, shows the chain and judges the tile; one with a bad CRC changes nothing. LOCKLOSS and silence start a fast retrain with causes 8 and 6 (R218, R220, R229, R234, R237, R238, R239, R240). -/
def Obligations.TileStatusRecords : Prop :=
  (∀ (s : State) (g : Nat) (r : StatusRec) (ok : Bool), s.coreOn = true → s.srTile g r ok = none →
      answers (.srAck g r ok) s s ∧ answers (.srNak g r ok) s s ∧ answers (.srStat g r ok) s s ∧ answers (.srSwitch g r ok) s s ∧ answers (.srLockloss g r ok) s s)
  ∧ (∀ (s : State) (g t : Nat) (r : StatusRec) (ok : Bool), s.coreOn = true → s.srTile g r ok = some t → r.upd ≠ 2047 → s.frameOn = true → r.frame = s.frameNo → r.att = s.attNow → s.deadlinePasses = false →
      answers (.srAck g r ok) s (((s.showProgress t r).mapPieces (fun u p => if u.upd = r.upd ∧ p.tile = t ∧ p.band = r.band ∧ u.phase = 1 then { p with acked := true } else p)).settleQueue))
  ∧ (∀ (s : State) (g t : Nat) (r : StatusRec) (ok : Bool), s.coreOn = true → s.srTile g r ok = some t → r.upd ≠ 2047 → s.frameOn = false ∨ r.frame ≠ s.frameNo ∨ r.att ≠ s.attNow ∨ s.deadlinePasses = true →
      answers (.srAck g r ok) s (s.showProgress t r))
  ∧ (∀ (s : State) (g t : Nat) (r : StatusRec) (ok : Bool), s.coreOn = true → s.srTile g r ok = some t → r.upd = 2047 →
      answers (.srAck g r ok) s (s.ackDrive g t r))
  ∧ (∀ (s : State) (g t : Nat) (r : StatusRec) (c : Corr), s.deadlinePasses = false →
      (r.frame = s.frameNo → r.att = s.attNow → s.frameOn = true → (∃ q ∈ s.spl.refsets, q.tile = t ∧ q.sent = true ∧ q.acked = false) →
        s.ackDrive g t r = { s with spl := { s.spl with refsets := s.spl.refsets.map (fun q => if q.tile = t then { q with acked := true } else q) } })
      ∧ (s.frameOn = false → (s.group g).corr.find? (fun c => c.tile == t && c.sent && !c.acked && c.frame == r.frame && c.att == r.att) = some c →
        s.ackDrive g t r = s.setGroup g (fun k => { k with corr := k.corr.map (fun d => if d.granule = c.granule then { d with acked := true } else d) })))
  ∧ (∀ (s : State) (g t : Nat) (r : StatusRec) (ok : Bool) (u : Update) (p : Piece), s.coreOn = true → s.srTile g r ok = some t → s.frameOn = true → r.frame = s.frameNo → r.att = s.attNow → s.spl.queue.findSome? (fun u => (u.pieces.find? (fun p => u.phase == 1 && p.tile == t && !p.acked && ((s.piecePackets u p).take p.next).contains (r.x, r.y))).map (fun p => (u, p))) = some (u, p) →
      answers (.srNak g r ok) s ((s.count (SPL_T_ERR_CNT t)).nakRect g u p r.x r.y))
  ∧ (∀ (s : State) (g t : Nat) (r : StatusRec) (ok : Bool) (c : Corr), s.coreOn = true → s.srTile g r ok = some t → s.frameOn = false ∨ r.frame ≠ s.frameNo ∨ r.att ≠ s.attNow ∨ s.spl.queue.findSome? (fun u => (u.pieces.find? (fun p => u.phase == 1 && p.tile == t && !p.acked && ((s.piecePackets u p).take p.next).contains (r.x, r.y))).map (fun p => (u, p))) = none → (s.group g).corr.find? (fun c => c.tile == t && c.sent && !c.acked && c.frame == r.frame && c.att == r.att && s.granuleAt c.granule == (r.x, r.y)) = some c →
      answers (.srNak g r ok) s ((s.count (SPL_T_ERR_CNT t)).corrAgain g c))
  ∧ (∀ (s : State) (g t : Nat) (r : StatusRec) (ok : Bool) (q : Refset), s.coreOn = true → s.srTile g r ok = some t → s.frameOn = true → r.frame = s.frameNo → r.att = s.attNow → s.spl.queue.findSome? (fun u => (u.pieces.find? (fun p => u.phase == 1 && p.tile == t && !p.acked && ((s.piecePackets u p).take p.next).contains (r.x, r.y))).map (fun p => (u, p))) = none → (s.group g).corr.find? (fun c => c.tile == t && c.sent && !c.acked && c.frame == r.frame && c.att == r.att && s.granuleAt c.granule == (r.x, r.y)) = none → s.spl.refsets.find? (fun q => q.tile == t && q.sent && !q.acked) = some q →
      answers (.srNak g r ok) s ((s.count (SPL_T_ERR_CNT t)).refsetAgain g q))
  ∧ (∀ (s : State) (g t : Nat) (r : StatusRec) (ok : Bool), s.coreOn = true → s.srTile g r ok = some t → s.frameOn = false ∨ r.frame ≠ s.frameNo ∨ r.att ≠ s.attNow → (s.group g).corr.find? (fun c => c.tile == t && c.sent && !c.acked && c.frame == r.frame && c.att == r.att && s.granuleAt c.granule == (r.x, r.y)) = none →
      answers (.srNak g r ok) s (s.count (SPL_T_ERR_CNT t)))
  ∧ (∀ (s : State) (g t : Nat) (r : StatusRec) (ok : Bool) (s1 s2 : State), s.coreOn = true → s.srTile g r ok = some t → s1 = ((s.putB (SPL_T_STATUS_HERE t) r.here).putB (SPL_T_STATUS_CONTENT_VALID t) r.valid).putB (SPL_T_STATUS_HOLDING t) r.holding → s2 = (if s.bits (SPL_G_LPBK g) 1 0 = 3 then (if r.errors = 0 then s1 else (s1.countN (SPL_G_PRBS_ERR g) r.errors).raiseMask 331 (2 ^ g)) else s1.countN (SPL_T_ERR_CNT t) r.errors) →
      answers (.srStat g r ok) s (((State.showProgress { s2 with spl := { s2.spl with eyes := s2.spl.eyes.set t (r.eye % 256, r.lane) } } t r).showEye g).judgeTile t))
  ∧ (∀ (s : State) (g t : Nat) (r : StatusRec) (ok : Bool), s.coreOn = true → s.srTile g r ok = some t → r.here = true → s.pairState ≠ pairDetached → s.frameOn = false →
      answers (.srSwitch g r ok) s (((((s.putB (SPL_T_STATUS_HERE t) true).count SPL_SWITCH_CNT).raiseMask 326 (2 ^ t)).showProgress t r).judgeTile t))
  ∧ (∀ (s : State) (g t : Nat) (r : StatusRec) (ok : Bool), s.coreOn = true → s.srTile g r ok = some t → r.here = true → s.pairState = pairDetached → s.frameOn = false →
      answers (.srSwitch g r ok) s (((List.range s.tiles.length).foldl State.requestRestore ((((((s.putB (SPL_T_STATUS_HERE t) true).count SPL_SWITCH_CNT).raiseMask 326 (2 ^ t)).showProgress t r).setPair pairSolo).raise 807 0)).judgeTile t))
  ∧ (∀ (s : State) (g t : Nat) (r : StatusRec) (ok : Bool) (u : State), s.coreOn = true → s.srTile g r ok = some t → r.here = true → s.pairState ≠ pairDetached → s.frameOn = true → u = (((s.putB (SPL_T_STATUS_HERE t) true).count SPL_SWITCH_CNT).raiseMask 326 (2 ^ t)).showProgress t r → u.drives = true → u.excluded t = false →
      answers (.srSwitch g r ok) s ((u.markDone t r).judgeTile t))
  ∧ (∀ (s : State) (g t : Nat) (r : StatusRec) (ok : Bool), s.coreOn = true → s.srTile g r ok = some t → r.here = false →
      answers (.srSwitch g r ok) s ((((((s.putB (SPL_T_STATUS_HERE t) false).count SPL_SWITCH_CNT).raiseMask 326 (2 ^ t)).showProgress t r).demote).judgeTile t))
  ∧ (∀ (s : State) (g t : Nat) (r : StatusRec), s.coreOn = true → s.tileAt r.taddr = some t → (s.tileRec t).group ≠ g ∨ ((s.tileRec t).ref ≠ 0 ∧ (s.tileRec t).ref ≠ r.tileId) → s.gState g = gCaps →
      answers (.srCaps g r true) s ((s.trainFail g 5).tryResume))
  ∧ (∀ (s : State) (g t : Nat) (r : StatusRec) (cs : List (Nat × Nat × Nat)) (last : Nat × Nat × Nat), s.coreOn = true → s.tileAt r.taddr = some t → (s.tileRec t).group = g → (s.tileRec t).ref = 0 ∨ (s.tileRec t).ref = r.tileId → cs = (r.taddr, r.tileId, r.latency) :: ((s.group g).caps.filter (fun c => c.1 != r.taddr)) → last = cs.foldl (fun b c => if b.1 ≤ c.1 then c else b) (0, 0, 0) →
      answers (.srCaps g r true) s ((((((s.put (SPL_T_STATUS_PRESENT t) 1).putB (SPL_T_STATUS_CONTENT_VALID t) r.valid).setGroup g (fun k => { k with caps := cs })).wrN (SPL_G_CHAIN g) (cs.length % 16 + 2 ^ 8 * (last.2.2 % 4096)))).judgeTile t))
  ∧ (∀ (s : State) (g : Nat) (r : StatusRec), s.coreOn = true →
      answers (.srCaps g r false) s (s))
  ∧ (∀ (s : State) (g t : Nat) (r : StatusRec) (ok : Bool), s.coreOn = true → s.srTile g r ok = some t →
      answers (.srLockloss g r ok) s (s.fastRetrain g 8 false))
  ∧ (∀ (s : State) (g : Nat), s.coreOn = true → g < 6 →
      answers (.srSilent g) s (s.fastRetrain g 6 false))

/-- A restore request of all tiles, or of one that exists, asks for each of them and one of a tile that does not exist asks for none; a request shows RESTORE_PENDING and holds for the frames from the end of the tick on. A write of SPL_HOLD keeps its fields and asks for hold, where REQ is 1 and hold does not stand or is being left, and else takes the request back. Both are passed to the partner of a primary. Where hold is asked for, outside a frame and with no hold standing, MARK HOLD leaves with its level, HOLD reads 1, every ACTIVE group goes to HOLD with its tiles holding and judged, the request is over and source 330 is raised; otherwise hold is not entered; either way a stop or reset that waited for it goes on. With hold standing, no request, no resume under way and power state 0 or 1, hold is left. Adaptation of the group next in turn starts in an open window between frames with 25 microseconds to the earliest start. An adapted group whose eye is below the limit or 16 below the one before is rejected with source 873; otherwise its presets are offered and its eye is kept and shown; either way the run goes on to the next group (R221, R231, R235, R273). -/
def Obligations.HoldAndRestores : Prop :=
  (∀ (s : State) (val : Word), s.reaches SPL_RESTORE →
      answers (.splRestore val) s ((if bitAt val.toNat 8 then (List.range s.tiles.length).foldl State.requestRestore s
        else if val.toNat % 64 < s.tiles.length then s.requestRestore (val.toNat % 64) else s).passedOn SPL_RESTORE val))
  ∧ (∀ (s : State) (t : Nat), (s.requestRestore t).on (SPL_T_STATUS_RESTORE_PENDING t) = true ∧ t ∈ (s.requestRestore t).spl.restoresIn
      ∧ (s.requestRestore t).spl.carriedRestores = s.spl.carriedRestores
      ∧ (t ∈ s.spl.restoresIn → t ∈ s.settleRestores.spl.carriedRestores) ∧ s.settleRestores.spl.restoresIn = [])
  ∧ (∀ (s : State) (val : Word) (s1 : State), s.reaches SPL_HOLD → s1 = s.wrN SPL_HOLD (val.toNat &&& 0xFF01) →
      answers (.holdRequest val) s (State.passedOn { s1 with spl := { s1.spl with holdAsked := bitAt val.toNat 0 && (!s.on SPL_STATUS_HOLD || s.spl.resumeOwed) } } SPL_HOLD val))
  ∧ (∀ (s : State) (u : State), s.coreOn = true → s.wantsHold = true → s.frameOn = false → s.on SPL_STATUS_HOLD = false → u = ((List.range 6).filter (fun g => s.gState g == gActive)).foldl (fun st g => ((st.groupTiles g).foldl (fun x t => x.put (SPL_T_STATUS_HOLDING t) 1) (st.setG g gHold)).judgeGroup g) ((s.sendMark (markRow 3 0 0 s.holdLevelNow 0)).put SPL_STATUS_HOLD 1) →
      answers (.holdEnter) s (((State.raise { u with spl := { u.spl with holdAsked := false, holdBy := 0, holdLevel := s.holdLevelNow } } 330 0).settleStop).settleReset))
  ∧ (∀ (s : State), s.coreOn = true → s.wantsHold = false ∨ s.frameOn = true ∨ s.on SPL_STATUS_HOLD = true →
      answers (.holdEnter) s ((s.settleStop).settleReset))
  ∧ (∀ (s : State), s.coreOn = true → s.on SPL_STATUS_HOLD = true → bitAt (s.rdN SPL_HOLD) 0 = false → s.spl.resumeOwed = false → s.pwrState ≤ 1 →
      answers (.holdExit) s (s.leaveHold))
  ∧ (∀ (s : State) (g : Nat), s.coreOn = true → s.get CAL_RUN_STATUS_STATE = 2 → s.nextGroup = some g → s.windowOpen g = true → s.frameOn = false → (s.group g).adapting = false → s.now + 50000 ≤ s.earliest →
      answers (.groupAdaptStart g) s (s.setGroup g (fun k => { k with adapting := true })))
  ∧ (∀ (s : State) (g : Nat) (r : StageInfo) (s1 s2 : State), s.coreOn = true → g < 6 → (s.group g).adapting = true → s1 = s.setGroup g (fun k => { k with adapting := false }) → s2 = { s1 with cal := { s1.cal with runStep := g + 1 } } → r.eye < byteAt s.panelSec 0x4B ∨ r.eye + 16 < s.pcie.prevEyes.getD g 0 →
      answers (.groupAdaptDone g r) s (((State.put { s2 with cal := { s2.cal with rejected := true } } CAL_RUN_STATUS_LAST_REJECT 1).count CAL_REJECT_CNT).raiseOnce 873 0))
  ∧ (∀ (s : State) (g : Nat) (r : StageInfo) (s1 s2 : State), s.coreOn = true → g < 6 → (s.group g).adapting = true → s1 = s.setGroup g (fun k => { k with adapting := false }) → s2 = { s1 with cal := { s1.cal with runStep := g + 1 } } → byteAt s.panelSec 0x4B ≤ r.eye → s.pcie.prevEyes.getD g 0 ≤ r.eye + 16 →
      answers (.groupAdaptDone g r) s ((State.setGroup { s2 with pcie := { s2.pcie with prevEyes := s2.pcie.prevEyes.set g (r.eye % 256) } } g (fun k => { k with offered := some (r.presets, r.eye) })).takeEye g r))

/-- Enabling the link shows EN 1 and starts the bring-up of every disabled group that is enabled and has no loopback; other groups keep their state. A group in DETECT takes the lanes found and goes to TRAIN when all 18 are there. A group in TRAIN takes for each data lane the preset whose eye is best at its worst tile, unless it retrains fast and keeps what it has, and goes to LOCK, or in far-end test begins the test. LOCK goes to CAPS. A group in CAPS comes up when its chain is complete, and waits otherwise. A stage that has outrun its limit fails with the stage as cause; a fast retrain that has outrun 120 microseconds fails and brings the group up anew. A FAILED group is brought up again after 10 ms. The bring-up command brings an enabled group up with cause 9; the disable command stops the group with cause 9. The retrain command puts an ACTIVE group into TRAIN with FAST and cause 9, untrained, and leaves a group in another state alone. The end of a fast retrain brings a group with a complete chain up, leaves one without as it is, and fails one that it could not train. A loopback mode is written to a DISABLED group only, and mode 3 brings it up. Errors in a loopback mode count in SPL_G_PRBS_ERR and raise source 331; none, or a group in no such mode, changes nothing (R233, R239, R240, R242, R250). -/
def Obligations.GroupTraining : Prop :=
  (∀ (s : State), s.reaches SPL_CTRL →
      ∃ t, exec (.splEnable) s = .next t ∧ t.on SPL_CTRL_EN = true
        ∧ (∀ g < 6, s.gState g = gDisabled → s.groupEnabled g = true → s.bits (SPL_G_LPBK g) 1 0 = 0 → t.gState g = gDetect)
        ∧ (∀ g < 6, s.gState g ≠ gDisabled → t.gState g = s.gState g))
  ∧ (∀ (s : State) (g : Nat) (r : StageInfo), s.coreOn = true → g < 6 → s.gState g = gDetect →
      answers (.groupStageDone g r) s (if r.lanes % 2 ^ 18 = 2 ^ 18 - 1 then (s.wrN (SPL_G_LANES g) (r.lanes % 2 ^ 18)).setG g gTrain else s.wrN (SPL_G_LANES g) (r.lanes % 2 ^ 18)))
  ∧ (∀ (s : State) (g : Nat) (r : StageInfo) (u : State), s.coreOn = true → g < 6 → s.gState g = gTrain → (s.group g).prbs = [] → u = (if s.on (SPL_G_STATE_FAST g) then s else s.takePresets g r) →
      answers (.groupStageDone g r) s (if s.bits (SPL_G_LPBK g) 1 0 = 3 then u.startPrbs g else u.setG g gLock))
  ∧ (∀ (s : State) (g : Nat) (r : StageInfo), g < s.spl.groups.length → ((s.takePresets g r).group g).presets = (List.range 16).map (bestPreset r (s.groupTiles g).length))
  ∧ (∀ (s : State) (g : Nat) (r : StageInfo), s.coreOn = true → g < 6 → s.gState g = gLock →
      answers (.groupStageDone g r) s (s.setG g gCaps))
  ∧ (∀ (s : State) (g : Nat) (r : StageInfo), s.coreOn = true → g < 6 → s.gState g = gCaps →
      answers (.groupStageDone g r) s (if s.capsComplete g then s.groupUp g else s))
  ∧ (∀ (s : State) (g : Nat), s.coreOn = true → g < 6 → gDetect ≤ s.gState g → s.gState g ≤ gCaps → (s.group g).prbs = [] → s.on (SPL_G_STATE_FAST g) = false → (s.group g).since + stageLimit (s.gState g) < s.now + s.tickHalfNs →
      answers (.groupStageTimeout g) s (s.trainFail g (s.gState g)))
  ∧ (∀ (s : State) (g : Nat), s.coreOn = true → g < 6 → gDetect ≤ s.gState g → s.gState g ≤ gCaps → (s.group g).prbs = [] → s.on (SPL_G_STATE_FAST g) = true → (s.group g).fastAt + 240000 < s.now + s.tickHalfNs →
      answers (.groupStageTimeout g) s (((s.trainFail g (s.gState g)).bringUp g).tryResume))
  ∧ (∀ (s : State) (g : Nat), s.coreOn = true → g < 6 → s.gState g = gFailed → (s.group g).since + 20000000 < s.now + s.tickHalfNs →
      answers (.groupFailedRetry g) s (((s.setG g gDetect).put (SPL_G_STATE_FAST g) 0).untrain g))
  ∧ (∀ (s : State) (g : Nat), s.reaches (SPL_G_CMD g) → g < 6 → s.groupEnabled g = true →
      answers (.splGBringup g) s ((((s.setG g gDetect).put (SPL_G_STATE_FAST g) 0).untrain g).put (SPL_G_STATE_CAUSE g) 9))
  ∧ (∀ (s : State) (g : Nat), s.reaches (SPL_G_CMD g) → g < 6 →
      answers (.splGDisable g) s (((((s.setG g gDisabled).put (SPL_G_STATE_CAUSE g) 9).put (SPL_G_STATE_FAST g) 0).untrain g).tryResume))
  ∧ (∀ (s : State) (g : Nat), s.reaches (SPL_G_CMD g) → g < 6 →
      answers (.splGRetrain g) s (if s.gState g = gActive then ((((s.setG g gTrain).setGroup g (fun k => { k with fastAt := s.now })).put (SPL_G_STATE_FAST g) 1).put (SPL_G_STATE_CAUSE g) 9).untrain g else s))
  ∧ (∀ (s : State) (g cause : Nat), s.coreOn = true → g < 6 → s.on (SPL_G_STATE_FAST g) = true → gTrain ≤ s.gState g → s.gState g ≤ gCaps →
      answers (.fastRetrainDone g true cause) s (if s.capsComplete g then s.groupUp g else s))
  ∧ (∀ (s : State) (g cause : Nat), s.coreOn = true → g < 6 → s.on (SPL_G_STATE_FAST g) = true → gTrain ≤ s.gState g → s.gState g ≤ gCaps →
      answers (.fastRetrainDone g false cause) s (((s.trainFail g cause).bringUp g).tryResume))
  ∧ (∀ (s : State) (g mode : Nat), s.reaches (SPL_G_LPBK g) → g < 6 →
      answers (.splLoopbackSelect g mode) s (if s.gState g ≠ gDisabled then s else if mode % 4 = 3 then (s.wrN (SPL_G_LPBK g) 3).bringUp g else s.wrN (SPL_G_LPBK g) (mode % 4)))
  ∧ (∀ (s : State) (g n : Nat), s.coreOn = true → g < 6 →
      answers (.loopbackError g n) s (if s.bits (SPL_G_LPBK g) 1 0 = 0 ∨ n = 0 then s else (s.countN (SPL_G_PRBS_ERR g) n).raiseMask 331 (2 ^ g)))

/-- AUX_TRAIN starts training and clears TRAINED and SCANNING. Training ends, with the sink there, at the first rate, from the highest down, that trains with 4 lanes, else with 2, else with 1, and shows TRAINED with it; with none, or the sink gone, it raises source 385; with no training under way nothing changes. A rise of hot-plug detect shows it and raises source 384; a fall does so too and ends training and scanning; no change, nothing. A sideband command is taken with its code and length when none is BUSY, and ignored otherwise. Its answer puts its data in place, at most four words, shows 2 or 3 with the reply and raises source 387. A frame start with the output enabled, connected and trained shows the newest completed copy where it is newer than the one scanned, else the one scanned before, clears what was blanked, shows SCANNING and the frame number, and sends the InfoFrame where it is enabled; otherwise nothing changes. An underrun while scanning blanks its place, counts and raises source 386, and otherwise changes nothing. The end of a copy that works brings over the hogels it lacks and marks it complete (R243, R245, R246, R247, R251). -/
def Obligations.AuxiliaryOutput : Prop :=
  (∀ (s : State), s.reaches AUX_CMD →
      answers (.auxTrain) s (State.put (State.put { s with aux := { s.aux with training := true } } auxTrained 0) auxScanning 0))
  ∧ (∀ (s : State) (four two one : List Bool) (r l : Nat) (rest : List (Nat × Nat)), s.coreOn = true → s.aux.training = true → s.on auxHpd = true → trainSteps 4 four ++ trainSteps 2 two ++ trainSteps 1 one = (r, l) :: rest →
      answers (.auxTrainDone four two one) s (((State.put { s with aux := { s.aux with training := false } } auxTrained 1).put ⟨AUX_STATUS, 3, 2⟩ r).put ⟨AUX_STATUS, 6, 4⟩ l))
  ∧ (∀ (s : State) (four two one : List Bool), s.coreOn = true → s.aux.training = true → s.on auxHpd = false ∨ trainSteps 4 four ++ trainSteps 2 two ++ trainSteps 1 one = [] →
      answers (.auxTrainDone four two one) s (State.raise { s with aux := { s.aux with training := false } } 385 0))
  ∧ (∀ (s : State) (four two one : List Bool), s.coreOn = true → s.aux.training = false →
      answers (.auxTrainDone four two one) s (s))
  ∧ (∀ (l : Nat) (a b c d : Bool), trainSteps l [a, b, c, d] = (if a then [(3, l)] else []) ++ (if b then [(2, l)] else []) ++ (if c then [(1, l)] else []) ++ (if d then [(0, l)] else []))
  ∧ (∀ (s : State), s.coreOn = true → s.on auxHpd = false →
      answers (.dpHpd true) s ((s.put auxHpd 1).raise 384 0))
  ∧ (∀ (s : State) (s1 : State), s.coreOn = true → s.on auxHpd = true → s1 = (s.put auxHpd 0).raise 384 0 →
      answers (.dpHpd false) s (State.put (State.put { s1 with aux := { s1.aux with training := false } } auxTrained 0) auxScanning 0))
  ∧ (∀ (s : State) (level : Bool), s.coreOn = true → s.on auxHpd = level →
      answers (.dpHpd level) s (s))
  ∧ (∀ (s : State) (val : Word), s.reaches AUX_CH_CMD → s.aux.chBusy = none →
      answers (.auxChTransaction val) s (State.put { s with aux := { s.aux with chBusy := some (val.toNat % 16, bitsOf val.toNat 7 4 + 1) } } ⟨AUX_CH_STATUS, 1, 0⟩ 1))
  ∧ (∀ (s : State) (val : Word) (c : Nat × Nat), s.reaches AUX_CH_CMD → s.aux.chBusy = some c →
      answers (.auxChTransaction val) s (s))
  ∧ (∀ (s : State) (ok : Bool) (reply : Word) (data : List Word) (c : Nat × Nat) (s1 s2 : State), s.coreOn = true → s.aux.chBusy = some c → s1 = (List.range (min 4 data.length)).foldl (fun st i => st.wr (AUX_CH_DATA i) (data.getD i 0)) s → s2 = (s1.put ⟨AUX_CH_STATUS, 1, 0⟩ (if ok then 2 else 3)).put ⟨AUX_CH_STATUS, 7, 4⟩ (reply.toNat % 16) →
      answers (.dpChDone ok reply data) s (State.raise { s2 with aux := { s2.aux with chBusy := none } } 387 0))
  ∧ (∀ (s : State) (v : CloneView) (l : Nat) (u : State), s.coreOn = true → s.on ⟨AUX_CFG, 0, 0⟩ = true → s.on auxHpd = true → s.on auxTrained = true → s.on ⟨AUX_CFG, 1, 1⟩ = false → s.aux.views.head? = some v → v.find roleLatest = some l → v.find roleScan = none → 0 < (v.copies.getD l Copy.blank).key → u = { s with aux := { s.aux with views := s.aux.views.set 0 (v.setRole l roleScan) } } →
      answers (.dpFrameStart) s ((State.put { u with aux := { u.aux with blank := [] } } auxScanning 1).wrN AUX_FRAME (match u.scanCopy with | some c => c.frame.getD 0 | none => 0)))
  ∧ (∀ (s : State) (v : CloneView) (l c : Nat) (u : State), s.coreOn = true → s.on ⟨AUX_CFG, 0, 0⟩ = true → s.on auxHpd = true → s.on auxTrained = true → s.on ⟨AUX_CFG, 1, 1⟩ = false → s.aux.views.head? = some v → v.find roleLatest = some l → v.find roleScan = some c → (v.copies.getD c Copy.blank).key < (v.copies.getD l Copy.blank).key → u = { s with aux := { s.aux with views := s.aux.views.set 0 ((v.setRole c roleFree).setRole l roleScan) } } →
      answers (.dpFrameStart) s ((State.put { u with aux := { u.aux with blank := [] } } auxScanning 1).wrN AUX_FRAME (match u.scanCopy with | some c => c.frame.getD 0 | none => 0)))
  ∧ (∀ (s : State) (n t : Nat) (v : CloneView) (u : State), s.coreOn = true → s.on ⟨AUX_CFG, 0, 0⟩ = true → s.on auxHpd = true → s.on auxTrained = true → s.aux.views.head? = some v → v.find roleLatest = none → n = (match s.scanCopy with | some c => c.frame.getD 0 | none => 0) → t = (match s.scanCopy with | some c => c.time | none => 0) → u = (State.put { s with aux := { s.aux with blank := [] } } auxScanning 1).wrN AUX_FRAME n →
      answers (.dpFrameStart) s (if s.on ⟨AUX_CFG, 1, 1⟩ then { u with aux := { u.aux with infoFrame := infoFrame (s.bits AUX_SDP_OUI 23 0) n (t % 10 ^ 9) (t / 10 ^ 9) s.auxView } } else u))
  ∧ (∀ (s : State), s.coreOn = true → s.on ⟨AUX_CFG, 0, 0⟩ = false ∨ s.on auxHpd = false ∨ s.on auxTrained = false →
      answers (.dpFrameStart) s (s))
  ∧ (∀ (s : State) (y x : Nat), s.coreOn = true → s.on auxScanning = true →
      answers (.dpUnderrun y x) s ((State.count { s with aux := { s.aux with blank := (y, x) :: s.aux.blank } } AUX_UNDERRUN_CNT).raise 386 0))
  ∧ (∀ (s : State) (y x : Nat), s.coreOn = true → s.on auxScanning = false →
      answers (.dpUnderrun y x) s (s))
  ∧ (∀ (s : State) (v j n : Nat) (cv : CloneView) (s1 : State), s.coreOn = true → s.aux.views[v]? = some cv → cv.find roleWork = some j → (cv.copies.getD j Copy.blank).done = false → cv.newest = some n → s1 = (s.lacking (cv.copies.getD j Copy.blank) (cv.copies.getD n Copy.blank)).foldl (fun (st : State) (q : Nat × Nat) => st.copyHogel v n j q.1 q.2) s →
      answers (.cloneCopyDone v) s ({ s1 with aux := { s1.aux with views := s1.aux.views.modify v (fun u => { u with copies := u.copies.modify j (fun c => { c with done := true }) }) } }))

/-- Where a whole second begins, once in its tick, a pass of that second begins when none runs and it is allowed; a running one makes the next due; with neither, or in a tick that has had its second or has none, nothing begins. The pass visits what is left of its granules but the deferred ones, which stay left; with none left it has ended: it is counted with its second and its time, source 865 is raised, and a pass that is due and allowed begins with source 866. The end of the apply lets the groups queue their correction packets. FREEZE is set at once; FROZEN is shown when no pass, no apply and no sent correction packet is left, and not before; the end of the freeze clears FREEZE, OPEN and FROZEN. OPEN is taken while FROZEN and otherwise ignored. Restored maps are VALID, not OPEN, with full damage, nothing pending and no queued correction packet; fresh maps are VALID, with source 874. A primary passes each of these five writes on (R261, R262, R266, R269, R270). -/
def Obligations.MapAndCorrectionPasses : Prop :=
  (∀ (s : State) (n : Nat) (s1 : State), s.coreOn = true → s.secondBegins = some n → s.cal.secTick ≠ some s.evc.tick → s.cal.pass = none → s.passAllowed = true → s1 = { s with cal := { s.cal with secTick := some s.evc.tick, due := false } } →
      answers (.passStart) s (s1.beginPass n))
  ∧ (∀ (s : State) (n : Nat) (p : Pass), s.coreOn = true → s.secondBegins = some n → s.cal.secTick ≠ some s.evc.tick → s.cal.pass = some p →
      answers (.passStart) s ({ s with cal := { s.cal with secTick := some s.evc.tick, due := true } }))
  ∧ (∀ (s : State) (n : Nat), s.coreOn = true → s.secondBegins = some n → s.cal.secTick ≠ some s.evc.tick → s.cal.pass = none → s.passAllowed = false →
      answers (.passStart) s ({ s with cal := { s.cal with secTick := some s.evc.tick, due := false } }))
  ∧ (∀ (s : State), s.coreOn = true → s.secondBegins = none ∨ s.cal.secTick = some s.evc.tick →
      answers (.passStart) s (s))
  ∧ (∀ (s : State) (n : Nat), (s.beginPass n).cal.pass = some { second := n, weight := (match s.cal.lastSec with | none => 1 | some l => clampNat 1 (2 ^ 32 - 1) (n - l)), start := s.now, left := none }
      ∧ (s.beginPass n).cal.lastSec = some n ∧ (s.beginPass n).get CAL_MAP_STATUS_PASS_ACTIVE = 1 ∧ (s.beginPass n).mem = s.mem)
  ∧ (∀ (s : State) (p : Pass) (l : List Nat) (s1 s2 : State), s.coreOn = true → s.cal.pass = some p → l = p.left.getD (List.range (s.geomW / 16 * s.geomH)) → s1 = (l.filter (fun gr => !s.deferred gr)).foldl (State.visitGranule p) s → s2 = { s1 with freeCtr := s1.freeCtr + 144 } → l.filter s.deferred = [] →
      answers (.passDone) s (s2.endPass p))
  ∧ (∀ (s : State) (p : Pass) (l : List Nat) (s1 s2 : State), s.coreOn = true → s.cal.pass = some p → l = p.left.getD (List.range (s.geomW / 16 * s.geomH)) → s1 = (l.filter (fun gr => !s.deferred gr)).foldl (State.visitGranule p) s → s2 = { s1 with freeCtr := s1.freeCtr + 144 } → l.filter s.deferred ≠ [] →
      answers (.passDone) s ({ s2 with cal := { s2.cal with pass := some { p with left := some (l.filter s.deferred) } } }))
  ∧ (∀ (s : State), s.coreOn = true → s.cal.pass = none →
      answers (.passDone) s (s))
  ∧ (∀ (s : State) (p : Pass) (s1 s2 : State), s1 = (((s.wrN CAL_PASS_CNT (s.rdN CAL_PASS_CNT + 1)).wrN CAL_PASS_SEC (p.second % 2 ^ 32)).wrN CAL_PASS_TIME (s.usSince p.start % 2 ^ 24)).raise 865 0 →
      s2 = State.put { s1 with cal := { s1.cal with pass := none, heldLevel := none, due := false } } CAL_MAP_STATUS_PASS_ACTIVE 0 →
      (s.cal.due = true → s2.passAllowed = true → s.endPass p = ((s2.beginPass s2.ptpSec).count CAL_PASS_OVERRUN_CNT).raise 866 0)
      ∧ (s.cal.due = false ∨ s2.passAllowed = false → s.endPass p = s2))
  ∧ (∀ (s : State), s.coreOn = true → s.cal.applying = true →
      answers (.corrApplyDone) s (State.queueCorr { s with cal := { s.cal with applying := false } }))
  ∧ (∀ (s : State), s.coreOn = true → s.cal.applying = false →
      answers (.corrApplyDone) s (s))
  ∧ (∀ (s : State), s.reaches CAL_MAP_CTRL →
      answers (.mapFreeze) s ((s.put CAL_MAP_CTRL_FREEZE 1).passedOn CAL_MAP_CTRL (s.rd CAL_MAP_CTRL ||| 1)))
  ∧ (∀ (s : State), s.coreOn = true → s.on CAL_MAP_CTRL_FREEZE = true → s.cal.pass = none → s.cal.applying = false → s.corrSettled = true →
      answers (.mapFrozen) s (s.put CAL_MAP_STATUS_FROZEN 1))
  ∧ (∀ (s : State), s.coreOn = true → s.on CAL_MAP_CTRL_FREEZE = false ∨ s.cal.pass ≠ none ∨ s.cal.applying = true ∨ s.corrSettled = false →
      answers (.mapFrozen) s (s))
  ∧ (∀ (s : State), s.reaches CAL_MAP_CTRL →
      answers (.mapUnfreeze) s ((((s.put CAL_MAP_CTRL_FREEZE 0).put CAL_MAP_CTRL_OPEN 0).put CAL_MAP_STATUS_FROZEN 0).passedOn CAL_MAP_CTRL (s.rd CAL_MAP_CTRL &&& 0xFFFFFFFE)))
  ∧ (∀ (s : State), s.reaches CAL_MAP_CTRL → s.on CAL_MAP_STATUS_FROZEN = true →
      answers (.mapOpen) s ((s.put CAL_MAP_CTRL_OPEN 1).passedOn CAL_MAP_CTRL (s.rd CAL_MAP_CTRL ||| 2)))
  ∧ (∀ (s : State), s.reaches CAL_MAP_CTRL → s.on CAL_MAP_STATUS_FROZEN = false →
      answers (.mapOpen) s (s.passedOn CAL_MAP_CTRL (s.rd CAL_MAP_CTRL ||| 2)))
  ∧ (∀ (s : State), s.reaches CAL_MAP_CMD →
      answers (.mapRestored) s ((((((s.put CAL_MAP_CTRL_OPEN 0).put CAL_MAP_STATUS_VALID 1).put CAL_MAP_STATUS_FULL_DAMAGE 1).clearCorr).setPending []).passedOn CAL_MAP_CMD 1))
  ∧ (∀ (s : State), s.reaches CAL_MAP_CMD →
      answers (.mapFresh) s (((s.put CAL_MAP_STATUS_VALID 1).raise 874 0).passedOn CAL_MAP_CMD 2))

/-- A write of a tile temperature keeps the low byte, and from the end of the tick on the reading has that time. A reading older than the limit at the end of the tick makes the tile STALE, unless one came in the tick. Every 100 ms from the image on, and not between, the brightness takes one step; with a sensor its two bytes are read over the port, the high one first, and become the reading; no acknowledge raises source 871 and keeps the reading; without a sensor the reading is kept. RUN_ALL starts a run of calibration, where none runs and the power state is BOOT or ACTIVE, and otherwise has one follow. The run takes its pseudo-channels in turn, 100 microseconds apart, and each once; a result that moves no delay too far is offered, and one that moves some delay too far is rejected with source 873. After the last group the run ends: what it has accepted waits for the next completion, the run shows its temperature and whether it rejected something, source 872 is raised, and a run that was to follow starts; while it is not at the groups, has one left or adapts one, nothing ends (R256, R257, R273, R357). -/
def Obligations.DriveAndCalibrationRuns : Prop :=
  (∀ (s : State) (t : Nat) (val : Word) (s1 : State), s.reaches (CAL_TILE_TEMP t) → t < 48 → s1 = s.wrN (CAL_TILE_TEMP t) (val.toNat % 256) →
      answers (.tileTempWrite t val) s (State.passedOn { s1 with cal := { s1.cal with stampsIn := setInsert t s1.cal.stampsIn } } (CAL_TILE_TEMP t) val))
  ∧ (∀ (s : State) (t : Nat), t ∈ s.cal.stampsIn → t < s.cal.stamps.length → s.settleTemps.cal.stamps.getD t none = some s.now ∧ s.settleTemps.cal.stampsIn = [])
  ∧ (∀ (s : State) (t : Nat), s.coreOn = true → t < s.tiles.length → s.tempStale t (s.now + s.tickHalfNs) = true → t ∉ s.cal.stampsIn →
      answers (.tileTempStale t) s (s.goStale t))
  ∧ (∀ (s : State) (t : Nat), s.coreOn = true → s.tiles.length ≤ t ∨ s.tempStale t (s.now + s.tickHalfNs) = false ∨ t ∈ s.cal.stampsIn →
      answers (.tileTempStale t) s (s))
  ∧ (∀ (s : State) (reading : Option (Byte × Byte)), s.coreOn = true → s.csu.image = none ∨ s.now + s.tickHalfNs ≤ s.cal.alsAt + 200000000 →
      answers (.alsReading reading) s (s))
  ∧ (∀ (s : State) (hi lo : Byte) (s1 : State), s.coreOn = true → s.csu.image ≠ none → s.cal.alsAt + 200000000 < s.now + s.tickHalfNs → s.on CAL_BRIGHT_CFG_ALS_SRC = true → s1 = State.wrN { s with cal := { s.cal with i2c := some (s.bits CAL_ALS_I2C 6 0, s.bits CAL_ALS_I2C 15 8) } } CAL_ALS_VALUE (256 * hi.toNat + lo.toNat) →
      answers (.alsReading (some (hi, lo))) s (State.put { s1 with cal := { s1.cal with alsAt := s.cal.alsAt + 200000000 } } ⟨CAL_BRIGHT_STATUS, 15, 0⟩
        (unsignedOf 16 (brightStep s.panelSec (s.bits CAL_BRIGHT_STATUS 15 0) (brightTarget s.panelSec (s1.bits CAL_ALS_VALUE 15 0))))))
  ∧ (∀ (s : State) (s1 : State), s.coreOn = true → s.csu.image ≠ none → s.cal.alsAt + 200000000 < s.now + s.tickHalfNs → s.on CAL_BRIGHT_CFG_ALS_SRC = true → s1 = State.raise { s with cal := { s.cal with i2c := some (s.bits CAL_ALS_I2C 6 0, s.bits CAL_ALS_I2C 15 8) } } 871 0 →
      answers (.alsReading none) s (State.put { s1 with cal := { s1.cal with alsAt := s.cal.alsAt + 200000000 } } ⟨CAL_BRIGHT_STATUS, 15, 0⟩
        (unsignedOf 16 (brightStep s.panelSec (s.bits CAL_BRIGHT_STATUS 15 0) (brightTarget s.panelSec (s1.bits CAL_ALS_VALUE 15 0))))))
  ∧ (∀ (s : State) (reading : Option (Byte × Byte)) (s1 : State), s.coreOn = true → s.csu.image ≠ none → s.cal.alsAt + 200000000 < s.now + s.tickHalfNs → s.on CAL_BRIGHT_CFG_ALS_SRC = false → s1 = s →
      answers (.alsReading reading) s (State.put { s1 with cal := { s1.cal with alsAt := s.cal.alsAt + 200000000 } } ⟨CAL_BRIGHT_STATUS, 15, 0⟩
        (unsignedOf 16 (brightStep s.panelSec (s.bits CAL_BRIGHT_STATUS 15 0) (brightTarget s.panelSec (s1.bits CAL_ALS_VALUE 15 0))))))
  ∧ (∀ (s : State) (s1 : State), s.reaches CAL_CMD → s.get CAL_RUN_STATUS_STATE = 0 → s.pwrState ≤ 1 → s1 = { s with cal := { s.cal with runStep := 0, rejected := false, retraining := none, runAgain := false } } →
      answers (.calRunAll) s ((s1.put CAL_RUN_STATUS_STATE 1).passedOn CAL_CMD 1))
  ∧ (∀ (s : State), s.reaches CAL_CMD → s.get CAL_RUN_STATUS_STATE ≠ 0 ∨ 1 < s.pwrState →
      answers (.calRunAll) s (State.passedOn { s with cal := { s.cal with runAgain := true } } CAL_CMD 1))
  ∧ (∀ (s : State) (p : Nat), s.coreOn = true → s.get CAL_RUN_STATUS_STATE = 1 → s.cal.retraining = none → s.nextPc = some p → s.cal.runStep = 0 ∨ s.cal.retrainAt + 200000 < s.now + s.tickHalfNs →
      answers (.pcRetrain p) s ({ s with cal := { s.cal with retraining := some p, retrainAt := s.now } }))
  ∧ (∀ (s : State) (p : Nat) (ws : List Window) (old new : List Nat), s.coreOn = true → s.cal.retraining = some p → old = s.hbm.delays.getD p [] → new = (List.range 8).map (fun i => match ws.getD i none with | some w => windowCentre (some w) | none => old.getD i 0) → (∀ i < 8, ((new.getD i 0 : Int) - (old.getD i 0 : Int)).natAbs ≤ byteAt s.panelSec 0x4A) →
      answers (.pcRetrainDone p ws) s (State.pcNext { s with cal := { s.cal with newDelays := s.cal.newDelays.filter (fun e => e.1 != p) ++ [(p, new)] } } p))
  ∧ (∀ (s : State) (p i : Nat) (ws : List Window) (old new : List Nat) (s1 : State), s.coreOn = true → s.cal.retraining = some p → old = s.hbm.delays.getD p [] → new = (List.range 8).map (fun i => match ws.getD i none with | some w => windowCentre (some w) | none => old.getD i 0) → i < 8 → byteAt s.panelSec 0x4A < ((new.getD i 0 : Int) - (old.getD i 0 : Int)).natAbs → s1 = { s with cal := { s.cal with rejected := true } } →
      answers (.pcRetrainDone p ws) s ((State.raiseOnce ((s1.put CAL_RUN_STATUS_LAST_REJECT 1).count CAL_REJECT_CNT) 873 0).pcNext p))
  ∧ (∀ (s : State) (p : Nat), (s.pcNext p).cal.retraining = none ∧ ((s.pcNext p).cal.runStep = p + 1 ∨ ((s.pcNext p).cal.runStep = 0 ∧ (s.pcNext p).get CAL_RUN_STATUS_STATE = 2)))
  ∧ (∀ (s : State) (s1 : State), s.coreOn = true → s.get CAL_RUN_STATUS_STATE = 2 → s.nextGroup = none → (∀ g < 6, (s.group g).adapting = false) → s1 = ((((s.acceptRun).put CAL_RUN_STATUS_STATE 0).put CAL_RUN_STATUS_TEMP (s.get PWR_KETTLE_STATUS_TMAX)).putB CAL_RUN_STATUS_LAST_REJECT s.cal.rejected).raise 872 0 →
      answers (.calRunDone) s (if s.cal.runAgain then s1.beginRun else s1))
  ∧ (∀ (s : State), s.coreOn = true → s.get CAL_RUN_STATUS_STATE ≠ 2 ∨ s.nextGroup ≠ none ∨ (∃ g < 6, (s.group g).adapting = true) →
      answers (.calRunDone) s (s))

/-- VDEC_PUT sets the low 12 bits of PUT of a context whose producer is the host, and nothing of another. Enabling a context writes its other fields; where the fields do not refuse it, EN is set, ERR is cleared and the context waits for a key picture, at once where no core holds a picture of it and else at that picture's end; where they do, ERR is RING and source 424 is raised; a context that was enabled stays as it was. Disabling an enabled one clears EN, and it is off at once or at the end of the picture in progress. Flush and reset of a context that is not OFF likewise take effect at once or at that end, and do nothing to one that is OFF. What waits for that end is done as asked: flush outputs the waiting pictures, reset discards them and waits for a key picture, a disable discards them and shows OFF. An idle core, with the decoder enabled in ACTIVE, takes the next access unit of the context that precedes, or none where none is ready; a busy core, or a decoder that may not start, does nothing. At a picture's end the core is free and its access unit passed: it is refused by what the stream asks for, discarded in a context that waits for a key picture, or decoded with its context in DECODING; then what waited takes effect. A core without a picture does nothing (R281, R282, R283, R286, R287, R289, R291, R304). -/
def Obligations.DecoderCommands : Prop :=
  (∀ (s : State) (x : Nat) (val : Word), s.reaches (VDEC_CTX_PUT x) → x < 64 → s.on (VDEC_CTX_CFG_SRC x) = false →
      answers (.vdecPut x val) s (s.wrN (VDEC_CTX_PUT x) (val.toNat % 4096)))
  ∧ (∀ (s : State) (x : Nat) (val : Word), s.reaches (VDEC_CTX_PUT x) → x < 64 → s.on (VDEC_CTX_CFG_SRC x) = true →
      answers (.vdecPut x val) s (s))
  ∧ (∀ (s : State) (x : Nat) (val : Word) (s1 : State), s.reaches (VDEC_CTX_CFG x) → x < 64 → s1 = s.decCfgFields x val → s.on (VDEC_CTX_CFG_EN x) = false → s1.decEnableOk x = true → s.decCore x = none →
      answers (.vdecCtxEnable x val) s (((s1.put (VDEC_CTX_CFG_EN x) 1).decErr x 0).enterWait x 0))
  ∧ (∀ (s : State) (x c : Nat) (val : Word) (s1 : State), s.reaches (VDEC_CTX_CFG x) → x < 64 → s1 = s.decCfgFields x val → s.on (VDEC_CTX_CFG_EN x) = false → s1.decEnableOk x = true → s.decCore x = some c →
      answers (.vdecCtxEnable x val) s (((s1.put (VDEC_CTX_CFG_EN x) 1).decErr x 0).setDec x (fun d => { d with offAsked := false, resetAsked := true })))
  ∧ (∀ (s : State) (x : Nat) (val : Word) (s1 : State), s.reaches (VDEC_CTX_CFG x) → x < 64 → s1 = s.decCfgFields x val → s.on (VDEC_CTX_CFG_EN x) = false → s1.decEnableOk x = false →
      answers (.vdecCtxEnable x val) s ((s1.decErr x deRing).raiseMask 424 (2 ^ x)))
  ∧ (∀ (s : State) (x : Nat) (val : Word), s.reaches (VDEC_CTX_CFG x) → x < 64 → s.on (VDEC_CTX_CFG_EN x) = true →
      answers (.vdecCtxEnable x val) s (s.decCfgFields x val))
  ∧ (∀ (s : State) (x : Nat) (val : Word) (s1 : State), s.reaches (VDEC_CTX_CFG x) → x < 64 → s1 = s.decCfgFields x val → s.on (VDEC_CTX_CFG_EN x) = true → s.decCore x = none →
      answers (.vdecCtxDisable x val) s ((((s1.put (VDEC_CTX_CFG_EN x) 0).setDec x (fun d => { d with offAsked := true })).settleCtx x).trimPool))
  ∧ (∀ (s : State) (x c : Nat) (val : Word) (s1 : State), s.reaches (VDEC_CTX_CFG x) → x < 64 → s1 = s.decCfgFields x val → s.on (VDEC_CTX_CFG_EN x) = true → s.decCore x = some c →
      answers (.vdecCtxDisable x val) s ((s1.put (VDEC_CTX_CFG_EN x) 0).setDec x (fun d => { d with offAsked := true })))
  ∧ (∀ (s : State) (x : Nat) (val : Word), s.reaches (VDEC_CTX_CFG x) → x < 64 → s.on (VDEC_CTX_CFG_EN x) = false →
      answers (.vdecCtxDisable x val) s (s.decCfgFields x val))
  ∧ (∀ (s : State) (x : Nat), s.reaches (VDEC_CTX_CMD x) → x < 64 → s.decState x ≠ decOff → s.decCore x = none →
      answers (.vdecFlush x) s (((s.setDec x (fun d => { d with flushAsked := true })).settleCtx x).trimPool))
  ∧ (∀ (s : State) (x c : Nat), s.reaches (VDEC_CTX_CMD x) → x < 64 → s.decState x ≠ decOff → s.decCore x = some c →
      answers (.vdecFlush x) s (s.setDec x (fun d => { d with flushAsked := true })))
  ∧ (∀ (s : State) (x : Nat), s.reaches (VDEC_CTX_CMD x) → x < 64 → s.decState x ≠ decOff → s.decCore x = none →
      answers (.vdecReset x) s (((s.setDec x (fun d => { d with resetAsked := true })).settleCtx x).trimPool))
  ∧ (∀ (s : State) (x c : Nat), s.reaches (VDEC_CTX_CMD x) → x < 64 → s.decState x ≠ decOff → s.decCore x = some c →
      answers (.vdecReset x) s (s.setDec x (fun d => { d with resetAsked := true })))
  ∧ (∀ (s : State) (x : Nat), s.reaches (VDEC_CTX_CMD x) → x < 64 → s.decState x = decOff → answers (.vdecFlush x) s s ∧ answers (.vdecReset x) s s)
  ∧ (∀ (s : State) (x : Nat) (d : DecCtx) (s1 : State), d = s.dec x → s1 = s.setDec x (fun e => { e with flushAsked := false, resetAsked := false, offAsked := false }) →
      (d.flushAsked = true → d.resetAsked = false → d.offAsked = false → s.settleCtx x = s1.flushCtx x)
      ∧ (d.flushAsked = false → d.resetAsked = true → d.offAsked = false → s.settleCtx x = (s1.discardWaiting x).enterWait x 0)
      ∧ (d.flushAsked = false → d.resetAsked = false → d.offAsked = true → s.settleCtx x = (s1.discardWaiting x).put (VDEC_CTX_STATUS_STATE x) decOff)
      ∧ (d.flushAsked = false → d.resetAsked = false → d.offAsked = false → s.settleCtx x = s1))
  ∧ (∀ (s : State) (core x : Nat) (info : List PicInfo), s.coreOn = true → core < 4 → s.bits VDEC_CTRL 0 0 = 1 → s.pwrState = 1 → s.codec.cores.getD core none = none → (s.decReady info).decPick info core = some x →
      answers (.decodeStart core info) s ((s.decReady info).startDecode core (infoOf info x) x))
  ∧ (∀ (s : State) (core : Nat) (info : List PicInfo), s.coreOn = true → core < 4 → s.bits VDEC_CTRL 0 0 = 1 → s.pwrState = 1 → s.codec.cores.getD core none = none → (s.decReady info).decPick info core = none →
      answers (.decodeStart core info) s (s.decReady info))
  ∧ (∀ (s : State) (core : Nat) (info : List PicInfo), s.coreOn = true → 4 ≤ core ∨ s.bits VDEC_CTRL 0 0 = 0 ∨ s.pwrState ≠ 1 ∨ s.codec.cores.getD core none ≠ none →
      answers (.decodeStart core info) s (s))
  ∧ (∀ (s : State) (core : Nat) (r : DecodeResult) (j : DecJob) (s1 : State), s.coreOn = true → s.codec.cores.getD core none = some j → s1 = s.freeCore core j → s1.streamRefusal j.ctx r ≠ 0 →
      answers (.decodeComplete core r) s (((s1.refuseDecode j r (s1.streamRefusal j.ctx r)).settleCtx j.ctx).trimPool))
  ∧ (∀ (s : State) (core : Nat) (r : DecodeResult) (j : DecJob) (s1 : State), s.coreOn = true → s.codec.cores.getD core none = some j → s1 = s.freeCore core j → s1.streamRefusal j.ctx r = 0 → s1.decState j.ctx = decWait → r.key = false →
      answers (.decodeComplete core r) s (((s1.waitDecode j).settleCtx j.ctx).trimPool))
  ∧ (∀ (s : State) (core : Nat) (r : DecodeResult) (j : DecJob) (s1 : State), s.coreOn = true → s.codec.cores.getD core none = some j → s1 = s.freeCore core j → s1.streamRefusal j.ctx r = 0 → s1.decState j.ctx ≠ decWait ∨ r.key = true →
      answers (.decodeComplete core r) s ((((s1.put (VDEC_CTX_STATUS_STATE j.ctx) decRun).decodeDone j r).settleCtx j.ctx).trimPool))
  ∧ (∀ (s : State) (core : Nat) (r : DecodeResult), s.coreOn = true → s.codec.cores.getD core none = none →
      answers (.decodeComplete core r) s (s))

/-- Enabling an encoder context writes its fields; where none refuses it, EN and RUNNING are set, ERR is cleared and its buffer starts half full, and otherwise ERR is the code and source 482 is raised; a context that was enabled stays enabled. VENC_IN_PUT sets the low 12 bits of IN_PUT. At an instant of a context, once in its tick: with no input before its first picture nothing more happens; without room the instant is lost; without an input the picture before is repeated; else the newest input is taken, coded where it is usable, and where it is not rejected with its code, a record and source 483, and the picture before repeated. A context that is not enabled in ACTIVE, or has had its instant or has none in the tick, does nothing. At a picture's end the core is free, the access unit with its filler is placed and finished, or without room lost, and idle cores take what waits; a core without a picture does nothing (R295, R296, R297, R299, R301, R302). -/
def Obligations.EncoderCommands : Prop :=
  (∀ (s : State) (e : Nat) (val : Word) (s1 s2 : State), s.reaches (VENC_CTX_CFG e) → e < 16 → s1 = s.encCfgFields e val → s.on (VENC_CTX_CFG_EN e) = false → s1.encEnableCode e = 0 → s2 = ((s1.put (VENC_CTX_CFG_EN e) 1).encErr e 0).put ⟨VENC_CTX_STATUS e, 0, 0⟩ 1 →
      answers (.vencCtxEnable e val) s (s2.setEnc e (fun k => { k with coded := 0, fill := s.encS e / 2, sinceIdr := 0, remake := false })))
  ∧ (∀ (s : State) (e : Nat) (val : Word) (s1 : State), s.reaches (VENC_CTX_CFG e) → e < 16 → s1 = s.encCfgFields e val → s.on (VENC_CTX_CFG_EN e) = false → s1.encEnableCode e ≠ 0 →
      answers (.vencCtxEnable e val) s ((s1.encErr e (s1.encEnableCode e)).raiseMask 482 (2 ^ e)))
  ∧ (∀ (s : State) (e : Nat) (val : Word), s.reaches (VENC_CTX_CFG e) → e < 16 → s.on (VENC_CTX_CFG_EN e) = true →
      answers (.vencCtxEnable e val) s (s.encCfgFields e val))
  ∧ (∀ (s : State) (e : Nat) (val : Word), s.reaches (VENC_CTX_IN_PUT e) → e < 16 →
      answers (.vencInPut e val) s (s.wrN (VENC_CTX_IN_PUT e) (val.toNat % 4096)))
  ∧ (∀ (s s0 : State) (e t n seen : Nat), s.coreOn = true → e < 16 → s.bits VENC_CTRL 0 0 = 1 → s.on (VENC_CTX_CFG_EN e) = true → s.pwrState = 1 → (s.enc e).lastAt ≠ some s.evc.tick →
      s.instantNow e = some t → s0 = s.setEnc e (fun x => { x with lastAt := some s.evc.tick }) → n = s0.bits (VENC_CTX_IN_CFG e) 11 0 → seen = (s0.enc e).seen →
      (n = 0 ∨ s0.bits (VENC_CTX_IN_GET e) 11 0 = seen → (s0.enc e).coded = 0 → s0.encBacklog e = 0 → answers (.encodeInstant e) s s0)
      ∧ (n = 0 ∨ s0.bits (VENC_CTX_IN_GET e) 11 0 = seen → (s0.enc e).coded ≠ 0 ∨ s0.encBacklog e ≠ 0 → s0.encNoSpace e = true → answers (.encodeInstant e) s (s0.loseEncode e))
      ∧ (n = 0 ∨ s0.bits (VENC_CTX_IN_GET e) 11 0 = seen → (s0.enc e).coded ≠ 0 ∨ s0.encBacklog e ≠ 0 → s0.encNoSpace e = false → answers (.encodeInstant e) s (s0.encRepeat e t)))
  ∧ (∀ (s s0 : State) (e t n seen : Nat) (d : EncIn), s.coreOn = true → e < 16 → s.bits VENC_CTRL 0 0 = 1 → s.on (VENC_CTX_CFG_EN e) = true → s.pwrState = 1 → (s.enc e).lastAt ≠ some s.evc.tick →
      s.instantNow e = some t → s0 = s.setEnc e (fun x => { x with lastAt := some s.evc.tick }) → n = s0.bits (VENC_CTX_IN_CFG e) 11 0 → seen = (s0.enc e).seen → d = s0.encInput e ((seen + n - 1) % n) → n ≠ 0 → s0.bits (VENC_CTX_IN_GET e) 11 0 ≠ seen →
      (s0.encNoSpace e = true → answers (.encodeInstant e) s (s0.loseEncode e))
      ∧ (s0.encNoSpace e = false → s0.encInputCode e d = 0 → answers (.encodeInstant e) s ((s0.wrN (VENC_CTX_IN_GET e) seen).encCode e t d))
      ∧ (s0.encNoSpace e = false → s0.encInputCode e d ≠ 0 → answers (.encodeInstant e) s
        (((((s0.wrN (VENC_CTX_IN_GET e) seen).encErr e (s0.encInputCode e d)).encNote e 4 (s0.encInputCode e d) d.tag (some (d.tsNs, d.tsSec))).raiseMask 483 (2 ^ e)).encRepeat e t)))
  ∧ (∀ (s : State) (e : Nat), s.coreOn = true → 16 ≤ e ∨ s.bits VENC_CTRL 0 0 = 0 ∨ s.on (VENC_CTX_CFG_EN e) = false ∨ s.pwrState ≠ 1 ∨ (s.enc e).lastAt = some s.evc.tick ∨ s.instantNow e = none →
      answers (.encodeInstant e) s (s))
  ∧ (∀ (s : State) (core off : Nat) (r : EncodeResult) (j : EncJob) (c : CodeRun) (fill au : List Byte) (s1 : State), s.coreOn = true → s.codec.coresE.getD core none = some j → c = s.encRun j r → fill = fillerNal (s.encFiller j c.bits) → au = padTo (ceilDiv c.bits 8) (r.au.take (ceilDiv c.bits 8)) ++ fill → s1 = s.freeEncCore core → s1.encPlace j.ctx au.length = some off →
      answers (.encodeComplete core r) s (((s1.finishEncode j c (s.encQp j r) fill.length au off).encAssign 0).encAssign 1))
  ∧ (∀ (s : State) (core : Nat) (r : EncodeResult) (j : EncJob) (c : CodeRun) (fill au : List Byte) (s1 : State), s.coreOn = true → s.codec.coresE.getD core none = some j → c = s.encRun j r → fill = fillerNal (s.encFiller j c.bits) → au = padTo (ceilDiv c.bits 8) (r.au.take (ceilDiv c.bits 8)) ++ fill → s1 = s.freeEncCore core → s1.encPlace j.ctx au.length = none →
      answers (.encodeComplete core r) s (((s1.loseEncode j.ctx).encAssign 0).encAssign 1))
  ∧ (∀ (s : State) (core : Nat) (r : EncodeResult), s.coreOn = true → s.codec.coresE.getD core none = none →
      answers (.encodeComplete core r) s (s))

/-- On a port that is on and awake a frame is counted and taken, where it is in order, and else counted as an error; one that arrives in sleep or during a wake can only wake, and one at any other time asleep or on a port that is off has no effect. The ingress takes the next held frame of the next port out of its buffer and delivers it; with none held nothing happens. A port with link whose boundary lies in the tick sends the front frame of the queue chosen at that boundary, or none where no queue has one; without link, or before the boundary, nothing. The front frame of a queue whose delay window has ended in the tick is dropped, counted as a loss of the port and of its context's rank, and done with; one in its window, or in a queue with no bound, stays. Once a tick every bucket of a context that is defined refills. Each supervision interval, with PRP, a supervision frame goes to both ports with the next number. A node that one LAN has not heard for three intervals, while the other has, loses that LAN, with source 516 or 548; one that was heard, or has lost it already, does not. A node not heard for its time is forgotten; one heard stays. A port that gains link shows its status and FEC in use and raises source 512 or 544; one that loses it shows 0 and raises 513 or 545; one that has what it gains or loses stays. Once a period the depth of each queue is counted in its bin, and not before (R310, R311, R315, R316, R329, R330, R332, R333, R334, R337). -/
def Obligations.FramesOnThePorts : Prop :=
  (∀ (s : State) (p capture : Nat) (bytes : List Byte), s.pwr.rails.powerGood = true → s.portOn p = true → s.asleep = false → s.frameOk bytes = true →
      answers (.rxFrame p bytes capture) s ((s.count (NET_P_RX_FRAMES p)).takeFrame p bytes capture))
  ∧ (∀ (s : State) (p capture : Nat) (bytes : List Byte), s.pwr.rails.powerGood = true → s.portOn p = true → s.asleep = false → s.frameOk bytes = false →
      answers (.rxFrame p bytes capture) s ((s.count (NET_P_RX_FRAMES p)).rxError p))
  ∧ (∀ (s : State) (p capture : Nat) (bytes : List Byte), s.pwr.rails.powerGood = true → s.portOn p = true → s.asleep = true → s.pwrState = 3 ∨ s.pwrState = 4 →
      answers (.rxFrame p bytes capture) s (s.wakeMatch p bytes))
  ∧ (∀ (s : State) (p capture : Nat) (bytes : List Byte), s.pwr.rails.powerGood = true → s.portOn p = false ∨ (s.asleep = true ∧ s.pwrState ≠ 3 ∧ s.pwrState ≠ 4) →
      answers (.rxFrame p bytes capture) s (s))
  ∧ (∀ (s : State) (p i : Nat) (f : InFrame) (s1 : State), s.coreOn = true → s.drainPort = some p → nextHeld (s.net.held.getD p []) = some i → (s.net.held.getD p [])[i]? = some f → s1 = { s with net := { s.net with held := s.net.held.modify p (fun l => l.eraseIdx i), drainTurn := 1 - p } } →
      answers (.ingressDrain) s ((s1.showBuf p).deliverFrame p f))
  ∧ (∀ (s : State), s.coreOn = true → s.drainPort = none →
      answers (.ingressDrain) s (s))
  ∧ (∀ (s : State) (p k capture : Nat) (f : OutFrame) (rest : List OutFrame) (s1 : State), s.coreOn = true → s.portOn p = true → s.bits (NET_P_STATUS p) 0 0 = 1 → s.boundary p < 100 * (s.now + s.tickHalfNs) → s1 = s.settlePort p (s.boundary p) → s1.egressPick p = some k → (s1.queue k).frames = f :: rest →
      answers (.txFrame p capture) s (s1.sendFront p k (s.boundary p) capture f rest))
  ∧ (∀ (s : State) (p capture : Nat), s.coreOn = true → s.portOn p = false ∨ s.bits (NET_P_STATUS p) 0 0 = 0 ∨ 100 * (s.now + s.tickHalfNs) ≤ s.boundary p ∨ (s.settlePort p (s.boundary p)).egressPick p = none →
      answers (.txFrame p capture) s (s))
  ∧ (∀ (s : State) (p q k e : Nat) (f : OutFrame) (rest : List OutFrame), s.coreOn = true → p < 2 → q < 64 → k = 64 * p + q → (s.queue k).frames = f :: rest → s.delayEnd k f = some e → e < s.now + s.tickHalfNs →
      answers (.egressDelayDrop p q) s (((((((s.settleQueueAt k (100 * s.now)).setQueue k (fun x => { x with frames := rest })).count (NET_P_DELAY_LOSS p)).rankedLoss f.ctx (s.queueRank k)).outDone f).pumpAll)))
  ∧ (∀ (s : State) (p q k : Nat) (f : OutFrame) (rest : List OutFrame), s.coreOn = true → p < 2 → q < 64 → k = 64 * p + q → (s.queue k).frames = f :: rest → (∀ e, s.delayEnd k f = some e → s.now + s.tickHalfNs ≤ e) →
      answers (.egressDelayDrop p q) s (s))
  ∧ (∀ (s : State), s.coreOn = true → s.net.refilled ≠ some s.evc.tick →
      answers (.sieveRefill) s ({ s with net := { s.net with refilled := some s.evc.tick, buckets := s.net.buckets.map (fun (b : Bucket) => match s.ctxIn s.net.flowsOn b.ctx with
          | some c => c.refill s.tickHalfNs b
          | none => b) } }))
  ∧ (∀ (s : State), s.coreOn = true → s.net.refilled = some s.evc.tick →
      answers (.sieveRefill) s (s))
  ∧ (∀ (s : State) (s1 : State), s.coreOn = true → s.on NET_CTRL_EN = true → s.on NET_CTRL_PRP_EN = true → s.net.supAt + s.supNs < s.now + s.tickHalfNs → s1 = { s with net := { s.net with supAt := s.now, supSeq := (s.net.supSeq + 1) % 65536 } } →
      answers (.prpSupervisionSend) s (s1.sendFrame 3 64 { ctx := 1, bytes := s.supFrame, ts := none, enq := 0, enc := none }))
  ∧ (∀ (s : State), s.coreOn = true → s.on NET_CTRL_EN = false ∨ s.on NET_CTRL_PRP_EN = false ∨ s.now + s.tickHalfNs ≤ s.net.supAt + s.supNs →
      answers (.prpSupervisionSend) s (s))
  ∧ (∀ (s : State) (node p t : Nat) (e : Node), s.coreOn = true → s.net.nodes[node]? = some e → p < 2 → e.lost.getD p false = false → e.heard p + 3 * s.supNs < s.now + s.tickHalfNs → e.lastP.getD (1 - p) none = some t → s.now ≤ t + 3 * s.supNs →
      answers (.prpLanLost node p) s (State.raiseMask { s with net := { s.net with nodes := s.net.nodes.set node { e with lost := e.lost.set p true } } } (516 + 32 * p) (2 ^ p)))
  ∧ (∀ (s : State) (node p : Nat) (e : Node), s.coreOn = true → s.net.nodes[node]? = some e → e.lost.getD p false = true ∨ s.now + s.tickHalfNs ≤ e.heard p + 3 * s.supNs →
      answers (.prpLanLost node p) s (s))
  ∧ (∀ (s : State) (node : Nat) (e : Node), s.coreOn = true → s.net.nodes[node]? = some e → e.last + s.forgetNs < s.now + s.tickHalfNs →
      answers (.prpNodeForget node) s (State.showNodes { s with net := { s.net with nodes := s.net.nodes.eraseIdx node } }))
  ∧ (∀ (s : State) (node : Nat) (e : Node), s.coreOn = true → s.net.nodes[node]? = some e → s.now + s.tickHalfNs ≤ e.last + s.forgetNs →
      answers (.prpNodeForget node) s (s))
  ∧ (∀ (s : State) (p fec : Nat), s.coreOn = true → s.portOn p = true → s.bits (NET_P_STATUS p) 0 0 ≠ 1 →
      answers (.portLinkUp p fec) s ((s.wrN (NET_P_STATUS p) (1 + 2 * bit (!([1, 2, 4].contains (s.get (NET_P_CFG_MODE p)))) + 4 * s.fecInUse p fec + 16)).raiseMask (512 + 32 * p) (2 ^ p)))
  ∧ (∀ (s : State) (p fec : Nat), s.coreOn = true → s.portOn p = false ∨ s.bits (NET_P_STATUS p) 0 0 = 1 →
      answers (.portLinkUp p fec) s (s))
  ∧ (∀ (s : State) (p : Nat), s.coreOn = true → p < 2 → s.bits (NET_P_STATUS p) 0 0 ≠ 0 →
      answers (.portLinkDown p) s ((s.wrN (NET_P_STATUS p) 0).raiseMask (513 + 32 * p) (2 ^ p)))
  ∧ (∀ (s : State) (p : Nat), s.coreOn = true → s.bits (NET_P_STATUS p) 0 0 = 0 →
      answers (.portLinkDown p) s (s))
  ∧ (∀ (s : State), s.coreOn = true → s.net.histTick + clampNat 16 65535 (s.bits NET_HIST_PERIOD 15 0) ≤ s.evc.tick →
      answers (.histSample) s ((List.range 128).foldl (fun st k => st.histAdd k 0 (histBin 64 (st.queue k).depth)) { s with net := { s.net with histTick := s.evc.tick } }))
  ∧ (∀ (s : State), s.coreOn = true → s.evc.tick < s.net.histTick + clampNat 16 65535 (s.bits NET_HIST_PERIOD 15 0) →
      answers (.histSample) s (s))

/-- FLOW_READ shows the fields and rates of the selected context, zeros where it is undefined, then its three counts; FLOW_READ_CLEAR does so and clears the counts. FLOW_WRITE of a context that the image does not define takes kind 0, or kind 1 with a ring, at rank 6 or 7, and refuses other kinds and rings as LOCKED and other ranks as RANK. One of the image other than 1 whose kind, rank, ports, target and queue are kept changes its meter and rates at rank 6 or 7 and is refused as RANK below; with one of them changed, or for context 1, it is LOCKED. EXACT_ADD: a bad key is refused as KEY, an undefined context as ABSENT, one of the image as LOCKED; the key of an entry of the host takes the new context, that of another is LOCKED, a new key is added, or refused as FULL when 16,384 stand. EXACT_DELETE removes an entry of the host, and refuses a bad key as KEY, one of the image as LOCKED and an absent one as ABSENT. HTX_PUT sets PUT and sends what the ring holds. An access unit of an encoder with a flow is cut into packets that are queued, and one that reads as poison is counted and dropped; with no flow, none waiting, or one queued whole already, nothing happens. LOSS_POP and TSQ_POP remove the oldest entry (R316, R322, R326, R327, R331). -/
def Obligations.NetworkTablesAndRings : Prop :=
  (∀ (s : State) (n : Nat) (ws : List Nat), s.reaches NET_FLOW_CMD → n = s.bits NET_FLOW_SEL 13 0 → ws = (match s.ctxIn s.net.flows n with | some c => c.data0 :: c.rates | none => [0, 0, 0, 0, 0]) →
      answers (.flowRead) s (((List.range 8).foldl (fun st i => st.wrN (NET_FLOW_DATA i) ((ws ++ [(s.flowCount n).green, (s.flowCount n).dropped, (s.flowCount n).loss]).getD i 0)) s).flowGood))
  ∧ (∀ (s : State), s.reaches NET_FLOW_CMD →
      answers (.flowReadClear) s ((Machine.flowRead s).setFlowCount ⟨s.bits NET_FLOW_SEL 13 0, 0, 0, 0⟩))
  ∧ (∀ (s : State) (d : FlowCtx), s.reaches NET_FLOW_CMD → d = s.flowData → (∀ c, s.ctxIn s.net.flows d.ctx = some c → c.image = false) → d.kind = 0 ∨ (d.kind = 1 ∧ d.target ≤ 15) → 6 ≤ d.rank →
      answers (.flowWrite) s (s.putFlow d))
  ∧ (∀ (s : State) (d : FlowCtx), s.reaches NET_FLOW_CMD → d = s.flowData → (∀ c, s.ctxIn s.net.flows d.ctx = some c → c.image = false) → 1 < d.kind ∨ (d.kind = 1 ∧ 15 < d.target) →
      answers (.flowWrite) s (s.flowRefuse flowLocked))
  ∧ (∀ (s : State) (d : FlowCtx), s.reaches NET_FLOW_CMD → d = s.flowData → (∀ c, s.ctxIn s.net.flows d.ctx = some c → c.image = false) → d.kind = 0 ∨ (d.kind = 1 ∧ d.target ≤ 15) → d.rank < 6 →
      answers (.flowWrite) s (s.flowRefuse flowRank))
  ∧ (∀ (s : State) (c d : FlowCtx), s.reaches NET_FLOW_CMD → d = s.flowData → s.ctxIn s.net.flows d.ctx = some c → c.image = true → d.ctx ≠ 1 → d.kind = c.kind ∧ d.rank = c.rank ∧ d.ports = c.ports ∧ d.target = c.target ∧ d.queue = c.queue → 6 ≤ c.rank →
      answers (.flowWrite) s (s.putFlow { c with meter := d.meter, ydrop := d.ydrop, rates := d.rates }))
  ∧ (∀ (s : State) (c d : FlowCtx), s.reaches NET_FLOW_CMD → d = s.flowData → s.ctxIn s.net.flows d.ctx = some c → c.image = true → d.ctx ≠ 1 → d.kind = c.kind ∧ d.rank = c.rank ∧ d.ports = c.ports ∧ d.target = c.target ∧ d.queue = c.queue → c.rank < 6 →
      answers (.flowWrite) s (s.flowRefuse flowRank))
  ∧ (∀ (s : State) (c d : FlowCtx), s.reaches NET_FLOW_CMD → d = s.flowData → s.ctxIn s.net.flows d.ctx = some c → c.image = true → d.ctx = 1 ∨ ¬(d.kind = c.kind ∧ d.rank = c.rank ∧ d.ports = c.ports ∧ d.target = c.target ∧ d.queue = c.queue) →
      answers (.flowWrite) s (s.flowRefuse flowLocked))
  ∧ (∀ (s : State) (ctx : Nat), s.reaches NET_EXACT_CMD → s.exactKey = none →
      answers (.exactAdd ctx) s (s.flowRefuse flowKey))
  ∧ (∀ (s : State) (ctx : Nat) (k : List Byte), s.reaches NET_EXACT_CMD → s.exactKey = some k → s.ctxIn s.net.flows ctx = none →
      answers (.exactAdd ctx) s (s.flowRefuse flowAbsent))
  ∧ (∀ (s : State) (ctx : Nat) (k : List Byte) (c : FlowCtx), s.reaches NET_EXACT_CMD → s.exactKey = some k → s.ctxIn s.net.flows ctx = some c → c.image = true →
      answers (.exactAdd ctx) s (s.flowRefuse flowLocked))
  ∧ (∀ (s : State) (ctx : Nat) (k : List Byte) (c : FlowCtx) (e : ExactEntry), s.reaches NET_EXACT_CMD → s.exactKey = some k → s.ctxIn s.net.flows ctx = some c → c.image = false → s.net.exact.find? (fun e => e.key == k) = some e → e.soft = true →
      answers (.exactAdd ctx) s (s.setExact (s.net.exact.map (fun (x : ExactEntry) => if x.key == k then { x with ctx } else x))))
  ∧ (∀ (s : State) (ctx : Nat) (k : List Byte) (c : FlowCtx) (e : ExactEntry), s.reaches NET_EXACT_CMD → s.exactKey = some k → s.ctxIn s.net.flows ctx = some c → c.image = false → s.net.exact.find? (fun e => e.key == k) = some e → e.soft = false →
      answers (.exactAdd ctx) s (s.flowRefuse flowLocked))
  ∧ (∀ (s : State) (ctx : Nat) (k : List Byte) (c : FlowCtx), s.reaches NET_EXACT_CMD → s.exactKey = some k → s.ctxIn s.net.flows ctx = some c → c.image = false → (∀ e ∈ s.net.exact, e.key ≠ k) → s.net.exact.length < 16384 →
      answers (.exactAdd ctx) s (s.setExact (s.net.exact ++ [⟨k, ctx, true⟩])))
  ∧ (∀ (s : State) (ctx : Nat) (k : List Byte) (c : FlowCtx), s.reaches NET_EXACT_CMD → s.exactKey = some k → s.ctxIn s.net.flows ctx = some c → c.image = false → (∀ e ∈ s.net.exact, e.key ≠ k) → 16384 ≤ s.net.exact.length →
      answers (.exactAdd ctx) s (s.flowRefuse flowFull))
  ∧ (∀ (s : State) (k : List Byte) (e : ExactEntry), s.reaches NET_EXACT_CMD → s.exactKey = some k → s.net.exact.find? (fun e => e.key == k) = some e → e.soft = true →
      answers (.exactDelete) s (s.setExact (s.net.exact.filter (fun x => !(x.key == k)))))
  ∧ (∀ (s : State) (k : List Byte) (e : ExactEntry), s.reaches NET_EXACT_CMD → s.exactKey = some k → s.net.exact.find? (fun e => e.key == k) = some e → e.soft = false →
      answers (.exactDelete) s (s.flowRefuse flowLocked))
  ∧ (∀ (s : State) (k : List Byte), s.reaches NET_EXACT_CMD → s.exactKey = some k → (∀ e ∈ s.net.exact, e.key ≠ k) →
      answers (.exactDelete) s (s.flowRefuse flowAbsent))
  ∧ (∀ (s : State), s.reaches NET_EXACT_CMD → s.exactKey = none →
      answers (.exactDelete) s (s.flowRefuse flowKey))
  ∧ (∀ (s : State) (r : Nat) (val : Word), s.reaches (NET_HTX_PUT r) → r < 16 →
      answers (.htxPut r val) s ((s.wrN (NET_HTX_PUT r) (val.toNat % 4096)).pumpHtx r 4096))
  ∧ (∀ (s : State) (e base d a n ts : Nat) (t : List Byte) (c : FlowCtx) (ps : List (List Byte)), s.coreOn = true → s.net.flowsOn.find? (fun c => c.kind == 5 && c.target == e) = some c → s.on NET_CTRL_EN = true → e < 16 →
      s.bits (VENC_CTX_OUT_GET e) 11 0 ≠ s.bits (VENC_CTX_OUT_PUT e) 11 0 → (s.encTx e).all = false → base = 65536 * s.bits (VENC_CTX_OUT_BASE e) 19 0 → d = base + 32 * s.bits (VENC_CTX_OUT_GET e) 11 0 →
      t = netTmpl s.netSec c.tmpl → ts = (10 ^ 9 * s.memNat (d + 12) 6 + s.memNat (d + 8) 4) * 9 / 100000 → a = base + s.memNat d 4 → n = s.memNat (d + 4) 4 →
      ps = (nalUnits (s.memRead a n)).flatMap (nalPayloads (leAt t 0x34 2)) →
      (s.poisonedIn d 32 = false → s.poisonedIn a n = false → answers (.encTxAu e) s (s.queuePackets e c t ts ps (ps.length + 1)))
      ∧ (s.poisonedIn d 32 = true ∨ s.poisonedIn a n = true → answers (.encTxAu e) s ((s.notePoisonRead 8).queuePackets e c t ts [] 1)))
  ∧ (∀ (s : State) (e : Nat), s.coreOn = true → s.net.flowsOn.find? (fun c => c.kind == 5 && c.target == e) = none ∨ s.on NET_CTRL_EN = false ∨ 16 ≤ e ∨ s.bits (VENC_CTX_OUT_GET e) 11 0 = s.bits (VENC_CTX_OUT_PUT e) 11 0 ∨ (s.encTx e).all = true →
      answers (.encTxAu e) s (s))
  ∧ (∀ (s : State), s.reaches NET_LOSS_POP →
      answers (.lossPop) s (State.showLoss { s with net := { s.net with loss := s.net.loss.drop 1 } }))
  ∧ (∀ (s : State) (p : Nat), s.reaches (NET_P_TSQ_POP p) → p < 2 →
      answers (.tsqPop p) s (State.showTsq { s with net := { s.net with tsq := s.net.tsq.modify p (fun l => l.drop 1) } } p))

/-- A write of the fraction puts an increment in range in force, and shows for one out of range the increment in force, with INCR_REFUSED and source 65. A step within TMU_STEP_LIMIT, or forced, moves the time by its size; a larger one is refused, counted, shown, with source 64. A set of fewer than 10^9 ns loads its time where time was not VALID, it is forced, or it moves time by no more than the limit; other sets are refused the same way. An accepted change wraps at 2^48 seconds, shows VALID and its size, and raises source 66. A read of the nanoseconds also latches the seconds and the fraction. Arming a trigger and writing its target keep the writable bits and judge the trigger late where its target lies behind. An armed trigger whose target lies before the end of the tick fires: ARM clears, LATE shows whether it was late, with source 69; EVENT raises source 68 and may wake, PIN raises the output for the width, SNAPSHOT takes a snapshot; otherwise nothing happens. At a whole second in the tick the pulse output rises for its width, where it is enabled, and otherwise not. An edge of the external input, where it is enabled, is captured with source 70 at a place in the tick that is a free value (log entry 1), with OVERRUN where one stood, and otherwise ignored. A pulse falls when its width has passed, and stays before (R312, R313, R315, R317). -/
def Obligations.TimeUnit : Prop :=
  (∀ (s : State) (val : Word) (q : Nat) (s1 : State), s.reaches TMU_INCR_FRAC → q = 2 ^ 32 * s.bits TMU_INCR_NS 7 0 + val.toNat → incrInRange q = true → s1 = s.wr TMU_INCR_FRAC val →
      answers (.incrWrite val) s ({ s1 with tmu := { s1.tmu with incr := q } }))
  ∧ (∀ (s : State) (val : Word), s.reaches TMU_INCR_FRAC → incrInRange (2 ^ 32 * s.bits TMU_INCR_NS 7 0 + val.toNat) = false →
      answers (.incrWrite val) s (((((s.wrN TMU_INCR_NS (s.tmu.incr / 2 ^ 32)).wrN TMU_INCR_FRAC (s.tmu.incr % 2 ^ 32)).put TMU_STATUS_INCR_REFUSED 1)).raise 65 0))
  ∧ (∀ (s : State) (force : Bool) (d : Int), s.reaches TMU_CMD → d = 10 ^ 9 * signedOf 32 (s.rdN TMU_ADJ_SEC) + signedOf 32 (s.rdN TMU_ADJ_NS) → force = true ∨ d.natAbs ≤ s.rdN TMU_STEP_LIMIT →
      answers (.timeStep force) s (s.applyStep (((s.tmu.time : Int) + 2 ^ 32 * d) % (timeModulus : Nat)).toNat d))
  ∧ (∀ (s : State) (d : Int), s.reaches TMU_CMD → d = 10 ^ 9 * signedOf 32 (s.rdN TMU_ADJ_SEC) + signedOf 32 (s.rdN TMU_ADJ_NS) → s.rdN TMU_STEP_LIMIT < d.natAbs →
      answers (.timeStep false) s (((s.put TMU_STATUS_STEP_REFUSED 1).count TMU_STEP_REFUSED_CNT).raise 64 0))
  ∧ (∀ (s : State) (force : Bool), s.reaches TMU_CMD → 10 ^ 9 ≤ s.rdN TMU_SET_NS →
      answers (.timeSet force) s (((s.put TMU_STATUS_STEP_REFUSED 1).count TMU_STEP_REFUSED_CNT).raise 64 0))
  ∧ (∀ (s : State) (force : Bool) (t : Nat), s.reaches TMU_CMD → s.rdN TMU_SET_NS < 10 ^ 9 → t = 2 ^ 32 * (10 ^ 9 * (s.rdN TMU_SET_SEC_LO + 2 ^ 32 * s.bits TMU_SET_SEC_HI 15 0) + s.rdN TMU_SET_NS) → s.on TMU_STATUS_VALID = false ∨ force = true ∨ ((t : Int) - (s.tmu.time : Int)).natAbs ≤ 2 ^ 32 * s.rdN TMU_STEP_LIMIT →
      answers (.timeSet force) s (s.applyStep t (((t : Int) - (s.tmu.time : Int)) / 2 ^ 32)))
  ∧ (∀ (s : State) (t : Nat), s.reaches TMU_CMD → s.rdN TMU_SET_NS < 10 ^ 9 → t = 2 ^ 32 * (10 ^ 9 * (s.rdN TMU_SET_SEC_LO + 2 ^ 32 * s.bits TMU_SET_SEC_HI 15 0) + s.rdN TMU_SET_NS) → s.on TMU_STATUS_VALID = true → 2 ^ 32 * s.rdN TMU_STEP_LIMIT < ((t : Int) - (s.tmu.time : Int)).natAbs →
      answers (.timeSet false) s (((s.put TMU_STATUS_STEP_REFUSED 1).count TMU_STEP_REFUSED_CNT).raise 64 0))
  ∧ (∀ (s : State) (t : Nat) (d : Int), (s.applyStep t d).tmu.time = t % timeModulus ∧ (s.applyStep t d).on TMU_STATUS_VALID = true
      ∧ (s.applyStep t d).rdN TMU_LAST_STEP_NS = unsignedOf 32 (clampInt (-(2 ^ 31)) (2 ^ 31 - 1) d) ∧ (s.applyStep t d).evc.raised = (s.raise 66 0).evc.raised)
  ∧ (∀ (s : State) (u : State), s.reaches TMU_TIME_NS → u = ((s.wrN TMU_TIME_NS s.ptpNs).wrN TMU_TIME_SEC_LO (s.ptpSec % 2 ^ 32)).wrN TMU_TIME_SEC_HI (s.ptpSec / 2 ^ 32 % 2 ^ 16 + 2 ^ 16 * (s.tmu.time / 2 ^ 16 % 2 ^ 16)) →
      answers (.timeRead) s (u.complete (leBytes 4 (u.rdN TMU_TIME_NS)) false))
  ∧ (∀ (s : State) (n : Nat) (val : Word), n < 8 → s.reaches (TMU_TRIG_CTRL n) →
      answers (.triggerArm n val) s ((s.wrN (TMU_TRIG_CTRL n) ((val.toNat &&& 0xFF0F) + (s.rdN (TMU_TRIG_CTRL n) &&& 0x10))).judgeLate n))
  ∧ (∀ (s : State) (n which : Nat) (val : Word), n < 8 → which < 3 → s.reaches (TMU_TRIG_NS n + 4 * which) →
      answers (.triggerTargetWrite n which val) s ((s.wrN (triggerReg n which) (if which = 2 then val.toNat % 2 ^ 16 else val.toNat)).judgeLate n))
  ∧ (∀ (s : State) (n : Nat), n < s.tmu.late.length → (s.judgeLate n).tmu.late.getD n false = (s.on (TMU_TRIG_CTRL_ARM n) && decide (s.trigTarget n ≤ s.ptpTotalNs)))
  ∧ (∀ (s : State) (n : Nat) (late : Bool) (s1 s2 s3 s4 s5 : State), s.pwr.rails.powerGood = true → s.pllLocked pllTime = true → s.on (TMU_TRIG_CTRL_ARM n) = true → s.trigTarget n < s.ptpTickEnd → late = s.tmu.late.getD n false → s1 = (s.put (TMU_TRIG_CTRL_ARM n) 0).put (TMU_TRIG_CTRL_LATE n) (bit late) → s2 = { s1 with tmu := { s1.tmu with late := s1.tmu.late.set n false } } → s3 = (if late then s2.raise 69 0 else s2) → s4 = (if s.on (TMU_TRIG_CTRL_EVENT n) then (s3.raise 68 0).wake wakeTrig else s3) → s5 = (if s.on (TMU_TRIG_CTRL_PIN n) then { s4 with tmu := { s4.tmu with trigOut := true, trigTill := s.now + 2000 * max 1 (s.get (TMU_TRIG_CTRL_WIDTH_US n)) } } else s4) →
      answers (.triggerFire n) s (if s.on (TMU_TRIG_CTRL_SNAPSHOT n) then s5.ownSnapshot else s5))
  ∧ (∀ (s : State) (n : Nat), s.pwr.rails.powerGood = true → s.pllLocked pllTime = true → s.on (TMU_TRIG_CTRL_ARM n) = false ∨ s.ptpTickEnd ≤ s.trigTarget n →
      answers (.triggerFire n) s (s))
  ∧ (∀ (s : State), s.pwr.rails.powerGood = true → s.pllLocked pllTime = true → s.bits TMU_PPS_CFG 0 0 = 1 → s.secondPasses = true →
      answers (.ppsEdge) s ({ s with tmu := { s.tmu with ppsOut := true, ppsTill := s.now + 2000000 * max 1 (s.bits TMU_PPS_CFG 15 8) } }))
  ∧ (∀ (s : State), s.pwr.rails.powerGood = true → s.pllLocked pllTime = true → s.bits TMU_PPS_CFG 0 0 = 0 ∨ s.secondPasses = false →
      answers (.ppsEdge) s (s))
  ∧ (∀ (s : State) (stamp : Nat) (s1 : State), s.pwr.rails.powerGood = true → s.pllLocked pllTime = true → s.bits TMU_EXT_CFG 0 0 = 1 → stamp = (s.tmu.time + s.tmu.incr * (s.freeVal.toNat % 16) / 16) / 2 ^ 32 → s1 = (if s.bits TMU_EXT_STATUS 0 0 = 1 then s.put ⟨TMU_EXT_STATUS, 1, 1⟩ 1 else s).freeNext →
      answers (.extCapture) s ((((s1.wrN TMU_EXT_NS (stamp % 10 ^ 9)).wrN TMU_EXT_SEC (stamp / 10 ^ 9 % 2 ^ 32)).put ⟨TMU_EXT_STATUS, 0, 0⟩ 1).raise 70 0))
  ∧ (∀ (s : State), s.pwr.rails.powerGood = true → s.pllLocked pllTime = true → s.bits TMU_EXT_CFG 0 0 = 0 →
      answers (.extCapture) s (s))
  ∧ (∀ (s : State), s.pwr.rails.powerGood = true → s.pllLocked pllTime = true → s.tmu.ppsTill < s.now + s.tickHalfNs →
      answers (.pulseWidthEnd true) s ({ s with tmu := { s.tmu with ppsOut := false } }))
  ∧ (∀ (s : State), s.pwr.rails.powerGood = true → s.pllLocked pllTime = true → s.now + s.tickHalfNs ≤ s.tmu.ppsTill →
      answers (.pulseWidthEnd true) s (s))
  ∧ (∀ (s : State), s.pwr.rails.powerGood = true → s.pllLocked pllTime = true → s.tmu.trigTill < s.now + s.tickHalfNs →
      answers (.pulseWidthEnd false) s ({ s with tmu := { s.tmu with trigOut := false } }))
  ∧ (∀ (s : State), s.pwr.rails.powerGood = true → s.pllLocked pllTime = true → s.now + s.tickHalfNs ≤ s.tmu.trigTill →
      answers (.pulseWidthEnd false) s (s))

/-- A read of a line in memory wakes its stack and reaches the three controllers of its members; poison in it is noted, the faults that its decode meets are applied in order, and a latency past the bound of its rank is a loss; a write does the same with its bytes stored after the faults; both leave the memory bytes outside those that are written, and a staged image that they poison fails. A request outside memory has no effect. A patrol read of a line whose stack is awake is a read by client 16 at rank 7 and the pointer moves on by a line; past a sleeping stack only the pointer moves; with period 0 nothing happens. A refresh of an awake pseudo-channel closes its next bank's row and moves on; an asleep one refreshes itself. A temperature reading shows both stacks' but with the rails off. A stack idle for its window, with no migration and no request, enters self-refresh with its rows closed; with IDLE 0 or before the window ends it does not. Training that fails nowhere trains every pseudo-channel and sets TRAINED, and once TRAINED nothing changes. RETIRE retires the pseudo-channel named. A preset counts while memory is untouched and is discarded afterwards. A migration copies a line and moves its pointer and progress on; after the last line it ends; with none, nothing happens (R341, R343, R345, R346, R348, R349, R353, R355, R356, R359, R360, R361). -/
def Obligations.MemorySubsystem : Prop :=
  (∀ (s : State) (client rank a latency b : Nat) (faults : List LineFault) (s1 s2 : State), s.coreOn = true → b = 256 * (a / 256) → b < memSize → s1 = s.requestLine client rank b → s2 = (if s.poisonedIn b 256 then s1.notePoisonRead client else s1) →
      answers (.memRead client rank a latency faults) s (((faults.foldl (fun st f => st.applyFault client b f) s2).noteLatency client (carriedRank client rank) latency).stagedCheck))
  ∧ (∀ (s : State) (client rank a latency : Nat) (bs : List Byte) (faults : List LineFault) (s1 : State), s.coreOn = true → a + bs.length ≤ memSize → s1 = faults.foldl (fun st f => st.applyFault client (256 * (a / 256)) f) (s.requestLine client rank a) →
      answers (.memWrite client rank a latency bs faults) s (((s1.memWrite client a bs).noteLatency client (carriedRank client rank) latency).stagedCheck))
  ∧ (∀ (s t : State) (client rank a latency x : Nat) (bs : List Byte) (faults : List LineFault), s.coreOn = true → a + bs.length ≤ memSize →
      x < a ∨ a + bs.length ≤ x → exec (.memWrite client rank a latency bs faults) s = .next t → memByte t.mem x = memByte s.mem x)
  ∧ (∀ (s : State) (client rank a latency b : Nat) (faults : List LineFault), s.coreOn = true → b = 256 * (a / 256) → memSize ≤ b →
      answers (.memRead client rank a latency faults) s (s.stagedCheck))
  ∧ (∀ (s : State) (client rank a latency : Nat) (bs : List Byte) (faults : List LineFault), s.coreOn = true → memSize < a + bs.length →
      answers (.memWrite client rank a latency bs faults) s (s.stagedCheck))
  ∧ (∀ (s : State) (l : ScrubLine) (b : Nat) (s1 : State), s.coreOn = true → s.rdN MEM_SCRUB ≠ 0 → b = 256 * s.hbm.scrub → s1 = { s with hbm := { s.hbm with scrub := (s.hbm.scrub + 1) % (memSize / 256) } } → bitAt (s.get MEM_STATUS_SELF_REFRESH) (stackOfTrio (lineAddr b).trio) = false →
      answers (.scrubRead l) s ((memReadLine 16 7 b l.latency l.faults s1).stagedCheck))
  ∧ (∀ (s : State) (l : ScrubLine) (b : Nat) (s1 : State), s.coreOn = true → s.rdN MEM_SCRUB ≠ 0 → b = 256 * s.hbm.scrub → s1 = { s with hbm := { s.hbm with scrub := (s.hbm.scrub + 1) % (memSize / 256) } } → bitAt (s.get MEM_STATUS_SELF_REFRESH) (stackOfTrio (lineAddr b).trio) = true →
      answers (.scrubRead l) s (s1.stagedCheck))
  ∧ (∀ (s : State) (l : ScrubLine), s.coreOn = true → s.rdN MEM_SCRUB = 0 →
      answers (.scrubRead l) s (s.stagedCheck))
  ∧ (∀ (s : State) (p : Nat), s.coreOn = true → p < 64 → bitAt (s.get MEM_STATUS_SELF_REFRESH) (stackOfPc p) = false →
      answers (.refresh p) s ({ s with hbm := { s.hbm with refBank := s.hbm.refBank.modify p (fun b => (b + 1) % 48), ctl := s.hbm.ctl.modify p (Controller.closeBank (s.hbm.refBank.getD p 0)) } }))
  ∧ (∀ (s : State) (p : Nat), s.coreOn = true → 64 ≤ p ∨ bitAt (s.get MEM_STATUS_SELF_REFRESH) (stackOfPc p) = true →
      answers (.refresh p) s (s))
  ∧ (∀ (s : State) (t0 t1 : Int), s.pwr.rails.powerGood = true → s.pwrState ≠ 5 → s.pwrState ≠ 6 →
      answers (.hbmTempRead t0 t1) s ((s.stackTemp 0 t0).stackTemp 1 t1))
  ∧ (∀ (s : State) (t0 t1 : Int), s.pwr.rails.powerGood = true → s.pwrState = 5 ∨ s.pwrState = 6 →
      answers (.hbmTempRead t0 t1) s (s))
  ∧ (∀ (s : State) (k idle : Nat) (s1 : State), s.coreOn = true → k < 2 → idle = s.bits MEM_SR_IDLE 15 0 → idle ≠ 0 → s.hbm.mig = none → (∀ j < 32, (s.hbm.ctl.getD (32 * k + j) .reset).idle = true) → s.hbm.lastDone.getD k 0 + 2000 * idle < s.now + s.tickHalfNs → s1 = { s with hbm := { s.hbm with ctl := ((List.range 64).zip s.hbm.ctl).map (fun (e : Nat × Controller) => if stackOfPc e.1 = k then { e.2 with rows := [] } else e.2) } } →
      answers (.selfRefreshEnter k) s (s1.put MEM_STATUS_SELF_REFRESH (s.get MEM_STATUS_SELF_REFRESH ||| 2 ^ k)))
  ∧ (∀ (s : State) (k idle : Nat), s.coreOn = true → idle = s.bits MEM_SR_IDLE 15 0 → idle = 0 ∨ s.now + s.tickHalfNs ≤ s.hbm.lastDone.getD k 0 + 2000 * idle →
      answers (.selfRefreshEnter k) s (s))
  ∧ (∀ (s : State) (results : List (List Window)), s.coreOn = true → s.on MEM_STATUS_TRAINED = false → (∀ p < 64, (results.getD p []).any (fun w => windowWidth w == 0) = false) →
      answers (.hbmTrainingDone results) s (((List.range 64).foldl (fun st p => st.trainPc p (results.getD p [])) s).put MEM_STATUS_TRAINED 1))
  ∧ (∀ (s : State) (results : List (List Window)), s.coreOn = true → s.on MEM_STATUS_TRAINED = true →
      answers (.hbmTrainingDone results) s (s))
  ∧ (∀ (s : State) (val : Word), s.reaches MEM_CMD → bitAt val.toNat 0 = true →
      answers (.memRetireCmd val) s (s.retire (bitsOf val.toNat 13 8)))
  ∧ (∀ (s : State) (val : Word), s.reaches MEM_CMD → bitAt val.toNat 0 = false →
      answers (.memRetireCmd val) s (s))
  ∧ (∀ (s : State) (val : Word), s.reaches MEM_RETIRE_PRESET → s.on MEM_STATUS_UNTOUCHED = true →
      answers (.retirePreset val) s ((List.range 4).foldl (fun st h => if bitAt val.toNat (8 * h + 7) then (st.retireNow (16 * h + bitsOf val.toNat (8 * h + 3) (8 * h))).getD st else st) (s.wrN MEM_RETIRE_PRESET (val.toNat &&& 0x8F8F8F8F))))
  ∧ (∀ (s : State) (val : Word), s.reaches MEM_RETIRE_PRESET → s.on MEM_STATUS_UNTOUCHED = false →
      answers (.retirePreset val) s (s))
  ∧ (∀ (s : State) (g : Migration) (n : Nat), s.coreOn = true → s.hbm.mig = some g → n = g.line + 1 → n ≠ 8388608 →
      answers (.migrationCopy []) s ((State.put { s with hbm := { s.hbm with mig := some { g with line := n } } } MEM_RETIRE_STATUS_PROGRESS (n / 128)).stagedCheck))
  ∧ (∀ (s : State) (g : Migration), s.coreOn = true → s.hbm.mig = some g → g.line = 8388607 →
      answers (.migrationCopy []) s ((s.endMigration { g with line := 8388608 }).stagedCheck))
  ∧ (∀ (s : State) (bad : List Nat), s.coreOn = true → s.hbm.mig = none →
      answers (.migrationCopy bad) s (s.stagedCheck))

/-- START of an engine that is not running runs it from the list address with ERR and LEASE_HIT clear and its time starting now; one that runs refuses it with ERR 9 and source 705. ABORT of a running engine leaves a free part of its command done and stops it in ABORTED, and one of another engine nothing. An engine that is not running executes nothing. Of a running one, a pointer that is misaligned or outside memory fails with code 8; a command that reads as poison counts and fails with code 8; an unknown operation fails with code 1; a command of another operation than the row's waits; a COPY or FILL that a check refuses fails with its code, and a LINK to a misaligned or absent address with code 8: a failure shows its code and FAILED and raises source 705. A command that has not had its time waits. One that has is done and the pointer moves to the next; a COPY, a FILL do their pieces, a LINK moves the pointer to its target, and a STOP leaves it, in DONE with source 704 (R364, R365, R366, R367, R368, R369, R370). -/
def Obligations.BlockCopyEngine : Prop :=
  (∀ (s : State), s.reaches BCE_CMD → s.get BCE_STATUS_STATE = 1 →
      answers (.bceStart) s ((s.put BCE_STATUS_ERR 9).raise 705 0))
  ∧ (∀ (s : State) (s1 : State), s.reaches BCE_CMD → s.get BCE_STATUS_STATE ≠ 1 → s1 = ((s.put BCE_STATUS_STATE 1).put BCE_STATUS_ERR 0).put BCE_STATUS_LEASE_HIT 0 →
      answers (.bceStart) s (State.putAddr36 { s1 with sup := { s1.sup with bceAt := s.now } } BCE_PTR_LO BCE_PTR_HI (s.addr36 BCE_LIST_LO BCE_LIST_HI)))
  ∧ (∀ (s : State), s.reaches BCE_CMD → s.get BCE_STATUS_STATE = 1 →
      answers (.bceAbort) s (s.bcePart.put BCE_STATUS_STATE 4))
  ∧ (∀ (s : State), s.reaches BCE_CMD → s.get BCE_STATUS_STATE ≠ 1 →
      answers (.bceAbort) s (s))
  ∧ (∀ s : State, s.coreOn = true → s.get BCE_STATUS_STATE ≠ 1 →
      answers .bceNop s s ∧ answers .bceCopy s s ∧ answers .bceFill s s ∧ answers .bceLink s s ∧ answers .bceStop s s)
  ∧ (∀ (s u : State) (a : Nat), s.coreOn = true → s.get BCE_STATUS_STATE = 1 → a = s.bcePtr → a % 64 ≠ 0 ∨ memSize ≤ a → u = ((s.put BCE_STATUS_ERR 8).put BCE_STATUS_STATE 3).raise 705 0 →
      answers .bceNop s u ∧ answers .bceCopy s u ∧ answers .bceFill s u ∧ answers .bceLink s u ∧ answers .bceStop s u)
  ∧ (∀ (s s1 u : State) (a : Nat), s.coreOn = true → s.get BCE_STATUS_STATE = 1 → a = s.bcePtr → a % 64 = 0 → a < memSize → s.poisonedIn a 64 = true → s1 = s.notePoisonRead 10 →
      u = ((s1.put BCE_STATUS_ERR 8).put BCE_STATUS_STATE 3).raise 705 0 →
      answers .bceNop s u ∧ answers .bceCopy s u ∧ answers .bceFill s u ∧ answers .bceLink s u ∧ answers .bceStop s u)
  ∧ (∀ (s u : State) (a : Nat), s.coreOn = true → s.get BCE_STATUS_STATE = 1 → a = s.bcePtr → a % 64 = 0 → a < memSize → s.poisonedIn a 64 = false → 4 < (s.bceCmdAt a).op → u = ((s.put BCE_STATUS_ERR 1).put BCE_STATUS_STATE 3).raise 705 0 →
      answers .bceNop s u ∧ answers .bceCopy s u ∧ answers .bceFill s u ∧ answers .bceLink s u ∧ answers .bceStop s u)
  ∧ (∀ (s : State) (a op : Nat), s.coreOn = true → s.get BCE_STATUS_STATE = 1 → a = s.bcePtr → a % 64 = 0 → a < memSize → s.poisonedIn a 64 = false → op = (s.bceCmdAt a).op → op ≤ 4 →
      (op ≠ 0 → answers .bceNop s s) ∧ (op ≠ 1 → answers .bceCopy s s) ∧ (op ≠ 2 → answers .bceFill s s) ∧ (op ≠ 3 → answers .bceLink s s) ∧ (op ≠ 4 → answers .bceStop s s))
  ∧ (∀ (s : State) (a : Nat) (d : BceCmd), s.coreOn = true → s.get BCE_STATUS_STATE = 1 → a = s.bcePtr → a % 64 = 0 → a < memSize → s.poisonedIn a 64 = false → d = s.bceCmdAt a → d.op = 1 → s.bceError d ≠ 0 →
      answers (.bceCopy) s (((s.put BCE_STATUS_ERR (s.bceError d)).put BCE_STATUS_STATE 3).raise 705 0))
  ∧ (∀ (s : State) (a : Nat) (d : BceCmd), s.coreOn = true → s.get BCE_STATUS_STATE = 1 → a = s.bcePtr → a % 64 = 0 → a < memSize → s.poisonedIn a 64 = false → d = s.bceCmdAt a → d.op = 2 → s.bceError d ≠ 0 →
      answers (.bceFill) s (((s.put BCE_STATUS_ERR (s.bceError d)).put BCE_STATUS_STATE 3).raise 705 0))
  ∧ (∀ (s : State) (a : Nat) (d : BceCmd), s.coreOn = true → s.get BCE_STATUS_STATE = 1 → a = s.bcePtr → a % 64 = 0 → a < memSize → s.poisonedIn a 64 = false → d = s.bceCmdAt a → d.op = 3 → s.bceReady d = true → d.src % 64 ≠ 0 ∨ memSize ≤ d.src →
      answers (.bceLink) s (((s.put BCE_STATUS_ERR (8)).put BCE_STATUS_STATE 3).raise 705 0))
  ∧ (∀ (s : State) (a op : Nat) (d : BceCmd), s.coreOn = true → s.get BCE_STATUS_STATE = 1 → a = s.bcePtr → a % 64 = 0 → a < memSize → s.poisonedIn a 64 = false → d = s.bceCmdAt a → op = d.op → s.bceReady d = false →
      (op = 0 → answers .bceNop s s) ∧ (op = 1 → s.bceError d = 0 → answers .bceCopy s s) ∧ (op = 2 → s.bceError d = 0 → answers .bceFill s s) ∧ (op = 3 → answers .bceLink s s) ∧ (op = 4 → answers .bceStop s s))
  ∧ (∀ (s : State) (a : Nat) (d : BceCmd) (s1 : State), s.coreOn = true → s.get BCE_STATUS_STATE = 1 → a = s.bcePtr → a % 64 = 0 → a < memSize → s.poisonedIn a 64 = false → d = s.bceCmdAt a → d.op = 0 → s.bceReady d = true → s1 = { s with sup := { s.sup with bceAt := max s.now (s.sup.bceAt + s.bceTime d) } } →
      answers (.bceNop) s (s1.bceDone d (a + 64)))
  ∧ (∀ (s : State) (a : Nat) (d : BceCmd) (s1 : State), s.coreOn = true → s.get BCE_STATUS_STATE = 1 → a = s.bcePtr → a % 64 = 0 → a < memSize → s.poisonedIn a 64 = false → d = s.bceCmdAt a → d.op = 1 → s.bceReady d = true → s1 = { s with sup := { s.sup with bceAt := max s.now (s.sup.bceAt + s.bceTime d) } } → s.bceError d = 0 →
      answers (.bceCopy) s ((s1.bceCopy d d.pieces).bceDone d (a + 64)))
  ∧ (∀ (s : State) (a : Nat) (d : BceCmd) (s1 : State), s.coreOn = true → s.get BCE_STATUS_STATE = 1 → a = s.bcePtr → a % 64 = 0 → a < memSize → s.poisonedIn a 64 = false → d = s.bceCmdAt a → d.op = 2 → s.bceReady d = true → s1 = { s with sup := { s.sup with bceAt := max s.now (s.sup.bceAt + s.bceTime d) } } → s.bceError d = 0 →
      answers (.bceFill) s ((s1.bceFill d d.pieces).bceDone d (a + 64)))
  ∧ (∀ (s : State) (a : Nat) (d : BceCmd) (s1 : State), s.coreOn = true → s.get BCE_STATUS_STATE = 1 → a = s.bcePtr → a % 64 = 0 → a < memSize → s.poisonedIn a 64 = false → d = s.bceCmdAt a → d.op = 3 → s.bceReady d = true → s1 = { s with sup := { s.sup with bceAt := max s.now (s.sup.bceAt + s.bceTime d) } } → d.src % 64 = 0 → d.src < memSize →
      answers (.bceLink) s (s1.bceDone d d.src))
  ∧ (∀ (s : State) (a : Nat) (d : BceCmd) (s1 : State), s.coreOn = true → s.get BCE_STATUS_STATE = 1 → a = s.bcePtr → a % 64 = 0 → a < memSize → s.poisonedIn a 64 = false → d = s.bceCmdAt a → d.op = 4 → s.bceReady d = true → s1 = { s with sup := { s.sup with bceAt := max s.now (s.sup.bceAt + s.bceTime d) } } →
      answers (.bceStop) s (((s1.bceDone { d with irq := false } a).put BCE_STATUS_STATE 2).raise 704 0))

/-- A check job is refused with ERR 1 while one runs, fails with code 2 for a context of the image, and with code 3 for an empty or absent range or one shorter than its CRC to check; else it runs, from the running value or the start value, with STATE RUNNING, ERR and MATCH clear. It ends with its result, DONE and source 736, or by poison with code 4, and with the unit disabled or no job nothing happens. A write of a context sets it, and one of a context of the image or of the running job is refused with ERR 2 and source 737. A dictionary command while a job runs shows ERR 1. COMPRESS and DECOMPRESS of ranges in memory whose output may be written start a job of the input in RUNNING with ERR 0; a range outside memory fails with code 2, an output that may not be written with code 3. RESUME continues a job in OUT_FULL with the new output; with none in it, it fails with code 9. ABORT ends a running or full job and else does nothing. A job whose output fills stores it and waits in OUT_FULL with source 769; one that completes stores it and is DONE with source 768; one that fails stores it and fails with its code; one that meets poison fails with code 8 and source 771 (R375, R376, R377, R379, R380, R381, R382, R383, R384, R385). -/
def Obligations.CheckAndDictionaryUnits : Prop :=
  (∀ (s : State) (ctx : Nat) (cont : Bool) (j : CkuJob), s.reaches CKU_JOB_CMD → s.sup.cku = some j →
      answers (.ckuCompute ctx cont) s ((s.put CKU_JOB_STATUS_ERR 1).raise 737 0) ∧ answers (.ckuAppend ctx cont) s ((s.put CKU_JOB_STATUS_ERR 1).raise 737 0) ∧ answers (.ckuCheck ctx cont) s ((s.put CKU_JOB_STATUS_ERR 1).raise 737 0))
  ∧ (∀ (s : State) (ctx : Nat) (cont : Bool), s.reaches CKU_JOB_CMD → s.sup.cku = none → s.on (CKU_CTX_CFG_IMAGE ctx) = true →
      answers (.ckuCompute ctx cont) s (((s.put CKU_JOB_STATUS_ERR 2).put CKU_JOB_STATUS_STATE 3).raise 737 0) ∧ answers (.ckuAppend ctx cont) s (((s.put CKU_JOB_STATUS_ERR 2).put CKU_JOB_STATUS_STATE 3).raise 737 0) ∧ answers (.ckuCheck ctx cont) s (((s.put CKU_JOB_STATUS_ERR 2).put CKU_JOB_STATUS_STATE 3).raise 737 0))
  ∧ (∀ (s : State) (ctx addr len : Nat) (cont : Bool), s.reaches CKU_JOB_CMD → s.sup.cku = none → s.on (CKU_CTX_CFG_IMAGE ctx) = false →
      addr = s.addr36 CKU_JOB_ADDR_LO CKU_JOB_ADDR_HI → len = s.rdN CKU_JOB_LEN →
      (len = 0 ∨ memSize < addr + len → answers (.ckuCompute ctx cont) s (((s.put CKU_JOB_STATUS_ERR 3).put CKU_JOB_STATUS_STATE 3).raise 737 0) ∧ answers (.ckuAppend ctx cont) s (((s.put CKU_JOB_STATUS_ERR 3).put CKU_JOB_STATUS_STATE 3).raise 737 0) ∧ answers (.ckuCheck ctx cont) s (((s.put CKU_JOB_STATUS_ERR 3).put CKU_JOB_STATUS_STATE 3).raise 737 0))
      ∧ (len < crcBytes (s.ckuPoly ctx) → answers (.ckuCheck ctx cont) s (((s.put CKU_JOB_STATUS_ERR 3).put CKU_JOB_STATUS_STATE 3).raise 737 0)))
  ∧ (∀ (s s1 : State) (ctx addr len : Nat) (cont : Bool), s.reaches CKU_JOB_CMD → s.sup.cku = none → s.on (CKU_CTX_CFG_IMAGE ctx) = false →
      addr = s.addr36 CKU_JOB_ADDR_LO CKU_JOB_ADDR_HI → len = s.rdN CKU_JOB_LEN → 0 < len → addr + len ≤ memSize → s1 = ((s.put CKU_JOB_STATUS_STATE 1).put CKU_JOB_STATUS_ERR 0).put CKU_JOB_STATUS_MATCH 0 →
      (∀ start op, start = (if cont then s.rdN (CKU_CTX_RUN ctx) else crcInit (s.ckuPoly ctx)) →
        (op = 1 → answers (.ckuCompute ctx cont) s { s1 with sup := { s1.sup with cku := some { op, ctx, start, addr, len } } })
        ∧ (op = 2 → answers (.ckuAppend ctx cont) s { s1 with sup := { s1.sup with cku := some { op, ctx, start, addr, len } } })
        ∧ (op = 3 → crcBytes (s.ckuPoly ctx) ≤ len → answers (.ckuCheck ctx cont) s { s1 with sup := { s1.sup with cku := some { op, ctx, start, addr, len } } })))
  ∧ (∀ (s : State) (j : CkuJob) (s1 : State), s.coreOn = true → s.sup.cku = some j → s.bits CKU_CTRL 0 0 = 1 → s.poisonedIn j.addr j.len = false → s1 = { s with sup := { s.sup with cku := none } } →
      answers (.ckuJobDone) s (((s1.ckuResult j).put CKU_JOB_STATUS_STATE 2).raise 736 0))
  ∧ (∀ (s : State) (j : CkuJob) (s1 : State), s.coreOn = true → s.sup.cku = some j → s.bits CKU_CTRL 0 0 = 1 → s.poisonedIn j.addr j.len = true → s1 = State.notePoisonRead { s with sup := { s.sup with cku := none } } 17 →
      answers (.ckuJobDone) s (((s1.put CKU_JOB_STATUS_ERR 4).put CKU_JOB_STATUS_STATE 3).raise 737 0))
  ∧ (∀ (s : State), s.coreOn = true → s.sup.cku = none ∨ s.bits CKU_CTRL 0 0 = 0 →
      answers (.ckuJobDone) s (s))
  ∧ (∀ (s : State) (n : Nat) (val : Word), s.reaches (CKU_CTX_RUN n) → n < 16 → s.on (CKU_CTX_CFG_IMAGE n) = false → (∀ j, s.sup.cku = some j → j.ctx ≠ n) →
      answers (.ckuCtxWrite n true val) s (s.wr (CKU_CTX_RUN n) val))
  ∧ (∀ (s : State) (n : Nat) (val : Word), s.reaches (CKU_CTX_CFG n) → n < 16 → s.on (CKU_CTX_CFG_IMAGE n) = false → (∀ j, s.sup.cku = some j → j.ctx ≠ n) →
      answers (.ckuCtxWrite n false val) s (s.wrN (CKU_CTX_CFG n) (val.toNat &&& 0xFFFFFF7E)))
  ∧ (∀ (s : State) (n : Nat) (isRun : Bool) (val : Word), s.reaches (if isRun then CKU_CTX_RUN n else CKU_CTX_CFG n) → n < 16 → s.on (CKU_CTX_CFG_IMAGE n) = true ∨ (∃ j, s.sup.cku = some j ∧ j.ctx = n) →
      answers (.ckuCtxWrite n isRun val) s ((s.put CKU_JOB_STATUS_ERR 2).raise 737 0))
  ∧ (∀ (s : State), s.reaches DCO_CMD → s.get DCO_STATUS_STATE = 1 → answers .dcoCompress s (s.put DCO_STATUS_ERR 1) ∧ answers .dcoDecompress s (s.put DCO_STATUS_ERR 1) ∧ answers .dcoResume s (s.put DCO_STATUS_ERR 1))
  ∧ (∀ (s : State), s.reaches DCO_CMD → s.get DCO_STATUS_STATE ≠ 1 → s.dcoIn + s.dcoInLen ≤ memSize → s.dcoOut + s.dcoOutLen ≤ memSize → s.dcoOutOk = true →
      ∃ t u, exec .dcoCompress s = .next t ∧ exec .dcoDecompress s = .next u ∧ t.get DCO_STATUS_STATE = 1 ∧ u.get DCO_STATUS_STATE = 1
        ∧ t.get DCO_STATUS_ERR = 0 ∧ u.get DCO_STATUS_ERR = 0 ∧ t.mem = s.mem ∧ u.mem = s.mem
        ∧ (∃ j k, t.sup.dco = some j ∧ u.sup.dco = some k ∧ j.compress = true ∧ k.compress = false ∧ j.inAddr = s.dcoIn ∧ k.inAddr = s.dcoIn ∧ j.inLen = s.dcoInLen ∧ k.inLen = s.dcoInLen))
  ∧ (∀ (s : State), s.reaches DCO_CMD → s.get DCO_STATUS_STATE ≠ 1 →
      (memSize < s.dcoIn + s.dcoInLen ∨ memSize < s.dcoOut + s.dcoOutLen → answers .dcoCompress s (s.dcoFail 2) ∧ answers .dcoDecompress s (s.dcoFail 2))
      ∧ (s.dcoIn + s.dcoInLen ≤ memSize → s.dcoOut + s.dcoOutLen ≤ memSize → s.dcoOutOk = false → answers .dcoCompress s (s.dcoFail 3) ∧ answers .dcoDecompress s (s.dcoFail 3)))
  ∧ (∀ (s : State) (j : DcoJob) (s1 : State), s.reaches DCO_CMD → s.get DCO_STATUS_STATE = 3 → s.sup.dco = some j → s.dcoOut + s.dcoOutLen ≤ memSize → s.dcoOutOk = true → s1 = ((s.put DCO_STATUS_STATE 1).put DCO_STATUS_ERR 0).dcoShow { j with outDone := 0 } →
      answers (.dcoResume) s ({ s1 with sup := { s1.sup with dco := some { j with outDone := 0 } } }))
  ∧ (∀ (s : State), s.reaches DCO_CMD → s.get DCO_STATUS_STATE ≠ 1 → s.get DCO_STATUS_STATE ≠ 3 ∨ s.sup.dco = none →
      answers (.dcoResume) s (s.dcoFail 9))
  ∧ (∀ (s : State) (s1 : State), s.reaches DCO_CMD → s.get DCO_STATUS_STATE = 1 ∨ s.get DCO_STATUS_STATE = 3 → s1 = s.put DCO_STATUS_STATE 5 →
      answers (.dcoAbort) s ({ s1 with sup := { s1.sup with dco := none } }))
  ∧ (∀ (s : State), s.reaches DCO_CMD → s.get DCO_STATUS_STATE ≠ 1 → s.get DCO_STATUS_STATE ≠ 3 →
      answers (.dcoAbort) s (s))
  ∧ (∀ (s : State) (j k : DcoJob) (bs : List Byte) (s1 : State), s.coreOn = true → s.sup.dco = some j → s.get DCO_STATUS_STATE = 1 → s.dcoOutcome j = (bs, k, .full) → s.dcoHitsPoison j k = false → s.dcoOutOk = true → s1 = ((s.dcoStore bs k).put DCO_STATUS_STATE 3).raise 769 0 →
      answers (.dcoOutFull) s ({ s1 with sup := { s1.sup with dco := some { k with outDone := bs.length } } }))
  ∧ (∀ (s : State) (j k : DcoJob) (bs : List Byte) (s1 : State), s.coreOn = true → s.sup.dco = some j → s.get DCO_STATUS_STATE = 1 → s.dcoOutcome j = (bs, k, .done) → s.dcoHitsPoison j k = false → s.dcoOutOk = true → s1 = ((s.dcoStore bs k).put DCO_STATUS_STATE 2).raise 768 0 →
      answers (.dcoJobDone) s ({ s1 with sup := { s1.sup with dco := none } }))
  ∧ (∀ (s : State) (j k : DcoJob) (bs : List Byte), s.coreOn = true → s.sup.dco = some j → s.get DCO_STATUS_STATE = 1 → s.dcoOutcome j = (bs, k, .failed) → s.dcoHitsPoison j k = false → s.dcoOutOk = true →
      answers (.dcoJobDone) s ((s.dcoStore bs k).dcoFail k.err))
  ∧ (∀ (s : State) (j k : DcoJob) (bs : List Byte) (st : DcoStop), s.coreOn = true → s.sup.dco = some j → s.get DCO_STATUS_STATE = 1 → s.dcoOutcome j = (bs, k, st) → s.dcoHitsPoison j k = true →
      answers (.dcoJobDone) s (((s.notePoisonRead 11).raise 771 0).dcoFail 8))

/-- A write of EVC_SW_RAISE raises source 960 + INDEX with class CLASS and with EVC_SW_DATA_HI:EVC_SW_DATA_LO as data; a CLASS of 0 is refused, and source 898 is raised in its place. A source that the tick has not raised yet is added to those of the tick as raised, and no byte of memory and no register changes (R396). -/
def Obligations.SoftwareRaise : Prop :=
  (∀ (s : State) (val : Word), s.reaches EVC_SW_RAISE → EVC_SW_RAISE_CLASS.ext val ≠ 0 →
      answers (.swRaise val) s (s.raiseCls false (960 + EVC_SW_RAISE_INDEX.ext val) (EVC_SW_RAISE_CLASS.ext val) (s.rdN EVC_SW_DATA_LO + 2 ^ 32 * s.rdN EVC_SW_DATA_HI)))
  ∧ (∀ (s : State) (val : Word), s.reaches EVC_SW_RAISE → EVC_SW_RAISE_CLASS.ext val = 0 →
      answers (.swRaise val) s (s.raise 898 0))
  ∧ (∀ (s : State) (src cls data : Nat), (∀ r ∈ s.evc.raised, r.source ≠ src) →
      (s.raiseCls false src cls data).evc.raised = s.evc.raised ++ [⟨src, cls, data, false⟩] ∧ (s.raiseCls false src cls data).mem = s.mem
      ∧ (∀ o, (s.raiseCls false src cls data).rd o = s.rd o))

/-- With power good the end of a tick settles the units in CORE, the links and power, forms the record of the tick, and keeps the registers for the rules of the next tick; with power not good time stands. At the boundary the tick number advances by one and the divider in force is the one written, within 1 to 16. The record takes every source that the tick has raised, and a record number where one of them is recorded. The oldest waiting record lands: its entries at their slots modulo 4,096, EVC_RING_WR past them, one record more, and its messages are posted; with none waiting nothing happens. A moderation window that has passed sends what it deferred; one that has not sends nothing. A pop removes the head of the early queue. RING_EN written 0 is 0; written 1 with an image it becomes 1 and the early queue moves to the ring; written 1 while it is 1 or without an image it stays as it was; MSIX_EN is as written each time. A write of the divider shows it. Unmasking a vector, or the function, sends what is pending (R386, R387, R388, R390, R392, R394, R395). -/
def Obligations.EventTicksAndMessages : Prop :=
  (∀ (s : State), s.pwr.rails.powerGood = true →
      answers (.eventTick) s ((Machine.eventTick (((s.settleCore).settleLinks).settlePower)).keepWas))
  ∧ (∀ s : State, s.pwr.rails.powerGood = false → answers .eventTick s s)
  ∧ (∀ s : State, s.nextTick.evc.tick = (s.evc.tick + 1) % 2 ^ 64 ∧ s.nextTick.evc.div = clampNat 1 16 (s.get EVC_TICK_DIV))
  ∧ (∀ s : State, s.formRecord.evc.raised = [] ∧ (s.recordable = [] → s.formRecord.evc.recordNo = s.evc.recordNo) ∧ (s.recordable ≠ [] → s.formRecord.evc.recordNo = (s.evc.recordNo + 1) % 2 ^ 32))
  ∧ (∀ (s : State) (rec : List EvEntry) (rest : List (List EvEntry)) (s1 s2 s3 : State) (base wr : Nat), s.coreOn = true → s.evc.waiting = rec :: rest → base = s.addr36 EVC_RING_LO EVC_RING_HI → wr = s.rdN EVC_RING_WR → s1 = { s with evc := { s.evc with waiting := rest } } → s2 = ((List.range rec.length).zip rec).foldl (fun st ie => st.memWrite 15 (base + 32 * ((wr + ie.1) % 4096)) ie.2.bytes) s1 → s3 = (s2.wrN EVC_RING_WR ((wr + rec.length) % 2 ^ 32)).wrN EVC_RECORD_CNT (s2.rdN EVC_RECORD_CNT + 1) →
      answers (.ringWriteDone) s (s3.postRecord rec))
  ∧ (∀ (s : State), s.coreOn = true → s.evc.waiting = [] →
      answers (.ringWriteDone) s (s))
  ∧ (∀ (s : State) (c : Nat), s.coreOn = true → s.moderated c = false →
      answers (.msixModerationExpire c) s ((s.evc.deferred.filter (fun p => p.1 == c)).foldl State.sendMsg { s with evc := { s.evc with deferred := s.evc.deferred.filter (fun p => p.1 != c) } }))
  ∧ (∀ (s : State) (c : Nat), s.coreOn = true → s.moderated c = true →
      answers (.msixModerationExpire c) s (s))
  ∧ (∀ (s : State), s.reaches EVC_EARLY_POP →
      answers (.earlyPop) s (State.showEarly { s with evc := { s.evc with early := s.evc.early.drop 1 } }))
  ∧ (∀ (s : State) (val : Word), s.reaches EVC_CTRL → EVC_CTRL_RING_EN.ext val = 0 →
      answers (.ringEnable val) s ((s.put EVC_CTRL_MSIX_EN (EVC_CTRL_MSIX_EN.ext val)).put EVC_CTRL_RING_EN 0))
  ∧ (∀ (s : State) (val : Word), s.reaches EVC_CTRL → EVC_CTRL_RING_EN.ext val = 1 → s.on EVC_CTRL_RING_EN = false → s.on CSU_STATUS_IMAGE_VALID = true →
      answers (.ringEnable val) s (((s.put EVC_CTRL_MSIX_EN (EVC_CTRL_MSIX_EN.ext val)).put EVC_CTRL_RING_EN 1).moveEarly))
  ∧ (∀ (s : State) (val : Word), s.reaches EVC_CTRL → EVC_CTRL_RING_EN.ext val = 1 → s.on EVC_CTRL_RING_EN = true ∨ s.on CSU_STATUS_IMAGE_VALID = false →
      answers (.ringEnable val) s (s.put EVC_CTRL_MSIX_EN (EVC_CTRL_MSIX_EN.ext val)))
  ∧ (∀ (s : State) (val : Word), s.reaches EVC_TICK →
      answers (.tickDivWrite val) s (s.put EVC_TICK_DIV (EVC_TICK_DIV.ext val)))
  ∧ (∀ (s : State) (n : Nat), n < 256 → s.reaches (MSIX_TABLE (4 * n + 3)) →
      answers (.msixUnmask (some n)) s ((s.put ⟨MSIX_TABLE (4 * n + 3), 0, 0⟩ 0).sendPending))
  ∧ (∀ (s : State), s.pwr.rails.powerGood = true →
      answers (.msixUnmask none) s (State.sendPending { s with pcie := { s.pcie with funcMask := false } }))

/-- A sleep command that is refused shows its code and raises source 98; one that is not asks for HOLD and shows ENTERING, and a light one, or a deep one with PAIR_DEEP, goes to the partner too. When entry is ready from ENTERING it finishes; a WAKE written in its very tick applies to the state it reaches; not ready, or in another state, nothing happens. A light entry closes the gates, stops its PLLs, loses the stores and shows SLEEP with source 96; a deep one drops CORE and the HBM and SERDES rails and shows DEEP_SLEEP. A wake whose enable bit is set starts WAKING from ENTERING or SLEEP with its cause, adds its cause while WAKING, and does nothing elsewhere; one whose bit is clear does nothing. WAKE_N in DEEP_SLEEP with its bit set records its cause and turns the rails on, once; else it is a wake. When the wake step is done the device is ACTIVE, engines that reload are PARKED, and source 97 is raised with the causes; before, only the step happens. A PLL of a boot or wake that has not locked is enabled again, and the second time raises source 106 and shows a failure; with no boot or wake nothing happens. A write of PWR_CH_GATE keeps its four bits, and up to ENTERING opens the gates that may open and keeps the closings asked for. ACK continues a boot that is held after a stop, and does nothing else (R16, R398, R399, R400, R401, R402, R403, R404, R411). -/
def Obligations.SleepAndWake : Prop :=
  (∀ (s : State) (c : Nat), s.reaches PWR_CMD → s.sleepRefusal false false = some c →
      answers (.sleepCmd) s ((s.put ⟨PWR_STATE, 15, 8⟩ c).raise 98 0))
  ∧ (∀ (s : State) (force : Bool) (c : Nat), s.reaches PWR_CMD → s.sleepRefusal true force = some c →
      answers (.deepSleepCmd force) s ((s.put ⟨PWR_STATE, 15, 8⟩ c).raise 98 0))
  ∧ (∀ (s : State) (s1 : State), s.reaches PWR_CMD → s.sleepRefusal false false = none → s1 = (s.wrN PWR_STATE 2).askHold 1 →
      answers (.sleepCmd) s (State.toPartner { s1 with pwr := { s1.pwr with deep := false, entryStart := s.now, slept := false, woken := false } } (.power 1)))
  ∧ (∀ (s : State) (force : Bool) (s1 : State), s.reaches PWR_CMD → s.sleepRefusal true force = none → s1 = (s.wrN PWR_STATE 2).askHold 1 → s1.on EHL_CFG_PAIR_DEEP = true →
      answers (.deepSleepCmd force) s (State.toPartner { s1 with pwr := { s1.pwr with deep := true, entryStart := s.now, slept := false, woken := false } } (.power 2)))
  ∧ (∀ (s : State) (force : Bool) (s1 : State), s.reaches PWR_CMD → s.sleepRefusal true force = none → s1 = (s.wrN PWR_STATE 2).askHold 1 → s1.on EHL_CFG_PAIR_DEEP = false →
      answers (.deepSleepCmd force) s ({ s1 with pwr := { s1.pwr with deep := true, entryStart := s.now, slept := false, woken := false } }))
  ∧ (∀ (s : State), s.coreOn = true → s.entryReady = true → s.pwrState = 2 →
      answers (.sleepEntered) s (s.finishEntry))
  ∧ (∀ (s : State), s.coreOn = true → s.entryReady = true → s.pwrState ≠ 2 → s.wokenThisTick = true →
      answers (.sleepEntered) s (((s.put ⟨PWR_STATE, 2, 0⟩ 2).finishEntry).wake wakeHost))
  ∧ (∀ (s : State), s.coreOn = true → s.entryReady = false ∨ (s.pwrState ≠ 2 ∧ s.wokenThisTick = false) →
      answers (.sleepEntered) s (s))
  ∧ (∀ s t : State, s.pwr.deep = false → t = s.finishEntry → t.pwrState = 3 ∧ t.mem = (s.drainAll).discardEgress.mem ∧ (∀ e ∈ t.engines, e.ls = [] ∧ e.valid = false) ∧ (∀ c ∈ t.chans, c.cache = []))
  ∧ (∀ s t : State, s.pwr.deep = true → t = s.finishEntry → t.pwrState = 5 ∧ t.rdN PWR_PLL_STATUS = 1 ∧ t.mem = [] ∧ t.pwr.rails.enHbm = false ∧ t.pwr.rails.enSds = false)
  ∧ (∀ (s : State), s.reaches PWR_CMD →
      answers (.wakeCmd) s (s.wake wakeHost))
  ∧ (∀ (s s1 : State) (c : Nat), (bitAt (s.rdN PWR_WAKE_EN) c = false → s.wake c = s)
      ∧ (bitAt (s.rdN PWR_WAKE_EN) c = true → s.pwrState = 2 ∨ s.pwrState = 3 → s1 = (s.wrN PWR_WAKE_CAUSE (2 ^ c)).put ⟨PWR_STATE, 2, 0⟩ 4 →
        s.wake c = State.wakePair { s1 with pwr := { s1.pwr with slept := s.pwrState == 3, wakeStart := s.now, woken := false } } c)
      ∧ (bitAt (s.rdN PWR_WAKE_EN) c = true → s.pwrState = 4 → s.wake c = s.wrN PWR_WAKE_CAUSE (s.rdN PWR_WAKE_CAUSE ||| 2 ^ c))
      ∧ (s.pwrState < 2 ∨ 4 < s.pwrState → s.wake c = s))
  ∧ (∀ (s : State), s.pwr.rails.powerGood = true → s.pwrState = 5 → bitAt (s.rdN PWR_WAKE_EN) Machine.wakePin = true → s.pwr.rails.waiting = false →
      answers (.wakePin) s ((s.wrN PWR_WAKE_CAUSE (2 ^ Machine.wakePin)).setRails (fun r => { r with enHbm := true, enSds := true, waiting := true })))
  ∧ (∀ (s : State), s.pwr.rails.powerGood = true → s.pwrState = 5 → bitAt (s.rdN PWR_WAKE_EN) Machine.wakePin = false ∨ s.pwr.rails.waiting = true →
      answers (.wakePin) s (s))
  ∧ (∀ (s : State), s.pwr.rails.powerGood = true → s.pwrState ≠ 5 →
      answers (.wakePin) s (s.wake Machine.wakePin))
  ∧ (∀ (s : State) (s1 s2 : State), s.pwr.rails.powerGood = true → s1 = s.wakeStep → s1.pwrState = 4 → s1.pwr.woken = true → s2 = ((s1.parkEngines).put ⟨PWR_STATE, 2, 0⟩ 1).wrN PWR_WAKE_TIME (s1.usSince s1.pwr.wakeStart % 2 ^ 24) →
      answers (.wakeDone) s (State.raise { s2 with pwr := { s2.pwr with woken := false, slept := false } } 97 (s.rdN PWR_WAKE_CAUSE)))
  ∧ (∀ (s : State), s.pwr.rails.powerGood = true → s.wakeStep.pwrState ≠ 4 ∨ s.wakeStep.pwr.woken = false →
      answers (.wakeDone) s (s))
  ∧ (∀ (s : State) (pll : Nat) (s1 : State), s.pwr.rails.powerGood = true → pll < 17 → s.pwrState = 0 ∨ s.pwrState = 4 → bitAt s.pwr.pllRetry pll = false → s1 = s.putBit PWR_PLL_STATUS pll false →
      answers (.pllLockTimeout pll) s ({ s1 with pwr := { s1.pwr with pllRetry := s.pwr.pllRetry + 2 ^ pll, pllFrom := s1.pwr.pllFrom.set pll (some s.now) } }))
  ∧ (∀ (s : State) (pll : Nat) (s1 : State), s.pwr.rails.powerGood = true → pll < 17 → s.pwrState = 0 ∨ s.pwrState = 4 → bitAt s.pwr.pllRetry pll = true → s1 = s.putBit PWR_PLL_STATUS pll false →
      answers (.pllLockTimeout pll) s ((State.putBit { s1 with pwr := { s1.pwr with pllFrom := s1.pwr.pllFrom.set pll none } } PWR_PLL_STATUS 31 true).raise 106 0))
  ∧ (∀ (s : State) (pll : Nat), s.pwr.rails.powerGood = true → s.pwrState ≠ 0 → s.pwrState ≠ 4 →
      answers (.pllLockTimeout pll) s (s))
  ∧ (∀ (s : State) (val : Word) (s1 : State) (keep : Nat), s.reaches PWR_CH_GATE → s.pwrState ≤ 2 → s1 = s.wrN PWR_CH_GATE (val.toNat % 16) → keep = (List.range 4).foldl (fun m c => if bitAt s.pwr.gateClosing c && !bitAt val.toNat c then m + 2 ^ c else m) 0 →
      answers (.chGateWrite val) s ((List.range 4).foldl State.openGate { s1 with pwr := { s1.pwr with gateClosing := keep } }))
  ∧ (∀ (s : State) (val : Word), s.reaches PWR_CH_GATE → 2 < s.pwrState →
      answers (.chGateWrite val) s (s.wrN PWR_CH_GATE (val.toNat % 16)))
  ∧ (∀ (s : State), s.reaches PWR_CMD → s.on PWR_KETTLE_STATUS_RESUME_HELD = true →
      answers (.resumeAck) s (State.startLink (State.put { s with pwr := { s.pwr with stopBoot := false } } PWR_KETTLE_STATUS_RESUME_HELD 0)))
  ∧ (∀ (s : State), s.reaches PWR_CMD → s.on PWR_KETTLE_STATUS_RESUME_HELD = false →
      answers (.resumeAck) s (s))

/-- A sample starts at once. A completed one shows the sites and, with 20 valid sites or more, the temperature of the hottest valid site and that site, not DEGRADED; with fewer, but one, 5 degrees more and DEGRADED; with none, a free value for both (log entry 1); then FAST, the zones, and what the temperature asks for. With no sample under way nothing happens. In THROTTLE the stage rises by one when its step has passed, up to 5, and after it falls by one when ten steps have passed, down to 0, each with source 100; before, and at the ends, it stays. A stopped device whose 10 s below 95 degrees have passed turns its rails on and boots; one that has not, or one that is not stopped, does not (R405, R406, R407, R408, R409, R410, R411). -/
def Obligations.HeatAndStops : Prop :=
  (∀ (s : State), s.pwr.rails.powerGood = true →
      answers (.kettleSample) s ({ s with pwr := { s.pwr with sampling := true } }))
  ∧ (∀ (s : State) (readings : List SiteReading) (k n : Nat) (s0 s1 : State) (tmax t0 t1 : Int), s.pwr.rails.powerGood = true → s.pwr.sampling = true → n = (validSites readings).length → s0 = State.showSites { s with pwr := { s.pwr with sampling := false } } readings → hottest readings = some k → 20 ≤ n → s1 = s0 → tmax = (siteOf readings k).temp → t0 = s1.kettleStack readings tmax 0 → t1 = s1.kettleStack readings tmax 1 →
      answers (.kettleSampleDone readings) s (((((((s1.put PWR_KETTLE_STATUS_TMAX (unsignedOf 8 tmax)).put PWR_KETTLE_STATUS_SITE k).putB PWR_KETTLE_STATUS_DEGRADED false).putB PWR_KETTLE_STATUS_FAST
      (!(s1.asleep) && decide (s1.warnLimit - 5 ≤ tmax ∨ 90 ≤ max t0 t1))).judgeZones tmax (max t0 t1)).kettleActs n tmax k t0 t1)))
  ∧ (∀ (s : State) (readings : List SiteReading) (k n : Nat) (s0 s1 : State) (tmax t0 t1 : Int), s.pwr.rails.powerGood = true → s.pwr.sampling = true → n = (validSites readings).length → s0 = State.showSites { s with pwr := { s.pwr with sampling := false } } readings → hottest readings = some k → n < 20 → s1 = s0 → tmax = (siteOf readings k).temp + 5 → t0 = s1.kettleStack readings tmax 0 → t1 = s1.kettleStack readings tmax 1 →
      answers (.kettleSampleDone readings) s (((((((s1.put PWR_KETTLE_STATUS_TMAX (unsignedOf 8 tmax)).put PWR_KETTLE_STATUS_SITE k).putB PWR_KETTLE_STATUS_DEGRADED true).putB PWR_KETTLE_STATUS_FAST
      (!(s1.asleep) && decide (s1.warnLimit - 5 ≤ tmax ∨ 90 ≤ max t0 t1))).judgeZones tmax (max t0 t1)).kettleActs n tmax k t0 t1)))
  ∧ (∀ (s : State) (readings : List SiteReading) (k n : Nat) (s0 s1 : State) (tmax t0 t1 : Int), s.pwr.rails.powerGood = true → s.pwr.sampling = true → n = (validSites readings).length → s0 = State.showSites { s with pwr := { s.pwr with sampling := false } } readings → hottest readings = none → n < 20 → s1 = s0.freeNext → tmax = signedOf 8 s0.freeVal.toNat → k = s0.freeVal.toNat / 256 % 24 → t0 = s1.kettleStack readings tmax 0 → t1 = s1.kettleStack readings tmax 1 →
      answers (.kettleSampleDone readings) s (((((((s1.put PWR_KETTLE_STATUS_TMAX (unsignedOf 8 tmax)).put PWR_KETTLE_STATUS_SITE k).putB PWR_KETTLE_STATUS_DEGRADED true).putB PWR_KETTLE_STATUS_FAST
      (!(s1.asleep) && decide (s1.warnLimit - 5 ≤ tmax ∨ 90 ≤ max t0 t1))).judgeZones tmax (max t0 t1)).kettleActs n tmax k t0 t1)))
  ∧ (∀ (s : State) (readings : List SiteReading), s.pwr.rails.powerGood = true → s.pwr.sampling = false →
      answers (.kettleSampleDone readings) s (s))
  ∧ (∀ (s : State), s.pwr.rails.powerGood = true → s.pwr.throttle = true → s.get PWR_KETTLE_STATUS_STAGE < 5 → s.pwr.stageAt + s.stepHalfNs < s.now + s.tickHalfNs →
      answers (.throttleStep) s ((State.put { s with pwr := { s.pwr with stageAt := s.now } } PWR_KETTLE_STATUS_STAGE (s.get PWR_KETTLE_STATUS_STAGE + 1)).raise 100 0))
  ∧ (∀ (s : State), s.pwr.rails.powerGood = true → s.pwr.throttle = true → 5 ≤ s.get PWR_KETTLE_STATUS_STAGE ∨ s.now + s.tickHalfNs ≤ s.pwr.stageAt + s.stepHalfNs →
      answers (.throttleStep) s (s))
  ∧ (∀ (s : State), s.pwr.rails.powerGood = true → s.pwr.throttle = false → 0 < s.get PWR_KETTLE_STATUS_STAGE → s.pwr.stageAt + 10 * s.stepHalfNs < s.now + s.tickHalfNs →
      answers (.throttleStep) s ((State.put { s with pwr := { s.pwr with stageAt := s.now } } PWR_KETTLE_STATUS_STAGE (s.get PWR_KETTLE_STATUS_STAGE - 1)).raise 100 0))
  ∧ (∀ (s : State), s.pwr.rails.powerGood = true → s.pwr.throttle = false → s.get PWR_KETTLE_STATUS_STAGE = 0 ∨ s.now + s.tickHalfNs ≤ s.pwr.stageAt + 10 * s.stepHalfNs →
      answers (.throttleStep) s (s))
  ∧ (∀ (s : State) (c : Nat) (s1 : State), s.pwr.rails.powerGood = true → s.pwr.coolSince = some c → s.pwrState = 6 → c + 20000000000 < s.now + s.tickHalfNs → s1 = s.setRails (fun r => { r with enHbm := true, enSds := true, pgHbm := true, pgSds := true }) →
      answers (.stopWindowExpire) s (State.wakeBoot { s1 with pwr := { s1.pwr with thermN := s.pwr.warn || s.pwr.throttle } } true))
  ∧ (∀ (s : State), s.pwr.rails.powerGood = true → s.pwrState ≠ 6 ∨ s.pwr.coolSince = none →
      answers (.stopWindowExpire) s (s))
  ∧ (∀ (s : State) (c : Nat), s.pwr.rails.powerGood = true → s.pwr.coolSince = some c → s.now + s.tickHalfNs ≤ c + 20000000000 →
      answers (.stopWindowExpire) s (s))

/-- A message on a link that is down has no effect; one out of order, or with a bad CRC after a first one, only notes the moment; the first bad one is answered by a NAK. Else it is acknowledged, and for the primary's secondary REGW makes its writes, STACK, COMMIT and JOIN are mirrored, BUILD starts or waits for the build under way, FSTART in sync or for a sync frame and FEND of a known frame are queued, and HANDOVER takes over; on a device that is no secondary, or on another link, they have no further effect, but for a HANDOVER to a primary, which joins. POWER wakes, or asks a secondary for sleep, which loses sync where it refuses. ALIVE notes the partner; a primary ends a join on it once both are in sync, or starts a resync for a secondary out of sync. From the active parent TLID, TRESET, TARM and TBCAST go to the children and take effect here, and from another link they have no further effect. TTIME from the time source steers the time, from another not; TDELAY requests are answered, and a reply that is due gives the link delay. TSTATUS of a child adds the child (R418, R419, R422, R423, R424, R425, R426, R427, R430, R433, R435, R436). -/
def Obligations.EhrusMessages : Prop :=
  (∀ (s : State) (h : MsgHdr) (c : Instr), messageHeader c = some h → s.coreOn = true → 9 ≤ h.link ∨ s.ehlUp h.link = false → answers c s (s))
  ∧ (∀ (s : State) (h : MsgHdr) (c : Instr), messageHeader c = some h → s.coreOn = true → h.link < 9 → s.ehlUp h.link = true → h.crcOk = false → (s.ehlLink h.link).naked = false → answers c s ((s.setLink h.link (fun x => { x with naked := true })).ehlReply h.link false (s.ehlLink h.link).expect))
  ∧ (∀ (s : State) (h : MsgHdr) (c : Instr), messageHeader c = some h → s.coreOn = true → h.link < 9 → s.ehlUp h.link = true → (h.crcOk = false ∧ (s.ehlLink h.link).naked = true) ∨ (h.crcOk = true ∧ h.seq ≠ (s.ehlLink h.link).expect) → answers c s (s.setLink h.link (fun x => { x with lastRx := s.now })))
  ∧ (∀ (s u : State) (h : MsgHdr) (ws : List (Nat × Word)) (sm : StackMsg) (cm : CommitMsg), s.coreOn = true → s.accepts h → u = s.acked h → h.link = 0 → u.isSecondary = true →
      answers (.regw h ws) s ((ws.take 512).foldl (fun (st : State) (e : Nat × Word) => st.hostWrite e.1 e.2) u)
      ∧ answers (.stack h sm) s (u.mirrorStack sm false)
      ∧ answers (.commit h cm) s (u.takeCommit cm)
      ∧ answers (.handover h) s ((u.takeover).startJoin))
  ∧ (∀ (s u : State) (h : MsgHdr) (bm : BuildMsg), s.coreOn = true → s.accepts h → u = s.acked h → h.link = 0 → u.isSecondary = true →
      (u.buildBusy = false → answers (.build h bm) s (u.mirroredBuild bm (u.instantBefore u.ptpTickEnd)))
      ∧ (u.buildBusy = true → answers (.build h bm) s { u with cam := { u.cam with buildMsg := some (bm, u.instantBefore u.ptpTickEnd) } }))
  ∧ (∀ (s u : State) (h : MsgHdr) (r : FrameRec) (f : FendRec), s.coreOn = true → s.accepts h → u = s.acked h → h.link = 0 → u.isSecondary = true →
      (u.on EHL_STATUS_IN_SYNC = true ∨ r.full = true → answers (.fstart h r) s (u.queueFrameMsg (.fstart r)))
      ∧ (u.on EHL_STATUS_IN_SYNC = false → r.full = false → answers (.fstart h r) s u)
      ∧ (u.knowsFrame f.frame = true → answers (.fend h f) s (u.queueFrameMsg (.fend f)))
      ∧ (u.knowsFrame f.frame = false → answers (.fend h f) s u))
  ∧ (∀ (s u : State) (h : MsgHdr) (a : Nat) (bs : List Byte) (cm : CommitMsg) (sm : StackMsg) (cur : Bool), s.coreOn = true → s.accepts h → u = s.acked h → h.link = 0 → u.isSecondary = true →
      answers (.join h (.bytes a bs)) s (u.memWrite clientEhl a bs)
      ∧ answers (.join h (.commit cm)) s (u.takeCurrent cm)
      ∧ answers (.join h (.stack sm cur)) s (u.mirrorStack sm cur)
      ∧ answers (.join h .done) s u)
  ∧ (∀ (s u : State) (h : MsgHdr) (ws : List (Nat × Word)) (sm : StackMsg) (cm : CommitMsg) (bm : BuildMsg) (r : FrameRec) (f : FendRec) (j : JoinMsg), s.coreOn = true → s.accepts h → u = s.acked h → h.link ≠ 0 ∨ u.isSecondary = false →
      answers (.regw h ws) s u
      ∧ answers (.stack h sm) s u
      ∧ answers (.commit h cm) s u
      ∧ answers (.build h bm) s u
      ∧ answers (.fstart h r) s u
      ∧ answers (.fend h f) s u
      ∧ answers (.join h j) s u
      ∧ (h.link = 0 → u.pairState = pairPrimary → answers (.handover h) s (u.startJoin))
      ∧ (h.link ≠ 0 ∨ u.pairState ≠ pairPrimary → answers (.handover h) s u))
  ∧ (∀ (s u : State) (h : MsgHdr) (pair op : Nat) (sync : Bool), s.coreOn = true → s.accepts h → u = s.acked h → h.link ≠ 0 →
      answers (.alive h pair sync) s u
      ∧ answers (.power h op) s u)
  ∧ (∀ (s u : State) (h : MsgHdr) (op : Nat), s.pwr.rails.powerGood = true → s.accepts h → u = s.acked h → h.link = 0 →
      answers (.power h 3) s (u.wake wakePartner)
      ∧ (op ≠ 3 → u.isSecondary = false → answers (.power h op) s u)
      ∧ (op ≠ 3 → u.isSecondary = true → State.sleepRefusal u (op == 2) false = none → answers (.power h op) s (State.sleepCmd u (op == 2) false))
      ∧ (op ≠ 3 → u.isSecondary = true → State.sleepRefusal u (op == 2) false ≠ none → answers (.power h op) s ((State.sleepCmd u (op == 2) false).desync 5)))
  ∧ (∀ (s u : State) (h : MsgHdr) (pair : Nat) (sync : Bool) (t : State), s.coreOn = true → s.accepts h → u = s.acked h → h.link = 0 → t = { u with ehl := { u.ehl with lastAlive := u.now, partnerPair := pair, partnerSync := sync } } →
      (t.pairState ≠ pairPrimary → answers (.alive h pair sync) s t)
      ∧ (t.pairState = pairPrimary → t.on EHL_STATUS_JOINING = false → t.on EHL_STATUS_IN_SYNC = true → sync = false → pair = pairSecondary → answers (.alive h pair sync) s t.startJoin)
      ∧ (t.pairState = pairPrimary → t.on EHL_STATUS_JOINING = true → t.ehl.selfDone = true → sync = true → answers (.alive h pair sync) s (State.enterSync { t with ehl := { t.ehl with selfDone := false } }))
      ∧ (t.pairState = pairPrimary → t.on EHL_STATUS_JOINING = true → t.ehl.selfDone = false ∨ sync = false → answers (.alive h pair sync) s t)
      ∧ (t.pairState = pairPrimary → t.on EHL_STATUS_JOINING = false → t.on EHL_STATUS_IN_SYNC = false ∨ sync = true ∨ pair ≠ pairSecondary → answers (.alive h pair sync) s t))
  ∧ (∀ (s u : State) (h : MsgHdr) (q t k mask a : Nat) (fr : Bool) (bs : List Byte) (v w : State), s.coreOn = true → s.accepts h → u = s.acked h → u.hasParent = true → h.link = u.parentLink → v = u.toChildren (.treset k t) → w = u.toChildren (.tbcast mask a bs) →
      answers (.tlid h q t) s ((u.toChildren (.tlid q t)).takeLid q t)
      ∧ answers (.treset h k t) s { v with ehl := { v.ehl with treeReset := some (k, t) } }
      ∧ answers (.tarm h fr t) s ((u.toChildren (.tarm fr t)).armHere fr t)
      ∧ (w.inRegion 0 a bs.length = true → answers (.tbcast h mask a bs) s ((w.dmaWrite clientEhl writerHost a bs 0).1))
      ∧ (w.inRegion 0 a bs.length = false → answers (.tbcast h mask a bs) s w))
  ∧ (∀ (s u : State) (h : MsgHdr) (q t k mask a : Nat) (fr : Bool) (bs : List Byte), s.coreOn = true → s.accepts h → u = s.acked h → u.hasParent = false ∨ h.link ≠ u.parentLink →
      answers (.tlid h q t) s u
      ∧ answers (.treset h k t) s u
      ∧ answers (.tarm h fr t) s u
      ∧ answers (.tbcast h mask a bs) s u)
  ∧ (∀ (s u : State) (h : MsgHdr) (ns sent : Nat), s.coreOn = true → s.accepts h → u = s.acked h → 
      (u.timeLink = some h.link → answers (.ttime h ns) s (u.steer ns))
      ∧ (u.timeLink ≠ some h.link → answers (.ttime h ns) s u)
      ∧ answers (.tdelay h (.request sent)) s (u.ehlSend h.link (.tdelay (.reply sent u.ptpTotalNs u.ptpTotalNs))))
  ∧ (∀ (s u : State) (h : MsgHdr) (sent received replied : Nat) (d : Int), s.coreOn = true → s.accepts h → u = s.acked h → d = ((u.ptpTotalNs : Int) - (sent : Int) - ((replied : Int) - (received : Int))) / 2 + signedOf 32 (u.rdN EHL_TIME_ASYM) →
      (u.timeLink = some h.link → u.ehl.delay.isSome = true → answers (.tdelay h (.reply sent received replied)) s (State.wrN { u with ehl := { u.ehl with delay := none } } EHL_LINK_DELAY (clampInt 0 65535 d).toNat))
      ∧ (u.timeLink ≠ some h.link ∨ u.ehl.delay.isSome = false → answers (.tdelay h (.reply sent received replied)) s u))
  ∧ (∀ (s u : State) (h : MsgHdr), s.coreOn = true → s.accepts h → u = s.acked h →
      (5 ≤ h.link → u.on EHL_CFG_TREE_EN = true → answers (.tstatus h) s (u.put EHL_STATUS_CHILDREN (u.get EHL_STATUS_CHILDREN ||| 2 ^ (h.link - 5))))
      ∧ (h.link < 5 ∨ u.on EHL_CFG_TREE_EN = false → answers (.tstatus h) s u))

/-- ALIVE leaves every 0.5 us on a pair link that is up, TTIME every 1 ms, a TDELAY request where there is a time source; before its time, or without a source, nothing does. An ACK releases what it covers, and on a primary whose pair link is then free the join goes on; a NAK, or 2 us without an ACK, replays what is left. A pair link that comes up arbitrates the roles with source 800, and a pair that was up keeps them, a secondary out for too long without its sync; one that is 100 ms without link is SOLO. A partner silent for its window makes a secondary take over, and a primary SOLO, with source 801. A lag beyond EHL_LAG_MAX costs a secondary its sync. RESYNC, HANDOVER, TAKEOVER and the tree commands act where the role allows them and raise source 812 elsewhere. What is due at a time is taken in the tick that reaches it. A broadcast leaves for the children named, or fails with its error; it ends with source 815 or 814. A parent silent for 10 us is lost. A lane that leaves UP raises source 808, and its pair link, child or parent goes; one that comes up joins the tree, or adds its child. Time lock comes and goes with source 816 (R418, R419, R421, R424, R425, R427, R431, R433, R434, R435, R436, R438). -/
def Obligations.PairsAndHierarchies : Prop :=
  (∀ (s : State) (s1 : State), s.coreOn = true → s.ehl.linkUp = true → s.ehl.aliveSent + 1000 < s.now + s.tickHalfNs → s1 = s.ehlSend 0 (.alive (s.evc.tick % 2 ^ 64) s.pairState (!s.drives) (s.on EHL_STATUS_IN_SYNC)) →
      answers (.aliveSend) s ({ s1 with ehl := { s1.ehl with aliveSent := s.now } }))
  ∧ (∀ (s : State), s.coreOn = true → s.ehl.linkUp = false ∨ s.now + s.tickHalfNs ≤ s.ehl.aliveSent + 1000 →
      answers (.aliveSend) s (s))
  ∧ (∀ (s : State) (s1 : State), s.coreOn = true → s.ehl.ttimeSent + 2000000 < s.now + s.tickHalfNs → s1 = ((s.toChildren (.ttime s.ptpTotalNs))).ehlSend 0 (.ttime s.ptpTotalNs) →
      answers (.ttimeSend) s ({ s1 with ehl := { s1.ehl with ttimeSent := s.now } }))
  ∧ (∀ (s : State), s.coreOn = true → s.now + s.tickHalfNs ≤ s.ehl.ttimeSent + 2000000 →
      answers (.ttimeSend) s (s))
  ∧ (∀ (s : State) (l : Nat) (s1 : State), s.coreOn = true → s.timeLink = some l → s1 = s.ehlSend l (.tdelay (.request s.ptpTotalNs)) →
      answers (.tdelayExchange) s ({ s1 with ehl := { s1.ehl with delay := some s.now } }))
  ∧ (∀ (s : State), s.coreOn = true → s.timeLink = none →
      answers (.tdelayExchange) s (s))
  ∧ (∀ (s : State) (l seq : Nat) (s1 : State), s.coreOn = true → s1 = s.setLink l (fun x => { x with unacked := (s.ehlLink l).unacked.filter (fun m => !seqUpTo m.1 seq), sentAt := s.now, lastRx := s.now }) → l ≠ 0 ∨ s.pairState ≠ pairPrimary ∨ (s1.ehlLink 0).unacked ≠ [] ∨ (s1.ehlLink 0).waiting ≠ [] →
      answers (.ehlAck l seq) s (s1))
  ∧ (∀ (s : State) (seq : Nat) (s1 : State), s.coreOn = true → s1 = s.setLink 0 (fun x => { x with unacked := (s.ehlLink 0).unacked.filter (fun m => !seqUpTo m.1 seq), sentAt := s.now, lastRx := s.now }) → s.pairState = pairPrimary → (s1.ehlLink 0).unacked = [] → (s1.ehlLink 0).waiting = [] →
      answers (.ehlAck 0 seq) s (s1.pumpJoin))
  ∧ (∀ (s : State) (l seq : Nat), s.coreOn = true →
      answers (.ehlNak l seq) s ((s.setLink l (fun x => { x with unacked := (s.ehlLink l).unacked.filter (fun m => seqUpTo seq m.1), lastRx := s.now })).ehlReplay l))
  ∧ (∀ (s : State) (l : Nat), s.coreOn = true → (s.ehlLink l).unacked ≠ [] → (s.ehlLink l).sentAt + 4000 < s.now + s.tickHalfNs →
      answers (.ehlReplayTimeout l) s (s.ehlReplay l))
  ∧ (∀ (s : State) (l : Nat), s.coreOn = true → (s.ehlLink l).unacked = [] ∨ s.now + s.tickHalfNs ≤ (s.ehlLink l).sentAt + 4000 →
      answers (.ehlReplayTimeout l) s (s))
  ∧ (∀ (s : State) (far : PairFar) (prio : Bool) (uid : Nat) (s1 s2 : State), s.coreOn = true → s.on EHL_CFG_PAIR_EN = true → s.pairState ≠ pairUnpaired → s.ehl.linkUp = false → s1 = (List.range 8).foldl (fun st l => st.laneUp l (far.eyes.getD l 0)) s → s2 = State.setLink { s1 with ehl := { s1.ehl with linkUp := true, lastAlive := s.now, aliveSent := s.now, partnerPair := far.pair } } 0 (fun _ => linkAt s.now) → ((s.pairState = pairPrimary ∧ far.pair = pairSecondary) ∨ (s.pairState = pairSecondary ∧ far.pair = pairPrimary)) → s.partnerGone = false →
      answers (.pairLinkUp far prio uid) s (s2.raise 800 0))
  ∧ (∀ (s : State) (far : PairFar) (prio : Bool) (uid : Nat) (s1 s2 : State), s.coreOn = true → s.on EHL_CFG_PAIR_EN = true → s.pairState ≠ pairUnpaired → s.ehl.linkUp = false → s1 = (List.range 8).foldl (fun st l => st.laneUp l (far.eyes.getD l 0)) s → s2 = State.setLink { s1 with ehl := { s1.ehl with linkUp := true, lastAlive := s.now, aliveSent := s.now, partnerPair := far.pair } } 0 (fun _ => linkAt s.now) → ((s.pairState = pairPrimary ∧ far.pair = pairSecondary) ∨ (s.pairState = pairSecondary ∧ far.pair = pairPrimary)) → s.partnerGone = true →
      answers (.pairLinkUp far prio uid) s ((s2.desync 4).raise 800 0))
  ∧ (∀ (s : State) (far : PairFar) (prio : Bool) (uid : Nat) (s1 s2 : State), s.coreOn = true → s.on EHL_CFG_PAIR_EN = true → s.pairState ≠ pairUnpaired → s.ehl.linkUp = false → s1 = (List.range 8).foldl (fun st l => st.laneUp l (far.eyes.getD l 0)) s → s2 = State.setLink { s1 with ehl := { s1.ehl with linkUp := true, lastAlive := s.now, aliveSent := s.now, partnerPair := far.pair } } 0 (fun _ => linkAt s.now) → ¬((s.pairState = pairPrimary ∧ far.pair = pairSecondary) ∨ (s.pairState = pairSecondary ∧ far.pair = pairPrimary)) → (s.arbitrate far.pair prio uid).1 = true →
      answers (.pairLinkUp far prio uid) s ((((s2.setPair pairPrimary).startJoin).raise 800 0).raiseIf (s.arbitrate far.pair prio uid).2 812 0))
  ∧ (∀ (s : State) (far : PairFar) (prio : Bool) (uid : Nat) (s1 s2 : State), s.coreOn = true → s.on EHL_CFG_PAIR_EN = true → s.pairState ≠ pairUnpaired → s.ehl.linkUp = false → s1 = (List.range 8).foldl (fun st l => st.laneUp l (far.eyes.getD l 0)) s → s2 = State.setLink { s1 with ehl := { s1.ehl with linkUp := true, lastAlive := s.now, aliveSent := s.now, partnerPair := far.pair } } 0 (fun _ => linkAt s.now) → ¬((s.pairState = pairPrimary ∧ far.pair = pairSecondary) ∨ (s.pairState = pairSecondary ∧ far.pair = pairPrimary)) → (s.arbitrate far.pair prio uid).1 = false →
      answers (.pairLinkUp far prio uid) s (((s2.enterSecondary).raise 800 0).raiseIf (s.arbitrate far.pair prio uid).2 812 0))
  ∧ (∀ (s : State) (far : PairFar) (prio : Bool) (uid : Nat), s.coreOn = true → s.on EHL_CFG_PAIR_EN = false ∨ s.pairState = pairUnpaired ∨ s.ehl.linkUp = true →
      answers (.pairLinkUp far prio uid) s (s))
  ∧ (∀ (s : State), s.coreOn = true → s.pairState = pairLinking → s.ehl.linkUp = false → s.ehl.since + 200000000 < s.now + s.tickHalfNs →
      answers (.pairLinkTimeout) s (s.setPair pairSolo))
  ∧ (∀ (s : State), s.coreOn = true → s.pairState ≠ pairLinking ∨ s.ehl.linkUp = true ∨ s.now + s.tickHalfNs ≤ s.ehl.since + 200000000 →
      answers (.pairLinkTimeout) s (s))
  ∧ (∀ (s : State), s.coreOn = true → s.partnerGone = true → s.isSecondary = true →
      answers (.partnerSilent) s ((s.raise 801 0).takeover))
  ∧ (∀ (s : State) (s1 : State), s.coreOn = true → s.partnerGone = true → s.pairState = pairPrimary → s.ehl.partnerPair ≠ 0 → s1 = (((s.setPair pairSolo).put EHL_STATUS_IN_SYNC 0).put EHL_STATUS_JOINING 0).raise 801 0 →
      answers (.partnerSilent) s ({ s1 with ehl := { s1.ehl with partnerPair := 0, joinLeft := [], syncFrame := 0, selfDone := false } }))
  ∧ (∀ (s : State), s.coreOn = true → s.partnerGone = false ∨ (s.isSecondary = false ∧ (s.pairState ≠ pairPrimary ∨ s.ehl.partnerPair = 0)) →
      answers (.partnerSilent) s (s))
  ∧ (∀ (s : State), s.coreOn = true → s.isSecondary = true → 0 < s.lagHalfNs → 2000 * s.bits EHL_LAG_MAX 15 0 < s.lagHalfNs + s.tickHalfNs →
      answers (.lagMaxReached) s (s.desync 1))
  ∧ (∀ (s : State), s.coreOn = true → s.isSecondary = false ∨ s.lagHalfNs = 0 ∨ s.lagHalfNs + s.tickHalfNs ≤ 2000 * s.bits EHL_LAG_MAX 15 0 →
      answers (.lagMaxReached) s (s))
  ∧ (∀ (s : State), s.reaches EHL_CMD → s.pairState = pairPrimary → s.ehl.linkUp = true →
      answers (.ehlResync) s (s.startJoin))
  ∧ (∀ (s : State), s.reaches EHL_CMD → s.pairState ≠ pairPrimary ∨ s.ehl.linkUp = false →
      answers (.ehlResync) s (s.raiseOnce 812 0))
  ∧ (∀ (s : State), s.reaches EHL_CMD → s.pairState = pairPrimary → s.ehl.linkUp = true → s.on EHL_STATUS_IN_SYNC = true →
      answers (.ehlHandover) s (s.handOver))
  ∧ (∀ (s : State), s.reaches EHL_CMD → s.pairState ≠ pairPrimary ∨ s.ehl.linkUp = false ∨ s.on EHL_STATUS_IN_SYNC = false →
      answers (.ehlHandover) s (s.raiseOnce 812 0))
  ∧ (∀ (s : State), s.reaches EHL_CMD → s.isSecondary = true →
      answers (.ehlTakeover) s (s.takeover))
  ∧ (∀ (s : State), s.reaches EHL_CMD → s.isSecondary = false →
      answers (.ehlTakeover) s (s.raiseOnce 812 0))
  ∧ (∀ (s : State) (q : Nat), s.reaches EHL_CMD → s.manages = false → answers (.treeLid q) s (s.raiseOnce 812 0) ∧ answers (.treeReset q) s (s.raiseOnce 812 0)
      ∧ answers .snapArm s (s.raiseOnce 812 0) ∧ answers .freezeArm s (s.raiseOnce 812 0))
  ∧ (∀ (s : State) (q : Nat), s.reaches EHL_CMD → s.manages = true →
      answers (.treeLid q) s ((s.toChildren (.tlid (q % 65536) s.treeTime)).takeLid (q % 65536) s.treeTime))
  ∧ (∀ (s : State) (k : Nat) (s1 : State), s.reaches EHL_CMD → s.manages = true → k = 1 ∨ k = 2 → s1 = s.toChildren (.treset k s.treeTime) →
      answers (.treeReset k) s ({ s1 with ehl := { s1.ehl with treeReset := some (k, s.treeTime) } }))
  ∧ (∀ (s : State) (k : Nat), s.reaches EHL_CMD → k ≠ 1 → k ≠ 2 →
      answers (.treeReset k) s (s.raiseOnce 812 0))
  ∧ (∀ (s : State), s.reaches EHL_CMD → s.manages = true →
      answers (.snapArm) s ((s.toChildren (.tarm false s.snapTarget)).armHere false s.snapTarget))
  ∧ (∀ (s : State), s.reaches EHL_CMD → s.manages = true →
      answers (.freezeArm) s ((s.toChildren (.tarm true s.snapTarget)).armHere true s.snapTarget))
  ∧ (∀ (s : State) (s1 : State), s.coreOn = true → s1 = { s with ehl := { s.ehl with lids := s.ehl.lids.filter (fun e => !decide (e.2 < s.ptpTickEnd)) } } →
      answers (.lidApply) s ((s.ehl.lids.filter (fun e => decide (e.2 < s.ptpTickEnd))).foldl (fun (st : State) e => st.applyLid e.1 e.2 false) s1))
  ∧ (∀ (s : State) (k t : Nat), s.coreOn = true → s.ehl.treeReset = some (k, t) → t < s.ptpTickEnd →
      answers (.treeResetApply) s (State.treeKind { s with ehl := { s.ehl with treeReset := none } } k))
  ∧ (∀ (s : State), s.coreOn = true → ∀ e ∈ s.ehl.treeReset, s.ptpTickEnd ≤ e.2 →
      answers (.treeResetApply) s (s))
  ∧ (∀ (s : State) (t f : Nat), s.coreOn = true → s.ehl.arm = some (false, t, f) → t < s.ptpTickEnd → f ≤ s.now →
      answers (.snapshotTake) s ((State.put { s with ehl := { s.ehl with arm := none } } ⟨EHL_SNAP_STATUS, 0, 0⟩ 0).ownSnapshot))
  ∧ (∀ (s : State) (t f : Nat), s.coreOn = true → s.ehl.arm = some (true, t, f) → t < s.ptpTickEnd → f ≤ s.now →
      answers (.snapshotTake) s ((State.put { s with ehl := { s.ehl with arm := none } } ⟨EHL_SNAP_STATUS, 0, 0⟩ 0).freezeImage))
  ∧ (∀ (s : State), s.coreOn = true → ∀ e ∈ s.ehl.arm, s.ptpTickEnd ≤ e.2.1 ∨ s.now < e.2.2 →
      answers (.snapshotTake) s (s))
  ∧ (∀ (s : State) (val : Word) (mask len : Nat) (s1 s2 : State), s.reaches EHL_BC_CTRL → mask = val.toNat % 16 → len = s.rdN EHL_BC_LEN / 8 * 8 → s.bits EHL_BC_STATUS 1 0 ≠ 1 → s.bcSrc + len ≤ memSize → (∀ n < 4, bitAt mask n = true → s.ehlUp (5 + n) = true) → s1 = (s.wrN EHL_BC_CTRL mask).wrN EHL_BC_STATUS 1 → s2 = { s1 with ehl := { s1.ehl with bcast := some (mask, mask) } } →
      answers (.bcastStart val) s ((List.range (ceilDiv len 1024)).foldl (fun st k => (List.range 4).foldl (fun st1 n => if bitAt mask n then
        st1.ehlSend (5 + n) (.tbcast 15 (s.bcDst + 1024 * k) (s.memRead (s.bcSrc + 1024 * k) (min 1024 (len - 1024 * k)))) else st1) st) s2))
  ∧ (∀ (s : State) (val : Word), s.reaches EHL_BC_CTRL → s.bits EHL_BC_STATUS 1 0 = 1 →
      answers (.bcastStart val) s (s.wrN EHL_BC_CTRL (val.toNat % 16)))
  ∧ (∀ (s : State) (val : Word), s.reaches EHL_BC_CTRL → s.bits EHL_BC_STATUS 1 0 ≠ 1 → memSize < s.bcSrc + s.rdN EHL_BC_LEN / 8 * 8 →
      answers (.bcastStart val) s ((s.wrN EHL_BC_CTRL (val.toNat % 16)).bcFail 1))
  ∧ (∀ (s : State) (val : Word) (n : Nat), s.reaches EHL_BC_CTRL → s.bits EHL_BC_STATUS 1 0 ≠ 1 → s.bcSrc + s.rdN EHL_BC_LEN / 8 * 8 ≤ memSize → n < 4 → bitAt (val.toNat % 16) n = true → s.ehlUp (5 + n) = false →
      answers (.bcastStart val) s ((s.wrN EHL_BC_CTRL (val.toNat % 16)).bcFail 2))
  ∧ (∀ (s : State) (s1 : State), s.coreOn = true → s.bits EHL_BC_STATUS 1 0 = 1 → s1 = (s.wrN EHL_BC_STATUS 2).raise 815 0 →
      answers (.bcastDone 0) s ({ s1 with ehl := { s1.ehl with bcast := none } }))
  ∧ (∀ (s : State) (err : Nat), s.coreOn = true → s.bits EHL_BC_STATUS 1 0 = 1 → err ≠ 0 →
      answers (.bcastDone err) s (s.bcFail (err % 256)))
  ∧ (∀ (s : State) (err : Nat), s.coreOn = true → s.bits EHL_BC_STATUS 1 0 ≠ 1 →
      answers (.bcastDone err) s (s))
  ∧ (∀ (s : State), s.coreOn = true → s.hasParent = true → (s.ehlLink s.parentLink).lastRx + 20000 < s.now + s.tickHalfNs →
      answers (.parentSilent) s (s.loseParent))
  ∧ (∀ (s : State), s.coreOn = true → s.hasParent = false ∨ s.now + s.tickHalfNs ≤ (s.ehlLink s.parentLink).lastRx + 20000 →
      answers (.parentSilent) s (s))
  ∧ (∀ (s s0 s1 : State) (l : Nat) (failed : Bool), s.coreOn = true → l < 16 → s.get (EHL_LANE_STATUS_STATE l) = 2 →
      s0 = (s.put (EHL_LANE_STATUS_STATE l) (if failed then 3 else 1)).raiseMask 808 (2 ^ l) → s1 = { s0 with ehl := { s0.ehl with elastic := s0.ehl.elastic.set l none } } →
      (l < 8 → answers (.laneDown l failed) s { s1 with ehl := { s1.ehl with linkUp := false } })
      ∧ (12 ≤ l → answers (.laneDown l failed) s (s1.putBit EHL_STATUS (16 + (l - 12)) false))
      ∧ (8 ≤ l → l < 12 → s.hasParent = true → s.get EHL_STATUS_PARENT = l - 8 → answers (.laneDown l failed) s s1.loseParent)
      ∧ (8 ≤ l → l < 12 → s.hasParent = false ∨ s.get EHL_STATUS_PARENT ≠ l - 8 → answers (.laneDown l failed) s { s1 with ehl := { s1.ehl with parents := s1.ehl.parents.set (l - 8) none } }))
  ∧ (∀ (s : State) (l : Nat) (failed : Bool), s.coreOn = true → 16 ≤ l ∨ s.get (EHL_LANE_STATUS_STATE l) ≠ 2 →
      answers (.laneDown l failed) s (s))
  ∧ (∀ (s : State), s.coreOn = true → s.on EHL_STATUS_LOCK = true → s.ehl.lockAt = none →
      answers (.timeLockChanged) s ((s.put EHL_STATUS_LOCK 0).raise 816 0))
  ∧ (∀ (s : State) (t : Nat), s.coreOn = true → s.on EHL_STATUS_LOCK = false → s.ehl.lockAt = some t → t + 2000000000 < s.now + s.tickHalfNs →
      answers (.timeLockChanged) s ((s.put EHL_STATUS_LOCK 1).raise 816 0))
  ∧ (∀ (s : State), s.coreOn = true → (s.on EHL_STATUS_LOCK = true ∧ s.ehl.lockAt.isSome = true) ∨ (s.on EHL_STATUS_LOCK = false ∧ ∀ t ∈ s.ehl.lockAt, s.now + s.tickHalfNs ≤ t + 2000000000) →
      answers (.timeLockChanged) s (s))
  ∧ (∀ (s s1 s2 : State) (l : Nat) (far : LaneFar), s.coreOn = true → 8 ≤ l → l < 16 → s1 = (s.laneUp l far.eye).setLink (laneLink l) (fun _ => linkAt s.now) →
      s2 = { s1 with ehl := { s1.ehl with parents := s1.ehl.parents.set (l - 8) far.level } } →
      (s.on EHL_CFG_TREE_EN = false → answers (.hierarchyLaneUp l far) s s1)
      ∧ (s.on EHL_CFG_TREE_EN = true → 12 ≤ l → far.level.isSome = true → answers (.hierarchyLaneUp l far) s (s1.put EHL_STATUS_CHILDREN (s1.get EHL_STATUS_CHILDREN ||| 2 ^ (l - 12))))
      ∧ (s.on EHL_CFG_TREE_EN = true → 12 ≤ l → far.level = none → answers (.hierarchyLaneUp l far) s s1)
      ∧ (s.on EHL_CFG_TREE_EN = true → l < 12 → s.on EHL_CFG_MANAGER = false → s.hasParent = false → far.level.isSome = true → answers (.hierarchyLaneUp l far) s (((s2.pickParent).sendStatus).raiseMask 809 (2 ^ l)))
      ∧ (s.on EHL_CFG_TREE_EN = true → l < 12 → s.on EHL_CFG_MANAGER = true ∨ s.hasParent = true ∨ far.level = none → answers (.hierarchyLaneUp l far) s s2))
  ∧ (∀ (s : State) (l : Nat) (far : LaneFar), s.coreOn = true → l < 8 ∨ 15 < l →
      answers (.hierarchyLaneUp l far) s (s))

/-- A trained PCIe link shows its speed and width, with source 9 below 32 GT/s x8. A FUNCTION reset puts the host-facing state at reset with source 0, and with source 9 where the link was lost; a wider reset absorbs it. A GCTL_RESET write with KEY resets fully or asks for an IMAGE reset, one without is discarded with source 2. RESET_N resets fully, in DEEP_SLEEP it turns the rails on, in STOPPED it is noted, and without power it does nothing. A rise of PWR_GOOD with the rails enabled starts the boot at FUSES; a fall of it drops CORE and the enables, a fall of PG_HBM or PG_SDS drops them for a later boot; 10 ms later both enables are high again. When both rails are good a waiting boot or wake runs. When VDD_AON falls everything but the fuses and what outlasts every reset is lost. The FUSES stage ends in the image load, APPLY in LINK or in a boot held for ACK, and the first frame starts once no group trains. BOOT_LATE is raised once, 1.8 s after power-good. SAVE and RESTORE start, or are refused with BUSY or REGION; a SAVE stores the record, a RESTORE takes a good one and names the error of another (R440, R446, R447, R448, R449, R450, R451, R453, R454, R463, R464). -/
def Obligations.ResetsRailsAndBoot : Prop :=
  (∀ (s : State) (speed width : Nat) (s1 : State), s.pwr.rails.powerGood = true → s.pllLocked pllPcie = true → speed < 8 → width < 16 → s1 = s.wrN GCTL_PCIE_STATUS (speed + 2 ^ 4 * width + 2 ^ 8) →
      answers (.pcieLinkTrained speed width) s (State.raiseIf { s1 with pcie := { s1.pcie with linkSeen := true } } (decide (speed < 5 ∨ width < 8)) 9 0))
  ∧ (∀ (s : State) (s1 : State), s.pwr.rails.powerGood = true → s.pllLocked pllPcie = true → s.pwrState ≠ 5 → s.pwrState ≠ 6 → s.pcie.resetAsked = none → s.pcie.resetTick ≠ some s.evc.tick → s1 = (s.functionState.put GCTL_BOOT_STATUS_LAST_RESET 3).raise 0 3 →
      answers (.functionReset false) s ({ s1 with pcie := { s1.pcie with fnSaved := some (s.evc.tick, s.bits GCTL_BAR2_SIZE 5 0, s.pcie.msixEn, s.pcie.funcMask, s.pcie.d3) } }))
  ∧ (∀ (s : State) (s1 : State), s.pwr.rails.powerGood = true → s.pllLocked pllPcie = true → s.pwrState ≠ 5 → s.pwrState ≠ 6 → s.pcie.resetAsked = none → s.pcie.resetTick ≠ some s.evc.tick → s1 = (((s.functionState.wrN GCTL_PCIE_STATUS 0).raise 9 0).put GCTL_BOOT_STATUS_LAST_RESET 3).raise 0 3 →
      answers (.functionReset true) s ({ s1 with pcie := { s1.pcie with fnSaved := some (s.evc.tick, s.bits GCTL_BAR2_SIZE 5 0, s.pcie.msixEn, s.pcie.funcMask, s.pcie.d3) } }))
  ∧ (∀ (s : State) (lost : Bool), s.pwr.rails.powerGood = true → s.pllLocked pllPcie = true → s.pwrState = 5 ∨ s.pwrState = 6 ∨ s.pcie.resetAsked ≠ none ∨ s.pcie.resetTick = some s.evc.tick →
      answers (.functionReset lost) s (s))
  ∧ (∀ (s : State) (val : Word), s.reaches GCTL_RESET → resetKeyOk val = true →
      answers (.gctlResetFull val) s (s.fullReset 2))
  ∧ (∀ (s : State) (val : Word), s.reaches GCTL_RESET → resetKeyOk val = true →
      answers (.gctlResetImage val) s (s.askImageReset (GCTL_RESET_SRC.ext val == 1) 2))
  ∧ (∀ (s : State) (val : Word), s.reaches GCTL_RESET → resetKeyOk val = false →
      answers (.gctlResetFull val) s (s.accessFault 1 GCTL_RESET 2) ∧ answers (.gctlResetImage val) s (s.accessFault 1 GCTL_RESET 2))
  ∧ (∀ (s : State), s.pwr.rails.powerGood = true → s.pwr.rails.waiting = false → s.pwrState ≠ 5 → s.pwrState ≠ 6 →
      answers (.resetPin) s (s.fullReset 1))
  ∧ (∀ (s : State), s.pwr.rails.powerGood = true → s.pwr.rails.waiting = false → s.pwrState = 6 →
      answers (.resetPin) s ({ s with pwr := { s.pwr with pinAsked := true } }))
  ∧ (∀ (s : State), s.pwr.rails.powerGood = true → s.pwr.rails.waiting = false → s.pwrState = 5 →
      answers (.resetPin) s (State.setRails { s with pwr := { s.pwr with pinAsked := true } } (fun r => { r with enHbm := true, enSds := true, waiting := true })))
  ∧ (∀ (s : State), s.pwr.rails.powerGood = false ∨ s.pwr.rails.waiting = true →
      answers (.resetPin) s (s))
  ∧ (∀ (s : State) (boot : Bool), s.pwr.rails.aonGood = true → s.pwr.rails.enHbm = true → s.pwr.rails.enSds = true →
      answers (.powerGoodRise boot) s (((State.fullState { s with pcie := { s.pcie with bootSel := boot } } 0).setRails (fun r => { r with powerGood := true, pgHbm := true, pgSds := true, waiting := false })).wrN PWR_PLL_STATUS 1))
  ∧ (∀ (s : State) (boot : Bool), s.pwr.rails.aonGood = false ∨ s.pwr.rails.enHbm = false ∨ s.pwr.rails.enSds = false →
      answers (.powerGoodRise boot) s (s))
  ∧ (∀ (s : State), s.pwr.rails.powerGood = true →
      answers (.powerGoodFall) s (((s.dropCore).put ⟨PWR_STATE, 2, 0⟩ 0).setRails (fun r => { r with powerGood := false, enHbm := false, enSds := false, pgHbm := false, pgSds := false, waiting := false, fallAt := s.now })))
  ∧ (∀ (s : State), s.pwr.rails.powerGood = false →
      answers (.powerGoodFall) s (s))
  ∧ (∀ (s : State), s.pwrState ≠ 5 → s.pwr.rails.enSds = true → s.pwr.rails.pgSds = true →
      answers (.railPgFall true) s (((s.dropCore).put ⟨PWR_STATE, 2, 0⟩ 0).setRails (fun r => { r with enHbm := false, enSds := false, pgHbm := false, pgSds := false, waiting := true, fallAt := s.now })))
  ∧ (∀ (s : State), s.pwrState ≠ 5 → s.pwr.rails.enHbm = true → s.pwr.rails.pgHbm = true →
      answers (.railPgFall false) s (((s.dropCore).put ⟨PWR_STATE, 2, 0⟩ 0).setRails (fun r => { r with enHbm := false, enSds := false, pgHbm := false, pgSds := false, waiting := true, fallAt := s.now })))
  ∧ (∀ (s : State) (sds : Bool), s.pwrState = 5 ∨ (sds = true ∧ (s.pwr.rails.enSds = false ∨ s.pwr.rails.pgSds = false)) ∨ (sds = false ∧ (s.pwr.rails.enHbm = false ∨ s.pwr.rails.pgHbm = false)) →
      answers (.railPgFall sds) s (s))
  ∧ (∀ (s : State), s.pwr.rails.waiting = true → s.pwr.rails.enHbm = false → s.pwr.rails.fallAt + 20000000 < s.now + s.tickHalfNs →
      answers (.railReenable) s (s.setRails (fun r => { r with enHbm := true, enSds := true })))
  ∧ (∀ (s : State), s.pwr.rails.waiting = false ∨ s.pwr.rails.enHbm = true ∨ s.now + s.tickHalfNs ≤ s.pwr.rails.fallAt + 20000000 →
      answers (.railReenable) s (s))
  ∧ (∀ (s : State), s.pwr.rails.powerGood = false → s.pwrState ≠ 5 → s.pwrState ≠ 6 →
      answers (.powerEnableOutputs) s (s.setRails (fun r => { r with aonGood := true, enHbm := true, enSds := true })))
  ∧ (∀ (s : State), s.pwr.rails.powerGood = true ∨ s.pwrState = 5 ∨ s.pwrState = 6 →
      answers (.powerEnableOutputs) s (s))
  ∧ (∀ s s1 : State, s.pwr.rails.enHbm = true → s.pwr.rails.enSds = true → s1 = s.setRails (fun r => { r with pgHbm := true, pgSds := true, waiting := false }) →
      (s.pwr.rails.waiting = true → s.pwrState ≠ 5 → answers .pgHbmPgSdsRise s ((s1.fullState 0).wrN PWR_PLL_STATUS 1))
      ∧ (s.pwr.rails.waiting = true → s.pwrState = 5 → answers .pgHbmPgSdsRise s (s1.wakeBoot false))
      ∧ (s.pwr.rails.waiting = false → answers .pgHbmPgSdsRise s s1))
  ∧ (∀ (s : State), s.pwr.rails.enHbm = false ∨ s.pwr.rails.enSds = false →
      answers (.pgHbmPgSdsRise) s (s))
  ∧ (∀ (s : State), answers .vddAonBelowMinimum s ((s.blank).setRails (fun _ => { Rails.reset with aonGood := false, enHbm := false, enSds := false, pgHbm := false, pgSds := false, powerGood := false })))
  ∧ (∀ (s : State), s.pwr.rails.powerGood = true → s.get GCTL_BOOT_STATUS_STAGE = 0 → s.pwrState = 0 → bitAt (s.rdN PWR_PLL_STATUS) 31 = false → s.pwr.rails.waiting = false →
      answers (.fusesDone) s ((s.pllsLocked).startLoad))
  ∧ (∀ (s : State), s.pwr.rails.powerGood = true → s.get GCTL_BOOT_STATUS_STAGE ≠ 0 ∨ s.pwrState ≠ 0 ∨ bitAt (s.rdN PWR_PLL_STATUS) 31 = true ∨ s.pwr.rails.waiting = true →
      answers (.fusesDone) s (s))
  ∧ (∀ (s : State), s.coreOn = true → s.get GCTL_BOOT_STATUS_STAGE = 3 → s.on PWR_KETTLE_STATUS_RESUME_HELD = false → s.pwr.stopBoot = false ∨ polResumeAck s.polSec ≠ 1 →
      answers (.applyDone) s (((splEnable s).put GCTL_BOOT_STATUS_STAGE 4).triggerRun))
  ∧ (∀ (s : State), s.coreOn = true → s.get GCTL_BOOT_STATUS_STAGE = 3 → s.on PWR_KETTLE_STATUS_RESUME_HELD = false → s.pwr.stopBoot = true → polResumeAck s.polSec = 1 →
      answers (.applyDone) s ((s.put PWR_KETTLE_STATUS_RESUME_HELD 1).raise 107 0))
  ∧ (∀ (s : State), s.coreOn = true → s.get GCTL_BOOT_STATUS_STAGE ≠ 3 ∨ s.on PWR_KETTLE_STATUS_RESUME_HELD = true →
      answers (.applyDone) s (s))
  ∧ (∀ (s : State), s.coreOn = true → s.frame.seen = false → s.drives = true → s.mayStart = true → s.linkDone.get GCTL_BOOT_STATUS_STAGE = 5 → (∀ g < 6, s.gState g < gTrain ∨ gCaps < s.gState g) →
      answers (.firstFrameStart) s (s.linkDone.startFrame true true))
  ∧ (∀ (s : State), s.coreOn = true → s.frame.seen = true ∨ s.drives = false ∨ s.mayStart = false ∨ s.linkDone.get GCTL_BOOT_STATUS_STAGE ≠ 5 ∨ (∃ g, g < 6 ∧ gTrain ≤ s.gState g ∧ s.gState g ≤ gCaps) →
      answers (.firstFrameStart) s (s))
  ∧ (∀ (s : State), s.pwr.rails.powerGood = true → s.pcie.lateRaised = false → s.get GCTL_BOOT_STATUS_STAGE ≠ 6 → 3600000000 < s.now + s.tickHalfNs →
      answers (.bootLate) s (State.raise { s with pcie := { s.pcie with lateRaised := true } } 12 (s.get GCTL_BOOT_STATUS_STAGE)))
  ∧ (∀ (s : State), s.pwr.rails.powerGood = true → s.pcie.lateRaised = true ∨ s.get GCTL_BOOT_STATUS_STAGE = 6 ∨ s.now + s.tickHalfNs ≤ 3600000000 →
      answers (.bootLate) s (s))
  ∧ (∀ (s : State) (s1 : State), s.reaches GCTL_CALREC_CMD → s.pcie.calWork = none → s.inRegion 0 s.calrecAddr calrecLen = true → s1 = (s.put GCTL_CALREC_STATUS_STATE 1).put GCTL_CALREC_STATUS_ERR 0 →
      answers (.calrecSave) s ({ s1 with pcie := { s1.pcie with calWork := some (false, s.calrecAddr) } }))
  ∧ (∀ (s : State) (s1 : State), s.reaches GCTL_CALREC_CMD → s.pcie.calWork = none → s.get CAL_RUN_STATUS_STATE = 0 → s.inRegion 0 s.calrecAddr calrecLen = true → s1 = (s.put GCTL_CALREC_STATUS_STATE 1).put GCTL_CALREC_STATUS_ERR 0 →
      answers (.calrecRestore) s ({ s1 with pcie := { s1.pcie with calWork := some (true, s.calrecAddr) } }))
  ∧ (∀ s : State, s.reaches GCTL_CALREC_CMD → s.pcie.calWork.isSome = true →
      answers .calrecSave s ((s.put GCTL_CALREC_STATUS_ERR 1).raise 11 0) ∧ answers .calrecRestore s ((s.put GCTL_CALREC_STATUS_ERR 1).raise 11 0))
  ∧ (∀ (s : State), s.reaches GCTL_CALREC_CMD → s.pcie.calWork = none → s.get CAL_RUN_STATUS_STATE ≠ 0 →
      answers (.calrecRestore) s (s.calrecFail 1))
  ∧ (∀ (s : State), s.reaches GCTL_CALREC_CMD → s.pcie.calWork = none → s.inRegion 0 s.calrecAddr calrecLen = false →
      answers (.calrecSave) s (s.calrecFail 2))
  ∧ (∀ (s : State), s.reaches GCTL_CALREC_CMD → s.pcie.calWork = none → s.get CAL_RUN_STATUS_STATE = 0 → s.inRegion 0 s.calrecAddr calrecLen = false →
      answers (.calrecRestore) s (s.calrecFail 2))
  ∧ (∀ (s : State) (a : Nat) (s1 : State), s.coreOn = true → s.pcie.calWork = some (false, a) → s1 = { s with pcie := { s.pcie with calWork := none } } →
      answers (.calrecDone) s (((s1.dmaWrite 12 writerHost a s.calrecBytes 0).1).calrecGood))
  ∧ (∀ (s : State) (a : Nat) (s1 : State), s.coreOn = true → s.pcie.calWork = some (true, a) → s1 = { s with pcie := { s.pcie with calWork := none } } → s.poisonedIn a calrecLen = false → s.calrecCheck (s.memRead a calrecLen) = none →
      answers (.calrecDone) s (s1.calrecTake (s.memRead a calrecLen)))
  ∧ (∀ (s : State) (a e : Nat) (s1 : State), s.coreOn = true → s.pcie.calWork = some (true, a) → s1 = { s with pcie := { s.pcie with calWork := none } } → s.poisonedIn a calrecLen = false → s.calrecCheck (s.memRead a calrecLen) = some e →
      answers (.calrecDone) s (s1.calrecFail e))
  ∧ (∀ (s : State) (a : Nat) (s1 : State), s.coreOn = true → s.pcie.calWork = some (true, a) → s1 = { s with pcie := { s.pcie with calWork := none } } → s.poisonedIn a calrecLen = true →
      answers (.calrecDone) s ((s1.notePoisonRead 12).calrecFail 7))
  ∧ (∀ (s : State), s.coreOn = true → s.pcie.calWork = none →
      answers (.calrecDone) s (s))

/-- A command that stores nothing (the list is storesNothing, in Safety) answers a state with the same device memory, byte for byte, on all operands and in every state (R22, R345, R346). -/
def Obligations.MemoryFrame : Prop :=
  ∀ (c : Instr) (s t : State), storesNothing c = true → exec c s = .next t → t.mem = s.mem ∧ ∀ a, memByte t.mem a = memByte s.mem a
end

