-- ==== Sys2Proof/Laws/Exec.lean ====
section
/-!
SUPPORT. The meaning of each command in one equation, so that no proof need unfold the case split over commands.
-/

namespace Sys2Proof.Machine

@[simp] theorem exec_registerWrite (off : Nat) (val : Word) (s : State) : exec (.registerWrite off val) s = .next (s.runAlways (registerWrite off val)) := rfl
@[simp] theorem exec_offDomainAccess (off : Nat) (isWrite : Bool) (val : Word) (s : State) : exec (.offDomainAccess off isWrite val) s = .next (s.runAlways (offDomainAccess off isWrite val)) := rfl
@[simp] theorem exec_bar0MalformedRequest (off : Nat) (isWrite : Bool) (dws : Nat) (be : Nat) (s : State) : exec (.bar0MalformedRequest off isWrite dws be) s = .next (s.runAlways (bar0MalformedRequest off isWrite dws be)) := rfl
@[simp] theorem exec_bar0UndefinedAccess (off : Nat) (isWrite : Bool) (val : Word) (s : State) : exec (.bar0UndefinedAccess off isWrite val) s = .next (s.runAlways (bar0UndefinedAccess off isWrite val)) := rfl
@[simp] theorem exec_bar2Write (off : Nat) (bytes : List Byte) (s : State) : exec (.bar2Write off bytes) s = .next (s.runAlways (bar2Write off bytes)) := rfl
@[simp] theorem exec_bar2Read (off : Nat) (len : Nat) (s : State) : exec (.bar2Read off len) s = .next (s.runAlways (bar2Read off len)) := rfl
@[simp] theorem exec_csuLoad (s : State) : exec (.csuLoad) s = .next (s.runHost CSU_CMD 1 csuLoad) := rfl
@[simp] theorem exec_csuVerify (s : State) : exec (.csuVerify) s = .next (s.runHost CSU_CMD 2 csuVerify) := rfl
@[simp] theorem exec_csuReload (s : State) : exec (.csuReload) s = .next (s.runHost CSU_CMD 3 csuReload) := rfl
@[simp] theorem exec_csuCancel (s : State) : exec (.csuCancel) s = .next (s.runHost CSU_CMD 4 csuCancel) := rfl
@[simp] theorem exec_imageCheckComplete (flash : List Byte) (s : State) : exec (.imageCheckComplete flash) s = .next (s.runCore (imageCheckComplete flash)) := rfl
@[simp] theorem exec_spiIdTimeout (s : State) : exec (.spiIdTimeout) s = .next (s.runCore spiIdTimeout) := rfl
@[simp] theorem exec_keyProgram (slot : Nat) (s : State) : exec (.keyProgram slot) s = .next (s.runHost CSU_KEY_CMD 0 (keyProgram slot)) := rfl
@[simp] theorem exec_keyRevoke (slot : Nat) (s : State) : exec (.keyRevoke slot) s = .next (s.runHost CSU_KEY_CMD 0 (keyRevoke slot)) := rfl
@[simp] theorem exec_rollbackProgram (target : Nat) (s : State) : exec (.rollbackProgram target) s = .next (s.runHost CSU_ROLLBACK_CMD 0 (rollbackProgram target)) := rfl
@[simp] theorem exec_fuseBlowComplete (ok : Bool) (s : State) : exec (.fuseBlowComplete ok) s = .next (s.runCore (fuseBlowComplete ok)) := rfl
@[simp] theorem exec_reloadLoadingDone (ok : Bool) (s : State) : exec (.reloadLoadingDone ok) s = .next (s.runCore (reloadLoadingDone ok)) := rfl
@[simp] theorem exec_stkAcquire (i : Nat) (s : State) : exec (.stkAcquire i) s = .next (s.runHost (CMP_STK_CMD i) 0 (stkAcquire i)) := rfl
@[simp] theorem exec_stkRegister (i : Nat) (b : Nat) (s : State) : exec (.stkRegister i b) s = .next (s.runHost (CMP_STK_CMD i) 0 (stkRegister i b)) := rfl
@[simp] theorem exec_stkAbandon (i : Nat) (b : Nat) (s : State) : exec (.stkAbandon i b) s = .next (s.runHost (CMP_STK_CMD i) 0 (stkAbandon i b)) := rfl
@[simp] theorem exec_stkRegisterMarked (i : Nat) (s : State) : exec (.stkRegisterMarked i) s = .next (s.runCore (stkRegisterMarked i)) := rfl
@[simp] theorem exec_stkEnable (i : Nat) (s : State) : exec (.stkEnable i) s = .next (s.runHost (CMP_STK_CFG i) (s.rd (CMP_STK_CFG i) ||| 1) (stkEnable i)) := rfl
@[simp] theorem exec_stkDisable (i : Nat) (s : State) : exec (.stkDisable i) s = .next (s.runHost (CMP_STK_CFG i) (s.rd (CMP_STK_CFG i) &&& 0xFFFFFFFE) (stkDisable i)) := rfl
@[simp] theorem exec_cpoolWrite (isSize : Bool) (val : Word) (s : State) : exec (.cpoolWrite isSize val) s = .next (s.runHost (if isSize then CMP_CPOOL_SIZE else CMP_CPOOL_BASE) val (cpoolHost isSize val)) := rfl
@[simp] theorem exec_ttBegin (dg : List Byte) (s : State) : exec (.ttBegin dg) s = .next (s.runCore (ttBegin dg)) := rfl
@[simp] theorem exec_ttTile (dg : List Byte) (s : State) : exec (.ttTile dg) s = .next (s.runCore (ttTile dg)) := rfl
@[simp] theorem exec_ttRemove (dg : List Byte) (s : State) : exec (.ttRemove dg) s = .next (s.runCore (ttRemove dg)) := rfl
@[simp] theorem exec_ttEnd (dg : List Byte) (s : State) : exec (.ttEnd dg) s = .next (s.runCore (ttEnd dg)) := rfl
@[simp] theorem exec_remoteTimeout (i : Nat) (s : State) : exec (.remoteTimeout i) s = .next (s.runCore (remoteTimeout i)) := rfl
@[simp] theorem exec_workItemDispatch (c : Nat) (build : Bool) (s : State) : exec (.workItemDispatch c build) s = .next (s.runCore (workItemDispatch c build)) := rfl
@[simp] theorem exec_add (g : Nat) (ecc : Ecc) (s : State) : exec (.add g ecc) s = .next (s.runCore (engAdd g ecc)) := rfl
@[simp] theorem exec_sub (g : Nat) (ecc : Ecc) (s : State) : exec (.sub g ecc) s = .next (s.runCore (engSub g ecc)) := rfl
@[simp] theorem exec_mul (g : Nat) (ecc : Ecc) (s : State) : exec (.mul g ecc) s = .next (s.runCore (engMul g ecc)) := rfl
@[simp] theorem exec_mulh (g : Nat) (ecc : Ecc) (s : State) : exec (.mulh g ecc) s = .next (s.runCore (engMulh g ecc)) := rfl
@[simp] theorem exec_mulhu (g : Nat) (ecc : Ecc) (s : State) : exec (.mulhu g ecc) s = .next (s.runCore (engMulhu g ecc)) := rfl
@[simp] theorem exec_and (g : Nat) (ecc : Ecc) (s : State) : exec (.and g ecc) s = .next (s.runCore (engAnd g ecc)) := rfl
@[simp] theorem exec_or (g : Nat) (ecc : Ecc) (s : State) : exec (.or g ecc) s = .next (s.runCore (engOr g ecc)) := rfl
@[simp] theorem exec_xor (g : Nat) (ecc : Ecc) (s : State) : exec (.xor g ecc) s = .next (s.runCore (engXor g ecc)) := rfl
@[simp] theorem exec_shl (g : Nat) (ecc : Ecc) (s : State) : exec (.shl g ecc) s = .next (s.runCore (engShl g ecc)) := rfl
@[simp] theorem exec_shr (g : Nat) (ecc : Ecc) (s : State) : exec (.shr g ecc) s = .next (s.runCore (engShr g ecc)) := rfl
@[simp] theorem exec_sra (g : Nat) (ecc : Ecc) (s : State) : exec (.sra g ecc) s = .next (s.runCore (engSra g ecc)) := rfl
@[simp] theorem exec_srar (g : Nat) (ecc : Ecc) (s : State) : exec (.srar g ecc) s = .next (s.runCore (engSrar g ecc)) := rfl
@[simp] theorem exec_min (g : Nat) (ecc : Ecc) (s : State) : exec (.min g ecc) s = .next (s.runCore (engMin g ecc)) := rfl
@[simp] theorem exec_max (g : Nat) (ecc : Ecc) (s : State) : exec (.max g ecc) s = .next (s.runCore (engMax g ecc)) := rfl
@[simp] theorem exec_minu (g : Nat) (ecc : Ecc) (s : State) : exec (.minu g ecc) s = .next (s.runCore (engMinu g ecc)) := rfl
@[simp] theorem exec_maxu (g : Nat) (ecc : Ecc) (s : State) : exec (.maxu g ecc) s = .next (s.runCore (engMaxu g ecc)) := rfl
@[simp] theorem exec_clampu (g : Nat) (ecc : Ecc) (s : State) : exec (.clampu g ecc) s = .next (s.runCore (engClampu g ecc)) := rfl
@[simp] theorem exec_sel (g : Nat) (ecc : Ecc) (s : State) : exec (.sel g ecc) s = .next (s.runCore (engSel g ecc)) := rfl
@[simp] theorem exec_cmpeq (g : Nat) (ecc : Ecc) (s : State) : exec (.cmpeq g ecc) s = .next (s.runCore (engCmpeq g ecc)) := rfl
@[simp] theorem exec_cmplt (g : Nat) (ecc : Ecc) (s : State) : exec (.cmplt g ecc) s = .next (s.runCore (engCmplt g ecc)) := rfl
@[simp] theorem exec_cmpltu (g : Nat) (ecc : Ecc) (s : State) : exec (.cmpltu g ecc) s = .next (s.runCore (engCmpltu g ecc)) := rfl
@[simp] theorem exec_cmple (g : Nat) (ecc : Ecc) (s : State) : exec (.cmple g ecc) s = .next (s.runCore (engCmple g ecc)) := rfl
@[simp] theorem exec_abs (g : Nat) (ecc : Ecc) (s : State) : exec (.abs g ecc) s = .next (s.runCore (engAbs g ecc)) := rfl
@[simp] theorem exec_clz (g : Nat) (ecc : Ecc) (s : State) : exec (.clz g ecc) s = .next (s.runCore (engClz g ecc)) := rfl
@[simp] theorem exec_mulsr (g : Nat) (ecc : Ecc) (s : State) : exec (.mulsr g ecc) s = .next (s.runCore (engMulsr g ecc)) := rfl
@[simp] theorem exec_movi (g : Nat) (ecc : Ecc) (s : State) : exec (.movi g ecc) s = .next (s.runCore (engMovi g ecc)) := rfl
@[simp] theorem exec_movhi (g : Nat) (ecc : Ecc) (s : State) : exec (.movhi g ecc) s = .next (s.runCore (engMovhi g ecc)) := rfl
@[simp] theorem exec_vmovi (g : Nat) (ecc : Ecc) (s : State) : exec (.vmovi g ecc) s = .next (s.runCore (engVmovi g ecc)) := rfl
@[simp] theorem exec_bcst (g : Nat) (ecc : Ecc) (s : State) : exec (.bcst g ecc) s = .next (s.runCore (engBcst g ecc)) := rfl
@[simp] theorem exec_laneid (g : Nat) (ecc : Ecc) (s : State) : exec (.laneid g ecc) s = .next (s.runCore (engLaneid g ecc)) := rfl
@[simp] theorem exec_vext (g : Nat) (ecc : Ecc) (s : State) : exec (.vext g ecc) s = .next (s.runCore (engVext g ecc)) := rfl
@[simp] theorem exec_vins (g : Nat) (ecc : Ecc) (s : State) : exec (.vins g ecc) s = .next (s.runCore (engVins g ecc)) := rfl
@[simp] theorem exec_plogic (g : Nat) (ecc : Ecc) (s : State) : exec (.plogic g ecc) s = .next (s.runCore (engPlogic g ecc)) := rfl
@[simp] theorem exec_pany (g : Nat) (ecc : Ecc) (s : State) : exec (.pany g ecc) s = .next (s.runCore (engPany g ecc)) := rfl
@[simp] theorem exec_pcnt (g : Nat) (ecc : Ecc) (s : State) : exec (.pcnt g ecc) s = .next (s.runCore (engPcnt g ecc)) := rfl
@[simp] theorem exec_lds (g : Nat) (ecc : Ecc) (s : State) : exec (.lds g ecc) s = .next (s.runCore (engLds g ecc)) := rfl
@[simp] theorem exec_sts (g : Nat) (ecc : Ecc) (s : State) : exec (.sts g ecc) s = .next (s.runCore (engSts g ecc)) := rfl
@[simp] theorem exec_ldv (g : Nat) (ecc : Ecc) (s : State) : exec (.ldv g ecc) s = .next (s.runCore (engLdv g ecc)) := rfl
@[simp] theorem exec_stv (g : Nat) (ecc : Ecc) (s : State) : exec (.stv g ecc) s = .next (s.runCore (engStv g ecc)) := rfl
@[simp] theorem exec_ldx (g : Nat) (ecc : Ecc) (s : State) : exec (.ldx g ecc) s = .next (s.runCore (engLdx g ecc)) := rfl
@[simp] theorem exec_stx (g : Nat) (ecc : Ecc) (s : State) : exec (.stx g ecc) s = .next (s.runCore (engStx g ecc)) := rfl
@[simp] theorem exec_dmrd (g : Nat) (ecc : Ecc) (s : State) : exec (.dmrd g ecc) s = .next (s.runCore (engDmrd g ecc)) := rfl
@[simp] theorem exec_dmwr (g : Nat) (ecc : Ecc) (s : State) : exec (.dmwr g ecc) s = .next (s.runCore (engDmwr g ecc)) := rfl
@[simp] theorem exec_dmwait (g : Nat) (ecc : Ecc) (s : State) : exec (.dmwait g ecc) s = .next (s.runCore (engDmwait g ecc)) := rfl
@[simp] theorem exec_rdcsr (g : Nat) (ecc : Ecc) (s : State) : exec (.rdcsr g ecc) s = .next (s.runCore (engRdcsr g ecc)) := rfl
@[simp] theorem exec_wrcsr (g : Nat) (ecc : Ecc) (s : State) : exec (.wrcsr g ecc) s = .next (s.runCore (engWrcsr g ecc)) := rfl
@[simp] theorem exec_fence (g : Nat) (ecc : Ecc) (s : State) : exec (.fence g ecc) s = .next (s.runCore (engFence g ecc)) := rfl
@[simp] theorem exec_smp (g : Nat) (ecc : Ecc) (s : State) : exec (.smp g ecc) s = .next (s.runCore (engSmp g ecc)) := rfl
@[simp] theorem exec_smpn (g : Nat) (ecc : Ecc) (s : State) : exec (.smpn g ecc) s = .next (s.runCore (engSmpn g ecc)) := rfl
@[simp] theorem exec_smpo (g : Nat) (ecc : Ecc) (s : State) : exec (.smpo g ecc) s = .next (s.runCore (engSmpo g ecc)) := rfl
@[simp] theorem exec_sweep (g : Nat) (ecc : Ecc) (s : State) : exec (.sweep g ecc) s = .next (s.runCore (engSweep g ecc)) := rfl
@[simp] theorem exec_occ (g : Nat) (ecc : Ecc) (s : State) : exec (.occ g ecc) s = .next (s.runCore (engOcc g ecc)) := rfl
@[simp] theorem exec_pft (g : Nat) (ecc : Ecc) (s : State) : exec (.pft g ecc) s = .next (s.runCore (engPft g ecc)) := rfl
@[simp] theorem exec_drive (g : Nat) (ecc : Ecc) (s : State) : exec (.drive g ecc) s = .next (s.runCore (engDrive g ecc)) := rfl
@[simp] theorem exec_emit (g : Nat) (ecc : Ecc) (s : State) : exec (.emit g ecc) s = .next (s.runCore (engEmit g ecc)) := rfl
@[simp] theorem exec_twr (g : Nat) (ecc : Ecc) (s : State) : exec (.twr g ecc) s = .next (s.runCore (engTwr g ecc)) := rfl
@[simp] theorem exec_br (g : Nat) (ecc : Ecc) (s : State) : exec (.br g ecc) s = .next (s.runCore (engBr g ecc)) := rfl
@[simp] theorem exec_bz (g : Nat) (ecc : Ecc) (s : State) : exec (.bz g ecc) s = .next (s.runCore (engBz g ecc)) := rfl
@[simp] theorem exec_bnz (g : Nat) (ecc : Ecc) (s : State) : exec (.bnz g ecc) s = .next (s.runCore (engBnz g ecc)) := rfl
@[simp] theorem exec_call (g : Nat) (ecc : Ecc) (s : State) : exec (.call g ecc) s = .next (s.runCore (engCall g ecc)) := rfl
@[simp] theorem exec_ret (g : Nat) (ecc : Ecc) (s : State) : exec (.ret g ecc) s = .next (s.runCore (engRet g ecc)) := rfl
@[simp] theorem exec_vbany (g : Nat) (ecc : Ecc) (s : State) : exec (.vbany g ecc) s = .next (s.runCore (engVbany g ecc)) := rfl
@[simp] theorem exec_vbnone (g : Nat) (ecc : Ecc) (s : State) : exec (.vbnone g ecc) s = .next (s.runCore (engVbnone g ecc)) := rfl
@[simp] theorem exec_done (g : Nat) (ecc : Ecc) (s : State) : exec (.done g ecc) s = .next (s.runCore (engDone g ecc)) := rfl
@[simp] theorem exec_trap (g : Nat) (ecc : Ecc) (s : State) : exec (.trap g ecc) s = .next (s.runCore (engTrap g ecc)) := rfl
@[simp] theorem exec_dmaTransferComplete (g : Nat) (tr : DmaDone) (s : State) : exec (.dmaTransferComplete g tr) s = .next (s.runCore (dmaTransferComplete g tr.tag tr.ecc)) := rfl
@[simp] theorem exec_wiTimeout (g : Nat) (s : State) : exec (.wiTimeout g) s = .next (s.runCore (wiTimeout g)) := rfl
@[simp] theorem exec_engReloadStart (g : Nat) (s : State) : exec (.engReloadStart g) s = .next (s.runCore (engReloadStart g)) := rfl
@[simp] theorem exec_engReloadDone (g : Nat) (ok : Bool) (s : State) : exec (.engReloadDone g ok) s = .next (s.runCore (engReloadDone g ok)) := rfl
@[simp] theorem exec_lsScrub (c : Nat) (corrected : Nat) (uncorrectable : Nat) (s : State) : exec (.lsScrub c corrected uncorrectable) s = .next (s.runCore (lsScrub c corrected uncorrectable)) := rfl
@[simp] theorem exec_pcLineFill (g : Nat) (line : Nat) (ecc : Ecc) (s : State) : exec (.pcLineFill g line ecc) s = .next (s.runCore (pcLineFill g line ecc)) := rfl
@[simp] theorem exec_engEnableWrite (c : Nat) (val : Word) (s : State) : exec (.engEnableWrite c val) s = .next (s.runHost (CH_ENG_ENABLE c) val (engEnableWrite c val)) := rfl
@[simp] theorem exec_dbgDataAccess (c : Nat) (isWrite : Bool) (data : DbgWord) (s : State) : exec (.dbgDataAccess c isWrite data) s = .next (s.keepQueue (if c < 4 then s.debugAccess c isWrite data.word data.ecc else s)) := rfl
@[simp] theorem exec_eyeSetCommit (val : Word) (s : State) : exec (.eyeSetCommit val) s = .next (s.runHost CMP_SYN_EYE_SEQ val (eyeSetCommit val)) := rfl
@[simp] theorem exec_eyeStale (s : State) : exec (.eyeStale) s = .next (s.runCore eyeStale) := rfl
@[simp] theorem exec_frameStart (s : State) : exec (.frameStart) s = .next (s.runCore frameStart) := rfl
@[simp] theorem exec_frameForced (s : State) : exec (.frameForced) s = .next (s.runCore frameForced) := rfl
@[simp] theorem exec_frameSetupDone (s : State) : exec (.frameSetupDone) s = .next (s.runCore frameSetupDone) := rfl
@[simp] theorem exec_camEnable (s : State) : exec (.camEnable) s = .next (s.runHost CMP_CAM_CFG (s.rd CMP_CAM_CFG ||| 1) camEnable) := rfl
@[simp] theorem exec_rigSelect (val : Word) (s : State) : exec (.rigSelect val) s = .next (s.runHost CMP_CAM_RIG_SEL val (rigSelect val)) := rfl
@[simp] theorem exec_camRestart (s : State) : exec (.camRestart) s = .next (s.runHost CMP_CAM_CMD 1 camRestart) := rfl
@[simp] theorem exec_buildInstant (s : State) : exec (.buildInstant) s = .next (s.runCore buildInstant) := rfl
@[simp] theorem exec_lidCommit (val : Word) (s : State) : exec (.lidCommit val) s = .next (s.runHost CMP_LID val (lidCommit val)) := rfl
@[simp] theorem exec_commitPrepDone (s : State) : exec (.commitPrepDone) s = .next (s.runCore commitPrepDone) := rfl
@[simp] theorem exec_lidOffscreen (val : Word) (s : State) : exec (.lidOffscreen val) s = .next (s.runHost CMP_LID val (lidOffscreen val)) := rfl
@[simp] theorem exec_offscreenDone (s : State) : exec (.offscreenDone) s = .next (s.runCore offscreenDone) := rfl
@[simp] theorem exec_layerFence (val : Word) (s : State) : exec (.layerFence val) s = .next (s.runHost CMP_LYR_FENCE val (layerFence val)) := rfl
@[simp] theorem exec_lateLayerReady (l : Nat) (s : State) : exec (.lateLayerReady l) s = .next (s.runCore (lateLayerReady l)) := rfl
@[simp] theorem exec_overlayFieldStale (f : Nat) (s : State) : exec (.overlayFieldStale f) s = .next (s.runCore (overlayFieldStale f)) := rfl
@[simp] theorem exec_wbHeldClear (val : Word) (s : State) : exec (.wbHeldClear val) s = .next (s.runHost CMP_WB_HELD val (wbHeldClear val)) := rfl
@[simp] theorem exec_updateStart (upd : Nat) (s : State) : exec (.updateStart upd) s = .next (s.runCore (updateStart upd)) := rfl
@[simp] theorem exec_packetSend (g : Nat) (s : State) : exec (.packetSend g) s = .next (s.runCore (packetSend g)) := rfl
@[simp] theorem exec_corrSend (g : Nat) (s : State) : exec (.corrSend g) s = .next (s.runCore (corrSend g)) := rfl
@[simp] theorem exec_frameComplete (s : State) : exec (.frameComplete) s = .next (s.runCore frameComplete) := rfl
@[simp] theorem exec_frameDeadline (s : State) : exec (.frameDeadline) s = .next (s.runCore frameDeadline) := rfl
@[simp] theorem exec_srAck (g : Nat) (r : StatusRec) (ok : Bool) (s : State) : exec (.srAck g r ok) s = .next (s.runCore (srAck g r ok)) := rfl
@[simp] theorem exec_srNak (g : Nat) (r : StatusRec) (ok : Bool) (s : State) : exec (.srNak g r ok) s = .next (s.runCore (srNak g r ok)) := rfl
@[simp] theorem exec_srStat (g : Nat) (r : StatusRec) (ok : Bool) (s : State) : exec (.srStat g r ok) s = .next (s.runCore (srStat g r ok)) := rfl
@[simp] theorem exec_srSwitch (g : Nat) (r : StatusRec) (ok : Bool) (s : State) : exec (.srSwitch g r ok) s = .next (s.runCore (srSwitch g r ok)) := rfl
@[simp] theorem exec_srCaps (g : Nat) (r : StatusRec) (ok : Bool) (s : State) : exec (.srCaps g r ok) s = .next (s.runCore (srCaps g r ok)) := rfl
@[simp] theorem exec_srLockloss (g : Nat) (r : StatusRec) (ok : Bool) (s : State) : exec (.srLockloss g r ok) s = .next (s.runCore (srLockloss g r ok)) := rfl
@[simp] theorem exec_srSilent (g : Nat) (s : State) : exec (.srSilent g) s = .next (s.runCore (srSilent g)) := rfl
@[simp] theorem exec_pieceAckTimeout (t : Nat) (s : State) : exec (.pieceAckTimeout t) s = .next (s.runCore (pieceAckTimeout t)) := rfl
@[simp] theorem exec_splRestore (val : Word) (s : State) : exec (.splRestore val) s = .next (s.runHost SPL_RESTORE val (splRestore val)) := rfl
@[simp] theorem exec_holdRequest (val : Word) (s : State) : exec (.holdRequest val) s = .next (s.runHost SPL_HOLD val (holdRequest val)) := rfl
@[simp] theorem exec_holdEnter (s : State) : exec (.holdEnter) s = .next (s.runCore holdEnterThen) := rfl
@[simp] theorem exec_holdExit (s : State) : exec (.holdExit) s = .next (s.runCore holdExit) := rfl
@[simp] theorem exec_groupAdaptStart (g : Nat) (s : State) : exec (.groupAdaptStart g) s = .next (s.runCore (groupAdaptStart g)) := rfl
@[simp] theorem exec_groupAdaptDone (g : Nat) (r : StageInfo) (s : State) : exec (.groupAdaptDone g r) s = .next (s.runCore (groupAdaptDone g r)) := rfl
@[simp] theorem exec_splEnable (s : State) : exec (.splEnable) s = .next (s.runHost SPL_CTRL (s.rd SPL_CTRL ||| 1) splEnable) := rfl
@[simp] theorem exec_groupStageDone (g : Nat) (r : StageInfo) (s : State) : exec (.groupStageDone g r) s = .next (s.runCore (groupStageDone g r)) := rfl
@[simp] theorem exec_groupStageTimeout (g : Nat) (s : State) : exec (.groupStageTimeout g) s = .next (s.runCore (groupStageTimeout g)) := rfl
@[simp] theorem exec_groupFailedRetry (g : Nat) (s : State) : exec (.groupFailedRetry g) s = .next (s.runCore (groupFailedRetry g)) := rfl
@[simp] theorem exec_splGBringup (g : Nat) (s : State) : exec (.splGBringup g) s = .next (s.runHost (SPL_G_CMD g) 1 (splGBringup g)) := rfl
@[simp] theorem exec_splGRetrain (g : Nat) (s : State) : exec (.splGRetrain g) s = .next (s.runHost (SPL_G_CMD g) 2 (splGRetrain g)) := rfl
@[simp] theorem exec_splGDisable (g : Nat) (s : State) : exec (.splGDisable g) s = .next (s.runHost (SPL_G_CMD g) 3 (splGDisable g)) := rfl
@[simp] theorem exec_fastRetrainDone (g : Nat) (ok : Bool) (cause : Nat) (s : State) : exec (.fastRetrainDone g ok cause) s = .next (s.runCore (fastRetrainDone g ok cause)) := rfl
@[simp] theorem exec_splLoopbackSelect (g : Nat) (mode : Nat) (s : State) : exec (.splLoopbackSelect g mode) s = .next (s.runHost (SPL_G_LPBK g) (BitVec.ofNat 32 mode) (splLoopbackSelect g mode)) := rfl
@[simp] theorem exec_loopbackError (g : Nat) (n : Nat) (s : State) : exec (.loopbackError g n) s = .next (s.runCore (loopbackError g n)) := rfl
@[simp] theorem exec_auxTrain (s : State) : exec (.auxTrain) s = .next (s.runHost AUX_CMD 1 auxTrain) := rfl
@[simp] theorem exec_auxTrainDone (four : List Bool) (two : List Bool) (one : List Bool) (s : State) : exec (.auxTrainDone four two one) s = .next (s.runCore (auxTrainDone four two one)) := rfl
@[simp] theorem exec_dpHpd (level : Bool) (s : State) : exec (.dpHpd level) s = .next (s.runCore (dpHpd level)) := rfl
@[simp] theorem exec_auxChTransaction (val : Word) (s : State) : exec (.auxChTransaction val) s = .next (s.runHost AUX_CH_CMD val (auxChTransaction val)) := rfl
@[simp] theorem exec_dpChDone (ok : Bool) (reply : Word) (data : List Word) (s : State) : exec (.dpChDone ok reply data) s = .next (s.runCore (dpChDone ok reply data)) := rfl
@[simp] theorem exec_dpFrameStart (s : State) : exec (.dpFrameStart) s = .next (s.runCore dpFrameStart) := rfl
@[simp] theorem exec_dpUnderrun (y : Nat) (x : Nat) (s : State) : exec (.dpUnderrun y x) s = .next (s.runCore (dpUnderrun y x)) := rfl
@[simp] theorem exec_cloneCopyDone (v : Nat) (s : State) : exec (.cloneCopyDone v) s = .next (s.runCore (cloneCopyDone v)) := rfl
@[simp] theorem exec_tileTempWrite (t : Nat) (val : Word) (s : State) : exec (.tileTempWrite t val) s = .next (s.runHost (CAL_TILE_TEMP t) val (tileTempWrite t val)) := rfl
@[simp] theorem exec_tileTempStale (t : Nat) (s : State) : exec (.tileTempStale t) s = .next (s.runCore (tileTempStale t)) := rfl
@[simp] theorem exec_alsReading (reading : Option (Byte × Byte)) (s : State) : exec (.alsReading reading) s = .next (s.runCore (alsReading reading)) := rfl
@[simp] theorem exec_passStart (s : State) : exec (.passStart) s = .next (s.runCore passStart) := rfl
@[simp] theorem exec_passDone (s : State) : exec (.passDone) s = .next (s.runCore passDone) := rfl
@[simp] theorem exec_corrApplyDone (s : State) : exec (.corrApplyDone) s = .next (s.runCore corrApplyDone) := rfl
@[simp] theorem exec_mapFreeze (s : State) : exec (.mapFreeze) s = .next (s.runHost CAL_MAP_CTRL (s.rd CAL_MAP_CTRL ||| 1) mapFreeze) := rfl
@[simp] theorem exec_mapFrozen (s : State) : exec (.mapFrozen) s = .next (s.runCore mapFrozen) := rfl
@[simp] theorem exec_mapUnfreeze (s : State) : exec (.mapUnfreeze) s = .next (s.runHost CAL_MAP_CTRL (s.rd CAL_MAP_CTRL &&& 0xFFFFFFFE) mapUnfreeze) := rfl
@[simp] theorem exec_mapOpen (s : State) : exec (.mapOpen) s = .next (s.runHost CAL_MAP_CTRL (s.rd CAL_MAP_CTRL ||| 2) mapOpen) := rfl
@[simp] theorem exec_mapRestored (s : State) : exec (.mapRestored) s = .next (s.runHost CAL_MAP_CMD 1 mapRestored) := rfl
@[simp] theorem exec_mapFresh (s : State) : exec (.mapFresh) s = .next (s.runHost CAL_MAP_CMD 2 mapFresh) := rfl
@[simp] theorem exec_calRunAll (s : State) : exec (.calRunAll) s = .next (s.runHost CAL_CMD 1 calRunAll) := rfl
@[simp] theorem exec_calRunDone (s : State) : exec (.calRunDone) s = .next (s.runCore calRunDone) := rfl
@[simp] theorem exec_pcRetrain (p : Nat) (s : State) : exec (.pcRetrain p) s = .next (s.runCore (pcRetrain p)) := rfl
@[simp] theorem exec_pcRetrainDone (p : Nat) (windows : List Window) (s : State) : exec (.pcRetrainDone p windows) s = .next (s.runCore (pcRetrainDone p windows)) := rfl
@[simp] theorem exec_vdecPut (x : Nat) (val : Word) (s : State) : exec (.vdecPut x val) s = .next (s.runHost (VDEC_CTX_PUT x) val (vdecPut x val)) := rfl
@[simp] theorem exec_vdecCtxEnable (x : Nat) (val : Word) (s : State) : exec (.vdecCtxEnable x val) s = .next (s.runHost (VDEC_CTX_CFG x) val (vdecCtxEnable x val)) := rfl
@[simp] theorem exec_vdecCtxDisable (x : Nat) (val : Word) (s : State) : exec (.vdecCtxDisable x val) s = .next (s.runHost (VDEC_CTX_CFG x) val (vdecCtxDisable x val)) := rfl
@[simp] theorem exec_vdecFlush (x : Nat) (s : State) : exec (.vdecFlush x) s = .next (s.runHost (VDEC_CTX_CMD x) 1 (vdecFlush x)) := rfl
@[simp] theorem exec_vdecReset (x : Nat) (s : State) : exec (.vdecReset x) s = .next (s.runHost (VDEC_CTX_CMD x) 2 (vdecReset x)) := rfl
@[simp] theorem exec_decodeStart (core : Nat) (info : List PicInfo) (s : State) : exec (.decodeStart core info) s = .next (s.runCore (decodeStart core info)) := rfl
@[simp] theorem exec_decodeComplete (core : Nat) (r : DecodeResult) (s : State) : exec (.decodeComplete core r) s = .next (s.runCore (decodeComplete core r)) := rfl
@[simp] theorem exec_vencCtxEnable (e : Nat) (val : Word) (s : State) : exec (.vencCtxEnable e val) s = .next (s.runHost (VENC_CTX_CFG e) val (vencCtxEnable e val)) := rfl
@[simp] theorem exec_vencInPut (e : Nat) (val : Word) (s : State) : exec (.vencInPut e val) s = .next (s.runHost (VENC_CTX_IN_PUT e) val (vencInPut e val)) := rfl
@[simp] theorem exec_encodeInstant (e : Nat) (s : State) : exec (.encodeInstant e) s = .next (s.runCore (encodeInstant e)) := rfl
@[simp] theorem exec_encodeComplete (core : Nat) (r : EncodeResult) (s : State) : exec (.encodeComplete core r) s = .next (s.runCore (encodeComplete core r)) := rfl
@[simp] theorem exec_rxFrame (p : Nat) (bytes : List Byte) (capture : Nat) (s : State) : exec (.rxFrame p bytes capture) s = .next (s.runAon (rxFrame p bytes capture)) := rfl
@[simp] theorem exec_ingressDrain (s : State) : exec (.ingressDrain) s = .next (s.runCore ingressDrain) := rfl
@[simp] theorem exec_txFrame (p : Nat) (capture : Nat) (s : State) : exec (.txFrame p capture) s = .next (s.runCore (txFrame p capture)) := rfl
@[simp] theorem exec_egressDelayDrop (p : Nat) (q : Nat) (s : State) : exec (.egressDelayDrop p q) s = .next (s.runCore (egressDelayDrop p q)) := rfl
@[simp] theorem exec_htxPut (r : Nat) (val : Word) (s : State) : exec (.htxPut r val) s = .next (s.runHost (NET_HTX_PUT r) val (htxPut r val)) := rfl
@[simp] theorem exec_encTxAu (e : Nat) (s : State) : exec (.encTxAu e) s = .next (s.runCore (encTxAu e)) := rfl
@[simp] theorem exec_sieveRefill (s : State) : exec (.sieveRefill) s = .next (s.runCore sieveRefill) := rfl
@[simp] theorem exec_prpSupervisionSend (s : State) : exec (.prpSupervisionSend) s = .next (s.runCore prpSupervisionSend) := rfl
@[simp] theorem exec_prpLanLost (node : Nat) (p : Nat) (s : State) : exec (.prpLanLost node p) s = .next (s.runCore (prpLanLost node p)) := rfl
@[simp] theorem exec_prpNodeForget (node : Nat) (s : State) : exec (.prpNodeForget node) s = .next (s.runCore (prpNodeForget node)) := rfl
@[simp] theorem exec_portLinkUp (p : Nat) (fec : Nat) (s : State) : exec (.portLinkUp p fec) s = .next (s.runCore (portLinkUp p fec)) := rfl
@[simp] theorem exec_portLinkDown (p : Nat) (s : State) : exec (.portLinkDown p) s = .next (s.runCore (portLinkDown p)) := rfl
@[simp] theorem exec_flowRead (s : State) : exec (.flowRead) s = .next (s.runHost NET_FLOW_CMD 1 flowRead) := rfl
@[simp] theorem exec_flowWrite (s : State) : exec (.flowWrite) s = .next (s.runHost NET_FLOW_CMD 2 flowWrite) := rfl
@[simp] theorem exec_flowReadClear (s : State) : exec (.flowReadClear) s = .next (s.runHost NET_FLOW_CMD 3 flowReadClear) := rfl
@[simp] theorem exec_exactAdd (ctx : Nat) (s : State) : exec (.exactAdd ctx) s = .next (s.runHost NET_EXACT_CMD 1 (exactAdd ctx)) := rfl
@[simp] theorem exec_exactDelete (s : State) : exec (.exactDelete) s = .next (s.runHost NET_EXACT_CMD 2 exactDelete) := rfl
@[simp] theorem exec_lossPop (s : State) : exec (.lossPop) s = .next (s.runHost NET_LOSS_POP 1 lossPop) := rfl
@[simp] theorem exec_tsqPop (p : Nat) (s : State) : exec (.tsqPop p) s = .next (s.runHost (NET_P_TSQ_POP p) 1 (tsqPop p)) := rfl
@[simp] theorem exec_histSample (s : State) : exec (.histSample) s = .next (s.runCore histSample) := rfl
@[simp] theorem exec_incrWrite (val : Word) (s : State) : exec (.incrWrite val) s = .next (s.runHost TMU_INCR_FRAC val (incrWrite val)) := rfl
@[simp] theorem exec_timeStep (force : Bool) (s : State) : exec (.timeStep force) s = .next (s.runHost TMU_CMD 1 (timeStep force)) := rfl
@[simp] theorem exec_timeSet (force : Bool) (s : State) : exec (.timeSet force) s = .next (s.runHost TMU_CMD 2 (timeSet force)) := rfl
@[simp] theorem exec_timeRead (s : State) : exec (.timeRead) s = .next (s.keepQueue (rcRead TMU_TIME_NS s)) := rfl
@[simp] theorem exec_triggerArm (n : Nat) (val : Word) (s : State) : exec (.triggerArm n val) s = .next (s.runHost (TMU_TRIG_CTRL n) val (triggerArm n val)) := rfl
@[simp] theorem exec_triggerTargetWrite (n : Nat) (which : Nat) (val : Word) (s : State) : exec (.triggerTargetWrite n which val) s = .next (s.runHost (TMU_TRIG_NS n + 4 * which) val (triggerTargetWrite n which val)) := rfl
@[simp] theorem exec_triggerFire (n : Nat) (s : State) : exec (.triggerFire n) s = .next (s.runPll pllTime (triggerFire n)) := rfl
@[simp] theorem exec_ppsEdge (s : State) : exec (.ppsEdge) s = .next (s.runPll pllTime ppsEdge) := rfl
@[simp] theorem exec_extCapture (s : State) : exec (.extCapture) s = .next (s.runPll pllTime extCapture) := rfl
@[simp] theorem exec_memRead (client : Nat) (rank : Nat) (a : Nat) (latency : Nat) (faults : List LineFault) (s : State) : exec (.memRead client rank a latency faults) s = .next (s.runCore (thenStaged (memReadLine client rank a latency faults))) := rfl
@[simp] theorem exec_memWrite (client : Nat) (rank : Nat) (a : Nat) (latency : Nat) (bytes : List Byte) (faults : List LineFault) (s : State) : exec (.memWrite client rank a latency bytes faults) s = .next (s.runCore (thenStaged (memWriteLine client rank a latency bytes faults))) := rfl
@[simp] theorem exec_scrubRead (line : ScrubLine) (s : State) : exec (.scrubRead line) s = .next (s.runCore (thenStaged (scrubRead line.latency line.faults))) := rfl
@[simp] theorem exec_refresh (p : Nat) (s : State) : exec (.refresh p) s = .next (s.runCore (refreshBank p)) := rfl
@[simp] theorem exec_hbmTempRead (t0 : Int) (t1 : Int) (s : State) : exec (.hbmTempRead t0 t1) s = .next (s.runAon (hbmTempRead t0 t1)) := rfl
@[simp] theorem exec_selfRefreshEnter (k : Nat) (s : State) : exec (.selfRefreshEnter k) s = .next (s.runCore (selfRefreshEnter k)) := rfl
@[simp] theorem exec_hbmTrainingDone (results : List (List Window)) (s : State) : exec (.hbmTrainingDone results) s = .next (s.runCore (hbmTrainingDone results)) := rfl
@[simp] theorem exec_memRetireCmd (val : Word) (s : State) : exec (.memRetireCmd val) s = .next (s.runHost MEM_CMD val (memRetireCmd val)) := rfl
@[simp] theorem exec_retirePreset (val : Word) (s : State) : exec (.retirePreset val) s = .next (s.runHost MEM_RETIRE_PRESET val (retirePreset val)) := rfl
@[simp] theorem exec_migrationCopy (bad : List Nat) (s : State) : exec (.migrationCopy bad) s = .next (s.runCore (thenStaged (migrationCopy bad))) := rfl
@[simp] theorem exec_bceStart (s : State) : exec (.bceStart) s = .next (s.runHost BCE_CMD 1 bceStart) := rfl
@[simp] theorem exec_bceAbort (s : State) : exec (.bceAbort) s = .next (s.runHost BCE_CMD 2 bceAbort) := rfl
@[simp] theorem exec_bceNop (s : State) : exec (.bceNop) s = .next (s.runCore bceNop) := rfl
@[simp] theorem exec_bceCopy (s : State) : exec (.bceCopy) s = .next (s.runCore bceCopy) := rfl
@[simp] theorem exec_bceFill (s : State) : exec (.bceFill) s = .next (s.runCore bceFill) := rfl
@[simp] theorem exec_bceLink (s : State) : exec (.bceLink) s = .next (s.runCore bceLink) := rfl
@[simp] theorem exec_bceStop (s : State) : exec (.bceStop) s = .next (s.runCore bceStop) := rfl
@[simp] theorem exec_ckuCompute (ctx : Nat) (cont : Bool) (s : State) : exec (.ckuCompute ctx cont) s = .next (s.runHost CKU_JOB_CMD 1 (ckuCompute ctx cont)) := rfl
@[simp] theorem exec_ckuAppend (ctx : Nat) (cont : Bool) (s : State) : exec (.ckuAppend ctx cont) s = .next (s.runHost CKU_JOB_CMD 2 (ckuAppend ctx cont)) := rfl
@[simp] theorem exec_ckuCheck (ctx : Nat) (cont : Bool) (s : State) : exec (.ckuCheck ctx cont) s = .next (s.runHost CKU_JOB_CMD 3 (ckuCheck ctx cont)) := rfl
@[simp] theorem exec_ckuJobDone (s : State) : exec (.ckuJobDone) s = .next (s.runCore ckuJobDone) := rfl
@[simp] theorem exec_ckuCtxWrite (n : Nat) (isRun : Bool) (val : Word) (s : State) : exec (.ckuCtxWrite n isRun val) s = .next (s.runHost (if isRun then CKU_CTX_RUN n else CKU_CTX_CFG n) val (ckuCtxWrite n isRun val)) := rfl
@[simp] theorem exec_dcoCompress (s : State) : exec (.dcoCompress) s = .next (s.runHost DCO_CMD 1 dcoCompress) := rfl
@[simp] theorem exec_dcoDecompress (s : State) : exec (.dcoDecompress) s = .next (s.runHost DCO_CMD 2 dcoDecompress) := rfl
@[simp] theorem exec_dcoResume (s : State) : exec (.dcoResume) s = .next (s.runHost DCO_CMD 3 dcoResume) := rfl
@[simp] theorem exec_dcoAbort (s : State) : exec (.dcoAbort) s = .next (s.runHost DCO_CMD 4 dcoAbort) := rfl
@[simp] theorem exec_dcoOutFull (s : State) : exec (.dcoOutFull) s = .next (s.runCore dcoOutFull) := rfl
@[simp] theorem exec_dcoJobDone (s : State) : exec (.dcoJobDone) s = .next (s.runCore dcoJobDone) := rfl
@[simp] theorem exec_eventTick (s : State) : exec (.eventTick) s = .next (s.runAon eventTickEnd) := rfl
@[simp] theorem exec_ringWriteDone (s : State) : exec (.ringWriteDone) s = .next (s.runCore ringWriteDone) := rfl
@[simp] theorem exec_msixModerationExpire (c : Nat) (s : State) : exec (.msixModerationExpire c) s = .next (s.runCore (moderationExpire c)) := rfl
@[simp] theorem exec_msixUnmask (v : Option Nat) (s : State) : exec (.msixUnmask v) s = .next (s.keepQueue (match v with | some n => s.hostDo (MSIX_TABLE (4 * n + 3)) 0 (msixUnmask (some n)) | none => if s.pwr.rails.powerGood then msixUnmask none s else s)) := rfl
@[simp] theorem exec_swRaise (val : Word) (s : State) : exec (.swRaise val) s = .next (s.runHost EVC_SW_RAISE val (swRaise val)) := rfl
@[simp] theorem exec_earlyPop (s : State) : exec (.earlyPop) s = .next (s.runHost EVC_EARLY_POP 1 earlyPop) := rfl
@[simp] theorem exec_ringEnable (val : Word) (s : State) : exec (.ringEnable val) s = .next (s.runHost EVC_CTRL val (ringEnable val)) := rfl
@[simp] theorem exec_tickDivWrite (val : Word) (s : State) : exec (.tickDivWrite val) s = .next (s.runHost EVC_TICK val (tickDivWrite val)) := rfl
@[simp] theorem exec_sleepCmd (s : State) : exec (.sleepCmd) s = .next (s.runHost PWR_CMD 1 sleepCmd) := rfl
@[simp] theorem exec_deepSleepCmd (force : Bool) (s : State) : exec (.deepSleepCmd force) s = .next (s.runHost PWR_CMD 2 (deepSleepCmd force)) := rfl
@[simp] theorem exec_wakeCmd (s : State) : exec (.wakeCmd) s = .next (s.runHost PWR_CMD 3 wakeCmd) := rfl
@[simp] theorem exec_resumeAck (s : State) : exec (.resumeAck) s = .next (s.runHost PWR_CMD 0x100 resumeAck) := rfl
@[simp] theorem exec_sleepEntered (s : State) : exec (.sleepEntered) s = .next (s.runCore sleepEntered) := rfl
@[simp] theorem exec_wakePin (s : State) : exec (.wakePin) s = .next (s.runAon wakePinLow) := rfl
@[simp] theorem exec_wakeDone (s : State) : exec (.wakeDone) s = .next (s.runAon wakeDone) := rfl
@[simp] theorem exec_pllLockTimeout (pll : Nat) (s : State) : exec (.pllLockTimeout pll) s = .next (s.runAon (pllLockTimeout pll)) := rfl
@[simp] theorem exec_chGateWrite (val : Word) (s : State) : exec (.chGateWrite val) s = .next (s.runHost PWR_CH_GATE val (chGateWrite val)) := rfl
@[simp] theorem exec_kettleSample (s : State) : exec (.kettleSample) s = .next (s.runAon kettleSample) := rfl
@[simp] theorem exec_kettleSampleDone (readings : List SiteReading) (s : State) : exec (.kettleSampleDone readings) s = .next (s.runAon (kettleSampleDone readings)) := rfl
@[simp] theorem exec_throttleStep (s : State) : exec (.throttleStep) s = .next (s.runAon throttleStep) := rfl
@[simp] theorem exec_stopWindowExpire (s : State) : exec (.stopWindowExpire) s = .next (s.runAon stopWindowExpire) := rfl
@[simp] theorem exec_alive (h : MsgHdr) (pair : Nat) (inSync : Bool) (s : State) : exec (.alive h pair inSync) s = .next (s.runCore (alive h pair inSync)) := rfl
@[simp] theorem exec_aliveSend (s : State) : exec (.aliveSend) s = .next (s.runCore aliveSend) := rfl
@[simp] theorem exec_regw (h : MsgHdr) (writes : List (Nat × Word)) (s : State) : exec (.regw h writes) s = .next (s.runCore (regw h writes)) := rfl
@[simp] theorem exec_stack (h : MsgHdr) (m : StackMsg) (s : State) : exec (.stack h m) s = .next (s.runCore (stack h m)) := rfl
@[simp] theorem exec_commit (h : MsgHdr) (m : CommitMsg) (s : State) : exec (.commit h m) s = .next (s.runCore (commit h m)) := rfl
@[simp] theorem exec_build (h : MsgHdr) (m : BuildMsg) (s : State) : exec (.build h m) s = .next (s.runCore (build h m)) := rfl
@[simp] theorem exec_fstart (h : MsgHdr) (r : FrameRec) (s : State) : exec (.fstart h r) s = .next (s.runCore (fstart h r)) := rfl
@[simp] theorem exec_fend (h : MsgHdr) (r : FendRec) (s : State) : exec (.fend h r) s = .next (s.runCore (fend h r)) := rfl
@[simp] theorem exec_handover (h : MsgHdr) (s : State) : exec (.handover h) s = .next (s.runCore (handover h)) := rfl
@[simp] theorem exec_power (h : MsgHdr) (op : Nat) (s : State) : exec (.power h op) s = .next (s.runAon (power h op)) := rfl
@[simp] theorem exec_join (h : MsgHdr) (m : JoinMsg) (s : State) : exec (.join h m) s = .next (s.runCore (join h m)) := rfl
@[simp] theorem exec_tlid (h : MsgHdr) (q : Nat) (t : Nat) (s : State) : exec (.tlid h q t) s = .next (s.runCore (tlid h q t)) := rfl
@[simp] theorem exec_treset (h : MsgHdr) (kind : Nat) (t : Nat) (s : State) : exec (.treset h kind t) s = .next (s.runCore (treset h kind t)) := rfl
@[simp] theorem exec_ttime (h : MsgHdr) (ns : Nat) (s : State) : exec (.ttime h ns) s = .next (s.runCore (ttime h ns)) := rfl
@[simp] theorem exec_tdelay (h : MsgHdr) (m : TdelayMsg) (s : State) : exec (.tdelay h m) s = .next (s.runCore (tdelay h m)) := rfl
@[simp] theorem exec_tarm (h : MsgHdr) (freeze : Bool) (t : Nat) (s : State) : exec (.tarm h freeze t) s = .next (s.runCore (tarm h freeze t)) := rfl
@[simp] theorem exec_tbcast (h : MsgHdr) (mask : Nat) (a : Nat) (bs : List Byte) (s : State) : exec (.tbcast h mask a bs) s = .next (s.runCore (tbcast h mask a bs)) := rfl
@[simp] theorem exec_tstatus (h : MsgHdr) (s : State) : exec (.tstatus h) s = .next (s.runCore (tstatus h)) := rfl
@[simp] theorem exec_ehlAck (l : Nat) (seq : Nat) (s : State) : exec (.ehlAck l seq) s = .next (s.runCore (ehlAck l seq)) := rfl
@[simp] theorem exec_ehlNak (l : Nat) (seq : Nat) (s : State) : exec (.ehlNak l seq) s = .next (s.runCore (ehlNak l seq)) := rfl
@[simp] theorem exec_ehlReplayTimeout (l : Nat) (s : State) : exec (.ehlReplayTimeout l) s = .next (s.runCore (ehlReplayTimeout l)) := rfl
@[simp] theorem exec_ttimeSend (s : State) : exec (.ttimeSend) s = .next (s.runCore ttimeSend) := rfl
@[simp] theorem exec_tdelayExchange (s : State) : exec (.tdelayExchange) s = .next (s.runCore tdelayExchange) := rfl
@[simp] theorem exec_pairLinkUp (theirs : PairFar) (prio : Bool) (uid : Nat) (s : State) : exec (.pairLinkUp theirs prio uid) s = .next (s.runCore (pairLinkUp theirs.pair prio uid theirs.eyes)) := rfl
@[simp] theorem exec_pairLinkTimeout (s : State) : exec (.pairLinkTimeout) s = .next (s.runCore pairLinkTimeout) := rfl
@[simp] theorem exec_partnerSilent (s : State) : exec (.partnerSilent) s = .next (s.runCore partnerSilent) := rfl
@[simp] theorem exec_lagMaxReached (s : State) : exec (.lagMaxReached) s = .next (s.runCore lagMaxReached) := rfl
@[simp] theorem exec_ehlResync (s : State) : exec (.ehlResync) s = .next (s.runHost EHL_CMD 1 ehlResync) := rfl
@[simp] theorem exec_ehlHandover (s : State) : exec (.ehlHandover) s = .next (s.runHost EHL_CMD 2 ehlHandover) := rfl
@[simp] theorem exec_ehlTakeover (s : State) : exec (.ehlTakeover) s = .next (s.runHost EHL_CMD 3 ehlTakeover) := rfl
@[simp] theorem exec_treeLid (seq : Nat) (s : State) : exec (.treeLid seq) s = .next (s.runHost EHL_CMD 4 (treeLid seq)) := rfl
@[simp] theorem exec_treeReset (kind : Nat) (s : State) : exec (.treeReset kind) s = .next (s.runHost EHL_CMD 5 (treeReset kind)) := rfl
@[simp] theorem exec_snapArm (s : State) : exec (.snapArm) s = .next (s.runHost EHL_CMD 6 snapArm) := rfl
@[simp] theorem exec_freezeArm (s : State) : exec (.freezeArm) s = .next (s.runHost EHL_CMD 7 freezeArm) := rfl
@[simp] theorem exec_lidApply (s : State) : exec (.lidApply) s = .next (s.runCore lidApply) := rfl
@[simp] theorem exec_treeResetApply (s : State) : exec (.treeResetApply) s = .next (s.runCore treeResetApply) := rfl
@[simp] theorem exec_snapshotTake (s : State) : exec (.snapshotTake) s = .next (s.runCore snapshotTake) := rfl
@[simp] theorem exec_bcastStart (val : Word) (s : State) : exec (.bcastStart val) s = .next (s.runHost EHL_BC_CTRL val (bcastStart val)) := rfl
@[simp] theorem exec_bcastDone (err : Nat) (s : State) : exec (.bcastDone err) s = .next (s.runCore (bcastDone err)) := rfl
@[simp] theorem exec_parentSilent (s : State) : exec (.parentSilent) s = .next (s.runCore parentSilent) := rfl
@[simp] theorem exec_laneDown (l : Nat) (failed : Bool) (s : State) : exec (.laneDown l failed) s = .next (s.runCore (laneDown l failed)) := rfl
@[simp] theorem exec_timeLockChanged (s : State) : exec (.timeLockChanged) s = .next (s.runCore timeLockChanged) := rfl
@[simp] theorem exec_pcieLinkTrained (speed : Nat) (width : Nat) (s : State) : exec (.pcieLinkTrained speed width) s = .next (s.runPll pllPcie (pcieLinkTrained speed width)) := rfl
@[simp] theorem exec_functionReset (linkLost : Bool) (s : State) : exec (.functionReset linkLost) s = .next (s.runPll pllPcie (functionReset linkLost)) := rfl
@[simp] theorem exec_gctlResetFull (val : Word) (s : State) : exec (.gctlResetFull val) s = .next (s.runHost GCTL_RESET val (gctlResetFull val)) := rfl
@[simp] theorem exec_gctlResetImage (val : Word) (s : State) : exec (.gctlResetImage val) s = .next (s.runHost GCTL_RESET val (gctlResetImage val)) := rfl
@[simp] theorem exec_resetPin (s : State) : exec (.resetPin) s = .next (s.runAlways resetPin) := rfl
@[simp] theorem exec_powerGoodRise (bootSel : Bool) (s : State) : exec (.powerGoodRise bootSel) s = .next (s.runAlways (powerGoodRise bootSel)) := rfl
@[simp] theorem exec_powerGoodFall (s : State) : exec (.powerGoodFall) s = .next (s.runAlways powerGoodFall) := rfl
@[simp] theorem exec_railPgFall (sds : Bool) (s : State) : exec (.railPgFall sds) s = .next (s.runAlways (railPgFall sds)) := rfl
@[simp] theorem exec_railReenable (s : State) : exec (.railReenable) s = .next (s.runAlways railReenable) := rfl
@[simp] theorem exec_powerEnableOutputs (s : State) : exec (.powerEnableOutputs) s = .next (s.runAlways powerEnableOutputs) := rfl
@[simp] theorem exec_fusesDone (s : State) : exec (.fusesDone) s = .next (s.runAon fusesDone) := rfl
@[simp] theorem exec_applyDone (s : State) : exec (.applyDone) s = .next (s.runCore applyDone) := rfl
@[simp] theorem exec_firstFrameStart (s : State) : exec (.firstFrameStart) s = .next (s.runCore firstFrameStart) := rfl
@[simp] theorem exec_bootLate (s : State) : exec (.bootLate) s = .next (s.runAon bootLate) := rfl
@[simp] theorem exec_calrecSave (s : State) : exec (.calrecSave) s = .next (s.runHost GCTL_CALREC_CMD 1 calrecSave) := rfl
@[simp] theorem exec_calrecRestore (s : State) : exec (.calrecRestore) s = .next (s.runHost GCTL_CALREC_CMD 2 calrecRestore) := rfl
@[simp] theorem exec_calrecDone (s : State) : exec (.calrecDone) s = .next (s.runCore calrecDone) := rfl
@[simp] theorem exec_rcRead (off : Nat) (s : State) : exec (.rcRead off) s = .next (s.runAlways (rcRead off)) := rfl
@[simp] theorem exec_configurationRequest (w : CfgWrite) (s : State) : exec (.configurationRequest w) s = .next (s.runPll pllPcie (configurationRequest w)) := rfl
@[simp] theorem exec_hierarchyLaneUp (l : Nat) (far : LaneFar) (s : State) : exec (.hierarchyLaneUp l far) s = .next (s.runCore (hierarchyLaneUp l far.level far.eye)) := rfl
@[simp] theorem exec_pgHbmPgSdsRise (s : State) : exec (.pgHbmPgSdsRise) s = .next (s.runAlways pgHbmPgSdsRise) := rfl
@[simp] theorem exec_vddAonBelowMinimum (s : State) : exec (.vddAonBelowMinimum) s = .next (s.runAlways vddAonBelowMinimum) := rfl
@[simp] theorem exec_pulseWidthEnd (pps : Bool) (s : State) : exec (.pulseWidthEnd pps) s = .next (s.runPll pllTime (pulseWidthEnd pps)) := rfl

end Sys2Proof.Machine
end

