-- ==== Sys2Proof/Laws/State.lean ====
section
/-!
SUPPORT. What each base update of the state leaves alone, field by field.
-/

namespace Sys2Proof.Machine

@[simp] theorem State.wr_was (s : State) (o : Nat) (v : Word) : (s.wr o v).was = s.was := rfl
@[simp] theorem State.wr_mem (s : State) (o : Nat) (v : Word) : (s.wr o v).mem = s.mem := rfl
@[simp] theorem State.wr_poison (s : State) (o : Nat) (v : Word) : (s.wr o v).poison = s.poison := rfl
@[simp] theorem State.wr_now (s : State) (o : Nat) (v : Word) : (s.wr o v).now = s.now := rfl
@[simp] theorem State.wr_freeCtr (s : State) (o : Nat) (v : Word) : (s.wr o v).freeCtr = s.freeCtr := rfl
@[simp] theorem State.wr_evc (s : State) (o : Nat) (v : Word) : (s.wr o v).evc = s.evc := rfl
@[simp] theorem State.wr_tmu (s : State) (o : Nat) (v : Word) : (s.wr o v).tmu = s.tmu := rfl
@[simp] theorem State.wr_pwr (s : State) (o : Nat) (v : Word) : (s.wr o v).pwr = s.pwr := rfl
@[simp] theorem State.wr_hbm (s : State) (o : Nat) (v : Word) : (s.wr o v).hbm = s.hbm := rfl
@[simp] theorem State.wr_pcie (s : State) (o : Nat) (v : Word) : (s.wr o v).pcie = s.pcie := rfl
@[simp] theorem State.wr_streams (s : State) (o : Nat) (v : Word) : (s.wr o v).streams = s.streams := rfl
@[simp] theorem State.wr_lease (s : State) (o : Nat) (v : Word) : (s.wr o v).lease = s.lease := rfl
@[simp] theorem State.wr_sup (s : State) (o : Nat) (v : Word) : (s.wr o v).sup = s.sup := rfl
@[simp] theorem State.wr_csu (s : State) (o : Nat) (v : Word) : (s.wr o v).csu = s.csu := rfl
@[simp] theorem State.wr_engines (s : State) (o : Nat) (v : Word) : (s.wr o v).engines = s.engines := rfl
@[simp] theorem State.wr_chans (s : State) (o : Nat) (v : Word) : (s.wr o v).chans = s.chans := rfl
@[simp] theorem State.wr_frame (s : State) (o : Nat) (v : Word) : (s.wr o v).frame = s.frame := rfl
@[simp] theorem State.wr_cmp (s : State) (o : Nat) (v : Word) : (s.wr o v).cmp = s.cmp := rfl
@[simp] theorem State.wr_ovl (s : State) (o : Nat) (v : Word) : (s.wr o v).ovl = s.ovl := rfl
@[simp] theorem State.wr_spl (s : State) (o : Nat) (v : Word) : (s.wr o v).spl = s.spl := rfl
@[simp] theorem State.wr_aux (s : State) (o : Nat) (v : Word) : (s.wr o v).aux = s.aux := rfl
@[simp] theorem State.wr_cal (s : State) (o : Nat) (v : Word) : (s.wr o v).cal = s.cal := rfl
@[simp] theorem State.wr_cam (s : State) (o : Nat) (v : Word) : (s.wr o v).cam = s.cam := rfl
@[simp] theorem State.wr_ehl (s : State) (o : Nat) (v : Word) : (s.wr o v).ehl = s.ehl := rfl
@[simp] theorem State.wr_net (s : State) (o : Nat) (v : Word) : (s.wr o v).net = s.net := rfl
@[simp] theorem State.wr_codec (s : State) (o : Nat) (v : Word) : (s.wr o v).codec = s.codec := rfl
@[simp] theorem State.wr_pending (s : State) (o : Nat) (v : Word) : (s.wr o v).pending = s.pending := rfl

@[simp] theorem State.wrN_was (s : State) (o v : Nat) : (s.wrN o v).was = s.was := rfl
@[simp] theorem State.wrN_mem (s : State) (o v : Nat) : (s.wrN o v).mem = s.mem := rfl
@[simp] theorem State.wrN_poison (s : State) (o v : Nat) : (s.wrN o v).poison = s.poison := rfl
@[simp] theorem State.wrN_now (s : State) (o v : Nat) : (s.wrN o v).now = s.now := rfl
@[simp] theorem State.wrN_freeCtr (s : State) (o v : Nat) : (s.wrN o v).freeCtr = s.freeCtr := rfl
@[simp] theorem State.wrN_evc (s : State) (o v : Nat) : (s.wrN o v).evc = s.evc := rfl
@[simp] theorem State.wrN_tmu (s : State) (o v : Nat) : (s.wrN o v).tmu = s.tmu := rfl
@[simp] theorem State.wrN_pwr (s : State) (o v : Nat) : (s.wrN o v).pwr = s.pwr := rfl
@[simp] theorem State.wrN_hbm (s : State) (o v : Nat) : (s.wrN o v).hbm = s.hbm := rfl
@[simp] theorem State.wrN_pcie (s : State) (o v : Nat) : (s.wrN o v).pcie = s.pcie := rfl
@[simp] theorem State.wrN_streams (s : State) (o v : Nat) : (s.wrN o v).streams = s.streams := rfl
@[simp] theorem State.wrN_lease (s : State) (o v : Nat) : (s.wrN o v).lease = s.lease := rfl
@[simp] theorem State.wrN_sup (s : State) (o v : Nat) : (s.wrN o v).sup = s.sup := rfl
@[simp] theorem State.wrN_csu (s : State) (o v : Nat) : (s.wrN o v).csu = s.csu := rfl
@[simp] theorem State.wrN_engines (s : State) (o v : Nat) : (s.wrN o v).engines = s.engines := rfl
@[simp] theorem State.wrN_chans (s : State) (o v : Nat) : (s.wrN o v).chans = s.chans := rfl
@[simp] theorem State.wrN_frame (s : State) (o v : Nat) : (s.wrN o v).frame = s.frame := rfl
@[simp] theorem State.wrN_cmp (s : State) (o v : Nat) : (s.wrN o v).cmp = s.cmp := rfl
@[simp] theorem State.wrN_ovl (s : State) (o v : Nat) : (s.wrN o v).ovl = s.ovl := rfl
@[simp] theorem State.wrN_spl (s : State) (o v : Nat) : (s.wrN o v).spl = s.spl := rfl
@[simp] theorem State.wrN_aux (s : State) (o v : Nat) : (s.wrN o v).aux = s.aux := rfl
@[simp] theorem State.wrN_cal (s : State) (o v : Nat) : (s.wrN o v).cal = s.cal := rfl
@[simp] theorem State.wrN_cam (s : State) (o v : Nat) : (s.wrN o v).cam = s.cam := rfl
@[simp] theorem State.wrN_ehl (s : State) (o v : Nat) : (s.wrN o v).ehl = s.ehl := rfl
@[simp] theorem State.wrN_net (s : State) (o v : Nat) : (s.wrN o v).net = s.net := rfl
@[simp] theorem State.wrN_codec (s : State) (o v : Nat) : (s.wrN o v).codec = s.codec := rfl
@[simp] theorem State.wrN_pending (s : State) (o v : Nat) : (s.wrN o v).pending = s.pending := rfl

@[simp] theorem State.put_was (s : State) (f : Fld) (x : Nat) : (s.put f x).was = s.was := rfl
@[simp] theorem State.put_mem (s : State) (f : Fld) (x : Nat) : (s.put f x).mem = s.mem := rfl
@[simp] theorem State.put_poison (s : State) (f : Fld) (x : Nat) : (s.put f x).poison = s.poison := rfl
@[simp] theorem State.put_now (s : State) (f : Fld) (x : Nat) : (s.put f x).now = s.now := rfl
@[simp] theorem State.put_freeCtr (s : State) (f : Fld) (x : Nat) : (s.put f x).freeCtr = s.freeCtr := rfl
@[simp] theorem State.put_evc (s : State) (f : Fld) (x : Nat) : (s.put f x).evc = s.evc := rfl
@[simp] theorem State.put_tmu (s : State) (f : Fld) (x : Nat) : (s.put f x).tmu = s.tmu := rfl
@[simp] theorem State.put_pwr (s : State) (f : Fld) (x : Nat) : (s.put f x).pwr = s.pwr := rfl
@[simp] theorem State.put_hbm (s : State) (f : Fld) (x : Nat) : (s.put f x).hbm = s.hbm := rfl
@[simp] theorem State.put_pcie (s : State) (f : Fld) (x : Nat) : (s.put f x).pcie = s.pcie := rfl
@[simp] theorem State.put_streams (s : State) (f : Fld) (x : Nat) : (s.put f x).streams = s.streams := rfl
@[simp] theorem State.put_lease (s : State) (f : Fld) (x : Nat) : (s.put f x).lease = s.lease := rfl
@[simp] theorem State.put_sup (s : State) (f : Fld) (x : Nat) : (s.put f x).sup = s.sup := rfl
@[simp] theorem State.put_csu (s : State) (f : Fld) (x : Nat) : (s.put f x).csu = s.csu := rfl
@[simp] theorem State.put_engines (s : State) (f : Fld) (x : Nat) : (s.put f x).engines = s.engines := rfl
@[simp] theorem State.put_chans (s : State) (f : Fld) (x : Nat) : (s.put f x).chans = s.chans := rfl
@[simp] theorem State.put_frame (s : State) (f : Fld) (x : Nat) : (s.put f x).frame = s.frame := rfl
@[simp] theorem State.put_cmp (s : State) (f : Fld) (x : Nat) : (s.put f x).cmp = s.cmp := rfl
@[simp] theorem State.put_ovl (s : State) (f : Fld) (x : Nat) : (s.put f x).ovl = s.ovl := rfl
@[simp] theorem State.put_spl (s : State) (f : Fld) (x : Nat) : (s.put f x).spl = s.spl := rfl
@[simp] theorem State.put_aux (s : State) (f : Fld) (x : Nat) : (s.put f x).aux = s.aux := rfl
@[simp] theorem State.put_cal (s : State) (f : Fld) (x : Nat) : (s.put f x).cal = s.cal := rfl
@[simp] theorem State.put_cam (s : State) (f : Fld) (x : Nat) : (s.put f x).cam = s.cam := rfl
@[simp] theorem State.put_ehl (s : State) (f : Fld) (x : Nat) : (s.put f x).ehl = s.ehl := rfl
@[simp] theorem State.put_net (s : State) (f : Fld) (x : Nat) : (s.put f x).net = s.net := rfl
@[simp] theorem State.put_codec (s : State) (f : Fld) (x : Nat) : (s.put f x).codec = s.codec := rfl
@[simp] theorem State.put_pending (s : State) (f : Fld) (x : Nat) : (s.put f x).pending = s.pending := rfl

@[simp] theorem State.putB_was (s : State) (f : Fld) (b : Bool) : (s.putB f b).was = s.was := rfl
@[simp] theorem State.putB_mem (s : State) (f : Fld) (b : Bool) : (s.putB f b).mem = s.mem := rfl
@[simp] theorem State.putB_poison (s : State) (f : Fld) (b : Bool) : (s.putB f b).poison = s.poison := rfl
@[simp] theorem State.putB_now (s : State) (f : Fld) (b : Bool) : (s.putB f b).now = s.now := rfl
@[simp] theorem State.putB_freeCtr (s : State) (f : Fld) (b : Bool) : (s.putB f b).freeCtr = s.freeCtr := rfl
@[simp] theorem State.putB_evc (s : State) (f : Fld) (b : Bool) : (s.putB f b).evc = s.evc := rfl
@[simp] theorem State.putB_tmu (s : State) (f : Fld) (b : Bool) : (s.putB f b).tmu = s.tmu := rfl
@[simp] theorem State.putB_pwr (s : State) (f : Fld) (b : Bool) : (s.putB f b).pwr = s.pwr := rfl
@[simp] theorem State.putB_hbm (s : State) (f : Fld) (b : Bool) : (s.putB f b).hbm = s.hbm := rfl
@[simp] theorem State.putB_pcie (s : State) (f : Fld) (b : Bool) : (s.putB f b).pcie = s.pcie := rfl
@[simp] theorem State.putB_streams (s : State) (f : Fld) (b : Bool) : (s.putB f b).streams = s.streams := rfl
@[simp] theorem State.putB_lease (s : State) (f : Fld) (b : Bool) : (s.putB f b).lease = s.lease := rfl
@[simp] theorem State.putB_sup (s : State) (f : Fld) (b : Bool) : (s.putB f b).sup = s.sup := rfl
@[simp] theorem State.putB_csu (s : State) (f : Fld) (b : Bool) : (s.putB f b).csu = s.csu := rfl
@[simp] theorem State.putB_engines (s : State) (f : Fld) (b : Bool) : (s.putB f b).engines = s.engines := rfl
@[simp] theorem State.putB_chans (s : State) (f : Fld) (b : Bool) : (s.putB f b).chans = s.chans := rfl
@[simp] theorem State.putB_frame (s : State) (f : Fld) (b : Bool) : (s.putB f b).frame = s.frame := rfl
@[simp] theorem State.putB_cmp (s : State) (f : Fld) (b : Bool) : (s.putB f b).cmp = s.cmp := rfl
@[simp] theorem State.putB_ovl (s : State) (f : Fld) (b : Bool) : (s.putB f b).ovl = s.ovl := rfl
@[simp] theorem State.putB_spl (s : State) (f : Fld) (b : Bool) : (s.putB f b).spl = s.spl := rfl
@[simp] theorem State.putB_aux (s : State) (f : Fld) (b : Bool) : (s.putB f b).aux = s.aux := rfl
@[simp] theorem State.putB_cal (s : State) (f : Fld) (b : Bool) : (s.putB f b).cal = s.cal := rfl
@[simp] theorem State.putB_cam (s : State) (f : Fld) (b : Bool) : (s.putB f b).cam = s.cam := rfl
@[simp] theorem State.putB_ehl (s : State) (f : Fld) (b : Bool) : (s.putB f b).ehl = s.ehl := rfl
@[simp] theorem State.putB_net (s : State) (f : Fld) (b : Bool) : (s.putB f b).net = s.net := rfl
@[simp] theorem State.putB_codec (s : State) (f : Fld) (b : Bool) : (s.putB f b).codec = s.codec := rfl
@[simp] theorem State.putB_pending (s : State) (f : Fld) (b : Bool) : (s.putB f b).pending = s.pending := rfl

@[simp] theorem State.putBit_was (s : State) (o i : Nat) (b : Bool) : (s.putBit o i b).was = s.was := rfl
@[simp] theorem State.putBit_mem (s : State) (o i : Nat) (b : Bool) : (s.putBit o i b).mem = s.mem := rfl
@[simp] theorem State.putBit_poison (s : State) (o i : Nat) (b : Bool) : (s.putBit o i b).poison = s.poison := rfl
@[simp] theorem State.putBit_now (s : State) (o i : Nat) (b : Bool) : (s.putBit o i b).now = s.now := rfl
@[simp] theorem State.putBit_freeCtr (s : State) (o i : Nat) (b : Bool) : (s.putBit o i b).freeCtr = s.freeCtr := rfl
@[simp] theorem State.putBit_evc (s : State) (o i : Nat) (b : Bool) : (s.putBit o i b).evc = s.evc := rfl
@[simp] theorem State.putBit_tmu (s : State) (o i : Nat) (b : Bool) : (s.putBit o i b).tmu = s.tmu := rfl
@[simp] theorem State.putBit_pwr (s : State) (o i : Nat) (b : Bool) : (s.putBit o i b).pwr = s.pwr := rfl
@[simp] theorem State.putBit_hbm (s : State) (o i : Nat) (b : Bool) : (s.putBit o i b).hbm = s.hbm := rfl
@[simp] theorem State.putBit_pcie (s : State) (o i : Nat) (b : Bool) : (s.putBit o i b).pcie = s.pcie := rfl
@[simp] theorem State.putBit_streams (s : State) (o i : Nat) (b : Bool) : (s.putBit o i b).streams = s.streams := rfl
@[simp] theorem State.putBit_lease (s : State) (o i : Nat) (b : Bool) : (s.putBit o i b).lease = s.lease := rfl
@[simp] theorem State.putBit_sup (s : State) (o i : Nat) (b : Bool) : (s.putBit o i b).sup = s.sup := rfl
@[simp] theorem State.putBit_csu (s : State) (o i : Nat) (b : Bool) : (s.putBit o i b).csu = s.csu := rfl
@[simp] theorem State.putBit_engines (s : State) (o i : Nat) (b : Bool) : (s.putBit o i b).engines = s.engines := rfl
@[simp] theorem State.putBit_chans (s : State) (o i : Nat) (b : Bool) : (s.putBit o i b).chans = s.chans := rfl
@[simp] theorem State.putBit_frame (s : State) (o i : Nat) (b : Bool) : (s.putBit o i b).frame = s.frame := rfl
@[simp] theorem State.putBit_cmp (s : State) (o i : Nat) (b : Bool) : (s.putBit o i b).cmp = s.cmp := rfl
@[simp] theorem State.putBit_ovl (s : State) (o i : Nat) (b : Bool) : (s.putBit o i b).ovl = s.ovl := rfl
@[simp] theorem State.putBit_spl (s : State) (o i : Nat) (b : Bool) : (s.putBit o i b).spl = s.spl := rfl
@[simp] theorem State.putBit_aux (s : State) (o i : Nat) (b : Bool) : (s.putBit o i b).aux = s.aux := rfl
@[simp] theorem State.putBit_cal (s : State) (o i : Nat) (b : Bool) : (s.putBit o i b).cal = s.cal := rfl
@[simp] theorem State.putBit_cam (s : State) (o i : Nat) (b : Bool) : (s.putBit o i b).cam = s.cam := rfl
@[simp] theorem State.putBit_ehl (s : State) (o i : Nat) (b : Bool) : (s.putBit o i b).ehl = s.ehl := rfl
@[simp] theorem State.putBit_net (s : State) (o i : Nat) (b : Bool) : (s.putBit o i b).net = s.net := rfl
@[simp] theorem State.putBit_codec (s : State) (o i : Nat) (b : Bool) : (s.putBit o i b).codec = s.codec := rfl
@[simp] theorem State.putBit_pending (s : State) (o i : Nat) (b : Bool) : (s.putBit o i b).pending = s.pending := rfl

@[simp] theorem State.countN_was (s : State) (o n : Nat) : (s.countN o n).was = s.was := rfl
@[simp] theorem State.countN_mem (s : State) (o n : Nat) : (s.countN o n).mem = s.mem := rfl
@[simp] theorem State.countN_poison (s : State) (o n : Nat) : (s.countN o n).poison = s.poison := rfl
@[simp] theorem State.countN_now (s : State) (o n : Nat) : (s.countN o n).now = s.now := rfl
@[simp] theorem State.countN_freeCtr (s : State) (o n : Nat) : (s.countN o n).freeCtr = s.freeCtr := rfl
@[simp] theorem State.countN_evc (s : State) (o n : Nat) : (s.countN o n).evc = s.evc := rfl
@[simp] theorem State.countN_tmu (s : State) (o n : Nat) : (s.countN o n).tmu = s.tmu := rfl
@[simp] theorem State.countN_pwr (s : State) (o n : Nat) : (s.countN o n).pwr = s.pwr := rfl
@[simp] theorem State.countN_hbm (s : State) (o n : Nat) : (s.countN o n).hbm = s.hbm := rfl
@[simp] theorem State.countN_pcie (s : State) (o n : Nat) : (s.countN o n).pcie = s.pcie := rfl
@[simp] theorem State.countN_streams (s : State) (o n : Nat) : (s.countN o n).streams = s.streams := rfl
@[simp] theorem State.countN_lease (s : State) (o n : Nat) : (s.countN o n).lease = s.lease := rfl
@[simp] theorem State.countN_sup (s : State) (o n : Nat) : (s.countN o n).sup = s.sup := rfl
@[simp] theorem State.countN_csu (s : State) (o n : Nat) : (s.countN o n).csu = s.csu := rfl
@[simp] theorem State.countN_engines (s : State) (o n : Nat) : (s.countN o n).engines = s.engines := rfl
@[simp] theorem State.countN_chans (s : State) (o n : Nat) : (s.countN o n).chans = s.chans := rfl
@[simp] theorem State.countN_frame (s : State) (o n : Nat) : (s.countN o n).frame = s.frame := rfl
@[simp] theorem State.countN_cmp (s : State) (o n : Nat) : (s.countN o n).cmp = s.cmp := rfl
@[simp] theorem State.countN_ovl (s : State) (o n : Nat) : (s.countN o n).ovl = s.ovl := rfl
@[simp] theorem State.countN_spl (s : State) (o n : Nat) : (s.countN o n).spl = s.spl := rfl
@[simp] theorem State.countN_aux (s : State) (o n : Nat) : (s.countN o n).aux = s.aux := rfl
@[simp] theorem State.countN_cal (s : State) (o n : Nat) : (s.countN o n).cal = s.cal := rfl
@[simp] theorem State.countN_cam (s : State) (o n : Nat) : (s.countN o n).cam = s.cam := rfl
@[simp] theorem State.countN_ehl (s : State) (o n : Nat) : (s.countN o n).ehl = s.ehl := rfl
@[simp] theorem State.countN_net (s : State) (o n : Nat) : (s.countN o n).net = s.net := rfl
@[simp] theorem State.countN_codec (s : State) (o n : Nat) : (s.countN o n).codec = s.codec := rfl
@[simp] theorem State.countN_pending (s : State) (o n : Nat) : (s.countN o n).pending = s.pending := rfl

@[simp] theorem State.count_was (s : State) (o : Nat) : (s.count o).was = s.was := rfl
@[simp] theorem State.count_mem (s : State) (o : Nat) : (s.count o).mem = s.mem := rfl
@[simp] theorem State.count_poison (s : State) (o : Nat) : (s.count o).poison = s.poison := rfl
@[simp] theorem State.count_now (s : State) (o : Nat) : (s.count o).now = s.now := rfl
@[simp] theorem State.count_freeCtr (s : State) (o : Nat) : (s.count o).freeCtr = s.freeCtr := rfl
@[simp] theorem State.count_evc (s : State) (o : Nat) : (s.count o).evc = s.evc := rfl
@[simp] theorem State.count_tmu (s : State) (o : Nat) : (s.count o).tmu = s.tmu := rfl
@[simp] theorem State.count_pwr (s : State) (o : Nat) : (s.count o).pwr = s.pwr := rfl
@[simp] theorem State.count_hbm (s : State) (o : Nat) : (s.count o).hbm = s.hbm := rfl
@[simp] theorem State.count_pcie (s : State) (o : Nat) : (s.count o).pcie = s.pcie := rfl
@[simp] theorem State.count_streams (s : State) (o : Nat) : (s.count o).streams = s.streams := rfl
@[simp] theorem State.count_lease (s : State) (o : Nat) : (s.count o).lease = s.lease := rfl
@[simp] theorem State.count_sup (s : State) (o : Nat) : (s.count o).sup = s.sup := rfl
@[simp] theorem State.count_csu (s : State) (o : Nat) : (s.count o).csu = s.csu := rfl
@[simp] theorem State.count_engines (s : State) (o : Nat) : (s.count o).engines = s.engines := rfl
@[simp] theorem State.count_chans (s : State) (o : Nat) : (s.count o).chans = s.chans := rfl
@[simp] theorem State.count_frame (s : State) (o : Nat) : (s.count o).frame = s.frame := rfl
@[simp] theorem State.count_cmp (s : State) (o : Nat) : (s.count o).cmp = s.cmp := rfl
@[simp] theorem State.count_ovl (s : State) (o : Nat) : (s.count o).ovl = s.ovl := rfl
@[simp] theorem State.count_spl (s : State) (o : Nat) : (s.count o).spl = s.spl := rfl
@[simp] theorem State.count_aux (s : State) (o : Nat) : (s.count o).aux = s.aux := rfl
@[simp] theorem State.count_cal (s : State) (o : Nat) : (s.count o).cal = s.cal := rfl
@[simp] theorem State.count_cam (s : State) (o : Nat) : (s.count o).cam = s.cam := rfl
@[simp] theorem State.count_ehl (s : State) (o : Nat) : (s.count o).ehl = s.ehl := rfl
@[simp] theorem State.count_net (s : State) (o : Nat) : (s.count o).net = s.net := rfl
@[simp] theorem State.count_codec (s : State) (o : Nat) : (s.count o).codec = s.codec := rfl
@[simp] theorem State.count_pending (s : State) (o : Nat) : (s.count o).pending = s.pending := rfl

@[simp] theorem State.raiseCls_regs (s : State) (m : Bool) (a c d : Nat) : (s.raiseCls m a c d).regs = s.regs := rfl
@[simp] theorem State.raiseCls_was (s : State) (m : Bool) (a c d : Nat) : (s.raiseCls m a c d).was = s.was := rfl
@[simp] theorem State.raiseCls_mem (s : State) (m : Bool) (a c d : Nat) : (s.raiseCls m a c d).mem = s.mem := rfl
@[simp] theorem State.raiseCls_poison (s : State) (m : Bool) (a c d : Nat) : (s.raiseCls m a c d).poison = s.poison := rfl
@[simp] theorem State.raiseCls_now (s : State) (m : Bool) (a c d : Nat) : (s.raiseCls m a c d).now = s.now := rfl
@[simp] theorem State.raiseCls_freeCtr (s : State) (m : Bool) (a c d : Nat) : (s.raiseCls m a c d).freeCtr = s.freeCtr := rfl
@[simp] theorem State.raiseCls_tmu (s : State) (m : Bool) (a c d : Nat) : (s.raiseCls m a c d).tmu = s.tmu := rfl
@[simp] theorem State.raiseCls_pwr (s : State) (m : Bool) (a c d : Nat) : (s.raiseCls m a c d).pwr = s.pwr := rfl
@[simp] theorem State.raiseCls_hbm (s : State) (m : Bool) (a c d : Nat) : (s.raiseCls m a c d).hbm = s.hbm := rfl
@[simp] theorem State.raiseCls_pcie (s : State) (m : Bool) (a c d : Nat) : (s.raiseCls m a c d).pcie = s.pcie := rfl
@[simp] theorem State.raiseCls_streams (s : State) (m : Bool) (a c d : Nat) : (s.raiseCls m a c d).streams = s.streams := rfl
@[simp] theorem State.raiseCls_lease (s : State) (m : Bool) (a c d : Nat) : (s.raiseCls m a c d).lease = s.lease := rfl
@[simp] theorem State.raiseCls_sup (s : State) (m : Bool) (a c d : Nat) : (s.raiseCls m a c d).sup = s.sup := rfl
@[simp] theorem State.raiseCls_csu (s : State) (m : Bool) (a c d : Nat) : (s.raiseCls m a c d).csu = s.csu := rfl
@[simp] theorem State.raiseCls_engines (s : State) (m : Bool) (a c d : Nat) : (s.raiseCls m a c d).engines = s.engines := rfl
@[simp] theorem State.raiseCls_chans (s : State) (m : Bool) (a c d : Nat) : (s.raiseCls m a c d).chans = s.chans := rfl
@[simp] theorem State.raiseCls_frame (s : State) (m : Bool) (a c d : Nat) : (s.raiseCls m a c d).frame = s.frame := rfl
@[simp] theorem State.raiseCls_cmp (s : State) (m : Bool) (a c d : Nat) : (s.raiseCls m a c d).cmp = s.cmp := rfl
@[simp] theorem State.raiseCls_ovl (s : State) (m : Bool) (a c d : Nat) : (s.raiseCls m a c d).ovl = s.ovl := rfl
@[simp] theorem State.raiseCls_spl (s : State) (m : Bool) (a c d : Nat) : (s.raiseCls m a c d).spl = s.spl := rfl
@[simp] theorem State.raiseCls_aux (s : State) (m : Bool) (a c d : Nat) : (s.raiseCls m a c d).aux = s.aux := rfl
@[simp] theorem State.raiseCls_cal (s : State) (m : Bool) (a c d : Nat) : (s.raiseCls m a c d).cal = s.cal := rfl
@[simp] theorem State.raiseCls_cam (s : State) (m : Bool) (a c d : Nat) : (s.raiseCls m a c d).cam = s.cam := rfl
@[simp] theorem State.raiseCls_ehl (s : State) (m : Bool) (a c d : Nat) : (s.raiseCls m a c d).ehl = s.ehl := rfl
@[simp] theorem State.raiseCls_net (s : State) (m : Bool) (a c d : Nat) : (s.raiseCls m a c d).net = s.net := rfl
@[simp] theorem State.raiseCls_codec (s : State) (m : Bool) (a c d : Nat) : (s.raiseCls m a c d).codec = s.codec := rfl
@[simp] theorem State.raiseCls_pending (s : State) (m : Bool) (a c d : Nat) : (s.raiseCls m a c d).pending = s.pending := rfl
@[simp] theorem State.raiseCls_rd (s : State) (m : Bool) (a c d : Nat) (q : Nat) : (s.raiseCls m a c d).rd q = s.rd q := rfl
@[simp] theorem State.raiseCls_rdN (s : State) (m : Bool) (a c d : Nat) (q : Nat) : (s.raiseCls m a c d).rdN q = s.rdN q := rfl
@[simp] theorem State.raiseCls_get (s : State) (m : Bool) (a c d : Nat) (q : Fld) : (s.raiseCls m a c d).get q = s.get q := rfl
@[simp] theorem State.raiseCls_on (s : State) (m : Bool) (a c d : Nat) (q : Fld) : (s.raiseCls m a c d).on q = s.on q := rfl
@[simp] theorem State.raiseCls_bits (s : State) (m : Bool) (a c d : Nat) (q h l : Nat) : (s.raiseCls m a c d).bits q h l = s.bits q h l := rfl

@[simp] theorem State.raise_regs (s : State) (a d : Nat) : (s.raise a d).regs = s.regs := rfl
@[simp] theorem State.raise_was (s : State) (a d : Nat) : (s.raise a d).was = s.was := rfl
@[simp] theorem State.raise_mem (s : State) (a d : Nat) : (s.raise a d).mem = s.mem := rfl
@[simp] theorem State.raise_poison (s : State) (a d : Nat) : (s.raise a d).poison = s.poison := rfl
@[simp] theorem State.raise_now (s : State) (a d : Nat) : (s.raise a d).now = s.now := rfl
@[simp] theorem State.raise_freeCtr (s : State) (a d : Nat) : (s.raise a d).freeCtr = s.freeCtr := rfl
@[simp] theorem State.raise_tmu (s : State) (a d : Nat) : (s.raise a d).tmu = s.tmu := rfl
@[simp] theorem State.raise_pwr (s : State) (a d : Nat) : (s.raise a d).pwr = s.pwr := rfl
@[simp] theorem State.raise_hbm (s : State) (a d : Nat) : (s.raise a d).hbm = s.hbm := rfl
@[simp] theorem State.raise_pcie (s : State) (a d : Nat) : (s.raise a d).pcie = s.pcie := rfl
@[simp] theorem State.raise_streams (s : State) (a d : Nat) : (s.raise a d).streams = s.streams := rfl
@[simp] theorem State.raise_lease (s : State) (a d : Nat) : (s.raise a d).lease = s.lease := rfl
@[simp] theorem State.raise_sup (s : State) (a d : Nat) : (s.raise a d).sup = s.sup := rfl
@[simp] theorem State.raise_csu (s : State) (a d : Nat) : (s.raise a d).csu = s.csu := rfl
@[simp] theorem State.raise_engines (s : State) (a d : Nat) : (s.raise a d).engines = s.engines := rfl
@[simp] theorem State.raise_chans (s : State) (a d : Nat) : (s.raise a d).chans = s.chans := rfl
@[simp] theorem State.raise_frame (s : State) (a d : Nat) : (s.raise a d).frame = s.frame := rfl
@[simp] theorem State.raise_cmp (s : State) (a d : Nat) : (s.raise a d).cmp = s.cmp := rfl
@[simp] theorem State.raise_ovl (s : State) (a d : Nat) : (s.raise a d).ovl = s.ovl := rfl
@[simp] theorem State.raise_spl (s : State) (a d : Nat) : (s.raise a d).spl = s.spl := rfl
@[simp] theorem State.raise_aux (s : State) (a d : Nat) : (s.raise a d).aux = s.aux := rfl
@[simp] theorem State.raise_cal (s : State) (a d : Nat) : (s.raise a d).cal = s.cal := rfl
@[simp] theorem State.raise_cam (s : State) (a d : Nat) : (s.raise a d).cam = s.cam := rfl
@[simp] theorem State.raise_ehl (s : State) (a d : Nat) : (s.raise a d).ehl = s.ehl := rfl
@[simp] theorem State.raise_net (s : State) (a d : Nat) : (s.raise a d).net = s.net := rfl
@[simp] theorem State.raise_codec (s : State) (a d : Nat) : (s.raise a d).codec = s.codec := rfl
@[simp] theorem State.raise_pending (s : State) (a d : Nat) : (s.raise a d).pending = s.pending := rfl
@[simp] theorem State.raise_rd (s : State) (a d : Nat) (q : Nat) : (s.raise a d).rd q = s.rd q := rfl
@[simp] theorem State.raise_rdN (s : State) (a d : Nat) (q : Nat) : (s.raise a d).rdN q = s.rdN q := rfl
@[simp] theorem State.raise_get (s : State) (a d : Nat) (q : Fld) : (s.raise a d).get q = s.get q := rfl
@[simp] theorem State.raise_on (s : State) (a d : Nat) (q : Fld) : (s.raise a d).on q = s.on q := rfl
@[simp] theorem State.raise_bits (s : State) (a d : Nat) (q h l : Nat) : (s.raise a d).bits q h l = s.bits q h l := rfl

@[simp] theorem State.raiseMask_regs (s : State) (a d : Nat) : (s.raiseMask a d).regs = s.regs := rfl
@[simp] theorem State.raiseMask_was (s : State) (a d : Nat) : (s.raiseMask a d).was = s.was := rfl
@[simp] theorem State.raiseMask_mem (s : State) (a d : Nat) : (s.raiseMask a d).mem = s.mem := rfl
@[simp] theorem State.raiseMask_poison (s : State) (a d : Nat) : (s.raiseMask a d).poison = s.poison := rfl
@[simp] theorem State.raiseMask_now (s : State) (a d : Nat) : (s.raiseMask a d).now = s.now := rfl
@[simp] theorem State.raiseMask_freeCtr (s : State) (a d : Nat) : (s.raiseMask a d).freeCtr = s.freeCtr := rfl
@[simp] theorem State.raiseMask_tmu (s : State) (a d : Nat) : (s.raiseMask a d).tmu = s.tmu := rfl
@[simp] theorem State.raiseMask_pwr (s : State) (a d : Nat) : (s.raiseMask a d).pwr = s.pwr := rfl
@[simp] theorem State.raiseMask_hbm (s : State) (a d : Nat) : (s.raiseMask a d).hbm = s.hbm := rfl
@[simp] theorem State.raiseMask_pcie (s : State) (a d : Nat) : (s.raiseMask a d).pcie = s.pcie := rfl
@[simp] theorem State.raiseMask_streams (s : State) (a d : Nat) : (s.raiseMask a d).streams = s.streams := rfl
@[simp] theorem State.raiseMask_lease (s : State) (a d : Nat) : (s.raiseMask a d).lease = s.lease := rfl
@[simp] theorem State.raiseMask_sup (s : State) (a d : Nat) : (s.raiseMask a d).sup = s.sup := rfl
@[simp] theorem State.raiseMask_csu (s : State) (a d : Nat) : (s.raiseMask a d).csu = s.csu := rfl
@[simp] theorem State.raiseMask_engines (s : State) (a d : Nat) : (s.raiseMask a d).engines = s.engines := rfl
@[simp] theorem State.raiseMask_chans (s : State) (a d : Nat) : (s.raiseMask a d).chans = s.chans := rfl
@[simp] theorem State.raiseMask_frame (s : State) (a d : Nat) : (s.raiseMask a d).frame = s.frame := rfl
@[simp] theorem State.raiseMask_cmp (s : State) (a d : Nat) : (s.raiseMask a d).cmp = s.cmp := rfl
@[simp] theorem State.raiseMask_ovl (s : State) (a d : Nat) : (s.raiseMask a d).ovl = s.ovl := rfl
@[simp] theorem State.raiseMask_spl (s : State) (a d : Nat) : (s.raiseMask a d).spl = s.spl := rfl
@[simp] theorem State.raiseMask_aux (s : State) (a d : Nat) : (s.raiseMask a d).aux = s.aux := rfl
@[simp] theorem State.raiseMask_cal (s : State) (a d : Nat) : (s.raiseMask a d).cal = s.cal := rfl
@[simp] theorem State.raiseMask_cam (s : State) (a d : Nat) : (s.raiseMask a d).cam = s.cam := rfl
@[simp] theorem State.raiseMask_ehl (s : State) (a d : Nat) : (s.raiseMask a d).ehl = s.ehl := rfl
@[simp] theorem State.raiseMask_net (s : State) (a d : Nat) : (s.raiseMask a d).net = s.net := rfl
@[simp] theorem State.raiseMask_codec (s : State) (a d : Nat) : (s.raiseMask a d).codec = s.codec := rfl
@[simp] theorem State.raiseMask_pending (s : State) (a d : Nat) : (s.raiseMask a d).pending = s.pending := rfl
@[simp] theorem State.raiseMask_rd (s : State) (a d : Nat) (q : Nat) : (s.raiseMask a d).rd q = s.rd q := rfl
@[simp] theorem State.raiseMask_rdN (s : State) (a d : Nat) (q : Nat) : (s.raiseMask a d).rdN q = s.rdN q := rfl
@[simp] theorem State.raiseMask_get (s : State) (a d : Nat) (q : Fld) : (s.raiseMask a d).get q = s.get q := rfl
@[simp] theorem State.raiseMask_on (s : State) (a d : Nat) (q : Fld) : (s.raiseMask a d).on q = s.on q := rfl
@[simp] theorem State.raiseMask_bits (s : State) (a d : Nat) (q h l : Nat) : (s.raiseMask a d).bits q h l = s.bits q h l := rfl

@[simp] theorem State.freeNext_regs (s : State) : (s.freeNext).regs = s.regs := rfl
@[simp] theorem State.freeNext_was (s : State) : (s.freeNext).was = s.was := rfl
@[simp] theorem State.freeNext_mem (s : State) : (s.freeNext).mem = s.mem := rfl
@[simp] theorem State.freeNext_poison (s : State) : (s.freeNext).poison = s.poison := rfl
@[simp] theorem State.freeNext_now (s : State) : (s.freeNext).now = s.now := rfl
@[simp] theorem State.freeNext_evc (s : State) : (s.freeNext).evc = s.evc := rfl
@[simp] theorem State.freeNext_tmu (s : State) : (s.freeNext).tmu = s.tmu := rfl
@[simp] theorem State.freeNext_pwr (s : State) : (s.freeNext).pwr = s.pwr := rfl
@[simp] theorem State.freeNext_hbm (s : State) : (s.freeNext).hbm = s.hbm := rfl
@[simp] theorem State.freeNext_pcie (s : State) : (s.freeNext).pcie = s.pcie := rfl
@[simp] theorem State.freeNext_streams (s : State) : (s.freeNext).streams = s.streams := rfl
@[simp] theorem State.freeNext_lease (s : State) : (s.freeNext).lease = s.lease := rfl
@[simp] theorem State.freeNext_sup (s : State) : (s.freeNext).sup = s.sup := rfl
@[simp] theorem State.freeNext_csu (s : State) : (s.freeNext).csu = s.csu := rfl
@[simp] theorem State.freeNext_engines (s : State) : (s.freeNext).engines = s.engines := rfl
@[simp] theorem State.freeNext_chans (s : State) : (s.freeNext).chans = s.chans := rfl
@[simp] theorem State.freeNext_frame (s : State) : (s.freeNext).frame = s.frame := rfl
@[simp] theorem State.freeNext_cmp (s : State) : (s.freeNext).cmp = s.cmp := rfl
@[simp] theorem State.freeNext_ovl (s : State) : (s.freeNext).ovl = s.ovl := rfl
@[simp] theorem State.freeNext_spl (s : State) : (s.freeNext).spl = s.spl := rfl
@[simp] theorem State.freeNext_aux (s : State) : (s.freeNext).aux = s.aux := rfl
@[simp] theorem State.freeNext_cal (s : State) : (s.freeNext).cal = s.cal := rfl
@[simp] theorem State.freeNext_cam (s : State) : (s.freeNext).cam = s.cam := rfl
@[simp] theorem State.freeNext_ehl (s : State) : (s.freeNext).ehl = s.ehl := rfl
@[simp] theorem State.freeNext_net (s : State) : (s.freeNext).net = s.net := rfl
@[simp] theorem State.freeNext_codec (s : State) : (s.freeNext).codec = s.codec := rfl
@[simp] theorem State.freeNext_pending (s : State) : (s.freeNext).pending = s.pending := rfl
@[simp] theorem State.freeNext_rd (s : State) (q : Nat) : (s.freeNext).rd q = s.rd q := rfl
@[simp] theorem State.freeNext_rdN (s : State) (q : Nat) : (s.freeNext).rdN q = s.rdN q := rfl
@[simp] theorem State.freeNext_get (s : State) (q : Fld) : (s.freeNext).get q = s.get q := rfl
@[simp] theorem State.freeNext_on (s : State) (q : Fld) : (s.freeNext).on q = s.on q := rfl
@[simp] theorem State.freeNext_bits (s : State) (q h l : Nat) : (s.freeNext).bits q h l = s.bits q h l := rfl

@[simp] theorem State.freeSkip_regs (s : State) (n : Nat) : (s.freeSkip n).regs = s.regs := rfl
@[simp] theorem State.freeSkip_was (s : State) (n : Nat) : (s.freeSkip n).was = s.was := rfl
@[simp] theorem State.freeSkip_mem (s : State) (n : Nat) : (s.freeSkip n).mem = s.mem := rfl
@[simp] theorem State.freeSkip_poison (s : State) (n : Nat) : (s.freeSkip n).poison = s.poison := rfl
@[simp] theorem State.freeSkip_now (s : State) (n : Nat) : (s.freeSkip n).now = s.now := rfl
@[simp] theorem State.freeSkip_evc (s : State) (n : Nat) : (s.freeSkip n).evc = s.evc := rfl
@[simp] theorem State.freeSkip_tmu (s : State) (n : Nat) : (s.freeSkip n).tmu = s.tmu := rfl
@[simp] theorem State.freeSkip_pwr (s : State) (n : Nat) : (s.freeSkip n).pwr = s.pwr := rfl
@[simp] theorem State.freeSkip_hbm (s : State) (n : Nat) : (s.freeSkip n).hbm = s.hbm := rfl
@[simp] theorem State.freeSkip_pcie (s : State) (n : Nat) : (s.freeSkip n).pcie = s.pcie := rfl
@[simp] theorem State.freeSkip_streams (s : State) (n : Nat) : (s.freeSkip n).streams = s.streams := rfl
@[simp] theorem State.freeSkip_lease (s : State) (n : Nat) : (s.freeSkip n).lease = s.lease := rfl
@[simp] theorem State.freeSkip_sup (s : State) (n : Nat) : (s.freeSkip n).sup = s.sup := rfl
@[simp] theorem State.freeSkip_csu (s : State) (n : Nat) : (s.freeSkip n).csu = s.csu := rfl
@[simp] theorem State.freeSkip_engines (s : State) (n : Nat) : (s.freeSkip n).engines = s.engines := rfl
@[simp] theorem State.freeSkip_chans (s : State) (n : Nat) : (s.freeSkip n).chans = s.chans := rfl
@[simp] theorem State.freeSkip_frame (s : State) (n : Nat) : (s.freeSkip n).frame = s.frame := rfl
@[simp] theorem State.freeSkip_cmp (s : State) (n : Nat) : (s.freeSkip n).cmp = s.cmp := rfl
@[simp] theorem State.freeSkip_ovl (s : State) (n : Nat) : (s.freeSkip n).ovl = s.ovl := rfl
@[simp] theorem State.freeSkip_spl (s : State) (n : Nat) : (s.freeSkip n).spl = s.spl := rfl
@[simp] theorem State.freeSkip_aux (s : State) (n : Nat) : (s.freeSkip n).aux = s.aux := rfl
@[simp] theorem State.freeSkip_cal (s : State) (n : Nat) : (s.freeSkip n).cal = s.cal := rfl
@[simp] theorem State.freeSkip_cam (s : State) (n : Nat) : (s.freeSkip n).cam = s.cam := rfl
@[simp] theorem State.freeSkip_ehl (s : State) (n : Nat) : (s.freeSkip n).ehl = s.ehl := rfl
@[simp] theorem State.freeSkip_net (s : State) (n : Nat) : (s.freeSkip n).net = s.net := rfl
@[simp] theorem State.freeSkip_codec (s : State) (n : Nat) : (s.freeSkip n).codec = s.codec := rfl
@[simp] theorem State.freeSkip_pending (s : State) (n : Nat) : (s.freeSkip n).pending = s.pending := rfl
@[simp] theorem State.freeSkip_rd (s : State) (n : Nat) (q : Nat) : (s.freeSkip n).rd q = s.rd q := rfl
@[simp] theorem State.freeSkip_rdN (s : State) (n : Nat) (q : Nat) : (s.freeSkip n).rdN q = s.rdN q := rfl
@[simp] theorem State.freeSkip_get (s : State) (n : Nat) (q : Fld) : (s.freeSkip n).get q = s.get q := rfl
@[simp] theorem State.freeSkip_on (s : State) (n : Nat) (q : Fld) : (s.freeSkip n).on q = s.on q := rfl
@[simp] theorem State.freeSkip_bits (s : State) (n : Nat) (q h l : Nat) : (s.freeSkip n).bits q h l = s.bits q h l := rfl

@[simp] theorem State.complete_regs (s : State) (b : List Byte) (p : Bool) : (s.complete b p).regs = s.regs := rfl
@[simp] theorem State.complete_was (s : State) (b : List Byte) (p : Bool) : (s.complete b p).was = s.was := rfl
@[simp] theorem State.complete_mem (s : State) (b : List Byte) (p : Bool) : (s.complete b p).mem = s.mem := rfl
@[simp] theorem State.complete_poison (s : State) (b : List Byte) (p : Bool) : (s.complete b p).poison = s.poison := rfl
@[simp] theorem State.complete_now (s : State) (b : List Byte) (p : Bool) : (s.complete b p).now = s.now := rfl
@[simp] theorem State.complete_freeCtr (s : State) (b : List Byte) (p : Bool) : (s.complete b p).freeCtr = s.freeCtr := rfl
@[simp] theorem State.complete_evc (s : State) (b : List Byte) (p : Bool) : (s.complete b p).evc = s.evc := rfl
@[simp] theorem State.complete_tmu (s : State) (b : List Byte) (p : Bool) : (s.complete b p).tmu = s.tmu := rfl
@[simp] theorem State.complete_pwr (s : State) (b : List Byte) (p : Bool) : (s.complete b p).pwr = s.pwr := rfl
@[simp] theorem State.complete_hbm (s : State) (b : List Byte) (p : Bool) : (s.complete b p).hbm = s.hbm := rfl
@[simp] theorem State.complete_streams (s : State) (b : List Byte) (p : Bool) : (s.complete b p).streams = s.streams := rfl
@[simp] theorem State.complete_lease (s : State) (b : List Byte) (p : Bool) : (s.complete b p).lease = s.lease := rfl
@[simp] theorem State.complete_sup (s : State) (b : List Byte) (p : Bool) : (s.complete b p).sup = s.sup := rfl
@[simp] theorem State.complete_csu (s : State) (b : List Byte) (p : Bool) : (s.complete b p).csu = s.csu := rfl
@[simp] theorem State.complete_engines (s : State) (b : List Byte) (p : Bool) : (s.complete b p).engines = s.engines := rfl
@[simp] theorem State.complete_chans (s : State) (b : List Byte) (p : Bool) : (s.complete b p).chans = s.chans := rfl
@[simp] theorem State.complete_frame (s : State) (b : List Byte) (p : Bool) : (s.complete b p).frame = s.frame := rfl
@[simp] theorem State.complete_cmp (s : State) (b : List Byte) (p : Bool) : (s.complete b p).cmp = s.cmp := rfl
@[simp] theorem State.complete_ovl (s : State) (b : List Byte) (p : Bool) : (s.complete b p).ovl = s.ovl := rfl
@[simp] theorem State.complete_spl (s : State) (b : List Byte) (p : Bool) : (s.complete b p).spl = s.spl := rfl
@[simp] theorem State.complete_aux (s : State) (b : List Byte) (p : Bool) : (s.complete b p).aux = s.aux := rfl
@[simp] theorem State.complete_cal (s : State) (b : List Byte) (p : Bool) : (s.complete b p).cal = s.cal := rfl
@[simp] theorem State.complete_cam (s : State) (b : List Byte) (p : Bool) : (s.complete b p).cam = s.cam := rfl
@[simp] theorem State.complete_ehl (s : State) (b : List Byte) (p : Bool) : (s.complete b p).ehl = s.ehl := rfl
@[simp] theorem State.complete_net (s : State) (b : List Byte) (p : Bool) : (s.complete b p).net = s.net := rfl
@[simp] theorem State.complete_codec (s : State) (b : List Byte) (p : Bool) : (s.complete b p).codec = s.codec := rfl
@[simp] theorem State.complete_pending (s : State) (b : List Byte) (p : Bool) : (s.complete b p).pending = s.pending := rfl
@[simp] theorem State.complete_rd (s : State) (b : List Byte) (p : Bool) (q : Nat) : (s.complete b p).rd q = s.rd q := rfl
@[simp] theorem State.complete_rdN (s : State) (b : List Byte) (p : Bool) (q : Nat) : (s.complete b p).rdN q = s.rdN q := rfl
@[simp] theorem State.complete_get (s : State) (b : List Byte) (p : Bool) (q : Fld) : (s.complete b p).get q = s.get q := rfl
@[simp] theorem State.complete_on (s : State) (b : List Byte) (p : Bool) (q : Fld) : (s.complete b p).on q = s.on q := rfl
@[simp] theorem State.complete_bits (s : State) (b : List Byte) (p : Bool) (q h l : Nat) : (s.complete b p).bits q h l = s.bits q h l := rfl

@[simp] theorem State.setEng_regs (s : State) (g : Nat) (f : Engine → Engine) : (s.setEng g f).regs = s.regs := rfl
@[simp] theorem State.setEng_was (s : State) (g : Nat) (f : Engine → Engine) : (s.setEng g f).was = s.was := rfl
@[simp] theorem State.setEng_mem (s : State) (g : Nat) (f : Engine → Engine) : (s.setEng g f).mem = s.mem := rfl
@[simp] theorem State.setEng_poison (s : State) (g : Nat) (f : Engine → Engine) : (s.setEng g f).poison = s.poison := rfl
@[simp] theorem State.setEng_now (s : State) (g : Nat) (f : Engine → Engine) : (s.setEng g f).now = s.now := rfl
@[simp] theorem State.setEng_freeCtr (s : State) (g : Nat) (f : Engine → Engine) : (s.setEng g f).freeCtr = s.freeCtr := rfl
@[simp] theorem State.setEng_evc (s : State) (g : Nat) (f : Engine → Engine) : (s.setEng g f).evc = s.evc := rfl
@[simp] theorem State.setEng_tmu (s : State) (g : Nat) (f : Engine → Engine) : (s.setEng g f).tmu = s.tmu := rfl
@[simp] theorem State.setEng_pwr (s : State) (g : Nat) (f : Engine → Engine) : (s.setEng g f).pwr = s.pwr := rfl
@[simp] theorem State.setEng_hbm (s : State) (g : Nat) (f : Engine → Engine) : (s.setEng g f).hbm = s.hbm := rfl
@[simp] theorem State.setEng_pcie (s : State) (g : Nat) (f : Engine → Engine) : (s.setEng g f).pcie = s.pcie := rfl
@[simp] theorem State.setEng_streams (s : State) (g : Nat) (f : Engine → Engine) : (s.setEng g f).streams = s.streams := rfl
@[simp] theorem State.setEng_lease (s : State) (g : Nat) (f : Engine → Engine) : (s.setEng g f).lease = s.lease := rfl
@[simp] theorem State.setEng_sup (s : State) (g : Nat) (f : Engine → Engine) : (s.setEng g f).sup = s.sup := rfl
@[simp] theorem State.setEng_csu (s : State) (g : Nat) (f : Engine → Engine) : (s.setEng g f).csu = s.csu := rfl
@[simp] theorem State.setEng_chans (s : State) (g : Nat) (f : Engine → Engine) : (s.setEng g f).chans = s.chans := rfl
@[simp] theorem State.setEng_frame (s : State) (g : Nat) (f : Engine → Engine) : (s.setEng g f).frame = s.frame := rfl
@[simp] theorem State.setEng_cmp (s : State) (g : Nat) (f : Engine → Engine) : (s.setEng g f).cmp = s.cmp := rfl
@[simp] theorem State.setEng_ovl (s : State) (g : Nat) (f : Engine → Engine) : (s.setEng g f).ovl = s.ovl := rfl
@[simp] theorem State.setEng_spl (s : State) (g : Nat) (f : Engine → Engine) : (s.setEng g f).spl = s.spl := rfl
@[simp] theorem State.setEng_aux (s : State) (g : Nat) (f : Engine → Engine) : (s.setEng g f).aux = s.aux := rfl
@[simp] theorem State.setEng_cal (s : State) (g : Nat) (f : Engine → Engine) : (s.setEng g f).cal = s.cal := rfl
@[simp] theorem State.setEng_cam (s : State) (g : Nat) (f : Engine → Engine) : (s.setEng g f).cam = s.cam := rfl
@[simp] theorem State.setEng_ehl (s : State) (g : Nat) (f : Engine → Engine) : (s.setEng g f).ehl = s.ehl := rfl
@[simp] theorem State.setEng_net (s : State) (g : Nat) (f : Engine → Engine) : (s.setEng g f).net = s.net := rfl
@[simp] theorem State.setEng_codec (s : State) (g : Nat) (f : Engine → Engine) : (s.setEng g f).codec = s.codec := rfl
@[simp] theorem State.setEng_pending (s : State) (g : Nat) (f : Engine → Engine) : (s.setEng g f).pending = s.pending := rfl
@[simp] theorem State.setEng_rd (s : State) (g : Nat) (f : Engine → Engine) (q : Nat) : (s.setEng g f).rd q = s.rd q := rfl
@[simp] theorem State.setEng_rdN (s : State) (g : Nat) (f : Engine → Engine) (q : Nat) : (s.setEng g f).rdN q = s.rdN q := rfl
@[simp] theorem State.setEng_get (s : State) (g : Nat) (f : Engine → Engine) (q : Fld) : (s.setEng g f).get q = s.get q := rfl
@[simp] theorem State.setEng_on (s : State) (g : Nat) (f : Engine → Engine) (q : Fld) : (s.setEng g f).on q = s.on q := rfl
@[simp] theorem State.setEng_bits (s : State) (g : Nat) (f : Engine → Engine) (q h l : Nat) : (s.setEng g f).bits q h l = s.bits q h l := rfl

@[simp] theorem State.setChan_regs (s : State) (c : Nat) (f : Channel → Channel) : (s.setChan c f).regs = s.regs := rfl
@[simp] theorem State.setChan_was (s : State) (c : Nat) (f : Channel → Channel) : (s.setChan c f).was = s.was := rfl
@[simp] theorem State.setChan_mem (s : State) (c : Nat) (f : Channel → Channel) : (s.setChan c f).mem = s.mem := rfl
@[simp] theorem State.setChan_poison (s : State) (c : Nat) (f : Channel → Channel) : (s.setChan c f).poison = s.poison := rfl
@[simp] theorem State.setChan_now (s : State) (c : Nat) (f : Channel → Channel) : (s.setChan c f).now = s.now := rfl
@[simp] theorem State.setChan_freeCtr (s : State) (c : Nat) (f : Channel → Channel) : (s.setChan c f).freeCtr = s.freeCtr := rfl
@[simp] theorem State.setChan_evc (s : State) (c : Nat) (f : Channel → Channel) : (s.setChan c f).evc = s.evc := rfl
@[simp] theorem State.setChan_tmu (s : State) (c : Nat) (f : Channel → Channel) : (s.setChan c f).tmu = s.tmu := rfl
@[simp] theorem State.setChan_pwr (s : State) (c : Nat) (f : Channel → Channel) : (s.setChan c f).pwr = s.pwr := rfl
@[simp] theorem State.setChan_hbm (s : State) (c : Nat) (f : Channel → Channel) : (s.setChan c f).hbm = s.hbm := rfl
@[simp] theorem State.setChan_pcie (s : State) (c : Nat) (f : Channel → Channel) : (s.setChan c f).pcie = s.pcie := rfl
@[simp] theorem State.setChan_streams (s : State) (c : Nat) (f : Channel → Channel) : (s.setChan c f).streams = s.streams := rfl
@[simp] theorem State.setChan_lease (s : State) (c : Nat) (f : Channel → Channel) : (s.setChan c f).lease = s.lease := rfl
@[simp] theorem State.setChan_sup (s : State) (c : Nat) (f : Channel → Channel) : (s.setChan c f).sup = s.sup := rfl
@[simp] theorem State.setChan_csu (s : State) (c : Nat) (f : Channel → Channel) : (s.setChan c f).csu = s.csu := rfl
@[simp] theorem State.setChan_engines (s : State) (c : Nat) (f : Channel → Channel) : (s.setChan c f).engines = s.engines := rfl
@[simp] theorem State.setChan_frame (s : State) (c : Nat) (f : Channel → Channel) : (s.setChan c f).frame = s.frame := rfl
@[simp] theorem State.setChan_cmp (s : State) (c : Nat) (f : Channel → Channel) : (s.setChan c f).cmp = s.cmp := rfl
@[simp] theorem State.setChan_ovl (s : State) (c : Nat) (f : Channel → Channel) : (s.setChan c f).ovl = s.ovl := rfl
@[simp] theorem State.setChan_spl (s : State) (c : Nat) (f : Channel → Channel) : (s.setChan c f).spl = s.spl := rfl
@[simp] theorem State.setChan_aux (s : State) (c : Nat) (f : Channel → Channel) : (s.setChan c f).aux = s.aux := rfl
@[simp] theorem State.setChan_cal (s : State) (c : Nat) (f : Channel → Channel) : (s.setChan c f).cal = s.cal := rfl
@[simp] theorem State.setChan_cam (s : State) (c : Nat) (f : Channel → Channel) : (s.setChan c f).cam = s.cam := rfl
@[simp] theorem State.setChan_ehl (s : State) (c : Nat) (f : Channel → Channel) : (s.setChan c f).ehl = s.ehl := rfl
@[simp] theorem State.setChan_net (s : State) (c : Nat) (f : Channel → Channel) : (s.setChan c f).net = s.net := rfl
@[simp] theorem State.setChan_codec (s : State) (c : Nat) (f : Channel → Channel) : (s.setChan c f).codec = s.codec := rfl
@[simp] theorem State.setChan_pending (s : State) (c : Nat) (f : Channel → Channel) : (s.setChan c f).pending = s.pending := rfl
@[simp] theorem State.setChan_rd (s : State) (c : Nat) (f : Channel → Channel) (q : Nat) : (s.setChan c f).rd q = s.rd q := rfl
@[simp] theorem State.setChan_rdN (s : State) (c : Nat) (f : Channel → Channel) (q : Nat) : (s.setChan c f).rdN q = s.rdN q := rfl
@[simp] theorem State.setChan_get (s : State) (c : Nat) (f : Channel → Channel) (q : Fld) : (s.setChan c f).get q = s.get q := rfl
@[simp] theorem State.setChan_on (s : State) (c : Nat) (f : Channel → Channel) (q : Fld) : (s.setChan c f).on q = s.on q := rfl
@[simp] theorem State.setChan_bits (s : State) (c : Nat) (f : Channel → Channel) (q h l : Nat) : (s.setChan c f).bits q h l = s.bits q h l := rfl

@[simp] theorem State.keepQueue_regs (s t : State) : (s.keepQueue t).regs = t.regs := rfl
@[simp] theorem State.keepQueue_was (s t : State) : (s.keepQueue t).was = t.was := rfl
@[simp] theorem State.keepQueue_mem (s t : State) : (s.keepQueue t).mem = t.mem := rfl
@[simp] theorem State.keepQueue_poison (s t : State) : (s.keepQueue t).poison = t.poison := rfl
@[simp] theorem State.keepQueue_now (s t : State) : (s.keepQueue t).now = t.now := rfl
@[simp] theorem State.keepQueue_freeCtr (s t : State) : (s.keepQueue t).freeCtr = t.freeCtr := rfl
@[simp] theorem State.keepQueue_evc (s t : State) : (s.keepQueue t).evc = t.evc := rfl
@[simp] theorem State.keepQueue_tmu (s t : State) : (s.keepQueue t).tmu = t.tmu := rfl
@[simp] theorem State.keepQueue_pwr (s t : State) : (s.keepQueue t).pwr = t.pwr := rfl
@[simp] theorem State.keepQueue_hbm (s t : State) : (s.keepQueue t).hbm = t.hbm := rfl
@[simp] theorem State.keepQueue_pcie (s t : State) : (s.keepQueue t).pcie = t.pcie := rfl
@[simp] theorem State.keepQueue_streams (s t : State) : (s.keepQueue t).streams = t.streams := rfl
@[simp] theorem State.keepQueue_lease (s t : State) : (s.keepQueue t).lease = t.lease := rfl
@[simp] theorem State.keepQueue_sup (s t : State) : (s.keepQueue t).sup = t.sup := rfl
@[simp] theorem State.keepQueue_csu (s t : State) : (s.keepQueue t).csu = t.csu := rfl
@[simp] theorem State.keepQueue_engines (s t : State) : (s.keepQueue t).engines = t.engines := rfl
@[simp] theorem State.keepQueue_chans (s t : State) : (s.keepQueue t).chans = t.chans := rfl
@[simp] theorem State.keepQueue_frame (s t : State) : (s.keepQueue t).frame = t.frame := rfl
@[simp] theorem State.keepQueue_cmp (s t : State) : (s.keepQueue t).cmp = t.cmp := rfl
@[simp] theorem State.keepQueue_ovl (s t : State) : (s.keepQueue t).ovl = t.ovl := rfl
@[simp] theorem State.keepQueue_spl (s t : State) : (s.keepQueue t).spl = t.spl := rfl
@[simp] theorem State.keepQueue_aux (s t : State) : (s.keepQueue t).aux = t.aux := rfl
@[simp] theorem State.keepQueue_cal (s t : State) : (s.keepQueue t).cal = t.cal := rfl
@[simp] theorem State.keepQueue_cam (s t : State) : (s.keepQueue t).cam = t.cam := rfl
@[simp] theorem State.keepQueue_ehl (s t : State) : (s.keepQueue t).ehl = t.ehl := rfl
@[simp] theorem State.keepQueue_net (s t : State) : (s.keepQueue t).net = t.net := rfl
@[simp] theorem State.keepQueue_codec (s t : State) : (s.keepQueue t).codec = t.codec := rfl
@[simp] theorem State.keepQueue_pending (s t : State) : (s.keepQueue t).pending = s.pending := rfl
@[simp] theorem State.keepQueue_rd (s t : State) (q : Nat) : (s.keepQueue t).rd q = t.rd q := rfl
@[simp] theorem State.keepQueue_rdN (s t : State) (q : Nat) : (s.keepQueue t).rdN q = t.rdN q := rfl
@[simp] theorem State.keepQueue_get (s t : State) (q : Fld) : (s.keepQueue t).get q = t.get q := rfl
@[simp] theorem State.keepQueue_on (s t : State) (q : Fld) : (s.keepQueue t).on q = t.on q := rfl
@[simp] theorem State.keepQueue_bits (s t : State) (q h l : Nat) : (s.keepQueue t).bits q h l = t.bits q h l := rfl

end Sys2Proof.Machine
end

