-- ==== Sys2Proof/Laws/Wrappers.lean ====
section
/-!
SUPPORT. When a command acts at all: what the four wrappers of a meaning come to under their conditions.
-/

namespace Sys2Proof.Machine

theorem State.runCore_on {s : State} (h : s.coreOn = true) (f : State → State) : s.runCore f = s.keepQueue (f s) := by
  simp [State.runCore, h]

theorem State.runCore_off {s : State} (h : s.coreOn = false) (f : State → State) : s.runCore f = s.keepQueue s := by
  simp [State.runCore, h]

theorem State.runAon_on {s : State} (h : s.pwr.rails.powerGood = true) (f : State → State) : s.runAon f = s.keepQueue (f s) := by
  simp [State.runAon, h]

theorem State.runAon_off {s : State} (h : s.pwr.rails.powerGood = false) (f : State → State) : s.runAon f = s.keepQueue s := by
  simp [State.runAon, h]

theorem State.runAlways_eq (s : State) (f : State → State) : s.runAlways f = s.keepQueue (f s) := rfl

/-- A host write that reaches its register. -/
theorem State.runHost_reaches {s : State} {off : Nat} (h : s.reaches off) (v : Word) (f : State → State) :
    s.runHost off v f = s.keepQueue ((f s).passedOn off v) := by
  obtain ⟨h1, h2, h3⟩ := h
  rw [State.runHost, State.hostDo, h1, h2, h3]
  simp only [Bool.false_eq_true, ↓reduceIte, State.passedOn]

/-- A host write of a register that the pair does not share. -/
theorem State.runHost_alone {s : State} {off : Nat} (h : s.reaches off) (hp : pairShared off = false) (v : Word) (f : State → State) :
    s.runHost off v f = s.keepQueue (f s) := by
  rw [State.runHost_reaches h]
  simp [State.passedOn, hp]

/-- Registers below the composition block are not shared. -/
theorem pairShared_below {off : Nat} (h : off < 0x1800000) : pairShared off = false := by
  unfold pairShared
  rw [decide_eq_false (by omega), decide_eq_false (by omega), decide_eq_false (by omega)]
  rfl

/-- Registers between the panel link and the calibration block are not shared. -/
theorem pairShared_between {off : Nat} (h : 0x1C00000 ≤ off) (k : off < 0x3800000) : pairShared off = false := by
  unfold pairShared
  rw [decide_eq_false (by omega), decide_eq_false (by omega), decide_eq_false (by omega)]
  rfl

/-- The commands of a panel-link group are not shared. -/
theorem pairShared_gCmd {g : Nat} (h : g < 6) : pairShared (SPL_G_CMD g) = false ∧ pairShared (SPL_G_LPBK g) = false := by
  have : ∀ g < 6, pairShared (SPL_G_CMD g) = false ∧ pairShared (SPL_G_LPBK g) = false := by decide
  exact this g h

/-- The buffer commands of the stack streams reach the partner as STACK messages (R419). -/
theorem sentOtherwise_stkCmd {i : Nat} (h : i < 8) : sentOtherwise (CMP_STK_CMD i) = true := by
  simp only [sentOtherwise, Bool.or_eq_true, List.any_eq_true, List.mem_range]
  exact .inr ⟨i, h, by simp⟩

theorem answers_iff (c : Instr) (s t : State) : answers c s t ↔ exec c s = .next (s.keepQueue t) := Iff.rfl

end Sys2Proof.Machine
end

