-- ==== Sys2Proof/Laws/Engine.lean ====
section
/-!
SUPPORT. What a fetched instruction does (R111 to R114): one law for the ALU rows and one for the others.
-/

namespace Sys2Proof.Machine

/-- How the end of an instruction leaves the machine, with the state and the address it started from. -/
def EngEnd.settle (s : State) (g : Nat) : EngEnd → State
  | .next t => t.setPc g ((s.engPc g + 4) % 2 ^ 32)
  | .jump t p => t.setPc g (p % 2 ^ 32)
  | .wait => s
  | .ended t => t
  | .fault code a => s.engFault g code (s.engPc g) a

/-- A legal word that spells instruction `k`, fetched without an error, ends as its body says. -/
theorem State.engRow_legal {s : State} {g w k : Nat} (h : s.fetches g w) (hi : instrOf (iOpc w) = some k)
    (hl : (if iOpc w < 0x80 then aluLegal w else dataLegal (s.engBuilds g) w) = true) (body : State → Nat → EngEnd) :
    s.engRow g .clean k body = (body s w).settle s g := by
  obtain ⟨_, h1, h2, h3, h4, h5, h6⟩ := h
  unfold State.engRow
  rw [if_neg (by simp [h2]; omega), if_neg (by simp [h3]; omega)]
  simp only [h5, h6, hi, hl, Bool.false_eq_true, ↓reduceIte, Option.isSome_some, bne_self_eq_false, Bool.and_false, Option.isNone_some,
    Bool.not_true, Bool.or_self]
  cases body s w <;> rfl

theorem instrOf_alu {o k : Nat} (h : instrOf o = some k) (hk : k < 0x80) : o < 0x80 := by
  unfold instrOf at h
  by_cases ho : o < 0x80
  · exact ho
  · rw [if_neg ho] at h
    split at h
    · simp only [Option.some.injEq] at h; omega
    · simp at h

/-- The ALU rows. -/
theorem State.aluRow_legal {s : State} {g w k : Nat} (h : s.fetches g w) (hi : instrOf (iOpc w) = some k) (hk : k < 0x80)
    (hl : aluLegal w = true) : aluRow k g .clean s = s.retired g (fun e => e.alu w) := by
  unfold aluRow
  rw [State.engRow_legal h hi (by rw [if_pos (instrOf_alu hi hk)]; exact hl)]
  rfl

/-- The rows of the other instructions. -/
theorem State.engRow_data {s : State} {g w k : Nat} (h : s.fetches g w) (ho : iOpc w = k) (hk : instrOf k = some k) (h8 : 0x80 ≤ k)
    (hl : dataLegal (s.engBuilds g) w = true) (body : State → Nat → EngEnd) : s.engRow g .clean k body = (body s w).settle s g :=
  State.engRow_legal h (by rw [ho]; exact hk) (by rw [if_neg (by omega)]; exact hl) body

theorem State.fetches_coreOn {s : State} {g w : Nat} (h : s.fetches g w) : s.coreOn = true := h.1

end Sys2Proof.Machine
end

