-- ==== Sys2Proof/Laws/Store.lean ====
section
/-!
SUPPORT. The laws of sparse storage: a read after a write, and that a write keeps the canonical form.
-/

namespace Sys2Proof.Machine

variable {α : Type} (d : Nat → α)

theorem sparseGet_drop (m : List (Nat × α)) (k j : Nat) :
    sparseGet d (sparseDrop k m) j = if j = k then d j else sparseGet d m j := by
  induction m with
  | nil => simp [sparseDrop, sparseGet]
  | cons e t ih => by_cases h : e.1 = k <;> by_cases g : e.1 = j <;> simp_all [sparseDrop, sparseGet]

theorem sparseGet_place (m : List (Nat × α)) (k j : Nat) (v : α) (hk : ∀ e ∈ m, e.1 ≠ k) :
    sparseGet d (sparsePlace k v m) j = if j = k then v else sparseGet d m j := by
  induction m with
  | nil => simp [sparsePlace, sparseGet, eq_comm]
  | cons e t ih =>
    have he := hk e (by simp)
    have ht := ih (fun a ha => hk a (List.mem_cons_of_mem _ ha))
    by_cases h : k < e.1 <;> by_cases g : j = k <;> simp only [sparsePlace, h, ↓reduceIte, sparseGet, g]
    · simp [Ne.symm g]
    · rw [if_neg he]; simpa [g] using ht
    · split
      · rfl
      · simpa [g] using ht

theorem mem_sparseDrop {m : List (Nat × α)} {k : Nat} {e : Nat × α} (h : e ∈ sparseDrop k m) : e ∈ m ∧ e.1 ≠ k := by
  induction m with
  | nil => simp [sparseDrop] at h
  | cons a t ih =>
    by_cases g : a.1 = k <;> simp only [sparseDrop, g, ↓reduceIte, List.mem_cons] at h ⊢
    · exact ⟨.inr (ih h).1, (ih h).2⟩
    · rcases h with rfl | h
      · exact ⟨.inl rfl, g⟩
      · exact ⟨.inr (ih h).1, (ih h).2⟩

variable [DecidableEq α]

/-- A read after a write: the written value at its address, the old value everywhere else. -/
@[simp] theorem sparseGet_set (m : List (Nat × α)) (k j : Nat) (v : α) :
    sparseGet d (sparseSet d m k v) j = if j = k then v else sparseGet d m j := by
  unfold sparseSet
  by_cases h : v = d k
  · by_cases g : j = k <;> simp [h, g, sparseGet_drop]
  · rw [if_neg h, sparseGet_place d _ _ _ _ (fun e he => (mem_sparseDrop he).2)]
    by_cases g : j = k <;> simp [g, sparseGet_drop]

theorem sparseWfFrom_weaken {m : List (Nat × α)} {lo lo' : Option Nat}
    (h : ∀ e ∈ m.head?, ∀ l, lo' = some l → l < e.1) (w : sparseWfFrom d lo m = true) : sparseWfFrom d lo' m = true := by
  cases m with
  | nil => rfl
  | cons e t =>
    simp only [sparseWfFrom, Bool.and_eq_true] at w ⊢
    refine ⟨⟨?_, w.1.2⟩, w.2⟩
    cases lo' with
    | none => rfl
    | some l => simpa using h e (by simp) l rfl

theorem sparseWfFrom_gt {m : List (Nat × α)} {l : Nat} (w : sparseWfFrom d (some l) m = true) : ∀ e ∈ m, l < e.1 := by
  induction m generalizing l with
  | nil => simp
  | cons a t ih =>
    simp only [sparseWfFrom, Bool.and_eq_true, decide_eq_true_eq] at w
    intro e he
    rcases List.mem_cons.mp he with rfl | he
    · exact w.1.1
    · exact lt_trans w.1.1 (ih w.2 e he)

theorem sparseWfFrom_drop {m : List (Nat × α)} {lo : Option Nat} (k : Nat) (w : sparseWfFrom d lo m = true) :
    sparseWfFrom d lo (sparseDrop k m) = true := by
  induction m generalizing lo with
  | nil => rfl
  | cons a t ih =>
    simp only [sparseWfFrom, Bool.and_eq_true] at w
    by_cases g : a.1 = k <;> simp only [sparseDrop, g, ↓reduceIte]
    · refine sparseWfFrom_weaken d (lo := some a.1) ?_ (ih w.2)
      intro e he l hl
      have h1 := sparseWfFrom_gt d (ih w.2) e (List.mem_of_mem_head? he)
      subst hl
      have := w.1.1
      simp only [decide_eq_true_eq] at this
      omega
    · simp only [sparseWfFrom, Bool.and_eq_true]
      exact ⟨w.1, ih w.2⟩

theorem sparseWfFrom_filter {m : List (Nat × α)} {lo : Option Nat} (f : Nat × α → Bool) (w : sparseWfFrom d lo m = true) :
    sparseWfFrom d lo (m.filter f) = true := by
  induction m generalizing lo with
  | nil => rfl
  | cons a t ih =>
    simp only [sparseWfFrom, Bool.and_eq_true] at w
    by_cases g : f a = true
    · rw [List.filter_cons_of_pos g]
      simp only [sparseWfFrom, Bool.and_eq_true]
      exact ⟨w.1, ih w.2⟩
    · rw [List.filter_cons_of_neg g]
      refine sparseWfFrom_weaken d (lo := some a.1) ?_ (ih w.2)
      intro e he l hl
      have h1 := sparseWfFrom_gt d (ih w.2) e (List.mem_of_mem_head? he)
      subst hl
      have := w.1.1
      simp only [decide_eq_true_eq] at this
      omega

theorem sparseWfFrom_place {m : List (Nat × α)} {lo : Option Nat} (k : Nat) (v : α) (hv : v ≠ d k)
    (hk : ∀ e ∈ m, e.1 ≠ k) (hl : ∀ l, lo = some l → l < k) (w : sparseWfFrom d lo m = true) :
    sparseWfFrom d lo (sparsePlace k v m) = true := by
  induction m generalizing lo with
  | nil => cases lo <;> simp_all [sparsePlace, sparseWfFrom]
  | cons a t ih =>
    simp only [sparseWfFrom, Bool.and_eq_true] at w
    by_cases g : k < a.1 <;> simp only [sparsePlace, g, ↓reduceIte, sparseWfFrom, Bool.and_eq_true]
    · refine ⟨⟨?_, by simp [hv]⟩, ⟨by simpa using g, w.1.2⟩, w.2⟩
      cases lo <;> simp_all
    · refine ⟨w.1, ih (fun e he => hk e (List.mem_cons_of_mem _ he)) ?_ w.2⟩
      intro l hl'
      have := hk a (by simp)
      simp only [Option.some.injEq] at hl'
      omega

/-- A write keeps the canonical form. -/
theorem sparseWf_set {m : List (Nat × α)} (k : Nat) (v : α) (w : sparseWf d m = true) : sparseWf d (sparseSet d m k v) = true := by
  unfold sparseSet sparseWf at *
  split
  · exact sparseWfFrom_drop d k w
  · exact sparseWfFrom_place d k v ‹_› (fun e he => (mem_sparseDrop he).2) (by simp) (sparseWfFrom_drop d k w)

end Sys2Proof.Machine
end

