-- ==== Sys2Proof/Laws/Registers.lean ====
section
/-!
SUPPORT. The laws of the register file (R4, R5): reads after writes, of whole registers and of fields.
-/

namespace Sys2Proof.Machine

/-- A register read after a register write. -/
@[simp] theorem State.rd_wr (s : State) (o p : Nat) (v : Word) : (s.wr o v).rd p = if p = o then v else s.rd p := by
  simp [State.rd, State.wr]

@[simp] theorem State.rdN_wrN (s : State) (o p v : Nat) : (s.wrN o v).rdN p = if p = o then v % 2 ^ 32 else s.rdN p := by
  by_cases h : p = o <;> simp [State.rdN, State.wrN, h]

@[simp] theorem State.rd_wrN (s : State) (o p v : Nat) : (s.wrN o v).rd p = if p = o then BitVec.ofNat 32 v else s.rd p := by
  simp [State.wrN]

theorem State.rdN_wr (s : State) (o p : Nat) (v : Word) : (s.wr o v).rdN p = if p = o then v.toNat else s.rdN p := by
  by_cases h : p = o <;> simp [State.rdN, h]

theorem State.rdN_lt (s : State) (o : Nat) : s.rdN o < 2 ^ 32 := (s.rd o).isLt

theorem bitAt_eq_testBit (v i : Nat) : bitAt v i = v.testBit i := by
  simp [bitAt, Nat.testBit, Nat.shiftRight_eq_div_pow, Nat.one_and_eq_mod_two, bne]
  rcases Nat.mod_two_eq_zero_or_one (v / 2 ^ i) with h | h <;> simp [h]

theorem bitsOf_testBit (v hi lo i : Nat) : (bitsOf v hi lo).testBit i = (decide (i < hi + 1 - lo) && v.testBit (lo + i)) := by
  simp [bitsOf, Nat.testBit_mod_two_pow, Nat.testBit_div_two_pow, Nat.add_comm]

/-- A field put into a word, bit by bit. -/
theorem Fld.ins_testBit (f : Fld) (w : Word) (x i : Nat) (h : f.lo ≤ f.hi) (h2 : f.hi < 32) :
    (f.ins w x).toNat.testBit i = (if f.lo ≤ i ∧ i ≤ f.hi then x.testBit (i - f.lo) else w.toNat.testBit i) := by
  have e : (f.ins w x).toNat = (w.toNat % 2 ^ f.lo + 2 ^ f.lo * (x % 2 ^ (f.hi + 1 - f.lo) + 2 ^ (f.hi + 1 - f.lo) * (w.toNat / 2 ^ (f.hi + 1)))) % 2 ^ 32 := by
    simp only [Fld.ins, BitVec.toNat_ofNat]
    congr 1
    rw [Nat.mul_add, ← Nat.mul_assoc (2 ^ f.lo), ← Nat.pow_add, show f.lo + (f.hi + 1 - f.lo) = f.hi + 1 by omega,
      Nat.mul_comm (2 ^ f.lo), Nat.mul_comm (2 ^ (f.hi + 1)), Nat.add_assoc]
  have hw : ∀ j, 32 ≤ j → w.toNat.testBit j = false := fun j hj =>
    Nat.testBit_lt_two_pow (lt_of_lt_of_le w.isLt (Nat.pow_le_pow_right (by decide) hj))
  rw [e, Nat.testBit_mod_two_pow, Nat.add_comm (w.toNat % 2 ^ f.lo), Nat.testBit_two_pow_mul_add _ (Nat.mod_lt _ (by positivity)),
    Nat.add_comm (x % _), Nat.testBit_two_pow_mul_add _ (Nat.mod_lt _ (by positivity))]
  simp only [Nat.testBit_mod_two_pow, Nat.testBit_div_two_pow]
  by_cases h1 : i < f.lo
  · simp [h1, show ¬f.lo ≤ i by omega, show i < 32 by omega]
  · by_cases h3 : i ≤ f.hi
    · simp [h1, show f.lo ≤ i by omega, show i < 32 by omega, h3, show i - f.lo < f.hi + 1 - f.lo by omega]
    · simp only [h1, h3, show ¬(i - f.lo < f.hi + 1 - f.lo) by omega, ↓reduceIte, and_false]
      by_cases h4 : i < 32
      · simp [h4, show i - f.lo - (f.hi + 1 - f.lo) + (f.hi + 1) = i by omega]
      · simp [h4, hw i (by omega)]

theorem Fld.ext_testBit (f : Fld) (w : Word) (i : Nat) :
    (f.ext w).testBit i = (decide (i < f.hi + 1 - f.lo) && w.toNat.testBit (f.lo + i)) := by
  simp [Fld.ext, Nat.testBit_mod_two_pow, Nat.testBit_div_two_pow, Nat.add_comm]

@[simp] theorem Fld.ext_lt (f : Fld) (w : Word) : f.ext w < 2 ^ (f.hi + 1 - f.lo) := Nat.mod_lt _ (by positivity)

/-- A field read after a write of it. -/
theorem Fld.ext_ins (f : Fld) (w : Word) (x : Nat) (h : f.lo ≤ f.hi) (h2 : f.hi < 32) :
    f.ext (f.ins w x) = x % 2 ^ (f.hi + 1 - f.lo) := by
  apply Nat.eq_of_testBit_eq
  intro i
  rw [Fld.ext_testBit, Fld.ins_testBit f w x _ h h2, Nat.testBit_mod_two_pow]
  by_cases h1 : i < f.hi + 1 - f.lo
  · simp [h1, show f.lo + i ≤ f.hi by omega]
  · simp [h1]

/-- A field read after a write of a field beside it. -/
theorem Fld.ext_ins_disjoint (f g : Fld) (w : Word) (x : Nat) (h : f.lo ≤ f.hi) (h2 : f.hi < 32)
    (hd : g.hi < f.lo ∨ f.hi < g.lo) : g.ext (f.ins w x) = g.ext w := by
  apply Nat.eq_of_testBit_eq
  intro i
  rw [Fld.ext_testBit, Fld.ext_testBit, Fld.ins_testBit f w x _ h h2]
  by_cases h1 : i < g.hi + 1 - g.lo
  · simp [h1, show ¬(f.lo ≤ g.lo + i ∧ g.lo + i ≤ f.hi) by omega]
  · simp [h1]

theorem State.rd_put (s : State) (f : Fld) (x o : Nat) : (s.put f x).rd o = if o = f.off then f.ins (s.rd f.off) x else s.rd o := by
  simp [State.put]

theorem State.get_put_same (s : State) (f : Fld) (x : Nat) (h : f.lo ≤ f.hi := by decide) (h2 : f.hi < 32 := by decide) :
    (s.put f x).get f = x % 2 ^ (f.hi + 1 - f.lo) := by
  simp [State.get, State.rd_put, Fld.ext_ins, h, h2]

theorem State.get_put_off (s : State) (f g : Fld) (x : Nat) (h : g.off ≠ f.off) : (s.put f x).get g = s.get g := by
  simp [State.get, State.rd_put, h]

theorem State.get_put_disjoint (s : State) (f g : Fld) (x : Nat) (h : f.lo ≤ f.hi) (h2 : f.hi < 32)
    (hd : g.hi < f.lo ∨ f.hi < g.lo) : (s.put f x).get g = s.get g := by
  by_cases e : g.off = f.off
  · simp [State.get, State.rd_put, e, Fld.ext_ins_disjoint f g _ x h h2 hd]
  · exact State.get_put_off s f g x e

theorem State.get_wr_off (s : State) (o : Nat) (v : Word) (g : Fld) (h : g.off ≠ o) : (s.wr o v).get g = s.get g := by
  simp [State.get, h]

theorem State.get_wrN_off (s : State) (o v : Nat) (g : Fld) (h : g.off ≠ o) : (s.wrN o v).get g = s.get g := State.get_wr_off _ _ _ _ h

/-- A saturating counter after it has counted. -/
theorem State.rdN_count (s : State) (o p : Nat) : (s.count o).rdN p = if p = o then min (s.rdN o + 1) 0xFFFFFFFF else s.rdN p := by
  simp only [State.count, State.countN, State.rdN_wrN]
  split
  · omega
  · rfl

@[simp] theorem State.rd_count_ne (s : State) (o p : Nat) (h : p ≠ o) : (s.count o).rd p = s.rd p := by
  simp [State.count, State.countN, h]

/-- The state after reset but for its registers: what reading a register depends on. -/
def State.ofRegs (r : List (Nat × Word)) : State := { State.reset with regs := r }

section
variable
    {regs was : List (Nat × Word)} {mem : List Host.Cell} {poison : List Nat} {now : Nat} {freeCtr : Nat} {evc : Evc} {tmu : Tmu}
    {pwr : Pwr} {hbm : Hbm} {pcie : Pcie} {streams : List Stream} {lease : Lease} {sup : Support} {csu : Csu} {engines : List
    Engine} {chans : List Channel} {frame : Frame} {cmp : Composer} {ovl : Overlay} {spl : Spl} {aux : Aux} {cal : Cal} {cam
    : Cam} {ehl : Ehl} {net : Net} {codec : Codec} {pending : List Instr}
@[simp] theorem State.rd_mk (o : Nat) :
    (State.mk regs was mem poison now freeCtr evc tmu pwr hbm pcie streams lease sup csu engines chans frame cmp ovl spl aux cal cam ehl net codec pending).rd o = (State.ofRegs regs).rd o := rfl
@[simp] theorem State.rdN_mk (o : Nat) :
    (State.mk regs was mem poison now freeCtr evc tmu pwr hbm pcie streams lease sup csu engines chans frame cmp ovl spl aux cal cam ehl net codec pending).rdN o = (State.ofRegs regs).rdN o := rfl
@[simp] theorem State.get_mk (f : Fld) :
    (State.mk regs was mem poison now freeCtr evc tmu pwr hbm pcie streams lease sup csu engines chans frame cmp ovl spl aux cal cam ehl net codec pending).get f = (State.ofRegs regs).get f := rfl
@[simp] theorem State.on_mk (f : Fld) :
    (State.mk regs was mem poison now freeCtr evc tmu pwr hbm pcie streams lease sup csu engines chans frame cmp ovl spl aux cal cam ehl net codec pending).on f = (State.ofRegs regs).on f := rfl
@[simp] theorem State.bits_mk (o h l : Nat) :
    (State.mk regs was mem poison now freeCtr evc tmu pwr hbm pcie streams lease sup csu engines chans frame cmp ovl spl aux cal cam ehl net codec pending).bits o h l = (State.ofRegs regs).bits o h l := rfl
end

@[simp] theorem State.rd_ofRegs (s : State) (o : Nat) : (State.ofRegs s.regs).rd o = s.rd o := rfl
@[simp] theorem State.rdN_ofRegs (s : State) (o : Nat) : (State.ofRegs s.regs).rdN o = s.rdN o := rfl
@[simp] theorem State.get_ofRegs (s : State) (f : Fld) : (State.ofRegs s.regs).get f = s.get f := rfl
@[simp] theorem State.on_ofRegs (s : State) (f : Fld) : (State.ofRegs s.regs).on f = s.on f := rfl
@[simp] theorem State.bits_ofRegs (s : State) (o h l : Nat) : (State.ofRegs s.regs).bits o h l = s.bits o h l := rfl

end Sys2Proof.Machine
end

