-- ==== Sys2Proof/Laws/Memory.lean ====
section
/-!
SUPPORT. The laws of device memory (R22, R345): reads after writes, byte by byte, and its canonical form.
-/

namespace Sys2Proof.Machine

@[simp] theorem memByte_memPut (m : List Host.Cell) (a j : Nat) (b : Byte) :
    memByte (memPut m a b) j = if j = a then b else memByte m j := by
  simp [memByte, memPut]

theorem wf_memPut {m : List Host.Cell} (a : Nat) (b : Byte) (h : Memory.wf m = true) : Memory.wf (memPut m a b) = true :=
  sparseWf_set emptyByte a b h

theorem wf_memPutAll {m : List Host.Cell} (a : Nat) (bs : List Byte) (h : Memory.wf m = true) : Memory.wf (memPutAll m a bs) = true := by
  induction bs generalizing m a with
  | nil => exact h
  | cons b t ih => exact ih (a + 1) (wf_memPut a b h)

/-- A run of stored bytes, read back. -/
theorem memByte_memPutAll (m : List Host.Cell) (a j : Nat) (bs : List Byte) :
    memByte (memPutAll m a bs) j = if a ≤ j ∧ j < a + bs.length then bs.getD (j - a) 0 else memByte m j := by
  induction bs generalizing m a with
  | nil => simp [memPutAll]
  | cons b t ih =>
    simp only [memPutAll, ih, memByte_memPut, List.length_cons]
    by_cases h1 : a + 1 ≤ j ∧ j < a + 1 + t.length
    · rw [if_pos h1, if_pos (by omega), show j - a = (j - (a + 1)) + 1 by omega]; rfl
    · rw [if_neg h1]
      by_cases h2 : j = a
      · subst h2; simp
      · rw [if_neg h2, if_neg (by omega)]

@[simp] theorem State.notePoisonRead_mem (s : State) (c : Nat) : (s.notePoisonRead c).mem = s.mem := rfl
@[simp] theorem State.putPoison_mem (s : State) (a : Nat) : (s.putPoison a).mem = s.mem := rfl

/-- The memory of a state is in canonical form. -/
def State.MemOk (s : State) : Prop := Memory.wf s.mem = true

theorem State.memWriteWord_wf (s : State) (c a : Nat) (bs : List Byte) (hm0 : State.MemOk s) :
    State.MemOk (s.memWriteWord c a bs) := by
  unfold State.memWriteWord
  split
  · exact hm0
  · dsimp only
    split <;> exact wf_memPutAll a bs hm0

/-- A property of memory that each piece of a fold keeps, the fold keeps. -/
theorem foldl_keeps {α : Type} {P : State → Prop} (f : State → α → State) (h : ∀ s a, P s → P (f s a)) (l : List α) (s : State)
    (hs : P s) : P (l.foldl f s) := by
  induction l generalizing s with
  | nil => exact hs
  | cons a t ih => exact ih (f s a) (h s a hs)

theorem State.memWrite_wf (s : State) (c a : Nat) (bs : List Byte) (hm0 : State.MemOk s) :
    State.MemOk (s.memWrite c a bs) := by
  have h' := foldl_keeps (P := State.MemOk)
    (fun st w => st.memWriteWord c w.2.1 (slice bs (w.2.1 - a) w.2.2)) (fun s w hs => State.memWriteWord_wf s c _ _ hs)
    (wordSpans a bs.length) s hm0
  unfold State.memWrite
  dsimp only
  split
  · exact h'
  · exact h'

theorem State.memWriteNat_wf (s : State) (c a n v : Nat) (hm0 : State.MemOk s) :
    State.MemOk (s.memWriteNat c a n v) := State.memWrite_wf s c a _ hm0

/-- What a write of part of one 16-byte word does to the bytes of memory. -/
theorem State.memByte_memWriteWord (s : State) (c a j : Nat) (bs : List Byte) :
    memByte (s.memWriteWord c a bs).mem j
      = if a ≤ j ∧ j < a + bs.length ∧ ¬(bs.length < 16 ∧ s.poisonedAt a = true) then bs.getD (j - a) 0 else memByte s.mem j := by
  unfold State.memWriteWord
  by_cases h : bs.length < 16 ∧ s.poisonedAt a = true
  · simp [h]
  · have : (decide (bs.length < 16) && s.poisonedAt a) = false := by
      by_cases g : bs.length < 16 <;> simp_all
    simp only [this, Bool.false_eq_true, ↓reduceIte]
    have e := memByte_memPutAll s.mem a j bs
    simp only [h, not_false_eq_true, and_true]
    split <;> exact e

/-- Every address of a span of [a, a+n) lies in [a, a+n). -/
theorem mem_wordSpans {a n : Nat} {w : Nat × Nat × Nat} (h : w ∈ wordSpans a n) :
    a ≤ w.2.1 ∧ w.2.1 + w.2.2 ≤ a + n ∧ 16 * w.1 ≤ w.2.1 ∧ w.2.1 + w.2.2 ≤ 16 * w.1 + 16 ∧ 0 < w.2.2
      ∧ w.1 = w.2.1 / 16 ∧ w.2.1 = max a (16 * w.1) := by
  unfold wordSpans at h
  split at h
  · simp at h
  · simp only [List.mem_map, List.mem_range] at h
    obtain ⟨k, hk, rfl⟩ := h
    dsimp only
    have : a / 16 * 16 ≤ a := Nat.div_mul_le_self a 16
    have : (a + n - 1) / 16 * 16 ≤ a + n - 1 := Nat.div_mul_le_self _ 16
    have : a < 16 * (a / 16) + 16 := by omega
    refine ⟨by omega, by omega, by omega, by omega, by omega, ?_, rfl⟩
    rcases Nat.le_total a (16 * (a / 16 + k)) with h1 | h1
    · rw [Nat.max_eq_right h1]; omega
    · rw [Nat.max_eq_left h1]; omega

theorem slice_length_le (l : List Byte) (o n : Nat) : (slice l o n).length ≤ n := by
  simp [slice]

/-- A write changes no byte outside [a, a + length). -/
theorem State.memByte_memWrite_out (s : State) (c a j : Nat) (bs : List Byte) (h : j < a ∨ a + bs.length ≤ j) :
    memByte (s.memWrite c a bs).mem j = memByte s.mem j := by
  have h' : memByte ((wordSpans a bs.length).foldl
      (fun st w => st.memWriteWord c w.2.1 (slice bs (w.2.1 - a) w.2.2)) s).mem j = memByte s.mem j := by
    have key : ∀ (l : List (Nat × Nat × Nat)) (s : State), (∀ w ∈ l, w ∈ wordSpans a bs.length) →
        memByte (l.foldl (fun st w => st.memWriteWord c w.2.1 (slice bs (w.2.1 - a) w.2.2)) s).mem j = memByte s.mem j := by
      intro l
      induction l with
      | nil => intros; rfl
      | cons w t ih =>
        intro s hw
        rw [List.foldl_cons, ih _ (fun x hx => hw x (List.mem_cons_of_mem _ hx)), State.memByte_memWriteWord, if_neg]
        have := mem_wordSpans (hw w (by simp))
        have := slice_length_le bs (w.2.1 - a) w.2.2
        omega
    exact key _ s (fun _ h => h)
  unfold State.memWrite
  dsimp only
  split <;> exact h'

/-- A write of one whole 16-byte word stores its bytes and leaves the word free of poison (R345). -/
theorem State.memWrite_word (s : State) (c w : Nat) (bs : List Byte) (h : bs.length = 16) :
    s.memWrite c (16 * w) bs
      = ({ s with mem := memPutAll s.mem (16 * w) bs, poison := setErase w s.poison } : State).put MEM_STATUS_UNTOUCHED 0 := by
  have e : wordSpans (16 * w) 16 = [(w, 16 * w, 16)] := by
    unfold wordSpans
    simp only [show ¬(16 : Nat) = 0 by decide, ↓reduceIte, show (16 * w + 16 - 1) / 16 + 1 - 16 * w / 16 = 1 by omega]
    simp
  have e2 : slice bs (16 * w - 16 * w) 16 = bs := by simp [slice, ← h]
  have e3 : bs.isEmpty = false := by cases bs <;> simp_all
  unfold State.memWrite
  simp only [h, e, List.foldl_cons, List.foldl_nil, e2, e3, List.all_cons, List.all_nil]
  simp [State.memWriteWord, h]

end Sys2Proof.Machine
end

