-- ==== Sys2Proof/Laws/Keeps.lean ====
section
/-!
SUPPORT. What the operations do to device memory: those that cannot store leave it as it was, and those that can keep it in
canonical form.
-/

set_option linter.unusedTactic false
set_option linter.unreachableTactic false
set_option linter.unusedVariables false

namespace Sys2Proof.Machine

/-- Two states have the same memory. -/
def State.MemAs (a b : State) : Prop := a.mem = b.mem

theorem State.MemAs.refl (a : State) : a.MemAs a := Eq.refl a.mem
theorem State.MemAs.step {a b c : State} (h : a.mem = b.mem) (k : b.MemAs c) : a.MemAs c := Eq.trans h k
theorem State.MemAs.of {a b : State} (h : a.MemAs b) : a.mem = b.mem := h
theorem State.MemOk.of {a : State} (h : a.MemOk) : (Memory.wf a.mem) = true := h
theorem wf_of_mem {a b : State} (e : a.mem = b.mem) (h : State.MemOk b) : State.MemOk a := by
  unfold State.MemOk
  rw [e]
  exact h

/-- An update of another part keeps memory. -/
theorem State.MemAs.mk {b c : State}
    {regs was : List (Nat × Word)}
    {poison : List Nat}
    {now : Nat}
    {freeCtr : Nat}
    {evc : Evc}
    {tmu : Tmu}
    {pwr : Pwr}
    {hbm : Hbm}
    {pcie : Pcie}
    {streams : List Stream}
    {lease : Lease}
    {sup : Support}
    {csu : Csu}
    {engines : List Engine}
    {chans : List Channel}
    {frame : Frame}
    {cmp : Composer}
    {ovl : Overlay}
    {spl : Spl}
    {aux : Aux}
    {cal : Cal}
    {cam : Cam}
    {ehl : Ehl}
    {net : Net}
    {codec : Codec}
    {pending : List Instr}
    (h : b.MemAs c) : (State.mk regs was b.mem poison now freeCtr evc tmu pwr hbm pcie streams lease sup csu engines chans frame cmp ovl spl aux cal cam ehl net codec pending).MemAs c := h
theorem State.MemOk.mk {b : State}
    {regs was : List (Nat × Word)}
    {poison : List Nat}
    {now : Nat}
    {freeCtr : Nat}
    {evc : Evc}
    {tmu : Tmu}
    {pwr : Pwr}
    {hbm : Hbm}
    {pcie : Pcie}
    {streams : List Stream}
    {lease : Lease}
    {sup : Support}
    {csu : Csu}
    {engines : List Engine}
    {chans : List Channel}
    {frame : Frame}
    {cmp : Composer}
    {ovl : Overlay}
    {spl : Spl}
    {aux : Aux}
    {cal : Cal}
    {cam : Cam}
    {ehl : Ehl}
    {net : Net}
    {codec : Codec}
    {pending : List Instr}
    (h : b.MemOk) : (State.mk regs was b.mem poison now freeCtr evc tmu pwr hbm pcie streams lease sup csu engines chans frame cmp ovl spl aux cal cam ehl net codec pending).MemOk := h

theorem State.MemOk.ite {p : Prop} {d : Decidable p} {a b : State} (ha : a.MemOk) (hb : b.MemOk) : (if p then a else b).MemOk := by
  split
  · exact ha
  · exact hb

theorem State.reset_ok : State.reset.MemOk := rfl

theorem State.MemAs.ite {p : Prop} {d : Decidable p} {a b c : State} (ha : a.MemAs c) (hb : b.MemAs c) : (if p then a else b).MemAs c := by
  split
  · exact ha
  · exact hb

theorem foldl_memAs {α : Type} (f : State → α → State) (h : ∀ s a, (f s a).MemAs s) {l : List α} {s r : State} (hr : s.MemAs r) :
    (l.foldl f s).MemAs r := by
  induction l generalizing s with
  | nil => exact hr
  | cons a t ih => exact ih (Eq.trans (h s a) hr)

theorem foldl_wf {α : Type} (f : State → α → State) (h : ∀ s a, State.MemOk s → State.MemOk (f s a)) (l : List α)
    (s : State) (hs : State.MemOk s) : State.MemOk (l.foldl f s) := foldl_keeps f h l s hs

theorem foldl_fst_mem {α β : Type} (f : State × β → α → State × β) (h : ∀ p a, (f p a).1.mem = p.1.mem) (l : List α) (p : State × β) :
    (l.foldl f p).1.mem = p.1.mem := by
  induction l generalizing p with
  | nil => rfl
  | cons a t ih => exact (ih (f p a)).trans (h p a)

theorem foldl_fst_wf {α β : Type} (f : State × β → α → State × β)
    (h : ∀ p a, State.MemOk p.1 → State.MemOk (f p a).1) (l : List α) (p : State × β)
    (hp : State.MemOk p.1) : State.MemOk (l.foldl f p).1 := by
  induction l generalizing p with
  | nil => exact hp
  | cons a t ih => exact ih (f p a) (h p a hp)

theorem State.putAddr36_mem (s : State) (lo hi a : Nat) : (State.putAddr36 s lo hi a).mem = s.mem := by
  show State.MemAs (State.putAddr36 s lo hi a) s
  unfold State.putAddr36
  repeat' (first | with_reducible exact State.MemAs.refl _ | with_reducible assumption | with_reducible apply State.MemAs.step (State.wrN_mem ..) | split | dsimp only)

theorem State.raiseOnce_mem (s : State) (src data : Nat) : (State.raiseOnce s src data).mem = s.mem := by
  show State.MemAs (State.raiseOnce s src data) s
  unfold State.raiseOnce
  repeat' (first | with_reducible exact State.MemAs.refl _ | with_reducible assumption | with_reducible apply State.MemAs.step (State.raise_mem ..) | with_reducible apply State.MemAs.ite | split | dsimp only)

theorem State.raiseIf_mem (s : State) (c : Bool) (src data : Nat) : (State.raiseIf s c src data).mem = s.mem := by
  show State.MemAs (State.raiseIf s c src data) s
  unfold State.raiseIf
  repeat' (first | with_reducible exact State.MemAs.refl _ | with_reducible assumption | with_reducible apply State.MemAs.step (State.raise_mem ..) | with_reducible apply State.MemAs.ite | split | dsimp only)

theorem State.setLink_mem (s : State) (l : Nat) (f : EhlLink → EhlLink) : (State.setLink s l f).mem = s.mem := by
  show State.MemAs (State.setLink s l f) s
  unfold State.setLink
  repeat' (first | with_reducible exact State.MemAs.refl _ | with_reducible assumption | fail_if_no_progress with_reducible refine State.MemAs.mk ?_ | split | dsimp only)

theorem State.ehlSend_mem (s : State) (l : Nat) (m : EhlMsg) : (State.ehlSend s l m).mem = s.mem := by
  show State.MemAs (State.ehlSend s l m) s
  unfold State.ehlSend
  repeat' (first | with_reducible exact State.MemAs.refl _ | with_reducible assumption | with_reducible apply State.MemAs.step (State.setLink_mem ..) | with_reducible apply State.MemAs.ite | fail_if_no_progress with_reducible refine State.MemAs.mk ?_ | split | dsimp only)

theorem State.ehlLeave_mem (s : State) (l i r : Nat) : (State.ehlLeave s l i r).mem = s.mem := by
  show State.MemAs (State.ehlLeave s l i r) s
  unfold State.ehlLeave
  repeat' (first | with_reducible exact State.MemAs.refl _ | with_reducible assumption | with_reducible apply State.MemAs.step (State.setLink_mem ..) | fail_if_no_progress with_reducible refine State.MemAs.mk ?_ | split | dsimp only)

theorem State.ehlServe_mem (s : State) (l n : Nat) : (State.ehlServe s l n).mem = s.mem := by
  induction n generalizing s with
  | zero => rfl
  | succ n ih =>
    unfold State.ehlServe
    dsimp only
    split
    · rfl
    · split
      · exact (ih _).trans (State.ehlLeave_mem ..)
      · rfl

theorem State.settleLane_mem (s : State) (l : Nat) (e : Elastic) : (State.settleLane s l e).mem = s.mem := by
  show State.MemAs (State.settleLane s l e) s
  unfold State.settleLane
  repeat' (first | with_reducible exact State.MemAs.refl _ | with_reducible assumption | with_reducible apply State.MemAs.step (State.put_mem ..) | with_reducible apply State.MemAs.ite | fail_if_no_progress with_reducible refine State.MemAs.mk ?_ | split | dsimp only)

theorem State.settleLinks_mem (s : State) : (State.settleLinks s).mem = s.mem := by
  show State.MemAs (State.settleLinks s) s
  unfold State.settleLinks
  repeat' (first | with_reducible exact State.MemAs.refl _ | with_reducible assumption | with_reducible apply State.MemAs.step (State.settleLane_mem ..) | with_reducible apply State.MemAs.step (State.ehlServe_mem ..) | with_reducible refine foldl_memAs _ (fun _ _ => ?_) ?_ | with_reducible apply State.MemAs.ite | split | dsimp only)

theorem State.groupBit_mem (s : State) (off src : Nat) : (State.groupBit s off src).mem = s.mem := by
  show State.MemAs (State.groupBit s off src) s
  unfold State.groupBit
  repeat' (first | with_reducible exact State.MemAs.refl _ | with_reducible assumption | with_reducible apply State.MemAs.step (State.wrN_mem ..) | split | dsimp only)

theorem State.loseRecord_mem (s : State) (rec : List EvEntry) : (State.loseRecord s rec).mem = s.mem := by
  show State.MemAs (State.loseRecord s rec) s
  unfold State.loseRecord
  repeat' (first | with_reducible exact State.MemAs.refl _ | with_reducible assumption | with_reducible apply State.MemAs.step (State.groupBit_mem ..) | with_reducible apply State.MemAs.step (State.count_mem ..) | with_reducible refine foldl_memAs _ (fun _ _ => ?_) ?_ | split | dsimp only)

theorem State.showEarly_mem (s : State) : (State.showEarly s).mem = s.mem := by
  show State.MemAs (State.showEarly s) s
  unfold State.showEarly
  repeat' (first | with_reducible exact State.MemAs.refl _ | with_reducible assumption | with_reducible apply State.MemAs.step (State.put_mem ..) | with_reducible apply State.MemAs.step (State.wrN_mem ..) | with_reducible refine foldl_memAs _ (fun _ _ => ?_) ?_ | split | dsimp only)

theorem State.placeRecord_mem (s : State) (rec : List EvEntry) : (State.placeRecord s rec).mem = s.mem := by
  show State.MemAs (State.placeRecord s rec) s
  unfold State.placeRecord
  repeat' (first | with_reducible exact State.MemAs.refl _ | with_reducible assumption | with_reducible apply State.MemAs.step (State.showEarly_mem ..) | with_reducible apply State.MemAs.step (State.loseRecord_mem ..) | with_reducible apply State.MemAs.step (State.put_mem ..) | with_reducible apply State.MemAs.ite | fail_if_no_progress with_reducible refine State.MemAs.mk ?_ | split | dsimp only)

theorem State.noteFatal_mem (s : State) : (State.noteFatal s).mem = s.mem := by
  show State.MemAs (State.noteFatal s) s
  unfold State.noteFatal
  repeat' (first | with_reducible exact State.MemAs.refl _ | with_reducible assumption | with_reducible apply State.MemAs.step (State.wrN_mem ..) | with_reducible apply State.MemAs.ite | split | dsimp only)

theorem State.notePending_mem (s : State) : (State.notePending s).mem = s.mem := by
  show State.MemAs (State.notePending s) s
  unfold State.notePending
  repeat' (first | with_reducible exact State.MemAs.refl _ | with_reducible assumption | with_reducible apply State.MemAs.step (State.groupBit_mem ..) | with_reducible refine foldl_memAs _ (fun _ _ => ?_) ?_ | split | dsimp only)

theorem State.formRecord_mem (s : State) : (State.formRecord s).mem = s.mem := by
  show State.MemAs (State.formRecord s) s
  unfold State.formRecord
  repeat' (first | with_reducible exact State.MemAs.refl _ | with_reducible assumption | with_reducible apply State.MemAs.step (State.notePending_mem ..) | with_reducible apply State.MemAs.step (State.noteFatal_mem ..) | with_reducible apply State.MemAs.step (State.placeRecord_mem ..) | with_reducible apply State.MemAs.ite | fail_if_no_progress with_reducible refine State.MemAs.mk ?_ | split | dsimp only)

theorem State.flushHeld_mem (s : State) : (State.flushHeld s).mem = s.mem := by
  show State.MemAs (State.flushHeld s) s
  unfold State.flushHeld
  repeat' (first | with_reducible exact State.MemAs.refl _ | with_reducible assumption | with_reducible apply State.MemAs.step (State.placeRecord_mem ..) | with_reducible refine foldl_memAs _ (fun _ _ => ?_) ?_ | fail_if_no_progress with_reducible refine State.MemAs.mk ?_ | split | dsimp only)

theorem State.flushAwake_mem (s : State) : (State.flushAwake s).mem = s.mem := by
  show State.MemAs (State.flushAwake s) s
  unfold State.flushAwake
  repeat' (first | with_reducible exact State.MemAs.refl _ | with_reducible assumption | with_reducible apply State.MemAs.step (State.flushHeld_mem ..) | with_reducible apply State.MemAs.ite | split | dsimp only)

theorem State.reportLost_mem (s : State) : (State.reportLost s).mem = s.mem := by
  show State.MemAs (State.reportLost s) s
  unfold State.reportLost
  repeat' (first | with_reducible exact State.MemAs.refl _ | with_reducible assumption | with_reducible apply State.MemAs.step (State.raise_mem ..) | with_reducible apply State.MemAs.ite | fail_if_no_progress with_reducible refine State.MemAs.mk ?_ | split | dsimp only)

theorem State.showTick_mem (s : State) : (State.showTick s).mem = s.mem := by
  show State.MemAs (State.showTick s) s
  unfold State.showTick
  repeat' (first | with_reducible exact State.MemAs.refl _ | with_reducible assumption | with_reducible apply State.MemAs.step (State.wrN_mem ..) | split | dsimp only)

theorem State.passTick_mem (s : State) : (State.passTick s).mem = s.mem := by
  show State.MemAs (State.passTick s) s
  unfold State.passTick
  repeat' (first | with_reducible exact State.MemAs.refl _ | with_reducible assumption | fail_if_no_progress with_reducible refine State.MemAs.mk ?_ | split | dsimp only)

theorem State.nextTick_mem (s : State) : (State.nextTick s).mem = s.mem := by
  show State.MemAs (State.nextTick s) s
  unfold State.nextTick
  repeat' (first | with_reducible exact State.MemAs.refl _ | with_reducible assumption | with_reducible apply State.MemAs.step (State.showTick_mem ..) | fail_if_no_progress with_reducible refine State.MemAs.mk ?_ | split | dsimp only)

theorem State.deliver_mem (s : State) (c v : Nat) : (State.deliver s c v).mem = s.mem := by
  show State.MemAs (State.deliver s c v) s
  unfold State.deliver
  repeat' (first | with_reducible exact State.MemAs.refl _ | with_reducible assumption | fail_if_no_progress with_reducible refine State.MemAs.mk ?_ | split | dsimp only)

theorem State.holdMasked_mem (s : State) (c v : Nat) : (State.holdMasked s c v).mem = s.mem := by
  show State.MemAs (State.holdMasked s c v) s
  unfold State.holdMasked
  repeat' (first | with_reducible exact State.MemAs.refl _ | with_reducible assumption | with_reducible apply State.MemAs.step (State.wrN_mem ..) | with_reducible apply State.MemAs.ite | fail_if_no_progress with_reducible refine State.MemAs.mk ?_ | split | dsimp only)

theorem State.sendMsg_mem (s : State) (p : Nat × Nat) : (State.sendMsg s p).mem = s.mem := by
  show State.MemAs (State.sendMsg s p) s
  unfold State.sendMsg
  repeat' (first | with_reducible exact State.MemAs.refl _ | with_reducible assumption | with_reducible apply State.MemAs.step (State.holdMasked_mem ..) | with_reducible apply State.MemAs.step (State.deliver_mem ..) | with_reducible apply State.MemAs.ite | split | dsimp only)

theorem State.postMsg_mem (s : State) (p : Nat × Nat) : (State.postMsg s p).mem = s.mem := by
  show State.MemAs (State.postMsg s p) s
  unfold State.postMsg
  repeat' (first | with_reducible exact State.MemAs.refl _ | with_reducible assumption | with_reducible apply State.MemAs.step (State.sendMsg_mem ..) | with_reducible apply State.MemAs.ite | fail_if_no_progress with_reducible refine State.MemAs.mk ?_ | split | dsimp only)

theorem State.postRecord_mem (s : State) (rec : List EvEntry) : (State.postRecord s rec).mem = s.mem := by
  show State.MemAs (State.postRecord s rec) s
  unfold State.postRecord
  repeat' (first | with_reducible exact State.MemAs.refl _ | with_reducible assumption | with_reducible apply State.MemAs.step (State.postMsg_mem ..) | with_reducible refine foldl_memAs _ (fun _ _ => ?_) ?_ | with_reducible apply State.MemAs.ite | split | dsimp only)

theorem State.landRecord_wf (s : State) (rec : List EvEntry) (hm0 : State.MemOk s) :
    State.MemOk (State.landRecord s rec) := by
  unfold State.landRecord
  repeat' (first | with_reducible assumption | with_reducible apply wf_of_mem (State.postRecord_mem ..) | with_reducible apply State.memWrite_wf | with_reducible apply wf_of_mem (State.wrN_mem ..) | with_reducible refine foldl_wf _ (fun _ _ _ => ?_) _ _ ?_ | split | dsimp only)

theorem State.sendPending_mem (s : State) : (State.sendPending s).mem = s.mem := by
  show State.MemAs (State.sendPending s) s
  unfold State.sendPending
  repeat' (first | with_reducible exact State.MemAs.refl _ | with_reducible assumption | with_reducible apply State.MemAs.step (State.deliver_mem ..) | with_reducible apply State.MemAs.step (State.wrN_mem ..) | with_reducible refine foldl_memAs _ (fun _ _ => ?_) ?_ | fail_if_no_progress with_reducible refine State.MemAs.mk ?_ | split | dsimp only)

theorem eventTick_mem (s : State) : (eventTick s).mem = s.mem := by
  show State.MemAs (eventTick s) s
  unfold eventTick
  repeat' (first | with_reducible exact State.MemAs.refl _ | with_reducible assumption | with_reducible apply State.MemAs.step (State.nextTick_mem ..) | with_reducible apply State.MemAs.step (State.passTick_mem ..) | with_reducible apply State.MemAs.step (State.reportLost_mem ..) | with_reducible apply State.MemAs.step (State.flushAwake_mem ..) | with_reducible apply State.MemAs.step (State.formRecord_mem ..) | split | dsimp only)

theorem ringWriteDone_wf (s : State) (hm0 : State.MemOk s) :
    State.MemOk (ringWriteDone s) := by
  unfold ringWriteDone
  repeat' (first | with_reducible assumption | with_reducible apply State.landRecord_wf | fail_if_no_progress with_reducible refine State.MemOk.mk ?_ | split | dsimp only)

theorem moderationExpire_mem (c : Nat) (s : State) : (moderationExpire c s).mem = s.mem := by
  show State.MemAs (moderationExpire c s) s
  unfold moderationExpire
  repeat' (first | with_reducible exact State.MemAs.refl _ | with_reducible assumption | with_reducible apply State.MemAs.step (State.sendMsg_mem ..) | with_reducible refine foldl_memAs _ (fun _ _ => ?_) ?_ | with_reducible apply State.MemAs.ite | fail_if_no_progress with_reducible refine State.MemAs.mk ?_ | split | dsimp only)

theorem msixUnmask_mem (v : Option Nat) (s : State) : (msixUnmask v s).mem = s.mem := by
  show State.MemAs (msixUnmask v s) s
  unfold msixUnmask
  repeat' (first | with_reducible exact State.MemAs.refl _ | with_reducible assumption | with_reducible apply State.MemAs.step (State.sendPending_mem ..) | with_reducible apply State.MemAs.step (State.put_mem ..) | fail_if_no_progress with_reducible refine State.MemAs.mk ?_ | split | dsimp only)

theorem swRaise_mem (val : Word) (s : State) : (swRaise val s).mem = s.mem := by
  show State.MemAs (swRaise val s) s
  unfold swRaise
  repeat' (first | with_reducible exact State.MemAs.refl _ | with_reducible assumption | with_reducible apply State.MemAs.step (State.raise_mem ..) | with_reducible apply State.MemAs.step (State.raiseCls_mem ..) | with_reducible apply State.MemAs.ite | split | dsimp only)

theorem earlyPop_mem (s : State) : (earlyPop s).mem = s.mem := by
  show State.MemAs (earlyPop s) s
  unfold earlyPop
  repeat' (first | with_reducible exact State.MemAs.refl _ | with_reducible assumption | with_reducible apply State.MemAs.step (State.showEarly_mem ..) | fail_if_no_progress with_reducible refine State.MemAs.mk ?_ | split | dsimp only)

theorem State.moveEarly_mem (s : State) : (State.moveEarly s).mem = s.mem := by
  show State.MemAs (State.moveEarly s) s
  unfold State.moveEarly
  repeat' (first | with_reducible exact State.MemAs.refl _ | with_reducible assumption | with_reducible apply State.MemAs.step (State.showEarly_mem ..) | with_reducible apply State.MemAs.step (State.raiseIf_mem ..) | fail_if_no_progress with_reducible refine State.MemAs.mk ?_ | split | dsimp only)

theorem ringEnable_mem (val : Word) (s : State) : (ringEnable val s).mem = s.mem := by
  show State.MemAs (ringEnable val s) s
  unfold ringEnable
  repeat' (first | with_reducible exact State.MemAs.refl _ | with_reducible assumption | with_reducible apply State.MemAs.step (State.moveEarly_mem ..) | with_reducible apply State.MemAs.step (State.put_mem ..) | with_reducible apply State.MemAs.ite | split | dsimp only)

theorem tickDivWrite_mem (val : Word) (s : State) : (tickDivWrite val s).mem = s.mem := by
  show State.MemAs (tickDivWrite val s) s
  unfold tickDivWrite
  repeat' (first | with_reducible exact State.MemAs.refl _ | with_reducible assumption | with_reducible apply State.MemAs.step (State.put_mem ..) | split | dsimp only)

theorem State.wakePair_mem (s : State) (cause : Nat) : (State.wakePair s cause).mem = s.mem := by
  show State.MemAs (State.wakePair s cause) s
  unfold State.wakePair
  repeat' (first | with_reducible exact State.MemAs.refl _ | with_reducible assumption | with_reducible apply State.MemAs.step (State.ehlSend_mem ..) | with_reducible apply State.MemAs.ite | split | dsimp only)

theorem State.wake_mem (s : State) (cause : Nat) : (State.wake s cause).mem = s.mem := by
  show State.MemAs (State.wake s cause) s
  unfold State.wake
  repeat' (first | with_reducible exact State.MemAs.refl _ | with_reducible assumption | with_reducible apply State.MemAs.step (State.wakePair_mem ..) | with_reducible apply State.MemAs.step (State.put_mem ..) | with_reducible apply State.MemAs.step (State.wrN_mem ..) | with_reducible apply State.MemAs.ite | fail_if_no_progress with_reducible refine State.MemAs.mk ?_ | split | dsimp only)

theorem State.showPc_mem (s : State) (p st slot : Nat) : (State.showPc s p st slot).mem = s.mem := by
  show State.MemAs (State.showPc s p st slot) s
  unfold State.showPc
  repeat' (first | with_reducible exact State.MemAs.refl _ | with_reducible assumption | with_reducible apply State.MemAs.step (State.put_mem ..) | split | dsimp only)

theorem State.touchStack_mem (s : State) (k : Nat) : (State.touchStack s k).mem = s.mem := by
  show State.MemAs (State.touchStack s k) s
  unfold State.touchStack
  repeat' (first | with_reducible exact State.MemAs.refl _ | with_reducible assumption | with_reducible apply State.MemAs.step (State.put_mem ..) | fail_if_no_progress with_reducible refine State.MemAs.mk ?_ | split | dsimp only)

theorem State.recordSpare_mem (s : State) (h p : Nat) : (State.recordSpare s h p).mem = s.mem := by
  show State.MemAs (State.recordSpare s h p) s
  unfold State.recordSpare
  repeat' (first | with_reducible exact State.MemAs.refl _ | with_reducible assumption | with_reducible apply State.MemAs.step (State.put_mem ..) | split | dsimp only)

theorem State.startMigration_mem (s : State) (p slot t : Nat) : (State.startMigration s p slot t).mem = s.mem := by
  show State.MemAs (State.startMigration s p slot t) s
  unfold State.startMigration
  repeat' (first | with_reducible exact State.MemAs.refl _ | with_reducible assumption | with_reducible apply State.MemAs.step (State.showPc_mem ..) | with_reducible apply State.MemAs.step (State.raiseMask_mem ..) | with_reducible apply State.MemAs.step (State.put_mem ..) | fail_if_no_progress with_reducible refine State.MemAs.mk ?_ | split | dsimp only)

theorem State.retire_mem (s : State) (p : Nat) : (State.retire s p).mem = s.mem := by
  show State.MemAs (State.retire s p) s
  unfold State.retire
  repeat' (first | with_reducible exact State.MemAs.refl _ | with_reducible assumption | with_reducible apply State.MemAs.step (State.startMigration_mem ..) | with_reducible apply State.MemAs.step (State.raiseMask_mem ..) | with_reducible apply State.MemAs.step (State.put_mem ..) | with_reducible apply State.MemAs.ite | fail_if_no_progress with_reducible refine State.MemAs.mk ?_ | split | dsimp only)

theorem State.retireNow_some {s : State} {p : Nat} {t : State} (h : State.retireNow s p = some t) : t.mem = s.mem := by
  unfold State.retireNow at h
  split at h
  · obtain rfl := Option.some.inj h
    exact (State.recordSpare_mem ..).trans ((State.showPc_mem ..).trans (State.showPc_mem ..))
  · cases h

theorem State.recordError_mem (s : State) (a client : Nat) (pc : Option Nat) : (State.recordError s a client pc).mem = s.mem := by
  show State.MemAs (State.recordError s a client pc) s
  unfold State.recordError
  repeat' (first | with_reducible exact State.MemAs.refl _ | with_reducible assumption | with_reducible apply State.MemAs.step (State.wrN_mem ..) | split | dsimp only)

theorem State.correctedWord_mem (s : State) (client p : Nat) : (State.correctedWord s client p).mem = s.mem := by
  show State.MemAs (State.correctedWord s client p) s
  unfold State.correctedWord
  repeat' (first | with_reducible exact State.MemAs.refl _ | with_reducible assumption | with_reducible apply State.MemAs.step (State.raiseMask_mem ..) | with_reducible apply State.MemAs.step (State.count_mem ..) | with_reducible apply State.MemAs.step (State.put_mem ..) | split | dsimp only)

theorem State.uncorrectableWord_mem (s : State) (a client : Nat) (c0 c1 c2 : Nat) : (State.uncorrectableWord s a client c0 c1 c2).mem = s.mem := by
  show State.MemAs (State.uncorrectableWord s a client c0 c1 c2) s
  unfold State.uncorrectableWord
  repeat' (first | with_reducible exact State.MemAs.refl _ | with_reducible assumption | with_reducible apply State.MemAs.step (State.recordError_mem ..) | with_reducible apply State.MemAs.step (State.retire_mem ..) | with_reducible apply State.MemAs.step (State.putPoison_mem ..) | with_reducible apply State.MemAs.step (State.raiseMask_mem ..) | with_reducible apply State.MemAs.step (State.count_mem ..) | split | dsimp only)

theorem State.noteLatency_mem (s : State) (client rank latency : Nat) : (State.noteLatency s client rank latency).mem = s.mem := by
  show State.MemAs (State.noteLatency s client rank latency) s
  unfold State.noteLatency
  repeat' (first | with_reducible exact State.MemAs.refl _ | with_reducible assumption | with_reducible apply State.MemAs.step (State.raiseMask_mem ..) | with_reducible apply State.MemAs.step (State.count_mem ..) | with_reducible apply State.MemAs.ite | split | dsimp only)

theorem State.applyFault_mem (s : State) (client base : Nat) (f : LineFault) : (State.applyFault s client base f).mem = s.mem := by
  show State.MemAs (State.applyFault s client base f) s
  unfold State.applyFault
  repeat' (first | with_reducible exact State.MemAs.refl _ | with_reducible assumption | with_reducible apply State.MemAs.step (State.uncorrectableWord_mem ..) | with_reducible apply State.MemAs.step (State.correctedWord_mem ..) | with_reducible apply State.MemAs.ite | split | dsimp only)

theorem State.acceptLine_mem (s : State) (client rank a : Nat) : (State.acceptLine s client rank a).mem = s.mem := by
  show State.MemAs (State.acceptLine s client rank a) s
  unfold State.acceptLine
  repeat' (first | with_reducible exact State.MemAs.refl _ | with_reducible assumption | fail_if_no_progress with_reducible refine State.MemAs.mk ?_ | split | dsimp only)

theorem State.requestLine_mem (s : State) (client rank a : Nat) : (State.requestLine s client rank a).mem = s.mem := by
  show State.MemAs (State.requestLine s client rank a) s
  unfold State.requestLine
  repeat' (first | with_reducible exact State.MemAs.refl _ | with_reducible assumption | with_reducible apply State.MemAs.step (State.acceptLine_mem ..) | with_reducible apply State.MemAs.step (State.touchStack_mem ..) | split | dsimp only)

theorem memReadLine_mem (client rank a latency : Nat) (faults : List LineFault) (s : State) : (memReadLine client rank a latency faults s).mem = s.mem := by
  show State.MemAs (memReadLine client rank a latency faults s) s
  unfold memReadLine
  repeat' (first | with_reducible exact State.MemAs.refl _ | with_reducible assumption | with_reducible apply State.MemAs.step (State.requestLine_mem ..) | with_reducible apply State.MemAs.step (State.applyFault_mem ..) | with_reducible apply State.MemAs.step (State.noteLatency_mem ..) | with_reducible apply State.MemAs.step (State.notePoisonRead_mem ..) | with_reducible refine foldl_memAs _ (fun _ _ => ?_) ?_ | with_reducible apply State.MemAs.ite | split | dsimp only)

theorem memWriteLine_wf (client rank a latency : Nat) (bs : List Byte) (faults : List LineFault) (s : State) (hm0 : State.MemOk s) :
    State.MemOk (memWriteLine client rank a latency bs faults s) := by
  unfold memWriteLine
  repeat' (first | with_reducible assumption | with_reducible apply wf_of_mem (State.requestLine_mem ..) | with_reducible apply wf_of_mem (State.applyFault_mem ..) | with_reducible apply wf_of_mem (State.noteLatency_mem ..) | with_reducible apply State.memWrite_wf | with_reducible refine foldl_wf _ (fun _ _ _ => ?_) _ _ ?_ | with_reducible apply State.MemOk.ite | split | dsimp only)

theorem scrubRead_mem (latency : Nat) (faults : List LineFault) (s : State) : (scrubRead latency faults s).mem = s.mem := by
  show State.MemAs (scrubRead latency faults s) s
  unfold scrubRead
  repeat' (first | with_reducible exact State.MemAs.refl _ | with_reducible assumption | with_reducible apply State.MemAs.step (memReadLine_mem ..) | with_reducible apply State.MemAs.ite | fail_if_no_progress with_reducible refine State.MemAs.mk ?_ | split | dsimp only)

theorem State.serveMem_mem (s : State) : (State.serveMem s).mem = s.mem := by
  show State.MemAs (State.serveMem s) s
  unfold State.serveMem
  repeat' (first | with_reducible exact State.MemAs.refl _ | with_reducible assumption | fail_if_no_progress with_reducible refine State.MemAs.mk ?_ | split | dsimp only)

theorem refreshBank_mem (p : Nat) (s : State) : (refreshBank p s).mem = s.mem := by
  show State.MemAs (refreshBank p s) s
  unfold refreshBank
  repeat' (first | with_reducible exact State.MemAs.refl _ | with_reducible assumption | with_reducible apply State.MemAs.ite | fail_if_no_progress with_reducible refine State.MemAs.mk ?_ | split | dsimp only)

theorem State.stackTemp_mem (s : State) (k : Nat) (t : Int) : (State.stackTemp s k t).mem = s.mem := by
  show State.MemAs (State.stackTemp s k t) s
  unfold State.stackTemp
  repeat' (first | with_reducible exact State.MemAs.refl _ | with_reducible assumption | with_reducible apply State.MemAs.step (State.raiseMask_mem ..) | with_reducible apply State.MemAs.step (State.put_mem ..) | with_reducible apply State.MemAs.ite | fail_if_no_progress with_reducible refine State.MemAs.mk ?_ | split | dsimp only)

theorem hbmTempRead_mem (t0 t1 : Int) (s : State) : (hbmTempRead t0 t1 s).mem = s.mem := by
  show State.MemAs (hbmTempRead t0 t1 s) s
  unfold hbmTempRead
  repeat' (first | with_reducible exact State.MemAs.refl _ | with_reducible assumption | with_reducible apply State.MemAs.step (State.stackTemp_mem ..) | with_reducible apply State.MemAs.ite | split | dsimp only)

theorem selfRefreshEnter_mem (k : Nat) (s : State) : (selfRefreshEnter k s).mem = s.mem := by
  show State.MemAs (selfRefreshEnter k s) s
  unfold selfRefreshEnter
  repeat' (first | with_reducible exact State.MemAs.refl _ | with_reducible assumption | with_reducible apply State.MemAs.step (State.put_mem ..) | with_reducible apply State.MemAs.ite | fail_if_no_progress with_reducible refine State.MemAs.mk ?_ | split | dsimp only)

theorem State.trainPc_mem (s : State) (p : Nat) (ws : List Window) : (State.trainPc s p ws).mem = s.mem := by
  show State.MemAs (State.trainPc s p ws) s
  unfold State.trainPc
  repeat' (first | with_reducible exact State.MemAs.refl _ | with_reducible assumption | with_reducible apply State.MemAs.step (State.showPc_mem ..) | with_reducible apply State.MemAs.step (State.raiseMask_mem ..) | with_reducible apply State.MemAs.step (State.wrN_mem ..) | with_reducible apply State.MemAs.ite | fail_if_no_progress with_reducible refine State.MemAs.mk ?_ | split | dsimp only)

theorem State.trainFailed_mem (s : State) (p : Nat) : (State.trainFailed s p).mem = s.mem := by
  show State.MemAs (State.trainFailed s p) s
  unfold State.trainFailed
  repeat' (first | with_reducible exact State.MemAs.refl _ | with_reducible assumption | with_reducible refine State.MemAs.step (State.retireNow_some ‹_›) ?_ | with_reducible apply State.MemAs.step (State.showPc_mem ..) | with_reducible apply State.MemAs.step (State.raiseMask_mem ..) | with_reducible apply State.MemAs.step (State.put_mem ..) | fail_if_no_progress with_reducible refine State.MemAs.mk ?_ | split | dsimp only)

theorem hbmTrainingDone_mem (results : List (List Window)) (s : State) : (hbmTrainingDone results s).mem = s.mem := by
  show State.MemAs (hbmTrainingDone results s) s
  unfold hbmTrainingDone
  repeat' (first | with_reducible exact State.MemAs.refl _ | with_reducible assumption | with_reducible apply State.MemAs.step (State.trainFailed_mem ..) | with_reducible apply State.MemAs.step (State.trainPc_mem ..) | with_reducible apply State.MemAs.step (State.put_mem ..) | with_reducible refine foldl_memAs _ (fun _ _ => ?_) ?_ | with_reducible apply State.MemAs.ite | split | dsimp only)

theorem memRetireCmd_mem (val : Word) (s : State) : (memRetireCmd val s).mem = s.mem := by
  show State.MemAs (memRetireCmd val s) s
  unfold memRetireCmd
  repeat' (first | with_reducible exact State.MemAs.refl _ | with_reducible assumption | with_reducible apply State.MemAs.step (State.retire_mem ..) | with_reducible apply State.MemAs.ite | split | dsimp only)

theorem retirePreset_mem (val : Word) (s : State) : (retirePreset val s).mem = s.mem := by
  unfold retirePreset
  split
  · refine foldl_memAs _ (fun st _ => ?_) (State.wrN_mem ..)
    split
    · generalize hr : st.retireNow _ = r
      cases r with
      | none => rfl
      | some t => exact State.retireNow_some hr
    · rfl
  · rfl

theorem State.startQueued_mem (s : State) : (State.startQueued s).mem = s.mem := by
  show State.MemAs (State.startQueued s) s
  unfold State.startQueued
  repeat' (first | with_reducible exact State.MemAs.refl _ | with_reducible assumption | with_reducible apply State.MemAs.step (State.retire_mem ..) | with_reducible apply State.MemAs.step (State.put_mem ..) | with_reducible refine foldl_memAs _ (fun _ _ => ?_) ?_ | with_reducible apply State.MemAs.ite | fail_if_no_progress with_reducible refine State.MemAs.mk ?_ | split | dsimp only)

theorem State.endMigration_mem (s : State) (g : Migration) : (State.endMigration s g).mem = s.mem := by
  show State.MemAs (State.endMigration s g) s
  unfold State.endMigration
  repeat' (first | with_reducible exact State.MemAs.refl _ | with_reducible assumption | with_reducible apply State.MemAs.step (State.startQueued_mem ..) | with_reducible apply State.MemAs.step (State.recordSpare_mem ..) | with_reducible apply State.MemAs.step (State.showPc_mem ..) | with_reducible apply State.MemAs.step (State.raiseMask_mem ..) | with_reducible apply State.MemAs.step (State.put_mem ..) | fail_if_no_progress with_reducible refine State.MemAs.mk ?_ | split | dsimp only)

theorem State.migratePoison_mem (s : State) (base w : Nat) : (State.migratePoison s base w).mem = s.mem := by
  show State.MemAs (State.migratePoison s base w) s
  unfold State.migratePoison
  repeat' (first | with_reducible exact State.MemAs.refl _ | with_reducible assumption | with_reducible apply State.MemAs.step (State.recordError_mem ..) | with_reducible apply State.MemAs.step (State.putPoison_mem ..) | with_reducible apply State.MemAs.step (State.raiseMask_mem ..) | with_reducible apply State.MemAs.step (State.freeNext_mem ..) | with_reducible apply State.MemAs.step (State.count_mem ..) | split | dsimp only)

theorem migrationCopy_mem (bad : List Nat) (s : State) : (migrationCopy bad s).mem = s.mem := by
  show State.MemAs (migrationCopy bad s) s
  unfold migrationCopy
  repeat' (first | with_reducible exact State.MemAs.refl _ | with_reducible assumption | with_reducible apply State.MemAs.step (State.migratePoison_mem ..) | with_reducible apply State.MemAs.step (State.endMigration_mem ..) | with_reducible apply State.MemAs.step (State.put_mem ..) | with_reducible refine foldl_memAs _ (fun _ _ => ?_) ?_ | with_reducible apply State.MemAs.ite | fail_if_no_progress with_reducible refine State.MemAs.mk ?_ | split | dsimp only)

theorem State.leaseFault_mem (s : State) (writer a : Nat) (landed : Bool) (data : Nat) : (State.leaseFault s writer a landed data).mem = s.mem := by
  show State.MemAs (State.leaseFault s writer a landed data) s
  unfold State.leaseFault
  repeat' (first | with_reducible exact State.MemAs.refl _ | with_reducible assumption | with_reducible apply State.MemAs.step (State.raise_mem ..) | with_reducible apply State.MemAs.step (State.count_mem ..) | with_reducible apply State.MemAs.step (State.wrN_mem ..) | split | dsimp only)

theorem State.markChgFull_mem (s : State) (q : Nat) : (State.markChgFull s q).mem = s.mem := by
  show State.MemAs (State.markChgFull s q) s
  unfold State.markChgFull
  repeat' (first | with_reducible exact State.MemAs.refl _ | with_reducible assumption | with_reducible apply State.MemAs.step (State.put_mem ..) | with_reducible refine foldl_memAs _ (fun _ _ => ?_) ?_ | with_reducible apply State.MemAs.ite | split | dsimp only)

theorem State.dmaWrite_wf1 (s : State) (client writer a : Nat) (bs : List Byte) (data : Nat) (hm0 : State.MemOk s) : State.MemOk (State.dmaWrite s client writer a bs data).1 := by
  unfold State.dmaWrite
  repeat' (first | with_reducible assumption | with_reducible apply wf_of_mem (State.markChgFull_mem ..) | with_reducible apply wf_of_mem (State.leaseFault_mem ..) | with_reducible apply State.memWrite_wf | with_reducible refine foldl_wf _ (fun _ _ _ => ?_) _ _ ?_ | split | dsimp only)

theorem State.dmaWrite_fst {s : State} {client writer a : Nat} {bs : List Byte} {data : Nat} {tr : State} {xr : Bool} (h : State.dmaWrite s client writer a bs data = (tr, xr)) (hm0 : State.MemOk s) : State.MemOk tr := by
  have h1 := State.dmaWrite_wf1  s client writer a bs data hm0
  rw [h] at h1
  exact h1

theorem State.setStream_mem (s : State) (i : Nat) (f : Stream → Stream) : (State.setStream s i f).mem = s.mem := by
  show State.MemAs (State.setStream s i f) s
  unfold State.setStream
  repeat' (first | with_reducible exact State.MemAs.refl _ | with_reducible assumption | fail_if_no_progress with_reducible refine State.MemAs.mk ?_ | split | dsimp only)

theorem State.setBuf_mem (s : State) (i b v : Nat) : (State.setBuf s i b v).mem = s.mem := by
  show State.MemAs (State.setBuf s i b v) s
  unfold State.setBuf
  repeat' (first | with_reducible exact State.MemAs.refl _ | with_reducible assumption | with_reducible apply State.MemAs.step (State.put_mem ..) | split | dsimp only)

theorem State.freeBuf_mem (s : State) (i b : Nat) : (State.freeBuf s i b).mem = s.mem := by
  show State.MemAs (State.freeBuf s i b) s
  unfold State.freeBuf
  repeat' (first | with_reducible exact State.MemAs.refl _ | with_reducible assumption | with_reducible apply State.MemAs.step (State.setBuf_mem ..) | with_reducible apply State.MemAs.step (State.setStream_mem ..) | fail_if_no_progress with_reducible refine State.MemAs.mk ?_ | split | dsimp only)

theorem State.stkRefuse_mem (s : State) (i code : Nat) : (State.stkRefuse s i code).mem = s.mem := by
  show State.MemAs (State.stkRefuse s i code) s
  unfold State.stkRefuse
  repeat' (first | with_reducible exact State.MemAs.refl _ | with_reducible assumption | with_reducible apply State.MemAs.step (State.raise_mem ..) | with_reducible apply State.MemAs.step (State.put_mem ..) | split | dsimp only)

theorem stkAcquire_mem (i : Nat) (s : State) : (stkAcquire i s).mem = s.mem := by
  show State.MemAs (stkAcquire i s) s
  unfold stkAcquire
  repeat' (first | with_reducible exact State.MemAs.refl _ | with_reducible assumption | with_reducible apply State.MemAs.step (State.stkRefuse_mem ..) | with_reducible apply State.MemAs.step (State.setBuf_mem ..) | with_reducible apply State.MemAs.step (State.put_mem ..) | split | dsimp only)

theorem stkAbandon_mem (i b : Nat) (s : State) : (stkAbandon i b s).mem = s.mem := by
  show State.MemAs (stkAbandon i b s) s
  unfold stkAbandon
  repeat' (first | with_reducible exact State.MemAs.refl _ | with_reducible assumption | with_reducible apply State.MemAs.step (State.stkRefuse_mem ..) | with_reducible apply State.MemAs.step (State.freeBuf_mem ..) | with_reducible apply State.MemAs.step (State.put_mem ..) | with_reducible apply State.MemAs.ite | split | dsimp only)

theorem State.registerBuf_mem (s : State) (i b : Nat) : (State.registerBuf s i b).mem = s.mem := by
  show State.MemAs (State.registerBuf s i b) s
  unfold State.registerBuf
  repeat' (first | with_reducible exact State.MemAs.refl _ | with_reducible assumption | with_reducible apply State.MemAs.step (State.setStream_mem ..) | with_reducible apply State.MemAs.step (State.notePoisonRead_mem ..) | with_reducible apply State.MemAs.step (State.raise_mem ..) | with_reducible apply State.MemAs.step (State.put_mem ..) | with_reducible apply State.MemAs.ite | fail_if_no_progress with_reducible refine State.MemAs.mk ?_ | split | dsimp only)

theorem stkRegister_mem (i b : Nat) (s : State) : (stkRegister i b s).mem = s.mem := by
  show State.MemAs (stkRegister i b s) s
  unfold stkRegister
  repeat' (first | with_reducible exact State.MemAs.refl _ | with_reducible assumption | with_reducible apply State.MemAs.step (State.registerBuf_mem ..) | with_reducible apply State.MemAs.step (State.stkRefuse_mem ..) | with_reducible apply State.MemAs.ite | split | dsimp only)

theorem State.supersede_mem (s : State) (i a : Nat) : (State.supersede s i a).mem = s.mem := by
  show State.MemAs (State.supersede s i a) s
  unfold State.supersede
  repeat' (first | with_reducible exact State.MemAs.refl _ | with_reducible assumption | with_reducible apply State.MemAs.step (State.freeBuf_mem ..) | with_reducible apply State.MemAs.step (State.setStream_mem ..) | with_reducible apply State.MemAs.step (State.count_mem ..) | fail_if_no_progress with_reducible refine State.MemAs.mk ?_ | split | dsimp only)

theorem State.becomeReady_mem (s : State) (i b : Nat) : (State.becomeReady s i b).mem = s.mem := by
  show State.MemAs (State.becomeReady s i b) s
  unfold State.becomeReady
  repeat' (first | with_reducible exact State.MemAs.refl _ | with_reducible assumption | with_reducible apply State.MemAs.step (State.supersede_mem ..) | with_reducible apply State.MemAs.step (State.setBuf_mem ..) | with_reducible apply State.MemAs.step (State.setStream_mem ..) | with_reducible apply State.MemAs.step (State.put_mem ..) | with_reducible apply State.MemAs.ite | fail_if_no_progress with_reducible refine State.MemAs.mk ?_ | split | dsimp only)

theorem stkRegisterMarked_mem (i : Nat) (s : State) : (stkRegisterMarked i s).mem = s.mem := by
  show State.MemAs (stkRegisterMarked i s) s
  unfold stkRegisterMarked
  repeat' (first | with_reducible exact State.MemAs.refl _ | with_reducible assumption | with_reducible apply State.MemAs.step (State.setStream_mem ..) | with_reducible apply State.MemAs.ite | fail_if_no_progress with_reducible refine State.MemAs.mk ?_ | split | dsimp only)

theorem State.enableStream_mem (s : State) (i : Nat) : (State.enableStream s i).mem = s.mem := by
  show State.MemAs (State.enableStream s i) s
  unfold State.enableStream
  repeat' (first | with_reducible exact State.MemAs.refl _ | with_reducible assumption | with_reducible apply State.MemAs.step (State.stkRefuse_mem ..) | with_reducible apply State.MemAs.step (State.setStream_mem ..) | with_reducible apply State.MemAs.step (State.put_mem ..) | with_reducible apply State.MemAs.ite | fail_if_no_progress with_reducible refine State.MemAs.mk ?_ | split | dsimp only)

theorem State.returnBuffers_mem (s : State) (i : Nat) : (State.returnBuffers s i).mem = s.mem := by
  show State.MemAs (State.returnBuffers s i) s
  unfold State.returnBuffers
  repeat' (first | with_reducible exact State.MemAs.refl _ | with_reducible assumption | with_reducible apply State.MemAs.step (State.enableStream_mem ..) | with_reducible apply State.MemAs.step (State.freeBuf_mem ..) | with_reducible apply State.MemAs.step (State.setStream_mem ..) | with_reducible apply State.MemAs.step (State.put_mem ..) | with_reducible refine foldl_memAs _ (fun _ _ => ?_) ?_ | with_reducible apply State.MemAs.ite | split | dsimp only)

theorem State.returnStreams_mem (s : State) : (State.returnStreams s).mem = s.mem := by
  show State.MemAs (State.returnStreams s) s
  unfold State.returnStreams
  repeat' (first | with_reducible exact State.MemAs.refl _ | with_reducible assumption | with_reducible apply State.MemAs.step (State.returnBuffers_mem ..) | with_reducible refine foldl_memAs _ (fun _ _ => ?_) ?_ | with_reducible apply State.MemAs.ite | split | dsimp only)

theorem stkEnable_mem (i : Nat) (s : State) : (stkEnable i s).mem = s.mem := by
  show State.MemAs (stkEnable i s) s
  unfold stkEnable
  repeat' (first | with_reducible exact State.MemAs.refl _ | with_reducible assumption | with_reducible apply State.MemAs.step (State.enableStream_mem ..) | with_reducible apply State.MemAs.step (State.put_mem ..) | with_reducible apply State.MemAs.ite | split | dsimp only)

theorem stkDisable_mem (i : Nat) (s : State) : (stkDisable i s).mem = s.mem := by
  show State.MemAs (stkDisable i s) s
  unfold stkDisable
  repeat' (first | with_reducible exact State.MemAs.refl _ | with_reducible assumption | with_reducible apply State.MemAs.step (State.returnBuffers_mem ..) | with_reducible apply State.MemAs.step (State.setStream_mem ..) | with_reducible apply State.MemAs.step (State.put_mem ..) | with_reducible apply State.MemAs.ite | fail_if_no_progress with_reducible refine State.MemAs.mk ?_ | split | dsimp only)

theorem cpoolWrite_mem (isSize : Bool) (val : Word) (s : State) : (cpoolWrite isSize val s).mem = s.mem := by
  show State.MemAs (cpoolWrite isSize val s) s
  unfold cpoolWrite
  repeat' (first | with_reducible exact State.MemAs.refl _ | with_reducible assumption | with_reducible apply State.MemAs.step (State.raiseOnce_mem ..) | with_reducible apply State.MemAs.step (State.wrN_mem ..) | with_reducible apply State.MemAs.ite | split | dsimp only)

theorem State.badDatagram_mem (s : State) (i : Option Nat) : (State.badDatagram s i).mem = s.mem := by
  show State.MemAs (State.badDatagram s i) s
  unfold State.badDatagram
  repeat' (first | with_reducible exact State.MemAs.refl _ | with_reducible assumption | with_reducible apply State.MemAs.step (State.raiseOnce_mem ..) | with_reducible apply State.MemAs.step (State.count_mem ..) | split | dsimp only)

theorem State.dropGen_mem (s : State) (i : Nat) : (State.dropGen s i).mem = s.mem := by
  show State.MemAs (State.dropGen s i) s
  unfold State.dropGen
  repeat' (first | with_reducible exact State.MemAs.refl _ | with_reducible assumption | with_reducible apply State.MemAs.step (State.freeBuf_mem ..) | with_reducible apply State.MemAs.step (State.setStream_mem ..) | fail_if_no_progress with_reducible refine State.MemAs.mk ?_ | split | dsimp only)

theorem State.incompleteGen_mem (s : State) (i : Nat) : (State.incompleteGen s i).mem = s.mem := by
  show State.MemAs (State.incompleteGen s i) s
  unfold State.incompleteGen
  repeat' (first | with_reducible exact State.MemAs.refl _ | with_reducible assumption | with_reducible apply State.MemAs.step (State.dropGen_mem ..) | with_reducible apply State.MemAs.step (State.setStream_mem ..) | with_reducible apply State.MemAs.step (State.raise_mem ..) | with_reducible apply State.MemAs.step (State.count_mem ..) | fail_if_no_progress with_reducible refine State.MemAs.mk ?_ | split | dsimp only)

theorem State.poolExhausted_mem (s : State) (i : Nat) : (State.poolExhausted s i).mem = s.mem := by
  show State.MemAs (State.poolExhausted s i) s
  unfold State.poolExhausted
  repeat' (first | with_reducible exact State.MemAs.refl _ | with_reducible assumption | with_reducible apply State.MemAs.step (State.dropGen_mem ..) | with_reducible apply State.MemAs.step (State.raise_mem ..) | split | dsimp only)

theorem State.zeroTable_wf (s : State) (q : Nat) (hm0 : State.MemOk s) :
    State.MemOk (State.zeroTable s q) := by
  unfold State.zeroTable
  repeat' (first | with_reducible assumption | with_reducible apply State.memWrite_wf | split | dsimp only)

theorem State.initTable_wf (s : State) (q : Nat) (base : Option PlaneRec) (hm0 : State.MemOk s) :
    State.MemOk (State.initTable s q base) := by
  unfold State.initTable
  repeat' (first | with_reducible assumption | with_reducible apply State.zeroTable_wf | with_reducible apply State.memWrite_wf | split | dsimp only)

theorem State.openGen_wf (s : State) (i b gen : Nat) (dg : List Byte) (hm0 : State.MemOk s) :
    State.MemOk (State.openGen s i b gen dg) := by
  unfold State.openGen
  repeat' (first | with_reducible assumption | with_reducible apply State.initTable_wf | with_reducible apply wf_of_mem (State.poolExhausted_mem ..) | with_reducible apply wf_of_mem (State.setBuf_mem ..) | with_reducible apply wf_of_mem (State.setStream_mem ..) | with_reducible refine foldl_wf _ (fun _ _ _ => ?_) _ _ ?_ | fail_if_no_progress with_reducible refine State.MemOk.mk ?_ | split | dsimp only)

theorem State.putBitmap_wf (s : State) (a c : Nat) (v : Bool) (hm0 : State.MemOk s) :
    State.MemOk (State.putBitmap s a c v) := by
  unfold State.putBitmap
  repeat' (first | with_reducible assumption | with_reducible apply State.memWriteNat_wf | split | dsimp only)

theorem State.writeDesc_wf (s : State) (client writer i b source seq tsNs tsSec : Nat) (recs : List (Nat × Nat × Bool × Nat)) (hm0 : State.MemOk s) :
    State.MemOk (State.writeDesc s client writer i b source seq tsNs tsSec recs) := by
  unfold State.writeDesc
  repeat' (first | with_reducible assumption | with_reducible apply State.dmaWrite_wf1 | split | dsimp only)

theorem State.completeGen_wf (s : State) (i : Nat) (g : RxGen) (tsNs tsSec : Nat) (hm0 : State.MemOk s) :
    State.MemOk (State.completeGen s i g tsNs tsSec) := by
  unfold State.completeGen
  repeat' (first | with_reducible assumption | with_reducible apply State.writeDesc_wf | with_reducible apply wf_of_mem (State.registerBuf_mem ..) | with_reducible apply wf_of_mem (State.setStream_mem ..) | with_reducible apply wf_of_mem (State.put_mem ..) | with_reducible apply wf_of_mem (State.wrN_mem ..) | fail_if_no_progress with_reducible refine State.MemOk.mk ?_ | split | dsimp only)

theorem State.checkGen_wf (s : State) (i : Nat) (hm0 : State.MemOk s) :
    State.MemOk (State.checkGen s i) := by
  unfold State.checkGen
  repeat' (first | with_reducible assumption | with_reducible apply State.completeGen_wf | with_reducible apply wf_of_mem (State.incompleteGen_mem ..) | with_reducible apply State.MemOk.ite | split | dsimp only)

theorem State.holdDatagram_mem (s : State) (i : Nat) (dg : List Byte) : (State.holdDatagram s i dg).mem = s.mem := by
  show State.MemAs (State.holdDatagram s i dg) s
  unfold State.holdDatagram
  repeat' (first | with_reducible exact State.MemAs.refl _ | with_reducible assumption | with_reducible apply State.MemAs.step (State.setStream_mem ..) | fail_if_no_progress with_reducible refine State.MemAs.mk ?_ | split | dsimp only)

theorem ttBegin_wf (dg : List Byte) (s : State) (hm0 : State.MemOk s) :
    State.MemOk (ttBegin dg s) := by
  unfold ttBegin
  repeat' (first | with_reducible assumption | with_reducible apply wf_of_mem (State.holdDatagram_mem ..) | with_reducible apply State.openGen_wf | with_reducible apply wf_of_mem (State.incompleteGen_mem ..) | with_reducible apply wf_of_mem (State.badDatagram_mem ..) | with_reducible apply State.MemOk.ite | split | dsimp only)

theorem State.placeTile_wf (s : State) (i : Nat) (g : RxGen) (t : RxTile) (ok : Bool) (hm0 : State.MemOk s) :
    State.MemOk (State.placeTile s i g t ok) := by
  unfold State.placeTile
  repeat' (first | with_reducible assumption | with_reducible apply State.putBitmap_wf | with_reducible apply wf_of_mem (State.incompleteGen_mem ..) | with_reducible apply State.memWriteNat_wf | with_reducible apply State.MemOk.ite | split | dsimp only)

theorem State.finishTile_wf (s : State) (i : Nat) (g : RxGen) (t : RxTile) (hm0 : State.MemOk s) :
    State.MemOk (State.finishTile s i g t) := by
  unfold State.finishTile
  repeat' (first | with_reducible assumption | with_reducible apply State.placeTile_wf | split | dsimp only)

theorem State.placeFragment_wf (s : State) (i : Nat) (g : RxGen) (t : RxTile) (dg : List Byte) (hm0 : State.MemOk s) :
    State.MemOk (State.placeFragment s i g t dg) := by
  unfold State.placeFragment
  repeat' (first | with_reducible assumption | with_reducible apply State.finishTile_wf | with_reducible apply State.checkGen_wf | with_reducible apply wf_of_mem (State.poolExhausted_mem ..) | with_reducible apply wf_of_mem (State.setStream_mem ..) | with_reducible apply State.memWrite_wf | with_reducible apply State.MemOk.ite | fail_if_no_progress with_reducible refine State.MemOk.mk ?_ | split | dsimp only)

theorem ttTile_wf (dg : List Byte) (s : State) (hm0 : State.MemOk s) :
    State.MemOk (ttTile dg s) := by
  unfold ttTile
  repeat' (first | with_reducible assumption | with_reducible apply State.placeFragment_wf | with_reducible apply wf_of_mem (State.holdDatagram_mem ..) | with_reducible apply wf_of_mem (State.badDatagram_mem ..) | with_reducible apply State.MemOk.ite | split | dsimp only)

theorem ttRemove_wf (dg : List Byte) (s : State) (hm0 : State.MemOk s) :
    State.MemOk (ttRemove dg s) := by
  unfold ttRemove
  repeat' (first | with_reducible assumption | with_reducible apply wf_of_mem (State.holdDatagram_mem ..) | with_reducible apply State.checkGen_wf | with_reducible apply State.putBitmap_wf | with_reducible apply wf_of_mem (State.badDatagram_mem ..) | with_reducible apply wf_of_mem (State.setStream_mem ..) | with_reducible apply State.MemOk.ite | fail_if_no_progress with_reducible refine State.MemOk.mk ?_ | split | dsimp only)

theorem ttEnd_wf (dg : List Byte) (s : State) (hm0 : State.MemOk s) :
    State.MemOk (ttEnd dg s) := by
  unfold ttEnd
  repeat' (first | with_reducible assumption | with_reducible apply wf_of_mem (State.holdDatagram_mem ..) | with_reducible apply State.checkGen_wf | with_reducible apply wf_of_mem (State.badDatagram_mem ..) | with_reducible apply wf_of_mem (State.setStream_mem ..) | with_reducible apply State.MemOk.ite | fail_if_no_progress with_reducible refine State.MemOk.mk ?_ | split | dsimp only)

theorem State.tileDatagram_wf (s : State) (dg : List Byte) (hm0 : State.MemOk s) :
    State.MemOk (State.tileDatagram s dg) := by
  unfold State.tileDatagram
  repeat' (first | with_reducible assumption | with_reducible apply ttEnd_wf | with_reducible apply ttRemove_wf | with_reducible apply ttTile_wf | with_reducible apply ttBegin_wf | with_reducible apply wf_of_mem (State.badDatagram_mem ..) | split | dsimp only)

theorem remoteTimeout_mem (i : Nat) (s : State) : (remoteTimeout i s).mem = s.mem := by
  show State.MemAs (remoteTimeout i s) s
  unfold remoteTimeout
  repeat' (first | with_reducible exact State.MemAs.refl _ | with_reducible assumption | with_reducible apply State.MemAs.step (State.incompleteGen_mem ..) | with_reducible apply State.MemAs.ite | split | dsimp only)

theorem State.putMirror_wf (s : State) (client x y i code : Nat) (hm0 : State.MemOk s) :
    State.MemOk (State.putMirror s client x y i code) := by
  unfold State.putMirror
  repeat' (first | with_reducible assumption | with_reducible apply State.memWriteNat_wf | split | dsimp only)

theorem State.latchMap_mem (s : State) : (State.latchMap s).mem = s.mem := by
  show State.MemAs (State.latchMap s) s
  unfold State.latchMap
  repeat' (first | with_reducible exact State.MemAs.refl _ | with_reducible assumption | fail_if_no_progress with_reducible refine State.MemAs.mk ?_ | split | dsimp only)

theorem State.mapPoison_mem (s : State) : (State.mapPoison s).mem = s.mem := by
  show State.MemAs (State.mapPoison s) s
  unfold State.mapPoison
  repeat' (first | with_reducible exact State.MemAs.refl _ | with_reducible assumption | with_reducible apply State.MemAs.step (State.raiseOnce_mem ..) | with_reducible apply State.MemAs.step (State.count_mem ..) | split | dsimp only)

theorem State.setEngState_mem (s : State) (g st : Nat) : (State.setEngState s g st).mem = s.mem := by
  show State.MemAs (State.setEngState s g st) s
  unfold State.setEngState
  repeat' (first | with_reducible exact State.MemAs.refl _ | with_reducible assumption | with_reducible apply State.MemAs.step (State.putBit_mem ..) | with_reducible apply State.MemAs.step (State.put_mem ..) | split | dsimp only)

theorem State.setPc_mem (s : State) (g pc : Nat) : (State.setPc s g pc).mem = s.mem := by
  show State.MemAs (State.setPc s g pc) s
  unfold State.setPc
  repeat' (first | with_reducible exact State.MemAs.refl _ | with_reducible assumption | with_reducible apply State.MemAs.step (State.wrN_mem ..) | split | dsimp only)

theorem State.chanEvent_mem (s : State) (g i : Nat) : (State.chanEvent s g i).mem = s.mem := by
  show State.MemAs (State.chanEvent s g i) s
  unfold State.chanEvent
  repeat' (first | with_reducible exact State.MemAs.refl _ | with_reducible assumption | with_reducible apply State.MemAs.step (State.raiseMask_mem ..) | split | dsimp only)

theorem State.showQueues_mem (s : State) (c : Nat) : (State.showQueues s c).mem = s.mem := by
  show State.MemAs (State.showQueues s c) s
  unfold State.showQueues
  repeat' (first | with_reducible exact State.MemAs.refl _ | with_reducible assumption | with_reducible apply State.MemAs.step (State.putB_mem ..) | split | dsimp only)

theorem State.closeGate_mem (s : State) (c : Nat) : (State.closeGate s c).mem = s.mem := by
  show State.MemAs (State.closeGate s c) s
  unfold State.closeGate
  repeat' (first | with_reducible exact State.MemAs.refl _ | with_reducible assumption | with_reducible apply State.MemAs.step (State.setEngState_mem ..) | with_reducible apply State.MemAs.step (State.raise_mem ..) | with_reducible apply State.MemAs.step (State.putBit_mem ..) | with_reducible refine foldl_memAs _ (fun _ _ => ?_) ?_ | with_reducible apply State.MemAs.ite | fail_if_no_progress with_reducible refine State.MemAs.mk ?_ | split | dsimp only)

theorem State.engFree_mem (s : State) (g : Nat) : (State.engFree s g).mem = s.mem := by
  show State.MemAs (State.engFree s g) s
  unfold State.engFree
  repeat' (first | with_reducible exact State.MemAs.refl _ | with_reducible assumption | with_reducible apply State.MemAs.step (State.closeGate_mem ..) | with_reducible apply State.MemAs.step (State.setEngState_mem ..) | with_reducible apply State.MemAs.step (State.setEng_mem ..) | fail_if_no_progress with_reducible refine State.MemAs.mk ?_ | split | dsimp only)

theorem State.startItem_mem (s : State) (g : Nat) (it : Item) : (State.startItem s g it).mem = s.mem := by
  show State.MemAs (State.startItem s g it) s
  unfold State.startItem
  repeat' (first | with_reducible exact State.MemAs.refl _ | with_reducible assumption | with_reducible apply State.MemAs.step (State.setPc_mem ..) | with_reducible apply State.MemAs.step (State.setEngState_mem ..) | with_reducible apply State.MemAs.step (State.setEng_mem ..) | fail_if_no_progress with_reducible refine State.MemAs.mk ?_ | split | dsimp only)

theorem workItemDispatch_mem (c : Nat) (build : Bool) (s : State) : (workItemDispatch c build s).mem = s.mem := by
  show State.MemAs (workItemDispatch c build s) s
  unfold workItemDispatch
  repeat' (first | with_reducible exact State.MemAs.refl _ | with_reducible assumption | with_reducible apply State.MemAs.step (State.startItem_mem ..) | with_reducible apply State.MemAs.step (State.showQueues_mem ..) | with_reducible apply State.MemAs.step (State.setChan_mem ..) | fail_if_no_progress with_reducible refine State.MemAs.mk ?_ | split | dsimp only)

theorem State.dmaCarry_wf1 (s : State) (g : Nat) (x : Xfer) (hm0 : State.MemOk s) : State.MemOk (State.dmaCarry s g x).1 := by
  unfold State.dmaCarry
  repeat' (first | with_reducible assumption | with_reducible apply wf_of_mem (State.setEng_mem ..) | with_reducible apply State.dmaWrite_wf1 | with_reducible apply wf_of_mem (State.notePoisonRead_mem ..) | split | dsimp only)

theorem State.dmaCarry_fst {s : State} {g : Nat} {x : Xfer} {tr : State} {xr : Bool} (h : State.dmaCarry s g x = (tr, xr)) (hm0 : State.MemOk s) : State.MemOk tr := by
  have h1 := State.dmaCarry_wf1  s g x hm0
  rw [h] at h1
  exact h1

theorem State.dmaDrain_wf1 (s : State) (g : Nat) (hm0 : State.MemOk s) : State.MemOk (s.dmaDrain g).1 := by
  unfold State.dmaDrain
  refine wf_of_mem (State.setEng_mem ..) (foldl_fst_wf _ (fun p a hp => ?_) _ _ hm0)
  split
  · exact hp
  · exact State.dmaCarry_wf1 (hm0 := hp) ..

theorem State.dmaDrain_fst {s : State} {g : Nat} {tr : State} {xr : Option Xfer} (h : State.dmaDrain s g = (tr, xr)) (hm0 : State.MemOk s) : State.MemOk tr := by
  have h1 := State.dmaDrain_wf1  s g hm0
  rw [h] at h1
  exact h1

theorem State.faultRecord_mem (s : State) (g code pc : Nat) (addr : Option Nat) : (State.faultRecord s g code pc addr).mem = s.mem := by
  show State.MemAs (State.faultRecord s g code pc addr) s
  unfold State.faultRecord
  repeat' (first | with_reducible exact State.MemAs.refl _ | with_reducible assumption | with_reducible apply State.MemAs.step (State.freeNext_mem ..) | with_reducible apply State.MemAs.step (State.count_mem ..) | with_reducible apply State.MemAs.step (State.put_mem ..) | with_reducible apply State.MemAs.step (State.wrN_mem ..) | with_reducible apply State.MemAs.step (State.wr_mem ..) | with_reducible apply State.MemAs.ite | split | dsimp only)

theorem State.stopFaulted_wf (s : State) (g code pc : Nat) (addr : Option Nat) (hm0 : State.MemOk s) :
    State.MemOk (State.stopFaulted s g code pc addr) := by
  unfold State.stopFaulted
  repeat' (first | with_reducible assumption | with_reducible apply wf_of_mem (State.faultRecord_mem ..) | with_reducible apply State.dmaDrain_wf1 | with_reducible apply wf_of_mem (State.closeGate_mem ..) | with_reducible apply wf_of_mem (State.chanEvent_mem ..) | with_reducible apply wf_of_mem (State.setEngState_mem ..) | with_reducible apply wf_of_mem (State.setEng_mem ..) | with_reducible apply wf_of_mem (State.count_mem ..) | with_reducible apply State.MemOk.ite | fail_if_no_progress with_reducible refine State.MemOk.mk ?_ | split | dsimp only)

theorem State.abortRun_wf (s : State) (g : Nat) (hm0 : State.MemOk s) :
    State.MemOk (State.abortRun s g) := by
  unfold State.abortRun
  repeat' (first | with_reducible assumption | with_reducible apply State.stopFaulted_wf | with_reducible refine State.dmaDrain_fst ‹_› ?_ | with_reducible apply wf_of_mem (State.engFree_mem ..) | split | dsimp only)

theorem State.dropRuns_wf (s : State) (hm0 : State.MemOk s) :
    State.MemOk (State.dropRuns s) := by
  unfold State.dropRuns
  repeat' (first | with_reducible assumption | with_reducible apply State.abortRun_wf | with_reducible apply wf_of_mem (State.showQueues_mem ..) | with_reducible apply wf_of_mem (State.setChan_mem ..) | with_reducible refine foldl_wf _ (fun _ _ _ => ?_) _ _ ?_ | with_reducible apply State.MemOk.ite | fail_if_no_progress with_reducible refine State.MemOk.mk ?_ | split | dsimp only)

theorem State.endShares_mem (s : State) : (State.endShares s).mem = s.mem := by
  show State.MemAs (State.endShares s) s
  unfold State.endShares
  repeat' (first | with_reducible exact State.MemAs.refl _ | with_reducible assumption | with_reducible apply State.MemAs.step (State.put_mem ..) | with_reducible refine foldl_memAs _ (fun _ _ => ?_) ?_ | split | dsimp only)

theorem State.setPair_mem (s : State) (p : Nat) : (State.setPair s p).mem = s.mem := by
  show State.MemAs (State.setPair s p) s
  unfold State.setPair
  repeat' (first | with_reducible exact State.MemAs.refl _ | with_reducible assumption | with_reducible apply State.MemAs.step (State.put_mem ..) | split | dsimp only)

theorem State.toPartner_mem (s : State) (m : EhlMsg) : (State.toPartner s m).mem = s.mem := by
  show State.MemAs (State.toPartner s m) s
  unfold State.toPartner
  repeat' (first | with_reducible exact State.MemAs.refl _ | with_reducible assumption | with_reducible apply State.MemAs.step (State.ehlSend_mem ..) | with_reducible apply State.MemAs.ite | split | dsimp only)

theorem State.enterSecondary_mem (s : State) : (State.enterSecondary s).mem = s.mem := by
  show State.MemAs (State.enterSecondary s) s
  unfold State.enterSecondary
  repeat' (first | with_reducible exact State.MemAs.refl _ | with_reducible assumption | with_reducible apply State.MemAs.step (State.setPair_mem ..) | with_reducible apply State.MemAs.step (State.put_mem ..) | fail_if_no_progress with_reducible refine State.MemAs.mk ?_ | split | dsimp only)

theorem State.handOver_mem (s : State) : (State.handOver s).mem = s.mem := by
  show State.MemAs (State.handOver s) s
  unfold State.handOver
  repeat' (first | with_reducible exact State.MemAs.refl _ | with_reducible assumption | with_reducible apply State.MemAs.step (State.enterSecondary_mem ..) | with_reducible apply State.MemAs.step (State.ehlSend_mem ..) | with_reducible apply State.MemAs.step (State.raise_mem ..) | with_reducible apply State.MemAs.ite | split | dsimp only)

theorem State.demote_mem (s : State) : (State.demote s).mem = s.mem := by
  show State.MemAs (State.demote s) s
  unfold State.demote
  repeat' (first | with_reducible exact State.MemAs.refl _ | with_reducible assumption | with_reducible apply State.MemAs.step (State.handOver_mem ..) | with_reducible apply State.MemAs.step (State.setPair_mem ..) | with_reducible apply State.MemAs.step (State.raise_mem ..) | with_reducible apply State.MemAs.step (State.put_mem ..) | with_reducible apply State.MemAs.ite | split | dsimp only)

theorem State.desync_mem (s : State) (reason : Nat) : (State.desync s reason).mem = s.mem := by
  show State.MemAs (State.desync s reason) s
  unfold State.desync
  repeat' (first | with_reducible exact State.MemAs.refl _ | with_reducible assumption | with_reducible apply State.MemAs.step (State.raise_mem ..) | with_reducible apply State.MemAs.step (State.count_mem ..) | with_reducible apply State.MemAs.step (State.put_mem ..) | with_reducible apply State.MemAs.ite | fail_if_no_progress with_reducible refine State.MemAs.mk ?_ | split | dsimp only)

theorem State.refuseHost_mem (s : State) (off : Nat) : (State.refuseHost s off).mem = s.mem := by
  show State.MemAs (State.refuseHost s off) s
  unfold State.refuseHost
  repeat' (first | with_reducible exact State.MemAs.refl _ | with_reducible assumption | with_reducible apply State.MemAs.step (State.raise_mem ..) | with_reducible apply State.MemAs.step (State.count_mem ..) | with_reducible apply State.MemAs.step (State.wrN_mem ..) | split | dsimp only)

theorem State.setGroup_mem (s : State) (g : Nat) (f : Group → Group) : (State.setGroup s g f).mem = s.mem := by
  show State.MemAs (State.setGroup s g f) s
  unfold State.setGroup
  repeat' (first | with_reducible exact State.MemAs.refl _ | with_reducible assumption | fail_if_no_progress with_reducible refine State.MemAs.mk ?_ | split | dsimp only)

theorem State.setG_mem (s : State) (g st : Nat) : (State.setG s g st).mem = s.mem := by
  show State.MemAs (State.setG s g st) s
  unfold State.setG
  repeat' (first | with_reducible exact State.MemAs.refl _ | with_reducible assumption | with_reducible apply State.MemAs.step (State.setGroup_mem ..) | with_reducible apply State.MemAs.step (State.put_mem ..) | fail_if_no_progress with_reducible refine State.MemAs.mk ?_ | split | dsimp only)

theorem State.sendRows_mem (s : State) (g : Nat) (rows : List (Bool × List Byte)) : (State.sendRows s g rows).mem = s.mem := by
  show State.MemAs (State.sendRows s g rows) s
  unfold State.sendRows
  repeat' (first | with_reducible exact State.MemAs.refl _ | with_reducible assumption | with_reducible apply State.MemAs.step (State.setGroup_mem ..) | split | dsimp only)

theorem State.sendMark_mem (s : State) (row : List Byte) : (State.sendMark s row).mem = s.mem := by
  show State.MemAs (State.sendMark s row) s
  unfold State.sendMark
  repeat' (first | with_reducible exact State.MemAs.refl _ | with_reducible assumption | with_reducible apply State.MemAs.step (State.sendRows_mem ..) | with_reducible refine foldl_memAs _ (fun _ _ => ?_) ?_ | with_reducible apply State.MemAs.ite | fail_if_no_progress with_reducible refine State.MemAs.mk ?_ | split | dsimp only)

theorem State.driveMark_mem (s : State) (row : List Byte) : (State.driveMark s row).mem = s.mem := by
  show State.MemAs (State.driveMark s row) s
  unfold State.driveMark
  repeat' (first | with_reducible exact State.MemAs.refl _ | with_reducible assumption | with_reducible apply State.MemAs.step (State.sendMark_mem ..) | with_reducible apply State.MemAs.ite | split | dsimp only)

theorem State.standbyMark_mem (s : State) : (State.standbyMark s).mem = s.mem := by
  show State.MemAs (State.standbyMark s) s
  unfold State.standbyMark
  repeat' (first | with_reducible exact State.MemAs.refl _ | with_reducible assumption | with_reducible apply State.MemAs.step (State.sendMark_mem ..) | with_reducible apply State.MemAs.ite | split | dsimp only)

theorem State.sendPacket_mem (s : State) (g : Nat) (bytes : List Byte) : (State.sendPacket s g bytes).mem = s.mem := by
  show State.MemAs (State.sendPacket s g bytes) s
  unfold State.sendPacket
  repeat' (first | with_reducible exact State.MemAs.refl _ | with_reducible assumption | with_reducible apply State.MemAs.step (State.sendRows_mem ..) | with_reducible apply State.MemAs.step (State.setGroup_mem ..) | with_reducible apply State.MemAs.step (State.countN_mem ..) | fail_if_no_progress with_reducible refine State.MemAs.mk ?_ | split | dsimp only)

theorem State.showQueue_mem (s : State) : (State.showQueue s).mem = s.mem := by
  show State.MemAs (State.showQueue s) s
  unfold State.showQueue
  repeat' (first | with_reducible exact State.MemAs.refl _ | with_reducible assumption | with_reducible apply State.MemAs.step (State.wrN_mem ..) | split | dsimp only)

theorem State.settleQueue_mem (s : State) : (State.settleQueue s).mem = s.mem := by
  show State.MemAs (State.settleQueue s) s
  unfold State.settleQueue
  repeat' (first | with_reducible exact State.MemAs.refl _ | with_reducible assumption | with_reducible apply State.MemAs.step (State.showQueue_mem ..) | with_reducible apply State.MemAs.step (State.put_mem ..) | with_reducible refine foldl_memAs _ (fun _ _ => ?_) ?_ | with_reducible apply State.MemAs.ite | fail_if_no_progress with_reducible refine State.MemAs.mk ?_ | split | dsimp only)

theorem State.mapPieces_mem (s : State) (f : Update → Piece → Piece) : (State.mapPieces s f).mem = s.mem := by
  show State.MemAs (State.mapPieces s f) s
  unfold State.mapPieces
  repeat' (first | with_reducible exact State.MemAs.refl _ | with_reducible assumption | fail_if_no_progress with_reducible refine State.MemAs.mk ?_ | split | dsimp only)

theorem State.requestRestore_mem (s : State) (t : Nat) : (State.requestRestore s t).mem = s.mem := by
  show State.MemAs (State.requestRestore s t) s
  unfold State.requestRestore
  repeat' (first | with_reducible exact State.MemAs.refl _ | with_reducible assumption | with_reducible apply State.MemAs.step (State.put_mem ..) | fail_if_no_progress with_reducible refine State.MemAs.mk ?_ | split | dsimp only)

theorem State.carryRestore_mem (s : State) (t : Nat) : (State.carryRestore s t).mem = s.mem := by
  show State.MemAs (State.carryRestore s t) s
  unfold State.carryRestore
  repeat' (first | with_reducible exact State.MemAs.refl _ | with_reducible assumption | with_reducible apply State.MemAs.step (State.put_mem ..) | fail_if_no_progress with_reducible refine State.MemAs.mk ?_ | split | dsimp only)

theorem State.settleRestores_mem (s : State) : (State.settleRestores s).mem = s.mem := by
  show State.MemAs (State.settleRestores s) s
  unfold State.settleRestores
  repeat' (first | with_reducible exact State.MemAs.refl _ | with_reducible assumption | fail_if_no_progress with_reducible refine State.MemAs.mk ?_ | split | dsimp only)

theorem State.dropTile_mem (s : State) (t : Nat) : (State.dropTile s t).mem = s.mem := by
  show State.MemAs (State.dropTile s t) s
  unfold State.dropTile
  repeat' (first | with_reducible exact State.MemAs.refl _ | with_reducible assumption | with_reducible apply State.MemAs.step (State.mapPieces_mem ..) | with_reducible apply State.MemAs.step (State.settleQueue_mem ..) | with_reducible apply State.MemAs.step (State.setGroup_mem ..) | with_reducible apply State.MemAs.step (State.countN_mem ..) | fail_if_no_progress with_reducible refine State.MemAs.mk ?_ | split | dsimp only)

theorem State.judgeTile_mem (s : State) (t : Nat) : (State.judgeTile s t).mem = s.mem := by
  show State.MemAs (State.judgeTile s t) s
  unfold State.judgeTile
  repeat' (first | with_reducible exact State.MemAs.refl _ | with_reducible assumption | with_reducible apply State.MemAs.step (State.dropTile_mem ..) | with_reducible apply State.MemAs.step (State.requestRestore_mem ..) | with_reducible apply State.MemAs.step (State.raiseMask_mem ..) | with_reducible apply State.MemAs.step (State.putB_mem ..) | with_reducible apply State.MemAs.ite | fail_if_no_progress with_reducible refine State.MemAs.mk ?_ | split | dsimp only)

theorem State.judgeGroup_mem (s : State) (g : Nat) : (State.judgeGroup s g).mem = s.mem := by
  show State.MemAs (State.judgeGroup s g) s
  unfold State.judgeGroup
  repeat' (first | with_reducible exact State.MemAs.refl _ | with_reducible assumption | with_reducible apply State.MemAs.step (State.judgeTile_mem ..) | with_reducible refine foldl_memAs _ (fun _ _ => ?_) ?_ | split | dsimp only)

theorem splRestore_mem (val : Word) (s : State) : (splRestore val s).mem = s.mem := by
  show State.MemAs (splRestore val s) s
  unfold splRestore
  repeat' (first | with_reducible exact State.MemAs.refl _ | with_reducible assumption | with_reducible apply State.MemAs.step (State.requestRestore_mem ..) | with_reducible refine foldl_memAs _ (fun _ _ => ?_) ?_ | with_reducible apply State.MemAs.ite | split | dsimp only)

theorem State.closeWindow_mem (s : State) (g : Nat) : (State.closeWindow s g).mem = s.mem := by
  show State.MemAs (State.closeWindow s g) s
  unfold State.closeWindow
  repeat' (first | with_reducible exact State.MemAs.refl _ | with_reducible assumption | with_reducible apply State.MemAs.step (State.raise_mem ..) | with_reducible apply State.MemAs.step (State.countN_mem ..) | with_reducible apply State.MemAs.step (State.put_mem ..) | with_reducible apply State.MemAs.ite | split | dsimp only)

theorem State.closeWindows_mem (s : State) : (State.closeWindows s).mem = s.mem := by
  show State.MemAs (State.closeWindows s) s
  unfold State.closeWindows
  repeat' (first | with_reducible exact State.MemAs.refl _ | with_reducible assumption | with_reducible apply State.MemAs.step (State.closeWindow_mem ..) | with_reducible refine foldl_memAs _ (fun _ _ => ?_) ?_ | with_reducible apply State.MemAs.ite | split | dsimp only)

theorem updateStart_mem (upd : Nat) (s : State) : (updateStart upd s).mem = s.mem := by
  show State.MemAs (updateStart upd s) s
  unfold updateStart
  repeat' (first | with_reducible exact State.MemAs.refl _ | with_reducible assumption | with_reducible apply State.MemAs.step (State.closeWindows_mem ..) | with_reducible apply State.MemAs.step (State.settleQueue_mem ..) | with_reducible apply State.MemAs.step (State.countN_mem ..) | with_reducible apply State.MemAs.ite | fail_if_no_progress with_reducible refine State.MemAs.mk ?_ | split | dsimp only)

theorem State.readMirror_mem (s : State) (x y : Nat) : (State.readMirror s x y).mem = s.mem := by
  show State.MemAs (State.readMirror s x y) s
  unfold State.readMirror
  repeat' (first | with_reducible exact State.MemAs.refl _ | with_reducible assumption | with_reducible apply State.MemAs.step (State.notePoisonRead_mem ..) | with_reducible apply State.MemAs.ite | split | dsimp only)

theorem State.sendPiece_mem (s : State) (g : Nat) (u : Update) (p : Piece) : (State.sendPiece s g u p).mem = s.mem := by
  show State.MemAs (State.sendPiece s g u p) s
  unfold State.sendPiece
  repeat' (first | with_reducible exact State.MemAs.refl _ | with_reducible assumption | with_reducible apply State.MemAs.step (State.readMirror_mem ..) | with_reducible apply State.MemAs.step (State.mapPieces_mem ..) | with_reducible apply State.MemAs.step (State.sendPacket_mem ..) | with_reducible apply State.MemAs.step (State.setGroup_mem ..) | fail_if_no_progress with_reducible refine State.MemAs.mk ?_ | split | dsimp only)

theorem State.sendRefset_mem (s : State) (g t : Nat) (retry : Bool) : (State.sendRefset s g t retry).mem = s.mem := by
  show State.MemAs (State.sendRefset s g t retry) s
  unfold State.sendRefset
  repeat' (first | with_reducible exact State.MemAs.refl _ | with_reducible assumption | with_reducible apply State.MemAs.step (State.sendPacket_mem ..) | fail_if_no_progress with_reducible refine State.MemAs.mk ?_ | split | dsimp only)

theorem State.sendAgain_mem (s : State) (g : Nat) (r : Resend) : (State.sendAgain s g r).mem = s.mem := by
  show State.MemAs (State.sendAgain s g r) s
  unfold State.sendAgain
  repeat' (first | with_reducible exact State.MemAs.refl _ | with_reducible assumption | with_reducible apply State.MemAs.step (State.sendRefset_mem ..) | with_reducible apply State.MemAs.step (State.readMirror_mem ..) | with_reducible apply State.MemAs.step (State.mapPieces_mem ..) | with_reducible apply State.MemAs.step (State.sendPacket_mem ..) | with_reducible apply State.MemAs.step (State.setGroup_mem ..) | fail_if_no_progress with_reducible refine State.MemAs.mk ?_ | split | dsimp only)

theorem State.nextRefset_some {s : State} {g : Nat} {t : State} (h : State.nextRefset s g = some t) : t.mem = s.mem := by
  unfold State.nextRefset at h
  split at h
  · split at h
    · cases h; rfl
    · cases h; exact State.sendRefset_mem ..
  · cases h

theorem State.nextPacket_some {s : State} {g : Nat} {t : State} (h : State.nextPacket s g = some t) : t.mem = s.mem := by
  unfold State.nextPacket at h
  split at h
  · cases h; exact State.sendAgain_mem ..
  · split at h
    · cases h
    · split at h
      · cases h; exact State.sendPiece_mem ..
      · split at h
        · cases h; exact State.sendPiece_mem ..
        · exact State.nextRefset_some h

theorem packetSend_mem (g : Nat) (s : State) : (packetSend g s).mem = s.mem := by
  have h5 : ((if s.canSend g then s.nextPacket g else none).getD (s.sendRows g [(true, idleRow)])).mem = s.mem := by
    generalize hr : (if s.canSend g then s.nextPacket g else none) = r
    cases r with
    | none => exact State.sendRows_mem ..
    | some t =>
      split at hr
      · exact State.nextPacket_some hr
      · cases hr
  unfold packetSend
  split
  · rfl
  · split
    · exact State.setGroup_mem ..
    · split
      · exact State.sendRows_mem ..
      · exact State.sendRows_mem ..
      · exact State.sendRows_mem ..
      · split
        · exact State.sendRows_mem ..
        · exact h5
      · rfl

theorem corrSend_mem (g : Nat) (s : State) : (corrSend g s).mem = s.mem := by
  show State.MemAs (corrSend g s) s
  unfold corrSend
  repeat' (first | with_reducible exact State.MemAs.refl _ | with_reducible assumption | with_reducible apply State.MemAs.step (State.sendPacket_mem ..) | with_reducible apply State.MemAs.step (State.setGroup_mem ..) | with_reducible apply State.MemAs.step (State.count_mem ..) | with_reducible apply State.MemAs.ite | fail_if_no_progress with_reducible refine State.MemAs.mk ?_ | split | dsimp only)

theorem State.untrain_mem (s : State) (g : Nat) : (State.untrain s g).mem = s.mem := by
  show State.MemAs (State.untrain s g) s
  unfold State.untrain
  repeat' (first | with_reducible exact State.MemAs.refl _ | with_reducible assumption | with_reducible apply State.MemAs.step (State.judgeGroup_mem ..) | with_reducible apply State.MemAs.step (State.setGroup_mem ..) | with_reducible apply State.MemAs.step (State.put_mem ..) | with_reducible refine foldl_memAs _ (fun _ _ => ?_) ?_ | fail_if_no_progress with_reducible refine State.MemAs.mk ?_ | split | dsimp only)

theorem State.leaveActive_mem (s : State) (g : Nat) : (State.leaveActive s g).mem = s.mem := by
  show State.MemAs (State.leaveActive s g) s
  unfold State.leaveActive
  repeat' (first | with_reducible exact State.MemAs.refl _ | with_reducible assumption | with_reducible apply State.MemAs.step (State.handOver_mem ..) | with_reducible apply State.MemAs.step (State.raiseMask_mem ..) | with_reducible apply State.MemAs.ite | split | dsimp only)

theorem State.fastRetrain_mem (s : State) (g cause : Nat) (requested : Bool) : (State.fastRetrain s g cause requested).mem = s.mem := by
  show State.MemAs (State.fastRetrain s g cause requested) s
  unfold State.fastRetrain
  repeat' (first | with_reducible exact State.MemAs.refl _ | with_reducible assumption | with_reducible apply State.MemAs.step (State.leaveActive_mem ..) | with_reducible apply State.MemAs.step (State.untrain_mem ..) | with_reducible apply State.MemAs.step (State.setG_mem ..) | with_reducible apply State.MemAs.step (State.setGroup_mem ..) | with_reducible apply State.MemAs.step (State.put_mem ..) | with_reducible apply State.MemAs.ite | fail_if_no_progress with_reducible refine State.MemAs.mk ?_ | split | dsimp only)

theorem State.bringUp_mem (s : State) (g : Nat) : (State.bringUp s g).mem = s.mem := by
  show State.MemAs (State.bringUp s g) s
  unfold State.bringUp
  repeat' (first | with_reducible exact State.MemAs.refl _ | with_reducible assumption | with_reducible apply State.MemAs.step (State.untrain_mem ..) | with_reducible apply State.MemAs.step (State.setG_mem ..) | with_reducible apply State.MemAs.step (State.put_mem ..) | split | dsimp only)

theorem State.trainFail_mem (s : State) (g cause : Nat) : (State.trainFail s g cause).mem = s.mem := by
  show State.MemAs (State.trainFail s g cause) s
  unfold State.trainFail
  repeat' (first | with_reducible exact State.MemAs.refl _ | with_reducible assumption | with_reducible apply State.MemAs.step (State.setG_mem ..) | with_reducible apply State.MemAs.step (State.raiseMask_mem ..) | with_reducible apply State.MemAs.step (State.count_mem ..) | with_reducible apply State.MemAs.step (State.put_mem ..) | with_reducible apply State.MemAs.ite | split | dsimp only)

theorem State.tryResume_mem (s : State) : (State.tryResume s).mem = s.mem := by
  show State.MemAs (State.tryResume s) s
  unfold State.tryResume
  repeat' (first | with_reducible exact State.MemAs.refl _ | with_reducible assumption | with_reducible apply State.MemAs.step (State.sendMark_mem ..) | with_reducible apply State.MemAs.step (State.put_mem ..) | with_reducible refine foldl_memAs _ (fun _ _ => ?_) ?_ | with_reducible apply State.MemAs.ite | fail_if_no_progress with_reducible refine State.MemAs.mk ?_ | split | dsimp only)

theorem State.groupUp_mem (s : State) (g : Nat) : (State.groupUp s g).mem = s.mem := by
  show State.MemAs (State.groupUp s g) s
  unfold State.groupUp
  repeat' (first | with_reducible exact State.MemAs.refl _ | with_reducible assumption | with_reducible apply State.MemAs.step (State.tryResume_mem ..) | with_reducible apply State.MemAs.step (State.judgeGroup_mem ..) | with_reducible apply State.MemAs.step (State.requestRestore_mem ..) | with_reducible apply State.MemAs.step (State.setG_mem ..) | with_reducible apply State.MemAs.step (State.raiseMask_mem ..) | with_reducible apply State.MemAs.step (State.count_mem ..) | with_reducible refine foldl_memAs _ (fun _ _ => ?_) ?_ | split | dsimp only)

theorem splEnable_mem (s : State) : (splEnable s).mem = s.mem := by
  show State.MemAs (splEnable s) s
  unfold splEnable
  repeat' (first | with_reducible exact State.MemAs.refl _ | with_reducible assumption | with_reducible apply State.MemAs.step (State.bringUp_mem ..) | with_reducible apply State.MemAs.step (State.put_mem ..) | with_reducible refine foldl_memAs _ (fun _ _ => ?_) ?_ | with_reducible apply State.MemAs.ite | split | dsimp only)

theorem splGBringup_mem (g : Nat) (s : State) : (splGBringup g s).mem = s.mem := by
  show State.MemAs (splGBringup g s) s
  unfold splGBringup
  repeat' (first | with_reducible exact State.MemAs.refl _ | with_reducible assumption | with_reducible apply State.MemAs.step (State.bringUp_mem ..) | with_reducible apply State.MemAs.step (State.put_mem ..) | with_reducible apply State.MemAs.ite | split | dsimp only)

theorem splGRetrain_mem (g : Nat) (s : State) : (splGRetrain g s).mem = s.mem := by
  show State.MemAs (splGRetrain g s) s
  unfold splGRetrain
  repeat' (first | with_reducible exact State.MemAs.refl _ | with_reducible assumption | with_reducible apply State.MemAs.step (State.fastRetrain_mem ..) | with_reducible apply State.MemAs.ite | split | dsimp only)

theorem State.stopGroup_mem (s : State) (g : Nat) : (State.stopGroup s g).mem = s.mem := by
  show State.MemAs (State.stopGroup s g) s
  unfold State.stopGroup
  repeat' (first | with_reducible exact State.MemAs.refl _ | with_reducible assumption | with_reducible apply State.MemAs.step (State.tryResume_mem ..) | with_reducible apply State.MemAs.step (State.untrain_mem ..) | with_reducible apply State.MemAs.step (State.setG_mem ..) | with_reducible apply State.MemAs.step (State.put_mem ..) | split | dsimp only)

theorem splGDisable_mem (g : Nat) (s : State) : (splGDisable g s).mem = s.mem := by
  show State.MemAs (splGDisable g s) s
  unfold splGDisable
  repeat' (first | with_reducible exact State.MemAs.refl _ | with_reducible assumption | with_reducible apply State.MemAs.step (State.stopGroup_mem ..) | with_reducible apply State.MemAs.ite | split | dsimp only)

theorem State.stopGroups_mem (s : State) : (State.stopGroups s).mem = s.mem := by
  show State.MemAs (State.stopGroups s) s
  unfold State.stopGroups
  repeat' (first | with_reducible exact State.MemAs.refl _ | with_reducible assumption | with_reducible apply State.MemAs.step (State.stopGroup_mem ..) | with_reducible refine foldl_memAs _ (fun _ _ => ?_) ?_ | with_reducible apply State.MemAs.ite | split | dsimp only)

theorem State.showEye_mem (s : State) (g : Nat) : (State.showEye s g).mem = s.mem := by
  show State.MemAs (State.showEye s g) s
  unfold State.showEye
  repeat' (first | with_reducible exact State.MemAs.refl _ | with_reducible assumption | with_reducible apply State.MemAs.step (State.setGroup_mem ..) | with_reducible apply State.MemAs.step (State.raiseMask_mem ..) | with_reducible apply State.MemAs.step (State.wrN_mem ..) | with_reducible apply State.MemAs.ite | fail_if_no_progress with_reducible refine State.MemAs.mk ?_ | split | dsimp only)

theorem State.takeEye_mem (s : State) (g : Nat) (r : StageInfo) : (State.takeEye s g r).mem = s.mem := by
  show State.MemAs (State.takeEye s g r) s
  unfold State.takeEye
  repeat' (first | with_reducible exact State.MemAs.refl _ | with_reducible assumption | with_reducible apply State.MemAs.step (State.showEye_mem ..) | fail_if_no_progress with_reducible refine State.MemAs.mk ?_ | split | dsimp only)

theorem State.takePresets_mem (s : State) (g : Nat) (r : StageInfo) : (State.takePresets s g r).mem = s.mem := by
  show State.MemAs (State.takePresets s g r) s
  unfold State.takePresets
  repeat' (first | with_reducible exact State.MemAs.refl _ | with_reducible assumption | with_reducible apply State.MemAs.step (State.showEye_mem ..) | with_reducible apply State.MemAs.step (State.setGroup_mem ..) | fail_if_no_progress with_reducible refine State.MemAs.mk ?_ | split | dsimp only)

theorem State.startPrbs_mem (s : State) (g : Nat) : (State.startPrbs s g).mem = s.mem := by
  show State.MemAs (State.startPrbs s g) s
  unfold State.startPrbs
  repeat' (first | with_reducible exact State.MemAs.refl _ | with_reducible assumption | with_reducible apply State.MemAs.step (State.setGroup_mem ..) | fail_if_no_progress with_reducible refine State.MemAs.mk ?_ | split | dsimp only)

theorem groupStageDone_mem (g : Nat) (r : StageInfo) (s : State) : (groupStageDone g r s).mem = s.mem := by
  show State.MemAs (groupStageDone g r s) s
  unfold groupStageDone
  repeat' (first | with_reducible exact State.MemAs.refl _ | with_reducible assumption | with_reducible apply State.MemAs.step (State.startPrbs_mem ..) | with_reducible apply State.MemAs.step (State.takePresets_mem ..) | with_reducible apply State.MemAs.step (State.groupUp_mem ..) | with_reducible apply State.MemAs.step (State.setG_mem ..) | with_reducible apply State.MemAs.step (State.wrN_mem ..) | with_reducible apply State.MemAs.ite | split | dsimp only)

theorem State.fastFailed_mem (s : State) (g cause : Nat) : (State.fastFailed s g cause).mem = s.mem := by
  show State.MemAs (State.fastFailed s g cause) s
  unfold State.fastFailed
  repeat' (first | with_reducible exact State.MemAs.refl _ | with_reducible assumption | with_reducible apply State.MemAs.step (State.tryResume_mem ..) | with_reducible apply State.MemAs.step (State.trainFail_mem ..) | with_reducible apply State.MemAs.step (State.bringUp_mem ..) | split | dsimp only)

theorem groupStageTimeout_mem (g : Nat) (s : State) : (groupStageTimeout g s).mem = s.mem := by
  show State.MemAs (groupStageTimeout g s) s
  unfold groupStageTimeout
  repeat' (first | with_reducible exact State.MemAs.refl _ | with_reducible assumption | with_reducible apply State.MemAs.step (State.fastFailed_mem ..) | with_reducible apply State.MemAs.step (State.trainFail_mem ..) | with_reducible apply State.MemAs.ite | split | dsimp only)

theorem groupFailedRetry_mem (g : Nat) (s : State) : (groupFailedRetry g s).mem = s.mem := by
  show State.MemAs (groupFailedRetry g s) s
  unfold groupFailedRetry
  repeat' (first | with_reducible exact State.MemAs.refl _ | with_reducible assumption | with_reducible apply State.MemAs.step (State.bringUp_mem ..) | with_reducible apply State.MemAs.ite | split | dsimp only)

theorem fastRetrainDone_mem (g : Nat) (ok : Bool) (cause : Nat) (s : State) : (fastRetrainDone g ok cause s).mem = s.mem := by
  show State.MemAs (fastRetrainDone g ok cause s) s
  unfold fastRetrainDone
  repeat' (first | with_reducible exact State.MemAs.refl _ | with_reducible assumption | with_reducible apply State.MemAs.step (State.fastFailed_mem ..) | with_reducible apply State.MemAs.step (State.groupUp_mem ..) | with_reducible apply State.MemAs.ite | split | dsimp only)

theorem State.showProgress_mem (s : State) (t : Nat) (r : StatusRec) : (State.showProgress s t r).mem = s.mem := by
  show State.MemAs (State.showProgress s t r) s
  unfold State.showProgress
  repeat' (first | with_reducible exact State.MemAs.refl _ | with_reducible assumption | with_reducible apply State.MemAs.step (State.wrN_mem ..) | split | dsimp only)

theorem State.ackDrive_mem (s : State) (g t : Nat) (r : StatusRec) : (State.ackDrive s g t r).mem = s.mem := by
  show State.MemAs (State.ackDrive s g t r) s
  unfold State.ackDrive
  repeat' (first | with_reducible exact State.MemAs.refl _ | with_reducible assumption | with_reducible apply State.MemAs.step (State.setGroup_mem ..) | with_reducible apply State.MemAs.ite | fail_if_no_progress with_reducible refine State.MemAs.mk ?_ | split | dsimp only)

theorem srAck_mem (g : Nat) (r : StatusRec) (ok : Bool) (s : State) : (srAck g r ok s).mem = s.mem := by
  show State.MemAs (srAck g r ok s) s
  unfold srAck
  repeat' (first | with_reducible exact State.MemAs.refl _ | with_reducible assumption | with_reducible apply State.MemAs.step (State.ackDrive_mem ..) | with_reducible apply State.MemAs.step (State.showProgress_mem ..) | with_reducible apply State.MemAs.step (State.mapPieces_mem ..) | with_reducible apply State.MemAs.step (State.settleQueue_mem ..) | with_reducible apply State.MemAs.ite | fail_if_no_progress with_reducible refine State.MemAs.mk ?_ | split | dsimp only)

theorem State.noteRetry_mem (s : State) (g : Nat) : (State.noteRetry s g).mem = s.mem := by
  show State.MemAs (State.noteRetry s g) s
  unfold State.noteRetry
  repeat' (first | with_reducible exact State.MemAs.refl _ | with_reducible assumption | with_reducible apply State.MemAs.step (State.raiseMask_mem ..) | with_reducible apply State.MemAs.step (State.count_mem ..) | split | dsimp only)

theorem State.retryOrRetrain_wf (s : State) (g sends : Nat) (again : State) (hm0 : State.MemOk s) (hm1 : State.MemOk again) :
    State.MemOk (State.retryOrRetrain s g sends again) := by
  unfold State.retryOrRetrain
  repeat' (first | with_reducible assumption | with_reducible apply wf_of_mem (State.fastRetrain_mem ..) | with_reducible apply State.MemOk.ite | split | dsimp only)

theorem State.nakRect_wf (s : State) (g : Nat) (u : Update) (p : Piece) (x y : Nat) (hm0 : State.MemOk s) :
    State.MemOk (State.nakRect s g u p x y) := by
  unfold State.nakRect
  repeat' (first | with_reducible assumption | with_reducible apply State.retryOrRetrain_wf | with_reducible apply wf_of_mem (State.noteRetry_mem ..) | with_reducible apply wf_of_mem (State.mapPieces_mem ..) | with_reducible apply wf_of_mem (State.setGroup_mem ..) | fail_if_no_progress with_reducible refine State.MemOk.mk ?_ | split | dsimp only)

theorem State.corrAgain_wf (s : State) (g : Nat) (c : Corr) (hm0 : State.MemOk s) :
    State.MemOk (State.corrAgain s g c) := by
  unfold State.corrAgain
  repeat' (first | with_reducible assumption | with_reducible apply State.retryOrRetrain_wf | with_reducible apply wf_of_mem (State.noteRetry_mem ..) | with_reducible apply wf_of_mem (State.setGroup_mem ..) | fail_if_no_progress with_reducible refine State.MemOk.mk ?_ | split | dsimp only)

theorem State.refsetAgain_wf (s : State) (g : Nat) (q : Refset) (hm0 : State.MemOk s) :
    State.MemOk (State.refsetAgain s g q) := by
  unfold State.refsetAgain
  repeat' (first | with_reducible assumption | with_reducible apply State.retryOrRetrain_wf | with_reducible apply wf_of_mem (State.noteRetry_mem ..) | with_reducible apply wf_of_mem (State.setGroup_mem ..) | fail_if_no_progress with_reducible refine State.MemOk.mk ?_ | split | dsimp only)

theorem srNak_wf (g : Nat) (r : StatusRec) (ok : Bool) (s : State) (hm0 : State.MemOk s) :
    State.MemOk (srNak g r ok s) := by
  unfold srNak
  repeat' (first | with_reducible assumption | with_reducible apply State.refsetAgain_wf | with_reducible apply State.corrAgain_wf | with_reducible apply State.nakRect_wf | with_reducible apply wf_of_mem (State.count_mem ..) | split | dsimp only)

theorem State.driveAckTimeout_wf (s : State) (t : Nat) (hm0 : State.MemOk s) :
    State.MemOk (State.driveAckTimeout s t) := by
  unfold State.driveAckTimeout
  repeat' (first | with_reducible assumption | with_reducible apply State.refsetAgain_wf | with_reducible apply State.corrAgain_wf | split | dsimp only)

theorem pieceAckTimeout_wf (t : Nat) (s : State) (hm0 : State.MemOk s) :
    State.MemOk (pieceAckTimeout t s) := by
  unfold pieceAckTimeout
  repeat' (first | with_reducible assumption | with_reducible apply State.driveAckTimeout_wf | with_reducible apply State.retryOrRetrain_wf | with_reducible apply wf_of_mem (State.noteRetry_mem ..) | with_reducible apply wf_of_mem (State.mapPieces_mem ..) | fail_if_no_progress with_reducible refine State.MemOk.mk ?_ | split | dsimp only)

theorem srStat_mem (g : Nat) (r : StatusRec) (ok : Bool) (s : State) : (srStat g r ok s).mem = s.mem := by
  show State.MemAs (srStat g r ok s) s
  unfold srStat
  repeat' (first | with_reducible exact State.MemAs.refl _ | with_reducible assumption | with_reducible apply State.MemAs.step (State.showProgress_mem ..) | with_reducible apply State.MemAs.step (State.showEye_mem ..) | with_reducible apply State.MemAs.step (State.judgeTile_mem ..) | with_reducible apply State.MemAs.step (State.raiseMask_mem ..) | with_reducible apply State.MemAs.step (State.countN_mem ..) | with_reducible apply State.MemAs.step (State.putB_mem ..) | with_reducible apply State.MemAs.ite | fail_if_no_progress with_reducible refine State.MemAs.mk ?_ | split | dsimp only)

theorem State.markDone_mem (s : State) (t : Nat) (r : StatusRec) : (State.markDone s t r).mem = s.mem := by
  show State.MemAs (State.markDone s t r) s
  unfold State.markDone
  repeat' (first | with_reducible exact State.MemAs.refl _ | with_reducible assumption | with_reducible apply State.MemAs.step (State.mapPieces_mem ..) | with_reducible apply State.MemAs.step (State.settleQueue_mem ..) | with_reducible apply State.MemAs.step (State.setGroup_mem ..) | fail_if_no_progress with_reducible refine State.MemAs.mk ?_ | split | dsimp only)

theorem srSwitch_mem (g : Nat) (r : StatusRec) (ok : Bool) (s : State) : (srSwitch g r ok s).mem = s.mem := by
  show State.MemAs (srSwitch g r ok s) s
  unfold srSwitch
  repeat' (first | with_reducible exact State.MemAs.refl _ | with_reducible assumption | with_reducible apply State.MemAs.step (State.markDone_mem ..) | with_reducible apply State.MemAs.step (State.showProgress_mem ..) | with_reducible apply State.MemAs.step (State.judgeTile_mem ..) | with_reducible apply State.MemAs.step (State.requestRestore_mem ..) | with_reducible apply State.MemAs.step (State.demote_mem ..) | with_reducible apply State.MemAs.step (State.setPair_mem ..) | with_reducible apply State.MemAs.step (State.raiseMask_mem ..) | with_reducible apply State.MemAs.step (State.raise_mem ..) | with_reducible apply State.MemAs.step (State.count_mem ..) | with_reducible apply State.MemAs.step (State.putB_mem ..) | with_reducible refine foldl_memAs _ (fun _ _ => ?_) ?_ | with_reducible apply State.MemAs.ite | split | dsimp only)

theorem srCaps_mem (g : Nat) (r : StatusRec) (ok : Bool) (s : State) : (srCaps g r ok s).mem = s.mem := by
  show State.MemAs (srCaps g r ok s) s
  unfold srCaps
  repeat' (first | with_reducible exact State.MemAs.refl _ | with_reducible assumption | with_reducible apply State.MemAs.step (State.tryResume_mem ..) | with_reducible apply State.MemAs.step (State.trainFail_mem ..) | with_reducible apply State.MemAs.step (State.judgeTile_mem ..) | with_reducible apply State.MemAs.step (State.setGroup_mem ..) | with_reducible apply State.MemAs.step (State.putB_mem ..) | with_reducible apply State.MemAs.step (State.put_mem ..) | with_reducible apply State.MemAs.step (State.wrN_mem ..) | with_reducible apply State.MemAs.ite | fail_if_no_progress with_reducible refine State.MemAs.mk ?_ | split | dsimp only)

theorem srLockloss_mem (g : Nat) (r : StatusRec) (ok : Bool) (s : State) : (srLockloss g r ok s).mem = s.mem := by
  show State.MemAs (srLockloss g r ok s) s
  unfold srLockloss
  repeat' (first | with_reducible exact State.MemAs.refl _ | with_reducible assumption | with_reducible apply State.MemAs.step (State.fastRetrain_mem ..) | split | dsimp only)

theorem srSilent_mem (g : Nat) (s : State) : (srSilent g s).mem = s.mem := by
  show State.MemAs (srSilent g s) s
  unfold srSilent
  repeat' (first | with_reducible exact State.MemAs.refl _ | with_reducible assumption | with_reducible apply State.MemAs.step (State.fastRetrain_mem ..) | with_reducible apply State.MemAs.ite | split | dsimp only)

theorem holdRequest_mem (val : Word) (s : State) : (holdRequest val s).mem = s.mem := by
  show State.MemAs (holdRequest val s) s
  unfold holdRequest
  repeat' (first | with_reducible exact State.MemAs.refl _ | with_reducible assumption | with_reducible apply State.MemAs.step (State.wrN_mem ..) | fail_if_no_progress with_reducible refine State.MemAs.mk ?_ | split | dsimp only)

theorem State.askHold_mem (s : State) (by_ : Nat) : (State.askHold s by_).mem = s.mem := by
  show State.MemAs (State.askHold s by_) s
  unfold State.askHold
  repeat' (first | with_reducible exact State.MemAs.refl _ | with_reducible assumption | with_reducible apply State.MemAs.ite | fail_if_no_progress with_reducible refine State.MemAs.mk ?_ | split | dsimp only)

theorem holdEnter_mem (s : State) : (holdEnter s).mem = s.mem := by
  show State.MemAs (holdEnter s) s
  unfold holdEnter
  repeat' (first | with_reducible exact State.MemAs.refl _ | with_reducible assumption | with_reducible apply State.MemAs.step (State.judgeGroup_mem ..) | with_reducible apply State.MemAs.step (State.sendMark_mem ..) | with_reducible apply State.MemAs.step (State.setG_mem ..) | with_reducible apply State.MemAs.step (State.raise_mem ..) | with_reducible apply State.MemAs.step (State.put_mem ..) | with_reducible refine foldl_memAs _ (fun _ _ => ?_) ?_ | with_reducible apply State.MemAs.ite | fail_if_no_progress with_reducible refine State.MemAs.mk ?_ | split | dsimp only)

theorem State.leaveHold_mem (s : State) : (State.leaveHold s).mem = s.mem := by
  show State.MemAs (State.leaveHold s) s
  unfold State.leaveHold
  repeat' (first | with_reducible exact State.MemAs.refl _ | with_reducible assumption | with_reducible apply State.MemAs.step (State.tryResume_mem ..) | with_reducible apply State.MemAs.step (State.untrain_mem ..) | with_reducible apply State.MemAs.step (State.setG_mem ..) | with_reducible apply State.MemAs.step (State.setGroup_mem ..) | with_reducible apply State.MemAs.step (State.put_mem ..) | with_reducible refine foldl_memAs _ (fun _ _ => ?_) ?_ | with_reducible apply State.MemAs.ite | fail_if_no_progress with_reducible refine State.MemAs.mk ?_ | split | dsimp only)

theorem holdExit_mem (s : State) : (holdExit s).mem = s.mem := by
  show State.MemAs (holdExit s) s
  unfold holdExit
  repeat' (first | with_reducible exact State.MemAs.refl _ | with_reducible assumption | with_reducible apply State.MemAs.step (State.leaveHold_mem ..) | with_reducible apply State.MemAs.ite | split | dsimp only)

theorem splLoopbackSelect_mem (g mode : Nat) (s : State) : (splLoopbackSelect g mode s).mem = s.mem := by
  show State.MemAs (splLoopbackSelect g mode s) s
  unfold splLoopbackSelect
  repeat' (first | with_reducible exact State.MemAs.refl _ | with_reducible assumption | with_reducible apply State.MemAs.step (State.bringUp_mem ..) | with_reducible apply State.MemAs.step (State.wrN_mem ..) | with_reducible apply State.MemAs.ite | split | dsimp only)

theorem loopbackError_mem (g n : Nat) (s : State) : (loopbackError g n s).mem = s.mem := by
  show State.MemAs (loopbackError g n s) s
  unfold loopbackError
  repeat' (first | with_reducible exact State.MemAs.refl _ | with_reducible assumption | with_reducible apply State.MemAs.step (State.raiseMask_mem ..) | with_reducible apply State.MemAs.step (State.countN_mem ..) | with_reducible apply State.MemAs.ite | split | dsimp only)

end Sys2Proof.Machine
end

