-- ==== Sys2Proof/Laws/Keeps2.lean ====
section
/-!
SUPPORT. What the operations of Damage, Cal, Calrec, Camera, AuxOut, Overlay, Composer, Frame do to device memory: those that cannot store leave it as it was,
and those that can keep it in canonical form.
-/

set_option linter.unusedTactic false
set_option linter.unreachableTactic false
set_option linter.unusedVariables false

namespace Sys2Proof.Machine

theorem State.writeClassMap_wf (s : State) (hm0 : State.MemOk s) :
    State.MemOk (State.writeClassMap s) := by
  unfold State.writeClassMap
  repeat' (first | with_reducible assumption | with_reducible apply State.memWrite_wf | split | dsimp only)

theorem State.takeLight_mem (s : State) (reading : Option (Byte × Byte)) : (State.takeLight s reading).mem = s.mem := by
  show State.MemAs (State.takeLight s reading) s
  unfold State.takeLight
  repeat' (first | with_reducible exact State.MemAs.refl _ | with_reducible assumption | with_reducible apply State.MemAs.step (State.raise_mem ..) | with_reducible apply State.MemAs.step (State.wrN_mem ..) | with_reducible apply State.MemAs.ite | fail_if_no_progress with_reducible refine State.MemAs.mk ?_ | split | dsimp only)

theorem alsReading_mem (reading : Option (Byte × Byte)) (s : State) : (alsReading reading s).mem = s.mem := by
  show State.MemAs (alsReading reading s) s
  unfold alsReading
  repeat' (first | with_reducible exact State.MemAs.refl _ | with_reducible assumption | with_reducible apply State.MemAs.step (State.takeLight_mem ..) | with_reducible apply State.MemAs.step (State.put_mem ..) | with_reducible apply State.MemAs.ite | fail_if_no_progress with_reducible refine State.MemAs.mk ?_ | split | dsimp only)

theorem tileTempWrite_mem (t : Nat) (val : Word) (s : State) : (tileTempWrite t val s).mem = s.mem := by
  show State.MemAs (tileTempWrite t val s) s
  unfold tileTempWrite
  repeat' (first | with_reducible exact State.MemAs.refl _ | with_reducible assumption | with_reducible apply State.MemAs.step (State.wrN_mem ..) | with_reducible apply State.MemAs.ite | fail_if_no_progress with_reducible refine State.MemAs.mk ?_ | split | dsimp only)

theorem State.settleTemps_mem (s : State) : (State.settleTemps s).mem = s.mem := by
  show State.MemAs (State.settleTemps s) s
  unfold State.settleTemps
  repeat' (first | with_reducible exact State.MemAs.refl _ | with_reducible assumption | fail_if_no_progress with_reducible refine State.MemAs.mk ?_ | split | dsimp only)

theorem State.goStale_mem (s : State) (t : Nat) : (State.goStale s t).mem = s.mem := by
  show State.MemAs (State.goStale s t) s
  unfold State.goStale
  repeat' (first | with_reducible exact State.MemAs.refl _ | with_reducible assumption | with_reducible apply State.MemAs.step (State.raiseMask_mem ..) | with_reducible apply State.MemAs.step (State.put_mem ..) | with_reducible apply State.MemAs.ite | split | dsimp only)

theorem tileTempStale_mem (t : Nat) (s : State) : (tileTempStale t s).mem = s.mem := by
  show State.MemAs (tileTempStale t s) s
  unfold tileTempStale
  repeat' (first | with_reducible exact State.MemAs.refl _ | with_reducible assumption | with_reducible apply State.MemAs.step (State.goStale_mem ..) | with_reducible apply State.MemAs.ite | split | dsimp only)

theorem State.evalBand_mem (s : State) (t : Nat) : (State.evalBand s t).mem = s.mem := by
  show State.MemAs (State.evalBand s t) s
  unfold State.evalBand
  repeat' (first | with_reducible exact State.MemAs.refl _ | with_reducible assumption | with_reducible apply State.MemAs.step (State.goStale_mem ..) | with_reducible apply State.MemAs.step (State.raiseMask_mem ..) | with_reducible apply State.MemAs.step (State.put_mem ..) | with_reducible apply State.MemAs.ite | fail_if_no_progress with_reducible refine State.MemAs.mk ?_ | split | dsimp only)

theorem State.latchDrive_mem (s : State) (restores : List Nat) : (State.latchDrive s restores).mem = s.mem := by
  show State.MemAs (State.latchDrive s restores) s
  unfold State.latchDrive
  repeat' (first | with_reducible exact State.MemAs.refl _ | with_reducible assumption | with_reducible apply State.MemAs.step (State.evalBand_mem ..) | with_reducible apply State.MemAs.step (State.putB_mem ..) | with_reducible apply State.MemAs.step (State.put_mem ..) | with_reducible refine foldl_memAs _ (fun _ _ => ?_) ?_ | fail_if_no_progress with_reducible refine State.MemAs.mk ?_ | split | dsimp only)

theorem State.discardRefsets_mem (s : State) : (State.discardRefsets s).mem = s.mem := by
  show State.MemAs (State.discardRefsets s) s
  unfold State.discardRefsets
  repeat' (first | with_reducible exact State.MemAs.refl _ | with_reducible assumption | fail_if_no_progress with_reducible refine State.MemAs.mk ?_ | split | dsimp only)

theorem State.settleRefsets_mem (s : State) : (State.settleRefsets s).mem = s.mem := by
  show State.MemAs (State.settleRefsets s) s
  unfold State.settleRefsets
  repeat' (first | with_reducible exact State.MemAs.refl _ | with_reducible assumption | with_reducible apply State.MemAs.step (State.put_mem ..) | with_reducible refine foldl_memAs _ (fun _ _ => ?_) ?_ | fail_if_no_progress with_reducible refine State.MemAs.mk ?_ | split | dsimp only)

theorem State.setPending_mem (s : State) (l : List Nat) : (State.setPending s l).mem = s.mem := by
  show State.MemAs (State.setPending s l) s
  unfold State.setPending
  repeat' (first | with_reducible exact State.MemAs.refl _ | with_reducible assumption | with_reducible apply State.MemAs.step (State.wrN_mem ..) | fail_if_no_progress with_reducible refine State.MemAs.mk ?_ | split | dsimp only)

theorem State.repairCorr_wf (s : State) (gr : Nat) (hm0 : State.MemOk s) :
    State.MemOk (State.repairCorr s gr) := by
  unfold State.repairCorr
  repeat' (first | with_reducible assumption | with_reducible apply wf_of_mem (State.setPending_mem ..) | with_reducible apply wf_of_mem (State.mapPoison_mem ..) | with_reducible apply State.memWrite_wf | with_reducible apply wf_of_mem (State.notePoisonRead_mem ..) | with_reducible refine foldl_wf _ (fun _ _ _ => ?_) _ _ ?_ | with_reducible apply State.MemOk.ite | fail_if_no_progress with_reducible refine State.MemOk.mk ?_ | split | dsimp only)

theorem State.derive_mem (s : State) (gr : Nat) : (State.derive s gr).mem = s.mem := by
  show State.MemAs (State.derive s gr) s
  unfold State.derive
  repeat' (first | with_reducible exact State.MemAs.refl _ | with_reducible assumption | with_reducible apply State.MemAs.step (State.setPending_mem ..) | with_reducible apply State.MemAs.step (State.raiseOnce_mem ..) | with_reducible apply State.MemAs.step (State.count_mem ..) | with_reducible apply State.MemAs.ite | split | dsimp only)

theorem State.visitGranule_wf (ps : Pass) (s : State) (gr : Nat) (hm0 : State.MemOk s) :
    State.MemOk (State.visitGranule ps s gr) := by
  unfold State.visitGranule
  repeat' (first | with_reducible assumption | with_reducible apply wf_of_mem (State.derive_mem ..) | with_reducible apply State.repairCorr_wf | with_reducible apply wf_of_mem (State.mapPoison_mem ..) | with_reducible apply State.memWrite_wf | with_reducible apply wf_of_mem (State.notePoisonRead_mem ..) | with_reducible refine foldl_wf _ (fun _ _ _ => ?_) _ _ ?_ | with_reducible apply State.MemOk.ite | split | dsimp only)

theorem State.beginPass_mem (s : State) (n : Nat) : (State.beginPass s n).mem = s.mem := by
  show State.MemAs (State.beginPass s n) s
  unfold State.beginPass
  repeat' (first | with_reducible exact State.MemAs.refl _ | with_reducible assumption | with_reducible apply State.MemAs.step (State.put_mem ..) | fail_if_no_progress with_reducible refine State.MemAs.mk ?_ | split | dsimp only)

theorem passStart_mem (s : State) : (passStart s).mem = s.mem := by
  show State.MemAs (passStart s) s
  unfold passStart
  repeat' (first | with_reducible exact State.MemAs.refl _ | with_reducible assumption | with_reducible apply State.MemAs.step (State.beginPass_mem ..) | with_reducible apply State.MemAs.ite | fail_if_no_progress with_reducible refine State.MemAs.mk ?_ | split | dsimp only)

theorem State.endPass_mem (s : State) (p : Pass) : (State.endPass s p).mem = s.mem := by
  show State.MemAs (State.endPass s p) s
  unfold State.endPass
  repeat' (first | with_reducible exact State.MemAs.refl _ | with_reducible assumption | with_reducible apply State.MemAs.step (State.beginPass_mem ..) | with_reducible apply State.MemAs.step (State.raise_mem ..) | with_reducible apply State.MemAs.step (State.count_mem ..) | with_reducible apply State.MemAs.step (State.put_mem ..) | with_reducible apply State.MemAs.step (State.wrN_mem ..) | with_reducible apply State.MemAs.ite | fail_if_no_progress with_reducible refine State.MemAs.mk ?_ | split | dsimp only)

theorem passDone_wf (s : State) (hm0 : State.MemOk s) :
    State.MemOk (passDone s) := by
  unfold passDone
  repeat' (first | with_reducible assumption | with_reducible apply wf_of_mem (State.endPass_mem ..) | with_reducible apply State.visitGranule_wf | with_reducible refine foldl_wf _ (fun _ _ _ => ?_) _ _ ?_ | with_reducible apply State.MemOk.ite | fail_if_no_progress with_reducible refine State.MemOk.mk ?_ | split | dsimp only)

theorem State.queueCorr_mem (s : State) : (State.queueCorr s).mem = s.mem := by
  show State.MemAs (State.queueCorr s) s
  unfold State.queueCorr
  repeat' (first | with_reducible exact State.MemAs.refl _ | with_reducible assumption | with_reducible apply State.MemAs.step (State.setGroup_mem ..) | with_reducible refine foldl_memAs _ (fun _ _ => ?_) ?_ | with_reducible apply State.MemAs.ite | fail_if_no_progress with_reducible refine State.MemAs.mk ?_ | split | dsimp only)

theorem State.applyDelta_wf (s : State) (gr : Nat) (delta : List Byte) (hm0 : State.MemOk s) :
    State.MemOk (State.applyDelta s gr delta) := by
  unfold State.applyDelta
  repeat' (first | with_reducible assumption | with_reducible apply wf_of_mem (State.setPending_mem ..) | with_reducible apply State.memWrite_wf | with_reducible apply State.MemOk.ite | split | dsimp only)

theorem State.applyDeltas_wf (s : State) (ds : List (Nat × List Byte)) (hm0 : State.MemOk s) :
    State.MemOk (State.applyDeltas s ds) := by
  unfold State.applyDeltas
  repeat' (first | with_reducible assumption | with_reducible apply State.applyDelta_wf | with_reducible refine foldl_wf _ (fun _ _ _ => ?_) _ _ ?_ | with_reducible apply State.MemOk.ite | fail_if_no_progress with_reducible refine State.MemOk.mk ?_ | split | dsimp only)

theorem State.dropCorr_mem (s : State) (frame att : Nat) : (State.dropCorr s frame att).mem = s.mem := by
  show State.MemAs (State.dropCorr s frame att) s
  unfold State.dropCorr
  repeat' (first | with_reducible exact State.MemAs.refl _ | with_reducible assumption | with_reducible apply State.MemAs.step (State.setGroup_mem ..) | with_reducible refine foldl_memAs _ (fun _ _ => ?_) ?_ | fail_if_no_progress with_reducible refine State.MemAs.mk ?_ | split | dsimp only)

theorem corrApplyDone_mem (s : State) : (corrApplyDone s).mem = s.mem := by
  show State.MemAs (corrApplyDone s) s
  unfold corrApplyDone
  repeat' (first | with_reducible exact State.MemAs.refl _ | with_reducible assumption | with_reducible apply State.MemAs.step (State.queueCorr_mem ..) | with_reducible apply State.MemAs.ite | fail_if_no_progress with_reducible refine State.MemAs.mk ?_ | split | dsimp only)

theorem mapFreeze_mem (s : State) : (mapFreeze s).mem = s.mem := by
  show State.MemAs (mapFreeze s) s
  unfold mapFreeze
  repeat' (first | with_reducible exact State.MemAs.refl _ | with_reducible assumption | with_reducible apply State.MemAs.step (State.put_mem ..) | split | dsimp only)

theorem mapFrozen_mem (s : State) : (mapFrozen s).mem = s.mem := by
  show State.MemAs (mapFrozen s) s
  unfold mapFrozen
  repeat' (first | with_reducible exact State.MemAs.refl _ | with_reducible assumption | with_reducible apply State.MemAs.step (State.put_mem ..) | with_reducible apply State.MemAs.ite | split | dsimp only)

theorem mapUnfreeze_mem (s : State) : (mapUnfreeze s).mem = s.mem := by
  show State.MemAs (mapUnfreeze s) s
  unfold mapUnfreeze
  repeat' (first | with_reducible exact State.MemAs.refl _ | with_reducible assumption | with_reducible apply State.MemAs.step (State.put_mem ..) | split | dsimp only)

theorem mapOpen_mem (s : State) : (mapOpen s).mem = s.mem := by
  show State.MemAs (mapOpen s) s
  unfold mapOpen
  repeat' (first | with_reducible exact State.MemAs.refl _ | with_reducible assumption | with_reducible apply State.MemAs.step (State.put_mem ..) | with_reducible apply State.MemAs.ite | split | dsimp only)

theorem State.clearCorr_mem (s : State) : (State.clearCorr s).mem = s.mem := by
  show State.MemAs (State.clearCorr s) s
  unfold State.clearCorr
  repeat' (first | with_reducible exact State.MemAs.refl _ | with_reducible assumption | fail_if_no_progress with_reducible refine State.MemAs.mk ?_ | split | dsimp only)

theorem mapRestored_mem (s : State) : (mapRestored s).mem = s.mem := by
  show State.MemAs (mapRestored s) s
  unfold mapRestored
  repeat' (first | with_reducible exact State.MemAs.refl _ | with_reducible assumption | with_reducible apply State.MemAs.step (State.clearCorr_mem ..) | with_reducible apply State.MemAs.step (State.setPending_mem ..) | with_reducible apply State.MemAs.step (State.put_mem ..) | split | dsimp only)

theorem mapFresh_mem (s : State) : (mapFresh s).mem = s.mem := by
  show State.MemAs (mapFresh s) s
  unfold mapFresh
  repeat' (first | with_reducible exact State.MemAs.refl _ | with_reducible assumption | with_reducible apply State.MemAs.step (State.raise_mem ..) | with_reducible apply State.MemAs.step (State.put_mem ..) | split | dsimp only)

theorem State.beginRun_mem (s : State) : (State.beginRun s).mem = s.mem := by
  show State.MemAs (State.beginRun s) s
  unfold State.beginRun
  repeat' (first | with_reducible exact State.MemAs.refl _ | with_reducible assumption | with_reducible apply State.MemAs.step (State.put_mem ..) | fail_if_no_progress with_reducible refine State.MemAs.mk ?_ | split | dsimp only)

theorem State.triggerRun_mem (s : State) : (State.triggerRun s).mem = s.mem := by
  show State.MemAs (State.triggerRun s) s
  unfold State.triggerRun
  repeat' (first | with_reducible exact State.MemAs.refl _ | with_reducible assumption | with_reducible apply State.MemAs.step (State.beginRun_mem ..) | with_reducible apply State.MemAs.ite | fail_if_no_progress with_reducible refine State.MemAs.mk ?_ | split | dsimp only)

theorem State.waitingRun_mem (s : State) : (State.waitingRun s).mem = s.mem := by
  show State.MemAs (State.waitingRun s) s
  unfold State.waitingRun
  repeat' (first | with_reducible exact State.MemAs.refl _ | with_reducible assumption | with_reducible apply State.MemAs.step (State.beginRun_mem ..) | with_reducible apply State.MemAs.ite | split | dsimp only)

theorem calRunAll_mem (s : State) : (calRunAll s).mem = s.mem := by
  show State.MemAs (calRunAll s) s
  unfold calRunAll
  repeat' (first | with_reducible exact State.MemAs.refl _ | with_reducible assumption | with_reducible apply State.MemAs.step (State.triggerRun_mem ..) | split | dsimp only)

theorem State.rejectResult_mem (s : State) : (State.rejectResult s).mem = s.mem := by
  show State.MemAs (State.rejectResult s) s
  unfold State.rejectResult
  repeat' (first | with_reducible exact State.MemAs.refl _ | with_reducible assumption | with_reducible apply State.MemAs.step (State.raiseOnce_mem ..) | with_reducible apply State.MemAs.step (State.count_mem ..) | with_reducible apply State.MemAs.step (State.put_mem ..) | fail_if_no_progress with_reducible refine State.MemAs.mk ?_ | split | dsimp only)

theorem pcRetrain_mem (p : Nat) (s : State) : (pcRetrain p s).mem = s.mem := by
  show State.MemAs (pcRetrain p s) s
  unfold pcRetrain
  repeat' (first | with_reducible exact State.MemAs.refl _ | with_reducible assumption | with_reducible apply State.MemAs.ite | fail_if_no_progress with_reducible refine State.MemAs.mk ?_ | split | dsimp only)

theorem State.pcNext_mem (s : State) (p : Nat) : (State.pcNext s p).mem = s.mem := by
  show State.MemAs (State.pcNext s p) s
  unfold State.pcNext
  repeat' (first | with_reducible exact State.MemAs.refl _ | with_reducible assumption | with_reducible apply State.MemAs.step (State.put_mem ..) | with_reducible apply State.MemAs.ite | fail_if_no_progress with_reducible refine State.MemAs.mk ?_ | split | dsimp only)

theorem pcRetrainDone_mem (p : Nat) (ws : List Window) (s : State) : (pcRetrainDone p ws s).mem = s.mem := by
  show State.MemAs (pcRetrainDone p ws s) s
  unfold pcRetrainDone
  repeat' (first | with_reducible exact State.MemAs.refl _ | with_reducible assumption | with_reducible apply State.MemAs.step (State.pcNext_mem ..) | with_reducible apply State.MemAs.step (State.rejectResult_mem ..) | with_reducible apply State.MemAs.ite | fail_if_no_progress with_reducible refine State.MemAs.mk ?_ | split | dsimp only)

theorem groupAdaptStart_mem (g : Nat) (s : State) : (groupAdaptStart g s).mem = s.mem := by
  show State.MemAs (groupAdaptStart g s) s
  unfold groupAdaptStart
  repeat' (first | with_reducible exact State.MemAs.refl _ | with_reducible assumption | with_reducible apply State.MemAs.step (State.setGroup_mem ..) | with_reducible apply State.MemAs.ite | fail_if_no_progress with_reducible refine State.MemAs.mk ?_ | split | dsimp only)

theorem groupAdaptDone_mem (g : Nat) (r : StageInfo) (s : State) : (groupAdaptDone g r s).mem = s.mem := by
  show State.MemAs (groupAdaptDone g r s) s
  unfold groupAdaptDone
  repeat' (first | with_reducible exact State.MemAs.refl _ | with_reducible assumption | with_reducible apply State.MemAs.step (State.rejectResult_mem ..) | with_reducible apply State.MemAs.step (State.takeEye_mem ..) | with_reducible apply State.MemAs.step (State.setGroup_mem ..) | with_reducible apply State.MemAs.ite | fail_if_no_progress with_reducible refine State.MemAs.mk ?_ | split | dsimp only)

theorem State.acceptRun_mem (s : State) : (State.acceptRun s).mem = s.mem := by
  show State.MemAs (State.acceptRun s) s
  unfold State.acceptRun
  repeat' (first | with_reducible exact State.MemAs.refl _ | with_reducible assumption | with_reducible apply State.MemAs.step (State.setGroup_mem ..) | with_reducible refine foldl_memAs _ (fun _ _ => ?_) ?_ | fail_if_no_progress with_reducible refine State.MemAs.mk ?_ | split | dsimp only)

theorem calRunDone_mem (s : State) : (calRunDone s).mem = s.mem := by
  show State.MemAs (calRunDone s) s
  unfold calRunDone
  repeat' (first | with_reducible exact State.MemAs.refl _ | with_reducible assumption | with_reducible apply State.MemAs.step (State.acceptRun_mem ..) | with_reducible apply State.MemAs.step (State.beginRun_mem ..) | with_reducible apply State.MemAs.step (State.raise_mem ..) | with_reducible apply State.MemAs.step (State.putB_mem ..) | with_reducible apply State.MemAs.step (State.put_mem ..) | with_reducible apply State.MemAs.ite | split | dsimp only)

theorem State.takeCalibration_mem (s : State) : (State.takeCalibration s).mem = s.mem := by
  show State.MemAs (State.takeCalibration s) s
  unfold State.takeCalibration
  repeat' (first | with_reducible exact State.MemAs.refl _ | with_reducible assumption | with_reducible apply State.MemAs.step (State.fastRetrain_mem ..) | with_reducible apply State.MemAs.step (State.setGroup_mem ..) | with_reducible refine foldl_memAs _ (fun _ _ => ?_) ?_ | fail_if_no_progress with_reducible refine State.MemAs.mk ?_ | split | dsimp only)

theorem State.calrecFail_mem (s : State) (err : Nat) : (State.calrecFail s err).mem = s.mem := by
  show State.MemAs (State.calrecFail s err) s
  unfold State.calrecFail
  repeat' (first | with_reducible exact State.MemAs.refl _ | with_reducible assumption | with_reducible apply State.MemAs.step (State.raise_mem ..) | with_reducible apply State.MemAs.step (State.put_mem ..) | split | dsimp only)

theorem State.calrecGood_mem (s : State) : (State.calrecGood s).mem = s.mem := by
  show State.MemAs (State.calrecGood s) s
  unfold State.calrecGood
  repeat' (first | with_reducible exact State.MemAs.refl _ | with_reducible assumption | with_reducible apply State.MemAs.step (State.raise_mem ..) | with_reducible apply State.MemAs.step (State.put_mem ..) | split | dsimp only)

theorem State.calrecStart_mem (s : State) (restore : Bool) : (State.calrecStart s restore).mem = s.mem := by
  show State.MemAs (State.calrecStart s restore) s
  unfold State.calrecStart
  repeat' (first | with_reducible exact State.MemAs.refl _ | with_reducible assumption | with_reducible apply State.MemAs.step (State.calrecFail_mem ..) | with_reducible apply State.MemAs.step (State.raise_mem ..) | with_reducible apply State.MemAs.step (State.put_mem ..) | with_reducible apply State.MemAs.ite | fail_if_no_progress with_reducible refine State.MemAs.mk ?_ | split | dsimp only)

theorem calrecSave_mem (s : State) : (calrecSave s).mem = s.mem := by
  show State.MemAs (calrecSave s) s
  unfold calrecSave
  repeat' (first | with_reducible exact State.MemAs.refl _ | with_reducible assumption | with_reducible apply State.MemAs.step (State.calrecStart_mem ..) | split | dsimp only)

theorem calrecRestore_mem (s : State) : (calrecRestore s).mem = s.mem := by
  show State.MemAs (calrecRestore s) s
  unfold calrecRestore
  repeat' (first | with_reducible exact State.MemAs.refl _ | with_reducible assumption | with_reducible apply State.MemAs.step (State.calrecStart_mem ..) | split | dsimp only)

theorem State.calrecPresets_mem (s : State) (r : List Byte) : (State.calrecPresets s r).mem = s.mem := by
  show State.MemAs (State.calrecPresets s r) s
  unfold State.calrecPresets
  repeat' (first | with_reducible exact State.MemAs.refl _ | with_reducible assumption | with_reducible apply State.MemAs.step (State.rejectResult_mem ..) | with_reducible refine foldl_memAs _ (fun _ _ => ?_) ?_ | fail_if_no_progress with_reducible refine State.MemAs.mk ?_ | split | dsimp only)

theorem State.calrecTake_mem (s : State) (r : List Byte) : (State.calrecTake s r).mem = s.mem := by
  show State.MemAs (State.calrecTake s r) s
  unfold State.calrecTake
  repeat' (first | with_reducible exact State.MemAs.refl _ | with_reducible assumption | with_reducible apply State.MemAs.step (State.calrecPresets_mem ..) | with_reducible apply State.MemAs.step (State.calrecGood_mem ..) | with_reducible apply State.MemAs.step (State.raiseIf_mem ..) | with_reducible apply State.MemAs.step (State.raise_mem ..) | split | dsimp only)

theorem calrecDone_wf (s : State) (hm0 : State.MemOk s) :
    State.MemOk (calrecDone s) := by
  unfold calrecDone
  split
  · exact hm0
  · dsimp only
    split
    · split
      · exact wf_of_mem (State.calrecFail_mem ..) (wf_of_mem (State.notePoisonRead_mem ..) hm0)
      · split
        · exact wf_of_mem (State.calrecFail_mem ..) hm0
        · exact wf_of_mem (State.calrecTake_mem ..) hm0
    · exact wf_of_mem (State.calrecGood_mem ..) (State.dmaWrite_wf1 (hm0 := hm0) ..)

theorem State.commitEyes_mem (s : State) (eyes : List (Nat × Nat × Nat × Nat)) (valid seq : Nat) : (State.commitEyes s eyes valid seq).mem = s.mem := by
  show State.MemAs (State.commitEyes s eyes valid seq) s
  unfold State.commitEyes
  repeat' (first | with_reducible exact State.MemAs.refl _ | with_reducible assumption | fail_if_no_progress with_reducible refine State.MemAs.mk ?_ | split | dsimp only)

theorem State.settleEyes_mem (s : State) : (State.settleEyes s).mem = s.mem := by
  show State.MemAs (State.settleEyes s) s
  unfold State.settleEyes
  repeat' (first | with_reducible exact State.MemAs.refl _ | with_reducible assumption | with_reducible apply State.MemAs.step (State.put_mem ..) | fail_if_no_progress with_reducible refine State.MemAs.mk ?_ | split | dsimp only)

theorem eyeSetCommit_mem (val : Word) (s : State) : (eyeSetCommit val s).mem = s.mem := by
  show State.MemAs (eyeSetCommit val s) s
  unfold eyeSetCommit
  repeat' (first | with_reducible exact State.MemAs.refl _ | with_reducible assumption | with_reducible apply State.MemAs.step (State.commitEyes_mem ..) | with_reducible apply State.MemAs.step (State.wrN_mem ..) | with_reducible apply State.MemAs.ite | split | dsimp only)

theorem rigSelect_mem (val : Word) (s : State) : (rigSelect val s).mem = s.mem := by
  show State.MemAs (rigSelect val s) s
  unfold rigSelect
  repeat' (first | with_reducible exact State.MemAs.refl _ | with_reducible assumption | with_reducible apply State.MemAs.step (State.put_mem ..) | with_reducible apply State.MemAs.step (State.wrN_mem ..) | fail_if_no_progress with_reducible refine State.MemAs.mk ?_ | split | dsimp only)

theorem State.checkRig_mem (s : State) : (State.checkRig s).mem = s.mem := by
  show State.MemAs (State.checkRig s) s
  unfold State.checkRig
  repeat' (first | with_reducible exact State.MemAs.refl _ | with_reducible assumption | with_reducible apply State.MemAs.step (State.raise_mem ..) | with_reducible apply State.MemAs.step (State.putB_mem ..) | with_reducible apply State.MemAs.step (State.put_mem ..) | with_reducible apply State.MemAs.ite | fail_if_no_progress with_reducible refine State.MemAs.mk ?_ | split | dsimp only)

theorem State.pushBuild_mem (s : State) (c : Nat) (front : Bool) (it : Item) : (State.pushBuild s c front it).mem = s.mem := by
  show State.MemAs (State.pushBuild s c front it) s
  unfold State.pushBuild
  repeat' (first | with_reducible exact State.MemAs.refl _ | with_reducible assumption | with_reducible apply State.MemAs.step (State.showQueues_mem ..) | with_reducible apply State.MemAs.step (State.setChan_mem ..) | fail_if_no_progress with_reducible refine State.MemAs.mk ?_ | split | dsimp only)

theorem State.dropBuild_mem (s : State) (b : Build) : (State.dropBuild s b).mem = s.mem := by
  show State.MemAs (State.dropBuild s b) s
  unfold State.dropBuild
  repeat' (first | with_reducible exact State.MemAs.refl _ | with_reducible assumption | with_reducible apply State.MemAs.step (State.showQueues_mem ..) | with_reducible apply State.MemAs.step (State.setChan_mem ..) | with_reducible apply State.MemAs.step (State.freeBuf_mem ..) | with_reducible apply State.MemAs.step (State.put_mem ..) | with_reducible refine foldl_memAs _ (fun _ _ => ?_) ?_ | fail_if_no_progress with_reducible refine State.MemAs.mk ?_ | split | dsimp only)

theorem State.buildNoSlot_mem (s : State) (b : Build) : (State.buildNoSlot s b).mem = s.mem := by
  show State.MemAs (State.buildNoSlot s b) s
  unfold State.buildNoSlot
  repeat' (first | with_reducible exact State.MemAs.refl _ | with_reducible assumption | with_reducible apply State.MemAs.step (State.dropBuild_mem ..) | with_reducible apply State.MemAs.step (State.raise_mem ..) | with_reducible apply State.MemAs.step (State.count_mem ..) | fail_if_no_progress with_reducible refine State.MemAs.mk ?_ | split | dsimp only)

theorem State.finishBuild_wf (s : State) (b : Build) (hm0 : State.MemOk s) :
    State.MemOk (State.finishBuild s b) := by
  unfold State.finishBuild
  repeat' (first | with_reducible assumption | with_reducible apply wf_of_mem (State.dropBuild_mem ..) | with_reducible apply State.writeDesc_wf | with_reducible apply wf_of_mem (State.registerBuf_mem ..) | with_reducible apply wf_of_mem (State.put_mem ..) | with_reducible apply State.MemOk.ite | fail_if_no_progress with_reducible refine State.MemOk.mk ?_ | split | dsimp only)

theorem State.itemEnded_wf (s : State) (number : Nat) (hm0 : State.MemOk s) :
    State.MemOk (State.itemEnded s number) := by
  unfold State.itemEnded
  repeat' (first | with_reducible assumption | with_reducible apply State.finishBuild_wf | with_reducible apply State.MemOk.ite | fail_if_no_progress with_reducible refine State.MemOk.mk ?_ | split | dsimp only)

theorem State.stkMarked_mem (s : State) (i : Nat) : (State.stkMarked s i).mem = s.mem := by
  show State.MemAs (State.stkMarked s i) s
  unfold State.stkMarked
  repeat' (first | with_reducible exact State.MemAs.refl _ | with_reducible assumption | with_reducible apply State.MemAs.step (State.becomeReady_mem ..) | with_reducible apply State.MemAs.step (State.put_mem ..) | with_reducible apply State.MemAs.step (State.wrN_mem ..) | with_reducible apply State.MemAs.ite | fail_if_no_progress with_reducible refine State.MemAs.mk ?_ | split | dsimp only)

theorem State.setTileBit_wf (s : State) (client a k c : Nat) (on : Bool) (hm0 : State.MemOk s) :
    State.MemOk (State.setTileBit s client a k c on) := by
  unfold State.setTileBit
  repeat' (first | with_reducible assumption | with_reducible apply State.memWriteNat_wf | split | dsimp only)

theorem State.setTile_wf (s : State) (client a r c q : Nat) (present changed : Bool) (hm0 : State.MemOk s) :
    State.MemOk (State.setTile s client a r c q present changed) := by
  unfold State.setTile
  repeat' (first | with_reducible assumption | with_reducible apply State.setTileBit_wf | with_reducible apply State.memWriteNat_wf | split | dsimp only)

theorem State.keepCarried_wf (s : State) (b : Build) (client col row : Nat) (hm0 : State.MemOk s) :
    State.MemOk (State.keepCarried s b client col row) := by
  unfold State.keepCarried
  repeat' (first | with_reducible assumption | with_reducible apply State.setTile_wf | with_reducible refine foldl_wf _ (fun _ _ _ => ?_) _ _ ?_ | with_reducible apply State.MemOk.ite | split | dsimp only)

theorem State.tileWrite_wf1 (s : State) (client pos : Nat) (bytes : List Byte) (hm0 : State.MemOk s) : State.MemOk (State.tileWrite s client pos bytes).1 := by
  unfold State.tileWrite
  repeat' (first | with_reducible assumption | with_reducible apply State.setTile_wf | with_reducible apply wf_of_mem (State.buildNoSlot_mem ..) | with_reducible apply State.memWrite_wf | fail_if_no_progress with_reducible refine State.MemOk.mk ?_ | split | dsimp only)

theorem State.tileWrite_fst {s : State} {client pos : Nat} {bytes : List Byte} {tr : State} {xr : Option Nat} (h : State.tileWrite s client pos bytes = (tr, xr)) (hm0 : State.MemOk s) : State.MemOk tr := by
  have h1 := State.tileWrite_wf1  s client pos bytes hm0
  rw [h] at h1
  exact h1

theorem State.trackerEnded_mem (s : State) (c : Nat) : (State.trackerEnded s c).mem = s.mem := by
  show State.MemAs (State.trackerEnded s c) s
  unfold State.trackerEnded
  repeat' (first | with_reducible exact State.MemAs.refl _ | with_reducible assumption | with_reducible apply State.MemAs.step (State.commitEyes_mem ..) | with_reducible apply State.MemAs.step (State.raise_mem ..) | with_reducible apply State.MemAs.ite | split | dsimp only)

theorem State.buildItemDone_wf (s : State) (c : Nat) (it : Item) (hm0 : State.MemOk s) :
    State.MemOk (State.buildItemDone s c it) := by
  unfold State.buildItemDone
  repeat' (first | with_reducible assumption | with_reducible apply wf_of_mem (State.trackerEnded_mem ..) | with_reducible apply State.itemEnded_wf | with_reducible apply State.MemOk.ite | split | dsimp only)

theorem State.buildItemFailed_wf (s : State) (it : Item) (hm0 : State.MemOk s) :
    State.MemOk (State.buildItemFailed s it) := by
  unfold State.buildItemFailed
  repeat' (first | with_reducible assumption | with_reducible apply State.keepCarried_wf | with_reducible apply State.itemEnded_wf | with_reducible apply wf_of_mem (State.raise_mem ..) | with_reducible apply wf_of_mem (State.count_mem ..) | with_reducible apply State.MemOk.ite | split | dsimp only)

theorem State.camPicture_wf (s : State) (p : Pic) (hm0 : State.MemOk s) :
    State.MemOk (State.camPicture s p) := by
  unfold State.camPicture
  repeat' (first | with_reducible assumption | with_reducible apply wf_of_mem (State.pushBuild_mem ..) | with_reducible apply State.memWrite_wf | with_reducible apply wf_of_mem (State.raiseMask_mem ..) | with_reducible apply State.MemOk.ite | fail_if_no_progress with_reducible refine State.MemOk.mk ?_ | split | dsimp only)

theorem State.setCamState_mem (s : State) (c st : Nat) : (State.setCamState s c st).mem = s.mem := by
  show State.MemAs (State.setCamState s c st) s
  unfold State.setCamState
  repeat' (first | with_reducible exact State.MemAs.refl _ | with_reducible assumption | with_reducible apply State.MemAs.step (State.put_mem ..) | split | dsimp only)

theorem State.judgeCam_mem (s : State) (c : Nat) (selected : Bool) : (State.judgeCam s c selected).mem = s.mem := by
  show State.MemAs (State.judgeCam s c selected) s
  unfold State.judgeCam
  repeat' (first | with_reducible exact State.MemAs.refl _ | with_reducible assumption | with_reducible apply State.MemAs.step (State.setCamState_mem ..) | with_reducible apply State.MemAs.step (State.raiseMask_mem ..) | with_reducible apply State.MemAs.step (State.count_mem ..) | with_reducible apply State.MemAs.ite | fail_if_no_progress with_reducible refine State.MemAs.mk ?_ | split | dsimp only)

theorem State.camLate_mem (s : State) (c : Nat) : (State.camLate s c).mem = s.mem := by
  show State.MemAs (State.camLate s c) s
  unfold State.camLate
  repeat' (first | with_reducible exact State.MemAs.refl _ | with_reducible assumption | with_reducible apply State.MemAs.step (State.setCamState_mem ..) | with_reducible apply State.MemAs.step (State.raiseMask_mem ..) | fail_if_no_progress with_reducible refine State.MemAs.mk ?_ | split | dsimp only)

theorem State.camOff_mem (s : State) (c : Nat) : (State.camOff s c).mem = s.mem := by
  show State.MemAs (State.camOff s c) s
  unfold State.camOff
  repeat' (first | with_reducible exact State.MemAs.refl _ | with_reducible assumption | with_reducible apply State.MemAs.step (State.setCamState_mem ..) | fail_if_no_progress with_reducible refine State.MemAs.mk ?_ | split | dsimp only)

theorem State.bindCams_mem (s : State) : (State.bindCams s).mem = s.mem := by
  show State.MemAs (State.bindCams s) s
  unfold State.bindCams
  repeat' (first | with_reducible exact State.MemAs.refl _ | with_reducible assumption | with_reducible apply State.MemAs.step (State.camOff_mem ..) | with_reducible apply State.MemAs.step (State.camLate_mem ..) | with_reducible refine foldl_memAs _ (fun _ _ => ?_) ?_ | with_reducible apply State.MemAs.ite | split | dsimp only)

theorem State.skipBuild_mem (s : State) (reason : Nat) : (State.skipBuild s reason).mem = s.mem := by
  show State.MemAs (State.skipBuild s reason) s
  unfold State.skipBuild
  repeat' (first | with_reducible exact State.MemAs.refl _ | with_reducible assumption | with_reducible apply State.MemAs.step (State.raise_mem ..) | with_reducible apply State.MemAs.step (State.count_mem ..) | with_reducible apply State.MemAs.step (State.put_mem ..) | split | dsimp only)

theorem State.startBuild_wf (s : State) (target : Int) (restart : Bool) (sel : List (Nat × CamRec × Pic)) (hm0 : State.MemOk s) :
    State.MemOk (State.startBuild s target restart sel) := by
  unfold State.startBuild
  repeat' (first | with_reducible assumption | with_reducible apply wf_of_mem (State.skipBuild_mem ..) | with_reducible apply wf_of_mem (State.toPartner_mem ..) | with_reducible apply wf_of_mem (State.showQueues_mem ..) | with_reducible apply wf_of_mem (State.setChan_mem ..) | with_reducible apply State.initTable_wf | with_reducible apply wf_of_mem (State.setBuf_mem ..) | with_reducible apply State.memWrite_wf | with_reducible apply wf_of_mem (State.put_mem ..) | with_reducible apply wf_of_mem (State.wrN_mem ..) | with_reducible refine foldl_wf _ (fun _ _ _ => ?_) _ _ ?_ | fail_if_no_progress with_reducible refine State.MemOk.mk ?_ | split | dsimp only)

theorem State.settleCams_mem (s : State) : (State.settleCams s).mem = s.mem := by
  show State.MemAs (State.settleCams s) s
  unfold State.settleCams
  repeat' (first | with_reducible exact State.MemAs.refl _ | with_reducible assumption | fail_if_no_progress with_reducible refine State.MemAs.mk ?_ | split | dsimp only)

theorem State.mirroredBuild_wf (s : State) (m : BuildMsg) (t : Nat) (hm0 : State.MemOk s) :
    State.MemOk (State.mirroredBuild s m t) := by
  unfold State.mirroredBuild
  repeat' (first | with_reducible assumption | with_reducible apply State.startBuild_wf | with_reducible apply wf_of_mem (State.skipBuild_mem ..) | with_reducible apply wf_of_mem (State.bindCams_mem ..) | with_reducible apply wf_of_mem (State.judgeCam_mem ..) | with_reducible apply wf_of_mem (State.desync_mem ..) | with_reducible apply wf_of_mem (State.put_mem ..) | with_reducible apply wf_of_mem (State.wrN_mem ..) | with_reducible refine foldl_wf _ (fun _ _ _ => ?_) _ _ ?_ | with_reducible apply State.MemOk.ite | fail_if_no_progress with_reducible refine State.MemOk.mk ?_ | split | dsimp only)

theorem State.judgeCams_mem (s : State) (target : Int) : (State.judgeCams s target).mem = s.mem := by
  show State.MemAs (State.judgeCams s target) s
  unfold State.judgeCams
  repeat' (first | with_reducible exact State.MemAs.refl _ | with_reducible assumption | with_reducible apply State.MemAs.step (State.judgeCam_mem ..) | with_reducible refine foldl_memAs _ (fun _ _ => ?_) ?_ | split | dsimp only)

theorem State.buildAt_wf (s : State) (t : Nat) (hm0 : State.MemOk s) :
    State.MemOk (State.buildAt s t) := by
  unfold State.buildAt
  repeat' (first | with_reducible assumption | with_reducible apply wf_of_mem (State.judgeCams_mem ..) | with_reducible apply State.startBuild_wf | with_reducible apply wf_of_mem (State.skipBuild_mem ..) | with_reducible apply wf_of_mem (State.bindCams_mem ..) | with_reducible apply wf_of_mem (State.checkRig_mem ..) | fail_if_no_progress with_reducible refine State.MemOk.mk ?_ | split | dsimp only)

theorem buildInstant_wf (s : State) (hm0 : State.MemOk s) :
    State.MemOk (buildInstant s) := by
  unfold buildInstant
  repeat' (first | with_reducible assumption | with_reducible apply State.buildAt_wf | with_reducible apply State.MemOk.ite | split | dsimp only)

theorem camEnable_mem (s : State) : (camEnable s).mem = s.mem := by
  show State.MemAs (camEnable s) s
  unfold camEnable
  repeat' (first | with_reducible exact State.MemAs.refl _ | with_reducible assumption | with_reducible apply State.MemAs.step (State.camLate_mem ..) | with_reducible apply State.MemAs.step (State.put_mem ..) | with_reducible refine foldl_memAs _ (fun _ _ => ?_) ?_ | with_reducible apply State.MemAs.ite | split | dsimp only)

theorem camRestart_mem (s : State) : (camRestart s).mem = s.mem := by
  show State.MemAs (camRestart s) s
  unfold camRestart
  repeat' (first | with_reducible exact State.MemAs.refl _ | with_reducible assumption | fail_if_no_progress with_reducible refine State.MemAs.mk ?_ | split | dsimp only)

theorem State.returnBuild_wf (s : State) (g : Nat) (hm0 : State.MemOk s) :
    State.MemOk (State.returnBuild s g) := by
  unfold State.returnBuild
  repeat' (first | with_reducible assumption | with_reducible apply State.dmaDrain_wf1 | with_reducible apply wf_of_mem (State.showQueues_mem ..) | with_reducible apply wf_of_mem (State.setChan_mem ..) | with_reducible apply wf_of_mem (State.setEng_mem ..) | with_reducible apply State.MemOk.ite | fail_if_no_progress with_reducible refine State.MemOk.mk ?_ | split | dsimp only)

theorem State.offlineChannel_wf (s : State) (c : Nat) (hm0 : State.MemOk s) :
    State.MemOk (State.offlineChannel s c) := by
  unfold State.offlineChannel
  repeat' (first | with_reducible assumption | with_reducible apply State.returnBuild_wf | with_reducible apply wf_of_mem (State.setEngState_mem ..) | with_reducible refine foldl_wf _ (fun _ _ _ => ?_) _ _ ?_ | split | dsimp only)

theorem State.moveBuilds_mem (s : State) (c : Nat) : (State.moveBuilds s c).mem = s.mem := by
  show State.MemAs (State.moveBuilds s c) s
  unfold State.moveBuilds
  repeat' (first | with_reducible exact State.MemAs.refl _ | with_reducible assumption | with_reducible apply State.MemAs.step (State.dropBuild_mem ..) | with_reducible apply State.MemAs.step (State.pushBuild_mem ..) | with_reducible apply State.MemAs.step (State.showQueues_mem ..) | with_reducible apply State.MemAs.step (State.setChan_mem ..) | with_reducible refine foldl_memAs _ (fun _ _ => ?_) ?_ | with_reducible apply State.MemAs.ite | fail_if_no_progress with_reducible refine State.MemAs.mk ?_ | split | dsimp only)

theorem State.cloneSkip_mem (s : State) (n : Nat) : (State.cloneSkip s n).mem = s.mem := by
  show State.MemAs (State.cloneSkip s n) s
  unfold State.cloneSkip
  repeat' (first | with_reducible exact State.MemAs.refl _ | with_reducible assumption | with_reducible apply State.MemAs.step (State.raise_mem ..) | with_reducible apply State.MemAs.step (State.countN_mem ..) | with_reducible apply State.MemAs.ite | split | dsimp only)

theorem State.cloneStart_mem (s : State) (wb : Option Nat) : (State.cloneStart s wb).mem = s.mem := by
  show State.MemAs (State.cloneStart s wb) s
  unfold State.cloneStart
  repeat' (first | with_reducible exact State.MemAs.refl _ | with_reducible assumption | with_reducible apply State.MemAs.step (State.cloneSkip_mem ..) | fail_if_no_progress with_reducible refine State.MemAs.mk ?_ | split | dsimp only)

theorem State.copyHogel_wf (s : State) (v src dst x y : Nat) (hm0 : State.MemOk s) :
    State.MemOk (State.copyHogel s v src dst x y) := by
  unfold State.copyHogel
  repeat' (first | with_reducible assumption | with_reducible apply State.memWrite_wf | split | dsimp only)

theorem cloneCopyDone_wf (v : Nat) (s : State) (hm0 : State.MemOk s) :
    State.MemOk (cloneCopyDone v s) := by
  unfold cloneCopyDone
  repeat' (first | with_reducible assumption | with_reducible apply State.copyHogel_wf | with_reducible refine foldl_wf _ (fun _ _ _ => ?_) _ _ ?_ | with_reducible apply State.MemOk.ite | fail_if_no_progress with_reducible refine State.MemOk.mk ?_ | split | dsimp only)

theorem State.captureRay_wf (s : State) (x y i code : Nat) (hm0 : State.MemOk s) :
    State.MemOk (State.captureRay s x y i code) := by
  unfold State.captureRay
  repeat' (first | with_reducible assumption | with_reducible apply State.memWrite_wf | with_reducible refine foldl_wf _ (fun _ _ _ => ?_) _ _ ?_ | with_reducible apply State.MemOk.ite | split | dsimp only)

theorem State.cloneComplete_mem (s : State) (frame time : Nat) : (State.cloneComplete s frame time).mem = s.mem := by
  show State.MemAs (State.cloneComplete s frame time) s
  unfold State.cloneComplete
  repeat' (first | with_reducible exact State.MemAs.refl _ | with_reducible assumption | with_reducible apply State.MemAs.step (State.cloneSkip_mem ..) | fail_if_no_progress with_reducible refine State.MemAs.mk ?_ | split | dsimp only)

theorem State.cloneAbort_mem (s : State) : (State.cloneAbort s).mem = s.mem := by
  show State.MemAs (State.cloneAbort s) s
  unfold State.cloneAbort
  repeat' (first | with_reducible exact State.MemAs.refl _ | with_reducible assumption | fail_if_no_progress with_reducible refine State.MemAs.mk ?_ | split | dsimp only)

theorem auxTrain_mem (s : State) : (auxTrain s).mem = s.mem := by
  show State.MemAs (auxTrain s) s
  unfold auxTrain
  repeat' (first | with_reducible exact State.MemAs.refl _ | with_reducible assumption | with_reducible apply State.MemAs.step (State.put_mem ..) | fail_if_no_progress with_reducible refine State.MemAs.mk ?_ | split | dsimp only)

theorem auxTrainDone_mem (four two one : List Bool) (s : State) : (auxTrainDone four two one s).mem = s.mem := by
  show State.MemAs (auxTrainDone four two one s) s
  unfold auxTrainDone
  repeat' (first | with_reducible exact State.MemAs.refl _ | with_reducible assumption | with_reducible apply State.MemAs.step (State.raise_mem ..) | with_reducible apply State.MemAs.step (State.put_mem ..) | with_reducible apply State.MemAs.ite | fail_if_no_progress with_reducible refine State.MemAs.mk ?_ | split | dsimp only)

theorem dpHpd_mem (level : Bool) (s : State) : (dpHpd level s).mem = s.mem := by
  show State.MemAs (dpHpd level s) s
  unfold dpHpd
  repeat' (first | with_reducible exact State.MemAs.refl _ | with_reducible assumption | with_reducible apply State.MemAs.step (State.raise_mem ..) | with_reducible apply State.MemAs.step (State.putB_mem ..) | with_reducible apply State.MemAs.step (State.put_mem ..) | with_reducible apply State.MemAs.ite | fail_if_no_progress with_reducible refine State.MemAs.mk ?_ | split | dsimp only)

theorem auxChTransaction_mem (val : Word) (s : State) : (auxChTransaction val s).mem = s.mem := by
  show State.MemAs (auxChTransaction val s) s
  unfold auxChTransaction
  repeat' (first | with_reducible exact State.MemAs.refl _ | with_reducible assumption | with_reducible apply State.MemAs.step (State.put_mem ..) | with_reducible apply State.MemAs.ite | fail_if_no_progress with_reducible refine State.MemAs.mk ?_ | split | dsimp only)

theorem dpChDone_mem (ok : Bool) (reply : Word) (data : List Word) (s : State) : (dpChDone ok reply data s).mem = s.mem := by
  show State.MemAs (dpChDone ok reply data s) s
  unfold dpChDone
  repeat' (first | with_reducible exact State.MemAs.refl _ | with_reducible assumption | with_reducible apply State.MemAs.step (State.raise_mem ..) | with_reducible apply State.MemAs.step (State.put_mem ..) | with_reducible apply State.MemAs.step (State.wr_mem ..) | with_reducible refine foldl_memAs _ (fun _ _ => ?_) ?_ | with_reducible apply State.MemAs.ite | fail_if_no_progress with_reducible refine State.MemAs.mk ?_ | split | dsimp only)

theorem dpFrameStart_mem (s : State) : (dpFrameStart s).mem = s.mem := by
  show State.MemAs (dpFrameStart s) s
  unfold dpFrameStart
  repeat' (first | with_reducible exact State.MemAs.refl _ | with_reducible assumption | with_reducible apply State.MemAs.step (State.put_mem ..) | with_reducible apply State.MemAs.step (State.wrN_mem ..) | with_reducible apply State.MemAs.ite | fail_if_no_progress with_reducible refine State.MemAs.mk ?_ | split | dsimp only)

theorem dpUnderrun_mem (y x : Nat) (s : State) : (dpUnderrun y x s).mem = s.mem := by
  show State.MemAs (dpUnderrun y x s) s
  unfold dpUnderrun
  repeat' (first | with_reducible exact State.MemAs.refl _ | with_reducible assumption | with_reducible apply State.MemAs.step (State.raise_mem ..) | with_reducible apply State.MemAs.step (State.count_mem ..) | with_reducible apply State.MemAs.ite | fail_if_no_progress with_reducible refine State.MemAs.mk ?_ | split | dsimp only)

theorem State.setField_mem (s : State) (f st : Nat) (raw : Int) : (State.setField s f st raw).mem = s.mem := by
  show State.MemAs (State.setField s f st raw) s
  unfold State.setField
  repeat' (first | with_reducible exact State.MemAs.refl _ | with_reducible assumption | with_reducible apply State.MemAs.step (State.raiseMask_mem ..) | with_reducible apply State.MemAs.step (State.put_mem ..) | with_reducible apply State.MemAs.ite | fail_if_no_progress with_reducible refine State.MemAs.mk ?_ | split | dsimp only)

theorem State.evalField_mem (now : Nat) (s : State) (f : Nat) : (State.evalField now s f).mem = s.mem := by
  show State.MemAs (State.evalField now s f) s
  unfold State.evalField
  repeat' (first | with_reducible exact State.MemAs.refl _ | with_reducible assumption | with_reducible apply State.MemAs.step (State.setField_mem ..) | split | dsimp only)

theorem State.showAges_mem (s : State) : (State.showAges s).mem = s.mem := by
  show State.MemAs (State.showAges s) s
  unfold State.showAges
  repeat' (first | with_reducible exact State.MemAs.refl _ | with_reducible assumption | with_reducible apply State.MemAs.step (State.wrN_mem ..) | with_reducible refine foldl_memAs _ (fun _ _ => ?_) ?_ | split | dsimp only)

theorem State.evalOverlay_mem (s : State) : (State.evalOverlay s).mem = s.mem := by
  show State.MemAs (State.evalOverlay s) s
  unfold State.evalOverlay
  repeat' (first | with_reducible exact State.MemAs.refl _ | with_reducible assumption | with_reducible apply State.MemAs.step (State.showAges_mem ..) | with_reducible apply State.MemAs.step (State.evalField_mem ..) | with_reducible refine foldl_memAs _ (fun _ _ => ?_) ?_ | fail_if_no_progress with_reducible refine State.MemAs.mk ?_ | split | dsimp only)

theorem overlayFieldStale_mem (f : Nat) (s : State) : (overlayFieldStale f s).mem = s.mem := by
  show State.MemAs (overlayFieldStale f s) s
  unfold overlayFieldStale
  repeat' (first | with_reducible exact State.MemAs.refl _ | with_reducible assumption | with_reducible apply State.MemAs.step (State.setField_mem ..) | with_reducible apply State.MemAs.ite | split | dsimp only)

theorem State.telemetry_mem (s : State) (t : Nat) (payload : List Byte) (failed repeated : Bool) (arrival : Nat) : (State.telemetry s t payload failed repeated arrival).mem = s.mem := by
  show State.MemAs (State.telemetry s t payload failed repeated arrival) s
  unfold State.telemetry
  repeat' (first | with_reducible exact State.MemAs.refl _ | with_reducible assumption | with_reducible apply State.MemAs.step (State.raiseOnce_mem ..) | with_reducible apply State.MemAs.step (State.count_mem ..) | with_reducible apply State.MemAs.ite | fail_if_no_progress with_reducible refine State.MemAs.mk ?_ | split | dsimp only)

theorem State.renderFrame_wf1 (s : State) (vals : List (Nat × Int)) (hm0 : State.MemOk s) : State.MemOk (State.renderFrame s vals).1 := by
  unfold State.renderFrame
  repeat' (first | with_reducible assumption | with_reducible apply State.memWrite_wf | with_reducible apply wf_of_mem (State.countN_mem ..) | with_reducible apply wf_of_mem (State.put_mem ..) | with_reducible refine foldl_wf _ (fun _ _ _ => ?_) _ _ ?_ | fail_if_no_progress with_reducible refine State.MemOk.mk ?_ | split | dsimp only)

theorem State.renderFrame_fst {s : State} {vals : List (Nat × Int)} {tr : State} {xr : Option DirPlane × List (Nat × Nat × Int)} (h : State.renderFrame s vals = (tr, xr)) (hm0 : State.MemOk s) : State.MemOk tr := by
  have h1 := State.renderFrame_wf1  s vals hm0
  rw [h] at h1
  exact h1

theorem State.showPool_mem (s : State) : (State.showPool s).mem = s.mem := by
  show State.MemAs (State.showPool s) s
  unfold State.showPool
  repeat' (first | with_reducible exact State.MemAs.refl _ | with_reducible assumption | with_reducible apply State.MemAs.step (State.wrN_mem ..) | split | dsimp only)

theorem State.rasterTile_wf1 (s : State) (l : LayerPlane) (used : List Nat) (t : Nat × Nat) (hm0 : State.MemOk s) : State.MemOk (State.rasterTile s l used t).1 := by
  unfold State.rasterTile
  repeat' (first | with_reducible assumption | with_reducible apply State.memWrite_wf | with_reducible apply wf_of_mem (State.notePoisonRead_mem ..) | split | dsimp only)

theorem State.rasterTile_fst {s : State} {l : LayerPlane} {used : List Nat} {t : Nat × Nat} {tr : State} {xr : (Nat ⊕ Nat)} (h : State.rasterTile s l used t = (tr, xr)) (hm0 : State.MemOk s) : State.MemOk tr := by
  have h1 := State.rasterTile_wf1  s l used t hm0
  rw [h] at h1
  exact h1

theorem State.rasterTiles_wf1 (s : State) (l : LayerPlane) (used : List Nat) (x0 : List (Nat × Nat)) (x1 : List (Nat × Nat × Nat))
    (hm0 : State.MemOk s) : State.MemOk (s.rasterTiles l used x0 x1).1 := by
  induction x0 generalizing s x1 with
  | nil =>
    unfold State.rasterTiles
    exact hm0
  | cons t rest ih =>
    unfold State.rasterTiles
    dsimp only
    split
    · exact State.rasterTile_wf1 (hm0 := hm0) ..
    · exact ih _ _ (State.rasterTile_wf1 (hm0 := hm0) ..)

theorem State.rasterTiles_fst {s : State} {l : LayerPlane} {used : List Nat} {x0 : List (Nat × Nat)} {x1 : List (Nat × Nat × Nat)} {tr : State} {xr : List (Nat × Nat × Nat) × Option Nat} (h : State.rasterTiles s l used x0 x1 = (tr, xr)) (hm0 : State.MemOk s) : State.MemOk tr := by
  have h1 := State.rasterTiles_wf1  s l used x0 x1 hm0
  rw [h] at h1
  exact h1

theorem State.rasterLayer_wf1 (s : State) (n : Nat) (l : LayerPlane) (used : List Nat) (base : Option (List (Nat × Nat × Nat))) (hm0 : State.MemOk s) : State.MemOk (State.rasterLayer s n l used base).1 := by
  unfold State.rasterLayer
  repeat' (first | with_reducible assumption | with_reducible apply State.rasterTiles_wf1 | with_reducible apply wf_of_mem (State.notePoisonRead_mem ..) | fail_if_no_progress with_reducible refine State.MemOk.mk ?_ | split | dsimp only)

theorem State.rasterLayer_fst {s : State} {n : Nat} {l : LayerPlane} {used : List Nat} {base : Option (List (Nat × Nat × Nat))} {tr : State} {xr : LayerPlane × Option (Nat × Nat)} (h : State.rasterLayer s n l used base = (tr, xr)) (hm0 : State.MemOk s) : State.MemOk tr := by
  have h1 := State.rasterLayer_wf1  s n l used base hm0
  rw [h] at h1
  exact h1

theorem State.showCommitPages_mem (s : State) : (State.showCommitPages s).mem = s.mem := by
  show State.MemAs (State.showCommitPages s) s
  unfold State.showCommitPages
  repeat' (first | with_reducible exact State.MemAs.refl _ | with_reducible assumption | fail_if_no_progress with_reducible refine State.MemAs.mk ?_ | split | dsimp only)

theorem State.showPending_mem (s : State) : (State.showPending s).mem = s.mem := by
  show State.MemAs (State.showPending s) s
  unfold State.showPending
  repeat' (first | with_reducible exact State.MemAs.refl _ | with_reducible assumption | with_reducible apply State.MemAs.step (State.wrN_mem ..) | split | dsimp only)

theorem lidCommit_mem (val : Word) (s : State) : (lidCommit val s).mem = s.mem := by
  show State.MemAs (lidCommit val s) s
  unfold lidCommit
  repeat' (first | with_reducible exact State.MemAs.refl _ | with_reducible assumption | with_reducible apply State.MemAs.step (State.showPending_mem ..) | with_reducible apply State.MemAs.step (State.showCommitPages_mem ..) | with_reducible apply State.MemAs.step (State.raiseOnce_mem ..) | with_reducible apply State.MemAs.step (State.put_mem ..) | with_reducible apply State.MemAs.step (State.wrN_mem ..) | with_reducible refine foldl_memAs _ (fun _ _ => ?_) ?_ | with_reducible apply State.MemAs.ite | fail_if_no_progress with_reducible refine State.MemAs.mk ?_ | split | dsimp only)

theorem State.commitResult_mem (s : State) (code layer seq : Nat) : (State.commitResult s code layer seq).mem = s.mem := by
  show State.MemAs (State.commitResult s code layer seq) s
  unfold State.commitResult
  repeat' (first | with_reducible exact State.MemAs.refl _ | with_reducible assumption | with_reducible apply State.MemAs.step (State.wrN_mem ..) | split | dsimp only)

theorem State.rasterCommit_wfAll (offscreen : Bool) (ls : List Nat) :
    ∀ (s : State) (c : Commit), State.MemOk s → State.MemOk (s.rasterCommit c offscreen ls).1 := by
  induction ls with
  | nil =>
    intro s c h
    unfold State.rasterCommit
    exact h
  | cons l rest ih =>
    intro s c h
    unfold State.rasterCommit
    dsimp only
    split
    · exact ih _ _ h
    · split
      · exact ih _ _ h
      · split
        · exact State.rasterLayer_wf1 _ _ _ _ _ h
        · exact ih _ _ (State.rasterLayer_wf1 _ _ _ _ _ h)

theorem State.rasterCommit_wf1 (s : State) (c : Commit) (offscreen : Bool) (ls : List Nat) (hm0 : State.MemOk s) :
    State.MemOk (s.rasterCommit c offscreen ls).1 := State.rasterCommit_wfAll offscreen ls s c hm0

theorem State.rasterCommit_fst {s : State} {c : Commit} {offscreen : Bool} {x0 : List Nat} {tr : State} {xr : Commit × Option (Nat × Nat)} (h : State.rasterCommit s c offscreen x0 = (tr, xr)) (hm0 : State.MemOk s) : State.MemOk tr := by
  have h1 := State.rasterCommit_wf1  s c offscreen x0 hm0
  rw [h] at h1
  exact h1

theorem State.showScalers_mem (s : State) (c : Commit) : (State.showScalers s c).mem = s.mem := by
  show State.MemAs (State.showScalers s c) s
  unfold State.showScalers
  repeat' (first | with_reducible exact State.MemAs.refl _ | with_reducible assumption | with_reducible apply State.MemAs.step (State.wrN_mem ..) | with_reducible refine foldl_memAs _ (fun _ _ => ?_) ?_ | split | dsimp only)

theorem State.readyCommit_mem (s : State) (c : Commit) : (State.readyCommit s c).mem = s.mem := by
  show State.MemAs (State.readyCommit s c) s
  unfold State.readyCommit
  repeat' (first | with_reducible exact State.MemAs.refl _ | with_reducible assumption | with_reducible apply State.MemAs.step (State.showCommitPages_mem ..) | with_reducible apply State.MemAs.step (State.count_mem ..) | with_reducible apply State.MemAs.ite | fail_if_no_progress with_reducible refine State.MemAs.mk ?_ | split | dsimp only)

theorem State.settleCommit_mem (s : State) : (State.settleCommit s).mem = s.mem := by
  show State.MemAs (State.settleCommit s) s
  unfold State.settleCommit
  repeat' (first | with_reducible exact State.MemAs.refl _ | with_reducible assumption | with_reducible apply State.MemAs.step (State.showPending_mem ..) | with_reducible apply State.MemAs.step (State.showCommitPages_mem ..) | with_reducible apply State.MemAs.step (State.showPool_mem ..) | with_reducible apply State.MemAs.step (State.count_mem ..) | with_reducible apply State.MemAs.step (State.put_mem ..) | with_reducible apply State.MemAs.ite | fail_if_no_progress with_reducible refine State.MemAs.mk ?_ | split | dsimp only)

theorem State.registerCommit_mem (s : State) (c : Commit) : (State.registerCommit s c).mem = s.mem := by
  show State.MemAs (State.registerCommit s c) s
  unfold State.registerCommit
  repeat' (first | with_reducible exact State.MemAs.refl _ | with_reducible assumption | with_reducible apply State.MemAs.step (State.readyCommit_mem ..) | with_reducible apply State.MemAs.step (State.showScalers_mem ..) | with_reducible apply State.MemAs.step (State.commitResult_mem ..) | with_reducible apply State.MemAs.step (State.showCommitPages_mem ..) | with_reducible apply State.MemAs.step (State.toPartner_mem ..) | with_reducible apply State.MemAs.step (State.raise_mem ..) | with_reducible apply State.MemAs.step (State.count_mem ..) | with_reducible apply State.MemAs.ite | fail_if_no_progress with_reducible refine State.MemAs.mk ?_ | split | dsimp only)

theorem State.failCommit_mem (s : State) (c : Commit) (code layer : Nat) : (State.failCommit s c code layer).mem = s.mem := by
  show State.MemAs (State.failCommit s c code layer) s
  unfold State.failCommit
  repeat' (first | with_reducible exact State.MemAs.refl _ | with_reducible assumption | with_reducible apply State.MemAs.step (State.commitResult_mem ..) | with_reducible apply State.MemAs.step (State.showPending_mem ..) | with_reducible apply State.MemAs.step (State.raiseOnce_mem ..) | with_reducible apply State.MemAs.step (State.count_mem ..) | split | dsimp only)

theorem State.showRaster_mem (s : State) : (State.showRaster s).mem = s.mem := by
  show State.MemAs (State.showRaster s) s
  unfold State.showRaster
  repeat' (first | with_reducible exact State.MemAs.refl _ | with_reducible assumption | with_reducible apply State.MemAs.step (State.put_mem ..) | with_reducible apply State.MemAs.ite | split | dsimp only)

theorem commitPrepDone_wf (s : State) (hm0 : State.MemOk s) :
    State.MemOk (commitPrepDone s) := by
  unfold commitPrepDone
  repeat' (first | with_reducible assumption | with_reducible apply wf_of_mem (State.failCommit_mem ..) | with_reducible apply wf_of_mem (State.registerCommit_mem ..) | with_reducible apply State.rasterCommit_wf1 | with_reducible apply wf_of_mem (State.showCommitPages_mem ..) | with_reducible apply wf_of_mem (State.showPool_mem ..) | with_reducible apply wf_of_mem (State.put_mem ..) | with_reducible apply wf_of_mem (State.wrN_mem ..) | fail_if_no_progress with_reducible refine State.MemOk.mk ?_ | split | dsimp only)

theorem layerFence_mem (val : Word) (s : State) : (layerFence val s).mem = s.mem := by
  show State.MemAs (layerFence val s) s
  unfold layerFence
  repeat' (first | with_reducible exact State.MemAs.refl _ | with_reducible assumption | with_reducible apply State.MemAs.step (State.showPending_mem ..) | fail_if_no_progress with_reducible refine State.MemAs.mk ?_ | split | dsimp only)

theorem State.rasterLate_wf1 (s : State) (l : Nat) (c : Commit) (hm0 : State.MemOk s) : State.MemOk (State.rasterLate s l c).1 := by
  unfold State.rasterLate
  repeat' (first | with_reducible assumption | with_reducible apply State.rasterLayer_wf1 | split | dsimp only)

theorem State.rasterLate_fst {s : State} {l : Nat} {c : Commit} {tr : State} {xr : Commit} (h : State.rasterLate s l c = (tr, xr)) (hm0 : State.MemOk s) : State.MemOk tr := by
  have h1 := State.rasterLate_wf1  s l c hm0
  rw [h] at h1
  exact h1

theorem lateLayerReady_wf (l : Nat) (s : State) (hm0 : State.MemOk s) :
    State.MemOk (lateLayerReady l s) := by
  unfold lateLayerReady
  repeat' (first | with_reducible assumption | with_reducible apply State.rasterLate_wf1 | with_reducible apply wf_of_mem (State.showPool_mem ..) | with_reducible apply wf_of_mem (State.toPartner_mem ..) | with_reducible apply State.MemOk.ite | fail_if_no_progress with_reducible refine State.MemOk.mk ?_ | split | dsimp only)

theorem lidOffscreen_mem (val : Word) (s : State) : (lidOffscreen val s).mem = s.mem := by
  show State.MemAs (lidOffscreen val s) s
  unfold lidOffscreen
  repeat' (first | with_reducible exact State.MemAs.refl _ | with_reducible assumption | with_reducible apply State.MemAs.step (State.commitResult_mem ..) | with_reducible apply State.MemAs.step (State.showCommitPages_mem ..) | with_reducible apply State.MemAs.step (State.raiseOnce_mem ..) | with_reducible apply State.MemAs.step (State.put_mem ..) | with_reducible apply State.MemAs.ite | fail_if_no_progress with_reducible refine State.MemAs.mk ?_ | split | dsimp only)

theorem State.offscreenFail_mem (s : State) (c : Commit) (code layer : Nat) : (State.offscreenFail s c code layer).mem = s.mem := by
  show State.MemAs (State.offscreenFail s c code layer) s
  unfold State.offscreenFail
  repeat' (first | with_reducible exact State.MemAs.refl _ | with_reducible assumption | with_reducible apply State.MemAs.step (State.commitResult_mem ..) | with_reducible apply State.MemAs.step (State.raiseOnce_mem ..) | with_reducible apply State.MemAs.step (State.count_mem ..) | with_reducible apply State.MemAs.step (State.put_mem ..) | split | dsimp only)

theorem State.offscreenPaint_wf (s : State) (c : Commit) (planes : Commit) (hm0 : State.MemOk s) :
    State.MemOk (State.offscreenPaint s c planes) := by
  unfold State.offscreenPaint
  repeat' (first | with_reducible assumption | with_reducible apply wf_of_mem (State.commitResult_mem ..) | with_reducible apply State.dmaWrite_wf1 | with_reducible apply wf_of_mem (State.raiseOnce_mem ..) | with_reducible apply wf_of_mem (State.put_mem ..) | with_reducible refine foldl_wf _ (fun _ _ _ => ?_) _ _ ?_ | split | dsimp only)

theorem State.offscreenEnd_mem (s : State) : (State.offscreenEnd s).mem = s.mem := by
  show State.MemAs (State.offscreenEnd s) s
  unfold State.offscreenEnd
  repeat' (first | with_reducible exact State.MemAs.refl _ | with_reducible assumption | with_reducible apply State.MemAs.step (State.showCommitPages_mem ..) | with_reducible apply State.MemAs.step (State.showPool_mem ..) | with_reducible apply State.MemAs.step (State.put_mem ..) | fail_if_no_progress with_reducible refine State.MemAs.mk ?_ | split | dsimp only)

theorem offscreenDone_wf (s : State) (hm0 : State.MemOk s) :
    State.MemOk (offscreenDone s) := by
  unfold offscreenDone
  repeat' (first | with_reducible assumption | with_reducible apply wf_of_mem (State.offscreenEnd_mem ..) | with_reducible apply State.offscreenPaint_wf | with_reducible apply wf_of_mem (State.offscreenFail_mem ..) | with_reducible apply State.rasterCommit_wf1 | with_reducible apply State.MemOk.ite | split | dsimp only)

theorem State.writeback_wf (s : State) (hm0 : State.MemOk s) :
    State.MemOk (State.writeback s) := by
  unfold State.writeback
  repeat' (first | with_reducible assumption | with_reducible apply State.dmaWrite_wf1 | with_reducible apply wf_of_mem (State.raiseOnce_mem ..) | with_reducible apply wf_of_mem (State.count_mem ..) | with_reducible apply wf_of_mem (State.wrN_mem ..) | with_reducible refine foldl_wf _ (fun _ _ _ => ?_) _ _ ?_ | with_reducible apply State.MemOk.ite | fail_if_no_progress with_reducible refine State.MemOk.mk ?_ | split | dsimp only)

theorem wbHeldClear_mem (val : Word) (s : State) : (wbHeldClear val s).mem = s.mem := by
  show State.MemAs (wbHeldClear val s) s
  unfold wbHeldClear
  repeat' (first | with_reducible exact State.MemAs.refl _ | with_reducible assumption | with_reducible apply State.MemAs.step (State.wrN_mem ..) | split | dsimp only)

theorem State.latchCommit_mem (s : State) : (State.latchCommit s).mem = s.mem := by
  show State.MemAs (State.latchCommit s) s
  unfold State.latchCommit
  repeat' (first | with_reducible exact State.MemAs.refl _ | with_reducible assumption | with_reducible apply State.MemAs.step (State.showCommitPages_mem ..) | with_reducible apply State.MemAs.step (State.put_mem ..) | with_reducible apply State.MemAs.step (State.wrN_mem ..) | fail_if_no_progress with_reducible refine State.MemAs.mk ?_ | split | dsimp only)

theorem State.supersedeOlder_mem (s : State) (i b : Nat) : (State.supersedeOlder s i b).mem = s.mem := by
  show State.MemAs (State.supersedeOlder s i b) s
  unfold State.supersedeOlder
  repeat' (first | with_reducible exact State.MemAs.refl _ | with_reducible assumption | with_reducible apply State.MemAs.step (State.supersede_mem ..) | with_reducible refine foldl_memAs _ (fun _ _ => ?_) ?_ | with_reducible apply State.MemAs.ite | split | dsimp only)

theorem State.latchStream_mem1 (s0 : State) (i : Nat) : (State.latchStream s0 i).1.mem = s0.mem := by
  show State.MemAs (State.latchStream s0 i).1 s0
  unfold State.latchStream
  repeat' (first | with_reducible exact State.MemAs.refl _ | with_reducible assumption | with_reducible apply State.MemAs.step (State.supersedeOlder_mem ..) | with_reducible apply State.MemAs.step (State.freeBuf_mem ..) | with_reducible apply State.MemAs.step (State.setBuf_mem ..) | with_reducible apply State.MemAs.step (State.setStream_mem ..) | with_reducible apply State.MemAs.step (State.put_mem ..) | with_reducible apply State.MemAs.step (State.wrN_mem ..) | with_reducible apply State.MemAs.ite | fail_if_no_progress with_reducible refine State.MemAs.mk ?_ | split | dsimp only)

theorem State.latchStream_fst {s0 : State} {i : Nat} {tr : State} {xr : List AccTile} (h : State.latchStream s0 i = (tr, xr)) : tr.mem = s0.mem := by
  have h1 := State.latchStream_mem1  s0 i
  rw [h] at h1
  exact h1

theorem State.latchStreams_mem1 (s : State) : s.latchStreams.1.mem = s.mem := by
  unfold State.latchStreams
  refine foldl_fst_mem _ (fun p i => ?_) _ _
  split
  · dsimp only
    split
    · split
      · exact (State.raise_mem ..).trans (State.latchStream_mem1 ..)
      · exact State.latchStream_mem1 ..
    · exact State.latchStream_mem1 ..
  · rfl

theorem State.latchStreams_fst {s : State} {tr : State} {xr : List (Nat × AccTile)} (h : State.latchStreams s = (tr, xr)) : tr.mem = s.mem := by
  have h1 := State.latchStreams_mem1  s
  rw [h] at h1
  exact h1

theorem State.latchLayers_mem1 (s : State) : (State.latchLayers s).1.mem = s.mem := by
  show State.MemAs (State.latchLayers s).1 s
  unfold State.latchLayers
  repeat' (first | with_reducible exact State.MemAs.refl _ | with_reducible assumption | with_reducible apply State.MemAs.step (State.raiseMask_mem ..) | with_reducible apply State.MemAs.step (State.countN_mem ..) | with_reducible apply State.MemAs.step (State.wrN_mem ..) | with_reducible apply State.MemAs.ite | fail_if_no_progress with_reducible refine State.MemAs.mk ?_ | split | dsimp only)

theorem State.latchLayers_fst {s : State} {tr : State} {xr : List (Option LayerPlane)} (h : State.latchLayers s = (tr, xr)) : tr.mem = s.mem := by
  have h1 := State.latchLayers_mem1  s
  rw [h] at h1
  exact h1

theorem State.mergeStack_mem (s : State) (ovl : Option DirPlane) (shown : List (Option LayerPlane)) : (State.mergeStack s ovl shown).mem = s.mem := by
  show State.MemAs (State.mergeStack s ovl shown) s
  unfold State.mergeStack
  repeat' (first | with_reducible exact State.MemAs.refl _ | with_reducible assumption | with_reducible apply State.MemAs.step (State.raiseIf_mem ..) | with_reducible apply State.MemAs.step (State.freeNext_mem ..) | with_reducible apply State.MemAs.step (State.countN_mem ..) | with_reducible apply State.MemAs.step (State.wrN_mem ..) | with_reducible apply State.MemAs.ite | fail_if_no_progress with_reducible refine State.MemAs.mk ?_ | split | dsimp only)

theorem State.judgeEyes_mem (s : State) : (State.judgeEyes s).mem = s.mem := by
  show State.MemAs (State.judgeEyes s) s
  unfold State.judgeEyes
  repeat' (first | with_reducible exact State.MemAs.refl _ | with_reducible assumption | with_reducible apply State.MemAs.step (State.raise_mem ..) | with_reducible apply State.MemAs.step (State.put_mem ..) | with_reducible apply State.MemAs.ite | split | dsimp only)

theorem eyeStale_mem (s : State) : (eyeStale s).mem = s.mem := by
  show State.MemAs (eyeStale s) s
  unfold eyeStale
  repeat' (first | with_reducible exact State.MemAs.refl _ | with_reducible assumption | with_reducible apply State.MemAs.step (State.judgeEyes_mem ..) | with_reducible apply State.MemAs.ite | split | dsimp only)

theorem State.ageEyes_mem (s : State) (fresh : Bool) : (State.ageEyes s fresh).mem = s.mem := by
  show State.MemAs (State.ageEyes s fresh) s
  unfold State.ageEyes
  repeat' (first | with_reducible exact State.MemAs.refl _ | with_reducible assumption | fail_if_no_progress with_reducible refine State.MemAs.mk ?_ | split | dsimp only)

theorem State.useEyes_mem (s : State) (mask : Nat) : (State.useEyes s mask).mem = s.mem := by
  show State.MemAs (State.useEyes s mask) s
  unfold State.useEyes
  repeat' (first | with_reducible exact State.MemAs.refl _ | with_reducible assumption | with_reducible apply State.MemAs.step (State.raiseIf_mem ..) | with_reducible apply State.MemAs.step (State.put_mem ..) | fail_if_no_progress with_reducible refine State.MemAs.mk ?_ | split | dsimp only)

theorem State.latchEyes_mem (s : State) : (State.latchEyes s).mem = s.mem := by
  show State.MemAs (State.latchEyes s) s
  unfold State.latchEyes
  repeat' (first | with_reducible exact State.MemAs.refl _ | with_reducible assumption | with_reducible apply State.MemAs.step (State.useEyes_mem ..) | with_reducible apply State.MemAs.step (State.ageEyes_mem ..) | with_reducible apply State.MemAs.step (State.judgeEyes_mem ..) | split | dsimp only)

theorem State.countEngines_mem (s : State) : (State.countEngines s).mem = s.mem := by
  show State.MemAs (State.countEngines s) s
  unfold State.countEngines
  repeat' (first | with_reducible exact State.MemAs.refl _ | with_reducible assumption | with_reducible apply State.MemAs.step (State.put_mem ..) | with_reducible refine foldl_memAs _ (fun _ _ => ?_) ?_ | split | dsimp only)

theorem State.latchChannels_wf (s : State) (hm0 : State.MemOk s) :
    State.MemOk (State.latchChannels s) := by
  unfold State.latchChannels
  repeat' (first | with_reducible assumption | with_reducible apply wf_of_mem (State.moveBuilds_mem ..) | with_reducible apply State.offlineChannel_wf | with_reducible apply wf_of_mem (State.closeGate_mem ..) | with_reducible apply wf_of_mem (State.chanEvent_mem ..) | with_reducible apply wf_of_mem (State.setEngState_mem ..) | with_reducible apply wf_of_mem (State.raise_mem ..) | with_reducible apply wf_of_mem (State.put_mem ..) | with_reducible refine foldl_wf _ (fun _ _ _ => ?_) _ _ ?_ | with_reducible apply State.MemOk.ite | fail_if_no_progress with_reducible refine State.MemOk.mk ?_ | split | dsimp only)

theorem State.armFrame_mem (s : State) : (State.armFrame s).mem = s.mem := by
  show State.MemAs (State.armFrame s) s
  unfold State.armFrame
  repeat' (first | with_reducible exact State.MemAs.refl _ | with_reducible assumption | fail_if_no_progress with_reducible refine State.MemAs.mk ?_ | split | dsimp only)

theorem State.takeLeases_mem (s : State) (shown : List (Option LayerPlane)) : (State.takeLeases s shown).mem = s.mem := by
  show State.MemAs (State.takeLeases s shown) s
  unfold State.takeLeases
  repeat' (first | with_reducible exact State.MemAs.refl _ | with_reducible assumption | fail_if_no_progress with_reducible refine State.MemAs.mk ?_ | split | dsimp only)

theorem State.driveInputs_mem (s : State) (restores : List Nat) : (State.driveInputs s restores).mem = s.mem := by
  show State.MemAs (State.driveInputs s restores) s
  unfold State.driveInputs
  repeat' (first | with_reducible exact State.MemAs.refl _ | with_reducible assumption | with_reducible apply State.MemAs.step (State.latchDrive_mem ..) | with_reducible apply State.MemAs.step (State.put_mem ..) | with_reducible refine foldl_memAs _ (fun _ _ => ?_) ?_ | fail_if_no_progress with_reducible refine State.MemAs.mk ?_ | split | dsimp only)

theorem State.eyeInputs_mem (s : State) : (State.eyeInputs s).mem = s.mem := by
  show State.MemAs (State.eyeInputs s) s
  unfold State.eyeInputs
  repeat' (first | with_reducible exact State.MemAs.refl _ | with_reducible assumption | with_reducible apply State.MemAs.step (State.latchEyes_mem ..) | with_reducible apply State.MemAs.step (State.useEyes_mem ..) | with_reducible apply State.MemAs.step (State.ageEyes_mem ..) | fail_if_no_progress with_reducible refine State.MemAs.mk ?_ | split | dsimp only)

theorem State.frameOpened_mem (s : State) (forced : Bool) : (State.frameOpened s forced).mem = s.mem := by
  show State.MemAs (State.frameOpened s forced) s
  unfold State.frameOpened
  repeat' (first | with_reducible exact State.MemAs.refl _ | with_reducible assumption | with_reducible apply State.MemAs.step (State.raiseIf_mem ..) | with_reducible apply State.MemAs.step (State.raise_mem ..) | with_reducible apply State.MemAs.step (State.count_mem ..) | with_reducible apply State.MemAs.step (State.putB_mem ..) | with_reducible apply State.MemAs.step (State.put_mem ..) | with_reducible apply State.MemAs.step (State.wrN_mem ..) | with_reducible apply State.MemAs.ite | fail_if_no_progress with_reducible refine State.MemAs.mk ?_ | split | dsimp only)

theorem State.framePeriods_mem (s4 : State) (now : Nat) : (State.framePeriods s4 now).mem = s4.mem := by
  show State.MemAs (State.framePeriods s4 now) s4
  unfold State.framePeriods
  repeat' (first | with_reducible exact State.MemAs.refl _ | with_reducible assumption | with_reducible apply State.MemAs.step (State.latchCommit_mem ..) | fail_if_no_progress with_reducible refine State.MemAs.mk ?_ | split | dsimp only)

theorem State.frameLevelled_wf (s7 : State) (start : Option FrameRec) (hm0 : State.MemOk s7) :
    State.MemOk (State.frameLevelled s7 start) := by
  unfold State.frameLevelled
  repeat' (first | with_reducible assumption | with_reducible apply wf_of_mem (State.eyeInputs_mem ..) | with_reducible apply State.latchChannels_wf | with_reducible apply wf_of_mem (State.countEngines_mem ..) | with_reducible apply wf_of_mem (State.put_mem ..) | split | dsimp only)

theorem State.dropLines_mem (s : State) : (State.dropLines s).mem = s.mem := by
  show State.MemAs (State.dropLines s) s
  unfold State.dropLines
  repeat' (first | with_reducible exact State.MemAs.refl _ | with_reducible assumption | fail_if_no_progress with_reducible refine State.MemAs.mk ?_ | split | dsimp only)

theorem State.frameDamage_wf (s9 s : State) (full : Bool) (changed : List (Nat × Nat × Int)) (hm0 : State.MemOk s9) (hm1 : State.MemOk s) :
    State.MemOk (State.frameDamage s9 s full changed) := by
  unfold State.frameDamage
  repeat' (first | with_reducible assumption | with_reducible apply wf_of_mem (State.driveInputs_mem ..) | with_reducible apply wf_of_mem (State.latchMap_mem ..) | fail_if_no_progress with_reducible refine State.MemOk.mk ?_ | split | dsimp only)

theorem State.frameLeased_mem (s11 : State) (shown : List (Option LayerPlane)) (secondary : Bool) : (State.frameLeased s11 shown secondary).mem = s11.mem := by
  show State.MemAs (State.frameLeased s11 shown secondary) s11
  unfold State.frameLeased
  repeat' (first | with_reducible exact State.MemAs.refl _ | with_reducible assumption | with_reducible apply State.MemAs.step (State.takeLeases_mem ..) | with_reducible apply State.MemAs.step (State.showPool_mem ..) | with_reducible apply State.MemAs.step (State.cloneStart_mem ..) | with_reducible apply State.MemAs.step (State.showQueue_mem ..) | with_reducible apply State.MemAs.step (State.toPartner_mem ..) | with_reducible apply State.MemAs.ite | fail_if_no_progress with_reducible refine State.MemAs.mk ?_ | split | dsimp only)

theorem State.startFrame_wf (s : State) (forced full : Bool) (hm0 : State.MemOk s) :
    State.MemOk (State.startFrame s forced full) := by
  unfold State.startFrame
  repeat' (first | with_reducible assumption | with_reducible apply wf_of_mem (State.frameLeased_mem ..) | with_reducible apply State.frameDamage_wf | with_reducible apply wf_of_mem (State.dropLines_mem ..) | with_reducible apply State.frameLevelled_wf | with_reducible apply wf_of_mem (State.framePeriods_mem ..) | with_reducible apply wf_of_mem (State.frameOpened_mem ..) | with_reducible apply wf_of_mem (State.mergeStack_mem ..) | with_reducible apply wf_of_mem (State.latchLayers_mem1 ..) | with_reducible apply wf_of_mem (State.latchStreams_mem1 ..) | with_reducible apply State.renderFrame_wf1 | fail_if_no_progress with_reducible refine State.MemOk.mk ?_ | split | dsimp only)

theorem frameStart_wf (s : State) (hm0 : State.MemOk s) :
    State.MemOk (frameStart s) := by
  unfold frameStart
  repeat' (first | with_reducible assumption | with_reducible apply State.startFrame_wf | with_reducible apply wf_of_mem (State.put_mem ..) | with_reducible apply wf_of_mem (State.wrN_mem ..) | with_reducible apply State.MemOk.ite | fail_if_no_progress with_reducible refine State.MemOk.mk ?_ | split | dsimp only)

theorem frameForced_wf (s : State) (hm0 : State.MemOk s) :
    State.MemOk (frameForced s) := by
  unfold frameForced
  repeat' (first | with_reducible assumption | with_reducible apply State.startFrame_wf | with_reducible apply State.MemOk.ite | split | dsimp only)

theorem State.linkDone_mem (s : State) : (State.linkDone s).mem = s.mem := by
  show State.MemAs (State.linkDone s) s
  unfold State.linkDone
  repeat' (first | with_reducible exact State.MemAs.refl _ | with_reducible assumption | with_reducible apply State.MemAs.step (State.put_mem ..) | with_reducible apply State.MemAs.ite | split | dsimp only)

theorem firstFrameStart_wf (s : State) (hm0 : State.MemOk s) :
    State.MemOk (firstFrameStart s) := by
  unfold firstFrameStart
  repeat' (first | with_reducible assumption | with_reducible apply wf_of_mem (State.linkDone_mem ..) | with_reducible apply State.startFrame_wf | with_reducible apply State.MemOk.ite | split | dsimp only)

theorem State.abortFrame_wf (s : State) (cause : Nat) (hm0 : State.MemOk s) :
    State.MemOk (State.abortFrame s cause) := by
  unfold State.abortFrame
  repeat' (first | with_reducible assumption | with_reducible apply wf_of_mem (State.cloneAbort_mem ..) | with_reducible apply wf_of_mem (State.dropCorr_mem ..) | with_reducible apply wf_of_mem (State.queueCorr_mem ..) | with_reducible apply wf_of_mem (State.discardRefsets_mem ..) | with_reducible apply wf_of_mem (State.carryRestore_mem ..) | with_reducible apply wf_of_mem (State.showQueue_mem ..) | with_reducible apply wf_of_mem (State.driveMark_mem ..) | with_reducible apply wf_of_mem (State.toPartner_mem ..) | with_reducible apply wf_of_mem (State.endShares_mem ..) | with_reducible apply State.dropRuns_wf | with_reducible apply wf_of_mem (State.returnStreams_mem ..) | with_reducible apply wf_of_mem (State.raise_mem ..) | with_reducible apply wf_of_mem (State.count_mem ..) | with_reducible apply wf_of_mem (State.put_mem ..) | with_reducible apply wf_of_mem (State.wrN_mem ..) | with_reducible refine foldl_wf _ (fun _ _ _ => ?_) _ _ ?_ | with_reducible apply State.MemOk.ite | fail_if_no_progress with_reducible refine State.MemOk.mk ?_ | split | dsimp only)

theorem State.showSetup_wf (s : State) (hm0 : State.MemOk s) :
    State.MemOk (State.showSetup s) := by
  unfold State.showSetup
  repeat' (first | with_reducible assumption | with_reducible apply State.writeClassMap_wf | with_reducible apply wf_of_mem (State.raise_mem ..) | with_reducible apply wf_of_mem (State.count_mem ..) | with_reducible apply wf_of_mem (State.put_mem ..) | with_reducible apply wf_of_mem (State.wrN_mem ..) | with_reducible apply State.MemOk.ite | split | dsimp only)

theorem State.formQueue_mem (s : State) : (State.formQueue s).mem = s.mem := by
  show State.MemAs (State.formQueue s) s
  unfold State.formQueue
  repeat' (first | with_reducible exact State.MemAs.refl _ | with_reducible assumption | with_reducible apply State.MemAs.step (State.countN_mem ..) | with_reducible apply State.MemAs.step (State.put_mem ..) | with_reducible refine foldl_memAs _ (fun _ _ => ?_) ?_ | with_reducible apply State.MemAs.ite | fail_if_no_progress with_reducible refine State.MemAs.mk ?_ | split | dsimp only)

theorem State.shareOut_mem (s : State) : (State.shareOut s).mem = s.mem := by
  show State.MemAs (State.shareOut s) s
  unfold State.shareOut
  repeat' (first | with_reducible exact State.MemAs.refl _ | with_reducible assumption | with_reducible apply State.MemAs.step (State.showQueues_mem ..) | with_reducible apply State.MemAs.step (State.setChan_mem ..) | with_reducible apply State.MemAs.step (State.putB_mem ..) | with_reducible apply State.MemAs.step (State.wrN_mem ..) | with_reducible refine foldl_memAs _ (fun _ _ => ?_) ?_ | fail_if_no_progress with_reducible refine State.MemAs.mk ?_ | split | dsimp only)

theorem frameSetupDone_wf (s : State) (hm0 : State.MemOk s) :
    State.MemOk (frameSetupDone s) := by
  unfold frameSetupDone
  repeat' (first | with_reducible assumption | with_reducible apply wf_of_mem (State.shareOut_mem ..) | with_reducible apply wf_of_mem (State.formQueue_mem ..) | with_reducible apply State.showSetup_wf | with_reducible apply State.abortFrame_wf | with_reducible apply wf_of_mem (State.closeWindows_mem ..) | with_reducible apply wf_of_mem (State.settleQueue_mem ..) | with_reducible apply wf_of_mem (State.raise_mem ..) | with_reducible apply State.MemOk.ite | fail_if_no_progress with_reducible refine State.MemOk.mk ?_ | split | dsimp only)

theorem State.buildLatency_mem (s : State) (doneNs : Nat) : (State.buildLatency s doneNs).mem = s.mem := by
  show State.MemAs (State.buildLatency s doneNs) s
  unfold State.buildLatency
  repeat' (first | with_reducible exact State.MemAs.refl _ | with_reducible assumption | with_reducible apply State.MemAs.step (State.wrN_mem ..) | with_reducible refine foldl_memAs _ (fun _ _ => ?_) ?_ | fail_if_no_progress with_reducible refine State.MemAs.mk ?_ | split | dsimp only)

theorem State.bootDone_mem (s : State) : (State.bootDone s).mem = s.mem := by
  show State.MemAs (State.bootDone s) s
  unfold State.bootDone
  repeat' (first | with_reducible exact State.MemAs.refl _ | with_reducible assumption | with_reducible apply State.MemAs.step (State.raise_mem ..) | with_reducible apply State.MemAs.step (State.put_mem ..) | with_reducible apply State.MemAs.step (State.wrN_mem ..) | with_reducible apply State.MemAs.ite | split | dsimp only)

theorem State.enterSync_mem (s : State) : (State.enterSync s).mem = s.mem := by
  show State.MemAs (State.enterSync s) s
  unfold State.enterSync
  repeat' (first | with_reducible exact State.MemAs.refl _ | with_reducible assumption | with_reducible apply State.MemAs.step (State.raise_mem ..) | with_reducible apply State.MemAs.step (State.put_mem ..) | split | dsimp only)

theorem State.syncDone_mem (s : State) : (State.syncDone s).mem = s.mem := by
  show State.MemAs (State.syncDone s) s
  unfold State.syncDone
  repeat' (first | with_reducible exact State.MemAs.refl _ | with_reducible assumption | with_reducible apply State.MemAs.step (State.enterSync_mem ..) | with_reducible apply State.MemAs.ite | fail_if_no_progress with_reducible refine State.MemAs.mk ?_ | split | dsimp only)

theorem State.takeLater_mem (s : State) : (State.takeLater s).mem = s.mem := by
  show State.MemAs (State.takeLater s) s
  unfold State.takeLater
  repeat' (first | with_reducible exact State.MemAs.refl _ | with_reducible assumption | with_reducible apply State.MemAs.ite | fail_if_no_progress with_reducible refine State.MemAs.mk ?_ | split | dsimp only)

theorem State.completeFrame_wf (s : State) (delay : Nat) (doneNs : Nat) (deltas : List (Nat × List Byte)) (hm0 : State.MemOk s) :
    State.MemOk (State.completeFrame s delay doneNs deltas) := by
  unfold State.completeFrame
  repeat' (first | with_reducible assumption | with_reducible apply wf_of_mem (State.syncDone_mem ..) | with_reducible apply wf_of_mem (State.bootDone_mem ..) | with_reducible apply wf_of_mem (State.buildLatency_mem ..) | with_reducible apply State.writeback_wf | with_reducible apply wf_of_mem (State.cloneComplete_mem ..) | with_reducible apply wf_of_mem (State.takeCalibration_mem ..) | with_reducible apply wf_of_mem (State.dropCorr_mem ..) | with_reducible apply State.applyDeltas_wf | with_reducible apply wf_of_mem (State.queueCorr_mem ..) | with_reducible apply wf_of_mem (State.settleRefsets_mem ..) | with_reducible apply wf_of_mem (State.showQueue_mem ..) | with_reducible apply wf_of_mem (State.driveMark_mem ..) | with_reducible apply wf_of_mem (State.endShares_mem ..) | with_reducible apply wf_of_mem (State.returnStreams_mem ..) | with_reducible apply wf_of_mem (State.raise_mem ..) | with_reducible apply wf_of_mem (State.put_mem ..) | with_reducible apply wf_of_mem (State.wrN_mem ..) | with_reducible apply State.MemOk.ite | fail_if_no_progress with_reducible refine State.MemOk.mk ?_ | split | dsimp only)

theorem frameComplete_wf (s : State) (hm0 : State.MemOk s) :
    State.MemOk (frameComplete s) := by
  unfold frameComplete
  repeat' (first | with_reducible assumption | with_reducible apply State.completeFrame_wf | with_reducible apply wf_of_mem (State.takeLater_mem ..) | with_reducible apply State.abortFrame_wf | with_reducible apply wf_of_mem (State.toPartner_mem ..) | with_reducible apply State.MemOk.ite | fail_if_no_progress with_reducible refine State.MemOk.mk ?_ | split | dsimp only)

theorem frameDeadline_wf (s : State) (hm0 : State.MemOk s) :
    State.MemOk (frameDeadline s) := by
  unfold frameDeadline
  repeat' (first | with_reducible assumption | with_reducible apply State.abortFrame_wf | with_reducible apply State.MemOk.ite | split | dsimp only)

end Sys2Proof.Machine
end

