-- ==== Sys2Proof/Laws/Keeps3.lean ====
section
/-!
SUPPORT. What the operations of EhlMirror, Tmu, EhlPair, Engines, HostBase, EngineRows, Support do to device memory: those that cannot store leave it as it was,
and those that can keep it in canonical form.
-/

set_option linter.unusedTactic false
set_option linter.unreachableTactic false
set_option linter.unusedVariables false

namespace Sys2Proof.Machine

theorem State.stkRegistered_mem (s : State) (i : Nat) : (State.stkRegistered s i).mem = s.mem := by
  show State.MemAs (State.stkRegistered s i) s
  unfold State.stkRegistered
  repeat' (first | with_reducible exact State.MemAs.refl _ | with_reducible assumption | with_reducible apply State.MemAs.step (State.stkMarked_mem ..) | with_reducible apply State.MemAs.step (State.toPartner_mem ..) | with_reducible apply State.MemAs.ite | split | dsimp only)

theorem State.releaseDatagrams_wf (s : State) (i : Nat) (hm0 : State.MemOk s) :
    State.MemOk (State.releaseDatagrams s i) := by
  unfold State.releaseDatagrams
  repeat' (first | with_reducible assumption | with_reducible apply State.tileDatagram_wf | with_reducible apply wf_of_mem (State.setStream_mem ..) | with_reducible refine foldl_wf _ (fun _ _ _ => ?_) _ _ ?_ | fail_if_no_progress with_reducible refine State.MemOk.mk ?_ | split | dsimp only)

theorem State.settleMarked_wf (s : State) (hm0 : State.MemOk s) :
    State.MemOk (State.settleMarked s) := by
  unfold State.settleMarked
  repeat' (first | with_reducible assumption | with_reducible apply State.releaseDatagrams_wf | with_reducible apply wf_of_mem (State.stkRegistered_mem ..) | with_reducible refine foldl_wf _ (fun _ _ _ => ?_) _ _ ?_ | with_reducible apply State.MemOk.ite | split | dsimp only)

theorem State.mirrorTiles_some {i : Nat} {base : List PlaneRec} {ts : List TileMsg} {t : State} {xr : List (TileMsg × Nat)} :
    ∀ {s : State} {used : List Nat} {acc : List (TileMsg × Nat)}, s.mirrorTiles i base used ts acc = some (t, xr) →
      State.MemOk s → State.MemOk t := by
  induction ts with
  | nil => intro s used acc h hm; cases h; exact hm
  | cons a rest ih =>
    intro s used acc h hm
    unfold State.mirrorTiles at h
    split at h
    · exact ih h hm
    · split at h
      · cases h
      · exact ih h (State.memWrite_wf (hm0 := hm) ..)

theorem State.mirrorWrite_wf (s : State) (m : StackMsg) (b : Nat) (tables : List Nat) (ts : List (TileMsg × Nat)) (current : Bool) (hm0 : State.MemOk s) :
    State.MemOk (State.mirrorWrite s m b tables ts current) := by
  unfold State.mirrorWrite
  repeat' (first | with_reducible assumption | with_reducible apply State.writeDesc_wf | with_reducible apply wf_of_mem (State.becomeReady_mem ..) | with_reducible apply wf_of_mem (State.setBuf_mem ..) | with_reducible apply State.memWrite_wf | with_reducible refine foldl_wf _ (fun _ _ _ => ?_) _ _ ?_ | with_reducible apply State.MemOk.ite | split | dsimp only)

theorem State.mirrorStack_wf (s : State) (m : StackMsg) (current : Bool) (hm0 : State.MemOk s) :
    State.MemOk (State.mirrorStack s m current) := by
  unfold State.mirrorStack
  repeat' (first | with_reducible assumption | with_reducible apply State.mirrorWrite_wf | with_reducible refine State.mirrorTiles_some ‹_› ?_ | with_reducible apply wf_of_mem (State.desync_mem ..) | with_reducible apply wf_of_mem (State.supersede_mem ..) | with_reducible apply wf_of_mem (State.freeBuf_mem ..) | with_reducible refine foldl_wf _ (fun _ _ _ => ?_) _ _ ?_ | with_reducible apply State.MemOk.ite | split | dsimp only)

theorem State.mirrorTile_some {s : State} {m : CommitMsg} {prev : Option Commit} {l : Nat} {used : List Nat} {a : Nat × Nat}
    {t : State} {xr : List (Nat × Nat × Nat) × List Nat} (h : s.mirrorTile m prev l used a = some (t, xr))
    (hm0 : State.MemOk s) : State.MemOk t := by
  unfold State.mirrorTile at h
  split at h
  · obtain ⟨q, _, hq⟩ := Option.map_eq_some_iff.mp h
    obtain ⟨rfl, -⟩ := Prod.mk.inj hq
    exact State.memWrite_wf (hm0 := hm0) ..
  · cases h
    exact hm0

theorem State.mirrorLayer_some {m : CommitMsg} {prev : Option Commit} {l : Nat} {ts : List (Nat × Nat)} {t : State}
    {xr : List (Nat × Nat × Nat)} : ∀ {s : State} {used : List Nat} {acc : List (Nat × Nat × Nat)},
      s.mirrorLayer m prev l used ts acc = some (t, xr) → State.MemOk s → State.MemOk t := by
  induction ts with
  | nil => intro s used acc h hm; cases h; exact hm
  | cons a rest ih =>
    intro s used acc h hm
    unfold State.mirrorLayer at h
    split at h
    · cases h
    · rename_i r hr
      exact ih h (State.mirrorTile_some (xr := r.2) hr hm)

theorem State.mirrorLayers_some {m : CommitMsg} {prev : Option Commit} {ls : List Nat} {t : State} {xr : Commit} :
    ∀ {s : State} {c : Commit}, s.mirrorLayers m prev c ls = some (t, xr) → State.MemOk s → State.MemOk t := by
  induction ls with
  | nil => intro s c h hm; cases h; exact hm
  | cons a rest ih =>
    intro s c h hm
    unfold State.mirrorLayers at h
    dsimp only at h
    split at h
    · split at h
      · cases h
      · rename_i r hr
        exact ih h (State.mirrorLayer_some (xr := r.2) hr hm)
    · exact ih h hm

theorem State.mirrorCommit_some {s : State} {m : CommitMsg} {t : State} {xr : Commit} (h : s.mirrorCommit m = some (t, xr))
    (hm0 : State.MemOk s) : State.MemOk t := State.mirrorLayers_some h hm0

theorem State.takeCommit_wf (s : State) (m : CommitMsg) (hm0 : State.MemOk s) :
    State.MemOk (State.takeCommit s m) := by
  unfold State.takeCommit
  repeat' (first | with_reducible assumption | with_reducible refine State.mirrorCommit_some ‹_› ?_ | with_reducible apply wf_of_mem (State.showPool_mem ..) | with_reducible apply wf_of_mem (State.desync_mem ..) | with_reducible apply State.MemOk.ite | fail_if_no_progress with_reducible refine State.MemOk.mk ?_ | split | dsimp only)

theorem State.takeCurrent_wf (s : State) (m : CommitMsg) (hm0 : State.MemOk s) :
    State.MemOk (State.takeCurrent s m) := by
  unfold State.takeCurrent
  repeat' (first | with_reducible assumption | with_reducible refine State.mirrorCommit_some ‹_› ?_ | with_reducible apply wf_of_mem (State.showPool_mem ..) | with_reducible apply wf_of_mem (State.desync_mem ..) | with_reducible apply wf_of_mem (State.put_mem ..) | fail_if_no_progress with_reducible refine State.MemOk.mk ?_ | split | dsimp only)

theorem incrWrite_mem (val : Word) (s : State) : (incrWrite val s).mem = s.mem := by
  show State.MemAs (incrWrite val s) s
  unfold incrWrite
  repeat' (first | with_reducible exact State.MemAs.refl _ | with_reducible assumption | with_reducible apply State.MemAs.step (State.raise_mem ..) | with_reducible apply State.MemAs.step (State.put_mem ..) | with_reducible apply State.MemAs.step (State.wrN_mem ..) | with_reducible apply State.MemAs.step (State.wr_mem ..) | with_reducible apply State.MemAs.ite | fail_if_no_progress with_reducible refine State.MemAs.mk ?_ | split | dsimp only)

theorem State.refuseStep_mem (s : State) : (State.refuseStep s).mem = s.mem := by
  show State.MemAs (State.refuseStep s) s
  unfold State.refuseStep
  repeat' (first | with_reducible exact State.MemAs.refl _ | with_reducible assumption | with_reducible apply State.MemAs.step (State.raise_mem ..) | with_reducible apply State.MemAs.step (State.count_mem ..) | with_reducible apply State.MemAs.step (State.put_mem ..) | split | dsimp only)

theorem State.applyStep_mem (s : State) (t : Nat) (size : Int) : (State.applyStep s t size).mem = s.mem := by
  show State.MemAs (State.applyStep s t size) s
  unfold State.applyStep
  repeat' (first | with_reducible exact State.MemAs.refl _ | with_reducible assumption | with_reducible apply State.MemAs.step (State.raise_mem ..) | with_reducible apply State.MemAs.step (State.put_mem ..) | with_reducible apply State.MemAs.step (State.wrN_mem ..) | fail_if_no_progress with_reducible refine State.MemAs.mk ?_ | split | dsimp only)

theorem timeStep_mem (force : Bool) (s : State) : (timeStep force s).mem = s.mem := by
  show State.MemAs (timeStep force s) s
  unfold timeStep
  repeat' (first | with_reducible exact State.MemAs.refl _ | with_reducible assumption | with_reducible apply State.MemAs.step (State.applyStep_mem ..) | with_reducible apply State.MemAs.step (State.refuseStep_mem ..) | with_reducible apply State.MemAs.ite | split | dsimp only)

theorem timeSet_mem (force : Bool) (s : State) : (timeSet force s).mem = s.mem := by
  show State.MemAs (timeSet force s) s
  unfold timeSet
  repeat' (first | with_reducible exact State.MemAs.refl _ | with_reducible assumption | with_reducible apply State.MemAs.step (State.applyStep_mem ..) | with_reducible apply State.MemAs.step (State.refuseStep_mem ..) | with_reducible apply State.MemAs.ite | split | dsimp only)

theorem timeRead_mem (s : State) : (timeRead s).mem = s.mem := by
  show State.MemAs (timeRead s) s
  unfold timeRead
  repeat' (first | with_reducible exact State.MemAs.refl _ | with_reducible assumption | with_reducible apply State.MemAs.step (State.wrN_mem ..) | split | dsimp only)

theorem State.judgeLate_mem (s : State) (n : Nat) : (State.judgeLate s n).mem = s.mem := by
  show State.MemAs (State.judgeLate s n) s
  unfold State.judgeLate
  repeat' (first | with_reducible exact State.MemAs.refl _ | with_reducible assumption | fail_if_no_progress with_reducible refine State.MemAs.mk ?_ | split | dsimp only)

theorem triggerArm_mem (n : Nat) (val : Word) (s : State) : (triggerArm n val s).mem = s.mem := by
  show State.MemAs (triggerArm n val s) s
  unfold triggerArm
  repeat' (first | with_reducible exact State.MemAs.refl _ | with_reducible assumption | with_reducible apply State.MemAs.step (State.judgeLate_mem ..) | with_reducible apply State.MemAs.step (State.wrN_mem ..) | split | dsimp only)

theorem triggerTargetWrite_mem (n which : Nat) (val : Word) (s : State) : (triggerTargetWrite n which val s).mem = s.mem := by
  show State.MemAs (triggerTargetWrite n which val s) s
  unfold triggerTargetWrite
  repeat' (first | with_reducible exact State.MemAs.refl _ | with_reducible assumption | with_reducible apply State.MemAs.step (State.judgeLate_mem ..) | with_reducible apply State.MemAs.step (State.wrN_mem ..) | split | dsimp only)

theorem State.copySnapshot_mem (s : State) : (State.copySnapshot s).mem = s.mem := by
  show State.MemAs (State.copySnapshot s) s
  unfold State.copySnapshot
  repeat' (first | with_reducible exact State.MemAs.refl _ | with_reducible assumption | with_reducible apply State.MemAs.step (State.wrN_mem ..) | with_reducible apply State.MemAs.step (State.wr_mem ..) | split | dsimp only)

theorem State.ownSnapshot_mem (s : State) : (State.ownSnapshot s).mem = s.mem := by
  show State.MemAs (State.ownSnapshot s) s
  unfold State.ownSnapshot
  repeat' (first | with_reducible exact State.MemAs.refl _ | with_reducible assumption | with_reducible apply State.MemAs.step (State.copySnapshot_mem ..) | with_reducible apply State.MemAs.step (State.raise_mem ..) | with_reducible apply State.MemAs.step (State.put_mem ..) | split | dsimp only)

theorem triggerFire_mem (n : Nat) (s : State) : (triggerFire n s).mem = s.mem := by
  show State.MemAs (triggerFire n s) s
  unfold triggerFire
  repeat' (first | with_reducible exact State.MemAs.refl _ | with_reducible assumption | with_reducible apply State.MemAs.step (State.ownSnapshot_mem ..) | with_reducible apply State.MemAs.step (State.wake_mem ..) | with_reducible apply State.MemAs.step (State.raiseIf_mem ..) | with_reducible apply State.MemAs.step (State.raise_mem ..) | with_reducible apply State.MemAs.step (State.put_mem ..) | with_reducible apply State.MemAs.ite | fail_if_no_progress with_reducible refine State.MemAs.mk ?_ | split | dsimp only)

theorem ppsEdge_mem (s : State) : (ppsEdge s).mem = s.mem := by
  show State.MemAs (ppsEdge s) s
  unfold ppsEdge
  repeat' (first | with_reducible exact State.MemAs.refl _ | with_reducible assumption | with_reducible apply State.MemAs.ite | fail_if_no_progress with_reducible refine State.MemAs.mk ?_ | split | dsimp only)

theorem pulseWidthEnd_mem (pps : Bool) (s : State) : (pulseWidthEnd pps s).mem = s.mem := by
  show State.MemAs (pulseWidthEnd pps s) s
  unfold pulseWidthEnd
  repeat' (first | with_reducible exact State.MemAs.refl _ | with_reducible assumption | with_reducible apply State.MemAs.ite | fail_if_no_progress with_reducible refine State.MemAs.mk ?_ | split | dsimp only)

theorem extCapture_mem (s : State) : (extCapture s).mem = s.mem := by
  show State.MemAs (extCapture s) s
  unfold extCapture
  repeat' (first | with_reducible exact State.MemAs.refl _ | with_reducible assumption | with_reducible apply State.MemAs.step (State.raise_mem ..) | with_reducible apply State.MemAs.step (State.freeNext_mem ..) | with_reducible apply State.MemAs.step (State.put_mem ..) | with_reducible apply State.MemAs.step (State.wrN_mem ..) | with_reducible apply State.MemAs.ite | split | dsimp only)

theorem State.endJoin_mem (s : State) : (State.endJoin s).mem = s.mem := by
  show State.MemAs (State.endJoin s) s
  unfold State.endJoin
  repeat' (first | with_reducible exact State.MemAs.refl _ | with_reducible assumption | with_reducible apply State.MemAs.step (State.ehlSend_mem ..) | with_reducible refine foldl_memAs _ (fun _ _ => ?_) ?_ | fail_if_no_progress with_reducible refine State.MemAs.mk ?_ | split | dsimp only)

theorem State.pumpJoin_mem (s : State) : (State.pumpJoin s).mem = s.mem := by
  show State.MemAs (State.pumpJoin s) s
  unfold State.pumpJoin
  repeat' (first | with_reducible exact State.MemAs.refl _ | with_reducible assumption | with_reducible apply State.MemAs.step (State.endJoin_mem ..) | with_reducible apply State.MemAs.step (State.ehlSend_mem ..) | with_reducible apply State.MemAs.ite | fail_if_no_progress with_reducible refine State.MemAs.mk ?_ | split | dsimp only)

theorem State.startJoin_mem (s : State) : (State.startJoin s).mem = s.mem := by
  show State.MemAs (State.startJoin s) s
  unfold State.startJoin
  repeat' (first | with_reducible exact State.MemAs.refl _ | with_reducible assumption | with_reducible apply State.MemAs.step (State.pumpJoin_mem ..) | with_reducible apply State.MemAs.step (State.put_mem ..) | fail_if_no_progress with_reducible refine State.MemAs.mk ?_ | split | dsimp only)

theorem ehlAck_mem (l seq : Nat) (s : State) : (ehlAck l seq s).mem = s.mem := by
  show State.MemAs (ehlAck l seq s) s
  unfold ehlAck
  repeat' (first | with_reducible exact State.MemAs.refl _ | with_reducible assumption | with_reducible apply State.MemAs.step (State.pumpJoin_mem ..) | with_reducible apply State.MemAs.step (State.setLink_mem ..) | with_reducible apply State.MemAs.ite | fail_if_no_progress with_reducible refine State.MemAs.mk ?_ | split | dsimp only)

theorem State.ehlReplay_mem (s : State) (l : Nat) : (State.ehlReplay s l).mem = s.mem := by
  show State.MemAs (State.ehlReplay s l) s
  unfold State.ehlReplay
  repeat' (first | with_reducible exact State.MemAs.refl _ | with_reducible assumption | with_reducible apply State.MemAs.step (State.setLink_mem ..) | with_reducible apply State.MemAs.step (State.countN_mem ..) | fail_if_no_progress with_reducible refine State.MemAs.mk ?_ | split | dsimp only)

theorem ehlNak_mem (l seq : Nat) (s : State) : (ehlNak l seq s).mem = s.mem := by
  show State.MemAs (ehlNak l seq s) s
  unfold ehlNak
  repeat' (first | with_reducible exact State.MemAs.refl _ | with_reducible assumption | with_reducible apply State.MemAs.step (State.ehlReplay_mem ..) | with_reducible apply State.MemAs.step (State.setLink_mem ..) | fail_if_no_progress with_reducible refine State.MemAs.mk ?_ | split | dsimp only)

theorem ehlReplayTimeout_mem (l : Nat) (s : State) : (ehlReplayTimeout l s).mem = s.mem := by
  show State.MemAs (ehlReplayTimeout l s) s
  unfold ehlReplayTimeout
  repeat' (first | with_reducible exact State.MemAs.refl _ | with_reducible assumption | with_reducible apply State.MemAs.step (State.ehlReplay_mem ..) | with_reducible apply State.MemAs.ite | split | dsimp only)

theorem State.takeoverRestores_mem (s : State) : (State.takeoverRestores s).mem = s.mem := by
  show State.MemAs (State.takeoverRestores s) s
  unfold State.takeoverRestores
  repeat' (first | with_reducible exact State.MemAs.refl _ | with_reducible assumption | with_reducible apply State.MemAs.step (State.requestRestore_mem ..) | with_reducible refine foldl_memAs _ (fun _ _ => ?_) ?_ | with_reducible apply State.MemAs.ite | fail_if_no_progress with_reducible refine State.MemAs.mk ?_ | split | dsimp only)

theorem State.takeoverAttempt_mem (s : State) : (State.takeoverAttempt s).mem = s.mem := by
  show State.MemAs (State.takeoverAttempt s) s
  unfold State.takeoverAttempt
  repeat' (first | with_reducible exact State.MemAs.refl _ | with_reducible assumption | with_reducible apply State.MemAs.step (State.wrN_mem ..) | with_reducible apply State.MemAs.ite | split | dsimp only)

theorem State.takeoverInputs_mem (s : State) : (State.takeoverInputs s).mem = s.mem := by
  show State.MemAs (State.takeoverInputs s) s
  unfold State.takeoverInputs
  repeat' (first | with_reducible exact State.MemAs.refl _ | with_reducible assumption | with_reducible apply State.MemAs.step (State.readyCommit_mem ..) | with_reducible apply State.MemAs.step (State.supersede_mem ..) | with_reducible refine foldl_memAs _ (fun _ _ => ?_) ?_ | fail_if_no_progress with_reducible refine State.MemAs.mk ?_ | split | dsimp only)

theorem State.takeover_mem (s : State) : (State.takeover s).mem = s.mem := by
  show State.MemAs (State.takeover s) s
  unfold State.takeover
  repeat' (first | with_reducible exact State.MemAs.refl _ | with_reducible assumption | with_reducible apply State.MemAs.step (State.takeoverInputs_mem ..) | with_reducible apply State.MemAs.step (State.takeoverAttempt_mem ..) | with_reducible apply State.MemAs.step (State.takeoverRestores_mem ..) | with_reducible apply State.MemAs.step (State.sendMark_mem ..) | with_reducible apply State.MemAs.step (State.setPair_mem ..) | with_reducible apply State.MemAs.step (State.raise_mem ..) | with_reducible apply State.MemAs.step (State.count_mem ..) | with_reducible apply State.MemAs.step (State.put_mem ..) | with_reducible apply State.MemAs.step (State.wrN_mem ..) | fail_if_no_progress with_reducible refine State.MemAs.mk ?_ | split | dsimp only)

theorem partnerSilent_mem (s : State) : (partnerSilent s).mem = s.mem := by
  show State.MemAs (partnerSilent s) s
  unfold partnerSilent
  repeat' (first | with_reducible exact State.MemAs.refl _ | with_reducible assumption | with_reducible apply State.MemAs.step (State.takeover_mem ..) | with_reducible apply State.MemAs.step (State.setPair_mem ..) | with_reducible apply State.MemAs.step (State.raise_mem ..) | with_reducible apply State.MemAs.step (State.put_mem ..) | with_reducible apply State.MemAs.ite | fail_if_no_progress with_reducible refine State.MemAs.mk ?_ | split | dsimp only)

theorem aliveSend_mem (s : State) : (aliveSend s).mem = s.mem := by
  show State.MemAs (aliveSend s) s
  unfold aliveSend
  repeat' (first | with_reducible exact State.MemAs.refl _ | with_reducible assumption | with_reducible apply State.MemAs.step (State.ehlSend_mem ..) | with_reducible apply State.MemAs.ite | fail_if_no_progress with_reducible refine State.MemAs.mk ?_ | split | dsimp only)

theorem State.laneUp_mem (s : State) (l eye : Nat) : (State.laneUp s l eye).mem = s.mem := by
  show State.MemAs (State.laneUp s l eye) s
  unfold State.laneUp
  repeat' (first | with_reducible exact State.MemAs.refl _ | with_reducible assumption | with_reducible apply State.MemAs.step (State.put_mem ..) | fail_if_no_progress with_reducible refine State.MemAs.mk ?_ | split | dsimp only)

theorem pairLinkUp_mem (theirs : Nat) (prio : Bool) (uid : Nat) (eyes : List Nat) (s : State) : (pairLinkUp theirs prio uid eyes s).mem = s.mem := by
  show State.MemAs (pairLinkUp theirs prio uid eyes s) s
  unfold pairLinkUp
  repeat' (first | with_reducible exact State.MemAs.refl _ | with_reducible assumption | with_reducible apply State.MemAs.step (State.laneUp_mem ..) | with_reducible apply State.MemAs.step (State.startJoin_mem ..) | with_reducible apply State.MemAs.step (State.desync_mem ..) | with_reducible apply State.MemAs.step (State.enterSecondary_mem ..) | with_reducible apply State.MemAs.step (State.setPair_mem ..) | with_reducible apply State.MemAs.step (State.setLink_mem ..) | with_reducible apply State.MemAs.step (State.raiseIf_mem ..) | with_reducible apply State.MemAs.step (State.raise_mem ..) | with_reducible refine foldl_memAs _ (fun _ _ => ?_) ?_ | with_reducible apply State.MemAs.ite | fail_if_no_progress with_reducible refine State.MemAs.mk ?_ | split | dsimp only)

theorem pairLinkTimeout_mem (s : State) : (pairLinkTimeout s).mem = s.mem := by
  show State.MemAs (pairLinkTimeout s) s
  unfold pairLinkTimeout
  repeat' (first | with_reducible exact State.MemAs.refl _ | with_reducible assumption | with_reducible apply State.MemAs.step (State.setPair_mem ..) | with_reducible apply State.MemAs.ite | split | dsimp only)

theorem State.showLag_mem (s : State) : (State.showLag s).mem = s.mem := by
  show State.MemAs (State.showLag s) s
  unfold State.showLag
  repeat' (first | with_reducible exact State.MemAs.refl _ | with_reducible assumption | with_reducible apply State.MemAs.step (State.wrN_mem ..) | with_reducible apply State.MemAs.ite | split | dsimp only)

theorem lagMaxReached_mem (s : State) : (lagMaxReached s).mem = s.mem := by
  show State.MemAs (lagMaxReached s) s
  unfold lagMaxReached
  repeat' (first | with_reducible exact State.MemAs.refl _ | with_reducible assumption | with_reducible apply State.MemAs.step (State.desync_mem ..) | with_reducible apply State.MemAs.ite | split | dsimp only)

theorem State.ehlRefuse_mem (s : State) : (State.ehlRefuse s).mem = s.mem := by
  show State.MemAs (State.ehlRefuse s) s
  unfold State.ehlRefuse
  repeat' (first | with_reducible exact State.MemAs.refl _ | with_reducible assumption | with_reducible apply State.MemAs.step (State.raiseOnce_mem ..) | split | dsimp only)

theorem ehlResync_mem (s : State) : (ehlResync s).mem = s.mem := by
  show State.MemAs (ehlResync s) s
  unfold ehlResync
  repeat' (first | with_reducible exact State.MemAs.refl _ | with_reducible assumption | with_reducible apply State.MemAs.step (State.ehlRefuse_mem ..) | with_reducible apply State.MemAs.step (State.startJoin_mem ..) | with_reducible apply State.MemAs.ite | split | dsimp only)

theorem ehlHandover_mem (s : State) : (ehlHandover s).mem = s.mem := by
  show State.MemAs (ehlHandover s) s
  unfold ehlHandover
  repeat' (first | with_reducible exact State.MemAs.refl _ | with_reducible assumption | with_reducible apply State.MemAs.step (State.ehlRefuse_mem ..) | with_reducible apply State.MemAs.step (State.handOver_mem ..) | with_reducible apply State.MemAs.ite | split | dsimp only)

theorem ehlTakeover_mem (s : State) : (ehlTakeover s).mem = s.mem := by
  show State.MemAs (ehlTakeover s) s
  unfold ehlTakeover
  repeat' (first | with_reducible exact State.MemAs.refl _ | with_reducible assumption | with_reducible apply State.MemAs.step (State.ehlRefuse_mem ..) | with_reducible apply State.MemAs.step (State.takeover_mem ..) | with_reducible apply State.MemAs.ite | split | dsimp only)

theorem State.toChildren_mem (s : State) (m : EhlMsg) : (State.toChildren s m).mem = s.mem := by
  show State.MemAs (State.toChildren s m) s
  unfold State.toChildren
  repeat' (first | with_reducible exact State.MemAs.refl _ | with_reducible assumption | with_reducible apply State.MemAs.step (State.ehlSend_mem ..) | with_reducible refine foldl_memAs _ (fun _ _ => ?_) ?_ | split | dsimp only)

theorem State.sendStatus_mem (s : State) : (State.sendStatus s).mem = s.mem := by
  show State.MemAs (State.sendStatus s) s
  unfold State.sendStatus
  repeat' (first | with_reducible exact State.MemAs.refl _ | with_reducible assumption | with_reducible apply State.MemAs.step (State.ehlSend_mem ..) | with_reducible apply State.MemAs.ite | split | dsimp only)

theorem State.applyLid_mem (s : State) (q t : Nat) (late : Bool) : (State.applyLid s q t late).mem = s.mem := by
  show State.MemAs (State.applyLid s q t late) s
  unfold State.applyLid
  repeat' (first | with_reducible exact State.MemAs.refl _ | with_reducible assumption | with_reducible apply State.MemAs.step (State.sendStatus_mem ..) | with_reducible apply State.MemAs.step (State.ehlRefuse_mem ..) | with_reducible apply State.MemAs.step (State.readyCommit_mem ..) | with_reducible apply State.MemAs.step (State.raise_mem ..) | with_reducible apply State.MemAs.step (State.count_mem ..) | with_reducible apply State.MemAs.ite | fail_if_no_progress with_reducible refine State.MemAs.mk ?_ | split | dsimp only)

theorem State.takeLid_mem (s : State) (q t : Nat) : (State.takeLid s q t).mem = s.mem := by
  show State.MemAs (State.takeLid s q t) s
  unfold State.takeLid
  repeat' (first | with_reducible exact State.MemAs.refl _ | with_reducible assumption | with_reducible apply State.MemAs.step (State.applyLid_mem ..) | with_reducible apply State.MemAs.step (State.wrN_mem ..) | with_reducible apply State.MemAs.ite | fail_if_no_progress with_reducible refine State.MemAs.mk ?_ | split | dsimp only)

theorem treeLid_mem (seq : Nat) (s : State) : (treeLid seq s).mem = s.mem := by
  show State.MemAs (treeLid seq s) s
  unfold treeLid
  repeat' (first | with_reducible exact State.MemAs.refl _ | with_reducible assumption | with_reducible apply State.MemAs.step (State.takeLid_mem ..) | with_reducible apply State.MemAs.step (State.toChildren_mem ..) | with_reducible apply State.MemAs.step (State.ehlRefuse_mem ..) | with_reducible apply State.MemAs.ite | split | dsimp only)

theorem lidApply_mem (s : State) : (lidApply s).mem = s.mem := by
  show State.MemAs (lidApply s) s
  unfold lidApply
  repeat' (first | with_reducible exact State.MemAs.refl _ | with_reducible assumption | with_reducible apply State.MemAs.step (State.applyLid_mem ..) | with_reducible refine foldl_memAs _ (fun _ _ => ?_) ?_ | fail_if_no_progress with_reducible refine State.MemAs.mk ?_ | split | dsimp only)

theorem treeReset_mem (kind : Nat) (s : State) : (treeReset kind s).mem = s.mem := by
  show State.MemAs (treeReset kind s) s
  unfold treeReset
  repeat' (first | with_reducible exact State.MemAs.refl _ | with_reducible assumption | with_reducible apply State.MemAs.step (State.toChildren_mem ..) | with_reducible apply State.MemAs.step (State.ehlRefuse_mem ..) | with_reducible apply State.MemAs.ite | fail_if_no_progress with_reducible refine State.MemAs.mk ?_ | split | dsimp only)

theorem State.armHere_mem (s : State) (freeze : Bool) (t : Nat) : (State.armHere s freeze t).mem = s.mem := by
  show State.MemAs (State.armHere s freeze t) s
  unfold State.armHere
  repeat' (first | with_reducible exact State.MemAs.refl _ | with_reducible assumption | with_reducible apply State.MemAs.step (State.raise_mem ..) | with_reducible apply State.MemAs.step (State.putB_mem ..) | with_reducible apply State.MemAs.step (State.put_mem ..) | with_reducible apply State.MemAs.ite | fail_if_no_progress with_reducible refine State.MemAs.mk ?_ | split | dsimp only)

theorem snapArm_mem (s : State) : (snapArm s).mem = s.mem := by
  show State.MemAs (snapArm s) s
  unfold snapArm
  repeat' (first | with_reducible exact State.MemAs.refl _ | with_reducible assumption | with_reducible apply State.MemAs.step (State.armHere_mem ..) | with_reducible apply State.MemAs.step (State.toChildren_mem ..) | with_reducible apply State.MemAs.step (State.ehlRefuse_mem ..) | with_reducible apply State.MemAs.ite | split | dsimp only)

theorem freezeArm_mem (s : State) : (freezeArm s).mem = s.mem := by
  show State.MemAs (freezeArm s) s
  unfold freezeArm
  repeat' (first | with_reducible exact State.MemAs.refl _ | with_reducible assumption | with_reducible apply State.MemAs.step (State.armHere_mem ..) | with_reducible apply State.MemAs.step (State.toChildren_mem ..) | with_reducible apply State.MemAs.step (State.ehlRefuse_mem ..) | with_reducible apply State.MemAs.ite | split | dsimp only)

theorem State.freezeImage_wf (s : State) (hm0 : State.MemOk s) :
    State.MemOk (State.freezeImage s) := by
  unfold State.freezeImage
  repeat' (first | with_reducible assumption | with_reducible apply State.memWrite_wf | with_reducible apply wf_of_mem (State.raise_mem ..) | with_reducible apply wf_of_mem (State.put_mem ..) | split | dsimp only)

theorem snapshotTake_wf (s : State) (hm0 : State.MemOk s) :
    State.MemOk (snapshotTake s) := by
  unfold snapshotTake
  repeat' (first | with_reducible assumption | with_reducible apply State.freezeImage_wf | with_reducible apply wf_of_mem (State.ownSnapshot_mem ..) | with_reducible apply wf_of_mem (State.put_mem ..) | with_reducible apply State.MemOk.ite | fail_if_no_progress with_reducible refine State.MemOk.mk ?_ | split | dsimp only)

theorem State.bcFail_mem (s : State) (err : Nat) : (State.bcFail s err).mem = s.mem := by
  show State.MemAs (State.bcFail s err) s
  unfold State.bcFail
  repeat' (first | with_reducible exact State.MemAs.refl _ | with_reducible assumption | with_reducible apply State.MemAs.step (State.raise_mem ..) | with_reducible apply State.MemAs.step (State.wrN_mem ..) | fail_if_no_progress with_reducible refine State.MemAs.mk ?_ | split | dsimp only)

theorem bcastStart_mem (val : Word) (s : State) : (bcastStart val s).mem = s.mem := by
  show State.MemAs (bcastStart val s) s
  unfold bcastStart
  repeat' (first | with_reducible exact State.MemAs.refl _ | with_reducible assumption | with_reducible apply State.MemAs.step (State.bcFail_mem ..) | with_reducible apply State.MemAs.step (State.ehlSend_mem ..) | with_reducible apply State.MemAs.step (State.wrN_mem ..) | with_reducible refine foldl_memAs _ (fun _ _ => ?_) ?_ | with_reducible apply State.MemAs.ite | fail_if_no_progress with_reducible refine State.MemAs.mk ?_ | split | dsimp only)

theorem bcastDone_mem (err : Nat) (s : State) : (bcastDone err s).mem = s.mem := by
  show State.MemAs (bcastDone err s) s
  unfold bcastDone
  repeat' (first | with_reducible exact State.MemAs.refl _ | with_reducible assumption | with_reducible apply State.MemAs.step (State.bcFail_mem ..) | with_reducible apply State.MemAs.step (State.raise_mem ..) | with_reducible apply State.MemAs.step (State.wrN_mem ..) | with_reducible apply State.MemAs.ite | fail_if_no_progress with_reducible refine State.MemAs.mk ?_ | split | dsimp only)

theorem State.pickParent_mem (s : State) : (State.pickParent s).mem = s.mem := by
  show State.MemAs (State.pickParent s) s
  unfold State.pickParent
  repeat' (first | with_reducible exact State.MemAs.refl _ | with_reducible assumption | with_reducible apply State.MemAs.step (State.put_mem ..) | split | dsimp only)

theorem hierarchyLaneUp_mem (l : Nat) (level : Option Nat) (eye : Nat) (s : State) : (hierarchyLaneUp l level eye s).mem = s.mem := by
  show State.MemAs (hierarchyLaneUp l level eye s) s
  unfold hierarchyLaneUp
  repeat' (first | with_reducible exact State.MemAs.refl _ | with_reducible assumption | with_reducible apply State.MemAs.step (State.pickParent_mem ..) | with_reducible apply State.MemAs.step (State.sendStatus_mem ..) | with_reducible apply State.MemAs.step (State.laneUp_mem ..) | with_reducible apply State.MemAs.step (State.setLink_mem ..) | with_reducible apply State.MemAs.step (State.raiseMask_mem ..) | with_reducible apply State.MemAs.step (State.put_mem ..) | with_reducible apply State.MemAs.ite | fail_if_no_progress with_reducible refine State.MemAs.mk ?_ | split | dsimp only)

theorem State.loseParent_mem (s : State) : (State.loseParent s).mem = s.mem := by
  show State.MemAs (State.loseParent s) s
  unfold State.loseParent
  repeat' (first | with_reducible exact State.MemAs.refl _ | with_reducible assumption | with_reducible apply State.MemAs.step (State.pickParent_mem ..) | with_reducible apply State.MemAs.step (State.raiseMask_mem ..) | fail_if_no_progress with_reducible refine State.MemAs.mk ?_ | split | dsimp only)

theorem parentSilent_mem (s : State) : (parentSilent s).mem = s.mem := by
  show State.MemAs (parentSilent s) s
  unfold parentSilent
  repeat' (first | with_reducible exact State.MemAs.refl _ | with_reducible assumption | with_reducible apply State.MemAs.step (State.loseParent_mem ..) | with_reducible apply State.MemAs.ite | split | dsimp only)

theorem laneDown_mem (l : Nat) (failed : Bool) (s : State) : (laneDown l failed s).mem = s.mem := by
  show State.MemAs (laneDown l failed s) s
  unfold laneDown
  repeat' (first | with_reducible exact State.MemAs.refl _ | with_reducible assumption | with_reducible apply State.MemAs.step (State.loseParent_mem ..) | with_reducible apply State.MemAs.step (State.raiseMask_mem ..) | with_reducible apply State.MemAs.step (State.putBit_mem ..) | with_reducible apply State.MemAs.step (State.put_mem ..) | with_reducible apply State.MemAs.ite | fail_if_no_progress with_reducible refine State.MemAs.mk ?_ | split | dsimp only)

theorem ttimeSend_mem (s : State) : (ttimeSend s).mem = s.mem := by
  show State.MemAs (ttimeSend s) s
  unfold ttimeSend
  repeat' (first | with_reducible exact State.MemAs.refl _ | with_reducible assumption | with_reducible apply State.MemAs.step (State.toChildren_mem ..) | with_reducible apply State.MemAs.step (State.ehlSend_mem ..) | with_reducible apply State.MemAs.ite | fail_if_no_progress with_reducible refine State.MemAs.mk ?_ | split | dsimp only)

theorem tdelayExchange_mem (s : State) : (tdelayExchange s).mem = s.mem := by
  show State.MemAs (tdelayExchange s) s
  unfold tdelayExchange
  repeat' (first | with_reducible exact State.MemAs.refl _ | with_reducible assumption | with_reducible apply State.MemAs.step (State.ehlSend_mem ..) | fail_if_no_progress with_reducible refine State.MemAs.mk ?_ | split | dsimp only)

theorem timeLockChanged_mem (s : State) : (timeLockChanged s).mem = s.mem := by
  show State.MemAs (timeLockChanged s) s
  unfold timeLockChanged
  repeat' (first | with_reducible exact State.MemAs.refl _ | with_reducible assumption | with_reducible apply State.MemAs.step (State.raise_mem ..) | with_reducible apply State.MemAs.step (State.put_mem ..) | with_reducible apply State.MemAs.ite | split | dsimp only)

theorem State.unmarkRun_mem (s : State) (e : Engine) : (State.unmarkRun s e).mem = s.mem := by
  show State.MemAs (State.unmarkRun s e) s
  unfold State.unmarkRun
  repeat' (first | with_reducible exact State.MemAs.refl _ | with_reducible assumption | fail_if_no_progress with_reducible refine State.MemAs.mk ?_ | split | dsimp only)

theorem State.engFault_wf (s : State) (g code pc : Nat) (addr : Option Nat) (hm0 : State.MemOk s) :
    State.MemOk (State.engFault s g code pc addr) := by
  unfold State.engFault
  repeat' (first | with_reducible assumption | with_reducible apply wf_of_mem (State.unmarkRun_mem ..) | with_reducible apply State.abortFrame_wf | with_reducible apply State.buildItemFailed_wf | with_reducible apply wf_of_mem (State.desync_mem ..) | with_reducible apply State.stopFaulted_wf | with_reducible apply wf_of_mem (State.showQueues_mem ..) | with_reducible apply wf_of_mem (State.setChan_mem ..) | with_reducible apply State.MemOk.ite | fail_if_no_progress with_reducible refine State.MemOk.mk ?_ | split | dsimp only)

theorem State.lsUncorr_wf (s : State) (g pc : Nat) (addr : Option Nat) (hm0 : State.MemOk s) :
    State.MemOk (State.lsUncorr s g pc addr) := by
  unfold State.lsUncorr
  repeat' (first | with_reducible assumption | with_reducible apply State.engFault_wf | with_reducible apply wf_of_mem (State.faultRecord_mem ..) | with_reducible apply wf_of_mem (State.chanEvent_mem ..) | with_reducible apply wf_of_mem (State.setEng_mem ..) | with_reducible apply wf_of_mem (State.count_mem ..) | with_reducible apply State.MemOk.ite | fail_if_no_progress with_reducible refine State.MemOk.mk ?_ | split | dsimp only)

theorem State.lsCorrected_mem (s : State) (g n : Nat) : (State.lsCorrected s g n).mem = s.mem := by
  show State.MemAs (State.lsCorrected s g n) s
  unfold State.lsCorrected
  repeat' (first | with_reducible exact State.MemAs.refl _ | with_reducible assumption | with_reducible apply State.MemAs.step (State.chanEvent_mem ..) | with_reducible apply State.MemAs.step (State.countN_mem ..) | with_reducible apply State.MemAs.ite | split | dsimp only)

def EngEnd.Keeps : EngEnd → Prop
  | .next t => State.MemOk t
  | .jump t _ => State.MemOk t
  | .ended t => State.MemOk t
  | .wait => True
  | .fault _ _ => True

theorem State.engRow_wf (s : State) (g : Nat) (ecc : Ecc) (k : Nat) (body : State → Nat → EngEnd) (hm0 : State.MemOk s)
    (hb : ∀ t w, State.MemOk t → (body t w).Keeps) : State.MemOk (State.engRow s g ecc k body) := by
  have fin (t : State) (pc : Nat) (x : EngEnd) (ht : State.MemOk t) (hx : x.Keeps) : State.MemOk (match (generalizing := false) x with
      | .next u => u.setPc g ((pc + 4) % 2 ^ 32)
      | .jump u p => u.setPc g (p % 2 ^ 32)
      | .wait => s
      | .ended u => u
      | .fault code addr => t.engFault g code pc addr) := by
    cases x with
    | next u => exact wf_of_mem (State.setPc_mem ..) hx
    | jump u p => exact wf_of_mem (State.setPc_mem ..) hx
    | wait => exact hm0
    | ended u => exact hx
    | fault code addr => exact State.engFault_wf (hm0 := ht) ..
  have hc (n : Nat) : State.MemOk (s.lsCorrected g n) := wf_of_mem (State.lsCorrected_mem ..) hm0
  unfold State.engRow
  dsimp only
  split
  · exact hm0
  split
  · exact State.engFault_wf (hm0 := hm0) ..
  split
  · exact hm0
  split
  · exact hm0
  split
  · exact State.engFault_wf (hm0 := hm0) ..
  · have h1 : State.MemOk (match (generalizing := false) ecc with | .corrected n => s.lsCorrected g n | _ => s) := by
      split
      · exact hc _
      · exact hm0
    refine State.MemOk.ite (State.engFault_wf (hm0 := h1) ..) ?_
    exact fin _ _ _ h1 (hb _ _ h1)

theorem EngEnd.ite_keeps {p : Prop} {d : Decidable p} {a b : EngEnd} (ha : a.Keeps) (hb : b.Keeps) : (if p then a else b).Keeps := by
  split
  · exact ha
  · exact hb

theorem State.pure_keeps (s : State) (g : Nat) (f : Engine → Engine) (h : State.MemOk s) : (s.pure g f).Keeps :=
  wf_of_mem (State.setEng_mem ..) h

theorem aluRow_wf (k g : Nat) (ecc : Ecc) (s : State) (hm0 : State.MemOk s) : State.MemOk (aluRow k g ecc s) :=
  State.engRow_wf _ _ _ _ _ hm0 (fun _ _ h => State.pure_keeps _ _ _ h)

theorem Engine.lsGate_keeps (e : Engine) (a n : Nat) (go : EngEnd) (h : go.Keeps) : (e.lsGate a n go).Keeps := by
  unfold Engine.lsGate
  split
  · trivial
  · split
    · trivial
    · exact h

theorem Engine.laneGate_keeps (e : Engine) (w : Nat) (go : EngEnd) (h : go.Keeps) : (e.laneGate w go).Keeps := by
  unfold Engine.laneGate
  dsimp only
  split
  · trivial
  · split
    · trivial
    · exact h

theorem State.branch_keeps (s : State) (g w : Nat) (c : Bool) (h : State.MemOk s) : (s.branch g w c).Keeps := by
  unfold State.branch
  split <;> exact h

theorem dmaStart_keeps (g : Nat) (write : Bool) (s : State) (w : Nat) (h : State.MemOk s) : (dmaStart g write s w).Keeps := by
  unfold dmaStart
  dsimp only
  split
  · trivial
  split
  · trivial
  split
  · trivial
  split
  · trivial
  split
  · trivial
  split
  · trivial
  · exact wf_of_mem (State.setEng_mem ..) h

theorem rdcsrEnd_keeps (g : Nat) (s : State) (w : Nat) (h : State.MemOk s) : (rdcsrEnd g s w).Keeps := by
  unfold rdcsrEnd
  dsimp only
  split
  · exact wf_of_mem (State.setEng_mem ..) (wf_of_mem (State.freeNext_mem ..) (wf_of_mem (State.setEng_mem ..) h))
  · exact wf_of_mem (State.setEng_mem ..) h

theorem State.countSamples_mem (s : State) (c n : Nat) : (State.countSamples s c n).mem = s.mem := by
  show State.MemAs (State.countSamples s c n) s
  unfold State.countSamples
  repeat' (first | with_reducible exact State.MemAs.refl _ | with_reducible assumption | with_reducible apply State.MemAs.step (State.setChan_mem ..) | with_reducible apply State.MemAs.step (State.countN_mem ..) | fail_if_no_progress with_reducible refine State.MemAs.mk ?_ | split | dsimp only)

theorem State.smpoStep_mem (s : State) (g w p : Nat) : (State.smpoStep s g w p).mem = s.mem := by
  show State.MemAs (State.smpoStep s g w p) s
  unfold State.smpoStep
  repeat' (first | with_reducible exact State.MemAs.refl _ | with_reducible assumption | with_reducible apply State.MemAs.step (State.countSamples_mem ..) | with_reducible apply State.MemAs.step (State.chanEvent_mem ..) | with_reducible apply State.MemAs.step (State.setEng_mem ..) | with_reducible apply State.MemAs.ite | split | dsimp only)

theorem State.sweepFrom_mem (g w n : Nat) : ∀ (s : State) (p : Nat), (s.sweepFrom g w n p).1.mem = s.mem := by
  induction n with
  | zero => intro s p; rfl
  | succ n ih =>
    intro s p
    unfold State.sweepFrom
    split
    · rfl
    · exact (ih _ _).trans (State.smpoStep_mem ..)

theorem State.drivePoison_mem (s : State) (g w : Nat) : (State.drivePoison s g w).mem = s.mem := by
  show State.MemAs (State.drivePoison s g w) s
  unfold State.drivePoison
  repeat' (first | with_reducible exact State.MemAs.refl _ | with_reducible assumption | with_reducible apply State.MemAs.step (State.desync_mem ..) | with_reducible apply State.MemAs.step (State.mapPoison_mem ..) | with_reducible apply State.MemAs.step (State.notePoisonRead_mem ..) | with_reducible refine foldl_memAs _ (fun _ _ => ?_) ?_ | with_reducible apply State.MemAs.ite | split | dsimp only)

theorem State.emitCode_wf (s : State) (g idx code : Nat) (hm0 : State.MemOk s) :
    State.MemOk (State.emitCode s g idx code) := by
  unfold State.emitCode
  repeat' (first | with_reducible assumption | with_reducible refine State.captureRay_wf (hm0 := ?_) .. | with_reducible refine State.putMirror_wf (hm0 := ?_) .. | with_reducible refine foldl_wf _ (fun _ _ _ => ?_) _ _ ?_ | with_reducible refine State.MemOk.ite ?_ ?_ | fail_if_no_progress with_reducible refine State.MemOk.mk ?_ | split | dsimp only)

theorem sampleQuad_keeps (g : Nat) (near : Bool) (s : State) (w : Nat) (h : State.MemOk s) : (sampleQuad g near s w).Keeps := by
  have h1 (f : Engine → Engine) (c n : Nat) : State.MemOk ((s.setEng g f).countSamples c n) :=
    wf_of_mem (State.countSamples_mem ..) (wf_of_mem (State.setEng_mem ..) h)
  unfold sampleQuad
  dsimp only
  exact State.MemOk.ite (wf_of_mem (State.chanEvent_mem ..) (h1 _ _ _)) (h1 _ _ _)

theorem driveEnd_keeps (g : Nat) (s : State) (w : Nat) (h : State.MemOk s) : (driveEnd g s w).Keeps := by
  unfold driveEnd
  exact wf_of_mem (State.setEng_mem ..) (wf_of_mem (State.freeSkip_mem ..) (wf_of_mem (State.drivePoison_mem ..) h))

theorem emitEnd_keeps (g : Nat) (s : State) (w : Nat) (h : State.MemOk s) : (emitEnd g s w).Keeps := by
  unfold emitEnd
  dsimp only
  split
  · trivial
  · split
    · trivial
    · exact wf_of_mem (State.closeWindows_mem ..) (foldl_wf _ (fun st _ hs => State.emitCode_wf (hm0 := hs) ..) _ _ (wf_of_mem (State.setEng_mem ..) h))

theorem doneEnd_keeps (g : Nat) (s : State) (w : Nat) (h : State.MemOk s) : (doneEnd g s w).Keeps := by
  unfold doneEnd
  dsimp only
  split
  · trivial
  · split
    · trivial
    · have h1 := wf_of_mem (State.engFree_mem ((s.count (CH_RUNS_DONE (g / 32))).count (CH_ENG_RUNS (g / 32) (g % 32))) g)
        (wf_of_mem (State.count_mem ..) (wf_of_mem (State.count_mem ..) h))
      exact State.MemOk.ite (State.buildItemDone_wf (hm0 := h1) ..) h1

theorem twrEnd_keeps (g : Nat) (s : State) (w : Nat) (h : State.MemOk s) : (twrEnd g s w).Keeps := by
  unfold twrEnd
  dsimp only
  split
  · trivial
  split
  · trivial
  · exact EngEnd.ite_keeps (wf_of_mem (State.setEng_mem ..) (State.tileWrite_wf1 (hm0 := h) ..))
      (wf_of_mem (State.setEng_mem ..) (wf_of_mem (State.freeNext_mem ..) h))

theorem State.lockFault_mem (s : State) (off : Nat) : (State.lockFault s off).mem = s.mem := by
  show State.MemAs (State.lockFault s off) s
  unfold State.lockFault
  repeat' (first | with_reducible exact State.MemAs.refl _ | with_reducible assumption | with_reducible apply State.MemAs.step (State.raise_mem ..) | with_reducible apply State.MemAs.step (State.count_mem ..) | with_reducible apply State.MemAs.step (State.wrN_mem ..) | split | dsimp only)

theorem State.lockedBits_mem (s : State) (off mask : Nat) (val : Word) : (State.lockedBits s off mask val).mem = s.mem := by
  show State.MemAs (State.lockedBits s off mask val) s
  unfold State.lockedBits
  repeat' (first | with_reducible exact State.MemAs.refl _ | with_reducible assumption | with_reducible apply State.MemAs.step (State.lockFault_mem ..) | with_reducible apply State.MemAs.step (State.wrN_mem ..) | with_reducible apply State.MemAs.ite | split | dsimp only)

theorem State.lockedWrite_mem (s : State) (off : Nat) (val : Word) : (State.lockedWrite s off val).mem = s.mem := by
  show State.MemAs (State.lockedWrite s off val) s
  unfold State.lockedWrite
  repeat' (first | with_reducible exact State.MemAs.refl _ | with_reducible assumption | with_reducible apply State.MemAs.step (State.lockedBits_mem ..) | split | dsimp only)

theorem State.plainWrite_mem (s : State) (off : Nat) (val : Word) : (State.plainWrite s off val).mem = s.mem := by
  show State.MemAs (State.plainWrite s off val) s
  unfold State.plainWrite
  repeat' (first | with_reducible exact State.MemAs.refl _ | with_reducible assumption | with_reducible apply State.MemAs.step (State.lockedBits_mem ..) | with_reducible apply State.MemAs.step (State.wrN_mem ..) | with_reducible apply State.MemAs.ite | split | dsimp only)

theorem engAdd_wf (g : Nat) (ecc : Ecc) (s : State) (hm0 : State.MemOk s) :
    State.MemOk (engAdd g ecc s) := by
  unfold engAdd
  repeat' (first | with_reducible assumption | with_reducible apply aluRow_wf | split | dsimp only)

theorem engSub_wf (g : Nat) (ecc : Ecc) (s : State) (hm0 : State.MemOk s) :
    State.MemOk (engSub g ecc s) := by
  unfold engSub
  repeat' (first | with_reducible assumption | with_reducible apply aluRow_wf | split | dsimp only)

theorem engMul_wf (g : Nat) (ecc : Ecc) (s : State) (hm0 : State.MemOk s) :
    State.MemOk (engMul g ecc s) := by
  unfold engMul
  repeat' (first | with_reducible assumption | with_reducible apply aluRow_wf | split | dsimp only)

theorem engMulh_wf (g : Nat) (ecc : Ecc) (s : State) (hm0 : State.MemOk s) :
    State.MemOk (engMulh g ecc s) := by
  unfold engMulh
  repeat' (first | with_reducible assumption | with_reducible apply aluRow_wf | split | dsimp only)

theorem engMulhu_wf (g : Nat) (ecc : Ecc) (s : State) (hm0 : State.MemOk s) :
    State.MemOk (engMulhu g ecc s) := by
  unfold engMulhu
  repeat' (first | with_reducible assumption | with_reducible apply aluRow_wf | split | dsimp only)

theorem engAnd_wf (g : Nat) (ecc : Ecc) (s : State) (hm0 : State.MemOk s) :
    State.MemOk (engAnd g ecc s) := by
  unfold engAnd
  repeat' (first | with_reducible assumption | with_reducible apply aluRow_wf | split | dsimp only)

theorem engOr_wf (g : Nat) (ecc : Ecc) (s : State) (hm0 : State.MemOk s) :
    State.MemOk (engOr g ecc s) := by
  unfold engOr
  repeat' (first | with_reducible assumption | with_reducible apply aluRow_wf | split | dsimp only)

theorem engXor_wf (g : Nat) (ecc : Ecc) (s : State) (hm0 : State.MemOk s) :
    State.MemOk (engXor g ecc s) := by
  unfold engXor
  repeat' (first | with_reducible assumption | with_reducible apply aluRow_wf | split | dsimp only)

theorem engShl_wf (g : Nat) (ecc : Ecc) (s : State) (hm0 : State.MemOk s) :
    State.MemOk (engShl g ecc s) := by
  unfold engShl
  repeat' (first | with_reducible assumption | with_reducible apply aluRow_wf | split | dsimp only)

theorem engShr_wf (g : Nat) (ecc : Ecc) (s : State) (hm0 : State.MemOk s) :
    State.MemOk (engShr g ecc s) := by
  unfold engShr
  repeat' (first | with_reducible assumption | with_reducible apply aluRow_wf | split | dsimp only)

theorem engSra_wf (g : Nat) (ecc : Ecc) (s : State) (hm0 : State.MemOk s) :
    State.MemOk (engSra g ecc s) := by
  unfold engSra
  repeat' (first | with_reducible assumption | with_reducible apply aluRow_wf | split | dsimp only)

theorem engSrar_wf (g : Nat) (ecc : Ecc) (s : State) (hm0 : State.MemOk s) :
    State.MemOk (engSrar g ecc s) := by
  unfold engSrar
  repeat' (first | with_reducible assumption | with_reducible apply aluRow_wf | split | dsimp only)

theorem engMin_wf (g : Nat) (ecc : Ecc) (s : State) (hm0 : State.MemOk s) :
    State.MemOk (engMin g ecc s) := by
  unfold engMin
  repeat' (first | with_reducible assumption | with_reducible apply aluRow_wf | split | dsimp only)

theorem engMax_wf (g : Nat) (ecc : Ecc) (s : State) (hm0 : State.MemOk s) :
    State.MemOk (engMax g ecc s) := by
  unfold engMax
  repeat' (first | with_reducible assumption | with_reducible apply aluRow_wf | split | dsimp only)

theorem engMinu_wf (g : Nat) (ecc : Ecc) (s : State) (hm0 : State.MemOk s) :
    State.MemOk (engMinu g ecc s) := by
  unfold engMinu
  repeat' (first | with_reducible assumption | with_reducible apply aluRow_wf | split | dsimp only)

theorem engMaxu_wf (g : Nat) (ecc : Ecc) (s : State) (hm0 : State.MemOk s) :
    State.MemOk (engMaxu g ecc s) := by
  unfold engMaxu
  repeat' (first | with_reducible assumption | with_reducible apply aluRow_wf | split | dsimp only)

theorem engClampu_wf (g : Nat) (ecc : Ecc) (s : State) (hm0 : State.MemOk s) :
    State.MemOk (engClampu g ecc s) := by
  unfold engClampu
  repeat' (first | with_reducible assumption | with_reducible apply aluRow_wf | split | dsimp only)

theorem engSel_wf (g : Nat) (ecc : Ecc) (s : State) (hm0 : State.MemOk s) :
    State.MemOk (engSel g ecc s) := by
  unfold engSel
  repeat' (first | with_reducible assumption | with_reducible apply aluRow_wf | split | dsimp only)

theorem engCmpeq_wf (g : Nat) (ecc : Ecc) (s : State) (hm0 : State.MemOk s) :
    State.MemOk (engCmpeq g ecc s) := by
  unfold engCmpeq
  repeat' (first | with_reducible assumption | with_reducible apply aluRow_wf | split | dsimp only)

theorem engCmplt_wf (g : Nat) (ecc : Ecc) (s : State) (hm0 : State.MemOk s) :
    State.MemOk (engCmplt g ecc s) := by
  unfold engCmplt
  repeat' (first | with_reducible assumption | with_reducible apply aluRow_wf | split | dsimp only)

theorem engCmpltu_wf (g : Nat) (ecc : Ecc) (s : State) (hm0 : State.MemOk s) :
    State.MemOk (engCmpltu g ecc s) := by
  unfold engCmpltu
  repeat' (first | with_reducible assumption | with_reducible apply aluRow_wf | split | dsimp only)

theorem engCmple_wf (g : Nat) (ecc : Ecc) (s : State) (hm0 : State.MemOk s) :
    State.MemOk (engCmple g ecc s) := by
  unfold engCmple
  repeat' (first | with_reducible assumption | with_reducible apply aluRow_wf | split | dsimp only)

theorem engAbs_wf (g : Nat) (ecc : Ecc) (s : State) (hm0 : State.MemOk s) :
    State.MemOk (engAbs g ecc s) := by
  unfold engAbs
  repeat' (first | with_reducible assumption | with_reducible apply aluRow_wf | split | dsimp only)

theorem engClz_wf (g : Nat) (ecc : Ecc) (s : State) (hm0 : State.MemOk s) :
    State.MemOk (engClz g ecc s) := by
  unfold engClz
  repeat' (first | with_reducible assumption | with_reducible apply aluRow_wf | split | dsimp only)

theorem engMulsr_wf (g : Nat) (ecc : Ecc) (s : State) (hm0 : State.MemOk s) :
    State.MemOk (engMulsr g ecc s) := by
  unfold engMulsr
  repeat' (first | with_reducible assumption | with_reducible apply aluRow_wf | split | dsimp only)

theorem engMovi_wf (g : Nat) (ecc : Ecc) (s : State) (hm0 : State.MemOk s) : State.MemOk (engMovi g ecc s) := by
  unfold engMovi
  refine State.engRow_wf _ _ _ _ _ hm0 (fun t w ht => ?_)
  exact State.pure_keeps _ _ _ ht

theorem engMovhi_wf (g : Nat) (ecc : Ecc) (s : State) (hm0 : State.MemOk s) : State.MemOk (engMovhi g ecc s) := by
  unfold engMovhi
  refine State.engRow_wf _ _ _ _ _ hm0 (fun t w ht => ?_)
  exact State.pure_keeps _ _ _ ht

theorem engVmovi_wf (g : Nat) (ecc : Ecc) (s : State) (hm0 : State.MemOk s) : State.MemOk (engVmovi g ecc s) := by
  unfold engVmovi
  refine State.engRow_wf _ _ _ _ _ hm0 (fun t w ht => ?_)
  exact State.pure_keeps _ _ _ ht

theorem engBcst_wf (g : Nat) (ecc : Ecc) (s : State) (hm0 : State.MemOk s) : State.MemOk (engBcst g ecc s) := by
  unfold engBcst
  refine State.engRow_wf _ _ _ _ _ hm0 (fun t w ht => ?_)
  exact State.pure_keeps _ _ _ ht

theorem engLaneid_wf (g : Nat) (ecc : Ecc) (s : State) (hm0 : State.MemOk s) : State.MemOk (engLaneid g ecc s) := by
  unfold engLaneid
  refine State.engRow_wf _ _ _ _ _ hm0 (fun t w ht => ?_)
  exact State.pure_keeps _ _ _ ht

theorem engVext_wf (g : Nat) (ecc : Ecc) (s : State) (hm0 : State.MemOk s) : State.MemOk (engVext g ecc s) := by
  unfold engVext
  refine State.engRow_wf _ _ _ _ _ hm0 (fun t w ht => ?_)
  exact State.pure_keeps _ _ _ ht

theorem engVins_wf (g : Nat) (ecc : Ecc) (s : State) (hm0 : State.MemOk s) : State.MemOk (engVins g ecc s) := by
  unfold engVins
  refine State.engRow_wf _ _ _ _ _ hm0 (fun t w ht => ?_)
  exact State.pure_keeps _ _ _ ht

theorem engPlogic_wf (g : Nat) (ecc : Ecc) (s : State) (hm0 : State.MemOk s) : State.MemOk (engPlogic g ecc s) := by
  unfold engPlogic
  refine State.engRow_wf _ _ _ _ _ hm0 (fun t w ht => ?_)
  exact State.pure_keeps _ _ _ ht

theorem engPany_wf (g : Nat) (ecc : Ecc) (s : State) (hm0 : State.MemOk s) : State.MemOk (engPany g ecc s) := by
  unfold engPany
  refine State.engRow_wf _ _ _ _ _ hm0 (fun t w ht => ?_)
  exact State.pure_keeps _ _ _ ht

theorem engPcnt_wf (g : Nat) (ecc : Ecc) (s : State) (hm0 : State.MemOk s) : State.MemOk (engPcnt g ecc s) := by
  unfold engPcnt
  refine State.engRow_wf _ _ _ _ _ hm0 (fun t w ht => ?_)
  exact State.pure_keeps _ _ _ ht

theorem engLds_wf (g : Nat) (ecc : Ecc) (s : State) (hm0 : State.MemOk s) : State.MemOk (engLds g ecc s) := by
  unfold engLds
  refine State.engRow_wf _ _ _ _ _ hm0 (fun t w ht => ?_)
  exact Engine.lsGate_keeps _ _ _ _ (State.pure_keeps _ _ _ ht)

theorem engSts_wf (g : Nat) (ecc : Ecc) (s : State) (hm0 : State.MemOk s) : State.MemOk (engSts g ecc s) := by
  unfold engSts
  refine State.engRow_wf _ _ _ _ _ hm0 (fun t w ht => ?_)
  exact Engine.lsGate_keeps _ _ _ _ (State.pure_keeps _ _ _ ht)

theorem engLdv_wf (g : Nat) (ecc : Ecc) (s : State) (hm0 : State.MemOk s) : State.MemOk (engLdv g ecc s) := by
  unfold engLdv
  refine State.engRow_wf _ _ _ _ _ hm0 (fun t w ht => ?_)
  exact Engine.lsGate_keeps _ _ _ _ (State.pure_keeps _ _ _ ht)

theorem engStv_wf (g : Nat) (ecc : Ecc) (s : State) (hm0 : State.MemOk s) : State.MemOk (engStv g ecc s) := by
  unfold engStv
  refine State.engRow_wf _ _ _ _ _ hm0 (fun t w ht => ?_)
  exact Engine.lsGate_keeps _ _ _ _ (State.pure_keeps _ _ _ ht)

theorem engLdx_wf (g : Nat) (ecc : Ecc) (s : State) (hm0 : State.MemOk s) : State.MemOk (engLdx g ecc s) := by
  unfold engLdx
  refine State.engRow_wf _ _ _ _ _ hm0 (fun t w ht => ?_)
  exact Engine.laneGate_keeps _ _ _ (State.pure_keeps _ _ _ ht)

theorem engStx_wf (g : Nat) (ecc : Ecc) (s : State) (hm0 : State.MemOk s) : State.MemOk (engStx g ecc s) := by
  unfold engStx
  refine State.engRow_wf _ _ _ _ _ hm0 (fun t w ht => ?_)
  exact Engine.laneGate_keeps _ _ _ (State.pure_keeps _ _ _ ht)

theorem engDmrd_wf (g : Nat) (ecc : Ecc) (s : State) (hm0 : State.MemOk s) : State.MemOk (engDmrd g ecc s) := by
  unfold engDmrd
  refine State.engRow_wf _ _ _ _ _ hm0 (fun t w ht => ?_)
  exact dmaStart_keeps _ _ _ _ ht

theorem engDmwr_wf (g : Nat) (ecc : Ecc) (s : State) (hm0 : State.MemOk s) : State.MemOk (engDmwr g ecc s) := by
  unfold engDmwr
  refine State.engRow_wf _ _ _ _ _ hm0 (fun t w ht => ?_)
  exact dmaStart_keeps _ _ _ _ ht

theorem engDmwait_wf (g : Nat) (ecc : Ecc) (s : State) (hm0 : State.MemOk s) : State.MemOk (engDmwait g ecc s) := by
  unfold engDmwait
  refine State.engRow_wf _ _ _ _ _ hm0 (fun t w ht => ?_)
  exact EngEnd.ite_keeps trivial ht

theorem engRdcsr_wf (g : Nat) (ecc : Ecc) (s : State) (hm0 : State.MemOk s) : State.MemOk (engRdcsr g ecc s) := by
  unfold engRdcsr
  refine State.engRow_wf _ _ _ _ _ hm0 (fun t w ht => ?_)
  exact rdcsrEnd_keeps _ _ _ ht

theorem engWrcsr_wf (g : Nat) (ecc : Ecc) (s : State) (hm0 : State.MemOk s) : State.MemOk (engWrcsr g ecc s) := by
  unfold engWrcsr
  refine State.engRow_wf _ _ _ _ _ hm0 (fun t w ht => ?_)
  exact State.pure_keeps _ _ _ ht

theorem engFence_wf (g : Nat) (ecc : Ecc) (s : State) (hm0 : State.MemOk s) : State.MemOk (engFence g ecc s) := by
  unfold engFence
  refine State.engRow_wf _ _ _ _ _ hm0 (fun t w ht => ?_)
  exact EngEnd.ite_keeps trivial ht

theorem engSmp_wf (g : Nat) (ecc : Ecc) (s : State) (hm0 : State.MemOk s) : State.MemOk (engSmp g ecc s) := by
  unfold engSmp
  refine State.engRow_wf _ _ _ _ _ hm0 (fun t w ht => ?_)
  exact sampleQuad_keeps _ _ _ _ ht

theorem engSmpn_wf (g : Nat) (ecc : Ecc) (s : State) (hm0 : State.MemOk s) : State.MemOk (engSmpn g ecc s) := by
  unfold engSmpn
  refine State.engRow_wf _ _ _ _ _ hm0 (fun t w ht => ?_)
  exact sampleQuad_keeps _ _ _ _ ht

theorem engSmpo_wf (g : Nat) (ecc : Ecc) (s : State) (hm0 : State.MemOk s) : State.MemOk (engSmpo g ecc s) := by
  unfold engSmpo
  refine State.engRow_wf _ _ _ _ _ hm0 (fun t w ht => ?_)
  exact wf_of_mem (State.smpoStep_mem ..) ht

theorem engSweep_wf (g : Nat) (ecc : Ecc) (s : State) (hm0 : State.MemOk s) : State.MemOk (engSweep g ecc s) := by
  unfold engSweep
  refine State.engRow_wf _ _ _ _ _ hm0 (fun t w ht => ?_)
  have h1 : State.MemOk (if iClr w then t.setEng g (fun e => (List.range 4).foldl (fun (x : Engine) m => x.setVx (iDst w + m) (e.getPm (iPm w)) (fun _ => 0)) e) else t) := by
    split
    · exact wf_of_mem (State.setEng_mem ..) ht
    · exact ht
  exact wf_of_mem (State.setEng_mem ..) (wf_of_mem (State.sweepFrom_mem ..) h1)

theorem engOcc_wf (g : Nat) (ecc : Ecc) (s : State) (hm0 : State.MemOk s) : State.MemOk (engOcc g ecc s) := by
  unfold engOcc
  refine State.engRow_wf _ _ _ _ _ hm0 (fun t w ht => ?_)
  exact State.pure_keeps _ _ _ ht

theorem engPft_wf (g : Nat) (ecc : Ecc) (s : State) (hm0 : State.MemOk s) : State.MemOk (engPft g ecc s) := by
  unfold engPft
  refine State.engRow_wf _ _ _ _ _ hm0 (fun t w ht => ?_)
  exact ht

theorem engDrive_wf (g : Nat) (ecc : Ecc) (s : State) (hm0 : State.MemOk s) : State.MemOk (engDrive g ecc s) := by
  unfold engDrive
  refine State.engRow_wf _ _ _ _ _ hm0 (fun t w ht => ?_)
  exact driveEnd_keeps _ _ _ ht

theorem engEmit_wf (g : Nat) (ecc : Ecc) (s : State) (hm0 : State.MemOk s) : State.MemOk (engEmit g ecc s) := by
  unfold engEmit
  refine State.engRow_wf _ _ _ _ _ hm0 (fun t w ht => ?_)
  exact emitEnd_keeps _ _ _ ht

theorem engTwr_wf (g : Nat) (ecc : Ecc) (s : State) (hm0 : State.MemOk s) : State.MemOk (engTwr g ecc s) := by
  unfold engTwr
  refine State.engRow_wf _ _ _ _ _ hm0 (fun t w ht => ?_)
  exact twrEnd_keeps _ _ _ ht

theorem engBr_wf (g : Nat) (ecc : Ecc) (s : State) (hm0 : State.MemOk s) : State.MemOk (engBr g ecc s) := by
  unfold engBr
  refine State.engRow_wf _ _ _ _ _ hm0 (fun t w ht => ?_)
  exact State.branch_keeps _ _ _ _ ht

theorem engBz_wf (g : Nat) (ecc : Ecc) (s : State) (hm0 : State.MemOk s) : State.MemOk (engBz g ecc s) := by
  unfold engBz
  refine State.engRow_wf _ _ _ _ _ hm0 (fun t w ht => ?_)
  exact State.branch_keeps _ _ _ _ ht

theorem engBnz_wf (g : Nat) (ecc : Ecc) (s : State) (hm0 : State.MemOk s) : State.MemOk (engBnz g ecc s) := by
  unfold engBnz
  refine State.engRow_wf _ _ _ _ _ hm0 (fun t w ht => ?_)
  exact State.branch_keeps _ _ _ _ ht

theorem engCall_wf (g : Nat) (ecc : Ecc) (s : State) (hm0 : State.MemOk s) : State.MemOk (engCall g ecc s) := by
  unfold engCall
  refine State.engRow_wf _ _ _ _ _ hm0 (fun t w ht => ?_)
  exact State.branch_keeps _ _ _ _ (wf_of_mem (State.setEng_mem ..) ht)

theorem engRet_wf (g : Nat) (ecc : Ecc) (s : State) (hm0 : State.MemOk s) : State.MemOk (engRet g ecc s) := by
  unfold engRet
  refine State.engRow_wf _ _ _ _ _ hm0 (fun t w ht => ?_)
  exact ht

theorem engVbany_wf (g : Nat) (ecc : Ecc) (s : State) (hm0 : State.MemOk s) : State.MemOk (engVbany g ecc s) := by
  unfold engVbany
  refine State.engRow_wf _ _ _ _ _ hm0 (fun t w ht => ?_)
  exact State.branch_keeps _ _ _ _ ht

theorem engVbnone_wf (g : Nat) (ecc : Ecc) (s : State) (hm0 : State.MemOk s) : State.MemOk (engVbnone g ecc s) := by
  unfold engVbnone
  refine State.engRow_wf _ _ _ _ _ hm0 (fun t w ht => ?_)
  exact State.branch_keeps _ _ _ _ ht

theorem engDone_wf (g : Nat) (ecc : Ecc) (s : State) (hm0 : State.MemOk s) : State.MemOk (engDone g ecc s) := by
  unfold engDone
  refine State.engRow_wf _ _ _ _ _ hm0 (fun t w ht => ?_)
  exact doneEnd_keeps _ _ _ ht

theorem engTrap_wf (g : Nat) (ecc : Ecc) (s : State) (hm0 : State.MemOk s) : State.MemOk (engTrap g ecc s) := by
  unfold engTrap
  refine State.engRow_wf _ _ _ _ _ hm0 (fun t w ht => ?_)
  trivial

theorem State.freeTag_mem (s : State) (g tag : Nat) : (State.freeTag s g tag).mem = s.mem := by
  show State.MemAs (State.freeTag s g tag) s
  unfold State.freeTag
  repeat' (first | with_reducible exact State.MemAs.refl _ | with_reducible assumption | with_reducible apply State.MemAs.step (State.setEng_mem ..) | fail_if_no_progress with_reducible refine State.MemAs.mk ?_ | split | dsimp only)

theorem dmaTransferComplete_wf (g tag : Nat) (ecc : Ecc) (s : State) (hm0 : State.MemOk s) :
    State.MemOk (dmaTransferComplete g tag ecc s) := by
  unfold dmaTransferComplete
  repeat' (first | with_reducible assumption | with_reducible apply wf_of_mem (State.freeTag_mem ..) | with_reducible apply wf_of_mem (State.lsCorrected_mem ..) | with_reducible apply State.lsUncorr_wf | with_reducible apply State.engFault_wf | with_reducible apply State.dmaCarry_wf1 | with_reducible apply State.MemOk.ite | split | dsimp only)

theorem wiTimeout_wf (g : Nat) (s : State) (hm0 : State.MemOk s) :
    State.MemOk (wiTimeout g s) := by
  unfold wiTimeout
  repeat' (first | with_reducible assumption | with_reducible apply State.engFault_wf | with_reducible apply State.MemOk.ite | split | dsimp only)

theorem engReloadStart_mem (g : Nat) (s : State) : (engReloadStart g s).mem = s.mem := by
  show State.MemAs (engReloadStart g s) s
  unfold engReloadStart
  repeat' (first | with_reducible exact State.MemAs.refl _ | with_reducible assumption | with_reducible apply State.MemAs.step (State.setEngState_mem ..) | with_reducible apply State.MemAs.ite | split | dsimp only)

theorem engReloadDone_mem (g : Nat) (ok : Bool) (s : State) : (engReloadDone g ok s).mem = s.mem := by
  show State.MemAs (engReloadDone g ok s) s
  unfold engReloadDone
  repeat' (first | with_reducible exact State.MemAs.refl _ | with_reducible assumption | with_reducible apply State.MemAs.step (State.faultRecord_mem ..) | with_reducible apply State.MemAs.step (State.chanEvent_mem ..) | with_reducible apply State.MemAs.step (State.setEngState_mem ..) | with_reducible apply State.MemAs.step (State.setEng_mem ..) | with_reducible apply State.MemAs.ite | fail_if_no_progress with_reducible refine State.MemAs.mk ?_ | split | dsimp only)

theorem lsScrub_wf (c corrected uncorrectable : Nat) (s : State) (hm0 : State.MemOk s) :
    State.MemOk (lsScrub c corrected uncorrectable s) := by
  unfold lsScrub
  repeat' (first | with_reducible assumption | with_reducible apply wf_of_mem (State.lsCorrected_mem ..) | with_reducible apply State.lsUncorr_wf | with_reducible apply wf_of_mem (State.setChan_mem ..) | with_reducible refine foldl_wf _ (fun _ _ _ => ?_) _ _ ?_ | with_reducible apply State.MemOk.ite | fail_if_no_progress with_reducible refine State.MemOk.mk ?_ | split | dsimp only)

theorem State.cacheLine_mem (s : State) (c line : Nat) : (State.cacheLine s c line).mem = s.mem := by
  show State.MemAs (State.cacheLine s c line) s
  unfold State.cacheLine
  repeat' (first | with_reducible exact State.MemAs.refl _ | with_reducible assumption | with_reducible apply State.MemAs.step (State.setChan_mem ..) | with_reducible apply State.MemAs.step (State.freeNext_mem ..) | split | dsimp only)

theorem pcLineFill_mem (g line : Nat) (ecc : Ecc) (s : State) : (pcLineFill g line ecc s).mem = s.mem := by
  show State.MemAs (pcLineFill g line ecc s) s
  unfold pcLineFill
  repeat' (first | with_reducible exact State.MemAs.refl _ | with_reducible assumption | with_reducible apply State.MemAs.step (State.cacheLine_mem ..) | with_reducible apply State.MemAs.step (State.chanEvent_mem ..) | with_reducible apply State.MemAs.step (State.setChan_mem ..) | with_reducible apply State.MemAs.step (State.notePoisonRead_mem ..) | with_reducible apply State.MemAs.step (State.count_mem ..) | with_reducible apply State.MemAs.step (State.countN_mem ..) | with_reducible apply State.MemAs.ite | split | dsimp only)

theorem engEnableWrite_mem (c : Nat) (val : Word) (s : State) : (engEnableWrite c val s).mem = s.mem := by
  show State.MemAs (engEnableWrite c val s) s
  unfold engEnableWrite
  repeat' (first | with_reducible exact State.MemAs.refl _ | with_reducible assumption | with_reducible apply State.MemAs.step (State.lockedWrite_mem ..) | with_reducible apply State.MemAs.step (State.setEngState_mem ..) | with_reducible refine foldl_memAs _ (fun _ _ => ?_) ?_ | with_reducible apply State.MemAs.ite | split | dsimp only)

theorem dbgDataAccess_wf (c : Nat) (isWrite : Bool) (val : Word) (ecc : Ecc) (s : State) (hm0 : State.MemOk s) :
    State.MemOk (dbgDataAccess c isWrite val ecc s) := by
  unfold dbgDataAccess
  repeat' (first | with_reducible assumption | with_reducible apply wf_of_mem (State.complete_mem ..) | with_reducible apply wf_of_mem (State.lsCorrected_mem ..) | with_reducible apply State.lsUncorr_wf | with_reducible apply wf_of_mem (State.chanEvent_mem ..) | with_reducible apply wf_of_mem (State.setEng_mem ..) | with_reducible apply wf_of_mem (State.freeNext_mem ..) | with_reducible apply wf_of_mem (State.wrN_mem ..) | with_reducible apply State.MemOk.ite | fail_if_no_progress with_reducible refine State.MemOk.mk ?_ | split | dsimp only)

theorem State.bceFail_mem (s : State) (err : Nat) : (State.bceFail s err).mem = s.mem := by
  show State.MemAs (State.bceFail s err) s
  unfold State.bceFail
  repeat' (first | with_reducible exact State.MemAs.refl _ | with_reducible assumption | with_reducible apply State.MemAs.step (State.raise_mem ..) | with_reducible apply State.MemAs.step (State.put_mem ..) | split | dsimp only)

theorem State.bceDone_mem (s : State) (c : BceCmd) (next : Nat) : (State.bceDone s c next).mem = s.mem := by
  show State.MemAs (State.bceDone s c next) s
  unfold State.bceDone
  repeat' (first | with_reducible exact State.MemAs.refl _ | with_reducible assumption | with_reducible apply State.MemAs.step (State.raiseIf_mem ..) | with_reducible apply State.MemAs.step (State.putAddr36_mem ..) | with_reducible apply State.MemAs.step (State.count_mem ..) | with_reducible apply State.MemAs.step (State.wrN_mem ..) | split | dsimp only)

theorem State.bceCount_mem (s : State) (n : Nat) : (State.bceCount s n).mem = s.mem := by
  show State.MemAs (State.bceCount s n) s
  unfold State.bceCount
  repeat' (first | with_reducible exact State.MemAs.refl _ | with_reducible assumption | with_reducible apply State.MemAs.step (State.countN_mem ..) | fail_if_no_progress with_reducible refine State.MemAs.mk ?_ | split | dsimp only)

theorem State.bceRow_wf (s : State) (a : Nat) (bs : List Byte) (hm0 : State.MemOk s) :
    State.MemOk (State.bceRow s a bs) := by
  unfold State.bceRow
  repeat' (first | with_reducible assumption | with_reducible apply State.dmaWrite_wf1 | with_reducible apply wf_of_mem (State.put_mem ..) | with_reducible apply State.MemOk.ite | split | dsimp only)

theorem State.bcePoison_mem (s : State) (srcPoison : List Nat) (src dst n : Nat) : (State.bcePoison s srcPoison src dst n).mem = s.mem := by
  show State.MemAs (State.bcePoison s srcPoison src dst n) s
  unfold State.bcePoison
  repeat' (first | with_reducible exact State.MemAs.refl _ | with_reducible assumption | with_reducible apply State.MemAs.step (State.putPoison_mem ..) | with_reducible apply State.MemAs.step (State.notePoisonRead_mem ..) | with_reducible apply State.MemAs.step (State.raise_mem ..) | with_reducible apply State.MemAs.step (State.count_mem ..) | with_reducible refine foldl_memAs _ (fun _ _ => ?_) ?_ | with_reducible apply State.MemAs.ite | split | dsimp only)

theorem State.bceCopy_wf (s : State) (c : BceCmd) (ps : List (Nat × Nat × Nat)) (hm0 : State.MemOk s) :
    State.MemOk (State.bceCopy s c ps) := by
  unfold State.bceCopy
  repeat' (first | with_reducible assumption | with_reducible apply wf_of_mem (State.bcePoison_mem ..) | with_reducible apply State.bceRow_wf | with_reducible apply wf_of_mem (State.bceCount_mem ..) | with_reducible refine foldl_wf _ (fun _ _ _ => ?_) _ _ ?_ | with_reducible apply State.MemOk.ite | split | dsimp only)

theorem State.bceFill_wf (s : State) (c : BceCmd) (ps : List (Nat × Nat × Nat)) (hm0 : State.MemOk s) :
    State.MemOk (State.bceFill s c ps) := by
  unfold State.bceFill
  repeat' (first | with_reducible assumption | with_reducible apply State.bceRow_wf | with_reducible apply wf_of_mem (State.bceCount_mem ..) | with_reducible refine foldl_wf _ (fun _ _ _ => ?_) _ _ ?_ | split | dsimp only)

theorem State.bcePace_mem (s : State) (c : BceCmd) : (State.bcePace s c).mem = s.mem := by
  show State.MemAs (State.bcePace s c) s
  unfold State.bcePace
  repeat' (first | with_reducible exact State.MemAs.refl _ | with_reducible assumption | fail_if_no_progress with_reducible refine State.MemAs.mk ?_ | split | dsimp only)

theorem State.bceExec_wf (s : State) (op a : Nat) (c : BceCmd) (hm0 : State.MemOk s) :
    State.MemOk (State.bceExec s op a c) := by
  unfold State.bceExec
  repeat' (first | with_reducible assumption | with_reducible apply wf_of_mem (State.bcePace_mem ..) | with_reducible apply State.bceFill_wf | with_reducible apply State.bceCopy_wf | with_reducible apply wf_of_mem (State.bceDone_mem ..) | with_reducible apply wf_of_mem (State.bceFail_mem ..) | with_reducible apply wf_of_mem (State.raise_mem ..) | with_reducible apply wf_of_mem (State.put_mem ..) | with_reducible apply State.MemOk.ite | fail_if_no_progress with_reducible refine State.MemOk.mk ?_ | split | dsimp only)

theorem State.bceRun_wf (op : Nat) (s : State) (hm0 : State.MemOk s) :
    State.MemOk (State.bceRun op s) := by
  unfold State.bceRun
  repeat' (first | with_reducible assumption | with_reducible apply State.bceExec_wf | with_reducible apply wf_of_mem (State.bceFail_mem ..) | with_reducible apply wf_of_mem (State.notePoisonRead_mem ..) | with_reducible apply State.MemOk.ite | split | dsimp only)

theorem bceNop_wf (s : State) (hm0 : State.MemOk s) :
    State.MemOk (bceNop s) := by
  unfold bceNop
  repeat' (first | with_reducible assumption | with_reducible apply State.bceRun_wf | split | dsimp only)

theorem bceCopy_wf (s : State) (hm0 : State.MemOk s) :
    State.MemOk (bceCopy s) := by
  unfold bceCopy
  repeat' (first | with_reducible assumption | with_reducible apply State.bceRun_wf | split | dsimp only)

theorem bceFill_wf (s : State) (hm0 : State.MemOk s) :
    State.MemOk (bceFill s) := by
  unfold bceFill
  repeat' (first | with_reducible assumption | with_reducible apply State.bceRun_wf | split | dsimp only)

theorem bceLink_wf (s : State) (hm0 : State.MemOk s) :
    State.MemOk (bceLink s) := by
  unfold bceLink
  repeat' (first | with_reducible assumption | with_reducible apply State.bceRun_wf | split | dsimp only)

theorem bceStop_wf (s : State) (hm0 : State.MemOk s) :
    State.MemOk (bceStop s) := by
  unfold bceStop
  repeat' (first | with_reducible assumption | with_reducible apply State.bceRun_wf | split | dsimp only)

theorem bceStart_mem (s : State) : (bceStart s).mem = s.mem := by
  show State.MemAs (bceStart s) s
  unfold bceStart
  repeat' (first | with_reducible exact State.MemAs.refl _ | with_reducible assumption | with_reducible apply State.MemAs.step (State.raise_mem ..) | with_reducible apply State.MemAs.step (State.putAddr36_mem ..) | with_reducible apply State.MemAs.step (State.put_mem ..) | with_reducible apply State.MemAs.ite | fail_if_no_progress with_reducible refine State.MemAs.mk ?_ | split | dsimp only)

theorem State.bcePart_wf (s : State) (hm0 : State.MemOk s) :
    State.MemOk (State.bcePart s) := by
  unfold State.bcePart
  repeat' (first | with_reducible assumption | with_reducible apply State.bceFill_wf | with_reducible apply State.bceCopy_wf | with_reducible apply wf_of_mem (State.freeNext_mem ..) | with_reducible apply State.MemOk.ite | split | dsimp only)

theorem bceAbort_wf (s : State) (hm0 : State.MemOk s) :
    State.MemOk (bceAbort s) := by
  unfold bceAbort
  repeat' (first | with_reducible assumption | with_reducible apply State.bcePart_wf | with_reducible apply wf_of_mem (State.put_mem ..) | with_reducible apply State.MemOk.ite | split | dsimp only)

theorem State.checkTelemetry_mem1 (s : State) (n : Nat) (pl : List Byte) : (State.checkTelemetry s n pl).1.mem = s.mem := by
  show State.MemAs (State.checkTelemetry s n pl).1 s
  unfold State.checkTelemetry
  repeat' (first | with_reducible exact State.MemAs.refl _ | with_reducible assumption | with_reducible apply State.MemAs.step (State.raise_mem ..) | with_reducible apply State.MemAs.step (State.count_mem ..) | with_reducible apply State.MemAs.step (State.wrN_mem ..) | split | dsimp only)

theorem State.checkTelemetry_fst {s : State} {n : Nat} {pl : List Byte} {tr : State} {xr : TelemResult} (h : State.checkTelemetry s n pl = (tr, xr)) : tr.mem = s.mem := by
  have h1 := State.checkTelemetry_mem1  s n pl
  rw [h] at h1
  exact h1

theorem State.ckuFail_mem (s : State) (err : Nat) : (State.ckuFail s err).mem = s.mem := by
  show State.MemAs (State.ckuFail s err) s
  unfold State.ckuFail
  repeat' (first | with_reducible exact State.MemAs.refl _ | with_reducible assumption | with_reducible apply State.MemAs.step (State.raise_mem ..) | with_reducible apply State.MemAs.step (State.put_mem ..) | split | dsimp only)

theorem State.ckuStart_mem (s : State) (op ctx : Nat) (cont : Bool) : (State.ckuStart s op ctx cont).mem = s.mem := by
  show State.MemAs (State.ckuStart s op ctx cont) s
  unfold State.ckuStart
  repeat' (first | with_reducible exact State.MemAs.refl _ | with_reducible assumption | with_reducible apply State.MemAs.step (State.ckuFail_mem ..) | with_reducible apply State.MemAs.step (State.raise_mem ..) | with_reducible apply State.MemAs.step (State.put_mem ..) | with_reducible apply State.MemAs.ite | fail_if_no_progress with_reducible refine State.MemAs.mk ?_ | split | dsimp only)

theorem ckuCompute_mem (ctx : Nat) (cont : Bool) (s : State) : (ckuCompute ctx cont s).mem = s.mem := by
  show State.MemAs (ckuCompute ctx cont s) s
  unfold ckuCompute
  repeat' (first | with_reducible exact State.MemAs.refl _ | with_reducible assumption | with_reducible apply State.MemAs.step (State.ckuStart_mem ..) | split | dsimp only)

theorem ckuAppend_mem (ctx : Nat) (cont : Bool) (s : State) : (ckuAppend ctx cont s).mem = s.mem := by
  show State.MemAs (ckuAppend ctx cont s) s
  unfold ckuAppend
  repeat' (first | with_reducible exact State.MemAs.refl _ | with_reducible assumption | with_reducible apply State.MemAs.step (State.ckuStart_mem ..) | split | dsimp only)

theorem ckuCheck_mem (ctx : Nat) (cont : Bool) (s : State) : (ckuCheck ctx cont s).mem = s.mem := by
  show State.MemAs (ckuCheck ctx cont s) s
  unfold ckuCheck
  repeat' (first | with_reducible exact State.MemAs.refl _ | with_reducible assumption | with_reducible apply State.MemAs.step (State.ckuStart_mem ..) | split | dsimp only)

theorem State.ckuResult_mem (s : State) (j : CkuJob) : (State.ckuResult s j).mem = s.mem := by
  show State.MemAs (State.ckuResult s j) s
  unfold State.ckuResult
  repeat' (first | with_reducible exact State.MemAs.refl _ | with_reducible assumption | with_reducible apply State.MemAs.step (State.putB_mem ..) | with_reducible apply State.MemAs.step (State.wrN_mem ..) | with_reducible apply State.MemAs.ite | split | dsimp only)

theorem ckuJobDone_mem (s : State) : (ckuJobDone s).mem = s.mem := by
  show State.MemAs (ckuJobDone s) s
  unfold ckuJobDone
  repeat' (first | with_reducible exact State.MemAs.refl _ | with_reducible assumption | with_reducible apply State.MemAs.step (State.ckuResult_mem ..) | with_reducible apply State.MemAs.step (State.ckuFail_mem ..) | with_reducible apply State.MemAs.step (State.notePoisonRead_mem ..) | with_reducible apply State.MemAs.step (State.raise_mem ..) | with_reducible apply State.MemAs.step (State.put_mem ..) | with_reducible apply State.MemAs.ite | fail_if_no_progress with_reducible refine State.MemAs.mk ?_ | split | dsimp only)

theorem ckuCtxWrite_mem (n : Nat) (isRun : Bool) (val : Word) (s : State) : (ckuCtxWrite n isRun val s).mem = s.mem := by
  show State.MemAs (ckuCtxWrite n isRun val s) s
  unfold ckuCtxWrite
  repeat' (first | with_reducible exact State.MemAs.refl _ | with_reducible assumption | with_reducible apply State.MemAs.step (State.raise_mem ..) | with_reducible apply State.MemAs.step (State.put_mem ..) | with_reducible apply State.MemAs.step (State.wrN_mem ..) | with_reducible apply State.MemAs.step (State.wr_mem ..) | with_reducible apply State.MemAs.ite | split | dsimp only)

theorem State.dcoShow_mem (s : State) (j : DcoJob) : (State.dcoShow s j).mem = s.mem := by
  show State.MemAs (State.dcoShow s j) s
  unfold State.dcoShow
  repeat' (first | with_reducible exact State.MemAs.refl _ | with_reducible assumption | with_reducible apply State.MemAs.step (State.putAddr36_mem ..) | with_reducible apply State.MemAs.step (State.wrN_mem ..) | split | dsimp only)

theorem State.dcoFail_mem (s : State) (err : Nat) : (State.dcoFail s err).mem = s.mem := by
  show State.MemAs (State.dcoFail s err) s
  unfold State.dcoFail
  repeat' (first | with_reducible exact State.MemAs.refl _ | with_reducible assumption | with_reducible apply State.MemAs.step (State.raise_mem ..) | with_reducible apply State.MemAs.step (State.put_mem ..) | fail_if_no_progress with_reducible refine State.MemAs.mk ?_ | split | dsimp only)

theorem State.dcoStart_mem (s : State) (compress : Bool) : (State.dcoStart s compress).mem = s.mem := by
  show State.MemAs (State.dcoStart s compress) s
  unfold State.dcoStart
  repeat' (first | with_reducible exact State.MemAs.refl _ | with_reducible assumption | with_reducible apply State.MemAs.step (State.dcoFail_mem ..) | with_reducible apply State.MemAs.step (State.dcoShow_mem ..) | with_reducible apply State.MemAs.step (State.put_mem ..) | with_reducible apply State.MemAs.ite | fail_if_no_progress with_reducible refine State.MemAs.mk ?_ | split | dsimp only)

theorem dcoCompress_mem (s : State) : (dcoCompress s).mem = s.mem := by
  show State.MemAs (dcoCompress s) s
  unfold dcoCompress
  repeat' (first | with_reducible exact State.MemAs.refl _ | with_reducible assumption | with_reducible apply State.MemAs.step (State.dcoStart_mem ..) | split | dsimp only)

theorem dcoDecompress_mem (s : State) : (dcoDecompress s).mem = s.mem := by
  show State.MemAs (dcoDecompress s) s
  unfold dcoDecompress
  repeat' (first | with_reducible exact State.MemAs.refl _ | with_reducible assumption | with_reducible apply State.MemAs.step (State.dcoStart_mem ..) | split | dsimp only)

theorem dcoResume_mem (s : State) : (dcoResume s).mem = s.mem := by
  show State.MemAs (dcoResume s) s
  unfold dcoResume
  repeat' (first | with_reducible exact State.MemAs.refl _ | with_reducible assumption | with_reducible apply State.MemAs.step (State.dcoFail_mem ..) | with_reducible apply State.MemAs.step (State.dcoShow_mem ..) | with_reducible apply State.MemAs.step (State.put_mem ..) | with_reducible apply State.MemAs.ite | fail_if_no_progress with_reducible refine State.MemAs.mk ?_ | split | dsimp only)

theorem dcoAbort_mem (s : State) : (dcoAbort s).mem = s.mem := by
  show State.MemAs (dcoAbort s) s
  unfold dcoAbort
  repeat' (first | with_reducible exact State.MemAs.refl _ | with_reducible assumption | with_reducible apply State.MemAs.step (State.put_mem ..) | with_reducible apply State.MemAs.ite | fail_if_no_progress with_reducible refine State.MemAs.mk ?_ | split | dsimp only)

theorem State.dcoStore_wf (s : State) (out : List Byte) (j : DcoJob) (hm0 : State.MemOk s) :
    State.MemOk (State.dcoStore s out j) := by
  unfold State.dcoStore
  repeat' (first | with_reducible assumption | with_reducible apply wf_of_mem (State.dcoShow_mem ..) | with_reducible apply State.dmaWrite_wf1 | with_reducible apply wf_of_mem (State.put_mem ..) | with_reducible apply State.MemOk.ite | fail_if_no_progress with_reducible refine State.MemOk.mk ?_ | split | dsimp only)

theorem dcoOutFull_wf (s : State) (hm0 : State.MemOk s) :
    State.MemOk (dcoOutFull s) := by
  unfold dcoOutFull
  repeat' (first | with_reducible assumption | with_reducible apply State.dcoStore_wf | with_reducible apply wf_of_mem (State.dcoFail_mem ..) | with_reducible apply wf_of_mem (State.raise_mem ..) | with_reducible apply wf_of_mem (State.put_mem ..) | with_reducible apply State.MemOk.ite | fail_if_no_progress with_reducible refine State.MemOk.mk ?_ | split | dsimp only)

theorem dcoJobDone_wf (s : State) (hm0 : State.MemOk s) :
    State.MemOk (dcoJobDone s) := by
  unfold dcoJobDone
  repeat' (first | with_reducible assumption | with_reducible apply State.dcoStore_wf | with_reducible apply wf_of_mem (State.dcoFail_mem ..) | with_reducible apply wf_of_mem (State.notePoisonRead_mem ..) | with_reducible apply wf_of_mem (State.raise_mem ..) | with_reducible apply wf_of_mem (State.put_mem ..) | with_reducible apply State.MemOk.ite | fail_if_no_progress with_reducible refine State.MemOk.mk ?_ | split | dsimp only)

end Sys2Proof.Machine
end

