-- ==== Sys2Proof/Laws/Keeps4.lean ====
section
/-!
SUPPORT. What the operations of NetBase, NetSinks, Net, Decoder, Encoder, Csu do to device memory: those that cannot store leave it as it was,
and those that can keep it in canonical form.
-/

set_option linter.unusedTactic false
set_option linter.unreachableTactic false
set_option linter.unusedVariables false

namespace Sys2Proof.Machine

theorem State.rxError_mem (s : State) (p : Nat) : (State.rxError s p).mem = s.mem := by
  show State.MemAs (State.rxError s p) s
  unfold State.rxError
  repeat' (first | with_reducible exact State.MemAs.refl _ | with_reducible assumption | with_reducible apply State.MemAs.step (State.raiseMask_mem ..) | with_reducible apply State.MemAs.step (State.count_mem ..) | with_reducible apply State.MemAs.ite | fail_if_no_progress with_reducible refine State.MemAs.mk ?_ | split | dsimp only)

theorem State.showNodes_mem (s : State) : (State.showNodes s).mem = s.mem := by
  show State.MemAs (State.showNodes s) s
  unfold State.showNodes
  repeat' (first | with_reducible exact State.MemAs.refl _ | with_reducible assumption | with_reducible apply State.MemAs.step (State.wrN_mem ..) | split | dsimp only)

theorem State.forgetNodes_mem (s : State) : (State.forgetNodes s).mem = s.mem := by
  show State.MemAs (State.forgetNodes s) s
  unfold State.forgetNodes
  repeat' (first | with_reducible exact State.MemAs.refl _ | with_reducible assumption | with_reducible apply State.MemAs.step (State.showNodes_mem ..) | fail_if_no_progress with_reducible refine State.MemAs.mk ?_ | split | dsimp only)

theorem State.prpNode_mem1 (s : State) (p addr seq : Nat) (ptp : Bool) : (State.prpNode s p addr seq ptp).1.mem = s.mem := by
  show State.MemAs (State.prpNode s p addr seq ptp).1 s
  unfold State.prpNode
  repeat' (first | with_reducible exact State.MemAs.refl _ | with_reducible assumption | with_reducible apply State.MemAs.step (State.forgetNodes_mem ..) | with_reducible apply State.MemAs.step (State.showNodes_mem ..) | with_reducible apply State.MemAs.step (State.raiseMask_mem ..) | with_reducible apply State.MemAs.step (State.count_mem ..) | fail_if_no_progress with_reducible refine State.MemAs.mk ?_ | split | dsimp only)

theorem State.prpNode_fst {s : State} {p addr seq : Nat} {ptp : Bool} {tr : State} {xr : Bool} (h : State.prpNode s p addr seq ptp = (tr, xr)) : tr.mem = s.mem := by
  have h1 := State.prpNode_mem1  s p addr seq ptp
  rw [h] at h1
  exact h1

theorem prpLanLost_mem (node p : Nat) (s : State) : (prpLanLost node p s).mem = s.mem := by
  show State.MemAs (prpLanLost node p s) s
  unfold prpLanLost
  repeat' (first | with_reducible exact State.MemAs.refl _ | with_reducible assumption | with_reducible apply State.MemAs.step (State.raiseMask_mem ..) | with_reducible apply State.MemAs.ite | fail_if_no_progress with_reducible refine State.MemAs.mk ?_ | split | dsimp only)

theorem prpNodeForget_mem (node : Nat) (s : State) : (prpNodeForget node s).mem = s.mem := by
  show State.MemAs (prpNodeForget node s) s
  unfold prpNodeForget
  repeat' (first | with_reducible exact State.MemAs.refl _ | with_reducible assumption | with_reducible apply State.MemAs.step (State.showNodes_mem ..) | with_reducible apply State.MemAs.ite | fail_if_no_progress with_reducible refine State.MemAs.mk ?_ | split | dsimp only)

theorem State.setFlowCount_mem (s : State) (c : FlowCount) : (State.setFlowCount s c).mem = s.mem := by
  show State.MemAs (State.setFlowCount s c) s
  unfold State.setFlowCount
  repeat' (first | with_reducible exact State.MemAs.refl _ | with_reducible assumption | fail_if_no_progress with_reducible refine State.MemAs.mk ?_ | split | dsimp only)

theorem State.ctxGreen_mem (s : State) (n : Nat) : (State.ctxGreen s n).mem = s.mem := by
  show State.MemAs (State.ctxGreen s n) s
  unfold State.ctxGreen
  repeat' (first | with_reducible exact State.MemAs.refl _ | with_reducible assumption | with_reducible apply State.MemAs.step (State.setFlowCount_mem ..) | fail_if_no_progress with_reducible refine State.MemAs.mk ?_ | split | dsimp only)

theorem State.ctxDropped_mem (s : State) (n : Nat) : (State.ctxDropped s n).mem = s.mem := by
  show State.MemAs (State.ctxDropped s n) s
  unfold State.ctxDropped
  repeat' (first | with_reducible exact State.MemAs.refl _ | with_reducible assumption | with_reducible apply State.MemAs.step (State.setFlowCount_mem ..) | fail_if_no_progress with_reducible refine State.MemAs.mk ?_ | split | dsimp only)

theorem State.setBucket_mem (s : State) (b : Bucket) : (State.setBucket s b).mem = s.mem := by
  show State.MemAs (State.setBucket s b) s
  unfold State.setBucket
  repeat' (first | with_reducible exact State.MemAs.refl _ | with_reducible assumption | fail_if_no_progress with_reducible refine State.MemAs.mk ?_ | split | dsimp only)

theorem sieveRefill_mem (s : State) : (sieveRefill s).mem = s.mem := by
  show State.MemAs (sieveRefill s) s
  unfold sieveRefill
  repeat' (first | with_reducible exact State.MemAs.refl _ | with_reducible assumption | with_reducible apply State.MemAs.ite | fail_if_no_progress with_reducible refine State.MemAs.mk ?_ | split | dsimp only)

theorem State.meterFrame_mem1 (s : State) (c : FlowCtx) (len : Nat) : (State.meterFrame s c len).1.mem = s.mem := by
  show State.MemAs (State.meterFrame s c len).1 s
  unfold State.meterFrame
  repeat' (first | with_reducible exact State.MemAs.refl _ | with_reducible assumption | with_reducible apply State.MemAs.step (State.setBucket_mem ..) | fail_if_no_progress with_reducible refine State.MemAs.mk ?_ | split | dsimp only)

theorem State.meterFrame_fst {s : State} {c : FlowCtx} {len : Nat} {tr : State} {xr : Nat} (h : State.meterFrame s c len = (tr, xr)) : tr.mem = s.mem := by
  have h1 := State.meterFrame_mem1  s c len
  rw [h] at h1
  exact h1

theorem State.latchFlows_mem (s : State) : (State.latchFlows s).mem = s.mem := by
  show State.MemAs (State.latchFlows s) s
  unfold State.latchFlows
  repeat' (first | with_reducible exact State.MemAs.refl _ | with_reducible assumption | fail_if_no_progress with_reducible refine State.MemAs.mk ?_ | split | dsimp only)

theorem State.showLoss_mem (s : State) : (State.showLoss s).mem = s.mem := by
  show State.MemAs (State.showLoss s) s
  unfold State.showLoss
  repeat' (first | with_reducible exact State.MemAs.refl _ | with_reducible assumption | with_reducible apply State.MemAs.step (State.wrN_mem ..) | split | dsimp only)

theorem State.rankedLoss_mem (s : State) (ctx rank : Nat) : (State.rankedLoss s ctx rank).mem = s.mem := by
  show State.MemAs (State.rankedLoss s ctx rank) s
  unfold State.rankedLoss
  repeat' (first | with_reducible exact State.MemAs.refl _ | with_reducible assumption | with_reducible apply State.MemAs.step (State.showLoss_mem ..) | with_reducible apply State.MemAs.step (State.setFlowCount_mem ..) | with_reducible apply State.MemAs.step (State.raiseOnce_mem ..) | with_reducible apply State.MemAs.step (State.put_mem ..) | with_reducible apply State.MemAs.ite | fail_if_no_progress with_reducible refine State.MemAs.mk ?_ | split | dsimp only)

theorem State.showBuf_mem (s : State) (p : Nat) : (State.showBuf s p).mem = s.mem := by
  show State.MemAs (State.showBuf s p) s
  unfold State.showBuf
  repeat' (first | with_reducible exact State.MemAs.refl _ | with_reducible assumption | with_reducible apply State.MemAs.step (State.wrN_mem ..) | split | dsimp only)

theorem State.takeIn_mem (s : State) (p : Nat) (f : InFrame) : (State.takeIn s p f).mem = s.mem := by
  show State.MemAs (State.takeIn s p f) s
  unfold State.takeIn
  repeat' (first | with_reducible exact State.MemAs.refl _ | with_reducible assumption | with_reducible apply State.MemAs.step (State.showBuf_mem ..) | with_reducible apply State.MemAs.step (State.rankedLoss_mem ..) | with_reducible apply State.MemAs.step (State.ctxDropped_mem ..) | with_reducible apply State.MemAs.step (State.count_mem ..) | with_reducible apply State.MemAs.ite | fail_if_no_progress with_reducible refine State.MemAs.mk ?_ | split | dsimp only)

theorem State.classify_mem (s : State) (n p : Nat) (f : List Byte) (rct : Bool) (wire stamp : Nat) : (State.classify s n p f rct wire stamp).mem = s.mem := by
  show State.MemAs (State.classify s n p f rct wire stamp) s
  unfold State.classify
  repeat' (first | with_reducible exact State.MemAs.refl _ | with_reducible assumption | with_reducible apply State.MemAs.step (State.takeIn_mem ..) | with_reducible apply State.MemAs.step (State.meterFrame_mem1 ..) | with_reducible apply State.MemAs.step (State.ctxDropped_mem ..) | with_reducible apply State.MemAs.step (State.ctxGreen_mem ..) | with_reducible apply State.MemAs.step (State.raiseMask_mem ..) | with_reducible apply State.MemAs.step (State.count_mem ..) | with_reducible apply State.MemAs.ite | split | dsimp only)

theorem State.takeFrame_mem (s : State) (p : Nat) (f : List Byte) (capture : Nat) : (State.takeFrame s p f capture).mem = s.mem := by
  show State.MemAs (State.takeFrame s p f capture) s
  unfold State.takeFrame
  repeat' (first | with_reducible exact State.MemAs.refl _ | with_reducible assumption | with_reducible apply State.MemAs.step (State.classify_mem ..) | with_reducible apply State.MemAs.step (State.prpNode_mem1 ..) | with_reducible apply State.MemAs.step (State.raiseMask_mem ..) | with_reducible apply State.MemAs.step (State.count_mem ..) | with_reducible apply State.MemAs.ite | split | dsimp only)

theorem State.wakeMatch_mem (s : State) (p : Nat) (f : List Byte) : (State.wakeMatch s p f).mem = s.mem := by
  show State.MemAs (State.wakeMatch s p f) s
  unfold State.wakeMatch
  repeat' (first | with_reducible exact State.MemAs.refl _ | with_reducible assumption | with_reducible apply State.MemAs.step (State.wake_mem ..) | with_reducible apply State.MemAs.ite | split | dsimp only)

theorem rxFrame_mem (p : Nat) (bytes : List Byte) (capture : Nat) (s : State) : (rxFrame p bytes capture s).mem = s.mem := by
  show State.MemAs (rxFrame p bytes capture s) s
  unfold rxFrame
  repeat' (first | with_reducible exact State.MemAs.refl _ | with_reducible assumption | with_reducible apply State.MemAs.step (State.wakeMatch_mem ..) | with_reducible apply State.MemAs.step (State.takeFrame_mem ..) | with_reducible apply State.MemAs.step (State.rxError_mem ..) | with_reducible apply State.MemAs.step (State.count_mem ..) | with_reducible apply State.MemAs.ite | split | dsimp only)

theorem State.sinkTelem_mem (s : State) (f : InFrame) (udp : Option (List Byte)) : (State.sinkTelem s f udp).mem = s.mem := by
  show State.MemAs (State.sinkTelem s f udp) s
  unfold State.sinkTelem
  repeat' (first | with_reducible exact State.MemAs.refl _ | with_reducible assumption | with_reducible apply State.MemAs.step (State.ctxDropped_mem ..) | with_reducible apply State.MemAs.step (State.checkTelemetry_mem1 ..) | with_reducible apply State.MemAs.step (State.telemetry_mem ..) | with_reducible apply State.MemAs.step (State.raiseOnce_mem ..) | with_reducible apply State.MemAs.ite | split | dsimp only)

theorem State.setRtp_mem (s : State) (x : Nat) (f : RtpRx → RtpRx) : (State.setRtp s x f).mem = s.mem := by
  show State.MemAs (State.setRtp s x f) s
  unfold State.setRtp
  repeat' (first | with_reducible exact State.MemAs.refl _ | with_reducible assumption | fail_if_no_progress with_reducible refine State.MemAs.mk ?_ | split | dsimp only)

theorem State.endAu_wf (s : State) (c : FlowCtx) (hm0 : State.MemOk s) :
    State.MemOk (State.endAu s c) := by
  unfold State.endAu
  repeat' (first | with_reducible assumption | with_reducible apply wf_of_mem (State.setRtp_mem ..) | with_reducible apply State.dmaWrite_wf1 | with_reducible apply wf_of_mem (State.raiseOnce_mem ..) | with_reducible apply wf_of_mem (State.wrN_mem ..) | with_reducible apply State.MemOk.ite | fail_if_no_progress with_reducible refine State.MemOk.mk ?_ | split | dsimp only)

theorem State.takeRtp_wf (s : State) (f : InFrame) (c : FlowCtx) (b p : List Byte) (hm0 : State.MemOk s) :
    State.MemOk (State.takeRtp s f c b p) := by
  unfold State.takeRtp
  repeat' (first | with_reducible assumption | with_reducible apply State.endAu_wf | with_reducible apply wf_of_mem (State.setRtp_mem ..) | with_reducible apply wf_of_mem (State.ctxDropped_mem ..) | with_reducible apply wf_of_mem (State.raiseOnce_mem ..) | with_reducible apply State.MemOk.ite | fail_if_no_progress with_reducible refine State.MemOk.mk ?_ | split | dsimp only)

theorem State.sinkDecode_wf (s : State) (f : InFrame) (udp : Option (List Byte)) (hm0 : State.MemOk s) :
    State.MemOk (State.sinkDecode s f udp) := by
  unfold State.sinkDecode
  repeat' (first | with_reducible assumption | with_reducible apply State.takeRtp_wf | with_reducible apply wf_of_mem (State.ctxDropped_mem ..) | split | dsimp only)

theorem State.sinkHost_wf (s : State) (p : Nat) (f : InFrame) (hm0 : State.MemOk s) :
    State.MemOk (State.sinkHost s p f) := by
  unfold State.sinkHost
  repeat' (first | with_reducible assumption | with_reducible apply wf_of_mem (State.ctxDropped_mem ..) | with_reducible apply State.dmaWrite_wf1 | with_reducible apply wf_of_mem (State.raiseOnce_mem ..) | with_reducible apply wf_of_mem (State.count_mem ..) | with_reducible apply wf_of_mem (State.wrN_mem ..) | with_reducible apply State.MemOk.ite | split | dsimp only)

theorem State.deliverFrame_wf (s : State) (p : Nat) (f : InFrame) (hm0 : State.MemOk s) :
    State.MemOk (State.deliverFrame s p f) := by
  unfold State.deliverFrame
  repeat' (first | with_reducible assumption | with_reducible apply State.sinkHost_wf | with_reducible apply State.sinkDecode_wf | with_reducible apply wf_of_mem (State.sinkTelem_mem ..) | with_reducible apply wf_of_mem (State.ctxDropped_mem ..) | with_reducible apply State.tileDatagram_wf | split | dsimp only)

theorem State.drainFrame_wf (s : State) (p i : Nat) (hm0 : State.MemOk s) :
    State.MemOk (State.drainFrame s p i) := by
  unfold State.drainFrame
  repeat' (first | with_reducible assumption | with_reducible apply State.deliverFrame_wf | with_reducible apply wf_of_mem (State.showBuf_mem ..) | fail_if_no_progress with_reducible refine State.MemOk.mk ?_ | split | dsimp only)

theorem ingressDrain_wf (s : State) (hm0 : State.MemOk s) :
    State.MemOk (ingressDrain s) := by
  unfold ingressDrain
  repeat' (first | with_reducible assumption | with_reducible apply State.drainFrame_wf | split | dsimp only)

theorem State.drainAll_wf (s : State) (hm0 : State.MemOk s) :
    State.MemOk (State.drainAll s) := by
  unfold State.drainAll
  repeat' (first | with_reducible assumption | with_reducible apply ingressDrain_wf | with_reducible refine foldl_wf _ (fun _ _ _ => ?_) _ _ ?_ | split | dsimp only)

theorem State.setQueue_mem (s : State) (k : Nat) (f : Queue → Queue) : (State.setQueue s k f).mem = s.mem := by
  show State.MemAs (State.setQueue s k f) s
  unfold State.setQueue
  repeat' (first | with_reducible exact State.MemAs.refl _ | with_reducible assumption | fail_if_no_progress with_reducible refine State.MemAs.mk ?_ | split | dsimp only)

theorem State.settleQueueAt_mem (s : State) (k till : Nat) : (State.settleQueueAt s k till).mem = s.mem := by
  show State.MemAs (State.settleQueueAt s k till) s
  unfold State.settleQueueAt
  repeat' (first | with_reducible exact State.MemAs.refl _ | with_reducible assumption | with_reducible apply State.MemAs.step (State.setQueue_mem ..) | split | dsimp only)

theorem State.enqueue_mem (s : State) (k : Nat) (f : OutFrame) : (State.enqueue s k f).mem = s.mem := by
  show State.MemAs (State.enqueue s k f) s
  unfold State.enqueue
  repeat' (first | with_reducible exact State.MemAs.refl _ | with_reducible assumption | with_reducible apply State.MemAs.step (State.settleQueueAt_mem ..) | with_reducible apply State.MemAs.step (State.setQueue_mem ..) | with_reducible apply State.MemAs.ite | fail_if_no_progress with_reducible refine State.MemAs.mk ?_ | split | dsimp only)

theorem State.sendFrame_mem (s : State) (mask q : Nat) (f : OutFrame) : (State.sendFrame s mask q f).mem = s.mem := by
  show State.MemAs (State.sendFrame s mask q f) s
  unfold State.sendFrame
  repeat' (first | with_reducible exact State.MemAs.refl _ | with_reducible assumption | with_reducible apply State.MemAs.step (State.enqueue_mem ..) | with_reducible refine foldl_memAs _ (fun _ _ => ?_) ?_ | with_reducible apply State.MemAs.ite | fail_if_no_progress with_reducible refine State.MemAs.mk ?_ | split | dsimp only)

theorem State.pumpHtx_mem (s : State) (r x0 : Nat) : (State.pumpHtx s r x0).mem = s.mem := by
  induction x0 generalizing s with
  | zero => rfl
  | succ n ih =>
    have hn (b : Bool) (v : Nat) : ((if b then s.notePoisonRead 8 else s).wrN (NET_HTX_GET r) v).MemAs s := by
      cases b
      · exact State.wrN_mem ..
      · exact State.MemAs.step (State.wrN_mem ..) (State.notePoisonRead_mem ..)
    have hi (a b : State) (h : a.MemAs b) : (a.pumpHtx r n).MemAs b := State.MemAs.step (ih a) h
    show State.MemAs (State.pumpHtx s r (n + 1)) s
    unfold State.pumpHtx
    extract_lets
    refine State.MemAs.ite (State.MemAs.refl _) ?_
    extract_lets
    refine State.MemAs.ite (hi _ _ (State.MemAs.step (State.raiseOnce_mem ..) (State.MemAs.step (State.count_mem ..) (hn ..))))
      (State.MemAs.ite (State.MemAs.refl _) (hi _ _ (State.MemAs.step (State.sendFrame_mem ..) (hn ..))))

theorem htxPut_mem (r : Nat) (val : Word) (s : State) : (htxPut r val s).mem = s.mem := by
  show State.MemAs (htxPut r val s) s
  unfold htxPut
  repeat' (first | with_reducible exact State.MemAs.refl _ | with_reducible assumption | with_reducible apply State.MemAs.step (State.pumpHtx_mem ..) | with_reducible apply State.MemAs.step (State.wrN_mem ..) | with_reducible apply State.MemAs.ite | split | dsimp only)

theorem State.setEncTx_mem (s : State) (e : Nat) (f : EncTx → EncTx) : (State.setEncTx s e f).mem = s.mem := by
  show State.MemAs (State.setEncTx s e f) s
  unfold State.setEncTx
  repeat' (first | with_reducible exact State.MemAs.refl _ | with_reducible assumption | fail_if_no_progress with_reducible refine State.MemAs.mk ?_ | split | dsimp only)

theorem State.encSettle_mem (s : State) (e : Nat) : (State.encSettle s e).mem = s.mem := by
  show State.MemAs (State.encSettle s e) s
  unfold State.encSettle
  repeat' (first | with_reducible exact State.MemAs.refl _ | with_reducible assumption | with_reducible apply State.MemAs.step (State.setEncTx_mem ..) | with_reducible apply State.MemAs.step (State.wrN_mem ..) | with_reducible apply State.MemAs.ite | fail_if_no_progress with_reducible refine State.MemAs.mk ?_ | split | dsimp only)

theorem State.queuePackets_mem (s : State) (e : Nat) (c : FlowCtx) (t : List Byte) (ts : Nat) (ps : List (List Byte)) (x0 : Nat) :
    (State.queuePackets s e c t ts ps x0).mem = s.mem := by
  induction x0 generalizing s with
  | zero => rfl
  | succ n ih =>
    have hi (a b : State) (h : a.MemAs b) : (a.queuePackets e c t ts ps n).MemAs b := State.MemAs.step (ih a) h
    show State.MemAs (State.queuePackets s e c t ts ps (n + 1)) s
    unfold State.queuePackets
    extract_lets
    refine State.MemAs.ite (State.MemAs.step (State.encSettle_mem ..) (State.setEncTx_mem ..)) ?_
    refine State.MemAs.ite (State.MemAs.refl _) ?_
    extract_lets
    exact hi _ _ (State.MemAs.step (State.setEncTx_mem ..) (State.sendFrame_mem ..))

theorem encTxAu_mem (e : Nat) (s : State) : (encTxAu e s).mem = s.mem := by
  show State.MemAs (encTxAu e s) s
  unfold encTxAu
  repeat' (first | with_reducible exact State.MemAs.refl _ | with_reducible assumption | with_reducible apply State.MemAs.step (State.queuePackets_mem ..) | with_reducible apply State.MemAs.step (State.notePoisonRead_mem ..) | with_reducible apply State.MemAs.ite | split | dsimp only)

theorem State.showHist_mem (s : State) : (State.showHist s).mem = s.mem := by
  show State.MemAs (State.showHist s) s
  unfold State.showHist
  repeat' (first | with_reducible exact State.MemAs.refl _ | with_reducible assumption | with_reducible apply State.MemAs.step (State.wrN_mem ..) | split | dsimp only)

theorem State.setHist_mem (s : State) (i v : Nat) : (State.setHist s i v).mem = s.mem := by
  show State.MemAs (State.setHist s i v) s
  unfold State.setHist
  repeat' (first | with_reducible exact State.MemAs.refl _ | with_reducible assumption | with_reducible apply State.MemAs.step (State.showHist_mem ..) | fail_if_no_progress with_reducible refine State.MemAs.mk ?_ | split | dsimp only)

theorem State.histAdd_mem (s : State) (k kind b : Nat) : (State.histAdd s k kind b).mem = s.mem := by
  show State.MemAs (State.histAdd s k kind b) s
  unfold State.histAdd
  repeat' (first | with_reducible exact State.MemAs.refl _ | with_reducible assumption | with_reducible apply State.MemAs.step (State.setHist_mem ..) | with_reducible apply State.MemAs.ite | split | dsimp only)

theorem histSample_mem (s : State) : (histSample s).mem = s.mem := by
  show State.MemAs (histSample s) s
  unfold histSample
  repeat' (first | with_reducible exact State.MemAs.refl _ | with_reducible assumption | with_reducible apply State.MemAs.step (State.histAdd_mem ..) | with_reducible refine foldl_memAs _ (fun _ _ => ?_) ?_ | with_reducible apply State.MemAs.ite | fail_if_no_progress with_reducible refine State.MemAs.mk ?_ | split | dsimp only)

theorem State.showTsq_mem (s : State) (p : Nat) : (State.showTsq s p).mem = s.mem := by
  show State.MemAs (State.showTsq s p) s
  unfold State.showTsq
  repeat' (first | with_reducible exact State.MemAs.refl _ | with_reducible assumption | with_reducible apply State.MemAs.step (State.put_mem ..) | with_reducible apply State.MemAs.step (State.wrN_mem ..) | split | dsimp only)

theorem State.pushStamp_mem (s : State) (p : Nat) (e : TxStamp) : (State.pushStamp s p e).mem = s.mem := by
  show State.MemAs (State.pushStamp s p e) s
  unfold State.pushStamp
  repeat' (first | with_reducible exact State.MemAs.refl _ | with_reducible assumption | with_reducible apply State.MemAs.step (State.showTsq_mem ..) | with_reducible apply State.MemAs.step (State.raiseOnce_mem ..) | with_reducible apply State.MemAs.step (State.count_mem ..) | with_reducible apply State.MemAs.step (State.put_mem ..) | with_reducible apply State.MemAs.ite | fail_if_no_progress with_reducible refine State.MemAs.mk ?_ | split | dsimp only)

theorem tsqPop_mem (p : Nat) (s : State) : (tsqPop p s).mem = s.mem := by
  show State.MemAs (tsqPop p s) s
  unfold tsqPop
  repeat' (first | with_reducible exact State.MemAs.refl _ | with_reducible assumption | with_reducible apply State.MemAs.step (State.showTsq_mem ..) | with_reducible apply State.MemAs.ite | fail_if_no_progress with_reducible refine State.MemAs.mk ?_ | split | dsimp only)

theorem State.outDone_mem (s : State) (f : OutFrame) : (State.outDone s f).mem = s.mem := by
  show State.MemAs (State.outDone s f) s
  unfold State.outDone
  repeat' (first | with_reducible exact State.MemAs.refl _ | with_reducible assumption | with_reducible apply State.MemAs.step (State.encSettle_mem ..) | with_reducible apply State.MemAs.step (State.setEncTx_mem ..) | fail_if_no_progress with_reducible refine State.MemAs.mk ?_ | split | dsimp only)

theorem State.pumpAll_mem (s : State) : (State.pumpAll s).mem = s.mem := by
  show State.MemAs (State.pumpAll s) s
  unfold State.pumpAll
  repeat' (first | with_reducible exact State.MemAs.refl _ | with_reducible assumption | with_reducible apply State.MemAs.step (State.pumpHtx_mem ..) | with_reducible refine foldl_memAs _ (fun _ _ => ?_) ?_ | split | dsimp only)

theorem State.sendFront_mem (s1 : State) (p k t capture : Nat) (f : OutFrame) (rest : List OutFrame) : (State.sendFront s1 p k t capture f rest).mem = s1.mem := by
  show State.MemAs (State.sendFront s1 p k t capture f rest) s1
  unfold State.sendFront
  repeat' (first | with_reducible exact State.MemAs.refl _ | with_reducible assumption | with_reducible apply State.MemAs.step (State.pumpAll_mem ..) | with_reducible apply State.MemAs.step (State.outDone_mem ..) | with_reducible apply State.MemAs.step (State.pushStamp_mem ..) | with_reducible apply State.MemAs.step (State.histAdd_mem ..) | with_reducible apply State.MemAs.step (State.setQueue_mem ..) | with_reducible apply State.MemAs.step (State.count_mem ..) | fail_if_no_progress with_reducible refine State.MemAs.mk ?_ | split | dsimp only)

theorem State.settlePort_mem (s : State) (p t : Nat) : (State.settlePort s p t).mem = s.mem := by
  show State.MemAs (State.settlePort s p t) s
  unfold State.settlePort
  repeat' (first | with_reducible exact State.MemAs.refl _ | with_reducible assumption | with_reducible apply State.MemAs.step (State.settleQueueAt_mem ..) | with_reducible refine foldl_memAs _ (fun _ _ => ?_) ?_ | split | dsimp only)

theorem txFrame_mem (p capture : Nat) (s : State) : (txFrame p capture s).mem = s.mem := by
  show State.MemAs (txFrame p capture s) s
  unfold txFrame
  repeat' (first | with_reducible exact State.MemAs.refl _ | with_reducible assumption | with_reducible apply State.MemAs.step (State.settlePort_mem ..) | with_reducible apply State.MemAs.step (State.sendFront_mem ..) | with_reducible apply State.MemAs.ite | split | dsimp only)

theorem egressDelayDrop_mem (p q : Nat) (s : State) : (egressDelayDrop p q s).mem = s.mem := by
  show State.MemAs (egressDelayDrop p q s) s
  unfold egressDelayDrop
  repeat' (first | with_reducible exact State.MemAs.refl _ | with_reducible assumption | with_reducible apply State.MemAs.step (State.pumpAll_mem ..) | with_reducible apply State.MemAs.step (State.outDone_mem ..) | with_reducible apply State.MemAs.step (State.settleQueueAt_mem ..) | with_reducible apply State.MemAs.step (State.setQueue_mem ..) | with_reducible apply State.MemAs.step (State.rankedLoss_mem ..) | with_reducible apply State.MemAs.step (State.count_mem ..) | with_reducible apply State.MemAs.ite | fail_if_no_progress with_reducible refine State.MemAs.mk ?_ | split | dsimp only)

theorem State.discardEgress_mem (s : State) : (State.discardEgress s).mem = s.mem := by
  show State.MemAs (State.discardEgress s) s
  unfold State.discardEgress
  repeat' (first | with_reducible exact State.MemAs.refl _ | with_reducible assumption | with_reducible apply State.MemAs.step (State.outDone_mem ..) | with_reducible refine foldl_memAs _ (fun _ _ => ?_) ?_ | fail_if_no_progress with_reducible refine State.MemAs.mk ?_ | split | dsimp only)

theorem prpSupervisionSend_mem (s : State) : (prpSupervisionSend s).mem = s.mem := by
  show State.MemAs (prpSupervisionSend s) s
  unfold prpSupervisionSend
  repeat' (first | with_reducible exact State.MemAs.refl _ | with_reducible assumption | with_reducible apply State.MemAs.step (State.sendFrame_mem ..) | with_reducible apply State.MemAs.ite | fail_if_no_progress with_reducible refine State.MemAs.mk ?_ | split | dsimp only)

theorem portLinkUp_mem (p fec : Nat) (s : State) : (portLinkUp p fec s).mem = s.mem := by
  show State.MemAs (portLinkUp p fec s) s
  unfold portLinkUp
  repeat' (first | with_reducible exact State.MemAs.refl _ | with_reducible assumption | with_reducible apply State.MemAs.step (State.raiseMask_mem ..) | with_reducible apply State.MemAs.step (State.wrN_mem ..) | with_reducible apply State.MemAs.ite | split | dsimp only)

theorem portLinkDown_mem (p : Nat) (s : State) : (portLinkDown p s).mem = s.mem := by
  show State.MemAs (portLinkDown p s) s
  unfold portLinkDown
  repeat' (first | with_reducible exact State.MemAs.refl _ | with_reducible assumption | with_reducible apply State.MemAs.step (State.raiseMask_mem ..) | with_reducible apply State.MemAs.step (State.wrN_mem ..) | with_reducible apply State.MemAs.ite | split | dsimp only)

theorem State.flowRefuse_mem (s : State) (err : Nat) : (State.flowRefuse s err).mem = s.mem := by
  show State.MemAs (State.flowRefuse s err) s
  unfold State.flowRefuse
  repeat' (first | with_reducible exact State.MemAs.refl _ | with_reducible assumption | with_reducible apply State.MemAs.step (State.raiseOnce_mem ..) | with_reducible apply State.MemAs.step (State.put_mem ..) | split | dsimp only)

theorem State.flowGood_mem (s : State) : (State.flowGood s).mem = s.mem := by
  show State.MemAs (State.flowGood s) s
  unfold State.flowGood
  repeat' (first | with_reducible exact State.MemAs.refl _ | with_reducible assumption | with_reducible apply State.MemAs.step (State.put_mem ..) | split | dsimp only)

theorem flowRead_mem (s : State) : (flowRead s).mem = s.mem := by
  show State.MemAs (flowRead s) s
  unfold flowRead
  repeat' (first | with_reducible exact State.MemAs.refl _ | with_reducible assumption | with_reducible apply State.MemAs.step (State.flowGood_mem ..) | with_reducible apply State.MemAs.step (State.wrN_mem ..) | with_reducible refine foldl_memAs _ (fun _ _ => ?_) ?_ | split | dsimp only)

theorem flowReadClear_mem (s : State) : (flowReadClear s).mem = s.mem := by
  show State.MemAs (flowReadClear s) s
  unfold flowReadClear
  repeat' (first | with_reducible exact State.MemAs.refl _ | with_reducible assumption | with_reducible apply State.MemAs.step (flowRead_mem ..) | with_reducible apply State.MemAs.step (State.setFlowCount_mem ..) | split | dsimp only)

theorem State.putFlow_mem (s : State) (c : FlowCtx) : (State.putFlow s c).mem = s.mem := by
  show State.MemAs (State.putFlow s c) s
  unfold State.putFlow
  repeat' (first | with_reducible exact State.MemAs.refl _ | with_reducible assumption | with_reducible apply State.MemAs.step (State.flowGood_mem ..) | fail_if_no_progress with_reducible refine State.MemAs.mk ?_ | split | dsimp only)

theorem flowWrite_mem (s : State) : (flowWrite s).mem = s.mem := by
  show State.MemAs (flowWrite s) s
  unfold flowWrite
  repeat' (first | with_reducible exact State.MemAs.refl _ | with_reducible assumption | with_reducible apply State.MemAs.step (State.putFlow_mem ..) | with_reducible apply State.MemAs.step (State.flowRefuse_mem ..) | with_reducible apply State.MemAs.ite | fail_if_no_progress with_reducible refine State.MemAs.mk ?_ | split | dsimp only)

theorem State.setExact_mem (s : State) (l : List ExactEntry) : (State.setExact s l).mem = s.mem := by
  show State.MemAs (State.setExact s l) s
  unfold State.setExact
  repeat' (first | with_reducible exact State.MemAs.refl _ | with_reducible assumption | with_reducible apply State.MemAs.step (State.flowGood_mem ..) | with_reducible apply State.MemAs.step (State.wrN_mem ..) | fail_if_no_progress with_reducible refine State.MemAs.mk ?_ | split | dsimp only)

theorem exactAdd_mem (ctx : Nat) (s : State) : (exactAdd ctx s).mem = s.mem := by
  show State.MemAs (exactAdd ctx s) s
  unfold exactAdd
  repeat' (first | with_reducible exact State.MemAs.refl _ | with_reducible assumption | with_reducible apply State.MemAs.step (State.setExact_mem ..) | with_reducible apply State.MemAs.step (State.flowRefuse_mem ..) | with_reducible apply State.MemAs.ite | fail_if_no_progress with_reducible refine State.MemAs.mk ?_ | split | dsimp only)

theorem exactDelete_mem (s : State) : (exactDelete s).mem = s.mem := by
  show State.MemAs (exactDelete s) s
  unfold exactDelete
  repeat' (first | with_reducible exact State.MemAs.refl _ | with_reducible assumption | with_reducible apply State.MemAs.step (State.setExact_mem ..) | with_reducible apply State.MemAs.step (State.flowRefuse_mem ..) | with_reducible apply State.MemAs.ite | split | dsimp only)

theorem lossPop_mem (s : State) : (lossPop s).mem = s.mem := by
  show State.MemAs (lossPop s) s
  unfold lossPop
  repeat' (first | with_reducible exact State.MemAs.refl _ | with_reducible assumption | with_reducible apply State.MemAs.step (State.showLoss_mem ..) | fail_if_no_progress with_reducible refine State.MemAs.mk ?_ | split | dsimp only)

theorem State.setDec_mem (s : State) (x : Nat) (f : DecCtx → DecCtx) : (State.setDec s x f).mem = s.mem := by
  show State.MemAs (State.setDec s x f) s
  unfold State.setDec
  repeat' (first | with_reducible exact State.MemAs.refl _ | with_reducible assumption | fail_if_no_progress with_reducible refine State.MemAs.mk ?_ | split | dsimp only)

theorem State.decErr_mem (s : State) (x e : Nat) : (State.decErr s x e).mem = s.mem := by
  show State.MemAs (State.decErr s x e) s
  unfold State.decErr
  repeat' (first | with_reducible exact State.MemAs.refl _ | with_reducible assumption | with_reducible apply State.MemAs.step (State.put_mem ..) | split | dsimp only)

theorem State.trimPool_mem (s : State) : (State.trimPool s).mem = s.mem := by
  show State.MemAs (State.trimPool s) s
  unfold State.trimPool
  repeat' (first | with_reducible exact State.MemAs.refl _ | with_reducible assumption | with_reducible apply State.MemAs.step (State.wrN_mem ..) | fail_if_no_progress with_reducible refine State.MemAs.mk ?_ | split | dsimp only)

theorem State.putRecord_wf (s : State) (client base wrOff rdOff full ctx : Nat) (rest : List Byte) (hm0 : State.MemOk s) :
    State.MemOk (State.putRecord s client base wrOff rdOff full ctx rest) := by
  unfold State.putRecord
  repeat' (first | with_reducible assumption | with_reducible apply State.memWrite_wf | with_reducible apply wf_of_mem (State.raiseMask_mem ..) | with_reducible apply wf_of_mem (State.wrN_mem ..) | with_reducible apply State.MemOk.ite | split | dsimp only)

theorem State.decRecord_wf (s : State) (x : Nat) (rest : List Byte) (hm0 : State.MemOk s) :
    State.MemOk (State.decRecord s x rest) := by
  unfold State.decRecord
  repeat' (first | with_reducible assumption | with_reducible apply State.putRecord_wf | split | dsimp only)

theorem State.decNote_wf (s : State) (x kind code : Nat) (auNo ns sec : Nat) (hm0 : State.MemOk s) :
    State.MemOk (State.decNote s x kind code auNo ns sec) := by
  unfold State.decNote
  repeat' (first | with_reducible assumption | with_reducible apply State.decRecord_wf | split | dsimp only)

theorem State.outputPic_wf (s : State) (p : PoolPic) (hm0 : State.MemOk s) :
    State.MemOk (State.outputPic s p) := by
  unfold State.outputPic
  repeat' (first | with_reducible assumption | with_reducible apply State.decRecord_wf | with_reducible apply wf_of_mem (State.setDec_mem ..) | with_reducible apply State.camPicture_wf | with_reducible apply wf_of_mem (State.raiseMask_mem ..) | with_reducible apply wf_of_mem (State.count_mem ..) | fail_if_no_progress with_reducible refine State.MemOk.mk ?_ | split | dsimp only)

theorem State.flushCtx_wf (s : State) (x : Nat) (hm0 : State.MemOk s) :
    State.MemOk (State.flushCtx s x) := by
  unfold State.flushCtx
  repeat' (first | with_reducible assumption | with_reducible apply State.outputPic_wf | with_reducible refine foldl_wf _ (fun _ _ _ => ?_) _ _ ?_ | split | dsimp only)

theorem State.discardWaiting_mem (s : State) (x : Nat) : (State.discardWaiting s x).mem = s.mem := by
  show State.MemAs (State.discardWaiting s x) s
  unfold State.discardWaiting
  repeat' (first | with_reducible exact State.MemAs.refl _ | with_reducible assumption | fail_if_no_progress with_reducible refine State.MemAs.mk ?_ | split | dsimp only)

theorem State.enterWait_mem (s : State) (x code : Nat) : (State.enterWait s x code).mem = s.mem := by
  show State.MemAs (State.enterWait s x code) s
  unfold State.enterWait
  repeat' (first | with_reducible exact State.MemAs.refl _ | with_reducible assumption | with_reducible apply State.MemAs.step (State.setDec_mem ..) | with_reducible apply State.MemAs.step (State.raiseMask_mem ..) | with_reducible apply State.MemAs.step (State.put_mem ..) | fail_if_no_progress with_reducible refine State.MemAs.mk ?_ | split | dsimp only)

theorem State.settleCtx_wf (s : State) (x : Nat) (hm0 : State.MemOk s) :
    State.MemOk (State.settleCtx s x) := by
  unfold State.settleCtx
  repeat' (first | with_reducible assumption | with_reducible apply wf_of_mem (State.enterWait_mem ..) | with_reducible apply wf_of_mem (State.discardWaiting_mem ..) | with_reducible apply State.flushCtx_wf | with_reducible apply wf_of_mem (State.setDec_mem ..) | with_reducible apply wf_of_mem (State.put_mem ..) | with_reducible apply State.MemOk.ite | fail_if_no_progress with_reducible refine State.MemOk.mk ?_ | split | dsimp only)

theorem vdecPut_mem (x : Nat) (val : Word) (s : State) : (vdecPut x val s).mem = s.mem := by
  show State.MemAs (vdecPut x val s) s
  unfold vdecPut
  repeat' (first | with_reducible exact State.MemAs.refl _ | with_reducible assumption | with_reducible apply State.MemAs.step (State.wrN_mem ..) | with_reducible apply State.MemAs.ite | split | dsimp only)

theorem vdecFlush_wf (x : Nat) (s : State) (hm0 : State.MemOk s) :
    State.MemOk (vdecFlush x s) := by
  unfold vdecFlush
  repeat' (first | with_reducible assumption | with_reducible apply State.settleCtx_wf | with_reducible apply wf_of_mem (State.trimPool_mem ..) | with_reducible apply wf_of_mem (State.setDec_mem ..) | with_reducible apply State.MemOk.ite | fail_if_no_progress with_reducible refine State.MemOk.mk ?_ | split | dsimp only)

theorem vdecReset_wf (x : Nat) (s : State) (hm0 : State.MemOk s) :
    State.MemOk (vdecReset x s) := by
  unfold vdecReset
  repeat' (first | with_reducible assumption | with_reducible apply State.settleCtx_wf | with_reducible apply wf_of_mem (State.trimPool_mem ..) | with_reducible apply wf_of_mem (State.setDec_mem ..) | with_reducible apply State.MemOk.ite | fail_if_no_progress with_reducible refine State.MemOk.mk ?_ | split | dsimp only)

theorem State.decRefuse_mem (s : State) (x : Nat) : (State.decRefuse s x).mem = s.mem := by
  show State.MemAs (State.decRefuse s x) s
  unfold State.decRefuse
  repeat' (first | with_reducible exact State.MemAs.refl _ | with_reducible assumption | with_reducible apply State.MemAs.step (State.decErr_mem ..) | with_reducible apply State.MemAs.step (State.raiseMask_mem ..) | split | dsimp only)

theorem State.decCfgFields_mem (s : State) (x : Nat) (val : Word) : (State.decCfgFields s x val).mem = s.mem := by
  show State.MemAs (State.decCfgFields s x val) s
  unfold State.decCfgFields
  repeat' (first | with_reducible exact State.MemAs.refl _ | with_reducible assumption | with_reducible apply State.MemAs.step (State.wrN_mem ..) | split | dsimp only)

theorem vdecCtxEnable_mem (x : Nat) (val : Word) (s : State) : (vdecCtxEnable x val s).mem = s.mem := by
  show State.MemAs (vdecCtxEnable x val s) s
  unfold vdecCtxEnable
  repeat' (first | with_reducible exact State.MemAs.refl _ | with_reducible assumption | with_reducible apply State.MemAs.step (State.decCfgFields_mem ..) | with_reducible apply State.MemAs.step (State.decRefuse_mem ..) | with_reducible apply State.MemAs.step (State.enterWait_mem ..) | with_reducible apply State.MemAs.step (State.decErr_mem ..) | with_reducible apply State.MemAs.step (State.setDec_mem ..) | with_reducible apply State.MemAs.step (State.put_mem ..) | with_reducible apply State.MemAs.ite | fail_if_no_progress with_reducible refine State.MemAs.mk ?_ | split | dsimp only)

theorem vdecCtxDisable_wf (x : Nat) (val : Word) (s : State) (hm0 : State.MemOk s) :
    State.MemOk (vdecCtxDisable x val s) := by
  unfold vdecCtxDisable
  repeat' (first | with_reducible assumption | with_reducible apply wf_of_mem (State.decCfgFields_mem ..) | with_reducible apply State.settleCtx_wf | with_reducible apply wf_of_mem (State.trimPool_mem ..) | with_reducible apply wf_of_mem (State.setDec_mem ..) | with_reducible apply wf_of_mem (State.put_mem ..) | with_reducible apply State.MemOk.ite | fail_if_no_progress with_reducible refine State.MemOk.mk ?_ | split | dsimp only)

theorem State.decNext_mem (s : State) (x : Nat) : (State.decNext s x).mem = s.mem := by
  show State.MemAs (State.decNext s x) s
  unfold State.decNext
  repeat' (first | with_reducible exact State.MemAs.refl _ | with_reducible assumption | with_reducible apply State.MemAs.step (State.wrN_mem ..) | with_reducible apply State.MemAs.ite | split | dsimp only)

theorem State.skipBad_wf (s : State) (x x0 : Nat) (hm0 : State.MemOk s) : State.MemOk (State.skipBad s x x0) := by
  induction x0 generalizing s with
  | zero => exact hm0
  | succ n ih =>
    unfold State.skipBad
    split
    · exact ih _ (wf_of_mem (State.decNext_mem ..) (wf_of_mem (State.count_mem ..) (State.decNote_wf (hm0 := hm0) ..)))
    · exact hm0

theorem State.notePoolWait_mem (s : State) (info : List PicInfo) (x : Nat) : (State.notePoolWait s info x).mem = s.mem := by
  show State.MemAs (State.notePoolWait s info x) s
  unfold State.notePoolWait
  repeat' (first | with_reducible exact State.MemAs.refl _ | with_reducible assumption | with_reducible apply State.MemAs.step (State.decErr_mem ..) | with_reducible apply State.MemAs.step (State.setDec_mem ..) | with_reducible apply State.MemAs.step (State.raiseMask_mem ..) | with_reducible apply State.MemAs.step (State.put_mem ..) | with_reducible apply State.MemAs.ite | fail_if_no_progress with_reducible refine State.MemAs.mk ?_ | split | dsimp only)

theorem State.showCores_mem (s : State) : (State.showCores s).mem = s.mem := by
  show State.MemAs (State.showCores s) s
  unfold State.showCores
  repeat' (first | with_reducible exact State.MemAs.refl _ | with_reducible assumption | with_reducible apply State.MemAs.step (State.put_mem ..) | split | dsimp only)

theorem State.skipAllBad_wf (s : State) (x : Nat) (hm0 : State.MemOk s) :
    State.MemOk (State.skipAllBad s x) := by
  unfold State.skipAllBad
  repeat' (first | with_reducible assumption | with_reducible apply State.skipBad_wf | split | dsimp only)

theorem State.decReady_wf (s : State) (info : List PicInfo) (hm0 : State.MemOk s) :
    State.MemOk (State.decReady s info) := by
  unfold State.decReady
  repeat' (first | with_reducible assumption | with_reducible apply State.skipAllBad_wf | with_reducible apply wf_of_mem (State.notePoolWait_mem ..) | with_reducible apply wf_of_mem (State.trimPool_mem ..) | with_reducible refine foldl_wf _ (fun _ _ _ => ?_) _ _ ?_ | split | dsimp only)

theorem State.startDecode_mem (s1 : State) (core : Nat) (i : PicInfo) (x : Nat) : (State.startDecode s1 core i x).mem = s1.mem := by
  show State.MemAs (State.startDecode s1 core i x) s1
  unfold State.startDecode
  repeat' (first | with_reducible exact State.MemAs.refl _ | with_reducible assumption | with_reducible apply State.MemAs.step (State.showCores_mem ..) | with_reducible apply State.MemAs.step (State.decErr_mem ..) | with_reducible apply State.MemAs.step (State.notePoisonRead_mem ..) | with_reducible apply State.MemAs.step (State.raiseMask_mem ..) | with_reducible apply State.MemAs.ite | fail_if_no_progress with_reducible refine State.MemAs.mk ?_ | split | dsimp only)

theorem decodeStart_wf (core : Nat) (info : List PicInfo) (s : State) (hm0 : State.MemOk s) :
    State.MemOk (decodeStart core info s) := by
  unfold decodeStart
  repeat' (first | with_reducible assumption | with_reducible apply wf_of_mem (State.startDecode_mem ..) | with_reducible apply State.decReady_wf | with_reducible apply State.MemOk.ite | split | dsimp only)

theorem State.discardAu_wf (s : State) (j : DecJob) (code : Nat) (hm0 : State.MemOk s) :
    State.MemOk (State.discardAu s j code) := by
  unfold State.discardAu
  repeat' (first | with_reducible assumption | with_reducible apply State.decNote_wf | with_reducible apply wf_of_mem (State.count_mem ..) | split | dsimp only)

theorem State.decReports_mem (s : State) (x : Nat) (conc : Bool) (r : DecodeResult) : (State.decReports s x conc r).mem = s.mem := by
  show State.MemAs (State.decReports s x conc r) s
  unfold State.decReports
  repeat' (first | with_reducible exact State.MemAs.refl _ | with_reducible assumption | with_reducible apply State.MemAs.step (State.decErr_mem ..) | with_reducible apply State.MemAs.step (State.notePoisonRead_mem ..) | with_reducible apply State.MemAs.step (State.raiseMask_mem ..) | with_reducible apply State.MemAs.step (State.count_mem ..) | with_reducible apply State.MemAs.step (State.countN_mem ..) | with_reducible apply State.MemAs.ite | split | dsimp only)

theorem State.writePic_wf (s : State) (j : DecJob) (r : DecodeResult) (p : List Nat × List Nat × List Nat) (hm0 : State.MemOk s) :
    State.MemOk (State.writePic s j r p) := by
  unfold State.writePic
  repeat' (first | with_reducible assumption | with_reducible apply State.dmaWrite_wf1 | with_reducible refine foldl_wf _ (fun _ _ _ => ?_) _ _ ?_ | split | dsimp only)

theorem State.storePic_wf (s : State) (j : DecJob) (conc : Bool) (r : DecodeResult) (hm0 : State.MemOk s) :
    State.MemOk (State.storePic s j conc r) := by
  unfold State.storePic
  repeat' (first | with_reducible assumption | with_reducible apply State.writePic_wf | with_reducible apply wf_of_mem (State.setDec_mem ..) | fail_if_no_progress with_reducible refine State.MemOk.mk ?_ | split | dsimp only)

theorem State.keepRefs_mem (s : State) (x : Nat) (conc : Bool) (r : DecodeResult) : (State.keepRefs s x conc r).mem = s.mem := by
  show State.MemAs (State.keepRefs s x conc r) s
  unfold State.keepRefs
  repeat' (first | with_reducible exact State.MemAs.refl _ | with_reducible assumption | with_reducible apply State.MemAs.step (State.setDec_mem ..) | fail_if_no_progress with_reducible refine State.MemAs.mk ?_ | split | dsimp only)

theorem State.outputOrders_wf (s : State) (x : Nat) (l : List Int) (hm0 : State.MemOk s) :
    State.MemOk (State.outputOrders s x l) := by
  unfold State.outputOrders
  repeat' (first | with_reducible assumption | with_reducible apply State.outputPic_wf | with_reducible refine foldl_wf _ (fun _ _ _ => ?_) _ _ ?_ | split | dsimp only)

theorem State.decodeDone_wf (s : State) (j : DecJob) (r : DecodeResult) (hm0 : State.MemOk s) :
    State.MemOk (State.decodeDone s j r) := by
  unfold State.decodeDone
  repeat' (first | with_reducible assumption | with_reducible apply State.outputOrders_wf | with_reducible apply wf_of_mem (State.keepRefs_mem ..) | with_reducible apply State.storePic_wf | with_reducible apply wf_of_mem (State.decReports_mem ..) | with_reducible apply State.flushCtx_wf | with_reducible apply wf_of_mem (State.count_mem ..) | with_reducible apply wf_of_mem (State.putB_mem ..) | with_reducible apply State.MemOk.ite | split | dsimp only)

theorem State.freeCore_mem (s : State) (core : Nat) (j : DecJob) : (State.freeCore s core j).mem = s.mem := by
  show State.MemAs (State.freeCore s core j) s
  unfold State.freeCore
  repeat' (first | with_reducible exact State.MemAs.refl _ | with_reducible assumption | with_reducible apply State.MemAs.step (State.showCores_mem ..) | with_reducible apply State.MemAs.step (State.decNext_mem ..) | with_reducible apply State.MemAs.step (State.setDec_mem ..) | fail_if_no_progress with_reducible refine State.MemAs.mk ?_ | split | dsimp only)

theorem State.refuseDecode_wf (s1 : State) (j : DecJob) (r : DecodeResult) (code : Nat) (hm0 : State.MemOk s1) :
    State.MemOk (State.refuseDecode s1 j r code) := by
  unfold State.refuseDecode
  repeat' (first | with_reducible assumption | with_reducible apply State.discardAu_wf | with_reducible apply wf_of_mem (State.enterWait_mem ..) | with_reducible apply State.decNote_wf | with_reducible apply wf_of_mem (State.decErr_mem ..) | with_reducible apply wf_of_mem (State.raiseMask_mem ..) | with_reducible apply wf_of_mem (State.countN_mem ..) | with_reducible apply State.MemOk.ite | split | dsimp only)

theorem State.waitDecode_wf (s1 : State) (j : DecJob) (hm0 : State.MemOk s1) :
    State.MemOk (State.waitDecode s1 j) := by
  unfold State.waitDecode
  repeat' (first | with_reducible assumption | with_reducible apply State.discardAu_wf | with_reducible apply wf_of_mem (State.put_mem ..) | split | dsimp only)

theorem decodeComplete_wf (core : Nat) (r : DecodeResult) (s : State) (hm0 : State.MemOk s) :
    State.MemOk (decodeComplete core r s) := by
  unfold decodeComplete
  repeat' (first | with_reducible assumption | with_reducible apply State.waitDecode_wf | with_reducible apply State.refuseDecode_wf | with_reducible apply wf_of_mem (State.freeCore_mem ..) | with_reducible apply State.decodeDone_wf | with_reducible apply State.settleCtx_wf | with_reducible apply wf_of_mem (State.trimPool_mem ..) | with_reducible apply wf_of_mem (State.put_mem ..) | with_reducible apply State.MemOk.ite | split | dsimp only)

theorem State.countBusy_mem (s : State) : (State.countBusy s).mem = s.mem := by
  show State.MemAs (State.countBusy s) s
  unfold State.countBusy
  repeat' (first | with_reducible exact State.MemAs.refl _ | with_reducible assumption | with_reducible apply State.MemAs.step (State.countN_mem ..) | with_reducible refine foldl_memAs _ (fun _ _ => ?_) ?_ | fail_if_no_progress with_reducible refine State.MemAs.mk ?_ | split | dsimp only)

theorem State.latchPuts_mem (s : State) : (State.latchPuts s).mem = s.mem := by
  show State.MemAs (State.latchPuts s) s
  unfold State.latchPuts
  repeat' (first | with_reducible exact State.MemAs.refl _ | with_reducible assumption | fail_if_no_progress with_reducible refine State.MemAs.mk ?_ | split | dsimp only)

theorem State.setEnc_mem (s : State) (e : Nat) (f : EncCtx → EncCtx) : (State.setEnc s e f).mem = s.mem := by
  show State.MemAs (State.setEnc s e f) s
  unfold State.setEnc
  repeat' (first | with_reducible exact State.MemAs.refl _ | with_reducible assumption | fail_if_no_progress with_reducible refine State.MemAs.mk ?_ | split | dsimp only)

theorem State.encErr_mem (s : State) (e c : Nat) : (State.encErr s e c).mem = s.mem := by
  show State.MemAs (State.encErr s e c) s
  unfold State.encErr
  repeat' (first | with_reducible exact State.MemAs.refl _ | with_reducible assumption | with_reducible apply State.MemAs.step (State.put_mem ..) | split | dsimp only)

theorem State.encRefuse_mem (s : State) (e c : Nat) : (State.encRefuse s e c).mem = s.mem := by
  show State.MemAs (State.encRefuse s e c) s
  unfold State.encRefuse
  repeat' (first | with_reducible exact State.MemAs.refl _ | with_reducible assumption | with_reducible apply State.MemAs.step (State.encErr_mem ..) | with_reducible apply State.MemAs.step (State.raiseMask_mem ..) | split | dsimp only)

theorem State.encCfgFields_mem (s : State) (e : Nat) (val : Word) : (State.encCfgFields s e val).mem = s.mem := by
  show State.MemAs (State.encCfgFields s e val) s
  unfold State.encCfgFields
  repeat' (first | with_reducible exact State.MemAs.refl _ | with_reducible assumption | with_reducible apply State.MemAs.step (State.encRefuse_mem ..) | with_reducible apply State.MemAs.step (State.setEnc_mem ..) | with_reducible apply State.MemAs.step (State.wrN_mem ..) | with_reducible apply State.MemAs.ite | fail_if_no_progress with_reducible refine State.MemAs.mk ?_ | split | dsimp only)

theorem vencCtxEnable_mem (e : Nat) (val : Word) (s : State) : (vencCtxEnable e val s).mem = s.mem := by
  show State.MemAs (vencCtxEnable e val s) s
  unfold vencCtxEnable
  repeat' (first | with_reducible exact State.MemAs.refl _ | with_reducible assumption | with_reducible apply State.MemAs.step (State.encCfgFields_mem ..) | with_reducible apply State.MemAs.step (State.encRefuse_mem ..) | with_reducible apply State.MemAs.step (State.encErr_mem ..) | with_reducible apply State.MemAs.step (State.setEnc_mem ..) | with_reducible apply State.MemAs.step (State.put_mem ..) | with_reducible apply State.MemAs.ite | fail_if_no_progress with_reducible refine State.MemAs.mk ?_ | split | dsimp only)

theorem State.encDisable_mem (s : State) (e : Nat) (val : Word) : (State.encDisable s e val).mem = s.mem := by
  show State.MemAs (State.encDisable s e val) s
  unfold State.encDisable
  repeat' (first | with_reducible exact State.MemAs.refl _ | with_reducible assumption | with_reducible apply State.MemAs.step (State.encCfgFields_mem ..) | with_reducible apply State.MemAs.step (State.put_mem ..) | fail_if_no_progress with_reducible refine State.MemAs.mk ?_ | split | dsimp only)

theorem vencInPut_mem (e : Nat) (val : Word) (s : State) : (vencInPut e val s).mem = s.mem := by
  show State.MemAs (vencInPut e val s) s
  unfold vencInPut
  repeat' (first | with_reducible exact State.MemAs.refl _ | with_reducible assumption | with_reducible apply State.MemAs.step (State.wrN_mem ..) | with_reducible apply State.MemAs.ite | split | dsimp only)

theorem State.encRecord_wf (s : State) (e : Nat) (r : EncRec) (hm0 : State.MemOk s) :
    State.MemOk (State.encRecord s e r) := by
  unfold State.encRecord
  repeat' (first | with_reducible assumption | with_reducible apply State.putRecord_wf | with_reducible apply wf_of_mem (State.raiseMask_mem ..) | split | dsimp only)

theorem State.encNote_wf (s : State) (e kind code tag : Nat) (ts : Option (Nat × Nat)) (hm0 : State.MemOk s) :
    State.MemOk (State.encNote s e kind code tag ts) := by
  unfold State.encNote
  repeat' (first | with_reducible assumption | with_reducible apply State.encRecord_wf | with_reducible apply wf_of_mem (State.freeNext_mem ..) | split | dsimp only)

theorem State.loseEncode_wf (s : State) (e : Nat) (hm0 : State.MemOk s) :
    State.MemOk (State.loseEncode s e) := by
  unfold State.loseEncode
  repeat' (first | with_reducible assumption | with_reducible apply State.encNote_wf | with_reducible apply wf_of_mem (State.encErr_mem ..) | with_reducible apply wf_of_mem (State.raiseMask_mem ..) | with_reducible apply wf_of_mem (State.count_mem ..) | split | dsimp only)

theorem State.showEncCores_mem (s : State) : (State.showEncCores s).mem = s.mem := by
  show State.MemAs (State.showEncCores s) s
  unfold State.showEncCores
  repeat' (first | with_reducible exact State.MemAs.refl _ | with_reducible assumption | with_reducible apply State.MemAs.step (State.put_mem ..) | split | dsimp only)

theorem State.encAssign_mem (s : State) (c : Nat) : (State.encAssign s c).mem = s.mem := by
  show State.MemAs (State.encAssign s c) s
  unfold State.encAssign
  repeat' (first | with_reducible exact State.MemAs.refl _ | with_reducible assumption | with_reducible apply State.MemAs.step (State.showEncCores_mem ..) | with_reducible apply State.MemAs.ite | fail_if_no_progress with_reducible refine State.MemAs.mk ?_ | split | dsimp only)

theorem State.encQueue_mem (s : State) (j : EncJob) : (State.encQueue s j).mem = s.mem := by
  show State.MemAs (State.encQueue s j) s
  unfold State.encQueue
  repeat' (first | with_reducible exact State.MemAs.refl _ | with_reducible assumption | with_reducible apply State.MemAs.step (State.encAssign_mem ..) | fail_if_no_progress with_reducible refine State.MemAs.mk ?_ | split | dsimp only)

theorem State.encRepeat_mem (s : State) (e instant : Nat) : (State.encRepeat s e instant).mem = s.mem := by
  show State.MemAs (State.encRepeat s e instant) s
  unfold State.encRepeat
  repeat' (first | with_reducible exact State.MemAs.refl _ | with_reducible assumption | with_reducible apply State.MemAs.step (State.encQueue_mem ..) | with_reducible apply State.MemAs.step (State.setEnc_mem ..) | with_reducible apply State.MemAs.step (State.freeNext_mem ..) | with_reducible apply State.MemAs.ite | fail_if_no_progress with_reducible refine State.MemAs.mk ?_ | split | dsimp only)

theorem State.encCode_mem (s : State) (e instant : Nat) (d : EncIn) : (State.encCode s e instant d).mem = s.mem := by
  show State.MemAs (State.encCode s e instant d) s
  unfold State.encCode
  repeat' (first | with_reducible exact State.MemAs.refl _ | with_reducible assumption | with_reducible apply State.MemAs.step (State.encQueue_mem ..) | with_reducible apply State.MemAs.step (State.encErr_mem ..) | with_reducible apply State.MemAs.step (State.setEnc_mem ..) | with_reducible apply State.MemAs.step (State.notePoisonRead_mem ..) | with_reducible apply State.MemAs.step (State.raiseMask_mem ..) | with_reducible apply State.MemAs.ite | fail_if_no_progress with_reducible refine State.MemAs.mk ?_ | split | dsimp only)

theorem State.encodeAt_wf (s : State) (e t : Nat) (hm0 : State.MemOk s) :
    State.MemOk (State.encodeAt s e t) := by
  unfold State.encodeAt
  repeat' (first | with_reducible assumption | with_reducible apply wf_of_mem (State.encCode_mem ..) | with_reducible apply wf_of_mem (State.encRepeat_mem ..) | with_reducible apply State.loseEncode_wf | with_reducible apply State.encNote_wf | with_reducible apply wf_of_mem (State.encErr_mem ..) | with_reducible apply wf_of_mem (State.raiseMask_mem ..) | with_reducible apply wf_of_mem (State.wrN_mem ..) | with_reducible apply State.MemOk.ite | split | dsimp only)

theorem encodeInstant_wf (e : Nat) (s : State) (hm0 : State.MemOk s) :
    State.MemOk (encodeInstant e s) := by
  unfold encodeInstant
  repeat' (first | with_reducible assumption | with_reducible apply State.encodeAt_wf | with_reducible apply wf_of_mem (State.setEnc_mem ..) | with_reducible apply State.MemOk.ite | fail_if_no_progress with_reducible refine State.MemOk.mk ?_ | split | dsimp only)

theorem State.freeEncCore_mem (s : State) (core : Nat) : (State.freeEncCore s core).mem = s.mem := by
  show State.MemAs (State.freeEncCore s core) s
  unfold State.freeEncCore
  repeat' (first | with_reducible exact State.MemAs.refl _ | with_reducible assumption | with_reducible apply State.MemAs.step (State.showEncCores_mem ..) | fail_if_no_progress with_reducible refine State.MemAs.mk ?_ | split | dsimp only)

theorem State.finishEncode_wf (s : State) (j : EncJob) (c : CodeRun) (qp fill : Nat) (au : List Byte) (off : Nat) (hm0 : State.MemOk s) :
    State.MemOk (State.finishEncode s j c qp fill au off) := by
  unfold State.finishEncode
  repeat' (first | with_reducible assumption | with_reducible apply State.encRecord_wf | with_reducible apply wf_of_mem (State.setEnc_mem ..) | with_reducible apply State.dmaWrite_wf1 | with_reducible apply wf_of_mem (State.raiseMask_mem ..) | with_reducible apply wf_of_mem (State.count_mem ..) | with_reducible apply wf_of_mem (State.put_mem ..) | with_reducible apply wf_of_mem (State.wrN_mem ..) | with_reducible apply State.MemOk.ite | fail_if_no_progress with_reducible refine State.MemOk.mk ?_ | split | dsimp only)

theorem encodeComplete_wf (core : Nat) (r : EncodeResult) (s : State) (hm0 : State.MemOk s) :
    State.MemOk (encodeComplete core r s) := by
  unfold encodeComplete
  repeat' (first | with_reducible assumption | with_reducible apply State.finishEncode_wf | with_reducible apply wf_of_mem (State.freeEncCore_mem ..) | with_reducible apply wf_of_mem (State.encAssign_mem ..) | with_reducible apply State.loseEncode_wf | split | dsimp only)

theorem State.pushChecks_mem1 (s : State) (kind : Option Nat) : (State.pushChecks s kind).1.mem = s.mem := by
  show State.MemAs (State.pushChecks s kind).1 s
  unfold State.pushChecks
  repeat' (first | with_reducible exact State.MemAs.refl _ | with_reducible assumption | with_reducible apply State.MemAs.step (State.notePoisonRead_mem ..) | split | dsimp only)

theorem State.pushChecks_fst {s : State} {kind : Option Nat} {tr : State} {xr : Option (Nat × Nat)} (h : State.pushChecks s kind = (tr, xr)) : tr.mem = s.mem := by
  have h1 := State.pushChecks_mem1  s kind
  rw [h] at h1
  exact h1

theorem State.showArea_mem (s : State) (lo hi k : Nat) : (State.showArea s lo hi k).mem = s.mem := by
  show State.MemAs (State.showArea s lo hi k) s
  unfold State.showArea
  repeat' (first | with_reducible exact State.MemAs.refl _ | with_reducible assumption | with_reducible apply State.MemAs.step (State.putAddr36_mem ..) | split | dsimp only)

theorem State.writeArea_wf (s : State) (k : Nat) (bs : List Byte) (hm0 : State.MemOk s) :
    State.MemOk (State.writeArea s k bs) := by
  unfold State.writeArea
  repeat' (first | with_reducible assumption | with_reducible apply State.memWrite_wf | split | dsimp only)

theorem State.setRole_mem (s : State) (c role : Nat) (cfg : ChanCfg) : (State.setRole s c role cfg).mem = s.mem := by
  show State.MemAs (State.setRole s c role cfg) s
  unfold State.setRole
  repeat' (first | with_reducible exact State.MemAs.refl _ | with_reducible assumption | with_reducible apply State.MemAs.step (State.setEng_mem ..) | with_reducible apply State.MemAs.step (State.putB_mem ..) | with_reducible apply State.MemAs.step (State.put_mem ..) | with_reducible refine foldl_memAs _ (fun _ _ => ?_) ?_ | fail_if_no_progress with_reducible refine State.MemAs.mk ?_ | split | dsimp only)

theorem State.openGate_mem (s : State) (c : Nat) : (State.openGate s c).mem = s.mem := by
  show State.MemAs (State.openGate s c) s
  unfold State.openGate
  repeat' (first | with_reducible exact State.MemAs.refl _ | with_reducible assumption | with_reducible apply State.MemAs.step (State.setChan_mem ..) | with_reducible apply State.MemAs.step (State.raise_mem ..) | with_reducible apply State.MemAs.step (State.putBit_mem ..) | with_reducible apply State.MemAs.ite | fail_if_no_progress with_reducible refine State.MemAs.mk ?_ | split | dsimp only)

theorem State.applyNet_mem (s : State) (n : List Byte) : (State.applyNet s n).mem = s.mem := by
  show State.MemAs (State.applyNet s n) s
  unfold State.applyNet
  repeat' (first | with_reducible exact State.MemAs.refl _ | with_reducible assumption | with_reducible apply State.MemAs.step (State.putB_mem ..) | with_reducible apply State.MemAs.step (State.put_mem ..) | with_reducible apply State.MemAs.step (State.wrN_mem ..) | with_reducible refine foldl_memAs _ (fun _ _ => ?_) ?_ | with_reducible apply State.MemAs.ite | fail_if_no_progress with_reducible refine State.MemAs.mk ?_ | split | dsimp only)

theorem State.applyChecks_mem (s : State) (pol : List Byte) : (State.applyChecks s pol).mem = s.mem := by
  show State.MemAs (State.applyChecks s pol) s
  unfold State.applyChecks
  repeat' (first | with_reducible exact State.MemAs.refl _ | with_reducible assumption | with_reducible apply State.MemAs.step (State.wrN_mem ..) | with_reducible refine foldl_memAs _ (fun _ _ => ?_) ?_ | with_reducible apply State.MemAs.ite | split | dsimp only)

theorem State.applyReports_mem (s : State) : (State.applyReports s).mem = s.mem := by
  show State.MemAs (State.applyReports s) s
  unfold State.applyReports
  repeat' (first | with_reducible exact State.MemAs.refl _ | with_reducible assumption | with_reducible apply State.MemAs.step (State.showArea_mem ..) | with_reducible apply State.MemAs.step (State.putB_mem ..) | with_reducible apply State.MemAs.step (State.put_mem ..) | with_reducible apply State.MemAs.step (State.wrN_mem ..) | fail_if_no_progress with_reducible refine State.MemAs.mk ?_ | split | dsimp only)

theorem State.MemOk.filter {s : State} (f : Host.Cell → Bool) (h : State.MemOk s) : (Memory.wf (s.mem.filter f)) = true :=
  sparseWfFrom_filter emptyByte f h

theorem State.applyMemory_wf (s : State) (hm0 : State.MemOk s) : State.MemOk (State.applyMemory s) := State.MemOk.filter _ hm0

theorem State.trainLanes_mem (s : State) : (State.trainLanes s).mem = s.mem := by
  show State.MemAs (State.trainLanes s) s
  unfold State.trainLanes
  repeat' (first | with_reducible exact State.MemAs.refl _ | with_reducible assumption | with_reducible apply State.MemAs.step (State.put_mem ..) | with_reducible refine foldl_memAs _ (fun _ _ => ?_) ?_ | with_reducible apply State.MemAs.ite | split | dsimp only)

theorem State.startLinking_mem (s0 : State) : (State.startLinking s0).mem = s0.mem := by
  show State.MemAs (State.startLinking s0) s0
  unfold State.startLinking
  repeat' (first | with_reducible exact State.MemAs.refl _ | with_reducible assumption | with_reducible apply State.MemAs.step (State.trainLanes_mem ..) | with_reducible apply State.MemAs.step (State.setPair_mem ..) | with_reducible apply State.MemAs.ite | fail_if_no_progress with_reducible refine State.MemAs.mk ?_ | split | dsimp only)

theorem State.applyImage_wf (s : State) (b : List Byte) (source : Nat) (hm0 : State.MemOk s) :
    State.MemOk (State.applyImage s b source) := by
  unfold State.applyImage
  repeat' (first | with_reducible assumption | with_reducible apply wf_of_mem (State.startLinking_mem ..) | with_reducible apply State.applyMemory_wf | with_reducible apply wf_of_mem (State.applyReports_mem ..) | with_reducible apply wf_of_mem (State.applyChecks_mem ..) | with_reducible apply wf_of_mem (State.applyNet_mem ..) | with_reducible apply wf_of_mem (State.openGate_mem ..) | with_reducible apply wf_of_mem (State.setRole_mem ..) | with_reducible apply State.writeArea_wf | with_reducible apply wf_of_mem (State.raise_mem ..) | with_reducible apply wf_of_mem (State.put_mem ..) | with_reducible apply wf_of_mem (State.wrN_mem ..) | with_reducible refine foldl_wf _ (fun _ _ _ => ?_) _ _ ?_ | fail_if_no_progress with_reducible refine State.MemOk.mk ?_ | split | dsimp only)

theorem State.csuBusy_mem (s : State) : (State.csuBusy s).mem = s.mem := by
  show State.MemAs (State.csuBusy s) s
  unfold State.csuBusy
  repeat' (first | with_reducible exact State.MemAs.refl _ | with_reducible assumption | with_reducible apply State.MemAs.step (State.raise_mem ..) | split | dsimp only)

theorem State.startCheck_mem (s : State) (k : CheckKind) : (State.startCheck s k).mem = s.mem := by
  show State.MemAs (State.startCheck s k) s
  unfold State.startCheck
  repeat' (first | with_reducible exact State.MemAs.refl _ | with_reducible assumption | with_reducible apply State.MemAs.step (State.wrN_mem ..) | fail_if_no_progress with_reducible refine State.MemAs.mk ?_ | split | dsimp only)

theorem csuLoad_mem (s : State) : (csuLoad s).mem = s.mem := by
  show State.MemAs (csuLoad s) s
  unfold csuLoad
  repeat' (first | with_reducible exact State.MemAs.refl _ | with_reducible assumption | with_reducible apply State.MemAs.step (State.startCheck_mem ..) | with_reducible apply State.MemAs.step (State.csuBusy_mem ..) | with_reducible apply State.MemAs.step (State.put_mem ..) | with_reducible apply State.MemAs.ite | split | dsimp only)

theorem csuVerify_mem (s : State) : (csuVerify s).mem = s.mem := by
  show State.MemAs (csuVerify s) s
  unfold csuVerify
  repeat' (first | with_reducible exact State.MemAs.refl _ | with_reducible assumption | with_reducible apply State.MemAs.step (State.startCheck_mem ..) | with_reducible apply State.MemAs.step (State.csuBusy_mem ..) | with_reducible apply State.MemAs.ite | split | dsimp only)

theorem csuReload_mem (s : State) : (csuReload s).mem = s.mem := by
  show State.MemAs (csuReload s) s
  unfold csuReload
  repeat' (first | with_reducible exact State.MemAs.refl _ | with_reducible assumption | with_reducible apply State.MemAs.step (State.csuBusy_mem ..) | with_reducible apply State.MemAs.step (State.wrN_mem ..) | with_reducible apply State.MemAs.ite | fail_if_no_progress with_reducible refine State.MemAs.mk ?_ | split | dsimp only)

theorem State.dropReload_mem (s : State) : (State.dropReload s).mem = s.mem := by
  show State.MemAs (State.dropReload s) s
  unfold State.dropReload
  repeat' (first | with_reducible exact State.MemAs.refl _ | with_reducible assumption | with_reducible apply State.MemAs.step (State.put_mem ..) | fail_if_no_progress with_reducible refine State.MemAs.mk ?_ | split | dsimp only)

theorem csuCancel_mem (s : State) : (csuCancel s).mem = s.mem := by
  show State.MemAs (csuCancel s) s
  unfold csuCancel
  repeat' (first | with_reducible exact State.MemAs.refl _ | with_reducible assumption | with_reducible apply State.MemAs.step (State.dropReload_mem ..) | with_reducible apply State.MemAs.ite | split | dsimp only)

theorem State.disableChannel_mem (s : State) (c : Nat) : (State.disableChannel s c).mem = s.mem := by
  show State.MemAs (State.disableChannel s c) s
  unfold State.disableChannel
  repeat' (first | with_reducible exact State.MemAs.refl _ | with_reducible assumption | with_reducible apply State.MemAs.step (State.setRole_mem ..) | with_reducible apply State.MemAs.step (State.setEngState_mem ..) | with_reducible apply State.MemAs.step (State.raise_mem ..) | with_reducible apply State.MemAs.step (State.putBit_mem ..) | with_reducible refine foldl_memAs _ (fun _ _ => ?_) ?_ | with_reducible apply State.MemAs.ite | split | dsimp only)

theorem State.reloadFail_mem (s : State) (code : Nat) : (State.reloadFail s code).mem = s.mem := by
  show State.MemAs (State.reloadFail s code) s
  unfold State.reloadFail
  repeat' (first | with_reducible exact State.MemAs.refl _ | with_reducible assumption | with_reducible apply State.MemAs.step (State.disableChannel_mem ..) | with_reducible apply State.MemAs.step (State.raise_mem ..) | with_reducible apply State.MemAs.step (State.put_mem ..) | fail_if_no_progress with_reducible refine State.MemAs.mk ?_ | split | dsimp only)

theorem State.meetReload_mem (s : State) (code : Nat) : (State.meetReload s code).mem = s.mem := by
  show State.MemAs (State.meetReload s code) s
  unfold State.meetReload
  repeat' (first | with_reducible exact State.MemAs.refl _ | with_reducible assumption | with_reducible apply State.MemAs.step (State.reloadFail_mem ..) | with_reducible apply State.MemAs.step (State.dropReload_mem ..) | with_reducible apply State.MemAs.ite | split | dsimp only)

theorem State.interruptReload_mem (s : State) : (State.interruptReload s).mem = s.mem := by
  show State.MemAs (State.interruptReload s) s
  unfold State.interruptReload
  repeat' (first | with_reducible exact State.MemAs.refl _ | with_reducible assumption | with_reducible apply State.MemAs.step (State.meetReload_mem ..) | split | dsimp only)

theorem State.stagedCheck_mem (s : State) : (State.stagedCheck s).mem = s.mem := by
  show State.MemAs (State.stagedCheck s) s
  unfold State.stagedCheck
  repeat' (first | with_reducible exact State.MemAs.refl _ | with_reducible assumption | with_reducible apply State.MemAs.step (State.meetReload_mem ..) | with_reducible apply State.MemAs.ite | split | dsimp only)

theorem thenStaged_wf (f : State → State) (s : State) (hm0 : State.MemOk s) (hf0 : ∀ t : State, State.MemOk t → State.MemOk (f t)) :
    State.MemOk (thenStaged f s) := by
  unfold thenStaged
  repeat' (first | with_reducible assumption | with_reducible apply wf_of_mem (State.stagedCheck_mem ..) | with_reducible refine hf0 _ ?_ | split | dsimp only)

theorem State.checkStatus_mem (s : State) (r : Option (Nat × Nat)) : (State.checkStatus s r).mem = s.mem := by
  show State.MemAs (State.checkStatus s r) s
  unfold State.checkStatus
  repeat' (first | with_reducible exact State.MemAs.refl _ | with_reducible assumption | with_reducible apply State.MemAs.step (State.wrN_mem ..) | split | dsimp only)

theorem State.waitHost_mem (s : State) : (State.waitHost s).mem = s.mem := by
  show State.MemAs (State.waitHost s) s
  unfold State.waitHost
  repeat' (first | with_reducible exact State.MemAs.refl _ | with_reducible assumption | with_reducible apply State.MemAs.step (State.put_mem ..) | split | dsimp only)

theorem State.startLoad_mem (s : State) : (State.startLoad s).mem = s.mem := by
  show State.MemAs (State.startLoad s) s
  unfold State.startLoad
  repeat' (first | with_reducible exact State.MemAs.refl _ | with_reducible assumption | with_reducible apply State.MemAs.step (State.waitHost_mem ..) | with_reducible apply State.MemAs.step (State.startCheck_mem ..) | with_reducible apply State.MemAs.step (State.putB_mem ..) | with_reducible apply State.MemAs.step (State.put_mem ..) | with_reducible apply State.MemAs.ite | split | dsimp only)

theorem State.flashChecked_wf (s : State) (copyA : Bool) (flash : List Byte) (hm0 : State.MemOk s) :
    State.MemOk (State.flashChecked s copyA flash) := by
  unfold State.flashChecked
  repeat' (first | with_reducible assumption | with_reducible apply wf_of_mem (State.waitHost_mem ..) | with_reducible apply wf_of_mem (State.checkStatus_mem ..) | with_reducible apply wf_of_mem (State.startCheck_mem ..) | with_reducible apply State.applyImage_wf | with_reducible apply wf_of_mem (State.raise_mem ..) | split | dsimp only)

theorem State.stageChannel_wf (s : State) (b : List Byte) (hm0 : State.MemOk s) :
    State.MemOk (State.stageChannel s b) := by
  unfold State.stageChannel
  repeat' (first | with_reducible assumption | with_reducible apply State.writeArea_wf | with_reducible apply wf_of_mem (State.wrN_mem ..) | fail_if_no_progress with_reducible refine State.MemOk.mk ?_ | split | dsimp only)

theorem State.loadChecked_wf (s : State) (hm0 : State.MemOk s) :
    State.MemOk (State.loadChecked s) := by
  unfold State.loadChecked
  repeat' (first | with_reducible assumption | with_reducible apply wf_of_mem (State.waitHost_mem ..) | with_reducible apply wf_of_mem (State.checkStatus_mem ..) | with_reducible apply State.applyImage_wf | with_reducible apply wf_of_mem (State.pushChecks_mem1 ..) | with_reducible apply wf_of_mem (State.raise_mem ..) | split | dsimp only)

theorem State.verifyChecked_mem (s : State) : (State.verifyChecked s).mem = s.mem := by
  show State.MemAs (State.verifyChecked s) s
  unfold State.verifyChecked
  repeat' (first | with_reducible exact State.MemAs.refl _ | with_reducible assumption | with_reducible apply State.MemAs.step (State.checkStatus_mem ..) | with_reducible apply State.MemAs.step (State.pushChecks_mem1 ..) | with_reducible apply State.MemAs.step (State.raiseIf_mem ..) | split | dsimp only)

theorem State.resetPushChecked_wf (s : State) (hm0 : State.MemOk s) : State.MemOk (State.resetPushChecked s) := by
  have h1 := wf_of_mem (State.pushChecks_mem1 s (some 1)) hm0
  unfold State.resetPushChecked
  extract_lets inOld r b host inNew
  change State.MemOk r.1 at h1
  clear_value host inOld inNew b r
  split
  · exact State.MemOk.ite (State.applyImage_wf (hm0 := wf_of_mem (State.checkStatus_mem ..) h1) ..)
      (wf_of_mem (State.startLoad_mem ..) (wf_of_mem (State.raise_mem ..) (wf_of_mem (State.checkStatus_mem ..) h1)))
  · exact wf_of_mem (State.startLoad_mem ..) (wf_of_mem (State.raise_mem ..) (wf_of_mem (State.checkStatus_mem ..) h1))

theorem State.reloadChecked_wf (s : State) (hm0 : State.MemOk s) :
    State.MemOk (State.reloadChecked s) := by
  unfold State.reloadChecked
  repeat' (first | with_reducible assumption | with_reducible apply State.stageChannel_wf | with_reducible apply wf_of_mem (State.pushChecks_mem1 ..) | with_reducible apply wf_of_mem (State.raise_mem ..) | with_reducible apply wf_of_mem (State.put_mem ..) | split | dsimp only)

theorem imageCheckComplete_wf (flash : List Byte) (s : State) (hm0 : State.MemOk s) :
    State.MemOk (imageCheckComplete flash s) := by
  unfold imageCheckComplete
  repeat' (first | with_reducible assumption | with_reducible apply State.reloadChecked_wf | with_reducible apply State.resetPushChecked_wf | with_reducible apply wf_of_mem (State.verifyChecked_mem ..) | with_reducible apply State.loadChecked_wf | with_reducible apply State.flashChecked_wf | fail_if_no_progress with_reducible refine State.MemOk.mk ?_ | split | dsimp only)

theorem spiIdTimeout_mem (s : State) : (spiIdTimeout s).mem = s.mem := by
  show State.MemAs (spiIdTimeout s) s
  unfold spiIdTimeout
  repeat' (first | with_reducible exact State.MemAs.refl _ | with_reducible assumption | with_reducible apply State.MemAs.step (State.waitHost_mem ..) | with_reducible apply State.MemAs.step (State.checkStatus_mem ..) | with_reducible apply State.MemAs.step (State.raise_mem ..) | with_reducible apply State.MemAs.ite | fail_if_no_progress with_reducible refine State.MemAs.mk ?_ | split | dsimp only)

theorem State.loadStaged_wf (s : State) (c : Nat) (hm0 : State.MemOk s) : State.MemOk (State.loadStaged s c) := by
  have h1 (b : List Byte) (r : Nat) (f : ChanCfg) : State.MemOk ((s.writeArea (10 + c) b).setRole c r f) :=
    wf_of_mem (State.setRole_mem ..) (State.writeArea_wf (hm0 := hm0) ..)
  unfold State.loadStaged
  extract_lets b st s1 c1 s2
  have h2 : State.MemOk s2 := wf_of_mem (State.put_mem ..) (State.MemOk.mk (h1 ..))
  clear_value s2
  exact State.MemOk.ite (State.MemOk.ite (wf_of_mem (State.raise_mem ..) (wf_of_mem (State.putBit_mem ..) h2)) h2)
    (wf_of_mem (State.openGate_mem ..) h2)

theorem reloadLoadingDone_wf (ok : Bool) (s : State) (hm0 : State.MemOk s) :
    State.MemOk (reloadLoadingDone ok s) := by
  unfold reloadLoadingDone
  repeat' (first | with_reducible assumption | with_reducible apply State.loadStaged_wf | with_reducible apply wf_of_mem (State.reloadFail_mem ..) | with_reducible apply wf_of_mem (State.desync_mem ..) | with_reducible apply State.MemOk.ite | split | dsimp only)

theorem State.keyRefuse_mem (s : State) : (State.keyRefuse s).mem = s.mem := by
  show State.MemAs (State.keyRefuse s) s
  unfold State.keyRefuse
  repeat' (first | with_reducible exact State.MemAs.refl _ | with_reducible assumption | with_reducible apply State.MemAs.step (State.raise_mem ..) | with_reducible apply State.MemAs.step (State.put_mem ..) | split | dsimp only)

theorem State.startFuses_mem (s : State) (op : FuseOp) : (State.startFuses s op).mem = s.mem := by
  show State.MemAs (State.startFuses s op) s
  unfold State.startFuses
  repeat' (first | with_reducible exact State.MemAs.refl _ | with_reducible assumption | with_reducible apply State.MemAs.step (State.put_mem ..) | fail_if_no_progress with_reducible refine State.MemAs.mk ?_ | split | dsimp only)

theorem keyProgram_mem (slot : Nat) (s : State) : (keyProgram slot s).mem = s.mem := by
  show State.MemAs (keyProgram slot s) s
  unfold keyProgram
  repeat' (first | with_reducible exact State.MemAs.refl _ | with_reducible assumption | with_reducible apply State.MemAs.step (State.startFuses_mem ..) | with_reducible apply State.MemAs.step (State.keyRefuse_mem ..) | with_reducible apply State.MemAs.ite | split | dsimp only)

theorem keyRevoke_mem (slot : Nat) (s : State) : (keyRevoke slot s).mem = s.mem := by
  show State.MemAs (keyRevoke slot s) s
  unfold keyRevoke
  repeat' (first | with_reducible exact State.MemAs.refl _ | with_reducible assumption | with_reducible apply State.MemAs.step (State.startFuses_mem ..) | with_reducible apply State.MemAs.step (State.keyRefuse_mem ..) | with_reducible apply State.MemAs.step (State.raise_mem ..) | with_reducible apply State.MemAs.step (State.put_mem ..) | with_reducible apply State.MemAs.ite | split | dsimp only)

theorem rollbackProgram_mem (target : Nat) (s : State) : (rollbackProgram target s).mem = s.mem := by
  show State.MemAs (rollbackProgram target s) s
  unfold rollbackProgram
  repeat' (first | with_reducible exact State.MemAs.refl _ | with_reducible assumption | with_reducible apply State.MemAs.step (State.startFuses_mem ..) | with_reducible apply State.MemAs.step (State.raise_mem ..) | with_reducible apply State.MemAs.step (State.put_mem ..) | with_reducible apply State.MemAs.ite | split | dsimp only)

theorem State.blowFuse_mem (s : State) (op : FuseOp) (f : Nat) : (State.blowFuse s op f).mem = s.mem := by
  show State.MemAs (State.blowFuse s op f) s
  unfold State.blowFuse
  repeat' (first | with_reducible exact State.MemAs.refl _ | with_reducible assumption | with_reducible apply State.MemAs.step (State.put_mem ..) | with_reducible apply State.MemAs.ite | fail_if_no_progress with_reducible refine State.MemAs.mk ?_ | split | dsimp only)

theorem State.endFuses_mem (s : State) (op : FuseOp) (fail : Bool) : (State.endFuses s op fail).mem = s.mem := by
  show State.MemAs (State.endFuses s op fail) s
  unfold State.endFuses
  repeat' (first | with_reducible exact State.MemAs.refl _ | with_reducible assumption | with_reducible apply State.MemAs.step (State.raise_mem ..) | with_reducible apply State.MemAs.step (State.putB_mem ..) | with_reducible apply State.MemAs.step (State.put_mem ..) | with_reducible apply State.MemAs.ite | fail_if_no_progress with_reducible refine State.MemAs.mk ?_ | split | dsimp only)

theorem fuseBlowComplete_mem (ok : Bool) (s : State) : (fuseBlowComplete ok s).mem = s.mem := by
  show State.MemAs (fuseBlowComplete ok s) s
  unfold fuseBlowComplete
  repeat' (first | with_reducible exact State.MemAs.refl _ | with_reducible assumption | with_reducible apply State.MemAs.step (State.endFuses_mem ..) | with_reducible apply State.MemAs.step (State.blowFuse_mem ..) | with_reducible apply State.MemAs.ite | fail_if_no_progress with_reducible refine State.MemAs.mk ?_ | split | dsimp only)

end Sys2Proof.Machine
end

