-- ==== Sys2Proof/Laws/Keeps5.lean ====
section
/-!
SUPPORT. What the operations of Resets, Power, RegisterWrite, Ehrus, Host, Tick do to device memory: those that cannot store leave it as it was,
and those that can keep it in canonical form.
-/

set_option linter.unusedTactic false
set_option linter.unreachableTactic false
set_option linter.unusedVariables false

namespace Sys2Proof.Machine

theorem State.fuseRegs_wf (s : State) (r : State) (hm0 : State.MemOk s) (hm1 : State.MemOk r) :
    State.MemOk (State.fuseRegs s r) := by
  unfold State.fuseRegs
  repeat' (first | with_reducible assumption | with_reducible apply wf_of_mem (State.put_mem ..) | split | dsimp only)

theorem State.keepRegs_wf (s r : State) (keep : Nat → Bool) (hm0 : State.MemOk s) (hm1 : State.MemOk r) :
    State.MemOk (State.keepRegs s r keep) := by
  unfold State.keepRegs
  repeat' (first | with_reducible assumption | with_reducible apply wf_of_mem (State.wr_mem ..) | with_reducible refine foldl_wf _ (fun _ _ _ => ?_) _ _ ?_ | split | dsimp only)

theorem State.blank_wf (s : State) (hm0 : State.MemOk s) :
    State.MemOk (State.blank s) := by
  unfold State.blank
  repeat' (first | with_reducible assumption | with_reducible apply State.fuseRegs_wf | exact State.reset_ok | fail_if_no_progress with_reducible refine State.MemOk.mk ?_ | split | dsimp only)

theorem State.pllsLocked_mem (s : State) : (State.pllsLocked s).mem = s.mem := by
  show State.MemAs (State.pllsLocked s) s
  unfold State.pllsLocked
  repeat' (first | with_reducible exact State.MemAs.refl _ | with_reducible assumption | with_reducible apply State.MemAs.step (State.wrN_mem ..) | fail_if_no_progress with_reducible refine State.MemAs.mk ?_ | split | dsimp only)

theorem State.fullState_wf (s : State) (trigger : Nat) (hm0 : State.MemOk s) :
    State.MemOk (State.fullState s trigger) := by
  unfold State.fullState
  repeat' (first | with_reducible assumption | with_reducible apply State.blank_wf | with_reducible apply wf_of_mem (State.wrN_mem ..) | with_reducible apply wf_of_mem (State.wr_mem ..) | fail_if_no_progress with_reducible refine State.MemOk.mk ?_ | split | dsimp only)

theorem State.fullReset_wf (s : State) (trigger : Nat) (hm0 : State.MemOk s) :
    State.MemOk (State.fullReset s trigger) := by
  unfold State.fullReset
  repeat' (first | with_reducible assumption | with_reducible apply State.fullState_wf | with_reducible apply wf_of_mem (State.pllsLocked_mem ..) | with_reducible apply wf_of_mem (State.startLoad_mem ..) | with_reducible apply State.MemOk.ite | split | dsimp only)

theorem State.imageReset_wf (s : State) (src : Bool) (trigger : Nat) (hm0 : State.MemOk s) : State.MemOk (State.imageReset s src trigger) := by
  unfold State.imageReset
  extract_lets host inHost r0 e0 t0 p0 r1 r2 r3
  have h1 : State.MemOk r1 := State.MemOk.filter _ hm0
  have h2 : State.MemOk r2 := wf_of_mem (State.wrN_mem ..) (wf_of_mem (State.put_mem ..) (wf_of_mem (State.putB_mem ..) h1))
  clear_value r2
  split
  · have h3 : State.MemOk r3 := wf_of_mem (State.putB_mem ..) (wf_of_mem (State.putB_mem ..) h2)
    exact wf_of_mem (State.put_mem ..) (wf_of_mem (State.startCheck_mem ..) (wf_of_mem (State.putB_mem ..) h3))
  · exact wf_of_mem (State.startLoad_mem ..) h2

theorem State.settleReset_wf (s : State) (hm0 : State.MemOk s) :
    State.MemOk (State.settleReset s) := by
  unfold State.settleReset
  repeat' (first | with_reducible assumption | with_reducible apply State.imageReset_wf | with_reducible apply State.MemOk.ite | split | dsimp only)

theorem State.undoFunction_mem (s : State) : (State.undoFunction s).mem = s.mem := by
  show State.MemAs (State.undoFunction s) s
  unfold State.undoFunction
  repeat' (first | with_reducible exact State.MemAs.refl _ | with_reducible assumption | with_reducible apply State.MemAs.step (State.put_mem ..) | with_reducible apply State.MemAs.ite | fail_if_no_progress with_reducible refine State.MemAs.mk ?_ | split | dsimp only)

theorem State.askImageReset_wf (s : State) (src : Bool) (trigger : Nat) (hm0 : State.MemOk s) :
    State.MemOk (State.askImageReset s src trigger) := by
  unfold State.askImageReset
  repeat' (first | with_reducible assumption | with_reducible apply wf_of_mem (State.undoFunction_mem ..) | with_reducible apply State.settleReset_wf | with_reducible apply wf_of_mem (State.interruptReload_mem ..) | with_reducible apply wf_of_mem (State.askHold_mem ..) | with_reducible apply State.MemOk.ite | fail_if_no_progress with_reducible refine State.MemOk.mk ?_ | split | dsimp only)

theorem State.accessFault_mem (s : State) (kind off src : Nat) : (State.accessFault s kind off src).mem = s.mem := by
  show State.MemAs (State.accessFault s kind off src) s
  unfold State.accessFault
  repeat' (first | with_reducible exact State.MemAs.refl _ | with_reducible assumption | with_reducible apply State.MemAs.step (State.raise_mem ..) | with_reducible apply State.MemAs.step (State.count_mem ..) | with_reducible apply State.MemAs.step (State.wrN_mem ..) | split | dsimp only)

theorem gctlResetFull_wf (val : Word) (s : State) (hm0 : State.MemOk s) :
    State.MemOk (gctlResetFull val s) := by
  unfold gctlResetFull
  repeat' (first | with_reducible assumption | with_reducible apply wf_of_mem (State.accessFault_mem ..) | with_reducible apply State.fullReset_wf | with_reducible apply State.MemOk.ite | split | dsimp only)

theorem gctlResetImage_wf (val : Word) (s : State) (hm0 : State.MemOk s) :
    State.MemOk (gctlResetImage val s) := by
  unfold gctlResetImage
  repeat' (first | with_reducible assumption | with_reducible apply wf_of_mem (State.accessFault_mem ..) | with_reducible apply State.askImageReset_wf | with_reducible apply State.MemOk.ite | split | dsimp only)

theorem State.treeKind_wf (s : State) (kind : Nat) (hm0 : State.MemOk s) :
    State.MemOk (State.treeKind s kind) := by
  unfold State.treeKind
  repeat' (first | with_reducible assumption | with_reducible apply State.askImageReset_wf | with_reducible apply State.fullReset_wf | with_reducible apply State.MemOk.ite | split | dsimp only)

theorem State.resetNetHost_mem (s : State) : (State.resetNetHost s).mem = s.mem := by
  show State.MemAs (State.resetNetHost s) s
  unfold State.resetNetHost
  repeat' (first | with_reducible exact State.MemAs.refl _ | with_reducible assumption | with_reducible apply State.MemAs.step (State.put_mem ..) | with_reducible refine foldl_memAs _ (fun _ _ => ?_) ?_ | fail_if_no_progress with_reducible refine State.MemAs.mk ?_ | split | dsimp only)

theorem State.resetStreams_mem (s : State) : (State.resetStreams s).mem = s.mem := by
  show State.MemAs (State.resetStreams s) s
  unfold State.resetStreams
  repeat' (first | with_reducible exact State.MemAs.refl _ | with_reducible assumption | with_reducible apply State.MemAs.step (State.freeBuf_mem ..) | with_reducible apply State.MemAs.step (State.setStream_mem ..) | with_reducible apply State.MemAs.step (State.put_mem ..) | with_reducible refine foldl_memAs _ (fun _ _ => ?_) ?_ | with_reducible apply State.MemAs.ite | fail_if_no_progress with_reducible refine State.MemAs.mk ?_ | split | dsimp only)

theorem State.resetRing_mem (s : State) : (State.resetRing s).mem = s.mem := by
  show State.MemAs (State.resetRing s) s
  unfold State.resetRing
  repeat' (first | with_reducible exact State.MemAs.refl _ | with_reducible assumption | with_reducible apply State.MemAs.step (State.placeRecord_mem ..) | with_reducible apply State.MemAs.step (State.wr_mem ..) | with_reducible refine foldl_memAs _ (fun _ _ => ?_) ?_ | fail_if_no_progress with_reducible refine State.MemAs.mk ?_ | split | dsimp only)

theorem State.functionState_wf (s : State) (hm0 : State.MemOk s) :
    State.MemOk (State.functionState s) := by
  unfold State.functionState
  repeat' (first | with_reducible assumption | with_reducible apply wf_of_mem (State.resetRing_mem ..) | with_reducible apply wf_of_mem (State.resetStreams_mem ..) | with_reducible apply wf_of_mem (State.resetNetHost_mem ..) | with_reducible apply vdecCtxDisable_wf | with_reducible apply wf_of_mem (dcoAbort_mem ..) | with_reducible apply bceAbort_wf | with_reducible apply wf_of_mem (State.put_mem ..) | with_reducible apply wf_of_mem (State.wrN_mem ..) | with_reducible apply wf_of_mem (State.wr_mem ..) | with_reducible refine foldl_wf _ (fun _ _ _ => ?_) _ _ ?_ | with_reducible apply State.MemOk.ite | fail_if_no_progress with_reducible refine State.MemOk.mk ?_ | split | dsimp only)

theorem functionReset_wf (linkLost : Bool) (s : State) (hm0 : State.MemOk s) :
    State.MemOk (functionReset linkLost s) := by
  unfold functionReset
  repeat' (first | with_reducible assumption | with_reducible apply State.functionState_wf | with_reducible apply wf_of_mem (State.raise_mem ..) | with_reducible apply wf_of_mem (State.put_mem ..) | with_reducible apply wf_of_mem (State.wrN_mem ..) | with_reducible apply State.MemOk.ite | fail_if_no_progress with_reducible refine State.MemOk.mk ?_ | split | dsimp only)

theorem State.dropCore_wf (s : State) (hm0 : State.MemOk s) :
    State.MemOk (State.dropCore s) := by
  unfold State.dropCore
  repeat' (first | with_reducible assumption | with_reducible apply State.blank_wf | with_reducible apply State.keepRegs_wf | fail_if_no_progress with_reducible refine State.MemOk.mk ?_ | split | dsimp only)

theorem State.wakeBoot_wf (s : State) (stopped : Bool) (hm0 : State.MemOk s) :
    State.MemOk (State.wakeBoot s stopped) := by
  unfold State.wakeBoot
  repeat' (first | with_reducible assumption | with_reducible apply State.fullState_wf | with_reducible apply wf_of_mem (State.pllsLocked_mem ..) | with_reducible apply wf_of_mem (State.startLoad_mem ..) | with_reducible apply wf_of_mem (State.raiseIf_mem ..) | with_reducible apply wf_of_mem (State.raise_mem ..) | with_reducible apply wf_of_mem (State.put_mem ..) | with_reducible apply State.MemOk.ite | fail_if_no_progress with_reducible refine State.MemOk.mk ?_ | split | dsimp only)

theorem State.setRails_mem (s : State) (f : Rails → Rails) : (State.setRails s f).mem = s.mem := by
  show State.MemAs (State.setRails s f) s
  unfold State.setRails
  repeat' (first | with_reducible exact State.MemAs.refl _ | with_reducible assumption | fail_if_no_progress with_reducible refine State.MemAs.mk ?_ | split | dsimp only)

theorem resetPin_wf (s : State) (hm0 : State.MemOk s) :
    State.MemOk (resetPin s) := by
  unfold resetPin
  repeat' (first | with_reducible assumption | with_reducible apply wf_of_mem (State.setRails_mem ..) | with_reducible apply State.fullReset_wf | with_reducible apply State.MemOk.ite | fail_if_no_progress with_reducible refine State.MemOk.mk ?_ | split | dsimp only)

theorem powerGoodRise_wf (bootSel : Bool) (s : State) (hm0 : State.MemOk s) :
    State.MemOk (powerGoodRise bootSel s) := by
  unfold powerGoodRise
  repeat' (first | with_reducible assumption | with_reducible apply wf_of_mem (State.setRails_mem ..) | with_reducible apply State.fullState_wf | with_reducible apply wf_of_mem (State.wrN_mem ..) | with_reducible apply State.MemOk.ite | fail_if_no_progress with_reducible refine State.MemOk.mk ?_ | split | dsimp only)

theorem powerGoodFall_wf (s : State) (hm0 : State.MemOk s) :
    State.MemOk (powerGoodFall s) := by
  unfold powerGoodFall
  repeat' (first | with_reducible assumption | with_reducible apply wf_of_mem (State.setRails_mem ..) | with_reducible apply State.dropCore_wf | with_reducible apply wf_of_mem (State.put_mem ..) | with_reducible apply State.MemOk.ite | fail_if_no_progress with_reducible refine State.MemOk.mk ?_ | split | dsimp only)

theorem railPgFall_wf (sds : Bool) (s : State) (hm0 : State.MemOk s) :
    State.MemOk (railPgFall sds s) := by
  unfold railPgFall
  repeat' (first | with_reducible assumption | with_reducible apply wf_of_mem (State.setRails_mem ..) | with_reducible apply State.dropCore_wf | with_reducible apply wf_of_mem (State.put_mem ..) | with_reducible apply State.MemOk.ite | fail_if_no_progress with_reducible refine State.MemOk.mk ?_ | split | dsimp only)

theorem railReenable_mem (s : State) : (railReenable s).mem = s.mem := by
  show State.MemAs (railReenable s) s
  unfold railReenable
  repeat' (first | with_reducible exact State.MemAs.refl _ | with_reducible assumption | with_reducible apply State.MemAs.step (State.setRails_mem ..) | with_reducible apply State.MemAs.ite | fail_if_no_progress with_reducible refine State.MemAs.mk ?_ | split | dsimp only)

theorem pgHbmPgSdsRise_wf (s : State) (hm0 : State.MemOk s) :
    State.MemOk (pgHbmPgSdsRise s) := by
  unfold pgHbmPgSdsRise
  repeat' (first | with_reducible assumption | with_reducible apply wf_of_mem (State.setRails_mem ..) | with_reducible apply State.wakeBoot_wf | with_reducible apply State.fullState_wf | with_reducible apply wf_of_mem (State.wrN_mem ..) | with_reducible apply State.MemOk.ite | fail_if_no_progress with_reducible refine State.MemOk.mk ?_ | split | dsimp only)

theorem powerEnableOutputs_mem (s : State) : (powerEnableOutputs s).mem = s.mem := by
  show State.MemAs (powerEnableOutputs s) s
  unfold powerEnableOutputs
  repeat' (first | with_reducible exact State.MemAs.refl _ | with_reducible assumption | with_reducible apply State.MemAs.step (State.setRails_mem ..) | with_reducible apply State.MemAs.ite | fail_if_no_progress with_reducible refine State.MemAs.mk ?_ | split | dsimp only)

theorem vddAonBelowMinimum_wf (s : State) (hm0 : State.MemOk s) :
    State.MemOk (vddAonBelowMinimum s) := by
  unfold vddAonBelowMinimum
  repeat' (first | with_reducible assumption | with_reducible apply wf_of_mem (State.setRails_mem ..) | with_reducible apply State.blank_wf | fail_if_no_progress with_reducible refine State.MemOk.mk ?_ | split | dsimp only)

theorem fusesDone_mem (s : State) : (fusesDone s).mem = s.mem := by
  show State.MemAs (fusesDone s) s
  unfold fusesDone
  repeat' (first | with_reducible exact State.MemAs.refl _ | with_reducible assumption | with_reducible apply State.MemAs.step (State.pllsLocked_mem ..) | with_reducible apply State.MemAs.step (State.startLoad_mem ..) | with_reducible apply State.MemAs.ite | split | dsimp only)

theorem State.startLink_mem (s : State) : (State.startLink s).mem = s.mem := by
  show State.MemAs (State.startLink s) s
  unfold State.startLink
  repeat' (first | with_reducible exact State.MemAs.refl _ | with_reducible assumption | with_reducible apply State.MemAs.step (State.triggerRun_mem ..) | with_reducible apply State.MemAs.step (splEnable_mem ..) | with_reducible apply State.MemAs.step (State.put_mem ..) | split | dsimp only)

theorem applyDone_mem (s : State) : (applyDone s).mem = s.mem := by
  show State.MemAs (applyDone s) s
  unfold applyDone
  repeat' (first | with_reducible exact State.MemAs.refl _ | with_reducible assumption | with_reducible apply State.MemAs.step (State.startLink_mem ..) | with_reducible apply State.MemAs.step (State.raise_mem ..) | with_reducible apply State.MemAs.step (State.put_mem ..) | with_reducible apply State.MemAs.ite | split | dsimp only)

theorem bootLate_mem (s : State) : (bootLate s).mem = s.mem := by
  show State.MemAs (bootLate s) s
  unfold bootLate
  repeat' (first | with_reducible exact State.MemAs.refl _ | with_reducible assumption | with_reducible apply State.MemAs.step (State.raise_mem ..) | with_reducible apply State.MemAs.ite | fail_if_no_progress with_reducible refine State.MemAs.mk ?_ | split | dsimp only)

theorem pcieLinkTrained_mem (speed width : Nat) (s : State) : (pcieLinkTrained speed width s).mem = s.mem := by
  show State.MemAs (pcieLinkTrained speed width s) s
  unfold pcieLinkTrained
  repeat' (first | with_reducible exact State.MemAs.refl _ | with_reducible assumption | with_reducible apply State.MemAs.step (State.raiseIf_mem ..) | with_reducible apply State.MemAs.step (State.wrN_mem ..) | fail_if_no_progress with_reducible refine State.MemAs.mk ?_ | split | dsimp only)

theorem State.sleepCmd_mem (s : State) (deep force : Bool) : (State.sleepCmd s deep force).mem = s.mem := by
  show State.MemAs (State.sleepCmd s deep force) s
  unfold State.sleepCmd
  repeat' (first | with_reducible exact State.MemAs.refl _ | with_reducible assumption | with_reducible apply State.MemAs.step (State.askHold_mem ..) | with_reducible apply State.MemAs.step (State.toPartner_mem ..) | with_reducible apply State.MemAs.step (State.raise_mem ..) | with_reducible apply State.MemAs.step (State.put_mem ..) | with_reducible apply State.MemAs.step (State.wrN_mem ..) | with_reducible apply State.MemAs.ite | fail_if_no_progress with_reducible refine State.MemAs.mk ?_ | split | dsimp only)

theorem sleepCmd_mem (s : State) : (sleepCmd s).mem = s.mem := by
  show State.MemAs (sleepCmd s) s
  unfold sleepCmd
  repeat' (first | with_reducible exact State.MemAs.refl _ | with_reducible assumption | with_reducible apply State.MemAs.step (State.sleepCmd_mem ..) | split | dsimp only)

theorem deepSleepCmd_mem (force : Bool) (s : State) : (deepSleepCmd force s).mem = s.mem := by
  show State.MemAs (deepSleepCmd force s) s
  unfold deepSleepCmd
  repeat' (first | with_reducible exact State.MemAs.refl _ | with_reducible assumption | with_reducible apply State.MemAs.step (State.sleepCmd_mem ..) | split | dsimp only)

theorem State.closeGates_mem (s : State) : (State.closeGates s).mem = s.mem := by
  show State.MemAs (State.closeGates s) s
  unfold State.closeGates
  repeat' (first | with_reducible exact State.MemAs.refl _ | with_reducible assumption | with_reducible apply State.MemAs.step (State.setEngState_mem ..) | with_reducible apply State.MemAs.step (State.raise_mem ..) | with_reducible apply State.MemAs.step (State.putBit_mem ..) | with_reducible refine foldl_memAs _ (fun _ _ => ?_) ?_ | with_reducible apply State.MemAs.ite | fail_if_no_progress with_reducible refine State.MemAs.mk ?_ | split | dsimp only)

theorem State.loseStores_mem (s : State) : (State.loseStores s).mem = s.mem := by
  show State.MemAs (State.loseStores s) s
  unfold State.loseStores
  repeat' (first | with_reducible exact State.MemAs.refl _ | with_reducible assumption | fail_if_no_progress with_reducible refine State.MemAs.mk ?_ | split | dsimp only)

theorem State.finishEntry_wf (s : State) (hm0 : State.MemOk s) :
    State.MemOk (State.finishEntry s) := by
  unfold State.finishEntry
  repeat' (first | with_reducible assumption | with_reducible apply wf_of_mem (State.loseStores_mem ..) | with_reducible apply wf_of_mem (State.closeGates_mem ..) | with_reducible apply wf_of_mem (State.setRails_mem ..) | with_reducible apply State.dropCore_wf | with_reducible apply wf_of_mem (State.discardEgress_mem ..) | with_reducible apply State.drainAll_wf | with_reducible apply wf_of_mem (State.raise_mem ..) | with_reducible apply wf_of_mem (State.put_mem ..) | with_reducible apply wf_of_mem (State.wrN_mem ..) | with_reducible apply State.MemOk.ite | fail_if_no_progress with_reducible refine State.MemOk.mk ?_ | split | dsimp only)

theorem sleepEntered_wf (s : State) (hm0 : State.MemOk s) :
    State.MemOk (sleepEntered s) := by
  unfold sleepEntered
  repeat' (first | with_reducible assumption | with_reducible apply State.finishEntry_wf | with_reducible apply wf_of_mem (State.wake_mem ..) | with_reducible apply wf_of_mem (State.put_mem ..) | with_reducible apply State.MemOk.ite | split | dsimp only)

theorem wakeCmd_mem (s : State) : (wakeCmd s).mem = s.mem := by
  show State.MemAs (wakeCmd s) s
  unfold wakeCmd
  repeat' (first | with_reducible exact State.MemAs.refl _ | with_reducible assumption | with_reducible apply State.MemAs.step (State.wake_mem ..) | split | dsimp only)

theorem wakePinLow_mem (s : State) : (wakePinLow s).mem = s.mem := by
  show State.MemAs (wakePinLow s) s
  unfold wakePinLow
  repeat' (first | with_reducible exact State.MemAs.refl _ | with_reducible assumption | with_reducible apply State.MemAs.step (State.setRails_mem ..) | with_reducible apply State.MemAs.step (State.wake_mem ..) | with_reducible apply State.MemAs.step (State.wrN_mem ..) | with_reducible apply State.MemAs.ite | fail_if_no_progress with_reducible refine State.MemAs.mk ?_ | split | dsimp only)

theorem State.wakeClocks_mem (s : State) : (State.wakeClocks s).mem = s.mem := by
  show State.MemAs (State.wakeClocks s) s
  unfold State.wakeClocks
  repeat' (first | with_reducible exact State.MemAs.refl _ | with_reducible assumption | with_reducible apply State.MemAs.step (State.pllsLocked_mem ..) | with_reducible apply State.MemAs.step (State.put_mem ..) | with_reducible apply State.MemAs.ite | split | dsimp only)

theorem State.wakeStep_mem (s : State) : (State.wakeStep s).mem = s.mem := by
  show State.MemAs (State.wakeStep s) s
  unfold State.wakeStep
  repeat' (first | with_reducible exact State.MemAs.refl _ | with_reducible assumption | with_reducible apply State.MemAs.step (State.openGate_mem ..) | with_reducible apply State.MemAs.step (State.leaveHold_mem ..) | with_reducible apply State.MemAs.step (State.setEngState_mem ..) | with_reducible refine foldl_memAs _ (fun _ _ => ?_) ?_ | with_reducible apply State.MemAs.ite | fail_if_no_progress with_reducible refine State.MemAs.mk ?_ | split | dsimp only)

theorem State.parkEngines_mem (s : State) : (State.parkEngines s).mem = s.mem := by
  show State.MemAs (State.parkEngines s) s
  unfold State.parkEngines
  repeat' (first | with_reducible exact State.MemAs.refl _ | with_reducible assumption | with_reducible apply State.MemAs.step (State.setEngState_mem ..) | with_reducible apply State.MemAs.step (State.setEng_mem ..) | with_reducible refine foldl_memAs _ (fun _ _ => ?_) ?_ | with_reducible apply State.MemAs.ite | fail_if_no_progress with_reducible refine State.MemAs.mk ?_ | split | dsimp only)

theorem wakeDone_mem (s : State) : (wakeDone s).mem = s.mem := by
  show State.MemAs (wakeDone s) s
  unfold wakeDone
  repeat' (first | with_reducible exact State.MemAs.refl _ | with_reducible assumption | with_reducible apply State.MemAs.step (State.parkEngines_mem ..) | with_reducible apply State.MemAs.step (State.wakeStep_mem ..) | with_reducible apply State.MemAs.step (State.raise_mem ..) | with_reducible apply State.MemAs.step (State.put_mem ..) | with_reducible apply State.MemAs.step (State.wrN_mem ..) | with_reducible apply State.MemAs.ite | fail_if_no_progress with_reducible refine State.MemAs.mk ?_ | split | dsimp only)

theorem pllLockTimeout_mem (pll : Nat) (s : State) : (pllLockTimeout pll s).mem = s.mem := by
  show State.MemAs (pllLockTimeout pll s) s
  unfold pllLockTimeout
  repeat' (first | with_reducible exact State.MemAs.refl _ | with_reducible assumption | with_reducible apply State.MemAs.step (State.raise_mem ..) | with_reducible apply State.MemAs.step (State.putBit_mem ..) | with_reducible apply State.MemAs.ite | fail_if_no_progress with_reducible refine State.MemAs.mk ?_ | split | dsimp only)

theorem State.lockPll_mem (s : State) (p : Nat) : (State.lockPll s p).mem = s.mem := by
  show State.MemAs (State.lockPll s p) s
  unfold State.lockPll
  repeat' (first | with_reducible exact State.MemAs.refl _ | with_reducible assumption | with_reducible apply State.MemAs.step (State.putBit_mem ..) | with_reducible apply State.MemAs.ite | fail_if_no_progress with_reducible refine State.MemAs.mk ?_ | split | dsimp only)

theorem chGateWrite_mem (val : Word) (s : State) : (chGateWrite val s).mem = s.mem := by
  show State.MemAs (chGateWrite val s) s
  unfold chGateWrite
  repeat' (first | with_reducible exact State.MemAs.refl _ | with_reducible assumption | with_reducible apply State.MemAs.step (State.openGate_mem ..) | with_reducible apply State.MemAs.step (State.wrN_mem ..) | with_reducible refine foldl_memAs _ (fun _ _ => ?_) ?_ | with_reducible apply State.MemAs.ite | fail_if_no_progress with_reducible refine State.MemAs.mk ?_ | split | dsimp only)

theorem State.settlePlls_mem (s : State) : (State.settlePlls s).mem = s.mem := by
  show State.MemAs (State.settlePlls s) s
  unfold State.settlePlls
  repeat' (first | with_reducible exact State.MemAs.refl _ | with_reducible assumption | with_reducible apply State.MemAs.step (State.lockPll_mem ..) | with_reducible apply State.MemAs.step (State.openGate_mem ..) | with_reducible apply State.MemAs.step (State.putBit_mem ..) | with_reducible refine foldl_memAs _ (fun _ _ => ?_) ?_ | with_reducible apply State.MemAs.ite | split | dsimp only)

theorem State.stopNow_wf (s : State) (kind : Nat) (temp : Int) (site : Nat) (hm0 : State.MemOk s) :
    State.MemOk (State.stopNow s kind temp site) := by
  have h0 (v : Nat) := State.dropCore_wf ((s.interruptReload).wrN PWR_LAST_STOP v) (wf_of_mem (State.wrN_mem ..) (wf_of_mem (State.interruptReload_mem ..) hm0))
  unfold State.stopNow
  generalize kind + 2 ^ 8 * unsignedOf 8 temp + 2 ^ 16 * (site % 32) + 2 ^ 31 = v
  extract_lets s1 s2 s3 p3
  have h1 : State.MemOk s1 := h0 v
  clear_value s1
  have h3 : State.MemOk s3 := wf_of_mem (State.setRails_mem ..) (wf_of_mem (State.wrN_mem ..) (wf_of_mem (State.wrN_mem ..) (wf_of_mem (State.put_mem ..) h1)))
  clear_value s3
  exact State.MemOk.mk h3

theorem State.hardCut_wf (s : State) (temp : Int) (site : Nat) (hm0 : State.MemOk s) :
    State.MemOk (State.hardCut s temp site) := by
  unfold State.hardCut
  repeat' (first | with_reducible assumption | with_reducible apply State.stopNow_wf | with_reducible apply wf_of_mem (State.handOver_mem ..) | split | dsimp only)

theorem State.orderlyStop_wf (s : State) (temp : Int) (site : Nat) (hm0 : State.MemOk s) :
    State.MemOk (State.orderlyStop s temp site) := by
  unfold State.orderlyStop
  repeat' (first | with_reducible assumption | with_reducible apply State.stopNow_wf | with_reducible apply wf_of_mem (State.interruptReload_mem ..) | with_reducible apply wf_of_mem (holdEnter_mem ..) | with_reducible apply wf_of_mem (State.askHold_mem ..) | with_reducible apply wf_of_mem (State.handOver_mem ..) | with_reducible apply State.MemOk.ite | fail_if_no_progress with_reducible refine State.MemOk.mk ?_ | split | dsimp only)

theorem State.settleStop_wf (s : State) (hm0 : State.MemOk s) :
    State.MemOk (State.settleStop s) := by
  unfold State.settleStop
  repeat' (first | with_reducible assumption | with_reducible apply State.stopNow_wf | with_reducible apply State.MemOk.ite | split | dsimp only)

theorem holdEnterThen_wf (s : State) (hm0 : State.MemOk s) :
    State.MemOk (holdEnterThen s) := by
  unfold holdEnterThen
  repeat' (first | with_reducible assumption | with_reducible apply State.settleStop_wf | with_reducible apply State.settleReset_wf | with_reducible apply wf_of_mem (holdEnter_mem ..) | split | dsimp only)

theorem stopWindowExpire_wf (s : State) (hm0 : State.MemOk s) :
    State.MemOk (stopWindowExpire s) := by
  unfold stopWindowExpire
  repeat' (first | with_reducible assumption | with_reducible apply wf_of_mem (State.setRails_mem ..) | with_reducible apply State.wakeBoot_wf | with_reducible apply State.MemOk.ite | fail_if_no_progress with_reducible refine State.MemOk.mk ?_ | split | dsimp only)

theorem resumeAck_mem (s : State) : (resumeAck s).mem = s.mem := by
  show State.MemAs (resumeAck s) s
  unfold resumeAck
  repeat' (first | with_reducible exact State.MemAs.refl _ | with_reducible assumption | with_reducible apply State.MemAs.step (State.startLink_mem ..) | with_reducible apply State.MemAs.step (State.put_mem ..) | with_reducible apply State.MemAs.ite | fail_if_no_progress with_reducible refine State.MemAs.mk ?_ | split | dsimp only)

theorem kettleSample_mem (s : State) : (kettleSample s).mem = s.mem := by
  show State.MemAs (kettleSample s) s
  unfold kettleSample
  repeat' (first | with_reducible exact State.MemAs.refl _ | with_reducible assumption | fail_if_no_progress with_reducible refine State.MemAs.mk ?_ | split | dsimp only)

theorem State.showSites_mem (s : State) (rs : List SiteReading) : (State.showSites s rs).mem = s.mem := by
  show State.MemAs (State.showSites s rs) s
  unfold State.showSites
  repeat' (first | with_reducible exact State.MemAs.refl _ | with_reducible assumption | with_reducible apply State.MemAs.step (State.raiseIf_mem ..) | with_reducible apply State.MemAs.step (State.count_mem ..) | with_reducible apply State.MemAs.step (State.wrN_mem ..) | with_reducible refine foldl_memAs _ (fun _ _ => ?_) ?_ | split | dsimp only)

theorem State.judgeZones_mem (s : State) (tmax stack : Int) : (State.judgeZones s tmax stack).mem = s.mem := by
  show State.MemAs (State.judgeZones s tmax stack) s
  unfold State.judgeZones
  repeat' (first | with_reducible exact State.MemAs.refl _ | with_reducible assumption | with_reducible apply State.MemAs.step (State.wake_mem ..) | with_reducible apply State.MemAs.step (State.raiseIf_mem ..) | with_reducible apply State.MemAs.step (State.raise_mem ..) | with_reducible apply State.MemAs.step (State.put_mem ..) | with_reducible apply State.MemAs.ite | fail_if_no_progress with_reducible refine State.MemAs.mk ?_ | split | dsimp only)

theorem State.kettleCal_mem (s : State) (tmax : Int) : (State.kettleCal s tmax).mem = s.mem := by
  show State.MemAs (State.kettleCal s tmax) s
  unfold State.kettleCal
  repeat' (first | with_reducible exact State.MemAs.refl _ | with_reducible assumption | with_reducible apply State.MemAs.step (State.triggerRun_mem ..) | with_reducible apply State.MemAs.ite | split | dsimp only)

theorem State.kettleActs_wf (s : State) (valid : Nat) (tmax : Int) (site : Nat) (t0 t1 : Int) (hm0 : State.MemOk s) :
    State.MemOk (State.kettleActs s valid tmax site t0 t1) := by
  unfold State.kettleActs
  repeat' (first | with_reducible assumption | with_reducible apply wf_of_mem (State.kettleCal_mem ..) | with_reducible apply State.orderlyStop_wf | with_reducible apply State.hardCut_wf | with_reducible apply State.MemOk.ite | fail_if_no_progress with_reducible refine State.MemOk.mk ?_ | split | dsimp only)

theorem kettleSampleDone_wf (readings : List SiteReading) (s : State) (hm0 : State.MemOk s) :
    State.MemOk (kettleSampleDone readings s) := by
  unfold kettleSampleDone
  repeat' (first | with_reducible assumption | with_reducible apply State.kettleActs_wf | with_reducible apply wf_of_mem (State.judgeZones_mem ..) | with_reducible apply wf_of_mem (State.showSites_mem ..) | with_reducible apply wf_of_mem (State.freeNext_mem ..) | with_reducible apply wf_of_mem (State.putB_mem ..) | with_reducible apply wf_of_mem (State.put_mem ..) | with_reducible apply State.MemOk.ite | fail_if_no_progress with_reducible refine State.MemOk.mk ?_ | split | dsimp only)

theorem throttleStep_mem (s : State) : (throttleStep s).mem = s.mem := by
  show State.MemAs (throttleStep s) s
  unfold throttleStep
  repeat' (first | with_reducible exact State.MemAs.refl _ | with_reducible assumption | with_reducible apply State.MemAs.step (State.raise_mem ..) | with_reducible apply State.MemAs.step (State.put_mem ..) | with_reducible apply State.MemAs.ite | fail_if_no_progress with_reducible refine State.MemAs.mk ?_ | split | dsimp only)

theorem State.writeReset_wf (s : State) (val : Word) (hm0 : State.MemOk s) :
    State.MemOk (State.writeReset s val) := by
  unfold State.writeReset
  repeat' (first | with_reducible assumption | with_reducible apply gctlResetImage_wf | with_reducible apply gctlResetFull_wf | with_reducible apply wf_of_mem (State.accessFault_mem ..) | with_reducible apply State.MemOk.ite | split | dsimp only)

theorem State.writeMsix_mem (s : State) (i : Nat) (val : Word) : (State.writeMsix s i val).mem = s.mem := by
  show State.MemAs (State.writeMsix s i val) s
  unfold State.writeMsix
  repeat' (first | with_reducible exact State.MemAs.refl _ | with_reducible assumption | with_reducible apply State.MemAs.step (State.sendPending_mem ..) | with_reducible apply State.MemAs.step (State.wr_mem ..) | with_reducible apply State.MemAs.ite | split | dsimp only)

theorem State.writeGctl_wf (s : State) (off : Nat) (val : Word) (hm0 : State.MemOk s) :
    State.MemOk (State.writeGctl s off val) := by
  unfold State.writeGctl
  repeat' (first | with_reducible assumption | with_reducible apply wf_of_mem (State.writeMsix_mem ..) | with_reducible apply State.writeReset_wf | with_reducible apply wf_of_mem (State.plainWrite_mem ..) | with_reducible apply wf_of_mem (calrecRestore_mem ..) | with_reducible apply wf_of_mem (calrecSave_mem ..) | with_reducible apply State.MemOk.ite | split | dsimp only)

theorem State.writeCsu_mem (s : State) (off : Nat) (val : Word) : (State.writeCsu s off val).mem = s.mem := by
  show State.MemAs (State.writeCsu s off val) s
  unfold State.writeCsu
  repeat' (first | with_reducible exact State.MemAs.refl _ | with_reducible assumption | with_reducible apply State.MemAs.step (rollbackProgram_mem ..) | with_reducible apply State.MemAs.step (keyRevoke_mem ..) | with_reducible apply State.MemAs.step (keyProgram_mem ..) | with_reducible apply State.MemAs.step (csuCancel_mem ..) | with_reducible apply State.MemAs.step (csuReload_mem ..) | with_reducible apply State.MemAs.step (csuVerify_mem ..) | with_reducible apply State.MemAs.step (csuLoad_mem ..) | with_reducible apply State.MemAs.step (State.plainWrite_mem ..) | with_reducible apply State.MemAs.step (State.wr_mem ..) | with_reducible apply State.MemAs.ite | split | dsimp only)

theorem State.writeEvc_mem (s : State) (off : Nat) (val : Word) : (State.writeEvc s off val).mem = s.mem := by
  show State.MemAs (State.writeEvc s off val) s
  unfold State.writeEvc
  repeat' (first | with_reducible exact State.MemAs.refl _ | with_reducible assumption | with_reducible apply State.MemAs.step (State.plainWrite_mem ..) | with_reducible apply State.MemAs.step (tickDivWrite_mem ..) | with_reducible apply State.MemAs.step (ringEnable_mem ..) | with_reducible apply State.MemAs.step (earlyPop_mem ..) | with_reducible apply State.MemAs.step (swRaise_mem ..) | with_reducible apply State.MemAs.step (State.wrN_mem ..) | with_reducible apply State.MemAs.ite | split | dsimp only)

theorem State.writeTmu_mem (s : State) (off : Nat) (val : Word) : (State.writeTmu s off val).mem = s.mem := by
  show State.MemAs (State.writeTmu s off val) s
  unfold State.writeTmu
  repeat' (first | with_reducible exact State.MemAs.refl _ | with_reducible assumption | with_reducible apply State.MemAs.step (State.plainWrite_mem ..) | with_reducible apply State.MemAs.step (triggerTargetWrite_mem ..) | with_reducible apply State.MemAs.step (triggerArm_mem ..) | with_reducible apply State.MemAs.step (timeSet_mem ..) | with_reducible apply State.MemAs.step (timeStep_mem ..) | with_reducible apply State.MemAs.step (incrWrite_mem ..) | with_reducible apply State.MemAs.ite | split | dsimp only)

theorem State.writePwr_mem (s : State) (off : Nat) (val : Word) : (State.writePwr s off val).mem = s.mem := by
  show State.MemAs (State.writePwr s off val) s
  unfold State.writePwr
  repeat' (first | with_reducible exact State.MemAs.refl _ | with_reducible assumption | with_reducible apply State.MemAs.step (resumeAck_mem ..) | with_reducible apply State.MemAs.step (chGateWrite_mem ..) | with_reducible apply State.MemAs.step (wakeCmd_mem ..) | with_reducible apply State.MemAs.step (deepSleepCmd_mem ..) | with_reducible apply State.MemAs.step (Machine.sleepCmd_mem ..) | with_reducible apply State.MemAs.step (State.plainWrite_mem ..) | with_reducible apply State.MemAs.ite | split | dsimp only)

theorem State.writeCh_wf (s : State) (off : Nat) (val : Word) (hm0 : State.MemOk s) :
    State.MemOk (State.writeCh s off val) := by
  unfold State.writeCh
  repeat' (first | with_reducible assumption | with_reducible apply dbgDataAccess_wf | with_reducible apply wf_of_mem (engEnableWrite_mem ..) | with_reducible apply wf_of_mem (State.plainWrite_mem ..) | with_reducible apply State.MemOk.ite | split | dsimp only)

theorem cpoolHost_mem (isSize : Bool) (val : Word) (s : State) : (cpoolHost isSize val s).mem = s.mem := by
  show State.MemAs (cpoolHost isSize val s) s
  unfold cpoolHost
  repeat' (first | with_reducible exact State.MemAs.refl _ | with_reducible assumption | with_reducible apply State.MemAs.step (State.lockFault_mem ..) | with_reducible apply State.MemAs.step (State.showPool_mem ..) | with_reducible apply State.MemAs.step (cpoolWrite_mem ..) | with_reducible apply State.MemAs.ite | split | dsimp only)

theorem State.writeStkCfg_mem (s : State) (i : Nat) (val : Word) : (State.writeStkCfg s i val).mem = s.mem := by
  show State.MemAs (State.writeStkCfg s i val) s
  unfold State.writeStkCfg
  repeat' (first | with_reducible exact State.MemAs.refl _ | with_reducible assumption | with_reducible apply State.MemAs.step (State.lockedWrite_mem ..) | with_reducible apply State.MemAs.step (stkDisable_mem ..) | with_reducible apply State.MemAs.step (stkEnable_mem ..) | with_reducible apply State.MemAs.ite | split | dsimp only)

theorem State.writeStkCmd_mem (s : State) (i : Nat) (val : Word) : (State.writeStkCmd s i val).mem = s.mem := by
  show State.MemAs (State.writeStkCmd s i val) s
  unfold State.writeStkCmd
  repeat' (first | with_reducible exact State.MemAs.refl _ | with_reducible assumption | with_reducible apply State.MemAs.step (stkRegister_mem ..) | with_reducible apply State.MemAs.step (stkAbandon_mem ..) | with_reducible apply State.MemAs.step (stkAcquire_mem ..) | split | dsimp only)

theorem State.writeCamCfg_mem (s : State) (val : Word) : (State.writeCamCfg s val).mem = s.mem := by
  show State.MemAs (State.writeCamCfg s val) s
  unfold State.writeCamCfg
  repeat' (first | with_reducible exact State.MemAs.refl _ | with_reducible assumption | with_reducible apply State.MemAs.step (camEnable_mem ..) | with_reducible apply State.MemAs.step (State.put_mem ..) | with_reducible apply State.MemAs.step (State.wrN_mem ..) | with_reducible apply State.MemAs.ite | split | dsimp only)

theorem State.writeStk_mem (s : State) (off : Nat) (val : Word) : (State.writeStk s off val).mem = s.mem := by
  show State.MemAs (State.writeStk s off val) s
  unfold State.writeStk
  repeat' (first | with_reducible exact State.MemAs.refl _ | with_reducible assumption | with_reducible apply State.MemAs.step (State.writeStkCmd_mem ..) | with_reducible apply State.MemAs.step (State.writeStkCfg_mem ..) | with_reducible apply State.MemAs.step (State.plainWrite_mem ..) | split | dsimp only)

theorem State.writeCmp_mem (s : State) (off : Nat) (val : Word) : (State.writeCmp s off val).mem = s.mem := by
  show State.MemAs (State.writeCmp s off val) s
  unfold State.writeCmp
  repeat' (first | with_reducible exact State.MemAs.refl _ | with_reducible assumption | with_reducible apply State.MemAs.step (State.writeStk_mem ..) | with_reducible apply State.MemAs.step (State.writeCamCfg_mem ..) | with_reducible apply State.MemAs.step (cpoolHost_mem ..) | with_reducible apply State.MemAs.step (wbHeldClear_mem ..) | with_reducible apply State.MemAs.step (lidOffscreen_mem ..) | with_reducible apply State.MemAs.step (layerFence_mem ..) | with_reducible apply State.MemAs.step (lidCommit_mem ..) | with_reducible apply State.MemAs.step (camRestart_mem ..) | with_reducible apply State.MemAs.step (rigSelect_mem ..) | with_reducible apply State.MemAs.step (eyeSetCommit_mem ..) | with_reducible apply State.MemAs.ite | split | dsimp only)

theorem State.writeGroupCmd_mem (s : State) (g : Nat) (val : Word) : (State.writeGroupCmd s g val).mem = s.mem := by
  show State.MemAs (State.writeGroupCmd s g val) s
  unfold State.writeGroupCmd
  repeat' (first | with_reducible exact State.MemAs.refl _ | with_reducible assumption | with_reducible apply State.MemAs.step (splGDisable_mem ..) | with_reducible apply State.MemAs.step (splGRetrain_mem ..) | with_reducible apply State.MemAs.step (splGBringup_mem ..) | split | dsimp only)

theorem State.writeSpl_mem (s : State) (off : Nat) (val : Word) : (State.writeSpl s off val).mem = s.mem := by
  show State.MemAs (State.writeSpl s off val) s
  unfold State.writeSpl
  repeat' (first | with_reducible exact State.MemAs.refl _ | with_reducible assumption | with_reducible apply State.MemAs.step (State.writeGroupCmd_mem ..) | with_reducible apply State.MemAs.step (State.plainWrite_mem ..) | with_reducible apply State.MemAs.step (State.lockedBits_mem ..) | with_reducible apply State.MemAs.step (splLoopbackSelect_mem ..) | with_reducible apply State.MemAs.step (holdRequest_mem ..) | with_reducible apply State.MemAs.step (State.stopGroups_mem ..) | with_reducible apply State.MemAs.step (splEnable_mem ..) | with_reducible apply State.MemAs.step (splRestore_mem ..) | with_reducible apply State.MemAs.step (State.put_mem ..) | with_reducible apply State.MemAs.ite | split | dsimp only)

theorem State.writeAux_mem (s : State) (off : Nat) (val : Word) : (State.writeAux s off val).mem = s.mem := by
  show State.MemAs (State.writeAux s off val) s
  unfold State.writeAux
  repeat' (first | with_reducible exact State.MemAs.refl _ | with_reducible assumption | with_reducible apply State.MemAs.step (State.plainWrite_mem ..) | with_reducible apply State.MemAs.step (auxChTransaction_mem ..) | with_reducible apply State.MemAs.step (auxTrain_mem ..) | with_reducible apply State.MemAs.ite | split | dsimp only)

theorem State.writeMapCtrl_mem (s : State) (val : Word) : (State.writeMapCtrl s val).mem = s.mem := by
  show State.MemAs (State.writeMapCtrl s val) s
  unfold State.writeMapCtrl
  repeat' (first | with_reducible exact State.MemAs.refl _ | with_reducible assumption | with_reducible apply State.MemAs.step (mapOpen_mem ..) | with_reducible apply State.MemAs.step (mapUnfreeze_mem ..) | with_reducible apply State.MemAs.step (mapFreeze_mem ..) | with_reducible apply State.MemAs.step (State.put_mem ..) | with_reducible apply State.MemAs.ite | split | dsimp only)

theorem State.writeCal_mem (s : State) (off : Nat) (val : Word) : (State.writeCal s off val).mem = s.mem := by
  show State.MemAs (State.writeCal s off val) s
  unfold State.writeCal
  repeat' (first | with_reducible exact State.MemAs.refl _ | with_reducible assumption | with_reducible apply State.MemAs.step (State.writeMapCtrl_mem ..) | with_reducible apply State.MemAs.step (State.plainWrite_mem ..) | with_reducible apply State.MemAs.step (calRunAll_mem ..) | with_reducible apply State.MemAs.step (mapFresh_mem ..) | with_reducible apply State.MemAs.step (mapRestored_mem ..) | with_reducible apply State.MemAs.step (tileTempWrite_mem ..) | with_reducible apply State.MemAs.ite | split | dsimp only)

theorem State.writeDecCfg_wf (s : State) (x : Nat) (val : Word) (hm0 : State.MemOk s) :
    State.MemOk (State.writeDecCfg s x val) := by
  unfold State.writeDecCfg
  repeat' (first | with_reducible assumption | with_reducible apply vdecCtxDisable_wf | with_reducible apply wf_of_mem (vdecCtxEnable_mem ..) | with_reducible apply wf_of_mem (State.lockedBits_mem ..) | with_reducible apply State.MemOk.ite | split | dsimp only)

theorem State.writeDecCtx_wf (s : State) (x : Nat) (off : Nat) (val : Word) (hm0 : State.MemOk s) :
    State.MemOk (State.writeDecCtx s x off val) := by
  unfold State.writeDecCtx
  repeat' (first | with_reducible assumption | with_reducible apply State.writeDecCfg_wf | with_reducible apply wf_of_mem (State.decRefuse_mem ..) | with_reducible apply vdecReset_wf | with_reducible apply vdecFlush_wf | with_reducible apply wf_of_mem (vdecPut_mem ..) | with_reducible apply wf_of_mem (State.plainWrite_mem ..) | with_reducible apply State.MemOk.ite | split | dsimp only)

theorem State.writeVdec_wf (s : State) (off : Nat) (val : Word) (hm0 : State.MemOk s) :
    State.MemOk (State.writeVdec s off val) := by
  unfold State.writeVdec
  repeat' (first | with_reducible assumption | with_reducible apply State.writeDecCtx_wf | with_reducible apply wf_of_mem (State.plainWrite_mem ..) | with_reducible apply State.MemOk.ite | split | dsimp only)

theorem State.writeEncCtx_mem (s : State) (e : Nat) (off : Nat) (val : Word) : (State.writeEncCtx s e off val).mem = s.mem := by
  show State.MemAs (State.writeEncCtx s e off val) s
  unfold State.writeEncCtx
  repeat' (first | with_reducible exact State.MemAs.refl _ | with_reducible assumption | with_reducible apply State.MemAs.step (vencInPut_mem ..) | with_reducible apply State.MemAs.step (State.encDisable_mem ..) | with_reducible apply State.MemAs.step (vencCtxEnable_mem ..) | with_reducible apply State.MemAs.step (State.encRefuse_mem ..) | with_reducible apply State.MemAs.step (State.setEnc_mem ..) | with_reducible apply State.MemAs.step (State.plainWrite_mem ..) | with_reducible apply State.MemAs.ite | fail_if_no_progress with_reducible refine State.MemAs.mk ?_ | split | dsimp only)

theorem State.writeVenc_mem (s : State) (off : Nat) (val : Word) : (State.writeVenc s off val).mem = s.mem := by
  show State.MemAs (State.writeVenc s off val) s
  unfold State.writeVenc
  repeat' (first | with_reducible exact State.MemAs.refl _ | with_reducible assumption | with_reducible apply State.MemAs.step (State.writeEncCtx_mem ..) | with_reducible apply State.MemAs.step (State.plainWrite_mem ..) | with_reducible apply State.MemAs.ite | split | dsimp only)

theorem State.settlePorts_mem (s : State) : (State.settlePorts s).mem = s.mem := by
  show State.MemAs (State.settlePorts s) s
  unfold State.settlePorts
  repeat' (first | with_reducible exact State.MemAs.refl _ | with_reducible assumption | with_reducible apply State.MemAs.step (portLinkDown_mem ..) | with_reducible refine foldl_memAs _ (fun _ _ => ?_) ?_ | with_reducible apply State.MemAs.ite | split | dsimp only)

theorem State.writeFlow_mem (s : State) (off : Nat) (val : Word) : (State.writeFlow s off val).mem = s.mem := by
  show State.MemAs (State.writeFlow s off val) s
  unfold State.writeFlow
  repeat' (first | with_reducible exact State.MemAs.refl _ | with_reducible assumption | with_reducible apply State.MemAs.step (exactDelete_mem ..) | with_reducible apply State.MemAs.step (exactAdd_mem ..) | with_reducible apply State.MemAs.step (flowWrite_mem ..) | with_reducible apply State.MemAs.step (flowReadClear_mem ..) | with_reducible apply State.MemAs.step (flowRead_mem ..) | with_reducible apply State.MemAs.ite | split | dsimp only)

theorem State.writeNet_mem (s : State) (off : Nat) (val : Word) : (State.writeNet s off val).mem = s.mem := by
  show State.MemAs (State.writeNet s off val) s
  unfold State.writeNet
  repeat' (first | with_reducible exact State.MemAs.refl _ | with_reducible assumption | with_reducible apply State.MemAs.step (State.writeFlow_mem ..) | with_reducible apply State.MemAs.step (State.settlePorts_mem ..) | with_reducible apply State.MemAs.step (lossPop_mem ..) | with_reducible apply State.MemAs.step (tsqPop_mem ..) | with_reducible apply State.MemAs.step (State.showHist_mem ..) | with_reducible apply State.MemAs.step (htxPut_mem ..) | with_reducible apply State.MemAs.step (State.plainWrite_mem ..) | with_reducible apply State.MemAs.step (State.wrN_mem ..) | with_reducible apply State.MemAs.ite | split | dsimp only)

theorem State.writeMem_mem (s : State) (off : Nat) (val : Word) : (State.writeMem s off val).mem = s.mem := by
  show State.MemAs (State.writeMem s off val) s
  unfold State.writeMem
  repeat' (first | with_reducible exact State.MemAs.refl _ | with_reducible assumption | with_reducible apply State.MemAs.step (State.plainWrite_mem ..) | with_reducible apply State.MemAs.step (retirePreset_mem ..) | with_reducible apply State.MemAs.step (memRetireCmd_mem ..) | with_reducible apply State.MemAs.ite | split | dsimp only)

theorem State.writeBce_wf (s : State) (off : Nat) (val : Word) (hm0 : State.MemOk s) :
    State.MemOk (State.writeBce s off val) := by
  unfold State.writeBce
  repeat' (first | with_reducible assumption | with_reducible apply bceAbort_wf | with_reducible apply wf_of_mem (bceStart_mem ..) | with_reducible apply wf_of_mem (State.plainWrite_mem ..) | with_reducible apply State.MemOk.ite | split | dsimp only)

theorem State.writeCku_mem (s : State) (off : Nat) (val : Word) : (State.writeCku s off val).mem = s.mem := by
  show State.MemAs (State.writeCku s off val) s
  unfold State.writeCku
  repeat' (first | with_reducible exact State.MemAs.refl _ | with_reducible assumption | with_reducible apply State.MemAs.step (ckuCtxWrite_mem ..) | with_reducible apply State.MemAs.step (ckuCheck_mem ..) | with_reducible apply State.MemAs.step (ckuAppend_mem ..) | with_reducible apply State.MemAs.step (ckuCompute_mem ..) | with_reducible apply State.MemAs.step (State.plainWrite_mem ..) | with_reducible apply State.MemAs.ite | split | dsimp only)

theorem State.writeDco_mem (s : State) (off : Nat) (val : Word) : (State.writeDco s off val).mem = s.mem := by
  show State.MemAs (State.writeDco s off val) s
  unfold State.writeDco
  repeat' (first | with_reducible exact State.MemAs.refl _ | with_reducible assumption | with_reducible apply State.MemAs.step (dcoAbort_mem ..) | with_reducible apply State.MemAs.step (dcoResume_mem ..) | with_reducible apply State.MemAs.step (dcoDecompress_mem ..) | with_reducible apply State.MemAs.step (dcoCompress_mem ..) | with_reducible apply State.MemAs.step (State.plainWrite_mem ..) | with_reducible apply State.MemAs.ite | split | dsimp only)

theorem State.writeEhlCmd_mem (s : State) (val : Word) : (State.writeEhlCmd s val).mem = s.mem := by
  show State.MemAs (State.writeEhlCmd s val) s
  unfold State.writeEhlCmd
  repeat' (first | with_reducible exact State.MemAs.refl _ | with_reducible assumption | with_reducible apply State.MemAs.step (freezeArm_mem ..) | with_reducible apply State.MemAs.step (snapArm_mem ..) | with_reducible apply State.MemAs.step (treeReset_mem ..) | with_reducible apply State.MemAs.step (treeLid_mem ..) | with_reducible apply State.MemAs.step (ehlTakeover_mem ..) | with_reducible apply State.MemAs.step (ehlHandover_mem ..) | with_reducible apply State.MemAs.step (ehlResync_mem ..) | split | dsimp only)

theorem State.writeEhl_mem (s : State) (off : Nat) (val : Word) : (State.writeEhl s off val).mem = s.mem := by
  show State.MemAs (State.writeEhl s off val) s
  unfold State.writeEhl
  repeat' (first | with_reducible exact State.MemAs.refl _ | with_reducible assumption | with_reducible apply State.MemAs.step (State.writeEhlCmd_mem ..) | with_reducible apply State.MemAs.step (State.startLinking_mem ..) | with_reducible apply State.MemAs.step (State.plainWrite_mem ..) | with_reducible apply State.MemAs.step (bcastStart_mem ..) | with_reducible apply State.MemAs.step (State.wrN_mem ..) | with_reducible apply State.MemAs.ite | fail_if_no_progress with_reducible refine State.MemAs.mk ?_ | split | dsimp only)

theorem State.hostWrite_wf (s : State) (off : Nat) (val : Word) (hm0 : State.MemOk s) :
    State.MemOk (State.hostWrite s off val) := by
  unfold State.hostWrite
  repeat' (first | with_reducible assumption | with_reducible apply wf_of_mem (State.writeEhl_mem ..) | with_reducible apply wf_of_mem (State.writeDco_mem ..) | with_reducible apply wf_of_mem (State.writeCku_mem ..) | with_reducible apply State.writeBce_wf | with_reducible apply wf_of_mem (State.writeMem_mem ..) | with_reducible apply wf_of_mem (State.writeNet_mem ..) | with_reducible apply wf_of_mem (State.writeVenc_mem ..) | with_reducible apply State.writeVdec_wf | with_reducible apply wf_of_mem (State.writeCal_mem ..) | with_reducible apply wf_of_mem (State.writeAux_mem ..) | with_reducible apply wf_of_mem (State.writeSpl_mem ..) | with_reducible apply wf_of_mem (State.writeCmp_mem ..) | with_reducible apply State.writeCh_wf | with_reducible apply wf_of_mem (State.writePwr_mem ..) | with_reducible apply wf_of_mem (State.writeTmu_mem ..) | with_reducible apply wf_of_mem (State.writeEvc_mem ..) | with_reducible apply wf_of_mem (State.writeCsu_mem ..) | with_reducible apply State.writeGctl_wf | with_reducible apply State.MemOk.ite | split | dsimp only)

theorem State.ehlReply_mem (s : State) (l : Nat) (ok : Bool) (q : Nat) : (State.ehlReply s l ok q).mem = s.mem := by
  show State.MemAs (State.ehlReply s l ok q) s
  unfold State.ehlReply
  repeat' (first | with_reducible exact State.MemAs.refl _ | with_reducible assumption | with_reducible apply State.MemAs.step (State.setLink_mem ..) | fail_if_no_progress with_reducible refine State.MemAs.mk ?_ | split | dsimp only)

theorem State.ehlReceive_wf (s : State) (h : MsgHdr) (f : State → State) (hm0 : State.MemOk s) (hf0 : ∀ t : State, State.MemOk t → State.MemOk (f t)) :
    State.MemOk (State.ehlReceive s h f) := by
  unfold State.ehlReceive
  repeat' (first | with_reducible assumption | with_reducible apply wf_of_mem (State.ehlReply_mem ..) | with_reducible apply wf_of_mem (State.setLink_mem ..) | with_reducible refine hf0 _ ?_ | with_reducible apply State.MemOk.ite | fail_if_no_progress with_reducible refine State.MemOk.mk ?_ | split | dsimp only)

theorem State.fromPartner_wf (s : State) (h : MsgHdr) (f : State → State) (hm0 : State.MemOk s) (hf0 : ∀ t : State, State.MemOk t → State.MemOk (f t)) :
    State.MemOk (State.fromPartner s h f) := by
  unfold State.fromPartner
  repeat' (first | with_reducible assumption | with_reducible apply State.ehlReceive_wf | with_reducible refine hf0 _ ?_ | intro _ _ | with_reducible apply State.MemOk.ite | split | dsimp only)

theorem State.fromPrimary_wf (s : State) (h : MsgHdr) (f : State → State) (hm0 : State.MemOk s) (hf0 : ∀ t : State, State.MemOk t → State.MemOk (f t)) :
    State.MemOk (State.fromPrimary s h f) := by
  unfold State.fromPrimary
  repeat' (first | with_reducible assumption | with_reducible apply State.fromPartner_wf | with_reducible refine hf0 _ ?_ | intro _ _ | with_reducible apply State.MemOk.ite | split | dsimp only)

theorem State.fromParent_wf (s : State) (h : MsgHdr) (f : State → State) (hm0 : State.MemOk s) (hf0 : ∀ t : State, State.MemOk t → State.MemOk (f t)) :
    State.MemOk (State.fromParent s h f) := by
  unfold State.fromParent
  repeat' (first | with_reducible assumption | with_reducible apply State.ehlReceive_wf | with_reducible refine hf0 _ ?_ | intro _ _ | with_reducible apply State.MemOk.ite | split | dsimp only)

theorem alive_wf (h : MsgHdr) (pair : Nat) (inSync : Bool) (s : State) (hm0 : State.MemOk s) :
    State.MemOk (alive h pair inSync s) := by
  unfold alive
  repeat' (first | with_reducible assumption | with_reducible apply State.fromPartner_wf | with_reducible apply wf_of_mem (State.startJoin_mem ..) | with_reducible apply wf_of_mem (State.enterSync_mem ..) | intro _ _ | with_reducible apply State.MemOk.ite | fail_if_no_progress with_reducible refine State.MemOk.mk ?_ | split | dsimp only)

theorem regw_wf (h : MsgHdr) (writes : List (Nat × Word)) (s : State) (hm0 : State.MemOk s) :
    State.MemOk (regw h writes s) := by
  unfold regw
  repeat' (first | with_reducible assumption | with_reducible apply State.fromPrimary_wf | with_reducible apply State.hostWrite_wf | with_reducible refine foldl_wf _ (fun _ _ _ => ?_) _ _ ?_ | intro _ _ | split | dsimp only)

theorem stack_wf (h : MsgHdr) (m : StackMsg) (s : State) (hm0 : State.MemOk s) :
    State.MemOk (stack h m s) := by
  unfold stack
  repeat' (first | with_reducible assumption | with_reducible apply State.fromPrimary_wf | with_reducible apply State.mirrorStack_wf | intro _ _ | split | dsimp only)

theorem commit_wf (h : MsgHdr) (m : CommitMsg) (s : State) (hm0 : State.MemOk s) :
    State.MemOk (commit h m s) := by
  unfold commit
  repeat' (first | with_reducible assumption | with_reducible apply State.fromPrimary_wf | with_reducible apply State.takeCommit_wf | intro _ _ | split | dsimp only)

theorem build_wf (h : MsgHdr) (m : BuildMsg) (s : State) (hm0 : State.MemOk s) :
    State.MemOk (build h m s) := by
  unfold build
  repeat' (first | with_reducible assumption | with_reducible apply State.fromPrimary_wf | with_reducible apply State.mirroredBuild_wf | intro _ _ | with_reducible apply State.MemOk.ite | fail_if_no_progress with_reducible refine State.MemOk.mk ?_ | split | dsimp only)

theorem State.waitingBuild_wf (s : State) (hm0 : State.MemOk s) :
    State.MemOk (State.waitingBuild s) := by
  unfold State.waitingBuild
  repeat' (first | with_reducible assumption | with_reducible apply State.mirroredBuild_wf | with_reducible apply State.MemOk.ite | split | dsimp only)

theorem State.queueFrameMsg_mem (s : State) (m : EhlMsg) : (State.queueFrameMsg s m).mem = s.mem := by
  show State.MemAs (State.queueFrameMsg s m) s
  unfold State.queueFrameMsg
  repeat' (first | with_reducible exact State.MemAs.refl _ | with_reducible assumption | with_reducible apply State.MemAs.step (State.takeLater_mem ..) | fail_if_no_progress with_reducible refine State.MemAs.mk ?_ | split | dsimp only)

theorem fstart_wf (h : MsgHdr) (r : FrameRec) (s : State) (hm0 : State.MemOk s) :
    State.MemOk (fstart h r s) := by
  unfold fstart
  repeat' (first | with_reducible assumption | with_reducible apply wf_of_mem (State.queueFrameMsg_mem ..) | with_reducible apply State.fromPrimary_wf | intro _ _ | with_reducible apply State.MemOk.ite | split | dsimp only)

theorem fend_wf (h : MsgHdr) (r : FendRec) (s : State) (hm0 : State.MemOk s) :
    State.MemOk (fend h r s) := by
  unfold fend
  repeat' (first | with_reducible assumption | with_reducible apply wf_of_mem (State.queueFrameMsg_mem ..) | with_reducible apply State.fromPrimary_wf | intro _ _ | with_reducible apply State.MemOk.ite | split | dsimp only)

theorem handover_wf (h : MsgHdr) (s : State) (hm0 : State.MemOk s) :
    State.MemOk (handover h s) := by
  unfold handover
  repeat' (first | with_reducible assumption | with_reducible apply State.fromPartner_wf | with_reducible apply wf_of_mem (State.takeover_mem ..) | with_reducible apply wf_of_mem (State.startJoin_mem ..) | intro _ _ | with_reducible apply State.MemOk.ite | split | dsimp only)

theorem power_wf (h : MsgHdr) (op : Nat) (s : State) (hm0 : State.MemOk s) :
    State.MemOk (power h op s) := by
  unfold power
  repeat' (first | with_reducible assumption | with_reducible apply State.fromPartner_wf | with_reducible apply wf_of_mem (State.sleepCmd_mem ..) | with_reducible apply wf_of_mem (State.desync_mem ..) | with_reducible apply wf_of_mem (State.wake_mem ..) | intro _ _ | with_reducible apply State.MemOk.ite | split | dsimp only)

theorem join_wf (h : MsgHdr) (m : JoinMsg) (s : State) (hm0 : State.MemOk s) :
    State.MemOk (join h m s) := by
  unfold join
  repeat' (first | with_reducible assumption | with_reducible apply State.fromPrimary_wf | with_reducible apply State.takeCurrent_wf | with_reducible apply State.mirrorStack_wf | with_reducible apply State.memWrite_wf | intro _ _ | split | dsimp only)

theorem tlid_wf (h : MsgHdr) (q t : Nat) (s : State) (hm0 : State.MemOk s) :
    State.MemOk (tlid h q t s) := by
  unfold tlid
  repeat' (first | with_reducible assumption | with_reducible apply State.fromParent_wf | with_reducible apply wf_of_mem (State.takeLid_mem ..) | with_reducible apply wf_of_mem (State.toChildren_mem ..) | intro _ _ | split | dsimp only)

theorem treset_wf (h : MsgHdr) (kind t : Nat) (s : State) (hm0 : State.MemOk s) :
    State.MemOk (treset h kind t s) := by
  unfold treset
  repeat' (first | with_reducible assumption | with_reducible apply State.fromParent_wf | with_reducible apply wf_of_mem (State.toChildren_mem ..) | intro _ _ | fail_if_no_progress with_reducible refine State.MemOk.mk ?_ | split | dsimp only)

theorem treeResetApply_wf (s : State) (hm0 : State.MemOk s) :
    State.MemOk (treeResetApply s) := by
  unfold treeResetApply
  repeat' (first | with_reducible assumption | with_reducible apply State.treeKind_wf | with_reducible apply State.MemOk.ite | fail_if_no_progress with_reducible refine State.MemOk.mk ?_ | split | dsimp only)

theorem tarm_wf (h : MsgHdr) (freeze : Bool) (t : Nat) (s : State) (hm0 : State.MemOk s) :
    State.MemOk (tarm h freeze t s) := by
  unfold tarm
  repeat' (first | with_reducible assumption | with_reducible apply State.fromParent_wf | with_reducible apply wf_of_mem (State.armHere_mem ..) | with_reducible apply wf_of_mem (State.toChildren_mem ..) | intro _ _ | split | dsimp only)

theorem tbcast_wf (h : MsgHdr) (mask a : Nat) (bs : List Byte) (s : State) (hm0 : State.MemOk s) :
    State.MemOk (tbcast h mask a bs s) := by
  unfold tbcast
  repeat' (first | with_reducible assumption | with_reducible apply State.fromParent_wf | with_reducible apply wf_of_mem (State.toChildren_mem ..) | with_reducible apply State.dmaWrite_wf1 | intro _ _ | with_reducible apply State.MemOk.ite | split | dsimp only)

theorem tstatus_wf (h : MsgHdr) (s : State) (hm0 : State.MemOk s) :
    State.MemOk (tstatus h s) := by
  unfold tstatus
  repeat' (first | with_reducible assumption | with_reducible apply State.ehlReceive_wf | with_reducible apply wf_of_mem (State.put_mem ..) | intro _ _ | with_reducible apply State.MemOk.ite | split | dsimp only)

theorem State.steer_mem (s : State) (ns : Nat) : (State.steer s ns).mem = s.mem := by
  show State.MemAs (State.steer s ns) s
  unfold State.steer
  repeat' (first | with_reducible exact State.MemAs.refl _ | with_reducible assumption | with_reducible apply State.MemAs.step (State.applyStep_mem ..) | with_reducible apply State.MemAs.step (State.wrN_mem ..) | with_reducible apply State.MemAs.ite | fail_if_no_progress with_reducible refine State.MemAs.mk ?_ | split | dsimp only)

theorem ttime_wf (h : MsgHdr) (ns : Nat) (s : State) (hm0 : State.MemOk s) :
    State.MemOk (ttime h ns s) := by
  unfold ttime
  repeat' (first | with_reducible assumption | with_reducible apply wf_of_mem (State.steer_mem ..) | with_reducible apply State.ehlReceive_wf | intro _ _ | with_reducible apply State.MemOk.ite | split | dsimp only)

theorem tdelay_wf (h : MsgHdr) (m : TdelayMsg) (s : State) (hm0 : State.MemOk s) :
    State.MemOk (tdelay h m s) := by
  unfold tdelay
  repeat' (first | with_reducible assumption | with_reducible apply State.ehlReceive_wf | with_reducible apply wf_of_mem (State.ehlSend_mem ..) | with_reducible apply wf_of_mem (State.wrN_mem ..) | intro _ _ | with_reducible apply State.MemOk.ite | fail_if_no_progress with_reducible refine State.MemOk.mk ?_ | split | dsimp only)

theorem State.keepQueue_wf (s t : State) (hm0 : State.MemOk s) (hm1 : State.MemOk t) :
    State.MemOk (State.keepQueue s t) := by
  unfold State.keepQueue
  repeat' (first | with_reducible assumption | fail_if_no_progress with_reducible refine State.MemOk.mk ?_ | split | dsimp only)

theorem State.runAlways_wf (s : State) (f : State → State) (hm0 : State.MemOk s) (hf0 : ∀ t : State, State.MemOk t → State.MemOk (f t)) :
    State.MemOk (State.runAlways s f) := by
  unfold State.runAlways
  repeat' (first | with_reducible assumption | with_reducible apply State.keepQueue_wf | with_reducible refine hf0 _ ?_ | split | dsimp only)

theorem State.runAon_wf (s : State) (f : State → State) (hm0 : State.MemOk s) (hf0 : ∀ t : State, State.MemOk t → State.MemOk (f t)) :
    State.MemOk (State.runAon s f) := by
  unfold State.runAon
  repeat' (first | with_reducible assumption | with_reducible apply State.keepQueue_wf | with_reducible refine hf0 _ ?_ | with_reducible apply State.MemOk.ite | split | dsimp only)

theorem State.runPll_wf (s : State) (p : Nat) (f : State → State) (hm0 : State.MemOk s) (hf0 : ∀ t : State, State.MemOk t → State.MemOk (f t)) :
    State.MemOk (State.runPll s p f) := by
  unfold State.runPll
  repeat' (first | with_reducible assumption | with_reducible apply State.keepQueue_wf | with_reducible refine hf0 _ ?_ | with_reducible apply State.MemOk.ite | split | dsimp only)

theorem State.runCore_wf (s : State) (f : State → State) (hm0 : State.MemOk s) (hf0 : ∀ t : State, State.MemOk t → State.MemOk (f t)) :
    State.MemOk (State.runCore s f) := by
  unfold State.runCore
  repeat' (first | with_reducible assumption | with_reducible apply State.keepQueue_wf | with_reducible refine hf0 _ ?_ | with_reducible apply State.MemOk.ite | split | dsimp only)

theorem State.hostDo_wf (s : State) (off : Nat) (val : Word) (f : State → State) (hm0 : State.MemOk s) (hf0 : ∀ t : State, State.MemOk t → State.MemOk (f t)) :
    State.MemOk (State.hostDo s off val f) := by
  unfold State.hostDo
  repeat' (first | with_reducible assumption | with_reducible apply wf_of_mem (State.refuseHost_mem ..) | with_reducible apply wf_of_mem (State.toPartner_mem ..) | with_reducible apply wf_of_mem (State.raise_mem ..) | with_reducible refine hf0 _ ?_ | with_reducible apply State.MemOk.ite | split | dsimp only)

theorem State.runHost_wf (s : State) (off : Nat) (val : Word) (f : State → State) (hm0 : State.MemOk s) (hf0 : ∀ t : State, State.MemOk t → State.MemOk (f t)) :
    State.MemOk (State.runHost s off val f) := by
  unfold State.runHost
  repeat' (first | with_reducible assumption | with_reducible apply State.hostDo_wf | with_reducible apply State.keepQueue_wf | with_reducible refine hf0 _ ?_ | intro _ _ | split | dsimp only)

theorem State.clearRc_mem (s : State) (off : Nat) : (State.clearRc s off).mem = s.mem := by
  show State.MemAs (State.clearRc s off) s
  unfold State.clearRc
  repeat' (first | with_reducible exact State.MemAs.refl _ | with_reducible assumption | with_reducible apply State.MemAs.step (State.wrN_mem ..) | with_reducible apply State.MemAs.ite | split | dsimp only)

theorem State.readEffect_mem (s : State) (off : Nat) : (State.readEffect s off).mem = s.mem := by
  show State.MemAs (State.readEffect s off) s
  unfold State.readEffect
  repeat' (first | with_reducible exact State.MemAs.refl _ | with_reducible assumption | with_reducible apply State.MemAs.step (State.clearRc_mem ..) | with_reducible apply State.MemAs.step (State.setHist_mem ..) | with_reducible apply State.MemAs.step (State.wrN_mem ..) | with_reducible apply State.MemAs.ite | split | dsimp only)

theorem State.hostRead_wf (s : State) (off : Nat) (hm0 : State.MemOk s) :
    State.MemOk (State.hostRead s off) := by
  unfold State.hostRead
  repeat' (first | with_reducible assumption | with_reducible apply wf_of_mem (State.readEffect_mem ..) | with_reducible apply dbgDataAccess_wf | with_reducible apply wf_of_mem (State.complete_mem ..) | with_reducible apply wf_of_mem (timeRead_mem ..) | with_reducible apply State.MemOk.ite | split | dsimp only)

theorem State.readZero_mem (s : State) (isWrite : Bool) (dws : Nat) : (State.readZero s isWrite dws).mem = s.mem := by
  show State.MemAs (State.readZero s isWrite dws) s
  unfold State.readZero
  repeat' (first | with_reducible exact State.MemAs.refl _ | with_reducible assumption | with_reducible apply State.MemAs.step (State.complete_mem ..) | with_reducible apply State.MemAs.ite | split | dsimp only)

theorem State.hostGate_wf (s : State) (off : Nat) (isWrite : Bool) (go : State → State) (hm0 : State.MemOk s) (hf0 : ∀ t : State, State.MemOk t → State.MemOk (go t)) :
    State.MemOk (State.hostGate s off isWrite go) := by
  unfold State.hostGate
  repeat' (first | with_reducible assumption | with_reducible apply wf_of_mem (State.readZero_mem ..) | with_reducible apply wf_of_mem (State.accessFault_mem ..) | with_reducible apply wf_of_mem (State.raise_mem ..) | with_reducible refine hf0 _ ?_ | with_reducible apply State.MemOk.ite | split | dsimp only)

theorem State.hostAccess_wf (s : State) (off : Nat) (isWrite : Bool) (val : Word) (hm0 : State.MemOk s) :
    State.MemOk (State.hostAccess s off isWrite val) := by
  unfold State.hostAccess
  repeat' (first | with_reducible assumption | with_reducible apply State.hostGate_wf | with_reducible apply State.hostRead_wf | with_reducible apply State.hostDo_wf | with_reducible apply State.hostWrite_wf | intro _ _ | with_reducible apply State.MemOk.ite | split | dsimp only)

theorem State.debugAccess_wf (s : State) (c : Nat) (isWrite : Bool) (val : Word) (ecc : Ecc) (hm0 : State.MemOk s) :
    State.MemOk (State.debugAccess s c isWrite val ecc) := by
  unfold State.debugAccess
  repeat' (first | with_reducible assumption | with_reducible apply State.hostGate_wf | with_reducible apply State.hostDo_wf | with_reducible apply dbgDataAccess_wf | intro _ _ | with_reducible apply State.MemOk.ite | split | dsimp only)

theorem registerWrite_wf (off : Nat) (val : Word) (s : State) (hm0 : State.MemOk s) :
    State.MemOk (registerWrite off val s) := by
  unfold registerWrite
  repeat' (first | with_reducible assumption | with_reducible apply State.hostAccess_wf | with_reducible apply State.MemOk.ite | split | dsimp only)

theorem rcRead_wf (off : Nat) (s : State) (hm0 : State.MemOk s) :
    State.MemOk (rcRead off s) := by
  unfold rcRead
  repeat' (first | with_reducible assumption | with_reducible apply State.hostAccess_wf | with_reducible apply State.MemOk.ite | split | dsimp only)

theorem offDomainAccess_wf (off : Nat) (isWrite : Bool) (val : Word) (s : State) (hm0 : State.MemOk s) :
    State.MemOk (offDomainAccess off isWrite val s) := by
  unfold offDomainAccess
  repeat' (first | with_reducible assumption | with_reducible apply State.hostAccess_wf | with_reducible apply State.MemOk.ite | split | dsimp only)

theorem bar0UndefinedAccess_wf (off : Nat) (isWrite : Bool) (val : Word) (s : State) (hm0 : State.MemOk s) :
    State.MemOk (bar0UndefinedAccess off isWrite val s) := by
  unfold bar0UndefinedAccess
  repeat' (first | with_reducible assumption | with_reducible apply State.hostAccess_wf | with_reducible apply State.MemOk.ite | split | dsimp only)

theorem bar0MalformedRequest_mem (off : Nat) (isWrite : Bool) (dws be : Nat) (s : State) : (bar0MalformedRequest off isWrite dws be s).mem = s.mem := by
  show State.MemAs (bar0MalformedRequest off isWrite dws be s) s
  unfold bar0MalformedRequest
  repeat' (first | with_reducible exact State.MemAs.refl _ | with_reducible assumption | with_reducible apply State.MemAs.step (State.readZero_mem ..) | with_reducible apply State.MemAs.step (State.accessFault_mem ..) | with_reducible apply State.MemAs.ite | split | dsimp only)

theorem State.bar2Span_wf (off : Nat) (bs : List Byte) (s : State) (w : Nat × Nat × Nat) (hm0 : State.MemOk s) :
    State.MemOk (State.bar2Span off bs s w) := by
  unfold State.bar2Span
  repeat' (first | with_reducible assumption | with_reducible apply wf_of_mem (State.markChgFull_mem ..) | with_reducible apply State.memWrite_wf | with_reducible apply State.MemOk.ite | split | dsimp only)

theorem State.bar2Reports_wf (s : State) (spans : List (Nat × Nat × Nat)) (t : State) (hm0 : State.MemOk s) (hm1 : State.MemOk t) :
    State.MemOk (State.bar2Reports s spans t) := by
  unfold State.bar2Reports
  repeat' (first | with_reducible assumption | with_reducible apply wf_of_mem (State.refuseHost_mem ..) | with_reducible apply wf_of_mem (State.leaseFault_mem ..) | with_reducible apply wf_of_mem (State.raise_mem ..) | split | dsimp only)

theorem bar2Write_wf (off : Nat) (bs : List Byte) (s : State) (hm0 : State.MemOk s) :
    State.MemOk (bar2Write off bs s) := by
  unfold bar2Write
  repeat' (first | with_reducible assumption | with_reducible apply State.bar2Reports_wf | with_reducible apply State.bar2Span_wf | with_reducible apply wf_of_mem (State.raise_mem ..) | with_reducible refine foldl_wf _ (fun _ _ _ => ?_) _ _ ?_ | with_reducible apply State.MemOk.ite | split | dsimp only)

theorem bar2Read_mem (off len : Nat) (s : State) : (bar2Read off len s).mem = s.mem := by
  show State.MemAs (bar2Read off len s) s
  unfold bar2Read
  repeat' (first | with_reducible exact State.MemAs.refl _ | with_reducible assumption | with_reducible apply State.MemAs.step (State.complete_mem ..) | with_reducible apply State.MemAs.step (State.notePoisonRead_mem ..) | with_reducible apply State.MemAs.step (State.raiseIf_mem ..) | with_reducible apply State.MemAs.step (State.raise_mem ..) | with_reducible apply State.MemAs.step (State.freeSkip_mem ..) | with_reducible apply State.MemAs.step (State.count_mem ..) | with_reducible apply State.MemAs.step (State.wrN_mem ..) | with_reducible apply State.MemAs.ite | split | dsimp only)

theorem configurationRequest_mem (w : CfgWrite) (s : State) : (configurationRequest w s).mem = s.mem := by
  show State.MemAs (configurationRequest w s) s
  unfold configurationRequest
  repeat' (first | with_reducible exact State.MemAs.refl _ | with_reducible assumption | with_reducible apply State.MemAs.step (State.sendPending_mem ..) | with_reducible apply State.MemAs.step (State.put_mem ..) | with_reducible apply State.MemAs.ite | fail_if_no_progress with_reducible refine State.MemAs.mk ?_ | split | dsimp only)

theorem State.fatalHandover_mem (s : State) : (State.fatalHandover s).mem = s.mem := by
  show State.MemAs (State.fatalHandover s) s
  unfold State.fatalHandover
  repeat' (first | with_reducible exact State.MemAs.refl _ | with_reducible assumption | with_reducible apply State.MemAs.step (State.handOver_mem ..) | with_reducible apply State.MemAs.ite | split | dsimp only)

theorem State.showWaitHeld_mem (s : State) : (State.showWaitHeld s).mem = s.mem := by
  show State.MemAs (State.showWaitHeld s) s
  unfold State.showWaitHeld
  repeat' (first | with_reducible exact State.MemAs.refl _ | with_reducible assumption | with_reducible apply State.MemAs.step (State.putB_mem ..) | split | dsimp only)

theorem State.settleInputs_wf (s : State) (hm0 : State.MemOk s) :
    State.MemOk (State.settleInputs s) := by
  unfold State.settleInputs
  repeat' (first | with_reducible assumption | with_reducible apply State.settleMarked_wf | with_reducible apply wf_of_mem (State.showRaster_mem ..) | with_reducible apply wf_of_mem (State.settleCommit_mem ..) | with_reducible apply wf_of_mem (State.evalOverlay_mem ..) | with_reducible apply wf_of_mem (State.settleEyes_mem ..) | with_reducible apply wf_of_mem (State.settleTemps_mem ..) | with_reducible apply wf_of_mem (State.settleRestores_mem ..) | split | dsimp only)

theorem State.settleCore_wf (s : State) (hm0 : State.MemOk s) :
    State.MemOk (State.settleCore s) := by
  unfold State.settleCore
  repeat' (first | with_reducible assumption | with_reducible apply State.settleInputs_wf | with_reducible apply wf_of_mem (State.showWaitHeld_mem ..) | with_reducible apply wf_of_mem (State.fatalHandover_mem ..) | with_reducible apply State.waitingBuild_wf | with_reducible apply wf_of_mem (State.latchPuts_mem ..) | with_reducible apply wf_of_mem (State.countBusy_mem ..) | with_reducible apply wf_of_mem (State.trimPool_mem ..) | with_reducible apply wf_of_mem (State.latchFlows_mem ..) | with_reducible apply wf_of_mem (State.showLag_mem ..) | with_reducible apply wf_of_mem (State.linkDone_mem ..) | with_reducible apply wf_of_mem (State.armFrame_mem ..) | with_reducible apply wf_of_mem (State.settleCams_mem ..) | with_reducible apply wf_of_mem (State.waitingRun_mem ..) | with_reducible apply wf_of_mem (State.standbyMark_mem ..) | with_reducible apply wf_of_mem (State.serveMem_mem ..) | with_reducible apply State.MemOk.ite | split | dsimp only)

theorem State.settlePower_wf (s : State) (hm0 : State.MemOk s) :
    State.MemOk (State.settlePower s) := by
  unfold State.settlePower
  repeat' (first | with_reducible assumption | with_reducible apply State.settleStop_wf | with_reducible apply wf_of_mem (State.settlePlls_mem ..) | with_reducible apply wf_of_mem (State.wakeStep_mem ..) | with_reducible apply wf_of_mem (State.wakeClocks_mem ..) | with_reducible apply State.settleReset_wf | split | dsimp only)

theorem State.keepWas_mem (s : State) : (State.keepWas s).mem = s.mem := by
  show State.MemAs (State.keepWas s) s
  unfold State.keepWas
  repeat' (first | with_reducible exact State.MemAs.refl _ | with_reducible assumption | fail_if_no_progress with_reducible refine State.MemAs.mk ?_ | split | dsimp only)

theorem eventTickEnd_wf (s : State) (hm0 : State.MemOk s) :
    State.MemOk (eventTickEnd s) := by
  unfold eventTickEnd
  repeat' (first | with_reducible assumption | with_reducible apply wf_of_mem (State.keepWas_mem ..) | with_reducible apply State.settlePower_wf | with_reducible apply State.settleCore_wf | with_reducible apply wf_of_mem (eventTick_mem ..) | with_reducible apply wf_of_mem (State.settleLinks_mem ..) | with_reducible apply State.MemOk.ite | split | dsimp only)

/-! The wrappers of the commands -/

theorem State.hostDo_mem (s : State) (off : Nat) (val : Word) (f : State → State) (h : ∀ t, (f t).mem = t.mem) :
    (State.hostDo s off val f).mem = s.mem := by
  show State.MemAs (State.hostDo s off val f) s
  unfold State.hostDo
  exact State.MemAs.ite (State.MemAs.refl _) (State.MemAs.ite (State.raise_mem ..) (State.MemAs.ite (State.refuseHost_mem ..)
    (State.MemAs.ite (State.MemAs.step (State.toPartner_mem ..) (h s)) (h s))))

theorem State.runHost_mem (s : State) (off : Nat) (val : Word) (f : State → State) (h : ∀ t, (f t).mem = t.mem) :
    (State.runHost s off val f).mem = s.mem := State.hostDo_mem s off val f h

theorem State.runCore_mem (s : State) (f : State → State) (h : ∀ t, (f t).mem = t.mem) : (State.runCore s f).mem = s.mem :=
  State.MemAs.ite (a := f s) (h s) (State.MemAs.refl _)

theorem State.runAon_mem (s : State) (f : State → State) (h : ∀ t, (f t).mem = t.mem) : (State.runAon s f).mem = s.mem :=
  State.MemAs.ite (a := f s) (h s) (State.MemAs.refl _)

theorem State.runAlways_mem (s : State) (f : State → State) (h : ∀ t, (f t).mem = t.mem) : (State.runAlways s f).mem = s.mem := h s

end Sys2Proof.Machine
end

