-- ==== Sys2Proof/Laws/RegTable.lean ====
section
/-!
SUPPORT. Facts of the register table (R5, R20) that hold row by row.
-/

namespace Sys2Proof.Machine

set_option maxRecDepth 40000 in
/-- Every access mask of the table is a mask of 32 bits, and no bit carries two access codes. -/
theorem regTable_masks : regTable.all (fun r => decide (r.rw < 2 ^ 32 ∧ r.rwl < 2 ^ 32 ∧ r.w1c < 2 ^ 32 ∧ r.rc < 2 ^ 32 ∧ r.wo < 2 ^ 32
    ∧ r.rw &&& r.w1c = 0 ∧ r.rw &&& r.rwl = 0)) = true := by
  decide

theorem regRowAt_masks {off : Nat} {r : RegRow} (h : regRowAt off = some r) :
    r.rw < 2 ^ 32 ∧ r.rwl < 2 ^ 32 ∧ r.w1c < 2 ^ 32 ∧ r.rc < 2 ^ 32 ∧ r.wo < 2 ^ 32 ∧ r.rw &&& r.w1c = 0 ∧ r.rw &&& r.rwl = 0 := by
  simpa using List.all_eq_true.mp regTable_masks r (List.mem_of_find?_eq_some h)

end Sys2Proof.Machine
end

