-- ==== Sys2Proof/Tests/Slice0.lean ====
section
/-!
SUPPORT. Tests: ill-formed commands, worked examples of the manual, and for every obligation with hypotheses the states and operands
that meet them, clause by clause in the order of the obligation.
-/

namespace Sys2Proof.Tests

open Sys2Proof Sys2Proof.Machine

set_option Elab.async false
set_option maxRecDepth 10000
set_option synthInstance.maxSize 4096
set_option synthInstance.maxHeartbeats 400000

/-! ## States -/

/-- The machine after its PLLs have locked and its channel gates are open. -/
def tOn : State := ((State.reset.wrN PWR_PLL_STATUS 0x1FFFF).wrN PWR_CH_GATE_STATUS 15)
/-- A state with fields set. -/
def tPut (l : List (Fld × Nat)) (s : State) : State := l.foldl (fun st p => st.put p.1 p.2) s
/-- A state with registers set. -/
def tWr (l : List (Nat × Nat)) (s : State) : State := l.foldl (fun st p => st.wrN p.1 p.2) s
/-- The row of a register. -/
def rowOf (off : Nat) : RegRow := match regRowAt off with | some r => r | none => ⟨off, 0, 0, 0, 0, 0, 0, 0, 0⟩
/-- The state that an outcome answers. -/
def okState (o : Host.Outcome State Fault Refusal) : State := match o with | .next t => t | _ => State.reset
/-- An image of empty sections. -/
def tImage : Img := { structSec := [], geometry := [], panel := [], net := [], policy := [], identity := [] }
def tFuseOp : FuseOp := { key := true, slot := 0, revoke := false, todo := [0] }
/-- All streams active. -/
def tStreams : List Stream := List.replicate 8 { Stream.reset with active := true }
/-- A datagram of tile transport: type, flags, plane count and length. -/
def tDg (typ flags n len : Nat) : List Byte :=
  ([0x54, 0x53, 1, BitVec.ofNat 8 typ, 0, BitVec.ofNat 8 flags] ++ List.replicate 14 0 ++ [BitVec.ofNat 8 n] ++ List.replicate (len - 21) 0).take len
def tGen : RxGen := { gen := 0, buf := 2, planes := [(0, 0, 0)], used := [], tiles := [], count := 0, last := none, endAt := 0 }
/-- Stream 0 receives from tile transport. -/
def tRx (g : Option RxGen) : State :=
  tPut [(CMP_STK_CFG_SOURCE 0, 1)] (tWr [(CMP_SYN_GEOM, 2 ^ 21 + 32)]
    { tOn with streams := { Stream.reset with active := true, rx := g } :: List.replicate 7 Stream.reset })
/-- STRUCT bytes that unlock all bits of one register. -/
def tUnlock (off : Nat) : List Byte :=
  List.replicate 0xC0 0 ++ [1, 0, 0, 0, BitVec.ofNat 8 off, BitVec.ofNat 8 (off / 2 ^ 8), BitVec.ofNat 8 (off / 2 ^ 16), BitVec.ofNat 8 (off / 2 ^ 24), 0xFF, 0xFF, 0xFF, 0xFF]
/-- The bytes of a store from address `a` on, zeros left out. -/
def tCells (a : Nat) (bs : List Byte) : List Host.Cell := (((List.range bs.length).map (fun i => (a + i, bs.getD i 0))).filter (fun c => c.2 != 0))
/-- An instruction word by its fields. -/
def tW (opc pm dst sa sb fn : Nat) : Nat := opc * 2 ^ 24 + pm * 2 ^ 21 + dst * 2 ^ 16 + sa * 2 ^ 11 + sb * 2 ^ 6 + fn
/-- Engine 127 runs a run (or a build item) at program counter 0, where its local store holds the word `w`. -/
def tEng (w : Nat) (build : Bool) (f : Engine → Engine) : State :=
  tPut [(CH_ENG_STATE_STATE 3 31, 2), (CH_ENG_STATE_KIND 3 31, bit build)]
    { tOn with engines := List.replicate 127 Engine.reset ++ [f { Engine.reset with ls := tCells 0 (leBytes 4 w) }] }
def tXfer (wr : Bool) : Xfer := { ls := 0x7FFF0, dev := 0x9FFFFFFF0, len := 16, write := wr, pc := 4 }
def tItem (b : Bool) : Item := { build := b, wi := List.replicate 8 0 }
def tPlane : DirPlane := { src := .overlay, disp := 0, tiles := [] }
/-- A panel section with one tile: hogels 0 to 31 in both directions, in group 0, with no reference identity. -/
def tPanel : List Byte :=
  [0, 0, 0, 0, 0x80, 0, 0, 0] ++ List.replicate 0x78 0 ++ [0, 0, 0, 0, 1] ++ List.replicate 11 0 ++ [0, 0, 32, 0, 0, 0, 32, 0, 0, 0, 0, 0, 0, 0, 0, 0]
/-- A panel of that one tile, present, here, and its group active. -/
def tShow (f : State → State) : State :=
  tPut [(SPL_T_STATUS_PRESENT 0, 1), (SPL_T_STATUS_HERE 0, 1), (SPL_G_STATE_STATE 0, gActive)]
    (tWr [(CMP_SYN_GEOM, 2 ^ 21 + 32)] (f { tOn with csu := { Csu.reset with image := some { tImage with panel := tPanel } }, now := 10 ^ 10 }))
/-- The same with a frame in progress. -/
def tFrame (f : State → State) : State := tPut [(SPL_STATUS_FRAME_ACTIVE, 1)] (tShow f)
def tLayer : LayerPlane := { regs := [1#32], pending := false, ready := false, asHold := false, scaler := none, tiles := [] }
/-- A layer of one pixel that passes its checks. -/
def tPixel : LayerPlane := { tLayer with regs := [1, 0, 0, 0, 0, 64, 0x10001, 0, 0x10001, 0, 0x10001] }
def tNoLayer : LayerPlane := { tLayer with regs := [] }
/-- A commit in which at most layer 23 is shown. -/
def tCommit (l : LayerPlane) : Commit :=
  { seq := 1, cfg := 0, minNs := 0, maxNs := 0, wb := [], ofs := [], layers := List.replicate 23 tNoLayer ++ [l], since := 0 }
def tPiece (next : Nat) (retry : Bool) : Piece :=
  { tile := 0, band := 0, next := next, retry := retry, acked := false, sends := [], lastAt := 0, order := 0 }
def tUpdate (phase next : Nat) (retry : Bool) : Update :=
  { upd := 5, restore := some 0, rect := ⟨0, 32, 0, 32⟩, phase := phase, pieces := [tPiece next retry] }
def tQueue (u : Update) (s : State) : State := { s with spl := { s.spl with queue := [u] } }
def tGroup (g : Group) (s : State) : State := { s with spl := { s.spl with groups := List.replicate 6 g } }
def tCorr : Corr := { granule := 0, tile := 0, delta := [], sent := false, acked := false, frame := 0, att := 0, retries := 0, lastAt := 0 }
def tRec : StatusRec :=
  { taddr := 0, frame := 1, att := 0, upd := 5, band := 0, x := 0, y := 0, here := true, valid := true, holding := false, eye := 0, lane := 0
    errors := 0, tileId := 0, version := 0, latency := 0, lanes := 0 }
/-- The overlay descriptor of one field, in a policy. -/
def tPolicy : List Byte :=
  List.replicate 0x14 0 ++ [0x1C, 0, 0, 0, 0x80, 0, 0, 0] ++ [0, 0, 0, 0, 1] ++ List.replicate 11 0 ++ [0x14] ++ List.replicate 0x6F 0
def tStage (lanes eye : Nat) : StageInfo := { lanes := lanes, scores := [], presets := [], eye := eye, eyeLane := 0, eyeTile := 0 }
def tCopy (role : Nat) (frame : Option Nat) : Copy := { role := role, frame := frame, done := false, time := 0 }
def tView : CloneView := { view := 0, copies := [tCopy roleLatest (some 1), tCopy roleWork none, tCopy roleFree none] }
def tPass : Pass := { second := 1, weight := 1, start := 0, left := none }
/-- The auxiliary output enabled, connected and trained, with one captured view. -/
def tAux (v : CloneView) : State :=
  tPut [(⟨AUX_CFG, 0, 0⟩, 1), (auxHpd, 1), (auxTrained, 1)] { tOn with aux := { Aux.reset with views := [v] } }
def tFmt : StreamFormat := { profile := 1, level := 10, extra := false, chroma := 1, depth := 8, width := 64, height := 64, dpb := 0, reorder := 0, latency := 0 }
def tDec (key : Bool) (bad : Bool) : DecodeResult :=
  { headerBad := bad, format := tFmt, key := key, errors := 0, blockLog2 := 6, concealed := [], missing := false, uses := [], poisonRef := false
    hashFail := false, grain := false, picture := false, rasl := false, order := 0, cropX := 0, cropY := 0, luma := [], cb := [], cr := []
    held := [], freed := [], isRef := false, outputs := [] }
def tDecJob : DecJob :=
  { ctx := 63, flags := 0, tsNs := 0, tsSec := 0, auNo := 0, poison := false, luma := 0, chroma := 0, width := 0, height := 0, depth := 8 }
/-- Decoder context 63 enabled in state `st`, with a picture of it on core 3. -/
def tDecoding (st : Nat) : State :=
  tPut [(VDEC_CTX_CFG_EN 63, 1), (VDEC_CTX_STATUS_STATE 63, st)]
    { tOn with codec := { Codec.reset with cores := [none, none, none, some tDecJob] } }
def tEncJob : EncJob :=
  { ctx := 15, instant := 0, input := false, idr := false, tag := 0, tsNs := 0, tsSec := 0, inGet := 0, poison := false, before := 8, source := [] }
def tEnc (au : List Byte) : EncodeResult := { header := 0, ctus := [], floors := [], qp := 0, au := au }
/-- A picture of encoder context 15 on encoder core 1. -/
def tEncoding (f : State → State) : State := f { tOn with codec := { Codec.reset with coresE := [none, some tEncJob] } }
/-- Port 1 enabled, with its link up. -/
def tPort (s : State) : State := tPut [(NET_CTRL_EN, 1), (NET_P_CFG_EN 1, 1), (⟨NET_P_STATUS 1, 0, 0⟩, 1)] s
def tOut : OutFrame := { ctx := 0, bytes := List.replicate 60 0, ts := none, enq := 0, enc := none }
/-- One frame waits in queue 63 of port 1. -/
def tQueued : State :=
  tPort { tOn with net := { Net.reset with queues := List.replicate 127 ⟨[], 0, 0⟩ ++ [⟨[tOut], 0, 0⟩] ++ List.replicate 2 ⟨[], 0, 0⟩ } }
def tIn : InFrame :=
  { ctx := 0, rank := 7, kind := 0, target := 0, bytes := [], len := 64, stamp := 0, yellow := false, rct := false, shared := false }
def tNode (last : Nat) : Node := { addr := 1, high := 0, seen := 0, last := last, born := 0, lastP := [some last, some 0], lost := [false, false] }
def tFlow (ctx kind target rank : Nat) (image : Bool) : FlowCtx :=
  { ctx := ctx, kind := kind, rank := rank, guar := false, ports := 0, meter := 0, ydrop := false, image := image, target := target
    queue := 0, rates := [0, 0, 0, 0], tmpl := 0, rtp := false, av1 := false }
def tKey : List Byte := List.replicate 48 0
def tNet (flows : List FlowCtx) (exact : List ExactEntry) : State :=
  tWr [(MEM_REGION 0, 2 ^ 16)] { tOn with net := { Net.reset with flows := flows, exact := exact } }
def tMig (line : Nat) : Migration := { trio := 0, member := 0, source := 0, target := 15, line := line }
/-- The buffer copy engine runs; its list at address 0 holds a command with these bytes, and region 0 takes its writes. -/
def tBce (m : List (Nat × Nat)) : State :=
  tPut [(BCE_STATUS_STATE, 1)] (tWr [(MEM_REGION 0, 2 ^ 16)] { tOn with mem := m.map (fun c => (c.1, BitVec.ofNat 8 c.2)) })
def tCku : CkuJob := { op := 1, ctx := 0, start := 0, addr := 0, len := 1 }
def tDco (c : Bool) (n : Nat) : DcoJob :=
  { compress := c, inAddr := 0, inLen := n, pos := 0, outDone := 0, outq := [], bits := 0, nbits := 0, dict := [], codeNo := 0, cur := none
    curLen := 0, full := 0, total := 0, crc := 0, ended := false, err := 0 }
/-- The dictionary coder in state `st` with this job, and an output buffer of `len` bytes. -/
def tDcoRun (st len : Nat) (j : DcoJob) : State :=
  tPut [(DCO_STATUS_STATE, st)] (tWr [(MEM_REGION 0, 2 ^ 16), (DCO_OUT_LO, 64), (DCO_OUT_LEN_LO, len)]
    { tOn with sup := { Support.reset with dco := some j } })
def tEntry : EvEntry :=
  { source := 3, cls := 1, first := true, last := true, multi := false, entries := 1, record := 0, tick := 0, timeNs := 0, tvalid := false
    timeSec := 0, data := 0 }
/-- A secondary, a primary or a device in another pair state, with the pair link up. -/
def tPair (st : Nat) (f : Ehl → Ehl) : State :=
  tPut [(EHL_STATUS_PAIR, st), (EHL_CFG_PAIR_EN, 1)] { tOn with ehl := f { Ehl.reset with linkUp := true }, now := 10 ^ 10 }
/-- A member of a hierarchy with its parent on up lane UL3. -/
def tChild : State :=
  tPut [(EHL_STATUS_PARENT, 3), (EHL_LANE_STATUS_STATE 11, 2), (⟨EHL_TIME_CFG, 1, 0⟩, 1)]
    { tOn with ehl := { Ehl.reset with parents := [none, none, none, some 0] }, now := 10 ^ 10 }
def tHdr (l : Nat) : MsgHdr := { link := l, seq := 0, crcOk := true }
def tMan : State := tPut [(EHL_CFG_TREE_EN, 1), (EHL_CFG_MANAGER, 1)] tOn
/-- The rails as the power supply and its pins give them. -/
def tRails (st : Nat) (r : Rails) : State := tWr [(PWR_STATE, st)] { tOn with pwr := { Pwr.reset with rails := r }, now := 10 ^ 10 }
/-- Device memory holds a calibration record of zeros, with its magic, version and checksum. -/
def tCalrec (crc : List Byte) : List Host.Cell := tCells 0 [0x43, 0x45, 0x52, 0x43, 1] ++ tCells 0xFFC crc
def tStack : StackMsg := { stream := 0, seq := 0, tsSec := 0, tsNs := 0, planes := [], tiles := [] }
def tCommitMsg : CommitMsg := { seq := 0, shadow := [], tiles := [] }
def tBuildMsg : BuildMsg := { number := 0, restart := false, rigCopy := 0, pictures := [] }
def tFend : FendRec := { flip := true, frame := 0, att := 0, doneNs := 0, deltas := [] }
def tFstart : FrameRec :=
  { frame := 0, att := 0, start := 0, deadline := 0, commit := 0, streams := [], eyeSeq := 0, eyeValid := 0, eyes := [], level := 0, bands := []
    irefs := [], overlay := [], full := false }
def tBuilt : Build := { number := 0, buf := 0, items := 1, earliest := 0, start := 0, noSlot := false, used := [], disps := [], tables := [], pics := [], wrote := [] }
/-- An option that holds something holds what it gives with any default. -/
theorem some_getD {α : Type} {o : Option α} {d : α} (h : o.isSome = true) : o = some (o.getD d) := by cases o <;> simp_all

/-! ## Ill-formed commands: one for each check of WellFormed -/

theorem test_wellformed_refuses_accesses :
    [Instr.registerWrite 2 0, .registerWrite 0x4000000 0, .bar0MalformedRequest 0x4000000 true 4 15, .bar0MalformedRequest 0 true 4 16,
      .bar2Write 0 [], .bar2Write (2 ^ 36) [0], .bar2Read 0 4097, .rcRead 1, .configurationRequest (.bar2 27), .configurationRequest (.bar2 37),
      .memRead 18 1 0 0 [], .memRead 0 0 0 0 [], .memRead 0 8 0 0 [], .memRead 0 1 (40 * 2 ^ 30) 0 [], .memWrite 0 1 0 0 [] [.corrected 16 0],
      .memWrite 0 1 0 0 [] [.corrected 0 18], .memRead 0 1 0 0 [.uncorrectable 16 0 0 0], .migrationCopy [16]].all (fun c => !c.wellFormed) = true := by decide +kernel

theorem test_wellformed_refuses_numbers :
    [Instr.keyProgram 4, .rollbackProgram 128, .stkAcquire 8, .stkRegister 0 3, .ttEnd (List.replicate 9217 0), .workItemDispatch 4 true, .add 128 .clean,
      .dmaTransferComplete 0 ⟨8, .clean⟩, .lsScrub 0 (2 ^ 32) 0, .lateLayerReady 24, .overlayFieldStale 64, .packetSend 6, .pieceAckTimeout 48,
      .splLoopbackSelect 0 4, .cloneCopyDone 2, .pcRetrain 64, .vdecFlush 64, .decodeStart 4 [], .decodeStart 0 [⟨64, 0, 0, 8⟩], .encodeInstant 16,
      .encodeComplete 2 (tEnc []), .srSilent 6, .srAck 0 { tRec with taddr := 48 } false, .srAck 0 { tRec with frame := 2 ^ 16 } false,
      .srAck 0 { tRec with att := 256 } false].all (fun c => !c.wellFormed) = true := by decide +kernel

theorem test_wellformed_refuses_other_numbers :
    [Instr.portLinkDown 2, .egressDelayDrop 0 64, .htxPut 16 0, .exactAdd 16384, .triggerFire 8, .triggerTargetWrite 0 3 0, .selfRefreshEnter 2,
      .ckuCompute 32 false, .msixModerationExpire 8, .msixUnmask (some 256), .pllLockTimeout 17, .handover (tHdr 9), .laneDown 16 false,
      .hierarchyLaneUp 7 ⟨none, 0⟩, .pcieLinkTrained 6 8, .pcieLinkTrained 0 8].all (fun c => !c.wellFormed) = true := by decide +kernel

/-- At the last number that each check lets through. -/
theorem test_wellformed_accepts_boundaries :
    [Instr.registerWrite 0x3FFFFFC 0, .bar2Read (2 ^ 36 - 1) 4096, .keyProgram 3, .rollbackProgram 127, .stkRegister 7 2, .ttEnd (List.replicate 9216 0),
      .add 127 .clean, .lateLayerReady 23, .packetSend 5, .pieceAckTimeout 47, .vdecFlush 63, .egressDelayDrop 1 63, .exactAdd 16383, .triggerFire 7,
      .memRead 17 7 (40 * 2 ^ 30 - 1) 0 [.corrected 15 17], .msixUnmask (some 255), .msixUnmask none, .handover (tHdr 8), .laneDown 15 false,
      .hierarchyLaneUp 15 ⟨none, 0⟩, .configurationRequest (.bar2 36)].all Instr.wellFormed = true := by decide +kernel

/-! ## Worked examples of the manual -/

/-- The two samples of ray (1,200, 700, 57, 1): 05_ray_synthesis.md, "one Berth 4 ray". -/
theorem test_example_ray :
    samplePos 1200 700 14336 (-6144) 4608 = (309216, 178336) ∧ tapWeights (309216, 178336) = [3072, 21504, 5120, 35840] ∧
    samplePos 1200 700 14336 (-6144) (-1792) = (306416, 179536) ∧ tapWeights (306416, 179536) = [2816, 42240, 1280, 19200] := by decide +kernel

theorem test_example_compositing :
    compositeBehind [0, 0, 0, 0] [0, 555, 0, 714] = ([0, 36372480, 0, 45760], false) ∧
    compositeBehind [0, 36372480, 0, 45760] [0, 308, 0, 1023] = ([0, 42463488, 0, 65536], true) := by decide +kernel

/-- The code of that ray: 09_panel_drive_and_scorch.md, "Berth 4 ray code". -/
theorem test_example_code :
    driveCode 67043328 (-721060) 0 = 3839 ∧ log2T 271 = 22199 ∧ driveCode 42463488 (-721060) 0 = 3670 ∧ driveCode 42463488 (-721060) 37 = 3707 := by
  decide +kernel

/-- Where the mirror byte of that ray lies: 12_hbm_memory.md, "Berth 4 mirror byte". -/
theorem test_example_mirror_byte :
    lineAddr 34056271490 = { trio := 10, line := 6651615, rowSet := 207862, j := 31, triple := 9, row := 12991 } := by decide +kernel

/-- The footprint of the spreader tile: 05_ray_synthesis.md, "Berth 4 spreader tile". -/
theorem test_example_footprint :
    (tWr [(CMP_SYN_FOOT, 22528 * 65536 + 22856), (CMP_SYN_GEOM, 1620 * 65536 + 2880)] State.reset).footprint (40, 25, 6144) = ⟨1262, 1330, 782, 850⟩ := by
  decide +kernel

/-- Reference, luma and chroma pages of a 1080p camera of 10 bits, and the floor of the monitoring context: 10_video_codec.md,
"Berth 4 decoder sizing" and "Berth 4 starved picture". -/
theorem test_example_codec_sizes :
    refPages 1920 1080 = 60 ∧ lumaPages 1920 1080 10 = 64 ∧ chromaPages 1920 1080 10 = 32 ∧ floorBits 1920 1080 = 33664 := by decide +kernel

/-- The checks of the ASCII digits 1 to 9 under the two polynomials (their published check values). -/
theorem test_crc_check_values :
    crc32 [0x31, 0x32, 0x33, 0x34, 0x35, 0x36, 0x37, 0x38, 0x39] = 0xCBF43926 ∧
    crc32c [0x31, 0x32, 0x33, 0x34, 0x35, 0x36, 0x37, 0x38, 0x39] = 0xE3069283 := by decide +kernel

/-- The word 0x9204_5000 is LDV vx4, [sx10 + 0]: 04_drakor_engines.md, "Berth 4 synthesis batch loop". -/
theorem test_example_word :
    iOpc 0x92045000 = 0x92 ∧ iDst 0x92045000 = 4 ∧ iSa 0x92045000 = 10 ∧ iSb 0x92045000 = 0 ∧ iFn 0x92045001 = 1 := by decide +kernel

/-! ## Witnesses -/

def w_StepRunsFrontCommand_1 : State := { tOn with pending := [] }
theorem test_step_runs_front_command_witness :
    (w_StepRunsFrontCommand_1.pending = []) :=
  by decide +kernel
theorem test_step_keeps_memory_canonical_witness :
    (tOn.memCanonical ∧ step tOn = .next tOn) :=
  ⟨by decide +kernel, rfl⟩
def w_OffDomainAccess_0 : State := { tOn with pwr := { tOn.pwr with rails := { Rails.reset with powerGood := false } } }
def w_OffDomainAccess_3 : State := tWr [(PWR_CH_GATE_STATUS, 7)] tOn
theorem test_off_domain_access_witness :
    (w_OffDomainAccess_0.pcie.d3 = false ∧ 0x3FFFFFC % 4 = 0 ∧ 0x3FFFFFC < 0x4000000 ∧ w_OffDomainAccess_0.blockOff 0x3FFFFFC = true) ∧
    ((0x3FFFFC < 0x400000 ∨ 0x800000 ≤ 0x3FFFFC) ∧ w_OffDomainAccess_0.coreOn = false) ∧
    (3 < 4 ∧ 0x3FFFFF < 0x400000 ∧ w_OffDomainAccess_3.gateOpen 3 = false) :=
  ⟨by decide +kernel,
   by decide +kernel,
   by decide +kernel⟩
def w_MalformedAndUndefinedAccess_0 : State := { tOn with pcie := { tOn.pcie with d3 := false } }
theorem test_malformed_and_undefined_access_witness :
    (w_MalformedAndUndefinedAccess_0.pcie.d3 = false ∧ (0 ≠ 1 ∨ 0 ≠ 0xF) ∧ msixArea 0x3FFFFFC = false) ∧
    (w_MalformedAndUndefinedAccess_0.pcie.d3 = false ∧ 0x3FFFFFC % 4 = 0 ∧ 0x3FFFFFC < 0x4000000 ∧ w_MalformedAndUndefinedAccess_0.blockOff 0x3FFFFFC = false ∧
      regRowAt 0x3FFFFFC = none) :=
  ⟨by decide +kernel,
   by decide +kernel⟩
theorem test_register_read_witness :
    (w_MalformedAndUndefinedAccess_0.pcie.d3 = false ∧ PWR_VERSION % 4 = 0 ∧ PWR_VERSION < 0x4000000 ∧
      w_MalformedAndUndefinedAccess_0.blockOff PWR_VERSION = false ∧ regRowAt PWR_VERSION = some (rowOf PWR_VERSION) ∧ PWR_VERSION ≠ TMU_TIME_NS ∧
      PWR_VERSION ≠ EVC_TICK_LO ∧ PWR_VERSION ≠ NET_HIST_DATA ∧ ((∀ c : Nat, c < 4 → PWR_VERSION ≠ CH_DBG_DATA c))) :=
  by decide +kernel
theorem test_plain_write_by_access_code_witness :
    (regRowAt EVC_TICK = some (rowOf EVC_TICK) ∧ (rowOf EVC_TICK).rwl = 0 ∧ 31 < 32) ∧
    (regRowAt EVC_TICK = some (rowOf EVC_TICK) ∧ (rowOf EVC_TICK).rwl = 0 ∧ 0 ≠ EVC_TICK) ∧
    (regRowAt EVC_TICK = some (rowOf EVC_TICK) ∧ (rowOf EVC_TICK).rwl = 0) :=
  ⟨by decide +kernel,
   by decide +kernel,
   by decide +kernel⟩
def w_RegisterWriteReaches_1 : State := tPut [(EHL_STATUS_PAIR, pairSecondary)] ({ tOn with pcie := { tOn.pcie with d3 := false } })
theorem test_register_write_reaches_witness :
    (tOn.reaches EVC_TICK ∧ EVC_TICK % 4 = 0 ∧ EVC_TICK < 0x4000000 ∧ regRowAt EVC_TICK = some (rowOf EVC_TICK)) ∧
    (w_RegisterWriteReaches_1.pcie.d3 = false ∧ w_RegisterWriteReaches_1.blockOff CMP_CPOOL_BASE = false ∧ w_RegisterWriteReaches_1.pairState = pairSecondary ∧
      pairShared CMP_CPOOL_BASE = true ∧ CMP_CPOOL_BASE % 4 = 0 ∧ CMP_CPOOL_BASE < 0x4000000 ∧ regRowAt CMP_CPOOL_BASE = some (rowOf CMP_CPOOL_BASE)) :=
  ⟨by decide +kernel,
   by decide +kernel⟩
theorem test_locked_write_witness :
    (0 ≠ CSU_LOCK_FAULT ∧ 0 ≠ CSU_LOCK_FAULT_CNT ∧ 0xFFFFFFFF < 2 ^ 32) ∧
    (((∃ b : Nat, b < 32 ∧ bitAt 1 b = true ∧ bitAt (tOn.unlocked CMP_CPOOL_BASE) b = false ∧ bitAt (1#32).toNat b ≠ bitAt (tOn.rdN CMP_CPOOL_BASE) b)) ∧
      CMP_CPOOL_BASE < 2 ^ 32 ∧ CMP_CPOOL_BASE ≠ CSU_LOCK_FAULT ∧ CMP_CPOOL_BASE ≠ CSU_LOCK_FAULT_CNT) :=
  ⟨by decide +kernel,
   by decide +kernel⟩
def w_Bar2Write_0 : State := tPut [(MEM_STATUS_TRAINED, 0)] ({ tOn with pcie := { tOn.pcie with d3 := false } })
def w_Bar2Write_1 : State := tPut [(MEM_STATUS_TRAINED, 1)] (tWr [(GCTL_BAR2_SIZE, 28)] (tOn))
theorem test_bar2Write_witness :
    (w_Bar2Write_0.pcie.d3 = false ∧ w_Bar2Write_0.coreOn = true ∧ w_Bar2Write_0.on MEM_STATUS_TRAINED = false) ∧
    (w_Bar2Write_1.pcie.d3 = false ∧ w_Bar2Write_1.coreOn = true ∧ w_Bar2Write_1.on MEM_STATUS_TRAINED = true ∧ (List.replicate 16 1).length = 16 ∧
      16 * (2 ^ 24 - 1) + 16 ≤ 2 ^ w_Bar2Write_1.bits GCTL_BAR2_SIZE 5 0 ∧ w_Bar2Write_1.hostPlace (16 * (2 ^ 24 - 1)) = .opened) ∧
    ((List.replicate 16 1).length = 16 ∧ w_Bar2Write_1.coreOn = true ∧ w_Bar2Write_1.hostPlace (16 * 2684354560) ≠ .opened ∧
      ((w_Bar2Write_1.hostPlace (16 * 2684354560) = .leased → w_Bar2Write_1.on CMP_LEASE_CTRL_PROTECT = true))) :=
  ⟨by decide +kernel,
   by decide +kernel,
   by decide +kernel⟩
def w_Bar2Read_2 : State := { tPut [(MEM_STATUS_TRAINED, 1)] (tWr [(GCTL_BAR2_SIZE, 28)] (tOn)) with poison := [3] }
theorem test_bar2Read_witness :
    (w_Bar2Write_0.pcie.d3 = false ∧ w_Bar2Write_0.coreOn = true ∧ w_Bar2Write_0.on MEM_STATUS_TRAINED = false) ∧
    (w_Bar2Write_1.pcie.d3 = false ∧ w_Bar2Write_1.coreOn = true ∧ w_Bar2Write_1.on MEM_STATUS_TRAINED = true ∧
      (2 ^ 28 - 4) + 4 ≤ 2 ^ w_Bar2Write_1.bits GCTL_BAR2_SIZE 5 0 ∧ (wordSpans (2 ^ 28 - 4) 4).all (fun w => !w_Bar2Write_1.poisonedAt w.2.1) = true) ∧
    (w_Bar2Read_2.pcie.d3 = false ∧ w_Bar2Read_2.coreOn = true ∧ w_Bar2Read_2.on MEM_STATUS_TRAINED = true ∧
      40 + 30 ≤ 2 ^ w_Bar2Read_2.bits GCTL_BAR2_SIZE 5 0 ∧ (wordSpans 40 30).find? (fun w' => w_Bar2Read_2.poisonedAt w'.2.1) = some (3, 48, 16)) :=
  ⟨by decide +kernel,
   by decide +kernel,
   by decide +kernel⟩
def w_ConfigurationRequests_0 : State := { tOn with pwr := { tOn.pwr with rails := { tOn.pwr.rails with powerGood := true } } }
theorem test_configuration_requests_witness :
    (w_ConfigurationRequests_0.pwr.rails.powerGood = true ∧ w_ConfigurationRequests_0.pllLocked pllPcie = true ∧ 28 ≤ 28 ∧ 28 ≤ 36) ∧
    (w_ConfigurationRequests_0.pwr.rails.powerGood = true ∧ w_ConfigurationRequests_0.pllLocked pllPcie = true ∧ (0 < 28 ∨ 36 < 0)) ∧
    (w_ConfigurationRequests_0.pwr.rails.powerGood = true ∧ w_ConfigurationRequests_0.pllLocked pllPcie = true) ∧
    (w_ConfigurationRequests_0.pwr.rails.powerGood = true ∧ w_ConfigurationRequests_0.pllLocked pllPcie = true) :=
  ⟨by decide +kernel,
   by decide +kernel,
   by decide +kernel,
   by decide +kernel⟩
def w_LoadsVerifiesAndReloads_0 : State := tPut [(CSU_STATUS_IMAGE_VALID, 0)] ({ tOn with csu := { tOn.csu with checking := none } })
def w_LoadsVerifiesAndReloads_1 : State := { tOn with csu := { tOn.csu with checking := none } }
def w_LoadsVerifiesAndReloads_2 : State := tPut [(CSU_RELOAD_STATUS_STATE, 0)] ({ tOn with csu := { tOn.csu with checking := none } })
def w_LoadsVerifiesAndReloads_3 : State := { tOn with csu := { tOn.csu with checking := some .verify } }
def w_LoadsVerifiesAndReloads_6 : State := tPut [(CSU_RELOAD_STATUS_STATE, 1)] (tOn)
def w_LoadsVerifiesAndReloads_7 : State := tPut [(CSU_RELOAD_STATUS_STATE, 0)] (tOn)
def w_LoadsVerifiesAndReloads_8 : State := tPut [(CSU_RELOAD_STATUS_STATE, 3)] ({ tOn with csu := { tOn.csu with staged := some 0 } })
def w_LoadsVerifiesAndReloads_9 : State := tPut [(CSU_RELOAD_STATUS_STATE, 3)] (tOn)
theorem test_loads_verifies_and_reloads_witness :
    (w_LoadsVerifiesAndReloads_0.reaches CSU_CMD ∧ w_LoadsVerifiesAndReloads_0.csu.checking = none ∧
      w_LoadsVerifiesAndReloads_0.on CSU_STATUS_IMAGE_VALID = false) ∧
    (w_LoadsVerifiesAndReloads_1.reaches CSU_CMD ∧ w_LoadsVerifiesAndReloads_1.csu.checking = none) ∧
    (w_LoadsVerifiesAndReloads_2.reaches CSU_CMD ∧ w_LoadsVerifiesAndReloads_2.csu.checking = none ∧
      w_LoadsVerifiesAndReloads_2.get CSU_RELOAD_STATUS_STATE = 0) ∧
    (w_LoadsVerifiesAndReloads_3.reaches CSU_CMD ∧ (w_LoadsVerifiesAndReloads_3.csu.checking ≠ none ∨
      w_LoadsVerifiesAndReloads_3.on CSU_STATUS_IMAGE_VALID = true)) ∧
    (w_LoadsVerifiesAndReloads_3.reaches CSU_CMD ∧ w_LoadsVerifiesAndReloads_3.csu.checking ≠ none) ∧
    (w_LoadsVerifiesAndReloads_3.reaches CSU_CMD ∧ (w_LoadsVerifiesAndReloads_3.csu.checking ≠ none ∨
      w_LoadsVerifiesAndReloads_3.get CSU_RELOAD_STATUS_STATE ≠ 0)) ∧
    (w_LoadsVerifiesAndReloads_6.reaches CSU_CMD ∧ (w_LoadsVerifiesAndReloads_6.get CSU_RELOAD_STATUS_STATE = 1 ∨
      w_LoadsVerifiesAndReloads_6.get CSU_RELOAD_STATUS_STATE = 2 ∨ w_LoadsVerifiesAndReloads_6.get CSU_RELOAD_STATUS_STATE = 5)) ∧
    (w_LoadsVerifiesAndReloads_7.reaches CSU_CMD ∧ w_LoadsVerifiesAndReloads_7.get CSU_RELOAD_STATUS_STATE ≠ 1 ∧
      w_LoadsVerifiesAndReloads_7.get CSU_RELOAD_STATUS_STATE ≠ 2 ∧ w_LoadsVerifiesAndReloads_7.get CSU_RELOAD_STATUS_STATE ≠ 5) ∧
    (w_LoadsVerifiesAndReloads_8.coreOn = true ∧ w_LoadsVerifiesAndReloads_8.get CSU_RELOAD_STATUS_STATE = 3 ∧ w_LoadsVerifiesAndReloads_8.csu.staged = some 0 ∧
      w_LoadsVerifiesAndReloads_8.poisonedIn (w_LoadsVerifiesAndReloads_8.controlAt 14) 0 = false) ∧
    (w_LoadsVerifiesAndReloads_9.coreOn = true ∧ w_LoadsVerifiesAndReloads_9.get CSU_RELOAD_STATUS_STATE = 3) ∧
    (255 < 256) :=
  ⟨by decide +kernel,
   by decide +kernel,
   by decide +kernel,
   by decide +kernel,
   by decide +kernel,
   by decide +kernel,
   by decide +kernel,
   by decide +kernel,
   by decide +kernel,
   by decide +kernel,
   by decide +kernel⟩
def w_ImageChecksEnd_1 : State := { tOn with csu := { tOn.csu with checking := some .load } }
def w_ImageChecksEnd_2 : State := { tOn with csu := { tOn.csu with checking := some .spiA } }
def w_ImageChecksEnd_3 : State := { tOn with csu := { tOn.csu with checking := some .spiB } }
def w_ImageChecksEnd_5 : State := { tOn with csu := { tOn.csu with checking := some .reload } }
theorem test_image_checks_end_witness :
    (w_LoadsVerifiesAndReloads_3.coreOn = true ∧ w_LoadsVerifiesAndReloads_3.csu.checking = some .verify) ∧
    (w_ImageChecksEnd_1.coreOn = true ∧ w_ImageChecksEnd_1.csu.checking = some .load) ∧
    (w_ImageChecksEnd_2.coreOn = true ∧ w_ImageChecksEnd_2.csu.checking = some .spiA) ∧
    (w_ImageChecksEnd_3.coreOn = true ∧ w_ImageChecksEnd_3.csu.checking = some .spiB) ∧
    (w_ImageChecksEnd_2.coreOn = true ∧ w_ImageChecksEnd_2.csu.checking = some .spiA) ∧
    (w_ImageChecksEnd_5.coreOn = true ∧ w_ImageChecksEnd_5.csu.checking = some .reload) :=
  ⟨by decide +kernel,
   by decide +kernel,
   by decide +kernel,
   by decide +kernel,
   by decide +kernel,
   by decide +kernel⟩
def w_KeyFuses_0 : State := { tOn with csu := { tOn.csu with op := none, image := some { tImage with identity := [0, 0, 1] } } }
def w_KeyFuses_2 : State := tPut [(CSU_STATUS_IMAGE_VALID, 1), (CSU_KEY_STATUS_ACTIVE_SLOT, 0), (CSU_KEY_STATUS_PROG,
      12)] ({ tOn with csu := { tOn.csu with op := none } })
def w_KeyFuses_4 : State := tPut [(CSU_STATUS_IMAGE_VALID, 1), (CSU_KEY_STATUS_ACTIVE_SLOT, 3)] (tOn)
def w_KeyFuses_5 : State := tPut [(CSU_KEY_STATUS_PROG, 8), (CSU_KEY_STATUS_REVOKED, 8)] ({ tOn with csu := { tOn.csu with op := none } })
def w_KeyFuses_6 : State := tPut [(CSU_STATUS_IMAGE_VALID, 1), (⟨CSU_ACTIVE_SVN, 6, 0⟩, 127)] ({ tOn with csu := { tOn.csu with op := none } })
def w_KeyFuses_8 : State := { tOn with csu := { tOn.csu with op := some { key := true, slot := 0, revoke := false, todo := 383 :: 0 :: ([]) } } }
def w_KeyFuses_9 : State := { tOn with csu := { tOn.csu with op := some { key := true, slot := 3, revoke := false, todo := [384] } } }
def w_KeyFuses_10 : State := { tOn with csu := { tOn.csu with op := some { key := true, slot := 3, revoke := true, todo := [385] } } }
def w_KeyFuses_11 : State := { tOn with csu := { tOn.csu with op := some { key := false, slot := 0, revoke := false, todo := [0] } } }
def w_KeyFuses_12 : State := { tOn with csu := { tOn.csu with op := some { key := true, slot := 0, revoke := true, todo := 0 :: ([]) } } }
theorem test_key_fuses_witness_1 :
    (w_KeyFuses_0.reaches CSU_KEY_CMD ∧ 3 < 4 ∧ w_KeyFuses_0.csu.op = none ∧ bitAt (w_KeyFuses_0.get CSU_KEY_STATUS_PROG) 3 = false ∧
      (w_KeyFuses_0.provision = true ∨ (w_KeyFuses_0.partOpen = true ∧ 3 = 0)) ∧
      w_KeyFuses_0.csu.fuses.getD 3 0 &&& w_KeyFuses_0.keyHash = w_KeyFuses_0.csu.fuses.getD 3 0) ∧
    (tOn.reaches CSU_KEY_CMD ∧ 3 < 4 ∧ (tOn.csu.op ≠ none ∨ bitAt (tOn.get CSU_KEY_STATUS_PROG) 3 = true ∨ (tOn.provision = false ∧ (tOn.partOpen = false ∨
      3 ≠ 0)) ∨ tOn.csu.fuses.getD 3 0 &&& tOn.keyHash ≠ tOn.csu.fuses.getD 3 0)) ∧
    (w_KeyFuses_2.reaches CSU_KEY_CMD ∧ 3 < 4 ∧ w_KeyFuses_2.csu.op = none ∧ bitAt (w_KeyFuses_2.get CSU_KEY_STATUS_PROG) 3 = true ∧
      bitAt (w_KeyFuses_2.get CSU_KEY_STATUS_REVOKED) 3 = false ∧ w_KeyFuses_2.on CSU_STATUS_IMAGE_VALID = true ∧
      w_KeyFuses_2.get CSU_KEY_STATUS_ACTIVE_SLOT ≠ 3 ∧ ((∃ n : Nat, n < 4 ∧ n ≠ 3 ∧ w_KeyFuses_2.slotUsable n = true))) ∧
    (tOn.reaches CSU_KEY_CMD ∧ 3 < 4 ∧ (bitAt (tOn.get CSU_KEY_STATUS_PROG) 3 = false ∨ tOn.csu.op ≠ none)) ∧
    (w_KeyFuses_4.reaches CSU_KEY_CMD ∧ 3 < 4 ∧ bitAt (w_KeyFuses_4.get CSU_KEY_STATUS_REVOKED) 3 = false ∧ ((w_KeyFuses_4.on CSU_STATUS_IMAGE_VALID = true ∧
      w_KeyFuses_4.get CSU_KEY_STATUS_ACTIVE_SLOT = 3) ∨ (∀ n : Nat, n < 4 → n ≠ 3 → w_KeyFuses_4.slotUsable n = false))) ∧
    (w_KeyFuses_5.reaches CSU_KEY_CMD ∧ 3 < 4 ∧ w_KeyFuses_5.csu.op = none ∧ bitAt (w_KeyFuses_5.get CSU_KEY_STATUS_PROG) 3 = true ∧
      bitAt (w_KeyFuses_5.get CSU_KEY_STATUS_REVOKED) 3 = true) ∧
    (w_KeyFuses_6.reaches CSU_ROLLBACK_CMD ∧ 127 < 128 ∧ w_KeyFuses_6.csu.op = none ∧ w_KeyFuses_6.on CSU_STATUS_IMAGE_VALID = true ∧
      w_KeyFuses_6.bits CSU_ROLLBACK 6 0 < 127 ∧ 127 ≤ w_KeyFuses_6.bits CSU_ACTIVE_SVN 6 0) ∧
    (tOn.reaches CSU_ROLLBACK_CMD ∧ 127 < 128 ∧ (tOn.csu.op ≠ none ∨ 127 ≤ tOn.bits CSU_ROLLBACK 6 0 ∨ tOn.bits CSU_ACTIVE_SVN 6 0 < 127 ∨
      tOn.on CSU_STATUS_IMAGE_VALID = false)) ∧
    (w_KeyFuses_8.coreOn = true ∧ w_KeyFuses_8.csu.op = some { key := true, slot := 0, revoke := false, todo := 383 :: 0 :: ([]) } ∧ 383 < 384) ∧
    (w_KeyFuses_9.coreOn = true ∧ 3 < 4 ∧ w_KeyFuses_9.csu.op = some { key := true, slot := 3, revoke := false, todo := [384] }) ∧
    (w_KeyFuses_10.coreOn = true ∧ 3 < 4 ∧ w_KeyFuses_10.csu.op = some { key := true, slot := 3, revoke := true, todo := [385] }) ∧
    (w_KeyFuses_11.coreOn = true ∧ w_KeyFuses_11.csu.op = some { key := false, slot := 0, revoke := false, todo := [0] } ∧
      w_KeyFuses_11.bits CSU_ROLLBACK 6 0 < 64) :=
  ⟨by decide +kernel,
   by decide +kernel,
   by decide +kernel,
   by decide +kernel,
   by decide +kernel,
   by decide +kernel,
   by decide +kernel,
   by decide +kernel,
   by decide +kernel,
   by decide +kernel,
   by decide +kernel,
   by decide +kernel⟩
theorem test_key_fuses_witness_2 :
    (w_KeyFuses_12.coreOn = true ∧ w_KeyFuses_12.csu.op = some { key := true, slot := 0, revoke := true, todo := 0 :: ([]) }) :=
  by decide +kernel
def w_StackCommands_0 : State := tPut [((CMP_STK_STATE_BUSY 7), 0), ((CMP_STK_CFG_SOURCE 7), 0), (CMP_STK_STATE_B2 7, 0), (CMP_STK_STATE_B0 7, 2),
      (CMP_STK_STATE_B1 7, 3)] ({ tOn with streams := List.replicate 8 { Stream.reset with active := true } })
def w_StackCommands_1 : State := tPut [((CMP_STK_STATE_BUSY 7), 0), ((CMP_STK_CFG_SOURCE 7), 0), (CMP_STK_STATE_B2 7, 1)] (tWr [(MEM_REGION 1, 2 ^ 16),
      (CMP_STK_POOL_SIZE 7, 5)] ({ tOn with streams := List.replicate 8 { Stream.reset with active := true }, mem := [(0, 1), (4, 1)] }))
def w_StackCommands_2 : State := tPut [((CMP_STK_STATE_BUSY 7), 0), ((CMP_STK_CFG_SOURCE 7), 0), (CMP_STK_STATE_B2 7,
      1)] ({ tOn with streams := List.replicate 8 { Stream.reset with active := true } })
def w_StackCommands_8 : State := { tOn with streams := tStreams }
theorem test_stack_commands_witness :
    (w_StackCommands_0.reaches (CMP_STK_CMD 7) ∧ 7 < 8 ∧ w_StackCommands_0.on (CMP_STK_STATE_BUSY 7) = false ∧ (w_StackCommands_0.stream 7).active = true ∧
      w_StackCommands_0.get (CMP_STK_CFG_SOURCE 7) = 0 ∧ 2 < 3 ∧ w_StackCommands_0.bufState 7 2 = 0 ∧ ((∀ b : Nat, b < 3 →
      w_StackCommands_0.bufState 7 b ≠ 1)) ∧ ((∀ b : Nat, b < 2 → w_StackCommands_0.bufState 7 b ≠ 0))) ∧
    (w_StackCommands_1.reaches (CMP_STK_CMD 7) ∧ 7 < 8 ∧ w_StackCommands_1.on (CMP_STK_STATE_BUSY 7) = false ∧ (w_StackCommands_1.stream 7).active = true ∧
      w_StackCommands_1.get (CMP_STK_CFG_SOURCE 7) = 0 ∧ 2 < 3 ∧ w_StackCommands_1.bufState 7 2 = 1 ∧ w_StackCommands_1.descPoisoned 7 2 = false ∧
      w_StackCommands_1.descValid 7 2 = true) ∧
    (w_StackCommands_2.reaches (CMP_STK_CMD 7) ∧ 7 < 8 ∧ w_StackCommands_2.on (CMP_STK_STATE_BUSY 7) = false ∧ (w_StackCommands_2.stream 7).active = true ∧
      w_StackCommands_2.get (CMP_STK_CFG_SOURCE 7) = 0 ∧ 2 < 3 ∧ w_StackCommands_2.bufState 7 2 = 1 ∧ w_StackCommands_2.descPoisoned 7 2 = false ∧
      w_StackCommands_2.descValid 7 2 = false) ∧
    (w_StackCommands_2.reaches (CMP_STK_CMD 7) ∧ 7 < 8 ∧ w_StackCommands_2.on (CMP_STK_STATE_BUSY 7) = false ∧ (w_StackCommands_2.stream 7).active = true ∧
      w_StackCommands_2.get (CMP_STK_CFG_SOURCE 7) = 0 ∧ 2 < 3 ∧ w_StackCommands_2.bufState 7 2 = 1) ∧
    (2 < 3) ∧
    (tOn.reaches (CMP_STK_CMD 7) ∧ 7 < 8 ∧ tOn.stkGate 7 = some 5) ∧
    (w_StackCommands_2.reaches (CMP_STK_CMD 7) ∧ 7 < 8 ∧ w_StackCommands_2.on (CMP_STK_STATE_BUSY 7) = false ∧ (w_StackCommands_2.stream 7).active = true ∧
      w_StackCommands_2.get (CMP_STK_CFG_SOURCE 7) = 0 ∧ ((∃ b : Nat, b < 3 ∧ w_StackCommands_2.bufState 7 b = 1) ∨ (∀ b : Nat, b < 3 →
      w_StackCommands_2.bufState 7 b ≠ 0))) ∧
    (w_StackCommands_8.reaches (CMP_STK_CMD 7) ∧ 7 < 8 ∧ w_StackCommands_8.stkGate 7 = none ∧ (¬(2 < 3 ∧ w_StackCommands_8.bufState 7 2 = 1))) :=
  ⟨by decide +kernel,
   by decide +kernel,
   by decide +kernel,
   by decide +kernel,
   by decide +kernel,
   by decide +kernel,
   by decide +kernel,
   by decide +kernel⟩
def w_StackMarked_0 : State := { tOn with streams :=  List.replicate 8 { Stream.reset with marking := some 2 } }
def w_StackMarked_1 : State := { tOn with streams := List.replicate 8 { Stream.reset with marking := none } }
def w_StackMarked_2 : State := { tOn with streams :=  List.replicate 7 Stream.reset ++ [{ Stream.reset with marked := true }] }
def w_StackMarked_3 : State := { tOn with cam := { tOn.cam with registering := none }, streams := List.replicate 8 { Stream.reset with marking := some 2 } }
def w_StackMarked_4 : State := tPut [(EHL_STATUS_PAIR, 0), (CMP_STK_STATE_B0 7,
      2)] ({ tOn with cam := { tOn.cam with registering := none }, streams := List.replicate 8 { Stream.reset with marking := some 2 } })
def w_StackMarked_5 : State := tPut [(EHL_STATUS_PAIR, 3)] (tOn)
theorem test_stack_marked_witness :
    (w_StackMarked_0.coreOn = true ∧ (w_StackMarked_0.stream 7).marking = some 2) ∧
    (w_StackMarked_1.coreOn = true ∧ (w_StackMarked_1.stream 0).marking = none) ∧
    (7 < 8 ∧ (w_StackMarked_2.stream 7).marked = true ∧ ((∀ j : Nat, j < 8 → j ≠ 7 → (w_StackMarked_2.stream j).marked = false)) ∧
      ((w_StackMarked_2.stkRegistered 7).stream 7).rxHeld = []) ∧
    (7 < 8 ∧ 2 < 3 ∧ (w_StackMarked_3.stream 7).marking = some 2 ∧ 7 < w_StackMarked_3.streams.length ∧ (w_StackMarked_3.mirrors 7 = false ∨
      w_StackMarked_3.pairState ≠ pairPrimary) ∧ w_StackMarked_3.cam.registering = none) ∧
    (7 < 8 ∧ 0 < 3 ∧ 2 < 3 ∧ 0 ≠ 2 ∧ (w_StackMarked_4.stream 7).marking = some 2 ∧ w_StackMarked_4.get EHL_STATUS_PAIR ≠ 3 ∧ w_StackMarked_4.bufState 7 0 = 2 ∧
      w_StackMarked_4.bufIn 7 2 = some 0 ∧ (w_StackMarked_4.mirrors 7 = false ∨ w_StackMarked_4.pairState ≠ pairPrimary) ∧
      w_StackMarked_4.cam.registering = none) ∧
    (0 < w_StackMarked_5.streams.length ∧ 0 < (w_StackMarked_5.stream 0).holds.length ∧ (w_StackMarked_5.get EHL_STATUS_PAIR = 3 ∨
      w_StackMarked_5.bufIn 0 2 = none)) :=
  ⟨by decide +kernel,
   by decide +kernel,
   by decide +kernel,
   by decide +kernel,
   by decide +kernel,
   by decide +kernel⟩
def w_StackEnableDisable_0 : State := { tOn with streams := List.replicate 8 { Stream.reset with active := false, returning := false } }
def w_StackEnableDisable_1 : State := tWr [(CMP_STK_POOL_SIZE 7,
      1)] ({ tOn with streams := List.replicate 8 { Stream.reset with active := false, returning := false } })
def w_StackEnableDisable_2 : State := { tOn with streams := List.replicate 8 { Stream.reset with active := false, returning := true } }
def w_StackEnableDisable_3 : State := { tOn with streams := List.replicate 8 { Stream.reset with active := true } }
def w_StackEnableDisable_4 : State := tPut [(CMP_FRAME_STATUS_ACTIVE, 1)] ({ tOn with streams := List.replicate 8 { Stream.reset with active := true } })
def w_StackEnableDisable_5 : State := tPut [(CMP_FRAME_STATUS_ACTIVE, 0)] ({ tOn with streams := List.replicate 8 { Stream.reset with active := true } })
def w_StackEnableDisable_6 : State := { tOn with streams := List.replicate 8 { Stream.reset with active := false } }
def w_StackEnableDisable_7_0 : State := tPut [((CMP_STK_CFG_ENABLE 7), 0)] (tOn)
theorem test_stack_enable_disable_witness :
    (w_StackEnableDisable_0.reaches (CMP_STK_CFG 7) ∧ (w_StackEnableDisable_0.stream 7).active = false ∧ (w_StackEnableDisable_0.stream 7).returning = false ∧
      w_StackEnableDisable_0.poolBad 7 = false) ∧
    (w_StackEnableDisable_1.reaches (CMP_STK_CFG 7) ∧ (w_StackEnableDisable_1.stream 7).active = false ∧ (w_StackEnableDisable_1.stream 7).returning = false ∧
      w_StackEnableDisable_1.poolBad 7 = true) ∧
    (w_StackEnableDisable_2.reaches (CMP_STK_CFG 7) ∧ (w_StackEnableDisable_2.stream 7).active = false ∧ (w_StackEnableDisable_2.stream 7).returning = true) ∧
    (w_StackEnableDisable_3.reaches (CMP_STK_CFG 7) ∧ (w_StackEnableDisable_3.stream 7).active = true) ∧
    (w_StackEnableDisable_4.reaches (CMP_STK_CFG 7) ∧ (w_StackEnableDisable_4.stream 7).active = true ∧
      w_StackEnableDisable_4.on CMP_FRAME_STATUS_ACTIVE = true) ∧
    (w_StackEnableDisable_5.reaches (CMP_STK_CFG 7) ∧ (w_StackEnableDisable_5.stream 7).active = true ∧
      w_StackEnableDisable_5.on CMP_FRAME_STATUS_ACTIVE = false) ∧
    (w_StackEnableDisable_6.reaches (CMP_STK_CFG 7) ∧ (w_StackEnableDisable_6.stream 7).active = false) ∧
    (7 < w_StackEnableDisable_7_0.streams.length ∧ w_StackEnableDisable_7_0.on (CMP_STK_CFG_ENABLE 7) = false ∧ 2 < 3) ∧
    (7 < w_StackEnableDisable_7_0.streams.length ∧ w_StackEnableDisable_7_0.on (CMP_STK_CFG_ENABLE 7) = false) :=
  ⟨by decide +kernel,
   by decide +kernel,
   by decide +kernel,
   by decide +kernel,
   by decide +kernel,
   by decide +kernel,
   by decide +kernel,
   by decide +kernel,
   by decide +kernel⟩
def w_CompositionPoolWrite_0 : State := { tOn with csu := { Csu.reset with image := some { tImage with structSec := tUnlock 0x01800054 } } }
def w_CompositionPoolWrite_2 : State := tWr [(MEM_REGION 1, 2 ^ 16)] (tOn)
theorem test_composition_pool_write_witness :
    (w_CompositionPoolWrite_0.reaches ((if true then CMP_CPOOL_SIZE else CMP_CPOOL_BASE)) ∧
      (2 ^ 21 - 1) &&& w_CompositionPoolWrite_0.unlocked ((if true then CMP_CPOOL_SIZE else CMP_CPOOL_BASE)) = 2 ^ 21 - 1) ∧
    (1 < 2 ^ 21 ∧ ((tOn.slotCount < (if true then tOn.bits CMP_CPOOL_BASE 20 0 + 1 else 1 + tOn.bits CMP_CPOOL_SIZE 20 0) ∨ (true = true ∧ 1 < 1024)))) ∧
    (1024 < 2 ^ 21 ∧ ((true = true → 1024 ≤ 1024)) ∧
      (if true then w_CompositionPoolWrite_2.bits CMP_CPOOL_BASE 20 0 + 1024 else 1024 + w_CompositionPoolWrite_2.bits CMP_CPOOL_SIZE 20 0) ≤ w_CompositionPoolWrite_2.slotCount ∧
      ((∀ j : Nat, j < 8 → (w_CompositionPoolWrite_2.stream j).active = true →
      rangesMeet (if true then w_CompositionPoolWrite_2.bits CMP_CPOOL_BASE 20 0 else 1024) (if true then 1024 else w_CompositionPoolWrite_2.bits CMP_CPOOL_SIZE 20 0) (w_CompositionPoolWrite_2.poolBase j) (w_CompositionPoolWrite_2.poolSize j) = false))) :=
  ⟨by decide +kernel,
   by decide +kernel,
   by decide +kernel⟩
def w_TileTransport_0_0 : State := { tRx none with streams := List.replicate 8 { Stream.reset with active := true, marking := some 2 } }
def w_TileTransport_1 : State := tRx none
def w_TileTransport_2 : State := tPut [(CMP_STK_STATE_GEN_VALID 0, 1)] (tRx none)
def w_TileTransport_3 : State := tRx (some tGen)
def w_TileTransport_10 : State := { tWr [(CMP_REMOTE_TIMEOUT, 0)] (tRx (some { tGen with last := some (0, 0, 0) })) with now := 1 }
theorem test_tile_transport_witness_1 :
    (w_TileTransport_0_0.coreOn = true ∧ (w_TileTransport_0_0.stream 0).marking = some 2 ∧ w_TileTransport_0_0.ttCheck 1 (tDg 1 1 64 (24 + 4 * 64)) = .ok 0) ∧
    (w_TileTransport_0_0.coreOn = true ∧ (w_TileTransport_0_0.stream 0).marking = some 2 ∧ w_TileTransport_0_0.ttCheck 2 (tDg 2 0 0 1304) = .ok 0) ∧
    (w_TileTransport_0_0.coreOn = true ∧ (w_TileTransport_0_0.stream 0).marking = some 2 ∧ w_TileTransport_0_0.ttCheck 3 (tDg 3 0 0 20) = .ok 0) ∧
    (w_TileTransport_0_0.coreOn = true ∧ (w_TileTransport_0_0.stream 0).marking = some 2 ∧ w_TileTransport_0_0.ttCheck 4 (tDg 4 0 0 32) = .ok 0) ∧
    (w_TileTransport_1.coreOn = true ∧ w_TileTransport_1.ttCheck 1 (tDg 1 1 64 (24 + 4 * 64)) = .ok 0 ∧ (w_TileTransport_1.stream 0).marking = none ∧
      1 ≤ byteAt (tDg 1 1 64 (24 + 4 * 64)) 0x14 ∧ byteAt (tDg 1 1 64 (24 + 4 * 64)) 0x14 ≤ 64 ∧ (w_TileTransport_1.stream 0).rx = none ∧
      bitAt (byteAt (tDg 1 1 64 (24 + 4 * 64)) 5) 0 = true ∧ w_TileTransport_1.acquirable 0 = some 0) ∧
    (w_TileTransport_2.coreOn = true ∧ w_TileTransport_2.ttCheck 1 (tDg 1 0 64 (24 + 4 * 64)) = .ok 0 ∧ (w_TileTransport_2.stream 0).marking = none ∧
      1 ≤ byteAt (tDg 1 0 64 (24 + 4 * 64)) 0x14 ∧ byteAt (tDg 1 0 64 (24 + 4 * 64)) 0x14 ≤ 64 ∧ (w_TileTransport_2.stream 0).rx = none ∧
      bitAt (byteAt (tDg 1 0 64 (24 + 4 * 64)) 5) 0 = false ∧ w_TileTransport_2.on (CMP_STK_STATE_GEN_VALID 0) = true ∧
      (w_TileTransport_2.stream 0).needFull = false ∧ leAt (tDg 1 0 64 (24 + 4 * 64)) 0x10 4 = w_TileTransport_2.rdN (CMP_STK_GEN 0) ∧
      w_TileTransport_2.acquirable 0 = some 0) ∧
    (w_TileTransport_3.coreOn = true ∧ w_TileTransport_3.ttCheck 1 (tDg 1 1 1 28) = .ok 0 ∧ (w_TileTransport_3.stream 0).marking = none ∧
      (w_TileTransport_3.stream 0).rx = some tGen ∧ tGen.gen = leAt (tDg 1 1 1 28) 8 4) ∧
    (w_TileTransport_1.coreOn = true ∧ w_TileTransport_1.ttCheck 1 (tDg 1 0 1 28) = .ok 0 ∧ (w_TileTransport_1.stream 0).marking = none ∧
      1 ≤ byteAt (tDg 1 0 1 28) 0x14 ∧ byteAt (tDg 1 0 1 28) 0x14 ≤ 64 ∧ (w_TileTransport_1.stream 0).rx = none ∧ bitAt (byteAt (tDg 1 0 1 28) 5) 0 = false ∧
      (w_TileTransport_1.on (CMP_STK_STATE_GEN_VALID 0) = false ∨ (w_TileTransport_1.stream 0).needFull = true)) ∧
    (w_TileTransport_3.coreOn = true ∧ w_TileTransport_3.ttCheck 2 (tDg 2 0 0 1304) = .ok 0 ∧ (w_TileTransport_3.stream 0).marking = none ∧
      (w_TileTransport_3.stream 0).rx = some tGen ∧ tGen.gen = leAt (tDg 2 0 0 1304) 8 4 ∧ w_TileTransport_3.ttInRange tGen (tDg 2 0 0 1304) = true ∧
      byteAt (tDg 2 0 0 1304) 0x13 < (if w_TileTransport_3.on (CMP_STK_CFG_FRAG 0) then 1 else 4)) ∧
    (w_TileTransport_3.coreOn = true ∧ 0 < w_TileTransport_3.streams.length ∧ w_TileTransport_3.ttCheck 3 (tDg 3 0 0 20) = .ok 0 ∧
      (w_TileTransport_3.stream 0).marking = none ∧ (w_TileTransport_3.stream 0).rx = some tGen ∧ tGen.gen = leAt (tDg 3 0 0 20) 8 4 ∧
      w_TileTransport_3.ttInRange tGen (tDg 3 0 0 20) = true ∧
      (tGen.tile (byteAt (tDg 3 0 0 20) 0x10) (byteAt (tDg 3 0 0 20) 0x11) (byteAt (tDg 3 0 0 20) 0x12)).remove = none ∧ tGen.last = none ∧
      (tGen.tile (byteAt (tDg 3 0 0 20) 0x10) (byteAt (tDg 3 0 0 20) 0x11) (byteAt (tDg 3 0 0 20) 0x12)).frags = 0) ∧
    (w_TileTransport_3.coreOn = true ∧ w_TileTransport_3.ttCheck 4 (tDg 4 0 0 32) = .ok 0 ∧ (w_TileTransport_3.stream 0).marking = none ∧
      (w_TileTransport_3.stream 0).rx = some tGen ∧ tGen.gen = leAt (tDg 4 0 0 32) 8 4) ∧
    (tOn.coreOn = true ∧ tOn.ttCheck 1 ([] : List Byte) = .error none) :=
  ⟨⟨by decide +kernel, by decide +kernel, rfl⟩,
   ⟨by decide +kernel, by decide +kernel, rfl⟩,
   ⟨by decide +kernel, by decide +kernel, rfl⟩,
   ⟨by decide +kernel, by decide +kernel, rfl⟩,
   ⟨by decide +kernel, rfl, by decide +kernel, by decide +kernel, by decide +kernel, by decide +kernel, by decide +kernel, by decide +kernel⟩,
   ⟨by decide +kernel, rfl, by decide +kernel, by decide +kernel, by decide +kernel, by decide +kernel, by decide +kernel, by decide +kernel, by decide +kernel,
      by decide +kernel, by decide +kernel⟩,
   ⟨by decide +kernel, rfl, by decide +kernel, by decide +kernel, by decide +kernel⟩,
   ⟨by decide +kernel, rfl, by decide +kernel, by decide +kernel, by decide +kernel, by decide +kernel, by decide +kernel, by decide +kernel⟩,
   ⟨by decide +kernel, rfl, by decide +kernel, by decide +kernel, by decide +kernel, by decide +kernel, by decide +kernel⟩,
   ⟨by decide +kernel, by decide +kernel, rfl, by decide +kernel, by decide +kernel, by decide +kernel, by decide +kernel, by decide +kernel, by decide +kernel,
      by decide +kernel⟩,
   ⟨by decide +kernel, rfl, by decide +kernel, by decide +kernel, by decide +kernel⟩,
   ⟨by decide +kernel, rfl⟩⟩
theorem test_tile_transport_witness_2 :
    (tOn.coreOn = true ∧ tOn.ttCheck 2 ([] : List Byte) = .error none) ∧
    (tOn.coreOn = true ∧ tOn.ttCheck 3 ([] : List Byte) = .error none) ∧
    (tOn.coreOn = true ∧ tOn.ttCheck 4 ([] : List Byte) = .error none) ∧
    (w_TileTransport_10.coreOn = true ∧ (w_TileTransport_10.stream 0).rx = some ({ tGen with last := some (0, 0, 0) }) ∧
      ({ tGen with last := some (0, 0, 0) }).last ≠ none ∧
      ({ tGen with last := some (0, 0, 0) }).endAt + 2000 * w_TileTransport_10.bits CMP_REMOTE_TIMEOUT 15 0 < w_TileTransport_10.now + w_TileTransport_10.tickHalfNs) ∧
    (0 < w_TileTransport_3.streams.length ∧ (w_TileTransport_3.stream 0).rx = some tGen ∧ tGen.buf < 3) :=
  ⟨⟨by decide +kernel, rfl⟩,
   ⟨by decide +kernel, rfl⟩,
   ⟨by decide +kernel, rfl⟩,
   by decide +kernel,
   by decide +kernel⟩
def w_AluInstructionsComplete_0_0 : State := tEng (tW 0x0 0 31 0 0 0) false (id)
def w_AluInstructionsComplete_0_1 : State := tEng (tW 0x1 0 31 0 0 0) false (id)
def w_AluInstructionsComplete_0_2 : State := tEng (tW 0x2 0 31 0 0 0) false (id)
def w_AluInstructionsComplete_0_3 : State := tEng (tW 0x3 0 31 0 0 0) false (id)
def w_AluInstructionsComplete_0_4 : State := tEng (tW 0x4 0 31 0 0 0) false (id)
def w_AluInstructionsComplete_0_5 : State := tEng (tW 0x5 0 31 0 0 0) false (id)
def w_AluInstructionsComplete_0_6 : State := tEng (tW 0x6 0 31 0 0 0) false (id)
def w_AluInstructionsComplete_0_7 : State := tEng (tW 0x7 0 31 0 0 0) false (id)
def w_AluInstructionsComplete_0_8 : State := tEng (tW 0x8 0 31 0 0 0) false (id)
def w_AluInstructionsComplete_0_9 : State := tEng (tW 0x9 0 31 0 0 0) false (id)
def w_AluInstructionsComplete_0_10 : State := tEng (tW 0xA 0 31 0 0 0) false (id)
def w_AluInstructionsComplete_0_11 : State := tEng (tW 0xB 0 31 0 0 0) false (id)
def w_AluInstructionsComplete_0_12 : State := tEng (tW 0xC 0 31 0 0 0) false (id)
def w_AluInstructionsComplete_1_0 : State := tEng (tW 0xD 0 31 0 0 0) false (id)
def w_AluInstructionsComplete_1_1 : State := tEng (tW 0xE 0 31 0 0 0) false (id)
def w_AluInstructionsComplete_1_2 : State := tEng (tW 0xF 0 31 0 0 0) false (id)
def w_AluInstructionsComplete_1_3 : State := tEng (tW 0x10 0 31 0 0 0) false (id)
def w_AluInstructionsComplete_1_4 : State := tEng (tW 0x11 0 31 0 0 0) false (id)
def w_AluInstructionsComplete_1_5 : State := tEng (tW 0x12 0 31 0 0 0) false (id)
def w_AluInstructionsComplete_1_6 : State := tEng (tW 0x13 0 31 0 0 0) false (id)
def w_AluInstructionsComplete_1_7 : State := tEng (tW 0x14 0 31 0 0 0) false (id)
def w_AluInstructionsComplete_1_8 : State := tEng (tW 0x15 0 31 0 0 0) false (id)
def w_AluInstructionsComplete_1_9 : State := tEng (tW 0x16 0 31 0 0 0) false (id)
def w_AluInstructionsComplete_1_10 : State := tEng (tW 0x17 0 31 0 0 0) false (id)
def w_AluInstructionsComplete_1_11 : State := tEng (tW 0x18 0 31 0 0 0) false (id)
theorem test_alu_instructions_complete_witness_1 :
    (w_AluInstructionsComplete_0_0.fetches 127 (tW 0x0 0 31 0 0 0) ∧ aluLegal (tW 0x0 0 31 0 0 0) = true ∧ instrOf (iOpc (tW 0x0 0 31 0 0 0)) = some 0x00) ∧
    (w_AluInstructionsComplete_0_1.fetches 127 (tW 0x1 0 31 0 0 0) ∧ aluLegal (tW 0x1 0 31 0 0 0) = true ∧ instrOf (iOpc (tW 0x1 0 31 0 0 0)) = some 0x01) ∧
    (w_AluInstructionsComplete_0_2.fetches 127 (tW 0x2 0 31 0 0 0) ∧ aluLegal (tW 0x2 0 31 0 0 0) = true ∧ instrOf (iOpc (tW 0x2 0 31 0 0 0)) = some 0x02) ∧
    (w_AluInstructionsComplete_0_3.fetches 127 (tW 0x3 0 31 0 0 0) ∧ aluLegal (tW 0x3 0 31 0 0 0) = true ∧ instrOf (iOpc (tW 0x3 0 31 0 0 0)) = some 0x03) ∧
    (w_AluInstructionsComplete_0_4.fetches 127 (tW 0x4 0 31 0 0 0) ∧ aluLegal (tW 0x4 0 31 0 0 0) = true ∧ instrOf (iOpc (tW 0x4 0 31 0 0 0)) = some 0x04) ∧
    (w_AluInstructionsComplete_0_5.fetches 127 (tW 0x5 0 31 0 0 0) ∧ aluLegal (tW 0x5 0 31 0 0 0) = true ∧ instrOf (iOpc (tW 0x5 0 31 0 0 0)) = some 0x05) ∧
    (w_AluInstructionsComplete_0_6.fetches 127 (tW 0x6 0 31 0 0 0) ∧ aluLegal (tW 0x6 0 31 0 0 0) = true ∧ instrOf (iOpc (tW 0x6 0 31 0 0 0)) = some 0x06) ∧
    (w_AluInstructionsComplete_0_7.fetches 127 (tW 0x7 0 31 0 0 0) ∧ aluLegal (tW 0x7 0 31 0 0 0) = true ∧ instrOf (iOpc (tW 0x7 0 31 0 0 0)) = some 0x07) ∧
    (w_AluInstructionsComplete_0_8.fetches 127 (tW 0x8 0 31 0 0 0) ∧ aluLegal (tW 0x8 0 31 0 0 0) = true ∧ instrOf (iOpc (tW 0x8 0 31 0 0 0)) = some 0x08) ∧
    (w_AluInstructionsComplete_0_9.fetches 127 (tW 0x9 0 31 0 0 0) ∧ aluLegal (tW 0x9 0 31 0 0 0) = true ∧ instrOf (iOpc (tW 0x9 0 31 0 0 0)) = some 0x09) ∧
    (w_AluInstructionsComplete_0_10.fetches 127 (tW 0xA 0 31 0 0 0) ∧ aluLegal (tW 0xA 0 31 0 0 0) = true ∧ instrOf (iOpc (tW 0xA 0 31 0 0 0)) = some 0x0A) ∧
    (w_AluInstructionsComplete_0_11.fetches 127 (tW 0xB 0 31 0 0 0) ∧ aluLegal (tW 0xB 0 31 0 0 0) = true ∧ instrOf (iOpc (tW 0xB 0 31 0 0 0)) = some 0x0B) :=
  ⟨by decide +kernel,
   by decide +kernel,
   by decide +kernel,
   by decide +kernel,
   by decide +kernel,
   by decide +kernel,
   by decide +kernel,
   by decide +kernel,
   by decide +kernel,
   by decide +kernel,
   by decide +kernel,
   by decide +kernel⟩
theorem test_alu_instructions_complete_witness_2 :
    (w_AluInstructionsComplete_0_12.fetches 127 (tW 0xC 0 31 0 0 0) ∧ aluLegal (tW 0xC 0 31 0 0 0) = true ∧ instrOf (iOpc (tW 0xC 0 31 0 0 0)) = some 0x0C) ∧
    (w_AluInstructionsComplete_1_0.fetches 127 (tW 0xD 0 31 0 0 0) ∧ aluLegal (tW 0xD 0 31 0 0 0) = true ∧ instrOf (iOpc (tW 0xD 0 31 0 0 0)) = some 0x0D) ∧
    (w_AluInstructionsComplete_1_1.fetches 127 (tW 0xE 0 31 0 0 0) ∧ aluLegal (tW 0xE 0 31 0 0 0) = true ∧ instrOf (iOpc (tW 0xE 0 31 0 0 0)) = some 0x0E) ∧
    (w_AluInstructionsComplete_1_2.fetches 127 (tW 0xF 0 31 0 0 0) ∧ aluLegal (tW 0xF 0 31 0 0 0) = true ∧ instrOf (iOpc (tW 0xF 0 31 0 0 0)) = some 0x0F) ∧
    (w_AluInstructionsComplete_1_3.fetches 127 (tW 0x10 0 31 0 0 0) ∧ aluLegal (tW 0x10 0 31 0 0 0) = true ∧ instrOf (iOpc (tW 0x10 0 31 0 0 0)) = some 0x10) ∧
    (w_AluInstructionsComplete_1_4.fetches 127 (tW 0x11 0 31 0 0 0) ∧ aluLegal (tW 0x11 0 31 0 0 0) = true ∧ instrOf (iOpc (tW 0x11 0 31 0 0 0)) = some 0x11) ∧
    (w_AluInstructionsComplete_1_5.fetches 127 (tW 0x12 0 31 0 0 0) ∧ aluLegal (tW 0x12 0 31 0 0 0) = true ∧ instrOf (iOpc (tW 0x12 0 31 0 0 0)) = some 0x12) ∧
    (w_AluInstructionsComplete_1_6.fetches 127 (tW 0x13 0 31 0 0 0) ∧ aluLegal (tW 0x13 0 31 0 0 0) = true ∧ instrOf (iOpc (tW 0x13 0 31 0 0 0)) = some 0x13) ∧
    (w_AluInstructionsComplete_1_7.fetches 127 (tW 0x14 0 31 0 0 0) ∧ aluLegal (tW 0x14 0 31 0 0 0) = true ∧ instrOf (iOpc (tW 0x14 0 31 0 0 0)) = some 0x14) ∧
    (w_AluInstructionsComplete_1_8.fetches 127 (tW 0x15 0 31 0 0 0) ∧ aluLegal (tW 0x15 0 31 0 0 0) = true ∧ instrOf (iOpc (tW 0x15 0 31 0 0 0)) = some 0x15) ∧
    (w_AluInstructionsComplete_1_9.fetches 127 (tW 0x16 0 31 0 0 0) ∧ aluLegal (tW 0x16 0 31 0 0 0) = true ∧ instrOf (iOpc (tW 0x16 0 31 0 0 0)) = some 0x16) ∧
    (w_AluInstructionsComplete_1_10.fetches 127 (tW 0x17 0 31 0 0 0) ∧ aluLegal (tW 0x17 0 31 0 0 0) = true ∧
      instrOf (iOpc (tW 0x17 0 31 0 0 0)) = some 0x17) :=
  ⟨by decide +kernel,
   by decide +kernel,
   by decide +kernel,
   by decide +kernel,
   by decide +kernel,
   by decide +kernel,
   by decide +kernel,
   by decide +kernel,
   by decide +kernel,
   by decide +kernel,
   by decide +kernel,
   by decide +kernel⟩
theorem test_alu_instructions_complete_witness_3 :
    (w_AluInstructionsComplete_1_11.fetches 127 (tW 0x18 0 31 0 0 0) ∧ aluLegal (tW 0x18 0 31 0 0 0) = true ∧
      instrOf (iOpc (tW 0x18 0 31 0 0 0)) = some 0x18) :=
  by decide +kernel
theorem test_alu_results_witness :
    (31 < 32) ∧
    ((0#32).toNat % 32 = 0) ∧
    ((1#32).toNat % 32 ≠ 0) ∧
    ((0x80000000#32).toInt < 0) ∧
    (0 ≤ (0x7FFFFFFF#32).toInt ∧ (0#32).toInt < (0x7FFFFFFF#32).toInt) ∧
    (0 ≤ (0x7FFFFFFF#32).toInt ∧ (0x7FFFFFFF#32).toInt ≤ (0x7FFFFFFF#32).toInt) ∧
    ((1#32) ≠ 0) ∧
    (1 ≤ 63 ∧ 63 ≤ 63) :=
  ⟨by decide +kernel,
   by decide +kernel,
   by decide +kernel,
   by decide +kernel,
   by decide +kernel,
   by decide +kernel,
   by decide +kernel,
   by decide +kernel⟩
theorem test_alu_forms_witness :
    (Engine.reset.sx.length = 32 ∧ iOpc (tW 0x0 0 31 0 0 0) / 32 = 0 ∧ iDst (tW 0x0 0 31 0 0 0) ≠ 0 ∧ 30 ≠ iDst (tW 0x0 0 31 0 0 0)) ∧
    (Engine.reset.sx.length = 32 ∧ iOpc (tW 0x0 0 31 0 0 0) / 32 = 0 ∧ iDst (tW 0x0 0 31 0 0 0) ≠ 0) ∧
    (Engine.reset.sx.length = 32 ∧ iOpc (tW 0x20 0 31 0 0 0) / 32 = 1 ∧ iDst (tW 0x20 0 31 0 0 0) ≠ 0 ∧ 30 ≠ iDst (tW 0x20 0 31 0 0 0)) ∧
    (Engine.reset.sx.length = 32 ∧ iOpc (tW 0x20 0 31 0 0 0) / 32 = 1 ∧ iDst (tW 0x20 0 31 0 0 0) ≠ 0) ∧
    (iOpc (tW 0x20 0 0 0 0 0) / 32 ≤ 1 ∧ iDst (tW 0x20 0 0 0 0 0) = 0) ∧
    (Engine.reset.vx.length = 32 ∧ 2 ≤ iOpc (tW 0x40 0 31 0 0 0) / 32 ∧ (¬(0x12 ≤ iOpc (tW 0x40 0 31 0 0 0) % 32 ∧ iOpc (tW 0x40 0 31 0 0 0) % 32 ≤ 0x15)) ∧
      15 < 16) ∧
    (Engine.reset.vx.length = 32 ∧ 2 ≤ iOpc (tW 0x40 0 31 0 0 0) / 32 ∧ (¬(0x12 ≤ iOpc (tW 0x40 0 31 0 0 0) % 32 ∧ iOpc (tW 0x40 0 31 0 0 0) % 32 ≤ 0x15)) ∧
      30 ≠ iDst (tW 0x40 0 31 0 0 0)) ∧
    (Engine.reset.vx.length = 32 ∧ 2 ≤ iOpc (tW 0x40 0 31 0 0 0) / 32 ∧ (¬(0x12 ≤ iOpc (tW 0x40 0 31 0 0 0) % 32 ∧ iOpc (tW 0x40 0 31 0 0 0) % 32 ≤ 0x15))) ∧
    (Engine.reset.pm.length = 8 ∧ 2 ≤ iOpc (tW 0x72 0 7 0 0 0) / 32 ∧ 0x12 ≤ iOpc (tW 0x72 0 7 0 0 0) % 32 ∧ iOpc (tW 0x72 0 7 0 0 0) % 32 ≤ 0x15 ∧
      0 < iDst (tW 0x72 0 7 0 0 0) ∧ iDst (tW 0x72 0 7 0 0 0) < 8 ∧ 15 < 16) ∧
    (Engine.reset.pm.length = 8 ∧ 2 ≤ iOpc (tW 0x72 0 7 0 0 0) / 32 ∧ 0x12 ≤ iOpc (tW 0x72 0 7 0 0 0) % 32 ∧ iOpc (tW 0x72 0 7 0 0 0) % 32 ≤ 0x15 ∧
      0 < iDst (tW 0x72 0 7 0 0 0) ∧ iDst (tW 0x72 0 7 0 0 0) < 8 ∧ 6 ≠ iDst (tW 0x72 0 7 0 0 0)) ∧
    (Engine.reset.pm.length = 8 ∧ 2 ≤ iOpc (tW 0x72 0 7 0 0 0) / 32 ∧ 0x12 ≤ iOpc (tW 0x72 0 7 0 0 0) % 32 ∧ iOpc (tW 0x72 0 7 0 0 0) % 32 ≤ 0x15 ∧
      0 < iDst (tW 0x72 0 7 0 0 0) ∧ iDst (tW 0x72 0 7 0 0 0) < 8) :=
  ⟨by decide +kernel,
   by decide +kernel,
   by decide +kernel,
   by decide +kernel,
   by decide +kernel,
   by decide +kernel,
   by decide +kernel,
   by decide +kernel,
   by decide +kernel,
   by decide +kernel,
   by decide +kernel⟩
def w_MovesAndPredicates_0_0 : State := tEng (tW 0x80 0 31 0 0 0) false (id)
def w_MovesAndPredicates_0_1 : State := tEng (tW 0x81 0 31 0 0 0) false (id)
def w_MovesAndPredicates_0_2 : State := tEng (tW 0x82 0 31 0 0 0) false (id)
def w_MovesAndPredicates_0_3 : State := tEng (tW 0x83 0 31 0 0 0) false (id)
def w_MovesAndPredicates_0_4 : State := tEng (tW 0x84 0 31 0 0 0) false (id)
def w_MovesAndPredicates_0_5 : State := tEng (tW 0x85 0 31 0 0 0) false (id)
def w_MovesAndPredicates_0_6 : State := tEng (tW 0x86 0 31 0 0 0) false (id)
def w_MovesAndPredicates_1_0 : State := tEng (tW 0x87 0 7 7 7 0) false (id)
def w_MovesAndPredicates_1_1 : State := tEng (tW 0x87 0 7 7 7 1) false (id)
def w_MovesAndPredicates_1_2 : State := tEng (tW 0x87 0 7 7 7 2) false (id)
def w_MovesAndPredicates_1_3 : State := tEng (tW 0x87 0 7 7 7 3) false (id)
def w_MovesAndPredicates_1_4 : State := tEng (tW 0x88 0 31 7 0 0) false (id)
def w_MovesAndPredicates_1_5 : State := tEng (tW 0x89 0 31 7 0 0) false (id)
theorem test_moves_and_predicates_witness_1 :
    (w_MovesAndPredicates_0_0.fetches 127 (tW 0x80 0 31 0 0 0) ∧ dataLegal (w_MovesAndPredicates_0_0.engBuilds 127) (tW 0x80 0 31 0 0 0) = true ∧
      iOpc (tW 0x80 0 31 0 0 0) = 0x80) ∧
    (w_MovesAndPredicates_0_1.fetches 127 (tW 0x81 0 31 0 0 0) ∧ dataLegal (w_MovesAndPredicates_0_1.engBuilds 127) (tW 0x81 0 31 0 0 0) = true ∧
      iOpc (tW 0x81 0 31 0 0 0) = 0x81) ∧
    (w_MovesAndPredicates_0_2.fetches 127 (tW 0x82 0 31 0 0 0) ∧ dataLegal (w_MovesAndPredicates_0_2.engBuilds 127) (tW 0x82 0 31 0 0 0) = true ∧
      iOpc (tW 0x82 0 31 0 0 0) = 0x82) ∧
    (w_MovesAndPredicates_0_3.fetches 127 (tW 0x83 0 31 0 0 0) ∧ dataLegal (w_MovesAndPredicates_0_3.engBuilds 127) (tW 0x83 0 31 0 0 0) = true ∧
      iOpc (tW 0x83 0 31 0 0 0) = 0x83) ∧
    (w_MovesAndPredicates_0_4.fetches 127 (tW 0x84 0 31 0 0 0) ∧ dataLegal (w_MovesAndPredicates_0_4.engBuilds 127) (tW 0x84 0 31 0 0 0) = true ∧
      iOpc (tW 0x84 0 31 0 0 0) = 0x84) ∧
    (w_MovesAndPredicates_0_5.fetches 127 (tW 0x85 0 31 0 0 0) ∧ dataLegal (w_MovesAndPredicates_0_5.engBuilds 127) (tW 0x85 0 31 0 0 0) = true ∧
      iOpc (tW 0x85 0 31 0 0 0) = 0x85) ∧
    (w_MovesAndPredicates_0_6.fetches 127 (tW 0x86 0 31 0 0 0) ∧ dataLegal (w_MovesAndPredicates_0_6.engBuilds 127) (tW 0x86 0 31 0 0 0) = true ∧
      iOpc (tW 0x86 0 31 0 0 0) = 0x86) ∧
    (w_MovesAndPredicates_1_0.fetches 127 (tW 0x87 0 7 7 7 0) ∧ dataLegal (w_MovesAndPredicates_1_0.engBuilds 127) (tW 0x87 0 7 7 7 0) = true ∧
      iOpc (tW 0x87 0 7 7 7 0) = 0x87 ∧ iFn (tW 0x87 0 7 7 7 0) = 0) ∧
    (w_MovesAndPredicates_1_1.fetches 127 (tW 0x87 0 7 7 7 1) ∧ dataLegal (w_MovesAndPredicates_1_1.engBuilds 127) (tW 0x87 0 7 7 7 1) = true ∧
      iOpc (tW 0x87 0 7 7 7 1) = 0x87 ∧ iFn (tW 0x87 0 7 7 7 1) = 1) ∧
    (w_MovesAndPredicates_1_2.fetches 127 (tW 0x87 0 7 7 7 2) ∧ dataLegal (w_MovesAndPredicates_1_2.engBuilds 127) (tW 0x87 0 7 7 7 2) = true ∧
      iOpc (tW 0x87 0 7 7 7 2) = 0x87 ∧ iFn (tW 0x87 0 7 7 7 2) = 2) ∧
    (w_MovesAndPredicates_1_3.fetches 127 (tW 0x87 0 7 7 7 3) ∧ dataLegal (w_MovesAndPredicates_1_3.engBuilds 127) (tW 0x87 0 7 7 7 3) = true ∧
      iOpc (tW 0x87 0 7 7 7 3) = 0x87 ∧ iFn (tW 0x87 0 7 7 7 3) = 3) ∧
    (w_MovesAndPredicates_1_4.fetches 127 (tW 0x88 0 31 7 0 0) ∧ dataLegal (w_MovesAndPredicates_1_4.engBuilds 127) (tW 0x88 0 31 7 0 0) = true ∧
      iOpc (tW 0x88 0 31 7 0 0) = 0x88) :=
  ⟨by decide +kernel,
   by decide +kernel,
   by decide +kernel,
   by decide +kernel,
   by decide +kernel,
   by decide +kernel,
   by decide +kernel,
   by decide +kernel,
   by decide +kernel,
   by decide +kernel,
   by decide +kernel,
   by decide +kernel⟩
theorem test_moves_and_predicates_witness_2 :
    (w_MovesAndPredicates_1_5.fetches 127 (tW 0x89 0 31 7 0 0) ∧ dataLegal (w_MovesAndPredicates_1_5.engBuilds 127) (tW 0x89 0 31 7 0 0) = true ∧
      iOpc (tW 0x89 0 31 7 0 0) = 0x89) :=
  by decide +kernel
def w_LocalStoreAccesses_0_0 : State := tEng (tW 0x90 0 31 1 0 0) false (fun e => { e with sx := [0, 0x7FFFC] ++ List.replicate 30 0 })
def w_LocalStoreAccesses_0_1 : State := tEng (tW 0x91 0 31 1 0 0) false (fun e => { e with sx := [0, 0x7FFFC] ++ List.replicate 30 0 })
def w_LocalStoreAccesses_0_2 : State := tEng (tW 0x92 0 31 1 0 0) false (fun e => { e with sx := [0, 0x7FFC0] ++ List.replicate 30 0 })
def w_LocalStoreAccesses_0_3 : State := tEng (tW 0x93 0 31 1 0 0) false (fun e => { e with sx := [0, 0x7FFC0] ++ List.replicate 30 0 })
def w_LocalStoreAccesses_1_0 : State :=
      tEng (tW 0x94 0 31 1 0 0) false (fun e => { e with vx := [List.replicate 16 0, List.replicate 16 0x7FFFC] ++ List.replicate 30 (List.replicate 16 0) })
def w_LocalStoreAccesses_1_1 : State :=
      tEng (tW 0x95 0 31 1 0 0) false (fun e => { e with vx := [List.replicate 16 0, List.replicate 16 0x7FFFC] ++ List.replicate 30 (List.replicate 16 0) })
def w_LocalStoreAccesses_2_0 : State := tEng (tW 0x90 0 31 1 0 0) false (fun e => { e with sx := [0, 0x80000] ++ List.replicate 30 0 })
def w_LocalStoreAccesses_2_1 : State := tEng (tW 0x91 0 31 1 0 0) false (fun e => { e with sx := [0, 0x80000] ++ List.replicate 30 0 })
def w_LocalStoreAccesses_2_2 : State := tEng (tW 0x92 0 31 1 0 0) false (fun e => { e with sx := [0, 0x80000] ++ List.replicate 30 0 })
def w_LocalStoreAccesses_2_3 : State := tEng (tW 0x93 0 31 1 0 0) false (fun e => { e with sx := [0, 0x80000] ++ List.replicate 30 0 })
def w_LocalStoreAccesses_3_0 : State :=
      tEng (tW 0x94 0 31 1 0 0) false (fun e => { e with vx := [List.replicate 16 0, List.replicate 16 0x80000] ++ List.replicate 30 (List.replicate 16 0) })
def w_LocalStoreAccesses_3_1 : State :=
      tEng (tW 0x95 0 31 1 0 0) false (fun e => { e with vx := [List.replicate 16 0, List.replicate 16 0x80000] ++ List.replicate 30 (List.replicate 16 0) })
def w_LocalStoreAccesses_4_0 : State :=
      tEng (tW 0x90 0 31 1 0 0) false (fun e => { e with sx := [0, 0x7FFFC] ++ List.replicate 30 0, tags := some (tXfer false) :: List.replicate 7 none })
def w_LocalStoreAccesses_4_1 : State :=
      tEng (tW 0x91 0 31 1 0 0) false (fun e => { e with sx := [0, 0x7FFFC] ++ List.replicate 30 0, tags := some (tXfer false) :: List.replicate 7 none })
def w_LocalStoreAccesses_4_2 : State :=
      tEng (tW 0x92 0 31 1 0 0) false (fun e => { e with sx := [0, 0x7FFC0] ++ List.replicate 30 0, tags := some (tXfer false) :: List.replicate 7 none })
def w_LocalStoreAccesses_4_3 : State :=
      tEng (tW 0x93 0 31 1 0 0) false (fun e => { e with sx := [0, 0x7FFC0] ++ List.replicate 30 0, tags := some (tXfer false) :: List.replicate 7 none })
theorem test_local_store_accesses_witness_1 :
    (w_LocalStoreAccesses_0_0.fetches 127 (tW 0x90 0 31 1 0 0) ∧ dataLegal (w_LocalStoreAccesses_0_0.engBuilds 127) (tW 0x90 0 31 1 0 0) = true ∧
      iOpc (tW 0x90 0 31 1 0 0) = 0x90 ∧ ((w_LocalStoreAccesses_0_0.eng 127).lsAddr (tW 0x90 0 31 1 0 0) 4) % 4 = 0 ∧
      ((w_LocalStoreAccesses_0_0.eng 127).lsAddr (tW 0x90 0 31 1 0 0) 4) + 4 ≤ lsSize ∧
      (w_LocalStoreAccesses_0_0.eng 127).lsBusy ((w_LocalStoreAccesses_0_0.eng 127).lsAddr (tW 0x90 0 31 1 0 0) 4) 4 = false) ∧
    (w_LocalStoreAccesses_0_1.fetches 127 (tW 0x91 0 31 1 0 0) ∧ dataLegal (w_LocalStoreAccesses_0_1.engBuilds 127) (tW 0x91 0 31 1 0 0) = true ∧
      iOpc (tW 0x91 0 31 1 0 0) = 0x91 ∧ ((w_LocalStoreAccesses_0_1.eng 127).lsAddr (tW 0x91 0 31 1 0 0) 4) % 4 = 0 ∧
      ((w_LocalStoreAccesses_0_1.eng 127).lsAddr (tW 0x91 0 31 1 0 0) 4) + 4 ≤ lsSize ∧
      (w_LocalStoreAccesses_0_1.eng 127).lsBusy ((w_LocalStoreAccesses_0_1.eng 127).lsAddr (tW 0x91 0 31 1 0 0) 4) 4 = false) ∧
    (w_LocalStoreAccesses_0_2.fetches 127 (tW 0x92 0 31 1 0 0) ∧ dataLegal (w_LocalStoreAccesses_0_2.engBuilds 127) (tW 0x92 0 31 1 0 0) = true ∧
      iOpc (tW 0x92 0 31 1 0 0) = 0x92 ∧ ((w_LocalStoreAccesses_0_2.eng 127).lsAddr (tW 0x92 0 31 1 0 0) 64) % 64 = 0 ∧
      ((w_LocalStoreAccesses_0_2.eng 127).lsAddr (tW 0x92 0 31 1 0 0) 64) + 64 ≤ lsSize ∧
      (w_LocalStoreAccesses_0_2.eng 127).lsBusy ((w_LocalStoreAccesses_0_2.eng 127).lsAddr (tW 0x92 0 31 1 0 0) 64) 64 = false) ∧
    (w_LocalStoreAccesses_0_3.fetches 127 (tW 0x93 0 31 1 0 0) ∧ dataLegal (w_LocalStoreAccesses_0_3.engBuilds 127) (tW 0x93 0 31 1 0 0) = true ∧
      iOpc (tW 0x93 0 31 1 0 0) = 0x93 ∧ ((w_LocalStoreAccesses_0_3.eng 127).lsAddr (tW 0x93 0 31 1 0 0) 64) % 64 = 0 ∧
      ((w_LocalStoreAccesses_0_3.eng 127).lsAddr (tW 0x93 0 31 1 0 0) 64) + 64 ≤ lsSize ∧
      (w_LocalStoreAccesses_0_3.eng 127).lsBusy ((w_LocalStoreAccesses_0_3.eng 127).lsAddr (tW 0x93 0 31 1 0 0) 64) 64 = false) ∧
    (w_LocalStoreAccesses_1_0.fetches 127 (tW 0x94 0 31 1 0 0) ∧ ((∀ i ∈ lanesOf ((w_LocalStoreAccesses_1_0.eng 127).getPm (iPm (tW 0x94 0 31 1 0 0))),
      (w_LocalStoreAccesses_1_0.eng 127).laneAddr (tW 0x94 0 31 1 0 0) i % 4 = 0 ∧
      (w_LocalStoreAccesses_1_0.eng 127).laneAddr (tW 0x94 0 31 1 0 0) i + 4 ≤ lsSize ∧
      (w_LocalStoreAccesses_1_0.eng 127).lsBusy ((w_LocalStoreAccesses_1_0.eng 127).laneAddr (tW 0x94 0 31 1 0 0) i) 4 = false)) ∧
      iOpc (tW 0x94 0 31 1 0 0) = 0x94) ∧
    (w_LocalStoreAccesses_1_1.fetches 127 (tW 0x95 0 31 1 0 0) ∧ ((∀ i ∈ lanesOf ((w_LocalStoreAccesses_1_1.eng 127).getPm (iPm (tW 0x95 0 31 1 0 0))),
      (w_LocalStoreAccesses_1_1.eng 127).laneAddr (tW 0x95 0 31 1 0 0) i % 4 = 0 ∧
      (w_LocalStoreAccesses_1_1.eng 127).laneAddr (tW 0x95 0 31 1 0 0) i + 4 ≤ lsSize ∧
      (w_LocalStoreAccesses_1_1.eng 127).lsBusy ((w_LocalStoreAccesses_1_1.eng 127).laneAddr (tW 0x95 0 31 1 0 0) i) 4 = false)) ∧
      iOpc (tW 0x95 0 31 1 0 0) = 0x95) ∧
    (w_LocalStoreAccesses_2_0.fetches 127 (tW 0x90 0 31 1 0 0) ∧ dataLegal (w_LocalStoreAccesses_2_0.engBuilds 127) (tW 0x90 0 31 1 0 0) = true ∧
      iOpc (tW 0x90 0 31 1 0 0) = 0x90 ∧ (((w_LocalStoreAccesses_2_0.eng 127).lsAddr (tW 0x90 0 31 1 0 0) 4) % 4 ≠ 0 ∨
      lsSize < ((w_LocalStoreAccesses_2_0.eng 127).lsAddr (tW 0x90 0 31 1 0 0) 4) + 4)) ∧
    (w_LocalStoreAccesses_2_1.fetches 127 (tW 0x91 0 31 1 0 0) ∧ dataLegal (w_LocalStoreAccesses_2_1.engBuilds 127) (tW 0x91 0 31 1 0 0) = true ∧
      iOpc (tW 0x91 0 31 1 0 0) = 0x91 ∧ (((w_LocalStoreAccesses_2_1.eng 127).lsAddr (tW 0x91 0 31 1 0 0) 4) % 4 ≠ 0 ∨
      lsSize < ((w_LocalStoreAccesses_2_1.eng 127).lsAddr (tW 0x91 0 31 1 0 0) 4) + 4)) ∧
    (w_LocalStoreAccesses_2_2.fetches 127 (tW 0x92 0 31 1 0 0) ∧ dataLegal (w_LocalStoreAccesses_2_2.engBuilds 127) (tW 0x92 0 31 1 0 0) = true ∧
      iOpc (tW 0x92 0 31 1 0 0) = 0x92 ∧ (((w_LocalStoreAccesses_2_2.eng 127).lsAddr (tW 0x92 0 31 1 0 0) 64) % 64 ≠ 0 ∨
      lsSize < ((w_LocalStoreAccesses_2_2.eng 127).lsAddr (tW 0x92 0 31 1 0 0) 64) + 64)) ∧
    (w_LocalStoreAccesses_2_3.fetches 127 (tW 0x93 0 31 1 0 0) ∧ dataLegal (w_LocalStoreAccesses_2_3.engBuilds 127) (tW 0x93 0 31 1 0 0) = true ∧
      iOpc (tW 0x93 0 31 1 0 0) = 0x93 ∧ (((w_LocalStoreAccesses_2_3.eng 127).lsAddr (tW 0x93 0 31 1 0 0) 64) % 64 ≠ 0 ∨
      lsSize < ((w_LocalStoreAccesses_2_3.eng 127).lsAddr (tW 0x93 0 31 1 0 0) 64) + 64)) ∧
    (w_LocalStoreAccesses_3_0.fetches 127 (tW 0x94 0 31 1 0 0) ∧
      (((lanesOf ((w_LocalStoreAccesses_3_0.eng 127).getPm (iPm (tW 0x94 0 31 1 0 0)))).map ((w_LocalStoreAccesses_3_0.eng 127).laneAddr (tW 0x94 0 31 1 0 0))).find? (fun a' => decide (a' % 4 ≠ 0 ∨
      lsSize < a' + 4)) = some 0x80000) ∧ iOpc (tW 0x94 0 31 1 0 0) = 0x94) ∧
    (w_LocalStoreAccesses_3_1.fetches 127 (tW 0x95 0 31 1 0 0) ∧
      (((lanesOf ((w_LocalStoreAccesses_3_1.eng 127).getPm (iPm (tW 0x95 0 31 1 0 0)))).map ((w_LocalStoreAccesses_3_1.eng 127).laneAddr (tW 0x95 0 31 1 0 0))).find? (fun a' => decide (a' % 4 ≠ 0 ∨
      lsSize < a' + 4)) = some 0x80000) ∧ iOpc (tW 0x95 0 31 1 0 0) = 0x95) :=
  ⟨by decide +kernel,
   by decide +kernel,
   by decide +kernel,
   by decide +kernel,
   by decide +kernel,
   by decide +kernel,
   by decide +kernel,
   by decide +kernel,
   by decide +kernel,
   by decide +kernel,
   by decide +kernel,
   by decide +kernel⟩
theorem test_local_store_accesses_witness_2 :
    (w_LocalStoreAccesses_4_0.fetches 127 (tW 0x90 0 31 1 0 0) ∧ dataLegal (w_LocalStoreAccesses_4_0.engBuilds 127) (tW 0x90 0 31 1 0 0) = true ∧
      iOpc (tW 0x90 0 31 1 0 0) = 0x90 ∧ ((w_LocalStoreAccesses_4_0.eng 127).lsAddr (tW 0x90 0 31 1 0 0) 4) % 4 = 0 ∧
      ((w_LocalStoreAccesses_4_0.eng 127).lsAddr (tW 0x90 0 31 1 0 0) 4) + 4 ≤ lsSize ∧
      (w_LocalStoreAccesses_4_0.eng 127).lsBusy ((w_LocalStoreAccesses_4_0.eng 127).lsAddr (tW 0x90 0 31 1 0 0) 4) 4 = true) ∧
    (w_LocalStoreAccesses_4_1.fetches 127 (tW 0x91 0 31 1 0 0) ∧ dataLegal (w_LocalStoreAccesses_4_1.engBuilds 127) (tW 0x91 0 31 1 0 0) = true ∧
      iOpc (tW 0x91 0 31 1 0 0) = 0x91 ∧ ((w_LocalStoreAccesses_4_1.eng 127).lsAddr (tW 0x91 0 31 1 0 0) 4) % 4 = 0 ∧
      ((w_LocalStoreAccesses_4_1.eng 127).lsAddr (tW 0x91 0 31 1 0 0) 4) + 4 ≤ lsSize ∧
      (w_LocalStoreAccesses_4_1.eng 127).lsBusy ((w_LocalStoreAccesses_4_1.eng 127).lsAddr (tW 0x91 0 31 1 0 0) 4) 4 = true) ∧
    (w_LocalStoreAccesses_4_2.fetches 127 (tW 0x92 0 31 1 0 0) ∧ dataLegal (w_LocalStoreAccesses_4_2.engBuilds 127) (tW 0x92 0 31 1 0 0) = true ∧
      iOpc (tW 0x92 0 31 1 0 0) = 0x92 ∧ ((w_LocalStoreAccesses_4_2.eng 127).lsAddr (tW 0x92 0 31 1 0 0) 64) % 64 = 0 ∧
      ((w_LocalStoreAccesses_4_2.eng 127).lsAddr (tW 0x92 0 31 1 0 0) 64) + 64 ≤ lsSize ∧
      (w_LocalStoreAccesses_4_2.eng 127).lsBusy ((w_LocalStoreAccesses_4_2.eng 127).lsAddr (tW 0x92 0 31 1 0 0) 64) 64 = true) ∧
    (w_LocalStoreAccesses_4_3.fetches 127 (tW 0x93 0 31 1 0 0) ∧ dataLegal (w_LocalStoreAccesses_4_3.engBuilds 127) (tW 0x93 0 31 1 0 0) = true ∧
      iOpc (tW 0x93 0 31 1 0 0) = 0x93 ∧ ((w_LocalStoreAccesses_4_3.eng 127).lsAddr (tW 0x93 0 31 1 0 0) 64) % 64 = 0 ∧
      ((w_LocalStoreAccesses_4_3.eng 127).lsAddr (tW 0x93 0 31 1 0 0) 64) + 64 ≤ lsSize ∧
      (w_LocalStoreAccesses_4_3.eng 127).lsBusy ((w_LocalStoreAccesses_4_3.eng 127).lsAddr (tW 0x93 0 31 1 0 0) 64) 64 = true) ∧
    (([1]).length = 1) ∧
    ((1 + 4 ≤ 0 ∨ 0 + ([1]).length ≤ 1)) ∧
    (sparseWf emptyByte Engine.reset.ls = true) :=
  ⟨by decide +kernel,
   by decide +kernel,
   by decide +kernel,
   by decide +kernel,
   by decide +kernel,
   by decide +kernel,
   by decide +kernel⟩
def w_TransfersAndControlRegisters_0_0 : State :=
      tEng (tW 0x98 0 1 2 4 7) true (fun e => { e with sx := [0, 0x7FFF0, 0xFFFFFFF0, 9, 16] ++ List.replicate 27 0 })
def w_TransfersAndControlRegisters_0_1 : State :=
      { tEng (tW 0x99 0 1 2 4 7) true (fun e => { e with sx := [0, 0x7FFF0, 0xFFFFFFF0, 9, 16] ++ List.replicate 27 0 }) with csu := { Csu.reset with chans := List.replicate 4 { ChanCfg.reset with windows := [(0x9FFFFFFF0, 16)] } } }
def w_TransfersAndControlRegisters_1_0 : State := tEng (tW 0x9A 0 0 0 0 7) false (id)
def w_TransfersAndControlRegisters_1_1 : State := tEng (tW 0x9A 0 0 0 0 7) false (fun e => { e with tags := List.replicate 8 (some (tXfer false)) })
def w_TransfersAndControlRegisters_1_2 : State := tEng (tW 0x9A 0 0 0 0 15) false (id)
def w_TransfersAndControlRegisters_1_3 : State := tEng (tW 0x9A 0 0 0 0 15) false (fun e => { e with tags := List.replicate 8 (some (tXfer false)) })
def w_TransfersAndControlRegisters_1_4 : State := tEng (tW 0x9E 0 0 0 0 0) false (id)
def w_TransfersAndControlRegisters_1_5 : State := tEng (tW 0x9E 0 0 0 0 0) false (fun e => { e with tags := List.replicate 8 (some (tXfer false)) })
def w_TransfersAndControlRegisters_1_6 : State := tEng (tW 0x9C 0 31 0 0 47) false (id)
def w_TransfersAndControlRegisters_1_7 : State := tEng (tW 0x9D 0 0 31 0 47) false (id)
def w_TransfersAndControlRegisters_2 : State := tEng (tW 0x9C 0 31 0 0 3) false (id)
theorem test_transfers_and_control_registers_witness_1 :
    (w_TransfersAndControlRegisters_0_0.fetches 127 (tW 0x98 0 1 2 4 7) ∧
      dataLegal (w_TransfersAndControlRegisters_0_0.engBuilds 127) (tW 0x98 0 1 2 4 7) = true ∧
      (w_TransfersAndControlRegisters_0_0.eng 127).tags.getD (iFn (tW 0x98 0 1 2 4 7) % 8) none = none ∧
      (((w_TransfersAndControlRegisters_0_0.eng 127).getSx (iDst (tW 0x98 0 1 2 4 7))).toNat) % 16 = 0 ∧
      (((w_TransfersAndControlRegisters_0_0.eng 127).getSx (iDst (tW 0x98 0 1 2 4 7))).toNat) + (((w_TransfersAndControlRegisters_0_0.eng 127).getSx (iSb (tW 0x98 0 1 2 4 7))).toNat) ≤ lsSize ∧
      (((w_TransfersAndControlRegisters_0_0.eng 127).getSx (iSa (tW 0x98 0 1 2 4 7))).toNat + 2 ^ 32 * (((w_TransfersAndControlRegisters_0_0.eng 127).getSx (iSa (tW 0x98 0 1 2 4 7) + 1)).toNat % 16)) % 16 = 0 ∧
      (((w_TransfersAndControlRegisters_0_0.eng 127).getSx (iSb (tW 0x98 0 1 2 4 7))).toNat) % 16 = 0 ∧
      0 < (((w_TransfersAndControlRegisters_0_0.eng 127).getSx (iSb (tW 0x98 0 1 2 4 7))).toNat) ∧
      (((w_TransfersAndControlRegisters_0_0.eng 127).getSx (iSb (tW 0x98 0 1 2 4 7))).toNat) ≤ 65536 ∧
      (w_TransfersAndControlRegisters_0_0.eng 127).lsBusy (((w_TransfersAndControlRegisters_0_0.eng 127).getSx (iDst (tW 0x98 0 1 2 4 7))).toNat) (((w_TransfersAndControlRegisters_0_0.eng 127).getSx (iSb (tW 0x98 0 1 2 4 7))).toNat) = false ∧
      iOpc (tW 0x98 0 1 2 4 7) = 0x98 ∧
      (((w_TransfersAndControlRegisters_0_0.eng 127).getSx (iSa (tW 0x98 0 1 2 4 7))).toNat + 2 ^ 32 * (((w_TransfersAndControlRegisters_0_0.eng 127).getSx (iSa (tW 0x98 0 1 2 4 7) + 1)).toNat % 16)) + (((w_TransfersAndControlRegisters_0_0.eng 127).getSx (iSb (tW 0x98 0 1 2 4 7))).toNat) ≤ memSize) ∧
    (w_TransfersAndControlRegisters_0_1.fetches 127 (tW 0x99 0 1 2 4 7) ∧
      dataLegal (w_TransfersAndControlRegisters_0_1.engBuilds 127) (tW 0x99 0 1 2 4 7) = true ∧
      (w_TransfersAndControlRegisters_0_1.eng 127).tags.getD (iFn (tW 0x99 0 1 2 4 7) % 8) none = none ∧
      (((w_TransfersAndControlRegisters_0_1.eng 127).getSx (iDst (tW 0x99 0 1 2 4 7))).toNat) % 16 = 0 ∧
      (((w_TransfersAndControlRegisters_0_1.eng 127).getSx (iDst (tW 0x99 0 1 2 4 7))).toNat) + (((w_TransfersAndControlRegisters_0_1.eng 127).getSx (iSb (tW 0x99 0 1 2 4 7))).toNat) ≤ lsSize ∧
      (((w_TransfersAndControlRegisters_0_1.eng 127).getSx (iSa (tW 0x99 0 1 2 4 7))).toNat + 2 ^ 32 * (((w_TransfersAndControlRegisters_0_1.eng 127).getSx (iSa (tW 0x99 0 1 2 4 7) + 1)).toNat % 16)) % 16 = 0 ∧
      (((w_TransfersAndControlRegisters_0_1.eng 127).getSx (iSb (tW 0x99 0 1 2 4 7))).toNat) % 16 = 0 ∧
      0 < (((w_TransfersAndControlRegisters_0_1.eng 127).getSx (iSb (tW 0x99 0 1 2 4 7))).toNat) ∧
      (((w_TransfersAndControlRegisters_0_1.eng 127).getSx (iSb (tW 0x99 0 1 2 4 7))).toNat) ≤ 65536 ∧
      (w_TransfersAndControlRegisters_0_1.eng 127).lsBusy (((w_TransfersAndControlRegisters_0_1.eng 127).getSx (iDst (tW 0x99 0 1 2 4 7))).toNat) (((w_TransfersAndControlRegisters_0_1.eng 127).getSx (iSb (tW 0x99 0 1 2 4 7))).toNat) = false ∧
      iOpc (tW 0x99 0 1 2 4 7) = 0x99 ∧ w_TransfersAndControlRegisters_0_1.engBuilds 127 = true ∧
      w_TransfersAndControlRegisters_0_1.inWindow (127 / 32) (((w_TransfersAndControlRegisters_0_1.eng 127).getSx (iSa (tW 0x99 0 1 2 4 7))).toNat + 2 ^ 32 * (((w_TransfersAndControlRegisters_0_1.eng 127).getSx (iSa (tW 0x99 0 1 2 4 7) + 1)).toNat % 16)) (((w_TransfersAndControlRegisters_0_1.eng 127).getSx (iSb (tW 0x99 0 1 2 4 7))).toNat) = true) ∧
    (w_TransfersAndControlRegisters_1_0.fetches 127 (tW 0x9A 0 0 0 0 7) ∧
      dataLegal (w_TransfersAndControlRegisters_1_0.engBuilds 127) (tW 0x9A 0 0 0 0 7) = true ∧ iOpc (tW 0x9A 0 0 0 0 7) = 0x9A ∧ iFn (tW 0x9A 0 0 0 0 7) < 8 ∧
      (w_TransfersAndControlRegisters_1_0.eng 127).tags.getD (iFn (tW 0x9A 0 0 0 0 7)) none = none) ∧
    (w_TransfersAndControlRegisters_1_1.fetches 127 (tW 0x9A 0 0 0 0 7) ∧
      dataLegal (w_TransfersAndControlRegisters_1_1.engBuilds 127) (tW 0x9A 0 0 0 0 7) = true ∧ iOpc (tW 0x9A 0 0 0 0 7) = 0x9A ∧ iFn (tW 0x9A 0 0 0 0 7) < 8 ∧
      (w_TransfersAndControlRegisters_1_1.eng 127).tags.getD (iFn (tW 0x9A 0 0 0 0 7)) none ≠ none) ∧
    (w_TransfersAndControlRegisters_1_2.fetches 127 (tW 0x9A 0 0 0 0 15) ∧
      dataLegal (w_TransfersAndControlRegisters_1_2.engBuilds 127) (tW 0x9A 0 0 0 0 15) = true ∧ iOpc (tW 0x9A 0 0 0 0 15) = 0x9A ∧
      8 ≤ iFn (tW 0x9A 0 0 0 0 15) ∧ ((∀ t ∈ (w_TransfersAndControlRegisters_1_2.eng 127).tags, t = none))) ∧
    (w_TransfersAndControlRegisters_1_3.fetches 127 (tW 0x9A 0 0 0 0 15) ∧
      dataLegal (w_TransfersAndControlRegisters_1_3.engBuilds 127) (tW 0x9A 0 0 0 0 15) = true ∧ iOpc (tW 0x9A 0 0 0 0 15) = 0x9A ∧
      8 ≤ iFn (tW 0x9A 0 0 0 0 15) ∧ ((∃ t ∈ (w_TransfersAndControlRegisters_1_3.eng 127).tags, t ≠ none))) ∧
    (w_TransfersAndControlRegisters_1_4.fetches 127 (tW 0x9E 0 0 0 0 0) ∧
      dataLegal (w_TransfersAndControlRegisters_1_4.engBuilds 127) (tW 0x9E 0 0 0 0 0) = true ∧ iOpc (tW 0x9E 0 0 0 0 0) = 0x9E ∧
      ((∀ t ∈ (w_TransfersAndControlRegisters_1_4.eng 127).tags, t = none))) ∧
    (w_TransfersAndControlRegisters_1_5.fetches 127 (tW 0x9E 0 0 0 0 0) ∧
      dataLegal (w_TransfersAndControlRegisters_1_5.engBuilds 127) (tW 0x9E 0 0 0 0 0) = true ∧ iOpc (tW 0x9E 0 0 0 0 0) = 0x9E ∧
      ((∃ t ∈ (w_TransfersAndControlRegisters_1_5.eng 127).tags, t ≠ none))) ∧
    (w_TransfersAndControlRegisters_1_6.fetches 127 (tW 0x9C 0 31 0 0 47) ∧
      dataLegal (w_TransfersAndControlRegisters_1_6.engBuilds 127) (tW 0x9C 0 31 0 0 47) = true ∧ iOpc (tW 0x9C 0 31 0 0 47) = 0x9C ∧
      iFn (tW 0x9C 0 31 0 0 47) ≠ 3) ∧
    (w_TransfersAndControlRegisters_1_7.fetches 127 (tW 0x9D 0 0 31 0 47) ∧
      dataLegal (w_TransfersAndControlRegisters_1_7.engBuilds 127) (tW 0x9D 0 0 31 0 47) = true ∧ iOpc (tW 0x9D 0 0 31 0 47) = 0x9D) ∧
    (w_TransfersAndControlRegisters_2.fetches 127 (tW 0x9C 0 31 0 0 3) ∧
      dataLegal (w_TransfersAndControlRegisters_2.engBuilds 127) (tW 0x9C 0 31 0 0 3) = true) ∧
    (7 < 8) :=
  ⟨by decide +kernel,
   by decide +kernel,
   by decide +kernel,
   by decide +kernel,
   by decide +kernel,
   by decide +kernel,
   by decide +kernel,
   by decide +kernel,
   by decide +kernel,
   by decide +kernel,
   by decide +kernel,
   by decide +kernel⟩
theorem test_transfers_and_control_registers_witness_2 :
    (31 < 32) :=
  by decide +kernel
def w_TransferCompletes_0 : State := { tEng 0 true (fun e => { e with tags := List.replicate 8 (some (tXfer false)) }) with poison := [] }
def w_TransferCompletes_1 : State := { tEng 0 true (fun e => { e with tags := List.replicate 8 (some (tXfer false)) }) with poison := [0x9FFFFFFF] }
def w_TransferCompletes_2 : State := { tEng 0 true (fun e => { e with tags := List.replicate 8 (some (tXfer true)) }) with poison := [] }
theorem test_transfer_completes_witness :
    (w_TransferCompletes_0.coreOn = true ∧ (w_TransferCompletes_0.eng 127).tags.getD (⟨7, .clean⟩ : DmaDone).tag none = some (tXfer false) ∧
      (tXfer false).write = false ∧ w_TransferCompletes_0.poisonedIn (tXfer false).dev (tXfer false).len = false) ∧
    (w_TransferCompletes_1.coreOn = true ∧ (w_TransferCompletes_1.eng 127).tags.getD (⟨7, .clean⟩ : DmaDone).tag none = some (tXfer false) ∧
      (tXfer false).write = false ∧ w_TransferCompletes_1.poisonedIn (tXfer false).dev (tXfer false).len = true) ∧
    (w_TransferCompletes_2.coreOn = true ∧ (w_TransferCompletes_2.eng 127).tags.getD (⟨7, .clean⟩ : DmaDone).tag none = some (tXfer true) ∧
      (tXfer true).write = true ∧ (⟨7, .clean⟩ : DmaDone).ecc = .clean) ∧
    (w_TransferCompletes_2.coreOn = true ∧ (w_TransferCompletes_2.eng 127).tags.getD (⟨7, .corrected 1⟩ : DmaDone).tag none = some (tXfer true) ∧
      (tXfer true).write = true ∧ (⟨7, .corrected 1⟩ : DmaDone).ecc = .corrected 1) ∧
    (w_TransferCompletes_2.coreOn = true ∧ (w_TransferCompletes_2.eng 127).tags.getD (⟨7, .uncorrectable 0⟩ : DmaDone).tag none = some (tXfer true) ∧
      (tXfer true).write = true ∧ (⟨7, .uncorrectable 0⟩ : DmaDone).ecc = .uncorrectable 0) ∧
    (tOn.coreOn = true ∧ (tOn.eng 127).tags.getD (⟨7, .clean⟩ : DmaDone).tag none = none) :=
  ⟨by decide +kernel,
   by decide +kernel,
   by decide +kernel,
   by decide +kernel,
   by decide +kernel,
   by decide +kernel⟩
def w_SamplerInstructions_0 : State := { tEng (tW 0xA0 0 28 4 0 0) false (id) with frame := { Frame.reset with planes := [tPlane] } }
def w_SamplerInstructions_0_m : State := w_SamplerInstructions_0.throughCache (127 / 32)
def w_SamplerInstructions_1 : State := { tEng (tW 0xA1 0 28 4 0 0) false (id) with frame := { Frame.reset with planes := [tPlane] } }
def w_SamplerInstructions_1_m : State := w_SamplerInstructions_1.throughCache (127 / 32)
def w_SamplerInstructions_2_0 : State := tEng (tW 0xA0 0 28 4 0 0) false (id)
def w_SamplerInstructions_2_1 : State := tEng (tW 0xA1 0 28 4 0 0) false (id)
def w_SamplerInstructions_2_2 : State := tEng (tW 0xA2 1 28 4 0 0) false (id)
def w_SamplerInstructions_2_3 : State := tEng (tW 0xA4 0 7 4 0 0) false (id)
def w_SamplerInstructions_3 : State := { tEng (tW 0xA4 0 7 4 0 0) false (id) with frame := { Frame.reset with planes := [tPlane] } }
def w_SamplerInstructions_4 : State := tEng (tW 0xA5 0 0 4 0 0) false (id)
def w_SamplerInstructions_5 : State :=
      tEng (tW 0xA3 1 28 4 1 0) false (fun e => { e with sx := [0, 1] ++ List.replicate 30 0, pm := 0xFFFF :: 1 :: List.replicate 6 0 })
def w_SamplerInstructions_5_t : State :=
      if iClr (tW 0xA3 1 28 4 1 0) then w_SamplerInstructions_5.setEng 127 (fun e => (List.range 4).foldl (fun x m => x.setVx (iDst (tW 0xA3 1 28 4 1 0) + m) (e.getPm (iPm (tW 0xA3 1 28 4 1 0))) (fun _ => 0)) e) else w_SamplerInstructions_5
def w_SamplerInstructions_5_r : State := (w_SamplerInstructions_5.sweepFrom 127 (tW 0xA3 1 28 4 1 0) 1 0).1
def w_SamplerInstructions_6_1 : State := tEng (tW 0xA3 7 28 4 0 0) false (id)
theorem test_sampler_instructions_witness :
    (w_SamplerInstructions_0.fetches 127 (tW 0xA0 0 28 4 0 0) ∧ dataLegal (w_SamplerInstructions_0.engBuilds 127) (tW 0xA0 0 28 4 0 0) = true ∧
      w_SamplerInstructions_0.frame.planes[((w_SamplerInstructions_0.eng 127).getSx (iSp (tW 0xA0 0 28 4 0 0))).toNat]? = some tPlane ∧
      ((∀ i ∈ lanesOf ((w_SamplerInstructions_0.eng 127).getPm (iPm (tW 0xA0 0 28 4 0 0))),
      (tapsOf ((w_SamplerInstructions_0.eng 127).samplePos tPlane (iSa (tW 0xA0 0 28 4 0 0)) i)).any (fun t => w_SamplerInstructions_0_m.tapPoisoned tPlane t.1 t.2) = false)) ∧
      iOpc (tW 0xA0 0 28 4 0 0) = 0xA0) ∧
    (w_SamplerInstructions_1.fetches 127 (tW 0xA1 0 28 4 0 0) ∧ dataLegal (w_SamplerInstructions_1.engBuilds 127) (tW 0xA1 0 28 4 0 0) = true ∧
      w_SamplerInstructions_1.frame.planes[((w_SamplerInstructions_1.eng 127).getSx (iSp (tW 0xA1 0 28 4 0 0))).toNat]? = some tPlane ∧
      ((∀ i ∈ lanesOf ((w_SamplerInstructions_1.eng 127).getPm (iPm (tW 0xA1 0 28 4 0 0))),
      w_SamplerInstructions_1_m.tapPoisoned tPlane (nearestTap ((w_SamplerInstructions_1.eng 127).samplePos tPlane (iSa (tW 0xA1 0 28 4 0 0)) i)).1 (nearestTap ((w_SamplerInstructions_1.eng 127).samplePos tPlane (iSa (tW 0xA1 0 28 4 0 0)) i)).2 = false)) ∧
      iOpc (tW 0xA1 0 28 4 0 0) = 0xA1) ∧
    (w_SamplerInstructions_2_0.fetches 127 (tW 0xA0 0 28 4 0 0) ∧ dataLegal (w_SamplerInstructions_2_0.engBuilds 127) (tW 0xA0 0 28 4 0 0) = true ∧
      iOpc (tW 0xA0 0 28 4 0 0) = 0xA0 ∧
      w_SamplerInstructions_2_0.frame.planes[((w_SamplerInstructions_2_0.eng 127).getSx (iSp (tW 0xA0 0 28 4 0 0))).toNat]? = none) ∧
    (w_SamplerInstructions_2_1.fetches 127 (tW 0xA1 0 28 4 0 0) ∧ dataLegal (w_SamplerInstructions_2_1.engBuilds 127) (tW 0xA1 0 28 4 0 0) = true ∧
      iOpc (tW 0xA1 0 28 4 0 0) = 0xA1 ∧
      w_SamplerInstructions_2_1.frame.planes[((w_SamplerInstructions_2_1.eng 127).getSx (iSp (tW 0xA1 0 28 4 0 0))).toNat]? = none) ∧
    (w_SamplerInstructions_2_2.fetches 127 (tW 0xA2 1 28 4 0 0) ∧ dataLegal (w_SamplerInstructions_2_2.engBuilds 127) (tW 0xA2 1 28 4 0 0) = true ∧
      iOpc (tW 0xA2 1 28 4 0 0) = 0xA2) ∧
    (w_SamplerInstructions_2_3.fetches 127 (tW 0xA4 0 7 4 0 0) ∧ dataLegal (w_SamplerInstructions_2_3.engBuilds 127) (tW 0xA4 0 7 4 0 0) = true ∧
      iOpc (tW 0xA4 0 7 4 0 0) = 0xA4 ∧
      w_SamplerInstructions_2_3.frame.planes[((w_SamplerInstructions_2_3.eng 127).getSx (iSp (tW 0xA4 0 7 4 0 0))).toNat]? = none) ∧
    (w_SamplerInstructions_3.fetches 127 (tW 0xA4 0 7 4 0 0) ∧ dataLegal (w_SamplerInstructions_3.engBuilds 127) (tW 0xA4 0 7 4 0 0) = true ∧
      iOpc (tW 0xA4 0 7 4 0 0) = 0xA4 ∧ iDst (tW 0xA4 0 7 4 0 0) ≠ 0 ∧ (w_SamplerInstructions_3.eng 127).pm.length = 8 ∧
      127 < w_SamplerInstructions_3.engines.length ∧
      w_SamplerInstructions_3.frame.planes[((w_SamplerInstructions_3.eng 127).getSx (iSp (tW 0xA4 0 7 4 0 0))).toNat]? = some tPlane) ∧
    (w_SamplerInstructions_4.fetches 127 (tW 0xA5 0 0 4 0 0) ∧ dataLegal (w_SamplerInstructions_4.engBuilds 127) (tW 0xA5 0 0 4 0 0) = true) ∧
    (w_SamplerInstructions_5.fetches 127 (tW 0xA3 1 28 4 1 0) ∧ dataLegal (w_SamplerInstructions_5.engBuilds 127) (tW 0xA3 1 28 4 1 0) = true ∧
      iOpc (tW 0xA3 1 28 4 1 0) = 0xA3 ∧ (w_SamplerInstructions_5_r,
      ((w_SamplerInstructions_5.sweepFrom 127 (tW 0xA3 1 28 4 1 0) 1 0).2)) = w_SamplerInstructions_5_t.sweepFrom 127 (tW 0xA3 1 28 4 1 0) (min (((w_SamplerInstructions_5.eng 127).getSx (iSb (tW 0xA3 1 28 4 1 0))).toNat - (((w_SamplerInstructions_5.eng 127).getSx (iSp (tW 0xA3 1 28 4 1 0))).toNat)) 65) (((w_SamplerInstructions_5.eng 127).getSx (iSp (tW 0xA3 1 28 4 1 0))).toNat)) ∧
    ((w_SamplerInstructions_6_1.eng 127).getPm (iPm (tW 0xA3 7 28 4 0 0)) = 0) ∧
    ((w_SamplerInstructions_5.eng 127).getPm (iPm (tW 0xA3 1 28 4 1 0)) ≠ 0) :=
  ⟨by decide +kernel,
   by decide +kernel,
   by decide +kernel,
   by decide +kernel,
   by decide +kernel,
   by decide +kernel,
   by decide +kernel,
   by decide +kernel,
   by decide +kernel,
   by decide +kernel,
   by decide +kernel⟩
def w_OutputInstructions_0 : State := tWr [(CMP_SYN_GEOM, 2 ^ 21 + 32)] (tEng (tW 0xA8 1 31 0 0 0) false id)
def w_OutputInstructions_1 : State :=
      tEng (tW 0xA9 1 0 1 2 0) false (fun e => { e with wi := [0, 0, 1, 0, 0, 0, 0, 0], pm := 0xFFFF :: 2 ^ 15 :: List.replicate 6 0 })
def w_OutputInstructions_2 : State := tEng (tW 0xA9 0 0 1 2 0) false (id)
def w_OutputInstructions_3 : State :=
      tEng (tW 0xA9 1 0 1 2 0) false (fun e => { e with wi := [0, 0, 1, 0, 0, 0, 0, 0], pm := 0xFFFF :: 2 ^ 15 :: List.replicate 6 0, emitted := 1 })
def w_OutputInstructions_4 : State := tWr [(CMP_SYN_GEOM,
      2 ^ 21 + 32)] (tEng (tW 0xAA 0 31 1 2 0) true (fun e => { e with sx := [0, 0x7EC00] ++ List.replicate 30 0 }))
theorem test_output_instructions_witness :
    (w_OutputInstructions_0.fetches 127 (tW 0xA8 1 31 0 0 0) ∧ dataLegal (w_OutputInstructions_0.engBuilds 127) (tW 0xA8 1 31 0 0 0) = true ∧
      iOpc (tW 0xA8 1 31 0 0 0) = 0xA8 ∧ 127 < w_OutputInstructions_0.engines.length ∧ (w_OutputInstructions_0.eng 127).vx.length = 32 ∧
      ((∀ i ∈ lanesOf ((w_OutputInstructions_0.eng 127).getPm (iPm (tW 0xA8 1 31 0 0 0))),
      ((w_OutputInstructions_0.eng 127).rayOf ((w_OutputInstructions_0.eng 127).getVx (iSb (tW 0xA8 1 31 0 0 0)) i).toNat).1 < w_OutputInstructions_0.geomW ∧
      ((w_OutputInstructions_0.eng 127).rayOf ((w_OutputInstructions_0.eng 127).getVx (iSb (tW 0xA8 1 31 0 0 0)) i).toNat).2.1 < w_OutputInstructions_0.geomH ∧
      (w_OutputInstructions_0.rayCode ((w_OutputInstructions_0.eng 127).rayOf ((w_OutputInstructions_0.eng 127).getVx (iSb (tW 0xA8 1 31 0 0 0)) i).toNat).1 ((w_OutputInstructions_0.eng 127).rayOf ((w_OutputInstructions_0.eng 127).getVx (iSb (tW 0xA8 1 31 0 0 0)) i).toNat).2.1 ((w_OutputInstructions_0.eng 127).rayOf ((w_OutputInstructions_0.eng 127).getVx (iSb (tW 0xA8 1 31 0 0 0)) i).toNat).2.2 0).2 = false))) ∧
    (w_OutputInstructions_1.fetches 127 (tW 0xA9 1 0 1 2 0) ∧ dataLegal (w_OutputInstructions_1.engBuilds 127) (tW 0xA9 1 0 1 2 0) = true ∧
      iOpc (tW 0xA9 1 0 1 2 0) = 0xA9 ∧
      ((∀ k < ((lanesOf ((w_OutputInstructions_1.eng 127).getPm (iPm (tW 0xA9 1 0 1 2 0)))).map (fun i => (((w_OutputInstructions_1.eng 127).getVx (iSb (tW 0xA9 1 0 1 2 0)) i).toNat,
      ((w_OutputInstructions_1.eng 127).getVx (iSa (tW 0xA9 1 0 1 2 0)) i).toNat % 4096))).length,
      (((lanesOf ((w_OutputInstructions_1.eng 127).getPm (iPm (tW 0xA9 1 0 1 2 0)))).map (fun i => (((w_OutputInstructions_1.eng 127).getVx (iSb (tW 0xA9 1 0 1 2 0)) i).toNat,
      ((w_OutputInstructions_1.eng 127).getVx (iSa (tW 0xA9 1 0 1 2 0)) i).toNat % 4096))).getD k (0, 0)).1 < 432 * (w_OutputInstructions_1.eng 127).runLen)) ∧
      ((∀ k < ((lanesOf ((w_OutputInstructions_1.eng 127).getPm (iPm (tW 0xA9 1 0 1 2 0)))).map (fun i => (((w_OutputInstructions_1.eng 127).getVx (iSb (tW 0xA9 1 0 1 2 0)) i).toNat,
      ((w_OutputInstructions_1.eng 127).getVx (iSa (tW 0xA9 1 0 1 2 0)) i).toNat % 4096))).length,
      bitAt (w_OutputInstructions_1.eng 127).emitted (((lanesOf ((w_OutputInstructions_1.eng 127).getPm (iPm (tW 0xA9 1 0 1 2 0)))).map (fun i => (((w_OutputInstructions_1.eng 127).getVx (iSb (tW 0xA9 1 0 1 2 0)) i).toNat,
      ((w_OutputInstructions_1.eng 127).getVx (iSa (tW 0xA9 1 0 1 2 0)) i).toNat % 4096))).getD k (0, 0)).1 = false)) ∧
      ((lanesOf ((w_OutputInstructions_1.eng 127).getPm (iPm (tW 0xA9 1 0 1 2 0)))).map (fun i => (((w_OutputInstructions_1.eng 127).getVx (iSb (tW 0xA9 1 0 1 2 0)) i).toNat,
      ((w_OutputInstructions_1.eng 127).getVx (iSa (tW 0xA9 1 0 1 2 0)) i).toNat % 4096))).Pairwise (fun x y => x.1 ≠ y.1)) ∧
    (w_OutputInstructions_2.fetches 127 (tW 0xA9 0 0 1 2 0) ∧ dataLegal (w_OutputInstructions_2.engBuilds 127) (tW 0xA9 0 0 1 2 0) = true ∧
      iOpc (tW 0xA9 0 0 1 2 0) = 0xA9 ∧
      ((lanesOf ((w_OutputInstructions_2.eng 127).getPm (iPm (tW 0xA9 0 0 1 2 0)))).map (fun i => ((w_OutputInstructions_2.eng 127).getVx (iSb (tW 0xA9 0 0 1 2 0)) i).toNat)).find? (fun x => decide (432 * (w_OutputInstructions_2.eng 127).runLen ≤ x)) = some 0) ∧
    (w_OutputInstructions_3.fetches 127 (tW 0xA9 1 0 1 2 0) ∧ dataLegal (w_OutputInstructions_3.engBuilds 127) (tW 0xA9 1 0 1 2 0) = true ∧
      iOpc (tW 0xA9 1 0 1 2 0) = 0xA9 ∧
      ((∀ x ∈ ((lanesOf ((w_OutputInstructions_3.eng 127).getPm (iPm (tW 0xA9 1 0 1 2 0)))).map (fun i => ((w_OutputInstructions_3.eng 127).getVx (iSb (tW 0xA9 1 0 1 2 0)) i).toNat)),
      x < 432 * (w_OutputInstructions_3.eng 127).runLen)) ∧
      0 < ((lanesOf ((w_OutputInstructions_3.eng 127).getPm (iPm (tW 0xA9 1 0 1 2 0)))).map (fun i => ((w_OutputInstructions_3.eng 127).getVx (iSb (tW 0xA9 1 0 1 2 0)) i).toNat)).length ∧
      ((bitAt (w_OutputInstructions_3.eng 127).emitted (((lanesOf ((w_OutputInstructions_3.eng 127).getPm (iPm (tW 0xA9 1 0 1 2 0)))).map (fun i => ((w_OutputInstructions_3.eng 127).getVx (iSb (tW 0xA9 1 0 1 2 0)) i).toNat)).getD 0 0) = true ∨
      ((lanesOf ((w_OutputInstructions_3.eng 127).getPm (iPm (tW 0xA9 1 0 1 2 0)))).map (fun i => ((w_OutputInstructions_3.eng 127).getVx (iSb (tW 0xA9 1 0 1 2 0)) i).toNat)).getD 0 0 ∈ ((lanesOf ((w_OutputInstructions_3.eng 127).getPm (iPm (tW 0xA9 1 0 1 2 0)))).map (fun i => ((w_OutputInstructions_3.eng 127).getVx (iSb (tW 0xA9 1 0 1 2 0)) i).toNat)).take 0)) ∧
      ((∀ k : Nat, k < 0 →
      bitAt (w_OutputInstructions_3.eng 127).emitted (((lanesOf ((w_OutputInstructions_3.eng 127).getPm (iPm (tW 0xA9 1 0 1 2 0)))).map (fun i => ((w_OutputInstructions_3.eng 127).getVx (iSb (tW 0xA9 1 0 1 2 0)) i).toNat)).getD k 0) = false ∧
      ((lanesOf ((w_OutputInstructions_3.eng 127).getPm (iPm (tW 0xA9 1 0 1 2 0)))).map (fun i => ((w_OutputInstructions_3.eng 127).getVx (iSb (tW 0xA9 1 0 1 2 0)) i).toNat)).getD k 0 ∉ ((lanesOf ((w_OutputInstructions_3.eng 127).getPm (iPm (tW 0xA9 1 0 1 2 0)))).map (fun i => ((w_OutputInstructions_3.eng 127).getVx (iSb (tW 0xA9 1 0 1 2 0)) i).toNat)).take k))) ∧
    (w_OutputInstructions_4.fetches 127 (tW 0xAA 0 31 1 2 0) ∧ dataLegal (w_OutputInstructions_4.engBuilds 127) (tW 0xAA 0 31 1 2 0) = true ∧
      iOpc (tW 0xAA 0 31 1 2 0) = 0xAA ∧ (((w_OutputInstructions_4.eng 127).getSx (iSa (tW 0xAA 0 31 1 2 0))).toNat) % 16 = 0 ∧
      (((w_OutputInstructions_4.eng 127).getSx (iSa (tW 0xAA 0 31 1 2 0))).toNat) + 5120 ≤ lsSize ∧
      (w_OutputInstructions_4.eng 127).lsBusy (((w_OutputInstructions_4.eng 127).getSx (iSa (tW 0xAA 0 31 1 2 0))).toNat) 5120 = false ∧
      bitsOf (((w_OutputInstructions_4.eng 127).getSx (iSb (tW 0xAA 0 31 1 2 0))).toNat) 21 16 < ((match w_OutputInstructions_4.cam.build with | some b => b.tables.length | none => 64)) ∧
      bitsOf (((w_OutputInstructions_4.eng 127).getSx (iSb (tW 0xAA 0 31 1 2 0))).toNat) 13 8 < w_OutputInstructions_4.tileRows ∧
      bitsOf (((w_OutputInstructions_4.eng 127).getSx (iSb (tW 0xAA 0 31 1 2 0))).toNat) 6 0 < w_OutputInstructions_4.tileCols) :=
  ⟨by decide +kernel,
   by decide +kernel,
   by decide +kernel,
   by decide +kernel,
   by decide +kernel⟩
def w_BranchesAndEnds_0_0 : State := tEng (0xC0000000) false (id)
def w_BranchesAndEnds_0_1 : State := tEng (0xC1F80000) false (id)
def w_BranchesAndEnds_0_2 : State := tEng (0xC1080000) false (fun e => { e with sx := [0, 1] ++ List.replicate 30 0 })
def w_BranchesAndEnds_0_3 : State := tEng (0xC2080000) false (fun e => { e with sx := [0, 1] ++ List.replicate 30 0 })
def w_BranchesAndEnds_0_4 : State := tEng (0xC2F80000) false (id)
def w_BranchesAndEnds_0_5 : State := tEng (0xC3000000) false (id)
def w_BranchesAndEnds_0_6 : State := tEng (0xC4000000) false (id)
def w_BranchesAndEnds_0_7 : State := tEng (0xC8000000) false (id)
def w_BranchesAndEnds_0_8 : State := tEng (0xC8380000) false (id)
def w_BranchesAndEnds_0_9 : State := tEng (0xC9380000) false (id)
def w_BranchesAndEnds_0_10 : State := tEng (0xC9000000) false (id)
def w_BranchesAndEnds_1_0 : State := tEng (0xD0000000) false (fun e => { e with item := some (tItem false) })
def w_BranchesAndEnds_1_1 : State := tEng (0xD0000000) false (fun e => { e with item := some (tItem true) })
def w_BranchesAndEnds_1_2 : State := tEng (0xD0000000) false (fun e => { e with item := some (tItem false), wi := [0, 0, 1] })
def w_BranchesAndEnds_2 : State := tEng (tW 0xD1 0 0 0 0 1) false (id)
theorem test_branches_and_ends_witness_1 :
    (w_BranchesAndEnds_0_0.fetches 127 0xC0000000 ∧ dataLegal (w_BranchesAndEnds_0_0.engBuilds 127) 0xC0000000 = true ∧ iOpc 0xC0000000 = 0xC0) ∧
    (w_BranchesAndEnds_0_1.fetches 127 0xC1F80000 ∧ dataLegal (w_BranchesAndEnds_0_1.engBuilds 127) 0xC1F80000 = true ∧ iOpc 0xC1F80000 = 0xC1 ∧
      (w_BranchesAndEnds_0_1.eng 127).getSx (iBsa 0xC1F80000) = 0) ∧
    (w_BranchesAndEnds_0_2.fetches 127 0xC1080000 ∧ dataLegal (w_BranchesAndEnds_0_2.engBuilds 127) 0xC1080000 = true ∧ iOpc 0xC1080000 = 0xC1 ∧
      (w_BranchesAndEnds_0_2.eng 127).getSx (iBsa 0xC1080000) ≠ 0) ∧
    (w_BranchesAndEnds_0_3.fetches 127 0xC2080000 ∧ dataLegal (w_BranchesAndEnds_0_3.engBuilds 127) 0xC2080000 = true ∧ iOpc 0xC2080000 = 0xC2 ∧
      (w_BranchesAndEnds_0_3.eng 127).getSx (iBsa 0xC2080000) ≠ 0) ∧
    (w_BranchesAndEnds_0_4.fetches 127 0xC2F80000 ∧ dataLegal (w_BranchesAndEnds_0_4.engBuilds 127) 0xC2F80000 = true ∧ iOpc 0xC2F80000 = 0xC2 ∧
      (w_BranchesAndEnds_0_4.eng 127).getSx (iBsa 0xC2F80000) = 0) ∧
    (w_BranchesAndEnds_0_5.fetches 127 0xC3000000 ∧ dataLegal (w_BranchesAndEnds_0_5.engBuilds 127) 0xC3000000 = true ∧ iOpc 0xC3000000 = 0xC3) ∧
    (w_BranchesAndEnds_0_6.fetches 127 0xC4000000 ∧ dataLegal (w_BranchesAndEnds_0_6.engBuilds 127) 0xC4000000 = true ∧ iOpc 0xC4000000 = 0xC4) ∧
    (w_BranchesAndEnds_0_7.fetches 127 0xC8000000 ∧ dataLegal (w_BranchesAndEnds_0_7.engBuilds 127) 0xC8000000 = true ∧ iOpc 0xC8000000 = 0xC8 ∧
      (w_BranchesAndEnds_0_7.eng 127).getPm (iBsa 0xC8000000) ≠ 0) ∧
    (w_BranchesAndEnds_0_8.fetches 127 0xC8380000 ∧ dataLegal (w_BranchesAndEnds_0_8.engBuilds 127) 0xC8380000 = true ∧ iOpc 0xC8380000 = 0xC8 ∧
      (w_BranchesAndEnds_0_8.eng 127).getPm (iBsa 0xC8380000) = 0) ∧
    (w_BranchesAndEnds_0_9.fetches 127 0xC9380000 ∧ dataLegal (w_BranchesAndEnds_0_9.engBuilds 127) 0xC9380000 = true ∧ iOpc 0xC9380000 = 0xC9 ∧
      (w_BranchesAndEnds_0_9.eng 127).getPm (iBsa 0xC9380000) = 0) ∧
    (w_BranchesAndEnds_0_10.fetches 127 0xC9000000 ∧ dataLegal (w_BranchesAndEnds_0_10.engBuilds 127) 0xC9000000 = true ∧ iOpc 0xC9000000 = 0xC9 ∧
      (w_BranchesAndEnds_0_10.eng 127).getPm (iBsa 0xC9000000) ≠ 0) ∧
    (w_BranchesAndEnds_1_0.fetches 127 0xD0000000 ∧ dataLegal (w_BranchesAndEnds_1_0.engBuilds 127) 0xD0000000 = true ∧ iOpc 0xD0000000 = 0xD0 ∧
      (w_BranchesAndEnds_1_0.eng 127).item = some (tItem false) ∧ (tItem false).build = false ∧
      (w_BranchesAndEnds_1_0.eng 127).emitted = 2 ^ (432 * (w_BranchesAndEnds_1_0.eng 127).runLen) - 1) :=
  ⟨by decide +kernel,
   by decide +kernel,
   by decide +kernel,
   by decide +kernel,
   by decide +kernel,
   by decide +kernel,
   by decide +kernel,
   by decide +kernel,
   by decide +kernel,
   by decide +kernel,
   by decide +kernel,
   by decide +kernel⟩
theorem test_branches_and_ends_witness_2 :
    (w_BranchesAndEnds_1_1.fetches 127 0xD0000000 ∧ dataLegal (w_BranchesAndEnds_1_1.engBuilds 127) 0xD0000000 = true ∧ iOpc 0xD0000000 = 0xD0 ∧
      (w_BranchesAndEnds_1_1.eng 127).item = some (tItem true) ∧ (tItem true).build = true) ∧
    (w_BranchesAndEnds_1_2.fetches 127 0xD0000000 ∧ dataLegal (w_BranchesAndEnds_1_2.engBuilds 127) 0xD0000000 = true ∧ iOpc 0xD0000000 = 0xD0 ∧
      (w_BranchesAndEnds_1_2.eng 127).item = some (tItem false) ∧ (tItem false).build = false ∧
      (w_BranchesAndEnds_1_2.eng 127).emitted ≠ 2 ^ (432 * (w_BranchesAndEnds_1_2.eng 127).runLen) - 1) ∧
    (w_BranchesAndEnds_2.fetches 127 (tW 0xD1 0 0 0 0 1) ∧ dataLegal (w_BranchesAndEnds_2.engBuilds 127) (tW 0xD1 0 0 0 0 1) = true) :=
  ⟨by decide +kernel,
   by decide +kernel,
   by decide +kernel⟩
def w_EngineFaultRecord_0_2 : State := tPut [((CH_ENG_FAULT_VALID (127 / 32) (127 % 32)), 1)] (tOn)
theorem test_engine_fault_record_witness :
    (127 < 128 ∧ 255 < 256 ∧ 0 < 2 ^ 32 ∧ w_EngineFaultRecord_0_2.on (CH_ENG_FAULT_VALID (127 / 32) (127 % 32)) = true) ∧
    (127 < 128 ∧ 7 < 8 ∧ 126 < 128 ∧ 126 ≠ 127) ∧
    (127 < 128 ∧ 7 < 8) ∧
    (127 < 128 ∧ 127 < tOn.engines.length ∧ bitAt tOn.pwr.gateClosing (127 / 32) = false) :=
  ⟨by decide +kernel,
   by decide +kernel,
   by decide +kernel,
   by decide +kernel⟩
def w_EngineFetchRefusals_1 : State := tWr [(CH_ENG_PC 3 31, 0x80000)] (tEng 0 false id)
def w_EngineFetchRefusals_2 : State := tEng (tW 0x0 0 0 0 0 0) false (id)
def w_EngineFetchRefusals_4 : State := tEng (tW 0x1F 0 0 0 0 0) false (id)
theorem test_engine_fetch_refusals_witness :
    ((128 ≤ 128 ∨ tOn.engState 128 ≠ 2)) ∧
    (127 < 128 ∧ w_EngineFetchRefusals_1.engState 127 = 2 ∧ (w_EngineFetchRefusals_1.engPc 127 % 4 ≠ 0 ∨ lsSize ≤ w_EngineFetchRefusals_1.engPc 127)) ∧
    (w_EngineFetchRefusals_2.fetches 127 (tW 0x0 0 0 0 0 0) ∧ instrOf (iOpc (tW 0x0 0 0 0 0 0)) = some 0 ∧ 0 ≠ 1) ∧
    (w_EngineFetchRefusals_2.fetches 127 (tW 0x0 0 0 0 0 0) ∧ instrOf (iOpc (tW 0x0 0 0 0 0 0)) = some 0) ∧
    (w_EngineFetchRefusals_4.fetches 127 (tW 0x1F 0 0 0 0 0) ∧ (instrOf (iOpc (tW 0x1F 0 0 0 0 0)) = none ∨ (instrOf (iOpc (tW 0x1F 0 0 0 0 0)) = some 0 ∧
      (if iOpc (tW 0x1F 0 0 0 0 0) < 0x80 then aluLegal (tW 0x1F 0 0 0 0 0) else dataLegal (w_EngineFetchRefusals_4.engBuilds 127) (tW 0x1F 0 0 0 0 0)) = false))) ∧
    (w_EngineFetchRefusals_2.fetches 127 (tW 0x0 0 0 0 0 0) ∧ instrOf (iOpc (tW 0x0 0 0 0 0 0)) = some 0 ∧
      (if iOpc (tW 0x0 0 0 0 0 0) < 0x80 then aluLegal (tW 0x0 0 0 0 0 0) else dataLegal (w_EngineFetchRefusals_2.engBuilds 127) (tW 0x0 0 0 0 0 0)) = true ∧
      1 ≠ 0) :=
  ⟨by decide +kernel,
   by decide +kernel,
   by decide +kernel,
   by decide +kernel,
   by decide +kernel,
   by decide +kernel⟩
def w_EngineLifecycle_0 : State := tPut [(CH_ENG_STATE_STATE 3 31, 1), (CH_ENG_STATE_KIND 3 31,
      0)] { tOn with chans := List.replicate 4 { Channel.reset with runs := [tItem false], builds := [tItem true] } }
def w_EngineLifecycle_1 : State := tPut [(CH_ENG_STATE_STATE 3 31, 1), (CH_ENG_STATE_KIND 3 31,
      1)] { tOn with chans := List.replicate 4 { Channel.reset with runs := [tItem false], builds := [tItem true] } }
def w_EngineLifecycle_2 : State := tWr [(CH_WI_LIMIT 3, 1)] ({ tEng 0 false id with now := 1000000 })
def w_EngineLifecycle_3 : State := tPut [(CH_ENG_STATE_STATE (127 / 32) (127 % 32), 3)] (tOn)
def w_EngineLifecycle_4 : State := tPut [(CH_ENG_STATE_STATE (127 / 32) (127 % 32), 4), (⟨CH_ENG_ENABLE (127 / 32), 127 % 32, 127 % 32⟩, 0)] (tOn)
def w_EngineLifecycle_5 : State := tWr [(CH_ENG_ENABLE 3, 0x80000000)] (tPut [(CH_ENG_STATE_STATE 3 31, 4), (CH_ENG_STATE_KIND 3 31, 1), (CH_STATUS_ROLE 3,
      1)] tOn)
def w_EngineLifecycle_6 : State := tWr [(CH_ENG_ENABLE 3, 0x80000000)] (tPut [(CH_ENG_STATE_STATE 3 31, 4), (CH_ENG_STATE_KIND 3 31, 0), (CH_STATUS_ROLE 3,
      1)] tOn)
def w_EngineLifecycle_7 : State := tPut [(CH_ENG_STATE_STATE (127 / 32) (127 % 32), 4)] (tOn)
def w_EngineLifecycle_14 : State := { tOn with csu := { Csu.reset with image := some { tImage with structSec := tUnlock 0x1400014 } } }
def w_EngineLifecycle_17 : State := tPut [(CH_ENG_STATE_STATE 3 0, 7)] tOn
theorem test_engine_lifecycle_witness_1 :
    (w_EngineLifecycle_0.coreOn = true ∧ w_EngineLifecycle_0.grantee 3 false (w_EngineLifecycle_0.chan 3).turnS = some 127 ∧
      (w_EngineLifecycle_0.chan 3).runs = (tItem false) :: ([])) ∧
    (w_EngineLifecycle_1.coreOn = true ∧ w_EngineLifecycle_1.grantee 3 true (w_EngineLifecycle_1.chan 3).turnB = some 127 ∧
      (w_EngineLifecycle_1.chan 3).builds = (tItem true) :: ([])) ∧
    (w_EngineLifecycle_2.coreOn = true ∧ 127 < 128 ∧ w_EngineLifecycle_2.engState 127 = 2 ∧ w_EngineLifecycle_2.rdN (CH_WI_LIMIT (127 / 32)) ≠ 0 ∧
      3 * (w_EngineLifecycle_2.eng 127).start + 4 * w_EngineLifecycle_2.rdN (CH_WI_LIMIT (127 / 32)) < 3 * (w_EngineLifecycle_2.now + w_EngineLifecycle_2.tickHalfNs)) ∧
    (w_EngineLifecycle_3.coreOn = true ∧ 127 < 128 ∧ w_EngineLifecycle_3.engState 127 = 3) ∧
    (w_EngineLifecycle_4.coreOn = true ∧ 127 < 128 ∧ w_EngineLifecycle_4.engState 127 = 4 ∧
      w_EngineLifecycle_4.poisonedIn (w_EngineLifecycle_4.controlAt (10 + 127 / 32)) lsSize = false ∧ (w_EngineLifecycle_4.engEnabled 127 = false ∨
      w_EngineLifecycle_4.chanRuns (127 / 32) = false)) ∧
    (w_EngineLifecycle_5.coreOn = true ∧ 127 < 128 ∧ w_EngineLifecycle_5.engState 127 = 4 ∧
      w_EngineLifecycle_5.poisonedIn (w_EngineLifecycle_5.controlAt (10 + 127 / 32)) lsSize = false ∧ w_EngineLifecycle_5.engEnabled 127 = true ∧
      w_EngineLifecycle_5.chanRuns (127 / 32) = true ∧ w_EngineLifecycle_5.engBuilds 127 = true) ∧
    (w_EngineLifecycle_6.coreOn = true ∧ 127 < 128 ∧ w_EngineLifecycle_6.engState 127 = 4 ∧
      w_EngineLifecycle_6.poisonedIn (w_EngineLifecycle_6.controlAt (10 + 127 / 32)) lsSize = false ∧ w_EngineLifecycle_6.engEnabled 127 = true ∧
      w_EngineLifecycle_6.chanRuns (127 / 32) = true ∧ w_EngineLifecycle_6.engBuilds 127 = false) ∧
    (w_EngineLifecycle_7.coreOn = true ∧ 127 < 128 ∧ w_EngineLifecycle_7.engState 127 = 4) ∧
    (tOn.coreOn = true ∧ 3 < 4 ∧ tOn.gateOpen 3 = true) ∧
    (tOn.coreOn = true ∧ 3 < 4 ∧ 31 < 32 ∧ tOn.gateOpen 3 = true) ∧
    (tOn.coreOn = true ∧ 3 < 4 ∧ 31 < 32 ∧ tOn.gateOpen 3 = true) ∧
    (tOn.coreOn = true ∧ 127 < 128 ∧ tOn.gateOpen (127 / 32) = true ∧ 256 * 0 < memSize ∧ tOn.poisonedIn (256 * 0) 256 = false) :=
  ⟨by decide +kernel,
   by decide +kernel,
   by decide +kernel,
   by decide +kernel,
   by decide +kernel,
   by decide +kernel,
   by decide +kernel,
   by decide +kernel,
   by decide +kernel,
   by decide +kernel,
   by decide +kernel,
   by decide +kernel⟩
theorem test_engine_lifecycle_witness_2 :
    (tOn.coreOn = true ∧ 127 < 128 ∧ tOn.gateOpen (127 / 32) = true ∧ 256 * 0 < memSize ∧ tOn.poisonedIn (256 * 0) 256 = false) ∧
    (tOn.coreOn = true ∧ 127 < 128 ∧ tOn.gateOpen (127 / 32) = true ∧ 256 * 0 < memSize ∧ tOn.poisonedIn (256 * 0) 256 = false) ∧
    (w_EngineLifecycle_14.reaches (CH_ENG_ENABLE 3) ∧ 3 < 4 ∧ w_EngineLifecycle_14.unlocked (CH_ENG_ENABLE 3) &&& rwlBits (CH_ENG_ENABLE 3) = 2 ^ 32 - 1) ∧
    (tOn.reaches (CH_DBG_DATA 3) ∧ 3 < 4 ∧ tOn.engState (32 * 3 + tOn.bits (CH_DBG_SEL 3) 4 0) = 0) ∧
    (tOn.reaches (CH_DBG_DATA 3) ∧ 3 < 4 ∧ tOn.engState (32 * 3 + tOn.bits (CH_DBG_SEL 3) 4 0) = 0) ∧
    (w_EngineLifecycle_17.reaches (CH_DBG_DATA 3) ∧ 3 < 4 ∧ w_EngineLifecycle_17.engState (32 * 3 + w_EngineLifecycle_17.bits (CH_DBG_SEL 3) 4 0) ≠ 0) :=
  ⟨by decide +kernel,
   by decide +kernel,
   by decide +kernel,
   by decide +kernel,
   by decide +kernel,
   by decide +kernel⟩
def w_ViewersCamerasAndBuilds_0 : State := tPut [(CMP_SYN_CFG_EYE_SRC, 0)] (tOn)
def w_ViewersCamerasAndBuilds_1 : State := tPut [(CMP_SYN_CFG_EYE_SRC, 1)] (tOn)
def w_ViewersCamerasAndBuilds_2 : State := { tOn with frame := { tOn.frame with eyesIn := some ([], 0, 0) } }
def w_ViewersCamerasAndBuilds_3 : State := tPut [(EHL_STATUS_PAIR, pairPrimary), (⟨CMP_SYN_EYE_AGE, 7, 0⟩, 1), (CMP_SYN_STATUS_STALE,
      0)] (tWr [(CMP_SYN_EYE_AGE, 255)] ({ tOn with frame := { Frame.reset with eyeAge := 255, seen := true } }))
def w_ViewersCamerasAndBuilds_4 : State := tPut [((CMP_STK_CFG_SOURCE tOn.camStream), 0)] (tOn)
def w_ViewersCamerasAndBuilds_5 : State := tPut [((CMP_STK_CFG_SOURCE tOn.camStream), 2)] (tOn)
def w_ViewersCamerasAndBuilds_6 : State := tPut [((CMP_STK_CFG_SOURCE tOn.camStream), 2), (CMP_STK_CFG_SOURCE 0,
      2)] ({ tOn with cam := { Cam.reset with rigValid := true }, mem := [(4, 1), (256, 1)] })
def w_ViewersCamerasAndBuilds_9 : State := { tOn with cam := { tOn.cam with restartIn := true } }
def w_ViewersCamerasAndBuilds_10 : State := tWr [(CMP_CAM_PERIOD_NS, 20000000)] (tPut [(CMP_CAM_CFG_ENABLE, 1)] tOn)
def w_ViewersCamerasAndBuilds_11 : State := (State.checkRig { tOn with cam := { tOn.cam with instant := some tOn.evc.tick } }).bindCams
def w_ViewersCamerasAndBuilds_11_v : State := w_ViewersCamerasAndBuilds_11.judgeCams (tOn.targetOf 0)
theorem test_viewers_cameras_and_builds_witness :
    (w_ViewersCamerasAndBuilds_0.reaches CMP_SYN_EYE_SEQ ∧ w_ViewersCamerasAndBuilds_0.on CMP_SYN_CFG_EYE_SRC = false) ∧
    (w_ViewersCamerasAndBuilds_1.reaches CMP_SYN_EYE_SEQ ∧ w_ViewersCamerasAndBuilds_1.on CMP_SYN_CFG_EYE_SRC = true) ∧
    (w_ViewersCamerasAndBuilds_2.frame.eyesIn = some ([], 0, 0)) ∧
    (w_ViewersCamerasAndBuilds_3.coreOn = true ∧ w_ViewersCamerasAndBuilds_3.isSecondary = false ∧ w_ViewersCamerasAndBuilds_3.frame.eyeNew = false ∧
      w_ViewersCamerasAndBuilds_3.frame.startAt = w_ViewersCamerasAndBuilds_3.now ∧ w_ViewersCamerasAndBuilds_3.frame.seen = true ∧
      w_ViewersCamerasAndBuilds_3.bits CMP_SYN_EYE_AGE 7 0 ≠ 0 ∧
      w_ViewersCamerasAndBuilds_3.bits CMP_SYN_EYE_AGE 7 0 ≤ w_ViewersCamerasAndBuilds_3.frame.eyeAge ∧
      w_ViewersCamerasAndBuilds_3.on CMP_SYN_STATUS_STALE = false) ∧
    (w_ViewersCamerasAndBuilds_4.reaches CMP_CAM_CFG ∧ w_ViewersCamerasAndBuilds_4.get (CMP_STK_CFG_SOURCE w_ViewersCamerasAndBuilds_4.camStream) ≠ 2) ∧
    (w_ViewersCamerasAndBuilds_5.reaches CMP_CAM_CFG ∧ w_ViewersCamerasAndBuilds_5.get (CMP_STK_CFG_SOURCE w_ViewersCamerasAndBuilds_5.camStream) = 2) ∧
    (w_ViewersCamerasAndBuilds_6.reaches CMP_CAM_CFG ∧ w_ViewersCamerasAndBuilds_6.get (CMP_STK_CFG_SOURCE w_ViewersCamerasAndBuilds_6.camStream) = 2 ∧
      w_ViewersCamerasAndBuilds_6.sweepCams = [(0, (⟨true, false, false, 0, 0, 0, 0, 0⟩ : CamRec))] ∧
      (w_ViewersCamerasAndBuilds_6.put CMP_CAM_CFG_ENABLE 1).camState 0 ≠ 2) ∧
    (tOn.reaches CMP_CAM_RIG_SEL) ∧
    (tOn.reaches CMP_CAM_CMD) ∧
    (w_ViewersCamerasAndBuilds_9.cam.restartIn = true) ∧
    (w_ViewersCamerasAndBuilds_10.coreOn = true ∧ w_ViewersCamerasAndBuilds_10.isSecondary = false ∧ w_ViewersCamerasAndBuilds_10.on CMP_CAM_CFG_ENABLE = true ∧
      w_ViewersCamerasAndBuilds_10.pwrState ≤ 1 ∧ w_ViewersCamerasAndBuilds_10.pwr.stopping = none ∧
      w_ViewersCamerasAndBuilds_10.cam.instant ≠ some w_ViewersCamerasAndBuilds_10.evc.tick ∧
      w_ViewersCamerasAndBuilds_10.instantFrom w_ViewersCamerasAndBuilds_10.ptpFrom = some 0 ∧ 0 < w_ViewersCamerasAndBuilds_10.ptpTickEnd) ∧
    (tOn.allocTables tOn.camStream (tOn.rigPlanes tOn.rig) [tOn.descSlot tOn.camStream ((tOn.acquirable tOn.camStream).getD 0)] = some ([])) :=
  ⟨by decide +kernel,
   by decide +kernel,
   by decide +kernel,
   by decide +kernel,
   by decide +kernel,
   by decide +kernel,
   by decide +kernel,
   by decide +kernel,
   by decide +kernel,
   by decide +kernel,
   by decide +kernel,
   by decide +kernel⟩
def w_FramesStartAndSetUp_0 : State := tPut [(EHL_STATUS_PAIR,
      pairPrimary)] ({ tOn with frame := { Frame.reset with seen := true, armed := true, ended := true, maxNs := 10 ^ 11 }, csu := { Csu.reset with image := some tImage }, now := 10 ^ 10 })
def w_FramesStartAndSetUp_2 : State := tPut [(EHL_STATUS_PAIR,
      pairPrimary)] ({ tOn with frame := { Frame.reset with seen := true, ended := true }, csu := { Csu.reset with image := some tImage }, now := 10 ^ 10 })
def w_FramesStartAndSetUp_3 : State := tPut [(EHL_STATUS_PAIR, pairPrimary)] ({ tOn with frame := { tOn.frame with seen := false } })
def w_FramesStartAndSetUp_5 : State := tPut [(EHL_STATUS_PAIR, pairSecondary), (SPL_STATUS_FRAME_ACTIVE,
      0)] ({ tOn with ehl := { tOn.ehl with fstart := some tFstart }, cal := { tOn.cal with applying := false }, csu := { tOn.csu with image := some tImage } })
def w_FramesStartAndSetUp_5_u : State :=
      if w_FramesStartAndSetUp_5.frameNo = tFstart.frame then w_FramesStartAndSetUp_5 else w_FramesStartAndSetUp_5.put ⟨SPL_FRAME_CNT, 15,
      0⟩ (tFstart.frame + 65535)
def w_FramesStartAndSetUp_5_v : State := (w_FramesStartAndSetUp_5_u.wrN SPL_ATTEMPT ((tFstart.att + 255) % 256)).startFrame false false
def w_FramesStartAndSetUp_7 : State := tPut [(CH_STATUS_SYNTH_ENGINES 3, 1)] { tOn with frame := { Frame.reset with setup := true } }
def w_FramesStartAndSetUp_8 : State := { tOn with frame := { tOn.frame with setup := true } }
theorem test_frames_start_and_set_up_witness :
    (w_FramesStartAndSetUp_0.coreOn = true ∧ w_FramesStartAndSetUp_0.isSecondary = false ∧ w_FramesStartAndSetUp_0.forceDue = false ∧
      w_FramesStartAndSetUp_0.frame.seen = true ∧ w_FramesStartAndSetUp_0.drives = true ∧ w_FramesStartAndSetUp_0.mayStart = true ∧
      w_FramesStartAndSetUp_0.frame.armed = true ∧ w_FramesStartAndSetUp_0.earliest ≤ w_FramesStartAndSetUp_0.now) ∧
    (w_FramesStartAndSetUp_2.coreOn = true ∧ w_FramesStartAndSetUp_2.isSecondary = false ∧ w_FramesStartAndSetUp_2.frame.seen = true ∧
      w_FramesStartAndSetUp_2.drives = true ∧ w_FramesStartAndSetUp_2.mayStart = true ∧
      w_FramesStartAndSetUp_2.frame.startAt + 2 * w_FramesStartAndSetUp_2.frame.maxNs ≤ w_FramesStartAndSetUp_2.now ∧
      w_FramesStartAndSetUp_2.earliest ≤ w_FramesStartAndSetUp_2.now) ∧
    (w_FramesStartAndSetUp_3.coreOn = true ∧ w_FramesStartAndSetUp_3.isSecondary = false ∧ (w_FramesStartAndSetUp_3.frame.seen = false ∨
      w_FramesStartAndSetUp_3.drives = false ∨ w_FramesStartAndSetUp_3.mayStart = false ∨ (w_FramesStartAndSetUp_3.frame.armed = false ∧
      w_FramesStartAndSetUp_3.now < w_FramesStartAndSetUp_3.frame.startAt + 2 * w_FramesStartAndSetUp_3.frame.maxNs) ∨
      w_FramesStartAndSetUp_3.now < w_FramesStartAndSetUp_3.earliest)) ∧
    (w_FramesStartAndSetUp_5.coreOn = true ∧ w_FramesStartAndSetUp_5.isSecondary = true ∧ w_FramesStartAndSetUp_5.ehl.fstart = some tFstart ∧
      w_FramesStartAndSetUp_5.csu.image ≠ none ∧ w_FramesStartAndSetUp_5.on SPL_STATUS_FRAME_ACTIVE = false ∧ w_FramesStartAndSetUp_5.cal.applying = false ∧
      w_FramesStartAndSetUp_5.fstartReady tFstart = true ∧ tFstart.full = false) ∧
    (w_FramesStartAndSetUp_7.coreOn = true ∧ w_FramesStartAndSetUp_7.frame.setup = true ∧ ((∃ c : Nat, c < 4 ∧
      w_FramesStartAndSetUp_7.get (CH_STATUS_SYNTH_ENGINES c) ≠ 0))) ∧
    (w_FramesStartAndSetUp_8.coreOn = true ∧ w_FramesStartAndSetUp_8.frame.setup = true ∧ ((∀ c : Nat, c < 4 →
      w_FramesStartAndSetUp_8.get (CH_STATUS_SYNTH_ENGINES c) = 0))) :=
  ⟨by decide +kernel,
   by decide +kernel,
   by decide +kernel,
   by decide +kernel,
   by decide +kernel,
   by decide +kernel⟩
def w_CommitsAndLayers_0 : State := { tOn with cmp := { tOn.cmp with prep := some (tCommit tLayer) } }
def w_CommitsAndLayers_1 : State := { tOn with cmp := { tOn.cmp with prep := none } }
def w_CommitsAndLayers_3 : State := { tOn with cmp := { Composer.reset with prep := some ({ tCommit tNoLayer with maxNs := 1 }) } }
def w_CommitsAndLayers_4 : State := { tOn with cmp := { Composer.reset with prep := some (tCommit tLayer) } }
def w_CommitsAndLayers_5 : State := tWr [(MEM_REGION 0, 2 ^ 16), (CMP_SYN_GEOM,
      2 ^ 21 + 32)] ({ tOn with cmp := { Composer.reset with prep := some (tCommit tPixel) } })
def w_CommitsAndLayers_5_u : State :=
      (((w_CommitsAndLayers_5.put CMP_LID_STATUS_PREP 0).wrN CMP_PREP_TIME (w_CommitsAndLayers_5.usSince (tCommit tPixel).since % 65536)).rasterCommit (tCommit tPixel).assignScalers false (List.range 24)).1
def w_CommitsAndLayers_6 : State := { tOn with cmp := { Composer.reset with prep := some (tCommit tNoLayer) } }
def w_CommitsAndLayers_6_u : State :=
      (((w_CommitsAndLayers_6.put CMP_LID_STATUS_PREP 0).wrN CMP_PREP_TIME (w_CommitsAndLayers_6.usSince (tCommit tNoLayer).since % 65536)).rasterCommit (tCommit tNoLayer).assignScalers false (List.range 24)).1
def w_CommitsAndLayers_7 : State := { tOn with cmp := { tOn.cmp with arrived := some (tCommit tLayer) } }
def w_CommitsAndLayers_8 : State := { tOn with cmp := { tOn.cmp with ofs := some (tCommit tLayer) } }
def w_CommitsAndLayers_9 : State := { tOn with cmp := { tOn.cmp with ofs := none } }
def w_CommitsAndLayers_10 : State := { tOn with cmp := { Composer.reset with ofs := some ({ tCommit tNoLayer with ofs := [0, 0, 1] }) } }
def w_CommitsAndLayers_11 : State := { tOn with cmp := { Composer.reset with ofs := some (tCommit tLayer) } }
def w_CommitsAndLayers_12 : State := tWr [(MEM_REGION 0, 2 ^ 16), (CMP_SYN_GEOM,
      2 ^ 21 + 32)] { tOn with cmp := { Composer.reset with ofs := some { tCommit tPixel with ofs := [0, 0, 128] }, current := some (tCommit { tPixel with pending := true }) } }
def w_CommitsAndLayers_13 : State := { tOn with cmp := { Composer.reset with ofs := some (tCommit tNoLayer) } }
def w_CommitsAndLayers_13_u : State := (w_CommitsAndLayers_13.rasterCommit (tCommit tNoLayer) true (List.range 24)).1
def w_CommitsAndLayers_15 : State := { tOn with cmp := { Composer.reset with current := some (tCommit tLayer) } }
def w_CommitsAndLayers_15_u : State := (w_CommitsAndLayers_15.rasterLate 23 (tCommit tLayer)).1
def w_CommitsAndLayers_16 : State :=
      { tOn with csu := { Csu.reset with image := some { tImage with policy := tPolicy } }, ovl := { Overlay.reset with ctx := List.replicate 16 ⟨some 0, some [7, 0], 0⟩ } }
def w_CommitsAndLayers_17_1 : State := tPut [(⟨CMP_OVL_STATE 7, 31, 28⟩, fsOk)] tOn
def w_CommitsAndLayers_17_2 : State := tPut [(⟨CMP_OVL_STATE 7, 31, 28⟩, fsStale)] tOn
theorem test_commits_and_layers_witness_1 :
    (w_CommitsAndLayers_0.reaches CMP_LID ∧ w_CommitsAndLayers_0.cmp.prep = some (tCommit tLayer)) ∧
    (w_CommitsAndLayers_1.reaches CMP_LID ∧ w_CommitsAndLayers_1.cmp.prep = none) ∧
    ((tLayer.en = false ∨ tLayer.fenceEn = false)) ∧
    (({ tLayer with regs := [3#32] }).en = true ∧ ({ tLayer with regs := [3#32] }).fenceEn = true ∧ ((∀ c ∈ tOn.heldCommits, ¬((c.layer 0).en = true ∧
      (c.layer 0).fenceEn = true ∧ (c.layer 0).addr = ({ tLayer with regs := [3#32] }).addr)))) ∧
    (w_CommitsAndLayers_3.coreOn = true ∧ w_CommitsAndLayers_3.cmp.prep = some ({ tCommit tNoLayer with maxNs := 1 }) ∧
      w_CommitsAndLayers_3.commitCheck ({ tCommit tNoLayer with maxNs := 1 }) false = some 0x0C) ∧
    (w_CommitsAndLayers_4.coreOn = true ∧ w_CommitsAndLayers_4.cmp.prep = some (tCommit tLayer) ∧
      w_CommitsAndLayers_4.commitCheck (tCommit tLayer) false = none ∧ w_CommitsAndLayers_4.layersCheck (tCommit tLayer) = some (5, 23)) ∧
    (w_CommitsAndLayers_5.coreOn = true ∧ w_CommitsAndLayers_5.cmp.prep = some (tCommit tPixel) ∧
      w_CommitsAndLayers_5.commitCheck (tCommit tPixel) false = none ∧ w_CommitsAndLayers_5.layersCheck (tCommit tPixel) = none ∧
      ((w_CommitsAndLayers_5.put CMP_LID_STATUS_PREP 0).wrN CMP_PREP_TIME (w_CommitsAndLayers_5.usSince (tCommit tPixel).since % 65536)).rasterCommit (tCommit tPixel).assignScalers false (List.range 24) = (w_CommitsAndLayers_5_u,
      ((((w_CommitsAndLayers_5.put CMP_LID_STATUS_PREP 0).wrN CMP_PREP_TIME (w_CommitsAndLayers_5.usSince (tCommit tPixel).since % 65536)).rasterCommit (tCommit tPixel).assignScalers false (List.range 24)).2.1),
      some (0x0A, 23))) ∧
    (w_CommitsAndLayers_6.coreOn = true ∧ w_CommitsAndLayers_6.cmp.prep = some (tCommit tNoLayer) ∧
      w_CommitsAndLayers_6.commitCheck (tCommit tNoLayer) false = none ∧ w_CommitsAndLayers_6.layersCheck (tCommit tNoLayer) = none ∧
      ((w_CommitsAndLayers_6.put CMP_LID_STATUS_PREP 0).wrN CMP_PREP_TIME (w_CommitsAndLayers_6.usSince (tCommit tNoLayer).since % 65536)).rasterCommit (tCommit tNoLayer).assignScalers false (List.range 24) = (w_CommitsAndLayers_6_u,
      ((((w_CommitsAndLayers_6.put CMP_LID_STATUS_PREP 0).wrN CMP_PREP_TIME (w_CommitsAndLayers_6.usSince (tCommit tNoLayer).since % 65536)).rasterCommit (tCommit tNoLayer).assignScalers false (List.range 24)).2.1),
      none)) ∧
    (w_CommitsAndLayers_7.cmp.arrived = some (tCommit tLayer)) ∧
    (w_CommitsAndLayers_8.reaches CMP_LID ∧ w_CommitsAndLayers_8.cmp.ofs = some (tCommit tLayer)) ∧
    (w_CommitsAndLayers_9.reaches CMP_LID ∧ w_CommitsAndLayers_9.cmp.ofs = none) ∧
    (w_CommitsAndLayers_10.coreOn = true ∧ w_CommitsAndLayers_10.cmp.ofs = some ({ tCommit tNoLayer with ofs := [0, 0, 1] }) ∧
      w_CommitsAndLayers_10.commitCheck ({ tCommit tNoLayer with ofs := [0, 0, 1] }) true = some 0x0D) :=
  ⟨by decide +kernel,
   by decide +kernel,
   by decide +kernel,
   by decide +kernel,
   by decide +kernel,
   by decide +kernel,
   by decide +kernel,
   by decide +kernel,
   by decide +kernel,
   by decide +kernel,
   by decide +kernel,
   by decide +kernel⟩
theorem test_commits_and_layers_witness_2 :
    (w_CommitsAndLayers_11.coreOn = true ∧ w_CommitsAndLayers_11.cmp.ofs = some (tCommit tLayer) ∧
      w_CommitsAndLayers_11.commitCheck (tCommit tLayer) true = none ∧ w_CommitsAndLayers_11.layersCheck (tCommit tLayer) = some (5, 23)) ∧
    (w_CommitsAndLayers_12.coreOn = true ∧ w_CommitsAndLayers_12.cmp.ofs = some ({ tCommit tPixel with ofs := [0, 0, 128] }) ∧
      w_CommitsAndLayers_12.commitCheck ({ tCommit tPixel with ofs := [0, 0, 128] }) true = none ∧
      w_CommitsAndLayers_12.layersCheck ({ tCommit tPixel with ofs := [0, 0, 128] }) = none ∧ ((∃ l : Nat, l < 24 ∧
      (({ tCommit tPixel with ofs := [0, 0, 128] }).layer l).en = true ∧ w_CommitsAndLayers_12.layerPending l = true))) ∧
    (w_CommitsAndLayers_13.coreOn = true ∧ w_CommitsAndLayers_13.cmp.ofs = some (tCommit tNoLayer) ∧
      w_CommitsAndLayers_13.commitCheck (tCommit tNoLayer) true = none ∧ w_CommitsAndLayers_13.layersCheck (tCommit tNoLayer) = none ∧ ((∀ l : Nat, l < 24 →
      ((tCommit tNoLayer).layer l).en = true → w_CommitsAndLayers_13.layerPending l = false)) ∧
      w_CommitsAndLayers_13.rasterCommit (tCommit tNoLayer) true (List.range 24) = (w_CommitsAndLayers_13_u,
      ((w_CommitsAndLayers_13.rasterCommit (tCommit tNoLayer) true (List.range 24)).2.1),
      ((w_CommitsAndLayers_13.rasterCommit (tCommit tNoLayer) true (List.range 24)).2.2))) ∧
    (tOn.reaches CMP_LYR_FENCE) ∧
    (w_CommitsAndLayers_15.coreOn = true ∧ w_CommitsAndLayers_15.cmp.current = some (tCommit tLayer) ∧
      w_CommitsAndLayers_15.rasterLate 23 (tCommit tLayer) = (w_CommitsAndLayers_15_u, ((w_CommitsAndLayers_15.rasterLate 23 (tCommit tLayer)).2)) ∧
      ((tCommit tLayer).layer 23).waits = true ∧ (((w_CommitsAndLayers_15.rasterLate 23 (tCommit tLayer)).2).layer 23).ready = true ∧
      w_CommitsAndLayers_15_u.cmp.ready = none ∧ w_CommitsAndLayers_15_u.cmp.gated = none ∧ w_CommitsAndLayers_15_u.cmp.arrived = none) ∧
    (w_CommitsAndLayers_16.coreOn = true ∧ 0 < ovlFields w_CommitsAndLayers_16.ovlDesc ∧
      fieldEval (ovlField w_CommitsAndLayers_16.ovlDesc 0) (w_CommitsAndLayers_16.ovl.ctx.getD (ovlField w_CommitsAndLayers_16.ovlDesc 0).ctx ⟨none, none,
      0⟩) w_CommitsAndLayers_16.ptpAtEnd = (((fieldEval (ovlField w_CommitsAndLayers_16.ovlDesc 0) (w_CommitsAndLayers_16.ovl.ctx.getD (ovlField w_CommitsAndLayers_16.ovlDesc 0).ctx ⟨none,
      none, 0⟩) w_CommitsAndLayers_16.ptpAtEnd).1), 7)) ∧
    (fsStale < 16 ∧ fieldHatched (w_CommitsAndLayers_17_1.fieldState 63) = false ∧ fieldHatched fsStale = true) ∧
    (fsOver < 16 ∧ fieldHatched (w_CommitsAndLayers_17_2.fieldState 63) = true ∧ fieldHatched fsOver = false) ∧
    (tOn.reaches CMP_WB_HELD) :=
  ⟨by decide +kernel,
   by decide +kernel,
   by decide +kernel,
   by decide +kernel,
   by decide +kernel,
   by decide +kernel,
   by decide +kernel,
   by decide +kernel,
   by decide +kernel⟩
def w_PanelUpdatesAndPackets_0 : State := tFrame (tQueue (tUpdate 0 0 false))
def w_PanelUpdatesAndPackets_2 : State := { tOn with spl := { Spl.reset with groups := List.replicate 6 { Group.reset with prbs := [1] } } }
def w_PanelUpdatesAndPackets_3 : State := tPut [(SPL_G_STATE_STATE 5,
      gTrain)] ({ tOn with spl := { tOn.spl with groups := List.replicate 6 { Group.reset with prbs := [] } } })
def w_PanelUpdatesAndPackets_4 : State := tPut [(SPL_G_STATE_STATE 5,
      gLock)] ({ tOn with spl := { tOn.spl with groups := List.replicate 6 { Group.reset with prbs := [] } } })
def w_PanelUpdatesAndPackets_5 : State := tFrame (tQueue (tUpdate 1 0 true))
def w_PanelUpdatesAndPackets_5_u : State := (w_PanelUpdatesAndPackets_5.nextPacket 0).getD tOn
def w_PanelUpdatesAndPackets_6 : State := tPut [(SPL_G_STATE_STATE 5,
      gActive)] ({ tOn with spl := { tOn.spl with groups := List.replicate 6 { Group.reset with prbs := [], adapting := false } } })
def w_PanelUpdatesAndPackets_7 : State := { tOn with spl := { tOn.spl with groups := List.replicate 6 { Group.reset with prbs := [] } } }
def w_PanelUpdatesAndPackets_9 : State := tPut [(SPL_STATUS_WINDOW, 63), (CAL_MAP_STATUS_VALID, 1), (⟨CAL_TRICKLE, 5, 0⟩,
      1)] (tShow (tGroup { Group.reset with corr := [tCorr] }))
def w_PanelUpdatesAndPackets_10 : State := tPut [(SPL_T_STATUS_HERE 0, 0)] (tPut [(SPL_STATUS_WINDOW, 63), (CAL_MAP_STATUS_VALID, 1), (⟨CAL_TRICKLE, 5, 0⟩,
      1)] (tShow (tGroup { Group.reset with corr := [tCorr] })))
def w_PanelUpdatesAndPackets_11 : State := tFrame (fun s => { s with frame := { s.frame with deadline := 10 ^ 10 + 1 } })
def w_PanelUpdatesAndPackets_12 : State := tPut [(EHL_STATUS_PAIR, pairPrimary)] (tOn)
def w_PanelUpdatesAndPackets_13 : State := tFrame id
def w_PanelUpdatesAndPackets_14 : State := { tOn with frame := { Frame.reset with deadline := 10 ^ 10 } }
def w_PanelUpdatesAndPackets_15 : State := tFrame (tQueue (tUpdate 1 (((tFrame id).piecePackets (tUpdate 1 0 false) (tPiece 0 false)).length) false))
theorem test_panel_updates_and_packets_witness_1 :
    (w_PanelUpdatesAndPackets_0.coreOn = true ∧ w_PanelUpdatesAndPackets_0.startable = some (tUpdate 0 0 false) ∧ (tUpdate 0 0 false).upd = 5 ∧
      w_PanelUpdatesAndPackets_0.frameOn = true ∧ w_PanelUpdatesAndPackets_0.frame.setup = false ∧ w_PanelUpdatesAndPackets_0.drives = true) ∧
    (tOn.coreOn = true ∧ (tOn.startable = none ∨ tOn.frameOn = false ∨ tOn.frame.setup = true ∨ tOn.drives = false)) ∧
    (w_PanelUpdatesAndPackets_2.coreOn = true ∧ 5 < 6 ∧ (w_PanelUpdatesAndPackets_2.group 5).prbs ≠ []) ∧
    (w_PanelUpdatesAndPackets_3.coreOn = true ∧ 5 < 6 ∧ (w_PanelUpdatesAndPackets_3.group 5).prbs = [] ∧ (w_PanelUpdatesAndPackets_3.gState 5 = gTrain ∨
      (w_PanelUpdatesAndPackets_3.gState 5 = gActive ∧ (w_PanelUpdatesAndPackets_3.group 5).adapting = true))) ∧
    (w_PanelUpdatesAndPackets_4.coreOn = true ∧ 5 < 6 ∧ (w_PanelUpdatesAndPackets_4.group 5).prbs = [] ∧ (w_PanelUpdatesAndPackets_4.gState 5 = gLock ∨
      w_PanelUpdatesAndPackets_4.gState 5 = gCaps)) ∧
    (w_PanelUpdatesAndPackets_5.coreOn = true ∧ 0 < 6 ∧ (w_PanelUpdatesAndPackets_5.group 0).prbs = [] ∧ w_PanelUpdatesAndPackets_5.canSend 0 = true ∧
      w_PanelUpdatesAndPackets_5.nextPacket 0 = some w_PanelUpdatesAndPackets_5_u) ∧
    (w_PanelUpdatesAndPackets_6.coreOn = true ∧ 5 < 6 ∧ (w_PanelUpdatesAndPackets_6.group 5).prbs = [] ∧ w_PanelUpdatesAndPackets_6.gState 5 = gActive ∧
      (w_PanelUpdatesAndPackets_6.group 5).adapting = false ∧ (w_PanelUpdatesAndPackets_6.canSend 5 = false ∨ w_PanelUpdatesAndPackets_6.nextPacket 5 = none)) ∧
    (w_PanelUpdatesAndPackets_7.coreOn = true ∧ 5 < 6 ∧ (w_PanelUpdatesAndPackets_7.group 5).prbs = [] ∧ (w_PanelUpdatesAndPackets_7.gState 5 < gTrain ∨
      gActive < w_PanelUpdatesAndPackets_7.gState 5)) ∧
    (w_PanelUpdatesAndPackets_9.coreOn = true ∧ (w_PanelUpdatesAndPackets_9.group 0).corr.find? (fun c' => !c'.sent) = some tCorr ∧
      w_PanelUpdatesAndPackets_9.canSend 0 = true ∧ w_PanelUpdatesAndPackets_9.windowOpen 0 = true ∧ w_PanelUpdatesAndPackets_9.trickleOn = true ∧
      w_PanelUpdatesAndPackets_9.nextPacket 0 = none ∧ w_PanelUpdatesAndPackets_9.excluded tCorr.tile = false) ∧
    (w_PanelUpdatesAndPackets_10.coreOn = true ∧ (w_PanelUpdatesAndPackets_10.group 0).corr.find? (fun c' => !c'.sent) = some tCorr ∧
      w_PanelUpdatesAndPackets_10.canSend 0 = true ∧ w_PanelUpdatesAndPackets_10.windowOpen 0 = true ∧ w_PanelUpdatesAndPackets_10.trickleOn = true ∧
      w_PanelUpdatesAndPackets_10.nextPacket 0 = none ∧ w_PanelUpdatesAndPackets_10.excluded tCorr.tile = true) ∧
    (w_PanelUpdatesAndPackets_11.coreOn = true ∧ w_PanelUpdatesAndPackets_11.isSecondary = false ∧ w_PanelUpdatesAndPackets_11.canFlip = true ∧
      w_PanelUpdatesAndPackets_11.drives = true ∧ w_PanelUpdatesAndPackets_11.now < w_PanelUpdatesAndPackets_11.frame.deadline) ∧
    (w_PanelUpdatesAndPackets_12.coreOn = true ∧ w_PanelUpdatesAndPackets_12.isSecondary = false ∧ (w_PanelUpdatesAndPackets_12.canFlip = false ∨
      w_PanelUpdatesAndPackets_12.drives = false ∨ w_PanelUpdatesAndPackets_12.frame.deadline ≤ w_PanelUpdatesAndPackets_12.now)) :=
  ⟨by decide +kernel,
   by decide +kernel,
   by decide +kernel,
   by decide +kernel,
   by decide +kernel,
   ⟨by decide +kernel, by decide +kernel, by decide +kernel, by decide +kernel, some_getD (by decide +kernel)⟩,
   by decide +kernel,
   by decide +kernel,
   by decide +kernel,
   by decide +kernel,
   by decide +kernel,
   by decide +kernel⟩
theorem test_panel_updates_and_packets_witness_2 :
    (w_PanelUpdatesAndPackets_13.coreOn = true ∧ w_PanelUpdatesAndPackets_13.frameOn = true ∧ w_PanelUpdatesAndPackets_13.drives = true ∧
      w_PanelUpdatesAndPackets_13.frame.deadline < w_PanelUpdatesAndPackets_13.now + w_PanelUpdatesAndPackets_13.tickHalfNs) ∧
    (w_PanelUpdatesAndPackets_14.coreOn = true ∧ (w_PanelUpdatesAndPackets_14.drives = false ∨
      w_PanelUpdatesAndPackets_14.now + w_PanelUpdatesAndPackets_14.tickHalfNs ≤ w_PanelUpdatesAndPackets_14.frame.deadline)) ∧
    (w_PanelUpdatesAndPackets_15.coreOn = true ∧
      w_PanelUpdatesAndPackets_15.spl.queue.findSome? (fun u' => (u'.pieces.find? (fun p' => u'.phase == 1 && p'.tile == 0 && !p'.acked && p'.next == (w_PanelUpdatesAndPackets_15.piecePackets u' p').length && decide (p'.lastAt + 40000 < w_PanelUpdatesAndPackets_15.now + w_PanelUpdatesAndPackets_15.tickHalfNs))).map (fun p' => (u',
      p'))) = some ((tUpdate 1 (((tFrame id).piecePackets (tUpdate 1 0 false) (tPiece 0 false)).length) false),
      (tPiece (((tFrame id).piecePackets (tUpdate 1 0 false) (tPiece 0 false)).length) false))) ∧
    (tOn.coreOn = true ∧
      tOn.spl.queue.findSome? (fun u => (u.pieces.find? (fun p => u.phase == 1 && p.tile == 0 && !p.acked && p.next == (tOn.piecePackets u p).length && decide (p.lastAt + 40000 < tOn.now + tOn.tickHalfNs))).map (fun p => (u,
      p))) = none) :=
  ⟨by decide +kernel,
   by decide +kernel,
   by decide +kernel,
   by decide +kernel⟩
def w_TileStatusRecords_0 : State := tShow id
def w_TileStatusRecords_1 : State := tFrame (fun s => { s with frame := { s.frame with deadline := 10 ^ 11 } })
def w_TileStatusRecords_4_0 : State :=
      tFrame (fun s => { s with frame := { s.frame with deadline := 10 ^ 11 }, spl := { s.spl with refsets := [⟨0, [], 0, true, false, 0, 0⟩] } })
def w_TileStatusRecords_4_1 : State := tShow (tGroup { Group.reset with corr := [{ tCorr with sent := true, frame := 1 }] })
def w_TileStatusRecords_5 : State := tFrame (fun s => tQueue (tUpdate 1 1 false) ((fun s => { s with frame := { s.frame with deadline := 10 ^ 11 } }) s))
def w_TileStatusRecords_9 : State :=
      ((w_TileStatusRecords_0.putB (SPL_T_STATUS_HERE 0) tRec.here).putB (SPL_T_STATUS_CONTENT_VALID 0) tRec.valid).putB (SPL_T_STATUS_HOLDING 0) tRec.holding
def w_TileStatusRecords_9_s2 : State :=
      if w_TileStatusRecords_0.bits (SPL_G_LPBK 0) 1 0 = 3 then (if tRec.errors = 0 then w_TileStatusRecords_9 else (w_TileStatusRecords_9.countN (SPL_G_PRBS_ERR 0) tRec.errors).raiseMask 331 (2 ^ 0)) else w_TileStatusRecords_9.countN (SPL_T_ERR_CNT 0) tRec.errors
def w_TileStatusRecords_10 : State := tPut [(EHL_STATUS_PAIR, 1)] (tShow id)
def w_TileStatusRecords_11 : State := tPut [(EHL_STATUS_PAIR, pairDetached)] (tShow id)
def w_TileStatusRecords_12 : State := (((w_TileStatusRecords_1.putB (SPL_T_STATUS_HERE 0) true).count SPL_SWITCH_CNT).raiseMask 326 (2 ^ 0)).showProgress 0 tRec
def w_TileStatusRecords_14 : State := tPut [(SPL_G_STATE_STATE 5, gCaps)] (tShow id)
theorem test_tile_status_records_witness_1 :
    (w_TileStatusRecords_0.coreOn = true ∧ w_TileStatusRecords_0.srTile 0 tRec false = none) ∧
    (w_TileStatusRecords_1.coreOn = true ∧ w_TileStatusRecords_1.srTile 0 tRec true = some 0 ∧ tRec.upd ≠ 2047 ∧ w_TileStatusRecords_1.frameOn = true ∧
      tRec.frame = w_TileStatusRecords_1.frameNo ∧ tRec.att = w_TileStatusRecords_1.attNow ∧ w_TileStatusRecords_1.deadlinePasses = false) ∧
    (w_TileStatusRecords_0.coreOn = true ∧ w_TileStatusRecords_0.srTile 0 tRec true = some 0 ∧ tRec.upd ≠ 2047 ∧ (w_TileStatusRecords_0.frameOn = false ∨
      tRec.frame ≠ w_TileStatusRecords_0.frameNo ∨ tRec.att ≠ w_TileStatusRecords_0.attNow ∨ w_TileStatusRecords_0.deadlinePasses = true)) ∧
    (w_TileStatusRecords_0.coreOn = true ∧ w_TileStatusRecords_0.srTile 0 ({ tRec with upd := 2047 }) true = some 0 ∧ ({ tRec with upd := 2047 }).upd = 2047) ∧
    (w_TileStatusRecords_4_0.deadlinePasses = false ∧ tRec.frame = w_TileStatusRecords_4_0.frameNo ∧ tRec.att = w_TileStatusRecords_4_0.attNow ∧
      w_TileStatusRecords_4_0.frameOn = true ∧ ((∃ q ∈ w_TileStatusRecords_4_0.spl.refsets, q.tile = 0 ∧ q.sent = true ∧ q.acked = false))) ∧
    (w_TileStatusRecords_4_1.deadlinePasses = false ∧ w_TileStatusRecords_4_1.frameOn = false ∧
      (w_TileStatusRecords_4_1.group 0).corr.find? (fun c' => c'.tile == 0 && c'.sent && !c'.acked && c'.frame == tRec.frame && c'.att == tRec.att) = some ({ tCorr with sent := true, frame := 1 })) ∧
    (w_TileStatusRecords_5.coreOn = true ∧ w_TileStatusRecords_5.srTile 0 tRec true = some 0 ∧ w_TileStatusRecords_5.frameOn = true ∧
      tRec.frame = w_TileStatusRecords_5.frameNo ∧ tRec.att = w_TileStatusRecords_5.attNow ∧
      w_TileStatusRecords_5.spl.queue.findSome? (fun u' => (u'.pieces.find? (fun p' => u'.phase == 1 && p'.tile == 0 && !p'.acked && ((w_TileStatusRecords_5.piecePackets u' p').take p'.next).contains (tRec.x,
      tRec.y))).map (fun p' => (u', p'))) = some ((tUpdate 1 1 false), (tPiece 1 false))) ∧
    (w_TileStatusRecords_4_1.coreOn = true ∧ w_TileStatusRecords_4_1.srTile 0 tRec true = some 0 ∧ (w_TileStatusRecords_4_1.frameOn = false ∨
      tRec.frame ≠ w_TileStatusRecords_4_1.frameNo ∨ tRec.att ≠ w_TileStatusRecords_4_1.attNow ∨
      w_TileStatusRecords_4_1.spl.queue.findSome? (fun u => (u.pieces.find? (fun p => u.phase == 1 && p.tile == 0 && !p.acked && ((w_TileStatusRecords_4_1.piecePackets u p).take p.next).contains (tRec.x,
      tRec.y))).map (fun p => (u, p))) = none) ∧
      (w_TileStatusRecords_4_1.group 0).corr.find? (fun c' => c'.tile == 0 && c'.sent && !c'.acked && c'.frame == tRec.frame && c'.att == tRec.att && w_TileStatusRecords_4_1.granuleAt c'.granule == (tRec.x,
      tRec.y)) = some ({ tCorr with sent := true, frame := 1 })) ∧
    (w_TileStatusRecords_4_0.coreOn = true ∧ w_TileStatusRecords_4_0.srTile 0 tRec true = some 0 ∧ w_TileStatusRecords_4_0.frameOn = true ∧
      tRec.frame = w_TileStatusRecords_4_0.frameNo ∧ tRec.att = w_TileStatusRecords_4_0.attNow ∧
      w_TileStatusRecords_4_0.spl.queue.findSome? (fun u => (u.pieces.find? (fun p => u.phase == 1 && p.tile == 0 && !p.acked && ((w_TileStatusRecords_4_0.piecePackets u p).take p.next).contains (tRec.x,
      tRec.y))).map (fun p => (u, p))) = none ∧
      (w_TileStatusRecords_4_0.group 0).corr.find? (fun c => c.tile == 0 && c.sent && !c.acked && c.frame == tRec.frame && c.att == tRec.att && w_TileStatusRecords_4_0.granuleAt c.granule == (tRec.x,
      tRec.y)) = none ∧ w_TileStatusRecords_4_0.spl.refsets.find? (fun q' => q'.tile == 0 && q'.sent && !q'.acked) = some (⟨0, [], 0, true, false, 0,
      0⟩ : Refset)) ∧
    (w_TileStatusRecords_0.coreOn = true ∧ w_TileStatusRecords_0.srTile 0 tRec true = some 0 ∧ (w_TileStatusRecords_0.frameOn = false ∨
      tRec.frame ≠ w_TileStatusRecords_0.frameNo ∨ tRec.att ≠ w_TileStatusRecords_0.attNow) ∧
      (w_TileStatusRecords_0.group 0).corr.find? (fun c => c.tile == 0 && c.sent && !c.acked && c.frame == tRec.frame && c.att == tRec.att && w_TileStatusRecords_0.granuleAt c.granule == (tRec.x,
      tRec.y)) = none) ∧
    (w_TileStatusRecords_0.coreOn = true ∧ w_TileStatusRecords_0.srTile 0 tRec true = some 0) ∧
    (w_TileStatusRecords_10.coreOn = true ∧ w_TileStatusRecords_10.srTile 0 tRec true = some 0 ∧ tRec.here = true ∧
      w_TileStatusRecords_10.pairState ≠ pairDetached ∧ w_TileStatusRecords_10.frameOn = false) :=
  ⟨by decide +kernel,
   by decide +kernel,
   by decide +kernel,
   by decide +kernel,
   by decide +kernel,
   by decide +kernel,
   by decide +kernel,
   by decide +kernel,
   by decide +kernel,
   by decide +kernel,
   by decide +kernel,
   by decide +kernel⟩
theorem test_tile_status_records_witness_2 :
    (w_TileStatusRecords_11.coreOn = true ∧ w_TileStatusRecords_11.srTile 0 tRec true = some 0 ∧ tRec.here = true ∧
      w_TileStatusRecords_11.pairState = pairDetached ∧ w_TileStatusRecords_11.frameOn = false) ∧
    (w_TileStatusRecords_1.coreOn = true ∧ w_TileStatusRecords_1.srTile 0 tRec true = some 0 ∧ tRec.here = true ∧
      w_TileStatusRecords_1.pairState ≠ pairDetached ∧ w_TileStatusRecords_1.frameOn = true ∧ w_TileStatusRecords_12.drives = true ∧
      w_TileStatusRecords_12.excluded 0 = false) ∧
    (w_TileStatusRecords_0.coreOn = true ∧ w_TileStatusRecords_0.srTile 0 ({ tRec with here := false }) true = some 0 ∧
      ({ tRec with here := false }).here = false) ∧
    (w_TileStatusRecords_14.coreOn = true ∧ w_TileStatusRecords_14.tileAt tRec.taddr = some 0 ∧ ((w_TileStatusRecords_14.tileRec 0).group ≠ 5 ∨
      ((w_TileStatusRecords_14.tileRec 0).ref ≠ 0 ∧ (w_TileStatusRecords_14.tileRec 0).ref ≠ tRec.tileId)) ∧ w_TileStatusRecords_14.gState 5 = gCaps) ∧
    (w_TileStatusRecords_0.coreOn = true ∧ w_TileStatusRecords_0.tileAt tRec.taddr = some 0 ∧ (w_TileStatusRecords_0.tileRec 0).group = 0 ∧
      ((w_TileStatusRecords_0.tileRec 0).ref = 0 ∨ (w_TileStatusRecords_0.tileRec 0).ref = tRec.tileId)) ∧
    (tOn.coreOn = true) ∧
    (w_TileStatusRecords_0.coreOn = true ∧ w_TileStatusRecords_0.srTile 0 tRec true = some 0) ∧
    (tOn.coreOn = true ∧ 5 < 6) :=
  ⟨by decide +kernel,
   by decide +kernel,
   by decide +kernel,
   by decide +kernel,
   by decide +kernel,
   by decide +kernel,
   by decide +kernel,
   by decide +kernel⟩
def w_HoldAndRestores_1_3 : State := { tOn with spl := { Spl.reset with restoresIn := [7] } }
def w_HoldAndRestores_2 : State := tOn.wrN SPL_HOLD ((0#32).toNat &&& 0xFF01)
def w_HoldAndRestores_3 : State := tPut [(SPL_STATUS_HOLD, 0)] ({ tOn with spl := { Spl.reset with holdAsked := true } })
def w_HoldAndRestores_3_u : State :=
      ((List.range 6).filter (fun g => w_HoldAndRestores_3.gState g == gActive)).foldl (fun st g => ((st.groupTiles g).foldl (fun x t => x.put (SPL_T_STATUS_HOLDING t) 1) (st.setG g gHold)).judgeGroup g) ((w_HoldAndRestores_3.sendMark (markRow 3 0 0 w_HoldAndRestores_3.holdLevelNow 0)).put SPL_STATUS_HOLD 1)
def w_HoldAndRestores_5 : State := tPut [(SPL_STATUS_HOLD, 1)] ({ tOn with spl := { tOn.spl with resumeOwed := false } })
def w_HoldAndRestores_6 : State := tPut [(SPL_G_STATE_STATE 5, gActive), (SPL_STATUS_WINDOW, 63), (CAL_RUN_STATUS_STATE,
      2)] { tOn with frame := { Frame.reset with startAt := 50000 }, cal := { Cal.reset with runStep := 5 } }
def w_HoldAndRestores_7 : State :=
      tGroup { Group.reset with adapting := true } { tOn with csu := { Csu.reset with image := some { tImage with panel := List.replicate 0x4B 0 ++ [1] } } }
def w_HoldAndRestores_7_s1 : State := w_HoldAndRestores_7.setGroup 5 (fun k => { k with adapting := false })
def w_HoldAndRestores_7_s2 : State := { w_HoldAndRestores_7_s1 with cal := { w_HoldAndRestores_7_s1.cal with runStep := 5 + 1 } }
def w_HoldAndRestores_8 : State := { tOn with spl := { tOn.spl with groups := List.replicate 6 { Group.reset with adapting := true } } }
def w_HoldAndRestores_8_s1 : State := w_HoldAndRestores_8.setGroup 5 (fun k => { k with adapting := false })
def w_HoldAndRestores_8_s2 : State := { w_HoldAndRestores_8_s1 with cal := { w_HoldAndRestores_8_s1.cal with runStep := 5 + 1 } }
theorem test_hold_and_restores_witness :
    (tOn.reaches SPL_RESTORE) ∧
    (7 ∈ w_HoldAndRestores_1_3.spl.restoresIn) ∧
    (tOn.reaches SPL_HOLD) ∧
    (w_HoldAndRestores_3.coreOn = true ∧ w_HoldAndRestores_3.wantsHold = true ∧ w_HoldAndRestores_3.frameOn = false ∧
      w_HoldAndRestores_3.on SPL_STATUS_HOLD = false) ∧
    (tOn.coreOn = true ∧ (tOn.wantsHold = false ∨ tOn.frameOn = true ∨ tOn.on SPL_STATUS_HOLD = true)) ∧
    (w_HoldAndRestores_5.coreOn = true ∧ w_HoldAndRestores_5.on SPL_STATUS_HOLD = true ∧ bitAt (w_HoldAndRestores_5.rdN SPL_HOLD) 0 = false ∧
      w_HoldAndRestores_5.spl.resumeOwed = false ∧ w_HoldAndRestores_5.pwrState ≤ 1) ∧
    (w_HoldAndRestores_6.coreOn = true ∧ w_HoldAndRestores_6.get CAL_RUN_STATUS_STATE = 2 ∧ w_HoldAndRestores_6.nextGroup = some 5 ∧
      w_HoldAndRestores_6.windowOpen 5 = true ∧ w_HoldAndRestores_6.frameOn = false ∧ (w_HoldAndRestores_6.group 5).adapting = false ∧
      w_HoldAndRestores_6.now + 50000 ≤ w_HoldAndRestores_6.earliest) ∧
    (w_HoldAndRestores_7.coreOn = true ∧ 5 < 6 ∧ (w_HoldAndRestores_7.group 5).adapting = true ∧ ((tStage 16 0).eye < byteAt w_HoldAndRestores_7.panelSec 0x4B ∨
      (tStage 16 0).eye + 16 < w_HoldAndRestores_7.pcie.prevEyes.getD 5 0)) ∧
    (w_HoldAndRestores_8.coreOn = true ∧ 5 < 6 ∧ (w_HoldAndRestores_8.group 5).adapting = true ∧ byteAt w_HoldAndRestores_8.panelSec 0x4B ≤ (tStage 16 0).eye ∧
      w_HoldAndRestores_8.pcie.prevEyes.getD 5 0 ≤ (tStage 16 0).eye + 16) :=
  ⟨by decide +kernel,
   by decide +kernel,
   by decide +kernel,
   by decide +kernel,
   by decide +kernel,
   by decide +kernel,
   by decide +kernel,
   by decide +kernel,
   by decide +kernel⟩
def w_GroupTraining_1 : State := tPut [(SPL_G_STATE_STATE 5, gDetect)] (tOn)
def w_GroupTraining_2 : State :=
      if w_PanelUpdatesAndPackets_3.on (SPL_G_STATE_FAST 5) then w_PanelUpdatesAndPackets_3 else w_PanelUpdatesAndPackets_3.takePresets 5 (tStage 16 0)
def w_GroupTraining_4 : State := tPut [(SPL_G_STATE_STATE 5, gLock)] (tOn)
def w_GroupTraining_5 : State := tPut [(SPL_G_STATE_STATE 5, gCaps)] (tOn)
def w_GroupTraining_6 : State := tPut [(SPL_G_STATE_STATE 5, gDetect), ((SPL_G_STATE_FAST 5),
      0)] ({ tOn with now := 10 ^ 12, spl := { tOn.spl with groups := List.replicate 6 { Group.reset with prbs := [] } } })
def w_GroupTraining_7 : State := tPut [(SPL_G_STATE_STATE 5, gDetect), ((SPL_G_STATE_FAST 5),
      1)] ({ tOn with now := 10 ^ 12, spl := { tOn.spl with groups := List.replicate 6 { Group.reset with prbs := [] } } })
def w_GroupTraining_8 : State := tPut [(SPL_G_STATE_STATE 5, gFailed)] ({ tOn with now := 10 ^ 12 })
def w_GroupTraining_9 : State := tPut [(SPL_CTRL_EN, 1), (SPL_CTRL_GROUP_EN, 63)] (tOn)
def w_GroupTraining_12 : State := tPut [((SPL_G_STATE_FAST 5), 1), (SPL_G_STATE_STATE 5, gTrain)] (tOn)
theorem test_group_training_witness_1 :
    (tOn.reaches SPL_CTRL) ∧
    (w_GroupTraining_1.coreOn = true ∧ 5 < 6 ∧ w_GroupTraining_1.gState 5 = gDetect) ∧
    (w_PanelUpdatesAndPackets_3.coreOn = true ∧ 5 < 6 ∧ w_PanelUpdatesAndPackets_3.gState 5 = gTrain ∧ (w_PanelUpdatesAndPackets_3.group 5).prbs = []) ∧
    (0 < tOn.spl.groups.length) ∧
    (w_GroupTraining_4.coreOn = true ∧ 5 < 6 ∧ w_GroupTraining_4.gState 5 = gLock) ∧
    (w_GroupTraining_5.coreOn = true ∧ 5 < 6 ∧ w_GroupTraining_5.gState 5 = gCaps) ∧
    (w_GroupTraining_6.coreOn = true ∧ 5 < 6 ∧ gDetect ≤ w_GroupTraining_6.gState 5 ∧ w_GroupTraining_6.gState 5 ≤ gCaps ∧
      (w_GroupTraining_6.group 5).prbs = [] ∧ w_GroupTraining_6.on (SPL_G_STATE_FAST 5) = false ∧
      (w_GroupTraining_6.group 5).since + stageLimit (w_GroupTraining_6.gState 5) < w_GroupTraining_6.now + w_GroupTraining_6.tickHalfNs) ∧
    (w_GroupTraining_7.coreOn = true ∧ 5 < 6 ∧ gDetect ≤ w_GroupTraining_7.gState 5 ∧ w_GroupTraining_7.gState 5 ≤ gCaps ∧
      (w_GroupTraining_7.group 5).prbs = [] ∧ w_GroupTraining_7.on (SPL_G_STATE_FAST 5) = true ∧
      (w_GroupTraining_7.group 5).fastAt + 240000 < w_GroupTraining_7.now + w_GroupTraining_7.tickHalfNs) ∧
    (w_GroupTraining_8.coreOn = true ∧ 5 < 6 ∧ w_GroupTraining_8.gState 5 = gFailed ∧
      (w_GroupTraining_8.group 5).since + 20000000 < w_GroupTraining_8.now + w_GroupTraining_8.tickHalfNs) ∧
    (w_GroupTraining_9.reaches (SPL_G_CMD 5) ∧ 5 < 6 ∧ w_GroupTraining_9.groupEnabled 5 = true) ∧
    (tOn.reaches (SPL_G_CMD 5) ∧ 5 < 6) ∧
    (tOn.reaches (SPL_G_CMD 5) ∧ 5 < 6) :=
  ⟨by decide +kernel,
   by decide +kernel,
   by decide +kernel,
   by decide +kernel,
   by decide +kernel,
   by decide +kernel,
   by decide +kernel,
   by decide +kernel,
   by decide +kernel,
   by decide +kernel,
   by decide +kernel,
   by decide +kernel⟩
theorem test_group_training_witness_2 :
    (w_GroupTraining_12.coreOn = true ∧ 5 < 6 ∧ w_GroupTraining_12.on (SPL_G_STATE_FAST 5) = true ∧ gTrain ≤ w_GroupTraining_12.gState 5 ∧
      w_GroupTraining_12.gState 5 ≤ gCaps) ∧
    (w_GroupTraining_12.coreOn = true ∧ 5 < 6 ∧ w_GroupTraining_12.on (SPL_G_STATE_FAST 5) = true ∧ gTrain ≤ w_GroupTraining_12.gState 5 ∧
      w_GroupTraining_12.gState 5 ≤ gCaps) ∧
    (tOn.reaches (SPL_G_LPBK 5) ∧ 5 < 6) ∧
    (tOn.coreOn = true ∧ 5 < 6) :=
  ⟨by decide +kernel,
   by decide +kernel,
   by decide +kernel,
   by decide +kernel⟩
def w_AuxiliaryOutput_1 : State := tPut [(auxHpd, 1)] ({ tOn with aux := { tOn.aux with training := true } })
def w_AuxiliaryOutput_2 : State := tPut [(auxHpd, 0)] ({ tOn with aux := { tOn.aux with training := true } })
def w_AuxiliaryOutput_3 : State := { tOn with aux := { tOn.aux with training := false } }
def w_AuxiliaryOutput_5 : State := tPut [(auxHpd, 0)] (tOn)
def w_AuxiliaryOutput_6 : State := tPut [(auxHpd, 1)] (tOn)
def w_AuxiliaryOutput_6_s1 : State := (w_AuxiliaryOutput_6.put auxHpd 0).raise 384 0
def w_AuxiliaryOutput_8 : State := { tOn with aux := { tOn.aux with chBusy := none } }
def w_AuxiliaryOutput_9 : State := { tOn with aux := { tOn.aux with chBusy := some (0, 0) } }
def w_AuxiliaryOutput_10 : State :=
      (List.range (min 4 ([] : List Word).length)).foldl (fun st i => st.wr (AUX_CH_DATA i) (([] : List Word).getD i 0)) w_AuxiliaryOutput_9
def w_AuxiliaryOutput_10_s2 : State := (w_AuxiliaryOutput_10.put ⟨AUX_CH_STATUS, 1, 0⟩ (if true then 2 else 3)).put ⟨AUX_CH_STATUS, 7, 4⟩ ((0#32).toNat % 16)
def w_AuxiliaryOutput_11 : State := tAux ({ tView with copies := [tCopy roleLatest (some 1)] })
def w_AuxiliaryOutput_11_u : State :=
      { w_AuxiliaryOutput_11 with aux := { w_AuxiliaryOutput_11.aux with views := w_AuxiliaryOutput_11.aux.views.set 0 (({ tView with copies := [tCopy roleLatest (some 1)] }).setRole 0 roleScan) } }
def w_AuxiliaryOutput_12 : State := tAux ({ tView with copies := [tCopy roleLatest (some 1), tCopy roleScan (some 0)] })
def w_AuxiliaryOutput_12_u : State :=
      { w_AuxiliaryOutput_12 with aux := { w_AuxiliaryOutput_12.aux with views := w_AuxiliaryOutput_12.aux.views.set 0 ((({ tView with copies := [tCopy roleLatest (some 1), tCopy roleScan (some 0)] }).setRole 1 roleFree).setRole 0 roleScan) } }
def w_AuxiliaryOutput_13 : State := tAux ({ tView with copies := [tCopy roleScan (some 7)] })
def w_AuxiliaryOutput_13_u : State :=
      (State.put { w_AuxiliaryOutput_13 with aux := { w_AuxiliaryOutput_13.aux with blank := [] } } auxScanning 1).wrN AUX_FRAME ((match w_AuxiliaryOutput_13.scanCopy with | some c => c.frame.getD 0 | none => 0))
def w_AuxiliaryOutput_14 : State := tPut [(⟨AUX_CFG, 0, 0⟩, 0)] (tOn)
def w_AuxiliaryOutput_15 : State := tPut [(auxScanning, 1)] (tOn)
def w_AuxiliaryOutput_16 : State := tPut [(auxScanning, 0)] (tOn)
def w_AuxiliaryOutput_17 : State := tAux tView
def w_AuxiliaryOutput_17_s1 : State :=
      (w_AuxiliaryOutput_17.lacking (tView.copies.getD 1 Copy.blank) (tView.copies.getD 0 Copy.blank)).foldl (fun (st : State) (q : Nat × Nat) => st.copyHogel 0 0 1 q.1 q.2) w_AuxiliaryOutput_17
theorem test_auxiliary_output_witness_1 :
    (tOn.reaches AUX_CMD) ∧
    (w_AuxiliaryOutput_1.coreOn = true ∧ w_AuxiliaryOutput_1.aux.training = true ∧ w_AuxiliaryOutput_1.on auxHpd = true ∧ trainSteps 4 ([false, false, false,
      true]) ++ trainSteps 2 ([] : List Bool) ++ trainSteps 1 ([] : List Bool) = (0, 4) :: ([] : List (Nat × Nat))) ∧
    (w_AuxiliaryOutput_2.coreOn = true ∧ w_AuxiliaryOutput_2.aux.training = true ∧ (w_AuxiliaryOutput_2.on auxHpd = false ∨
      trainSteps 4 ([] : List Bool) ++ trainSteps 2 ([] : List Bool) ++ trainSteps 1 ([] : List Bool) = [])) ∧
    (w_AuxiliaryOutput_3.coreOn = true ∧ w_AuxiliaryOutput_3.aux.training = false) ∧
    (w_AuxiliaryOutput_5.coreOn = true ∧ w_AuxiliaryOutput_5.on auxHpd = false) ∧
    (w_AuxiliaryOutput_6.coreOn = true ∧ w_AuxiliaryOutput_6.on auxHpd = true) ∧
    (w_AuxiliaryOutput_6.coreOn = true ∧ w_AuxiliaryOutput_6.on auxHpd = true) ∧
    (w_AuxiliaryOutput_8.reaches AUX_CH_CMD ∧ w_AuxiliaryOutput_8.aux.chBusy = none) ∧
    (w_AuxiliaryOutput_9.reaches AUX_CH_CMD ∧ w_AuxiliaryOutput_9.aux.chBusy = some (0, 0)) ∧
    (w_AuxiliaryOutput_9.coreOn = true ∧ w_AuxiliaryOutput_9.aux.chBusy = some (0, 0)) ∧
    (w_AuxiliaryOutput_11.coreOn = true ∧ w_AuxiliaryOutput_11.on ⟨AUX_CFG, 0, 0⟩ = true ∧ w_AuxiliaryOutput_11.on auxHpd = true ∧
      w_AuxiliaryOutput_11.on auxTrained = true ∧ w_AuxiliaryOutput_11.on ⟨AUX_CFG, 1, 1⟩ = false ∧
      w_AuxiliaryOutput_11.aux.views.head? = some ({ tView with copies := [tCopy roleLatest (some 1)] }) ∧
      ({ tView with copies := [tCopy roleLatest (some 1)] }).find roleLatest = some 0 ∧
      ({ tView with copies := [tCopy roleLatest (some 1)] }).find roleScan = none ∧
      0 < (({ tView with copies := [tCopy roleLatest (some 1)] }).copies.getD 0 Copy.blank).key) ∧
    (w_AuxiliaryOutput_12.coreOn = true ∧ w_AuxiliaryOutput_12.on ⟨AUX_CFG, 0, 0⟩ = true ∧ w_AuxiliaryOutput_12.on auxHpd = true ∧
      w_AuxiliaryOutput_12.on auxTrained = true ∧ w_AuxiliaryOutput_12.on ⟨AUX_CFG, 1, 1⟩ = false ∧
      w_AuxiliaryOutput_12.aux.views.head? = some ({ tView with copies := [tCopy roleLatest (some 1), tCopy roleScan (some 0)] }) ∧
      ({ tView with copies := [tCopy roleLatest (some 1), tCopy roleScan (some 0)] }).find roleLatest = some 0 ∧
      ({ tView with copies := [tCopy roleLatest (some 1), tCopy roleScan (some 0)] }).find roleScan = some 1 ∧
      (({ tView with copies := [tCopy roleLatest (some 1), tCopy roleScan (some 0)] }).copies.getD 1 Copy.blank).key < (({ tView with copies := [tCopy roleLatest (some 1), tCopy roleScan (some 0)] }).copies.getD 0 Copy.blank).key) :=
  ⟨by decide +kernel,
   by decide +kernel,
   by decide +kernel,
   by decide +kernel,
   by decide +kernel,
   by decide +kernel,
   by decide +kernel,
   by decide +kernel,
   by decide +kernel,
   by decide +kernel,
   by decide +kernel,
   by decide +kernel⟩
theorem test_auxiliary_output_witness_2 :
    (w_AuxiliaryOutput_13.coreOn = true ∧ w_AuxiliaryOutput_13.on ⟨AUX_CFG, 0, 0⟩ = true ∧ w_AuxiliaryOutput_13.on auxHpd = true ∧
      w_AuxiliaryOutput_13.on auxTrained = true ∧ w_AuxiliaryOutput_13.aux.views.head? = some ({ tView with copies := [tCopy roleScan (some 7)] }) ∧
      ({ tView with copies := [tCopy roleScan (some 7)] }).find roleLatest = none) ∧
    (w_AuxiliaryOutput_14.coreOn = true ∧ (w_AuxiliaryOutput_14.on ⟨AUX_CFG, 0, 0⟩ = false ∨ w_AuxiliaryOutput_14.on auxHpd = false ∨
      w_AuxiliaryOutput_14.on auxTrained = false)) ∧
    (w_AuxiliaryOutput_15.coreOn = true ∧ w_AuxiliaryOutput_15.on auxScanning = true) ∧
    (w_AuxiliaryOutput_16.coreOn = true ∧ w_AuxiliaryOutput_16.on auxScanning = false) ∧
    (w_AuxiliaryOutput_17.coreOn = true ∧ w_AuxiliaryOutput_17.aux.views[0]? = some tView ∧ tView.find roleWork = some 1 ∧
      (tView.copies.getD 1 Copy.blank).done = false ∧ tView.newest = some 0) :=
  ⟨by decide +kernel,
   by decide +kernel,
   by decide +kernel,
   by decide +kernel,
   by decide +kernel⟩
def w_MapAndCorrectionPasses_0 : State := tPut [(CAL_MAP_STATUS_VALID, 1)] ({ tOn with cal := { tOn.cal with pass := none } })
def w_MapAndCorrectionPasses_0_s1 : State :=
      { w_MapAndCorrectionPasses_0 with cal := { w_MapAndCorrectionPasses_0.cal with secTick := some w_MapAndCorrectionPasses_0.evc.tick, due := false } }
def w_MapAndCorrectionPasses_1 : State := { tOn with cal := { tOn.cal with pass := some tPass } }
def w_MapAndCorrectionPasses_2 : State := { tOn with cal := { tOn.cal with pass := none } }
def w_MapAndCorrectionPasses_3 : State := { tOn with tmu := { Tmu.reset with time := 1 } }
def w_MapAndCorrectionPasses_5 : State :=
      ((tPass.left.getD (List.range (w_MapAndCorrectionPasses_1.geomW / 16 * w_MapAndCorrectionPasses_1.geomH))).filter (fun gr => !w_MapAndCorrectionPasses_1.deferred gr)).foldl (State.visitGranule tPass) w_MapAndCorrectionPasses_1
def w_MapAndCorrectionPasses_5_s2 : State := { w_MapAndCorrectionPasses_5 with freeCtr := w_MapAndCorrectionPasses_5.freeCtr + 144 }
def w_MapAndCorrectionPasses_6 : State := tWr [(CMP_SYN_GEOM,
      2 ^ 21 + 32)] { tOn with cal := { Cal.reset with pass := some tPass }, frame := { Frame.reset with carried := [⟨0, 1, 0, 1⟩] } }
def w_MapAndCorrectionPasses_6_s1 : State :=
      ((tPass.left.getD (List.range (w_MapAndCorrectionPasses_6.geomW / 16 * w_MapAndCorrectionPasses_6.geomH))).filter (fun gr => !w_MapAndCorrectionPasses_6.deferred gr)).foldl (State.visitGranule tPass) w_MapAndCorrectionPasses_6
def w_MapAndCorrectionPasses_6_s2 : State := { w_MapAndCorrectionPasses_6_s1 with freeCtr := w_MapAndCorrectionPasses_6_s1.freeCtr + 144 }
def w_MapAndCorrectionPasses_8_0 : State := tPut [(CAL_MAP_STATUS_VALID, 1)] ({ tOn with cal := { tOn.cal with due := true } })
def w_MapAndCorrectionPasses_8_0_s1 : State :=
      (((w_MapAndCorrectionPasses_8_0.wrN CAL_PASS_CNT (w_MapAndCorrectionPasses_8_0.rdN CAL_PASS_CNT + 1)).wrN CAL_PASS_SEC (tPass.second % 2 ^ 32)).wrN CAL_PASS_TIME (w_MapAndCorrectionPasses_8_0.usSince tPass.start % 2 ^ 24)).raise 865 0
def w_MapAndCorrectionPasses_8_0_s2 : State :=
      State.put { w_MapAndCorrectionPasses_8_0_s1 with cal := { w_MapAndCorrectionPasses_8_0_s1.cal with pass := none, heldLevel := none, due := false } } CAL_MAP_STATUS_PASS_ACTIVE 0
def w_MapAndCorrectionPasses_8_1 : State := { tOn with cal := { tOn.cal with due := false } }
def w_MapAndCorrectionPasses_8_1_s1 : State :=
      (((w_MapAndCorrectionPasses_8_1.wrN CAL_PASS_CNT (w_MapAndCorrectionPasses_8_1.rdN CAL_PASS_CNT + 1)).wrN CAL_PASS_SEC (tPass.second % 2 ^ 32)).wrN CAL_PASS_TIME (w_MapAndCorrectionPasses_8_1.usSince tPass.start % 2 ^ 24)).raise 865 0
def w_MapAndCorrectionPasses_8_1_s2 : State :=
      State.put { w_MapAndCorrectionPasses_8_1_s1 with cal := { w_MapAndCorrectionPasses_8_1_s1.cal with pass := none, heldLevel := none, due := false } } CAL_MAP_STATUS_PASS_ACTIVE 0
def w_MapAndCorrectionPasses_9 : State := { tOn with cal := { tOn.cal with applying := true } }
def w_MapAndCorrectionPasses_10 : State := { tOn with cal := { tOn.cal with applying := false } }
def w_MapAndCorrectionPasses_12 : State := tPut [(CAL_MAP_CTRL_FREEZE, 1)] ({ tOn with cal := { tOn.cal with pass := none, applying := false } })
def w_MapAndCorrectionPasses_13 : State := tPut [(CAL_MAP_CTRL_FREEZE, 0)] (tOn)
def w_MapAndCorrectionPasses_15 : State := tPut [(CAL_MAP_STATUS_FROZEN, 1)] (tOn)
def w_MapAndCorrectionPasses_16 : State := tPut [(CAL_MAP_STATUS_FROZEN, 0)] (tOn)
theorem test_map_and_correction_passes_witness_1 :
    (w_MapAndCorrectionPasses_0.coreOn = true ∧ w_MapAndCorrectionPasses_0.secondBegins = some 0 ∧
      w_MapAndCorrectionPasses_0.cal.secTick ≠ some w_MapAndCorrectionPasses_0.evc.tick ∧ w_MapAndCorrectionPasses_0.cal.pass = none ∧
      w_MapAndCorrectionPasses_0.passAllowed = true) ∧
    (w_MapAndCorrectionPasses_1.coreOn = true ∧ w_MapAndCorrectionPasses_1.secondBegins = some 0 ∧
      w_MapAndCorrectionPasses_1.cal.secTick ≠ some w_MapAndCorrectionPasses_1.evc.tick ∧ w_MapAndCorrectionPasses_1.cal.pass = some tPass) ∧
    (w_MapAndCorrectionPasses_2.coreOn = true ∧ w_MapAndCorrectionPasses_2.secondBegins = some 0 ∧
      w_MapAndCorrectionPasses_2.cal.secTick ≠ some w_MapAndCorrectionPasses_2.evc.tick ∧ w_MapAndCorrectionPasses_2.cal.pass = none ∧
      w_MapAndCorrectionPasses_2.passAllowed = false) ∧
    (w_MapAndCorrectionPasses_3.coreOn = true ∧ (w_MapAndCorrectionPasses_3.secondBegins = none ∨
      w_MapAndCorrectionPasses_3.cal.secTick = some w_MapAndCorrectionPasses_3.evc.tick)) ∧
    (w_MapAndCorrectionPasses_1.coreOn = true ∧ w_MapAndCorrectionPasses_1.cal.pass = some tPass ∧
      (tPass.left.getD (List.range (w_MapAndCorrectionPasses_1.geomW / 16 * w_MapAndCorrectionPasses_1.geomH))).filter w_MapAndCorrectionPasses_1.deferred = []) ∧
    (w_MapAndCorrectionPasses_6.coreOn = true ∧ w_MapAndCorrectionPasses_6.cal.pass = some tPass ∧
      (tPass.left.getD (List.range (w_MapAndCorrectionPasses_6.geomW / 16 * w_MapAndCorrectionPasses_6.geomH))).filter w_MapAndCorrectionPasses_6.deferred ≠ []) ∧
    (w_MapAndCorrectionPasses_2.coreOn = true ∧ w_MapAndCorrectionPasses_2.cal.pass = none) ∧
    (w_MapAndCorrectionPasses_8_0.cal.due = true ∧ w_MapAndCorrectionPasses_8_0_s2.passAllowed = true) ∧
    ((w_MapAndCorrectionPasses_8_1.cal.due = false ∨ w_MapAndCorrectionPasses_8_1_s2.passAllowed = false)) ∧
    (w_MapAndCorrectionPasses_9.coreOn = true ∧ w_MapAndCorrectionPasses_9.cal.applying = true) ∧
    (w_MapAndCorrectionPasses_10.coreOn = true ∧ w_MapAndCorrectionPasses_10.cal.applying = false) ∧
    (tOn.reaches CAL_MAP_CTRL) :=
  ⟨by decide +kernel,
   by decide +kernel,
   by decide +kernel,
   by decide +kernel,
   by decide +kernel,
   by decide +kernel,
   by decide +kernel,
   by decide +kernel,
   by decide +kernel,
   by decide +kernel,
   by decide +kernel,
   by decide +kernel⟩
theorem test_map_and_correction_passes_witness_2 :
    (w_MapAndCorrectionPasses_12.coreOn = true ∧ w_MapAndCorrectionPasses_12.on CAL_MAP_CTRL_FREEZE = true ∧ w_MapAndCorrectionPasses_12.cal.pass = none ∧
      w_MapAndCorrectionPasses_12.cal.applying = false ∧ w_MapAndCorrectionPasses_12.corrSettled = true) ∧
    (w_MapAndCorrectionPasses_13.coreOn = true ∧ (w_MapAndCorrectionPasses_13.on CAL_MAP_CTRL_FREEZE = false ∨ w_MapAndCorrectionPasses_13.cal.pass ≠ none ∨
      w_MapAndCorrectionPasses_13.cal.applying = true ∨ w_MapAndCorrectionPasses_13.corrSettled = false)) ∧
    (tOn.reaches CAL_MAP_CTRL) ∧
    (w_MapAndCorrectionPasses_15.reaches CAL_MAP_CTRL ∧ w_MapAndCorrectionPasses_15.on CAL_MAP_STATUS_FROZEN = true) ∧
    (w_MapAndCorrectionPasses_16.reaches CAL_MAP_CTRL ∧ w_MapAndCorrectionPasses_16.on CAL_MAP_STATUS_FROZEN = false) ∧
    (tOn.reaches CAL_MAP_CMD) ∧
    (tOn.reaches CAL_MAP_CMD) :=
  ⟨by decide +kernel,
   by decide +kernel,
   by decide +kernel,
   by decide +kernel,
   by decide +kernel,
   by decide +kernel,
   by decide +kernel⟩
def w_DriveAndCalibrationRuns_0 : State := tOn.wrN (CAL_TILE_TEMP 47) ((0#32).toNat % 256)
def w_DriveAndCalibrationRuns_1 : State := { tOn with cal := { Cal.reset with stampsIn := [47] } }
def w_DriveAndCalibrationRuns_4 : State := { tOn with csu := { tOn.csu with image := none } }
def w_DriveAndCalibrationRuns_5 : State := tPut [(CAL_BRIGHT_CFG_ALS_SRC, 1)] ({ tOn with now := 10 ^ 12, csu := { tOn.csu with image := some tImage } })
def w_DriveAndCalibrationRuns_5_s1 : State :=
      State.wrN { w_DriveAndCalibrationRuns_5 with cal := { w_DriveAndCalibrationRuns_5.cal with i2c := some (w_DriveAndCalibrationRuns_5.bits CAL_ALS_I2C 6 0, w_DriveAndCalibrationRuns_5.bits CAL_ALS_I2C 15 8) } } CAL_ALS_VALUE (256 * (0#8).toNat + (0#8).toNat)
def w_DriveAndCalibrationRuns_6 : State :=
      State.raise { w_DriveAndCalibrationRuns_5 with cal := { w_DriveAndCalibrationRuns_5.cal with i2c := some (w_DriveAndCalibrationRuns_5.bits CAL_ALS_I2C 6 0, w_DriveAndCalibrationRuns_5.bits CAL_ALS_I2C 15 8) } } 871 0
def w_DriveAndCalibrationRuns_7 : State := tPut [(CAL_BRIGHT_CFG_ALS_SRC, 0)] ({ tOn with now := 10 ^ 12, csu := { tOn.csu with image := some tImage } })
def w_DriveAndCalibrationRuns_8 : State := tPut [(CAL_RUN_STATUS_STATE, 0)] (tOn)
def w_DriveAndCalibrationRuns_8_s1 : State :=
      { w_DriveAndCalibrationRuns_8 with cal := { w_DriveAndCalibrationRuns_8.cal with runStep := 0, rejected := false, retraining := none, runAgain := false } }
def w_DriveAndCalibrationRuns_9 : State := tPut [(CAL_RUN_STATUS_STATE, 1)] (tOn)
def w_DriveAndCalibrationRuns_10 : State := tPut [(CAL_RUN_STATUS_STATE, 1)] ({ tOn with cal := { tOn.cal with retraining := none, runStep := 0 } })
def w_DriveAndCalibrationRuns_11 : State := { tOn with cal := { tOn.cal with retraining := some 0 } }
def w_DriveAndCalibrationRuns_12 : State := { tOn with cal := { tOn.cal with retraining := some 63 } }
def w_DriveAndCalibrationRuns_12_s1 : State := { w_DriveAndCalibrationRuns_12 with cal := { w_DriveAndCalibrationRuns_12.cal with rejected := true } }
def w_DriveAndCalibrationRuns_14 : State := tPut [(CAL_RUN_STATUS_STATE, 2)] (tOn)
def w_DriveAndCalibrationRuns_14_s1 : State :=
      ((((w_DriveAndCalibrationRuns_14.acceptRun).put CAL_RUN_STATUS_STATE 0).put CAL_RUN_STATUS_TEMP (w_DriveAndCalibrationRuns_14.get PWR_KETTLE_STATUS_TMAX)).putB CAL_RUN_STATUS_LAST_REJECT w_DriveAndCalibrationRuns_14.cal.rejected).raise 872 0
theorem test_drive_and_calibration_runs_witness_1 :
    (tOn.reaches (CAL_TILE_TEMP 47) ∧ 47 < 48) ∧
    (47 ∈ w_DriveAndCalibrationRuns_1.cal.stampsIn ∧ 47 < w_DriveAndCalibrationRuns_1.cal.stamps.length) ∧
    (w_TileStatusRecords_0.coreOn = true ∧ 0 < w_TileStatusRecords_0.tiles.length ∧
      w_TileStatusRecords_0.tempStale 0 (w_TileStatusRecords_0.now + w_TileStatusRecords_0.tickHalfNs) = true ∧ 0 ∉ w_TileStatusRecords_0.cal.stampsIn) ∧
    (tOn.coreOn = true ∧ (tOn.tiles.length ≤ 0 ∨ tOn.tempStale 0 (tOn.now + tOn.tickHalfNs) = false ∨ 0 ∈ tOn.cal.stampsIn)) ∧
    (w_DriveAndCalibrationRuns_4.coreOn = true ∧ (w_DriveAndCalibrationRuns_4.csu.image = none ∨
      w_DriveAndCalibrationRuns_4.now + w_DriveAndCalibrationRuns_4.tickHalfNs ≤ w_DriveAndCalibrationRuns_4.cal.alsAt + 200000000)) ∧
    (w_DriveAndCalibrationRuns_5.coreOn = true ∧ w_DriveAndCalibrationRuns_5.csu.image ≠ none ∧
      w_DriveAndCalibrationRuns_5.cal.alsAt + 200000000 < w_DriveAndCalibrationRuns_5.now + w_DriveAndCalibrationRuns_5.tickHalfNs ∧
      w_DriveAndCalibrationRuns_5.on CAL_BRIGHT_CFG_ALS_SRC = true) ∧
    (w_DriveAndCalibrationRuns_5.coreOn = true ∧ w_DriveAndCalibrationRuns_5.csu.image ≠ none ∧
      w_DriveAndCalibrationRuns_5.cal.alsAt + 200000000 < w_DriveAndCalibrationRuns_5.now + w_DriveAndCalibrationRuns_5.tickHalfNs ∧
      w_DriveAndCalibrationRuns_5.on CAL_BRIGHT_CFG_ALS_SRC = true) ∧
    (w_DriveAndCalibrationRuns_7.coreOn = true ∧ w_DriveAndCalibrationRuns_7.csu.image ≠ none ∧
      w_DriveAndCalibrationRuns_7.cal.alsAt + 200000000 < w_DriveAndCalibrationRuns_7.now + w_DriveAndCalibrationRuns_7.tickHalfNs ∧
      w_DriveAndCalibrationRuns_7.on CAL_BRIGHT_CFG_ALS_SRC = false) ∧
    (w_DriveAndCalibrationRuns_8.reaches CAL_CMD ∧ w_DriveAndCalibrationRuns_8.get CAL_RUN_STATUS_STATE = 0 ∧ w_DriveAndCalibrationRuns_8.pwrState ≤ 1) ∧
    (w_DriveAndCalibrationRuns_9.reaches CAL_CMD ∧ (w_DriveAndCalibrationRuns_9.get CAL_RUN_STATUS_STATE ≠ 0 ∨ 1 < w_DriveAndCalibrationRuns_9.pwrState)) ∧
    (w_DriveAndCalibrationRuns_10.coreOn = true ∧ w_DriveAndCalibrationRuns_10.get CAL_RUN_STATUS_STATE = 1 ∧
      w_DriveAndCalibrationRuns_10.cal.retraining = none ∧ w_DriveAndCalibrationRuns_10.nextPc = some 0 ∧ (w_DriveAndCalibrationRuns_10.cal.runStep = 0 ∨
      w_DriveAndCalibrationRuns_10.cal.retrainAt + 200000 < w_DriveAndCalibrationRuns_10.now + w_DriveAndCalibrationRuns_10.tickHalfNs)) ∧
    (w_DriveAndCalibrationRuns_11.coreOn = true ∧ w_DriveAndCalibrationRuns_11.cal.retraining = some 0 ∧ ((∀ i : Nat, i < 8 →
      ((((List.range 8).map (fun i => match ([] : List Window).getD i none with | some w => windowCentre (some w) | none => (w_DriveAndCalibrationRuns_11.hbm.delays.getD 0 []).getD i 0)).getD i 0 : Int) - ((w_DriveAndCalibrationRuns_11.hbm.delays.getD 0 []).getD i 0 : Int)).natAbs ≤ byteAt w_DriveAndCalibrationRuns_11.panelSec 0x4A))) :=
  ⟨by decide +kernel,
   by decide +kernel,
   by decide +kernel,
   by decide +kernel,
   by decide +kernel,
   by decide +kernel,
   by decide +kernel,
   by decide +kernel,
   by decide +kernel,
   by decide +kernel,
   by decide +kernel,
   by decide +kernel⟩
theorem test_drive_and_calibration_runs_witness_2 :
    (w_DriveAndCalibrationRuns_12.coreOn = true ∧ w_DriveAndCalibrationRuns_12.cal.retraining = some 63 ∧ 7 < 8 ∧
      byteAt w_DriveAndCalibrationRuns_12.panelSec 0x4A < ((((List.range 8).map (fun i' => match (List.replicate 8 (some (10,
      20))).getD i' none with | some w => windowCentre (some w) | none => (w_DriveAndCalibrationRuns_12.hbm.delays.getD 63 []).getD i' 0)).getD 7 0 : Int) - ((w_DriveAndCalibrationRuns_12.hbm.delays.getD 63 []).getD 7 0 : Int)).natAbs) ∧
    (w_DriveAndCalibrationRuns_14.coreOn = true ∧ w_DriveAndCalibrationRuns_14.get CAL_RUN_STATUS_STATE = 2 ∧ w_DriveAndCalibrationRuns_14.nextGroup = none ∧
      ((∀ g : Nat, g < 6 → (w_DriveAndCalibrationRuns_14.group g).adapting = false))) ∧
    (w_DriveAndCalibrationRuns_8.coreOn = true ∧ (w_DriveAndCalibrationRuns_8.get CAL_RUN_STATUS_STATE ≠ 2 ∨ w_DriveAndCalibrationRuns_8.nextGroup ≠ none ∨
      (∃ g : Nat, g < 6 ∧ (w_DriveAndCalibrationRuns_8.group g).adapting = true))) :=
  ⟨by decide +kernel,
   by decide +kernel,
   by decide +kernel⟩
def w_DecoderCommands_0 : State := tPut [((VDEC_CTX_CFG_SRC 63), 0)] (tOn)
def w_DecoderCommands_1 : State := tPut [((VDEC_CTX_CFG_SRC 63), 1)] (tOn)
def w_DecoderCommands_2 : State := tPut [((VDEC_CTX_CFG_EN 63), 0)] (tWr [(MEM_REGION 2, 2 ^ 16), (VDEC_CTX_RING_CFG 63, 1)] (tOn))
def w_DecoderCommands_2_s1 : State := w_DecoderCommands_2.decCfgFields 63 (0#32)
def w_DecoderCommands_3 : State := tPut [(VDEC_CTX_CFG_EN 63, 0)] (tWr [(MEM_REGION 2, 2 ^ 16), (VDEC_CTX_RING_CFG 63, 1)] (tDecoding decWait))
def w_DecoderCommands_3_s1 : State := w_DecoderCommands_3.decCfgFields 63 (0#32)
def w_DecoderCommands_4 : State := tPut [((VDEC_CTX_CFG_EN 63), 0)] (tOn)
def w_DecoderCommands_4_s1 : State := w_DecoderCommands_4.decCfgFields 63 (0#32)
def w_DecoderCommands_5 : State := tPut [((VDEC_CTX_CFG_EN 63), 1)] (tOn)
def w_DecoderCommands_6 : State := w_DecoderCommands_5.decCfgFields 63 (0#32)
def w_DecoderCommands_7 : State := tDecoding decWait
def w_DecoderCommands_7_s1 : State := w_DecoderCommands_7.decCfgFields 63 (0#32)
def w_DecoderCommands_9 : State := tPut [(VDEC_CTX_STATUS_STATE 63, 3)] (tOn)
def w_DecoderCommands_10 : State := tDecoding 2
def w_DecoderCommands_14_0 : State := { tOn with codec := { Codec.reset with dec := List.replicate 64 { DecCtx.reset with flushAsked := true } } }
def w_DecoderCommands_14_0_s1 : State := w_DecoderCommands_14_0.setDec 63 (fun e => { e with flushAsked := false, resetAsked := false, offAsked := false })
def w_DecoderCommands_14_1 : State := { tOn with codec := { Codec.reset with dec := List.replicate 64 { DecCtx.reset with resetAsked := true } } }
def w_DecoderCommands_14_1_s1 : State := w_DecoderCommands_14_1.setDec 63 (fun e => { e with flushAsked := false, resetAsked := false, offAsked := false })
def w_DecoderCommands_14_2 : State := { tOn with codec := { Codec.reset with dec := List.replicate 64 { DecCtx.reset with offAsked := true } } }
def w_DecoderCommands_14_2_s1 : State := w_DecoderCommands_14_2.setDec 63 (fun e => { e with flushAsked := false, resetAsked := false, offAsked := false })
def w_DecoderCommands_14_3 : State := tOn.setDec 0 (fun e => { e with flushAsked := false, resetAsked := false, offAsked := false })
def w_DecoderCommands_15 : State := tWr [(VDEC_CTRL, 1), (PWR_STATE, 1), (VDEC_POOL_PAGES, 64), (VDEC_CTX_RING_CFG 63,
      2 * 2 ^ 16 + 1)] (tPut [(VDEC_CTX_CFG_EN 63, 1), (VDEC_CTX_CFG_CORE 63, 3), (VDEC_CTX_STATUS_STATE 63,
      decWait)] { tOn with mem := [(0, 64), (4, 1)], codec := { Codec.reset with dec := List.replicate 63 DecCtx.reset ++ [{ DecCtx.reset with seen := 1 }] } })
def w_DecoderCommands_16 : State := tPut [(⟨VDEC_CTRL, 0, 0⟩, 1), (⟨PWR_STATE, 2, 0⟩, 1)] (tOn)
def w_DecoderCommands_18 : State := w_DecoderCommands_7.freeCore 3 tDecJob
def w_DecoderCommands_19 : State := tWr [(VDEC_CTX_MAXSIZE 63, 2 ^ 16 * 4096 + 4096), (VDEC_CTX_REF_PAGES 63, 65535)] (tDecoding decWait)
def w_DecoderCommands_19_s1 : State := w_DecoderCommands_19.freeCore 3 tDecJob
theorem test_decoder_commands_witness_1 :
    (w_DecoderCommands_0.reaches (VDEC_CTX_PUT 63) ∧ 63 < 64 ∧ w_DecoderCommands_0.on (VDEC_CTX_CFG_SRC 63) = false) ∧
    (w_DecoderCommands_1.reaches (VDEC_CTX_PUT 63) ∧ 63 < 64 ∧ w_DecoderCommands_1.on (VDEC_CTX_CFG_SRC 63) = true) ∧
    (w_DecoderCommands_2.reaches (VDEC_CTX_CFG 63) ∧ 63 < 64 ∧ w_DecoderCommands_2.on (VDEC_CTX_CFG_EN 63) = false ∧
      w_DecoderCommands_2_s1.decEnableOk 63 = true ∧ w_DecoderCommands_2.decCore 63 = none) ∧
    (w_DecoderCommands_3.reaches (VDEC_CTX_CFG 63) ∧ 63 < 64 ∧ w_DecoderCommands_3.on (VDEC_CTX_CFG_EN 63) = false ∧
      w_DecoderCommands_3_s1.decEnableOk 63 = true ∧ w_DecoderCommands_3.decCore 63 = some 3) ∧
    (w_DecoderCommands_4.reaches (VDEC_CTX_CFG 63) ∧ 63 < 64 ∧ w_DecoderCommands_4.on (VDEC_CTX_CFG_EN 63) = false ∧
      w_DecoderCommands_4_s1.decEnableOk 63 = false) ∧
    (w_DecoderCommands_5.reaches (VDEC_CTX_CFG 63) ∧ 63 < 64 ∧ w_DecoderCommands_5.on (VDEC_CTX_CFG_EN 63) = true) ∧
    (w_DecoderCommands_5.reaches (VDEC_CTX_CFG 63) ∧ 63 < 64 ∧ w_DecoderCommands_5.on (VDEC_CTX_CFG_EN 63) = true ∧ w_DecoderCommands_5.decCore 63 = none) ∧
    (w_DecoderCommands_7.reaches (VDEC_CTX_CFG 63) ∧ 63 < 64 ∧ w_DecoderCommands_7.on (VDEC_CTX_CFG_EN 63) = true ∧ w_DecoderCommands_7.decCore 63 = some 3) ∧
    (w_DecoderCommands_4.reaches (VDEC_CTX_CFG 63) ∧ 63 < 64 ∧ w_DecoderCommands_4.on (VDEC_CTX_CFG_EN 63) = false) ∧
    (w_DecoderCommands_9.reaches (VDEC_CTX_CMD 63) ∧ 63 < 64 ∧ w_DecoderCommands_9.decState 63 ≠ decOff ∧ w_DecoderCommands_9.decCore 63 = none) ∧
    (w_DecoderCommands_10.reaches (VDEC_CTX_CMD 63) ∧ 63 < 64 ∧ w_DecoderCommands_10.decState 63 ≠ decOff ∧ w_DecoderCommands_10.decCore 63 = some 3) ∧
    (w_DecoderCommands_9.reaches (VDEC_CTX_CMD 63) ∧ 63 < 64 ∧ w_DecoderCommands_9.decState 63 ≠ decOff ∧ w_DecoderCommands_9.decCore 63 = none) :=
  ⟨by decide +kernel,
   by decide +kernel,
   by decide +kernel,
   by decide +kernel,
   by decide +kernel,
   by decide +kernel,
   by decide +kernel,
   by decide +kernel,
   by decide +kernel,
   by decide +kernel,
   by decide +kernel,
   by decide +kernel⟩
theorem test_decoder_commands_witness_2 :
    (w_DecoderCommands_10.reaches (VDEC_CTX_CMD 63) ∧ 63 < 64 ∧ w_DecoderCommands_10.decState 63 ≠ decOff ∧ w_DecoderCommands_10.decCore 63 = some 3) ∧
    (tOn.reaches (VDEC_CTX_CMD 63) ∧ 63 < 64 ∧ tOn.decState 63 = decOff) ∧
    ((w_DecoderCommands_14_0.dec 63).flushAsked = true ∧ (w_DecoderCommands_14_0.dec 63).resetAsked = false ∧
      (w_DecoderCommands_14_0.dec 63).offAsked = false) ∧
    ((w_DecoderCommands_14_1.dec 63).flushAsked = false ∧ (w_DecoderCommands_14_1.dec 63).resetAsked = true ∧
      (w_DecoderCommands_14_1.dec 63).offAsked = false) ∧
    ((w_DecoderCommands_14_2.dec 63).flushAsked = false ∧ (w_DecoderCommands_14_2.dec 63).resetAsked = false ∧
      (w_DecoderCommands_14_2.dec 63).offAsked = true) ∧
    ((tOn.dec 0).flushAsked = false ∧ (tOn.dec 0).resetAsked = false ∧ (tOn.dec 0).offAsked = false) ∧
    (w_DecoderCommands_15.coreOn = true ∧ 3 < 4 ∧ w_DecoderCommands_15.bits VDEC_CTRL 0 0 = 1 ∧ w_DecoderCommands_15.pwrState = 1 ∧
      w_DecoderCommands_15.codec.cores.getD 3 none = none ∧ (w_DecoderCommands_15.decReady ([] : List PicInfo)).decPick ([] : List PicInfo) 3 = some 63) ∧
    (w_DecoderCommands_16.coreOn = true ∧ 3 < 4 ∧ w_DecoderCommands_16.bits VDEC_CTRL 0 0 = 1 ∧ w_DecoderCommands_16.pwrState = 1 ∧
      w_DecoderCommands_16.codec.cores.getD 3 none = none ∧ (w_DecoderCommands_16.decReady ([] : List PicInfo)).decPick ([] : List PicInfo) 3 = none) ∧
    (tOn.coreOn = true ∧ (4 ≤ 0 ∨ tOn.bits VDEC_CTRL 0 0 = 0 ∨ tOn.pwrState ≠ 1 ∨ tOn.codec.cores.getD 0 none ≠ none)) ∧
    (w_DecoderCommands_7.coreOn = true ∧ w_DecoderCommands_7.codec.cores.getD 3 none = some tDecJob ∧
      w_DecoderCommands_18.streamRefusal tDecJob.ctx (tDec true true) ≠ 0) ∧
    (w_DecoderCommands_19.coreOn = true ∧ w_DecoderCommands_19.codec.cores.getD 3 none = some tDecJob ∧
      w_DecoderCommands_19_s1.streamRefusal tDecJob.ctx (tDec false false) = 0 ∧ w_DecoderCommands_19_s1.decState tDecJob.ctx = decWait ∧
      (tDec false false).key = false) ∧
    (w_DecoderCommands_19.coreOn = true ∧ w_DecoderCommands_19.codec.cores.getD 3 none = some tDecJob ∧
      w_DecoderCommands_19_s1.streamRefusal tDecJob.ctx (tDec true false) = 0 ∧ (w_DecoderCommands_19_s1.decState tDecJob.ctx ≠ decWait ∨
      (tDec true false).key = true)) :=
  ⟨by decide +kernel,
   by decide +kernel,
   by decide +kernel,
   by decide +kernel,
   by decide +kernel,
   by decide +kernel,
   by decide +kernel,
   by decide +kernel,
   by decide +kernel,
   by decide +kernel,
   by decide +kernel,
   by decide +kernel⟩
theorem test_decoder_commands_witness_3 :
    (tOn.coreOn = true ∧ tOn.codec.cores.getD 0 none = none) :=
  by decide +kernel
def w_EncoderCommands_0 : State := tWr [(MEM_REGION 0, 2 ^ 16), (MEM_REGION 2, 2 ^ 16), (VENC_CTX_SIZE 15, 2 ^ 16 * 144 + 256), (VENC_CTX_CROP_WH 15,
      2 ^ 16 * 144 + 256), (VENC_CTX_PERIOD_NS 15, 10000000), (VENC_CTX_OUT_CFG 15, 2 ^ 16 + 16), (VENC_CTX_REF_BASE 15, 16), (VENC_CTX_REF_PAGES 15, 256)] tOn
def w_EncoderCommands_0_s1 : State := w_EncoderCommands_0.encCfgFields 15 (0#32)
def w_EncoderCommands_0_s2 : State := ((w_EncoderCommands_0_s1.put (VENC_CTX_CFG_EN 15) 1).encErr 15 0).put ⟨VENC_CTX_STATUS 15, 0, 0⟩ 1
def w_EncoderCommands_1 : State := tPut [((VENC_CTX_CFG_EN 15), 0)] (tOn)
def w_EncoderCommands_1_s1 : State := w_EncoderCommands_1.encCfgFields 15 (0#32)
def w_EncoderCommands_2 : State := tPut [((VENC_CTX_CFG_EN 15), 1)] (tOn)
def w_EncoderCommands_4_0 : State := tWr [(VENC_CTRL, 1), (PWR_STATE, 1), (VENC_CTX_PERIOD_NS 15, 10000000)] (tPut [(VENC_CTX_CFG_EN 15, 1)] tOn)
def w_EncoderCommands_4_0_s0 : State := w_EncoderCommands_4_0.setEnc 15 (fun x => { x with lastAt := some w_EncoderCommands_4_0.evc.tick })
def w_EncoderCommands_4_1 : State := tWr [(VENC_CTRL, 1), (PWR_STATE, 1), (VENC_CTX_PERIOD_NS 15, 10000000)] (tPut [(VENC_CTX_CFG_EN 15,
      1)] { tOn with codec := { Codec.reset with enc := List.replicate 16 { EncCtx.reset with coded := 1 } } })
def w_EncoderCommands_4_1_s0 : State := w_EncoderCommands_4_1.setEnc 15 (fun x => { x with lastAt := some w_EncoderCommands_4_1.evc.tick })
def w_EncoderCommands_4_2 : State := tWr [(VENC_CTRL, 1), (PWR_STATE, 1), (VENC_CTX_PERIOD_NS 15, 10000000), (VENC_CTX_OUT_CFG 15,
      2 ^ 17 + 1)] (tPut [(VENC_CTX_CFG_EN 15, 1)] { tOn with codec := { Codec.reset with enc := List.replicate 16 { EncCtx.reset with coded := 1 } } })
def w_EncoderCommands_4_2_s0 : State := w_EncoderCommands_4_2.setEnc 15 (fun x => { x with lastAt := some w_EncoderCommands_4_2.evc.tick })
def w_EncoderCommands_5_0 : State := tWr [(VENC_CTRL, 1), (PWR_STATE, 1), (VENC_CTX_PERIOD_NS 15, 10000000), (VENC_CTX_IN_CFG 15,
      1)] (tPut [(VENC_CTX_CFG_EN 15, 1)] { tOn with codec := { Codec.reset with enc := List.replicate 16 { EncCtx.reset with seen := 1 } } })
def w_EncoderCommands_5_0_s0 : State := w_EncoderCommands_5_0.setEnc 15 (fun x => { x with lastAt := some w_EncoderCommands_5_0.evc.tick })
def w_EncoderCommands_5_1 : State := tWr [(VENC_CTRL, 1), (PWR_STATE, 1), (VENC_CTX_PERIOD_NS 15, 10000000), (VENC_CTX_OUT_CFG 15, 2 ^ 17 + 1),
      (VENC_CTX_IN_CFG 15, 1), (VENC_CTX_SIZE 15, 64 * 2 ^ 16 + 64)] (tPut [(VENC_CTX_CFG_EN 15,
      1)] { tOn with codec := { Codec.reset with enc := List.replicate 16 { EncCtx.reset with seen := 1 } }, mem := [(12, 64), (14, 64)] })
def w_EncoderCommands_5_1_s0 : State := w_EncoderCommands_5_1.setEnc 15 (fun x => { x with lastAt := some w_EncoderCommands_5_1.evc.tick })
def w_EncoderCommands_5_2 : State := tWr [(VENC_CTRL, 1), (PWR_STATE, 1), (VENC_CTX_PERIOD_NS 15, 10000000), (VENC_CTX_OUT_CFG 15, 2 ^ 17 + 1),
      (VENC_CTX_IN_CFG 15, 1)] (tPut [(VENC_CTX_CFG_EN 15,
      1)] { tOn with codec := { Codec.reset with enc := List.replicate 16 { EncCtx.reset with seen := 1 } } })
def w_EncoderCommands_5_2_s0 : State := w_EncoderCommands_5_2.setEnc 15 (fun x => { x with lastAt := some w_EncoderCommands_5_2.evc.tick })
def w_EncoderCommands_7 : State := tEncoding (tWr [(VENC_CTX_OUT_CFG 15, 2 ^ 17 + 1)])
def w_EncoderCommands_7_s1 : State := w_EncoderCommands_7.freeEncCore 1
def w_EncoderCommands_8 : State := tEncoding id
def w_EncoderCommands_8_s1 : State := w_EncoderCommands_8.freeEncCore 1
theorem test_encoder_commands_witness_1 :
    (w_EncoderCommands_0.reaches (VENC_CTX_CFG 15) ∧ 15 < 16 ∧ w_EncoderCommands_0.on (VENC_CTX_CFG_EN 15) = false ∧
      w_EncoderCommands_0_s1.encEnableCode 15 = 0) ∧
    (w_EncoderCommands_1.reaches (VENC_CTX_CFG 15) ∧ 15 < 16 ∧ w_EncoderCommands_1.on (VENC_CTX_CFG_EN 15) = false ∧
      w_EncoderCommands_1_s1.encEnableCode 15 ≠ 0) ∧
    (w_EncoderCommands_2.reaches (VENC_CTX_CFG 15) ∧ 15 < 16 ∧ w_EncoderCommands_2.on (VENC_CTX_CFG_EN 15) = true) ∧
    (tOn.reaches (VENC_CTX_IN_PUT 15) ∧ 15 < 16) ∧
    (w_EncoderCommands_4_0.coreOn = true ∧ 15 < 16 ∧ w_EncoderCommands_4_0.bits VENC_CTRL 0 0 = 1 ∧ w_EncoderCommands_4_0.on (VENC_CTX_CFG_EN 15) = true ∧
      w_EncoderCommands_4_0.pwrState = 1 ∧ (w_EncoderCommands_4_0.enc 15).lastAt ≠ some w_EncoderCommands_4_0.evc.tick ∧
      w_EncoderCommands_4_0.instantNow 15 = some 0 ∧ ((w_EncoderCommands_4_0_s0.bits (VENC_CTX_IN_CFG 15) 11 0) = 0 ∨
      w_EncoderCommands_4_0_s0.bits (VENC_CTX_IN_GET 15) 11 0 = ((w_EncoderCommands_4_0_s0.enc 15).seen)) ∧ (w_EncoderCommands_4_0_s0.enc 15).coded = 0 ∧
      w_EncoderCommands_4_0_s0.encBacklog 15 = 0) ∧
    (w_EncoderCommands_4_1.coreOn = true ∧ 15 < 16 ∧ w_EncoderCommands_4_1.bits VENC_CTRL 0 0 = 1 ∧ w_EncoderCommands_4_1.on (VENC_CTX_CFG_EN 15) = true ∧
      w_EncoderCommands_4_1.pwrState = 1 ∧ (w_EncoderCommands_4_1.enc 15).lastAt ≠ some w_EncoderCommands_4_1.evc.tick ∧
      w_EncoderCommands_4_1.instantNow 15 = some 0 ∧ ((w_EncoderCommands_4_1_s0.bits (VENC_CTX_IN_CFG 15) 11 0) = 0 ∨
      w_EncoderCommands_4_1_s0.bits (VENC_CTX_IN_GET 15) 11 0 = ((w_EncoderCommands_4_1_s0.enc 15).seen)) ∧ ((w_EncoderCommands_4_1_s0.enc 15).coded ≠ 0 ∨
      w_EncoderCommands_4_1_s0.encBacklog 15 ≠ 0) ∧ w_EncoderCommands_4_1_s0.encNoSpace 15 = true) ∧
    (w_EncoderCommands_4_2.coreOn = true ∧ 15 < 16 ∧ w_EncoderCommands_4_2.bits VENC_CTRL 0 0 = 1 ∧ w_EncoderCommands_4_2.on (VENC_CTX_CFG_EN 15) = true ∧
      w_EncoderCommands_4_2.pwrState = 1 ∧ (w_EncoderCommands_4_2.enc 15).lastAt ≠ some w_EncoderCommands_4_2.evc.tick ∧
      w_EncoderCommands_4_2.instantNow 15 = some 0 ∧ ((w_EncoderCommands_4_2_s0.bits (VENC_CTX_IN_CFG 15) 11 0) = 0 ∨
      w_EncoderCommands_4_2_s0.bits (VENC_CTX_IN_GET 15) 11 0 = ((w_EncoderCommands_4_2_s0.enc 15).seen)) ∧ ((w_EncoderCommands_4_2_s0.enc 15).coded ≠ 0 ∨
      w_EncoderCommands_4_2_s0.encBacklog 15 ≠ 0) ∧ w_EncoderCommands_4_2_s0.encNoSpace 15 = false) ∧
    (w_EncoderCommands_5_0.coreOn = true ∧ 15 < 16 ∧ w_EncoderCommands_5_0.bits VENC_CTRL 0 0 = 1 ∧ w_EncoderCommands_5_0.on (VENC_CTX_CFG_EN 15) = true ∧
      w_EncoderCommands_5_0.pwrState = 1 ∧ (w_EncoderCommands_5_0.enc 15).lastAt ≠ some w_EncoderCommands_5_0.evc.tick ∧
      w_EncoderCommands_5_0.instantNow 15 = some 0 ∧ (w_EncoderCommands_5_0_s0.bits (VENC_CTX_IN_CFG 15) 11 0) ≠ 0 ∧
      w_EncoderCommands_5_0_s0.bits (VENC_CTX_IN_GET 15) 11 0 ≠ ((w_EncoderCommands_5_0_s0.enc 15).seen) ∧ w_EncoderCommands_5_0_s0.encNoSpace 15 = true) ∧
    (w_EncoderCommands_5_1.coreOn = true ∧ 15 < 16 ∧ w_EncoderCommands_5_1.bits VENC_CTRL 0 0 = 1 ∧ w_EncoderCommands_5_1.on (VENC_CTX_CFG_EN 15) = true ∧
      w_EncoderCommands_5_1.pwrState = 1 ∧ (w_EncoderCommands_5_1.enc 15).lastAt ≠ some w_EncoderCommands_5_1.evc.tick ∧
      w_EncoderCommands_5_1.instantNow 15 = some 0 ∧ (w_EncoderCommands_5_1_s0.bits (VENC_CTX_IN_CFG 15) 11 0) ≠ 0 ∧
      w_EncoderCommands_5_1_s0.bits (VENC_CTX_IN_GET 15) 11 0 ≠ ((w_EncoderCommands_5_1_s0.enc 15).seen) ∧ w_EncoderCommands_5_1_s0.encNoSpace 15 = false ∧
      w_EncoderCommands_5_1_s0.encInputCode 15 (w_EncoderCommands_5_1_s0.encInput 15 ((((w_EncoderCommands_5_1_s0.enc 15).seen) + (w_EncoderCommands_5_1_s0.bits (VENC_CTX_IN_CFG 15) 11 0) - 1) % (w_EncoderCommands_5_1_s0.bits (VENC_CTX_IN_CFG 15) 11 0))) = 0) ∧
    (w_EncoderCommands_5_2.coreOn = true ∧ 15 < 16 ∧ w_EncoderCommands_5_2.bits VENC_CTRL 0 0 = 1 ∧ w_EncoderCommands_5_2.on (VENC_CTX_CFG_EN 15) = true ∧
      w_EncoderCommands_5_2.pwrState = 1 ∧ (w_EncoderCommands_5_2.enc 15).lastAt ≠ some w_EncoderCommands_5_2.evc.tick ∧
      w_EncoderCommands_5_2.instantNow 15 = some 0 ∧ (w_EncoderCommands_5_2_s0.bits (VENC_CTX_IN_CFG 15) 11 0) ≠ 0 ∧
      w_EncoderCommands_5_2_s0.bits (VENC_CTX_IN_GET 15) 11 0 ≠ ((w_EncoderCommands_5_2_s0.enc 15).seen) ∧ w_EncoderCommands_5_2_s0.encNoSpace 15 = false ∧
      w_EncoderCommands_5_2_s0.encInputCode 15 (w_EncoderCommands_5_2_s0.encInput 15 ((((w_EncoderCommands_5_2_s0.enc 15).seen) + (w_EncoderCommands_5_2_s0.bits (VENC_CTX_IN_CFG 15) 11 0) - 1) % (w_EncoderCommands_5_2_s0.bits (VENC_CTX_IN_CFG 15) 11 0))) ≠ 0) ∧
    (tOn.coreOn = true ∧ (16 ≤ 15 ∨ tOn.bits VENC_CTRL 0 0 = 0 ∨ tOn.on (VENC_CTX_CFG_EN 15) = false ∨ tOn.pwrState ≠ 1 ∨
      (tOn.enc 15).lastAt = some tOn.evc.tick ∨ tOn.instantNow 15 = none)) ∧
    (w_EncoderCommands_7.coreOn = true ∧ w_EncoderCommands_7.codec.coresE.getD 1 none = some tEncJob ∧
      w_EncoderCommands_7_s1.encPlace tEncJob.ctx (padTo (ceilDiv (w_EncoderCommands_7.encRun tEncJob (tEnc [1])).bits 8) ((tEnc [1]).au.take (ceilDiv (w_EncoderCommands_7.encRun tEncJob (tEnc [1])).bits 8)) ++ (fillerNal (w_EncoderCommands_7.encFiller tEncJob (w_EncoderCommands_7.encRun tEncJob (tEnc [1])).bits))).length = some 64) :=
  ⟨by decide +kernel,
   by decide +kernel,
   by decide +kernel,
   by decide +kernel,
   by decide +kernel,
   by decide +kernel,
   by decide +kernel,
   by decide +kernel,
   by decide +kernel,
   by decide +kernel,
   by decide +kernel,
   by decide +kernel⟩
theorem test_encoder_commands_witness_2 :
    (w_EncoderCommands_8.coreOn = true ∧ w_EncoderCommands_8.codec.coresE.getD 1 none = some tEncJob ∧
      w_EncoderCommands_8_s1.encPlace tEncJob.ctx (padTo (ceilDiv (w_EncoderCommands_8.encRun tEncJob (tEnc [])).bits 8) ((tEnc []).au.take (ceilDiv (w_EncoderCommands_8.encRun tEncJob (tEnc [])).bits 8)) ++ (fillerNal (w_EncoderCommands_8.encFiller tEncJob (w_EncoderCommands_8.encRun tEncJob (tEnc [])).bits))).length = none) ∧
    (tOn.coreOn = true ∧ tOn.codec.coresE.getD 0 none = none) :=
  ⟨by decide +kernel,
   by decide +kernel⟩
def w_FramesOnThePorts_0 : State := tPort tOn
def w_FramesOnThePorts_2 : State := tWr [(PWR_STATE, 3)] (tPort tOn)
def w_FramesOnThePorts_4 : State := { tOn with net := { Net.reset with held := [[], [tIn]] } }
def w_FramesOnThePorts_4_s1 : State :=
      { w_FramesOnThePorts_4 with net := { w_FramesOnThePorts_4.net with held := w_FramesOnThePorts_4.net.held.modify 1 (fun l => l.eraseIdx 0), drainTurn := 1 - 1 } }
def w_FramesOnThePorts_6 : State := tQueued.settlePort 1 (tQueued.boundary 1)
def w_FramesOnThePorts_8 : State := (tWr [(NET_Q_DELAY_MAX 127, 1)] { tQueued with now := 10 ^ 10 }).keepWas
def w_FramesOnThePorts_9 : State := { tQueued with now := 10 ^ 10 }
def w_FramesOnThePorts_11 : State := { tOn with net := { tOn.net with refilled := some tOn.evc.tick } }
def w_FramesOnThePorts_12 : State := tPut [(NET_CTRL_EN, 1), (NET_CTRL_PRP_EN, 1)] ({ tOn with now := 10 ^ 12 })
def w_FramesOnThePorts_12_s1 : State :=
      { w_FramesOnThePorts_12 with net := { w_FramesOnThePorts_12.net with supAt := w_FramesOnThePorts_12.now, supSeq := (w_FramesOnThePorts_12.net.supSeq + 1) % 65536 } }
def w_FramesOnThePorts_13 : State := tPut [(NET_CTRL_EN, 0)] (tOn)
def w_FramesOnThePorts_14 : State := tWr [(NET_PRP_CFG, 2 ^ 16 + 1)] { tOn with now := 10 ^ 10, net := { Net.reset with nodes := [tNode (10 ^ 10)] } }
def w_FramesOnThePorts_16 : State := tWr [(NET_PRP_CFG, 2 ^ 16 + 1)] { tOn with now := 10 ^ 10, net := { Net.reset with nodes := [tNode 0] } }
def w_FramesOnThePorts_18 : State := tPut [(⟨NET_P_STATUS 1, 0, 0⟩, 0)] (tPort tOn)
def w_FramesOnThePorts_20 : State := tPut [(⟨(NET_P_STATUS 1), 0, 0⟩, 1)] (tOn)
def w_FramesOnThePorts_21 : State := tPut [(⟨(NET_P_STATUS 0), 0, 0⟩, 0)] (tOn)
def w_FramesOnThePorts_22 : State := { tOn with evc := { tOn.evc with tick := 70000 } }
theorem test_frames_on_the_ports_witness_1 :
    (w_FramesOnThePorts_0.pwr.rails.powerGood = true ∧ w_FramesOnThePorts_0.portOn 1 = true ∧ w_FramesOnThePorts_0.asleep = false ∧
      w_FramesOnThePorts_0.frameOk (List.replicate 60 0 ++ [0x08, 0x89, 0x12, 0x04]) = true) ∧
    (w_FramesOnThePorts_0.pwr.rails.powerGood = true ∧ w_FramesOnThePorts_0.portOn 1 = true ∧ w_FramesOnThePorts_0.asleep = false ∧
      w_FramesOnThePorts_0.frameOk ([] : List Byte) = false) ∧
    (w_FramesOnThePorts_2.pwr.rails.powerGood = true ∧ w_FramesOnThePorts_2.portOn 1 = true ∧ w_FramesOnThePorts_2.asleep = true ∧
      (w_FramesOnThePorts_2.pwrState = 3 ∨ w_FramesOnThePorts_2.pwrState = 4)) ∧
    (w_ConfigurationRequests_0.pwr.rails.powerGood = true ∧ (w_ConfigurationRequests_0.portOn 0 = false ∨ (w_ConfigurationRequests_0.asleep = true ∧
      w_ConfigurationRequests_0.pwrState ≠ 3 ∧ w_ConfigurationRequests_0.pwrState ≠ 4))) ∧
    (w_FramesOnThePorts_4.coreOn = true ∧ w_FramesOnThePorts_4.drainPort = some 1 ∧ nextHeld (w_FramesOnThePorts_4.net.held.getD 1 []) = some 0 ∧
      (w_FramesOnThePorts_4.net.held.getD 1 [])[0]? = some tIn) ∧
    (tOn.coreOn = true ∧ tOn.drainPort = none) ∧
    (tQueued.coreOn = true ∧ tQueued.portOn 1 = true ∧ tQueued.bits (NET_P_STATUS 1) 0 0 = 1 ∧ tQueued.boundary 1 < 100 * (tQueued.now + tQueued.tickHalfNs) ∧
      w_FramesOnThePorts_6.egressPick 1 = some 127 ∧ (w_FramesOnThePorts_6.queue 127).frames = tOut :: ([])) ∧
    (tOn.coreOn = true ∧ (tOn.portOn 0 = false ∨ tOn.bits (NET_P_STATUS 0) 0 0 = 0 ∨ 100 * (tOn.now + tOn.tickHalfNs) ≤ tOn.boundary 0 ∨
      (tOn.settlePort 0 (tOn.boundary 0)).egressPick 0 = none)) ∧
    (w_FramesOnThePorts_8.coreOn = true ∧ 1 < 2 ∧ 63 < 64 ∧ (w_FramesOnThePorts_8.queue (64 * 1 + 63)).frames = tOut :: ([]) ∧
      w_FramesOnThePorts_8.delayEnd (64 * 1 + 63) tOut = some 2000 ∧ 2000 < w_FramesOnThePorts_8.now + w_FramesOnThePorts_8.tickHalfNs) ∧
    (w_FramesOnThePorts_9.coreOn = true ∧ 1 < 2 ∧ 63 < 64 ∧ (w_FramesOnThePorts_9.queue (64 * 1 + 63)).frames = tOut :: ([]) ∧ ((∀ e,
      w_FramesOnThePorts_9.delayEnd (64 * 1 + 63) tOut = some e → w_FramesOnThePorts_9.now + w_FramesOnThePorts_9.tickHalfNs ≤ e))) ∧
    (tOn.coreOn = true ∧ tOn.net.refilled ≠ some tOn.evc.tick) ∧
    (w_FramesOnThePorts_11.coreOn = true ∧ w_FramesOnThePorts_11.net.refilled = some w_FramesOnThePorts_11.evc.tick) :=
  ⟨by decide +kernel,
   by decide +kernel,
   by decide +kernel,
   by decide +kernel,
   by decide +kernel,
   by decide +kernel,
   by decide +kernel,
   by decide +kernel,
   by decide +kernel,
   by decide +kernel,
   by decide +kernel,
   by decide +kernel⟩
theorem test_frames_on_the_ports_witness_2 :
    (w_FramesOnThePorts_12.coreOn = true ∧ w_FramesOnThePorts_12.on NET_CTRL_EN = true ∧ w_FramesOnThePorts_12.on NET_CTRL_PRP_EN = true ∧
      w_FramesOnThePorts_12.net.supAt + w_FramesOnThePorts_12.supNs < w_FramesOnThePorts_12.now + w_FramesOnThePorts_12.tickHalfNs) ∧
    (w_FramesOnThePorts_13.coreOn = true ∧ (w_FramesOnThePorts_13.on NET_CTRL_EN = false ∨ w_FramesOnThePorts_13.on NET_CTRL_PRP_EN = false ∨
      w_FramesOnThePorts_13.now + w_FramesOnThePorts_13.tickHalfNs ≤ w_FramesOnThePorts_13.net.supAt + w_FramesOnThePorts_13.supNs)) ∧
    (w_FramesOnThePorts_14.coreOn = true ∧ w_FramesOnThePorts_14.net.nodes[0]? = some (tNode (10 ^ 10)) ∧ 1 < 2 ∧ (tNode (10 ^ 10)).lost.getD 1 false = false ∧
      (tNode (10 ^ 10)).heard 1 + 3 * w_FramesOnThePorts_14.supNs < w_FramesOnThePorts_14.now + w_FramesOnThePorts_14.tickHalfNs ∧
      (tNode (10 ^ 10)).lastP.getD (1 - 1) none = some (10 ^ 10) ∧ w_FramesOnThePorts_14.now ≤ (10 ^ 10) + 3 * w_FramesOnThePorts_14.supNs) ∧
    (w_FramesOnThePorts_14.coreOn = true ∧ w_FramesOnThePorts_14.net.nodes[0]? = some (tNode (10 ^ 10)) ∧ ((tNode (10 ^ 10)).lost.getD 0 false = true ∨
      w_FramesOnThePorts_14.now + w_FramesOnThePorts_14.tickHalfNs ≤ (tNode (10 ^ 10)).heard 0 + 3 * w_FramesOnThePorts_14.supNs)) ∧
    (w_FramesOnThePorts_16.coreOn = true ∧ w_FramesOnThePorts_16.net.nodes[0]? = some (tNode 0) ∧
      (tNode 0).last + w_FramesOnThePorts_16.forgetNs < w_FramesOnThePorts_16.now + w_FramesOnThePorts_16.tickHalfNs) ∧
    (w_FramesOnThePorts_14.coreOn = true ∧ w_FramesOnThePorts_14.net.nodes[0]? = some (tNode (10 ^ 10)) ∧
      w_FramesOnThePorts_14.now + w_FramesOnThePorts_14.tickHalfNs ≤ (tNode (10 ^ 10)).last + w_FramesOnThePorts_14.forgetNs) ∧
    (w_FramesOnThePorts_18.coreOn = true ∧ w_FramesOnThePorts_18.portOn 1 = true ∧ w_FramesOnThePorts_18.bits (NET_P_STATUS 1) 0 0 ≠ 1) ∧
    (tOn.coreOn = true ∧ (tOn.portOn 0 = false ∨ tOn.bits (NET_P_STATUS 0) 0 0 = 1)) ∧
    (w_FramesOnThePorts_20.coreOn = true ∧ 1 < 2 ∧ w_FramesOnThePorts_20.bits (NET_P_STATUS 1) 0 0 ≠ 0) ∧
    (w_FramesOnThePorts_21.coreOn = true ∧ w_FramesOnThePorts_21.bits (NET_P_STATUS 0) 0 0 = 0) ∧
    (w_FramesOnThePorts_22.coreOn = true ∧
      w_FramesOnThePorts_22.net.histTick + clampNat 16 65535 (w_FramesOnThePorts_22.bits NET_HIST_PERIOD 15 0) ≤ w_FramesOnThePorts_22.evc.tick) ∧
    (tOn.coreOn = true ∧ tOn.evc.tick < tOn.net.histTick + clampNat 16 65535 (tOn.bits NET_HIST_PERIOD 15 0)) :=
  ⟨by decide +kernel,
   by decide +kernel,
   by decide +kernel,
   by decide +kernel,
   by decide +kernel,
   by decide +kernel,
   by decide +kernel,
   by decide +kernel,
   by decide +kernel,
   by decide +kernel,
   by decide +kernel,
   by decide +kernel⟩
def w_NetworkTablesAndRings_2 : State := tPut [(NET_FLOW_DATA_RANK 0, 6)] (tWr [(NET_FLOW_SEL, 16383)] tOn)
def w_NetworkTablesAndRings_3 : State := tPut [(NET_FLOW_DATA_KIND 0, 2)] (tWr [(NET_FLOW_SEL, 16383)] tOn)
def w_NetworkTablesAndRings_4 : State := tPut [(NET_FLOW_DATA_RANK 0, 5)] (tWr [(NET_FLOW_SEL, 16383)] tOn)
def w_NetworkTablesAndRings_5 : State := tPut [(NET_FLOW_DATA_RANK 0, 6), (NET_FLOW_DATA_KIND 0, 0)] (tWr [(NET_FLOW_SEL,
      16383)] (tNet [tFlow 16383 0 0 6 true] []))
def w_NetworkTablesAndRings_6 : State := tPut [(NET_FLOW_DATA_RANK 0, 5), (NET_FLOW_DATA_KIND 0, 0)] (tWr [(NET_FLOW_SEL,
      16383)] (tNet [tFlow 16383 0 0 5 true] []))
def w_NetworkTablesAndRings_7 : State := tPut [(NET_FLOW_DATA_RANK 0, 5), (NET_FLOW_DATA_KIND 0, 1)] (tWr [(NET_FLOW_SEL,
      16383)] (tNet [tFlow 16383 0 0 5 true] []))
def w_NetworkTablesAndRings_9 : State := tNet [] []
def w_NetworkTablesAndRings_10 : State := tNet [tFlow 16383 0 0 6 true] []
def w_NetworkTablesAndRings_11 : State := tNet [tFlow 16383 0 0 6 false] [(⟨tKey, 2, true⟩ : ExactEntry)]
def w_NetworkTablesAndRings_12 : State := tNet [tFlow 16383 0 0 6 false] [(⟨tKey, 2, false⟩ : ExactEntry)]
def w_NetworkTablesAndRings_13 : State := tNet [tFlow 16383 0 0 6 false] []
def w_NetworkTablesAndRings_14 : State := tNet [tFlow 16383 0 0 6 false] (List.replicate 16384 ⟨[], 2, true⟩)
def w_NetworkTablesAndRings_15 : State := tNet [] [(⟨tKey, 2, true⟩ : ExactEntry)]
def w_NetworkTablesAndRings_16 : State := tNet [] [(⟨tKey, 2, false⟩ : ExactEntry)]
def w_NetworkTablesAndRings_20_0 : State := tWr [(VENC_CTX_OUT_PUT 15, 1)] (tPut [(NET_CTRL_EN,
      1)] { tOn with net := { Net.reset with flowsOn := [tFlow 2 5 15 6 false] } })
def w_NetworkTablesAndRings_20_1 : State := tWr [(VENC_CTX_OUT_PUT 15, 1)] (tPut [(NET_CTRL_EN,
      1)] { tOn with net := { Net.reset with flowsOn := [tFlow 2 5 15 6 false] }, poison := [0] })
theorem test_network_tables_and_rings_witness_1 :
    (tOn.reaches NET_FLOW_CMD) ∧
    (tOn.reaches NET_FLOW_CMD) ∧
    (w_NetworkTablesAndRings_2.reaches NET_FLOW_CMD ∧ ((∀ c,
      w_NetworkTablesAndRings_2.ctxIn w_NetworkTablesAndRings_2.net.flows (w_NetworkTablesAndRings_2.flowData).ctx = some c → c.image = false)) ∧
      ((w_NetworkTablesAndRings_2.flowData).kind = 0 ∨ ((w_NetworkTablesAndRings_2.flowData).kind = 1 ∧ (w_NetworkTablesAndRings_2.flowData).target ≤ 15)) ∧
      6 ≤ (w_NetworkTablesAndRings_2.flowData).rank) ∧
    (w_NetworkTablesAndRings_3.reaches NET_FLOW_CMD ∧ ((∀ c,
      w_NetworkTablesAndRings_3.ctxIn w_NetworkTablesAndRings_3.net.flows (w_NetworkTablesAndRings_3.flowData).ctx = some c → c.image = false)) ∧
      (1 < (w_NetworkTablesAndRings_3.flowData).kind ∨ ((w_NetworkTablesAndRings_3.flowData).kind = 1 ∧ 15 < (w_NetworkTablesAndRings_3.flowData).target))) ∧
    (w_NetworkTablesAndRings_4.reaches NET_FLOW_CMD ∧ ((∀ c,
      w_NetworkTablesAndRings_4.ctxIn w_NetworkTablesAndRings_4.net.flows (w_NetworkTablesAndRings_4.flowData).ctx = some c → c.image = false)) ∧
      ((w_NetworkTablesAndRings_4.flowData).kind = 0 ∨ ((w_NetworkTablesAndRings_4.flowData).kind = 1 ∧ (w_NetworkTablesAndRings_4.flowData).target ≤ 15)) ∧
      (w_NetworkTablesAndRings_4.flowData).rank < 6) ∧
    (w_NetworkTablesAndRings_5.reaches NET_FLOW_CMD ∧
      w_NetworkTablesAndRings_5.ctxIn w_NetworkTablesAndRings_5.net.flows (w_NetworkTablesAndRings_5.flowData).ctx = some (tFlow 16383 0 0 6 true) ∧
      (tFlow 16383 0 0 6 true).image = true ∧ (w_NetworkTablesAndRings_5.flowData).ctx ≠ 1 ∧
      ((w_NetworkTablesAndRings_5.flowData).kind = (tFlow 16383 0 0 6 true).kind ∧ (w_NetworkTablesAndRings_5.flowData).rank = (tFlow 16383 0 0 6 true).rank ∧
      (w_NetworkTablesAndRings_5.flowData).ports = (tFlow 16383 0 0 6 true).ports ∧
      (w_NetworkTablesAndRings_5.flowData).target = (tFlow 16383 0 0 6 true).target ∧
      (w_NetworkTablesAndRings_5.flowData).queue = (tFlow 16383 0 0 6 true).queue) ∧ 6 ≤ (tFlow 16383 0 0 6 true).rank) ∧
    (w_NetworkTablesAndRings_6.reaches NET_FLOW_CMD ∧
      w_NetworkTablesAndRings_6.ctxIn w_NetworkTablesAndRings_6.net.flows (w_NetworkTablesAndRings_6.flowData).ctx = some (tFlow 16383 0 0 5 true) ∧
      (tFlow 16383 0 0 5 true).image = true ∧ (w_NetworkTablesAndRings_6.flowData).ctx ≠ 1 ∧
      ((w_NetworkTablesAndRings_6.flowData).kind = (tFlow 16383 0 0 5 true).kind ∧ (w_NetworkTablesAndRings_6.flowData).rank = (tFlow 16383 0 0 5 true).rank ∧
      (w_NetworkTablesAndRings_6.flowData).ports = (tFlow 16383 0 0 5 true).ports ∧
      (w_NetworkTablesAndRings_6.flowData).target = (tFlow 16383 0 0 5 true).target ∧
      (w_NetworkTablesAndRings_6.flowData).queue = (tFlow 16383 0 0 5 true).queue) ∧ (tFlow 16383 0 0 5 true).rank < 6) ∧
    (w_NetworkTablesAndRings_7.reaches NET_FLOW_CMD ∧
      w_NetworkTablesAndRings_7.ctxIn w_NetworkTablesAndRings_7.net.flows (w_NetworkTablesAndRings_7.flowData).ctx = some (tFlow 16383 0 0 5 true) ∧
      (tFlow 16383 0 0 5 true).image = true ∧ ((w_NetworkTablesAndRings_7.flowData).ctx = 1 ∨
      ¬((w_NetworkTablesAndRings_7.flowData).kind = (tFlow 16383 0 0 5 true).kind ∧ (w_NetworkTablesAndRings_7.flowData).rank = (tFlow 16383 0 0 5 true).rank ∧
      (w_NetworkTablesAndRings_7.flowData).ports = (tFlow 16383 0 0 5 true).ports ∧
      (w_NetworkTablesAndRings_7.flowData).target = (tFlow 16383 0 0 5 true).target ∧
      (w_NetworkTablesAndRings_7.flowData).queue = (tFlow 16383 0 0 5 true).queue))) ∧
    (tOn.reaches NET_EXACT_CMD ∧ tOn.exactKey = none) ∧
    (w_NetworkTablesAndRings_9.reaches NET_EXACT_CMD ∧ w_NetworkTablesAndRings_9.exactKey = some tKey ∧
      w_NetworkTablesAndRings_9.ctxIn w_NetworkTablesAndRings_9.net.flows 16383 = none) ∧
    (w_NetworkTablesAndRings_10.reaches NET_EXACT_CMD ∧ w_NetworkTablesAndRings_10.exactKey = some tKey ∧
      w_NetworkTablesAndRings_10.ctxIn w_NetworkTablesAndRings_10.net.flows 16383 = some (tFlow 16383 0 0 6 true) ∧ (tFlow 16383 0 0 6 true).image = true) ∧
    (w_NetworkTablesAndRings_11.reaches NET_EXACT_CMD ∧ w_NetworkTablesAndRings_11.exactKey = some tKey ∧
      w_NetworkTablesAndRings_11.ctxIn w_NetworkTablesAndRings_11.net.flows 16383 = some (tFlow 16383 0 0 6 false) ∧ (tFlow 16383 0 0 6 false).image = false ∧
      w_NetworkTablesAndRings_11.net.exact.find? (fun e' => e'.key == tKey) = some (⟨tKey, 2, true⟩ : ExactEntry) ∧ (⟨tKey, 2,
      true⟩ : ExactEntry).soft = true) :=
  ⟨by decide +kernel,
   by decide +kernel,
   by decide +kernel,
   by decide +kernel,
   by decide +kernel,
   by decide +kernel,
   by decide +kernel,
   by decide +kernel,
   by decide +kernel,
   by decide +kernel,
   by decide +kernel,
   by decide +kernel⟩
theorem test_network_tables_and_rings_witness_2 :
    (w_NetworkTablesAndRings_12.reaches NET_EXACT_CMD ∧ w_NetworkTablesAndRings_12.exactKey = some tKey ∧
      w_NetworkTablesAndRings_12.ctxIn w_NetworkTablesAndRings_12.net.flows 16383 = some (tFlow 16383 0 0 6 false) ∧ (tFlow 16383 0 0 6 false).image = false ∧
      w_NetworkTablesAndRings_12.net.exact.find? (fun e' => e'.key == tKey) = some (⟨tKey, 2, false⟩ : ExactEntry) ∧ (⟨tKey, 2,
      false⟩ : ExactEntry).soft = false) ∧
    (w_NetworkTablesAndRings_13.reaches NET_EXACT_CMD ∧ w_NetworkTablesAndRings_13.exactKey = some tKey ∧
      w_NetworkTablesAndRings_13.ctxIn w_NetworkTablesAndRings_13.net.flows 16383 = some (tFlow 16383 0 0 6 false) ∧ (tFlow 16383 0 0 6 false).image = false ∧
      ((∀ e ∈ w_NetworkTablesAndRings_13.net.exact, e.key ≠ tKey)) ∧ w_NetworkTablesAndRings_13.net.exact.length < 16384) ∧
    (w_NetworkTablesAndRings_14.reaches NET_EXACT_CMD ∧ w_NetworkTablesAndRings_14.exactKey = some tKey ∧
      w_NetworkTablesAndRings_14.ctxIn w_NetworkTablesAndRings_14.net.flows 16383 = some (tFlow 16383 0 0 6 false) ∧ (tFlow 16383 0 0 6 false).image = false ∧
      ((∀ e ∈ w_NetworkTablesAndRings_14.net.exact, e.key ≠ tKey)) ∧ 16384 ≤ w_NetworkTablesAndRings_14.net.exact.length) ∧
    (w_NetworkTablesAndRings_15.reaches NET_EXACT_CMD ∧ w_NetworkTablesAndRings_15.exactKey = some tKey ∧
      w_NetworkTablesAndRings_15.net.exact.find? (fun e' => e'.key == tKey) = some (⟨tKey, 2, true⟩ : ExactEntry) ∧ (⟨tKey, 2,
      true⟩ : ExactEntry).soft = true) ∧
    (w_NetworkTablesAndRings_16.reaches NET_EXACT_CMD ∧ w_NetworkTablesAndRings_16.exactKey = some tKey ∧
      w_NetworkTablesAndRings_16.net.exact.find? (fun e' => e'.key == tKey) = some (⟨tKey, 2, false⟩ : ExactEntry) ∧ (⟨tKey, 2,
      false⟩ : ExactEntry).soft = false) ∧
    (w_NetworkTablesAndRings_9.reaches NET_EXACT_CMD ∧ w_NetworkTablesAndRings_9.exactKey = some tKey ∧ ((∀ e ∈ w_NetworkTablesAndRings_9.net.exact,
      e.key ≠ tKey))) ∧
    (tOn.reaches NET_EXACT_CMD ∧ tOn.exactKey = none) ∧
    (tOn.reaches (NET_HTX_PUT 15) ∧ 15 < 16) ∧
    (w_NetworkTablesAndRings_20_0.coreOn = true ∧
      w_NetworkTablesAndRings_20_0.net.flowsOn.find? (fun c' => c'.kind == 5 && c'.target == 15) = some (tFlow 2 5 15 6 false) ∧
      w_NetworkTablesAndRings_20_0.on NET_CTRL_EN = true ∧ 15 < 16 ∧
      w_NetworkTablesAndRings_20_0.bits (VENC_CTX_OUT_GET 15) 11 0 ≠ w_NetworkTablesAndRings_20_0.bits (VENC_CTX_OUT_PUT 15) 11 0 ∧
      (w_NetworkTablesAndRings_20_0.encTx 15).all = false ∧
      w_NetworkTablesAndRings_20_0.poisonedIn ((65536 * w_NetworkTablesAndRings_20_0.bits (VENC_CTX_OUT_BASE 15) 19 0) + 32 * w_NetworkTablesAndRings_20_0.bits (VENC_CTX_OUT_GET 15) 11 0) 32 = false ∧
      w_NetworkTablesAndRings_20_0.poisonedIn ((65536 * w_NetworkTablesAndRings_20_0.bits (VENC_CTX_OUT_BASE 15) 19 0) + w_NetworkTablesAndRings_20_0.memNat ((65536 * w_NetworkTablesAndRings_20_0.bits (VENC_CTX_OUT_BASE 15) 19 0) + 32 * w_NetworkTablesAndRings_20_0.bits (VENC_CTX_OUT_GET 15) 11 0) 4) (w_NetworkTablesAndRings_20_0.memNat (((65536 * w_NetworkTablesAndRings_20_0.bits (VENC_CTX_OUT_BASE 15) 19 0) + 32 * w_NetworkTablesAndRings_20_0.bits (VENC_CTX_OUT_GET 15) 11 0) + 4) 4) = false) ∧
    (w_NetworkTablesAndRings_20_1.coreOn = true ∧
      w_NetworkTablesAndRings_20_1.net.flowsOn.find? (fun c' => c'.kind == 5 && c'.target == 15) = some (tFlow 2 5 15 6 false) ∧
      w_NetworkTablesAndRings_20_1.on NET_CTRL_EN = true ∧ 15 < 16 ∧
      w_NetworkTablesAndRings_20_1.bits (VENC_CTX_OUT_GET 15) 11 0 ≠ w_NetworkTablesAndRings_20_1.bits (VENC_CTX_OUT_PUT 15) 11 0 ∧
      (w_NetworkTablesAndRings_20_1.encTx 15).all = false ∧
      (w_NetworkTablesAndRings_20_1.poisonedIn ((65536 * w_NetworkTablesAndRings_20_1.bits (VENC_CTX_OUT_BASE 15) 19 0) + 32 * w_NetworkTablesAndRings_20_1.bits (VENC_CTX_OUT_GET 15) 11 0) 32 = true ∨
      w_NetworkTablesAndRings_20_1.poisonedIn ((65536 * w_NetworkTablesAndRings_20_1.bits (VENC_CTX_OUT_BASE 15) 19 0) + w_NetworkTablesAndRings_20_1.memNat ((65536 * w_NetworkTablesAndRings_20_1.bits (VENC_CTX_OUT_BASE 15) 19 0) + 32 * w_NetworkTablesAndRings_20_1.bits (VENC_CTX_OUT_GET 15) 11 0) 4) (w_NetworkTablesAndRings_20_1.memNat (((65536 * w_NetworkTablesAndRings_20_1.bits (VENC_CTX_OUT_BASE 15) 19 0) + 32 * w_NetworkTablesAndRings_20_1.bits (VENC_CTX_OUT_GET 15) 11 0) + 4) 4) = true)) ∧
    (tOn.coreOn = true ∧ (tOn.net.flowsOn.find? (fun c => c.kind == 5 && c.target == 0) = none ∨ tOn.on NET_CTRL_EN = false ∨ 16 ≤ 0 ∨
      tOn.bits (VENC_CTX_OUT_GET 0) 11 0 = tOn.bits (VENC_CTX_OUT_PUT 0) 11 0 ∨ (tOn.encTx 0).all = true)) ∧
    (tOn.reaches NET_LOSS_POP) :=
  ⟨by decide +kernel,
   by decide +kernel,
   by decide +kernel,
   by decide +kernel,
   by decide +kernel,
   by decide +kernel,
   by decide +kernel,
   by decide +kernel,
   by decide +kernel,
   by decide +kernel,
   by decide +kernel,
   by decide +kernel⟩
theorem test_network_tables_and_rings_witness_3 :
    (tOn.reaches (NET_P_TSQ_POP 1) ∧ 1 < 2) :=
  by decide +kernel
def w_TimeUnit_0 : State := tOn.wr TMU_INCR_FRAC (0#32)
def w_TimeUnit_3 : State := tWr [(TMU_ADJ_SEC, 1), (TMU_STEP_LIMIT, 1)] (tOn)
def w_TimeUnit_4 : State := tWr [(TMU_SET_NS, 10 ^ 9)] (tOn)
def w_TimeUnit_5 : State := tPut [(TMU_STATUS_VALID, 0)] (tOn)
def w_TimeUnit_6 : State := tPut [(TMU_STATUS_VALID, 1)] (tWr [(TMU_SET_NS, 999999999), (TMU_STEP_LIMIT, 1)] (tOn))
def w_TimeUnit_8 : State :=
      ((tOn.wrN TMU_TIME_NS tOn.ptpNs).wrN TMU_TIME_SEC_LO (tOn.ptpSec % 2 ^ 32)).wrN TMU_TIME_SEC_HI (tOn.ptpSec / 2 ^ 32 % 2 ^ 16 + 2 ^ 16 * (tOn.tmu.time / 2 ^ 16 % 2 ^ 16))
def w_TimeUnit_12 : State := tPut [((TMU_TRIG_CTRL_ARM 0), 1)] ({ tOn with pwr := { tOn.pwr with rails := { tOn.pwr.rails with powerGood := true } } })
def w_TimeUnit_12_s1 : State := (w_TimeUnit_12.put (TMU_TRIG_CTRL_ARM 0) 0).put (TMU_TRIG_CTRL_LATE 0) (bit (w_TimeUnit_12.tmu.late.getD 0 false))
def w_TimeUnit_12_s2 : State := { w_TimeUnit_12_s1 with tmu := { w_TimeUnit_12_s1.tmu with late := w_TimeUnit_12_s1.tmu.late.set 0 false } }
def w_TimeUnit_12_s3 : State := if (w_TimeUnit_12.tmu.late.getD 0 false) then w_TimeUnit_12_s2.raise 69 0 else w_TimeUnit_12_s2
def w_TimeUnit_12_s4 : State := if w_TimeUnit_12.on (TMU_TRIG_CTRL_EVENT 0) then (w_TimeUnit_12_s3.raise 68 0).wake wakeTrig else w_TimeUnit_12_s3
def w_TimeUnit_12_s5 : State :=
      if w_TimeUnit_12.on (TMU_TRIG_CTRL_PIN 0) then { w_TimeUnit_12_s4 with tmu := { w_TimeUnit_12_s4.tmu with trigOut := true, trigTill := w_TimeUnit_12.now + 2000 * max 1 (w_TimeUnit_12.get (TMU_TRIG_CTRL_WIDTH_US 0)) } } else w_TimeUnit_12_s4
def w_TimeUnit_13 : State := tPut [((TMU_TRIG_CTRL_ARM 0), 0)] ({ tOn with pwr := { tOn.pwr with rails := { tOn.pwr.rails with powerGood := true } } })
def w_TimeUnit_14 : State := tPut [(⟨TMU_PPS_CFG, 0, 0⟩, 1)] ({ tOn with pwr := { tOn.pwr with rails := { tOn.pwr.rails with powerGood := true } } })
def w_TimeUnit_15 : State := tPut [(⟨TMU_PPS_CFG, 0, 0⟩, 0)] ({ tOn with pwr := { tOn.pwr with rails := { tOn.pwr.rails with powerGood := true } } })
def w_TimeUnit_16 : State := tPut [(⟨TMU_EXT_CFG, 0, 0⟩, 1)] ({ tOn with pwr := { tOn.pwr with rails := { tOn.pwr.rails with powerGood := true } } })
def w_TimeUnit_16_s1 : State := (if w_TimeUnit_16.bits TMU_EXT_STATUS 0 0 = 1 then w_TimeUnit_16.put ⟨TMU_EXT_STATUS, 1, 1⟩ 1 else w_TimeUnit_16).freeNext
def w_TimeUnit_17 : State := tPut [(⟨TMU_EXT_CFG, 0, 0⟩, 0)] ({ tOn with pwr := { tOn.pwr with rails := { tOn.pwr.rails with powerGood := true } } })
def w_TimeUnit_18 : State := { tOn with pwr := { tOn.pwr with rails := { tOn.pwr.rails with powerGood := true } }, now := 10 ^ 12 }
def w_TimeUnit_19 : State := { tOn with tmu := { tOn.tmu with ppsTill := 10 ^ 10 } }
def w_TimeUnit_21 : State := { tOn with tmu := { tOn.tmu with trigTill := 10 ^ 10 } }
theorem test_time_unit_witness_1 :
    (tOn.reaches TMU_INCR_FRAC ∧ incrInRange (2 ^ 32 * tOn.bits TMU_INCR_NS 7 0 + (0#32).toNat) = true) ∧
    (tOn.reaches TMU_INCR_FRAC ∧ incrInRange (2 ^ 32 * tOn.bits TMU_INCR_NS 7 0 + (0xFFFFFFFF#32).toNat) = false) ∧
    (tOn.reaches TMU_CMD) ∧
    (w_TimeUnit_3.reaches TMU_CMD ∧
      w_TimeUnit_3.rdN TMU_STEP_LIMIT < (10 ^ 9 * signedOf 32 (w_TimeUnit_3.rdN TMU_ADJ_SEC) + signedOf 32 (w_TimeUnit_3.rdN TMU_ADJ_NS)).natAbs) ∧
    (w_TimeUnit_4.reaches TMU_CMD ∧ 10 ^ 9 ≤ w_TimeUnit_4.rdN TMU_SET_NS) ∧
    (w_TimeUnit_5.reaches TMU_CMD ∧ w_TimeUnit_5.rdN TMU_SET_NS < 10 ^ 9 ∧ (w_TimeUnit_5.on TMU_STATUS_VALID = false ∨ true = true ∨
      (((2 ^ 32 * (10 ^ 9 * (w_TimeUnit_5.rdN TMU_SET_SEC_LO + 2 ^ 32 * w_TimeUnit_5.bits TMU_SET_SEC_HI 15 0) + w_TimeUnit_5.rdN TMU_SET_NS)) : Int) - (w_TimeUnit_5.tmu.time : Int)).natAbs ≤ 2 ^ 32 * w_TimeUnit_5.rdN TMU_STEP_LIMIT)) ∧
    (w_TimeUnit_6.reaches TMU_CMD ∧ w_TimeUnit_6.rdN TMU_SET_NS < 10 ^ 9 ∧ w_TimeUnit_6.on TMU_STATUS_VALID = true ∧
      2 ^ 32 * w_TimeUnit_6.rdN TMU_STEP_LIMIT < (((2 ^ 32 * (10 ^ 9 * (w_TimeUnit_6.rdN TMU_SET_SEC_LO + 2 ^ 32 * w_TimeUnit_6.bits TMU_SET_SEC_HI 15 0) + w_TimeUnit_6.rdN TMU_SET_NS)) : Int) - (w_TimeUnit_6.tmu.time : Int)).natAbs) ∧
    (tOn.reaches TMU_TIME_NS) ∧
    (7 < 8 ∧ tOn.reaches (TMU_TRIG_CTRL 7)) ∧
    (7 < 8 ∧ 2 < 3 ∧ tOn.reaches (TMU_TRIG_NS 7 + 4 * 2)) ∧
    (0 < tOn.tmu.late.length) ∧
    (w_TimeUnit_12.pwr.rails.powerGood = true ∧ w_TimeUnit_12.pllLocked pllTime = true ∧ w_TimeUnit_12.on (TMU_TRIG_CTRL_ARM 0) = true ∧
      w_TimeUnit_12.trigTarget 0 < w_TimeUnit_12.ptpTickEnd) :=
  ⟨by decide +kernel,
   by decide +kernel,
   by decide +kernel,
   by decide +kernel,
   by decide +kernel,
   by decide +kernel,
   by decide +kernel,
   by decide +kernel,
   by decide +kernel,
   by decide +kernel,
   by decide +kernel,
   by decide +kernel⟩
theorem test_time_unit_witness_2 :
    (w_TimeUnit_13.pwr.rails.powerGood = true ∧ w_TimeUnit_13.pllLocked pllTime = true ∧ (w_TimeUnit_13.on (TMU_TRIG_CTRL_ARM 0) = false ∨
      w_TimeUnit_13.ptpTickEnd ≤ w_TimeUnit_13.trigTarget 0)) ∧
    (w_TimeUnit_14.pwr.rails.powerGood = true ∧ w_TimeUnit_14.pllLocked pllTime = true ∧ w_TimeUnit_14.bits TMU_PPS_CFG 0 0 = 1 ∧
      w_TimeUnit_14.secondPasses = true) ∧
    (w_TimeUnit_15.pwr.rails.powerGood = true ∧ w_TimeUnit_15.pllLocked pllTime = true ∧ (w_TimeUnit_15.bits TMU_PPS_CFG 0 0 = 0 ∨
      w_TimeUnit_15.secondPasses = false)) ∧
    (w_TimeUnit_16.pwr.rails.powerGood = true ∧ w_TimeUnit_16.pllLocked pllTime = true ∧ w_TimeUnit_16.bits TMU_EXT_CFG 0 0 = 1) ∧
    (w_TimeUnit_17.pwr.rails.powerGood = true ∧ w_TimeUnit_17.pllLocked pllTime = true ∧ w_TimeUnit_17.bits TMU_EXT_CFG 0 0 = 0) ∧
    (w_TimeUnit_18.pwr.rails.powerGood = true ∧ w_TimeUnit_18.pllLocked pllTime = true ∧
      w_TimeUnit_18.tmu.ppsTill < w_TimeUnit_18.now + w_TimeUnit_18.tickHalfNs) ∧
    (w_TimeUnit_19.pwr.rails.powerGood = true ∧ w_TimeUnit_19.pllLocked pllTime = true ∧
      w_TimeUnit_19.now + w_TimeUnit_19.tickHalfNs ≤ w_TimeUnit_19.tmu.ppsTill) ∧
    (w_TimeUnit_18.pwr.rails.powerGood = true ∧ w_TimeUnit_18.pllLocked pllTime = true ∧
      w_TimeUnit_18.tmu.trigTill < w_TimeUnit_18.now + w_TimeUnit_18.tickHalfNs) ∧
    (w_TimeUnit_21.pwr.rails.powerGood = true ∧ w_TimeUnit_21.pllLocked pllTime = true ∧
      w_TimeUnit_21.now + w_TimeUnit_21.tickHalfNs ≤ w_TimeUnit_21.tmu.trigTill) :=
  ⟨by decide +kernel,
   by decide +kernel,
   by decide +kernel,
   by decide +kernel,
   by decide +kernel,
   by decide +kernel,
   by decide +kernel,
   by decide +kernel,
   by decide +kernel⟩
def w_MemorySubsystem_0 : State := tOn.requestLine 0 0 (256 * (0 / 256))
def w_MemorySubsystem_0_s2 : State := if tOn.poisonedIn (256 * (0 / 256)) 256 then w_MemorySubsystem_0.notePoisonRead 0 else w_MemorySubsystem_0
def w_MemorySubsystem_1 : State := ([] : List LineFault).foldl (fun st f => st.applyFault 0 (256 * (0 / 256)) f) (tOn.requestLine 0 0 0)
def w_MemorySubsystem_2 : State := okState (exec (.memWrite 0 0 0 0 [1] []) tOn)
def w_MemorySubsystem_5 : State := tPut [(⟨MEM_SCRUB, 31, 0⟩, 1)] (tOn)
def w_MemorySubsystem_5_s1 : State :=
      { w_MemorySubsystem_5 with hbm := { w_MemorySubsystem_5.hbm with scrub := (w_MemorySubsystem_5.hbm.scrub + 1) % (memSize / 256) } }
def w_MemorySubsystem_6 : State := tPut [(MEM_STATUS_SELF_REFRESH, 3)] (tWr [(MEM_SCRUB, 1)] (tOn))
def w_MemorySubsystem_6_s1 : State :=
      { w_MemorySubsystem_6 with hbm := { w_MemorySubsystem_6.hbm with scrub := (w_MemorySubsystem_6.hbm.scrub + 1) % (memSize / 256) } }
def w_MemorySubsystem_7 : State := tPut [(⟨MEM_SCRUB, 31, 0⟩, 0)] (tOn)
def w_MemorySubsystem_11 : State := tPut [(⟨PWR_STATE, 2, 0⟩, 5)] ({ tOn with pwr := { tOn.pwr with rails := { tOn.pwr.rails with powerGood := true } } })
def w_MemorySubsystem_12 : State := { tOn with hbm := { tOn.hbm with mig := none }, now := 10 ^ 12 }
def w_MemorySubsystem_12_s1 : State :=
      { w_MemorySubsystem_12 with hbm := { w_MemorySubsystem_12.hbm with ctl := ((List.range 64).zip w_MemorySubsystem_12.hbm.ctl).map (fun (e : Nat × Controller) => if stackOfPc e.1 = 1 then { e.2 with rows := [] } else e.2) } }
def w_MemorySubsystem_14 : State := tPut [(MEM_STATUS_TRAINED, 0)] (tOn)
def w_MemorySubsystem_15 : State := tPut [(MEM_STATUS_TRAINED, 1)] (tOn)
def w_MemorySubsystem_18 : State := tPut [(MEM_STATUS_UNTOUCHED, 1)] (tOn)
def w_MemorySubsystem_19 : State := tPut [(MEM_STATUS_UNTOUCHED, 0)] (tOn)
def w_MemorySubsystem_20 : State := { tOn with hbm := { tOn.hbm with mig := some (tMig 0) } }
def w_MemorySubsystem_21 : State := { tOn with hbm := { tOn.hbm with mig := some (tMig 8388607) } }
def w_MemorySubsystem_22 : State := { tOn with hbm := { tOn.hbm with mig := none } }
theorem test_memory_subsystem_witness_1 :
    (tOn.coreOn = true ∧ (256 * (0 / 256)) < memSize) ∧
    (tOn.coreOn = true ∧ 0 + ([] : List Byte).length ≤ memSize) ∧
    (tOn.coreOn = true ∧ 0 + ([1]).length ≤ memSize ∧ (1 < 0 ∨ 0 + ([1]).length ≤ 1) ∧
      exec (.memWrite 0 0 0 0 ([1]) ([] : List LineFault)) tOn = .next w_MemorySubsystem_2) ∧
    (tOn.coreOn = true ∧ memSize ≤ (256 * (memSize / 256))) ∧
    (tOn.coreOn = true ∧ memSize < (memSize - 1) + ([1, 2]).length) ∧
    (w_MemorySubsystem_5.coreOn = true ∧ w_MemorySubsystem_5.rdN MEM_SCRUB ≠ 0 ∧
      bitAt (w_MemorySubsystem_5.get MEM_STATUS_SELF_REFRESH) (stackOfTrio (lineAddr (256 * w_MemorySubsystem_5.hbm.scrub)).trio) = false) ∧
    (w_MemorySubsystem_6.coreOn = true ∧ w_MemorySubsystem_6.rdN MEM_SCRUB ≠ 0 ∧
      bitAt (w_MemorySubsystem_6.get MEM_STATUS_SELF_REFRESH) (stackOfTrio (lineAddr (256 * w_MemorySubsystem_6.hbm.scrub)).trio) = true) ∧
    (w_MemorySubsystem_7.coreOn = true ∧ w_MemorySubsystem_7.rdN MEM_SCRUB = 0) ∧
    (tOn.coreOn = true ∧ 63 < 64 ∧ bitAt (tOn.get MEM_STATUS_SELF_REFRESH) (stackOfPc 63) = false) ∧
    (tOn.coreOn = true ∧ (64 ≤ 64 ∨ bitAt (tOn.get MEM_STATUS_SELF_REFRESH) (stackOfPc 64) = true)) ∧
    (w_ConfigurationRequests_0.pwr.rails.powerGood = true ∧ w_ConfigurationRequests_0.pwrState ≠ 5 ∧ w_ConfigurationRequests_0.pwrState ≠ 6) ∧
    (w_MemorySubsystem_11.pwr.rails.powerGood = true ∧ (w_MemorySubsystem_11.pwrState = 5 ∨ w_MemorySubsystem_11.pwrState = 6)) :=
  ⟨by decide +kernel,
   by decide +kernel,
   ⟨by decide +kernel, by decide +kernel, by decide +kernel, rfl⟩,
   by decide +kernel,
   by decide +kernel,
   by decide +kernel,
   by decide +kernel,
   by decide +kernel,
   by decide +kernel,
   by decide +kernel,
   by decide +kernel,
   by decide +kernel⟩
theorem test_memory_subsystem_witness_2 :
    (w_MemorySubsystem_12.coreOn = true ∧ 1 < 2 ∧ (w_MemorySubsystem_12.bits MEM_SR_IDLE 15 0) ≠ 0 ∧ w_MemorySubsystem_12.hbm.mig = none ∧ ((∀ j : Nat, j < 32 →
      (w_MemorySubsystem_12.hbm.ctl.getD (32 * 1 + j) .reset).idle = true)) ∧
      w_MemorySubsystem_12.hbm.lastDone.getD 1 0 + 2000 * (w_MemorySubsystem_12.bits MEM_SR_IDLE 15 0) < w_MemorySubsystem_12.now + w_MemorySubsystem_12.tickHalfNs) ∧
    (tOn.coreOn = true ∧ ((tOn.bits MEM_SR_IDLE 15 0) = 0 ∨ tOn.now + tOn.tickHalfNs ≤ tOn.hbm.lastDone.getD 0 0 + 2000 * (tOn.bits MEM_SR_IDLE 15 0))) ∧
    (w_MemorySubsystem_14.coreOn = true ∧ w_MemorySubsystem_14.on MEM_STATUS_TRAINED = false ∧ ((∀ p : Nat, p < 64 →
      (([] : List (List Window)).getD p []).any (fun w => windowWidth w == 0) = false))) ∧
    (w_MemorySubsystem_15.coreOn = true ∧ w_MemorySubsystem_15.on MEM_STATUS_TRAINED = true) ∧
    (tOn.reaches MEM_CMD ∧ bitAt (1#32).toNat 0 = true) ∧
    (tOn.reaches MEM_CMD ∧ bitAt (0#32).toNat 0 = false) ∧
    (w_MemorySubsystem_18.reaches MEM_RETIRE_PRESET ∧ w_MemorySubsystem_18.on MEM_STATUS_UNTOUCHED = true) ∧
    (w_MemorySubsystem_19.reaches MEM_RETIRE_PRESET ∧ w_MemorySubsystem_19.on MEM_STATUS_UNTOUCHED = false) ∧
    (w_MemorySubsystem_20.coreOn = true ∧ w_MemorySubsystem_20.hbm.mig = some (tMig 0) ∧ ((tMig 0).line + 1) ≠ 8388608) ∧
    (w_MemorySubsystem_21.coreOn = true ∧ w_MemorySubsystem_21.hbm.mig = some (tMig 8388607) ∧ (tMig 8388607).line = 8388607) ∧
    (w_MemorySubsystem_22.coreOn = true ∧ w_MemorySubsystem_22.hbm.mig = none) :=
  ⟨by decide +kernel,
   by decide +kernel,
   by decide +kernel,
   by decide +kernel,
   by decide +kernel,
   by decide +kernel,
   by decide +kernel,
   by decide +kernel,
   by decide +kernel,
   by decide +kernel,
   by decide +kernel⟩
def w_BlockCopyEngine_0 : State := tPut [(BCE_STATUS_STATE, 1)] (tOn)
def w_BlockCopyEngine_1 : State := tPut [(BCE_STATUS_STATE, 0)] (tOn)
def w_BlockCopyEngine_1_s1 : State := ((w_BlockCopyEngine_1.put BCE_STATUS_STATE 1).put BCE_STATUS_ERR 0).put BCE_STATUS_LEASE_HIT 0
def w_BlockCopyEngine_5 : State := tWr [(BCE_PTR_LO, 32)] (tBce [])
def w_BlockCopyEngine_5_u : State := ((w_BlockCopyEngine_5.put BCE_STATUS_ERR 8).put BCE_STATUS_STATE 3).raise 705 0
def w_BlockCopyEngine_6 : State := { tBce [] with poison := [0] }
def w_BlockCopyEngine_6_s1 : State := w_BlockCopyEngine_6.notePoisonRead 10
def w_BlockCopyEngine_6_u : State := ((w_BlockCopyEngine_6_s1.put BCE_STATUS_ERR 8).put BCE_STATUS_STATE 3).raise 705 0
def w_BlockCopyEngine_7 : State := tBce [(0, 5)]
def w_BlockCopyEngine_7_u : State := ((w_BlockCopyEngine_7.put BCE_STATUS_ERR 1).put BCE_STATUS_STATE 3).raise 705 0
def w_BlockCopyEngine_8_0 : State := tBce [(0, 4)]
def w_BlockCopyEngine_9 : State := tBce [(0, 1)]
def w_BlockCopyEngine_10 : State := tBce [(0, 2)]
def w_BlockCopyEngine_11 : State := tBce [(0, 3), (8, 1)]
def w_BlockCopyEngine_12_0 : State := { tBce [] with sup := { tOn.sup with bceAt := 10 ^ 10 } }
def w_BlockCopyEngine_12_1 : State := { tBce [(0, 1), (4, 1), (6, 1), (0x11, 1)] with sup := { tOn.sup with bceAt := 10 ^ 10 } }
def w_BlockCopyEngine_12_2 : State := { tBce [(0, 2), (4, 1), (6, 1)] with sup := { tOn.sup with bceAt := 10 ^ 10 } }
def w_BlockCopyEngine_12_3 : State := { tBce [(0, 3)] with sup := { tOn.sup with bceAt := 10 ^ 10 } }
def w_BlockCopyEngine_12_4 : State := { tBce [(0, 4)] with sup := { tOn.sup with bceAt := 10 ^ 10 } }
def w_BlockCopyEngine_13 : State :=
      { w_BlockCopyEngine_0 with sup := { w_BlockCopyEngine_0.sup with bceAt := max w_BlockCopyEngine_0.now (w_BlockCopyEngine_0.sup.bceAt + w_BlockCopyEngine_0.bceTime (w_BlockCopyEngine_0.bceCmdAt (w_BlockCopyEngine_0.bcePtr))) } }
def w_BlockCopyEngine_14 : State := tBce [(0, 1), (4, 1), (6, 1), (0x11, 1)]
def w_BlockCopyEngine_14_s1 : State :=
      { w_BlockCopyEngine_14 with sup := { w_BlockCopyEngine_14.sup with bceAt := max w_BlockCopyEngine_14.now (w_BlockCopyEngine_14.sup.bceAt + w_BlockCopyEngine_14.bceTime (w_BlockCopyEngine_14.bceCmdAt (w_BlockCopyEngine_14.bcePtr))) } }
def w_BlockCopyEngine_15 : State := tBce [(0, 2), (4, 1), (6, 1)]
def w_BlockCopyEngine_15_s1 : State :=
      { w_BlockCopyEngine_15 with sup := { w_BlockCopyEngine_15.sup with bceAt := max w_BlockCopyEngine_15.now (w_BlockCopyEngine_15.sup.bceAt + w_BlockCopyEngine_15.bceTime (w_BlockCopyEngine_15.bceCmdAt (w_BlockCopyEngine_15.bcePtr))) } }
def w_BlockCopyEngine_16 : State := tBce [(0, 3)]
def w_BlockCopyEngine_16_s1 : State :=
      { w_BlockCopyEngine_16 with sup := { w_BlockCopyEngine_16.sup with bceAt := max w_BlockCopyEngine_16.now (w_BlockCopyEngine_16.sup.bceAt + w_BlockCopyEngine_16.bceTime (w_BlockCopyEngine_16.bceCmdAt (w_BlockCopyEngine_16.bcePtr))) } }
def w_BlockCopyEngine_17 : State :=
      { w_BlockCopyEngine_8_0 with sup := { w_BlockCopyEngine_8_0.sup with bceAt := max w_BlockCopyEngine_8_0.now (w_BlockCopyEngine_8_0.sup.bceAt + w_BlockCopyEngine_8_0.bceTime (w_BlockCopyEngine_8_0.bceCmdAt (w_BlockCopyEngine_8_0.bcePtr))) } }
theorem test_block_copy_engine_witness_1 :
    (w_BlockCopyEngine_0.reaches BCE_CMD ∧ w_BlockCopyEngine_0.get BCE_STATUS_STATE = 1) ∧
    (w_BlockCopyEngine_1.reaches BCE_CMD ∧ w_BlockCopyEngine_1.get BCE_STATUS_STATE ≠ 1) ∧
    (w_BlockCopyEngine_0.reaches BCE_CMD ∧ w_BlockCopyEngine_0.get BCE_STATUS_STATE = 1) ∧
    (w_BlockCopyEngine_1.reaches BCE_CMD ∧ w_BlockCopyEngine_1.get BCE_STATUS_STATE ≠ 1) ∧
    (w_BlockCopyEngine_1.coreOn = true ∧ w_BlockCopyEngine_1.get BCE_STATUS_STATE ≠ 1) ∧
    (w_BlockCopyEngine_5.coreOn = true ∧ w_BlockCopyEngine_5.get BCE_STATUS_STATE = 1 ∧ ((w_BlockCopyEngine_5.bcePtr) % 64 ≠ 0 ∨
      memSize ≤ (w_BlockCopyEngine_5.bcePtr))) ∧
    (w_BlockCopyEngine_6.coreOn = true ∧ w_BlockCopyEngine_6.get BCE_STATUS_STATE = 1 ∧ (w_BlockCopyEngine_6.bcePtr) % 64 = 0 ∧
      (w_BlockCopyEngine_6.bcePtr) < memSize ∧ w_BlockCopyEngine_6.poisonedIn (w_BlockCopyEngine_6.bcePtr) 64 = true) ∧
    (w_BlockCopyEngine_7.coreOn = true ∧ w_BlockCopyEngine_7.get BCE_STATUS_STATE = 1 ∧ (w_BlockCopyEngine_7.bcePtr) % 64 = 0 ∧
      (w_BlockCopyEngine_7.bcePtr) < memSize ∧ w_BlockCopyEngine_7.poisonedIn (w_BlockCopyEngine_7.bcePtr) 64 = false ∧
      4 < (w_BlockCopyEngine_7.bceCmdAt (w_BlockCopyEngine_7.bcePtr)).op) ∧
    (w_BlockCopyEngine_8_0.coreOn = true ∧ w_BlockCopyEngine_8_0.get BCE_STATUS_STATE = 1 ∧ (w_BlockCopyEngine_8_0.bcePtr) % 64 = 0 ∧
      (w_BlockCopyEngine_8_0.bcePtr) < memSize ∧ w_BlockCopyEngine_8_0.poisonedIn (w_BlockCopyEngine_8_0.bcePtr) 64 = false ∧
      ((w_BlockCopyEngine_8_0.bceCmdAt (w_BlockCopyEngine_8_0.bcePtr)).op) ≤ 4 ∧ ((w_BlockCopyEngine_8_0.bceCmdAt (w_BlockCopyEngine_8_0.bcePtr)).op) ≠ 0) ∧
    (w_BlockCopyEngine_0.coreOn = true ∧ w_BlockCopyEngine_0.get BCE_STATUS_STATE = 1 ∧ (w_BlockCopyEngine_0.bcePtr) % 64 = 0 ∧
      (w_BlockCopyEngine_0.bcePtr) < memSize ∧ w_BlockCopyEngine_0.poisonedIn (w_BlockCopyEngine_0.bcePtr) 64 = false ∧
      ((w_BlockCopyEngine_0.bceCmdAt (w_BlockCopyEngine_0.bcePtr)).op) ≤ 4 ∧ ((w_BlockCopyEngine_0.bceCmdAt (w_BlockCopyEngine_0.bcePtr)).op) ≠ 1) ∧
    (w_BlockCopyEngine_0.coreOn = true ∧ w_BlockCopyEngine_0.get BCE_STATUS_STATE = 1 ∧ (w_BlockCopyEngine_0.bcePtr) % 64 = 0 ∧
      (w_BlockCopyEngine_0.bcePtr) < memSize ∧ w_BlockCopyEngine_0.poisonedIn (w_BlockCopyEngine_0.bcePtr) 64 = false ∧
      ((w_BlockCopyEngine_0.bceCmdAt (w_BlockCopyEngine_0.bcePtr)).op) ≤ 4 ∧ ((w_BlockCopyEngine_0.bceCmdAt (w_BlockCopyEngine_0.bcePtr)).op) ≠ 2) ∧
    (w_BlockCopyEngine_0.coreOn = true ∧ w_BlockCopyEngine_0.get BCE_STATUS_STATE = 1 ∧ (w_BlockCopyEngine_0.bcePtr) % 64 = 0 ∧
      (w_BlockCopyEngine_0.bcePtr) < memSize ∧ w_BlockCopyEngine_0.poisonedIn (w_BlockCopyEngine_0.bcePtr) 64 = false ∧
      ((w_BlockCopyEngine_0.bceCmdAt (w_BlockCopyEngine_0.bcePtr)).op) ≤ 4 ∧ ((w_BlockCopyEngine_0.bceCmdAt (w_BlockCopyEngine_0.bcePtr)).op) ≠ 3) :=
  ⟨by decide +kernel,
   by decide +kernel,
   by decide +kernel,
   by decide +kernel,
   by decide +kernel,
   by decide +kernel,
   by decide +kernel,
   by decide +kernel,
   by decide +kernel,
   by decide +kernel,
   by decide +kernel,
   by decide +kernel⟩
theorem test_block_copy_engine_witness_2 :
    (w_BlockCopyEngine_0.coreOn = true ∧ w_BlockCopyEngine_0.get BCE_STATUS_STATE = 1 ∧ (w_BlockCopyEngine_0.bcePtr) % 64 = 0 ∧
      (w_BlockCopyEngine_0.bcePtr) < memSize ∧ w_BlockCopyEngine_0.poisonedIn (w_BlockCopyEngine_0.bcePtr) 64 = false ∧
      ((w_BlockCopyEngine_0.bceCmdAt (w_BlockCopyEngine_0.bcePtr)).op) ≤ 4 ∧ ((w_BlockCopyEngine_0.bceCmdAt (w_BlockCopyEngine_0.bcePtr)).op) ≠ 4) ∧
    (w_BlockCopyEngine_9.coreOn = true ∧ w_BlockCopyEngine_9.get BCE_STATUS_STATE = 1 ∧ (w_BlockCopyEngine_9.bcePtr) % 64 = 0 ∧
      (w_BlockCopyEngine_9.bcePtr) < memSize ∧ w_BlockCopyEngine_9.poisonedIn (w_BlockCopyEngine_9.bcePtr) 64 = false ∧
      (w_BlockCopyEngine_9.bceCmdAt (w_BlockCopyEngine_9.bcePtr)).op = 1 ∧
      w_BlockCopyEngine_9.bceError (w_BlockCopyEngine_9.bceCmdAt (w_BlockCopyEngine_9.bcePtr)) ≠ 0) ∧
    (w_BlockCopyEngine_10.coreOn = true ∧ w_BlockCopyEngine_10.get BCE_STATUS_STATE = 1 ∧ (w_BlockCopyEngine_10.bcePtr) % 64 = 0 ∧
      (w_BlockCopyEngine_10.bcePtr) < memSize ∧ w_BlockCopyEngine_10.poisonedIn (w_BlockCopyEngine_10.bcePtr) 64 = false ∧
      (w_BlockCopyEngine_10.bceCmdAt (w_BlockCopyEngine_10.bcePtr)).op = 2 ∧
      w_BlockCopyEngine_10.bceError (w_BlockCopyEngine_10.bceCmdAt (w_BlockCopyEngine_10.bcePtr)) ≠ 0) ∧
    (w_BlockCopyEngine_11.coreOn = true ∧ w_BlockCopyEngine_11.get BCE_STATUS_STATE = 1 ∧ (w_BlockCopyEngine_11.bcePtr) % 64 = 0 ∧
      (w_BlockCopyEngine_11.bcePtr) < memSize ∧ w_BlockCopyEngine_11.poisonedIn (w_BlockCopyEngine_11.bcePtr) 64 = false ∧
      (w_BlockCopyEngine_11.bceCmdAt (w_BlockCopyEngine_11.bcePtr)).op = 3 ∧
      w_BlockCopyEngine_11.bceReady (w_BlockCopyEngine_11.bceCmdAt (w_BlockCopyEngine_11.bcePtr)) = true ∧
      ((w_BlockCopyEngine_11.bceCmdAt (w_BlockCopyEngine_11.bcePtr)).src % 64 ≠ 0 ∨
      memSize ≤ (w_BlockCopyEngine_11.bceCmdAt (w_BlockCopyEngine_11.bcePtr)).src)) ∧
    (w_BlockCopyEngine_12_0.coreOn = true ∧ w_BlockCopyEngine_12_0.get BCE_STATUS_STATE = 1 ∧ (w_BlockCopyEngine_12_0.bcePtr) % 64 = 0 ∧
      (w_BlockCopyEngine_12_0.bcePtr) < memSize ∧ w_BlockCopyEngine_12_0.poisonedIn (w_BlockCopyEngine_12_0.bcePtr) 64 = false ∧
      w_BlockCopyEngine_12_0.bceReady (w_BlockCopyEngine_12_0.bceCmdAt (w_BlockCopyEngine_12_0.bcePtr)) = false ∧
      ((w_BlockCopyEngine_12_0.bceCmdAt (w_BlockCopyEngine_12_0.bcePtr)).op) = 0) ∧
    (w_BlockCopyEngine_12_1.coreOn = true ∧ w_BlockCopyEngine_12_1.get BCE_STATUS_STATE = 1 ∧ (w_BlockCopyEngine_12_1.bcePtr) % 64 = 0 ∧
      (w_BlockCopyEngine_12_1.bcePtr) < memSize ∧ w_BlockCopyEngine_12_1.poisonedIn (w_BlockCopyEngine_12_1.bcePtr) 64 = false ∧
      w_BlockCopyEngine_12_1.bceReady (w_BlockCopyEngine_12_1.bceCmdAt (w_BlockCopyEngine_12_1.bcePtr)) = false ∧
      ((w_BlockCopyEngine_12_1.bceCmdAt (w_BlockCopyEngine_12_1.bcePtr)).op) = 1 ∧
      w_BlockCopyEngine_12_1.bceError (w_BlockCopyEngine_12_1.bceCmdAt (w_BlockCopyEngine_12_1.bcePtr)) = 0) ∧
    (w_BlockCopyEngine_12_2.coreOn = true ∧ w_BlockCopyEngine_12_2.get BCE_STATUS_STATE = 1 ∧ (w_BlockCopyEngine_12_2.bcePtr) % 64 = 0 ∧
      (w_BlockCopyEngine_12_2.bcePtr) < memSize ∧ w_BlockCopyEngine_12_2.poisonedIn (w_BlockCopyEngine_12_2.bcePtr) 64 = false ∧
      w_BlockCopyEngine_12_2.bceReady (w_BlockCopyEngine_12_2.bceCmdAt (w_BlockCopyEngine_12_2.bcePtr)) = false ∧
      ((w_BlockCopyEngine_12_2.bceCmdAt (w_BlockCopyEngine_12_2.bcePtr)).op) = 2 ∧
      w_BlockCopyEngine_12_2.bceError (w_BlockCopyEngine_12_2.bceCmdAt (w_BlockCopyEngine_12_2.bcePtr)) = 0) ∧
    (w_BlockCopyEngine_12_3.coreOn = true ∧ w_BlockCopyEngine_12_3.get BCE_STATUS_STATE = 1 ∧ (w_BlockCopyEngine_12_3.bcePtr) % 64 = 0 ∧
      (w_BlockCopyEngine_12_3.bcePtr) < memSize ∧ w_BlockCopyEngine_12_3.poisonedIn (w_BlockCopyEngine_12_3.bcePtr) 64 = false ∧
      w_BlockCopyEngine_12_3.bceReady (w_BlockCopyEngine_12_3.bceCmdAt (w_BlockCopyEngine_12_3.bcePtr)) = false ∧
      ((w_BlockCopyEngine_12_3.bceCmdAt (w_BlockCopyEngine_12_3.bcePtr)).op) = 3) ∧
    (w_BlockCopyEngine_12_4.coreOn = true ∧ w_BlockCopyEngine_12_4.get BCE_STATUS_STATE = 1 ∧ (w_BlockCopyEngine_12_4.bcePtr) % 64 = 0 ∧
      (w_BlockCopyEngine_12_4.bcePtr) < memSize ∧ w_BlockCopyEngine_12_4.poisonedIn (w_BlockCopyEngine_12_4.bcePtr) 64 = false ∧
      w_BlockCopyEngine_12_4.bceReady (w_BlockCopyEngine_12_4.bceCmdAt (w_BlockCopyEngine_12_4.bcePtr)) = false ∧
      ((w_BlockCopyEngine_12_4.bceCmdAt (w_BlockCopyEngine_12_4.bcePtr)).op) = 4) ∧
    (w_BlockCopyEngine_0.coreOn = true ∧ w_BlockCopyEngine_0.get BCE_STATUS_STATE = 1 ∧ (w_BlockCopyEngine_0.bcePtr) % 64 = 0 ∧
      (w_BlockCopyEngine_0.bcePtr) < memSize ∧ w_BlockCopyEngine_0.poisonedIn (w_BlockCopyEngine_0.bcePtr) 64 = false ∧
      (w_BlockCopyEngine_0.bceCmdAt (w_BlockCopyEngine_0.bcePtr)).op = 0 ∧
      w_BlockCopyEngine_0.bceReady (w_BlockCopyEngine_0.bceCmdAt (w_BlockCopyEngine_0.bcePtr)) = true) ∧
    (w_BlockCopyEngine_14.coreOn = true ∧ w_BlockCopyEngine_14.get BCE_STATUS_STATE = 1 ∧ (w_BlockCopyEngine_14.bcePtr) % 64 = 0 ∧
      (w_BlockCopyEngine_14.bcePtr) < memSize ∧ w_BlockCopyEngine_14.poisonedIn (w_BlockCopyEngine_14.bcePtr) 64 = false ∧
      (w_BlockCopyEngine_14.bceCmdAt (w_BlockCopyEngine_14.bcePtr)).op = 1 ∧
      w_BlockCopyEngine_14.bceReady (w_BlockCopyEngine_14.bceCmdAt (w_BlockCopyEngine_14.bcePtr)) = true ∧
      w_BlockCopyEngine_14.bceError (w_BlockCopyEngine_14.bceCmdAt (w_BlockCopyEngine_14.bcePtr)) = 0) ∧
    (w_BlockCopyEngine_15.coreOn = true ∧ w_BlockCopyEngine_15.get BCE_STATUS_STATE = 1 ∧ (w_BlockCopyEngine_15.bcePtr) % 64 = 0 ∧
      (w_BlockCopyEngine_15.bcePtr) < memSize ∧ w_BlockCopyEngine_15.poisonedIn (w_BlockCopyEngine_15.bcePtr) 64 = false ∧
      (w_BlockCopyEngine_15.bceCmdAt (w_BlockCopyEngine_15.bcePtr)).op = 2 ∧
      w_BlockCopyEngine_15.bceReady (w_BlockCopyEngine_15.bceCmdAt (w_BlockCopyEngine_15.bcePtr)) = true ∧
      w_BlockCopyEngine_15.bceError (w_BlockCopyEngine_15.bceCmdAt (w_BlockCopyEngine_15.bcePtr)) = 0) :=
  ⟨by decide +kernel,
   by decide +kernel,
   by decide +kernel,
   by decide +kernel,
   by decide +kernel,
   by decide +kernel,
   by decide +kernel,
   by decide +kernel,
   by decide +kernel,
   by decide +kernel,
   by decide +kernel,
   by decide +kernel⟩
theorem test_block_copy_engine_witness_3 :
    (w_BlockCopyEngine_16.coreOn = true ∧ w_BlockCopyEngine_16.get BCE_STATUS_STATE = 1 ∧ (w_BlockCopyEngine_16.bcePtr) % 64 = 0 ∧
      (w_BlockCopyEngine_16.bcePtr) < memSize ∧ w_BlockCopyEngine_16.poisonedIn (w_BlockCopyEngine_16.bcePtr) 64 = false ∧
      (w_BlockCopyEngine_16.bceCmdAt (w_BlockCopyEngine_16.bcePtr)).op = 3 ∧
      w_BlockCopyEngine_16.bceReady (w_BlockCopyEngine_16.bceCmdAt (w_BlockCopyEngine_16.bcePtr)) = true ∧
      (w_BlockCopyEngine_16.bceCmdAt (w_BlockCopyEngine_16.bcePtr)).src % 64 = 0 ∧
      (w_BlockCopyEngine_16.bceCmdAt (w_BlockCopyEngine_16.bcePtr)).src < memSize) ∧
    (w_BlockCopyEngine_8_0.coreOn = true ∧ w_BlockCopyEngine_8_0.get BCE_STATUS_STATE = 1 ∧ (w_BlockCopyEngine_8_0.bcePtr) % 64 = 0 ∧
      (w_BlockCopyEngine_8_0.bcePtr) < memSize ∧ w_BlockCopyEngine_8_0.poisonedIn (w_BlockCopyEngine_8_0.bcePtr) 64 = false ∧
      (w_BlockCopyEngine_8_0.bceCmdAt (w_BlockCopyEngine_8_0.bcePtr)).op = 4 ∧
      w_BlockCopyEngine_8_0.bceReady (w_BlockCopyEngine_8_0.bceCmdAt (w_BlockCopyEngine_8_0.bcePtr)) = true) :=
  ⟨by decide +kernel,
   by decide +kernel⟩
def w_CheckAndDictionaryUnits_0 : State := { tOn with sup := { tOn.sup with cku := some tCku } }
def w_CheckAndDictionaryUnits_1 : State := tPut [((CKU_CTX_CFG_IMAGE 0), 1)] ({ tOn with sup := { tOn.sup with cku := none } })
def w_CheckAndDictionaryUnits_2_0 : State := tPut [((CKU_CTX_CFG_IMAGE 0), 0)] ({ tOn with sup := { tOn.sup with cku := none } })
def w_CheckAndDictionaryUnits_3 : State := tWr [(CKU_JOB_LEN, 1)] (tOn)
def w_CheckAndDictionaryUnits_3_s1 : State := ((w_CheckAndDictionaryUnits_3.put CKU_JOB_STATUS_STATE 1).put CKU_JOB_STATUS_ERR 0).put CKU_JOB_STATUS_MATCH 0
def w_CheckAndDictionaryUnits_4 : State := tPut [(⟨CKU_CTRL, 0, 0⟩, 1)] ({ tOn with sup := { tOn.sup with cku := some tCku } })
def w_CheckAndDictionaryUnits_4_s1 : State := { w_CheckAndDictionaryUnits_4 with sup := { w_CheckAndDictionaryUnits_4.sup with cku := none } }
def w_CheckAndDictionaryUnits_5 : State := tWr [(CKU_CTRL, 1)] ({ tOn with sup := { tOn.sup with cku := some tCku }, poison := [0] })
def w_CheckAndDictionaryUnits_5_s1 : State :=
      State.notePoisonRead { w_CheckAndDictionaryUnits_5 with sup := { w_CheckAndDictionaryUnits_5.sup with cku := none } } 17
def w_CheckAndDictionaryUnits_6 : State := { tOn with sup := { tOn.sup with cku := none } }
def w_CheckAndDictionaryUnits_7 : State := tPut [((CKU_CTX_CFG_IMAGE 15), 0)] (tOn)
def w_CheckAndDictionaryUnits_9 : State := tPut [((CKU_CTX_CFG_IMAGE 15), 1)] (tOn)
def w_CheckAndDictionaryUnits_10 : State := tPut [(DCO_STATUS_STATE, 1)] (tOn)
def w_CheckAndDictionaryUnits_11 : State := tPut [(DCO_STATUS_STATE, 0)] (tOn)
def w_CheckAndDictionaryUnits_12_0 : State := tWr [(DCO_IN_HI, 15), (DCO_IN_LEN_HI, 15)] (tOn)
def w_CheckAndDictionaryUnits_12_1 : State := tWr [(DCO_OUT_LEN_LO, 1), (DCO_OUT_LO, 64)] (tOn)
def w_CheckAndDictionaryUnits_13 : State := tPut [(DCO_STATUS_STATE, 3)] ({ tOn with sup := { tOn.sup with dco := some (tDco true 1) } })
def w_CheckAndDictionaryUnits_13_s1 : State :=
      ((w_CheckAndDictionaryUnits_13.put DCO_STATUS_STATE 1).put DCO_STATUS_ERR 0).dcoShow { (tDco true 1) with outDone := 0 }
def w_CheckAndDictionaryUnits_15 : State := w_CheckAndDictionaryUnits_10.put DCO_STATUS_STATE 5
def w_CheckAndDictionaryUnits_17 : State := tDcoRun 1 0 (tDco true 1)
def w_CheckAndDictionaryUnits_17_s1 : State :=
      ((w_CheckAndDictionaryUnits_17.dcoStore ((w_CheckAndDictionaryUnits_17.dcoOutcome (tDco true 1)).1) ((w_CheckAndDictionaryUnits_17.dcoOutcome (tDco true 1)).2.1)).put DCO_STATUS_STATE 3).raise 769 0
def w_CheckAndDictionaryUnits_18 : State := tDcoRun 1 64 (tDco true 0)
def w_CheckAndDictionaryUnits_18_s1 : State :=
      ((w_CheckAndDictionaryUnits_18.dcoStore ((w_CheckAndDictionaryUnits_18.dcoOutcome (tDco true 0)).1) ((w_CheckAndDictionaryUnits_18.dcoOutcome (tDco true 0)).2.1)).put DCO_STATUS_STATE 2).raise 768 0
def w_CheckAndDictionaryUnits_19 : State := tDcoRun 1 64 (tDco false 0)
def w_CheckAndDictionaryUnits_20 : State := { tDcoRun 1 64 (tDco true 1) with poison := [0] }
theorem test_check_and_dictionary_units_witness_1 :
    (w_CheckAndDictionaryUnits_0.reaches CKU_JOB_CMD ∧ w_CheckAndDictionaryUnits_0.sup.cku = some tCku) ∧
    (w_CheckAndDictionaryUnits_1.reaches CKU_JOB_CMD ∧ w_CheckAndDictionaryUnits_1.sup.cku = none ∧
      w_CheckAndDictionaryUnits_1.on (CKU_CTX_CFG_IMAGE 0) = true) ∧
    (w_CheckAndDictionaryUnits_2_0.reaches CKU_JOB_CMD ∧ w_CheckAndDictionaryUnits_2_0.sup.cku = none ∧
      w_CheckAndDictionaryUnits_2_0.on (CKU_CTX_CFG_IMAGE 0) = false ∧ ((w_CheckAndDictionaryUnits_2_0.rdN CKU_JOB_LEN) = 0 ∨
      memSize < (w_CheckAndDictionaryUnits_2_0.addr36 CKU_JOB_ADDR_LO CKU_JOB_ADDR_HI) + (w_CheckAndDictionaryUnits_2_0.rdN CKU_JOB_LEN))) ∧
    (w_CheckAndDictionaryUnits_2_0.reaches CKU_JOB_CMD ∧ w_CheckAndDictionaryUnits_2_0.sup.cku = none ∧
      w_CheckAndDictionaryUnits_2_0.on (CKU_CTX_CFG_IMAGE 0) = false ∧
      (w_CheckAndDictionaryUnits_2_0.rdN CKU_JOB_LEN) < crcBytes (w_CheckAndDictionaryUnits_2_0.ckuPoly 0)) ∧
    (w_CheckAndDictionaryUnits_3.reaches CKU_JOB_CMD ∧ w_CheckAndDictionaryUnits_3.sup.cku = none ∧
      w_CheckAndDictionaryUnits_3.on (CKU_CTX_CFG_IMAGE 0) = false ∧ 0 < (w_CheckAndDictionaryUnits_3.rdN CKU_JOB_LEN) ∧
      (w_CheckAndDictionaryUnits_3.addr36 CKU_JOB_ADDR_LO CKU_JOB_ADDR_HI) + (w_CheckAndDictionaryUnits_3.rdN CKU_JOB_LEN) ≤ memSize) ∧
    (w_CheckAndDictionaryUnits_4.coreOn = true ∧ w_CheckAndDictionaryUnits_4.sup.cku = some tCku ∧ w_CheckAndDictionaryUnits_4.bits CKU_CTRL 0 0 = 1 ∧
      w_CheckAndDictionaryUnits_4.poisonedIn tCku.addr tCku.len = false) ∧
    (w_CheckAndDictionaryUnits_5.coreOn = true ∧ w_CheckAndDictionaryUnits_5.sup.cku = some tCku ∧ w_CheckAndDictionaryUnits_5.bits CKU_CTRL 0 0 = 1 ∧
      w_CheckAndDictionaryUnits_5.poisonedIn tCku.addr tCku.len = true) ∧
    (w_CheckAndDictionaryUnits_6.coreOn = true ∧ (w_CheckAndDictionaryUnits_6.sup.cku = none ∨ w_CheckAndDictionaryUnits_6.bits CKU_CTRL 0 0 = 0)) ∧
    (w_CheckAndDictionaryUnits_7.reaches (CKU_CTX_RUN 15) ∧ 15 < 16 ∧ w_CheckAndDictionaryUnits_7.on (CKU_CTX_CFG_IMAGE 15) = false ∧ ((∀ j,
      w_CheckAndDictionaryUnits_7.sup.cku = some j → j.ctx ≠ 15))) ∧
    (w_CheckAndDictionaryUnits_7.reaches (CKU_CTX_CFG 15) ∧ 15 < 16 ∧ w_CheckAndDictionaryUnits_7.on (CKU_CTX_CFG_IMAGE 15) = false ∧ ((∀ j,
      w_CheckAndDictionaryUnits_7.sup.cku = some j → j.ctx ≠ 15))) ∧
    (w_CheckAndDictionaryUnits_9.reaches (if true then CKU_CTX_RUN 15 else CKU_CTX_CFG 15) ∧ 15 < 16 ∧
      (w_CheckAndDictionaryUnits_9.on (CKU_CTX_CFG_IMAGE 15) = true ∨ (∃ j, w_CheckAndDictionaryUnits_9.sup.cku = some j ∧ j.ctx = 15))) ∧
    (w_CheckAndDictionaryUnits_10.reaches DCO_CMD ∧ w_CheckAndDictionaryUnits_10.get DCO_STATUS_STATE = 1) :=
  ⟨by decide +kernel,
   by decide +kernel,
   by decide +kernel,
   by decide +kernel,
   by decide +kernel,
   by decide +kernel,
   by decide +kernel,
   by decide +kernel,
   by decide +kernel,
   by decide +kernel,
   by decide +kernel,
   by decide +kernel⟩
theorem test_check_and_dictionary_units_witness_2 :
    (w_CheckAndDictionaryUnits_11.reaches DCO_CMD ∧ w_CheckAndDictionaryUnits_11.get DCO_STATUS_STATE ≠ 1 ∧
      w_CheckAndDictionaryUnits_11.dcoIn + w_CheckAndDictionaryUnits_11.dcoInLen ≤ memSize ∧
      w_CheckAndDictionaryUnits_11.dcoOut + w_CheckAndDictionaryUnits_11.dcoOutLen ≤ memSize ∧ w_CheckAndDictionaryUnits_11.dcoOutOk = true) ∧
    (w_CheckAndDictionaryUnits_12_0.reaches DCO_CMD ∧ w_CheckAndDictionaryUnits_12_0.get DCO_STATUS_STATE ≠ 1 ∧
      (memSize < w_CheckAndDictionaryUnits_12_0.dcoIn + w_CheckAndDictionaryUnits_12_0.dcoInLen ∨
      memSize < w_CheckAndDictionaryUnits_12_0.dcoOut + w_CheckAndDictionaryUnits_12_0.dcoOutLen)) ∧
    (w_CheckAndDictionaryUnits_12_1.reaches DCO_CMD ∧ w_CheckAndDictionaryUnits_12_1.get DCO_STATUS_STATE ≠ 1 ∧
      w_CheckAndDictionaryUnits_12_1.dcoIn + w_CheckAndDictionaryUnits_12_1.dcoInLen ≤ memSize ∧
      w_CheckAndDictionaryUnits_12_1.dcoOut + w_CheckAndDictionaryUnits_12_1.dcoOutLen ≤ memSize ∧ w_CheckAndDictionaryUnits_12_1.dcoOutOk = false) ∧
    (w_CheckAndDictionaryUnits_13.reaches DCO_CMD ∧ w_CheckAndDictionaryUnits_13.get DCO_STATUS_STATE = 3 ∧
      w_CheckAndDictionaryUnits_13.sup.dco = some (tDco true 1) ∧ w_CheckAndDictionaryUnits_13.dcoOut + w_CheckAndDictionaryUnits_13.dcoOutLen ≤ memSize ∧
      w_CheckAndDictionaryUnits_13.dcoOutOk = true) ∧
    (w_CheckAndDictionaryUnits_11.reaches DCO_CMD ∧ w_CheckAndDictionaryUnits_11.get DCO_STATUS_STATE ≠ 1 ∧
      (w_CheckAndDictionaryUnits_11.get DCO_STATUS_STATE ≠ 3 ∨ w_CheckAndDictionaryUnits_11.sup.dco = none)) ∧
    (w_CheckAndDictionaryUnits_10.reaches DCO_CMD ∧ (w_CheckAndDictionaryUnits_10.get DCO_STATUS_STATE = 1 ∨
      w_CheckAndDictionaryUnits_10.get DCO_STATUS_STATE = 3)) ∧
    (w_CheckAndDictionaryUnits_11.reaches DCO_CMD ∧ w_CheckAndDictionaryUnits_11.get DCO_STATUS_STATE ≠ 1 ∧
      w_CheckAndDictionaryUnits_11.get DCO_STATUS_STATE ≠ 3) ∧
    (w_CheckAndDictionaryUnits_17.coreOn = true ∧ w_CheckAndDictionaryUnits_17.sup.dco = some (tDco true 1) ∧
      w_CheckAndDictionaryUnits_17.get DCO_STATUS_STATE = 1 ∧
      w_CheckAndDictionaryUnits_17.dcoOutcome (tDco true 1) = (((w_CheckAndDictionaryUnits_17.dcoOutcome (tDco true 1)).1),
      ((w_CheckAndDictionaryUnits_17.dcoOutcome (tDco true 1)).2.1), .full) ∧
      w_CheckAndDictionaryUnits_17.dcoHitsPoison (tDco true 1) ((w_CheckAndDictionaryUnits_17.dcoOutcome (tDco true 1)).2.1) = false ∧
      w_CheckAndDictionaryUnits_17.dcoOutOk = true) ∧
    (w_CheckAndDictionaryUnits_18.coreOn = true ∧ w_CheckAndDictionaryUnits_18.sup.dco = some (tDco true 0) ∧
      w_CheckAndDictionaryUnits_18.get DCO_STATUS_STATE = 1 ∧
      w_CheckAndDictionaryUnits_18.dcoOutcome (tDco true 0) = (((w_CheckAndDictionaryUnits_18.dcoOutcome (tDco true 0)).1),
      ((w_CheckAndDictionaryUnits_18.dcoOutcome (tDco true 0)).2.1), .done) ∧
      w_CheckAndDictionaryUnits_18.dcoHitsPoison (tDco true 0) ((w_CheckAndDictionaryUnits_18.dcoOutcome (tDco true 0)).2.1) = false ∧
      w_CheckAndDictionaryUnits_18.dcoOutOk = true) ∧
    (w_CheckAndDictionaryUnits_19.coreOn = true ∧ w_CheckAndDictionaryUnits_19.sup.dco = some (tDco false 0) ∧
      w_CheckAndDictionaryUnits_19.get DCO_STATUS_STATE = 1 ∧
      w_CheckAndDictionaryUnits_19.dcoOutcome (tDco false 0) = (((w_CheckAndDictionaryUnits_19.dcoOutcome (tDco false 0)).1),
      ((w_CheckAndDictionaryUnits_19.dcoOutcome (tDco false 0)).2.1), .failed) ∧
      w_CheckAndDictionaryUnits_19.dcoHitsPoison (tDco false 0) ((w_CheckAndDictionaryUnits_19.dcoOutcome (tDco false 0)).2.1) = false ∧
      w_CheckAndDictionaryUnits_19.dcoOutOk = true) ∧
    (w_CheckAndDictionaryUnits_20.coreOn = true ∧ w_CheckAndDictionaryUnits_20.sup.dco = some (tDco true 1) ∧
      w_CheckAndDictionaryUnits_20.get DCO_STATUS_STATE = 1 ∧
      w_CheckAndDictionaryUnits_20.dcoOutcome (tDco true 1) = (((w_CheckAndDictionaryUnits_20.dcoOutcome (tDco true 1)).1),
      ((w_CheckAndDictionaryUnits_20.dcoOutcome (tDco true 1)).2.1), ((w_CheckAndDictionaryUnits_20.dcoOutcome (tDco true 1)).2.2)) ∧
      w_CheckAndDictionaryUnits_20.dcoHitsPoison (tDco true 1) ((w_CheckAndDictionaryUnits_20.dcoOutcome (tDco true 1)).2.1) = true) :=
  ⟨by decide +kernel,
   by decide +kernel,
   by decide +kernel,
   by decide +kernel,
   by decide +kernel,
   by decide +kernel,
   by decide +kernel,
   by decide +kernel,
   by decide +kernel,
   by decide +kernel,
   by decide +kernel⟩
theorem test_software_raise_witness :
    (tOn.reaches EVC_SW_RAISE ∧ EVC_SW_RAISE_CLASS.ext (0x71F#32) ≠ 0) ∧
    (tOn.reaches EVC_SW_RAISE ∧ EVC_SW_RAISE_CLASS.ext (0#32) = 0) ∧
    (((∀ r ∈ tOn.evc.raised, r.source ≠ 0))) :=
  ⟨by decide +kernel,
   by decide +kernel,
   by decide +kernel⟩
def w_EventTicksAndMessages_1 : State := { tOn with pwr := { tOn.pwr with rails := { tOn.pwr.rails with powerGood := false } } }
def w_EventTicksAndMessages_3_2 : State := { tOn with evc := { tOn.evc with raised := [{ source := 3, cls := 0, data := 0, multi := false }] } }
def w_EventTicksAndMessages_4 : State := { tOn with evc := { tOn.evc with waiting := ([tEntry]) :: ([] : List (List EvEntry)) } }
def w_EventTicksAndMessages_4_s1 : State :=
      { w_EventTicksAndMessages_4 with evc := { w_EventTicksAndMessages_4.evc with waiting := ([] : List (List EvEntry)) } }
def w_EventTicksAndMessages_4_s2 : State :=
      ((List.range ([tEntry]).length).zip ([tEntry])).foldl (fun st ie => st.memWrite 15 ((w_EventTicksAndMessages_4.addr36 EVC_RING_LO EVC_RING_HI) + 32 * (((w_EventTicksAndMessages_4.rdN EVC_RING_WR) + ie.1) % 4096)) ie.2.bytes) w_EventTicksAndMessages_4_s1
def w_EventTicksAndMessages_4_s3 : State :=
      (w_EventTicksAndMessages_4_s2.wrN EVC_RING_WR (((w_EventTicksAndMessages_4.rdN EVC_RING_WR) + ([tEntry]).length) % 2 ^ 32)).wrN EVC_RECORD_CNT (w_EventTicksAndMessages_4_s2.rdN EVC_RECORD_CNT + 1)
def w_EventTicksAndMessages_5 : State := { tOn with evc := { tOn.evc with waiting := [] } }
def w_EventTicksAndMessages_7 : State := tWr [(EVC_CLASS_MOD 7, 1)] ({ tOn with evc := { tOn.evc with lastMsg := List.replicate 8 (some 0) } })
def w_EventTicksAndMessages_10 : State := tPut [(CSU_STATUS_IMAGE_VALID, 1)] (tOn)
def w_EventTicksAndMessages_11 : State := tPut [(EVC_CTRL_RING_EN, 1)] (tOn)
theorem test_event_ticks_and_messages_witness_1 :
    (w_ConfigurationRequests_0.pwr.rails.powerGood = true) ∧
    (w_EventTicksAndMessages_1.pwr.rails.powerGood = false) ∧
    (tOn.recordable = []) ∧
    (w_EventTicksAndMessages_3_2.recordable ≠ []) ∧
    (w_EventTicksAndMessages_4.coreOn = true ∧ w_EventTicksAndMessages_4.evc.waiting = ([tEntry]) :: ([] : List (List EvEntry))) ∧
    (w_EventTicksAndMessages_5.coreOn = true ∧ w_EventTicksAndMessages_5.evc.waiting = []) ∧
    (tOn.coreOn = true ∧ tOn.moderated 0 = false) ∧
    (w_EventTicksAndMessages_7.coreOn = true ∧ w_EventTicksAndMessages_7.moderated 7 = true) ∧
    (tOn.reaches EVC_EARLY_POP) ∧
    (tOn.reaches EVC_CTRL ∧ EVC_CTRL_RING_EN.ext (0#32) = 0) ∧
    (w_EventTicksAndMessages_10.reaches EVC_CTRL ∧ EVC_CTRL_RING_EN.ext (1#32) = 1 ∧ w_EventTicksAndMessages_10.on EVC_CTRL_RING_EN = false ∧
      w_EventTicksAndMessages_10.on CSU_STATUS_IMAGE_VALID = true) ∧
    (w_EventTicksAndMessages_11.reaches EVC_CTRL ∧ EVC_CTRL_RING_EN.ext (1#32) = 1 ∧ (w_EventTicksAndMessages_11.on EVC_CTRL_RING_EN = true ∨
      w_EventTicksAndMessages_11.on CSU_STATUS_IMAGE_VALID = false)) :=
  ⟨by decide +kernel,
   by decide +kernel,
   by decide +kernel,
   by decide +kernel,
   by decide +kernel,
   by decide +kernel,
   by decide +kernel,
   by decide +kernel,
   by decide +kernel,
   by decide +kernel,
   by decide +kernel,
   by decide +kernel⟩
theorem test_event_ticks_and_messages_witness_2 :
    (tOn.reaches EVC_TICK) ∧
    (255 < 256 ∧ tOn.reaches (MSIX_TABLE (4 * 255 + 3))) ∧
    (w_ConfigurationRequests_0.pwr.rails.powerGood = true) :=
  ⟨by decide +kernel,
   by decide +kernel,
   by decide +kernel⟩
def w_SleepAndWake_2 : State := tWr [(PWR_STATE, 1)] (tOn)
def w_SleepAndWake_2_s1 : State := (w_SleepAndWake_2.wrN PWR_STATE 2).askHold 1
def w_SleepAndWake_3 : State := tPut [(EHL_CFG_PAIR_DEEP, 1)] (tWr [(PWR_STATE, 1)] (tOn))
def w_SleepAndWake_3_s1 : State := (w_SleepAndWake_3.wrN PWR_STATE 2).askHold 1
def w_SleepAndWake_5 : State := tPut [(SPL_STATUS_HOLD, 1)] (tWr [(PWR_STATE, 2)] (tOn))
def w_SleepAndWake_6 : State := tPut [(SPL_STATUS_HOLD, 1)] (tWr [(PWR_STATE, 4), (PWR_WAKE_CAUSE, 2 ^ wakeHost)] (tOn))
def w_SleepAndWake_8_2 : State := { tOn with pwr := { tOn.pwr with deep := false } }
def w_SleepAndWake_9 : State := { tOn with pwr := { tOn.pwr with deep := true } }
def w_SleepAndWake_11_0 : State := tWr [(PWR_WAKE_EN, 0)] (tOn)
def w_SleepAndWake_11_1 : State := tPut [(⟨PWR_STATE, 2, 0⟩, 2)] (tOn)
def w_SleepAndWake_11_1_s1 : State := (w_SleepAndWake_11_1.wrN PWR_WAKE_CAUSE (2 ^ 0)).put ⟨PWR_STATE, 2, 0⟩ 4
def w_SleepAndWake_11_2 : State := tPut [(⟨PWR_STATE, 2, 0⟩, 4)] (tOn)
def w_SleepAndWake_12 : State := tWr [(PWR_STATE, 5), (PWR_WAKE_EN, 0xFFFFFFFF)] (tOn)
def w_SleepAndWake_15 : State := tWr [(PWR_STATE, 4)] ({ tOn with pwr := { tOn.pwr with woken := true } })
def w_SleepAndWake_15_s2 : State := (((w_SleepAndWake_15.wakeStep).parkEngines).put ⟨PWR_STATE, 2,
      0⟩ 1).wrN PWR_WAKE_TIME ((w_SleepAndWake_15.wakeStep).usSince (w_SleepAndWake_15.wakeStep).pwr.wakeStart % 2 ^ 24)
def w_SleepAndWake_17 : State := tPut [(⟨PWR_STATE, 2, 0⟩, 0)] ({ tOn with pwr := { tOn.pwr with rails := { tOn.pwr.rails with powerGood := true } } })
def w_SleepAndWake_17_s1 : State := w_SleepAndWake_17.putBit PWR_PLL_STATUS 16 false
def w_SleepAndWake_18 : State := { tOn with pwr := { tOn.pwr with pllRetry := 2 ^ 16 } }
def w_SleepAndWake_18_s1 : State := w_SleepAndWake_18.putBit PWR_PLL_STATUS 16 false
def w_SleepAndWake_19 : State := tPut [(⟨PWR_STATE, 2, 0⟩, 1)] ({ tOn with pwr := { tOn.pwr with rails := { tOn.pwr.rails with powerGood := true } } })
def w_SleepAndWake_20 : State := tOn.wrN PWR_CH_GATE ((0#32).toNat % 16)
def w_SleepAndWake_21 : State := tWr [(PWR_STATE, 3)] (tOn)
def w_SleepAndWake_22 : State := tPut [(PWR_KETTLE_STATUS_RESUME_HELD, 1)] (tOn)
def w_SleepAndWake_23 : State := tPut [(PWR_KETTLE_STATUS_RESUME_HELD, 0)] (tOn)
theorem test_sleep_and_wake_witness_1 :
    (tOn.reaches PWR_CMD ∧ tOn.sleepRefusal false false = some 1) ∧
    (tOn.reaches PWR_CMD ∧ tOn.sleepRefusal true false = some 1) ∧
    (w_SleepAndWake_2.reaches PWR_CMD ∧ w_SleepAndWake_2.sleepRefusal false false = none) ∧
    (w_SleepAndWake_3.reaches PWR_CMD ∧ w_SleepAndWake_3.sleepRefusal true false = none ∧ w_SleepAndWake_3_s1.on EHL_CFG_PAIR_DEEP = true) ∧
    (w_SleepAndWake_2.reaches PWR_CMD ∧ w_SleepAndWake_2.sleepRefusal true false = none ∧ w_SleepAndWake_2_s1.on EHL_CFG_PAIR_DEEP = false) ∧
    (w_SleepAndWake_5.coreOn = true ∧ w_SleepAndWake_5.entryReady = true ∧ w_SleepAndWake_5.pwrState = 2) ∧
    (w_SleepAndWake_6.coreOn = true ∧ w_SleepAndWake_6.entryReady = true ∧ w_SleepAndWake_6.pwrState ≠ 2 ∧ w_SleepAndWake_6.wokenThisTick = true) ∧
    (tOn.coreOn = true ∧ (tOn.entryReady = false ∨ (tOn.pwrState ≠ 2 ∧ tOn.wokenThisTick = false))) ∧
    (w_SleepAndWake_8_2.pwr.deep = false ∧ ((tOn.finishEntry).eng 0) ∈ (w_SleepAndWake_8_2.finishEntry).engines) ∧
    (w_SleepAndWake_8_2.pwr.deep = false ∧ ((tOn.finishEntry).chan 0) ∈ (w_SleepAndWake_8_2.finishEntry).chans) ∧
    (w_SleepAndWake_8_2.pwr.deep = false) ∧
    (w_SleepAndWake_9.pwr.deep = true) :=
  ⟨by decide +kernel,
   by decide +kernel,
   by decide +kernel,
   by decide +kernel,
   by decide +kernel,
   by decide +kernel,
   by decide +kernel,
   by decide +kernel,
   by decide +kernel,
   by decide +kernel,
   by decide +kernel,
   by decide +kernel⟩
theorem test_sleep_and_wake_witness_2 :
    (tOn.reaches PWR_CMD) ∧
    (bitAt (w_SleepAndWake_11_0.rdN PWR_WAKE_EN) 0 = false) ∧
    (bitAt (w_SleepAndWake_11_1.rdN PWR_WAKE_EN) 0 = true ∧ (w_SleepAndWake_11_1.pwrState = 2 ∨ w_SleepAndWake_11_1.pwrState = 3)) ∧
    (bitAt (w_SleepAndWake_11_2.rdN PWR_WAKE_EN) 0 = true ∧ w_SleepAndWake_11_2.pwrState = 4) ∧
    ((tOn.pwrState < 2 ∨ 4 < tOn.pwrState)) ∧
    (w_SleepAndWake_12.pwr.rails.powerGood = true ∧ w_SleepAndWake_12.pwrState = 5 ∧ bitAt (w_SleepAndWake_12.rdN PWR_WAKE_EN) Machine.wakePin = true ∧
      w_SleepAndWake_12.pwr.rails.waiting = false) ∧
    (w_MemorySubsystem_11.pwr.rails.powerGood = true ∧ w_MemorySubsystem_11.pwrState = 5 ∧
      (bitAt (w_MemorySubsystem_11.rdN PWR_WAKE_EN) Machine.wakePin = false ∨ w_MemorySubsystem_11.pwr.rails.waiting = true)) ∧
    (w_ConfigurationRequests_0.pwr.rails.powerGood = true ∧ w_ConfigurationRequests_0.pwrState ≠ 5) ∧
    (w_SleepAndWake_15.pwr.rails.powerGood = true ∧ (w_SleepAndWake_15.wakeStep).pwrState = 4 ∧ (w_SleepAndWake_15.wakeStep).pwr.woken = true) ∧
    (w_ConfigurationRequests_0.pwr.rails.powerGood = true ∧ (w_ConfigurationRequests_0.wakeStep.pwrState ≠ 4 ∨
      w_ConfigurationRequests_0.wakeStep.pwr.woken = false)) ∧
    (w_SleepAndWake_17.pwr.rails.powerGood = true ∧ 16 < 17 ∧ (w_SleepAndWake_17.pwrState = 0 ∨ w_SleepAndWake_17.pwrState = 4) ∧
      bitAt w_SleepAndWake_17.pwr.pllRetry 16 = false) ∧
    (w_SleepAndWake_18.pwr.rails.powerGood = true ∧ 16 < 17 ∧ (w_SleepAndWake_18.pwrState = 0 ∨ w_SleepAndWake_18.pwrState = 4) ∧
      bitAt w_SleepAndWake_18.pwr.pllRetry 16 = true) :=
  ⟨by decide +kernel,
   by decide +kernel,
   by decide +kernel,
   by decide +kernel,
   by decide +kernel,
   by decide +kernel,
   by decide +kernel,
   by decide +kernel,
   by decide +kernel,
   by decide +kernel,
   by decide +kernel,
   by decide +kernel⟩
theorem test_sleep_and_wake_witness_3 :
    (w_SleepAndWake_19.pwr.rails.powerGood = true ∧ w_SleepAndWake_19.pwrState ≠ 0 ∧ w_SleepAndWake_19.pwrState ≠ 4) ∧
    (tOn.reaches PWR_CH_GATE ∧ tOn.pwrState ≤ 2) ∧
    (w_SleepAndWake_21.reaches PWR_CH_GATE ∧ 2 < w_SleepAndWake_21.pwrState) ∧
    (w_SleepAndWake_22.reaches PWR_CMD ∧ w_SleepAndWake_22.on PWR_KETTLE_STATUS_RESUME_HELD = true) ∧
    (w_SleepAndWake_23.reaches PWR_CMD ∧ w_SleepAndWake_23.on PWR_KETTLE_STATUS_RESUME_HELD = false) :=
  ⟨by decide +kernel,
   by decide +kernel,
   by decide +kernel,
   by decide +kernel,
   by decide +kernel⟩
def w_HeatAndStops_1 : State := { tOn with pwr := { tOn.pwr with rails := { tOn.pwr.rails with powerGood := true }, sampling := true } }
def w_HeatAndStops_1_s0 : State := State.showSites { w_HeatAndStops_1 with pwr := { w_HeatAndStops_1.pwr with sampling := false } } (List.replicate 24 ⟨0, 40,
      true⟩)
def w_HeatAndStops_2 : State := State.showSites { w_HeatAndStops_1 with pwr := { w_HeatAndStops_1.pwr with sampling := false } } (List.replicate 19 ⟨0, 40,
      true⟩)
def w_HeatAndStops_3 : State := State.showSites { w_HeatAndStops_1 with pwr := { w_HeatAndStops_1.pwr with sampling := false } } ([] : List SiteReading)
def w_HeatAndStops_4 : State := { tOn with pwr := { tOn.pwr with rails := { tOn.pwr.rails with powerGood := true }, sampling := false } }
def w_HeatAndStops_5 : State := { tOn with pwr := { tOn.pwr with rails := { tOn.pwr.rails with powerGood := true }, throttle := true }, now := 10 ^ 12 }
def w_HeatAndStops_6 : State := { tOn with pwr := { tOn.pwr with rails := { tOn.pwr.rails with powerGood := true }, throttle := true } }
def w_HeatAndStops_7 : State := tPut [(PWR_KETTLE_STATUS_STAGE, 1)] ({ tOn with now := 10 ^ 12 })
def w_HeatAndStops_8 : State := tPut [(PWR_KETTLE_STATUS_STAGE,
      0)] ({ tOn with pwr := { tOn.pwr with rails := { tOn.pwr.rails with powerGood := true }, throttle := false } })
def w_HeatAndStops_9 : State := tPut [(⟨PWR_STATE, 2, 0⟩,
      6)] ({ tOn with pwr := { tOn.pwr with rails := { tOn.pwr.rails with powerGood := true }, coolSince := some 0 }, now := 10 ^ 12 })
def w_HeatAndStops_9_s1 : State := w_HeatAndStops_9.setRails (fun r => { r with enHbm := true, enSds := true, pgHbm := true, pgSds := true })
def w_HeatAndStops_11 : State := { tOn with pwr := { tOn.pwr with rails := { tOn.pwr.rails with powerGood := true }, coolSince := some 0 } }
theorem test_heat_and_stops_witness :
    (w_ConfigurationRequests_0.pwr.rails.powerGood = true) ∧
    (w_HeatAndStops_1.pwr.rails.powerGood = true ∧ w_HeatAndStops_1.pwr.sampling = true ∧ hottest (List.replicate 24 ⟨0, 40, true⟩) = some 0 ∧
      20 ≤ ((validSites (List.replicate 24 ⟨0, 40, true⟩)).length)) ∧
    (w_HeatAndStops_1.pwr.rails.powerGood = true ∧ w_HeatAndStops_1.pwr.sampling = true ∧ hottest (List.replicate 19 ⟨0, 40, true⟩) = some 0 ∧
      ((validSites (List.replicate 19 ⟨0, 40, true⟩)).length) < 20) ∧
    (w_HeatAndStops_1.pwr.rails.powerGood = true ∧ w_HeatAndStops_1.pwr.sampling = true ∧ hottest ([] : List SiteReading) = none ∧
      ((validSites ([] : List SiteReading)).length) < 20) ∧
    (w_HeatAndStops_4.pwr.rails.powerGood = true ∧ w_HeatAndStops_4.pwr.sampling = false) ∧
    (w_HeatAndStops_5.pwr.rails.powerGood = true ∧ w_HeatAndStops_5.pwr.throttle = true ∧ w_HeatAndStops_5.get PWR_KETTLE_STATUS_STAGE < 5 ∧
      w_HeatAndStops_5.pwr.stageAt + w_HeatAndStops_5.stepHalfNs < w_HeatAndStops_5.now + w_HeatAndStops_5.tickHalfNs) ∧
    (w_HeatAndStops_6.pwr.rails.powerGood = true ∧ w_HeatAndStops_6.pwr.throttle = true ∧ (5 ≤ w_HeatAndStops_6.get PWR_KETTLE_STATUS_STAGE ∨
      w_HeatAndStops_6.now + w_HeatAndStops_6.tickHalfNs ≤ w_HeatAndStops_6.pwr.stageAt + w_HeatAndStops_6.stepHalfNs)) ∧
    (w_HeatAndStops_7.pwr.rails.powerGood = true ∧ w_HeatAndStops_7.pwr.throttle = false ∧ 0 < w_HeatAndStops_7.get PWR_KETTLE_STATUS_STAGE ∧
      w_HeatAndStops_7.pwr.stageAt + 10 * w_HeatAndStops_7.stepHalfNs < w_HeatAndStops_7.now + w_HeatAndStops_7.tickHalfNs) ∧
    (w_HeatAndStops_8.pwr.rails.powerGood = true ∧ w_HeatAndStops_8.pwr.throttle = false ∧ (w_HeatAndStops_8.get PWR_KETTLE_STATUS_STAGE = 0 ∨
      w_HeatAndStops_8.now + w_HeatAndStops_8.tickHalfNs ≤ w_HeatAndStops_8.pwr.stageAt + 10 * w_HeatAndStops_8.stepHalfNs)) ∧
    (w_HeatAndStops_9.pwr.rails.powerGood = true ∧ w_HeatAndStops_9.pwr.coolSince = some 0 ∧ w_HeatAndStops_9.pwrState = 6 ∧
      0 + 20000000000 < w_HeatAndStops_9.now + w_HeatAndStops_9.tickHalfNs) ∧
    (w_ConfigurationRequests_0.pwr.rails.powerGood = true ∧ (w_ConfigurationRequests_0.pwrState ≠ 6 ∨ w_ConfigurationRequests_0.pwr.coolSince = none)) ∧
    (w_HeatAndStops_11.pwr.rails.powerGood = true ∧ w_HeatAndStops_11.pwr.coolSince = some 0 ∧
      w_HeatAndStops_11.now + w_HeatAndStops_11.tickHalfNs ≤ 0 + 20000000000) :=
  ⟨by decide +kernel,
   by decide +kernel,
   by decide +kernel,
   by decide +kernel,
   by decide +kernel,
   by decide +kernel,
   by decide +kernel,
   by decide +kernel,
   by decide +kernel,
   by decide +kernel,
   by decide +kernel,
   by decide +kernel⟩
def w_EhrusMessages_1 : State := tPair pairPrimary id
def w_EhrusMessages_3 : State := tPair pairSecondary id
def w_EhrusMessages_3_u : State := w_EhrusMessages_3.acked (tHdr 0)
def w_EhrusMessages_4_1 : State := { tPair pairSecondary id with cam := { tOn.cam with registering := some tBuilt } }
def w_EhrusMessages_4_1_u : State := w_EhrusMessages_4_1.acked (tHdr 0)
def w_EhrusMessages_5_0 : State := tPut [(EHL_STATUS_IN_SYNC, 1)] (tPair pairSecondary id)
def w_EhrusMessages_5_0_u : State := w_EhrusMessages_5_0.acked (tHdr 0)
def w_EhrusMessages_5_2 : State := tPair pairSecondary (fun e => { e with fstart := some tFstart })
def w_EhrusMessages_5_2_u : State := w_EhrusMessages_5_2.acked (tHdr 0)
def w_EhrusMessages_7_7 : State := w_EhrusMessages_1.acked (tHdr 0)
def w_EhrusMessages_7_8 : State := tChild.acked (tHdr 4)
def w_EhrusMessages_9_2 : State := tWr [(PWR_STATE, 1)] (tPair pairSecondary id)
def w_EhrusMessages_9_2_u : State := w_EhrusMessages_9_2.acked (tHdr 0)
def w_EhrusMessages_10_0 : State :=
      { w_EhrusMessages_3_u with ehl := { w_EhrusMessages_3_u.ehl with lastAlive := w_EhrusMessages_3_u.now, partnerPair := 0, partnerSync := true } }
def w_EhrusMessages_10_1 : State := tPut [(EHL_STATUS_IN_SYNC, 1)] (tPair pairPrimary id)
def w_EhrusMessages_10_1_u : State := w_EhrusMessages_10_1.acked (tHdr 0)
def w_EhrusMessages_10_1_t : State :=
      { w_EhrusMessages_10_1_u with ehl := { w_EhrusMessages_10_1_u.ehl with lastAlive := w_EhrusMessages_10_1_u.now, partnerPair := pairSecondary, partnerSync := false } }
def w_EhrusMessages_10_2 : State := tPut [(EHL_STATUS_JOINING, 1)] (tPair pairPrimary (fun e => { e with selfDone := true }))
def w_EhrusMessages_10_2_u : State := w_EhrusMessages_10_2.acked (tHdr 0)
def w_EhrusMessages_10_2_t : State :=
      { w_EhrusMessages_10_2_u with ehl := { w_EhrusMessages_10_2_u.ehl with lastAlive := w_EhrusMessages_10_2_u.now, partnerPair := 0, partnerSync := true } }
def w_EhrusMessages_10_3 : State := tPut [(EHL_STATUS_JOINING, 1)] (tPair pairPrimary id)
def w_EhrusMessages_10_3_u : State := w_EhrusMessages_10_3.acked (tHdr 0)
def w_EhrusMessages_10_3_t : State :=
      { w_EhrusMessages_10_3_u with ehl := { w_EhrusMessages_10_3_u.ehl with lastAlive := w_EhrusMessages_10_3_u.now, partnerPair := 0, partnerSync := true } }
def w_EhrusMessages_10_4 : State :=
      { w_EhrusMessages_7_7 with ehl := { w_EhrusMessages_7_7.ehl with lastAlive := w_EhrusMessages_7_7.now, partnerPair := 0, partnerSync := true } }
def w_EhrusMessages_11_3 : State := tWr [(MEM_REGION 0, 2 ^ 16)] tChild
def w_EhrusMessages_11_3_u : State := w_EhrusMessages_11_3.acked (tHdr 4)
def w_EhrusMessages_11_3_v : State := w_EhrusMessages_11_3_u.toChildren (.treset 0 0)
def w_EhrusMessages_11_3_w : State := w_EhrusMessages_11_3_u.toChildren (.tbcast 0 0 ([] : List Byte))
def w_EhrusMessages_11_4 : State := w_EhrusMessages_7_8.toChildren (.treset 0 0)
def w_EhrusMessages_11_4_w : State := w_EhrusMessages_7_8.toChildren (.tbcast 0 0 ([1]))
def w_EhrusMessages_14_0 : State := { tChild with ehl := { tChild.ehl with delay := some 0 } }
def w_EhrusMessages_14_0_u : State := w_EhrusMessages_14_0.acked (tHdr 4)
def w_EhrusMessages_15_0 : State := tPut [(EHL_CFG_TREE_EN, 1), (EHL_LANE_STATUS_STATE 15, 2)] tOn
def w_EhrusMessages_15_0_u : State := w_EhrusMessages_15_0.acked (tHdr 8)
theorem test_ehrus_messages_witness_1 :
    (messageHeader (.tstatus (tHdr 0)) = some (tHdr 0) ∧ tOn.coreOn = true ∧ (9 ≤ (tHdr 0).link ∨ tOn.ehlUp (tHdr 0).link = false)) ∧
    (messageHeader (.tstatus { tHdr 0 with crcOk := false }) = some ({ tHdr 0 with crcOk := false }) ∧ w_EhrusMessages_1.coreOn = true ∧
      ({ tHdr 0 with crcOk := false }).link < 9 ∧ w_EhrusMessages_1.ehlUp ({ tHdr 0 with crcOk := false }).link = true ∧
      ({ tHdr 0 with crcOk := false }).crcOk = false ∧ (w_EhrusMessages_1.ehlLink ({ tHdr 0 with crcOk := false }).link).naked = false) ∧
    (messageHeader (.tstatus { tHdr 0 with seq := 1 }) = some ({ tHdr 0 with seq := 1 }) ∧ w_EhrusMessages_1.coreOn = true ∧
      ({ tHdr 0 with seq := 1 }).link < 9 ∧ w_EhrusMessages_1.ehlUp ({ tHdr 0 with seq := 1 }).link = true ∧ ((({ tHdr 0 with seq := 1 }).crcOk = false ∧
      (w_EhrusMessages_1.ehlLink ({ tHdr 0 with seq := 1 }).link).naked = true) ∨ (({ tHdr 0 with seq := 1 }).crcOk = true ∧
      ({ tHdr 0 with seq := 1 }).seq ≠ (w_EhrusMessages_1.ehlLink ({ tHdr 0 with seq := 1 }).link).expect))) ∧
    (w_EhrusMessages_3.coreOn = true ∧ w_EhrusMessages_3.accepts (tHdr 0) ∧ (tHdr 0).link = 0 ∧ w_EhrusMessages_3_u.isSecondary = true) ∧
    (w_EhrusMessages_3.coreOn = true ∧ w_EhrusMessages_3.accepts (tHdr 0) ∧ (tHdr 0).link = 0 ∧ w_EhrusMessages_3_u.isSecondary = true ∧
      w_EhrusMessages_3_u.buildBusy = false) ∧
    (w_EhrusMessages_4_1.coreOn = true ∧ w_EhrusMessages_4_1.accepts (tHdr 0) ∧ (tHdr 0).link = 0 ∧ w_EhrusMessages_4_1_u.isSecondary = true ∧
      w_EhrusMessages_4_1_u.buildBusy = true) ∧
    (w_EhrusMessages_5_0.coreOn = true ∧ w_EhrusMessages_5_0.accepts (tHdr 0) ∧ (tHdr 0).link = 0 ∧ w_EhrusMessages_5_0_u.isSecondary = true ∧
      (w_EhrusMessages_5_0_u.on EHL_STATUS_IN_SYNC = true ∨ tFstart.full = true)) ∧
    (w_EhrusMessages_3.coreOn = true ∧ w_EhrusMessages_3.accepts (tHdr 0) ∧ (tHdr 0).link = 0 ∧ w_EhrusMessages_3_u.isSecondary = true ∧
      w_EhrusMessages_3_u.on EHL_STATUS_IN_SYNC = false ∧ tFstart.full = false) ∧
    (w_EhrusMessages_5_2.coreOn = true ∧ w_EhrusMessages_5_2.accepts (tHdr 0) ∧ (tHdr 0).link = 0 ∧ w_EhrusMessages_5_2_u.isSecondary = true ∧
      w_EhrusMessages_5_2_u.knowsFrame tFend.frame = true) ∧
    (w_EhrusMessages_3.coreOn = true ∧ w_EhrusMessages_3.accepts (tHdr 0) ∧ (tHdr 0).link = 0 ∧ w_EhrusMessages_3_u.isSecondary = true ∧
      w_EhrusMessages_3_u.knowsFrame tFend.frame = false) ∧
    (w_EhrusMessages_3.coreOn = true ∧ w_EhrusMessages_3.accepts (tHdr 0) ∧ (tHdr 0).link = 0 ∧ w_EhrusMessages_3_u.isSecondary = true) ∧
    (w_EhrusMessages_1.coreOn = true ∧ w_EhrusMessages_1.accepts (tHdr 0) ∧ ((tHdr 0).link ≠ 0 ∨ w_EhrusMessages_7_7.isSecondary = false) ∧ (tHdr 0).link = 0 ∧
      w_EhrusMessages_7_7.pairState = pairPrimary) :=
  ⟨by decide +kernel,
   by decide +kernel,
   by decide +kernel,
   by decide +kernel,
   by decide +kernel,
   by decide +kernel,
   by decide +kernel,
   by decide +kernel,
   by decide +kernel,
   by decide +kernel,
   by decide +kernel,
   by decide +kernel⟩
theorem test_ehrus_messages_witness_2 :
    (tChild.coreOn = true ∧ tChild.accepts (tHdr 4) ∧ ((tHdr 4).link ≠ 0 ∨ w_EhrusMessages_7_8.isSecondary = false) ∧ ((tHdr 4).link ≠ 0 ∨
      w_EhrusMessages_7_8.pairState ≠ pairPrimary)) ∧
    (tChild.coreOn = true ∧ tChild.accepts (tHdr 4) ∧ (tHdr 4).link ≠ 0) ∧
    (w_EhrusMessages_1.pwr.rails.powerGood = true ∧ w_EhrusMessages_1.accepts (tHdr 0) ∧ (tHdr 0).link = 0 ∧ 0 ≠ 3 ∧ w_EhrusMessages_7_7.isSecondary = false) ∧
    (w_EhrusMessages_9_2.pwr.rails.powerGood = true ∧ w_EhrusMessages_9_2.accepts (tHdr 0) ∧ (tHdr 0).link = 0 ∧ 0 ≠ 3 ∧
      w_EhrusMessages_9_2_u.isSecondary = true ∧ State.sleepRefusal w_EhrusMessages_9_2_u (0 == 2) false = none) ∧
    (w_EhrusMessages_3.pwr.rails.powerGood = true ∧ w_EhrusMessages_3.accepts (tHdr 0) ∧ (tHdr 0).link = 0 ∧ 0 ≠ 3 ∧ w_EhrusMessages_3_u.isSecondary = true ∧
      State.sleepRefusal w_EhrusMessages_3_u (0 == 2) false ≠ none) ∧
    (w_EhrusMessages_3.coreOn = true ∧ w_EhrusMessages_3.accepts (tHdr 0) ∧ (tHdr 0).link = 0 ∧ w_EhrusMessages_10_0.pairState ≠ pairPrimary) ∧
    (w_EhrusMessages_10_1.coreOn = true ∧ w_EhrusMessages_10_1.accepts (tHdr 0) ∧ (tHdr 0).link = 0 ∧ w_EhrusMessages_10_1_t.pairState = pairPrimary ∧
      w_EhrusMessages_10_1_t.on EHL_STATUS_JOINING = false ∧ w_EhrusMessages_10_1_t.on EHL_STATUS_IN_SYNC = true ∧ false = false ∧
      pairSecondary = pairSecondary) ∧
    (w_EhrusMessages_10_2.coreOn = true ∧ w_EhrusMessages_10_2.accepts (tHdr 0) ∧ (tHdr 0).link = 0 ∧ w_EhrusMessages_10_2_t.pairState = pairPrimary ∧
      w_EhrusMessages_10_2_t.on EHL_STATUS_JOINING = true ∧ w_EhrusMessages_10_2_t.ehl.selfDone = true ∧ true = true) ∧
    (w_EhrusMessages_10_3.coreOn = true ∧ w_EhrusMessages_10_3.accepts (tHdr 0) ∧ (tHdr 0).link = 0 ∧ w_EhrusMessages_10_3_t.pairState = pairPrimary ∧
      w_EhrusMessages_10_3_t.on EHL_STATUS_JOINING = true ∧ (w_EhrusMessages_10_3_t.ehl.selfDone = false ∨ true = false)) ∧
    (w_EhrusMessages_1.coreOn = true ∧ w_EhrusMessages_1.accepts (tHdr 0) ∧ (tHdr 0).link = 0 ∧ w_EhrusMessages_10_4.pairState = pairPrimary ∧
      w_EhrusMessages_10_4.on EHL_STATUS_JOINING = false ∧ (w_EhrusMessages_10_4.on EHL_STATUS_IN_SYNC = false ∨ true = true ∨ 0 ≠ pairSecondary)) ∧
    (w_EhrusMessages_11_3.coreOn = true ∧ w_EhrusMessages_11_3.accepts (tHdr 4) ∧ w_EhrusMessages_11_3_u.hasParent = true ∧
      (tHdr 4).link = w_EhrusMessages_11_3_u.parentLink ∧ w_EhrusMessages_11_3_w.inRegion 0 0 ([] : List Byte).length = true) ∧
    (tChild.coreOn = true ∧ tChild.accepts (tHdr 4) ∧ w_EhrusMessages_7_8.hasParent = true ∧ (tHdr 4).link = w_EhrusMessages_7_8.parentLink ∧
      w_EhrusMessages_11_4_w.inRegion 0 0 ([1]).length = false) :=
  ⟨by decide +kernel,
   by decide +kernel,
   by decide +kernel,
   by decide +kernel,
   by decide +kernel,
   by decide +kernel,
   by decide +kernel,
   by decide +kernel,
   by decide +kernel,
   by decide +kernel,
   by decide +kernel,
   by decide +kernel⟩
theorem test_ehrus_messages_witness_3 :
    (w_EhrusMessages_1.coreOn = true ∧ w_EhrusMessages_1.accepts (tHdr 0) ∧ (w_EhrusMessages_7_7.hasParent = false ∨
      (tHdr 0).link ≠ w_EhrusMessages_7_7.parentLink)) ∧
    (tChild.coreOn = true ∧ tChild.accepts (tHdr 4) ∧ w_EhrusMessages_7_8.timeLink = some (tHdr 4).link) ∧
    (w_EhrusMessages_1.coreOn = true ∧ w_EhrusMessages_1.accepts (tHdr 0) ∧ w_EhrusMessages_7_7.timeLink ≠ some (tHdr 0).link) ∧
    (w_EhrusMessages_14_0.coreOn = true ∧ w_EhrusMessages_14_0.accepts (tHdr 4) ∧ w_EhrusMessages_14_0_u.timeLink = some (tHdr 4).link ∧
      w_EhrusMessages_14_0_u.ehl.delay.isSome = true) ∧
    (w_EhrusMessages_1.coreOn = true ∧ w_EhrusMessages_1.accepts (tHdr 0) ∧ (w_EhrusMessages_7_7.timeLink ≠ some (tHdr 0).link ∨
      w_EhrusMessages_7_7.ehl.delay.isSome = false)) ∧
    (w_EhrusMessages_15_0.coreOn = true ∧ w_EhrusMessages_15_0.accepts (tHdr 8) ∧ 5 ≤ (tHdr 8).link ∧ w_EhrusMessages_15_0_u.on EHL_CFG_TREE_EN = true) ∧
    (w_EhrusMessages_1.coreOn = true ∧ w_EhrusMessages_1.accepts (tHdr 0) ∧ ((tHdr 0).link < 5 ∨ w_EhrusMessages_7_7.on EHL_CFG_TREE_EN = false)) :=
  ⟨by decide +kernel,
   by decide +kernel,
   by decide +kernel,
   by decide +kernel,
   by decide +kernel,
   by decide +kernel,
   by decide +kernel⟩
def w_PairsAndHierarchies_0 : State := { tOn with ehl := { tOn.ehl with linkUp := true }, now := 10 ^ 12 }
def w_PairsAndHierarchies_0_s1 : State :=
      w_PairsAndHierarchies_0.ehlSend 0 (.alive (w_PairsAndHierarchies_0.evc.tick % 2 ^ 64) w_PairsAndHierarchies_0.pairState (!w_PairsAndHierarchies_0.drives) (w_PairsAndHierarchies_0.on EHL_STATUS_IN_SYNC))
def w_PairsAndHierarchies_1 : State := { tOn with ehl := { tOn.ehl with linkUp := false } }
def w_PairsAndHierarchies_2 : State := { tOn with now := 10 ^ 12 }
def w_PairsAndHierarchies_2_s1 : State :=
      ((w_PairsAndHierarchies_2.toChildren (.ttime w_PairsAndHierarchies_2.ptpTotalNs))).ehlSend 0 (.ttime w_PairsAndHierarchies_2.ptpTotalNs)
def w_PairsAndHierarchies_4 : State := tChild.ehlSend 4 (.tdelay (.request tChild.ptpTotalNs))
def w_PairsAndHierarchies_6 : State :=
      tOn.setLink 0 (fun x => { x with unacked := (tOn.ehlLink 0).unacked.filter (fun m => !seqUpTo m.1 0), sentAt := tOn.now, lastRx := tOn.now })
def w_PairsAndHierarchies_7 : State :=
      w_PanelUpdatesAndPackets_12.setLink 0 (fun x => { x with unacked := (w_PanelUpdatesAndPackets_12.ehlLink 0).unacked.filter (fun m => !seqUpTo m.1 0), sentAt := w_PanelUpdatesAndPackets_12.now, lastRx := w_PanelUpdatesAndPackets_12.now })
def w_PairsAndHierarchies_9 : State := tPair pairPrimary (fun e => { e with links := List.replicate 9 { EhlLink.reset with unacked := [(0, .handover)] } })
def w_PairsAndHierarchies_10 : State := { tOn with ehl := { tOn.ehl with links := List.replicate 9 { EhlLink.reset with unacked := [] } } }
def w_PairsAndHierarchies_11 : State := tPair pairSecondary (fun e => { e with linkUp := false, lastAlive := 10 ^ 10 })
def w_PairsAndHierarchies_11_s1 : State := (List.range 8).foldl (fun st l => st.laneUp l ((⟨pairPrimary, []⟩ : PairFar).eyes.getD l 0)) w_PairsAndHierarchies_11
def w_PairsAndHierarchies_11_s2 : State :=
      State.setLink { w_PairsAndHierarchies_11_s1 with ehl := { w_PairsAndHierarchies_11_s1.ehl with linkUp := true, lastAlive := w_PairsAndHierarchies_11.now, aliveSent := w_PairsAndHierarchies_11.now, partnerPair := (⟨pairPrimary, []⟩ : PairFar).pair } } 0 (fun _ => linkAt w_PairsAndHierarchies_11.now)
def w_PairsAndHierarchies_12 : State := tPair pairSecondary (fun e => { e with linkUp := false })
def w_PairsAndHierarchies_12_s1 : State := (List.range 8).foldl (fun st l => st.laneUp l ((⟨pairPrimary, []⟩ : PairFar).eyes.getD l 0)) w_PairsAndHierarchies_12
def w_PairsAndHierarchies_12_s2 : State :=
      State.setLink { w_PairsAndHierarchies_12_s1 with ehl := { w_PairsAndHierarchies_12_s1.ehl with linkUp := true, lastAlive := w_PairsAndHierarchies_12.now, aliveSent := w_PairsAndHierarchies_12.now, partnerPair := (⟨pairPrimary, []⟩ : PairFar).pair } } 0 (fun _ => linkAt w_PairsAndHierarchies_12.now)
def w_PairsAndHierarchies_13 : State := tPair pairLinking (fun e => { e with linkUp := false })
def w_PairsAndHierarchies_13_s1 : State := (List.range 8).foldl (fun st l => st.laneUp l ((⟨0, []⟩ : PairFar).eyes.getD l 0)) w_PairsAndHierarchies_13
def w_PairsAndHierarchies_13_s2 : State :=
      State.setLink { w_PairsAndHierarchies_13_s1 with ehl := { w_PairsAndHierarchies_13_s1.ehl with linkUp := true, lastAlive := w_PairsAndHierarchies_13.now, aliveSent := w_PairsAndHierarchies_13.now, partnerPair := (⟨0, []⟩ : PairFar).pair } } 0 (fun _ => linkAt w_PairsAndHierarchies_13.now)
def w_PairsAndHierarchies_15 : State := tPut [(EHL_CFG_PAIR_EN, 0)] (tOn)
def w_PairsAndHierarchies_16 : State := tPut [(EHL_STATUS_PAIR, pairLinking)] ({ tOn with ehl := { tOn.ehl with linkUp := false }, now := 10 ^ 12 })
def w_PairsAndHierarchies_17 : State := tPut [(EHL_STATUS_PAIR, pairSolo)] (tOn)
def w_PairsAndHierarchies_19 : State := tPair pairPrimary (fun e => { e with partnerPair := pairSecondary })
def w_PairsAndHierarchies_19_s1 : State := (((w_PairsAndHierarchies_19.setPair pairSolo).put EHL_STATUS_IN_SYNC 0).put EHL_STATUS_JOINING 0).raise 801 0
def w_PairsAndHierarchies_21 : State := tPair pairSecondary (fun e => { e with fend := some tFend })
def w_PairsAndHierarchies_23 : State := tPut [(EHL_STATUS_PAIR, pairPrimary)] ({ tOn with ehl := { tOn.ehl with linkUp := true } })
def w_PairsAndHierarchies_25 : State := tPut [(EHL_STATUS_PAIR, pairPrimary), (EHL_STATUS_IN_SYNC, 1)] ({ tOn with ehl := { tOn.ehl with linkUp := true } })
def w_PairsAndHierarchies_27 : State := tPut [(EHL_STATUS_PAIR, pairSecondary)] (tOn)
def w_PairsAndHierarchies_31 : State := tMan.toChildren (.treset 2 tMan.treeTime)
def w_PairsAndHierarchies_35 : State := { tOn with ehl := { tOn.ehl with lids := tOn.ehl.lids.filter (fun e => !decide (e.2 < tOn.ptpTickEnd)) } }
def w_PairsAndHierarchies_36 : State := { tOn with ehl := { tOn.ehl with treeReset := some (0, 0) } }
def w_PairsAndHierarchies_37 : State := { tOn with ehl := { tOn.ehl with treeReset := some (2, 10 ^ 10) } }
def w_PairsAndHierarchies_38 : State := { tOn with ehl := { tOn.ehl with arm := some (false, 0, 0) } }
def w_PairsAndHierarchies_39 : State := { tOn with ehl := { tOn.ehl with arm := some (true, 0, 0) } }
def w_PairsAndHierarchies_40 : State := { tOn with ehl := { tOn.ehl with arm := some (true, 10 ^ 10, 0) } }
def w_PairsAndHierarchies_41 : State := tPut [(⟨EHL_BC_STATUS, 1, 0⟩, 0)] (tOn)
def w_PairsAndHierarchies_41_s1 : State := (w_PairsAndHierarchies_41.wrN EHL_BC_CTRL ((0#32).toNat % 16)).wrN EHL_BC_STATUS 1
def w_PairsAndHierarchies_41_s2 : State :=
      { w_PairsAndHierarchies_41_s1 with ehl := { w_PairsAndHierarchies_41_s1.ehl with bcast := some (((0#32).toNat % 16), ((0#32).toNat % 16)) } }
def w_PairsAndHierarchies_42 : State := tPut [(⟨EHL_BC_STATUS, 1, 0⟩, 1)] (tOn)
def w_PairsAndHierarchies_43 : State := tWr [(EHL_BC_SRC_HI, 15), (EHL_BC_SRC_LO, 0xFFFFFFF8), (EHL_BC_LEN, 16)] (tOn)
def w_PairsAndHierarchies_45 : State := (w_PairsAndHierarchies_42.wrN EHL_BC_STATUS 2).raise 815 0
def w_PairsAndHierarchies_50_0 : State := tPut [(EHL_LANE_STATUS_STATE 7, 2)] (tOn)
def w_PairsAndHierarchies_50_0_s0 : State := (w_PairsAndHierarchies_50_0.put (EHL_LANE_STATUS_STATE 7) (if true then 3 else 1)).raiseMask 808 (2 ^ 7)
def w_PairsAndHierarchies_50_0_s1 : State :=
      { w_PairsAndHierarchies_50_0_s0 with ehl := { w_PairsAndHierarchies_50_0_s0.ehl with elastic := w_PairsAndHierarchies_50_0_s0.ehl.elastic.set 7 none } }
def w_PairsAndHierarchies_50_1 : State := tPut [((EHL_LANE_STATUS_STATE 15), 2)] (tOn)
def w_PairsAndHierarchies_50_1_s0 : State := (w_PairsAndHierarchies_50_1.put (EHL_LANE_STATUS_STATE 15) (if true then 3 else 1)).raiseMask 808 (2 ^ 15)
def w_PairsAndHierarchies_50_1_s1 : State :=
      { w_PairsAndHierarchies_50_1_s0 with ehl := { w_PairsAndHierarchies_50_1_s0.ehl with elastic := w_PairsAndHierarchies_50_1_s0.ehl.elastic.set 15 none } }
def w_PairsAndHierarchies_50_2 : State := (tChild.put (EHL_LANE_STATUS_STATE 11) (if true then 3 else 1)).raiseMask 808 (2 ^ 11)
def w_PairsAndHierarchies_50_2_s1 : State :=
      { w_PairsAndHierarchies_50_2 with ehl := { w_PairsAndHierarchies_50_2.ehl with elastic := w_PairsAndHierarchies_50_2.ehl.elastic.set 11 none } }
def w_PairsAndHierarchies_50_3 : State := tPut [(EHL_LANE_STATUS_STATE 11, 2)] (tOn)
def w_PairsAndHierarchies_50_3_s0 : State := (w_PairsAndHierarchies_50_3.put (EHL_LANE_STATUS_STATE 11) (if true then 3 else 1)).raiseMask 808 (2 ^ 11)
def w_PairsAndHierarchies_50_3_s1 : State :=
      { w_PairsAndHierarchies_50_3_s0 with ehl := { w_PairsAndHierarchies_50_3_s0.ehl with elastic := w_PairsAndHierarchies_50_3_s0.ehl.elastic.set 11 none } }
def w_PairsAndHierarchies_52 : State := tPut [(EHL_STATUS_LOCK, 1)] ({ tOn with ehl := { tOn.ehl with lockAt := none } })
def w_PairsAndHierarchies_53 : State := tPut [(EHL_STATUS_LOCK, 0)] ({ tOn with ehl := { tOn.ehl with lockAt := some 0 }, now := 10 ^ 12 })
def w_PairsAndHierarchies_54 : State := tPut [(EHL_STATUS_LOCK, 1)] ({ tOn with ehl := { tOn.ehl with lockAt := some 0 } })
def w_PairsAndHierarchies_55_0 : State := tPut [(EHL_CFG_TREE_EN, 0)] (tOn)
def w_PairsAndHierarchies_55_0_s1 : State := (w_PairsAndHierarchies_55_0.laneUp 15 (⟨some 0,
      0⟩ : LaneFar).eye).setLink (laneLink 15) (fun _ => linkAt w_PairsAndHierarchies_55_0.now)
def w_PairsAndHierarchies_55_0_s2 : State :=
      { w_PairsAndHierarchies_55_0_s1 with ehl := { w_PairsAndHierarchies_55_0_s1.ehl with parents := w_PairsAndHierarchies_55_0_s1.ehl.parents.set (15 - 8) (⟨some 0, 0⟩ : LaneFar).level } }
def w_PairsAndHierarchies_55_1 : State := tPut [(EHL_CFG_TREE_EN, 1)] (tOn)
def w_PairsAndHierarchies_55_1_s1 : State := (w_PairsAndHierarchies_55_1.laneUp 15 (⟨some 0,
      0⟩ : LaneFar).eye).setLink (laneLink 15) (fun _ => linkAt w_PairsAndHierarchies_55_1.now)
def w_PairsAndHierarchies_55_1_s2 : State :=
      { w_PairsAndHierarchies_55_1_s1 with ehl := { w_PairsAndHierarchies_55_1_s1.ehl with parents := w_PairsAndHierarchies_55_1_s1.ehl.parents.set (15 - 8) (⟨some 0, 0⟩ : LaneFar).level } }
def w_PairsAndHierarchies_55_2 : State := (w_PairsAndHierarchies_55_1.laneUp 15 (⟨none,
      0⟩ : LaneFar).eye).setLink (laneLink 15) (fun _ => linkAt w_PairsAndHierarchies_55_1.now)
def w_PairsAndHierarchies_55_2_s2 : State :=
      { w_PairsAndHierarchies_55_2 with ehl := { w_PairsAndHierarchies_55_2.ehl with parents := w_PairsAndHierarchies_55_2.ehl.parents.set (15 - 8) (⟨none, 0⟩ : LaneFar).level } }
def w_PairsAndHierarchies_55_3 : State := tPut [(EHL_CFG_TREE_EN, 1), (EHL_CFG_MANAGER, 0)] (tOn)
def w_PairsAndHierarchies_55_3_s1 : State := (w_PairsAndHierarchies_55_3.laneUp 11 (⟨some 0,
      0⟩ : LaneFar).eye).setLink (laneLink 11) (fun _ => linkAt w_PairsAndHierarchies_55_3.now)
def w_PairsAndHierarchies_55_3_s2 : State :=
      { w_PairsAndHierarchies_55_3_s1 with ehl := { w_PairsAndHierarchies_55_3_s1.ehl with parents := w_PairsAndHierarchies_55_3_s1.ehl.parents.set (11 - 8) (⟨some 0, 0⟩ : LaneFar).level } }
def w_PairsAndHierarchies_55_4 : State := tPut [(EHL_CFG_TREE_EN, 1), (EHL_CFG_MANAGER, 1)] (tOn)
def w_PairsAndHierarchies_55_4_s1 : State := (w_PairsAndHierarchies_55_4.laneUp 11 (⟨none,
      0⟩ : LaneFar).eye).setLink (laneLink 11) (fun _ => linkAt w_PairsAndHierarchies_55_4.now)
def w_PairsAndHierarchies_55_4_s2 : State :=
      { w_PairsAndHierarchies_55_4_s1 with ehl := { w_PairsAndHierarchies_55_4_s1.ehl with parents := w_PairsAndHierarchies_55_4_s1.ehl.parents.set (11 - 8) (⟨none, 0⟩ : LaneFar).level } }
theorem test_pairs_and_hierarchies_witness_1 :
    (w_PairsAndHierarchies_0.coreOn = true ∧ w_PairsAndHierarchies_0.ehl.linkUp = true ∧
      w_PairsAndHierarchies_0.ehl.aliveSent + 1000 < w_PairsAndHierarchies_0.now + w_PairsAndHierarchies_0.tickHalfNs) ∧
    (w_PairsAndHierarchies_1.coreOn = true ∧ (w_PairsAndHierarchies_1.ehl.linkUp = false ∨
      w_PairsAndHierarchies_1.now + w_PairsAndHierarchies_1.tickHalfNs ≤ w_PairsAndHierarchies_1.ehl.aliveSent + 1000)) ∧
    (w_PairsAndHierarchies_2.coreOn = true ∧
      w_PairsAndHierarchies_2.ehl.ttimeSent + 2000000 < w_PairsAndHierarchies_2.now + w_PairsAndHierarchies_2.tickHalfNs) ∧
    (tOn.coreOn = true ∧ tOn.now + tOn.tickHalfNs ≤ tOn.ehl.ttimeSent + 2000000) ∧
    (tChild.coreOn = true ∧ tChild.timeLink = some 4) ∧
    (tOn.coreOn = true ∧ tOn.timeLink = none) ∧
    (tOn.coreOn = true ∧ (0 ≠ 0 ∨ tOn.pairState ≠ pairPrimary ∨ (w_PairsAndHierarchies_6.ehlLink 0).unacked ≠ [] ∨
      (w_PairsAndHierarchies_6.ehlLink 0).waiting ≠ [])) ∧
    (w_PanelUpdatesAndPackets_12.coreOn = true ∧ w_PanelUpdatesAndPackets_12.pairState = pairPrimary ∧ (w_PairsAndHierarchies_7.ehlLink 0).unacked = [] ∧
      (w_PairsAndHierarchies_7.ehlLink 0).waiting = []) ∧
    (tOn.coreOn = true) ∧
    (w_PairsAndHierarchies_9.coreOn = true ∧ (w_PairsAndHierarchies_9.ehlLink 8).unacked ≠ [] ∧
      (w_PairsAndHierarchies_9.ehlLink 8).sentAt + 4000 < w_PairsAndHierarchies_9.now + w_PairsAndHierarchies_9.tickHalfNs) ∧
    (w_PairsAndHierarchies_10.coreOn = true ∧ ((w_PairsAndHierarchies_10.ehlLink 0).unacked = [] ∨
      w_PairsAndHierarchies_10.now + w_PairsAndHierarchies_10.tickHalfNs ≤ (w_PairsAndHierarchies_10.ehlLink 0).sentAt + 4000)) ∧
    (w_PairsAndHierarchies_11.coreOn = true ∧ w_PairsAndHierarchies_11.on EHL_CFG_PAIR_EN = true ∧ w_PairsAndHierarchies_11.pairState ≠ pairUnpaired ∧
      w_PairsAndHierarchies_11.ehl.linkUp = false ∧ (((w_PairsAndHierarchies_11.pairState = pairPrimary ∧ (⟨pairPrimary, []⟩ : PairFar).pair = pairSecondary) ∨
      (w_PairsAndHierarchies_11.pairState = pairSecondary ∧ (⟨pairPrimary, []⟩ : PairFar).pair = pairPrimary))) ∧
      w_PairsAndHierarchies_11.partnerGone = false) :=
  ⟨by decide +kernel,
   by decide +kernel,
   by decide +kernel,
   by decide +kernel,
   by decide +kernel,
   by decide +kernel,
   by decide +kernel,
   by decide +kernel,
   by decide +kernel,
   by decide +kernel,
   by decide +kernel,
   by decide +kernel⟩
theorem test_pairs_and_hierarchies_witness_2 :
    (w_PairsAndHierarchies_12.coreOn = true ∧ w_PairsAndHierarchies_12.on EHL_CFG_PAIR_EN = true ∧ w_PairsAndHierarchies_12.pairState ≠ pairUnpaired ∧
      w_PairsAndHierarchies_12.ehl.linkUp = false ∧ (((w_PairsAndHierarchies_12.pairState = pairPrimary ∧ (⟨pairPrimary, []⟩ : PairFar).pair = pairSecondary) ∨
      (w_PairsAndHierarchies_12.pairState = pairSecondary ∧ (⟨pairPrimary, []⟩ : PairFar).pair = pairPrimary))) ∧ w_PairsAndHierarchies_12.partnerGone = true) ∧
    (w_PairsAndHierarchies_13.coreOn = true ∧ w_PairsAndHierarchies_13.on EHL_CFG_PAIR_EN = true ∧ w_PairsAndHierarchies_13.pairState ≠ pairUnpaired ∧
      w_PairsAndHierarchies_13.ehl.linkUp = false ∧ (¬((w_PairsAndHierarchies_13.pairState = pairPrimary ∧ (⟨0, []⟩ : PairFar).pair = pairSecondary) ∨
      (w_PairsAndHierarchies_13.pairState = pairSecondary ∧ (⟨0, []⟩ : PairFar).pair = pairPrimary))) ∧ (w_PairsAndHierarchies_13.arbitrate (⟨0,
      []⟩ : PairFar).pair false 1).1 = true) ∧
    (w_PairsAndHierarchies_13.coreOn = true ∧ w_PairsAndHierarchies_13.on EHL_CFG_PAIR_EN = true ∧ w_PairsAndHierarchies_13.pairState ≠ pairUnpaired ∧
      w_PairsAndHierarchies_13.ehl.linkUp = false ∧ (¬((w_PairsAndHierarchies_13.pairState = pairPrimary ∧ (⟨0, []⟩ : PairFar).pair = pairSecondary) ∨
      (w_PairsAndHierarchies_13.pairState = pairSecondary ∧ (⟨0, []⟩ : PairFar).pair = pairPrimary))) ∧ (w_PairsAndHierarchies_13.arbitrate (⟨0,
      []⟩ : PairFar).pair true 0).1 = false) ∧
    (w_PairsAndHierarchies_15.coreOn = true ∧ (w_PairsAndHierarchies_15.on EHL_CFG_PAIR_EN = false ∨ w_PairsAndHierarchies_15.pairState = pairUnpaired ∨
      w_PairsAndHierarchies_15.ehl.linkUp = true)) ∧
    (w_PairsAndHierarchies_16.coreOn = true ∧ w_PairsAndHierarchies_16.pairState = pairLinking ∧ w_PairsAndHierarchies_16.ehl.linkUp = false ∧
      w_PairsAndHierarchies_16.ehl.since + 200000000 < w_PairsAndHierarchies_16.now + w_PairsAndHierarchies_16.tickHalfNs) ∧
    (w_PairsAndHierarchies_17.coreOn = true ∧ (w_PairsAndHierarchies_17.pairState ≠ pairLinking ∨ w_PairsAndHierarchies_17.ehl.linkUp = true ∨
      w_PairsAndHierarchies_17.now + w_PairsAndHierarchies_17.tickHalfNs ≤ w_PairsAndHierarchies_17.ehl.since + 200000000)) ∧
    (w_EhrusMessages_3.coreOn = true ∧ w_EhrusMessages_3.partnerGone = true ∧ w_EhrusMessages_3.isSecondary = true) ∧
    (w_PairsAndHierarchies_19.coreOn = true ∧ w_PairsAndHierarchies_19.partnerGone = true ∧ w_PairsAndHierarchies_19.pairState = pairPrimary ∧
      w_PairsAndHierarchies_19.ehl.partnerPair ≠ 0) ∧
    (tOn.coreOn = true ∧ (tOn.partnerGone = false ∨ (tOn.isSecondary = false ∧ (tOn.pairState ≠ pairPrimary ∨ tOn.ehl.partnerPair = 0)))) ∧
    (w_PairsAndHierarchies_21.coreOn = true ∧ w_PairsAndHierarchies_21.isSecondary = true ∧ 0 < w_PairsAndHierarchies_21.lagHalfNs ∧
      2000 * w_PairsAndHierarchies_21.bits EHL_LAG_MAX 15 0 < w_PairsAndHierarchies_21.lagHalfNs + w_PairsAndHierarchies_21.tickHalfNs) ∧
    (w_PanelUpdatesAndPackets_12.coreOn = true ∧ (w_PanelUpdatesAndPackets_12.isSecondary = false ∨ w_PanelUpdatesAndPackets_12.lagHalfNs = 0 ∨
      w_PanelUpdatesAndPackets_12.lagHalfNs + w_PanelUpdatesAndPackets_12.tickHalfNs ≤ 2000 * w_PanelUpdatesAndPackets_12.bits EHL_LAG_MAX 15 0)) ∧
    (w_PairsAndHierarchies_23.reaches EHL_CMD ∧ w_PairsAndHierarchies_23.pairState = pairPrimary ∧ w_PairsAndHierarchies_23.ehl.linkUp = true) :=
  ⟨by decide +kernel,
   by decide +kernel,
   by decide +kernel,
   by decide +kernel,
   by decide +kernel,
   by decide +kernel,
   by decide +kernel,
   by decide +kernel,
   by decide +kernel,
   by decide +kernel,
   by decide +kernel,
   by decide +kernel⟩
theorem test_pairs_and_hierarchies_witness_3 :
    (w_PairsAndHierarchies_17.reaches EHL_CMD ∧ (w_PairsAndHierarchies_17.pairState ≠ pairPrimary ∨ w_PairsAndHierarchies_17.ehl.linkUp = false)) ∧
    (w_PairsAndHierarchies_25.reaches EHL_CMD ∧ w_PairsAndHierarchies_25.pairState = pairPrimary ∧ w_PairsAndHierarchies_25.ehl.linkUp = true ∧
      w_PairsAndHierarchies_25.on EHL_STATUS_IN_SYNC = true) ∧
    (w_PairsAndHierarchies_17.reaches EHL_CMD ∧ (w_PairsAndHierarchies_17.pairState ≠ pairPrimary ∨ w_PairsAndHierarchies_17.ehl.linkUp = false ∨
      w_PairsAndHierarchies_17.on EHL_STATUS_IN_SYNC = false)) ∧
    (w_PairsAndHierarchies_27.reaches EHL_CMD ∧ w_PairsAndHierarchies_27.isSecondary = true) ∧
    (w_PanelUpdatesAndPackets_12.reaches EHL_CMD ∧ w_PanelUpdatesAndPackets_12.isSecondary = false) ∧
    (tOn.reaches EHL_CMD ∧ tOn.manages = false) ∧
    (tMan.reaches EHL_CMD ∧ tMan.manages = true) ∧
    (tMan.reaches EHL_CMD ∧ tMan.manages = true ∧ (2 = 1 ∨ 2 = 2)) ∧
    (tOn.reaches EHL_CMD ∧ 0 ≠ 1 ∧ 0 ≠ 2) ∧
    (tMan.reaches EHL_CMD ∧ tMan.manages = true) ∧
    (tMan.reaches EHL_CMD ∧ tMan.manages = true) ∧
    (tOn.coreOn = true) :=
  ⟨by decide +kernel,
   by decide +kernel,
   by decide +kernel,
   by decide +kernel,
   by decide +kernel,
   by decide +kernel,
   by decide +kernel,
   by decide +kernel,
   by decide +kernel,
   by decide +kernel,
   by decide +kernel,
   by decide +kernel⟩
theorem test_pairs_and_hierarchies_witness_4 :
    (w_PairsAndHierarchies_36.coreOn = true ∧ w_PairsAndHierarchies_36.ehl.treeReset = some (0, 0) ∧ 0 < w_PairsAndHierarchies_36.ptpTickEnd) ∧
    (w_PairsAndHierarchies_37.coreOn = true ∧ (2, 10 ^ 10) ∈ w_PairsAndHierarchies_37.ehl.treeReset ∧ w_PairsAndHierarchies_37.ptpTickEnd ≤ (2, 10 ^ 10).2) ∧
    (w_PairsAndHierarchies_38.coreOn = true ∧ w_PairsAndHierarchies_38.ehl.arm = some (false, 0, 0) ∧ 0 < w_PairsAndHierarchies_38.ptpTickEnd ∧
      0 ≤ w_PairsAndHierarchies_38.now) ∧
    (w_PairsAndHierarchies_39.coreOn = true ∧ w_PairsAndHierarchies_39.ehl.arm = some (true, 0, 0) ∧ 0 < w_PairsAndHierarchies_39.ptpTickEnd ∧
      0 ≤ w_PairsAndHierarchies_39.now) ∧
    (w_PairsAndHierarchies_40.coreOn = true ∧ (true, 10 ^ 10, 0) ∈ w_PairsAndHierarchies_40.ehl.arm ∧ (w_PairsAndHierarchies_40.ptpTickEnd ≤ (true, 10 ^ 10,
      0).2.1 ∨ w_PairsAndHierarchies_40.now < (true, 10 ^ 10, 0).2.2)) ∧
    (w_PairsAndHierarchies_41.reaches EHL_BC_CTRL ∧ w_PairsAndHierarchies_41.bits EHL_BC_STATUS 1 0 ≠ 1 ∧
      w_PairsAndHierarchies_41.bcSrc + (w_PairsAndHierarchies_41.rdN EHL_BC_LEN / 8 * 8) ≤ memSize ∧ ((∀ n : Nat, n < 4 → bitAt ((0#32).toNat % 16) n = true →
      w_PairsAndHierarchies_41.ehlUp (5 + n) = true))) ∧
    (w_PairsAndHierarchies_42.reaches EHL_BC_CTRL ∧ w_PairsAndHierarchies_42.bits EHL_BC_STATUS 1 0 = 1) ∧
    (w_PairsAndHierarchies_43.reaches EHL_BC_CTRL ∧ w_PairsAndHierarchies_43.bits EHL_BC_STATUS 1 0 ≠ 1 ∧
      memSize < w_PairsAndHierarchies_43.bcSrc + w_PairsAndHierarchies_43.rdN EHL_BC_LEN / 8 * 8) ∧
    (w_PairsAndHierarchies_41.reaches EHL_BC_CTRL ∧ w_PairsAndHierarchies_41.bits EHL_BC_STATUS 1 0 ≠ 1 ∧
      w_PairsAndHierarchies_41.bcSrc + w_PairsAndHierarchies_41.rdN EHL_BC_LEN / 8 * 8 ≤ memSize ∧ 3 < 4 ∧ bitAt ((8#32).toNat % 16) 3 = true ∧
      w_PairsAndHierarchies_41.ehlUp (5 + 3) = false) ∧
    (w_PairsAndHierarchies_42.coreOn = true ∧ w_PairsAndHierarchies_42.bits EHL_BC_STATUS 1 0 = 1) ∧
    (w_PairsAndHierarchies_42.coreOn = true ∧ w_PairsAndHierarchies_42.bits EHL_BC_STATUS 1 0 = 1 ∧ 1 ≠ 0) ∧
    (w_PairsAndHierarchies_41.coreOn = true ∧ w_PairsAndHierarchies_41.bits EHL_BC_STATUS 1 0 ≠ 1) :=
  ⟨by decide +kernel,
   by decide +kernel,
   by decide +kernel,
   by decide +kernel,
   by decide +kernel,
   by decide +kernel,
   by decide +kernel,
   by decide +kernel,
   by decide +kernel,
   by decide +kernel,
   by decide +kernel,
   by decide +kernel⟩
theorem test_pairs_and_hierarchies_witness_5 :
    (tChild.coreOn = true ∧ tChild.hasParent = true ∧ (tChild.ehlLink tChild.parentLink).lastRx + 20000 < tChild.now + tChild.tickHalfNs) ∧
    (tOn.coreOn = true ∧ (tOn.hasParent = false ∨ tOn.now + tOn.tickHalfNs ≤ (tOn.ehlLink tOn.parentLink).lastRx + 20000)) ∧
    (w_PairsAndHierarchies_50_0.coreOn = true ∧ 7 < 16 ∧ w_PairsAndHierarchies_50_0.get (EHL_LANE_STATUS_STATE 7) = 2 ∧ 7 < 8) ∧
    (w_PairsAndHierarchies_50_1.coreOn = true ∧ 15 < 16 ∧ w_PairsAndHierarchies_50_1.get (EHL_LANE_STATUS_STATE 15) = 2 ∧ 12 ≤ 15) ∧
    (tChild.coreOn = true ∧ 11 < 16 ∧ tChild.get (EHL_LANE_STATUS_STATE 11) = 2 ∧ 8 ≤ 11 ∧ 11 < 12 ∧ tChild.hasParent = true ∧
      tChild.get EHL_STATUS_PARENT = 11 - 8) ∧
    (w_PairsAndHierarchies_50_3.coreOn = true ∧ 11 < 16 ∧ w_PairsAndHierarchies_50_3.get (EHL_LANE_STATUS_STATE 11) = 2 ∧ 8 ≤ 11 ∧ 11 < 12 ∧
      (w_PairsAndHierarchies_50_3.hasParent = false ∨ w_PairsAndHierarchies_50_3.get EHL_STATUS_PARENT ≠ 11 - 8)) ∧
    (tOn.coreOn = true ∧ (16 ≤ 0 ∨ tOn.get (EHL_LANE_STATUS_STATE 0) ≠ 2)) ∧
    (w_PairsAndHierarchies_52.coreOn = true ∧ w_PairsAndHierarchies_52.on EHL_STATUS_LOCK = true ∧ w_PairsAndHierarchies_52.ehl.lockAt = none) ∧
    (w_PairsAndHierarchies_53.coreOn = true ∧ w_PairsAndHierarchies_53.on EHL_STATUS_LOCK = false ∧ w_PairsAndHierarchies_53.ehl.lockAt = some 0 ∧
      0 + 2000000000 < w_PairsAndHierarchies_53.now + w_PairsAndHierarchies_53.tickHalfNs) ∧
    (w_PairsAndHierarchies_54.coreOn = true ∧ ((w_PairsAndHierarchies_54.on EHL_STATUS_LOCK = true ∧ w_PairsAndHierarchies_54.ehl.lockAt.isSome = true) ∨
      (w_PairsAndHierarchies_54.on EHL_STATUS_LOCK = false ∧ ∀ t ∈ w_PairsAndHierarchies_54.ehl.lockAt,
      w_PairsAndHierarchies_54.now + w_PairsAndHierarchies_54.tickHalfNs ≤ t + 2000000000))) ∧
    (w_PairsAndHierarchies_55_0.coreOn = true ∧ 8 ≤ 15 ∧ 15 < 16 ∧ w_PairsAndHierarchies_55_0.on EHL_CFG_TREE_EN = false) ∧
    (w_PairsAndHierarchies_55_1.coreOn = true ∧ 8 ≤ 15 ∧ 15 < 16 ∧ w_PairsAndHierarchies_55_1.on EHL_CFG_TREE_EN = true ∧ 12 ≤ 15 ∧ (⟨some 0,
      0⟩ : LaneFar).level.isSome = true) :=
  ⟨by decide +kernel,
   by decide +kernel,
   by decide +kernel,
   by decide +kernel,
   by decide +kernel,
   by decide +kernel,
   by decide +kernel,
   by decide +kernel,
   by decide +kernel,
   ⟨by decide +kernel, Or.inl (by decide +kernel)⟩,
   by decide +kernel,
   by decide +kernel⟩
theorem test_pairs_and_hierarchies_witness_6 :
    (w_PairsAndHierarchies_55_1.coreOn = true ∧ 8 ≤ 15 ∧ 15 < 16 ∧ w_PairsAndHierarchies_55_1.on EHL_CFG_TREE_EN = true ∧ 12 ≤ 15 ∧ (⟨none,
      0⟩ : LaneFar).level = none) ∧
    (w_PairsAndHierarchies_55_3.coreOn = true ∧ 8 ≤ 11 ∧ 11 < 16 ∧ w_PairsAndHierarchies_55_3.on EHL_CFG_TREE_EN = true ∧ 11 < 12 ∧
      w_PairsAndHierarchies_55_3.on EHL_CFG_MANAGER = false ∧ w_PairsAndHierarchies_55_3.hasParent = false ∧ (⟨some 0, 0⟩ : LaneFar).level.isSome = true) ∧
    (w_PairsAndHierarchies_55_4.coreOn = true ∧ 8 ≤ 11 ∧ 11 < 16 ∧ w_PairsAndHierarchies_55_4.on EHL_CFG_TREE_EN = true ∧ 11 < 12 ∧
      (w_PairsAndHierarchies_55_4.on EHL_CFG_MANAGER = true ∨ w_PairsAndHierarchies_55_4.hasParent = true ∨ (⟨none, 0⟩ : LaneFar).level = none)) ∧
    (tOn.coreOn = true ∧ (0 < 8 ∨ 15 < 0)) :=
  ⟨by decide +kernel,
   by decide +kernel,
   by decide +kernel,
   by decide +kernel⟩
def w_ResetsRailsAndBoot_0 : State := w_ConfigurationRequests_0.wrN GCTL_PCIE_STATUS (7 + 2 ^ 4 * 15 + 2 ^ 8)
def w_ResetsRailsAndBoot_1 : State :=
      { tOn with pwr := { tOn.pwr with rails := { tOn.pwr.rails with powerGood := true } }, pcie := { tOn.pcie with resetAsked := none } }
def w_ResetsRailsAndBoot_1_s1 : State := (w_ResetsRailsAndBoot_1.functionState.put GCTL_BOOT_STATUS_LAST_RESET 3).raise 0 3
def w_ResetsRailsAndBoot_2 : State := (((w_ResetsRailsAndBoot_1.functionState.wrN GCTL_PCIE_STATUS 0).raise 9 0).put GCTL_BOOT_STATUS_LAST_RESET 3).raise 0 3
def w_ResetsRailsAndBoot_7 : State := { tOn with pwr := { tOn.pwr with rails := { tOn.pwr.rails with powerGood := true, waiting := false } } }
def w_ResetsRailsAndBoot_8 : State := tPut [(⟨PWR_STATE, 2, 0⟩,
      6)] ({ tOn with pwr := { tOn.pwr with rails := { tOn.pwr.rails with powerGood := true, waiting := false } } })
def w_ResetsRailsAndBoot_9 : State := tPut [(⟨PWR_STATE, 2, 0⟩,
      5)] ({ tOn with pwr := { tOn.pwr with rails := { tOn.pwr.rails with powerGood := true, waiting := false } } })
def w_ResetsRailsAndBoot_11 : State := { tOn with pwr := { tOn.pwr with rails := { tOn.pwr.rails with aonGood := true, enHbm := true, enSds := true } } }
def w_ResetsRailsAndBoot_12 : State := { tOn with pwr := { tOn.pwr with rails := { tOn.pwr.rails with aonGood := false } } }
def w_ResetsRailsAndBoot_15 : State := { tOn with pwr := { tOn.pwr with rails := { tOn.pwr.rails with enSds := true, pgSds := true } } }
def w_ResetsRailsAndBoot_16 : State := { tOn with pwr := { tOn.pwr with rails := { tOn.pwr.rails with enHbm := true, pgHbm := true } } }
def w_ResetsRailsAndBoot_17 : State := tPut [(⟨PWR_STATE, 2, 0⟩, 5)] (tOn)
def w_ResetsRailsAndBoot_18 : State := { tOn with pwr := { tOn.pwr with rails := { tOn.pwr.rails with waiting := true, enHbm := false } }, now := 10 ^ 12 }
def w_ResetsRailsAndBoot_19 : State := { tOn with pwr := { tOn.pwr with rails := { tOn.pwr.rails with waiting := false } } }
def w_ResetsRailsAndBoot_22_0 : State := { tOn with pwr := { tOn.pwr with rails := { tOn.pwr.rails with enHbm := true, enSds := true, waiting := true } } }
def w_ResetsRailsAndBoot_22_0_s1 : State := w_ResetsRailsAndBoot_22_0.setRails (fun r => { r with pgHbm := true, pgSds := true, waiting := false })
def w_ResetsRailsAndBoot_22_1 : State := tPut [(⟨PWR_STATE, 2, 0⟩,
      5)] ({ tOn with pwr := { tOn.pwr with rails := { tOn.pwr.rails with enHbm := true, enSds := true, waiting := true } } })
def w_ResetsRailsAndBoot_22_1_s1 : State := w_ResetsRailsAndBoot_22_1.setRails (fun r => { r with pgHbm := true, pgSds := true, waiting := false })
def w_ResetsRailsAndBoot_22_2 : State := { tOn with pwr := { tOn.pwr with rails := { tOn.pwr.rails with enHbm := true, enSds := true, waiting := false } } }
def w_ResetsRailsAndBoot_22_2_s1 : State := w_ResetsRailsAndBoot_22_2.setRails (fun r => { r with pgHbm := true, pgSds := true, waiting := false })
def w_ResetsRailsAndBoot_23 : State := { tOn with pwr := { tOn.pwr with rails := { tOn.pwr.rails with enHbm := false } } }
def w_ResetsRailsAndBoot_25 : State := tPut [(GCTL_BOOT_STATUS_STAGE, 0), (⟨PWR_STATE, 2, 0⟩,
      0)] ({ tOn with pwr := { tOn.pwr with rails := { tOn.pwr.rails with powerGood := true, waiting := false } } })
def w_ResetsRailsAndBoot_26 : State := tPut [(GCTL_BOOT_STATUS_STAGE,
      1)] ({ tOn with pwr := { tOn.pwr with rails := { tOn.pwr.rails with powerGood := true } } })
def w_ResetsRailsAndBoot_27 : State := tPut [(GCTL_BOOT_STATUS_STAGE, 3), (PWR_KETTLE_STATUS_RESUME_HELD,
      0)] ({ tOn with pwr := { tOn.pwr with stopBoot := false } })
def w_ResetsRailsAndBoot_28 : State := tPut [(GCTL_BOOT_STATUS_STAGE,
      3)] ({ tOn with pwr := { tOn.pwr with stopBoot := true }, csu := { tOn.csu with image := some { tImage with policy := List.replicate 8 0 ++ [1] } } })
def w_ResetsRailsAndBoot_29 : State := tPut [(GCTL_BOOT_STATUS_STAGE, 0)] (tOn)
def w_ResetsRailsAndBoot_30 : State := tPut [(GCTL_BOOT_STATUS_STAGE,
      5)] ({ tOn with csu := { tOn.csu with image := some tImage }, frame := { tOn.frame with ended := true }, spl := { tOn.spl with holdWas := false } })
def w_ResetsRailsAndBoot_32 : State := tPut [(GCTL_BOOT_STATUS_STAGE,
      0)] ({ tOn with pwr := { tOn.pwr with rails := { tOn.pwr.rails with powerGood := true } }, pcie := { tOn.pcie with lateRaised := false }, now := 10 ^ 12 })
def w_ResetsRailsAndBoot_33 : State :=
      { tOn with pwr := { tOn.pwr with rails := { tOn.pwr.rails with powerGood := true } }, pcie := { tOn.pcie with lateRaised := true } }
def w_ResetsRailsAndBoot_34 : State := tWr [(MEM_REGION 0, 2 ^ 16)] (tOn)
def w_ResetsRailsAndBoot_34_s1 : State := (w_ResetsRailsAndBoot_34.put GCTL_CALREC_STATUS_STATE 1).put GCTL_CALREC_STATUS_ERR 0
def w_ResetsRailsAndBoot_36 : State := { tOn with pcie := { tOn.pcie with calWork := some (true, 64) } }
def w_ResetsRailsAndBoot_37 : State := tPut [(CAL_RUN_STATUS_STATE, 1)] ({ tOn with pcie := { tOn.pcie with calWork := none } })
def w_ResetsRailsAndBoot_38 : State := { tOn with pcie := { tOn.pcie with calWork := none } }
def w_ResetsRailsAndBoot_39 : State := tPut [(CAL_RUN_STATUS_STATE, 0)] ({ tOn with pcie := { tOn.pcie with calWork := none } })
def w_ResetsRailsAndBoot_40 : State := { tOn with pcie := { tOn.pcie with calWork := some (false, 0) } }
def w_ResetsRailsAndBoot_40_s1 : State := { w_ResetsRailsAndBoot_40 with pcie := { w_ResetsRailsAndBoot_40.pcie with calWork := none } }
def w_ResetsRailsAndBoot_41 : State := { tOn with pcie := { Pcie.reset with calWork := some (true, 0) }, mem := tCalrec [0x64, 0x17, 0x53, 0x09] }
def w_ResetsRailsAndBoot_41_s1 : State := { w_ResetsRailsAndBoot_41 with pcie := { w_ResetsRailsAndBoot_41.pcie with calWork := none } }
def w_ResetsRailsAndBoot_42 : State := { w_ResetsRailsAndBoot_36 with pcie := { w_ResetsRailsAndBoot_36.pcie with calWork := none } }
def w_ResetsRailsAndBoot_43 : State := { tOn with pcie := { tOn.pcie with calWork := some (true, 64) }, poison := [4] }
def w_ResetsRailsAndBoot_43_s1 : State := { w_ResetsRailsAndBoot_43 with pcie := { w_ResetsRailsAndBoot_43.pcie with calWork := none } }
theorem test_resets_rails_and_boot_witness_1 :
    (w_ConfigurationRequests_0.pwr.rails.powerGood = true ∧ w_ConfigurationRequests_0.pllLocked pllPcie = true ∧ 7 < 8 ∧ 15 < 16) ∧
    (w_ResetsRailsAndBoot_1.pwr.rails.powerGood = true ∧ w_ResetsRailsAndBoot_1.pllLocked pllPcie = true ∧ w_ResetsRailsAndBoot_1.pwrState ≠ 5 ∧
      w_ResetsRailsAndBoot_1.pwrState ≠ 6 ∧ w_ResetsRailsAndBoot_1.pcie.resetAsked = none ∧
      w_ResetsRailsAndBoot_1.pcie.resetTick ≠ some w_ResetsRailsAndBoot_1.evc.tick) ∧
    (w_ResetsRailsAndBoot_1.pwr.rails.powerGood = true ∧ w_ResetsRailsAndBoot_1.pllLocked pllPcie = true ∧ w_ResetsRailsAndBoot_1.pwrState ≠ 5 ∧
      w_ResetsRailsAndBoot_1.pwrState ≠ 6 ∧ w_ResetsRailsAndBoot_1.pcie.resetAsked = none ∧
      w_ResetsRailsAndBoot_1.pcie.resetTick ≠ some w_ResetsRailsAndBoot_1.evc.tick) ∧
    (w_MemorySubsystem_11.pwr.rails.powerGood = true ∧ w_MemorySubsystem_11.pllLocked pllPcie = true ∧ (w_MemorySubsystem_11.pwrState = 5 ∨
      w_MemorySubsystem_11.pwrState = 6 ∨ w_MemorySubsystem_11.pcie.resetAsked ≠ none ∨
      w_MemorySubsystem_11.pcie.resetTick = some w_MemorySubsystem_11.evc.tick)) ∧
    (tOn.reaches GCTL_RESET ∧ resetKeyOk (0x52530000#32) = true) ∧
    (tOn.reaches GCTL_RESET ∧ resetKeyOk (0x52530000#32) = true) ∧
    (tOn.reaches GCTL_RESET ∧ resetKeyOk (0#32) = false) ∧
    (w_ResetsRailsAndBoot_7.pwr.rails.powerGood = true ∧ w_ResetsRailsAndBoot_7.pwr.rails.waiting = false ∧ w_ResetsRailsAndBoot_7.pwrState ≠ 5 ∧
      w_ResetsRailsAndBoot_7.pwrState ≠ 6) ∧
    (w_ResetsRailsAndBoot_8.pwr.rails.powerGood = true ∧ w_ResetsRailsAndBoot_8.pwr.rails.waiting = false ∧ w_ResetsRailsAndBoot_8.pwrState = 6) ∧
    (w_ResetsRailsAndBoot_9.pwr.rails.powerGood = true ∧ w_ResetsRailsAndBoot_9.pwr.rails.waiting = false ∧ w_ResetsRailsAndBoot_9.pwrState = 5) ∧
    ((w_EventTicksAndMessages_1.pwr.rails.powerGood = false ∨ w_EventTicksAndMessages_1.pwr.rails.waiting = true)) ∧
    (w_ResetsRailsAndBoot_11.pwr.rails.aonGood = true ∧ w_ResetsRailsAndBoot_11.pwr.rails.enHbm = true ∧ w_ResetsRailsAndBoot_11.pwr.rails.enSds = true) :=
  ⟨by decide +kernel,
   by decide +kernel,
   by decide +kernel,
   by decide +kernel,
   by decide +kernel,
   by decide +kernel,
   by decide +kernel,
   by decide +kernel,
   by decide +kernel,
   by decide +kernel,
   by decide +kernel,
   by decide +kernel⟩
theorem test_resets_rails_and_boot_witness_2 :
    ((w_ResetsRailsAndBoot_12.pwr.rails.aonGood = false ∨ w_ResetsRailsAndBoot_12.pwr.rails.enHbm = false ∨ w_ResetsRailsAndBoot_12.pwr.rails.enSds = false)) ∧
    (w_ConfigurationRequests_0.pwr.rails.powerGood = true) ∧
    (w_EventTicksAndMessages_1.pwr.rails.powerGood = false) ∧
    (w_ResetsRailsAndBoot_15.pwrState ≠ 5 ∧ w_ResetsRailsAndBoot_15.pwr.rails.enSds = true ∧ w_ResetsRailsAndBoot_15.pwr.rails.pgSds = true) ∧
    (w_ResetsRailsAndBoot_16.pwrState ≠ 5 ∧ w_ResetsRailsAndBoot_16.pwr.rails.enHbm = true ∧ w_ResetsRailsAndBoot_16.pwr.rails.pgHbm = true) ∧
    ((w_ResetsRailsAndBoot_17.pwrState = 5 ∨ (true = true ∧ (w_ResetsRailsAndBoot_17.pwr.rails.enSds = false ∨
      w_ResetsRailsAndBoot_17.pwr.rails.pgSds = false)) ∨ (true = false ∧ (w_ResetsRailsAndBoot_17.pwr.rails.enHbm = false ∨
      w_ResetsRailsAndBoot_17.pwr.rails.pgHbm = false)))) ∧
    (w_ResetsRailsAndBoot_18.pwr.rails.waiting = true ∧ w_ResetsRailsAndBoot_18.pwr.rails.enHbm = false ∧
      w_ResetsRailsAndBoot_18.pwr.rails.fallAt + 20000000 < w_ResetsRailsAndBoot_18.now + w_ResetsRailsAndBoot_18.tickHalfNs) ∧
    ((w_ResetsRailsAndBoot_19.pwr.rails.waiting = false ∨ w_ResetsRailsAndBoot_19.pwr.rails.enHbm = true ∨
      w_ResetsRailsAndBoot_19.now + w_ResetsRailsAndBoot_19.tickHalfNs ≤ w_ResetsRailsAndBoot_19.pwr.rails.fallAt + 20000000)) ∧
    (w_EventTicksAndMessages_1.pwr.rails.powerGood = false ∧ w_EventTicksAndMessages_1.pwrState ≠ 5 ∧ w_EventTicksAndMessages_1.pwrState ≠ 6) ∧
    ((w_ConfigurationRequests_0.pwr.rails.powerGood = true ∨ w_ConfigurationRequests_0.pwrState = 5 ∨ w_ConfigurationRequests_0.pwrState = 6)) ∧
    (w_ResetsRailsAndBoot_22_0.pwr.rails.enHbm = true ∧ w_ResetsRailsAndBoot_22_0.pwr.rails.enSds = true ∧ w_ResetsRailsAndBoot_22_0.pwr.rails.waiting = true ∧
      w_ResetsRailsAndBoot_22_0.pwrState ≠ 5) ∧
    (w_ResetsRailsAndBoot_22_1.pwr.rails.enHbm = true ∧ w_ResetsRailsAndBoot_22_1.pwr.rails.enSds = true ∧ w_ResetsRailsAndBoot_22_1.pwr.rails.waiting = true ∧
      w_ResetsRailsAndBoot_22_1.pwrState = 5) :=
  ⟨by decide +kernel,
   by decide +kernel,
   by decide +kernel,
   by decide +kernel,
   by decide +kernel,
   by decide +kernel,
   by decide +kernel,
   by decide +kernel,
   by decide +kernel,
   by decide +kernel,
   by decide +kernel,
   by decide +kernel⟩
theorem test_resets_rails_and_boot_witness_3 :
    (w_ResetsRailsAndBoot_22_2.pwr.rails.enHbm = true ∧ w_ResetsRailsAndBoot_22_2.pwr.rails.enSds = true ∧
      w_ResetsRailsAndBoot_22_2.pwr.rails.waiting = false) ∧
    ((w_ResetsRailsAndBoot_23.pwr.rails.enHbm = false ∨ w_ResetsRailsAndBoot_23.pwr.rails.enSds = false)) ∧
    (w_ResetsRailsAndBoot_25.pwr.rails.powerGood = true ∧ w_ResetsRailsAndBoot_25.get GCTL_BOOT_STATUS_STAGE = 0 ∧ w_ResetsRailsAndBoot_25.pwrState = 0 ∧
      bitAt (w_ResetsRailsAndBoot_25.rdN PWR_PLL_STATUS) 31 = false ∧ w_ResetsRailsAndBoot_25.pwr.rails.waiting = false) ∧
    (w_ResetsRailsAndBoot_26.pwr.rails.powerGood = true ∧ (w_ResetsRailsAndBoot_26.get GCTL_BOOT_STATUS_STAGE ≠ 0 ∨ w_ResetsRailsAndBoot_26.pwrState ≠ 0 ∨
      bitAt (w_ResetsRailsAndBoot_26.rdN PWR_PLL_STATUS) 31 = true ∨ w_ResetsRailsAndBoot_26.pwr.rails.waiting = true)) ∧
    (w_ResetsRailsAndBoot_27.coreOn = true ∧ w_ResetsRailsAndBoot_27.get GCTL_BOOT_STATUS_STAGE = 3 ∧
      w_ResetsRailsAndBoot_27.on PWR_KETTLE_STATUS_RESUME_HELD = false ∧ (w_ResetsRailsAndBoot_27.pwr.stopBoot = false ∨
      polResumeAck w_ResetsRailsAndBoot_27.polSec ≠ 1)) ∧
    (w_ResetsRailsAndBoot_28.coreOn = true ∧ w_ResetsRailsAndBoot_28.get GCTL_BOOT_STATUS_STAGE = 3 ∧
      w_ResetsRailsAndBoot_28.on PWR_KETTLE_STATUS_RESUME_HELD = false ∧ w_ResetsRailsAndBoot_28.pwr.stopBoot = true ∧
      polResumeAck w_ResetsRailsAndBoot_28.polSec = 1) ∧
    (w_ResetsRailsAndBoot_29.coreOn = true ∧ (w_ResetsRailsAndBoot_29.get GCTL_BOOT_STATUS_STAGE ≠ 3 ∨
      w_ResetsRailsAndBoot_29.on PWR_KETTLE_STATUS_RESUME_HELD = true)) ∧
    (w_ResetsRailsAndBoot_30.coreOn = true ∧ w_ResetsRailsAndBoot_30.frame.seen = false ∧ w_ResetsRailsAndBoot_30.drives = true ∧
      w_ResetsRailsAndBoot_30.mayStart = true ∧ w_ResetsRailsAndBoot_30.linkDone.get GCTL_BOOT_STATUS_STAGE = 5 ∧ ((∀ g : Nat, g < 6 →
      w_ResetsRailsAndBoot_30.gState g < gTrain ∨ gCaps < w_ResetsRailsAndBoot_30.gState g))) ∧
    (tOn.coreOn = true ∧ (tOn.frame.seen = true ∨ tOn.drives = false ∨ tOn.mayStart = false ∨ tOn.linkDone.get GCTL_BOOT_STATUS_STAGE ≠ 5 ∨ (∃ g, g < 6 ∧
      gTrain ≤ tOn.gState g ∧ tOn.gState g ≤ gCaps))) ∧
    (w_ResetsRailsAndBoot_32.pwr.rails.powerGood = true ∧ w_ResetsRailsAndBoot_32.pcie.lateRaised = false ∧
      w_ResetsRailsAndBoot_32.get GCTL_BOOT_STATUS_STAGE ≠ 6 ∧ 3600000000 < w_ResetsRailsAndBoot_32.now + w_ResetsRailsAndBoot_32.tickHalfNs) ∧
    (w_ResetsRailsAndBoot_33.pwr.rails.powerGood = true ∧ (w_ResetsRailsAndBoot_33.pcie.lateRaised = true ∨
      w_ResetsRailsAndBoot_33.get GCTL_BOOT_STATUS_STAGE = 6 ∨ w_ResetsRailsAndBoot_33.now + w_ResetsRailsAndBoot_33.tickHalfNs ≤ 3600000000)) ∧
    (w_ResetsRailsAndBoot_34.reaches GCTL_CALREC_CMD ∧ w_ResetsRailsAndBoot_34.pcie.calWork = none ∧
      w_ResetsRailsAndBoot_34.inRegion 0 w_ResetsRailsAndBoot_34.calrecAddr calrecLen = true) :=
  ⟨by decide +kernel,
   by decide +kernel,
   by decide +kernel,
   by decide +kernel,
   by decide +kernel,
   by decide +kernel,
   by decide +kernel,
   by decide +kernel,
   ⟨by decide +kernel, Or.inr (Or.inr (Or.inl (by decide +kernel)))⟩,
   by decide +kernel,
   by decide +kernel,
   by decide +kernel⟩
theorem test_resets_rails_and_boot_witness_4 :
    (w_ResetsRailsAndBoot_34.reaches GCTL_CALREC_CMD ∧ w_ResetsRailsAndBoot_34.pcie.calWork = none ∧ w_ResetsRailsAndBoot_34.get CAL_RUN_STATUS_STATE = 0 ∧
      w_ResetsRailsAndBoot_34.inRegion 0 w_ResetsRailsAndBoot_34.calrecAddr calrecLen = true) ∧
    (w_ResetsRailsAndBoot_36.reaches GCTL_CALREC_CMD ∧ w_ResetsRailsAndBoot_36.pcie.calWork.isSome = true) ∧
    (w_ResetsRailsAndBoot_37.reaches GCTL_CALREC_CMD ∧ w_ResetsRailsAndBoot_37.pcie.calWork = none ∧ w_ResetsRailsAndBoot_37.get CAL_RUN_STATUS_STATE ≠ 0) ∧
    (w_ResetsRailsAndBoot_38.reaches GCTL_CALREC_CMD ∧ w_ResetsRailsAndBoot_38.pcie.calWork = none ∧
      w_ResetsRailsAndBoot_38.inRegion 0 w_ResetsRailsAndBoot_38.calrecAddr calrecLen = false) ∧
    (w_ResetsRailsAndBoot_39.reaches GCTL_CALREC_CMD ∧ w_ResetsRailsAndBoot_39.pcie.calWork = none ∧ w_ResetsRailsAndBoot_39.get CAL_RUN_STATUS_STATE = 0 ∧
      w_ResetsRailsAndBoot_39.inRegion 0 w_ResetsRailsAndBoot_39.calrecAddr calrecLen = false) ∧
    (w_ResetsRailsAndBoot_40.coreOn = true ∧ w_ResetsRailsAndBoot_40.pcie.calWork = some (false, 0)) ∧
    (w_ResetsRailsAndBoot_41.coreOn = true ∧ w_ResetsRailsAndBoot_41.pcie.calWork = some (true, 0) ∧ w_ResetsRailsAndBoot_41.poisonedIn 0 calrecLen = false ∧
      w_ResetsRailsAndBoot_41.calrecCheck (w_ResetsRailsAndBoot_41.memRead 0 calrecLen) = none) ∧
    (w_ResetsRailsAndBoot_36.coreOn = true ∧ w_ResetsRailsAndBoot_36.pcie.calWork = some (true, 64) ∧ w_ResetsRailsAndBoot_36.poisonedIn 64 calrecLen = false ∧
      w_ResetsRailsAndBoot_36.calrecCheck (w_ResetsRailsAndBoot_36.memRead 64 calrecLen) = some 3) ∧
    (w_ResetsRailsAndBoot_43.coreOn = true ∧ w_ResetsRailsAndBoot_43.pcie.calWork = some (true, 64) ∧ w_ResetsRailsAndBoot_43.poisonedIn 64 calrecLen = true) ∧
    (w_ResetsRailsAndBoot_38.coreOn = true ∧ w_ResetsRailsAndBoot_38.pcie.calWork = none) :=
  ⟨by decide +kernel,
   by decide +kernel,
   by decide +kernel,
   by decide +kernel,
   by decide +kernel,
   by decide +kernel,
   by decide +kernel,
   by decide +kernel,
   by decide +kernel,
   by decide +kernel⟩
def w_MemoryFrame_0 : State := okState (exec .csuLoad tOn)
theorem test_memory_frame_witness :
    (storesNothing .csuLoad = true ∧ exec .csuLoad tOn = .next w_MemoryFrame_0) :=
  ⟨by decide +kernel, rfl⟩

end Sys2Proof.Tests
end

section
/-!
PROOF. The run of the block (R4, R6, R444): a step runs the command at the front of the queue, every command answers a state
with the queue it was given, and so the queue runs dry.
-/

namespace Sys2Proof.Machine

theorem step_cons (c : Instr) (rest : List Instr) (s : State) :
    step { s with pending := c :: rest } = exec c { s with pending := rest } := rfl

theorem step_of_pending_nil {s : State} (h : s.pending = []) : step s = .next s := by
  rw [step, h]

theorem step_of_pending_cons {s : State} {c : Instr} {rest : List Instr} (h : s.pending = c :: rest) :
    step s = exec c { s with pending := rest } := by
  rw [step, h]

/-- Settles O1: both clauses are the two cases of the queue in the definition of a step. -/
theorem stepRunsFrontCommand : Obligations.StepRunsFrontCommand :=
  ⟨step_cons, fun _ h => step_of_pending_nil h⟩

/-- Every arm of the dispatch ends in `keepQueue`, whatever wrapper decides if the command acts. -/
theorem exists_exec_eq_keepQueue (c : Instr) (s : State) : ∃ t, exec c s = .next (s.keepQueue t) := by
  cases c <;> exact ⟨_, rfl⟩

theorem exec_answers_keeping_pending (c : Instr) (s : State) : ∃ t, exec c s = .next t ∧ t.pending = s.pending := by
  obtain ⟨t, h⟩ := exists_exec_eq_keepQueue c s
  exact ⟨s.keepQueue t, h, State.keepQueue_pending s t⟩

/-- A step takes one command off the queue. -/
theorem step_takes_front {s : State} {c : Instr} {rest : List Instr} (h : s.pending = c :: rest) :
    ∃ t, step s = .next t ∧ t.pending = rest := by
  rw [step_of_pending_cons h]
  exact exec_answers_keeping_pending c { s with pending := rest }

theorem run_succ_of_step {s t : State} (n : Nat) (h : step s = .next t) :
    Host.Core.run Sys2Proof.core (n + 1) s = Host.Core.run Sys2Proof.core n t := by
  have hcore : Sys2Proof.core.step s = .next t := h
  simp only [Host.Core.run, hcore]

theorem run_drains_queue (q : List Instr) (s : State) (h : s.pending = q) :
    ∃ t : State, Host.Core.run Sys2Proof.core q.length s = .next t ∧ t.pending = [] := by
  induction q generalizing s with
  | nil => exact ⟨s, rfl, h⟩
  | cons c rest ih =>
    obtain ⟨t, hstep, hrest⟩ := step_takes_front h
    rw [List.length_cons, run_succ_of_step rest.length hstep]
    exact ih t hrest

/-- Settles O2, by induction on the queue. -/
theorem everyCommandAnswers : Obligations.EveryCommandAnswers :=
  ⟨exec_answers_keeping_pending, fun s => run_drains_queue s.pending s rfl⟩

end Sys2Proof.Machine
end

section
/-!
PROOF. Host accesses of BAR0 (R5, R20, R426): what the access codes do to a register, bit by bit, and when an access reaches
the effect of its register.
-/

namespace Sys2Proof.Machine

/-! ## Access codes, bit by bit -/

/-- Clearing the bits of a mask in a word. -/
theorem testBit_clear (v m : Nat) {b : Nat} (hb : b < 32) (hm : m < 2 ^ 32) :
    (v &&& (2 ^ 32 - 1 - m)).testBit b = (v.testBit b && !m.testBit b) := by
  rw [show 2 ^ 32 - 1 - m = 2 ^ 32 - (m + 1) by omega, Nat.testBit_and, Nat.testBit_two_pow_sub_succ hm]
  simp [hb]

/-- A register's word after a plain write of `val` over `old`, its RWL bits left out. -/
def RegRow.written (r : RegRow) (old val : Nat) : Nat :=
  (old ^^^ ((old ^^^ val) &&& r.rw)) &&& (2 ^ 32 - 1 - (val &&& r.w1c))

theorem RegRow.testBit_written (r : RegRow) (old : Nat) (val : Word) {b : Nat} (hb : b < 32) :
    (r.written old val.toNat).testBit b
      = ((if r.rw.testBit b then val.toNat.testBit b else old.testBit b) && !(r.w1c.testBit b && val.toNat.testBit b)) := by
  rw [RegRow.written, testBit_clear _ _ hb (Nat.and_le_left.trans_lt val.isLt)]
  simp only [Nat.testBit_xor, Nat.testBit_and]
  cases r.rw.testBit b <;> cases old.testBit b <;> cases r.w1c.testBit b <;> simp

theorem State.plainWrite_unlocked {off : Nat} {r : RegRow} (hrow : regRowAt off = some r) (hl : r.rwl = 0) (s : State) (val : Word) :
    s.plainWrite off val = s.wrN off (r.written (s.rdN off) val.toNat) := by
  simp only [State.plainWrite, hrow, hl, ↓reduceIte, RegRow.written]

/-- One bit of a register after a write of it. -/
theorem State.bitAt_rdN_wrN (s : State) (off v : Nat) {b : Nat} (hb : b < 32) : bitAt ((s.wrN off v).rdN off) b = v.testBit b := by
  rw [State.rdN_wrN, if_pos rfl, bitAt_eq_testBit, Nat.testBit_mod_two_pow, decide_eq_true hb, Bool.true_and]

theorem State.rd_wrN_ne (s : State) {off o : Nat} (v : Nat) (h : o ≠ off) : (s.wrN off v).rd o = s.rd o := by
  rw [State.rd_wrN, if_neg h]

/-- Settles O8, bit by bit of the word that the plain write stores. -/
theorem plainWriteByAccessCode : Obligations.PlainWriteByAccessCode := by
  intro s off val r hrow hl
  rw [State.plainWrite_unlocked hrow hl]
  refine ⟨fun b hb => ?_, fun o ho => State.rd_wrN_ne s _ ho, State.wrN_mem ..⟩
  simp only [State.bitAt_rdN_wrN _ _ _ hb, RegRow.testBit_written _ _ _ hb, bitAt_eq_testBit]

/-! ## Reads -/

theorem State.clearRc_eq_wrN {off : Nat} {r : RegRow} (hrow : regRowAt off = some r) (hrc : r.rc ≠ 0) (s : State) :
    s.clearRc off = s.wrN off (s.rdN off &&& (2 ^ 32 - 1 - r.rc)) := by
  simp only [State.clearRc, hrow, hrc, ↓reduceIte]

theorem State.clearRc_eq_self {off : Nat} {r : RegRow} (hrow : regRowAt off = some r) (hrc : r.rc = 0) (s : State) :
    s.clearRc off = s := by
  simp only [State.clearRc, hrow, hrc, ↓reduceIte]

/-- The register whose RC bits a read clears. -/
theorem State.bitAt_rdN_clearRc {off : Nat} {r : RegRow} (hrow : regRowAt off = some r) (s : State) {b : Nat} (hb : b < 32) :
    bitAt ((s.clearRc off).rdN off) b = (bitAt (s.rdN off) b && !bitAt r.rc b) := by
  obtain ⟨-, -, -, hlt, -⟩ := regRowAt_masks hrow
  by_cases hrc : r.rc = 0
  · simp [State.clearRc_eq_self hrow hrc, hrc, bitAt_eq_testBit]
  · rw [State.clearRc_eq_wrN hrow hrc, State.bitAt_rdN_wrN _ _ _ hb, testBit_clear _ _ hb hlt, bitAt_eq_testBit, bitAt_eq_testBit]

theorem State.rd_clearRc_ne {off o : Nat} {r : RegRow} (hrow : regRowAt off = some r) (s : State) (h : o ≠ off) :
    (s.clearRc off).rd o = s.rd o := by
  by_cases hrc : r.rc = 0
  · rw [State.clearRc_eq_self hrow hrc]
  · rw [State.clearRc_eq_wrN hrow hrc, State.rd_wrN_ne _ _ h]

theorem State.clearRc_pcie {off : Nat} {r : RegRow} (hrow : regRowAt off = some r) (s : State) :
    (s.clearRc off).pcie = s.pcie := by
  by_cases hrc : r.rc = 0
  · rw [State.clearRc_eq_self hrow hrc]
  · rw [State.clearRc_eq_wrN hrow hrc, State.wrN_pcie]

theorem State.readWord_of_row {off : Nat} {r : RegRow} (hrow : regRowAt off = some r) (s : State) :
    s.readWord off = s.rdN off &&& (2 ^ 32 - 1 - r.wo) := by
  simp only [State.readWord, hrow]

/-- An offset that a repeated register does not cover. -/
theorem atIdx_eq_none {base stride count off : Nat} (hc : 1 < count) (h : ∀ i < count, off ≠ base + stride * i) :
    atIdx base stride count off = none := by
  rw [atIdx, if_neg]
  intro hin
  simp only [offsetIn, if_neg (Nat.not_le.mpr hc), Bool.and_eq_true, decide_eq_true_eq, beq_iff_eq] at hin
  obtain ⟨⟨hle, hmod⟩, hlt⟩ := hin
  refine h _ hlt ?_
  rw [Nat.mul_div_cancel' (Nat.dvd_of_mod_eq_zero hmod), Nat.add_sub_cancel' hle]

/-- A read of a register whose read has no action of its own. -/
theorem State.hostRead_plain {off : Nat} (htime : off ≠ TMU_TIME_NS) (htick : off ≠ EVC_TICK_LO) (hhist : off ≠ NET_HIST_DATA)
    (hdbg : ∀ c < 4, off ≠ CH_DBG_DATA c) (s : State) :
    s.hostRead off = (s.complete (leBytes 4 (s.readWord off)) false).clearRc off := by
  have hidx : atIdx (CH_DBG_DATA 0) 0x400000 4 off = none := atIdx_eq_none (by decide) (fun c hc => hdbg c hc)
  rw [State.hostRead, if_neg htime, hidx]
  simp only [State.readEffect, htick, hhist, ↓reduceIte]

/-! ## Accesses that reach their register -/

/-- An access of a defined register of a block that is on. -/
theorem State.hostGate_defined {s : State} {off : Nat} {r : RegRow} (hd : s.pcie.d3 = false) (hon : s.blockOff off = false)
    (hrow : regRowAt off = some r) (isWrite : Bool) (go : State → State) : s.hostGate off isWrite go = go s := by
  simp only [State.hostGate, hd, hon, hrow, Bool.false_eq_true, ↓reduceIte]

theorem exec_rcRead_defined {s : State} {off : Nat} {r : RegRow} (hd : s.pcie.d3 = false) (ha : off % 4 = 0) (hlt : off < 0x4000000)
    (hon : s.blockOff off = false) (hrow : regRowAt off = some r) :
    exec (.rcRead off) s = .next (s.keepQueue (s.hostRead off)) := by
  rw [exec_rcRead, State.runAlways_eq, rcRead, if_pos ⟨ha, hlt⟩, State.hostAccess, State.hostGate_defined hd hon hrow]
  simp only [Bool.false_eq_true, ↓reduceIte]

/-- Settles O7: outside the four registers with an action of their own, a read completes and clears the RC bits. -/
theorem registerRead : Obligations.RegisterRead := by
  intro s off r hd ha hlt hon hrow htime htick hhist hdbg
  have hread := State.hostRead_plain htime htick hhist hdbg s
  refine ⟨_, exec_rcRead_defined hd ha hlt hon hrow, ?_, fun b hb => ?_, fun o ho => ?_, ?_⟩ <;> rw [hread]
  · rw [State.keepQueue_pcie, State.clearRc_pcie hrow, State.readWord_of_row hrow, State.complete]
  · rw [State.keepQueue_rdN, State.bitAt_rdN_clearRc hrow _ hb, State.complete_rdN]
  · rw [State.keepQueue_rd, State.rd_clearRc_ne hrow _ ho, State.complete_rd]
  · rw [State.keepQueue_mem, State.clearRc_mem, State.complete_mem]

/-- A write of a defined register of a block that is on is a host write with the effect of that register. -/
theorem exec_registerWrite_defined {s : State} {off : Nat} {r : RegRow} (hd : s.pcie.d3 = false) (hon : s.blockOff off = false)
    (ha : off % 4 = 0) (hlt : off < 0x4000000) (hrow : regRowAt off = some r) (val : Word) :
    exec (.registerWrite off val) s = .next (s.runHost off val (fun u => u.hostWrite off val)) := by
  rw [exec_registerWrite, State.runAlways_eq, registerWrite, if_pos ⟨ha, hlt⟩, State.hostAccess,
    State.hostGate_defined hd hon hrow]
  simp only [↓reduceIte, State.runHost]

/-- A host write of a register that the pair shares, on a secondary (R426). -/
theorem State.runHost_secondary {s : State} {off : Nat} (hd : s.pcie.d3 = false) (hon : s.blockOff off = false)
    (hp : s.pairState = pairSecondary) (hsh : pairShared off = true) (val : Word) (f : State → State) :
    s.runHost off val f = s.keepQueue (s.refuseHost off) := by
  simp [State.runHost, State.hostDo, State.isSecondary, hd, hon, hp, hsh]

/-- Settles O9: a write of a defined register is a host write, which reaches it or is refused on a secondary. -/
theorem registerWriteReaches : Obligations.RegisterWriteReaches := by
  constructor
  · intro s off val r hreach ha hlt hrow
    have ⟨hd, hon, _⟩ := hreach
    rw [answers_iff, exec_registerWrite_defined hd hon ha hlt hrow, State.runHost_reaches hreach]
  · intro s off val r hd hon hp hsh ha hlt hrow
    rw [answers_iff, exec_registerWrite_defined hd hon ha hlt hrow, State.runHost_secondary hd hon hp hsh, State.refuseHost]

end Sys2Proof.Machine
end

section
/-!
PROOF. Device memory over a step (R22, R345, R346): which commands leave every byte, and that every command keeps the
canonical form. Each command is looked at once: its wrapper decides if it acts, and the law of its meaning does the rest.
-/

namespace Sys2Proof.Machine

/-! ## Commands that leave device memory -/

theorem State.runPll_mem (s : State) (p : Nat) (f : State → State) (h : ∀ t, (f t).mem = t.mem) : (s.runPll p f).mem = s.mem :=
  State.MemAs.ite (a := f s) (h s) (State.MemAs.refl _)

/-- The check of a staged image after an operation reads memory and stores nothing (R48). -/
theorem thenStaged_mem {f : State → State} (h : ∀ t, (f t).mem = t.mem) (s : State) : (thenStaged f s).mem = s.mem :=
  (State.stagedCheck_mem (f s)).trans (h s)

/-- The outcome of a command on `s` has the device memory of `s`. -/
def AnswersSameMem (s : State) (o : Host.Outcome State Fault Refusal) : Prop := ∀ t, o = .next t → t.mem = s.mem

namespace AnswersSameMem

variable {s : State} {f : State → State} {off : Nat} {val : Word} {p : Nat}

theorem next {t : State} (h : t.mem = s.mem) : AnswersSameMem s (.next t) := by
  rintro _ ⟨⟩
  exact h

theorem always (h : ∀ t, (f t).mem = t.mem) : AnswersSameMem s (.next (s.runAlways f)) := next (State.runAlways_mem s f h)
theorem aon (h : ∀ t, (f t).mem = t.mem) : AnswersSameMem s (.next (s.runAon f)) := next (State.runAon_mem s f h)
theorem pll (h : ∀ t, (f t).mem = t.mem) : AnswersSameMem s (.next (s.runPll p f)) := next (State.runPll_mem s p f h)
theorem core (h : ∀ t, (f t).mem = t.mem) : AnswersSameMem s (.next (s.runCore f)) := next (State.runCore_mem s f h)
theorem host (h : ∀ t, (f t).mem = t.mem) : AnswersSameMem s (.next (s.runHost off val f)) :=
  next (State.runHost_mem s off val f h)

end AnswersSameMem

/-- Command by command: the wrapper of each decides if it acts, and its meaning stores nothing. -/
theorem exec_answersSameMem (c : Instr) (s : State) (h : storesNothing c = true) : AnswersSameMem s (exec c s) := by
  cases c with
  | bar0MalformedRequest => exact .always (bar0MalformedRequest_mem _ _ _ _)
  | bar2Read => exact .always (bar2Read_mem _ _)
  | csuLoad => exact .host csuLoad_mem
  | csuVerify => exact .host csuVerify_mem
  | csuReload => exact .host csuReload_mem
  | csuCancel => exact .host csuCancel_mem
  | spiIdTimeout => exact .core spiIdTimeout_mem
  | keyProgram => exact .host (keyProgram_mem _)
  | keyRevoke => exact .host (keyRevoke_mem _)
  | rollbackProgram => exact .host (rollbackProgram_mem _)
  | fuseBlowComplete => exact .core (fuseBlowComplete_mem _)
  | stkAcquire => exact .host (stkAcquire_mem _)
  | stkRegister => exact .host (stkRegister_mem _ _)
  | stkAbandon => exact .host (stkAbandon_mem _ _)
  | stkRegisterMarked => exact .core (stkRegisterMarked_mem _)
  | stkEnable => exact .host (stkEnable_mem _)
  | stkDisable => exact .host (stkDisable_mem _)
  | cpoolWrite => exact .host (cpoolHost_mem _ _)
  | remoteTimeout => exact .core (remoteTimeout_mem _)
  | workItemDispatch => exact .core (workItemDispatch_mem _ _)
  | engReloadStart => exact .core (engReloadStart_mem _)
  | engReloadDone => exact .core (engReloadDone_mem _ _)
  | pcLineFill => exact .core (pcLineFill_mem _ _ _)
  | engEnableWrite => exact .host (engEnableWrite_mem _ _)
  | eyeSetCommit => exact .host (eyeSetCommit_mem _)
  | eyeStale => exact .core eyeStale_mem
  | camEnable => exact .host camEnable_mem
  | rigSelect => exact .host (rigSelect_mem _)
  | camRestart => exact .host camRestart_mem
  | lidCommit => exact .host (lidCommit_mem _)
  | lidOffscreen => exact .host (lidOffscreen_mem _)
  | layerFence => exact .host (layerFence_mem _)
  | overlayFieldStale => exact .core (overlayFieldStale_mem _)
  | wbHeldClear => exact .host (wbHeldClear_mem _)
  | updateStart => exact .core (updateStart_mem _)
  | packetSend => exact .core (packetSend_mem _)
  | corrSend => exact .core (corrSend_mem _)
  | srAck => exact .core (srAck_mem _ _ _)
  | srStat => exact .core (srStat_mem _ _ _)
  | srSwitch => exact .core (srSwitch_mem _ _ _)
  | srCaps => exact .core (srCaps_mem _ _ _)
  | srLockloss => exact .core (srLockloss_mem _ _ _)
  | srSilent => exact .core (srSilent_mem _)
  | splRestore => exact .host (splRestore_mem _)
  | holdRequest => exact .host (holdRequest_mem _)
  | holdExit => exact .core holdExit_mem
  | groupAdaptStart => exact .core (groupAdaptStart_mem _)
  | groupAdaptDone => exact .core (groupAdaptDone_mem _ _)
  | splEnable => exact .host splEnable_mem
  | groupStageDone => exact .core (groupStageDone_mem _ _)
  | groupStageTimeout => exact .core (groupStageTimeout_mem _)
  | groupFailedRetry => exact .core (groupFailedRetry_mem _)
  | splGBringup => exact .host (splGBringup_mem _)
  | splGRetrain => exact .host (splGRetrain_mem _)
  | splGDisable => exact .host (splGDisable_mem _)
  | fastRetrainDone => exact .core (fastRetrainDone_mem _ _ _)
  | splLoopbackSelect => exact .host (splLoopbackSelect_mem _ _)
  | loopbackError => exact .core (loopbackError_mem _ _)
  | auxTrain => exact .host auxTrain_mem
  | auxTrainDone => exact .core (auxTrainDone_mem _ _ _)
  | dpHpd => exact .core (dpHpd_mem _)
  | auxChTransaction => exact .host (auxChTransaction_mem _)
  | dpChDone => exact .core (dpChDone_mem _ _ _)
  | dpFrameStart => exact .core dpFrameStart_mem
  | dpUnderrun => exact .core (dpUnderrun_mem _ _)
  | tileTempWrite => exact .host (tileTempWrite_mem _ _)
  | tileTempStale => exact .core (tileTempStale_mem _)
  | alsReading => exact .core (alsReading_mem _)
  | passStart => exact .core passStart_mem
  | corrApplyDone => exact .core corrApplyDone_mem
  | mapFreeze => exact .host mapFreeze_mem
  | mapFrozen => exact .core mapFrozen_mem
  | mapUnfreeze => exact .host mapUnfreeze_mem
  | mapOpen => exact .host mapOpen_mem
  | mapRestored => exact .host mapRestored_mem
  | mapFresh => exact .host mapFresh_mem
  | calRunAll => exact .host calRunAll_mem
  | calRunDone => exact .core calRunDone_mem
  | pcRetrain => exact .core (pcRetrain_mem _)
  | pcRetrainDone => exact .core (pcRetrainDone_mem _ _)
  | vdecPut => exact .host (vdecPut_mem _ _)
  | vdecCtxEnable => exact .host (vdecCtxEnable_mem _ _)
  | vencCtxEnable => exact .host (vencCtxEnable_mem _ _)
  | vencInPut => exact .host (vencInPut_mem _ _)
  | rxFrame => exact .aon (rxFrame_mem _ _ _)
  | txFrame => exact .core (txFrame_mem _ _)
  | egressDelayDrop => exact .core (egressDelayDrop_mem _ _)
  | htxPut => exact .host (htxPut_mem _ _)
  | encTxAu => exact .core (encTxAu_mem _)
  | sieveRefill => exact .core sieveRefill_mem
  | prpSupervisionSend => exact .core prpSupervisionSend_mem
  | prpLanLost => exact .core (prpLanLost_mem _ _)
  | prpNodeForget => exact .core (prpNodeForget_mem _)
  | portLinkUp => exact .core (portLinkUp_mem _ _)
  | portLinkDown => exact .core (portLinkDown_mem _)
  | flowRead => exact .host flowRead_mem
  | flowWrite => exact .host flowWrite_mem
  | flowReadClear => exact .host flowReadClear_mem
  | exactAdd => exact .host (exactAdd_mem _)
  | exactDelete => exact .host exactDelete_mem
  | lossPop => exact .host lossPop_mem
  | tsqPop => exact .host (tsqPop_mem _)
  | histSample => exact .core histSample_mem
  | incrWrite => exact .host (incrWrite_mem _)
  | timeStep => exact .host (timeStep_mem _)
  | timeSet => exact .host (timeSet_mem _)
  | triggerArm => exact .host (triggerArm_mem _ _)
  | triggerTargetWrite => exact .host (triggerTargetWrite_mem _ _ _)
  | triggerFire => exact .pll (triggerFire_mem _)
  | ppsEdge => exact .pll ppsEdge_mem
  | extCapture => exact .pll extCapture_mem
  | memRead => exact .core (thenStaged_mem (memReadLine_mem _ _ _ _ _))
  | scrubRead => exact .core (thenStaged_mem (scrubRead_mem _ _))
  | refresh => exact .core (refreshBank_mem _)
  | hbmTempRead => exact .aon (hbmTempRead_mem _ _)
  | selfRefreshEnter => exact .core (selfRefreshEnter_mem _)
  | hbmTrainingDone => exact .core (hbmTrainingDone_mem _)
  | memRetireCmd => exact .host (memRetireCmd_mem _)
  | retirePreset => exact .host (retirePreset_mem _)
  | migrationCopy => exact .core (thenStaged_mem (migrationCopy_mem _))
  | bceStart => exact .host bceStart_mem
  | ckuCompute => exact .host (ckuCompute_mem _ _)
  | ckuAppend => exact .host (ckuAppend_mem _ _)
  | ckuCheck => exact .host (ckuCheck_mem _ _)
  | ckuJobDone => exact .core ckuJobDone_mem
  | ckuCtxWrite => exact .host (ckuCtxWrite_mem _ _ _)
  | dcoCompress => exact .host dcoCompress_mem
  | dcoDecompress => exact .host dcoDecompress_mem
  | dcoResume => exact .host dcoResume_mem
  | dcoAbort => exact .host dcoAbort_mem
  | msixModerationExpire => exact .core (moderationExpire_mem _)
  | swRaise => exact .host (swRaise_mem _)
  | earlyPop => exact .host earlyPop_mem
  | ringEnable => exact .host (ringEnable_mem _)
  | tickDivWrite => exact .host (tickDivWrite_mem _)
  | sleepCmd => exact .host sleepCmd_mem
  | deepSleepCmd => exact .host (deepSleepCmd_mem _)
  | wakeCmd => exact .host wakeCmd_mem
  | resumeAck => exact .host resumeAck_mem
  | wakePin => exact .aon wakePinLow_mem
  | wakeDone => exact .aon wakeDone_mem
  | pllLockTimeout => exact .aon (pllLockTimeout_mem _)
  | chGateWrite => exact .host (chGateWrite_mem _)
  | kettleSample => exact .aon kettleSample_mem
  | throttleStep => exact .aon throttleStep_mem
  | aliveSend => exact .core aliveSend_mem
  | ehlAck => exact .core (ehlAck_mem _ _)
  | ehlNak => exact .core (ehlNak_mem _ _)
  | ehlReplayTimeout => exact .core (ehlReplayTimeout_mem _)
  | ttimeSend => exact .core ttimeSend_mem
  | tdelayExchange => exact .core tdelayExchange_mem
  | pairLinkUp => exact .core (pairLinkUp_mem _ _ _ _)
  | pairLinkTimeout => exact .core pairLinkTimeout_mem
  | partnerSilent => exact .core partnerSilent_mem
  | lagMaxReached => exact .core lagMaxReached_mem
  | ehlResync => exact .host ehlResync_mem
  | ehlHandover => exact .host ehlHandover_mem
  | ehlTakeover => exact .host ehlTakeover_mem
  | treeLid => exact .host (treeLid_mem _)
  | treeReset => exact .host (treeReset_mem _)
  | snapArm => exact .host snapArm_mem
  | freezeArm => exact .host freezeArm_mem
  | lidApply => exact .core lidApply_mem
  | bcastStart => exact .host (bcastStart_mem _)
  | bcastDone => exact .core (bcastDone_mem _)
  | parentSilent => exact .core parentSilent_mem
  | laneDown => exact .core (laneDown_mem _ _)
  | timeLockChanged => exact .core timeLockChanged_mem
  | pcieLinkTrained => exact .pll (pcieLinkTrained_mem _ _)
  | railReenable => exact .always railReenable_mem
  | powerEnableOutputs => exact .always powerEnableOutputs_mem
  | fusesDone => exact .aon fusesDone_mem
  | applyDone => exact .core applyDone_mem
  | bootLate => exact .aon bootLate_mem
  | calrecSave => exact .host calrecSave_mem
  | calrecRestore => exact .host calrecRestore_mem
  | configurationRequest => exact .pll (configurationRequest_mem _)
  | hierarchyLaneUp => exact .core (hierarchyLaneUp_mem _ _ _)
  | pulseWidthEnd => exact .pll (pulseWidthEnd_mem _)
  | _ => cases h

/-- Settles O60: the same memory reads the same, byte for byte. -/
theorem memoryFrame : Obligations.MemoryFrame := by
  intro c s t hc ht
  have hmem : t.mem = s.mem := exec_answersSameMem c s hc t ht
  exact ⟨hmem, fun a => by rw [hmem]⟩

/-! ## Every command keeps the canonical form -/

/-- The outcome of a command on `s` has its device memory in canonical form if `s` has. -/
def AnswersMemOk (s : State) (o : Host.Outcome State Fault Refusal) : Prop := s.MemOk → ∀ t, o = .next t → t.MemOk

namespace AnswersMemOk

variable {s : State} {f : State → State} {off : Nat} {val : Word} {p : Nat}

theorem next {t : State} (h : s.MemOk → t.MemOk) : AnswersMemOk s (.next t) := by
  rintro hs _ ⟨⟩
  exact h hs

theorem always (h : ∀ t : State, t.MemOk → (f t).MemOk) : AnswersMemOk s (.next (s.runAlways f)) :=
  next fun hs => State.runAlways_wf s f hs h
theorem aon (h : ∀ t : State, t.MemOk → (f t).MemOk) : AnswersMemOk s (.next (s.runAon f)) :=
  next fun hs => State.runAon_wf s f hs h
theorem pll (h : ∀ t : State, t.MemOk → (f t).MemOk) : AnswersMemOk s (.next (s.runPll p f)) :=
  next fun hs => State.runPll_wf s p f hs h
theorem core (h : ∀ t : State, t.MemOk → (f t).MemOk) : AnswersMemOk s (.next (s.runCore f)) :=
  next fun hs => State.runCore_wf s f hs h
theorem host (h : ∀ t : State, t.MemOk → (f t).MemOk) : AnswersMemOk s (.next (s.runHost off val f)) :=
  next fun hs => State.runHost_wf s off val f hs h

theorem ofSameMem {o : Host.Outcome State Fault Refusal} (h : AnswersSameMem s o) : AnswersMemOk s o :=
  fun hs t ht => wf_of_mem (h t ht) hs

end AnswersMemOk

theorem thenStaged_keeps {f : State → State} (h : ∀ t : State, t.MemOk → (f t).MemOk) (s : State) (hs : s.MemOk) :
    (thenStaged f s).MemOk := thenStaged_wf f s hs h

/-- An access of CH_DBG_DATA, at one of the four channels. -/
theorem exec_dbgDataAccess_memOk (c : Nat) (isWrite : Bool) (data : DbgWord) (s : State) :
    AnswersMemOk s (exec (.dbgDataAccess c isWrite data) s) :=
  .next fun hs => State.MemOk.ite (State.debugAccess_wf s c isWrite data.word data.ecc hs) hs

theorem exec_msixUnmask_mem (v : Option Nat) (s : State) : AnswersSameMem s (exec (.msixUnmask v) s) := by
  cases v with
  | some n => exact .next (State.hostDo_mem s _ _ _ (msixUnmask_mem (some n)))
  | none => exact .aon (msixUnmask_mem none)

/-- Command by command, those that may store: the meaning of each keeps the canonical form. -/
theorem exec_answersMemOk (c : Instr) (s : State) : AnswersMemOk s (exec c s) := by
  by_cases hn : storesNothing c = true
  · exact .ofSameMem (exec_answersSameMem c s hn)
  cases c with
  | registerWrite => exact .always (registerWrite_wf _ _)
  | offDomainAccess => exact .always (offDomainAccess_wf _ _ _)
  | bar0UndefinedAccess => exact .always (bar0UndefinedAccess_wf _ _ _)
  | bar2Write => exact .always (bar2Write_wf _ _)
  | imageCheckComplete => exact .core (imageCheckComplete_wf _)
  | reloadLoadingDone => exact .core (reloadLoadingDone_wf _)
  | ttBegin => exact .core (ttBegin_wf _)
  | ttTile => exact .core (ttTile_wf _)
  | ttRemove => exact .core (ttRemove_wf _)
  | ttEnd => exact .core (ttEnd_wf _)
  | add => exact .core (engAdd_wf _ _)
  | sub => exact .core (engSub_wf _ _)
  | mul => exact .core (engMul_wf _ _)
  | mulh => exact .core (engMulh_wf _ _)
  | mulhu => exact .core (engMulhu_wf _ _)
  | and => exact .core (engAnd_wf _ _)
  | or => exact .core (engOr_wf _ _)
  | xor => exact .core (engXor_wf _ _)
  | shl => exact .core (engShl_wf _ _)
  | shr => exact .core (engShr_wf _ _)
  | sra => exact .core (engSra_wf _ _)
  | srar => exact .core (engSrar_wf _ _)
  | min => exact .core (engMin_wf _ _)
  | max => exact .core (engMax_wf _ _)
  | minu => exact .core (engMinu_wf _ _)
  | maxu => exact .core (engMaxu_wf _ _)
  | clampu => exact .core (engClampu_wf _ _)
  | sel => exact .core (engSel_wf _ _)
  | cmpeq => exact .core (engCmpeq_wf _ _)
  | cmplt => exact .core (engCmplt_wf _ _)
  | cmpltu => exact .core (engCmpltu_wf _ _)
  | cmple => exact .core (engCmple_wf _ _)
  | abs => exact .core (engAbs_wf _ _)
  | clz => exact .core (engClz_wf _ _)
  | mulsr => exact .core (engMulsr_wf _ _)
  | movi => exact .core (engMovi_wf _ _)
  | movhi => exact .core (engMovhi_wf _ _)
  | vmovi => exact .core (engVmovi_wf _ _)
  | bcst => exact .core (engBcst_wf _ _)
  | laneid => exact .core (engLaneid_wf _ _)
  | vext => exact .core (engVext_wf _ _)
  | vins => exact .core (engVins_wf _ _)
  | plogic => exact .core (engPlogic_wf _ _)
  | pany => exact .core (engPany_wf _ _)
  | pcnt => exact .core (engPcnt_wf _ _)
  | lds => exact .core (engLds_wf _ _)
  | sts => exact .core (engSts_wf _ _)
  | ldv => exact .core (engLdv_wf _ _)
  | stv => exact .core (engStv_wf _ _)
  | ldx => exact .core (engLdx_wf _ _)
  | stx => exact .core (engStx_wf _ _)
  | dmrd => exact .core (engDmrd_wf _ _)
  | dmwr => exact .core (engDmwr_wf _ _)
  | dmwait => exact .core (engDmwait_wf _ _)
  | rdcsr => exact .core (engRdcsr_wf _ _)
  | wrcsr => exact .core (engWrcsr_wf _ _)
  | fence => exact .core (engFence_wf _ _)
  | smp => exact .core (engSmp_wf _ _)
  | smpn => exact .core (engSmpn_wf _ _)
  | smpo => exact .core (engSmpo_wf _ _)
  | sweep => exact .core (engSweep_wf _ _)
  | occ => exact .core (engOcc_wf _ _)
  | pft => exact .core (engPft_wf _ _)
  | drive => exact .core (engDrive_wf _ _)
  | emit => exact .core (engEmit_wf _ _)
  | twr => exact .core (engTwr_wf _ _)
  | br => exact .core (engBr_wf _ _)
  | bz => exact .core (engBz_wf _ _)
  | bnz => exact .core (engBnz_wf _ _)
  | call => exact .core (engCall_wf _ _)
  | ret => exact .core (engRet_wf _ _)
  | vbany => exact .core (engVbany_wf _ _)
  | vbnone => exact .core (engVbnone_wf _ _)
  | done => exact .core (engDone_wf _ _)
  | trap => exact .core (engTrap_wf _ _)
  | dmaTransferComplete => exact .core (dmaTransferComplete_wf _ _ _)
  | wiTimeout => exact .core (wiTimeout_wf _)
  | lsScrub => exact .core (lsScrub_wf _ _ _)
  | dbgDataAccess => exact exec_dbgDataAccess_memOk _ _ _ s
  | frameStart => exact .core frameStart_wf
  | frameForced => exact .core frameForced_wf
  | frameSetupDone => exact .core frameSetupDone_wf
  | buildInstant => exact .core buildInstant_wf
  | commitPrepDone => exact .core commitPrepDone_wf
  | offscreenDone => exact .core offscreenDone_wf
  | lateLayerReady => exact .core (lateLayerReady_wf _)
  | frameComplete => exact .core frameComplete_wf
  | frameDeadline => exact .core frameDeadline_wf
  | srNak => exact .core (srNak_wf _ _ _)
  | pieceAckTimeout => exact .core (pieceAckTimeout_wf _)
  | holdEnter => exact .core holdEnterThen_wf
  | cloneCopyDone => exact .core (cloneCopyDone_wf _)
  | passDone => exact .core passDone_wf
  | vdecCtxDisable => exact .host (vdecCtxDisable_wf _ _)
  | vdecFlush => exact .host (vdecFlush_wf _)
  | vdecReset => exact .host (vdecReset_wf _)
  | decodeStart => exact .core (decodeStart_wf _ _)
  | decodeComplete => exact .core (decodeComplete_wf _ _)
  | encodeInstant => exact .core (encodeInstant_wf _)
  | encodeComplete => exact .core (encodeComplete_wf _ _)
  | ingressDrain => exact .core ingressDrain_wf
  | timeRead => exact .always (rcRead_wf _)
  | memWrite => exact .core (thenStaged_keeps (memWriteLine_wf _ _ _ _ _ _))
  | bceAbort => exact .host bceAbort_wf
  | bceNop => exact .core bceNop_wf
  | bceCopy => exact .core bceCopy_wf
  | bceFill => exact .core bceFill_wf
  | bceLink => exact .core bceLink_wf
  | bceStop => exact .core bceStop_wf
  | dcoOutFull => exact .core dcoOutFull_wf
  | dcoJobDone => exact .core dcoJobDone_wf
  | eventTick => exact .aon eventTickEnd_wf
  | ringWriteDone => exact .core ringWriteDone_wf
  | msixUnmask => exact .ofSameMem (exec_msixUnmask_mem _ s)
  | sleepEntered => exact .core sleepEntered_wf
  | kettleSampleDone => exact .aon (kettleSampleDone_wf _)
  | stopWindowExpire => exact .aon stopWindowExpire_wf
  | alive => exact .core (alive_wf _ _ _)
  | regw => exact .core (regw_wf _ _)
  | stack => exact .core (stack_wf _ _)
  | commit => exact .core (commit_wf _ _)
  | build => exact .core (build_wf _ _)
  | fstart => exact .core (fstart_wf _ _)
  | fend => exact .core (fend_wf _ _)
  | handover => exact .core (handover_wf _)
  | power => exact .aon (power_wf _ _)
  | join => exact .core (join_wf _ _)
  | tlid => exact .core (tlid_wf _ _ _)
  | treset => exact .core (treset_wf _ _ _)
  | ttime => exact .core (ttime_wf _ _)
  | tdelay => exact .core (tdelay_wf _ _)
  | tarm => exact .core (tarm_wf _ _ _)
  | tbcast => exact .core (tbcast_wf _ _ _ _)
  | tstatus => exact .core (tstatus_wf _)
  | treeResetApply => exact .core treeResetApply_wf
  | snapshotTake => exact .core snapshotTake_wf
  | functionReset => exact .pll (functionReset_wf _)
  | gctlResetFull => exact .host (gctlResetFull_wf _)
  | gctlResetImage => exact .host (gctlResetImage_wf _)
  | resetPin => exact .always resetPin_wf
  | powerGoodRise => exact .always (powerGoodRise_wf _)
  | powerGoodFall => exact .always powerGoodFall_wf
  | railPgFall => exact .always (railPgFall_wf _)
  | firstFrameStart => exact .core firstFrameStart_wf
  | calrecDone => exact .core calrecDone_wf
  | rcRead => exact .always (rcRead_wf _)
  | pgHbmPgSdsRise => exact .always pgHbmPgSdsRise_wf
  | vddAonBelowMinimum => exact .always vddAonBelowMinimum_wf
  | _ => exact absurd rfl hn

/-- Settles O3: the front command keeps the canonical form, and an empty queue changes nothing. -/
theorem stepKeepsMemoryCanonical : Obligations.StepKeepsMemoryCanonical := by
  intro s t hs ht
  cases hq : s.pending with
  | nil =>
    rw [step_of_pending_nil hq] at ht
    cases ht
    exact hs
  | cons c rest =>
    rw [step_of_pending_cons hq] at ht
    exact exec_answersMemOk c { s with pending := rest } hs t ht

end Sys2Proof.Machine
end

section
/-!
PROOF. What reset leaves (R412, R413), and accesses to a block that is off or gated (R21).
-/

namespace Sys2Proof.Machine

/-! ## The state after reset -/

/-- After reset no register has been written: each reads the reset value of its table. -/
theorem State.reset_rd (off : Nat) : State.reset.rd off = resetWord off := rfl

theorem State.reset_rdN (off : Nat) : State.reset.rdN off = (resetWord off).toNat := rfl

/-- Settles O4: the empty memory is canonical, and the registers named are looked up in the table of reset values. -/
theorem resetState : Obligations.ResetState := by
  refine ⟨rfl, rfl, ?_⟩
  simp only [State.reset_rd, State.reset_rdN]
  decide

/-! ## Accesses to a block that is off -/

theorem State.readZero_write (s : State) (dws : Nat) : s.readZero true dws = s := rfl

theorem State.readZero_read (s : State) (dws : Nat) : s.readZero false dws = s.complete (List.replicate (4 * dws) 0) false := rfl

/-- An access to a block that is off does not come to its register. -/
theorem State.hostAccess_off {s : State} {off : Nat} (hd : s.pcie.d3 = false) (hoff : s.blockOff off = true) (isWrite : Bool) (val : Word) :
    s.hostAccess off isWrite val = (s.raise 7 off).readZero isWrite 1 := by
  simp only [State.hostAccess, State.hostGate, hd, hoff, Bool.false_eq_true, ↓reduceIte]

theorem State.blockOff_core {s : State} {off : Nat} (hp : off < 0x400000 ∨ 0x800000 ≤ off) (hc : s.coreOn = false) :
    s.blockOff off = true := by
  have hpwr : ¬(0x400000 ≤ off ∧ off < 0x800000) := by omega
  simp only [State.blockOff, hpwr, hc, ↓reduceIte, Bool.not_false, Bool.true_or]

theorem State.blockOff_gate {s : State} {c k : Nat} (hc : c < 4) (hk : k < 0x400000) (hg : s.gateOpen c = false) :
    s.blockOff (0x800000 + 0x400000 * c + k) = true := by
  have hpwr : ¬(0x400000 ≤ 0x800000 + 0x400000 * c + k ∧ 0x800000 + 0x400000 * c + k < 0x800000) := by omega
  have hch : 0x800000 ≤ 0x800000 + 0x400000 * c + k ∧ 0x800000 + 0x400000 * c + k < 0x1800000 := by omega
  have hdiv : (0x800000 + 0x400000 * c + k - 0x800000) / 0x400000 = c := by omega
  simp only [State.blockOff, State.chanOff, hpwr, hch, hdiv, hg, and_self, decide_true, ↓reduceIte, Bool.not_false, Bool.true_or,
    Bool.and_true, Bool.or_true]

/-- Settles O5: the gate of an access answers for a block that is off, and the map of the blocks says which are. -/
theorem offDomainAccess_answers : Obligations.OffDomainAccess := by
  refine ⟨fun s off val hd ha hlt hoff => ?_, by decide, fun s off => State.blockOff_core, fun s c k => State.blockOff_gate⟩
  have hread := State.hostAccess_off hd hoff false
  have hwrite := State.hostAccess_off hd hoff true
  refine ⟨?_, ?_, ?_, ?_⟩
  · rw [answers_iff, exec_rcRead, State.runAlways_eq, rcRead, if_pos ⟨ha, hlt⟩, hread]
    rfl
  · rw [answers_iff, exec_registerWrite, State.runAlways_eq, registerWrite, if_pos ⟨ha, hlt⟩, hwrite, State.readZero_write]
  · rw [answers_iff, exec_offDomainAccess, State.runAlways_eq, offDomainAccess, if_pos ⟨ha, hlt, hoff⟩, hread]
    rfl
  · rw [answers_iff, exec_offDomainAccess, State.runAlways_eq, offDomainAccess, if_pos ⟨ha, hlt, hoff⟩, hwrite, State.readZero_write]

end Sys2Proof.Machine
end

section
/-!
PROOF. Frames start, and their set-up ends (R15, R146, R149, R199, R422).
-/

namespace Sys2Proof.Machine

/-! ## When a frame starts (R199, R231) -/

theorem State.mayStart_iff (s : State) :
    s.mayStart = true ↔ s.csu.image ≠ none ∧ s.on SPL_STATUS_FRAME_ACTIVE = false ∧ s.frame.ended = true ∧ s.on SPL_STATUS_HOLD = false
      ∧ s.spl.holdWas = false ∧ s.cal.applying = false ∧ s.pwrState ≤ 1 ∧ s.pcie.resetAsked = none ∧ s.pwr.stopping = none := by
  simp [State.mayStart, State.frameOn, Option.isSome_iff_ne_none, and_assoc]

theorem State.forceDue_iff (s : State) :
    s.forceDue = true ↔ s.frame.seen = true ∧ s.drives = true ∧ s.mayStart = true ∧ s.frame.startAt + 2 * s.frame.maxNs ≤ s.now
      ∧ s.earliest ≤ s.now := by
  simp [State.forceDue, and_assoc]

/-- What a FRAME_START asks for where nothing is forced, on a device that is no secondary. -/
def State.startDue (s : State) : Prop :=
  s.frame.seen = true ∧ s.drives = true ∧ s.mayStart = true ∧ s.frame.armed = true ∧ s.earliest ≤ s.now

/-! FRAME_START of a device that is no secondary: forced, armed, or nothing. -/
theorem frameStart_forced {s : State} (hsec : s.isSecondary = false) (hf : s.forceDue = true) : frameStart s = s.startFrame true false := by
  simp only [frameStart, hsec, hf, Bool.false_eq_true, ↓reduceIte]

theorem frameStart_armed {s : State} (hsec : s.isSecondary = false) (hf : s.forceDue = false) (hd : s.startDue) :
    frameStart s = s.startFrame false false := by
  obtain ⟨hseen, hdrives, hmay, harmed, hearly⟩ := hd
  simp only [frameStart, hsec, hf, hseen, hdrives, hmay, harmed, hearly, decide_true, Bool.and_self, Bool.false_eq_true, ↓reduceIte]

theorem frameStart_idle {s : State} (hsec : s.isSecondary = false) (hf : ¬s.forceDue = true) (hd : ¬s.startDue) : frameStart s = s := by
  have hcond : ¬(s.frame.seen && s.drives && s.mayStart && s.frame.armed && decide (s.earliest ≤ s.now)) = true := by
    simpa [State.startDue, and_assoc] using hd
  simp only [frameStart, hsec, hf, hcond, Bool.false_eq_true, ↓reduceIte]

/-- FRAME_START of a secondary whose record waits with everything it names (R422, R423). -/
theorem frameStart_secondary {s : State} {r : FrameRec} (hsec : s.isSecondary = true) (hr : s.ehl.fstart = some r)
    (himg : s.csu.image ≠ none) (hon : s.on SPL_STATUS_FRAME_ACTIVE = false) (hcal : s.cal.applying = false)
    (hready : s.fstartReady r = true) (hfull : r.full = false) :
    frameStart s =
      (let v := ((if s.frameNo = r.frame then s else s.put ⟨SPL_FRAME_CNT, 15, 0⟩ (r.frame + 65535)).wrN SPL_ATTEMPT
          ((r.att + 255) % 256)).startFrame false false
       { v with frame := { v.frame with deadline := v.now + 2 * (r.deadline - r.start) } }) := by
  simp only [frameStart, hsec, hr, Option.isSome_iff_ne_none.mpr himg, State.frameOn, hon, hcal, hready, hfull, Bool.not_false, Bool.and_self,
    Bool.false_eq_true, ↓reduceIte]

/-! ## The frame that opens -/

theorem State.raiseIf_rd (s : State) (c : Bool) (src data off : Nat) : (s.raiseIf c src data).rd off = s.rd off := by
  cases c <;> rfl

/-- The two bits that show a frame in progress are set, and only fields beside them are written after them. -/
theorem State.frameOpened_active (s : State) (forced : Bool) :
    (s.frameOpened forced).on SPL_STATUS_FRAME_ACTIVE = true ∧ (s.frameOpened forced).on CMP_FRAME_STATUS_ACTIVE = true := by
  have hspl (w : Word) : SPL_STATUS_FRAME_ACTIVE.ext (SPL_STATUS_FRAME_ACTIVE.ins w 1) = 1 :=
    Fld.ext_ins _ w 1 (by decide) (by decide)
  have hcmp (w : Word) (x : Nat) : CMP_FRAME_STATUS_ACTIVE.ext
      (CMP_FRAME_STATUS_WAIT_HELD.ins (CMP_FRAME_STATUS_FORCED.ins (CMP_FRAME_STATUS_ACTIVE.ins w 1) x) 0) = 1 := by
    rw [Fld.ext_ins_disjoint _ _ _ _ (by decide) (by decide) (by decide),
      Fld.ext_ins_disjoint _ _ _ _ (by decide) (by decide) (by decide), Fld.ext_ins _ _ _ (by decide) (by decide)]
    rfl
  cases forced <;>
    simp [State.frameOpened, State.on, State.get, State.raiseIf_rd, State.rd_put, State.count, State.countN, State.putB, hspl, hcmp]

theorem State.frameOpened_counts (s : State) (forced : Bool) :
    (s.frameOpened forced).rdN CMP_FRAME_START_CNT = min (s.rdN CMP_FRAME_START_CNT + 1) 0xFFFFFFFF
      ∧ (s.frameOpened forced).rdN CMP_FRAME_FORCED_CNT
        = (if forced then min (s.rdN CMP_FRAME_FORCED_CNT + 1) 0xFFFFFFFF else s.rdN CMP_FRAME_FORCED_CNT) := by
  cases forced <;> simp [State.frameOpened, State.rdN, State.raiseIf_rd, State.rd_put, State.count, State.countN, State.putB]

theorem State.frameOpened_setup (s : State) (forced : Bool) :
    (s.frameOpened forced).frame.setup = true ∧ (s.frameOpened forced).frame.startAt = s.now := ⟨rfl, rfl⟩

/-! ## The end of the set-up (R146, R149, R150) -/

/-- The set-up of a frame ends: its results, its queue, the shares and runs of the channels, and the windows. -/
def State.setupEnded (s : State) : State :=
  ((((State.showSetup { s with frame := { s.frame with setup := false } }).formQueue).shareOut).settleQueue).closeWindows

theorem frameSetupDone_engines {s : State} (hset : s.frame.setup = true) (he : ∃ c < 4, s.get (CH_STATUS_SYNTH_ENGINES c) ≠ 0) :
    frameSetupDone s = s.setupEnded := by
  have hall : ¬(List.range 4).all (fun c => s.get (CH_STATUS_SYNTH_ENGINES c) == 0) = true := by
    obtain ⟨c, hc, hne⟩ := he
    intro h
    exact hne (by simpa using List.all_eq_true.mp h c (List.mem_range.mpr hc))
  simp only [frameSetupDone, hset, hall, Bool.not_true, Bool.false_eq_true, ↓reduceIte, State.setupEnded]

theorem frameSetupDone_none {s : State} (hset : s.frame.setup = true) (he : ∀ c < 4, s.get (CH_STATUS_SYNTH_ENGINES c) = 0) :
    frameSetupDone s = if s.frame.rects = [] then s.setupEnded.raise 283 0 else (s.setupEnded.raise 283 0).abortFrame 3 := by
  have hall : (List.range 4).all (fun c => s.get (CH_STATUS_SYNTH_ENGINES c) == 0) = true := by
    simpa using he
  simp only [frameSetupDone, hset, hall, Bool.not_true, Bool.false_eq_true, ↓reduceIte, State.setupEnded, List.isEmpty_iff]

/-- Settles O36, clause by clause: the cases of FRAME_START, what arms and allows it, the frame that opens, and the end of
the set-up. -/
theorem framesStartAndSetUp : Obligations.FramesStartAndSetUp := by
  refine ⟨?armed, fun s => ⟨rfl, rfl⟩, ?forced, ?idle, State.mayStart_iff, ?secondary, ?opened, ?engines, ?none⟩
  case armed =>
    intro s hcore hsec hf hseen hdrives hmay harmed hearly
    rw [answers_iff, exec_frameStart, State.runCore_on hcore, frameStart_armed hsec hf ⟨hseen, hdrives, hmay, harmed, hearly⟩]
  case forced =>
    intro s hcore hsec hseen hdrives hmay hmax hearly
    have hf : s.forceDue = true := (State.forceDue_iff s).mpr ⟨hseen, hdrives, hmay, hmax, hearly⟩
    rw [answers_iff, answers_iff, exec_frameStart, exec_frameForced, State.runCore_on hcore, State.runCore_on hcore,
      frameStart_forced hsec hf, frameForced, if_pos hf]
    exact ⟨rfl, rfl⟩
  case idle =>
    intro s hcore hsec hno
    have hf : ¬s.forceDue = true := by
      rw [State.forceDue_iff]
      rintro ⟨hseen, hdrives, hmay, hmax, hearly⟩
      simp only [hseen, hdrives, hmay, Bool.true_eq_false, false_or] at hno
      omega
    have hd : ¬s.startDue := by
      rintro ⟨hseen, hdrives, hmay, harmed, hearly⟩
      simp only [hseen, hdrives, hmay, harmed, Bool.true_eq_false, false_and, false_or] at hno
      omega
    rw [answers_iff, exec_frameStart, State.runCore_on hcore, frameStart_idle hsec hf hd]
  case secondary =>
    rintro s r u v hcore hsec hr himg hon hcal hready hfull rfl rfl
    rw [answers_iff, exec_frameStart, State.runCore_on hcore, frameStart_secondary hsec hr himg hon hcal hready hfull]
  case opened =>
    intro s forced
    obtain ⟨hspl, hcmp⟩ := s.frameOpened_active forced
    obtain ⟨hstart, hforced⟩ := s.frameOpened_counts forced
    exact ⟨hspl, hcmp, hstart, hforced, s.frameOpened_setup forced⟩
  case engines =>
    intro s hcore hset he
    rw [answers_iff, exec_frameSetupDone, State.runCore_on hcore, frameSetupDone_engines hset he, State.setupEnded]
  case none =>
    intro s hcore hset he
    rw [answers_iff, exec_frameSetupDone, State.runCore_on hcore, frameSetupDone_none hset he, State.setupEnded]

end Sys2Proof.Machine
end

section
/-!
PROOF. Sleep, wake, clocks and channel gates (R398 to R404, R411).
-/

namespace Sys2Proof.Machine

/-! ## Sleep commands (R398) -/

theorem pairShared_pwrCmd : pairShared PWR_CMD = false := pairShared_below (by decide)

theorem pairShared_chGate : pairShared PWR_CH_GATE = false := pairShared_below (by decide)

theorem State.sleepCmd_refused {s : State} {deep force : Bool} {c : Nat} (h : s.sleepRefusal deep force = some c) :
    s.sleepCmd deep force = (s.put ⟨PWR_STATE, 15, 8⟩ c).raise 98 0 := by
  rw [State.sleepCmd, h]

/-- Entry begins: ENTERING is shown, HOLD is asked for, and the kind and time of the entry are kept. -/
def State.entryBegun (s : State) (deep : Bool) : State :=
  let s1 := (s.wrN PWR_STATE 2).askHold 1
  { s1 with pwr := { s1.pwr with deep := deep, entryStart := s.now, slept := false, woken := false } }

theorem State.sleepCmd_light {s : State} {force : Bool} (h : s.sleepRefusal false force = none) :
    s.sleepCmd false force = (s.entryBegun false).toPartner (.power 1) := by
  rw [State.sleepCmd, h]
  rfl

theorem State.sleepCmd_deep {s : State} {force : Bool} (h : s.sleepRefusal true force = none) :
    s.sleepCmd true force = if s.on EHL_CFG_PAIR_DEEP then (s.entryBegun true).toPartner (.power 2) else s.entryBegun true := by
  rw [State.sleepCmd, h]
  rfl

theorem State.askHold_on (s : State) (n : Nat) (f : Fld) : (s.askHold n).on f = s.on f := by
  rw [State.askHold]
  split <;> rfl

/-- The register that says how the pair sleeps deep is not one that the beginning of an entry writes. -/
theorem State.entryBegun_pairDeep (s : State) : ((s.wrN PWR_STATE 2).askHold 1).on EHL_CFG_PAIR_DEEP = s.on EHL_CFG_PAIR_DEEP := by
  rw [State.askHold_on, State.on, State.get_wrN_off _ _ _ _ (by decide), State.on]

/-! ## The end of an entry (R399, R403) -/

theorem sleepEntered_entering {s : State} (hready : s.entryReady = true) (hst : s.pwrState = 2) : sleepEntered s = s.finishEntry := by
  simp only [sleepEntered, hready, hst, Bool.not_true, Bool.false_eq_true, ↓reduceIte]

theorem sleepEntered_woken {s : State} (hready : s.entryReady = true) (hst : s.pwrState ≠ 2) (hw : s.wokenThisTick = true) :
    sleepEntered s = ((s.put ⟨PWR_STATE, 2, 0⟩ 2).finishEntry).wake wakeHost := by
  simp only [sleepEntered, hready, hst, hw, Bool.not_true, Bool.false_eq_true, ↓reduceIte]

theorem sleepEntered_idle {s : State} (h : s.entryReady = false ∨ (s.pwrState ≠ 2 ∧ s.wokenThisTick = false)) : sleepEntered s = s := by
  rcases h with hready | ⟨hst, hw⟩
  · simp only [sleepEntered, hready, Bool.not_false, ↓reduceIte]
  · simp only [sleepEntered, hst, hw, Bool.false_eq_true, ↓reduceIte, ite_self]

/-- The PLLs of SLEEP stop, the stacks refresh themselves, and the time of the entry is shown. -/
def State.clocksStopped (s : State) (us : Nat) : State :=
  let s2 := s.put MEM_STATUS_SELF_REFRESH 3
  (s2.wrN PWR_PLL_STATUS (s2.rdN PWR_PLL_STATUS &&& (2 ^ 32 - 1 - sleepPlls))).wrN PWR_ENTRY_TIME (us % 2 ^ 24)

theorem State.clocksStopped_mem (s : State) (us : Nat) : (s.clocksStopped us).mem = s.mem := rfl

/-- What both kinds of entry do before they part: the held frames drain, the gates close, and the clocks stop. -/
def State.entryDrained (s : State) : State :=
  ((s.drainAll).discardEgress.closeGates).clocksStopped (s.usSince s.pwr.entryStart)

theorem State.entryDrained_mem (s : State) : s.entryDrained.mem = (s.drainAll).discardEgress.mem := by
  rw [State.entryDrained, State.clocksStopped_mem, State.closeGates_mem]

/-- The end of a light entry. -/
def State.lightEntered (s : State) (level : Nat) : State :=
  let s4 := ((s.loseStores).put ⟨PWR_STATE, 2, 0⟩ 3).raise 96 0
  { s4 with cal := { s4.cal with heldLevel := some level }, pwr := { s4.pwr with pllRetry := 0 } }

/-- The end of a deep entry. -/
def State.deepEntered (s : State) (now : Nat) : State :=
  (((s.dropCore).put ⟨PWR_STATE, 2, 0⟩ 5).wrN PWR_PLL_STATUS 1).setRails (fun r => { r with
    enHbm := false, enSds := false, pgHbm := false, pgSds := false, fallAt := now })

theorem State.finishEntry_light {s : State} (h : s.pwr.deep = false) : s.finishEntry = s.entryDrained.lightEntered s.spl.holdLevel := by
  rw [State.finishEntry]
  simp only [h, Bool.false_eq_true, ↓reduceIte, State.lightEntered, State.entryDrained, State.clocksStopped]

theorem State.finishEntry_deep {s : State} (h : s.pwr.deep = true) : s.finishEntry = s.entryDrained.deepEntered s.now := by
  rw [State.finishEntry]
  simp only [h, ↓reduceIte, State.deepEntered, State.entryDrained, State.clocksStopped]

theorem State.pwrState_put (s : State) {n : Nat} (h : n < 8) : (s.put ⟨PWR_STATE, 2, 0⟩ n).pwrState = n :=
  (State.get_put_same s ⟨PWR_STATE, 2, 0⟩ n).trans (Nat.mod_eq_of_lt h)

/-- A light entry shows SLEEP, keeps memory, and empties stores and caches (R18, R399). -/
theorem State.lightEntered_keepsMem (s : State) (level : Nat) :
    (s.lightEntered level).pwrState = 3 ∧ (s.lightEntered level).mem = s.mem
      ∧ (∀ e ∈ (s.lightEntered level).engines, e.ls = [] ∧ e.valid = false) ∧ (∀ c ∈ (s.lightEntered level).chans, c.cache = []) := by
  refine ⟨State.pwrState_put s.loseStores (by decide), rfl, fun e he => ?_, fun c hc => ?_⟩
  · obtain ⟨e', -, rfl⟩ := List.mem_map.mp he
    exact ⟨rfl, rfl⟩
  · obtain ⟨c', -, rfl⟩ := List.mem_map.mp hc
    rfl

theorem State.keepRegs_mem (s r : State) (keep : Nat → Bool) : (s.keepRegs r keep).mem = r.mem :=
  foldl_memAs (fun (st : State) (e : Nat × Word) => st.wr e.1 e.2) (fun st e => st.wr_mem e.1 e.2) (State.MemAs.refl r)

/-- Nothing outside AON outlasts the loss of CORE: memory lists nothing, as after reset (log entry 3). -/
theorem State.dropCore_mem (s : State) : s.dropCore.mem = [] := State.keepRegs_mem s s.blank _

/-- A deep entry shows DEEP_SLEEP and one PLL, loses memory and turns both rails off (R399). -/
theorem State.deepEntered_losesMem (s : State) (now : Nat) :
    (s.deepEntered now).pwrState = 5 ∧ (s.deepEntered now).rdN PWR_PLL_STATUS = 1 ∧ (s.deepEntered now).mem = []
      ∧ (s.deepEntered now).pwr.rails.enHbm = false ∧ (s.deepEntered now).pwr.rails.enSds = false := by
  refine ⟨?_, ?_, State.dropCore_mem s, rfl, rfl⟩
  · exact (State.get_wrN_off _ PWR_PLL_STATUS 1 ⟨PWR_STATE, 2, 0⟩ (by decide)).trans (State.pwrState_put s.dropCore (by decide))
  · exact State.rdN_wrN (s.dropCore.put ⟨PWR_STATE, 2, 0⟩ 5) PWR_PLL_STATUS PWR_PLL_STATUS 1

/-! ## Waking (R400, R401, R403) -/

theorem State.wake_disabled {s : State} {c : Nat} (h : bitAt (s.rdN PWR_WAKE_EN) c = false) : s.wake c = s := by
  simp only [State.wake, h, Bool.not_false, ↓reduceIte]

theorem State.wake_starts {s : State} {c : Nat} (h : bitAt (s.rdN PWR_WAKE_EN) c = true) (hst : s.pwrState = 2 ∨ s.pwrState = 3) :
    s.wake c = (let s1 := (s.wrN PWR_WAKE_CAUSE (2 ^ c)).put ⟨PWR_STATE, 2, 0⟩ 4
      State.wakePair { s1 with pwr := { s1.pwr with slept := s.pwrState == 3, wakeStart := s.now, woken := false } } c) := by
  simp only [State.wake, h, hst, Bool.not_true, Bool.false_eq_true, ↓reduceIte]

theorem State.wake_adds {s : State} {c : Nat} (h : bitAt (s.rdN PWR_WAKE_EN) c = true) (hst : s.pwrState = 4) :
    s.wake c = s.wrN PWR_WAKE_CAUSE (s.rdN PWR_WAKE_CAUSE ||| 2 ^ c) := by
  have hne : ¬(s.pwrState = 2 ∨ s.pwrState = 3) := by omega
  rw [State.wake, if_neg (by simp [h]), if_neg hne, if_pos hst]

theorem State.wake_elsewhere {s : State} (c : Nat) (hst : s.pwrState < 2 ∨ 4 < s.pwrState) : s.wake c = s := by
  have hne : ¬(s.pwrState = 2 ∨ s.pwrState = 3) := by omega
  have hne4 : ¬s.pwrState = 4 := by omega
  simp only [State.wake, hne, hne4, ↓reduceIte, ite_self]

theorem wakePinLow_deep {s : State} (hst : s.pwrState = 5) (hen : bitAt (s.rdN PWR_WAKE_EN) wakePin = true)
    (hw : s.pwr.rails.waiting = false) :
    wakePinLow s = (s.wrN PWR_WAKE_CAUSE (2 ^ wakePin)).setRails (fun r => { r with enHbm := true, enSds := true, waiting := true }) := by
  simp only [wakePinLow, hst, hen, hw, Bool.not_false, Bool.and_self, ↓reduceIte]

theorem wakePinLow_deep_idle {s : State} (hst : s.pwrState = 5)
    (h : bitAt (s.rdN PWR_WAKE_EN) wakePin = false ∨ s.pwr.rails.waiting = true) : wakePinLow s = s := by
  have hcond : ¬(bitAt (s.rdN PWR_WAKE_EN) wakePin && !s.pwr.rails.waiting) = true := by
    rcases h with h | h <;> simp [h]
  rw [wakePinLow, if_pos hst, if_neg hcond]

theorem wakePinLow_awake {s : State} (hst : s.pwrState ≠ 5) : wakePinLow s = s.wake wakePin := if_neg hst

theorem wakeDone_active {s : State} (hst : s.wakeStep.pwrState = 4) (hw : s.wakeStep.pwr.woken = true) :
    wakeDone s = (let s1 := s.wakeStep
      let s2 := ((s1.parkEngines).put ⟨PWR_STATE, 2, 0⟩ 1).wrN PWR_WAKE_TIME (s1.usSince s1.pwr.wakeStart % 2 ^ 24)
      State.raise { s2 with pwr := { s2.pwr with woken := false, slept := false } } 97 (s.rdN PWR_WAKE_CAUSE)) := by
  simp only [wakeDone, hst, hw, decide_true, Bool.and_self, ↓reduceIte]

theorem wakeDone_idle {s : State} (h : s.wakeStep.pwrState ≠ 4 ∨ s.wakeStep.pwr.woken = false) : wakeDone s = s := by
  rcases h with h | h <;> simp [wakeDone, h]

/-! ## PLLs and gates (R402, R404, R411) -/

theorem pllLockTimeout_first {s : State} {pll : Nat} (hp : pll < 17) (hst : s.pwrState = 0 ∨ s.pwrState = 4)
    (hr : bitAt s.pwr.pllRetry pll = false) :
    pllLockTimeout pll s = (let s1 := s.putBit PWR_PLL_STATUS pll false
      { s1 with pwr := { s1.pwr with pllRetry := s.pwr.pllRetry + 2 ^ pll, pllFrom := s1.pwr.pllFrom.set pll (some s.now) } }) := by
  have hact : ¬(17 ≤ pll ∨ ¬(s.pwrState = 0 ∨ s.pwrState = 4)) := by omega
  simp only [pllLockTimeout, hact, hr, Bool.false_eq_true, ↓reduceIte]

theorem pllLockTimeout_second {s : State} {pll : Nat} (hp : pll < 17) (hst : s.pwrState = 0 ∨ s.pwrState = 4)
    (hr : bitAt s.pwr.pllRetry pll = true) :
    pllLockTimeout pll s = (let s1 := s.putBit PWR_PLL_STATUS pll false
      (State.putBit { s1 with pwr := { s1.pwr with pllFrom := s1.pwr.pllFrom.set pll none } } PWR_PLL_STATUS 31 true).raise 106 0) := by
  have hact : ¬(17 ≤ pll ∨ ¬(s.pwrState = 0 ∨ s.pwrState = 4)) := by omega
  simp only [pllLockTimeout, hact, hr, ↓reduceIte]

theorem pllLockTimeout_idle {s : State} (pll : Nat) (h0 : s.pwrState ≠ 0) (h4 : s.pwrState ≠ 4) : pllLockTimeout pll s = s :=
  if_pos (.inr (by omega))

/-- The gates whose closing was asked for and that the write does not ask to open. -/
def State.closingsKept (s : State) (val : Word) : Nat :=
  (List.range 4).foldl (fun m c => if bitAt s.pwr.gateClosing c && !bitAt val.toNat c then m + 2 ^ c else m) 0

theorem chGateWrite_awake {s : State} (val : Word) (hst : s.pwrState ≤ 2) :
    chGateWrite val s = (let s1 := s.wrN PWR_CH_GATE (val.toNat % 16)
      (List.range 4).foldl State.openGate { s1 with pwr := { s1.pwr with gateClosing := s.closingsKept val } }) := if_neg (by omega)

theorem chGateWrite_asleep {s : State} (val : Word) (hst : 2 < s.pwrState) : chGateWrite val s = s.wrN PWR_CH_GATE (val.toNat % 16) :=
  if_pos hst

theorem resumeAck_held {s : State} (h : s.on PWR_KETTLE_STATUS_RESUME_HELD = true) :
    resumeAck s = State.startLink (State.put { s with pwr := { s.pwr with stopBoot := false } } PWR_KETTLE_STATUS_RESUME_HELD 0) := if_pos h

theorem resumeAck_idle {s : State} (h : s.on PWR_KETTLE_STATUS_RESUME_HELD = false) : resumeAck s = s := if_neg (by simp [h])

/-! ## The statement -/

/-- Settles O55, clause by clause. -/
theorem sleepAndWake : Obligations.SleepAndWake := by
  refine ⟨?refusedLight, ?refusedDeep, ?light, ?deepPair, ?deepAlone, ?entering, ?woken, ?notEntered, ?lightFacts, ?deepFacts, ?wakeCmd,
    ?wake, ?pinDeep, ?pinDeepIdle, ?pinAwake, ?wakeDone, ?wakeNotDone, ?pllFirst, ?pllSecond, ?pllIdle, ?gateAwake, ?gateAsleep,
    ?ackHeld, ?ackIdle⟩
  case refusedLight =>
    intro s c hr href
    rw [answers_iff, exec_sleepCmd, State.runHost_alone hr pairShared_pwrCmd, sleepCmd, State.sleepCmd_refused href]
  case refusedDeep =>
    intro s force c hr href
    rw [answers_iff, exec_deepSleepCmd, State.runHost_alone hr pairShared_pwrCmd, deepSleepCmd, State.sleepCmd_refused href]
  case light =>
    rintro s s1 hr href rfl
    rw [answers_iff, exec_sleepCmd, State.runHost_alone hr pairShared_pwrCmd, sleepCmd, State.sleepCmd_light href, State.entryBegun]
  case deepPair =>
    rintro s force s1 hr href rfl hpair
    rw [State.entryBegun_pairDeep] at hpair
    rw [answers_iff, exec_deepSleepCmd, State.runHost_alone hr pairShared_pwrCmd, deepSleepCmd, State.sleepCmd_deep href, if_pos hpair,
      State.entryBegun]
  case deepAlone =>
    rintro s force s1 hr href rfl hpair
    rw [State.entryBegun_pairDeep] at hpair
    rw [answers_iff, exec_deepSleepCmd, State.runHost_alone hr pairShared_pwrCmd, deepSleepCmd, State.sleepCmd_deep href,
      if_neg (by simp [hpair]), State.entryBegun]
  case entering =>
    intro s hcore hready hst
    rw [answers_iff, exec_sleepEntered, State.runCore_on hcore, sleepEntered_entering hready hst]
  case woken =>
    intro s hcore hready hst hw
    rw [answers_iff, exec_sleepEntered, State.runCore_on hcore, sleepEntered_woken hready hst hw]
  case notEntered =>
    intro s hcore h
    rw [answers_iff, exec_sleepEntered, State.runCore_on hcore, sleepEntered_idle h]
  case lightFacts =>
    rintro s _ hdeep rfl
    rw [State.finishEntry_light hdeep, ← State.entryDrained_mem]
    exact s.entryDrained.lightEntered_keepsMem s.spl.holdLevel
  case deepFacts =>
    rintro s _ hdeep rfl
    rw [State.finishEntry_deep hdeep]
    exact s.entryDrained.deepEntered_losesMem s.now
  case wakeCmd =>
    intro s hr
    rw [answers_iff, exec_wakeCmd, State.runHost_alone hr pairShared_pwrCmd, Machine.wakeCmd]
  case wake =>
    refine fun s s1 c => ⟨State.wake_disabled, ?_, State.wake_adds, State.wake_elsewhere c⟩
    rintro hen hst rfl
    exact State.wake_starts hen hst
  case pinDeep =>
    intro s hgood hst hen hw
    rw [answers_iff, exec_wakePin, State.runAon_on hgood, wakePinLow_deep hst hen hw]
  case pinDeepIdle =>
    intro s hgood hst h
    rw [answers_iff, exec_wakePin, State.runAon_on hgood, wakePinLow_deep_idle hst h]
  case pinAwake =>
    intro s hgood hst
    rw [answers_iff, exec_wakePin, State.runAon_on hgood, wakePinLow_awake hst]
  case wakeDone =>
    rintro s s1 s2 hgood rfl hst hw rfl
    rw [answers_iff, exec_wakeDone, State.runAon_on hgood, wakeDone_active hst hw]
  case wakeNotDone =>
    intro s hgood h
    rw [answers_iff, exec_wakeDone, State.runAon_on hgood, wakeDone_idle h]
  case pllFirst =>
    rintro s pll s1 hgood hp hst hretry rfl
    rw [answers_iff, exec_pllLockTimeout, State.runAon_on hgood, pllLockTimeout_first hp hst hretry]
  case pllSecond =>
    rintro s pll s1 hgood hp hst hretry rfl
    rw [answers_iff, exec_pllLockTimeout, State.runAon_on hgood, pllLockTimeout_second hp hst hretry]
  case pllIdle =>
    intro s pll hgood h0 h4
    rw [answers_iff, exec_pllLockTimeout, State.runAon_on hgood, pllLockTimeout_idle pll h0 h4]
  case gateAwake =>
    rintro s val s1 keep hr hst rfl rfl
    rw [answers_iff, exec_chGateWrite, State.runHost_alone hr pairShared_chGate, chGateWrite_awake val hst, State.closingsKept]
  case gateAsleep =>
    intro s val hr hst
    rw [answers_iff, exec_chGateWrite, State.runHost_alone hr pairShared_chGate, chGateWrite_asleep val hst]
  case ackHeld =>
    intro s hr h
    rw [answers_iff, exec_resumeAck, State.runHost_alone hr pairShared_pwrCmd, resumeAck_held h]
  case ackIdle =>
    intro s hr h
    rw [answers_iff, exec_resumeAck, State.runHost_alone hr pairShared_pwrCmd, resumeAck_idle h]

end Sys2Proof.Machine
end

section
/-!
PROOF. Registers that an image locks (R53), and the composition pool, whose registers are among them (R67).
-/

namespace Sys2Proof.Machine

/-! ## Locked bits, bit by bit (R53) -/

theorem State.lockFault_rdN (s : State) {off p : Nat} (hf : p ≠ CSU_LOCK_FAULT) (hc : p ≠ CSU_LOCK_FAULT_CNT) :
    (s.lockFault off).rdN p = s.rdN p := by
  simp only [State.lockFault, State.raise_rdN, State.rdN_count, State.rdN_wrN, hf, hc, ↓reduceIte]

/-- What a refused write leaves in the two registers of the fault. -/
theorem State.lockFault_reports (s : State) {off : Nat} (hoff : off < 2 ^ 32) :
    (s.lockFault off).rdN CSU_LOCK_FAULT = off
      ∧ (s.lockFault off).rdN CSU_LOCK_FAULT_CNT = min (s.rdN CSU_LOCK_FAULT_CNT + 1) 0xFFFFFFFF := by
  have hne : CSU_LOCK_FAULT ≠ CSU_LOCK_FAULT_CNT := by decide
  simp only [State.lockFault, State.raise_rdN, State.rdN_count, State.rdN_wrN, hne, hne.symm, Nat.mod_eq_of_lt hoff, ↓reduceIte, and_self]

theorem State.lockFault_raised (s : State) (off : Nat) :
    (s.lockFault off).evc.raised = raiseIn false 35 (sourceClass 35) 0 s.evc.raised := rfl

/-- The register's word after a write of the unlocked bits of a mask. -/
def State.unlockedWord (s : State) (off mask : Nat) (val : Word) : Nat :=
  s.rdN off ^^^ ((s.rdN off ^^^ val.toNat) &&& (mask &&& s.unlocked off))

theorem State.testBit_unlockedWord (s : State) (off mask : Nat) (val : Word) (b : Nat) :
    (s.unlockedWord off mask val).testBit b
      = if mask.testBit b && (s.unlocked off).testBit b then val.toNat.testBit b else (s.rdN off).testBit b := by
  simp only [State.unlockedWord, Nat.testBit_xor, Nat.testBit_and]
  cases mask.testBit b <;> cases (s.unlocked off).testBit b <;> simp

/-- A locked bit of the mask was to change. -/
theorem locked_change_ne_zero {old mask unlocked val b : Nat} (hm : mask.testBit b = true) (hu : unlocked.testBit b = false)
    (hv : val.testBit b ≠ old.testBit b) : (old ^^^ val) &&& (mask ^^^ (mask &&& unlocked)) ≠ 0 := by
  have hbit : ((old ^^^ val) &&& (mask ^^^ (mask &&& unlocked))).testBit b = true := by
    simp only [Nat.testBit_and, Nat.testBit_xor, hm, hu, Bool.and_false, Bool.xor_false, Bool.and_true]
    simpa using hv.symm
  intro h0
  simp [h0] at hbit

/-- The register itself after a write of its RWL bits, refused in part or not. -/
theorem State.lockedBits_rdN (s : State) {off : Nat} (mask : Nat) (val : Word) (hf : off ≠ CSU_LOCK_FAULT) (hc : off ≠ CSU_LOCK_FAULT_CNT) :
    (s.lockedBits off mask val).rdN off = (s.wrN off (s.unlockedWord off mask val)).rdN off := by
  unfold State.lockedBits
  dsimp only
  split
  · rw [State.lockFault_rdN _ hf hc, State.unlockedWord]
  · rw [State.unlockedWord]

/-- A write that would change a locked bit is the write of the unlocked ones, and a fault. -/
theorem State.lockedBits_refused {s : State} {off mask b : Nat} {val : Word} (hm : bitAt mask b = true)
    (hu : bitAt (s.unlocked off) b = false) (hv : bitAt val.toNat b ≠ bitAt (s.rdN off) b) :
    s.lockedBits off mask val = (s.wrN off (s.unlockedWord off mask val)).lockFault off := by
  simp only [bitAt_eq_testBit] at hm hu hv
  exact if_pos (locked_change_ne_zero hm hu hv)

/-- Settles O10, bit by bit for the register, and by the fault's own rules for what is reported. -/
theorem lockedWrite : Obligations.LockedWrite := by
  refine ⟨fun s off mask val hf hc _ b hb => ?_, ?_⟩
  · rw [State.lockedBits_rdN s mask val hf hc, State.bitAt_rdN_wrN _ _ _ hb, State.testBit_unlockedWord]
    simp only [bitAt_eq_testBit]
  · rintro s off mask val ⟨b, -, hm, hu, hv⟩ hoff hf hc
    rw [State.lockedBits_refused hm hu hv]
    obtain ⟨hfault, hcount⟩ := (s.wrN off (s.unlockedWord off mask val)).lockFault_reports hoff
    rw [State.rdN_wrN, if_neg hc.symm] at hcount
    exact ⟨hfault, hcount, rfl⟩

/-! ## The composition pool (R67, R206) -/

/-- The pool that a write of `v` would give: its base and its size. -/
def State.poolAfter (s : State) (isSize : Bool) (v : Nat) : Nat × Nat :=
  (if isSize then s.bits CMP_CPOOL_BASE 20 0 else v, if isSize then v else s.bits CMP_CPOOL_SIZE 20 0)

/-- The pool may not be as a write of `v` would make it (R67). -/
def State.poolRefused (s : State) (isSize : Bool) (v : Nat) : Bool :=
  decide (s.slotCount < (s.poolAfter isSize v).1 + (s.poolAfter isSize v).2) || (isSize && decide (v < 1024))
    || (List.range 8).any (fun j => (s.stream j).active
        && rangesMeet (s.poolAfter isSize v).1 (s.poolAfter isSize v).2 (s.poolBase j) (s.poolSize j))

theorem cpoolWrite_eq {isSize : Bool} {v : Nat} (hv : v < 2 ^ 21) (s : State) :
    cpoolWrite isSize (BitVec.ofNat 32 v) s =
      if s.poolRefused isSize v then (s.wrN CMP_COMMIT_STATUS (commitPool + 2 ^ 8 * 31 + 2 ^ 13)).raiseOnce 256 0
      else s.wrN (if isSize then CMP_CPOOL_SIZE else CMP_CPOOL_BASE) v := by
  have hval : (BitVec.ofNat 32 v).toNat % 2 ^ 21 = v := by
    rw [BitVec.toNat_ofNat]
    omega
  simp only [cpoolWrite, hval]
  rfl

theorem State.poolAfter_sum (s : State) (isSize : Bool) (v : Nat) :
    (s.poolAfter isSize v).1 + (s.poolAfter isSize v).2
      = if isSize then s.bits CMP_CPOOL_BASE 20 0 + v else v + s.bits CMP_CPOOL_SIZE 20 0 := by
  cases isSize <;> rfl

/-- Reaching beyond the slots or too small a size is enough to refuse the write. -/
theorem State.poolRefused_of_outside {s : State} {isSize : Bool} {v : Nat}
    (h : s.slotCount < (s.poolAfter isSize v).1 + (s.poolAfter isSize v).2 ∨ (isSize = true ∧ v < 1024)) :
    s.poolRefused isSize v = true := by
  rcases h with h | ⟨hs, h⟩
  · simp [State.poolRefused, h]
  · simp [State.poolRefused, hs, h]

theorem State.poolRefused_eq_false {s : State} {isSize : Bool} {v : Nat} (hmin : isSize = true → 1024 ≤ v)
    (hin : (s.poolAfter isSize v).1 + (s.poolAfter isSize v).2 ≤ s.slotCount)
    (hclear : ∀ j < 8, (s.stream j).active = true →
      rangesMeet (s.poolAfter isSize v).1 (s.poolAfter isSize v).2 (s.poolBase j) (s.poolSize j) = false) :
    s.poolRefused isSize v = false := by
  simp only [State.poolRefused, Bool.or_eq_false_iff, Bool.and_eq_false_imp, decide_eq_false_iff_not, List.any_eq_false, List.mem_range,
    Bool.and_eq_true, not_and, Bool.not_eq_true]
  exact ⟨⟨by omega, fun h => by have := hmin h; omega⟩, hclear⟩

/-- A host write of a pool register none of whose bits is locked. -/
theorem cpoolHost_unlocked {s : State} {isSize : Bool} {off : Nat} (hoff : off = if isSize then CMP_CPOOL_SIZE else CMP_CPOOL_BASE)
    (hfree : (2 ^ 21 - 1) &&& s.unlocked off = 2 ^ 21 - 1) (val : Word) :
    cpoolHost isSize val s =
      (cpoolWrite isSize (BitVec.ofNat 32 (s.rdN off ^^^ ((s.rdN off ^^^ val.toNat) &&& (2 ^ 21 - 1)))) s).showPool := by
  subst hoff
  simp only [cpoolHost, hfree, Nat.xor_self, Nat.and_zero, ne_eq, not_true_eq_false, ↓reduceIte]
  rw [if_neg (by decide)]

/-- Settles O20: the host write, the two reasons that refuse it, and the write that stands. -/
theorem compositionPoolWrite : Obligations.CompositionPoolWrite := by
  refine ⟨?host, ?refused, ?taken⟩
  case host =>
    intro s isSize val off hoff hr hfree
    rw [answers_iff, exec_cpoolWrite, ← hoff, State.runHost_reaches hr, cpoolHost_unlocked hoff hfree]
  case refused =>
    intro s isSize v hv h
    rw [← State.poolAfter_sum] at h
    rw [cpoolWrite_eq hv, if_pos (State.poolRefused_of_outside h)]
  case taken =>
    intro s isSize v hv hmin hin hclear
    rw [← State.poolAfter_sum] at hin
    rw [cpoolWrite_eq hv, if_neg (by rw [State.poolRefused_eq_false hmin hin hclear]; decide)]

end Sys2Proof.Machine
end

section
/-!
PROOF. Image checks and reloads (R45 to R49, R54 to R58): what starts them, what their end leaves, and when they are refused.
-/

namespace Sys2Proof.Machine

theorem pairShared_csuCmd : pairShared CSU_CMD = false := pairShared_below (by decide)

/-! ## Starting a check, and the refusals with BUSY (R48, R49, R54) -/

theorem State.csuChecking_iff (s : State) : s.csuChecking = true ↔ s.csu.checking ≠ none := by
  rw [State.csuChecking, Option.isSome_iff_ne_none]

theorem State.csuChecking_of_none {s : State} (h : s.csu.checking = none) : s.csuChecking = false := by
  rw [State.csuChecking, h, Option.isSome_none]

theorem csuLoad_starts {s : State} (hc : s.csu.checking = none) (hv : s.on CSU_STATUS_IMAGE_VALID = false) :
    csuLoad s = (s.startCheck .load).put GCTL_BOOT_STATUS_STAGE 2 := by
  rw [csuLoad, State.csuChecking_of_none hc, hv, Bool.or_false, if_neg (by decide)]

theorem csuLoad_busy {s : State} (h : s.csu.checking ≠ none ∨ s.on CSU_STATUS_IMAGE_VALID = true) : csuLoad s = s.csuBusy := by
  rw [← State.csuChecking_iff, ← Bool.or_eq_true] at h
  rw [csuLoad, if_pos h]

theorem csuVerify_starts {s : State} (hc : s.csu.checking = none) : csuVerify s = s.startCheck .verify := by
  rw [csuVerify, State.csuChecking_of_none hc, if_neg (by decide)]

theorem csuVerify_busy {s : State} (h : s.csu.checking ≠ none) : csuVerify s = s.csuBusy := if_pos (s.csuChecking_iff.mpr h)

theorem csuReload_starts {s : State} (hc : s.csu.checking = none) (hr : s.get CSU_RELOAD_STATUS_STATE = 0) :
    csuReload s = State.wrN { s with csu := { s.csu with checking := some .reload } } CSU_RELOAD_STATUS
      (1 + 2 ^ 4 * (s.memNat (s.pushAt.1 + 0x0D) 1 % 4)) := by
  rw [csuReload, State.csuChecking_of_none hc, hr, if_neg (by decide)]

theorem csuReload_busy {s : State} (h : s.csu.checking ≠ none ∨ s.get CSU_RELOAD_STATUS_STATE ≠ 0) : csuReload s = s.csuBusy := by
  rw [← State.csuChecking_iff, ← bne_iff_ne, ← Bool.or_eq_true] at h
  rw [csuReload, if_pos h]

/-! ## CANCEL and the end of LOADING (R54, R56) -/

theorem csuCancel_drops {s : State}
    (h : s.get CSU_RELOAD_STATUS_STATE = 1 ∨ s.get CSU_RELOAD_STATUS_STATE = 2 ∨ s.get CSU_RELOAD_STATUS_STATE = 5) :
    csuCancel s = s.dropReload := if_pos h

theorem csuCancel_idle {s : State} (h1 : s.get CSU_RELOAD_STATUS_STATE ≠ 1) (h2 : s.get CSU_RELOAD_STATUS_STATE ≠ 2)
    (h5 : s.get CSU_RELOAD_STATUS_STATE ≠ 5) : csuCancel s = s := if_neg (by simp [h1, h2, h5])

theorem State.stagedBad_some {s : State} {n : Nat} (h : s.csu.staged = some n) :
    s.stagedBad = s.poisonedIn (s.controlAt 14) n := by
  simp only [State.stagedBad, h]

/-- What the load that ends may use: a staged image without poison. -/
def State.stagedUsable (s : State) : Bool := s.csu.staged.isSome && !s.stagedBad

theorem State.stagedUsable_of_clean {s : State} {n : Nat} (hn : s.csu.staged = some n)
    (hp : s.poisonedIn (s.controlAt 14) n = false) : s.stagedUsable = true := by
  simp [State.stagedUsable, State.stagedBad_some hn, hn, hp]

theorem State.stagedUsable_eq_false {s : State}
    (h : s.csu.staged = none ∨ ∃ n, s.csu.staged = some n ∧ s.poisonedIn (s.controlAt 14) n = true) : s.stagedUsable = false := by
  rcases h with hn | ⟨n, hn, hp⟩
  · simp [State.stagedUsable, hn]
  · simp [State.stagedUsable, State.stagedBad_some hn, hp]

theorem reloadLoadingDone_loading {s : State} (hst : s.get CSU_RELOAD_STATUS_STATE = 3) (ok : Bool) :
    reloadLoadingDone ok s = if ok && s.stagedUsable then (s.loadStaged (s.get CSU_RELOAD_STATUS_CH)).desync 5
      else (s.reloadFail 0x0D).desync 5 := by
  rw [reloadLoadingDone, if_neg (not_not.mpr hst), State.stagedUsable, Bool.and_assoc]

/-- The two fields of the status that show a failed reload lie apart. -/
theorem State.get_reloadFailed (s : State) {code : Nat} (h : code < 256) :
    ((s.put CSU_RELOAD_STATUS_STATE 5).put CSU_RELOAD_STATUS_CODE code).get CSU_RELOAD_STATUS_STATE = 5
      ∧ ((s.put CSU_RELOAD_STATUS_STATE 5).put CSU_RELOAD_STATUS_CODE code).get CSU_RELOAD_STATUS_CODE = code := by
  constructor
  · rw [State.get_put_disjoint _ _ CSU_RELOAD_STATUS_STATE _ (by decide) (by decide) (by decide)]
    exact State.get_put_same s CSU_RELOAD_STATUS_STATE 5
  · rw [State.get_put_same _ CSU_RELOAD_STATUS_CODE]
    exact Nat.mod_eq_of_lt h

/-- A failed reload: FAILED with its code, whatever the disabling of the channel has done before. -/
theorem State.reloadFail_status (s : State) {code : Nat} (h : code < 256) :
    (s.reloadFail code).get CSU_RELOAD_STATUS_STATE = 5 ∧ (s.reloadFail code).get CSU_RELOAD_STATUS_CODE = code
      ∧ (s.reloadFail code).csu.staged = none := by
  obtain ⟨hstate, hcode⟩ := (s.disableChannel (s.get CSU_RELOAD_STATUS_CH)).get_reloadFailed h
  exact ⟨hstate, hcode, rfl⟩

/-- Settles O14, clause by clause. -/
theorem loadsVerifiesAndReloads : Obligations.LoadsVerifiesAndReloads := by
  refine ⟨?load, ?verify, ?reload, ?loadBusy, ?verifyBusy, ?reloadBusy, ?cancel, ?cancelIdle, ?loaded, ?failed,
    fun s code => s.reloadFail_status⟩
  case load =>
    intro s hr hc hv
    rw [answers_iff, exec_csuLoad, State.runHost_alone hr pairShared_csuCmd, csuLoad_starts hc hv, State.startCheck]
  case verify =>
    intro s hr hc
    rw [answers_iff, exec_csuVerify, State.runHost_alone hr pairShared_csuCmd, csuVerify_starts hc, State.startCheck]
  case reload =>
    intro s hr hc hst
    rw [answers_iff, exec_csuReload, State.runHost_alone hr pairShared_csuCmd, csuReload_starts hc hst]
  case loadBusy =>
    intro s hr h
    rw [answers_iff, exec_csuLoad, State.runHost_alone hr pairShared_csuCmd, csuLoad_busy h, State.csuBusy]
  case verifyBusy =>
    intro s hr h
    rw [answers_iff, exec_csuVerify, State.runHost_alone hr pairShared_csuCmd, csuVerify_busy h, State.csuBusy]
  case reloadBusy =>
    intro s hr h
    rw [answers_iff, exec_csuReload, State.runHost_alone hr pairShared_csuCmd, csuReload_busy h, State.csuBusy]
  case cancel =>
    intro s hr h
    rw [answers_iff, exec_csuCancel, State.runHost_alone hr pairShared_csuCmd, csuCancel_drops h, State.dropReload]
  case cancelIdle =>
    intro s hr h1 h2 h5
    rw [answers_iff, exec_csuCancel, State.runHost_alone hr pairShared_csuCmd, csuCancel_idle h1 h2 h5]
  case loaded =>
    intro s n hcore hst hn hp
    rw [answers_iff, exec_reloadLoadingDone, State.runCore_on hcore, reloadLoadingDone_loading hst,
      State.stagedUsable_of_clean hn hp, Bool.and_self, if_pos rfl]
  case failed =>
    intro s ok hcore hst h
    have hno : (ok && s.stagedUsable) = false := by
      rcases h with rfl | h
      · rfl
      · rw [State.stagedUsable_eq_false h, Bool.and_false]
    rw [answers_iff, exec_reloadLoadingDone, State.runCore_on hcore, reloadLoadingDone_loading hst, hno, if_neg (by decide)]

/-! ## The end of a check (R45, R46, R48, R49, R54, R58) -/

/-- The state in which the check that ends leaves its result. -/
def State.checkEnded (s : State) : State := { s with csu := { s.csu with checking := none } }

/-! What the end of each check does: the one that is under way decides. -/
theorem imageCheckComplete_verify {s : State} (h : s.csu.checking = some .verify) (flash : List Byte) :
    imageCheckComplete flash s = s.checkEnded.verifyChecked := by
  simp only [imageCheckComplete, h, State.checkEnded]

theorem imageCheckComplete_load {s : State} (h : s.csu.checking = some .load) (flash : List Byte) :
    imageCheckComplete flash s = s.checkEnded.loadChecked := by
  simp only [imageCheckComplete, h, State.checkEnded]

theorem imageCheckComplete_spiA {s : State} (h : s.csu.checking = some .spiA) (flash : List Byte) :
    imageCheckComplete flash s = s.checkEnded.flashChecked true flash := by
  simp only [imageCheckComplete, h, State.checkEnded]

theorem imageCheckComplete_spiB {s : State} (h : s.csu.checking = some .spiB) (flash : List Byte) :
    imageCheckComplete flash s = s.checkEnded.flashChecked false flash := by
  simp only [imageCheckComplete, h, State.checkEnded]

theorem imageCheckComplete_reload {s : State} (h : s.csu.checking = some .reload) (flash : List Byte) :
    imageCheckComplete flash s = s.checkEnded.reloadChecked := by
  simp only [imageCheckComplete, h, State.checkEnded]

theorem spiIdTimeout_spiA {s : State} (h : s.csu.checking = some .spiA) :
    spiIdTimeout s = ((s.checkEnded.checkStatus (some (0x0E, 0))).raise 34 0).waitHost := if_pos h

/-! Both results of a LOAD, of a copy from the flash, and of a RELOAD. -/
theorem State.loadChecked_passed {s u : State} (h : s.pushChecks (some 1) = (u, none)) :
    s.loadChecked = (u.checkStatus none).applyImage (u.pushBytes.take (imgLen u.pushBytes)) 3 := by
  simp only [State.loadChecked, h]

theorem State.loadChecked_failed {s u : State} {e : Nat × Nat} (h : s.pushChecks (some 1) = (u, some e)) :
    s.loadChecked = ((u.checkStatus (some e)).raise 33 0).waitHost := by
  simp only [State.loadChecked, h]

theorem State.flashChecked_passed {s : State} {flash : List Byte} (h : s.imageChecks flash flash.length (some 1) = none) (copyA : Bool) :
    s.flashChecked copyA flash = (s.checkStatus none).applyImage flash (if copyA then 1 else 2) := by
  simp only [State.flashChecked, h]

theorem State.flashChecked_failed {s : State} {flash : List Byte} {e : Nat × Nat}
    (h : s.imageChecks flash flash.length (some 1) = some e) (copyA : Bool) :
    s.flashChecked copyA flash = if copyA then ((s.checkStatus (some e)).raise 40 0).startCheck .spiB
      else ((s.checkStatus (some e)).raise 34 0).waitHost := by
  simp only [State.flashChecked, h]

theorem State.reloadChecked_passed {s u : State} (h : s.pushChecks (some 2) = (u, none)) :
    s.reloadChecked = u.stageChannel (u.pushBytes.take (imgLen u.pushBytes)) := by
  simp only [State.reloadChecked, h]

theorem State.reloadChecked_failed {s u : State} {e : Nat × Nat} (h : s.pushChecks (some 2) = (u, some e)) :
    s.reloadChecked = ((u.put CSU_RELOAD_STATUS_STATE 0).put CSU_RELOAD_STATUS_CODE e.1).raise 33 0 := by
  simp only [State.reloadChecked, h]

/-! What a VERIFY leaves alone. -/
theorem State.pushChecks_csu (s : State) (kind : Option Nat) : (s.pushChecks kind).1.csu = s.csu := by
  unfold State.pushChecks
  dsimp only
  split
  · rfl
  · split
    · rfl
    · split <;> rfl

theorem State.checkStatus_csu (s : State) (r : Option (Nat × Nat)) : (s.checkStatus r).csu = s.csu := by
  cases r <;> rfl

theorem State.raiseIf_csu (s : State) (c : Bool) (src data : Nat) : (s.raiseIf c src data).csu = s.csu := by
  cases c <;> rfl

/-- The number that the end of a check writes into the status. -/
theorem State.checkStatus_rdN (s : State) :
    (s.checkStatus none).rdN CSU_LOAD_STATUS = 2
      ∧ ∀ e, (s.checkStatus (some e)).rdN CSU_LOAD_STATUS = (3 + 2 ^ 8 * e.1 + 2 ^ 16 * (e.2 % 32)) % 2 ^ 32 :=
  ⟨(s.rdN_wrN _ _ 2).trans (if_pos rfl), fun _ => (s.rdN_wrN _ _ _).trans (if_pos rfl)⟩

/-- The end of a VERIFY, from what the checks found. -/
theorem State.verifyChecked_of {s u : State} {x : Option (Nat × Nat)} (h : s.pushChecks none = (u, x)) :
    s.verifyChecked = (u.checkStatus x).raiseIf x.isSome 33 0 := by
  rw [State.verifyChecked, h]

theorem State.verifyChecked_csu (s : State) : s.verifyChecked.csu = s.csu := by
  rw [State.verifyChecked, State.raiseIf_csu, State.checkStatus_csu, State.pushChecks_csu]

/-- Settles O15: each check by its two results. -/
theorem imageChecksEnd : Obligations.ImageChecksEnd := by
  refine ⟨?verify, ?load, ?copyA, ?copyB, ?noFlash, ?reload⟩
  case verify =>
    rintro s flash ⟨u, x⟩ hcore hc hr
    have hv : s.checkEnded.verifyChecked = (u.checkStatus x).raiseIf x.isSome 33 0 := State.verifyChecked_of hr.symm
    have hcsu : (s.keepQueue s.checkEnded.verifyChecked).csu = s.checkEnded.csu := s.checkEnded.verifyChecked_csu
    have hexec : exec (.imageCheckComplete flash) s = .next (s.keepQueue s.checkEnded.verifyChecked) := by
      rw [exec_imageCheckComplete, State.runCore_on hcore, imageCheckComplete_verify hc]
    refine ⟨_, hexec, ?_, ?_, ?_, ?_, ?_, s.checkEnded.verifyChecked_mem⟩
    · rw [State.keepQueue_rdN, hv]
      cases x with
      | none => exact u.checkStatus_rdN.1
      | some e => exact u.checkStatus_rdN.2 e
    · rw [State.keepQueue_evc, hv]
      cases x <;> rfl
    all_goals
      rw [hcsu]
      rfl
  case load =>
    rintro s flash ⟨u, x⟩ hcore hc hr
    rw [answers_iff, exec_imageCheckComplete, State.runCore_on hcore, imageCheckComplete_load hc]
    cases x with
    | none =>
      rw [State.loadChecked_passed (s := s.checkEnded) hr.symm]
      rfl
    | some e =>
      rw [State.loadChecked_failed (s := s.checkEnded) hr.symm]
      rfl
  case copyA =>
    rintro s flash r hcore hc rfl
    rw [answers_iff, exec_imageCheckComplete, State.runCore_on hcore, imageCheckComplete_spiA hc, ← State.checkEnded]
    cases h : s.checkEnded.imageChecks flash flash.length (some 1) with
    | none =>
      rw [State.flashChecked_passed h, if_pos rfl]
      rfl
    | some e =>
      rw [State.flashChecked_failed h, if_pos rfl]
      rfl
  case copyB =>
    rintro s flash r hcore hc rfl
    rw [answers_iff, exec_imageCheckComplete, State.runCore_on hcore, imageCheckComplete_spiB hc, ← State.checkEnded]
    cases h : s.checkEnded.imageChecks flash flash.length (some 1) with
    | none =>
      rw [State.flashChecked_passed h, if_neg Bool.false_ne_true]
      rfl
    | some e =>
      rw [State.flashChecked_failed h, if_neg Bool.false_ne_true]
      rfl
  case noFlash =>
    intro s hcore hc
    rw [answers_iff, exec_spiIdTimeout, State.runCore_on hcore, spiIdTimeout_spiA hc]
    rfl
  case reload =>
    rintro s flash ⟨u, x⟩ b hcore hc hr hb
    replace hb : b = u.pushBytes.take (imgLen u.pushBytes) := hb
    rw [answers_iff, exec_imageCheckComplete, State.runCore_on hcore, imageCheckComplete_reload hc]
    cases x with
    | none => rw [State.reloadChecked_passed (s := s.checkEnded) hr.symm, ← hb, State.stageChannel]
    | some e => rw [State.reloadChecked_failed (s := s.checkEnded) hr.symm]

end Sys2Proof.Machine
end

section
/-!
PROOF. Keys, rollback, and their fuses one at a time (R43, R44).
-/

namespace Sys2Proof.Machine

theorem pairShared_csuKeyCmd : pairShared CSU_KEY_CMD = false := pairShared_below (by decide)

theorem pairShared_csuRollbackCmd : pairShared CSU_ROLLBACK_CMD = false := pairShared_below (by decide)

/-! ## One-bit fields and single bits of a field -/

theorem State.on_putB_same (s : State) (f : Fld) (b : Bool) (h : f.lo = f.hi := by decide) (h2 : f.hi < 32 := by decide) :
    (s.putB f b).on f = b := by
  have hw : f.hi + 1 - f.lo = 1 := by omega
  rw [State.on, State.putB, State.get_put_same s f _ h.le h2, hw]
  cases b <;> rfl

theorem State.on_put_disjoint (s : State) (f g : Fld) (x : Nat) (h : f.lo ≤ f.hi := by decide) (h2 : f.hi < 32 := by decide)
    (hd : g.hi < f.lo ∨ f.hi < g.lo := by decide) : (s.put f x).on g = s.on g := by
  rw [State.on, State.get_put_disjoint s f g x h h2 hd, State.on]

theorem State.on_put_zero (s : State) (f : Fld) (h : f.lo ≤ f.hi := by decide) (h2 : f.hi < 32 := by decide) : (s.put f 0).on f = false := by
  rw [State.on, State.get_put_same s f 0 h h2, Nat.zero_mod]
  rfl

/-- Setting bit `k` of a field sets it. -/
theorem State.bitAt_get_put_or (s : State) (f : Fld) (x k : Nat) (hk : k < f.hi + 1 - f.lo) (h2 : f.hi < 32 := by decide) :
    bitAt ((s.put f (x ||| 2 ^ k)).get f) k = true := by
  rw [State.get_put_same s f _ (by omega) h2, bitAt_eq_testBit, Nat.testBit_mod_two_pow, Nat.testBit_or, Nat.testBit_two_pow_self,
    Bool.or_true, Bool.and_true, decide_eq_true hk]

/-! ## PROGRAM (R42, R43) -/

/-- The four conditions of a PROGRAM of slot `k`. -/
def State.mayProgram (s : State) (k : Nat) : Prop :=
  s.csu.op = none ∧ bitAt (s.get CSU_KEY_STATUS_PROG) k = false ∧ (s.provision = true ∨ (s.partOpen = true ∧ k = 0))
    ∧ s.csu.fuses.getD k 0 &&& s.keyHash = s.csu.fuses.getD k 0

theorem provisioned_iff (o p : Bool) (k : Nat) : (if o then k == 0 || p else p) = true ↔ p = true ∨ (o = true ∧ k = 0) := by
  cases o <;> cases p <;> simp

theorem keyProgram_starts {s : State} {k : Nat} (hk : k < 4) (h : s.mayProgram k) :
    keyProgram k s = s.startFuses { key := true, slot := k, revoke := false
                                    todo := (List.range 384).filter (fun i => bitAt s.keyHash i && !bitAt (s.csu.fuses.getD k 0) i) ++ [384] } := by
  obtain ⟨hop, hprog, hprov, hcover⟩ := h
  rw [← provisioned_iff] at hprov
  simp only [keyProgram, Nat.mod_eq_of_lt hk, hop, hprog, hprov, hcover, bne_self_eq_false, Option.isSome_none, Bool.not_true, Bool.or_self,
    Bool.false_eq_true, ↓reduceIte]

theorem keyProgram_refused {s : State} {k : Nat} (hk : k < 4) (h : ¬s.mayProgram k) : keyProgram k s = s.keyRefuse := by
  simp only [keyProgram, Nat.mod_eq_of_lt hk]
  refine if_pos ?_
  by_contra hc
  simp only [Bool.or_eq_true, Bool.not_eq_true', bne_iff_ne, not_or, Bool.not_eq_true, Bool.not_eq_false, not_not, Option.isSome_eq_false_iff,
    Option.isNone_iff_eq_none, provisioned_iff] at hc
  obtain ⟨⟨⟨hop, hprog⟩, hprov⟩, hcover⟩ := hc
  exact h ⟨hop, hprog, hprov, hcover⟩

/-! ## REVOKE (R43) -/

/-- Slot `k` has to stay: it is the active image's, or no other slot is usable. -/
def State.slotNeeded (s : State) (k : Nat) : Bool :=
  (s.on CSU_STATUS_IMAGE_VALID && s.get CSU_KEY_STATUS_ACTIVE_SLOT == k) || (List.range 4).all (fun n => n == k || !s.slotUsable n)

theorem State.slotNeeded_iff (s : State) (k : Nat) :
    s.slotNeeded k = true ↔ (s.on CSU_STATUS_IMAGE_VALID = true ∧ s.get CSU_KEY_STATUS_ACTIVE_SLOT = k)
      ∨ (∀ n < 4, n ≠ k → s.slotUsable n = false) := by
  simp [State.slotNeeded, or_iff_not_imp_left]

theorem State.slotNeeded_eq_false {s : State} {k : Nat} (ha : s.get CSU_KEY_STATUS_ACTIVE_SLOT ≠ k)
    (hu : ∃ n < 4, n ≠ k ∧ s.slotUsable n = true) : s.slotNeeded k = false := by
  rw [Bool.eq_false_iff, ne_eq, State.slotNeeded_iff]
  rintro (⟨-, h⟩ | h)
  · exact ha h
  · obtain ⟨n, hn, hne, husable⟩ := hu
    rw [h n hn hne] at husable
    exact Bool.false_ne_true husable

/-- A REVOKE by its four cases, in the order in which they are looked at. -/
theorem keyRevoke_eq {k : Nat} (hk : k < 4) (s : State) :
    keyRevoke k s = if s.csu.op.isSome || !bitAt (s.get CSU_KEY_STATUS_PROG) k then s.keyRefuse
      else if bitAt (s.get CSU_KEY_STATUS_REVOKED) k then (s.put CSU_KEY_STATUS_FAIL 0).raise 38 0
      else if s.slotNeeded k then s.keyRefuse
      else s.startFuses { key := true, slot := k, revoke := true, todo := [385] } := by
  simp only [keyRevoke, Nat.mod_eq_of_lt hk]
  rfl

theorem keyRevoke_starts {s : State} {k : Nat} (hk : k < 4) (hop : s.csu.op = none) (hp : bitAt (s.get CSU_KEY_STATUS_PROG) k = true)
    (hr : bitAt (s.get CSU_KEY_STATUS_REVOKED) k = false) (hn : s.slotNeeded k = false) :
    keyRevoke k s = s.startFuses { key := true, slot := k, revoke := true, todo := [385] } := by
  simp only [keyRevoke_eq hk, hop, hp, hr, hn, Option.isSome_none, Bool.not_true, Bool.or_self, Bool.false_eq_true, ↓reduceIte]

theorem keyRevoke_unready {s : State} {k : Nat} (hk : k < 4) (h : bitAt (s.get CSU_KEY_STATUS_PROG) k = false ∨ s.csu.op ≠ none) :
    keyRevoke k s = s.keyRefuse := by
  rw [keyRevoke_eq hk, if_pos]
  rcases h with h | h
  · simp [h]
  · simp [Option.isSome_iff_ne_none.mpr h]

theorem keyRevoke_needed {s : State} {k : Nat} (hk : k < 4) (hr : bitAt (s.get CSU_KEY_STATUS_REVOKED) k = false)
    (hn : s.slotNeeded k = true) : keyRevoke k s = s.keyRefuse := by
  simp only [keyRevoke_eq hk, hr, hn, Bool.false_eq_true, ↓reduceIte, ite_self]

theorem keyRevoke_again {s : State} {k : Nat} (hk : k < 4) (hop : s.csu.op = none) (hp : bitAt (s.get CSU_KEY_STATUS_PROG) k = true)
    (hr : bitAt (s.get CSU_KEY_STATUS_REVOKED) k = true) : keyRevoke k s = (s.put CSU_KEY_STATUS_FAIL 0).raise 38 0 := by
  simp only [keyRevoke_eq hk, hop, hp, hr, Option.isSome_none, Bool.not_true, Bool.or_self, Bool.false_eq_true, ↓reduceIte]

/-! ## A rollback target (R44) -/

theorem rollbackProgram_starts {s : State} {n : Nat} (hn : n < 128) (hop : s.csu.op = none) (hv : s.on CSU_STATUS_IMAGE_VALID = true)
    (hlo : s.bits CSU_ROLLBACK 6 0 < n) (hhi : n ≤ s.bits CSU_ACTIVE_SVN 6 0) :
    rollbackProgram n s = s.startFuses { key := false, slot := 0, revoke := false
                                         todo := rangeFrom (s.bits CSU_ROLLBACK 6 0) (n - s.bits CSU_ROLLBACK 6 0) } := by
  simp only [rollbackProgram, Nat.mod_eq_of_lt hn, hop, hv, hlo, hhi, and_self, decide_true, Option.isSome_none, Bool.and_self, Bool.not_true,
    Bool.or_self, Bool.false_eq_true, ↓reduceIte]

theorem rollbackProgram_refused {s : State} {n : Nat} (hn : n < 128)
    (h : s.csu.op ≠ none ∨ n ≤ s.bits CSU_ROLLBACK 6 0 ∨ s.bits CSU_ACTIVE_SVN 6 0 < n ∨ s.on CSU_STATUS_IMAGE_VALID = false) :
    rollbackProgram n s = (s.put ⟨CSU_ROLLBACK, 9, 9⟩ 1).raise 39 0 := by
  simp only [rollbackProgram, Nat.mod_eq_of_lt hn]
  refine if_pos ?_
  rcases h with h | h | h | h
  · simp [Option.isSome_iff_ne_none.mpr h]
  · simp [Nat.not_lt.mpr h]
  · simp [Nat.not_le.mpr h]
  · simp [h]

/-! ## One fuse -/

theorem fuseBlowComplete_fails {s : State} {op : FuseOp} {f : Nat} {rest : List Nat} (hop : s.csu.op = some op) (ht : op.todo = f :: rest) :
    fuseBlowComplete false s = s.endFuses op true := by
  simp only [fuseBlowComplete, hop, ht, Bool.not_false, ↓reduceIte]

theorem fuseBlowComplete_goesOn {s : State} {op : FuseOp} {f n : Nat} {rest : List Nat} (hop : s.csu.op = some op)
    (ht : op.todo = f :: n :: rest) :
    fuseBlowComplete true s
      = { s.blowFuse op f with csu := { (s.blowFuse op f).csu with op := some { op with todo := n :: rest } } } := by
  simp only [fuseBlowComplete, hop, ht, Bool.not_true, List.isEmpty_cons, Bool.false_eq_true, ↓reduceIte]

theorem fuseBlowComplete_last {s : State} {op : FuseOp} {f : Nat} (hop : s.csu.op = some op) (ht : op.todo = [f]) :
    fuseBlowComplete true s = (s.blowFuse op f).endFuses op false := by
  simp only [fuseBlowComplete, hop, ht, Bool.not_true, List.isEmpty_nil, Bool.false_eq_true, ↓reduceIte]

theorem State.blowFuse_digest {op : FuseOp} {f : Nat} (hk : op.key = true) (hf : f < 384) (s : State) :
    s.blowFuse op f = { s with csu := { s.csu with fuses := s.csu.fuses.modify op.slot (fun x => x ||| 2 ^ f) } } := by
  rw [State.blowFuse, hk, if_neg (by decide), if_neg (by omega), if_neg (by omega)]

theorem State.blowFuse_marker {op : FuseOp} (hk : op.key = true) (s : State) :
    s.blowFuse op 384 = (s.put CSU_KEY_STATUS_PROG (s.get CSU_KEY_STATUS_PROG ||| 2 ^ op.slot)).put CSU_STATUS_OPEN 0 := by
  rw [State.blowFuse, hk, if_neg (by decide), if_neg (by decide), if_pos rfl]

theorem State.blowFuse_revoke {op : FuseOp} (hk : op.key = true) (s : State) :
    s.blowFuse op 385 = s.put CSU_KEY_STATUS_REVOKED (s.get CSU_KEY_STATUS_REVOKED ||| 2 ^ op.slot) := by
  rw [State.blowFuse, hk, if_neg (by decide), if_pos rfl]

theorem State.blowFuse_rollback {op : FuseOp} (hk : op.key = false) (f : Nat) (s : State) :
    s.blowFuse op f = s.put ⟨CSU_ROLLBACK, 6, 0⟩ (s.bits CSU_ROLLBACK 6 0 + 1) := by
  rw [State.blowFuse, hk, if_pos (by decide)]

/-! ## The end of an operation -/

/-- An operation on a key that ends: its result in BUSY and FAIL, nothing under way, and source 38 or 39. -/
theorem State.endFuses_key {op : FuseOp} (hk : op.key = true) (s : State) (fail : Bool) :
    s.endFuses op fail
      = ((State.put { s with csu := { s.csu with op := none } } CSU_KEY_STATUS_BUSY 0).putB CSU_KEY_STATUS_FAIL fail).raise
          (if fail then 39 else 38) 0 := by
  simp only [State.endFuses, hk, ↓reduceIte]

theorem State.endFuses_key_status {op : FuseOp} (hk : op.key = true) (s : State) (fail : Bool) :
    (s.endFuses op fail).on CSU_KEY_STATUS_BUSY = false ∧ (s.endFuses op fail).on CSU_KEY_STATUS_FAIL = fail := by
  rw [State.endFuses_key hk, State.raise_on, State.raise_on]
  refine ⟨?_, State.on_putB_same _ CSU_KEY_STATUS_FAIL fail⟩
  rw [State.putB, State.on_put_disjoint _ CSU_KEY_STATUS_FAIL CSU_KEY_STATUS_BUSY, State.on_put_zero _ CSU_KEY_STATUS_BUSY]

theorem State.endFuses_csu (s : State) (op : FuseOp) (fail : Bool) : (s.endFuses op fail).csu = { s.csu with op := none } := by
  unfold State.endFuses
  dsimp only
  split <;> rfl

theorem State.endFuses_raised (s : State) (op : FuseOp) (fail : Bool) :
    (s.endFuses op fail).evc.raised
      = raiseIn false (if fail then 39 else 38) (sourceClass (if fail then 39 else 38)) 0 s.evc.raised := by
  unfold State.endFuses
  dsimp only
  split <;> rfl

/-- The end of an operation on a key leaves every field below BUSY and every other register. -/
theorem State.endFuses_key_get {op : FuseOp} (hk : op.key = true) (s : State) (fail : Bool) (g : Fld)
    (hg : g.off ≠ CSU_KEY_STATUS ∨ g.hi < 10) : (s.endFuses op fail).get g = s.get g := by
  rw [State.endFuses_key hk, State.raise_get, State.putB]
  rcases hg with hg | hg
  · rw [State.get_put_off _ _ _ _ hg, State.get_put_off _ _ _ _ hg]
    rfl
  · rw [State.get_put_disjoint _ CSU_KEY_STATUS_FAIL g _ (by decide) (by decide) (.inl (show g.hi < 11 by omega)),
      State.get_put_disjoint _ CSU_KEY_STATUS_BUSY g _ (by decide) (by decide) (.inl hg)]
    rfl

theorem State.endFuses_key_on {op : FuseOp} (hk : op.key = true) (s : State) (fail : Bool) (g : Fld)
    (hg : g.off ≠ CSU_KEY_STATUS ∨ g.hi < 10) : (s.endFuses op fail).on g = s.on g := by
  rw [State.on, State.endFuses_key_get hk s fail g hg, State.on]

theorem State.endFuses_rollback {op : FuseOp} (hk : op.key = false) (s : State) (fail : Bool) :
    s.endFuses op fail
      = ((State.put { s with csu := { s.csu with op := none } } ⟨CSU_ROLLBACK, 8, 8⟩ 0).putB ⟨CSU_ROLLBACK, 9, 9⟩ fail).raise
          (if fail then 39 else 38) 0 := by
  simp only [State.endFuses, hk, Bool.false_eq_true, ↓reduceIte]

/-- A rollback operation that ends well: BUSY and FAIL are clear, and the count stays. -/
theorem State.endFuses_rollback_status {op : FuseOp} (hk : op.key = false) (s : State) :
    (s.endFuses op false).bits CSU_ROLLBACK 8 8 = 0 ∧ (s.endFuses op false).bits CSU_ROLLBACK 9 9 = 0
      ∧ (s.endFuses op false).bits CSU_ROLLBACK 6 0 = s.bits CSU_ROLLBACK 6 0 := by
  simp only [State.endFuses_rollback hk, State.bits, State.raise_get, State.putB]
  refine ⟨?_, ?_, ?_⟩
  · rw [State.get_put_disjoint _ ⟨CSU_ROLLBACK, 9, 9⟩ ⟨CSU_ROLLBACK, 8, 8⟩ _ (by decide) (by decide) (by decide),
      State.get_put_same _ ⟨CSU_ROLLBACK, 8, 8⟩]
    rfl
  · rw [State.get_put_same _ ⟨CSU_ROLLBACK, 9, 9⟩]
    rfl
  · rw [State.get_put_disjoint _ ⟨CSU_ROLLBACK, 9, 9⟩ ⟨CSU_ROLLBACK, 6, 0⟩ _ (by decide) (by decide) (by decide),
      State.get_put_disjoint _ ⟨CSU_ROLLBACK, 8, 8⟩ ⟨CSU_ROLLBACK, 6, 0⟩ _ (by decide) (by decide) (by decide)]
    rfl

/-! FUSE_BLOW_COMPLETE in the CORE domain, for the last fuse and for one that does not verify. -/
theorem exec_fuseBlowComplete_last {s : State} {op : FuseOp} {f : Nat} (hcore : s.coreOn = true) (hop : s.csu.op = some op)
    (ht : op.todo = [f]) : exec (.fuseBlowComplete true) s = .next (s.keepQueue ((s.blowFuse op f).endFuses op false)) := by
  rw [exec_fuseBlowComplete, State.runCore_on hcore, fuseBlowComplete_last hop ht]

theorem exec_fuseBlowComplete_fails {s : State} {op : FuseOp} {f : Nat} {rest : List Nat} (hcore : s.coreOn = true)
    (hop : s.csu.op = some op) (ht : op.todo = f :: rest) :
    exec (.fuseBlowComplete false) s = .next (s.keepQueue (s.endFuses op true)) := by
  rw [exec_fuseBlowComplete, State.runCore_on hcore, fuseBlowComplete_fails hop ht]

/-! ## The statement -/

/-- Settles O16, clause by clause: the commands, one fuse, and the ends of an operation. -/
theorem keyFuses : Obligations.KeyFuses := by
  refine ⟨?program, ?programRefused, ?revoke, ?revokeUnready, ?revokeNeeded, ?revokeAgain, ?rollback, ?rollbackRefused, ?digest, ?marker,
    ?revoked, ?counted, ?failed⟩
  case program =>
    intro s k hr hk hop hprog hprov hcover
    rw [answers_iff, exec_keyProgram, State.runHost_alone hr pairShared_csuKeyCmd, keyProgram_starts hk ⟨hop, hprog, hprov, hcover⟩]
    rfl
  case programRefused =>
    intro s k hr hk h
    have hno : ¬s.mayProgram k := by
      rintro ⟨hop, hprog, hprov, hcover⟩
      rcases h with h | h | ⟨hp, h⟩ | h
      · exact h hop
      · simp [hprog] at h
      · rcases hprov with hprov | ⟨hopen, h0⟩
        · simp [hprov] at hp
        · simp [hopen, h0] at h
      · exact h hcover
    rw [answers_iff, exec_keyProgram, State.runHost_alone hr pairShared_csuKeyCmd, keyProgram_refused hk hno, State.keyRefuse]
  case revoke =>
    intro s k hr hk hop hp hrev _ ha hu
    rw [answers_iff, exec_keyRevoke, State.runHost_alone hr pairShared_csuKeyCmd,
      keyRevoke_starts hk hop hp hrev (State.slotNeeded_eq_false ha hu)]
    rfl
  case revokeUnready =>
    intro s k hr hk h
    rw [answers_iff, exec_keyRevoke, State.runHost_alone hr pairShared_csuKeyCmd, keyRevoke_unready hk h, State.keyRefuse]
  case revokeNeeded =>
    intro s k hr hk hrev h
    rw [answers_iff, exec_keyRevoke, State.runHost_alone hr pairShared_csuKeyCmd,
      keyRevoke_needed hk hrev ((s.slotNeeded_iff k).mpr h), State.keyRefuse]
  case revokeAgain =>
    intro s k hr hk hop hp hrev
    rw [answers_iff, exec_keyRevoke, State.runHost_alone hr pairShared_csuKeyCmd, keyRevoke_again hk hop hp hrev]
  case rollback =>
    intro s n hr hn hop hv hlo hhi
    rw [answers_iff, exec_rollbackProgram, State.runHost_alone hr pairShared_csuRollbackCmd, rollbackProgram_starts hn hop hv hlo hhi]
    rfl
  case rollbackRefused =>
    intro s n hr hn h
    rw [answers_iff, exec_rollbackProgram, State.runHost_alone hr pairShared_csuRollbackCmd, rollbackProgram_refused hn h]
  case digest =>
    intro s k f n rest hcore hop hf
    rw [answers_iff, exec_fuseBlowComplete, State.runCore_on hcore, fuseBlowComplete_goesOn hop rfl, State.blowFuse_digest rfl hf]
  case marker =>
    intro s k hcore hk hop
    have hblown := s.blowFuse_marker (op := { key := true, slot := k, revoke := false, todo := [384] }) rfl
    refine ⟨_, exec_fuseBlowComplete_last hcore hop rfl, ?_⟩
    rw [hblown, State.keepQueue_get, State.keepQueue_on, State.keepQueue_on, State.keepQueue_on, State.keepQueue_csu, State.keepQueue_evc]
    refine ⟨?_, ?_, (State.endFuses_key_status rfl _ false).1, (State.endFuses_key_status rfl _ false).2, ?_, ?_,
      State.endFuses_raised _ _ false⟩
    · rw [State.endFuses_key_get rfl _ _ _ (.inr (by decide)), State.get_put_off _ _ _ _ (by decide)]
      exact State.bitAt_get_put_or s CSU_KEY_STATUS_PROG _ k hk
    · rw [State.endFuses_key_on rfl _ _ _ (.inl (by decide))]
      exact State.on_put_zero _ CSU_STATUS_OPEN
    · rw [State.endFuses_csu]
    · rw [State.endFuses_csu]
      rfl
  case revoked =>
    intro s k hcore hk hop
    have hblown := s.blowFuse_revoke (op := { key := true, slot := k, revoke := true, todo := [385] }) rfl
    refine ⟨_, exec_fuseBlowComplete_last hcore hop rfl, ?_⟩
    rw [hblown, State.keepQueue_get, State.keepQueue_on, State.keepQueue_on, State.keepQueue_csu, State.keepQueue_evc]
    refine ⟨?_, (State.endFuses_key_status rfl _ false).1, (State.endFuses_key_status rfl _ false).2, ?_, State.endFuses_raised _ _ false⟩
    · rw [State.endFuses_key_get rfl _ _ _ (.inr (by decide))]
      exact State.bitAt_get_put_or s CSU_KEY_STATUS_REVOKED _ k hk
    · rw [State.endFuses_csu]
  case counted =>
    intro s f hcore hop hc
    have hblown := s.blowFuse_rollback (op := { key := false, slot := 0, revoke := false, todo := [f] }) rfl f
    obtain ⟨hbusy, hfail, hcount⟩ := (s.put ⟨CSU_ROLLBACK, 6, 0⟩ (s.bits CSU_ROLLBACK 6 0 + 1)).endFuses_rollback_status
      (op := { key := false, slot := 0, revoke := false, todo := [f] }) rfl
    refine ⟨_, exec_fuseBlowComplete_last hcore hop rfl, ?_⟩
    rw [hblown, State.keepQueue_bits, State.keepQueue_bits, State.keepQueue_bits, State.keepQueue_csu, State.keepQueue_evc]
    refine ⟨?_, hbusy, hfail, ?_, State.endFuses_raised _ _ false⟩
    · have hfits : s.bits CSU_ROLLBACK 6 0 + 1 < 2 ^ 7 := by omega
      rw [hcount, State.bits, State.get_put_same s ⟨CSU_ROLLBACK, 6, 0⟩]
      exact Nat.mod_eq_of_lt hfits
    · rw [State.endFuses_csu]
  case failed =>
    intro s k r f rest hcore hop
    obtain ⟨hbusy, hfail⟩ := s.endFuses_key_status (op := { key := true, slot := k, revoke := r, todo := f :: rest }) rfl true
    refine ⟨_, exec_fuseBlowComplete_fails hcore hop rfl, ?_⟩
    rw [State.keepQueue_csu, State.keepQueue_on, State.keepQueue_on, State.keepQueue_evc, State.endFuses_csu]
    exact ⟨rfl, rfl, hbusy, hfail, State.endFuses_raised _ _ true⟩

end Sys2Proof.Machine
end

section
/-!
SUPPORT. The rules of a stream's record, and of the buffer states that CMP_STK_STATE shows (R73, R79, R89).
-/

namespace Sys2Proof.Machine

/-! ## A stream's record -/

@[simp] theorem State.setStream_rdN (s : State) (i : Nat) (f : Stream → Stream) (q : Nat) : (s.setStream i f).rdN q = s.rdN q := rfl
@[simp] theorem State.setStream_get (s : State) (i : Nat) (f : Stream → Stream) (q : Fld) : (s.setStream i f).get q = s.get q := rfl
@[simp] theorem State.setStream_on (s : State) (i : Nat) (f : Stream → Stream) (q : Fld) : (s.setStream i f).on q = s.on q := rfl
@[simp] theorem State.setStream_bufState (s : State) (i : Nat) (f : Stream → Stream) (j b : Nat) :
    (s.setStream i f).bufState j b = s.bufState j b := rfl

@[simp] theorem State.setStream_length (s : State) (i : Nat) (f : Stream → Stream) :
    (s.setStream i f).streams.length = s.streams.length := List.length_modify ..

theorem State.stream_setStream_same {s : State} {i : Nat} (hi : i < s.streams.length) (f : Stream → Stream) :
    (s.setStream i f).stream i = f (s.stream i) := by
  simp [State.stream, State.setStream, List.getD_eq_getElem?_getD, hi]

theorem State.stream_setStream_ne {i j : Nat} (h : j ≠ i) (s : State) (f : Stream → Stream) : (s.setStream i f).stream j = s.stream j := by
  simp [State.stream, State.setStream, List.getD_eq_getElem?_getD, h.symm]

/-- What the change of a stream's record leaves alone, it leaves alone in every stream. -/
theorem State.stream_setStream_field {α : Type} (p : Stream → α) {f : Stream → Stream} (hp : ∀ st, p (f st) = p st) (s : State) (i j : Nat) :
    p ((s.setStream i f).stream j) = p (s.stream j) := by
  by_cases h : j = i
  · subst h
    by_cases hj : j < s.streams.length
    · rw [State.stream_setStream_same hj, hp]
    · simp [State.stream, State.setStream, List.getD_eq_getElem?_getD, hj]
  · rw [State.stream_setStream_ne h]

/-! ## Buffer states -/

/-- Buffer `b` of three has the two bits of its state below the other fields of CMP_STK_STATE. -/
theorem State.bufState_setBuf_same {b : Nat} (hb : b < 3) (s : State) (i v : Nat) : (s.setBuf i b v).bufState i b = v % 4 := by
  have hw : 2 * b + 1 + 1 - 2 * b = 2 := by omega
  have h := State.get_put_same s ⟨CMP_STK_STATE i, 2 * b + 1, 2 * b⟩ v (by simp) (by simp; omega)
  rw [State.bufState, State.setBuf, h]
  simp only [hw, Nat.reducePow]

theorem State.bufState_setBuf_ne {a b : Nat} (hb : b < 3) (h : a ≠ b) (s : State) (i v : Nat) :
    (s.setBuf i b v).bufState i a = s.bufState i a :=
  State.get_put_disjoint s _ _ v (by simp) (by simp; omega) (by simp; omega)

theorem State.bufState_put {f : Fld} (hf : 6 ≤ f.lo) (hlo : f.lo ≤ f.hi) (hhi : f.hi < 32) {b : Nat} (hb : b < 3) (s : State) (i x : Nat) :
    (s.put f x).bufState i b = s.bufState i b :=
  State.get_put_disjoint s f _ x hlo hhi (.inl (by simp; omega))

theorem State.get_count_off (s : State) {o : Nat} {g : Fld} (h : g.off ≠ o) : (s.count o).get g = s.get g := State.get_wrN_off s o _ g h

theorem State.rdN_put_off (s : State) {f : Fld} {o : Nat} (h : o ≠ f.off) (x : Nat) : (s.put f x).rdN o = s.rdN o := by
  rw [State.rdN, State.rd_put, if_neg h, State.rdN]

/-! A buffer that is freed: the registers see its state alone. -/
@[simp] theorem State.freeBuf_bufState (s : State) (i b j a : Nat) : (s.freeBuf i b).bufState j a = (s.setBuf i b 0).bufState j a := rfl
@[simp] theorem State.freeBuf_get (s : State) (i b : Nat) (g : Fld) : (s.freeBuf i b).get g = (s.setBuf i b 0).get g := rfl

@[simp] theorem State.freeBuf_length (s : State) (i b : Nat) : (s.freeBuf i b).streams.length = s.streams.length :=
  State.setStream_length (s.setBuf i b 0) i _

theorem State.bufState_freeBuf {b : Nat} (hb : b < 3) (s : State) (i a : Nat) :
    (s.freeBuf i b).bufState i a = if a = b then 0 else s.bufState i a := by
  rw [State.freeBuf_bufState]
  split
  next h => rw [h, State.bufState_setBuf_same hb]
  next h => rw [State.bufState_setBuf_ne hb h]

/-! The buffer in a state. -/
theorem State.bufIn_eq_none_iff (s : State) (i v : Nat) : s.bufIn i v = none ↔ ∀ b < 3, s.bufState i b ≠ v := by
  simp [State.bufIn]

theorem State.bufIn_eq_some_iff (s : State) (i v k : Nat) :
    s.bufIn i v = some k ↔ s.bufState i k = v ∧ k < 3 ∧ ∀ b < k, s.bufState i b ≠ v := by
  simp [State.bufIn, List.find?_range_eq_some]

end Sys2Proof.Machine
end

section
/-!
PROOF. What the end of marking leaves (R73 to R76, R79).
-/

namespace Sys2Proof.Machine

/-! ## The command, and what the end of the tick settles (R74) -/

theorem stkRegisterMarked_marking {s : State} {i b : Nat} (h : (s.stream i).marking = some b) :
    stkRegisterMarked i s = s.setStream i (fun st => { st with marked := true }) := by
  simp only [stkRegisterMarked, h, Option.isSome_some, ↓reduceIte]

theorem stkRegisterMarked_idle {s : State} {i : Nat} (h : (s.stream i).marking = none) : stkRegisterMarked i s = s := by
  simp only [stkRegisterMarked, h, Option.isSome_none, Bool.false_eq_true, ↓reduceIte]

/-- What the end of a tick does for stream `i`. -/
def State.settleStream (s : State) (i : Nat) : State :=
  if (s.stream i).marked then (s.stkRegistered i).releaseDatagrams i else s

theorem State.settleMarked_eq (s : State) : s.settleMarked = (List.range 8).foldl State.settleStream s := rfl

theorem State.settleStream_unmarked {s : State} {i : Nat} (h : (s.stream i).marked = false) : s.settleStream i = s := by
  simp only [State.settleStream, h, Bool.false_eq_true, ↓reduceIte]

theorem State.releaseDatagrams_none {s : State} {i : Nat} (h : (s.stream i).rxHeld = []) :
    s.releaseDatagrams i = s.setStream i (fun st => { st with rxHeld := [] }) := by
  rw [State.releaseDatagrams, h, List.foldl_nil]

theorem State.settleStream_marked {s : State} {i : Nat} (h : (s.stream i).marked = true) (hx : ((s.stkRegistered i).stream i).rxHeld = []) :
    s.settleStream i = (s.stkRegistered i).setStream i (fun st => { st with rxHeld := [] }) := by
  rw [State.settleStream, if_pos h, State.releaseDatagrams_none hx]

theorem State.foldl_settleStream_unmarked {s : State} {l : List Nat} (h : ∀ j ∈ l, (s.stream j).marked = false) :
    l.foldl State.settleStream s = s := by
  induction l with
  | nil => rfl
  | cons j l ih =>
    obtain ⟨hj, hl⟩ := List.forall_mem_cons.mp h
    rw [List.foldl_cons, State.settleStream_unmarked hj, ih hl]

/-- With one stream marked, what its step leaves is what the end of the tick leaves: the steps before and after change nothing. -/
theorem State.settleMarked_single {s : State} {i : Nat} (hi : i < 8) (hs : ∀ j < 8, j ≠ i → (s.stream j).marked = false)
    (hframe : ∀ j, j ≠ i → ((s.settleStream i).stream j).marked = (s.stream j).marked) : s.settleMarked = s.settleStream i := by
  obtain ⟨before, after, hl⟩ := List.append_of_mem (List.mem_range.mpr hi)
  have hnd : (before ++ i :: after).Nodup := hl ▸ List.nodup_range
  have hne : i ∉ before ∧ i ∉ after := by
    rw [List.nodup_middle, List.nodup_cons, List.mem_append, not_or] at hnd
    exact hnd.1
  have hrest : ∀ j, j ∈ before ∨ j ∈ after → j < 8 ∧ j ≠ i := fun j hj =>
    ⟨List.mem_range.mp (by rw [hl]; rcases hj with hj | hj <;> simp [hj]), by rintro rfl; exact hj.elim hne.1 hne.2⟩
  have hbefore : before.foldl State.settleStream s = s := State.foldl_settleStream_unmarked fun j hj =>
    hs j (hrest j (.inl hj)).1 (hrest j (.inl hj)).2
  have hafter : after.foldl State.settleStream (s.settleStream i) = s.settleStream i := State.foldl_settleStream_unmarked fun j hj => by
    rw [hframe j (hrest j (.inr hj)).2]
    exact hs j (hrest j (.inr hj)).1 (hrest j (.inr hj)).2
  rw [State.settleMarked_eq, hl, List.foldl_append, List.foldl_cons, hbefore, hafter]

/-! ## A buffer becomes READY (R73, R76, R79) -/

/-- Buffer `b` is shown READY and BUSY clears, the marking is over, and the stream holds the given slots. -/
def State.readied (s : State) (i b : Nat) (slots : List Nat) : State :=
  ((s.setBuf i b 2).put (CMP_STK_STATE_BUSY i) 0).setStream i
    (fun st => { st with marking := none, marked := false, holds := st.holds.set b slots })

theorem State.becomeReady_alone {s : State} {i : Nat} (b : Nat) (h : s.get EHL_STATUS_PAIR = 3 ∨ s.bufIn i 2 = none) :
    ∃ e : Ehl, s.becomeReady i b = State.readied { s with ehl := e } i b (s.bufSlots i b) := by
  by_cases hp : s.get EHL_STATUS_PAIR = 3
  · exact ⟨_, by rw [State.becomeReady, if_pos hp, State.readied]⟩
  · have hn : s.bufIn i 2 = none := h.resolve_left hp
    exact ⟨s.ehl, by rw [State.becomeReady, if_neg hp, hn, State.readied]⟩

theorem State.becomeReady_supersedes {s : State} {i a : Nat} (b : Nat) (hp : s.get EHL_STATUS_PAIR ≠ 3) (ha : s.bufIn i 2 = some a) :
    s.becomeReady i b = (s.supersede i a).readied i b (s.bufSlots i b) := by
  rw [State.becomeReady, if_neg hp, ha, State.readied]

/-- All that can happen before a buffer is shown READY: the messages are noted, or the buffer READY before is superseded. -/
theorem State.becomeReady_cases (s : State) (i b : Nat) :
    ∃ r : State, s.becomeReady i b = r.readied i b (s.bufSlots i b)
      ∧ ((∃ e : Ehl, r = { s with ehl := e }) ∨ ∃ a, r = s.supersede i a) := by
  by_cases h : s.get EHL_STATUS_PAIR = 3 ∨ s.bufIn i 2 = none
  · obtain ⟨e, he⟩ := State.becomeReady_alone b h
    exact ⟨_, he, .inl ⟨e, rfl⟩⟩
  · obtain ⟨hp, hn⟩ := not_or.mp h
    obtain ⟨a, ha⟩ := Option.ne_none_iff_exists'.mp hn
    exact ⟨_, State.becomeReady_supersedes b hp ha, .inr ⟨a, rfl⟩⟩

theorem State.readied_bufState {b : Nat} (hb : b < 3) (s : State) (i : Nat) (slots : List Nat) :
    (s.readied i b slots).bufState i b = 2 := by
  rw [State.readied, State.setStream_bufState, State.bufState_put (f := CMP_STK_STATE_BUSY i) (by simp) le_rfl (by simp) hb,
    State.bufState_setBuf_same hb]

theorem State.readied_bufState_ne {a b : Nat} (ha : a < 3) (hb : b < 3) (h : a ≠ b) (s : State) (i : Nat) (slots : List Nat) :
    (s.readied i b slots).bufState i a = s.bufState i a := by
  rw [State.readied, State.setStream_bufState, State.bufState_put (f := CMP_STK_STATE_BUSY i) (by simp) le_rfl (by simp) ha,
    State.bufState_setBuf_ne hb h]

theorem State.readied_busy (s : State) (i b : Nat) (slots : List Nat) : (s.readied i b slots).on (CMP_STK_STATE_BUSY i) = false := by
  rw [State.readied, State.setStream_on, State.on_put_zero _ (CMP_STK_STATE_BUSY i) le_rfl (by simp)]

theorem State.readied_get_off (s : State) {i : Nat} (b : Nat) (slots : List Nat) {g : Fld} (hg : g.off ≠ CMP_STK_STATE i) :
    (s.readied i b slots).get g = s.get g := by
  rw [State.readied, State.setStream_get, State.get_put_off _ _ _ _ hg, State.setBuf, State.get_put_off _ _ _ _ hg]

theorem State.readied_rdN_off (s : State) {i : Nat} (b : Nat) (slots : List Nat) {o : Nat} (ho : o ≠ CMP_STK_STATE i) :
    (s.readied i b slots).rdN o = s.rdN o := by
  rw [State.readied, State.setStream_rdN, State.rdN_put_off _ ho, State.setBuf, State.rdN_put_off _ ho]

theorem State.readied_stream {s : State} {i : Nat} (hi : i < s.streams.length) (b : Nat) (slots : List Nat) :
    (s.readied i b slots).stream i
      = { s.stream i with marking := none, marked := false, holds := (s.stream i).holds.set b slots } :=
  State.stream_setStream_same (s := (s.setBuf i b 2).put (CMP_STK_STATE_BUSY i) 0) hi _

theorem State.readied_stream_ne {i j : Nat} (h : j ≠ i) (s : State) (b : Nat) (slots : List Nat) :
    (s.readied i b slots).stream j = s.stream j :=
  State.stream_setStream_ne h ((s.setBuf i b 2).put (CMP_STK_STATE_BUSY i) 0) _

/-! The buffer superseded (R73, R75): FREE, counted, and no other stream or register touched. -/
theorem State.supersede_get_off (s : State) {i : Nat} (a : Nat) {g : Fld} (hs : g.off ≠ CMP_STK_STATE i) (hc : g.off ≠ CMP_STK_SUPERSEDED i) :
    (s.supersede i a).get g = s.get g := by
  have hcount := State.get_count_off (s.freeBuf i a) hc
  rw [State.freeBuf_get, State.setBuf, State.get_put_off _ _ _ _ hs] at hcount
  exact hcount

theorem State.supersede_bufState {a : Nat} (ha : a < 3) (s : State) (i : Nat) : (s.supersede i a).bufState i a = 0 := by
  have hcount : ((s.freeBuf i a).count (CMP_STK_SUPERSEDED i)).bufState i a = (s.freeBuf i a).bufState i a :=
    State.get_count_off (s.freeBuf i a) (by simp)
  rw [State.bufState_freeBuf ha, if_pos rfl] at hcount
  exact hcount

theorem State.supersede_count (s : State) (i a : Nat) :
    (s.supersede i a).rdN (CMP_STK_SUPERSEDED i) = min (s.rdN (CMP_STK_SUPERSEDED i) + 1) 0xFFFFFFFF := by
  have hcount := State.rdN_count (s.setBuf i a 0) (CMP_STK_SUPERSEDED i) (CMP_STK_SUPERSEDED i)
  rw [if_pos rfl, State.setBuf, State.rdN_put_off _ (by simp)] at hcount
  exact hcount

theorem State.supersede_stream_ne {i j : Nat} (h : j ≠ i) (s : State) (a : Nat) : (s.supersede i a).stream j = s.stream j := by
  rw [State.supersede]
  exact (State.stream_setStream_ne h _ _).trans (State.stream_setStream_ne h s _)

theorem State.supersede_length (s : State) (i a : Nat) : (s.supersede i a).streams.length = s.streams.length := by
  simp [State.supersede]

/-! Becoming READY: what it shows, and what it leaves alone. -/
theorem State.becomeReady_stream_ne {i j : Nat} (h : j ≠ i) (s : State) (b : Nat) : (s.becomeReady i b).stream j = s.stream j := by
  obtain ⟨r, hr, ⟨e, rfl⟩ | ⟨a, rfl⟩⟩ := s.becomeReady_cases i b
  · rw [hr, State.readied_stream_ne h]
    rfl
  · rw [hr, State.readied_stream_ne h, State.supersede_stream_ne h]

theorem State.becomeReady_get_off (s : State) {i : Nat} (b : Nat) {g : Fld} (hs : g.off ≠ CMP_STK_STATE i)
    (hc : g.off ≠ CMP_STK_SUPERSEDED i) : (s.becomeReady i b).get g = s.get g := by
  obtain ⟨r, hr, ⟨e, rfl⟩ | ⟨a, rfl⟩⟩ := s.becomeReady_cases i b
  · rw [hr, State.readied_get_off _ _ _ hs]
    rfl
  · rw [hr, State.readied_get_off _ _ _ hs, State.supersede_get_off _ _ hs hc]

theorem State.becomeReady_marking {s : State} {i : Nat} (hi : i < s.streams.length) (b : Nat) : ((s.becomeReady i b).stream i).marking = none := by
  obtain ⟨r, hr, ⟨e, rfl⟩ | ⟨a, rfl⟩⟩ := s.becomeReady_cases i b
  · rw [hr, State.readied_stream (s := { s with ehl := e }) hi]
  · rw [hr, State.readied_stream (by rwa [State.supersede_length])]

theorem State.becomeReady_shows {b : Nat} (hb : b < 3) (s : State) (i : Nat) :
    (s.becomeReady i b).bufState i b = 2 ∧ (s.becomeReady i b).on (CMP_STK_STATE_BUSY i) = false := by
  obtain ⟨r, hr, -⟩ := s.becomeReady_cases i b
  rw [hr]
  exact ⟨State.readied_bufState hb r i _, State.readied_busy r i b _⟩

/-! ## The registration, with what a primary sends (R76, R419) -/

theorem State.toPartner_alone {s : State} (h : s.pairState ≠ pairPrimary) (m : EhlMsg) : s.toPartner m = s := if_neg h

theorem State.toPartner_streams (s : State) (m : EhlMsg) : (s.toPartner m).streams = s.streams := by
  unfold State.toPartner State.ehlSend
  split
  · split <;> rfl
  · rfl

theorem State.stkMarked_streams {s : State} {i b : Nat} (h : (s.stream i).marking = some b) :
    (s.stkMarked i).streams = (s.becomeReady i b).streams := by
  simp only [State.stkMarked, h]
  split
  · split <;> rfl
  · rfl

theorem State.stkRegistered_stream_ne {i j : Nat} (h : j ≠ i) (s : State) : (s.stkRegistered i).stream j = s.stream j := by
  cases hm : (s.stream i).marking with
  | none => rw [State.stkRegistered, hm]
  | some b =>
    have hstreams : (s.stkRegistered i).streams = (s.becomeReady i b).streams := by
      simp only [State.stkRegistered, hm]
      split
      · rw [State.toPartner_streams, State.stkMarked_streams hm]
      · rw [State.stkMarked_streams hm]
    rw [State.stream, hstreams, ← State.stream, State.becomeReady_stream_ne h]

/-- Where nothing is sent and no build registers, a marked buffer becomes READY and no more. -/
theorem State.stkRegistered_alone {s : State} {i b : Nat} (hi : i < 8) (hm : (s.stream i).marking = some b)
    (hp : s.mirrors i = false ∨ s.pairState ≠ pairPrimary) (hc : s.cam.registering = none) : s.stkRegistered i = s.becomeReady i b := by
  have hmarked : s.stkMarked i = s.becomeReady i b := by simp only [State.stkMarked, hm, hc]
  simp only [State.stkRegistered, hm, hmarked]
  split
  next hmir =>
    refine State.toPartner_alone ?_ _
    rw [State.pairState, State.becomeReady_get_off s b (show 0x3000008 ≠ 0x181001C + 0x40 * i by omega)
      (show 0x3000008 ≠ 0x1810028 + 0x40 * i by omega)]
    exact hp.resolve_left (by simp [hmir])
  next => rfl

/-! ## The statement -/

/-- Settles O18, clause by clause: the command, the end of the tick, and the buffer that becomes READY. -/
theorem stackMarked : Obligations.StackMarked := by
  refine ⟨?noted, ?idle, ?settled, ?ready, ?superseded, ?held⟩
  case noted =>
    intro s i b hcore hm
    rw [answers_iff, exec_stkRegisterMarked, State.runCore_on hcore, stkRegisterMarked_marking hm]
  case idle =>
    intro s i hcore hm
    rw [answers_iff, exec_stkRegisterMarked, State.runCore_on hcore, stkRegisterMarked_idle hm]
  case settled =>
    intro s i hi hmarked hothers hx
    have hstep := State.settleStream_marked hmarked hx
    rw [State.settleMarked_single hi hothers, hstep]
    intro j hj
    rw [hstep, State.stream_setStream_ne hj, State.stkRegistered_stream_ne hj]
  case ready =>
    intro s i b hi hb hm hlen hp hc
    obtain ⟨hready, hbusy⟩ := s.becomeReady_shows hb i
    rw [State.stkRegistered_alone hi hm hp hc]
    exact ⟨hready, hbusy, State.becomeReady_marking hlen b, State.becomeReady_mem s i b⟩
  case superseded =>
    intro s i a b hi ha hb hne hm hpair _ hin hp hc
    rw [State.stkRegistered_alone hi hm hp hc, State.becomeReady_supersedes b hpair hin]
    refine ⟨?_, State.readied_bufState hb _ i _, ?_⟩
    · rw [State.readied_bufState_ne ha hb hne, State.supersede_bufState ha]
    · rw [State.readied_rdN_off _ _ _ (by simp), State.supersede_count]
  case held =>
    intro s i b hi hb h
    obtain ⟨e, he⟩ := State.becomeReady_alone b h
    rw [he, State.readied_stream (s := { s with ehl := e }) hi]
    exact List.getD_eq_getElem _ _ (by rwa [List.length_set]) |>.trans (List.getElem_set_self ..)

end Sys2Proof.Machine
end

section
/-!
PROOF. The buffer commands of a host stream (R73, R76, R90).
-/

namespace Sys2Proof.Machine

/-- A buffer command reaches the partner as a STACK message or not at all, so that its effect is all it does (R419). -/
theorem State.runHost_stkCmd {s : State} {i : Nat} (hr : s.reaches (CMP_STK_CMD i)) (hi : i < 8) (v : Word) (f : State → State) :
    s.runHost (CMP_STK_CMD i) v f = s.keepQueue (f s) := by
  rw [State.runHost_reaches hr, State.passedOn, sentOtherwise_stkCmd hi, Bool.not_true, Bool.and_false, if_neg Bool.false_ne_true]

/-! ## The gate (R90, log entry 20) -/

theorem State.stkGate_eq_some_iff (s : State) (i c : Nat) : s.stkGate i = some c ↔
    c = (if s.on (CMP_STK_STATE_BUSY i) then 7 else if (s.stream i).active = false then 5 else 1)
      ∧ (s.on (CMP_STK_STATE_BUSY i) = true ∨ (s.stream i).active = false ∨ s.get (CMP_STK_CFG_SOURCE i) ≠ 0) := by
  cases hb : s.on (CMP_STK_STATE_BUSY i) with
  | true => simpa [State.stkGate, hb] using eq_comm
  | false =>
    cases ha : (s.stream i).active with
    | false => simpa [State.stkGate, hb, ha] using eq_comm
    | true =>
      by_cases hsrc : s.get (CMP_STK_CFG_SOURCE i) = 0
      · simp [State.stkGate, hb, ha, hsrc]
      · simpa [State.stkGate, hb, ha, hsrc] using eq_comm

theorem State.stkGate_open {s : State} {i : Nat} (hb : s.on (CMP_STK_STATE_BUSY i) = false) (ha : (s.stream i).active = true)
    (hsrc : s.get (CMP_STK_CFG_SOURCE i) = 0) : s.stkGate i = none := by
  simp [State.stkGate, hb, ha, hsrc]

/-! A command that the gate refuses. -/
theorem stkAcquire_gated {s : State} {i c : Nat} (h : s.stkGate i = some c) : stkAcquire i s = s.stkRefuse i c := by
  rw [stkAcquire, h]

theorem stkRegister_gated {s : State} {i c : Nat} (h : s.stkGate i = some c) (b : Nat) : stkRegister i b s = s.stkRefuse i c := by
  rw [stkRegister, h]

theorem stkAbandon_gated {s : State} {i c : Nat} (h : s.stkGate i = some c) (b : Nat) : stkAbandon i b s = s.stkRefuse i c := by
  rw [stkAbandon, h]

/-! ## ACQUIRE -/

theorem State.acquirable_lowest {s : State} {i k : Nat} (hk : k < 3) (hfree : s.bufState i k = 0) (hnone : ∀ b < 3, s.bufState i b ≠ 1)
    (hlow : ∀ b < k, s.bufState i b ≠ 0) : s.acquirable i = some k := by
  rw [State.acquirable, (s.bufIn_eq_none_iff i 1).mpr hnone, (s.bufIn_eq_some_iff i 0 k).mpr ⟨hfree, hk, hlow⟩]
  rfl

theorem State.acquirable_none {s : State} {i : Nat} (h : (∃ b < 3, s.bufState i b = 1) ∨ ∀ b < 3, s.bufState i b ≠ 0) :
    s.acquirable i = none := by
  rw [State.acquirable]
  rcases h with ⟨b, hb, h1⟩ | h0
  · have hsome : s.bufIn i 1 ≠ none := fun hn => (s.bufIn_eq_none_iff i 1).mp hn b hb h1
    rw [if_pos (Option.isSome_iff_ne_none.mpr hsome)]
  · rw [(s.bufIn_eq_none_iff i 0).mpr h0, ite_self]

theorem stkAcquire_takes {s : State} {i b : Nat} (hg : s.stkGate i = none) (ha : s.acquirable i = some b) :
    stkAcquire i s = (s.setBuf i b 1).put (CMP_STK_STATE_ERR i) 0 := by
  simp only [stkAcquire, hg, ha]

theorem stkAcquire_refused {s : State} {i : Nat} (hg : s.stkGate i = none) (ha : s.acquirable i = none) :
    stkAcquire i s = s.stkRefuse i 2 := by
  simp only [stkAcquire, hg, ha]

/-! ## REGISTER and ABANDON -/

theorem stkRegister_filling {s : State} {i b : Nat} (hg : s.stkGate i = none) (hb : b < 3 ∧ s.bufState i b = 1) :
    stkRegister i b s = s.registerBuf i b := by
  simp only [stkRegister, hg, hb, and_self, ↓reduceIte]

theorem stkRegister_refused {s : State} {i b : Nat} (hg : s.stkGate i = none) (hb : ¬(b < 3 ∧ s.bufState i b = 1)) :
    stkRegister i b s = s.stkRefuse i 3 := by
  simp only [stkRegister, hg, hb, ↓reduceIte]

theorem stkAbandon_filling {s : State} {i b : Nat} (hg : s.stkGate i = none) (hb : b < 3 ∧ s.bufState i b = 1) :
    stkAbandon i b s = (s.freeBuf i b).put (CMP_STK_STATE_ERR i) 0 := by
  simp only [stkAbandon, hg, hb, and_self, ↓reduceIte]

theorem stkAbandon_refused {s : State} {i b : Nat} (hg : s.stkGate i = none) (hb : ¬(b < 3 ∧ s.bufState i b = 1)) :
    stkAbandon i b s = s.stkRefuse i 3 := by
  simp only [stkAbandon, hg, hb, ↓reduceIte]

/-- Both results of the descriptor's check, where none of its words is poisoned (R76). -/
theorem State.registerBuf_clean {s : State} {i b : Nat} (hp : s.descPoisoned i b = false) :
    s.registerBuf i b = if s.descValid i b then
        ((s.put (CMP_STK_STATE_ERR i) 0).put (CMP_STK_STATE_BUSY i) 1).setStream i (fun st => { st with marking := some b })
      else (s.put (CMP_STK_STATE_ERR i) 4).raise 289 (s.badRecId i b) := by
  cases hv : s.descValid i b <;> simp [State.registerBuf, hp, hv]

theorem State.freeBuf_active (s : State) (i b j : Nat) : ((s.freeBuf i b).stream j).active = (s.stream j).active :=
  State.stream_setStream_field Stream.active (f := fun st => { st with holds := st.holds.set b [] }) (fun _ => rfl) s i j

/-! ## The statement -/

/-- Settles O17, clause by clause: the three commands past the gate, and their refusals. -/
theorem stackCommands : Obligations.StackCommands := by
  refine ⟨?acquire, ?register, ?badDescriptor, ?abandon, ?freed, ?gated, State.stkGate_eq_some_iff, ?noneFree, ?notFilling⟩
  case acquire =>
    intro s i k hr hi hb ha hsrc hk hfree hnone hlow
    rw [answers_iff, exec_stkAcquire, State.runHost_stkCmd hr hi,
      stkAcquire_takes (State.stkGate_open hb ha hsrc) (State.acquirable_lowest hk hfree hnone hlow), State.setBuf]
  case register =>
    intro s i b hr hi hbusy ha hsrc hb hfill hp hv
    rw [answers_iff, exec_stkRegister, State.runHost_stkCmd hr hi, stkRegister_filling (State.stkGate_open hbusy ha hsrc) ⟨hb, hfill⟩,
      State.registerBuf_clean hp, if_pos hv]
  case badDescriptor =>
    intro s i b hr hi hbusy ha hsrc hb hfill hp hv
    rw [answers_iff, exec_stkRegister, State.runHost_stkCmd hr hi, stkRegister_filling (State.stkGate_open hbusy ha hsrc) ⟨hb, hfill⟩,
      State.registerBuf_clean hp, hv, if_neg Bool.false_ne_true]
  case abandon =>
    intro s i b hr hi hbusy ha hsrc hb hfill
    rw [answers_iff, exec_stkAbandon, State.runHost_stkCmd hr hi, stkAbandon_filling (State.stkGate_open hbusy ha hsrc) ⟨hb, hfill⟩]
  case freed =>
    intro s i b hb
    rw [State.bufState_freeBuf hb, if_pos rfl, State.freeBuf_active]
    exact ⟨rfl, rfl⟩
  case gated =>
    intro s i b c hr hi hg
    simp only [answers_iff, exec_stkAcquire, exec_stkRegister, exec_stkAbandon, State.runHost_stkCmd hr hi, stkAcquire_gated hg,
      stkRegister_gated hg, stkAbandon_gated hg, State.stkRefuse, and_self]
  case noneFree =>
    intro s i hr hi hbusy ha hsrc h
    rw [answers_iff, exec_stkAcquire, State.runHost_stkCmd hr hi,
      stkAcquire_refused (State.stkGate_open hbusy ha hsrc) (State.acquirable_none h), State.stkRefuse]
  case notFilling =>
    intro s i b hr hi hg hb
    simp only [answers_iff, exec_stkRegister, exec_stkAbandon, State.runHost_stkCmd hr hi, stkRegister_refused hg hb,
      stkAbandon_refused hg hb, State.stkRefuse, and_self]

end Sys2Proof.Machine
end

section
/-!
PROOF. Enabling and disabling a stack stream, and the return of its buffers (R67, R85, R89).
-/

namespace Sys2Proof.Machine

/-! ## A write of 1 to ENABLE (R67) -/

theorem stkEnable_active {s : State} {i : Nat} (ha : (s.stream i).active = true) : stkEnable i s = s := if_pos ha

theorem stkEnable_returning {s : State} {i : Nat} (ha : (s.stream i).active = false) (hr : (s.stream i).returning = true) :
    stkEnable i s = s.put (CMP_STK_CFG_ENABLE i) 1 := by
  simp only [stkEnable, ha, hr, Bool.false_eq_true, ↓reduceIte]

theorem stkEnable_afresh {s : State} {i : Nat} (ha : (s.stream i).active = false) (hr : (s.stream i).returning = false) :
    stkEnable i s = s.enableStream i := by
  simp only [stkEnable, ha, hr, Bool.false_eq_true, ↓reduceIte]

theorem State.enableStream_inOrder {s : State} {i : Nat} (hp : s.poolBad i = false) :
    s.enableStream i
      = (((s.put (CMP_STK_CFG_ENABLE i) 1).put (CMP_STK_STATE_ERR i) 0).put (CMP_STK_STATE_GEN_VALID i) 0).setStream i
          (fun st => { st with active := true }) := by
  rw [State.enableStream, hp, if_neg Bool.false_ne_true]

theorem State.enableStream_badPool {s : State} {i : Nat} (hp : s.poolBad i = true) :
    s.enableStream i = ((s.put (CMP_STK_CFG_ENABLE i) 1).put (CMP_STK_STATE_ERR i) 6).raise 288 0 := by
  rw [State.enableStream, if_pos hp, State.stkRefuse]

/-! ## A write of 0 to ENABLE (R85, R89) -/

/-- The stream counts as disabled, with no generation open or waiting, and its buffers are to return. -/
def State.disabled (s : State) (i : Nat) : State :=
  ((s.put (CMP_STK_CFG_ENABLE i) 0).put (CMP_STK_STATE_GEN_VALID i) 0).setStream i
    (fun st => { st with active := false, returning := true, rx := none, rxHeld := [] })

theorem stkDisable_inactive {s : State} {i : Nat} (ha : (s.stream i).active = false) : stkDisable i s = s.put (CMP_STK_CFG_ENABLE i) 0 := by
  simp only [stkDisable, ha, Bool.not_false, ↓reduceIte]

theorem stkDisable_active {s : State} {i : Nat} (ha : (s.stream i).active = true) :
    stkDisable i s = if s.on CMP_FRAME_STATUS_ACTIVE then s.disabled i else (s.disabled i).returnBuffers i := by
  simp only [stkDisable, ha, Bool.not_true, Bool.false_eq_true, ↓reduceIte, State.disabled]

/-! ## The return of the buffers (R89) -/

/-- The three buffers of a stream freed, in their order. -/
def State.allFreed (s : State) (i : Nat) : State := ((s.freeBuf i 0).freeBuf i 1).freeBuf i 2

/-- The stream after its return: its buffers FREE, BUSY and CHG_FULL clear, and the rest as at reset. -/
def State.returned (s : State) (i : Nat) : State :=
  (((s.allFreed i).put (CMP_STK_STATE_BUSY i) 0).put (CMP_STK_STATE_CHG_FULL i) 0).setStream i (fun _ => .reset)

theorem State.returnBuffers_eq (s : State) (i : Nat) :
    s.returnBuffers i = if (s.returned i).on (CMP_STK_CFG_ENABLE i) then (s.returned i).enableStream i else s.returned i := rfl

theorem State.allFreed_bufState {b : Nat} (hb : b < 3) (s : State) (i : Nat) : (s.allFreed i).bufState i b = 0 := by
  rw [State.allFreed, State.bufState_freeBuf (by decide), State.bufState_freeBuf (by decide), State.bufState_freeBuf (by decide)]
  split_ifs with h2 h1 h0
  · rfl
  · rfl
  · rfl
  · omega

/-- The return writes CMP_STK_STATE alone. -/
theorem State.returned_get_off (s : State) {i : Nat} {g : Fld} (hg : g.off ≠ CMP_STK_STATE i) : (s.returned i).get g = s.get g := by
  have hfree (t : State) (b : Nat) : (t.freeBuf i b).get g = t.get g := by
    rw [State.freeBuf_get, State.setBuf, State.get_put_off _ _ _ _ hg]
  rw [State.returned, State.setStream_get, State.get_put_off _ _ _ _ hg, State.get_put_off _ _ _ _ hg, State.allFreed, hfree, hfree, hfree]

theorem State.returned_bufState {b : Nat} (hb : b < 3) (s : State) (i : Nat) : (s.returned i).bufState i b = 0 := by
  rw [State.returned, State.setStream_bufState, State.bufState_put (f := CMP_STK_STATE_CHG_FULL i) (by simp) le_rfl (by simp) hb,
    State.bufState_put (f := CMP_STK_STATE_BUSY i) (by simp) le_rfl (by simp) hb, State.allFreed_bufState hb]

theorem State.returned_busy (s : State) (i : Nat) : (s.returned i).on (CMP_STK_STATE_BUSY i) = false := by
  rw [State.returned, State.setStream_on, State.on_put_disjoint _ (CMP_STK_STATE_CHG_FULL i) (CMP_STK_STATE_BUSY i) 0 le_rfl (by simp) (by simp),
    State.on_put_zero _ (CMP_STK_STATE_BUSY i) le_rfl (by simp)]

theorem State.returned_chgFull (s : State) (i : Nat) : (s.returned i).on (CMP_STK_STATE_CHG_FULL i) = false := by
  rw [State.returned, State.setStream_on, State.on_put_zero _ (CMP_STK_STATE_CHG_FULL i) le_rfl (by simp)]

theorem State.returned_stream {s : State} {i : Nat} (hi : i < s.streams.length) : (s.returned i).stream i = .reset := by
  have hlen : i < (s.allFreed i).streams.length := by
    simpa only [State.allFreed, State.freeBuf_length] using hi
  exact State.stream_setStream_same (s := ((s.allFreed i).put (CMP_STK_STATE_BUSY i) 0).put (CMP_STK_STATE_CHG_FULL i) 0) hlen _

theorem State.returnBuffers_disabled {s : State} {i : Nat} (he : s.on (CMP_STK_CFG_ENABLE i) = false) : s.returnBuffers i = s.returned i := by
  have hoff : (s.returned i).on (CMP_STK_CFG_ENABLE i) = false := by
    rw [State.on, State.returned_get_off s (by simp), ← State.on, he]
  rw [State.returnBuffers_eq, hoff, if_neg Bool.false_ne_true]

/-! ## The statement -/

/-- Settles O19, clause by clause: a write of 1, a write of 0, and the return of the buffers. -/
theorem stackEnableDisable : Obligations.StackEnableDisable := by
  refine ⟨?inOrder, ?badPool, ?returning, ?again, ?inFrame, ?betweenFrames, ?inactive, ?returned⟩
  case inOrder =>
    intro s i hr ha hret hp
    rw [answers_iff, exec_stkEnable, State.runHost_reaches hr, stkEnable_afresh ha hret, State.enableStream_inOrder hp]
  case badPool =>
    intro s i hr ha hret hp
    rw [answers_iff, exec_stkEnable, State.runHost_reaches hr, stkEnable_afresh ha hret, State.enableStream_badPool hp]
  case returning =>
    intro s i hr ha hret
    rw [answers_iff, exec_stkEnable, State.runHost_reaches hr, stkEnable_returning ha hret]
  case again =>
    intro s i hr ha
    rw [answers_iff, exec_stkEnable, State.runHost_reaches hr, stkEnable_active ha]
  case inFrame =>
    intro s i hr ha hf
    rw [answers_iff, exec_stkDisable, State.runHost_reaches hr, stkDisable_active ha, if_pos hf, State.disabled]
  case betweenFrames =>
    intro s i hr ha hf
    rw [answers_iff, exec_stkDisable, State.runHost_reaches hr, stkDisable_active ha, hf, if_neg Bool.false_ne_true, State.disabled]
  case inactive =>
    intro s i hr ha
    rw [answers_iff, exec_stkDisable, State.runHost_reaches hr, stkDisable_inactive ha]
  case returned =>
    intro s i hi he
    rw [State.returnBuffers_disabled he]
    exact ⟨fun b hb => State.returned_bufState hb s i, State.returned_busy s i, State.returned_chgFull s i, State.returned_stream hi⟩

end Sys2Proof.Machine
end

section
/-!
PROOF. The datagrams of the tile transport (R83, R85 to R87).
-/

namespace Sys2Proof.Machine

/-! ## Datagrams that fail the header checks, and those that wait (R72, R83, R86) -/

theorem ttBegin_bad {s : State} {dg : List Byte} {i : Option Nat} (h : s.ttCheck 1 dg = .error i) : ttBegin dg s = s.badDatagram i := by
  rw [ttBegin, h]

theorem ttTile_bad {s : State} {dg : List Byte} {i : Option Nat} (h : s.ttCheck 2 dg = .error i) : ttTile dg s = s.badDatagram i := by
  rw [ttTile, h]

theorem ttRemove_bad {s : State} {dg : List Byte} {i : Option Nat} (h : s.ttCheck 3 dg = .error i) : ttRemove dg s = s.badDatagram i := by
  rw [ttRemove, h]

theorem ttEnd_bad {s : State} {dg : List Byte} {i : Option Nat} (h : s.ttCheck 4 dg = .error i) : ttEnd dg s = s.badDatagram i := by
  rw [ttEnd, h]

theorem State.ttWaits_marking {s : State} {i b : Nat} (hm : (s.stream i).marking = some b) : s.ttWaits i = true := by
  rw [State.ttWaits, hm, Option.isSome_some]

theorem State.ttWaits_none {s : State} {i : Nat} (hm : (s.stream i).marking = none) : s.ttWaits i = false := by
  rw [State.ttWaits, hm, Option.isSome_none]

theorem ttBegin_waits {s : State} {dg : List Byte} {i : Nat} (h : s.ttCheck 1 dg = .ok i) (hw : s.ttWaits i = true) :
    ttBegin dg s = s.holdDatagram i dg := by
  simp only [ttBegin, h, hw, ↓reduceIte]

theorem ttTile_waits {s : State} {dg : List Byte} {i : Nat} (h : s.ttCheck 2 dg = .ok i) (hw : s.ttWaits i = true) :
    ttTile dg s = s.holdDatagram i dg := by
  simp only [ttTile, h, hw, ↓reduceIte]

theorem ttRemove_waits {s : State} {dg : List Byte} {i : Nat} (h : s.ttCheck 3 dg = .ok i) (hw : s.ttWaits i = true) :
    ttRemove dg s = s.holdDatagram i dg := by
  simp only [ttRemove, h, hw, ↓reduceIte]

theorem ttEnd_waits {s : State} {dg : List Byte} {i : Nat} (h : s.ttCheck 4 dg = .ok i) (hw : s.ttWaits i = true) :
    ttEnd dg s = s.holdDatagram i dg := by
  simp only [ttEnd, h, hw, ↓reduceIte]

/-! ## BEGIN (R85) -/

theorem ttBegin_repeated {s : State} {dg : List Byte} {i : Nat} {g : RxGen} (h : s.ttCheck 1 dg = .ok i) (hm : (s.stream i).marking = none)
    (hx : (s.stream i).rx = some g) (hg : g.gen = leAt dg 8 4) : ttBegin dg s = s := by
  simp only [ttBegin, h, State.ttWaits_none hm, hx, hg, beq_self_eq_true, Bool.false_eq_true, ↓reduceIte]

theorem State.incompleteGen_none {s : State} {i : Nat} (hx : (s.stream i).rx = none) : s.incompleteGen i = s := by
  rw [State.incompleteGen, hx]

/-- The generation that a BEGIN names may build on what the stream has: it is FULL, or a delta on the last generation, which is
valid, with none incomplete since. -/
def State.mayOpen (s : State) (i : Nat) (dg : List Byte) : Bool :=
  bitAt (byteAt dg 5) 0
    || (s.on (CMP_STK_STATE_GEN_VALID i) && !(s.stream i).needFull && leAt dg 0x10 4 == s.rdN (CMP_STK_GEN i))

/-- A BEGIN is refused exactly where it may not open a generation. -/
theorem State.not_mayOpen (s : State) (i : Nat) (dg : List Byte) :
    (!bitAt (byteAt dg 5) 0 && !(s.on (CMP_STK_STATE_GEN_VALID i) && !(s.stream i).needFull && leAt dg 0x10 4 == s.rdN (CMP_STK_GEN i)))
      = !s.mayOpen i dg := (Bool.not_or _ _).symm

theorem ttBegin_opens {s : State} {dg : List Byte} {i b : Nat} (h : s.ttCheck 1 dg = .ok i) (hm : (s.stream i).marking = none)
    (hx : (s.stream i).rx = none) (h1 : 1 ≤ byteAt dg 0x14) (h64 : byteAt dg 0x14 ≤ 64) (hmay : s.mayOpen i dg = true)
    (hb : s.acquirable i = some b) : ttBegin dg s = s.openGen i b (leAt dg 8 4) dg := by
  have hn : ¬(byteAt dg 0x14 = 0 ∨ 64 < byteAt dg 0x14) := by omega
  simp only [ttBegin, h, State.ttWaits_none hm, hx, hn, State.incompleteGen_none hx, State.not_mayOpen, hmay, hb, Bool.not_true,
    Bool.false_eq_true, ↓reduceIte]

theorem ttBegin_refused {s : State} {dg : List Byte} {i : Nat} (h : s.ttCheck 1 dg = .ok i) (hm : (s.stream i).marking = none)
    (hx : (s.stream i).rx = none) (h1 : 1 ≤ byteAt dg 0x14) (h64 : byteAt dg 0x14 ≤ 64) (hmay : s.mayOpen i dg = false) :
    ttBegin dg s = s.badDatagram (some i) := by
  have hn : ¬(byteAt dg 0x14 = 0 ∨ 64 < byteAt dg 0x14) := by omega
  simp only [ttBegin, h, State.ttWaits_none hm, hx, hn, State.incompleteGen_none hx, State.not_mayOpen, hmay, Bool.not_false,
    Bool.false_eq_true, ↓reduceIte]

/-! ## TILE (R85) -/

/-- The record of the tile that a TILE or REMOVE names. -/
abbrev RxGen.tileOf (g : RxGen) (dg : List Byte) : RxTile := g.tile (byteAt dg 0x10) (byteAt dg 0x11) (byteAt dg 0x12)

theorem ttTile_inRange {s : State} {dg : List Byte} {i : Nat} {g : RxGen} (h : s.ttCheck 2 dg = .ok i) (hm : (s.stream i).marking = none)
    (hx : (s.stream i).rx = some g) (hg : g.gen = leAt dg 8 4) (hin : s.ttInRange g dg = true)
    (hf : byteAt dg 0x13 < if s.on (CMP_STK_CFG_FRAG i) then 1 else 4) :
    ttTile dg s = if bitAt (g.tileOf dg).frags (byteAt dg 0x13) then s else s.placeFragment i g (g.tileOf dg) dg := by
  simp only [ttTile, h, State.ttWaits_none hm, hx, hg, hin, Nat.not_le.mpr hf, ne_eq, not_true_eq_false, Bool.true_eq_false, or_self,
    Bool.false_eq_true, ↓reduceIte]

/-! ## REMOVE (R85): the bitmaps are written, and the streams and engines stay -/

theorem State.memWriteWord_keeps (s : State) (c a : Nat) (bs : List Byte) :
    (s.memWriteWord c a bs).streams = s.streams ∧ (s.memWriteWord c a bs).engines = s.engines := by
  unfold State.memWriteWord
  split
  · exact ⟨rfl, rfl⟩
  · dsimp only
    split <;> exact ⟨rfl, rfl⟩

theorem State.memWrite_keeps (s : State) (c a : Nat) (bs : List Byte) :
    (s.memWrite c a bs).streams = s.streams ∧ (s.memWrite c a bs).engines = s.engines := by
  have hwords := foldl_keeps (P := fun t => t.streams = s.streams ∧ t.engines = s.engines)
    (fun st (w : Nat × Nat × Nat) => st.memWriteWord c w.2.1 (slice bs (w.2.1 - a) w.2.2))
    (fun t w ⟨hstreams, hengines⟩ =>
      have ⟨hs, he⟩ := t.memWriteWord_keeps c w.2.1 (slice bs (w.2.1 - a) w.2.2)
      ⟨hs.trans hstreams, he.trans hengines⟩)
    (wordSpans a bs.length) s ⟨rfl, rfl⟩
  unfold State.memWrite
  dsimp only
  split <;> exact hwords

theorem State.putBitmap_keeps (s : State) (a c : Nat) (v : Bool) :
    (s.putBitmap a c v).streams = s.streams ∧ (s.putBitmap a c v).engines = s.engines := State.memWrite_keeps s 8 _ _

/-- Without its END a generation is not complete. -/
theorem State.checkGen_open {s : State} {i : Nat} {g : RxGen} (hx : (s.stream i).rx = some g) (hl : g.last = none) : s.checkGen i = s := by
  simp only [State.checkGen, hx, hl]

/-- The generation once a REMOVE of the tile has been noted. -/
def RxGen.removed (g : RxGen) (dg : List Byte) : RxGen :=
  { g.setTile { g.tileOf dg with remove := some (leAt dg 0x0C 4) } with count := g.count + 1 }

/-- The state once a REMOVE of a tile without fragments is noted: its occupancy cleared, its change bit set. -/
def State.tileRemoved (s : State) (i : Nat) (g : RxGen) (dg : List Byte) : State :=
  let a := s.slotAddr (g.planes.getD (g.tileOf dg).plane (0, 0, 0)).2.2
  ((s.setStream i (fun st => { st with rx := some (g.removed dg) })).putBitmap (a + 16 * (g.tileOf dg).row) (g.tileOf dg).col false).putBitmap
    (a + 832 + 16 * (g.tileOf dg).row) (g.tileOf dg).col true

theorem ttRemove_unreached {s : State} {dg : List Byte} {i : Nat} {g : RxGen} (h : s.ttCheck 3 dg = .ok i) (hm : (s.stream i).marking = none)
    (hx : (s.stream i).rx = some g) (hg : g.gen = leAt dg 8 4) (hin : s.ttInRange g dg = true) (hr : (g.tileOf dg).remove = none)
    (hf : (g.tileOf dg).frags = 0) : ttRemove dg s = (s.tileRemoved i g dg).checkGen i := by
  have hdone : ((g.tileOf dg).frags == if s.on (CMP_STK_CFG_FRAG i) then 1 else 15) = false := by
    rw [hf]
    split <;> rfl
  simp only [ttRemove, h, State.ttWaits_none hm, hx, hg, hin, hr, hdone, ne_eq, not_true_eq_false, Bool.true_eq_false, or_self,
    Option.isSome_none, Bool.false_and, Bool.false_eq_true, ↓reduceIte, State.tileRemoved, RxGen.removed]

theorem State.tileRemoved_streams (s : State) (i : Nat) (g : RxGen) (dg : List Byte) :
    (s.tileRemoved i g dg).streams = (s.setStream i (fun st => { st with rx := some (g.removed dg) })).streams :=
  (State.putBitmap_keeps _ _ _ _).1.trans (State.putBitmap_keeps _ _ _ _).1

theorem State.tileRemoved_engines (s : State) (i : Nat) (g : RxGen) (dg : List Byte) : (s.tileRemoved i g dg).engines = s.engines :=
  (State.putBitmap_keeps _ _ _ _).2.trans (State.putBitmap_keeps _ _ _ _).2

theorem State.tileRemoved_rx {s : State} {i : Nat} (hi : i < s.streams.length) (g : RxGen) (dg : List Byte) :
    ((s.tileRemoved i g dg).stream i).rx = some (g.removed dg) := by
  rw [State.stream, State.tileRemoved_streams, ← State.stream, State.stream_setStream_same hi]

/-! ## END, and the window after it (R85, R87) -/

theorem ttEnd_current {s : State} {dg : List Byte} {i : Nat} {g : RxGen} (h : s.ttCheck 4 dg = .ok i) (hm : (s.stream i).marking = none)
    (hx : (s.stream i).rx = some g) (hg : g.gen = leAt dg 8 4) :
    ttEnd dg s = if g.last.isSome then s
      else (s.setStream i (fun st => { st with rx := some { g with
        last := some (leAt dg 0x10 4, leAt dg 0x14 4, leAt dg 0x18 6), endAt := s.now, count := g.count + 1 } })).checkGen i := by
  simp only [ttEnd, h, State.ttWaits_none hm, hx, hg, ne_eq, not_true_eq_false, Bool.false_eq_true, ↓reduceIte]

theorem State.incompleteGen_open {s : State} {i : Nat} {g : RxGen} (hx : (s.stream i).rx = some g) :
    s.incompleteGen i = (((s.dropGen i).count (CMP_STK_RX_ERR i)).raise 292 0).setStream i (fun st => { st with needFull := true }) := by
  rw [State.incompleteGen, hx]

theorem remoteTimeout_ended {s : State} {i : Nat} {g : RxGen} (hx : (s.stream i).rx = some g) (hl : g.last ≠ none)
    (hw : g.endAt + s.remoteHalfNs < s.now + s.tickHalfNs) : remoteTimeout i s = s.incompleteGen i := by
  simp only [remoteTimeout, hx, Option.isSome_iff_ne_none.mpr hl, hw, and_self, ↓reduceIte]

theorem State.dropGen_open {s : State} {i : Nat} {g : RxGen} (hx : (s.stream i).rx = some g) :
    s.dropGen i = (s.freeBuf i g.buf).setStream i (fun st => { st with rx := none }) := by
  rw [State.dropGen, hx]

/-- An abandoned generation is open no longer and its buffer is FREE. -/
theorem State.dropGen_frees {s : State} {i : Nat} {g : RxGen} (hi : i < s.streams.length) (hx : (s.stream i).rx = some g) :
    ((s.dropGen i).stream i).rx = none ∧ (g.buf < 3 → (s.dropGen i).bufState i g.buf = 0) := by
  rw [State.dropGen_open hx, State.stream_setStream_same (by rwa [State.freeBuf_length]), State.setStream_bufState]
  exact ⟨rfl, fun hb => by rw [State.bufState_freeBuf hb, if_pos rfl]⟩

/-! ## The statement -/

/-- Settles O21, clause by clause: what waits, the four datagrams, those that are bad, and the end of the window. -/
theorem tileTransport : Obligations.TileTransport := by
  refine ⟨?waits, ?full, ?delta, ?repeated, ?refused, ?tile, ?remove, ?last, ?bad, fun s i => rfl, ?timeout, fun s i g => State.dropGen_frees⟩
  case waits =>
    intro s dg i b hcore hm
    have hw := State.ttWaits_marking hm
    refine ⟨fun h => ?_, fun h => ?_, fun h => ?_, fun h => ?_⟩
    · rw [answers_iff, exec_ttBegin, State.runCore_on hcore, ttBegin_waits h hw, State.holdDatagram]
    · rw [answers_iff, exec_ttTile, State.runCore_on hcore, ttTile_waits h hw, State.holdDatagram]
    · rw [answers_iff, exec_ttRemove, State.runCore_on hcore, ttRemove_waits h hw, State.holdDatagram]
    · rw [answers_iff, exec_ttEnd, State.runCore_on hcore, ttEnd_waits h hw, State.holdDatagram]
  case full =>
    intro s dg i b hcore h hm h1 h64 hx hfull hb
    have hmay : s.mayOpen i dg = true := by rw [State.mayOpen, hfull, Bool.true_or]
    rw [answers_iff, exec_ttBegin, State.runCore_on hcore, ttBegin_opens h hm hx h1 h64 hmay hb]
  case delta =>
    intro s dg i b hcore h hm h1 h64 hx _ hvalid hneed hbase hb
    have hmay : s.mayOpen i dg = true := by simp [State.mayOpen, hvalid, hneed, hbase]
    rw [answers_iff, exec_ttBegin, State.runCore_on hcore, ttBegin_opens h hm hx h1 h64 hmay hb]
  case repeated =>
    intro s dg i g hcore h hm hx hg
    rw [answers_iff, exec_ttBegin, State.runCore_on hcore, ttBegin_repeated h hm hx hg]
  case refused =>
    intro s dg i hcore h hm h1 h64 hx hdelta hno
    have hmay : s.mayOpen i dg = false := by
      rcases hno with hvalid | hneed
      · simp [State.mayOpen, hdelta, hvalid]
      · simp [State.mayOpen, hdelta, hneed]
    rw [answers_iff, exec_ttBegin, State.runCore_on hcore, ttBegin_refused h hm hx h1 h64 hmay]
  case tile =>
    intro s dg i g hcore h hm hx hg hin hf
    rw [answers_iff, exec_ttTile, State.runCore_on hcore, ttTile_inRange h hm hx hg hin hf]
  case remove =>
    intro s dg i g hcore hi h hm hx hg hin hr hl hf
    have hrx := s.tileRemoved_rx hi g dg
    refine ⟨s.keepQueue (s.tileRemoved i g dg), ?_, hrx, s.tileRemoved_engines i g dg⟩
    rw [exec_ttRemove, State.runCore_on hcore, ttRemove_unreached h hm hx hg hin hr hf, State.checkGen_open hrx hl]
  case last =>
    intro s dg i g hcore h hm hx hg
    rw [answers_iff, exec_ttEnd, State.runCore_on hcore, ttEnd_current h hm hx hg]
  case bad =>
    intro s dg i hcore
    refine ⟨fun h => ?_, fun h => ?_, fun h => ?_, fun h => ?_⟩
    · rw [answers_iff, exec_ttBegin, State.runCore_on hcore, ttBegin_bad h]
    · rw [answers_iff, exec_ttTile, State.runCore_on hcore, ttTile_bad h]
    · rw [answers_iff, exec_ttRemove, State.runCore_on hcore, ttRemove_bad h]
    · rw [answers_iff, exec_ttEnd, State.runCore_on hcore, ttEnd_bad h]
  case timeout =>
    intro s i g hcore hx hl hw
    rw [answers_iff, exec_remoteTimeout, State.runCore_on hcore, remoteTimeout_ended hx hl hw, State.incompleteGen_open hx]

end Sys2Proof.Machine
end

section
/-!
PROOF. What each ALU operation computes (R113).
-/

namespace Sys2Proof.Machine

/-! ## Words as integers -/

/-- The low word of a longer bit vector is its integer taken modulo 2^32. -/
theorem setWidth_eq_ofInt {w : Nat} (hw : 32 ≤ w) (x : BitVec w) : x.setWidth 32 = BitVec.ofInt 32 x.toInt := by
  apply BitVec.eq_of_toInt_eq
  rw [BitVec.toInt_ofInt, BitVec.toInt_setWidth, BitVec.toInt_eq_toNat_bmod, Int.bmod_bmod_of_dvd]
  exact_mod_cast Nat.pow_dvd_pow 2 hw

/-- An arithmetic shift of a longer bit vector, cut to a word. -/
theorem setWidth_sshiftRight {w : Nat} (hw : 32 ≤ w) (x : BitVec w) (n : Nat) :
    (x.sshiftRight n).setWidth 32 = BitVec.ofInt 32 (x.toInt / 2 ^ n) := by
  rw [setWidth_eq_ofInt hw, BitVec.toInt_sshiftRight, Int.shiftRight_eq_div_pow]
  norm_cast

/-- A sum that stays below half the range of its width is the sum of the integers. -/
theorem toInt_add_ofNat {w : Nat} (x : BitVec w) (n : Nat) (hx : (x.toInt + n) * 2 < 2 ^ w) :
    (x + BitVec.ofNat w n).toInt = x.toInt + n := by
  have hlow : -2 ^ w ≤ 2 * x.toInt := BitVec.le_two_mul_toInt
  rw [BitVec.toInt_add, BitVec.toInt_ofNat', Int.add_bmod_bmod]
  exact Int.bmod_eq_of_le_mul_two (by push_cast; omega) (by push_cast; omega)

/-- Rounding to nearest is a half added before an arithmetic shift. -/
theorem ofInt_roundShift {w n : Nat} (hw : 32 ≤ w) (hn : n ≠ 0) (x : BitVec w) (hx : (x.toInt + (2 ^ (n - 1) : Nat)) * 2 < 2 ^ w) :
    BitVec.ofInt 32 (roundShift x.toInt n) = ((x + BitVec.ofNat w (2 ^ (n - 1))).sshiftRight n).setWidth 32 := by
  rw [setWidth_sshiftRight hw, toInt_add_ofNat x _ hx, roundShift, if_neg hn]
  norm_cast

theorem word_toInt_bounds (a : Word) : -2147483648 ≤ a.toInt ∧ a.toInt ≤ 2147483647 := by
  have h1 := a.le_toInt
  have h2 := a.toInt_lt
  omega

/-- The product of two words fits in a width of 64 or more. -/
theorem toInt_mul_signExtend {w : Nat} (hw : 64 ≤ w) (a b : Word) : (a.signExtend w * b.signExtend w).toInt = a.toInt * b.toInt := by
  have hp : (2 : Int) ^ 64 ≤ 2 ^ w := pow_le_pow_right₀ (by decide) hw
  obtain ⟨ha1, ha2⟩ := word_toInt_bounds a
  obtain ⟨hb1, hb2⟩ := word_toInt_bounds b
  rw [BitVec.toInt_mul, BitVec.toInt_signExtend_of_le (by omega), BitVec.toInt_signExtend_of_le (by omega)]
  exact Int.bmod_eq_of_le_mul_two (by push_cast; nlinarith) (by push_cast; nlinarith)

/-- The word from bit 32 on is the quotient by 2^32. -/
theorem ofInt_high_word (x : BitVec 64) : BitVec.ofInt 32 (x.toInt / 2 ^ 32) = (x >>> 32).setWidth 32 := by
  rw [← setWidth_sshiftRight (by decide)]
  ext i hi
  simp [BitVec.getLsbD_sshiftRight, show 32 + i < 64 by omega, show ¬64 ≤ i by omega]

/-! ## The results, operation by operation -/

theorem aluOp_sra (fn : Nat) (p : Bool) (a b : Word) : aluOp 0x0A fn p a b = a.sshiftRight (b.toNat % 32) := by
  rw [BitVec.sshiftRight_eq, Int.shiftRight_eq_div_pow]
  exact congrArg (BitVec.ofInt 32 <| a.toInt / ·) (by norm_cast)

theorem aluOp_srar_zero (fn : Nat) (p : Bool) {a b : Word} (h : b.toNat % 32 = 0) : aluOp 0x0B fn p a b = a := by
  simp only [aluOp, roundShift, h, ↓reduceIte, BitVec.ofInt_toInt]

theorem aluOp_srar (fn : Nat) (p : Bool) {a b : Word} (h : b.toNat % 32 ≠ 0) :
    aluOp 0x0B fn p a b = ((a.signExtend 33 + BitVec.ofNat 33 (2 ^ (b.toNat % 32 - 1))).sshiftRight (b.toNat % 32)).setWidth 32 := by
  have hint : (a.signExtend 33).toInt = a.toInt := BitVec.toInt_signExtend_of_le (by decide)
  have hpow : 2 ^ (b.toNat % 32 - 1) ≤ 2 ^ 30 := Nat.pow_le_pow_right (by decide) (by omega)
  obtain ⟨_, ha⟩ := word_toInt_bounds a
  rw [← ofInt_roundShift (by decide) h _ (by rw [hint]; omega), hint]
  rfl

theorem aluOp_mulsr_shift {fn : Nat} (p : Bool) (a b : Word) (h1 : 1 ≤ fn) (h63 : fn ≤ 63) :
    aluOp 0x18 fn p a b = ((a.signExtend 65 * b.signExtend 65 + BitVec.ofNat 65 (2 ^ (fn - 1))).sshiftRight fn).setWidth 32 := by
  have hint := toInt_mul_signExtend (w := 65) (by decide) a b
  have hpow : 2 ^ (fn - 1) ≤ 2 ^ 62 := Nat.pow_le_pow_right (by decide) (by omega)
  obtain ⟨ha1, ha2⟩ := word_toInt_bounds a
  obtain ⟨hb1, hb2⟩ := word_toInt_bounds b
  have hab : a.toInt * b.toInt ≤ 2 ^ 62 := by nlinarith
  rw [← ofInt_roundShift (by decide) (by omega) _ (by rw [hint]; omega), hint]
  rfl

theorem aluOp_abs (fn : Nat) (p : Bool) (a b : Word) : (aluOp 0x16 fn p a b).toNat = a.toInt.natAbs := by
  show (if a.toInt < 0 then -a else a).toNat = a.toInt.natAbs
  have hint := BitVec.toInt_eq_toNat_cond a
  split <;> split at hint <;> bv_omega

theorem clz32_zero {a : Word} (h : a = 0) : clz32 a = 32 := if_pos (by rw [h]; rfl)

theorem log2_word_lt {a : Word} (h : a ≠ 0) : a.toNat.log2 < 32 :=
  (Nat.log2_lt (BitVec.toNat_ne.mp h)).mpr a.isLt

theorem clz32_of_ne_zero {a : Word} (h : a ≠ 0) : clz32 a = 31 - a.toNat.log2 := if_neg (BitVec.toNat_ne.mp h)

theorem clz32_lt (a : Word) : clz32 a < 33 := by
  unfold clz32
  split <;> omega

theorem toNat_aluOp_clz (fn : Nat) (p : Bool) (a b : Word) : (aluOp 0x17 fn p a b).toNat = clz32 a := by
  have h := clz32_lt a
  show (BitVec.ofNat 32 (clz32 a)).toNat = clz32 a
  rw [BitVec.toNat_ofNat, Nat.mod_eq_of_lt (by omega)]

/-- The bit after the leading zeros is the highest one. -/
theorem clz32_bounds {a : Word} (h : a ≠ 0) : 2 ^ (31 - clz32 a) ≤ a.toNat ∧ a.toNat < 2 ^ (32 - clz32 a) := by
  have hlt := log2_word_lt h
  rw [clz32_of_ne_zero h, show 31 - (31 - a.toNat.log2) = a.toNat.log2 by omega, show 32 - (31 - a.toNat.log2) = a.toNat.log2 + 1 by omega]
  exact ⟨Nat.log2_self_le (BitVec.toNat_ne.mp h), Nat.lt_log2_self⟩

theorem ofBool32_eq_ite (c : Prop) [Decidable c] : ofBool32 (decide c) = if c then 1 else 0 := by
  by_cases h : c <;> simp [ofBool32, h]

/-- Settles O23, group by group of the operations. -/
theorem aluResults : Obligations.AluResults := by
  refine ⟨?sums, ?highs, ?bits, ?shifts, fun fn p a b => aluOp_srar_zero fn p, fun fn p a b => aluOp_srar fn p, ?extrema, ?limits,
    ?compares, ?counts, ?rounded⟩
  case sums =>
    intro fn p a b
    refine ⟨BitVec.toNat_add a b, (BitVec.toNat_sub a b).trans ?_, BitVec.toNat_mul a b⟩
    congr 1
    omega
  case highs =>
    intro fn p a b
    refine ⟨?_, ?_⟩
    · rw [← ofInt_high_word, toInt_mul_signExtend (by decide)]
      rfl
    · have hprod : a.toNat * b.toNat < 2 ^ 64 := by nlinarith [a.isLt, b.isLt]
      apply BitVec.eq_of_toNat_eq
      simp only [aluOp, BitVec.toNat_ofNat, BitVec.toNat_setWidth, BitVec.toNat_ushiftRight, BitVec.toNat_mul, ← Nat.mul_mod,
        Nat.mod_eq_of_lt hprod, Nat.shiftRight_eq_div_pow]
  case bits =>
    intro fn p a b i _
    exact ⟨BitVec.getLsbD_and, BitVec.getLsbD_or, BitVec.getLsbD_xor⟩
  case shifts =>
    intro fn p a b
    refine ⟨?_, ?_, aluOp_sra fn p a b⟩
    · rw [← Nat.shiftLeft_eq]
      exact BitVec.toNat_shiftLeft
    · rw [← Nat.shiftRight_eq_div_pow]
      exact BitVec.toNat_ushiftRight a _
  case extrema =>
    intro fn p a b
    refine ⟨?_, ?_, ?_, ?_⟩ <;> simp only [aluOp] <;> split <;> omega
  case limits =>
    intro fn p a b
    refine ⟨fun h => if_pos h, fun h0 h => ?_, fun h0 h => ?_, rfl, rfl⟩
    · exact (if_neg (by omega)).trans (if_pos h)
    · exact (if_neg (by omega)).trans (if_neg (by omega))
  case compares =>
    intro fn p a b
    exact ⟨ofBool32_eq_ite (a = b), ofBool32_eq_ite _, ofBool32_eq_ite _, ofBool32_eq_ite _⟩
  case counts =>
    intro fn p a b
    rw [toNat_aluOp_clz]
    exact ⟨aluOp_abs fn p a b, clz32_zero, clz32_bounds⟩
  case rounded =>
    intro fn p a b
    refine ⟨?_, aluOp_mulsr_shift p a b⟩
    show BitVec.ofInt 32 (a.toInt * b.toInt) = a * b
    rw [BitVec.ofInt_mul, BitVec.ofInt_toInt, BitVec.ofInt_toInt]

end Sys2Proof.Machine
end

section
/-!
PROOF. The registers of an engine (R93), and where an ALU instruction takes its operands and puts its result (R113).
-/

namespace Sys2Proof.Machine

/-! ## Reads after writes -/

theorem Engine.getSx_setSx_same {e : Engine} {r : Nat} (hr : r ≠ 0) (hlen : r < e.sx.length) (v : Word) : (e.setSx r v).getSx r = v := by
  simp [Engine.getSx, Engine.setSx, hr, hlen]

theorem Engine.getSx_setSx_ne {r q : Nat} (h : q ≠ r) (e : Engine) (v : Word) : (e.setSx r v).getSx q = e.getSx q := by
  unfold Engine.setSx
  split
  · rfl
  · simp [Engine.getSx, List.getElem?_set_ne h.symm]

@[simp] theorem Engine.setSx_zero (e : Engine) (v : Word) : e.setSx 0 v = e := rfl

theorem Engine.setSx_keeps (e : Engine) (r : Nat) (v : Word) :
    (e.setSx r v).vx = e.vx ∧ (e.setSx r v).pm = e.pm ∧ (e.setSx r v).ls = e.ls := by
  unfold Engine.setSx
  split <;> exact ⟨rfl, rfl, rfl⟩

theorem Engine.getVx_setVx_same {e : Engine} {r i : Nat} (hlen : r < e.vx.length) (hi : i < 16) (mask : Nat) (v : Nat → Word) :
    (e.setVx r mask v).getVx r i = if bitAt mask i then v i else e.getVx r i := by
  have hset : (e.setVx r mask v).vx.getD r [] = (List.range 16).map (fun i => if bitAt mask i then v i else e.getVx r i) := by
    simp [Engine.setVx, hlen]
  rw [Engine.getVx, hset]
  simp [hi]

theorem Engine.getVx_setVx_ne {r q : Nat} (h : q ≠ r) (e : Engine) (mask i : Nat) (v : Nat → Word) :
    (e.setVx r mask v).getVx q i = e.getVx q i := by
  simp [Engine.getVx, Engine.setVx, List.getElem?_set_ne h.symm]

theorem Engine.getPm_setPm_same {e : Engine} {r : Nat} (hr : r ≠ 0) (hlen : r < e.pm.length) (v : Nat) :
    (e.setPm r v).getPm r = v % 65536 := by
  simp [Engine.getPm, Engine.setPm, hr, hlen]

theorem Engine.getPm_setPm_ne {r q : Nat} (h : q ≠ r) (e : Engine) (v : Nat) : (e.setPm r v).getPm q = e.getPm q := by
  unfold Engine.setPm
  split
  · rfl
  · simp [Engine.getPm, List.getElem?_set_ne h.symm]

theorem Engine.setPm_keeps (e : Engine) (r v : Nat) :
    (e.setPm r v).sx = e.sx ∧ (e.setPm r v).vx = e.vx ∧ (e.setPm r v).ls = e.ls := by
  unfold Engine.setPm
  split <;> exact ⟨rfl, rfl, rfl⟩

/-! ## Fields of an instruction word (R111) -/

theorem iDst_lt (w : Nat) : iDst w < 32 := Nat.mod_lt _ (by decide)

/-- An immediate is the two's-complement number of its low bits. -/
theorem ofInt_signedOf {n : Nat} (hn : 0 < n) (w : Nat) : BitVec.ofInt 32 (signedOf n (w % 2 ^ n)) = BitVec.signExtend 32 (BitVec.ofNat n w) := by
  have hpow : 2 ^ n = 2 * 2 ^ (n - 1) := by rw [← Nat.pow_succ', Nat.succ_eq_add_one, Nat.sub_add_cancel hn]
  rw [BitVec.signExtend, BitVec.toInt_eq_toNat_cond, BitVec.toNat_ofNat, signedOf, Nat.mod_mod]
  congr 1
  split <;> split <;> omega

/-! ## Masks of lanes -/

/-- The number whose bits below `n` are given by `p`. -/
def maskOf (p : Nat → Bool) (n : Nat) : Nat := (List.range n).foldl (fun m i => m + bit (p i) * 2 ^ i) 0

theorem maskOf_succ (p : Nat → Bool) (n : Nat) : maskOf p (n + 1) = maskOf p n + bit (p n) * 2 ^ n := by
  rw [maskOf, List.range_succ, List.foldl_append]
  rfl

theorem maskOf_lt (p : Nat → Bool) (n : Nat) : maskOf p n < 2 ^ n := by
  induction n with
  | zero => exact Nat.one_pos
  | succ n ih =>
    rw [maskOf_succ, Nat.pow_succ]
    cases p n <;> simp only [bit, Bool.false_eq_true, ↓reduceIte] <;> omega

theorem bitAt_maskOf (p : Nat → Bool) {n i : Nat} (hi : i < n) : bitAt (maskOf p n) i = p i := by
  induction n with
  | zero => omega
  | succ n ih =>
    rw [bitAt_eq_testBit, maskOf_succ, Nat.add_comm, Nat.mul_comm, Nat.testBit_two_pow_mul_add _ (maskOf_lt p n)]
    by_cases h : i < n
    · rw [if_pos h, ← bitAt_eq_testBit, ih h]
    · obtain rfl : i = n := by omega
      rw [if_neg h, Nat.sub_self]
      cases p i <;> rfl

/-- A mask written to a predicate register, read back lane by lane. -/
theorem Engine.bitAt_getPm_setPm {e : Engine} {r i : Nat} (hr : r ≠ 0) (hlen : r < e.pm.length) (p : Nat → Bool) (hi : i < 16) :
    bitAt ((e.setPm r (maskOf p 16)).getPm r) i = p i := by
  rw [Engine.getPm_setPm_same hr hlen, Nat.mod_eq_of_lt (show maskOf p 16 < 65536 from maskOf_lt p 16), bitAt_maskOf p hi]

/-! ## The forms of an ALU instruction -/

/-- What an ALU instruction computes in lane `i` of its vector forms. -/
def Engine.aluLane (e : Engine) (w i : Nat) : Word :=
  aluOp (iOpc w % 32) (iFn w) (bitAt (e.getPm (iFn w % 8)) i) (e.getVx (iSa w) i) (if iOpc w / 32 = 2 then e.getVx (iSb w) i else e.getSx (iSb w))

/-- The bit that a vector compare leaves in lane `i` of pm DST. -/
def Engine.aluBit (e : Engine) (w i : Nat) : Bool :=
  if bitAt (e.getPm (iPm w)) i then e.aluLane w i == 1 else bitAt (e.getPm (iDst w)) i

theorem Engine.alu_scalar {w : Nat} (h : iOpc w / 32 = 0) (e : Engine) :
    e.alu w = e.setSx (iDst w) (aluOp (iOpc w % 32) (iFn w) (e.getSx (iFn w % 32) != 0) (e.getSx (iSa w)) (e.getSx (iSb w))) := by
  rw [Engine.alu, h]
  rfl

theorem Engine.alu_immediate {w : Nat} (h : iOpc w / 32 = 1) (e : Engine) :
    e.alu w = e.setSx (iDst w) (aluOp (iOpc w % 32) 0 false (e.getSx (iSa w)) (BitVec.signExtend 32 (BitVec.ofNat 11 w))) := by
  rw [Engine.alu, h, ← ofInt_signedOf (by decide)]
  rfl

theorem Engine.alu_vector {w : Nat} (h : 2 ≤ iOpc w / 32) (hk : ¬(0x12 ≤ iOpc w % 32 ∧ iOpc w % 32 ≤ 0x15)) (e : Engine) :
    e.alu w = e.setVx (iDst w) (e.getPm (iPm w)) (e.aluLane w) := by
  unfold Engine.alu
  split
  · omega
  · omega
  · exact if_neg hk

/-- A compare answers 0 or 1. -/
theorem aluOp_compare {k : Nat} (h1 : 0x12 ≤ k) (h2 : k ≤ 0x15) (fn : Nat) (p : Bool) (a b : Word) :
    (aluOp k fn p a b).toNat % 2 = bit (aluOp k fn p a b == 1) := by
  have h01 : ∀ c : Bool, (ofBool32 c).toNat % 2 = bit (ofBool32 c == 1) := by decide
  interval_cases k <;> exact h01 _

theorem Engine.alu_compare {w : Nat} (h : 2 ≤ iOpc w / 32) (h1 : 0x12 ≤ iOpc w % 32) (h2 : iOpc w % 32 ≤ 0x15) (e : Engine) :
    e.alu w = e.setPm (iDst w) (maskOf (e.aluBit w) 16) := by
  have hbit : ∀ i, (if bitAt (e.getPm (iPm w)) i then (e.aluLane w i).toNat % 2 else bit (bitAt (e.getPm (iDst w)) i)) = bit (e.aluBit w i) := by
    intro i
    unfold Engine.aluBit
    split
    · exact aluOp_compare h1 h2 _ _ _ _
    · rfl
  simp only [maskOf, ← hbit]
  unfold Engine.alu
  split
  · omega
  · omega
  · exact if_pos ⟨h1, h2⟩

/-- Settles O24, form by form. -/
theorem aluForms : Obligations.AluForms := by
  refine ⟨?scalar, ?immediate, ?nothing, ?vector, ?compare⟩
  case scalar =>
    intro e w hlen h hd
    rw [Engine.alu_scalar h]
    exact ⟨Engine.getSx_setSx_same hd (by rw [hlen]; exact iDst_lt w) _, fun r hr => Engine.getSx_setSx_ne hr e _, Engine.setSx_keeps e _ _⟩
  case immediate =>
    intro e w hlen h hd
    rw [Engine.alu_immediate h]
    exact ⟨Engine.getSx_setSx_same hd (by rw [hlen]; exact iDst_lt w) _, fun r hr => Engine.getSx_setSx_ne hr e _, Engine.setSx_keeps e _ _⟩
  case nothing =>
    intro e w h hd
    rcases Nat.le_one_iff_eq_zero_or_eq_one.mp h with h | h
    · rw [Engine.alu_scalar h, hd, Engine.setSx_zero]
    · rw [Engine.alu_immediate h, hd, Engine.setSx_zero]
  case vector =>
    intro e w hlen h hk
    rw [Engine.alu_vector h hk]
    exact ⟨fun i hi => Engine.getVx_setVx_same (by rw [hlen]; exact iDst_lt w) hi _ _, fun r i hr => Engine.getVx_setVx_ne hr e _ i _,
      rfl, rfl, rfl⟩
  case compare =>
    intro e w hlen h h1 h2 hd hd8
    rw [Engine.alu_compare h h1 h2]
    exact ⟨fun i hi => Engine.bitAt_getPm_setPm (by omega) (by omega) _ hi, fun r hr => Engine.getPm_setPm_ne hr e _, Engine.setPm_keeps e _ _⟩

end Sys2Proof.Machine
end

section
/-!
PROOF. The end of an engine's instruction as the answer of its command (R111, R112), and the local store (R96, R98).
-/

namespace Sys2Proof.Machine

/-! ## From the fetched word to the answer -/

theorem answers_runCore {c : Instr} {s t : State} {f : State → State} (hc : exec c s = .next (s.runCore f)) (hcore : s.coreOn = true)
    (ht : f s = t) : answers c s t := by
  rw [answers_iff, hc, State.runCore_on hcore, ht]

theorem instrOf_data : ∀ k ∈ dataOpcodes, instrOf k = some k ∧ 0x80 ≤ k := by decide

/-- An instruction of classes 0b10 and 0b11 answers what its body leaves. -/
theorem answers_dataRow {c : Instr} {s t : State} {g w k : Nat} {body : State → Nat → EngEnd} (hf : s.fetches g w)
    (hl : dataLegal (s.engBuilds g) w = true) (ho : iOpc w = k) (hc : exec c s = .next (s.runCore (fun u => u.engRow g .clean k body)))
    (ht : (body s w).settle s g = t) (hk : k ∈ dataOpcodes := by decide) : answers c s t := by
  obtain ⟨hk, h8⟩ := instrOf_data k hk
  exact answers_runCore hc (State.fetches_coreOn hf) ((State.engRow_data hf ho hk h8 hl body).trans ht)

/-! ## Access to the local store -/

theorem Engine.lsGate_open {e : Engine} {a n : Nat} (ha : a % n = 0) (hr : a + n ≤ lsSize) (hb : e.lsBusy a n = false) (go : EngEnd) :
    e.lsGate a n go = go := by
  rw [Engine.lsGate, if_neg (by omega), hb]
  rfl

theorem Engine.lsGate_bad {a n : Nat} (h : a % n ≠ 0 ∨ lsSize < a + n) (e : Engine) (go : EngEnd) :
    e.lsGate a n go = .fault fcLsRange (some a) := if_pos h

theorem Engine.lsGate_busy {e : Engine} {a n : Nat} (ha : a % n = 0) (hr : a + n ≤ lsSize) (hb : e.lsBusy a n = true) (go : EngEnd) :
    e.lsGate a n go = .wait := by
  rw [Engine.lsGate, if_neg (by omega), hb]
  rfl

theorem Engine.laneGate_open {e : Engine} {w : Nat}
    (h : ∀ i ∈ lanesOf (e.getPm (iPm w)), e.laneAddr w i % 4 = 0 ∧ e.laneAddr w i + 4 ≤ lsSize ∧ e.lsBusy (e.laneAddr w i) 4 = false)
    (go : EngEnd) : e.laneGate w go = go := by
  have hfind : ((lanesOf (e.getPm (iPm w))).map (e.laneAddr w)).find? (fun a => decide (a % 4 ≠ 0 ∨ lsSize < a + 4)) = none := by
    simp only [List.find?_eq_none, List.mem_map, forall_exists_index, and_imp, forall_apply_eq_imp_iff₂, decide_eq_true_eq]
    intro i hi
    obtain ⟨ha, hr, -⟩ := h i hi
    omega
  have hany : ((lanesOf (e.getPm (iPm w))).map (e.laneAddr w)).any (fun a => e.lsBusy a 4) = false := by
    simp only [List.any_eq_false, List.mem_map, forall_exists_index, and_imp, forall_apply_eq_imp_iff₂, Bool.not_eq_true]
    intro i hi
    obtain ⟨-, -, hb⟩ := h i hi
    exact hb
  simp only [Engine.laneGate, hfind, hany, Bool.false_eq_true, ↓reduceIte]

theorem Engine.laneGate_bad {e : Engine} {w a : Nat}
    (h : ((lanesOf (e.getPm (iPm w))).map (e.laneAddr w)).find? (fun a => decide (a % 4 ≠ 0 ∨ lsSize < a + 4)) = some a) (go : EngEnd) :
    e.laneGate w go = .fault fcLsRange (some a) := by
  simp only [Engine.laneGate, h]

/-! ## Bytes of the local store -/

@[simp] theorem Engine.lsRead_length (e : Engine) (a n : Nat) : (e.lsRead a n).length = n := by
  simp [Engine.lsRead]

theorem Engine.getElem_lsRead (e : Engine) (a n i : Nat) (h : i < (e.lsRead a n).length) : (e.lsRead a n)[i] = memByte e.ls (a + i) := by
  simp [Engine.lsRead, memByte]

theorem Engine.lsRead_lsWrite_same (e : Engine) (a : Nat) (bs : List Byte) : (e.lsWrite a bs).lsRead a bs.length = bs := by
  refine List.ext_getElem (by simp) (fun i h1 h2 => ?_)
  rw [Engine.getElem_lsRead, Engine.lsWrite, memByte_memPutAll, if_pos (by omega), Nat.add_sub_cancel_left]
  exact List.getD_eq_getElem bs 0 h2

theorem Engine.lsRead_lsWrite_out {a b n : Nat} {bs : List Byte} (h : b + n ≤ a ∨ a + bs.length ≤ b) (e : Engine) :
    (e.lsWrite a bs).lsRead b n = e.lsRead b n := by
  refine List.ext_getElem (by simp) (fun i h1 h2 => ?_)
  rw [Engine.lsRead_length] at h1
  rw [Engine.getElem_lsRead, Engine.getElem_lsRead, Engine.lsWrite, memByte_memPutAll, if_neg (by omega)]

@[simp] theorem length_leBytes (n v : Nat) : (leBytes n v).length = n := by
  induction n generalizing v with
  | zero => rfl
  | succ n ih => simp [leBytes, ih]

theorem leNat_leBytes (n v : Nat) : leNat (leBytes n v) = v % 256 ^ n := by
  induction n generalizing v with
  | zero => simp [leBytes, leNat, Nat.mod_one]
  | succ n ih =>
    rw [leBytes, leNat, ih, BitVec.toNat_ofNat, show 256 ^ (n + 1) = 256 * 256 ^ n from Nat.pow_succ', Nat.mod_mul]

/-- A word stored and loaded again. -/
theorem Engine.lsNat_lsWrite_word (e : Engine) (a : Nat) (v : Word) : (e.lsWrite a (leBytes 4 v.toNat)).lsNat a 4 = v.toNat := by
  have hread := e.lsRead_lsWrite_same a (leBytes 4 v.toNat)
  rw [length_leBytes] at hread
  rw [Engine.lsNat, hread, leNat_leBytes]
  exact Nat.mod_eq_of_lt v.isLt

/-! ## The instructions -/

/-- The words of LDX and STX have no unused field. -/
theorem dataLegal_lanes {w : Nat} (h : iOpc w = 0x94 ∨ iOpc w = 0x95) (build : Bool) : dataLegal build w = true := by
  rcases h with h | h <;> rw [dataLegal, h] <;> rfl

/-- Settles O26, clause by clause. -/
theorem localStoreAccesses : Obligations.LocalStoreAccesses := by
  refine ⟨?complete, ?lanes, ?bad, ?badLane, ?waits, ?same, fun e a b n bs h => Engine.lsRead_lsWrite_out h e, ?word,
    fun e a bs h => wf_memPutAll a bs h⟩
  case complete =>
    intro s g w hf hl
    refine ⟨fun ho ha hr hb => ?_, fun ho ha hr hb => ?_, fun ho ha hr hb => ?_, fun ho ha hr hb => ?_⟩
    · exact answers_dataRow hf hl ho (exec_lds ..) (congrArg (·.settle s g) (Engine.lsGate_open ha hr hb _))
    · exact answers_dataRow hf hl ho (exec_sts ..) (congrArg (·.settle s g) (Engine.lsGate_open ha hr hb _))
    · exact answers_dataRow hf hl ho (exec_ldv ..) (congrArg (·.settle s g) (Engine.lsGate_open ha hr hb _))
    · exact answers_dataRow hf hl ho (exec_stv ..) (congrArg (·.settle s g) (Engine.lsGate_open ha hr hb _))
  case lanes =>
    intro s g w hf h
    have hgate := Engine.laneGate_open h
    refine ⟨fun ho => ?_, fun ho => ?_⟩
    · exact answers_dataRow hf (dataLegal_lanes (.inl ho) _) ho (exec_ldx ..) (congrArg (·.settle s g) (hgate _))
    · exact answers_dataRow hf (dataLegal_lanes (.inr ho) _) ho (exec_stx ..) (congrArg (·.settle s g) (hgate _))
  case bad =>
    intro s g w a hf hl
    refine ⟨?_, ?_, ?_, ?_⟩ <;> rintro ho rfl h
    · exact answers_dataRow hf hl ho (exec_lds ..) (congrArg (·.settle s g) (Engine.lsGate_bad h _ _))
    · exact answers_dataRow hf hl ho (exec_sts ..) (congrArg (·.settle s g) (Engine.lsGate_bad h _ _))
    · exact answers_dataRow hf hl ho (exec_ldv ..) (congrArg (·.settle s g) (Engine.lsGate_bad h _ _))
    · exact answers_dataRow hf hl ho (exec_stv ..) (congrArg (·.settle s g) (Engine.lsGate_bad h _ _))
  case badLane =>
    intro s g w a hf h
    have hgate := Engine.laneGate_bad h
    refine ⟨fun ho => ?_, fun ho => ?_⟩
    · exact answers_dataRow hf (dataLegal_lanes (.inl ho) _) ho (exec_ldx ..) (congrArg (·.settle s g) (hgate _))
    · exact answers_dataRow hf (dataLegal_lanes (.inr ho) _) ho (exec_stx ..) (congrArg (·.settle s g) (hgate _))
  case waits =>
    intro s g w a hf hl
    refine ⟨?_, ?_, ?_, ?_⟩ <;> rintro ho rfl ha hr hb
    · exact answers_dataRow hf hl ho (exec_lds ..) (congrArg (·.settle s g) (Engine.lsGate_busy ha hr hb _))
    · exact answers_dataRow hf hl ho (exec_sts ..) (congrArg (·.settle s g) (Engine.lsGate_busy ha hr hb _))
    · exact answers_dataRow hf hl ho (exec_ldv ..) (congrArg (·.settle s g) (Engine.lsGate_busy ha hr hb _))
    · exact answers_dataRow hf hl ho (exec_stv ..) (congrArg (·.settle s g) (Engine.lsGate_busy ha hr hb _))
  case same =>
    rintro e a n bs rfl
    exact e.lsRead_lsWrite_same a bs
  case word =>
    intro e a v
    rw [Engine.lsNat_lsWrite_word, BitVec.ofNat_toNat, BitVec.setWidth_eq]

end Sys2Proof.Machine
end

section
/-!
PROOF. The state of an engine in its registers (R110, R122), its fault record (R119, R121), and the stop by a fault (R124).
-/

namespace Sys2Proof.Machine

/-! ## A bit of a register -/

theorem State.bitAt_putBit_same (s : State) (o : Nat) {i : Nat} (hi : i < 32) (b : Bool) : bitAt ((s.putBit o i b).rdN o) i = b := by
  rw [State.rdN, State.putBit, State.rd_put, if_pos rfl, bitAt_eq_testBit, Fld.ins_testBit _ _ _ _ (le_refl i) hi,
    if_pos ⟨le_refl i, le_refl i⟩, Nat.sub_self]
  cases b <;> rfl

theorem State.rdN_putBit_off (s : State) {o p : Nat} (h : p ≠ o) (i : Nat) (b : Bool) : (s.putBit o i b).rdN p = s.rdN p :=
  State.rdN_put_off s h _

theorem State.get_putBit_off (s : State) {o : Nat} {f : Fld} (h : f.off ≠ o) (i : Nat) (b : Bool) : (s.putBit o i b).get f = s.get f :=
  State.get_put_off s _ f _ h

/-! ## The state of an engine -/

/-- The register at `o` shows the state of no engine. -/
def NoEngState (o : Nat) : Prop := ∀ k, o ≠ CH_ENG_STATE (k / 32) (k % 32)

theorem State.engState_wrN (s : State) {o : Nat} (h : NoEngState o) (v k : Nat) : (s.wrN o v).engState k = s.engState k :=
  State.get_wrN_off s o v _ (h k).symm

theorem State.engState_count (s : State) {o : Nat} (h : NoEngState o) (k : Nat) : (s.count o).engState k = s.engState k :=
  s.engState_wrN h _ k

theorem State.engState_putBit (s : State) {o : Nat} (h : NoEngState o) (i : Nat) (b : Bool) (k : Nat) :
    (s.putBit o i b).engState k = s.engState k :=
  State.get_putBit_off s (h k).symm i b

/-- The channel registers below the engine blocks. -/
theorem noEngState_channel {c d : Nat} (h : d < 0x1000) : NoEngState (0x800000 + d + 0x400000 * c) := by
  intro k
  simp only [CH_ENG_STATE]
  omega

theorem noEngState_idle (c : Nat) : NoEngState (CH_ENG_IDLE c) := noEngState_channel (d := 0x18) (by decide)
theorem noEngState_faulted (c : Nat) : NoEngState (CH_ENG_FAULTED c) := noEngState_channel (d := 0x1C) (by decide)
theorem noEngState_offline (c : Nat) : NoEngState (CH_ENG_OFFLINE c) := noEngState_channel (d := 0x20) (by decide)

/-- Of the registers that an engine's entry into a state writes, CH_ENG_STATE alone shows a state. -/
theorem State.engState_setEngState (s : State) (g st k : Nat) :
    (s.setEngState g st).engState k = (s.put (CH_ENG_STATE_STATE (g / 32) (g % 32)) st).engState k := by
  rw [State.setEngState, State.engState_putBit _ (noEngState_offline _), State.engState_putBit _ (noEngState_faulted _),
    State.engState_putBit _ (noEngState_idle _)]

theorem State.setEngState_engState_same (s : State) (g : Nat) {st : Nat} (h : st < 8) : (s.setEngState g st).engState g = st := by
  rw [State.engState_setEngState, State.engState, State.get_put_same _ _ _ (by simp) (by simp)]
  exact Nat.mod_eq_of_lt h

theorem State.setEngState_engState_ne (s : State) {g k : Nat} (hg : g < 128) (hk : k < 128) (h : k ≠ g) (st : Nat) :
    (s.setEngState g st).engState k = s.engState k := by
  have hoff : CH_ENG_STATE (k / 32) (k % 32) ≠ CH_ENG_STATE (g / 32) (g % 32) := by
    simp only [CH_ENG_STATE]
    omega
  rw [State.engState_setEngState]
  exact State.get_put_off s _ _ st hoff

/-- The masks of the channel show the state. -/
theorem State.setEngState_masks (s : State) (g st : Nat) :
    bitAt ((s.setEngState g st).rdN (CH_ENG_IDLE (g / 32))) (g % 32) = (st == 1)
      ∧ bitAt ((s.setEngState g st).rdN (CH_ENG_FAULTED (g / 32))) (g % 32) = decide (3 ≤ st ∧ st ≤ 5)
      ∧ bitAt ((s.setEngState g st).rdN (CH_ENG_OFFLINE (g / 32))) (g % 32) = (st == 0) := by
  have hbit : g % 32 < 32 := Nat.mod_lt _ (by decide)
  refine ⟨?_, ?_, State.bitAt_putBit_same _ _ hbit _⟩
  · rw [State.setEngState, State.rdN_putBit_off _ (by simp), State.rdN_putBit_off _ (by simp), State.bitAt_putBit_same _ _ hbit]
  · rw [State.setEngState, State.rdN_putBit_off _ (by simp), State.bitAt_putBit_same _ _ hbit]

/-! ## The fault record -/

/-- The fault counter of the channel is no register of an engine's fault record. -/
theorem faultCnt_ne (c e : Nat) : CH_FAULT_CNT c ≠ CH_ENG_FAULT c e ∧ CH_FAULT_CNT c ≠ CH_ENG_FAULT_PC c e
    ∧ CH_FAULT_CNT c ≠ CH_ENG_FAULT_ADDR c e ∧ CH_FAULT_CNT c ≠ CH_ENG_FAULT_WI c e := by
  simp only [ne_eq, CH_FAULT_CNT, CH_ENG_FAULT, CH_ENG_FAULT_PC, CH_ENG_FAULT_ADDR, CH_ENG_FAULT_WI]
  omega

/-- The record without its address and OVERRUN: code, VALID, and the address of the instruction. -/
def State.faultNoted (s : State) (g code pc : Nat) : State :=
  ((s.put (CH_ENG_FAULT_CODE (g / 32) (g % 32)) code).put (CH_ENG_FAULT_VALID (g / 32) (g % 32)) 1).wrN (CH_ENG_FAULT_PC (g / 32) (g % 32)) pc

/-- The record without its address: over a record still VALID it also sets OVERRUN. -/
def State.faultMarked (s : State) (g code pc : Nat) : State :=
  if s.on (CH_ENG_FAULT_VALID (g / 32) (g % 32)) then (s.faultNoted g code pc).put (CH_ENG_FAULT_OVERRUN (g / 32) (g % 32)) 1
  else s.faultNoted g code pc

theorem State.faultRecord_some (s : State) (g code pc a : Nat) :
    s.faultRecord g code pc (some a) = (((s.faultMarked g code pc).wrN (CH_ENG_FAULT_ADDR (g / 32) (g % 32)) (a % 2 ^ 32)).wrN
      (CH_ENG_FAULT_WI (g / 32) (g % 32)) ((s.eng g).word 1)).count (CH_FAULT_CNT (g / 32)) := rfl

theorem State.faultNoted_fields (s : State) (g : Nat) {code : Nat} (hcode : code < 256) (pc : Nat) :
    (s.faultNoted g code pc).get (CH_ENG_FAULT_CODE (g / 32) (g % 32)) = code
      ∧ (s.faultNoted g code pc).get (CH_ENG_FAULT_VALID (g / 32) (g % 32)) = 1 := by
  have hpc : CH_ENG_FAULT (g / 32) (g % 32) ≠ CH_ENG_FAULT_PC (g / 32) (g % 32) := by simp
  constructor
  · rw [State.faultNoted, State.get_wrN_off _ _ _ _ hpc, State.get_put_disjoint _ _ _ _ (by simp) (by simp) (by simp),
      State.get_put_same _ _ _ (by simp) (by simp)]
    exact Nat.mod_eq_of_lt hcode
  · rw [State.faultNoted, State.get_wrN_off _ _ _ _ hpc, State.get_put_same _ _ _ (by simp) (by simp)]
    rfl

/-- The fields of CH_ENG_FAULT after the marking. -/
theorem State.faultMarked_fields (s : State) (g : Nat) {code : Nat} (hcode : code < 256) (pc : Nat) :
    (s.faultMarked g code pc).get (CH_ENG_FAULT_CODE (g / 32) (g % 32)) = code
      ∧ (s.faultMarked g code pc).get (CH_ENG_FAULT_VALID (g / 32) (g % 32)) = 1
      ∧ (s.on (CH_ENG_FAULT_VALID (g / 32) (g % 32)) = true → (s.faultMarked g code pc).get (CH_ENG_FAULT_OVERRUN (g / 32) (g % 32)) = 1) := by
  obtain ⟨hnotedCode, hnotedValid⟩ := s.faultNoted_fields g hcode pc
  unfold State.faultMarked
  refine ⟨?_, ?_, fun h => ?_⟩
  · split
    · rw [State.get_put_disjoint _ _ _ _ (by simp) (by simp) (by simp), hnotedCode]
    · exact hnotedCode
  · split
    · rw [State.get_put_disjoint _ _ _ _ (by simp) (by simp) (by simp), hnotedValid]
    · exact hnotedValid
  · rw [if_pos h, State.get_put_same _ _ _ (by simp) (by simp)]
    rfl

/-- The registers after the marking, outside CH_ENG_FAULT. -/
theorem State.faultMarked_rdN (s : State) (g code pc : Nat) {o : Nat} (h : o ≠ CH_ENG_FAULT (g / 32) (g % 32)) :
    (s.faultMarked g code pc).rdN o = if o = CH_ENG_FAULT_PC (g / 32) (g % 32) then pc % 2 ^ 32 else s.rdN o := by
  unfold State.faultMarked State.faultNoted
  split
  · rw [State.rdN_put_off _ h, State.rdN_wrN, State.rdN_put_off _ h, State.rdN_put_off _ h]
  · rw [State.rdN_wrN, State.rdN_put_off _ h, State.rdN_put_off _ h]

theorem State.faultRecord_get (s : State) (g code pc a : Nat) {f : Fld} (h : f.off = CH_ENG_FAULT (g / 32) (g % 32)) :
    (s.faultRecord g code pc (some a)).get f = (s.faultMarked g code pc).get f := by
  obtain ⟨hcnt, -⟩ := faultCnt_ne (g / 32) (g % 32)
  rw [State.faultRecord_some, State.get_count_off _ (by rw [h]; exact hcnt.symm), State.get_wrN_off _ _ _ _ (by simp [h]),
    State.get_wrN_off _ _ _ _ (by simp [h])]

/-- What the fault record and the fault counter show. -/
theorem State.faultRecord_rdN (s : State) (g code : Nat) {pc a : Nat} (hpc : pc < 2 ^ 32) (ha : a < 2 ^ 32) :
    (s.faultRecord g code pc (some a)).rdN (CH_ENG_FAULT_PC (g / 32) (g % 32)) = pc
      ∧ (s.faultRecord g code pc (some a)).rdN (CH_ENG_FAULT_ADDR (g / 32) (g % 32)) = a
      ∧ (s.faultRecord g code pc (some a)).rdN (CH_ENG_FAULT_WI (g / 32) (g % 32)) = (s.eng g).word 1
      ∧ (s.faultRecord g code pc (some a)).rdN (CH_FAULT_CNT (g / 32)) = min (s.rdN (CH_FAULT_CNT (g / 32)) + 1) 0xFFFFFFFF := by
  have hword : (s.eng g).word 1 < 2 ^ 32 := BitVec.isLt _
  obtain ⟨hcnt, hcntPc, hcntAddr, hcntWi⟩ := faultCnt_ne (g / 32) (g % 32)
  simp [State.faultRecord_some, State.rdN_count, State.faultMarked_rdN, hcnt, hcntPc, hcntAddr, hcntWi, hcntPc.symm, hcntAddr.symm,
    hcntWi.symm]
  omega

/-- The record is written in registers alone. -/
theorem State.faultRecord_keeps (s : State) (g code pc : Nat) (a : Option Nat) :
    (s.faultRecord g code pc a).engines = s.engines ∧ (s.faultRecord g code pc a).pwr = s.pwr := by
  unfold State.faultRecord
  dsimp only
  split <;> split <;> exact ⟨rfl, rfl⟩

/-! ## The stop by a fault -/

/-- `t` has the engines and the gates of `s`. -/
def State.SameEngines (s t : State) : Prop := t.engines = s.engines ∧ t.pwr = s.pwr

theorem State.SameEngines.trans {s t u : State} (h : s.SameEngines t) (k : t.SameEngines u) : s.SameEngines u :=
  ⟨k.1.trans h.1, k.2.trans h.2⟩

theorem foldl_sameEngines {α : Type} {f : State → α → State} (h : ∀ t a, State.SameEngines t (f t a)) (l : List α) (s : State) :
    s.SameEngines (l.foldl f s) :=
  foldl_keeps (P := s.SameEngines) f (fun t a ht => ht.trans (h t a)) l s ⟨rfl, rfl⟩

theorem State.memWriteWord_sameEngines (s : State) (c a : Nat) (bs : List Byte) : s.SameEngines (s.memWriteWord c a bs) := by
  unfold State.memWriteWord
  split
  · exact ⟨rfl, rfl⟩
  · dsimp only
    split <;> exact ⟨rfl, rfl⟩

theorem State.memWrite_sameEngines (s : State) (c a : Nat) (bs : List Byte) : s.SameEngines (s.memWrite c a bs) := by
  have hwords := foldl_sameEngines (fun (t : State) (w : Nat × Nat × Nat) => t.memWriteWord_sameEngines c w.2.1 (slice bs (w.2.1 - a) w.2.2))
    (wordSpans a bs.length) s
  unfold State.memWrite
  dsimp only
  split <;> exact hwords

theorem State.markChgFull_sameEngines (s : State) (q : Nat) : s.SameEngines (s.markChgFull q) :=
  foldl_sameEngines (fun t i => by split <;> exact ⟨rfl, rfl⟩) (List.range 8) s

theorem State.leaseFault_sameEngines (s : State) (wr a : Nat) (landed : Bool) (d : Nat) : s.SameEngines (s.leaseFault wr a landed d) :=
  ⟨rfl, rfl⟩

theorem State.dmaWrite_sameEngines (s : State) (c wr a : Nat) (bs : List Byte) (d : Nat) : s.SameEngines (s.dmaWrite c wr a bs d).1 := by
  unfold State.dmaWrite
  dsimp only
  split
  · exact s.memWrite_sameEngines c a bs
  · split
    · exact (foldl_sameEngines (fun (t : State) (w : Nat × Nat × Nat) => t.memWrite_sameEngines c w.2.1 (slice bs (w.2.1 - a) w.2.2)) _ s).trans
        (State.leaseFault_sameEngines _ _ _ _ _)
    · refine ((s.memWrite_sameEngines c a bs).trans (State.leaseFault_sameEngines _ _ _ _ _)).trans (foldl_sameEngines (fun t w => ?_) _ _)
      split
      · exact t.markChgFull_sameEngines _
      · exact ⟨rfl, rfl⟩

/-- A transfer changes at most its engine's local store: the engines stay in number, and the gates as they are. -/
theorem State.dmaCarry_keeps (s : State) (g : Nat) (x : Xfer) :
    (s.dmaCarry g x).1.engines.length = s.engines.length ∧ (s.dmaCarry g x).1.pwr = s.pwr := by
  unfold State.dmaCarry
  split
  · obtain ⟨heng, hpwr⟩ := s.dmaWrite_sameEngines (g / 32) writerBuild x.dev ((s.eng g).lsRead x.ls x.len) 0
    exact ⟨congrArg List.length heng, hpwr⟩
  · split
    · exact ⟨rfl, rfl⟩
    · exact ⟨List.length_modify _ _ _, rfl⟩

/-- One transfer let end, with the first one that met poison noted. -/
def State.drainTag (g : Nat) (acc : State × Option Xfer) (tag : Option Xfer) : State × Option Xfer :=
  match tag with
  | none => acc
  | some x => ((acc.1.dmaCarry g x).1, if acc.2.isNone && (acc.1.dmaCarry g x).2 then some x else acc.2)

theorem State.foldl_drainTag_keeps (g : Nat) (tags : List (Option Xfer)) (acc : State × Option Xfer) :
    (tags.foldl (State.drainTag g) acc).1.engines.length = acc.1.engines.length ∧ (tags.foldl (State.drainTag g) acc).1.pwr = acc.1.pwr := by
  induction tags generalizing acc with
  | nil => exact ⟨rfl, rfl⟩
  | cons tag rest ih =>
    obtain ⟨hlen, hpwr⟩ := ih (State.drainTag g acc tag)
    cases tag with
    | none => exact ⟨hlen, hpwr⟩
    | some x =>
      obtain ⟨hcarryLen, hcarryPwr⟩ := acc.1.dmaCarry_keeps g x
      exact ⟨hlen.trans hcarryLen, hpwr.trans hcarryPwr⟩

theorem State.dmaDrain_fst_eq (s : State) (g : Nat) :
    (s.dmaDrain g).1 = ((s.eng g).tags.foldl (State.drainTag g) (s, none)).1.setEng g (fun e => { e with tags := List.replicate 8 none }) := by
  rfl

theorem State.eng_setEng_same {s : State} {g : Nat} (h : g < s.engines.length) (f : Engine → Engine) : (s.setEng g f).eng g = f (s.eng g) := by
  simp [State.eng, State.setEng, List.getD_eq_getElem?_getD, h]

/-- Without a gate that waits to close, no gate closes. -/
theorem State.closeGate_open {s : State} {c : Nat} (h : bitAt s.pwr.gateClosing c = false) : s.closeGate c = s := by
  rw [State.closeGate, h]
  rfl

/-- What a fault that stops an engine leaves of it, while its channel's gate stays open. -/
def State.stopped (s : State) (g code pc : Nat) (a : Option Nat) : State :=
  let s1 := ((s.dmaDrain g).1.faultRecord g code pc a).setEngState g esFault
  let s2 := if code = fcLsUncorr then s1.count (CH_LS_UNCORR_CNT (g / 32)) else s1
  (s2.setEng g (fun e => { e with item := none, valid := false })).chanEvent g (if code = fcLsUncorr ∨ code = fcDmPoison then 1 else 0)

theorem State.stopFaulted_eq (s : State) (g code pc : Nat) (a : Option Nat) :
    s.stopFaulted g code pc a = (s.stopped g code pc a).closeGate (g / 32) := rfl

theorem noEngState_lsUncorr (c : Nat) : NoEngState (CH_LS_UNCORR_CNT c) := noEngState_channel (d := 0x2C) (by decide)

theorem State.stopped_engState (s : State) (g code pc : Nat) (a : Option Nat) : (s.stopped g code pc a).engState g = 3 := by
  have hstate := ((s.dmaDrain g).1.faultRecord g code pc a).setEngState_engState_same g (st := 3) (by decide)
  show State.engState (if code = fcLsUncorr then _ else _) g = 3
  split
  · rw [State.engState_count _ (noEngState_lsUncorr _), hstate]
  · exact hstate

theorem State.stopped_pwr (s : State) (g code pc : Nat) (a : Option Nat) : (s.stopped g code pc a).pwr = s.pwr := by
  have hdrain := (State.foldl_drainTag_keeps g (s.eng g).tags (s, none)).2
  have hrec := ((s.dmaDrain g).1.faultRecord_keeps g code pc a).2
  show State.pwr (if code = fcLsUncorr then _ else _) = s.pwr
  split <;> exact hrec.trans hdrain

theorem State.stopped_eng {s : State} {g : Nat} (hg : g < s.engines.length) (code pc : Nat) (a : Option Nat) :
    ∃ e : Engine, (s.stopped g code pc a).eng g = { e with item := none, valid := false, tags := List.replicate 8 none } := by
  have hfold : g < ((s.eng g).tags.foldl (State.drainTag g) (s, none)).1.engines.length := by
    rw [(State.foldl_drainTag_keeps g (s.eng g).tags (s, none)).1]
    exact hg
  have hdrain : g < (s.dmaDrain g).1.engines.length := by
    rw [State.dmaDrain_fst_eq, State.setEng, List.length_modify]
    exact hfold
  have hrec := ((s.dmaDrain g).1.faultRecord_keeps g code pc a).1
  have hstop : (s.stopped g code pc a).engines = ((s.dmaDrain g).1.setEng g (fun e => { e with item := none, valid := false })).engines := by
    show (State.engines (if code = fcLsUncorr then _ else _)).modify g _ = _
    split <;> exact congrArg (List.modify · g _) hrec
  refine ⟨((s.eng g).tags.foldl (State.drainTag g) (s, none)).1.eng g, ?_⟩
  rw [State.eng, hstop, ← State.eng, State.eng_setEng_same hdrain, State.dmaDrain_fst_eq, State.eng_setEng_same hfold]

/-- Settles O32: the record, the state and its masks, and the engine that stops. -/
theorem engineFaultRecord : Obligations.EngineFaultRecord := by
  refine ⟨?record, ?state, ?stop⟩
  case record =>
    intro s g code pc a _ hcode hpc ha
    obtain ⟨hc, hv, ho⟩ := s.faultMarked_fields g hcode pc
    refine ⟨?_, ?_, fun h => ?_, s.faultRecord_rdN g code hpc ha⟩
    · rw [State.faultRecord_get _ _ _ _ _ rfl, hc]
    · rw [State.on, State.faultRecord_get _ _ _ _ _ rfl, hv]
      rfl
    · rw [State.on, State.faultRecord_get _ _ _ _ _ rfl, ho h]
      rfl
  case state =>
    intro s g st hg hst
    obtain ⟨hidle, hfaulted, hoffline⟩ := s.setEngState_masks g st
    exact ⟨s.setEngState_engState_same g hst, hidle, hfaulted, hoffline, fun k hk h => s.setEngState_engState_ne hg hk h st⟩
  case stop =>
    intro s g code pc a _ hlen hgate
    obtain ⟨e, he⟩ := State.stopped_eng hlen code pc a
    rw [State.stopFaulted_eq, State.closeGate_open (by rw [State.stopped_pwr, hgate]), he]
    exact ⟨s.stopped_engState g code pc a, rfl, rfl, rfl⟩

end Sys2Proof.Machine
end

section
/-!
PROOF. The ALU instructions (R113), and the moves and the predicate instructions (R114), as answers of their commands.
-/

namespace Sys2Proof.Machine

/-! ## ALU -/

/-- An ALU instruction in a legal form answers its engine as Engine.alu leaves it. -/
theorem answers_aluRow {c : Instr} {s : State} {g w k : Nat} (hf : s.fetches g w) (hl : aluLegal w = true) (hi : instrOf (iOpc w) = some k)
    (hc : exec c s = .next (s.runCore (aluRow k g .clean))) (hk : k < 0x80 := by decide) : answers c s (s.retired g (fun e => e.alu w)) :=
  answers_runCore hc (State.fetches_coreOn hf) (State.aluRow_legal hf hi hk hl)

/-- Settles O22, instruction by instruction. -/
theorem aluInstructionsComplete : Obligations.AluInstructionsComplete :=
  ⟨fun s g w hf hl => ⟨
      fun hi => answers_aluRow hf hl hi (exec_add ..),
      fun hi => answers_aluRow hf hl hi (exec_sub ..),
      fun hi => answers_aluRow hf hl hi (exec_mul ..),
      fun hi => answers_aluRow hf hl hi (exec_mulh ..),
      fun hi => answers_aluRow hf hl hi (exec_mulhu ..),
      fun hi => answers_aluRow hf hl hi (exec_and ..),
      fun hi => answers_aluRow hf hl hi (exec_or ..),
      fun hi => answers_aluRow hf hl hi (exec_xor ..),
      fun hi => answers_aluRow hf hl hi (exec_shl ..),
      fun hi => answers_aluRow hf hl hi (exec_shr ..),
      fun hi => answers_aluRow hf hl hi (exec_sra ..),
      fun hi => answers_aluRow hf hl hi (exec_srar ..),
      fun hi => answers_aluRow hf hl hi (exec_min ..)⟩,
    fun s g w hf hl => ⟨
      fun hi => answers_aluRow hf hl hi (exec_max ..),
      fun hi => answers_aluRow hf hl hi (exec_minu ..),
      fun hi => answers_aluRow hf hl hi (exec_maxu ..),
      fun hi => answers_aluRow hf hl hi (exec_clampu ..),
      fun hi => answers_aluRow hf hl hi (exec_sel ..),
      fun hi => answers_aluRow hf hl hi (exec_cmpeq ..),
      fun hi => answers_aluRow hf hl hi (exec_cmplt ..),
      fun hi => answers_aluRow hf hl hi (exec_cmpltu ..),
      fun hi => answers_aluRow hf hl hi (exec_cmple ..),
      fun hi => answers_aluRow hf hl hi (exec_abs ..),
      fun hi => answers_aluRow hf hl hi (exec_clz ..),
      fun hi => answers_aluRow hf hl hi (exec_mulsr ..)⟩⟩

/-! ## Moves and predicates -/

theorem immWord_eq (w : Nat) : immWord w = BitVec.signExtend 32 (BitVec.ofNat 16 w) := ofInt_signedOf (by decide) w

/-- MOVHI's word: the immediate above the low half of the old one. -/
theorem movhi_word (w : Nat) (x : Word) : BitVec.ofNat 32 (x.toNat % 65536 + 65536 * iImm16 w) = BitVec.ofNat 16 w ++ x.setWidth 16 := by
  apply BitVec.eq_of_toNat_eq
  rw [BitVec.toNat_append, ← Nat.shiftLeft_add_eq_or_of_lt (BitVec.isLt _), Nat.shiftLeft_eq, BitVec.toNat_ofNat, BitVec.toNat_ofNat,
    BitVec.toNat_setWidth, iImm16]
  omega

theorem ofBool32_ne_zero (n : Nat) : ofBool32 (n != 0) = if n = 0 then 0 else 1 := by
  by_cases h : n = 0 <;> simp [ofBool32, h]

/-- An instruction that only changes its engine retires it. -/
theorem settle_pure (s : State) (g : Nat) {f f' : Engine → Engine} (h : f = f') : (s.pure g f).settle s g = s.retired g f' := by
  rw [h]
  rfl

/-- Settles O25, instruction by instruction. -/
theorem movesAndPredicates : Obligations.MovesAndPredicates := by
  refine ⟨?moves, ?predicates⟩
  case moves =>
    intro s g w hf hl
    refine ⟨fun ho => ?_, fun ho => ?_, fun ho => ?_, fun ho => answers_dataRow hf hl ho (exec_bcst ..) rfl,
      fun ho => answers_dataRow hf hl ho (exec_laneid ..) rfl, fun ho => answers_dataRow hf hl ho (exec_vext ..) rfl,
      fun ho => answers_dataRow hf hl ho (exec_vins ..) rfl⟩
    · exact answers_dataRow hf hl ho (exec_movi ..) (settle_pure s g (by rw [immWord_eq]))
    · exact answers_dataRow hf hl ho (exec_movhi ..) (settle_pure s g (by simp only [movhi_word]))
    · exact answers_dataRow hf hl ho (exec_vmovi ..) (settle_pure s g (by rw [immWord_eq]))
  case predicates =>
    intro s g w hf hl
    have hplogic (n : Nat) (ho : iOpc w = 0x87) (hn : iFn w = n) : answers (.plogic g .clean) s
        (s.retired g (fun e => e.setPm (iDst w) (plogicOp n (e.getPm (iSa w)) (e.getPm (iSb w))))) :=
      answers_dataRow hf hl ho (exec_plogic ..) (settle_pure s g (by rw [hn]))
    exact ⟨hplogic 0, hplogic 1, hplogic 2, hplogic 3,
      fun ho => answers_dataRow hf hl ho (exec_pany ..) (settle_pure s g (by simp only [ofBool32_ne_zero])),
      fun ho => answers_dataRow hf hl ho (exec_pcnt ..) rfl⟩

end Sys2Proof.Machine
end

section
/-!
PROOF. DMA transfers: their start, the waits for them, and their completion; control registers (R105, R114, R115).
-/

namespace Sys2Proof.Machine

/-! ## The start of a transfer -/

/-- DMRD and DMWR in range, with their tag free and no transfer in the way, start a transfer. -/
theorem dmaStart_starts {s : State} {g w ls dev len : Nat} {write : Bool} (hls : ls = ((s.eng g).getSx (iDst w)).toNat)
    (hdev : dev = ((s.eng g).getSx (iSa w)).toNat + 2 ^ 32 * (((s.eng g).getSx (iSa w + 1)).toNat % 16))
    (hlen : len = ((s.eng g).getSx (iSb w)).toNat) (htag : (s.eng g).tags.getD (iFn w % 8) none = none) (hls16 : ls % 16 = 0)
    (hroom : ls + len ≤ lsSize) (hdev16 : dev % 16 = 0) (hlen16 : len % 16 = 0) (hpos : 0 < len) (hmax : len ≤ 65536)
    (hbusy : (s.eng g).lsBusy ls len = false)
    (hmay : if write then s.engBuilds g = true ∧ s.inWindow (g / 32) dev len = true else dev + len ≤ memSize) :
    dmaStart g write s w = .next (s.setEng g (fun e =>
      { e with tags := e.tags.set (iFn w % 8) (some { ls := ls, dev := dev, len := len, write := write, pc := s.engPc g }) })) := by
  subst hls hdev hlen
  unfold dmaStart
  dsimp only
  rw [htag, if_neg (by simp), if_neg (by omega), if_neg (by omega)]
  cases write with
  | true =>
    obtain ⟨hbuild, hwin⟩ := hmay
    rw [hbuild, hwin, if_neg (by simp), if_neg (by simp), hbusy, if_neg (by simp)]
  | false =>
    have hmem := not_lt.mpr hmay
    rw [if_neg (by simp), if_neg (by simpa using hmem), hbusy, if_neg (by simp)]

/-! ## Waits -/

theorem any_isSome_eq_false {tags : List (Option Xfer)} (h : ∀ t ∈ tags, t = none) : tags.any Option.isSome = false := by
  simpa [List.any_eq_false] using h

theorem any_isSome_eq_true {tags : List (Option Xfer)} (h : ∃ t ∈ tags, t ≠ none) : tags.any Option.isSome = true := by
  simpa [List.any_eq_true, Option.isSome_iff_ne_none] using h

theorem State.retired_id (s : State) (g : Nat) : s.retired g (fun e => e) = s.advanced g s := by
  have hid : s.setEng g (fun e => e) = s := by
    rw [State.setEng]
    exact congrArg (fun es => ({ s with engines := es } : State)) (List.modify_id _ _)
  rw [State.retired, hid]

/-- An instruction that waits while `b` holds. -/
theorem settle_wait {s t : State} {g : Nat} {b : Bool} (h : (if b then s else s.advanced g s) = t) :
    (if b then EngEnd.wait else .next s).settle s g = t := by
  rw [← h]
  cases b <;> rfl

/-! ## Control registers -/

theorem rdcsrEnd_plain {s : State} {g w : Nat} (h : iFn w ≠ 3) :
    rdcsrEnd g s w = .next (s.setEng g (fun e => e.setSx (iDst w) (s.csr g (iFn w)))) := if_neg h

theorem rdcsrEnd_cycle {s : State} {g w : Nat} (h : iFn w = 3) :
    rdcsrEnd g s w = .next (((s.setEng g (fun e => e.setSx (iDst w) (BitVec.ofNat 32 (s.engCycles (g / 32))))).freeNext).setEng g
      (fun e => { e with cycHi := BitVec.ofNat 32 (s.engCycles (g / 32) / 2 ^ 32) })) := by
  unfold rdcsrEnd
  rw [if_pos h, h]
  rfl

theorem State.csr_from_8 (s : State) (g : Nat) {i : Nat} (h : 8 ≤ i) :
    s.csr g i = if i < 16 then (s.eng g).wi.getD (i - 8) 0 else (s.eng g).scratch.getD (i - 16) 0 := by
  unfold State.csr
  dsimp only
  rw [if_neg (by omega), if_neg (by omega), if_neg (by omega), if_neg (by omega), if_neg (by omega), if_neg (by omega), if_neg (by omega),
    if_neg (by omega)]

theorem State.csr_kind (s : State) (g : Nat) : s.csr g 2 = if s.engBuilds g then 1 else 0 := by
  show BitVec.ofNat 32 (bit (s.engBuilds g)) = _
  cases s.engBuilds g <;> rfl

/-- Settles O27, clause by clause: starts, waits, control registers, and the cycle count. -/
theorem transfersAndControlRegisters : Obligations.TransfersAndControlRegisters := by
  refine ⟨?start, ?waits, ?cycle, ?csr, ?count⟩
  case start =>
    intro s g w ls dev len hf hl hls hdev hlen htag hls16 hroom hdev16 hlen16 hpos hmax hbusy
    have hstart (write : Bool) := dmaStart_starts (write := write) hls hdev hlen htag hls16 hroom hdev16 hlen16 hpos hmax hbusy
    refine ⟨fun ho hmem => ?_, fun ho hbuild hwin => ?_⟩
    · exact answers_dataRow hf hl ho (exec_dmrd ..) (congrArg (·.settle s g) (hstart false hmem))
    · exact answers_dataRow hf hl ho (exec_dmwr ..) (congrArg (·.settle s g) (hstart true ⟨hbuild, hwin⟩))
  case waits =>
    intro s g w hf hl
    rw [State.retired_id]
    refine ⟨fun ho h8 h => ?_, fun ho h8 h => ?_, fun ho h8 h => ?_, fun ho h8 h => ?_, fun ho h => ?_, fun ho h => ?_, fun ho h => ?_,
      fun ho => ?_⟩
    · refine answers_dataRow hf hl ho (exec_dmwait ..) (settle_wait ?_)
      rw [if_neg (Nat.not_le.mpr h8), h]
      rfl
    · refine answers_dataRow hf hl ho (exec_dmwait ..) (settle_wait ?_)
      rw [if_neg (Nat.not_le.mpr h8), Option.isSome_iff_ne_none.mpr h]
      rfl
    · refine answers_dataRow hf hl ho (exec_dmwait ..) (settle_wait ?_)
      rw [if_pos h8, any_isSome_eq_false h]
      rfl
    · refine answers_dataRow hf hl ho (exec_dmwait ..) (settle_wait ?_)
      rw [if_pos h8, any_isSome_eq_true h]
      rfl
    · refine answers_dataRow hf hl ho (exec_fence ..) (settle_wait ?_)
      rw [any_isSome_eq_false h]
      rfl
    · refine answers_dataRow hf hl ho (exec_fence ..) (settle_wait ?_)
      rw [any_isSome_eq_true h]
      rfl
    · exact answers_dataRow hf hl ho (exec_rdcsr ..) (congrArg (·.settle s g) (rdcsrEnd_plain h))
    · exact answers_dataRow hf hl ho (exec_wrcsr ..) rfl
  case cycle =>
    intro s g w hf hl ho h
    exact answers_dataRow hf hl ho (exec_rdcsr ..) (congrArg (·.settle s g) (rdcsrEnd_cycle h))
  case csr =>
    intro s g
    refine ⟨rfl, rfl, s.csr_kind g, rfl, rfl, rfl, rfl, rfl, fun i hi => ?_, fun i hi => ?_⟩
    · rw [State.csr_from_8 _ _ (by omega), if_pos (by omega), Nat.add_sub_cancel_left]
    · rw [State.csr_from_8 _ _ (by omega), if_neg (by omega), Nat.add_sub_cancel_left]
  case count =>
    intro s c
    have hplace := Nat.mod_lt s.freeVal.toNat (Nat.succ_pos (3 * s.tickHalfNs / 4))
    unfold State.engCycles
    exact ⟨Nat.le_add_right _ _, Nat.add_le_add_left (Nat.le_of_lt_succ hplace) _⟩

/-! ## The completion of a transfer -/

theorem State.dmaCarry_read {s : State} {x : Xfer} (hw : x.write = false) (g : Nat) :
    s.dmaCarry g x = if s.poisonedIn x.dev x.len then (s.notePoisonRead (g / 32), true)
      else (s.setEng g (fun e => e.lsWrite x.ls (s.memRead x.dev x.len)), false) := by
  rw [State.dmaCarry, hw]
  rfl

theorem State.dmaCarry_write {s : State} {x : Xfer} (hw : x.write = true) (g : Nat) :
    s.dmaCarry g x = ((s.dmaWrite (g / 32) writerBuild x.dev ((s.eng g).lsRead x.ls x.len) 0).1, false) := by
  rw [State.dmaCarry, hw]
  rfl

section
variable {s : State} {g tag : Nat} {x : Xfer}

theorem dmaTransferComplete_idle (h : (s.eng g).tags.getD tag none = none) (ecc : Ecc) : dmaTransferComplete g tag ecc s = s := by
  simp only [dmaTransferComplete, h]

/-- A DMRD reads no local store, so its code has no say. -/
theorem dmaTransferComplete_read (h : (s.eng g).tags.getD tag none = some x) (hw : x.write = false) (ecc : Ecc) :
    dmaTransferComplete g tag ecc s = if (s.dmaCarry g x).2 then ((s.dmaCarry g x).1.freeTag g tag).engFault g fcDmPoison x.pc (some x.dev)
      else (s.dmaCarry g x).1.freeTag g tag := by
  cases ecc <;> simp only [dmaTransferComplete, h, hw]

theorem dmaTransferComplete_write (h : (s.eng g).tags.getD tag none = some x) (hw : x.write = true) :
    dmaTransferComplete g tag .clean s = (s.dmaWrite (g / 32) writerBuild x.dev ((s.eng g).lsRead x.ls x.len) 0).1.freeTag g tag := by
  simp only [dmaTransferComplete, h, hw, State.dmaCarry_write hw, Bool.false_eq_true, ↓reduceIte]

theorem dmaTransferComplete_write_corrected (h : (s.eng g).tags.getD tag none = some x) (hw : x.write = true) (n : Nat) :
    dmaTransferComplete g tag (.corrected n) s =
      ((s.lsCorrected g n).dmaWrite (g / 32) writerBuild x.dev (((s.lsCorrected g n).eng g).lsRead x.ls x.len) 0).1.freeTag g tag := by
  simp only [dmaTransferComplete, h, hw, State.dmaCarry_write hw, Bool.false_eq_true, ↓reduceIte]

theorem dmaTransferComplete_write_uncorrectable (h : (s.eng g).tags.getD tag none = some x) (hw : x.write = true) (a : Nat) :
    dmaTransferComplete g tag (.uncorrectable a) s = (s.freeTag g tag).lsUncorr g x.pc (some a) := by
  simp only [dmaTransferComplete, h, hw]

end

/-- Settles O28, case by case of the transfer and of what it meets. -/
theorem transferCompletes : Obligations.TransferCompletes := by
  refine ⟨?read, ?poisoned, ?write, ?corrected, ?uncorrectable, ?idle⟩
  case read =>
    intro s g tr x hcore h hw hp
    refine answers_runCore (exec_dmaTransferComplete ..) hcore ?_
    rw [dmaTransferComplete_read h hw, State.dmaCarry_read hw, hp]
    rfl
  case poisoned =>
    intro s g tr x hcore h hw hp
    refine answers_runCore (exec_dmaTransferComplete ..) hcore ?_
    rw [dmaTransferComplete_read h hw, State.dmaCarry_read hw, hp]
    rfl
  case write =>
    intro s g tr x hcore h hw he
    exact answers_runCore (exec_dmaTransferComplete ..) hcore (by rw [he, dmaTransferComplete_write h hw])
  case corrected =>
    intro s g n tr x hcore h hw he
    exact answers_runCore (exec_dmaTransferComplete ..) hcore (by rw [he, dmaTransferComplete_write_corrected h hw])
  case uncorrectable =>
    intro s g a tr x hcore h hw he
    exact answers_runCore (exec_dmaTransferComplete ..) hcore (by rw [he, dmaTransferComplete_write_uncorrectable h hw])
  case idle =>
    intro s g tr hcore h
    exact answers_runCore (exec_dmaTransferComplete ..) hcore (dmaTransferComplete_idle h tr.ecc)

end Sys2Proof.Machine
end

section
/-!
PROOF. Branches, the end of an item and TRAP (R104, R112, R114, R117, R119), and what a fetch can end in besides its instruction (R96, R111).
-/

namespace Sys2Proof.Machine

/-! ## Branches -/

/-- The target of a branch: its own address plus 4 × OFF19. -/
def State.branchTarget (s : State) (g w : Nat) : Nat := (BitVec.ofInt 32 (s.engPc g + 4 * signedOf 19 (w % 2 ^ 19))).toNat

theorem settle_jump (s t : State) (g : Nat) (x : Word) : (EngEnd.jump t x.toNat).settle s g = t.setPc g x.toNat := by
  rw [EngEnd.settle, Nat.mod_eq_of_lt x.isLt]

theorem settle_branch_taken (s t : State) (g w : Nat) : (t.branch g w true).settle s g = t.setPc g (t.branchTarget g w) := settle_jump s t g _

theorem settle_branch_on (s : State) (g w : Nat) {c : Bool} (h : c = true) : (s.branch g w c).settle s g = s.setPc g (s.branchTarget g w) := by
  rw [h, settle_branch_taken]

theorem settle_branch_off (s : State) (g w : Nat) {c : Bool} (h : c = false) : (s.branch g w c).settle s g = s.advanced g s := by
  rw [h]
  rfl

/-! ## DONE -/

theorem doneEnd_missing {s : State} {g : Nat} {it : Item} (hi : (s.eng g).item = some it) (hb : it.build = false)
    (he : (s.eng g).emitted ≠ 2 ^ (432 * (s.eng g).runLen) - 1) (w : Nat) : doneEnd g s w = .fault fcDoneIncomplete none := by
  simp only [doneEnd, hi, hb, bne_iff_ne.mpr he, Bool.not_false, Bool.and_self, ↓reduceIte]

theorem doneEnd_run {s : State} {g : Nat} {it : Item} (hi : (s.eng g).item = some it) (hb : it.build = false)
    (he : (s.eng g).emitted = 2 ^ (432 * (s.eng g).runLen) - 1) (w : Nat) :
    doneEnd g s w = .ended (((s.count (CH_RUNS_DONE (g / 32))).count (CH_ENG_RUNS (g / 32) (g % 32))).engFree g) := by
  simp only [doneEnd, hi, hb, he, bne_self_eq_false, Bool.and_false, Bool.false_eq_true, ↓reduceIte]

theorem doneEnd_build {s : State} {g : Nat} {it : Item} (hi : (s.eng g).item = some it) (hb : it.build = true) (w : Nat) :
    doneEnd g s w = .ended ((((s.count (CH_RUNS_DONE (g / 32))).count (CH_ENG_RUNS (g / 32) (g % 32))).engFree g).buildItemDone (g / 32) it) := by
  simp only [doneEnd, hi, hb, Bool.not_true, Bool.false_and, Bool.false_eq_true, ↓reduceIte]

/-- Settles O31, instruction by instruction. -/
theorem branchesAndEnds : Obligations.BranchesAndEnds := by
  refine ⟨?branches, ?done, fun s g w hf hl ho => answers_dataRow hf hl ho (exec_trap ..) rfl⟩
  case branches =>
    intro s g w hf hl
    refine ⟨fun ho => ?_, fun ho h => ?_, fun ho h => ?_, fun ho h => ?_, fun ho h => ?_, fun ho => ?_, fun ho => ?_, fun ho h => ?_,
      fun ho h => ?_, fun ho h => ?_, fun ho h => ?_⟩
    · exact answers_dataRow hf hl ho (exec_br ..) (settle_branch_taken s s g w)
    · exact answers_dataRow hf hl ho (exec_bz ..) (settle_branch_on s g w (beq_iff_eq.mpr h))
    · exact answers_dataRow hf hl ho (exec_bz ..) (settle_branch_off s g w (beq_eq_false_iff_ne.mpr h))
    · exact answers_dataRow hf hl ho (exec_bnz ..) (settle_branch_on s g w (bne_iff_ne.mpr h))
    · exact answers_dataRow hf hl ho (exec_bnz ..) (settle_branch_off s g w (bne_eq_false_iff_eq.mpr h))
    · exact answers_dataRow hf hl ho (exec_call ..) (settle_branch_taken s _ g w)
    · exact answers_dataRow hf hl ho (exec_ret ..) (settle_jump s s g _)
    · exact answers_dataRow hf hl ho (exec_vbany ..) (settle_branch_on s g w (bne_iff_ne.mpr h))
    · exact answers_dataRow hf hl ho (exec_vbany ..) (settle_branch_off s g w (bne_eq_false_iff_eq.mpr h))
    · exact answers_dataRow hf hl ho (exec_vbnone ..) (settle_branch_on s g w (beq_iff_eq.mpr h))
    · exact answers_dataRow hf hl ho (exec_vbnone ..) (settle_branch_off s g w (beq_eq_false_iff_ne.mpr h))
  case done =>
    intro s g w it hf hl ho hi
    refine ⟨fun hb he => ?_, fun hb => ?_, fun hb he => ?_⟩
    · exact answers_dataRow hf hl ho (exec_done ..) (congrArg (·.settle s g) (doneEnd_run hi hb he w))
    · exact answers_dataRow hf hl ho (exec_done ..) (congrArg (·.settle s g) (doneEnd_build hi hb w))
    · exact answers_dataRow hf hl ho (exec_done ..) (congrArg (·.settle s g) (doneEnd_missing hi hb he w))

/-! ## The fetch -/

section
variable {s : State} {g k w : Nat} {body : State → Nat → EngEnd}

theorem State.engRow_notRunning (h : 128 ≤ g ∨ s.engState g ≠ 2) (ecc : Ecc) : s.engRow g ecc k body = s := if_pos h

theorem State.engRow_badPc (hg : g < 128) (hst : s.engState g = 2) (h : s.engPc g % 4 ≠ 0 ∨ lsSize ≤ s.engPc g) (ecc : Ecc) :
    s.engRow g ecc k body = s.engFault g fcLsRange (s.engPc g) (some (s.engPc g)) := by
  unfold State.engRow
  rw [if_neg (by simp [hst]; omega)]
  exact if_pos h

/-- The two refusals before the fetch do not apply to a fetched word. -/
theorem State.fetches_running (h : s.fetches g w) :
    ¬(128 ≤ g ∨ s.engState g ≠ esRun) ∧ ¬(s.engPc g % 4 ≠ 0 ∨ lsSize ≤ s.engPc g) := by
  obtain ⟨-, hg, hst, hpc, hroom, -⟩ := h
  omega

theorem State.engRow_otherWord (h : s.fetches g w) {j : Nat} (hi : instrOf (iOpc w) = some j) (hj : j ≠ k) (ecc : Ecc) :
    s.engRow g ecc k body = s := by
  obtain ⟨hrun, hpc⟩ := State.fetches_running h
  obtain ⟨-, -, -, -, -, hbusy, hword⟩ := h
  unfold State.engRow
  rw [if_neg hrun, if_neg hpc]
  simp only [hbusy, hword, hi, Option.isSome_some, bne_iff_ne.mpr (Option.some_injective _ |>.ne hj), Bool.and_self,
    Bool.false_eq_true, ↓reduceIte]

theorem State.engRow_uncorrectable (h : s.fetches g w) (hi : instrOf (iOpc w) = some k) (a : Nat) :
    s.engRow g (.uncorrectable a) k body = s.engFault g fcLsUncorr (s.engPc g) (some a) := by
  obtain ⟨hrun, hpc⟩ := State.fetches_running h
  obtain ⟨-, -, -, -, -, hbusy, hword⟩ := h
  unfold State.engRow
  rw [if_neg hrun, if_neg hpc]
  simp only [hbusy, hword, hi, Option.isSome_some, bne_self_eq_false, Bool.and_false, Bool.false_eq_true, ↓reduceIte]

/-- A word that spells no instruction, or that its instruction does not allow. -/
theorem State.engRow_illegal (h : s.fetches g w) (hi : instrOf (iOpc w) = none ∨ (instrOf (iOpc w) = some k
    ∧ (if iOpc w < 0x80 then aluLegal w else dataLegal (s.engBuilds g) w) = false)) :
    s.engRow g .clean k body = s.engFault g fcIllegal (s.engPc g) none := by
  obtain ⟨hrun, hpc⟩ := State.fetches_running h
  obtain ⟨-, -, -, -, -, hbusy, hword⟩ := h
  unfold State.engRow
  rw [if_neg hrun, if_neg hpc]
  rcases hi with hi | ⟨hi, hl⟩
  · simp only [hbusy, hword, hi, Option.isSome_none, Bool.false_and, Option.isNone_none, Bool.true_or, Bool.false_eq_true, ↓reduceIte]
  · simp only [hbusy, hword, hi, hl, Option.isSome_some, bne_self_eq_false, Bool.and_false, Option.isNone_some, Bool.not_false, Bool.or_true,
      Bool.false_eq_true, ↓reduceIte]

theorem State.lsCorrected_some {n : Nat} (hn : n ≠ 0) (s : State) (g : Nat) :
    s.lsCorrected g n = (s.countN (CH_LS_CORR_CNT (g / 32)) n).chanEvent g 2 := if_neg hn

/-- A corrected word: counted, and the instruction goes on in the state that has counted it. -/
theorem State.engRow_corrected (h : s.fetches g w) (hi : instrOf (iOpc w) = some k)
    (hl : (if iOpc w < 0x80 then aluLegal w else dataLegal (s.engBuilds g) w) = true) (n : Nat) (f : Engine → Engine) :
    s.engRow g (.corrected n) k (fun t _ => t.pure g f) = ((s.lsCorrected g n).setEng g f).setPc g ((s.engPc g + 4) % 2 ^ 32) := by
  obtain ⟨hrun, hpc⟩ := State.fetches_running h
  obtain ⟨-, -, -, -, -, hbusy, hword⟩ := h
  unfold State.engRow
  rw [if_neg hrun, if_neg hpc]
  simp only [hbusy, hword, hi, hl, Option.isSome_some, bne_self_eq_false, Bool.and_false, Option.isNone_some, Bool.not_true, Bool.or_self,
    Bool.false_eq_true, ↓reduceIte, State.pure]

end

/-- Settles O33, case by case of the fetch. -/
theorem engineFetchRefusals : Obligations.EngineFetchRefusals := by
  refine ⟨fun s g k ecc body h => State.engRow_notRunning h ecc, fun s g k ecc body hg hst h => State.engRow_badPc hg hst h ecc,
    fun s g k j w ecc body hf hi hj => State.engRow_otherWord hf hi hj ecc, fun s g k w a body hf hi => State.engRow_uncorrectable hf hi a,
    fun s g k w body hf hi => State.engRow_illegal hf hi, fun s g k w n f hf hi hl hn => ?_⟩
  rw [State.engRow_corrected hf hi hl, State.lsCorrected_some hn]

end Sys2Proof.Machine
end

section
/-!
PROOF. The sampler's instructions (R116, R128 to R133).
-/

namespace Sys2Proof.Machine

/-! ## SMP and SMPN -/

/-- The colour that lane `i` reads of plane `p`: its nearest tap, or the bilinear mean of its four taps. -/
def Engine.laneColour (e : Engine) (m : State) (p : DirPlane) (near : Bool) (w i : Nat) : List Nat :=
  if near then m.tap p (nearestTap (e.samplePos p (iSa w) i)).1 (nearestTap (e.samplePos p (iSa w) i)).2
  else m.bilinear p (e.samplePos p (iSa w) i)

/-- A tap that lane `i` reads of plane `p` is poisoned. -/
def Engine.lanePoisoned (e : Engine) (m : State) (p : DirPlane) (near : Bool) (w i : Nat) : Bool :=
  (if near then [nearestTap (e.samplePos p (iSa w) i)] else tapsOf (e.samplePos p (iSa w) i)).any (fun t => m.tapPoisoned p t.1 t.2)

/-- The state once the lanes of pm PM hold the components of `colour` in vx DST to DST + 3 and are counted. -/
def State.sampled (s : State) (g w : Nat) (colour : Nat → List Nat) : State :=
  (s.setEng g (fun e => (List.range 4).foldl (fun x k => x.setVx (iDst w + k) ((s.eng g).getPm (iPm w))
    (fun i => BitVec.ofNat 32 ((colour i).getD k 0))) e)).countSamples (g / 32) (lanesOf ((s.eng g).getPm (iPm w))).length

theorem sampleQuad_plane {s : State} {g w : Nat} {p : DirPlane} {near : Bool} (hp : s.frame.planes[((s.eng g).getSx (iSp w)).toNat]? = some p)
    (hclean : ∀ i ∈ lanesOf ((s.eng g).getPm (iPm w)), (s.eng g).lanePoisoned (s.throughCache (g / 32)) p near w i = false) :
    sampleQuad g near s w = .next (s.sampled g w ((s.eng g).laneColour (s.throughCache (g / 32)) p near w)) := by
  have hany : (lanesOf ((s.eng g).getPm (iPm w))).any ((s.eng g).lanePoisoned (s.throughCache (g / 32)) p near w) = false := by
    rw [List.any_eq_false]
    exact fun i hi => Bool.eq_false_iff.mp (hclean i hi)
  unfold Engine.lanePoisoned at hany
  simp only [sampleQuad, hp, hany, Bool.false_eq_true, ↓reduceIte]
  rfl

theorem sampleQuad_beyond {s : State} {g w : Nat} (hp : s.frame.planes[((s.eng g).getSx (iSp w)).toNat]? = none) (near : Bool) :
    sampleQuad g near s w = .next (s.sampled g w (fun _ => [0, 0, 0, 0])) := by
  simp only [sampleQuad, hp, Bool.false_eq_true, ↓reduceIte]
  rfl

theorem ofNat_zeros_getD (k : Nat) : BitVec.ofNat 32 ([0, 0, 0, 0].getD k 0) = 0 := by
  match k with
  | 0 | 1 | 2 | 3 => rfl
  | k + 4 => rfl

/-! ## OCC -/

/-- A change of an engine is what it makes of that engine. -/
theorem State.setEng_congr {s : State} {g : Nat} {f f' : Engine → Engine} (h : f (s.eng g) = f' (s.eng g)) : s.setEng g f = s.setEng g f' := by
  have hmod : s.engines.modify g f = s.engines.modify g f' := by
    apply List.ext_getElem?
    intro j
    simp only [List.getElem?_modify]
    by_cases hj : g = j
    · subst hj
      cases he : s.engines[g]? with
      | none => rfl
      | some e => simpa [State.eng, List.getD_eq_getElem?_getD, he] using h
    · simp [hj]
  rw [State.setEng, State.setEng, hmod]

/-- The mask of the lanes of a mask that satisfy `p`. -/
theorem foldl_lanes_eq_maskOf (mask : Nat) (p : Nat → Bool) :
    ((lanesOf mask).filter p).foldl (fun m i => m + 2 ^ i) 0 = maskOf (fun i => bitAt mask i && p i) 16 := by
  rw [lanesOf, List.filter_filter, List.foldl_filter, maskOf]
  congr 1
  funext m i
  rw [Bool.and_comm]
  cases bitAt mask i && p i <;> simp [bit]

/-- The lanes whose footprint on the plane meets a present tile. -/
def State.laneOccupied (s : State) (e : Engine) (p : DirPlane) (w i : Nat) : Bool :=
  (tapsOf (e.samplePos p (iSa w) i)).any (fun q => (s.tapAddr p q.1 q.2).isSome)

/-- OCC on an engine. -/
def State.occEngine (s : State) (w : Nat) (e : Engine) : Engine :=
  match s.frame.planes[(e.getSx (iSp w)).toNat]? with
  | none => e.setPm (iDst w) 0
  | some p => e.setPm (iDst w) (maskOf (fun i => bitAt (e.getPm (iPm w)) i && s.laneOccupied e p w i) 16)

theorem answers_occ {s : State} {g w : Nat} (hf : s.fetches g w) (hl : dataLegal (s.engBuilds g) w = true) (ho : iOpc w = 0xA4) :
    answers (.occ g .clean) s (s.retired g (s.occEngine w)) := by
  refine answers_dataRow hf hl ho (exec_occ ..) (settle_pure s g (funext fun e => ?_))
  simp only [foldl_lanes_eq_maskOf]
  rfl

theorem State.occEngine_beyond {s : State} {w : Nat} {e : Engine} (h : s.frame.planes[(e.getSx (iSp w)).toNat]? = none) :
    s.occEngine w e = e.setPm (iDst w) 0 := by
  rw [State.occEngine, h]

theorem State.occEngine_plane {s : State} {w : Nat} {e : Engine} {p : DirPlane} (h : s.frame.planes[(e.getSx (iSp w)).toNat]? = some p) :
    s.occEngine w e = e.setPm (iDst w) (maskOf (fun i => bitAt (e.getPm (iPm w)) i && s.laneOccupied e p w i) 16) := by
  rw [State.occEngine, h]

/-! ## SWEEP -/

theorem State.sweepFrom_ends {s : State} {g w : Nat} (h : (s.eng g).getPm (iPm w) = 0) (n p : Nat) : s.sweepFrom g w (n + 1) p = (s, p) := if_pos h

theorem State.sweepFrom_step {s : State} {g w : Nat} (h : (s.eng g).getPm (iPm w) ≠ 0) (n p : Nat) :
    s.sweepFrom g w (n + 1) p = (s.smpoStep g w p).sweepFrom g w n (p + 1) := if_neg h

/-- The state and the plane that a sweep answers. -/
theorem State.sweepEnd_eq {s r : State} {g w n : Nat} {x : State × Nat} (h : (r, n) = x) :
    s.advanced g (x.1.setEng g (fun e => e.setSx (iSp w) (BitVec.ofNat 32 x.2)))
      = s.advanced g (r.setEng g (fun e => e.setSx (iSp w) (BitVec.ofNat 32 n))) := by
  rw [← h]

/-- Settles O29, instruction by instruction. -/
theorem samplerInstructions : Obligations.SamplerInstructions := by
  refine ⟨?smp, ?smpn, ?plain, ?occ, fun s g w hf hl ho => answers_dataRow hf hl ho (exec_pft ..) rfl, ?sweep,
    fun s g w n p => ⟨rfl, fun h => State.sweepFrom_ends h n p, fun h => State.sweepFrom_step h n p⟩⟩
  case smp =>
    rintro s _ g w p hf hl hp rfl hclean ho
    exact answers_dataRow hf hl ho (exec_smp ..) (congrArg (·.settle s g) (sampleQuad_plane (near := false) hp hclean))
  case smpn =>
    rintro s _ g w p hf hl hp rfl hclean ho
    refine answers_dataRow hf hl ho (exec_smpn ..) (congrArg (·.settle s g) (sampleQuad_plane hp fun i hi => ?_))
    simpa [Engine.lanePoisoned] using hclean i hi
  case plain =>
    intro s g w hf hl
    have hzero : s.sampled g w (fun _ => [0, 0, 0, 0]) = (s.setEng g (fun e => (List.range 4).foldl (fun x m =>
        x.setVx (iDst w + m) ((s.eng g).getPm (iPm w)) (fun _ => 0)) e)).countSamples (g / 32) (lanesOf ((s.eng g).getPm (iPm w))).length := by
      simp only [State.sampled, ofNat_zeros_getD]
    rw [← hzero]
    refine ⟨fun ho hp => ?_, fun ho hp => ?_, fun ho => answers_dataRow hf hl ho (exec_smpo ..) rfl, fun ho hp => ?_⟩
    · exact answers_dataRow hf hl ho (exec_smp ..) (congrArg (·.settle s g) (sampleQuad_beyond hp _))
    · exact answers_dataRow hf hl ho (exec_smpn ..) (congrArg (·.settle s g) (sampleQuad_beyond hp _))
    · rw [State.retired, ← State.setEng_congr (State.occEngine_beyond hp)]
      exact answers_occ hf hl ho
  case occ =>
    intro s g w p hf hl ho hd hpm hg hp
    have hd8 : iDst w < (s.eng g).pm.length := by
      simp only [dataLegal, ho, Bool.and_eq_true, decide_eq_true_eq] at hl
      omega
    have heng : ((s.retired g (s.occEngine w)).eng g) = _ := (State.eng_setEng_same hg (s.occEngine w)).trans (State.occEngine_plane hp)
    obtain ⟨hsx, hvx, -⟩ := (s.eng g).setPm_keeps (iDst w)
      (maskOf (fun i => bitAt ((s.eng g).getPm (iPm w)) i && s.laneOccupied (s.eng g) p w i) 16)
    refine ⟨_, answers_occ hf hl ho, fun i hi => ?_, ?_, ?_, rfl⟩
    · exact (congrArg (fun e : Engine => bitAt (e.getPm (iDst w)) i) heng).trans (Engine.bitAt_getPm_setPm hd hd8 _ hi)
    · exact (congrArg Engine.vx heng).trans hvx
    · exact (congrArg Engine.sx heng).trans hsx
  case sweep =>
    rintro s _ r g w _ n hf hl ho rfl rfl hr
    exact answers_dataRow hf hl ho (exec_sweep ..) (State.sweepEnd_eq hr)

end Sys2Proof.Machine
end

section
/-!
PROOF. The output instructions (R117, R118, R134).
-/

namespace Sys2Proof.Machine

/-! ## DRIVE -/

/-- Lane `i` of a DRIVE names a ray on the panel whose word of the correction map is not poisoned. -/
def State.driveClean (s : State) (e : Engine) (w i : Nat) : Prop :=
  (e.rayOf (e.getVx (iSb w) i).toNat).1 < s.geomW ∧ (e.rayOf (e.getVx (iSb w) i).toNat).2.1 < s.geomH
    ∧ (s.rayCode (e.rayOf (e.getVx (iSb w) i).toNat).1 (e.rayOf (e.getVx (iSb w) i).toNat).2.1
      (e.rayOf (e.getVx (iSb w) i).toNat).2.2 0).2 = false

theorem State.drivePoison_clean {s : State} {g w : Nat} (h : ∀ i ∈ lanesOf ((s.eng g).getPm (iPm w)), s.driveClean (s.eng g) w i) :
    s.drivePoison g w = s := by
  have hnone : (lanesOf ((s.eng g).getPm (iPm w))).filterMap (fun i =>
      let q := (s.eng g).rayOf ((s.eng g).getVx (iSb w) i).toNat
      if decide (q.1 < s.geomW ∧ q.2.1 < s.geomH) && (s.rayCode q.1 q.2.1 q.2.2 0).2 then
        some (s.corrAddr (s.rayIdx q.1 q.2.1 q.2.2) / 16) else none) = [] := by
    rw [List.filterMap_eq_nil_iff]
    intro i hi
    obtain ⟨-, -, hclean⟩ := h i hi
    simp only [hclean, Bool.and_false, Bool.false_eq_true, ↓reduceIte]
  unfold State.drivePoison
  dsimp only
  rw [hnone]
  rfl

theorem driveLane_onPanel {s : State} {e : Engine} {w i : Nat} (h : s.driveClean e w i) : driveLane s e w i =
    (let q := e.rayOf (e.getVx (iSb w) i).toNat
     BitVec.ofNat 32 (s.rayCode q.1 q.2.1 q.2.2 (e.getVx (iSa w + q.2.2 % 3) i).toNat).1) := if_pos ⟨h.1, h.2.1⟩

theorem mem_lanesOf {mask i : Nat} : i ∈ lanesOf mask ↔ i < 16 ∧ bitAt mask i = true := by
  simp [lanesOf]

/-! ## EMIT -/

/-- The indices and codes of an EMIT, lane by lane. -/
def Engine.emits (e : Engine) (w : Nat) : List (Nat × Nat) :=
  (lanesOf (e.getPm (iPm w))).map (fun i => ((e.getVx (iSb w) i).toNat, (e.getVx (iSa w) i).toNat % 4096))

theorem Engine.emits_indices (e : Engine) (w : Nat) :
    (e.emits w).map Prod.fst = (lanesOf (e.getPm (iPm w))).map (fun i => (e.getVx (iSb w) i).toNat) := by
  rw [Engine.emits, List.map_map]
  rfl

/-- The ray of entry `j` was emitted before, or an earlier lane names it too. -/
def Engine.emitsAgain (e : Engine) (w j : Nat) : Bool :=
  bitAt e.emitted ((e.emits w).getD j (0, 0)).1 || ((e.emits w).take j).any (fun y => y.1 == ((e.emits w).getD j (0, 0)).1)

theorem getD_map_fst (es : List (Nat × Nat)) (j : Nat) : (es.map Prod.fst).getD j 0 = (es.getD j (0, 0)).1 := by
  rw [List.getD_eq_getElem?_getD, List.getElem?_map, List.getD_eq_getElem?_getD]
  cases es[j]? <;> rfl

theorem Engine.emitsAgain_iff (e : Engine) (w j : Nat) : e.emitsAgain w j = true ↔
    bitAt e.emitted (((e.emits w).map Prod.fst).getD j 0) = true ∨ ((e.emits w).map Prod.fst).getD j 0 ∈ ((e.emits w).map Prod.fst).take j := by
  rw [Engine.emitsAgain, getD_map_fst, ← List.map_take, Bool.or_eq_true, List.any_eq_true, List.mem_map]
  simp only [beq_iff_eq]

section
variable {s : State} {g w : Nat}

theorem emitEnd_beyond {x : Nat × Nat} (h : ((s.eng g).emits w).find? (fun x => decide (432 * (s.eng g).runLen ≤ x.1)) = some x) :
    emitEnd g s w = .fault fcEmitRange (some x.1) := by
  unfold Engine.emits at h
  simp only [emitEnd, h]

theorem Engine.emits_inRun {e : Engine} (h : ∀ x ∈ (e.emits w).map Prod.fst, x < 432 * e.runLen) :
    (e.emits w).find? (fun x => decide (432 * e.runLen ≤ x.1)) = none := by
  rw [List.find?_eq_none]
  intro x hx
  simpa using h x.1 (List.mem_map_of_mem hx)

theorem emitEnd_again {j : Nat} (hrun : ∀ x ∈ ((s.eng g).emits w).map Prod.fst, x < 432 * (s.eng g).runLen)
    (hj : (List.range ((s.eng g).emits w).length).find? ((s.eng g).emitsAgain w) = some j) :
    emitEnd g s w = .fault fcEmitDup (some (((s.eng g).emits w).getD j (0, 0)).1) := by
  have hnone := Engine.emits_inRun hrun
  unfold Engine.emitsAgain at hj
  unfold Engine.emits at hnone hj ⊢
  simp only [emitEnd, hnone, hj]

theorem emitEnd_new (hrun : ∀ x ∈ ((s.eng g).emits w).map Prod.fst, x < 432 * (s.eng g).runLen)
    (hnew : (List.range ((s.eng g).emits w).length).find? ((s.eng g).emitsAgain w) = none) :
    emitEnd g s w = .next (((s.eng g).emits w).foldl (fun (st : State) (x : Nat × Nat) => st.emitCode g x.1 x.2)
      (s.setEng g (fun k => { k with emitted := ((s.eng g).emits w).foldl (fun m x => m ||| 2 ^ x.1) k.emitted }))).closeWindows := by
  have hnone := Engine.emits_inRun hrun
  unfold Engine.emitsAgain at hnew
  unfold Engine.emits at hnone hnew ⊢
  simp only [emitEnd, hnone, hnew]

end

/-- Entries of which no two name one ray, and none of a ray emitted before, emit none again. -/
theorem Engine.emitsAgain_none {e : Engine} {w : Nat} (hold : ∀ k < (e.emits w).length, bitAt e.emitted ((e.emits w).getD k (0, 0)).1 = false)
    (hpair : (e.emits w).Pairwise (fun x y => x.1 ≠ y.1)) : (List.range (e.emits w).length).find? (e.emitsAgain w) = none := by
  rw [List.find?_range_eq_none]
  intro j hj
  rw [Bool.not_eq_true', Bool.eq_false_iff, ne_eq, Engine.emitsAgain_iff, getD_map_fst, hold j hj, ← List.map_take, not_or]
  refine ⟨by simp, fun hmem => ?_⟩
  obtain ⟨y, hy, heq⟩ := List.mem_map.mp hmem
  obtain ⟨k, hk, rfl⟩ := List.mem_take_iff_getElem.mp hy
  rw [List.pairwise_iff_getElem] at hpair
  rw [List.getD_eq_getElem _ _ hj] at heq
  exact hpair k j _ hj (by omega) heq

/-! ## TWR -/

theorem twrEnd_inStack {s : State} {g w : Nat} (hal : ((s.eng g).getSx (iSa w)).toNat % 16 = 0)
    (hroom : ((s.eng g).getSx (iSa w)).toNat + 5120 ≤ lsSize)
    (hbusy : (s.eng g).lsBusy ((s.eng g).getSx (iSa w)).toNat 5120 = false)
    (hplane : bitsOf ((s.eng g).getSx (iSb w)).toNat 21 16 < (match s.cam.build with | some b => b.tables.length | none => 64))
    (hrow : bitsOf ((s.eng g).getSx (iSb w)).toNat 13 8 < s.tileRows) (hcol : bitsOf ((s.eng g).getSx (iSb w)).toNat 6 0 < s.tileCols) :
    twrEnd g s w = .next ((s.tileWrite (g / 32) ((s.eng g).getSx (iSb w)).toNat ((s.eng g).lsRead ((s.eng g).getSx (iSa w)).toNat 5120)).1.setEng g
      (fun k => k.setSx (iDst w) (BitVec.ofNat 32
        ((s.tileWrite (g / 32) ((s.eng g).getSx (iSb w)).toNat ((s.eng g).lsRead ((s.eng g).getSx (iSa w)).toNat 5120)).2.getD 0xFFFFFFFF)))) := by
  unfold twrEnd
  dsimp only
  rw [if_neg (by omega), hbusy, if_neg (by simp)]
  exact if_pos ⟨hplane, hrow, hcol⟩

/-- Settles O30, instruction by instruction. -/
theorem outputInstructions : Obligations.OutputInstructions := by
  refine ⟨?drive, ?emit, ?beyond, ?again, ?twr⟩
  case drive =>
    intro s g w hf hl ho hg hvx h
    have hclean : s.drivePoison g w = s := State.drivePoison_clean h
    have hans : answers (.drive g .clean) s
        (s.advanced g ((s.freeSkip 16).setEng g (fun e => e.setVx (iDst w) (e.getPm (iPm w)) (driveLane s e w)))) :=
      answers_dataRow hf hl ho (exec_drive ..) (by rw [driveEnd, hclean]; rfl)
    refine ⟨_, hans, fun i hi => ?_, rfl, rfl, rfl⟩
    obtain ⟨hi16, hbit⟩ := mem_lanesOf.mp hi
    have heng := State.eng_setEng_same (s := s) hg (fun e => e.setVx (iDst w) (e.getPm (iPm w)) (driveLane s e w))
    refine (congrArg (fun e : Engine => e.getVx (iDst w) i) heng).trans ?_
    rw [Engine.getVx_setVx_same (by rw [hvx]; exact iDst_lt w) hi16, if_pos hbit, driveLane_onPanel (h i hi)]
  case emit =>
    rintro s g w _ hf hl ho rfl hrun hold hpair
    refine answers_dataRow hf hl ho (exec_emit ..) (congrArg (·.settle s g) (emitEnd_new (fun x hx => ?_) (Engine.emitsAgain_none hold hpair)))
    obtain ⟨y, hy, rfl⟩ := List.mem_map.mp hx
    obtain ⟨j, hj, rfl⟩ := List.mem_iff_getElem.mp hy
    rw [← List.getD_eq_getElem _ (0, 0) hj]
    exact hrun j hj
  case beyond =>
    intro s g w a hf hl ho h
    rw [← Engine.emits_indices, List.find?_map, Option.map_eq_some_iff] at h
    obtain ⟨x, hx, rfl⟩ := h
    exact answers_dataRow hf hl ho (exec_emit ..) (congrArg (·.settle s g) (emitEnd_beyond hx))
  case again =>
    rintro s g w j xs hf hl ho hxs hrun hj hjth hbefore
    rw [← Engine.emits_indices] at hxs
    subst hxs
    have hfind : (List.range ((s.eng g).emits w).length).find? ((s.eng g).emitsAgain w) = some j := by
      rw [List.find?_range_eq_some]
      refine ⟨(Engine.emitsAgain_iff _ w j).mpr hjth, by simpa using hj, fun k hk => ?_⟩
      obtain ⟨hold, htake⟩ := hbefore k hk
      rw [Bool.not_eq_true', Bool.eq_false_iff, ne_eq, Engine.emitsAgain_iff, hold, not_or]
      exact ⟨by simp, htake⟩
    rw [getD_map_fst]
    exact answers_dataRow hf hl ho (exec_emit ..) (congrArg (·.settle s g) (emitEnd_again hrun hfind))
  case twr =>
    rintro s g w _ _ _ hf hl ho rfl rfl hal hroom hbusy rfl hplane hrow hcol
    exact answers_dataRow hf hl ho (exec_twr ..) (congrArg (·.settle s g) (twrEnd_inStack hal hroom hbusy hplane hrow hcol))

end Sys2Proof.Machine
end

section
/-!
PROOF. Around the instructions: dispatch, time-outs, reloads, scrubbing, plane-cache fills, enabling and debug access (R96, R97, R104, R107, R110,
R119, R123).
-/

namespace Sys2Proof.Machine

/-! ## Dispatch, time-outs, and the start of RELOAD -/

theorem workItemDispatch_run {s : State} {c g : Nat} {it : Item} {rest : List Item} (hg : s.grantee c false (s.chan c).turnS = some g)
    (hq : (s.chan c).runs = it :: rest) : workItemDispatch c false s =
      ((s.setChan c (fun ch => { ch with runs := rest, turnS := (g + 1) % 32 })).startItem g it).showQueues c := by
  simp only [workItemDispatch, hg, hq, Bool.false_eq_true, ↓reduceIte]

theorem workItemDispatch_build {s : State} {c g : Nat} {it : Item} {rest : List Item} (hg : s.grantee c true (s.chan c).turnB = some g)
    (hq : (s.chan c).builds = it :: rest) : workItemDispatch c true s =
      ((s.setChan c (fun ch => { ch with builds := rest, turnB := (g + 1) % 32 })).startItem g it).showQueues c := by
  simp only [workItemDispatch, hg, hq, ↓reduceIte]

theorem wiTimeout_late {s : State} {g : Nat} (hg : g < 128) (hst : s.engState g = 2) (hlim : s.rdN (CH_WI_LIMIT (g / 32)) ≠ 0)
    (hlate : 3 * (s.eng g).start + 4 * s.rdN (CH_WI_LIMIT (g / 32)) < 3 * (s.now + s.tickHalfNs)) :
    wiTimeout g s = s.engFault g fcTimeout (s.engPc g) none := if_pos ⟨hg, hst, hlim, hlate⟩

theorem engReloadStart_faulted {s : State} {g : Nat} (hg : g < 128) (hst : s.engState g = 3) : engReloadStart g s = s.setEngState g 4 :=
  if_pos ⟨hg, hst⟩

/-! ## The end of RELOAD -/

/-- The engine's local store holds the reload copy of its channel. -/
def State.reloaded (s : State) (g : Nat) : State :=
  s.setEng g (fun e => { e with ls := s.reloadCopy (g / 32), valid := true, dirty := false })

/-- RELOAD with a readable and unpoisoned copy: OFFLINE, IDLE with event 5, or PARKED. -/
theorem engReloadDone_copied {s : State} {g : Nat} (hg : g < 128) (hst : s.engState g = 4)
    (hp : s.poisonedIn (s.controlAt (10 + g / 32)) lsSize = false) :
    engReloadDone g true s = if !(s.engEnabled g && s.chanRuns (g / 32)) then (s.reloaded g).setEngState g 0
      else if s.engBuilds g then ((s.reloaded g).setEngState g 1).chanEvent g 5 else (s.reloaded g).setEngState g 5 := by
  unfold engReloadDone
  rw [if_neg (by simp [hst]; omega), hp]
  rfl

theorem engReloadDone_failed {s : State} {g : Nat} {ok : Bool} (hg : g < 128) (hst : s.engState g = 4)
    (h : ok = false ∨ s.poisonedIn (s.controlAt (10 + g / 32)) lsSize = true) : engReloadDone g ok s =
      ((State.setEng (s.faultRecord g fcReloadFail (s.engPc g) none) g (fun e => { e with valid := false })).setEngState g 0).chanEvent g 6 := by
  have hbad : (!ok || s.poisonedIn (s.controlAt (10 + g / 32)) lsSize) = true := by
    rcases h with h | h <;> simp [h]
  unfold engReloadDone
  rw [if_neg (by simp [hst]; omega), hbad]
  rfl

/-! ## The scrubber -/

/-- The scrubber's pointer moves on. -/
def State.scrubMoved (s : State) (c : Nat) : State := s.setChan c (fun ch => { ch with scrub := (ch.scrub + 1) % 32768 })

/-- A mask of one engine names that engine alone. -/
theorem filter_bitAt_two_pow : ∀ k < 32, (List.range 32).filter (fun e => bitAt (2 ^ k) e) = [k] := by decide

theorem filter_bitAt_zero : (List.range 32).filter (fun e => bitAt 0 e) = [] := by decide

theorem lsScrub_eq {s : State} {c : Nat} (hc : c < 4) (hgate : s.gateOpen c = true) (corrected uncorrectable : Nat) :
    lsScrub c corrected uncorrectable s = ((List.range 32).filter (fun e => bitAt uncorrectable e)).foldl (fun (st : State) e =>
        st.lsUncorr (32 * c + e) (st.engPc (32 * c + e)) (some (16 * (s.chan c).scrub)))
      (((List.range 32).filter (fun e => bitAt corrected e)).foldl (fun st e => st.lsCorrected (32 * c + e) 1) (s.scrubMoved c)) := by
  unfold lsScrub
  rw [if_neg (by simp [hgate]; omega)]
  rfl

/-! ## Plane-cache fills -/

/-- A line without poison that arrives is counted, and then taken, taken with its corrections counted, or discarded. -/
def State.lineArrived (s : State) (g line : Nat) : Ecc → State
  | .clean => (s.count (CH_PC_FILL_CNT (g / 32))).cacheLine (g / 32) line
  | .corrected n => ((s.count (CH_PC_FILL_CNT (g / 32))).cacheLine (g / 32) line).countN (CH_PC_CORR_CNT (g / 32)) n
  | .uncorrectable _ =>
    (((s.count (CH_PC_FILL_CNT (g / 32))).setChan (g / 32) (fun ch => ch.discard line)).count (CH_PC_UNCORR_CNT (g / 32))).chanEvent g 3

theorem pcLineFill_arrives {s : State} {g line : Nat} (hg : g < 128) (hgate : s.gateOpen (g / 32) = true) (hmem : 256 * line < memSize)
    (hp : s.poisonedIn (256 * line) 256 = false) (ecc : Ecc) : pcLineFill g line ecc s = s.lineArrived g line ecc := by
  unfold pcLineFill
  rw [if_neg (by simp [hgate]; omega), hp]
  cases ecc <;> rfl

/-! ## Enabling -/

/-- No state of an engine is the enable register. -/
theorem State.setEngState_rdN_enable (s : State) (g st c : Nat) : (s.setEngState g st).rdN (CH_ENG_ENABLE c) = s.rdN (CH_ENG_ENABLE c) := by
  rw [State.setEngState, State.rdN_putBit_off, State.rdN_putBit_off, State.rdN_putBit_off, State.rdN_put_off] <;>
    simp only [ne_eq, CH_ENG_ENABLE, CH_ENG_STATE, CH_ENG_IDLE, CH_ENG_FAULTED, CH_ENG_OFFLINE] <;> omega

/-- What a write of CH_ENG_ENABLE does to one engine: a disabled one that waits goes OFFLINE. -/
def State.offlineIfDisabled (s : State) (g : Nat) : State :=
  if !s.engEnabled g && (s.engState g == esIdle || s.engState g == esParked) then s.setEngState g esOffline else s

theorem State.offlineIfDisabled_rdN_enable (s : State) (g c : Nat) : (s.offlineIfDisabled g).rdN (CH_ENG_ENABLE c) = s.rdN (CH_ENG_ENABLE c) := by
  unfold State.offlineIfDisabled
  split
  · exact s.setEngState_rdN_enable g _ c
  · rfl

theorem State.offlineIfDisabled_engState (s : State) {g k : Nat} (hg : g < 128) (hk : k < 128) : (s.offlineIfDisabled g).engState k =
    if k = g ∧ s.engEnabled k = false ∧ (s.engState k = 1 ∨ s.engState k = 5) then 0 else s.engState k := by
  unfold State.offlineIfDisabled
  by_cases h : k = g
  · subst h
    by_cases hoff : s.engEnabled k = false ∧ (s.engState k = 1 ∨ s.engState k = 5)
    · rw [if_pos (by simpa using hoff), if_pos ⟨rfl, hoff⟩, State.setEngState_engState_same _ _ (by decide)]
    · rw [if_neg (by simpa using hoff), if_neg (fun h => hoff h.2)]
  · split
    · rw [if_neg (fun hand => h hand.1), s.setEngState_engState_ne hg hk h]
    · rw [if_neg (fun hand => h hand.1)]

/-- Over a list of engines: the enable registers stay, and each disabled engine of the list that waits goes OFFLINE. -/
theorem State.foldl_offlineIfDisabled (l : List Nat) (hl : ∀ g ∈ l, g < 128) (s : State) :
    (∀ c, (l.foldl State.offlineIfDisabled s).rdN (CH_ENG_ENABLE c) = s.rdN (CH_ENG_ENABLE c))
      ∧ ∀ k < 128, (l.foldl State.offlineIfDisabled s).engState k =
        if k ∈ l ∧ s.engEnabled k = false ∧ (s.engState k = 1 ∨ s.engState k = 5) then 0 else s.engState k := by
  induction l generalizing s with
  | nil => exact ⟨fun _ => rfl, fun k _ => by simp⟩
  | cons g rest ih =>
    obtain ⟨henable, hstate⟩ := ih (fun j hj => hl j (List.mem_cons_of_mem g hj)) (s.offlineIfDisabled g)
    refine ⟨fun c => (henable c).trans (s.offlineIfDisabled_rdN_enable g c), fun k hk => ?_⟩
    have henabled : (s.offlineIfDisabled g).engEnabled k = s.engEnabled k := by
      rw [State.engEnabled, State.offlineIfDisabled_rdN_enable, State.engEnabled]
    rw [List.foldl_cons, hstate k hk, henabled, s.offlineIfDisabled_engState (hl g List.mem_cons_self) hk]
    by_cases h : k = g ∧ s.engEnabled k = false ∧ (s.engState k = 1 ∨ s.engState k = 5)
    · rw [if_pos h, if_neg (by simp), if_pos ⟨List.mem_cons.mpr (.inl h.1), h.2⟩]
    · rw [if_neg h]
      refine if_congr ?_ rfl rfl
      rw [List.mem_cons]
      tauto

theorem engEnableWrite_eq {c : Nat} (hc : c < 4) (val : Word) (s : State) :
    engEnableWrite c val s = (chanEngines c).foldl State.offlineIfDisabled (s.lockedWrite (CH_ENG_ENABLE c) val) := if_neg (by omega)

/-- A write of a register of which every bit is unlocked. -/
theorem State.lockedWrite_unlocked {s : State} {off : Nat} (h : s.unlocked off &&& rwlBits off = 2 ^ 32 - 1) (val : Word) :
    s.lockedWrite off val = s.wrN off val.toNat := by
  have hx : s.rdN off ^^^ val.toNat < 2 ^ 32 := Nat.xor_lt_two_pow (s.rdN_lt off) val.isLt
  have hval : s.rdN off ^^^ ((s.rdN off ^^^ val.toNat) &&& (rwlBits off &&& s.unlocked off)) = val.toNat := by
    rw [Nat.and_comm (rwlBits off), h, Nat.and_two_pow_sub_one_eq_mod, Nat.mod_eq_of_lt hx, Nat.xor_xor_cancel_left]
  have hlocked : (s.rdN off ^^^ val.toNat) &&& (rwlBits off ^^^ (rwlBits off &&& s.unlocked off)) = 0 := by
    apply Nat.eq_of_testBit_eq
    intro i
    rw [Nat.and_comm (rwlBits off), h, Nat.zero_testBit, Nat.testBit_and, Nat.testBit_xor (rwlBits off), Nat.testBit_two_pow_sub_one]
    by_cases hi : i < 32
    · have hbit := congrArg (·.testBit i) h
      simp only [Nat.testBit_and, Nat.testBit_two_pow_sub_one, hi, decide_true, Bool.and_eq_true] at hbit
      rw [hbit.2, decide_eq_true hi, Bool.xor_self, Bool.and_false]
    · rw [Nat.testBit_lt_two_pow (lt_of_lt_of_le hx (Nat.pow_le_pow_right (by decide) (not_lt.mp hi))), Bool.false_and]
  simp only [State.lockedWrite, State.lockedBits, hval, hlocked, ne_eq, not_true_eq_false, ↓reduceIte]

theorem noEngState_enable (c : Nat) : NoEngState (CH_ENG_ENABLE c) := noEngState_channel (d := 0x14) (by decide)

theorem mem_chanEngines {c g : Nat} : g ∈ chanEngines c ↔ g / 32 = c := by
  simp only [chanEngines, rangeFrom, List.mem_map, List.mem_range]
  exact ⟨by omega, fun h => ⟨g % 32, by omega⟩⟩

/-- The enable register and the states of the engines after a write of it with every bit unlocked. -/
theorem engEnableWrite_shows {s : State} {c : Nat} (hc : c < 4)
    (h : s.unlocked (CH_ENG_ENABLE c) &&& rwlBits (CH_ENG_ENABLE c) = 2 ^ 32 - 1) (val : Word) :
    (engEnableWrite c val s).rdN (CH_ENG_ENABLE c) = val.toNat ∧ ∀ k < 128, (engEnableWrite c val s).engState k =
      if k / 32 = c ∧ bitAt val.toNat (k % 32) = false ∧ (s.engState k = 1 ∨ s.engState k = 5) then 0 else s.engState k := by
  have hreg : (s.wrN (CH_ENG_ENABLE c) val.toNat).rdN (CH_ENG_ENABLE c) = val.toNat := by
    rw [State.rdN_wrN, if_pos rfl, Nat.mod_eq_of_lt val.isLt]
  obtain ⟨henable, hstate⟩ := State.foldl_offlineIfDisabled (chanEngines c) (fun g hg => by have := mem_chanEngines.mp hg; omega)
    (s.wrN (CH_ENG_ENABLE c) val.toNat)
  rw [engEnableWrite_eq hc, State.lockedWrite_unlocked h]
  refine ⟨(henable c).trans hreg, fun k hk => ?_⟩
  rw [hstate k hk, State.engState_wrN _ (noEngState_enable c)]
  refine if_congr ((and_congr_left' mem_chanEngines).trans (and_congr_right fun hkc => ?_)) rfl rfl
  rw [State.engEnabled, hkc, hreg]

/-! ## Debug access -/

theorem regRowAt_dbgData : ∀ c < 4, (regRowAt (CH_DBG_DATA c)).isSome = true := by decide

/-- A host write that reaches its register, where the pair does not share it. -/
theorem State.hostDo_alone {s : State} {off : Nat} (h : s.reaches off) (hp : pairShared off = false) (val : Word) (f : State → State) :
    s.hostDo off val f = f s := by
  obtain ⟨hd, hon, -⟩ := h
  simp only [State.hostDo, hd, hon, hp, Bool.and_false, Bool.false_and, Bool.false_eq_true, ↓reduceIte]

theorem State.debugAccess_reaches {s : State} {c : Nat} (h : s.reaches (CH_DBG_DATA c)) (hc : c < 4) (isWrite : Bool) (val : Word) (ecc : Ecc) :
    s.debugAccess c isWrite val ecc = if isWrite then dbgDataAccess c true val ecc s else dbgDataAccess c false 0 ecc s := by
  obtain ⟨r, hrow⟩ := Option.isSome_iff_exists.mp (regRowAt_dbgData c hc)
  rw [State.debugAccess, State.hostGate_defined h.1 h.2.1 hrow, State.hostDo_alone h (pairShared_below (by simp only [CH_DBG_DATA]; omega))]

/-- The engine that CH_DBG_SEL names. -/
def State.dbgEngine (s : State) (c : Nat) : Nat := 32 * c + s.bits (CH_DBG_SEL c) 4 0

/-- The address that CH_DBG_ADDR holds. -/
def State.dbgAddr (s : State) (c : Nat) : Nat := s.bits (CH_DBG_ADDR c) 18 2 * 4

/-- CH_DBG_ADDR of `t` behind the word that it names in `s`. -/
def State.dbgStepped (s : State) (c : Nat) (t : State) : State := t.wrN (CH_DBG_ADDR c) ((s.dbgAddr c + 4) % 2 ^ 19)

theorem dbgDataAccess_write {s : State} {c : Nat} (hc : c < 4) (hst : s.engState (s.dbgEngine c) = 0) (val : Word) :
    dbgDataAccess c true val .clean s =
      s.dbgStepped c (s.setEng (s.dbgEngine c) (fun e => { e.lsWrite (s.dbgAddr c) (leBytes 4 val.toNat) with dirty := true })) := by
  unfold dbgDataAccess
  rw [if_neg (by omega)]
  exact if_neg (not_not.mpr hst)

theorem dbgDataAccess_read {s : State} {c : Nat} (hc : c < 4) (hst : s.engState (s.dbgEngine c) = 0) (val : Word) :
    dbgDataAccess c false val .clean s = (s.dbgStepped c s).complete ((s.eng (s.dbgEngine c)).lsRead (s.dbgAddr c) 4) false := by
  unfold dbgDataAccess
  rw [if_neg (by omega)]
  exact if_neg (not_not.mpr hst)

theorem dbgDataAccess_refused {s : State} {c : Nat} (hc : c < 4) (hst : s.engState (s.dbgEngine c) ≠ 0) (isWrite : Bool) (val : Word)
    (ecc : Ecc) :
    dbgDataAccess c isWrite val ecc s = if isWrite then s.dbgStepped c (s.chanEvent (s.dbgEngine c) 0)
      else (s.dbgStepped c (s.chanEvent (s.dbgEngine c) 0)).complete [0, 0, 0, 0] false := by
  unfold dbgDataAccess
  rw [if_neg (by omega)]
  exact if_pos hst

/-- A debug access that reaches its register answers what it does there. -/
theorem answers_dbgDataAccess {s t : State} {c : Nat} (h : s.reaches (CH_DBG_DATA c)) (hc : c < 4) {isWrite : Bool} {val : Word} {ecc : Ecc}
    (ht : (if isWrite then dbgDataAccess c true val ecc s else dbgDataAccess c false 0 ecc s) = t) :
    answers (.dbgDataAccess c isWrite ⟨val, ecc⟩) s t := by
  rw [answers_iff, exec_dbgDataAccess, if_pos hc, State.debugAccess_reaches h hc, ht]

/-- Settles O34, clause by clause. -/
theorem engineLifecycle : Obligations.EngineLifecycle := by
  refine ⟨?run, ?build, ?timeout, ?reload, ?offline, ?idle, ?parked, ?failed, ?scrub, ?scrubCorrected, ?scrubUncorrectable, ?fill, ?fillCorrected,
    ?fillUncorrectable, ?enable, ?dbgWrite, ?dbgRead, ?dbgRefused⟩
  case run => exact fun s c g it rest hcore hg hq => answers_runCore (exec_workItemDispatch ..) hcore (workItemDispatch_run hg hq)
  case build => exact fun s c g it rest hcore hg hq => answers_runCore (exec_workItemDispatch ..) hcore (workItemDispatch_build hg hq)
  case timeout => exact fun s g hcore hg hst hlim hlate => answers_runCore (exec_wiTimeout ..) hcore (wiTimeout_late hg hst hlim hlate)
  case reload => exact fun s g hcore hg hst => answers_runCore (exec_engReloadStart ..) hcore (engReloadStart_faulted hg hst)
  case offline =>
    intro s g hcore hg hst hp hoff
    refine answers_runCore (exec_engReloadDone ..) hcore ?_
    rw [engReloadDone_copied hg hst hp, if_pos (by rcases hoff with h | h <;> simp [h])]
    rfl
  case idle =>
    intro s g hcore hg hst hp hen hruns hbuild
    refine answers_runCore (exec_engReloadDone ..) hcore ?_
    rw [engReloadDone_copied hg hst hp, hen, hruns, hbuild]
    rfl
  case parked =>
    intro s g hcore hg hst hp hen hruns hbuild
    refine answers_runCore (exec_engReloadDone ..) hcore ?_
    rw [engReloadDone_copied hg hst hp, hen, hruns, hbuild]
    rfl
  case failed => exact fun s g ok hcore hg hst h => answers_runCore (exec_engReloadDone ..) hcore (engReloadDone_failed hg hst h)
  case scrub =>
    intro s c hcore hc hgate
    refine answers_runCore (exec_lsScrub ..) hcore ?_
    rw [lsScrub_eq hc hgate, filter_bitAt_zero]
    rfl
  case scrubCorrected =>
    intro s c k hcore hc hk hgate
    refine answers_runCore (exec_lsScrub ..) hcore ?_
    rw [lsScrub_eq hc hgate, filter_bitAt_zero, filter_bitAt_two_pow k hk, List.foldl_nil, List.foldl_cons, List.foldl_nil,
      State.lsCorrected_some (by decide), show (32 * c + k) / 32 = c by omega]
    rfl
  case scrubUncorrectable =>
    intro s c k hcore hc hk hgate
    refine answers_runCore (exec_lsScrub ..) hcore ?_
    rw [lsScrub_eq hc hgate, filter_bitAt_zero, filter_bitAt_two_pow k hk, List.foldl_nil, List.foldl_cons, List.foldl_nil]
    rfl
  case fill =>
    intro s g line hcore hg hgate hmem hp
    exact answers_runCore (exec_pcLineFill ..) hcore (pcLineFill_arrives hg hgate hmem hp .clean)
  case fillCorrected =>
    intro s g line n hcore hg hgate hmem hp
    exact answers_runCore (exec_pcLineFill ..) hcore (pcLineFill_arrives hg hgate hmem hp (.corrected n))
  case fillUncorrectable =>
    intro s g line a hcore hg hgate hmem hp
    exact answers_runCore (exec_pcLineFill ..) hcore (pcLineFill_arrives hg hgate hmem hp (.uncorrectable a))
  case enable =>
    intro s c val hr hc hun
    obtain ⟨hreg, hstate⟩ := engEnableWrite_shows hc hun val
    have hshared : pairShared (CH_ENG_ENABLE c) = false := pairShared_below (by simp only [CH_ENG_ENABLE]; omega)
    refine ⟨s.keepQueue (engEnableWrite c val s), ?_, hreg, fun e he hbit hidle => ?_, fun g hg hrun => ?_⟩
    · rw [exec_engEnableWrite, State.runHost_alone hr hshared]
    · refine (hstate (32 * c + e) (by omega)).trans (if_pos ⟨by omega, ?_, .inl hidle⟩)
      rw [show (32 * c + e) % 32 = e by omega, hbit]
    · exact (hstate g hg).trans ((if_neg (by omega)).trans hrun)
  case dbgWrite =>
    rintro s c g val hr hc rfl hst
    exact answers_dbgDataAccess hr hc (dbgDataAccess_write hc hst val)
  case dbgRead =>
    rintro s c g hr hc rfl hst
    exact answers_dbgDataAccess hr hc (dbgDataAccess_read hc hst 0)
  case dbgRefused =>
    rintro s c g isWrite val hr hc rfl hst
    refine answers_dbgDataAccess hr hc ?_
    rw [dbgDataAccess_refused hc hst, dbgDataAccess_refused hc hst]
    cases isWrite <;> rfl

end Sys2Proof.Machine
end

section
/-!
PROOF. Eye sets, the camera path's host writes, and builds (R135, R136, R154, R158, R161 to R165, R175).
-/

namespace Sys2Proof.Machine

/-! ## Host writes, and what a message to the partner leaves -/

theorem answers_runHost {c : Instr} {s t : State} {off : Nat} {val : Word} {f : State → State}
    (hc : exec c s = .next (s.runHost off val f)) (hr : s.reaches off) (ht : f s = t) : answers c s (t.passedOn off val) := by
  rw [answers_iff, hc, State.runHost_reaches hr, ht]

/-- A message to the partner waits on its link, and changes nothing else. -/
theorem State.toPartner_keeps (s : State) (m : EhlMsg) : (s.toPartner m).regs = s.regs ∧ (s.toPartner m).cam = s.cam := by
  unfold State.toPartner State.ehlSend
  split
  · split <;> exact ⟨rfl, rfl⟩
  · exact ⟨rfl, rfl⟩

theorem State.toPartner_rd (s : State) (m : EhlMsg) (o : Nat) : (s.toPartner m).rd o = s.rd o := by
  rw [← State.rd_ofRegs, (s.toPartner_keeps m).1, State.rd_ofRegs]

theorem State.toPartner_get (s : State) (m : EhlMsg) (f : Fld) : (s.toPartner m).get f = s.get f := by
  rw [State.get, State.toPartner_rd, State.get]

theorem State.passedOn_get (s : State) (off : Nat) (val : Word) (f : Fld) : (s.passedOn off val).get f = s.get f := by
  unfold State.passedOn
  split
  · exact s.toPartner_get _ f
  · rfl

/-! ## Eye sets (R135, R136) -/

theorem eyeSetCommit_registers {s : State} (h : s.on CMP_SYN_CFG_EYE_SRC = false) (val : Word) :
    eyeSetCommit val s = (s.wrN CMP_SYN_EYE_SEQ (val.toNat % 65536)).commitEyes s.shadowEyes (s.bits CMP_SYN_EYE_VALID 7 0) (val.toNat % 65536) :=
  if_neg (Bool.eq_false_iff.mp h)

theorem eyeSetCommit_tracker {s : State} (h : s.on CMP_SYN_CFG_EYE_SRC = true) (val : Word) :
    eyeSetCommit val s = s.wrN CMP_SYN_EYE_SEQ (val.toNat % 65536) := if_pos h

theorem State.settleEyes_committed {s : State} {e : List EyeBox × Nat × Nat} (h : s.frame.eyesIn = some e) :
    s.settleEyes = State.put { s with frame := { s.frame with eyes := e.1, eyeValid := e.2.1, eyeSeq := e.2.2, eyeNew := true, eyesIn := none } }
      CMP_SYN_STATUS_STALE 0 := by
  rw [State.settleEyes, h]

theorem State.judgeEyes_stale {s : State} (hage : s.bits CMP_SYN_EYE_AGE 7 0 ≠ 0) (hold : s.bits CMP_SYN_EYE_AGE 7 0 ≤ s.frame.eyeAge)
    (hfresh : s.on CMP_SYN_STATUS_STALE = false) : s.judgeEyes = (s.put CMP_SYN_STATUS_STALE 1).raise 280 0 :=
  if_pos ⟨hage, hold, by rw [hfresh]; rfl⟩

theorem eyeStale_atStart {s : State} (hsec : s.isSecondary = false) (hnew : s.frame.eyeNew = false) (hstart : s.frame.startAt = s.now)
    (hseen : s.frame.seen = true) : eyeStale s = s.judgeEyes :=
  if_neg (by simp [hsec, hnew, hstart, hseen])

/-! ## The states of the cameras in CMP_CAM_STATE (R163) -/

/-- A field that lies beyond the register: writing it changes nothing. -/
theorem Fld.ins_beyond {f : Fld} (h : 32 ≤ f.lo) (hle : f.lo ≤ f.hi) (w : Word) (x : Nat) : f.ins w x = w := by
  have hlow : w.toNat < 2 ^ f.lo := w.isLt.trans_le (Nat.pow_le_pow_right (by decide) h)
  have hhigh : w.toNat < 2 ^ (f.hi + 1) := hlow.trans_le (Nat.pow_le_pow_right (by decide) (by omega))
  obtain ⟨k, hk⟩ : 2 ^ 32 ∣ x % 2 ^ (f.hi + 1 - f.lo) * 2 ^ f.lo := (pow_dvd_pow 2 h).mul_left _
  rw [Fld.ins]
  simp only [Nat.mod_eq_of_lt hlow, Nat.div_eq_of_lt hhigh, Nat.zero_mul, Nat.add_zero, hk]
  refine BitVec.eq_of_toNat_eq ?_
  rw [BitVec.toNat_ofNat, Nat.add_mul_mod_self_left, Nat.mod_eq_of_lt w.isLt]

theorem State.setCamState_camState_same {c : Nat} (hc : c < 16) (s : State) (st : Nat) : (s.setCamState c st).camState c = st % 4 := by
  rw [State.setCamState, State.camState, State.get_put_same s _ st (by simp) (by simp; omega)]
  simp only [show 2 * c + 1 + 1 - 2 * c = 2 by omega]
  rfl

theorem State.setCamState_camState_ne {c k : Nat} (h : k ≠ c) (s : State) (st : Nat) : (s.setCamState c st).camState k = s.camState k := by
  by_cases hc : c < 16
  · exact State.get_put_disjoint s _ _ st (by simp) (by simp; omega) (by simp; omega)
  · simp only [State.setCamState, State.camState, State.get, State.rd_put, ↓reduceIte]
    rw [Fld.ins_beyond (by simp; omega) (by simp)]

/-- A camera that enters LATE shows it in its state, and in no other register. -/
theorem State.camLate_get (s : State) (c : Nat) (f : Fld) : (s.camLate c).get f = (s.setCamState c 2).get f := by
  rw [State.camLate, State.raiseMask_get]
  rfl

theorem State.camLate_camState (s : State) {c k : Nat} (hk : k < 16) : (s.camLate c).camState k = if k = c then 2 else s.camState k := by
  rw [State.camState, State.camLate_get]
  split
  next h =>
    subst h
    exact State.setCamState_camState_same hk s 2
  next h => exact State.setCamState_camState_ne h s 2

/-! ## Enabling the camera path (R154, R163) -/

/-- What enabling does to one sweep camera. -/
def State.lateOnEnable (s : State) (e : Nat × CamRec) : State := if s.camState e.1 = 2 then s else s.camLate e.1

theorem State.lateOnEnable_enters {s : State} {e : Nat × CamRec} (h : s.camState e.1 ≠ 2) : s.lateOnEnable e = s.camLate e.1 := if_neg h

theorem State.lateOnEnable_camState (s : State) (e : Nat × CamRec) {k : Nat} (hk : k < 16) :
    (s.lateOnEnable e).camState k = if k = e.1 then 2 else s.camState k := by
  by_cases h : s.camState e.1 = 2
  · rw [State.lateOnEnable, if_pos h]
    split
    next hke => rw [hke, h]
    next => rfl
  · rw [State.lateOnEnable_enters h, s.camLate_camState hk]

theorem State.lateOnEnable_get (s : State) (e : Nat × CamRec) {f : Fld} (h : f.off ≠ CMP_CAM_STATE) : (s.lateOnEnable e).get f = s.get f := by
  unfold State.lateOnEnable
  split
  · rfl
  · exact (s.camLate_get e.1 f).trans (State.get_put_off s _ f 2 h)

/-- Over a list of cameras: those of the list are in LATE, and those that were stay there. -/
theorem State.foldl_lateOnEnable_camState (l : List (Nat × CamRec)) (s : State) {k : Nat} (hk : k < 16)
    (h : s.camState k = 2 ∨ ∃ e ∈ l, e.1 = k) : (l.foldl State.lateOnEnable s).camState k = 2 := by
  induction l generalizing s with
  | nil => simpa using h
  | cons a rest ih =>
    refine ih (s.lateOnEnable a) ?_
    rw [s.lateOnEnable_camState a hk]
    by_cases hka : k = a.1
    · exact .inl (if_pos hka)
    · rw [if_neg hka]
      simpa [Ne.symm hka] using h

theorem camEnable_refused {s : State} (h : s.get (CMP_STK_CFG_SOURCE s.camStream) ≠ 2) : camEnable s = s.put CMP_CAM_STATUS_SKIP 6 := if_pos h

theorem camEnable_camera {s : State} (h : s.get (CMP_STK_CFG_SOURCE s.camStream) = 2) :
    camEnable s = s.sweepCams.foldl State.lateOnEnable (s.put CMP_CAM_CFG_ENABLE 1) := if_neg (not_not.mpr h)

theorem camEnable_on {s : State} (h : s.get (CMP_STK_CFG_SOURCE s.camStream) = 2) : (camEnable s).get CMP_CAM_CFG_ENABLE = 1 := by
  rw [camEnable_camera h]
  exact foldl_keeps (P := fun t => t.get CMP_CAM_CFG_ENABLE = 1) State.lateOnEnable
    (fun t e ht => (t.lateOnEnable_get e (by decide)).trans ht) _ _ (State.get_put_same s _ 1)

theorem camEnable_late {s : State} (h : s.get (CMP_STK_CFG_SOURCE s.camStream) = 2) {e : Nat × CamRec} (he : e ∈ s.sweepCams)
    (hlt : e.1 < 16) : (camEnable s).camState e.1 = 2 := by
  rw [camEnable_camera h]
  exact State.foldl_lateOnEnable_camState _ _ hlt (.inr ⟨e, he, rfl⟩)

/-! ## Build instants (R161 to R165) -/

theorem buildInstant_due {s : State} {t : Nat} (hsec : s.isSecondary = false) (hen : s.on CMP_CAM_CFG_ENABLE = true) (hpwr : s.pwrState ≤ 1)
    (hstop : s.pwr.stopping = none) (hfirst : s.cam.instant ≠ some s.evc.tick) (ht : s.instantFrom s.ptpFrom = some t)
    (hlt : t < s.ptpTickEnd) : buildInstant s = s.buildAt t := by
  simp [buildInstant, hsec, hen, hpwr.not_gt, hstop, hfirst, ht, hlt.not_ge]

/-- A build that starts: what its registers and the partner are shown, behind the state `u` that holds its items. -/
def State.buildShown (u : State) (number present : Nat) (m : EhlMsg) : State :=
  (((u.wrN CMP_CAM_BUILD_NO number).wrN CMP_CAM_PRESENT present).put CMP_CAM_STATUS_BUILD 1).toPartner m

theorem State.buildShown_number (u : State) {number : Nat} (h : number < 2 ^ 32) (present : Nat) (m : EhlMsg) :
    (u.buildShown number present m).rdN CMP_CAM_BUILD_NO = number := by
  rw [State.buildShown, State.rdN, State.toPartner_rd, State.rd_put, if_neg (by decide), State.rd_wrN, if_neg (by decide), State.rd_wrN,
    if_pos rfl, BitVec.toNat_ofNat, Nat.mod_eq_of_lt h]

theorem State.buildShown_status (u : State) (number present : Nat) (m : EhlMsg) :
    (u.buildShown number present m).get CMP_CAM_STATUS_BUILD = 1 := by
  exact (State.toPartner_get _ m _).trans (State.get_put_same _ CMP_CAM_STATUS_BUILD 1)

theorem State.buildShown_cam (u : State) (number present : Nat) (m : EhlMsg) : (u.buildShown number present m).cam = u.cam :=
  (State.toPartner_keeps _ m).2

theorem State.foldl_showQueues_cam (l : List Nat) (s : State) : (l.foldl State.showQueues s).cam = s.cam :=
  foldl_keeps (P := fun t => t.cam = s.cam) State.showQueues (fun _ _ ht => ht) l s rfl

/-- A build that gets its tables: its record, and the registers that show it (R165 to R167). -/
theorem State.startBuild_tables {s : State} {ts : List Nat}
    (h : s.allocTables s.camStream (s.rigPlanes s.rig) [s.descSlot s.camStream ((s.acquirable s.camStream).getD 0)] = some ts)
    (target : Int) (restart : Bool) (sel : List (Nat × CamRec × Pic)) :
    ∃ u present m b, s.startBuild target restart sel = State.buildShown u ((s.rdN CMP_CAM_BUILD_NO + 1) % 2 ^ 32) present m
      ∧ u.cam.restart = false ∧ u.cam.build = some b ∧ b.number = (s.rdN CMP_CAM_BUILD_NO + 1) % 2 ^ 32
      ∧ b.items = s.tileCols * s.tileRows := by
  simp only [State.startBuild, h]
  refine ⟨_, _, _, ?record, rfl, ?restart, ?build, ?number, ?items⟩
  case restart => rw [State.foldl_showQueues_cam]
  case build => rw [State.foldl_showQueues_cam]
  all_goals rfl

/-! ## The statement -/

/-- Settles O35, clause by clause: eye sets, enabling the camera path, the rig copy and RESTART, and the builds. -/
theorem viewersCamerasAndBuilds : Obligations.ViewersCamerasAndBuilds := by
  refine ⟨?registers, ?tracker, fun s e h => State.settleEyes_committed h, ?stale, ?refused, ?enabled, ?single, ?rig, ?restart, ?settle,
    ?instant, ?built, ?started⟩
  case registers =>
    intro s val hr hsrc
    exact answers_runHost (exec_eyeSetCommit val s) hr (eyeSetCommit_registers hsrc val)
  case tracker =>
    intro s val hr hsrc
    exact answers_runHost (exec_eyeSetCommit val s) hr (eyeSetCommit_tracker hsrc val)
  case stale =>
    intro s hcore hsec hnew hstart hseen hage hold hfresh
    exact answers_runCore (exec_eyeStale s) hcore ((eyeStale_atStart hsec hnew hstart hseen).trans (State.judgeEyes_stale hage hold hfresh))
  case refused =>
    intro s hr hsrc
    exact answers_runHost (exec_camEnable s) hr (camEnable_refused hsrc)
  case enabled =>
    intro s hr hsrc
    refine ⟨_, answers_runHost (exec_camEnable s) hr rfl, ?_, fun e he hlt => ?_⟩
    · rw [State.keepQueue_on, State.on, State.passedOn_get, camEnable_on hsrc]
      rfl
    · exact (State.passedOn_get _ _ _ _).trans (camEnable_late hsrc he hlt)
  case single =>
    intro s c e hr hsrc hcams hstate
    refine answers_runHost (exec_camEnable s) hr ?_
    rw [camEnable_camera hsrc, hcams, List.foldl_cons, List.foldl_nil, State.lateOnEnable_enters hstate]
    rfl
  case rig => exact fun s val hr => answers_runHost (exec_rigSelect val s) hr rfl
  case restart => exact fun s hr => answers_runHost (exec_camRestart s) hr rfl
  case settle => exact fun s h => ⟨by rw [State.settleCams, h, Bool.or_true], rfl⟩
  case instant =>
    intro s t hcore hsec hen hpwr hstop hfirst ht hlt
    exact answers_runCore (exec_buildInstant s) hcore (buildInstant_due hsec hen hpwr hstop hfirst ht hlt)
  case built =>
    rintro s u v t n r rfl rfl rfl rfl
    rfl
  case started =>
    intro s target restart sel ts hts
    obtain ⟨u, present, m, b, hstart, hrestart, hbuild, hnumber, hitems⟩ := State.startBuild_tables hts target restart sel
    rw [hstart, State.buildShown_cam]
    exact ⟨State.buildShown_number u (Nat.mod_lt _ (by decide)) present m, State.buildShown_status u _ present m, hrestart,
      b, hbuild, hnumber, hitems⟩

end Sys2Proof.Machine
end

section
/-!
PROOF. What a late layer of the CURRENT commit sends to the partner (R201, R419).
-/

namespace Sys2Proof.Machine

/-! ## Messages to the partner -/

theorem State.toPartner_cmp (s : State) (m : EhlMsg) : (s.toPartner m).cmp = s.cmp := by
  unfold State.toPartner State.ehlSend
  split
  · split <;> rfl
  · rfl

/-- A primary whose pair link is up has the message wait on that link (R420). -/
theorem State.toPartner_waiting {s : State} (hp : s.pairState = pairPrimary) (hup : s.ehlUp 0 = true) (hlinks : 0 < s.ehl.links.length)
    (m : EhlMsg) : ((s.toPartner m).ehlLink 0).waiting = (s.ehlLink 0).waiting ++ [(m, ehlBytes m)] := by
  rw [State.toPartner, if_pos hp, State.ehlSend, if_pos hup]
  simp [State.ehlLink, State.setLink, hlinks]

/-- So two messages that lead to the same state of its links are the same message. -/
theorem State.toPartner_injective {s : State} (hp : s.pairState = pairPrimary) (hup : s.ehlUp 0 = true) (hlinks : 0 < s.ehl.links.length)
    {m n : EhlMsg} (h : (s.toPartner m).ehl = (s.toPartner n).ehl) : m = n := by
  have hw : ((s.toPartner m).ehlLink 0).waiting = ((s.toPartner n).ehlLink 0).waiting := by
    rw [State.ehlLink, h, State.ehlLink]
  rw [State.toPartner_waiting hp hup hlinks, State.toPartner_waiting hp hup hlinks] at hw
  exact congrArg Prod.fst (List.singleton_inj.mp (List.append_cancel_left hw))

/-- The message of a commit that is itself the newest one carries no tile: it shares them all (R419). -/
theorem State.commitMsg_newest {s : State} {d : Commit} (h : s.newestCommit = some d) : (s.commitMsg d).tiles = [] := by
  rw [State.commitMsg, h]
  simp only [State.commitMsgFrom, List.flatMap_eq_nil_iff, List.map_eq_nil_iff, List.filter_eq_nil_iff]
  intro l _ t ht
  have hslot : t.2.2 ∈ d.slots := by
    refine List.mem_flatMap.mpr ⟨d.layer l, ?_, List.mem_map_of_mem ht⟩
    by_cases hl : l < d.layers.length
    · rw [Commit.layer, List.getD_eq_getElem _ _ hl]
      exact List.getElem_mem hl
    · rw [Commit.layer, List.getD_eq_default _ _ (not_lt.mp hl)] at ht
      cases ht
  simp [hslot]

/-! ## What rasterising leaves (R189): the Composer, the links and the state of the pair -/

/-- `t` has the commits, the Ehrus links and the pair state of `s`. -/
def State.SameCommits (s t : State) : Prop := t.cmp = s.cmp ∧ t.ehl = s.ehl ∧ t.pairState = s.pairState

theorem State.SameCommits.trans {s t u : State} (h : s.SameCommits t) (k : t.SameCommits u) : s.SameCommits u := by
  obtain ⟨hcmp, hehl, hpair⟩ := h
  obtain ⟨kcmp, kehl, kpair⟩ := k
  exact ⟨kcmp.trans hcmp, kehl.trans hehl, kpair.trans hpair⟩

theorem State.put_sameCommits (s : State) {f : Fld} (x : Nat) (h : EHL_STATUS_PAIR.off ≠ f.off) : s.SameCommits (s.put f x) :=
  ⟨s.put_cmp f x, s.put_ehl f x, s.get_put_off f _ x h⟩

theorem State.notePoisonRead_sameCommits (s : State) (c : Nat) : s.SameCommits (s.notePoisonRead c) :=
  ⟨rfl, rfl, State.get_count_off s (by decide)⟩

theorem State.memWriteWord_sameCommits (s : State) (c a : Nat) (bs : List Byte) : s.SameCommits (s.memWriteWord c a bs) := by
  unfold State.memWriteWord
  split
  · exact s.notePoisonRead_sameCommits c
  · dsimp only
    split <;> exact ⟨rfl, rfl, rfl⟩

theorem State.memWrite_sameCommits (s : State) (c a : Nat) (bs : List Byte) : s.SameCommits (s.memWrite c a bs) := by
  have hwords := foldl_keeps (P := s.SameCommits)
    (fun (t : State) (w : Nat × Nat × Nat) => t.memWriteWord c w.2.1 (slice bs (w.2.1 - a) w.2.2))
    (fun t w ht => ht.trans (t.memWriteWord_sameCommits c _ _)) (wordSpans a bs.length) s ⟨rfl, rfl, rfl⟩
  unfold State.memWrite
  dsimp only
  split
  · exact hwords
  · exact hwords.trans (State.put_sameCommits _ 0 (by decide))

theorem State.rasterTile_sameCommits (s : State) (lp : LayerPlane) (used : List Nat) (t : Nat × Nat) :
    s.SameCommits (s.rasterTile lp used t).1 := by
  unfold State.rasterTile
  split
  · exact s.notePoisonRead_sameCommits 5
  · split
    · exact ⟨rfl, rfl, rfl⟩
    · dsimp only
      exact s.memWrite_sameCommits 5 _ _

theorem State.rasterTiles_sameCommits (lp : LayerPlane) (used : List Nat) (ts : List (Nat × Nat)) (acc : List (Nat × Nat × Nat)) (s : State) :
    s.SameCommits (s.rasterTiles lp used ts acc).1 := by
  induction ts generalizing s acc with
  | nil => exact ⟨rfl, rfl, rfl⟩
  | cons t rest ih =>
    have htile := s.rasterTile_sameCommits lp (used ++ acc.map (fun a => a.2.2)) t
    unfold State.rasterTiles
    dsimp only
    split
    · exact htile
    · exact htile.trans (ih _ _)

theorem State.rasterLayer_sameCommits (s : State) (n : Nat) (lp : LayerPlane) (used : List Nat) (base : Option (List (Nat × Nat × Nat))) :
    s.SameCommits (s.rasterLayer n lp used base).1 := by
  unfold State.rasterLayer
  extract_lets all todo kept r
  split
  · exact s.notePoisonRead_sameCommits 5
  · split <;> exact State.rasterTiles_sameCommits lp used _ [] s

theorem State.rasterLate_sameCommits (s : State) (l : Nat) (c : Commit) : s.SameCommits (s.rasterLate l c).1 := by
  unfold State.rasterLate
  extract_lets lp r
  split
  · split <;> exact s.rasterLayer_sameCommits _ _ _ _
  · exact ⟨rfl, rfl, rfl⟩

/-! ## A late layer of the CURRENT commit (R201) -/

/-- The state with the commit that a late layer has been rasterised into as the CURRENT one. -/
def State.lateTaken (u : State) (d : Commit) : State := { u with cmp := { u.cmp with current := some d } }

section
variable {s u : State} {l : Nat} {c d : Commit} (hc : s.cmp.current = some c) (hr : s.rasterLate l c = (u, d))
  (hwaits : (c.layer l).waits = true) (hready : (d.layer l).ready = true) (hnoReady : u.cmp.ready = none) (hnoGated : u.cmp.gated = none)
  (hnoArrived : u.cmp.arrived = none)
include hc hr hwaits hready hnoReady hnoGated hnoArrived

/-- The partner gets the message as the state before the rasterisation forms it: it lists the new tiles, with what lay in their slots before. -/
theorem lateLayerReady_current : lateLayerReady l s = ((u.lateTaken d).toPartner (.commit (s.commitMsg d))).showPool := by
  simp only [lateLayerReady, State.lateTaken, hc, hr, hwaits, hready, Bool.and_self, ↓reduceIte, State.toPartner_cmp, hnoReady, hnoGated,
    hnoArrived]

/-- Where the layer has a new tile, a primary does not answer with the message that the state after the rasterisation forms: by then the
commit is the newest one, and its message lists no tile. -/
theorem not_answers_lateLayerReady_afterwards (hcore : s.coreOn = true) (hp : s.pairState = pairPrimary) (hup : s.ehlUp 0 = true)
    (hlinks : 0 < s.ehl.links.length) (htiles : (s.commitMsg d).tiles ≠ []) :
    ¬answers (.lateLayerReady l) s (((u.lateTaken d).toPartner (.commit ((u.lateTaken d).commitMsg d))).showPool) := by
  obtain ⟨-, hehl, hpair⟩ := s.rasterLate_sameCommits l c
  rw [hr] at hehl hpair
  have hup' : (u.lateTaken d).ehlUp 0 = true := (congrArg Ehl.linkUp hehl).trans hup
  have hlinks' : 0 < (u.lateTaken d).ehl.links.length := hlinks.trans_eq (congrArg (fun e => e.links.length) hehl.symm)
  have hnewest : (u.lateTaken d).newestCommit = some d := by
    simp [State.newestCommit, State.lateTaken, hnoReady, hnoGated, hnoArrived]
  rw [answers_iff, exec_lateLayerReady, State.runCore_on hcore,
    lateLayerReady_current hc hr hwaits hready hnoReady hnoGated hnoArrived]
  intro h
  have hlink := congrArg State.ehl (Host.Outcome.next.inj h)
  have hmsg := EhlMsg.commit.inj (State.toPartner_injective (s := u.lateTaken d) (hpair.trans hp) hup' hlinks' hlink)
  exact htiles ((congrArg CommitMsg.tiles hmsg).trans (State.commitMsg_newest hnewest))

end

/-! ## The refutation -/

/-- A layer of one pixel, enabled and signalled, of a buffer with a pitch of 64 bytes. -/
def latePixel : LayerPlane :=
  { regs := [1, 0, 0, 0, 0, 64, 0x10001, 0, 0x10001, 0, 0x10001], pending := false, ready := false, asHold := false, scaler := none, tiles := [] }

/-- A commit whose layer 0 is that layer. -/
def lateCommit : Commit := { seq := 1, cfg := 0, minNs := 0, maxNs := 0, wb := [], ofs := [], layers := [latePixel], since := 0 }

/-- The registers of a primary in CORE, with a panel of 32 × 32 hogels and one slot for layer tiles. -/
def lateRegs : State :=
  ([(PWR_PLL_STATUS, 0x1FFFF), (CMP_SYN_GEOM, 2 ^ 21 + 32), (CMP_CPOOL_SIZE, 385)].foldl (fun (st : State) w => st.wrN w.1 w.2) State.reset).put
    EHL_STATUS_PAIR pairPrimary

/-- That primary with its pair link up, and the commit CURRENT. -/
def lateState : State :=
  { lateRegs with cmp := { Composer.reset with current := some lateCommit }, ehl := { Ehl.reset with linkUp := true } }

/-- The model rasterises the layer there: it becomes ready, and has one tile that the partner does not have. -/
theorem lateState_rasterLate : ((lateState.rasterLate 0 lateCommit).2.layer 0).ready = true
    ∧ (lateState.commitMsg (lateState.rasterLate 0 lateCommit).2).tiles.length = 1 := by decide +kernel

/-- Refutes O37, in the clause of the late layer of the CURRENT commit: the message that the partner gets is that of the state before the
layer was rasterised and lists its new tile, and the one that the clause names is that of the state after and lists none. -/
theorem not_commitsAndLayers : ¬ Obligations.CommitsAndLayers := by
  unfold Obligations.CommitsAndLayers
  rintro ⟨-, -, -, -, -, -, -, -, -, -, -, -, -, -, -, hlate, -⟩
  have hcore : lateState.coreOn = true := by decide +kernel
  have hprimary : lateState.pairState = pairPrimary := by decide +kernel
  have hup : lateState.ehlUp 0 = true := by decide +kernel
  have hwaits : (lateCommit.layer 0).waits = true := by decide +kernel
  obtain ⟨hready, hone⟩ := lateState_rasterLate
  obtain ⟨hcmp, -, -⟩ := lateState.rasterLate_sameCommits 0 lateCommit
  generalize hr : lateState.rasterLate 0 lateCommit = r at hready hone hcmp
  obtain ⟨u, d⟩ := r
  have hnoReady : u.cmp.ready = none := congrArg Composer.ready hcmp
  have hnoGated : u.cmp.gated = none := congrArg Composer.gated hcmp
  have hnoArrived : u.cmp.arrived = none := congrArg Composer.arrived hcmp
  exact not_answers_lateLayerReady_afterwards rfl hr hwaits hready hnoReady hnoGated hnoArrived hcore hprimary hup (by decide)
    (List.ne_nil_of_length_eq_add_one hone) (hlate lateState 0 lateCommit d u hcore rfl hr hwaits hready hnoReady hnoGated hnoArrived)

end Sys2Proof.Machine
end

section
/-!
PROOF. Updates, rows and packets of the panel link, and the end of a frame (R212 to R232, R265).
-/

namespace Sys2Proof.Machine

/-! ## Updates (R222) -/

theorem updateStart_starts {s : State} {u : Update} (h : s.startable = some u) (hon : s.frameOn = true) (hset : s.frame.setup = false)
    (hd : s.drives = true) : updateStart u.upd s =
      (let gone := (List.range s.tiles.length).filter s.excluded
      let s1 := { s with spl := { s.spl with queue := s.spl.queue.map (Update.begin u.upd gone) } }
      ((s1.countN SPL_DROP_CNT (u.pieces.filter (fun p => gone.contains p.tile && !p.acked)).length).closeWindows).settleQueue) := by
  rw [updateStart, h]
  exact if_neg (by simp [hon, hset, hd])

theorem updateStart_waits {s : State} (upd : Nat) (h : s.startable = none ∨ s.frameOn = false ∨ s.frame.setup = true ∨ s.drives = false) :
    updateStart upd s = s := by
  unfold updateStart
  split
  next u hu => exact if_pos (.inr (h.resolve_left (by simp [hu])))
  next => rfl

/-! ## Rows (R214, R225, R242) -/

section
variable {s : State} {g : Nat} (hg : g < 6)
include hg

theorem packetSend_prbs (h : (s.group g).prbs ≠ []) : packetSend g s = s.setGroup g Group.sendPrbs := by
  rw [packetSend, if_neg (by omega), if_pos (by simpa using h)]

variable (hp : (s.group g).prbs = [])
include hp

theorem packetSend_ts1 (h : s.gState g = gTrain ∨ (s.gState g = gActive ∧ (s.group g).adapting = true)) :
    packetSend g s = s.sendRows g [(true, ts1Row g (s.group g).presets)] := by
  rw [packetSend, if_neg (by omega), if_neg (by simp [hp])]
  rcases h with hst | ⟨hst, had⟩
  · rw [hst]
    rfl
  · rw [hst]
    exact if_pos had

theorem packetSend_ts2 (h : s.gState g = gLock ∨ s.gState g = gCaps) :
    packetSend g s = s.sendRows g [(true, ts2Row g (s.get SPL_STATUS_ROLE) (s.rdN SPL_FRAME_CNT))] := by
  rw [packetSend, if_neg (by omega), if_neg (by simp [hp])]
  rcases h with hst | hst <;> rw [hst] <;> rfl

theorem packetSend_active (hst : s.gState g = gActive) (had : (s.group g).adapting = false) :
    packetSend g s = (if s.canSend g then s.nextPacket g else none).getD (s.sendRows g [(true, idleRow)]) := by
  rw [packetSend, if_neg (by omega), if_neg (by simp [hp]), hst]
  exact if_neg (by simp [had])

theorem packetSend_off (h : s.gState g < gTrain ∨ gActive < s.gState g) : packetSend g s = s := by
  have hoff : s.gState g < 2 ∨ 5 < s.gState g := h
  rw [packetSend, if_neg (by omega), if_neg (by simp [hp])]
  split
  case h_5 => rfl
  all_goals omega

end

/-- A group that sends packets is ACTIVE and not adapting. -/
theorem State.canSend_active {s : State} {g : Nat} (h : s.canSend g = true) : s.gState g = gActive ∧ (s.group g).adapting = false := by
  simp only [State.canSend, Bool.and_eq_true, beq_iff_eq, Bool.not_eq_true'] at h
  obtain ⟨⟨⟨hst, -⟩, -⟩, had⟩ := h
  exact ⟨hst, had⟩

/-! ## Correction packets (R232, R265) -/

theorem corrSend_leaves {s : State} {g : Nat} {c : Corr} (hc : (s.group g).corr.find? (fun c => !c.sent) = some c) (hcan : s.canSend g = true)
    (hw : s.windowOpen g = true) (ht : s.trickleOn = true) (hn : s.nextPacket g = none) :
    corrSend g s =
      (let s1 := s.setGroup g (fun k => { k with
        lastCorr := some c.granule
        corr := k.corr.map (fun d => if d.granule = c.granule then
          { d with sent := true, acked := s.excluded c.tile, frame := s.frameNo, att := s.corrAtt, lastAt := s.now } else d) })
      if s.excluded c.tile then s1.count SPL_DROP_CNT
      else (s1.sendPacket g (s.corrBytes c s.frameNo s.corrAtt false)).count CAL_TRICKLE_SENT_CNT) := by
  rw [corrSend, hc]
  exact if_neg (by simp [hcan, hw, ht, hn])

/-! ## The end of a frame (R228, R229) -/

theorem frameComplete_flips {s : State} (hsec : s.isSecondary = false) (hflip : s.canFlip = true) (hd : s.drives = true)
    (hlt : s.now < s.frame.deadline) : frameComplete s =
      (let delay := clampNat 2000 50000 (s.bits SPL_FLIP_DELAY 15 0)
      let ds := (s.frameCorr s.frameNo s.attNow).map (fun c => (c.granule, c.delta))
      (s.completeFrame delay (s.ptpTotalNs + delay) ds).toPartner
        (.fend { flip := true, frame := s.frameNo, att := s.attNow, doneNs := s.ptpTotalNs + delay, deltas := ds })) := by
  rw [frameComplete, if_neg (by simp [hsec])]
  exact if_pos (by simp [hflip, hd, hlt])

theorem frameComplete_waits {s : State} (hsec : s.isSecondary = false)
    (h : s.canFlip = false ∨ s.drives = false ∨ s.frame.deadline ≤ s.now) : frameComplete s = s := by
  rw [frameComplete, if_neg (by simp [hsec])]
  exact if_neg (by rcases h with h | h | h <;> simp [h])

theorem frameDeadline_passed {s : State} (hon : s.frameOn = true) (hd : s.drives = true) (hlt : s.frame.deadline < s.now + s.tickHalfNs) :
    frameDeadline s = s.abortFrame 1 := if_pos (by simp [hon, hd, hlt])

theorem frameDeadline_early {s : State} (h : s.drives = false ∨ s.now + s.tickHalfNs ≤ s.frame.deadline) : frameDeadline s = s :=
  if_neg (by rcases h with h | h <;> simp [h])

/-! ## The statement -/

/-- Settles O38, clause by clause: updates, rows, the precedence of packets, correction packets, the end of a frame, and late acknowledgements. -/
theorem panelUpdatesAndPackets : Obligations.PanelUpdatesAndPackets := by
  refine ⟨?starts, ?waits, ?prbs, ?ts1, ?ts2, ?packet, ?idle, ?off, ?precedence, ?corr, ?corrExcluded, ?flips, ?noFlip, ?deadline, ?early, ?late,
    ?lateDrive⟩
  case starts =>
    rintro s _ u hcore hu rfl hon hset hd
    exact answers_runCore (exec_updateStart ..) hcore (updateStart_starts hu hon hset hd)
  case waits => exact fun s upd hcore h => answers_runCore (exec_updateStart ..) hcore (updateStart_waits upd h)
  case prbs => exact fun s g hcore hg h => answers_runCore (exec_packetSend ..) hcore (packetSend_prbs hg h)
  case ts1 => exact fun s g hcore hg hp h => answers_runCore (exec_packetSend ..) hcore (packetSend_ts1 hg hp h)
  case ts2 => exact fun s g hcore hg hp h => answers_runCore (exec_packetSend ..) hcore (packetSend_ts2 hg hp h)
  case packet =>
    intro s g u hcore hg hp hcan hn
    obtain ⟨hst, had⟩ := State.canSend_active hcan
    exact answers_runCore (exec_packetSend ..) hcore (by rw [packetSend_active hg hp hst had, if_pos hcan, hn, Option.getD_some])
  case idle =>
    intro s g hcore hg hp hst had h
    refine answers_runCore (exec_packetSend ..) hcore ?_
    rw [packetSend_active hg hp hst had]
    rcases h with hcan | hn
    · rw [if_neg (by simp [hcan]), Option.getD_none]
    · rw [hn, ite_self, Option.getD_none]
  case off => exact fun s g hcore hg hp h => answers_runCore (exec_packetSend ..) hcore (packetSend_off hg hp h)
  case precedence =>
    intro s g
    unfold State.nextPacket
    cases (s.group g).resend.find? s.resendReady
    case some r => rfl
    case none => cases s.frameOn <;> rfl
  case corr | corrExcluded =>
    intro s g c hcore hc hcan hw ht hn hout
    refine answers_runCore (exec_corrSend ..) hcore ?_
    rw [corrSend_leaves hc hcan hw ht hn, hout]
    rfl
  case flips =>
    rintro s _ _ hcore hsec hflip hd hlt rfl rfl
    exact answers_runCore (exec_frameComplete s) hcore (frameComplete_flips hsec hflip hd hlt)
  case noFlip => exact fun s hcore hsec h => answers_runCore (exec_frameComplete s) hcore (frameComplete_waits hsec h)
  case deadline => exact fun s hcore hon hd hlt => answers_runCore (exec_frameDeadline s) hcore (frameDeadline_passed hon hd hlt)
  case early => exact fun s hcore h => answers_runCore (exec_frameDeadline s) hcore (frameDeadline_early h)
  case late =>
    rintro s t u p _ hcore hlate rfl
    exact answers_runCore (exec_pieceAckTimeout t s) hcore (by simp only [pieceAckTimeout, State.ackLate, hlate]; rfl)
  case lateDrive =>
    intro s t hcore hlate
    exact answers_runCore (exec_pieceAckTimeout t s) hcore (by simp only [pieceAckTimeout, State.ackLate, hlate])

end Sys2Proof.Machine
end

section
/-!
PROOF. Status records of the tiles (R218 to R220, R229, R234, R237 to R240).
-/

namespace Sys2Proof.Machine

/-! ## Acknowledgements (R218, R231) -/

section
variable {s : State} {g t : Nat} {r : StatusRec} {ok : Bool} (h : s.srTile g r ok = some t)
include h

theorem srAck_drive (hu : r.upd = 2047) : srAck g r ok s = s.ackDrive g t r := by
  rw [srAck, h]
  exact if_pos hu

theorem srAck_piece (hu : r.upd ≠ 2047) : srAck g r ok s =
    if s.frameOn ∧ r.frame = s.frameNo ∧ r.att = s.attNow ∧ s.deadlinePasses = false then
      ((s.showProgress t r).mapPieces (fun u p =>
        if u.upd = r.upd ∧ p.tile = t ∧ p.band = r.band ∧ u.phase = 1 then { p with acked := true } else p)).settleQueue
    else s.showProgress t r := by
  rw [srAck, h]
  exact if_neg hu

end

theorem State.ackDrive_refset {s : State} {t : Nat} {r : StatusRec} (hd : s.deadlinePasses = false) (hf : r.frame = s.frameNo)
    (ha : r.att = s.attNow) (hon : s.frameOn = true) (hq : ∃ q ∈ s.spl.refsets, q.tile = t ∧ q.sent = true ∧ q.acked = false) (g : Nat) :
    s.ackDrive g t r =
      { s with spl := { s.spl with refsets := s.spl.refsets.map (fun q => if q.tile = t then { q with acked := true } else q) } } := by
  rw [State.ackDrive, if_neg (by simp [hd])]
  refine if_pos ⟨hf, ha, hon, ?_⟩
  simpa [and_assoc] using hq

theorem State.ackDrive_corr {s : State} {g t : Nat} {r : StatusRec} {c : Corr} (hd : s.deadlinePasses = false) (hon : s.frameOn = false)
    (hc : (s.group g).corr.find? (fun c => c.tile == t && c.sent && !c.acked && c.frame == r.frame && c.att == r.att) = some c) :
    s.ackDrive g t r =
      s.setGroup g (fun k => { k with corr := k.corr.map (fun d => if d.granule = c.granule then { d with acked := true } else d) }) := by
  rw [State.ackDrive, if_neg (by simp [hd]), if_neg (by simp [hon]), hc]

/-! ## What a NAK names (R220, R231) -/

/-- A record of the frame in progress. -/
def State.ofFrame (s : State) (r : StatusRec) : Bool := s.frameOn && r.frame == s.frameNo && r.att == s.attNow

theorem State.ofFrame_true {s : State} {r : StatusRec} (hon : s.frameOn = true) (hf : r.frame = s.frameNo) (ha : r.att = s.attNow) :
    s.ofFrame r = true := by
  simp [State.ofFrame, hon, hf, ha]

theorem State.ofFrame_false {s : State} {r : StatusRec} (h : s.frameOn = false ∨ r.frame ≠ s.frameNo ∨ r.att ≠ s.attNow) :
    s.ofFrame r = false := by
  rcases h with h | h | h <;> simp [State.ofFrame, h]

/-- The piece in flight that a NAK names. -/
def State.nakPiece (s : State) (t : Nat) (r : StatusRec) : Option (Update × Piece) :=
  s.spl.queue.findSome? (fun u => (u.pieces.find? (fun p =>
    u.phase == 1 && p.tile == t && !p.acked && ((s.piecePackets u p).take p.next).contains (r.x, r.y))).map (fun p => (u, p)))

theorem State.nakPiece_none {s : State} {t : Nat} {r : StatusRec} (hp : s.ofFrame r = false ∨ s.nakPiece t r = none) :
    (if s.ofFrame r then s.nakPiece t r else none) = none := by
  rcases hp with hp | hp <;> simp [hp]

/-- The correction packet that a NAK names. -/
def State.nakCorr (s : State) (g t : Nat) (r : StatusRec) : Option Corr :=
  (s.group g).corr.find? (fun c => c.tile == t && c.sent && !c.acked && c.frame == r.frame && c.att == r.att && s.granuleAt c.granule == (r.x, r.y))

section
variable {s : State} {g t : Nat} {r : StatusRec} {ok : Bool} (h : s.srTile g r ok = some t)
include h

theorem srNak_named : srNak g r ok s =
    match (if s.ofFrame r then s.nakPiece t r else none) with
    | some up => (s.count (SPL_T_ERR_CNT t)).nakRect g up.1 up.2 r.x r.y
    | none => match s.nakCorr g t r with
      | some c => (s.count (SPL_T_ERR_CNT t)).corrAgain g c
      | none => match (if s.ofFrame r then s.spl.refsets.find? (fun q => q.tile == t && q.sent && !q.acked) else none) with
        | some q => (s.count (SPL_T_ERR_CNT t)).refsetAgain g q
        | none => s.count (SPL_T_ERR_CNT t) := by
  rw [srNak, h]
  rfl

theorem srNak_piece {u : Update} {p : Piece} (hf : s.ofFrame r = true) (hp : s.nakPiece t r = some (u, p)) :
    srNak g r ok s = (s.count (SPL_T_ERR_CNT t)).nakRect g u p r.x r.y := by
  rw [srNak_named h, hf, if_pos rfl, hp]

section
variable (hp : s.ofFrame r = false ∨ s.nakPiece t r = none)
include hp

theorem srNak_corr {c : Corr} (hc : s.nakCorr g t r = some c) : srNak g r ok s = (s.count (SPL_T_ERR_CNT t)).corrAgain g c := by
  rw [srNak_named h, State.nakPiece_none hp, hc]

theorem srNak_refset {q : Refset} (hc : s.nakCorr g t r = none) (hf : s.ofFrame r = true)
    (hq : s.spl.refsets.find? (fun q => q.tile == t && q.sent && !q.acked) = some q) :
    srNak g r ok s = (s.count (SPL_T_ERR_CNT t)).refsetAgain g q := by
  rw [srNak_named h, State.nakPiece_none hp, hc, hf, if_pos rfl, hq]

end

theorem srNak_nothing (hf : s.ofFrame r = false) (hc : s.nakCorr g t r = none) : srNak g r ok s = s.count (SPL_T_ERR_CNT t) := by
  rw [srNak_named h, State.nakPiece_none (.inl hf), hc, hf]
  rfl

end

/-! ## SWITCH (R237, R238) -/

/-- What every SWITCH record shows. -/
def State.switchShown (s : State) (t : Nat) (r : StatusRec) : State :=
  (((s.putB (SPL_T_STATUS_HERE t) r.here).count SPL_SWITCH_CNT).raiseMask 326 (2 ^ t)).showProgress t r

section
variable {s : State} {g t : Nat} {r : StatusRec} {ok : Bool} (h : s.srTile g r ok = some t)
include h

theorem srSwitch_away (hh : r.here = false) : srSwitch g r ok s = ((s.switchShown t r).demote).judgeTile t := by
  rw [srSwitch, h]
  exact if_neg (by simp [hh])

variable (hh : r.here = true)
include hh

theorem srSwitch_here (hp : s.pairState ≠ pairDetached) : srSwitch g r ok s =
    (if s.frameOn && (s.switchShown t r).drives && !(s.switchShown t r).excluded t then (s.switchShown t r).markDone t r
      else s.switchShown t r).judgeTile t := by
  simp only [srSwitch, h, hh, hp, State.switchShown, ↓reduceIte]

theorem srSwitch_detached (hp : s.pairState = pairDetached) (hon : s.frameOn = false) : srSwitch g r ok s =
    ((List.range s.tiles.length).foldl State.requestRestore (((s.switchShown t r).setPair pairSolo).raise 807 0)).judgeTile t := by
  simp only [srSwitch, h, hh, hp, hon, State.switchShown, ↓reduceIte, Bool.false_and, Bool.false_eq_true]

end

/-! ## CAPS (R239) -/

theorem srCaps_wrong {s : State} {g t : Nat} {r : StatusRec} (ht : s.tileAt r.taddr = some t)
    (h : (s.tileRec t).group ≠ g ∨ ((s.tileRec t).ref ≠ 0 ∧ (s.tileRec t).ref ≠ r.tileId)) :
    srCaps g r true s = if s.gState g = gCaps then (s.trainFail g 5).tryResume else s := by
  rw [srCaps, if_neg (by decide), ht]
  exact if_pos (by simpa using h)

theorem srCaps_fits {s : State} {g t : Nat} {r : StatusRec} (ht : s.tileAt r.taddr = some t) (hg : (s.tileRec t).group = g)
    (hid : (s.tileRec t).ref = 0 ∨ (s.tileRec t).ref = r.tileId) : srCaps g r true s =
      (let caps := (r.taddr, r.tileId, r.latency) :: ((s.group g).caps.filter (fun c => c.1 != r.taddr))
      let last := caps.foldl (fun b c => if b.1 ≤ c.1 then c else b) (0, 0, 0)
      ((((s.put (SPL_T_STATUS_PRESENT t) 1).putB (SPL_T_STATUS_CONTENT_VALID t) r.valid).setGroup g (fun k => { k with caps := caps })).wrN
        (SPL_G_CHAIN g) (caps.length % 16 + 2 ^ 8 * (last.2.2 % 4096))).judgeTile t) := by
  rw [srCaps, if_neg (by decide), ht]
  exact if_neg (by rcases hid with hid | hid <;> simp [hg, hid])

/-! ## The statement -/

/-- Settles O39, clause by clause: acknowledgements, NAKs, STAT, SWITCH, CAPS, LOCKLOSS and silence. -/
theorem tileStatusRecords : Obligations.TileStatusRecords := by
  refine ⟨?untaken, ?ack, ?ackLate, ?ackDrive, ?drive, ?nakPiece, ?nakCorr, ?nakRefset, ?nakNothing, ?stat, ?switchHere, ?switchDetached,
    ?switchFrame, ?switchAway, ?capsWrong, ?caps, ?capsBad, ?lockloss, ?silent⟩
  case untaken =>
    intro s g r ok hcore h
    exact ⟨answers_runCore (exec_srAck ..) hcore (by rw [srAck, h]), answers_runCore (exec_srNak ..) hcore (by rw [srNak, h]),
      answers_runCore (exec_srStat ..) hcore (by rw [srStat, h]), answers_runCore (exec_srSwitch ..) hcore (by rw [srSwitch, h]),
      answers_runCore (exec_srLockloss ..) hcore (by rw [srLockloss, h])⟩
  case ack =>
    intro s g t r ok hcore h hu hon hf ha hd
    exact answers_runCore (exec_srAck ..) hcore ((srAck_piece h hu).trans (if_pos ⟨hon, hf, ha, hd⟩))
  case ackLate =>
    intro s g t r ok hcore h hu hlate
    refine answers_runCore (exec_srAck ..) hcore ((srAck_piece h hu).trans (if_neg ?_))
    rintro ⟨hon, hf, ha, hd⟩
    simp [hon, hf, ha, hd] at hlate
  case ackDrive => exact fun s g t r ok hcore h hu => answers_runCore (exec_srAck ..) hcore (srAck_drive h hu)
  case drive =>
    exact fun s g t r c hd => ⟨fun hf ha hon hq => State.ackDrive_refset hd hf ha hon hq g, fun hon hc => State.ackDrive_corr hd hon hc⟩
  case nakPiece =>
    intro s g t r ok u p hcore h hon hf ha hp
    exact answers_runCore (exec_srNak ..) hcore (srNak_piece h (State.ofFrame_true hon hf ha) hp)
  case nakCorr =>
    intro s g t r ok c hcore h hp hc
    refine answers_runCore (exec_srNak ..) hcore (srNak_corr h ?_ hc)
    rcases hp with hon | hf | ha | hp
    · exact .inl (State.ofFrame_false (.inl hon))
    · exact .inl (State.ofFrame_false (.inr (.inl hf)))
    · exact .inl (State.ofFrame_false (.inr (.inr ha)))
    · exact .inr hp
  case nakRefset =>
    intro s g t r ok q hcore h hon hf ha hp hc hq
    exact answers_runCore (exec_srNak ..) hcore (srNak_refset h (.inr hp) hc (State.ofFrame_true hon hf ha) hq)
  case nakNothing =>
    intro s g t r ok hcore h hf hc
    exact answers_runCore (exec_srNak ..) hcore (srNak_nothing h (State.ofFrame_false hf) hc)
  case stat =>
    rintro s g t r ok _ _ hcore h rfl rfl
    exact answers_runCore (exec_srStat ..) hcore (by rw [srStat, h])
  case switchHere =>
    intro s g t r ok hcore h hh hp hon
    refine answers_runCore (exec_srSwitch ..) hcore ((srSwitch_here h hh hp).trans ?_)
    rw [hon, Bool.false_and, Bool.false_and, if_neg (by decide), State.switchShown, hh]
  case switchDetached =>
    intro s g t r ok hcore h hh hp hon
    refine answers_runCore (exec_srSwitch ..) hcore ((srSwitch_detached h hh hp hon).trans ?_)
    rw [State.switchShown, hh]
  case switchFrame =>
    rintro s g t r ok u hcore h hh hp hon hu hd hin
    have hshown : s.switchShown t r = u := by rw [hu, State.switchShown, hh]
    refine answers_runCore (exec_srSwitch ..) hcore ((srSwitch_here h hh hp).trans ?_)
    rw [hshown, hon, hd, hin]
    rfl
  case switchAway =>
    intro s g t r ok hcore h hh
    refine answers_runCore (exec_srSwitch ..) hcore ((srSwitch_away h hh).trans ?_)
    rw [State.switchShown, hh]
  case capsWrong =>
    intro s g t r hcore ht hwrong hst
    exact answers_runCore (exec_srCaps ..) hcore ((srCaps_wrong ht hwrong).trans (if_pos hst))
  case caps =>
    rintro s g t r _ _ hcore ht hg hid rfl rfl
    exact answers_runCore (exec_srCaps ..) hcore (srCaps_fits ht hg hid)
  case capsBad => exact fun s g r hcore => answers_runCore (exec_srCaps ..) hcore rfl
  case lockloss => exact fun s g t r ok hcore h => answers_runCore (exec_srLockloss ..) hcore (by rw [srLockloss, h])
  case silent => exact fun s g hcore hg => answers_runCore (exec_srSilent ..) hcore (if_pos hg)

end Sys2Proof.Machine
end

section
/-!
PROOF. Restores, HOLD, and the adaptation of a group (R221, R231, R233 to R235, R273).
-/

namespace Sys2Proof.Machine

/-! ## Restores (R231, R233) -/

theorem mem_setInsert {k j : Nat} {l : List Nat} : j ∈ setInsert k l ↔ j = k ∨ j ∈ l := by
  induction l with
  | nil => simp [setInsert]
  | cons x t ih =>
    unfold setInsert
    split
    · exact List.mem_cons
    · split
      next h => simp [h]
      next => simp only [List.mem_cons, ih, or_left_comm]

theorem mem_foldl_setInsert {j : Nat} (ks l : List Nat) (h : j ∈ ks ∨ j ∈ l) : j ∈ ks.foldl (fun l t => setInsert t l) l := by
  induction ks generalizing l with
  | nil => simpa using h
  | cons k ks ih =>
    refine ih _ ?_
    rw [mem_setInsert]
    simpa [or_assoc, or_left_comm] using h

/-! ## HOLD (R235) -/

theorem holdEnter_enters {s : State} (hw : s.wantsHold = true) (hon : s.frameOn = false) (hh : s.on SPL_STATUS_HOLD = false) :
    holdEnter s =
      (let u := ((List.range 6).filter (fun g => s.gState g == gActive)).foldl
        (fun st g => ((st.groupTiles g).foldl (fun x t => x.put (SPL_T_STATUS_HOLDING t) 1) (st.setG g gHold)).judgeGroup g)
        ((s.sendMark (markRow 3 0 0 s.holdLevelNow 0)).put SPL_STATUS_HOLD 1)
      State.raise { u with spl := { u.spl with holdAsked := false, holdBy := 0, holdLevel := s.holdLevelNow } } 330 0) :=
  if_neg (by simp [hw, hon, hh])

theorem holdEnter_waits {s : State} (h : s.wantsHold = false ∨ s.frameOn = true ∨ s.on SPL_STATUS_HOLD = true) : holdEnter s = s :=
  if_pos (by rcases h with h | h | h <;> simp [h])

theorem holdExit_leaves {s : State} (hh : s.on SPL_STATUS_HOLD = true) (hreq : bitAt (s.rdN SPL_HOLD) 0 = false)
    (howed : s.spl.resumeOwed = false) (hp : s.pwrState ≤ 1) : holdExit s = s.leaveHold :=
  if_pos (by simp [hh, hreq, howed, Nat.le_one_iff_eq_zero_or_eq_one.mp hp])

/-! ## The adaptation of a group (R234, R273) -/

theorem groupAdaptStart_starts {s : State} {g : Nat} (hrun : s.get CAL_RUN_STATUS_STATE = 2) (hn : s.nextGroup = some g)
    (hw : s.windowOpen g = true) (hon : s.frameOn = false) (had : (s.group g).adapting = false) (ht : s.now + 50000 ≤ s.earliest) :
    groupAdaptStart g s = s.setGroup g (fun k => { k with adapting := true }) :=
  if_neg (by simp [hrun, hn, hw, hon, had, ht])

/-- The group no longer adapts, and the run stands at the one after it. -/
def State.adaptOver (s : State) (g : Nat) : State :=
  let s1 := s.setGroup g (fun k => { k with adapting := false })
  { s1 with cal := { s1.cal with runStep := g + 1 } }

section
variable {s : State} {g : Nat} {r : StageInfo} (hg : g < 6) (had : (s.group g).adapting = true)
include hg had

theorem groupAdaptDone_rejected (h : r.eye < byteAt s.panelSec 0x4B ∨ r.eye + 16 < s.pcie.prevEyes.getD g 0) :
    groupAdaptDone g r s = (s.adaptOver g).rejectResult := by
  rw [groupAdaptDone, if_neg (by simp [hg, had])]
  exact if_pos h

theorem groupAdaptDone_offered (hlim : byteAt s.panelSec 0x4B ≤ r.eye) (hprev : s.pcie.prevEyes.getD g 0 ≤ r.eye + 16) :
    groupAdaptDone g r s =
      (let u := s.adaptOver g
      (State.setGroup { u with pcie := { u.pcie with prevEyes := u.pcie.prevEyes.set g (r.eye % 256) } } g
        (fun k => { k with offered := some (r.presets, r.eye) })).takeEye g r) := by
  rw [groupAdaptDone, if_neg (by simp [hg, had])]
  exact if_neg (by omega)

end

/-! ## The statement -/

/-- Settles O40, clause by clause: restores, HOLD, and the adaptation of a group. -/
theorem holdAndRestores : Obligations.HoldAndRestores := by
  refine ⟨?restore, ?requested, ?holdWritten, ?enter, ?stay, ?exit, ?adapt, ?rejected, ?offered⟩
  case restore => exact fun s val hr => answers_runHost (exec_splRestore val s) hr rfl
  case requested =>
    intro s t
    refine ⟨?_, mem_setInsert.mpr (.inl rfl), rfl, fun h => mem_foldl_setInsert _ _ (.inl h), rfl⟩
    rw [State.on, State.requestRestore, State.get_put_same _ _ _ (le_refl 5) (by decide : 5 < 32)]
    rfl
  case holdWritten =>
    rintro s val _ hr rfl
    exact answers_runHost (exec_holdRequest val s) hr rfl
  case enter =>
    rintro s _ hcore hw hon hh rfl
    exact answers_runCore (exec_holdEnter s) hcore (by rw [holdEnterThen, holdEnter_enters hw hon hh])
  case stay => exact fun s hcore h => answers_runCore (exec_holdEnter s) hcore (by rw [holdEnterThen, holdEnter_waits h])
  case exit => exact fun s hcore hh hreq howed hp => answers_runCore (exec_holdExit s) hcore (holdExit_leaves hh hreq howed hp)
  case adapt =>
    exact fun s g hcore hrun hn hw hon had ht =>
      answers_runCore (exec_groupAdaptStart ..) hcore (groupAdaptStart_starts hrun hn hw hon had ht)
  case rejected =>
    rintro s g r _ _ hcore hg had rfl rfl h
    exact answers_runCore (exec_groupAdaptDone ..) hcore (groupAdaptDone_rejected hg had h)
  case offered =>
    rintro s g r _ _ hcore hg had rfl rfl hlim hprev
    exact answers_runCore (exec_groupAdaptDone ..) hcore (groupAdaptDone_offered hg had hlim hprev)

end Sys2Proof.Machine
end

section
/-!
PROOF. What the training of a group leaves alone, and the bring-up of the groups at SPL_CTRL.EN (R239).
-/

namespace Sys2Proof.Machine

/-! ## Registers that excluding and restoring tiles leaves alone (R226, R233) -/

/-- A register of no tile, and none that counts drops or shows the queue. -/
structure NoTileReg (o : Nat) : Prop where
  low : o < SPL_T_STATUS 0
  drop : o ≠ SPL_DROP_CNT
  queue : o ≠ SPL_QUEUE

theorem State.rd_put_off (s : State) {f : Fld} {o : Nat} (h : o ≠ f.off) (x : Nat) : (s.put f x).rd o = s.rd o := by
  rw [State.rd_put, if_neg h]

section
variable {o : Nat} (ho : NoTileReg o)
include ho

/-- A field of a tile's status. -/
theorem State.put_tile_rd (s : State) (t hi lo x : Nat) : (s.put ⟨SPL_T_STATUS t, hi, lo⟩ x).rd o = s.rd o := by
  have hlow := ho.low
  refine s.rd_put_off ?_ x
  simp only [SPL_T_STATUS] at hlow ⊢
  omega

theorem State.requestRestore_rd (s : State) (t : Nat) : (s.requestRestore t).rd o = s.rd o := State.put_tile_rd ho _ t 5 5 1

theorem State.settleQueue_rd (s : State) : s.settleQueue.rd o = s.rd o := by
  unfold State.settleQueue State.showQueue
  extract_lets done s1
  have hshown : s1.rd o = s.rd o := by
    refine foldl_keeps (P := fun t => t.rd o = s.rd o) _ (fun st u h => ?_) _ s rfl
    split
    · split
      · exact h
      · exact (State.put_tile_rd ho st _ 5 5 0).trans h
    · exact h
  exact (State.rd_wrN_ne _ _ ho.queue).trans hshown

theorem State.dropTile_rd (s : State) (t : Nat) : (s.dropTile t).rd o = s.rd o := by
  unfold State.dropTile
  extract_lets n s1 g s2
  exact (State.settleQueue_rd ho _).trans (State.rd_wrN_ne s _ ho.drop)

theorem State.judgeTile_rd (s : State) (t : Nat) : (s.judgeTile t).rd o = s.rd o := by
  unfold State.judgeTile
  extract_lets was now s1 s2
  have hshown : s1.rd o = s.rd o := State.put_tile_rd ho s t 4 4 _
  split
  · exact (State.dropTile_rd ho _ t).trans hshown
  · split
    · split
      · exact (State.requestRestore_rd ho _ t).trans hshown
      · exact hshown
    · exact hshown

theorem State.judgeGroup_rd (s : State) (g : Nat) : (s.judgeGroup g).rd o = s.rd o :=
  foldl_keeps (P := fun t => t.rd o = s.rd o) State.judgeTile (fun t k h => (State.judgeTile_rd ho t k).trans h) _ s rfl

theorem State.untrain_rd (s : State) {g : Nat} (hc : o ≠ SPL_G_CHAIN g) : (s.untrain g).rd o = s.rd o := by
  unfold State.untrain
  extract_lets s1
  have hpresent : s1.rd o = s.rd o :=
    foldl_keeps (P := fun t => t.rd o = s.rd o) (fun (st : State) t =>
      State.put { st with spl := { st.spl with trained := st.spl.trained.set t true } } (SPL_T_STATUS_PRESENT t) 0)
      (fun st t h => (State.put_tile_rd ho _ t 0 0 0).trans h) _ s rfl
  exact (State.judgeGroup_rd ho _ g).trans ((State.rd_put_off _ hc 0).trans hpresent)

theorem State.bringUp_rd (s : State) {g : Nat} (hc : o ≠ SPL_G_CHAIN g) (hs : o ≠ SPL_G_STATE g) : (s.bringUp g).rd o = s.rd o := by
  rw [State.bringUp, State.untrain_rd ho _ hc, State.rd_put_off _ hs]
  exact State.rd_put_off s hs gDetect

end

/-! ## The registers of a group -/

theorem noTileReg_gState {k : Nat} (hk : k < 6) : NoTileReg (SPL_G_STATE k) := by
  constructor <;> simp only [SPL_G_STATE, SPL_T_STATUS, SPL_DROP_CNT, SPL_QUEUE] <;> omega

theorem noTileReg_gLpbk {k : Nat} (hk : k < 6) : NoTileReg (SPL_G_LPBK k) := by
  constructor <;> simp only [SPL_G_LPBK, SPL_T_STATUS, SPL_DROP_CNT, SPL_QUEUE] <;> omega

theorem noTileReg_ctrl : NoTileReg SPL_CTRL := ⟨by decide, by decide, by decide⟩

theorem gState_ne_gChain (k g : Nat) : SPL_G_STATE k ≠ SPL_G_CHAIN g := by
  simp only [SPL_G_STATE, SPL_G_CHAIN]
  omega

theorem State.bringUp_gState_same (s : State) {g : Nat} (hg : g < 6) : (s.bringUp g).gState g = gDetect := by
  have hrd := State.untrain_rd (noTileReg_gState hg) ((s.setG g gDetect).put (SPL_G_STATE_FAST g) 0) (gState_ne_gChain g g)
  rw [State.bringUp, State.gState, State.get, hrd]
  exact (State.get_put_disjoint _ (SPL_G_STATE_FAST g) (SPL_G_STATE_STATE g) 0 (by simp) (by simp) (by simp)).trans
    (State.get_put_same s (SPL_G_STATE_STATE g) gDetect (by simp) (by simp))

theorem State.bringUp_gState_ne (s : State) {g k : Nat} (hk : k < 6) (h : k ≠ g) : (s.bringUp g).gState k = s.gState k := by
  rw [State.gState, State.get, State.bringUp_rd (noTileReg_gState hk) s (gState_ne_gChain k g) (by simp only [SPL_G_STATE]; omega)]
  rfl

/-! ## The bring-up of the groups that wait for SPL_CTRL.EN (R239) -/

/-- Group `k` is brought up when the link is enabled. -/
def State.awaitsEnable (s : State) (k : Nat) : Bool := s.gState k = gDisabled && s.groupEnabled k && s.bits (SPL_G_LPBK k) 1 0 == 0

theorem State.awaitsEnable_disabled {s : State} {k : Nat} (h : s.awaitsEnable k = true) : s.gState k = gDisabled := by
  simp only [State.awaitsEnable, Bool.and_eq_true, decide_eq_true_eq] at h
  obtain ⟨⟨hst, -⟩, -⟩ := h
  exact hst

/-- What enabling the link does to group `g`. -/
def State.enableGroup (s : State) (g : Nat) : State := if s.awaitsEnable g then s.bringUp g else s

theorem splEnable_eq (s : State) : splEnable s = (List.range 6).foldl State.enableGroup (s.put SPL_CTRL_EN 1) := rfl

/-- A register other than those of the training of group `g`. -/
theorem State.enableGroup_rd (s : State) {g o : Nat} (ho : NoTileReg o) (hc : o ≠ SPL_G_CHAIN g) (hs : o ≠ SPL_G_STATE g) :
    (s.enableGroup g).rd o = s.rd o := by
  unfold State.enableGroup
  split
  · exact State.bringUp_rd ho s hc hs
  · rfl

theorem State.enableGroup_ctrl (s : State) (g : Nat) : (s.enableGroup g).rd SPL_CTRL = s.rd SPL_CTRL :=
  s.enableGroup_rd noTileReg_ctrl (by simp only [SPL_CTRL, SPL_G_CHAIN]; omega) (by simp only [SPL_CTRL, SPL_G_STATE]; omega)

/-- Enabling one group leaves another as it was. -/
theorem State.enableGroup_gState_ne (s : State) {g k : Nat} (hk : k < 6) (h : k ≠ g) : (s.enableGroup g).gState k = s.gState k := by
  rw [State.gState, State.get, s.enableGroup_rd (noTileReg_gState hk) (gState_ne_gChain k g) (by simp only [SPL_G_STATE]; omega)]
  rfl

theorem State.enableGroup_awaits_ne (s : State) {g k : Nat} (hk : k < 6) (h : k ≠ g) : (s.enableGroup g).awaitsEnable k = s.awaitsEnable k := by
  have hlpbk := s.enableGroup_rd (noTileReg_gLpbk hk) (g := g) (by simp only [SPL_G_LPBK, SPL_G_CHAIN]; omega)
    (by simp only [SPL_G_LPBK, SPL_G_STATE]; omega)
  simp only [State.awaitsEnable, s.enableGroup_gState_ne hk h, State.groupEnabled, State.on, State.bits, State.get, s.enableGroup_ctrl, hlpbk]

/-- A group that is not DISABLED keeps its state. -/
theorem State.foldl_enableGroup_kept (l : List Nat) (s : State) {k : Nat} (hk : k < 6) (h : s.gState k ≠ gDisabled) :
    (l.foldl State.enableGroup s).gState k = s.gState k := by
  refine foldl_keeps (P := fun t => t.gState k = s.gState k) State.enableGroup (fun t g ht => ?_) l s rfl
  by_cases hkg : k = g
  · subst hkg
    rw [State.enableGroup, if_neg (fun hw => h (ht.symm.trans (State.awaitsEnable_disabled hw))), ht]
  · exact (t.enableGroup_gState_ne hk hkg).trans ht

/-- A group that waits is in DETECT once its turn has come. -/
theorem State.foldl_enableGroup_detects (l : List Nat) (s : State) {k : Nat} (hk : k < 6) (hl : k ∈ l) (h : s.awaitsEnable k = true) :
    (l.foldl State.enableGroup s).gState k = gDetect := by
  induction l generalizing s with
  | nil => cases hl
  | cons g rest ih =>
    rw [List.foldl_cons]
    by_cases hkg : k = g
    · subst hkg
      have hup : (s.enableGroup k).gState k = gDetect := by rw [State.enableGroup, if_pos h, s.bringUp_gState_same hk]
      rw [State.foldl_enableGroup_kept rest _ hk (by rw [hup]; decide), hup]
    · exact ih _ ((List.mem_cons.mp hl).resolve_left hkg) ((s.enableGroup_awaits_ne hk hkg).trans h)

theorem splEnable_shows (s : State) : (splEnable s).get SPL_CTRL_EN = 1 := by
  rw [splEnable_eq]
  exact foldl_keeps (P := fun t => t.get SPL_CTRL_EN = 1) State.enableGroup
    (fun t g ht => (congrArg SPL_CTRL_EN.ext (t.enableGroup_ctrl g)).trans ht) _ _ (State.get_put_same s SPL_CTRL_EN 1)

theorem splEnable_gState_kept {s : State} {g : Nat} (hg : g < 6) (h : s.gState g ≠ gDisabled) : (splEnable s).gState g = s.gState g := by
  have hen : (s.put SPL_CTRL_EN 1).gState g = s.gState g := State.get_put_off s _ _ 1 (by simp only [SPL_G_STATE, SPL_CTRL]; omega)
  rw [splEnable_eq, State.foldl_enableGroup_kept _ _ hg (hen.trans_ne h), hen]

theorem splEnable_detects {s : State} {g : Nat} (hg : g < 6) (hst : s.gState g = gDisabled) (hen : s.groupEnabled g = true)
    (hl : s.bits (SPL_G_LPBK g) 1 0 = 0) : (splEnable s).gState g = gDetect := by
  have hgroup : (s.put SPL_CTRL_EN 1).get SPL_CTRL_GROUP_EN = s.get SPL_CTRL_GROUP_EN :=
    State.get_put_disjoint s SPL_CTRL_EN SPL_CTRL_GROUP_EN 1 (by decide) (by decide) (by decide)
  have hstate : (s.put SPL_CTRL_EN 1).gState g = gDisabled :=
    (State.get_put_off s _ _ 1 (by simp only [SPL_G_STATE, SPL_CTRL]; omega)).trans hst
  have hloop : (s.put SPL_CTRL_EN 1).bits (SPL_G_LPBK g) 1 0 = 0 :=
    (State.get_put_off s _ _ 1 (by simp only [SPL_G_LPBK, SPL_CTRL]; omega)).trans hl
  have henabled : (s.put SPL_CTRL_EN 1).groupEnabled g = true := by
    obtain ⟨-, hbit⟩ := Bool.and_eq_true_iff.mp hen
    rw [State.groupEnabled, State.on, State.get_put_same s SPL_CTRL_EN 1, hgroup, hbit]
    rfl
  refine splEnable_eq s ▸ State.foldl_enableGroup_detects _ _ hg (List.mem_range.mpr hg) ?_
  rw [State.awaitsEnable, hstate, henabled, hloop]
  rfl

end Sys2Proof.Machine
end

section
/-!
PROOF. Bring-up, training and loopback of the groups (R233, R239, R240, R242, R250).
-/

namespace Sys2Proof.Machine

/-! ## The presets that a training takes (R239, R241) -/

theorem State.setGroup_group_same {s : State} {g : Nat} (h : g < s.spl.groups.length) (f : Group → Group) :
    (s.setGroup g f).group g = f (s.group g) := by
  simp [State.setGroup, State.group, h]

theorem State.setGroup_presets (s : State) (g k : Nat) {f : Group → Group} (hf : ∀ e, (f e).presets = e.presets) :
    ((s.setGroup g f).group k).presets = (s.group k).presets := by
  by_cases hk : k < s.spl.groups.length
  · by_cases hgk : g = k <;> simp [State.setGroup, State.group, hk, hgk, hf]
  · simp [State.setGroup, State.group, hk]

/-- Showing a group's eye score changes no preset. -/
theorem State.showEye_presets (s : State) (g k : Nat) : ((s.showEye g).group k).presets = (s.group k).presets := by
  unfold State.showEye
  split
  · rfl
  · extract_lets t e s1 floor
    have hlow (b : Bool) : ((s1.setGroup g (fun k => { k with eyeLow := b })).group k).presets = (s.group k).presets :=
      s1.setGroup_presets g k (fun _ => rfl)
    split
    · split
      · rfl
      · exact hlow true
    · split
      · exact hlow false
      · rfl

theorem State.takePresets_presets {s : State} {g : Nat} (h : g < s.spl.groups.length) (r : StageInfo) :
    ((s.takePresets g r).group g).presets = (List.range 16).map (bestPreset r (s.groupTiles g).length) := by
  unfold State.takePresets
  extract_lets n ps s1 eye eyes s2
  exact (State.showEye_presets _ g g).trans (congrArg Group.presets (State.setGroup_group_same h (fun k => { k with presets := ps })))

/-! ## The end of a stage (R239) -/

section
variable {s : State} {g : Nat} (hg : g < 6)
include hg

theorem groupStageDone_detect (h : s.gState g = gDetect) (r : StageInfo) : groupStageDone g r s =
    if r.lanes % 2 ^ 18 = 2 ^ 18 - 1 then (s.wrN (SPL_G_LANES g) (r.lanes % 2 ^ 18)).setG g gTrain
    else s.wrN (SPL_G_LANES g) (r.lanes % 2 ^ 18) := by
  rw [groupStageDone, if_neg (by omega), h]
  rfl

theorem groupStageDone_train (h : s.gState g = gTrain) (hp : (s.group g).prbs = []) (r : StageInfo) : groupStageDone g r s =
    (let u := if s.on (SPL_G_STATE_FAST g) then s else s.takePresets g r
    if s.bits (SPL_G_LPBK g) 1 0 = 3 then u.startPrbs g else u.setG g gLock) := by
  rw [groupStageDone, if_neg (by omega), h]
  exact if_neg (by simp [hp])

theorem groupStageDone_lock (h : s.gState g = gLock) (r : StageInfo) : groupStageDone g r s = s.setG g gCaps := by
  rw [groupStageDone, if_neg (by omega), h]
  rfl

theorem groupStageDone_caps (h : s.gState g = gCaps) (r : StageInfo) :
    groupStageDone g r s = if s.capsComplete g then s.groupUp g else s := by
  rw [groupStageDone, if_neg (by omega), h]
  rfl

/-! ## Limits (R239, R240) -/

section
variable (hlo : gDetect ≤ s.gState g) (hhi : s.gState g ≤ gCaps) (hp : (s.group g).prbs = [])
include hlo hhi hp

/-- A stage of a training under way, outside the far-end test. -/
theorem groupStageTimeout_stage : groupStageTimeout g s =
    if s.on (SPL_G_STATE_FAST g) then (if s.now + s.tickHalfNs ≤ (s.group g).fastAt + 240000 then s else s.fastFailed g (s.gState g))
    else if s.now + s.tickHalfNs ≤ (s.group g).since + stageLimit (s.gState g) then s
    else s.trainFail g (s.gState g) := by
  rw [groupStageTimeout]
  exact if_neg (by simp [hg, hp, hlo.not_gt, hhi.not_gt])

theorem groupStageTimeout_full (hf : s.on (SPL_G_STATE_FAST g) = false)
    (ht : (s.group g).since + stageLimit (s.gState g) < s.now + s.tickHalfNs) : groupStageTimeout g s = s.trainFail g (s.gState g) := by
  rw [groupStageTimeout_stage hg hlo hhi hp, if_neg (by simp [hf]), if_neg ht.not_ge]

theorem groupStageTimeout_fast (hf : s.on (SPL_G_STATE_FAST g) = true) (ht : (s.group g).fastAt + 240000 < s.now + s.tickHalfNs) :
    groupStageTimeout g s = ((s.trainFail g (s.gState g)).bringUp g).tryResume := by
  rw [groupStageTimeout_stage hg hlo hhi hp, if_pos hf, if_neg ht.not_ge, State.fastFailed]

end

theorem groupFailedRetry_due (h : s.gState g = gFailed) (ht : (s.group g).since + 20000000 < s.now + s.tickHalfNs) :
    groupFailedRetry g s = s.bringUp g := if_neg (by simp [hg, h, ht])

theorem fastRetrainDone_ends (hf : s.on (SPL_G_STATE_FAST g) = true) (hlo : gTrain ≤ s.gState g) (hhi : s.gState g ≤ gCaps) (ok : Bool)
    (cause : Nat) : fastRetrainDone g ok cause s =
      if ok then if s.capsComplete g then s.groupUp g else s else ((s.trainFail g cause).bringUp g).tryResume :=
  if_neg (by simp [hg, hf, hlo.not_gt, hhi.not_gt])

/-! ## Commands of a group, and its loopback modes (R239, R240, R242) -/

theorem splGBringup_enabled (h : s.groupEnabled g = true) : splGBringup g s = (s.bringUp g).put (SPL_G_STATE_CAUSE g) 9 := if_pos ⟨hg, h⟩

theorem splGRetrain_requested : splGRetrain g s =
    if s.gState g = gActive then
      ((((s.setG g gTrain).setGroup g (fun k => { k with fastAt := s.now })).put (SPL_G_STATE_FAST g) 1).put (SPL_G_STATE_CAUSE g) 9).untrain g
    else s := by
  rw [splGRetrain, if_pos hg, State.fastRetrain, ite_not]
  rfl

theorem splLoopbackSelect_mode (mode : Nat) : splLoopbackSelect g mode s =
    if s.gState g ≠ gDisabled then s
    else if mode % 4 = 3 then (s.wrN (SPL_G_LPBK g) 3).bringUp g else s.wrN (SPL_G_LPBK g) (mode % 4) := by
  rw [splLoopbackSelect]
  by_cases hst : s.gState g = gDisabled
  · rw [if_neg (by simp [hg, hst]), if_neg (not_not.mpr hst)]
    by_cases hm : mode % 4 = 3 <;> simp [hm]
  · rw [if_pos (.inr hst), if_pos hst]

theorem loopbackError_counts (n : Nat) : loopbackError g n s =
    if s.bits (SPL_G_LPBK g) 1 0 = 0 ∨ n = 0 then s else (s.countN (SPL_G_PRBS_ERR g) n).raiseMask 331 (2 ^ g) := by
  rw [loopbackError]
  exact if_congr (or_iff_right (by omega)) rfl rfl

end

/-- A host write of a register that the pair does not share. -/
theorem answers_runAlone {c : Instr} {s t : State} {off : Nat} {val : Word} {f : State → State} (hc : exec c s = .next (s.runHost off val f))
    (hr : s.reaches off) (hp : pairShared off = false) (ht : f s = t) : answers c s t := by
  rw [answers_iff, hc, State.runHost_alone hr hp, ht]

/-! ## The statement -/

/-- Settles O41, clause by clause: the enable, the stages of a training and their limits, the commands of a group, and the loopback modes. -/
theorem groupTraining : Obligations.GroupTraining := by
  refine ⟨?enable, ?detect, ?train, fun s g r h => State.takePresets_presets h r, ?lock, ?caps, ?late, ?lateFast, ?retry, ?bringup, ?disable,
    ?retrain, ?retrained, ?notRetrained, ?loopback, ?errors⟩
  case enable =>
    intro s hr
    refine ⟨_, answers_runHost (exec_splEnable s) hr rfl, ?_, fun g hg hst hen hl => ?_, fun g hg hst => ?_⟩
    · rw [State.keepQueue_on, State.on, State.passedOn_get, splEnable_shows]
      rfl
    · exact (State.passedOn_get _ _ _ _).trans (splEnable_detects hg hst hen hl)
    · exact (State.passedOn_get _ _ _ _).trans (splEnable_gState_kept hg hst)
  case detect => exact fun s g r hcore hg h => answers_runCore (exec_groupStageDone ..) hcore (groupStageDone_detect hg h r)
  case train =>
    rintro s g r _ hcore hg h hp rfl
    exact answers_runCore (exec_groupStageDone ..) hcore (groupStageDone_train hg h hp r)
  case lock => exact fun s g r hcore hg h => answers_runCore (exec_groupStageDone ..) hcore (groupStageDone_lock hg h r)
  case caps => exact fun s g r hcore hg h => answers_runCore (exec_groupStageDone ..) hcore (groupStageDone_caps hg h r)
  case late =>
    exact fun s g hcore hg hlo hhi hp hf ht =>
      answers_runCore (exec_groupStageTimeout ..) hcore (groupStageTimeout_full hg hlo hhi hp hf ht)
  case lateFast =>
    exact fun s g hcore hg hlo hhi hp hf ht =>
      answers_runCore (exec_groupStageTimeout ..) hcore (groupStageTimeout_fast hg hlo hhi hp hf ht)
  case retry => exact fun s g hcore hg h ht => answers_runCore (exec_groupFailedRetry ..) hcore (groupFailedRetry_due hg h ht)
  case bringup =>
    exact fun s g hr hg h => answers_runAlone (exec_splGBringup g s) hr (pairShared_gCmd hg).1 (splGBringup_enabled hg h)
  case disable => exact fun s g hr hg => answers_runAlone (exec_splGDisable g s) hr (pairShared_gCmd hg).1 (if_pos hg)
  case retrain => exact fun s g hr hg => answers_runAlone (exec_splGRetrain g s) hr (pairShared_gCmd hg).1 (splGRetrain_requested hg)
  case retrained =>
    exact fun s g cause hcore hg hf hlo hhi =>
      answers_runCore (exec_fastRetrainDone ..) hcore ((fastRetrainDone_ends hg hf hlo hhi true cause).trans (if_pos rfl))
  case notRetrained =>
    exact fun s g cause hcore hg hf hlo hhi =>
      answers_runCore (exec_fastRetrainDone ..) hcore ((fastRetrainDone_ends hg hf hlo hhi false cause).trans (if_neg (by decide)))
  case loopback =>
    exact fun s g mode hr hg => answers_runAlone (exec_splLoopbackSelect g mode s) hr (pairShared_gCmd hg).2 (splLoopbackSelect_mode hg mode)
  case errors => exact fun s g n hcore hg => answers_runCore (exec_loopbackError ..) hcore (loopbackError_counts hg n)

end Sys2Proof.Machine
end

section
/-!
PROOF. The auxiliary output (R243, R245 to R247, R251).
-/

namespace Sys2Proof.Machine

theorem pairShared_aux : pairShared AUX_CMD = false ∧ pairShared AUX_CH_CMD = false :=
  ⟨pairShared_between (by decide) (by decide), pairShared_between (by decide) (by decide)⟩

/-! ## Training (R243, R247) -/

section
variable {s : State} {four two one : List Bool}

theorem auxTrainDone_idle (h : s.aux.training = false) : auxTrainDone four two one s = s := if_pos (by simp [h])

variable (h : s.aux.training = true)
include h

theorem auxTrainDone_trained {r l : Nat} {rest : List (Nat × Nat)} (hhpd : s.on auxHpd = true)
    (hs : trainSteps 4 four ++ trainSteps 2 two ++ trainSteps 1 one = (r, l) :: rest) : auxTrainDone four two one s =
      ((State.put { s with aux := { s.aux with training := false } } auxTrained 1).put ⟨AUX_STATUS, 3, 2⟩ r).put ⟨AUX_STATUS, 6, 4⟩ l := by
  rw [auxTrainDone, if_neg (by simp [h]), if_pos hhpd, hs, List.head?_cons]

theorem auxTrainDone_failed (hs : s.on auxHpd = false ∨ trainSteps 4 four ++ trainSteps 2 two ++ trainSteps 1 one = []) :
    auxTrainDone four two one s = State.raise { s with aux := { s.aux with training := false } } 385 0 := by
  have hnone : (if s.on auxHpd then (trainSteps 4 four ++ trainSteps 2 two ++ trainSteps 1 one).head? else none) = none := by
    rcases hs with hs | hs <;> simp [hs]
  rw [auxTrainDone, if_neg (by simp [h]), hnone]

end

/-- A rate is a step of training where it trains, the highest first. -/
theorem trainSteps_rates (l : Nat) (a b c d : Bool) : trainSteps l [a, b, c, d] =
    (if a then [(3, l)] else []) ++ (if b then [(2, l)] else []) ++ (if c then [(1, l)] else []) ++ (if d then [(0, l)] else []) := by
  cases a <;> cases b <;> cases c <;> cases d <;> rfl

/-! ## Hot-plug detect and the sideband channel (R243, R247, R251) -/

theorem dpHpd_same {s : State} {level : Bool} (h : s.on auxHpd = level) : dpHpd level s = s := if_pos (by simp [h])

theorem dpHpd_rises {s : State} (h : s.on auxHpd = false) : dpHpd true s = (s.put auxHpd 1).raise 384 0 := if_neg (by simp [h])

theorem dpHpd_falls {s : State} (h : s.on auxHpd = true) : dpHpd false s =
    (let s1 := (s.put auxHpd 0).raise 384 0
    State.put (State.put { s1 with aux := { s1.aux with training := false } } auxTrained 0) auxScanning 0) := if_neg (by simp [h])

theorem auxChTransaction_taken {s : State} (h : s.aux.chBusy = none) (val : Word) : auxChTransaction val s =
    State.put { s with aux := { s.aux with chBusy := some (val.toNat % 16, bitsOf val.toNat 7 4 + 1) } } ⟨AUX_CH_STATUS, 1, 0⟩ 1 :=
  if_neg (by simp [h])

theorem auxChTransaction_busy {s : State} {c : Nat × Nat} (h : s.aux.chBusy = some c) (val : Word) : auxChTransaction val s = s :=
  if_pos (by simp [h])

/-! ## Scanout (R246, R247) -/

/-- The frame number and the completion time of the copy that is scanned. -/
def State.scanFrame (u : State) : Nat := match u.scanCopy with | some c => c.frame.getD 0 | none => 0
def State.scanTime (u : State) : Nat := match u.scanCopy with | some c => c.time | none => 0

/-- What a frame start shows once `u` has the copy to scan. -/
def State.scanShown (u : State) : State :=
  (State.put { u with aux := { u.aux with blank := [] } } auxScanning 1).wrN AUX_FRAME u.scanFrame

/-- The InfoFrame of the copy that `u` scans is sent, where it is enabled in `s`. -/
def State.infoSent (s u : State) : State :=
  if s.on ⟨AUX_CFG, 1, 1⟩ then
    { u.scanShown with aux := { u.scanShown.aux with
      infoFrame := infoFrame (s.bits AUX_SDP_OUI 23 0) u.scanFrame (u.scanTime % 10 ^ 9) (u.scanTime / 10 ^ 9) s.auxView } }
  else u.scanShown

theorem State.infoSent_off {s : State} (h : s.on ⟨AUX_CFG, 1, 1⟩ = false) (u : State) : s.infoSent u = u.scanShown := if_neg (by simp [h])

/-- The age of a copy, where there is one. -/
def CloneView.keyOf (v : CloneView) (j : Option Nat) : Nat := match j with | some i => (v.copies.getD i Copy.blank).key | none => 0

/-- Copy `l` is scanned in place of the one that was. -/
def CloneView.scanInstead (v : CloneView) (l : Nat) : CloneView :=
  (match v.find roleScan with | some c => v.setRole c roleFree | none => v).setRole l roleScan

/-- The copy to scan from a frame start on: the newest completed one where it is newer. -/
def State.scanNext (s : State) : State :=
  match s.aux.views.head? with
  | some v => match v.find roleLatest with
    | some l =>
      if v.keyOf (v.find roleScan) < v.keyOf (some l) then { s with aux := { s.aux with views := s.aux.views.set 0 (v.scanInstead l) } } else s
    | none => s
  | none => s

theorem dpFrameStart_on {s : State} (hen : s.on ⟨AUX_CFG, 0, 0⟩ = true) (hhpd : s.on auxHpd = true) (htr : s.on auxTrained = true) :
    dpFrameStart s = s.infoSent s.scanNext := if_neg (by simp [hen, hhpd, htr])

section
variable {s : State} {v : CloneView} (hv : s.aux.views.head? = some v)
include hv

theorem State.scanNext_same (hl : v.find roleLatest = none) : s.scanNext = s := by
  simp only [State.scanNext, hv, hl]

theorem State.scanNext_newer {l : Nat} (hl : v.find roleLatest = some l) (hk : v.keyOf (v.find roleScan) < v.keyOf (some l)) :
    s.scanNext = { s with aux := { s.aux with views := s.aux.views.set 0 (v.scanInstead l) } } := by
  simp only [State.scanNext, hv, hl]
  exact if_pos hk

theorem dpFrameStart_newer {l : Nat} (hen : s.on ⟨AUX_CFG, 0, 0⟩ = true) (hhpd : s.on auxHpd = true) (htr : s.on auxTrained = true)
    (hinfo : s.on ⟨AUX_CFG, 1, 1⟩ = false) (hl : v.find roleLatest = some l) (hk : v.keyOf (v.find roleScan) < v.keyOf (some l)) :
    dpFrameStart s = State.scanShown { s with aux := { s.aux with views := s.aux.views.set 0 (v.scanInstead l) } } := by
  rw [dpFrameStart_on hen hhpd htr, State.scanNext_newer hv hl hk, State.infoSent_off hinfo]

end

theorem dpFrameStart_off {s : State} (h : s.on ⟨AUX_CFG, 0, 0⟩ = false ∨ s.on auxHpd = false ∨ s.on auxTrained = false) :
    dpFrameStart s = s :=
  if_pos (by rcases h with h | h | h <;> simp [h])

theorem dpUnderrun_scanning {s : State} (h : s.on auxScanning = true) (y x : Nat) : dpUnderrun y x s =
    (State.count { s with aux := { s.aux with blank := (y, x) :: s.aux.blank } } AUX_UNDERRUN_CNT).raise 386 0 := if_neg (by simp [h])

theorem dpUnderrun_idle {s : State} (h : s.on auxScanning = false) (y x : Nat) : dpUnderrun y x s = s := if_pos (by simp [h])

/-! ## The statement -/

/-- Settles O42, clause by clause: training, hot-plug detect, the sideband channel, scanout and the clone unit. -/
theorem auxiliaryOutput : Obligations.AuxiliaryOutput := by
  refine ⟨?train, ?trained, ?failed, ?noTraining, trainSteps_rates, ?rise, ?fall, ?steady, ?chTaken, ?chBusy, ?chDone, ?first, ?newer, ?same,
    ?off, ?underrun, ?noScan, ?copied⟩
  case train => exact fun s hr => answers_runAlone (exec_auxTrain s) hr pairShared_aux.1 rfl
  case trained =>
    intro s four two one r l rest hcore ht hhpd hs
    exact answers_runCore (exec_auxTrainDone ..) hcore (auxTrainDone_trained ht hhpd hs)
  case failed => exact fun s four two one hcore ht hs => answers_runCore (exec_auxTrainDone ..) hcore (auxTrainDone_failed ht hs)
  case noTraining => exact fun s four two one hcore ht => answers_runCore (exec_auxTrainDone ..) hcore (auxTrainDone_idle ht)
  case rise => exact fun s hcore h => answers_runCore (exec_dpHpd ..) hcore (dpHpd_rises h)
  case fall =>
    rintro s _ hcore h rfl
    exact answers_runCore (exec_dpHpd ..) hcore (dpHpd_falls h)
  case steady => exact fun s level hcore h => answers_runCore (exec_dpHpd ..) hcore (dpHpd_same h)
  case chTaken => exact fun s val hr h => answers_runAlone (exec_auxChTransaction val s) hr pairShared_aux.2 (auxChTransaction_taken h val)
  case chBusy => exact fun s val c hr h => answers_runAlone (exec_auxChTransaction val s) hr pairShared_aux.2 (auxChTransaction_busy h val)
  case chDone =>
    rintro s ok reply data c _ _ hcore h rfl rfl
    exact answers_runCore (exec_dpChDone ..) hcore (if_neg (by simp [h]))
  case first =>
    rintro s v l _ hcore hen hhpd htr hinfo hv hl hsc hk rfl
    refine answers_runCore (exec_dpFrameStart s) hcore ((dpFrameStart_newer hv hen hhpd htr hinfo hl (by rw [hsc]; exact hk)).trans ?_)
    rw [CloneView.scanInstead, hsc]
    rfl
  case newer =>
    rintro s v l c _ hcore hen hhpd htr hinfo hv hl hsc hk rfl
    refine answers_runCore (exec_dpFrameStart s) hcore ((dpFrameStart_newer hv hen hhpd htr hinfo hl (by rw [hsc]; exact hk)).trans ?_)
    rw [CloneView.scanInstead, hsc]
    rfl
  case same =>
    rintro s _ _ v _ hcore hen hhpd htr hv hl rfl rfl rfl
    refine answers_runCore (exec_dpFrameStart s) hcore ?_
    rw [dpFrameStart_on hen hhpd htr, State.scanNext_same hv hl]
    rfl
  case off => exact fun s hcore h => answers_runCore (exec_dpFrameStart s) hcore (dpFrameStart_off h)
  case underrun => exact fun s y x hcore h => answers_runCore (exec_dpUnderrun ..) hcore (dpUnderrun_scanning h y x)
  case noScan => exact fun s y x hcore h => answers_runCore (exec_dpUnderrun ..) hcore (dpUnderrun_idle h y x)
  case copied =>
    rintro s v j n cv _ hcore hv hj hdone hn rfl
    refine answers_runCore (exec_cloneCopyDone ..) hcore ?_
    simp only [cloneCopyDone, hv, hj, hdone, hn, Bool.false_eq_true, ↓reduceIte]

end Sys2Proof.Machine
end

section
/-!
PROOF. The Scorch map and its passes (R261, R262, R266, R269, R270).
-/

namespace Sys2Proof.Machine

/-! ## The start of a pass (R261) -/

/-- The tick has had its second, and a pass that runs makes the next due. -/
def State.secondTaken (s : State) : State :=
  { s with cal := { s.cal with secTick := some s.evc.tick, due := s.cal.pass.isSome } }

theorem State.secondTaken_idle {s : State} (h : s.cal.pass = none) :
    s.secondTaken = { s with cal := { s.cal with secTick := some s.evc.tick, due := false } } := by
  rw [State.secondTaken, h, Option.isSome_none]

theorem State.secondTaken_running {s : State} {p : Pass} (h : s.cal.pass = some p) :
    s.secondTaken = { s with cal := { s.cal with secTick := some s.evc.tick, due := true } } := by
  rw [State.secondTaken, h, Option.isSome_some]

theorem passStart_nothing {s : State} (h : s.secondBegins = none ∨ s.cal.secTick = some s.evc.tick) : passStart s = s := by
  unfold passStart
  split
  next => rfl
  next n hn => exact if_pos (h.resolve_left (by simp [hn]))

section
variable {s : State} {n : Nat} (hn : s.secondBegins = some n) (ht : s.cal.secTick ≠ some s.evc.tick)
include hn ht

theorem passStart_second : passStart s = if s.cal.pass.isNone && s.passAllowed then s.secondTaken.beginPass n else s.secondTaken := by
  rw [passStart, hn]
  exact if_neg ht

theorem passStart_begins (hp : s.cal.pass = none) (ha : s.passAllowed = true) : passStart s = s.secondTaken.beginPass n := by
  rw [passStart_second hn ht, if_pos (by simp [hp, ha])]

theorem passStart_notYet (h : s.cal.pass ≠ none ∨ s.passAllowed = false) : passStart s = s.secondTaken := by
  rw [passStart_second hn ht, if_neg (by rcases h with h | h <;> simp [h])]

end

theorem State.beginPass_shown (s : State) (n : Nat) : (s.beginPass n).get CAL_MAP_STATUS_PASS_ACTIVE = 1 ∧ (s.beginPass n).mem = s.mem :=
  ⟨State.get_put_same _ CAL_MAP_STATUS_PASS_ACTIVE 1, State.beginPass_mem s n⟩

/-! ## The visits of a pass (R261, R262) -/

/-- The granules that the pass may visit now have been visited. -/
def State.passVisited (s : State) (p : Pass) : State :=
  let u := ((s.passLeft p).filter (fun gr => !s.deferred gr)).foldl (State.visitGranule p) s
  { u with freeCtr := u.freeCtr + 144 }

section
variable {s : State} {p : Pass} (hp : s.cal.pass = some p)
include hp

theorem passDone_running : passDone s =
    if ((s.passLeft p).filter s.deferred).isEmpty then (s.passVisited p).endPass p
    else { s.passVisited p with cal := { (s.passVisited p).cal with pass := some { p with left := some ((s.passLeft p).filter s.deferred) } } } := by
  rw [passDone, hp]
  rfl

theorem passDone_ends (hw : (s.passLeft p).filter s.deferred = []) : passDone s = (s.passVisited p).endPass p := by
  rw [passDone_running hp, if_pos (List.isEmpty_iff.mpr hw)]

theorem passDone_defers (hw : (s.passLeft p).filter s.deferred ≠ []) : passDone s =
    { s.passVisited p with cal := { (s.passVisited p).cal with pass := some { p with left := some ((s.passLeft p).filter s.deferred) } } } := by
  rw [passDone_running hp, if_neg (mt List.isEmpty_iff.mp hw)]

end

theorem passDone_idle {s : State} (h : s.cal.pass = none) : passDone s = s := by
  rw [passDone, h]

/-! ## The end of a pass (R261, R262) -/

/-- The pass is counted with its second and its time, and no pass runs. -/
def State.passCounted (s : State) (p : Pass) : State :=
  let u := (((s.wrN CAL_PASS_CNT (s.rdN CAL_PASS_CNT + 1)).wrN CAL_PASS_SEC (p.second % 2 ^ 32)).wrN CAL_PASS_TIME
    (s.usSince p.start % 2 ^ 24)).raise 865 0
  State.put { u with cal := { u.cal with pass := none, heldLevel := none, due := false } } CAL_MAP_STATUS_PASS_ACTIVE 0

section
variable {s : State} {p : Pass}

theorem State.endPass_counted : s.endPass p =
    if s.cal.due && (s.passCounted p).passAllowed then
      (((s.passCounted p).beginPass (s.passCounted p).ptpSec).count CAL_PASS_OVERRUN_CNT).raise 866 0
    else s.passCounted p := rfl

theorem State.endPass_next (hd : s.cal.due = true) (ha : (s.passCounted p).passAllowed = true) : s.endPass p =
    (((s.passCounted p).beginPass (s.passCounted p).ptpSec).count CAL_PASS_OVERRUN_CNT).raise 866 0 := by
  rw [State.endPass_counted, if_pos (by simp [hd, ha])]

theorem State.endPass_last (h : s.cal.due = false ∨ (s.passCounted p).passAllowed = false) : s.endPass p = s.passCounted p := by
  rw [State.endPass_counted, if_neg (by rcases h with h | h <;> simp [h])]

end

/-! ## The freeze (R270) -/

theorem mapFrozen_settled {s : State} (hf : s.on CAL_MAP_CTRL_FREEZE = true) (hp : s.cal.pass = none) (ha : s.cal.applying = false)
    (hc : s.corrSettled = true) : mapFrozen s = s.put CAL_MAP_STATUS_FROZEN 1 :=
  if_pos (by simp [hf, hp, ha, hc])

theorem mapFrozen_waits {s : State} (h : s.on CAL_MAP_CTRL_FREEZE = false ∨ s.cal.pass ≠ none ∨ s.cal.applying = true ∨ s.corrSettled = false) :
    mapFrozen s = s :=
  if_neg (by rcases h with h | h | h | h <;> simp [h])

/-! ## The statement -/

/-- Settles O43, clause by clause: the start of a pass, its visits and its end, the apply, the freeze, and the maps that the host declares. -/
theorem mapAndCorrectionPasses : Obligations.MapAndCorrectionPasses := by
  refine ⟨?begins, ?due, ?forbidden, ?noSecond, fun s n => ⟨rfl, rfl, s.beginPass_shown n⟩, ?passEnds, ?passWaits, ?noPass, ?ended, ?applied,
    ?notApplying, ?freeze, ?frozen, ?notFrozen, ?unfreeze, ?opened, ?openIgnored, ?restored, ?fresh⟩
  case begins =>
    rintro s n _ hcore hn ht hp ha rfl
    exact answers_runCore (exec_passStart s) hcore (by rw [passStart_begins hn ht hp ha, State.secondTaken_idle hp])
  case due =>
    intro s n p hcore hn ht hp
    exact answers_runCore (exec_passStart s) hcore (by rw [passStart_notYet hn ht (.inl (by simp [hp])), State.secondTaken_running hp])
  case forbidden =>
    intro s n hcore hn ht hp ha
    exact answers_runCore (exec_passStart s) hcore (by rw [passStart_notYet hn ht (.inr ha), State.secondTaken_idle hp])
  case noSecond => exact fun s hcore h => answers_runCore (exec_passStart s) hcore (passStart_nothing h)
  case passEnds =>
    rintro s p _ _ _ hcore hp rfl rfl rfl hw
    exact answers_runCore (exec_passDone s) hcore (passDone_ends hp hw)
  case passWaits =>
    rintro s p _ _ _ hcore hp rfl rfl rfl hw
    exact answers_runCore (exec_passDone s) hcore (passDone_defers hp hw)
  case noPass => exact fun s hcore h => answers_runCore (exec_passDone s) hcore (passDone_idle h)
  case ended =>
    rintro s p _ _ rfl rfl
    exact ⟨State.endPass_next, State.endPass_last⟩
  case applied => exact fun s hcore h => answers_runCore (exec_corrApplyDone s) hcore (if_pos h)
  case notApplying => exact fun s hcore h => answers_runCore (exec_corrApplyDone s) hcore (if_neg (by simp [h]))
  case freeze => exact fun s hr => answers_runHost (exec_mapFreeze s) hr rfl
  case frozen => exact fun s hcore hf hp ha hc => answers_runCore (exec_mapFrozen s) hcore (mapFrozen_settled hf hp ha hc)
  case notFrozen => exact fun s hcore h => answers_runCore (exec_mapFrozen s) hcore (mapFrozen_waits h)
  case unfreeze => exact fun s hr => answers_runHost (exec_mapUnfreeze s) hr rfl
  case opened => exact fun s hr h => answers_runHost (exec_mapOpen s) hr (if_pos h)
  case openIgnored => exact fun s hr h => answers_runHost (exec_mapOpen s) hr (if_neg (by simp [h]))
  case restored => exact fun s hr => answers_runHost (exec_mapRestored s) hr rfl
  case fresh => exact fun s hr => answers_runHost (exec_mapFresh s) hr rfl

end Sys2Proof.Machine
end

section
/-!
PROOF. Tile temperatures, ambient light and calibration runs (R256, R257, R273, R357).
-/

namespace Sys2Proof.Machine

/-! ## Tile temperatures (R256) -/

theorem tileTempWrite_tile {t : Nat} (h : t < 48) (val : Word) (s : State) : tileTempWrite t val s =
    (let u := s.wrN (CAL_TILE_TEMP t) (val.toNat % 256)
    { u with cal := { u.cal with stampsIn := setInsert t u.cal.stampsIn } }) := if_neg (by omega)

/-- A place that a list of places names, or that holds the value already, holds it once the value is put into all of them. -/
theorem getD_foldl_set {α : Type} (v : α) {t : Nat} (ts : List Nat) (l : List (Option α)) (hlen : t < l.length)
    (h : t ∈ ts ∨ l.getD t none = some v) : (ts.foldl (fun l k => l.set k (some v)) l).getD t none = some v := by
  induction ts generalizing l with
  | nil => exact h.resolve_left List.not_mem_nil
  | cons k ks ih =>
    refine ih _ (by rwa [List.length_set]) ?_
    by_cases hk : k = t
    · exact .inr (by simp [hk, hlen])
    · refine h.imp (fun hm => (List.mem_cons.mp hm).resolve_left (Ne.symm hk)) (fun hv => ?_)
      rwa [List.getD_eq_getElem?_getD, List.getElem?_set_ne hk, ← List.getD_eq_getElem?_getD]

theorem State.settleTemps_stamp {s : State} {t : Nat} (hin : t ∈ s.cal.stampsIn) (hlen : t < s.cal.stamps.length) :
    s.settleTemps.cal.stamps.getD t none = some s.now := getD_foldl_set s.now _ _ hlen (.inl hin)

theorem tileTempStale_aged {s : State} {t : Nat} (ht : t < s.tiles.length) (hs : s.tempStale t (s.now + s.tickHalfNs) = true)
    (hin : t ∉ s.cal.stampsIn) : tileTempStale t s = s.goStale t := if_pos (by simp [ht, hs, hin])

theorem tileTempStale_nothing {s : State} {t : Nat}
    (h : s.tiles.length ≤ t ∨ s.tempStale t (s.now + s.tickHalfNs) = false ∨ t ∈ s.cal.stampsIn) : tileTempStale t s = s := by
  refine if_neg ?_
  rintro ⟨ht, hs, hin⟩
  rcases h with h | h | h
  · exact absurd ht (Nat.not_lt.mpr h)
  · simp [h] at hs
  · simp [h] at hin

/-! ## Ambient light (R257) -/

/-- The step of the brightness in `s`, once `u` has its reading. -/
def State.brightStepped (s u : State) : State :=
  State.put { u with cal := { u.cal with alsAt := s.cal.alsAt + 200000000 } } ⟨CAL_BRIGHT_STATUS, 15, 0⟩
    (unsignedOf 16 (brightStep s.panelSec (s.bits CAL_BRIGHT_STATUS 15 0) (brightTarget s.panelSec (u.bits CAL_ALS_VALUE 15 0))))

/-- The sensor port has been read at the address and register of CAL_ALS_I2C. -/
def State.lightAsked (s : State) : State :=
  { s with cal := { s.cal with i2c := some (s.bits CAL_ALS_I2C 6 0, s.bits CAL_ALS_I2C 15 8) } }

theorem State.takeLight_acked {s : State} (h : s.on CAL_BRIGHT_CFG_ALS_SRC = true) (hi lo : Byte) :
    s.takeLight (some (hi, lo)) = s.lightAsked.wrN CAL_ALS_VALUE (256 * hi.toNat + lo.toNat) := if_neg (by simp [h])

theorem State.takeLight_noAck {s : State} (h : s.on CAL_BRIGHT_CFG_ALS_SRC = true) : s.takeLight none = s.lightAsked.raise 871 0 :=
  if_neg (by simp [h])

theorem State.takeLight_noSensor {s : State} (h : s.on CAL_BRIGHT_CFG_ALS_SRC = false) (reading : Option (Byte × Byte)) :
    s.takeLight reading = s := if_pos (by simp [h])

theorem alsReading_early {s : State} (h : s.csu.image = none ∨ s.now + s.tickHalfNs ≤ s.cal.alsAt + 200000000)
    (reading : Option (Byte × Byte)) : alsReading reading s = s := if_pos (h.imp_left Option.isNone_iff_eq_none.mpr)

theorem alsReading_due {s : State} (him : s.csu.image ≠ none) (ht : s.cal.alsAt + 200000000 < s.now + s.tickHalfNs)
    (reading : Option (Byte × Byte)) : alsReading reading s = s.brightStepped (s.takeLight reading) :=
  if_neg (by simp [him, ht])

/-! ## The start of a run (R273) -/

theorem State.triggerRun_starts {s : State} (hst : s.get CAL_RUN_STATUS_STATE = 0) (hp : s.pwrState ≤ 1) : s.triggerRun = s.beginRun :=
  if_pos ⟨hst, hp⟩

theorem State.triggerRun_follows {s : State} (h : s.get CAL_RUN_STATUS_STATE ≠ 0 ∨ 1 < s.pwrState) :
    s.triggerRun = { s with cal := { s.cal with runAgain := true } } := if_neg (by omega)

/-! ## The pseudo-channels of a run (R273, R357) -/

theorem pcRetrain_starts {s : State} {p : Nat} (hst : s.get CAL_RUN_STATUS_STATE = 1) (hr : s.cal.retraining = none)
    (hn : s.nextPc = some p) (ht : s.cal.runStep = 0 ∨ s.cal.retrainAt + 200000 < s.now + s.tickHalfNs) :
    pcRetrain p s = { s with cal := { s.cal with retraining := some p, retrainAt := s.now } } := by
  refine if_neg ?_
  rintro (h | h | h | ⟨h, hle⟩)
  · exact h hst
  · simp [hr] at h
  · exact h hn
  · exact absurd (ht.resolve_left h) (Nat.not_lt.mpr hle)

/-- The delays that a retrain found, the old one where it found no window. -/
def State.retrained (s : State) (p : Nat) (ws : List Window) : List Nat :=
  (List.range 8).map (fun i => match ws.getD i none with | some w => windowCentre (some w) | none => (s.hbm.delays.getD p []).getD i 0)

/-- How far delay `i` moves. -/
def State.delayMove (s : State) (p : Nat) (ws : List Window) (i : Nat) : Nat :=
  (((s.retrained p ws).getD i 0 : Int) - ((s.hbm.delays.getD p []).getD i 0 : Int)).natAbs

section
variable {s : State} {p : Nat} {ws : List Window} (hr : s.cal.retraining = some p)
include hr

theorem pcRetrainDone_judged : pcRetrainDone p ws s =
    if (List.range 8).any (fun i => decide (byteAt s.panelSec 0x4A < s.delayMove p ws i)) then s.rejectResult.pcNext p
    else State.pcNext { s with cal := { s.cal with newDelays := s.cal.newDelays.filter (fun e => e.1 != p) ++ [(p, s.retrained p ws)] } } p :=
  if_neg (by simp [hr])

theorem pcRetrainDone_offered (hnear : ∀ i < 8, s.delayMove p ws i ≤ byteAt s.panelSec 0x4A) : pcRetrainDone p ws s =
    State.pcNext { s with cal := { s.cal with newDelays := s.cal.newDelays.filter (fun e => e.1 != p) ++ [(p, s.retrained p ws)] } } p := by
  rw [pcRetrainDone_judged hr, if_neg (by simpa using hnear)]

theorem pcRetrainDone_rejected {i : Nat} (hi : i < 8) (hfar : byteAt s.panelSec 0x4A < s.delayMove p ws i) :
    pcRetrainDone p ws s = s.rejectResult.pcNext p := by
  rw [pcRetrainDone_judged hr, if_pos (List.any_eq_true.mpr ⟨i, List.mem_range.mpr hi, decide_eq_true hfar⟩)]

end

theorem State.pcNext_moves (s : State) (p : Nat) : (s.pcNext p).cal.retraining = none
    ∧ ((s.pcNext p).cal.runStep = p + 1 ∨ ((s.pcNext p).cal.runStep = 0 ∧ (s.pcNext p).get CAL_RUN_STATUS_STATE = 2)) := by
  unfold State.pcNext
  dsimp only
  split
  next => exact ⟨rfl, .inl rfl⟩
  next => exact ⟨rfl, .inr ⟨rfl, State.get_put_same _ CAL_RUN_STATUS_STATE 2⟩⟩

/-! ## The end of a run (R273) -/

/-- The run has ended: what it accepted waits, and its temperature and its rejections are shown. -/
def State.runEnded (s : State) : State :=
  ((((s.acceptRun).put CAL_RUN_STATUS_STATE 0).put CAL_RUN_STATUS_TEMP (s.get PWR_KETTLE_STATUS_TMAX)).putB CAL_RUN_STATUS_LAST_REJECT
    s.cal.rejected).raise 872 0

theorem calRunDone_ends {s : State} (hst : s.get CAL_RUN_STATUS_STATE = 2) (hn : s.nextGroup = none)
    (had : ∀ g < 6, (s.group g).adapting = false) : calRunDone s = if s.cal.runAgain then s.runEnded.beginRun else s.runEnded := by
  refine if_neg ?_
  rintro (h | h | h)
  · exact h hst
  · simp [hn] at h
  · obtain ⟨g, hg, h⟩ := List.any_eq_true.mp h
    simp [had g (List.mem_range.mp hg)] at h

theorem calRunDone_waits {s : State} (h : s.get CAL_RUN_STATUS_STATE ≠ 2 ∨ s.nextGroup ≠ none ∨ ∃ g < 6, (s.group g).adapting = true) :
    calRunDone s = s := by
  refine if_pos (h.imp_right (Or.imp Option.isSome_iff_ne_none.mpr ?_))
  rintro ⟨g, hg, had⟩
  exact List.any_eq_true.mpr ⟨g, List.mem_range.mpr hg, had⟩

/-! ## The statement -/

/-- Settles O44, clause by clause: tile temperatures, the brightness, and the start, the pseudo-channels and the end of a run. -/
theorem driveAndCalibrationRuns : Obligations.DriveAndCalibrationRuns := by
  refine ⟨?written, fun s t hin hlen => ⟨State.settleTemps_stamp hin hlen, rfl⟩, ?aged, ?notAged, ?early, ?acked, ?noAck, ?noSensor, ?runAll,
    ?runFollows, ?retrain, ?offered, ?rejected, State.pcNext_moves, ?runDone, ?runWaits⟩
  case written =>
    rintro s t val _ hr ht rfl
    exact answers_runHost (exec_tileTempWrite t val s) hr (tileTempWrite_tile ht val s)
  case aged => exact fun s t hcore ht hs hin => answers_runCore (exec_tileTempStale t s) hcore (tileTempStale_aged ht hs hin)
  case notAged => exact fun s t hcore h => answers_runCore (exec_tileTempStale t s) hcore (tileTempStale_nothing h)
  case early => exact fun s reading hcore h => answers_runCore (exec_alsReading reading s) hcore (alsReading_early h reading)
  case acked =>
    rintro s hi lo _ hcore him ht hsrc rfl
    exact answers_runCore (exec_alsReading _ s) hcore ((alsReading_due him ht _).trans (by rw [State.takeLight_acked hsrc]; rfl))
  case noAck =>
    rintro s _ hcore him ht hsrc rfl
    exact answers_runCore (exec_alsReading _ s) hcore ((alsReading_due him ht _).trans (by rw [State.takeLight_noAck hsrc]; rfl))
  case noSensor =>
    rintro s reading _ hcore him ht hsrc rfl
    exact answers_runCore (exec_alsReading _ _) hcore ((alsReading_due him ht _).trans (by rw [State.takeLight_noSensor hsrc]; rfl))
  case runAll =>
    rintro s _ hr hst hp rfl
    exact answers_runHost (exec_calRunAll s) hr (State.triggerRun_starts hst hp)
  case runFollows => exact fun s hr h => answers_runHost (exec_calRunAll s) hr (State.triggerRun_follows h)
  case retrain => exact fun s p hcore hst hr hn ht => answers_runCore (exec_pcRetrain p s) hcore (pcRetrain_starts hst hr hn ht)
  case offered =>
    rintro s p ws _ _ hcore hr rfl rfl hnear
    exact answers_runCore (exec_pcRetrainDone ..) hcore (pcRetrainDone_offered hr hnear)
  case rejected =>
    rintro s p i ws _ _ _ hcore hr rfl rfl hi hfar rfl
    exact answers_runCore (exec_pcRetrainDone ..) hcore (pcRetrainDone_rejected hr hi hfar)
  case runDone =>
    rintro s _ hcore hst hn had rfl
    exact answers_runCore (exec_calRunDone s) hcore (calRunDone_ends hst hn had)
  case runWaits => exact fun s hcore h => answers_runCore (exec_calRunDone s) hcore (calRunDone_waits h)

end Sys2Proof.Machine
end

section
/-!
PROOF. The video decoder (R281 to R283, R286, R287, R289, R291, R304).
-/

namespace Sys2Proof.Machine

/-! The pair shares no register of a decoder context. -/

theorem pairShared_decPut {x : Nat} (hx : x < 64) : pairShared (VDEC_CTX_PUT x) = false :=
  pairShared_between (by simp only [VDEC_CTX_PUT]; omega) (by simp only [VDEC_CTX_PUT]; omega)

theorem pairShared_decCfg {x : Nat} (hx : x < 64) : pairShared (VDEC_CTX_CFG x) = false :=
  pairShared_between (by simp only [VDEC_CTX_CFG]; omega) (by simp only [VDEC_CTX_CFG]; omega)

theorem pairShared_decCmd {x : Nat} (hx : x < 64) : pairShared (VDEC_CTX_CMD x) = false :=
  pairShared_between (by simp only [VDEC_CTX_CMD]; omega) (by simp only [VDEC_CTX_CMD]; omega)

/-! ## PUT (R281) -/

theorem vdecPut_host {s : State} {x : Nat} (hx : x < 64) (hsrc : s.on (VDEC_CTX_CFG_SRC x) = false) (val : Word) :
    vdecPut x val s = s.wrN (VDEC_CTX_PUT x) (val.toNat % 4096) := if_neg (by simp [hsrc]; omega)

theorem vdecPut_network {s : State} {x : Nat} (hsrc : s.on (VDEC_CTX_CFG_SRC x) = true) (val : Word) : vdecPut x val s = s :=
  if_pos (.inr hsrc)

/-! ## What waits for the end of a picture (R304) -/

/-- What `u` has asked of context `x` takes effect at once, or waits for the picture that a core of `s` has of it. -/
def State.decAsked (s : State) (x : Nat) (u : State) : State := if (s.decCore x).isSome then u else (u.settleCtx x).trimPool

theorem State.decAsked_idle {s : State} {x : Nat} (h : s.decCore x = none) (u : State) : s.decAsked x u = (u.settleCtx x).trimPool :=
  if_neg (by simp [h])

theorem State.decAsked_busy {s : State} {x c : Nat} (h : s.decCore x = some c) (u : State) : s.decAsked x u = u := if_pos (by simp [h])

/-- Nothing is asked of context `x`. -/
def State.decUnasked (s : State) (x : Nat) : State :=
  s.setDec x (fun e => { e with flushAsked := false, resetAsked := false, offAsked := false })

section
variable {s : State} {x : Nat}

theorem State.settleCtx_flush (hf : (s.dec x).flushAsked = true) (hr : (s.dec x).resetAsked = false) (ho : (s.dec x).offAsked = false) :
    s.settleCtx x = (s.decUnasked x).flushCtx x := by
  simp [State.settleCtx, State.decUnasked, hf, hr, ho]

theorem State.settleCtx_reset (hf : (s.dec x).flushAsked = false) (hr : (s.dec x).resetAsked = true) (ho : (s.dec x).offAsked = false) :
    s.settleCtx x = ((s.decUnasked x).discardWaiting x).enterWait x 0 := by
  simp [State.settleCtx, State.decUnasked, hf, hr, ho]

theorem State.settleCtx_off (hf : (s.dec x).flushAsked = false) (hr : (s.dec x).resetAsked = false) (ho : (s.dec x).offAsked = true) :
    s.settleCtx x = ((s.decUnasked x).discardWaiting x).put (VDEC_CTX_STATUS_STATE x) decOff := by
  simp [State.settleCtx, State.decUnasked, hf, hr, ho]

theorem State.settleCtx_nothing (hf : (s.dec x).flushAsked = false) (hr : (s.dec x).resetAsked = false) (ho : (s.dec x).offAsked = false) :
    s.settleCtx x = s.decUnasked x := by
  simp [State.settleCtx, State.decUnasked, hf, hr, ho]

end

/-! ## Enabling and disabling a context (R282, R291, R304) -/

section
variable {s : State} {x : Nat} (hx : x < 64) (val : Word)
include hx

theorem vdecCtxEnable_again (hen : s.on (VDEC_CTX_CFG_EN x) = true) : vdecCtxEnable x val s = s.decCfgFields x val := by
  rw [vdecCtxEnable, if_neg (by omega), if_pos hen]

theorem vdecCtxDisable_off (hen : s.on (VDEC_CTX_CFG_EN x) = false) : vdecCtxDisable x val s = s.decCfgFields x val := by
  rw [vdecCtxDisable, if_neg (by omega), if_neg (by simp [hen])]

theorem vdecCtxDisable_on (hen : s.on (VDEC_CTX_CFG_EN x) = true) : vdecCtxDisable x val s =
    s.decAsked x (((s.decCfgFields x val).put (VDEC_CTX_CFG_EN x) 0).setDec x (fun d => { d with offAsked := true })) := by
  rw [vdecCtxDisable, if_neg (by omega), if_pos hen, State.decAsked]

variable (hen : s.on (VDEC_CTX_CFG_EN x) = false)
include hen

theorem vdecCtxEnable_refused (hok : (s.decCfgFields x val).decEnableOk x = false) :
    vdecCtxEnable x val s = (s.decCfgFields x val).decRefuse x := by
  rw [vdecCtxEnable, if_neg (by omega), if_neg (by simp [hen]), if_neg (by simp [hok])]

variable (hok : (s.decCfgFields x val).decEnableOk x = true)
include hok

theorem vdecCtxEnable_idle (hc : s.decCore x = none) : vdecCtxEnable x val s =
    (((s.decCfgFields x val).put (VDEC_CTX_CFG_EN x) 1).decErr x 0).enterWait x 0 := by
  rw [vdecCtxEnable, if_neg (by omega), if_neg (by simp [hen]), if_pos hok, if_neg (by simp [hc])]

theorem vdecCtxEnable_busy {c : Nat} (hc : s.decCore x = some c) : vdecCtxEnable x val s =
    (((s.decCfgFields x val).put (VDEC_CTX_CFG_EN x) 1).decErr x 0).setDec x (fun d => { d with offAsked := false, resetAsked := true }) := by
  rw [vdecCtxEnable, if_neg (by omega), if_neg (by simp [hen]), if_pos hok, if_pos (by simp [hc])]

end

/-! ## FLUSH and RESET (R304) -/

section
variable {s : State} {x : Nat}

theorem vdecFlush_live (hx : x < 64) (hst : s.decState x ≠ decOff) :
    vdecFlush x s = s.decAsked x (s.setDec x (fun d => { d with flushAsked := true })) := if_neg (by omega)

theorem vdecReset_live (hx : x < 64) (hst : s.decState x ≠ decOff) :
    vdecReset x s = s.decAsked x (s.setDec x (fun d => { d with resetAsked := true })) := if_neg (by omega)

theorem vdecFlush_off (hst : s.decState x = decOff) : vdecFlush x s = s := if_pos (.inr hst)

theorem vdecReset_off (hst : s.decState x = decOff) : vdecReset x s = s := if_pos (.inr hst)

end

/-! ## The start of a picture (R281, R283) -/

section
variable {s : State} {core : Nat} (info : List PicInfo)

theorem decodeStart_barred
    (h : 4 ≤ core ∨ s.bits VDEC_CTRL 0 0 = 0 ∨ s.pwrState ≠ 1 ∨ s.codec.cores.getD core none ≠ none) : decodeStart core info s = s :=
  if_pos (h.imp_right (Or.imp_right (Or.imp_right Option.isSome_iff_ne_none.mpr)))

variable (hc : core < 4) (hen : s.bits VDEC_CTRL 0 0 = 1) (hact : s.pwrState = 1) (hidle : s.codec.cores.getD core none = none)
include hc hen hact hidle

theorem decodeStart_may : ¬(4 ≤ core ∨ s.bits VDEC_CTRL 0 0 = 0 ∨ s.pwrState ≠ 1 ∨ (s.codec.cores.getD core none).isSome) := by
  rintro (h | h | h | h)
  · omega
  · omega
  · exact h hact
  · rw [hidle] at h
    cases h

theorem decodeStart_takes {x : Nat} (hp : (s.decReady info).decPick info core = some x) :
    decodeStart core info s = (s.decReady info).startDecode core (infoOf info x) x := by
  rw [decodeStart, if_neg (decodeStart_may hc hen hact hidle), hp]

theorem decodeStart_none (hp : (s.decReady info).decPick info core = none) : decodeStart core info s = s.decReady info := by
  rw [decodeStart, if_neg (decodeStart_may hc hen hact hidle), hp]

end

/-! ## The end of a picture (R286, R287, R289, R291) -/

/-- The access unit of `j`, decoded with result `r`, once its core is free in `u`: refused, discarded or decoded. -/
def State.decodeEnd (u : State) (j : DecJob) (r : DecodeResult) : State :=
  if u.streamRefusal j.ctx r ≠ 0 then u.refuseDecode j r (u.streamRefusal j.ctx r)
  else if u.decState j.ctx == decWait && !r.key then u.waitDecode j
  else (u.put (VDEC_CTX_STATUS_STATE j.ctx) decRun).decodeDone j r

section
variable {u : State} {j : DecJob} {r : DecodeResult}

theorem State.decodeEnd_refused (h : u.streamRefusal j.ctx r ≠ 0) : u.decodeEnd j r = u.refuseDecode j r (u.streamRefusal j.ctx r) :=
  if_pos h

theorem State.decodeEnd_waits (h : u.streamRefusal j.ctx r = 0) (hst : u.decState j.ctx = decWait) (hk : r.key = false) :
    u.decodeEnd j r = u.waitDecode j := by
  rw [State.decodeEnd, if_neg (by simp [h]), if_pos (by simp [hst, hk])]

theorem State.decodeEnd_decoded (h : u.streamRefusal j.ctx r = 0) (hk : u.decState j.ctx ≠ decWait ∨ r.key = true) :
    u.decodeEnd j r = (u.put (VDEC_CTX_STATUS_STATE j.ctx) decRun).decodeDone j r := by
  rw [State.decodeEnd, if_neg (by simp [h]), if_neg (by rcases hk with hk | hk <;> simp [hk])]

end

theorem decodeComplete_idle {s : State} {core : Nat} (h : s.codec.cores.getD core none = none) (r : DecodeResult) :
    decodeComplete core r s = s := by
  rw [decodeComplete, h]

theorem decodeComplete_ends {s : State} {core : Nat} {j : DecJob} (h : s.codec.cores.getD core none = some j) (r : DecodeResult) :
    decodeComplete core r s = (((s.freeCore core j).decodeEnd j r).settleCtx j.ctx).trimPool := by
  rw [decodeComplete, h]
  rfl

/-! ## The statement -/

/-- Settles O45, clause by clause: PUT, enabling and disabling, flush and reset, and the start and the end of a picture. -/
theorem decoderCommands : Obligations.DecoderCommands := by
  refine ⟨?put, ?putNetwork, ?enabled, ?enabledBusy, ?enableRefused, ?enabledAgain, ?disabled, ?disabledBusy, ?disabledOff, ?flush, ?flushBusy,
    ?reset, ?resetBusy, ?off, ?settled, ?started, ?noneReady, ?barred, ?refused, ?waits, ?decoded, ?noPicture⟩
  case put =>
    exact fun s x val hr hx hsrc => answers_runAlone (exec_vdecPut x val s) hr (pairShared_decPut hx) (vdecPut_host hx hsrc val)
  case putNetwork =>
    exact fun s x val hr hx hsrc => answers_runAlone (exec_vdecPut x val s) hr (pairShared_decPut hx) (vdecPut_network hsrc val)
  case enabled =>
    rintro s x val _ hr hx rfl hen hok hc
    exact answers_runAlone (exec_vdecCtxEnable x val s) hr (pairShared_decCfg hx) (vdecCtxEnable_idle hx val hen hok hc)
  case enabledBusy =>
    rintro s x c val _ hr hx rfl hen hok hc
    exact answers_runAlone (exec_vdecCtxEnable x val s) hr (pairShared_decCfg hx) (vdecCtxEnable_busy hx val hen hok hc)
  case enableRefused =>
    rintro s x val _ hr hx rfl hen hok
    exact answers_runAlone (exec_vdecCtxEnable x val s) hr (pairShared_decCfg hx) (vdecCtxEnable_refused hx val hen hok)
  case enabledAgain =>
    exact fun s x val hr hx hen =>
      answers_runAlone (exec_vdecCtxEnable x val s) hr (pairShared_decCfg hx) (vdecCtxEnable_again hx val hen)
  case disabled =>
    rintro s x val _ hr hx rfl hen hc
    exact answers_runAlone (exec_vdecCtxDisable x val s) hr (pairShared_decCfg hx)
      ((vdecCtxDisable_on hx val hen).trans (State.decAsked_idle hc _))
  case disabledBusy =>
    rintro s x c val _ hr hx rfl hen hc
    exact answers_runAlone (exec_vdecCtxDisable x val s) hr (pairShared_decCfg hx)
      ((vdecCtxDisable_on hx val hen).trans (State.decAsked_busy hc _))
  case disabledOff =>
    exact fun s x val hr hx hen =>
      answers_runAlone (exec_vdecCtxDisable x val s) hr (pairShared_decCfg hx) (vdecCtxDisable_off hx val hen)
  case flush =>
    exact fun s x hr hx hst hc => answers_runAlone (exec_vdecFlush x s) hr (pairShared_decCmd hx)
      ((vdecFlush_live hx hst).trans (State.decAsked_idle hc _))
  case flushBusy =>
    exact fun s x c hr hx hst hc => answers_runAlone (exec_vdecFlush x s) hr (pairShared_decCmd hx)
      ((vdecFlush_live hx hst).trans (State.decAsked_busy hc _))
  case reset =>
    exact fun s x hr hx hst hc => answers_runAlone (exec_vdecReset x s) hr (pairShared_decCmd hx)
      ((vdecReset_live hx hst).trans (State.decAsked_idle hc _))
  case resetBusy =>
    exact fun s x c hr hx hst hc => answers_runAlone (exec_vdecReset x s) hr (pairShared_decCmd hx)
      ((vdecReset_live hx hst).trans (State.decAsked_busy hc _))
  case off =>
    exact fun s x hr hx hst =>
      ⟨answers_runAlone (exec_vdecFlush x s) hr (pairShared_decCmd hx) (vdecFlush_off hst),
        answers_runAlone (exec_vdecReset x s) hr (pairShared_decCmd hx) (vdecReset_off hst)⟩
  case settled =>
    rintro s x _ _ rfl rfl
    exact ⟨State.settleCtx_flush, State.settleCtx_reset, State.settleCtx_off, State.settleCtx_nothing⟩
  case started =>
    exact fun s core x info hcore hc hen hact hidle hp =>
      answers_runCore (exec_decodeStart core info s) hcore (decodeStart_takes info hc hen hact hidle hp)
  case noneReady =>
    exact fun s core info hcore hc hen hact hidle hp =>
      answers_runCore (exec_decodeStart core info s) hcore (decodeStart_none info hc hen hact hidle hp)
  case barred => exact fun s core info hcore h => answers_runCore (exec_decodeStart core info s) hcore (decodeStart_barred info h)
  case refused =>
    rintro s core r j _ hcore hj rfl hcode
    exact answers_runCore (exec_decodeComplete core r s) hcore ((decodeComplete_ends hj r).trans (by rw [State.decodeEnd_refused hcode]))
  case waits =>
    rintro s core r j _ hcore hj rfl hcode hst hk
    exact answers_runCore (exec_decodeComplete core r s) hcore ((decodeComplete_ends hj r).trans (by rw [State.decodeEnd_waits hcode hst hk]))
  case decoded =>
    rintro s core r j _ hcore hj rfl hcode hk
    exact answers_runCore (exec_decodeComplete core r s) hcore ((decodeComplete_ends hj r).trans (by rw [State.decodeEnd_decoded hcode hk]))
  case noPicture => exact fun s core r hcore h => answers_runCore (exec_decodeComplete core r s) hcore (decodeComplete_idle h r)

end Sys2Proof.Machine
end

section
/-!
PROOF. The video encoder (R295 to R297, R299, R301, R302).
-/

namespace Sys2Proof.Machine

/-! The pair shares no register of an encoder context. -/

theorem pairShared_encCfg {e : Nat} (he : e < 16) : pairShared (VENC_CTX_CFG e) = false :=
  pairShared_between (by simp only [VENC_CTX_CFG]; omega) (by simp only [VENC_CTX_CFG]; omega)

theorem pairShared_encInPut {e : Nat} (he : e < 16) : pairShared (VENC_CTX_IN_PUT e) = false :=
  pairShared_between (by simp only [VENC_CTX_IN_PUT]; omega) (by simp only [VENC_CTX_IN_PUT]; omega)

/-! ## Enabling a context (R301) and IN_PUT (R295) -/

theorem vencInPut_low {e : Nat} (he : e < 16) (val : Word) (s : State) :
    vencInPut e val s = s.wrN (VENC_CTX_IN_PUT e) (val.toNat % 4096) := if_pos he

section
variable {s : State} {e : Nat} (he : e < 16) (val : Word)
include he

theorem vencCtxEnable_again (hen : s.on (VENC_CTX_CFG_EN e) = true) : vencCtxEnable e val s = s.encCfgFields e val := by
  rw [vencCtxEnable, if_neg (by omega), if_pos hen]

variable (hen : s.on (VENC_CTX_CFG_EN e) = false)
include hen

theorem vencCtxEnable_accepted (hok : (s.encCfgFields e val).encEnableCode e = 0) : vencCtxEnable e val s =
    ((((s.encCfgFields e val).put (VENC_CTX_CFG_EN e) 1).encErr e 0).put ⟨VENC_CTX_STATUS e, 0, 0⟩ 1).setEnc e
      (fun k => { k with coded := 0, fill := s.encS e / 2, sinceIdr := 0, remake := false }) := by
  rw [vencCtxEnable, if_neg (by omega), if_neg (by simp [hen]), if_neg (by simp [hok])]

theorem vencCtxEnable_refused (hno : (s.encCfgFields e val).encEnableCode e ≠ 0) : vencCtxEnable e val s =
    (s.encCfgFields e val).encRefuse e ((s.encCfgFields e val).encEnableCode e) := by
  rw [vencCtxEnable, if_neg (by omega), if_neg (by simp [hen]), if_pos hno]

end

/-! ## What a context does at its instant (R295, R297, R299) -/

/-- The context has a new input: its ring has entries, and GET is not at the PUT in force. -/
def State.encHasInput (s : State) (e : Nat) : Bool :=
  decide (s.bits (VENC_CTX_IN_CFG e) 11 0 ≠ 0) && s.bits (VENC_CTX_IN_GET e) 11 0 != (s.enc e).seen

/-- The newest input of the context. -/
def State.encNewest (s : State) (e : Nat) : EncIn :=
  s.encInput e (((s.enc e).seen + s.bits (VENC_CTX_IN_CFG e) 11 0 - 1) % s.bits (VENC_CTX_IN_CFG e) 11 0)

/-- The newest input is taken: GET is at the PUT in force. -/
def State.encTaken (s : State) (e : Nat) : State := s.wrN (VENC_CTX_IN_GET e) (s.enc e).seen

/-- A taken input is rejected with `code`, in ERR and in a record, and source 483 is raised. -/
def State.encReject (u : State) (e code : Nat) (d : EncIn) : State :=
  ((u.encErr e code).encNote e 4 code d.tag (some (d.tsNs, d.tsSec))).raiseMask 483 (2 ^ e)

section
variable {s : State} {e : Nat}

theorem State.encHasInput_false (h : s.bits (VENC_CTX_IN_CFG e) 11 0 = 0 ∨ s.bits (VENC_CTX_IN_GET e) 11 0 = (s.enc e).seen) :
    s.encHasInput e = false := by
  rcases h with h | h <;> simp [State.encHasInput, h]

theorem State.encHasInput_true (hn : s.bits (VENC_CTX_IN_CFG e) 11 0 ≠ 0) (hg : s.bits (VENC_CTX_IN_GET e) 11 0 ≠ (s.enc e).seen) :
    s.encHasInput e = true := by
  simp [State.encHasInput, hn, hg]

/-- `State.encodeAt` by its parts. -/
theorem State.encodeAt_eq (s : State) (e t : Nat) : s.encodeAt e t =
    if !s.encHasInput e && (s.enc e).coded == 0 && s.encBacklog e == 0 then s
    else if s.encNoSpace e then s.loseEncode e
    else if !s.encHasInput e then s.encRepeat e t
    else if s.encInputCode e (s.encNewest e) ≠ 0 then
      ((s.encTaken e).encReject e (s.encInputCode e (s.encNewest e)) (s.encNewest e)).encRepeat e t
    else (s.encTaken e).encCode e t (s.encNewest e) := rfl

theorem State.encodeAt_noPicture (hin : s.encHasInput e = false) (hc : (s.enc e).coded = 0) (hb : s.encBacklog e = 0) (t : Nat) :
    s.encodeAt e t = s := by
  rw [State.encodeAt_eq, if_pos (by simp [hin, hc, hb])]

theorem State.encodeAt_noRoom (hp : s.encHasInput e = true ∨ (s.enc e).coded ≠ 0 ∨ s.encBacklog e ≠ 0)
    (hs : s.encNoSpace e = true) (t : Nat) : s.encodeAt e t = s.loseEncode e := by
  rw [State.encodeAt_eq, if_neg (by rcases hp with h | h | h <;> simp [h]), if_pos hs]

theorem State.encodeAt_repeat (hin : s.encHasInput e = false) (hp : (s.enc e).coded ≠ 0 ∨ s.encBacklog e ≠ 0)
    (hs : s.encNoSpace e = false) (t : Nat) : s.encodeAt e t = s.encRepeat e t := by
  rw [State.encodeAt_eq, if_neg (by rcases hp with h | h <;> simp [h]), if_neg (by simp [hs]), if_pos (by simp [hin])]

theorem State.encodeAt_coded (hin : s.encHasInput e = true) (hs : s.encNoSpace e = false) (hok : s.encInputCode e (s.encNewest e) = 0)
    (t : Nat) : s.encodeAt e t = (s.encTaken e).encCode e t (s.encNewest e) := by
  rw [State.encodeAt_eq, if_neg (by simp [hin]), if_neg (by simp [hs]), if_neg (by simp [hin]), if_neg (by simp [hok])]

theorem State.encodeAt_rejected (hin : s.encHasInput e = true) (hs : s.encNoSpace e = false)
    (hno : s.encInputCode e (s.encNewest e) ≠ 0) (t : Nat) : s.encodeAt e t =
      ((s.encTaken e).encReject e (s.encInputCode e (s.encNewest e)) (s.encNewest e)).encRepeat e t := by
  rw [State.encodeAt_eq, if_neg (by simp [hin]), if_neg (by simp [hs]), if_neg (by simp [hin]), if_pos hno]

/-! ## An instant in the running tick (R295) -/

theorem encodeInstant_barred (h : 16 ≤ e ∨ s.bits VENC_CTRL 0 0 = 0 ∨ s.on (VENC_CTX_CFG_EN e) = false ∨ s.pwrState ≠ 1
    ∨ (s.enc e).lastAt = some s.evc.tick ∨ s.instantNow e = none) : encodeInstant e s = s := by
  rcases ht : s.instantNow e with _ | t
  · rw [encodeInstant, ht]
    exact ite_self s
  · exact if_pos (by simpa [ht] using h)

theorem encodeInstant_now {t : Nat} (he : e < 16) (hctrl : s.bits VENC_CTRL 0 0 = 1) (hen : s.on (VENC_CTX_CFG_EN e) = true)
    (hact : s.pwrState = 1) (hlast : (s.enc e).lastAt ≠ some s.evc.tick) (ht : s.instantNow e = some t) :
    encodeInstant e s = (s.setEnc e (fun x => { x with lastAt := some s.evc.tick })).encodeAt e t := by
  rw [encodeInstant, if_neg (by simp [hctrl, hen, hact, hlast]; omega), ht]

end

/-! ## The end of a picture (R299, R302) -/

theorem encodeComplete_idle {s : State} {core : Nat} (h : s.codec.coresE.getD core none = none) (r : EncodeResult) :
    encodeComplete core r s = s := by
  rw [encodeComplete, h]

/-- The filler that CBR appends to the picture of job `j`, and the access unit with it. -/
def State.encFillerOf (s : State) (j : EncJob) (r : EncodeResult) : List Byte := fillerNal (s.encFiller j (s.encRun j r).bits)
def State.encAu (s : State) (j : EncJob) (r : EncodeResult) : List Byte :=
  padTo (ceilDiv (s.encRun j r).bits 8) (r.au.take (ceilDiv (s.encRun j r).bits 8)) ++ s.encFillerOf j r

section
variable {s : State} {core : Nat} {j : EncJob} {r : EncodeResult} (hj : s.codec.coresE.getD core none = some j)
include hj

theorem encodeComplete_placed {off : Nat} (hp : (s.freeEncCore core).encPlace j.ctx (s.encAu j r).length = some off) :
    encodeComplete core r s = (((s.freeEncCore core).finishEncode j (s.encRun j r) (s.encQp j r) (s.encFillerOf j r).length
      (s.encAu j r) off).encAssign 0).encAssign 1 := by
  simp only [State.encAu, State.encFillerOf] at hp ⊢
  simp only [encodeComplete, hj, hp]

theorem encodeComplete_lost (hp : (s.freeEncCore core).encPlace j.ctx (s.encAu j r).length = none) :
    encodeComplete core r s = (((s.freeEncCore core).loseEncode j.ctx).encAssign 0).encAssign 1 := by
  simp only [State.encAu, State.encFillerOf] at hp
  simp only [encodeComplete, hj, hp]

end

/-! ## The statement -/

/-- Settles O46, clause by clause: enabling, IN_PUT, the instants of a context and the end of a picture. -/
theorem encoderCommands : Obligations.EncoderCommands := by
  refine ⟨?enabled, ?enableRefused, ?enabledAgain, ?inPut, ?noInput, ?input, ?barred, ?placed, ?lost, ?noPicture⟩
  case enabled =>
    rintro s e val _ _ hr he rfl hen hok rfl
    exact answers_runAlone (exec_vencCtxEnable e val s) hr (pairShared_encCfg he) (vencCtxEnable_accepted he val hen hok)
  case enableRefused =>
    rintro s e val _ hr he rfl hen hno
    exact answers_runAlone (exec_vencCtxEnable e val s) hr (pairShared_encCfg he) (vencCtxEnable_refused he val hen hno)
  case enabledAgain =>
    exact fun s e val hr he hen =>
      answers_runAlone (exec_vencCtxEnable e val s) hr (pairShared_encCfg he) (vencCtxEnable_again he val hen)
  case inPut =>
    exact fun s e val hr he => answers_runAlone (exec_vencInPut e val s) hr (pairShared_encInPut he) (vencInPut_low he val s)
  case noInput =>
    rintro s _ e t _ _ hcore he hctrl hen hact hlast ht rfl rfl rfl
    have hnow := encodeInstant_now he hctrl hen hact hlast ht
    refine ⟨fun hin hc hb => ?_, fun hin hp hs => ?_, fun hin hp hs => ?_⟩
    · exact answers_runCore (exec_encodeInstant e s) hcore (hnow.trans (State.encodeAt_noPicture (State.encHasInput_false hin) hc hb t))
    · exact answers_runCore (exec_encodeInstant e s) hcore (hnow.trans (State.encodeAt_noRoom (.inr hp) hs t))
    · exact answers_runCore (exec_encodeInstant e s) hcore (hnow.trans (State.encodeAt_repeat (State.encHasInput_false hin) hp hs t))
  case input =>
    rintro s _ e t _ _ _ hcore he hctrl hen hact hlast ht rfl rfl rfl rfl hn hg
    have hnow := encodeInstant_now he hctrl hen hact hlast ht
    have hin := State.encHasInput_true hn hg
    refine ⟨fun hs => ?_, fun hs hok => ?_, fun hs hno => ?_⟩
    · exact answers_runCore (exec_encodeInstant e s) hcore (hnow.trans (State.encodeAt_noRoom (.inl hin) hs t))
    · exact answers_runCore (exec_encodeInstant e s) hcore (hnow.trans (State.encodeAt_coded hin hs hok t))
    · exact answers_runCore (exec_encodeInstant e s) hcore (hnow.trans (State.encodeAt_rejected hin hs hno t))
  case barred => exact fun s e hcore h => answers_runCore (exec_encodeInstant e s) hcore (encodeInstant_barred h)
  case placed =>
    rintro s core off r j _ _ _ _ hcore hj rfl rfl rfl rfl hp
    exact answers_runCore (exec_encodeComplete core r s) hcore (encodeComplete_placed hj hp)
  case lost =>
    rintro s core r j _ _ _ _ hcore hj rfl rfl rfl rfl hp
    exact answers_runCore (exec_encodeComplete core r s) hcore (encodeComplete_lost hj hp)
  case noPicture => exact fun s core r hcore h => answers_runCore (exec_encodeComplete core r s) hcore (encodeComplete_idle h r)

end Sys2Proof.Machine
end

section
/-!
PROOF. When a command of the always-on domain or of a PLL's domain acts, and the time unit (R312, R313, R315, R317).
-/

namespace Sys2Proof.Machine

/-! ## Commands of the always-on domain and of a PLL's domain (R16) -/

theorem answers_runAon {c : Instr} {s t : State} {f : State → State} (hc : exec c s = .next (s.runAon f))
    (hgood : s.pwr.rails.powerGood = true) (ht : f s = t) : answers c s t := by
  rw [answers_iff, hc, State.runAon_on hgood, ht]

theorem State.runPll_on {s : State} {p : Nat} (hgood : s.pwr.rails.powerGood = true) (hlock : s.pllLocked p = true)
    (f : State → State) : s.runPll p f = s.keepQueue (f s) := by
  simp [State.runPll, hgood, hlock]

theorem answers_runPll {c : Instr} {s t : State} {p : Nat} {f : State → State} (hc : exec c s = .next (s.runPll p f))
    (hgood : s.pwr.rails.powerGood = true) (hlock : s.pllLocked p = true) (ht : f s = t) : answers c s t := by
  rw [answers_iff, hc, State.runPll_on hgood hlock, ht]

/-! ## Registers of the time unit: the pair shares none -/

theorem pairShared_tmuCmd : pairShared TMU_CMD = false := pairShared_below (by decide)

theorem pairShared_tmuIncr : pairShared TMU_INCR_FRAC = false := pairShared_below (by decide)

theorem pairShared_trigCtrl {n : Nat} (hn : n < 8) : pairShared (TMU_TRIG_CTRL n) = false :=
  pairShared_below (by simp only [TMU_TRIG_CTRL]; omega)

theorem pairShared_trigTarget {n which : Nat} (hn : n < 8) (hw : which < 3) : pairShared (TMU_TRIG_NS n + 4 * which) = false :=
  pairShared_below (by simp only [TMU_TRIG_NS]; omega)

set_option maxRecDepth 40000 in
theorem regRowAt_tmuTime : (regRowAt TMU_TIME_NS).isSome = true := by decide

/-! ## Increments (R312) -/

/-- The increment that TMU_INCR_NS and a write of TMU_INCR_FRAC ask for. -/
def State.incrAsked (s : State) (val : Word) : Nat := 2 ^ 32 * s.bits TMU_INCR_NS 7 0 + val.toNat

section
variable {s : State} {val : Word}

theorem incrWrite_inRange (h : incrInRange (s.incrAsked val) = true) :
    incrWrite val s = { s.wr TMU_INCR_FRAC val with tmu := { (s.wr TMU_INCR_FRAC val).tmu with incr := s.incrAsked val } } := if_pos h

theorem incrWrite_outOfRange (h : incrInRange (s.incrAsked val) = false) :
    incrWrite val s = (((s.wrN TMU_INCR_NS (s.tmu.incr / 2 ^ 32)).wrN TMU_INCR_FRAC (s.tmu.incr % 2 ^ 32)).put
      TMU_STATUS_INCR_REFUSED 1).raise 65 0 := if_neg (ne_true_of_eq_false h)

end

/-! ## Steps and sets (R313) -/

/-- The step that TMU_ADJ_SEC and TMU_ADJ_NS ask for, in nanoseconds. -/
def State.stepAsked (s : State) : Int := 10 ^ 9 * signedOf 32 (s.rdN TMU_ADJ_SEC) + signedOf 32 (s.rdN TMU_ADJ_NS)

/-- The time that the TMU_SET registers ask for, in units of 2^-32 ns. -/
def State.timeAsked (s : State) : Nat :=
  2 ^ 32 * (10 ^ 9 * (s.rdN TMU_SET_SEC_LO + 2 ^ 32 * s.bits TMU_SET_SEC_HI 15 0) + s.rdN TMU_SET_NS)

/-- How far a set moves time, in units of 2^-32 ns. -/
def State.setMove (s : State) : Int := (s.timeAsked : Int) - (s.tmu.time : Int)

section
variable {s : State} {force : Bool}

theorem timeStep_accepted (h : force = true ∨ s.stepAsked.natAbs ≤ s.rdN TMU_STEP_LIMIT) : timeStep force s =
    s.applyStep (((s.tmu.time : Int) + 2 ^ 32 * s.stepAsked) % (timeModulus : Nat)).toNat s.stepAsked := by
  have hno : ¬(!force && decide (s.rdN TMU_STEP_LIMIT < s.stepAsked.natAbs)) = true := by
    rcases h with rfl | h
    · simp
    · simp [Nat.not_lt.mpr h]
  exact if_neg hno

theorem timeStep_tooLarge (h : s.rdN TMU_STEP_LIMIT < s.stepAsked.natAbs) : timeStep false s = s.refuseStep :=
  if_pos (decide_eq_true h)

theorem timeSet_badNs (h : 10 ^ 9 ≤ s.rdN TMU_SET_NS) : timeSet force s = s.refuseStep := if_pos h

variable (hns : s.rdN TMU_SET_NS < 10 ^ 9)
include hns

theorem timeSet_goodNs : timeSet force s =
    if s.on TMU_STATUS_VALID && !force && decide (2 ^ 32 * s.rdN TMU_STEP_LIMIT < s.setMove.natAbs) then s.refuseStep
    else s.applyStep s.timeAsked (s.setMove / 2 ^ 32) := if_neg (Nat.not_le.mpr hns)

theorem timeSet_accepted
    (h : s.on TMU_STATUS_VALID = false ∨ force = true ∨ s.setMove.natAbs ≤ 2 ^ 32 * s.rdN TMU_STEP_LIMIT) :
    timeSet force s = s.applyStep s.timeAsked (s.setMove / 2 ^ 32) := by
  rw [timeSet_goodNs hns, if_neg]
  rcases h with h | rfl | h
  · simp [h]
  · simp
  · rw [decide_eq_false (Nat.not_lt.mpr h), Bool.and_false]
    exact Bool.false_ne_true

theorem timeSet_tooLarge (hv : s.on TMU_STATUS_VALID = true) (h : 2 ^ 32 * s.rdN TMU_STEP_LIMIT < s.setMove.natAbs) :
    timeSet false s = s.refuseStep := by
  rw [timeSet_goodNs hns, if_pos (by rw [hv, decide_eq_true h]; rfl)]

end

theorem unsignedOf_lt (w : Nat) (v : Int) : unsignedOf w v < 2 ^ w := by
  have hpos : (0 : Int) < (2 ^ w : Nat) := by positivity
  have hlt := Int.emod_lt_of_pos v hpos
  have hnn := Int.emod_nonneg v hpos.ne'
  rw [unsignedOf]
  omega

section
variable (s : State) (t : Nat) (d : Int)

theorem State.applyStep_time : (s.applyStep t d).tmu.time = t % timeModulus := by
  rw [State.applyStep, State.raise_tmu, State.wrN_tmu, State.put_tmu]

theorem State.applyStep_valid : (s.applyStep t d).on TMU_STATUS_VALID = true := by
  rw [State.applyStep, State.raise_on, State.on, State.get_wrN_off _ _ _ _ (by decide), State.get_put_same _ TMU_STATUS_VALID]
  rfl

theorem State.applyStep_lastStep : (s.applyStep t d).rdN TMU_LAST_STEP_NS = unsignedOf 32 (clampInt (-(2 ^ 31)) (2 ^ 31 - 1) d) := by
  rw [State.applyStep, State.raise_rdN, State.rdN_wrN, if_pos rfl, Nat.mod_eq_of_lt (unsignedOf_lt 32 _)]

theorem State.applyStep_raised : (s.applyStep t d).evc.raised = (s.raise 66 0).evc.raised := rfl

end

/-! ## Reading the time (R312) -/

theorem exec_timeRead_reaches {s : State} (h : s.reaches TMU_TIME_NS) :
    exec .timeRead s = .next (s.keepQueue ((timeRead s).complete (leBytes 4 ((timeRead s).rdN TMU_TIME_NS)) false)) := by
  obtain ⟨hd, hon, -⟩ := h
  obtain ⟨r, hrow⟩ := Option.isSome_iff_exists.mp regRowAt_tmuTime
  exact exec_rcRead_defined hd (by decide) (by decide) hon hrow

/-! ## Triggers, the pulse output and the external input (R315, R317) -/

theorem State.judgeLate_late {s : State} {n : Nat} (hn : n < s.tmu.late.length) :
    (s.judgeLate n).tmu.late.getD n false = (s.on (TMU_TRIG_CTRL_ARM n) && decide (s.trigTarget n ≤ s.ptpTotalNs)) := by
  simp [State.judgeLate, hn]

section
variable {s : State} {n : Nat}

theorem triggerFire_idle (h : s.on (TMU_TRIG_CTRL_ARM n) = false ∨ s.ptpTickEnd ≤ s.trigTarget n) : triggerFire n s = s :=
  if_pos (by simpa using h)

/-- An armed trigger that is due fails the test under which `triggerFire` does nothing. -/
theorem trigger_due (harm : s.on (TMU_TRIG_CTRL_ARM n) = true) (hdue : s.trigTarget n < s.ptpTickEnd) :
    ¬(!s.on (TMU_TRIG_CTRL_ARM n) || decide (s.ptpTickEnd ≤ s.trigTarget n)) = true := by
  simp [harm, Nat.not_le.mpr hdue]

theorem ppsEdge_rises (hen : s.bits TMU_PPS_CFG 0 0 = 1) (hsec : s.secondPasses = true) : ppsEdge s =
    { s with tmu := { s.tmu with ppsOut := true, ppsTill := s.now + 2000000 * max 1 (s.bits TMU_PPS_CFG 15 8) } } :=
  if_pos ⟨hen, hsec⟩

theorem ppsEdge_idle (h : s.bits TMU_PPS_CFG 0 0 = 0 ∨ s.secondPasses = false) : ppsEdge s = s :=
  if_neg fun ⟨hen, hsec⟩ => by simp [hen, hsec] at h

theorem extCapture_off (h : s.bits TMU_EXT_CFG 0 0 = 0) : extCapture s = s := if_neg (by simp [h])

end

/-! ## The statement -/

/-- Settles O49, clause by clause: the increment, steps and sets, the read of the time, the triggers, the pulses and the external input. -/
theorem timeUnit : Obligations.TimeUnit := by
  refine ⟨?incr, ?incrRefused, ?step, ?stepRefused, ?setBadNs, ?set, ?setRefused,
    fun s t d => ⟨s.applyStep_time t d, s.applyStep_valid t d, s.applyStep_lastStep t d, s.applyStep_raised t d⟩,
    ?read, ?arm, ?target, fun s n => State.judgeLate_late, ?fire, ?noFire, ?second, ?noSecond, ?ext, ?extOff,
    ?ppsFalls, ?ppsStays, ?trigFalls, ?trigStays⟩
  case incr =>
    rintro s val _ _ hr rfl hin rfl
    exact answers_runAlone (exec_incrWrite val s) hr pairShared_tmuIncr (incrWrite_inRange hin)
  case incrRefused =>
    exact fun s val hr hout => answers_runAlone (exec_incrWrite val s) hr pairShared_tmuIncr (incrWrite_outOfRange hout)
  case step =>
    rintro s force _ hr rfl h
    exact answers_runAlone (exec_timeStep force s) hr pairShared_tmuCmd (timeStep_accepted h)
  case stepRefused =>
    rintro s _ hr rfl h
    exact answers_runAlone (exec_timeStep false s) hr pairShared_tmuCmd (timeStep_tooLarge h)
  case setBadNs => exact fun s force hr h => answers_runAlone (exec_timeSet force s) hr pairShared_tmuCmd (timeSet_badNs h)
  case set =>
    rintro s force _ hr hns rfl h
    exact answers_runAlone (exec_timeSet force s) hr pairShared_tmuCmd (timeSet_accepted hns h)
  case setRefused =>
    rintro s _ hr hns rfl hv h
    exact answers_runAlone (exec_timeSet false s) hr pairShared_tmuCmd (timeSet_tooLarge hns hv h)
  case read =>
    rintro s _ hr rfl
    exact exec_timeRead_reaches hr
  case arm => exact fun s n val hn hr => answers_runAlone (exec_triggerArm n val s) hr (pairShared_trigCtrl hn) rfl
  case target =>
    exact fun s n which val hn hw hr =>
      answers_runAlone (exec_triggerTargetWrite n which val s) hr (pairShared_trigTarget hn hw) rfl
  case fire =>
    rintro s n _ _ _ _ _ _ hgood hlock harm hdue rfl rfl rfl rfl rfl rfl
    exact answers_runPll (exec_triggerFire n s) hgood hlock (if_neg (trigger_due harm hdue))
  case noFire => exact fun s n hgood hlock h => answers_runPll (exec_triggerFire n s) hgood hlock (triggerFire_idle h)
  case second => exact fun s hgood hlock hen hsec => answers_runPll (exec_ppsEdge s) hgood hlock (ppsEdge_rises hen hsec)
  case noSecond => exact fun s hgood hlock h => answers_runPll (exec_ppsEdge s) hgood hlock (ppsEdge_idle h)
  case ext =>
    rintro s _ _ hgood hlock hen rfl rfl
    exact answers_runPll (exec_extCapture s) hgood hlock (if_pos hen)
  case extOff => exact fun s hgood hlock h => answers_runPll (exec_extCapture s) hgood hlock (extCapture_off h)
  case ppsFalls => exact fun s hgood hlock h => answers_runPll (exec_pulseWidthEnd true s) hgood hlock (if_pos h)
  case ppsStays =>
    exact fun s hgood hlock h => answers_runPll (exec_pulseWidthEnd true s) hgood hlock (if_neg (Nat.not_lt.mpr h))
  case trigFalls => exact fun s hgood hlock h => answers_runPll (exec_pulseWidthEnd false s) hgood hlock (if_pos h)
  case trigStays =>
    exact fun s hgood hlock h => answers_runPll (exec_pulseWidthEnd false s) hgood hlock (if_neg (Nat.not_lt.mpr h))

end Sys2Proof.Machine
end

section
/-!
PROOF. Frames on the network ports, the node table and the links (R310, R311, R315, R316, R329, R330, R332 to R334, R337).
-/

namespace Sys2Proof.Machine

/-! ## Reception (R310, R400) -/

section
variable {s : State} {p : Nat} {bytes : List Byte} (capture : Nat)

theorem rxFrame_portOff (h : s.portOn p = false) : rxFrame p bytes capture s = s := if_pos (by simp [h])

section
variable (hon : s.portOn p = true)
include hon

theorem rxFrame_awake (haw : s.asleep = false) : rxFrame p bytes capture s =
    if s.frameOk bytes then (s.count (NET_P_RX_FRAMES p)).takeFrame p bytes capture else (s.count (NET_P_RX_FRAMES p)).rxError p := by
  rw [rxFrame, if_neg (by simp [hon]), if_neg (by simp [haw])]

theorem rxFrame_asleep (hsl : s.asleep = true) : rxFrame p bytes capture s =
    if s.pwrState = 3 ∨ s.pwrState = 4 then s.wakeMatch p bytes else s := by
  rw [rxFrame, if_neg (by simp [hon]), if_pos hsl]

end

theorem rxFrame_noEffect (h : s.portOn p = false ∨ (s.asleep = true ∧ s.pwrState ≠ 3 ∧ s.pwrState ≠ 4)) :
    rxFrame p bytes capture s = s := by
  cases hon : s.portOn p
  case false => exact rxFrame_portOff capture hon
  case true =>
    obtain ⟨hsl, h3, h4⟩ := h.resolve_left (by simp [hon])
    rw [rxFrame_asleep capture hon hsl, if_neg (by simp [h3, h4])]

end

/-! ## The drain of the ingress buffers (R330) -/

section
variable {s : State}

theorem State.drainFrame_held {p i : Nat} {f : InFrame} (hf : (s.net.held.getD p [])[i]? = some f) : s.drainFrame p i =
    (State.showBuf { s with net := { s.net with held := s.net.held.modify p (fun l => l.eraseIdx i), drainTurn := 1 - p } } p).deliverFrame
      p f := by
  rw [State.drainFrame, hf]

theorem ingressDrain_next {p i : Nat} (hp : s.drainPort = some p) (hi : nextHeld (s.net.held.getD p []) = some i) :
    ingressDrain s = s.drainFrame p i := by
  simp only [ingressDrain, hp, hi]

theorem ingressDrain_none (hp : s.drainPort = none) : ingressDrain s = s := by
  rw [ingressDrain, hp]

end

/-! ## Sending (R332, R333) -/

section
variable {s : State} {p : Nat} (capture : Nat)

theorem txFrame_sends {k : Nat} {f : OutFrame} {rest : List OutFrame} (hon : s.portOn p = true) (hlink : s.bits (NET_P_STATUS p) 0 0 = 1)
    (hb : s.boundary p < 100 * (s.now + s.tickHalfNs)) (hk : (s.settlePort p (s.boundary p)).egressPick p = some k)
    (hf : ((s.settlePort p (s.boundary p)).queue k).frames = f :: rest) : txFrame p capture s =
      (s.settlePort p (s.boundary p)).sendFront p k (s.boundary p) capture f rest := by
  rw [txFrame, if_neg (by simp [hon, hlink, Nat.not_le.mpr hb])]
  simp only [hk, hf]

theorem txFrame_idle (h : s.portOn p = false ∨ s.bits (NET_P_STATUS p) 0 0 = 0 ∨ 100 * (s.now + s.tickHalfNs) ≤ s.boundary p
    ∨ (s.settlePort p (s.boundary p)).egressPick p = none) : txFrame p capture s = s := by
  rcases h with h | h | h | h
  · exact if_pos (.inl (by simp [h]))
  · exact if_pos (.inr (.inl h))
  · exact if_pos (.inr (.inr h))
  · rw [txFrame, h]
    exact ite_self s

end

/-- The front frame `f` of queue `k` of port `p` is dropped at its delay bound: a ranked loss, and done with. -/
def State.delayDropped (s : State) (p k : Nat) (f : OutFrame) (rest : List OutFrame) : State :=
  (((((s.settleQueueAt k (100 * s.now)).setQueue k (fun x => { x with frames := rest })).count (NET_P_DELAY_LOSS p)).rankedLoss f.ctx
    (s.queueRank k)).outDone f).pumpAll

section
variable {s : State} {p q : Nat} {f : OutFrame} {rest : List OutFrame} (hf : (s.queue (64 * p + q)).frames = f :: rest)
include hf

theorem egressDelayDrop_front : egressDelayDrop p q s =
    if 2 ≤ p ∨ 64 ≤ q ∨ s.now + s.tickHalfNs ≤ (s.delayEnd (64 * p + q) f).getD (s.now + s.tickHalfNs) then s
    else s.delayDropped p (64 * p + q) f rest := by
  simp only [egressDelayDrop, hf, State.delayDropped]

theorem egressDelayDrop_ended {e : Nat} (hp : p < 2) (hq : q < 64) (hd : s.delayEnd (64 * p + q) f = some e)
    (he : e < s.now + s.tickHalfNs) : egressDelayDrop p q s = s.delayDropped p (64 * p + q) f rest := by
  rw [egressDelayDrop_front hf, hd, Option.getD_some, if_neg (by omega)]

theorem egressDelayDrop_stays (h : ∀ e, s.delayEnd (64 * p + q) f = some e → s.now + s.tickHalfNs ≤ e) : egressDelayDrop p q s = s := by
  rw [egressDelayDrop_front hf]
  refine if_pos (.inr (.inr ?_))
  cases hd : s.delayEnd (64 * p + q) f
  case none => exact le_rfl
  case some e => exact h e hd

end

/-! ## PRP: supervision and the node table (R311) -/

section
variable {s : State}

theorem prpSupervisionSend_due (hen : s.on NET_CTRL_EN = true) (hprp : s.on NET_CTRL_PRP_EN = true)
    (ht : s.net.supAt + s.supNs < s.now + s.tickHalfNs) : prpSupervisionSend s =
      State.sendFrame { s with net := { s.net with supAt := s.now, supSeq := (s.net.supSeq + 1) % 65536 } } 3 64
        { ctx := 1, bytes := s.supFrame, ts := none, enq := 0, enc := none } :=
  if_neg (by simp [hen, hprp, Nat.not_le.mpr ht])

theorem prpSupervisionSend_idle (h : s.on NET_CTRL_EN = false ∨ s.on NET_CTRL_PRP_EN = false
    ∨ s.now + s.tickHalfNs ≤ s.net.supAt + s.supNs) : prpSupervisionSend s = s :=
  if_pos (by rcases h with h | h | h <;> simp [h])

variable {node : Nat} {e : Node} (he : s.net.nodes[node]? = some e)
include he

theorem prpLanLost_lost {p t : Nat} (hp : p < 2) (hl : e.lost.getD p false = false) (hh : e.heard p + 3 * s.supNs < s.now + s.tickHalfNs)
    (ho : e.lastP.getD (1 - p) none = some t) (ht : s.now ≤ t + 3 * s.supNs) : prpLanLost node p s =
      State.raiseMask { s with net := { s.net with nodes := s.net.nodes.set node { e with lost := e.lost.set p true } } }
        (516 + 32 * p) (2 ^ p) := by
  rw [prpLanLost, he]
  exact if_pos ⟨hp, hl, hh, by simp only [ho, decide_eq_true ht]⟩

theorem prpLanLost_not {p : Nat} (h : e.lost.getD p false = true ∨ s.now + s.tickHalfNs ≤ e.heard p + 3 * s.supNs) :
    prpLanLost node p s = s := by
  rw [prpLanLost, he]
  refine if_neg fun ⟨_, hl, hh, _⟩ => ?_
  rcases h with h | h
  · exact absurd h (ne_true_of_eq_false hl)
  · exact absurd hh (Nat.not_lt.mpr h)

theorem prpNodeForget_silent (ht : e.last + s.forgetNs < s.now + s.tickHalfNs) : prpNodeForget node s =
    State.showNodes { s with net := { s.net with nodes := s.net.nodes.eraseIdx node } } := by
  rw [prpNodeForget, he]
  exact if_pos ht

theorem prpNodeForget_heard (ht : s.now + s.tickHalfNs ≤ e.last + s.forgetNs) : prpNodeForget node s = s := by
  rw [prpNodeForget, he]
  exact if_neg (Nat.not_lt.mpr ht)

end

/-! ## Links (R337) -/

section
variable {s : State} {p : Nat}

theorem portLinkUp_gains (hon : s.portOn p = true) (hdown : s.bits (NET_P_STATUS p) 0 0 ≠ 1) (fec : Nat) : portLinkUp p fec s =
    (s.wrN (NET_P_STATUS p) (1 + 2 * bit (!([1, 2, 4].contains (s.get (NET_P_CFG_MODE p)))) + 4 * s.fecInUse p fec + 16)).raiseMask
      (512 + 32 * p) (2 ^ p) := if_neg (by simp [hon, hdown])

theorem portLinkUp_idle (h : s.portOn p = false ∨ s.bits (NET_P_STATUS p) 0 0 = 1) (fec : Nat) : portLinkUp p fec s = s :=
  if_pos (by simpa using h)

theorem portLinkDown_loses (hp : p < 2) (hup : s.bits (NET_P_STATUS p) 0 0 ≠ 0) : portLinkDown p s =
    (s.wrN (NET_P_STATUS p) 0).raiseMask (513 + 32 * p) (2 ^ p) := if_neg (by simp [hp, hup])

end

/-! ## The statement -/

/-- Settles O47, clause by clause: reception and the drain, sending and the delay bound, the Sieve, PRP, the links and the histogram. -/
theorem framesOnThePorts : Obligations.FramesOnThePorts := by
  refine ⟨?taken, ?error, ?wake, ?noEffect, ?drain, ?noneHeld, ?sent, ?notSent, ?dropped, ?stays, ?refill, ?refilled, ?supervision,
    ?noSupervision, ?lanLost, ?lanHeard, ?forgotten, ?kept, ?linkUp, ?noLinkUp, ?linkDown, ?noLinkDown, ?sampled, ?notSampled⟩
  case taken =>
    exact fun s p capture bytes hgood hon haw hok =>
      answers_runAon (exec_rxFrame p bytes capture s) hgood ((rxFrame_awake capture hon haw).trans (if_pos hok))
  case error =>
    exact fun s p capture bytes hgood hon haw hbad =>
      answers_runAon (exec_rxFrame p bytes capture s) hgood ((rxFrame_awake capture hon haw).trans (if_neg (ne_true_of_eq_false hbad)))
  case wake =>
    exact fun s p capture bytes hgood hon hsl hst =>
      answers_runAon (exec_rxFrame p bytes capture s) hgood ((rxFrame_asleep capture hon hsl).trans (if_pos hst))
  case noEffect =>
    exact fun s p capture bytes hgood h => answers_runAon (exec_rxFrame p bytes capture s) hgood (rxFrame_noEffect capture h)
  case drain =>
    rintro s p i f _ hcore hp hi hf rfl
    exact answers_runCore (exec_ingressDrain s) hcore ((ingressDrain_next hp hi).trans (State.drainFrame_held hf))
  case noneHeld => exact fun s hcore h => answers_runCore (exec_ingressDrain s) hcore (ingressDrain_none h)
  case sent =>
    rintro s p k capture f rest _ hcore hon hlink hb rfl hk hf
    exact answers_runCore (exec_txFrame p capture s) hcore (txFrame_sends capture hon hlink hb hk hf)
  case notSent => exact fun s p capture hcore h => answers_runCore (exec_txFrame p capture s) hcore (txFrame_idle capture h)
  case dropped =>
    rintro s p q _ e f rest hcore hp hq rfl hf hd he
    exact answers_runCore (exec_egressDelayDrop p q s) hcore (egressDelayDrop_ended hf hp hq hd he)
  case stays =>
    rintro s p q _ f rest hcore - - rfl hf h
    exact answers_runCore (exec_egressDelayDrop p q s) hcore (egressDelayDrop_stays hf h)
  case refill => exact fun s hcore h => answers_runCore (exec_sieveRefill s) hcore (if_neg h)
  case refilled => exact fun s hcore h => answers_runCore (exec_sieveRefill s) hcore (if_pos h)
  case supervision =>
    rintro s _ hcore hen hprp ht rfl
    exact answers_runCore (exec_prpSupervisionSend s) hcore (prpSupervisionSend_due hen hprp ht)
  case noSupervision => exact fun s hcore h => answers_runCore (exec_prpSupervisionSend s) hcore (prpSupervisionSend_idle h)
  case lanLost =>
    exact fun s node p t e hcore he hp hl hh ho ht =>
      answers_runCore (exec_prpLanLost node p s) hcore (prpLanLost_lost he hp hl hh ho ht)
  case lanHeard => exact fun s node p e hcore he h => answers_runCore (exec_prpLanLost node p s) hcore (prpLanLost_not he h)
  case forgotten =>
    exact fun s node e hcore he ht => answers_runCore (exec_prpNodeForget node s) hcore (prpNodeForget_silent he ht)
  case kept => exact fun s node e hcore he ht => answers_runCore (exec_prpNodeForget node s) hcore (prpNodeForget_heard he ht)
  case linkUp => exact fun s p fec hcore hon hdown => answers_runCore (exec_portLinkUp p fec s) hcore (portLinkUp_gains hon hdown fec)
  case noLinkUp => exact fun s p fec hcore h => answers_runCore (exec_portLinkUp p fec s) hcore (portLinkUp_idle h fec)
  case linkDown => exact fun s p hcore hp hup => answers_runCore (exec_portLinkDown p s) hcore (portLinkDown_loses hp hup)
  case noLinkDown => exact fun s p hcore h => answers_runCore (exec_portLinkDown p s) hcore (if_pos (.inr h))
  case sampled => exact fun s hcore h => answers_runCore (exec_histSample s) hcore (if_neg (Nat.not_lt.mpr h))
  case notSampled => exact fun s hcore h => answers_runCore (exec_histSample s) hcore (if_pos h)

end Sys2Proof.Machine
end

section
/-!
PROOF. The flow contexts, exact matches, rings and lists of the network (R316, R322, R326, R327, R331).
-/

namespace Sys2Proof.Machine

/-! The pair shares no register of the network. -/

theorem pairShared_flowCmd : pairShared NET_FLOW_CMD = false := pairShared_between (by decide) (by decide)

theorem pairShared_exactCmd : pairShared NET_EXACT_CMD = false := pairShared_between (by decide) (by decide)

theorem pairShared_lossPop : pairShared NET_LOSS_POP = false := pairShared_between (by decide) (by decide)

theorem pairShared_htxPut {r : Nat} (hr : r < 16) : pairShared (NET_HTX_PUT r) = false :=
  pairShared_between (by simp only [NET_HTX_PUT]; omega) (by simp only [NET_HTX_PUT]; omega)

theorem pairShared_tsqPop {p : Nat} (hp : p < 2) : pairShared (NET_P_TSQ_POP p) = false :=
  pairShared_between (by simp only [NET_P_TSQ_POP]; omega) (by simp only [NET_P_TSQ_POP]; omega)

/-! ## NET_FLOW_CMD WRITE (R322) -/

section
variable {s : State}

section
variable (hsoft : ∀ c, s.ctxIn s.net.flows s.flowData.ctx = some c → c.image = false)
include hsoft

/-- A context that the image does not define, whether the host has defined it or nothing has. -/
theorem flowWrite_soft : flowWrite s =
    if 1 < s.flowData.kind ∨ (s.flowData.kind = 1 ∧ 15 < s.flowData.target) then s.flowRefuse flowLocked
    else if s.flowData.rank < 6 then s.flowRefuse flowRank else s.putFlow s.flowData := by
  cases hc : s.ctxIn s.net.flows s.flowData.ctx
  case none => simp only [flowWrite, hc]
  case some c => simp only [flowWrite, hc, hsoft c hc, Bool.false_eq_true, ↓reduceIte]

theorem flowWrite_otherKind (hk : 1 < s.flowData.kind ∨ (s.flowData.kind = 1 ∧ 15 < s.flowData.target)) :
    flowWrite s = s.flowRefuse flowLocked := by
  rw [flowWrite_soft hsoft, if_pos hk]

variable (hk : s.flowData.kind = 0 ∨ (s.flowData.kind = 1 ∧ s.flowData.target ≤ 15))
include hk

theorem flowWrite_hostKind : flowWrite s = if s.flowData.rank < 6 then s.flowRefuse flowRank else s.putFlow s.flowData := by
  rw [flowWrite_soft hsoft, if_neg (by omega)]

theorem flowWrite_taken (hr : 6 ≤ s.flowData.rank) : flowWrite s = s.putFlow s.flowData := by
  rw [flowWrite_hostKind hsoft hk, if_neg (Nat.not_lt.mpr hr)]

theorem flowWrite_otherRank (hr : s.flowData.rank < 6) : flowWrite s = s.flowRefuse flowRank := by
  rw [flowWrite_hostKind hsoft hk, if_pos hr]

end

/-- The fields of an image context that a write may not change. -/
def FlowCtx.sameFlow (d c : FlowCtx) : Prop :=
  d.kind = c.kind ∧ d.rank = c.rank ∧ d.ports = c.ports ∧ d.target = c.target ∧ d.queue = c.queue

section
variable {c : FlowCtx} (hc : s.ctxIn s.net.flows s.flowData.ctx = some c) (hi : c.image = true)
include hc hi

theorem flowWrite_imageLocked (h : s.flowData.ctx = 1 ∨ ¬s.flowData.sameFlow c) : flowWrite s = s.flowRefuse flowLocked := by
  simp only [flowWrite, hc, hi, ↓reduceIte]
  refine if_pos (h.imp_right fun h => ?_)
  simpa only [FlowCtx.sameFlow, not_and_or] using h

theorem flowWrite_imageKept (h1 : s.flowData.ctx ≠ 1) (h : s.flowData.sameFlow c) : flowWrite s =
    if c.rank < 6 then s.flowRefuse flowRank
    else s.putFlow { c with meter := s.flowData.meter, ydrop := s.flowData.ydrop, rates := s.flowData.rates } := by
  obtain ⟨hkind, hrank, hports, htarget, hqueue⟩ := h
  simp only [flowWrite, hc, hi, ↓reduceIte]
  exact if_neg (by simp [h1, hkind, hrank, hports, htarget, hqueue])

end

/-! ## NET_EXACT_CMD (R322) -/

theorem find?_key_none {l : List ExactEntry} {k : List Byte} (h : ∀ e ∈ l, e.key ≠ k) : l.find? (fun e => e.key == k) = none := by
  simpa using h

theorem exactAdd_badKey (hk : s.exactKey = none) (ctx : Nat) : exactAdd ctx s = s.flowRefuse flowKey := by
  rw [exactAdd, hk]

theorem exactDelete_badKey (hk : s.exactKey = none) : exactDelete s = s.flowRefuse flowKey := by
  rw [exactDelete, hk]

section
variable {k : List Byte} (hk : s.exactKey = some k)
include hk

section
variable {e : ExactEntry} (he : s.net.exact.find? (fun e => e.key == k) = some e)
include he

theorem exactDelete_entry : exactDelete s =
    if e.soft then s.setExact (s.net.exact.filter (fun x => !(x.key == k))) else s.flowRefuse flowLocked := by
  simp only [exactDelete, hk, he]

end

theorem exactDelete_absent (h : ∀ e ∈ s.net.exact, e.key ≠ k) : exactDelete s = s.flowRefuse flowAbsent := by
  simp only [exactDelete, hk, find?_key_none h]

variable {ctx : Nat}

theorem exactAdd_noContext (hc : s.ctxIn s.net.flows ctx = none) : exactAdd ctx s = s.flowRefuse flowAbsent := by
  simp only [exactAdd, hk, hc]

section
variable {c : FlowCtx} (hc : s.ctxIn s.net.flows ctx = some c)
include hc

theorem exactAdd_image (hi : c.image = true) : exactAdd ctx s = s.flowRefuse flowLocked := by
  simp only [exactAdd, hk, hc, hi, ↓reduceIte]

variable (hi : c.image = false)
include hi

theorem exactAdd_entry {e : ExactEntry} (he : s.net.exact.find? (fun e => e.key == k) = some e) : exactAdd ctx s =
    if e.soft then s.setExact (s.net.exact.map (fun (x : ExactEntry) => if x.key == k then { x with ctx } else x))
    else s.flowRefuse flowLocked := by
  simp only [exactAdd, hk, hc, hi, he, Bool.false_eq_true, ↓reduceIte]

theorem exactAdd_newKey (h : ∀ e ∈ s.net.exact, e.key ≠ k) : exactAdd ctx s =
    if 16384 ≤ s.net.exact.length then s.flowRefuse flowFull else s.setExact (s.net.exact ++ [⟨k, ctx, true⟩]) := by
  simp only [exactAdd, hk, hc, hi, find?_key_none h, Bool.false_eq_true, ↓reduceIte]

end

end

end

/-! ## The access units of an encoder (R327) -/

/-- The output area of encoder context `e`, and in it the descriptor at GET. -/
def State.encAuBase (s : State) (e : Nat) : Nat := 65536 * s.bits (VENC_CTX_OUT_BASE e) 19 0
def State.encAuDesc (s : State) (e : Nat) : Nat := s.encAuBase e + 32 * s.bits (VENC_CTX_OUT_GET e) 11 0

/-- The address, the length and the RTP time of the access unit that the descriptor names. -/
def State.encAuAt (s : State) (e : Nat) : Nat := s.encAuBase e + s.memNat (s.encAuDesc e) 4
def State.encAuLen (s : State) (e : Nat) : Nat := s.memNat (s.encAuDesc e + 4) 4
def State.encAuTime (s : State) (e : Nat) : Nat :=
  (10 ^ 9 * s.memNat (s.encAuDesc e + 12) 6 + s.memNat (s.encAuDesc e + 8) 4) * 9 / 100000

/-- The descriptor or the access unit reads as poison. -/
def State.encAuPoisoned (s : State) (e : Nat) : Bool :=
  s.poisonedIn (s.encAuDesc e) 32 || s.poisonedIn (s.encAuAt e) (s.encAuLen e)

/-- The RTP payloads of the access unit, by the template of flow `c`. -/
def State.encAuPayloads (s : State) (e : Nat) (c : FlowCtx) : List (List Byte) :=
  (nalUnits (s.memRead (s.encAuAt e) (s.encAuLen e))).flatMap (nalPayloads (leAt (netTmpl s.netSec c.tmpl) 0x34 2))

section
variable {s : State} {e : Nat}

theorem encTxAu_idle (h : s.net.flowsOn.find? (fun c => c.kind == 5 && c.target == e) = none ∨ s.on NET_CTRL_EN = false ∨ 16 ≤ e
    ∨ s.bits (VENC_CTX_OUT_GET e) 11 0 = s.bits (VENC_CTX_OUT_PUT e) 11 0 ∨ (s.encTx e).all = true) : encTxAu e s = s := by
  cases hc : s.net.flowsOn.find? (fun c => c.kind == 5 && c.target == e)
  case none => rw [encTxAu, hc]
  case some c =>
    rw [encTxAu, hc]
    exact if_pos (by simpa [hc] using h)

variable {c : FlowCtx} (hc : s.net.flowsOn.find? (fun c => c.kind == 5 && c.target == e) = some c) (hon : s.on NET_CTRL_EN = true)
  (he : e < 16) (hget : s.bits (VENC_CTX_OUT_GET e) 11 0 ≠ s.bits (VENC_CTX_OUT_PUT e) 11 0) (hall : (s.encTx e).all = false)
include hc hon he hget hall

theorem encTxAu_waiting : encTxAu e s =
    (if s.encAuPoisoned e then s.notePoisonRead 8 else s).queuePackets e c (netTmpl s.netSec c.tmpl) (s.encAuTime e)
      (if s.encAuPoisoned e then [] else s.encAuPayloads e c) ((if s.encAuPoisoned e then [] else s.encAuPayloads e c).length + 1) := by
  rw [encTxAu, hc]
  exact if_neg (by simp [hon, hget, hall, he])

theorem encTxAu_queued (hp : s.encAuPoisoned e = false) : encTxAu e s =
    s.queuePackets e c (netTmpl s.netSec c.tmpl) (s.encAuTime e) (s.encAuPayloads e c) ((s.encAuPayloads e c).length + 1) := by
  simp only [encTxAu_waiting hc hon he hget hall, hp, Bool.false_eq_true, ↓reduceIte]

theorem encTxAu_poisoned (hp : s.encAuPoisoned e = true) : encTxAu e s =
    (s.notePoisonRead 8).queuePackets e c (netTmpl s.netSec c.tmpl) (s.encAuTime e) [] 1 := by
  simp only [encTxAu_waiting hc hon he hget hall, hp, ↓reduceIte, List.length_nil, Nat.zero_add]

end

/-! ## The statement -/

/-- Settles O48, clause by clause: the flow commands, the exact matches, the transmit rings, the encoder's access units and the lists. -/
theorem networkTablesAndRings : Obligations.NetworkTablesAndRings := by
  refine ⟨?read, ?readClear, ?write, ?writeKind, ?writeRank, ?meter, ?meterRank, ?writeLocked, ?addKey, ?addAbsent, ?addImage, ?addReplaces,
    ?addLocked, ?addNew, ?addFull, ?delete, ?deleteLocked, ?deleteAbsent, ?deleteKey, ?htxPut, ?accessUnit, ?noAccessUnit, ?lossPop, ?tsqPop⟩
  case read =>
    rintro s _ _ hr rfl rfl
    exact answers_runAlone (exec_flowRead s) hr pairShared_flowCmd rfl
  case readClear => exact fun s hr => answers_runAlone (exec_flowReadClear s) hr pairShared_flowCmd rfl
  case write =>
    rintro s _ hr rfl hsoft hk hrank
    exact answers_runAlone (exec_flowWrite s) hr pairShared_flowCmd (flowWrite_taken hsoft hk hrank)
  case writeKind =>
    rintro s _ hr rfl hsoft hk
    exact answers_runAlone (exec_flowWrite s) hr pairShared_flowCmd (flowWrite_otherKind hsoft hk)
  case writeRank =>
    rintro s _ hr rfl hsoft hk hrank
    exact answers_runAlone (exec_flowWrite s) hr pairShared_flowCmd (flowWrite_otherRank hsoft hk hrank)
  case meter =>
    rintro s c _ hr rfl hc hi h1 hsame hrank
    exact answers_runAlone (exec_flowWrite s) hr pairShared_flowCmd
      ((flowWrite_imageKept hc hi h1 hsame).trans (if_neg (Nat.not_lt.mpr hrank)))
  case meterRank =>
    rintro s c _ hr rfl hc hi h1 hsame hrank
    exact answers_runAlone (exec_flowWrite s) hr pairShared_flowCmd ((flowWrite_imageKept hc hi h1 hsame).trans (if_pos hrank))
  case writeLocked =>
    rintro s c _ hr rfl hc hi h
    exact answers_runAlone (exec_flowWrite s) hr pairShared_flowCmd (flowWrite_imageLocked hc hi h)
  case addKey => exact fun s ctx hr hk => answers_runAlone (exec_exactAdd ctx s) hr pairShared_exactCmd (exactAdd_badKey hk ctx)
  case addAbsent =>
    exact fun s ctx k hr hk hc => answers_runAlone (exec_exactAdd ctx s) hr pairShared_exactCmd (exactAdd_noContext hk hc)
  case addImage =>
    exact fun s ctx k c hr hk hc hi => answers_runAlone (exec_exactAdd ctx s) hr pairShared_exactCmd (exactAdd_image hk hc hi)
  case addReplaces =>
    exact fun s ctx k c e hr hk hc hi he hs =>
      answers_runAlone (exec_exactAdd ctx s) hr pairShared_exactCmd ((exactAdd_entry hk hc hi he).trans (if_pos hs))
  case addLocked =>
    exact fun s ctx k c e hr hk hc hi he hs =>
      answers_runAlone (exec_exactAdd ctx s) hr pairShared_exactCmd ((exactAdd_entry hk hc hi he).trans (if_neg (ne_true_of_eq_false hs)))
  case addNew =>
    exact fun s ctx k c hr hk hc hi hnew hn =>
      answers_runAlone (exec_exactAdd ctx s) hr pairShared_exactCmd ((exactAdd_newKey hk hc hi hnew).trans (if_neg (Nat.not_le.mpr hn)))
  case addFull =>
    exact fun s ctx k c hr hk hc hi hnew hn =>
      answers_runAlone (exec_exactAdd ctx s) hr pairShared_exactCmd ((exactAdd_newKey hk hc hi hnew).trans (if_pos hn))
  case delete =>
    exact fun s k e hr hk he hs =>
      answers_runAlone (exec_exactDelete s) hr pairShared_exactCmd ((exactDelete_entry hk he).trans (if_pos hs))
  case deleteLocked =>
    exact fun s k e hr hk he hs =>
      answers_runAlone (exec_exactDelete s) hr pairShared_exactCmd ((exactDelete_entry hk he).trans (if_neg (ne_true_of_eq_false hs)))
  case deleteAbsent => exact fun s k hr hk h => answers_runAlone (exec_exactDelete s) hr pairShared_exactCmd (exactDelete_absent hk h)
  case deleteKey => exact fun s hr hk => answers_runAlone (exec_exactDelete s) hr pairShared_exactCmd (exactDelete_badKey hk)
  case htxPut => exact fun s r val hr hlt => answers_runAlone (exec_htxPut r val s) hr (pairShared_htxPut hlt) (if_pos hlt)
  case accessUnit =>
    intro s e base d a n ts t c ps hcore hc hon he hget hall hbase hd ht hts ha hn hps
    rw [hps, hts, ht, ha, hn, hd, hbase]
    refine ⟨fun hd hau => ?_, fun hp => ?_⟩
    · exact answers_runCore (exec_encTxAu e s) hcore (encTxAu_queued hc hon he hget hall (Bool.or_eq_false_iff.mpr ⟨hd, hau⟩))
    · exact answers_runCore (exec_encTxAu e s) hcore (encTxAu_poisoned hc hon he hget hall (Bool.or_eq_true_iff.mpr hp))
  case noAccessUnit => exact fun s e hcore h => answers_runCore (exec_encTxAu e s) hcore (encTxAu_idle h)
  case lossPop => exact fun s hr => answers_runAlone (exec_lossPop s) hr pairShared_lossPop rfl
  case tsqPop => exact fun s p hr hp => answers_runAlone (exec_tsqPop p s) hr (pairShared_tsqPop hp) (if_pos hp)

end Sys2Proof.Machine
end

section
/-!
PROOF. Host accesses that BAR0 refuses (R442, R443), configuration requests (R394, R439, R441) and host accesses through BAR2
(R22, R23, R445).
-/

namespace Sys2Proof.Machine

/-! ## Malformed requests (R443) -/

theorem bar0MalformedRequest_records {s : State} {off dws be : Nat} (hd : s.pcie.d3 = false) (hm : malformed off dws be = true)
    (isWrite : Bool) : bar0MalformedRequest off isWrite dws be s = (s.accessFault 0 off 1).readZero isWrite dws := by
  rw [bar0MalformedRequest, if_neg (by simp [hd, hm])]

/-- A recorded access raises its source with data 0: the offset stands in GCTL_ACCESS_FAULT alone. -/
theorem State.accessFault_raised (s : State) (kind off src : Nat) :
    (s.accessFault kind off src).evc.raised = raiseIn false src (sourceClass src) 0 s.evc.raised := rfl

/-- Refutes O6: a write of two DW at offset 4 of the machine at reset raises source 1 with data 0, where the statement asks for the
offset as data. -/
theorem not_malformedAndUndefinedAccess : ¬ Obligations.MalformedAndUndefinedAccess := by
  intro h
  obtain ⟨hwrite, -⟩ := h.1 State.reset 4 2 0xF rfl (.inl (by decide)) (by decide)
  rw [answers_iff, exec_bar0MalformedRequest, State.runAlways_eq, bar0MalformedRequest_records rfl (by decide),
    State.readZero_write] at hwrite
  have hraised : raiseIn false 1 (sourceClass 1) 0 [] = raiseIn false 1 (sourceClass 1) 4 [] :=
    congrArg (fun t : State => t.evc.raised) (Host.Outcome.next.inj hwrite)
  simp [raiseIn] at hraised

/-! ## Configuration requests -/

/-- Settles O13, one clause for each kind of configuration write. -/
theorem configurationRequests : Obligations.ConfigurationRequests := by
  refine ⟨?size, ?otherSize, ?msix, ?power⟩
  case size =>
    exact fun s n hgood hlock h28 h36 => answers_runPll (exec_configurationRequest (.bar2 n) s) hgood hlock (if_pos ⟨h28, h36⟩)
  case otherSize =>
    exact fun s n hgood hlock h => answers_runPll (exec_configurationRequest (.bar2 n) s) hgood hlock (if_neg (by omega))
  case msix =>
    exact fun s en hgood hlock => ⟨answers_runPll (exec_configurationRequest (.msix en true) s) hgood hlock rfl,
      answers_runPll (exec_configurationRequest (.msix en false) s) hgood hlock rfl⟩
  case power =>
    exact fun s d hgood hlock => answers_runPll (exec_configurationRequest (.power d) s) hgood hlock rfl

/-! ## BAR2: what both directions share -/

theorem answers_runAlways {c : Instr} {s t : State} {f : State → State} (hc : exec c s = .next (s.runAlways f)) (ht : f s = t) :
    answers c s t := by
  rw [answers_iff, hc, State.runAlways_eq, ht]

/-- A request inside the programmed size is covered whole. -/
theorem State.bar2Len_inside {s : State} {off len : Nat} (h : off + len ≤ 2 ^ s.bits GCTL_BAR2_SIZE 5 0) : s.bar2Len off len = len := by
  rw [State.bar2Len]
  omega

/-! ## BAR2 writes -/

section
variable {s : State}

theorem bar2Write_untrained (hd : s.pcie.d3 = false) (hcore : s.coreOn = true) (ht : s.on MEM_STATUS_TRAINED = false) (off : Nat)
    (bs : List Byte) : bar2Write off bs s = s.raise 4 off := by
  simp [bar2Write, hd, hcore, ht]

theorem bar2Write_trained (hd : s.pcie.d3 = false) (hcore : s.coreOn = true) (ht : s.on MEM_STATUS_TRAINED = true) (off : Nat)
    (bs : List Byte) : bar2Write off bs s =
      s.bar2Reports (wordSpans off (bs.take (s.bar2Len off bs.length)).length)
        ((wordSpans off (bs.take (s.bar2Len off bs.length)).length).foldl (State.bar2Span off (bs.take (s.bar2Len off bs.length))) s) := by
  simp [bar2Write, hd, hcore, ht]

theorem State.bar2Reports_mem (spans : List (Nat × Nat × Nat)) (t : State) : (s.bar2Reports spans t).mem = t.mem := by
  unfold State.bar2Reports
  dsimp only
  repeat' split
  all_goals simp only [State.leaseFault_mem, State.refuseHost, State.raise_mem, State.count_mem, State.wrN_mem]

/-- A write to words that are open is not reported. -/
theorem State.bar2Reports_opened {spans : List (Nat × Nat × Nat)} (h : ∀ w ∈ spans, s.hostPlace w.2.1 = .opened) (t : State) :
    s.bar2Reports spans t = t := by
  have hnone (p : HostPlace → Bool) (hp : p .opened = false) : s.firstIn spans p = none := by
    rw [State.firstIn, List.find?_eq_none.mpr fun w hw => by simp [h w hw, hp]]
    rfl
  simp only [State.bar2Reports, hnone (· == .beyond) rfl, hnone (· == .refused) rfl, hnone (· == .mirrored) rfl,
    hnone (fun p => p == .pool || p == .leased) rfl]

/-- A word outside the places that accept host writes keeps its bytes. -/
theorem State.bar2Span_refused {w : Nat × Nat × Nat} (hp : s.hostPlace w.2.1 ≠ .opened)
    (hl : s.hostPlace w.2.1 = .leased → s.on CMP_LEASE_CTRL_PROTECT = true) (off : Nat) (bs : List Byte) : s.bar2Span off bs w = s := by
  unfold State.bar2Span
  split
  case h_1 hopen => exact absurd hopen hp
  case h_2 hleased => exact if_pos (hl hleased)
  case h_3 => rfl

theorem foldl_bar2Span_refused {spans : List (Nat × Nat × Nat)} (hp : ∀ w ∈ spans, s.hostPlace w.2.1 ≠ .opened)
    (hl : ∀ w ∈ spans, s.hostPlace w.2.1 = .leased → s.on CMP_LEASE_CTRL_PROTECT = true) (off : Nat) (bs : List Byte) :
    spans.foldl (State.bar2Span off bs) s = s := by
  induction spans with
  | nil => rfl
  | cons w rest ih =>
    rw [List.foldl_cons, State.bar2Span_refused (hp w List.mem_cons_self) (hl w List.mem_cons_self)]
    exact ih (fun x hx => hp x (List.mem_cons_of_mem w hx)) (fun x hx => hl x (List.mem_cons_of_mem w hx))

/-- What lies in one 16-byte word lies in a span that begins where the word begins. -/
theorem mem_wordSpans_word {w n : Nat} (hn : n ≤ 16) {x : Nat × Nat × Nat} (hx : x ∈ wordSpans (16 * w) n) : x.2.1 = 16 * w := by
  obtain ⟨hlow, hhigh, -, -, hpos, hword, hstart⟩ := mem_wordSpans hx
  omega

theorem wordSpans_word (w : Nat) : wordSpans (16 * w) 16 = [(w, 16 * w, 16)] := by
  simp only [wordSpans, show ¬(16 : Nat) = 0 by decide, ↓reduceIte, show (16 * w + 16 - 1) / 16 + 1 - 16 * w / 16 = 1 by omega]
  simp

theorem State.bar2Span_opened {w : Nat} {bs : List Byte} (hlen : bs.length = 16) (hp : s.hostPlace (16 * w) = .opened) :
    s.bar2Span (16 * w) bs (w, 16 * w, 16) = s.memWrite 9 (16 * w) bs := by
  have hall : slice bs (16 * w - 16 * w) 16 = bs := by simp [slice, ← hlen]
  simp only [State.bar2Span, hp, hall]

variable {w : Nat} {bs : List Byte} (hlen : bs.length = 16)
include hlen

/-- A whole word that is open is written. -/
theorem bar2Write_opened (hd : s.pcie.d3 = false) (hcore : s.coreOn = true) (ht : s.on MEM_STATUS_TRAINED = true)
    (hin : 16 * w + 16 ≤ 2 ^ s.bits GCTL_BAR2_SIZE 5 0) (hp : s.hostPlace (16 * w) = .opened) :
    bar2Write (16 * w) bs s = s.memWrite 9 (16 * w) bs := by
  have hall : bs.take (s.bar2Len (16 * w) bs.length) = bs := by
    rw [hlen, State.bar2Len_inside hin, ← hlen, List.take_length]
  rw [bar2Write_trained hd hcore ht, hall, hlen, wordSpans_word, State.bar2Reports_opened (by simpa using hp)]
  exact State.bar2Span_opened hlen hp

/-- A word that is not open keeps its bytes, whatever the size programmed and whether memory is trained. -/
theorem bar2Write_refused_mem (hcore : s.coreOn = true) (hp : s.hostPlace (16 * w) ≠ .opened)
    (hl : s.hostPlace (16 * w) = .leased → s.on CMP_LEASE_CTRL_PROTECT = true) : (bar2Write (16 * w) bs s).mem = s.mem := by
  by_cases hd : s.pcie.d3 = true
  · rw [bar2Write, if_pos hd]
  by_cases ht : s.on MEM_STATUS_TRAINED = true
  · have hshort : (bs.take (s.bar2Len (16 * w) bs.length)).length ≤ 16 := by simp [hlen]
    rw [bar2Write_trained (Bool.not_eq_true _ ▸ hd) hcore ht, State.bar2Reports_mem, foldl_bar2Span_refused]
    · exact fun x hx => by rwa [mem_wordSpans_word hshort hx]
    · exact fun x hx => by rwa [mem_wordSpans_word hshort hx]
  · rw [bar2Write_untrained (Bool.not_eq_true _ ▸ hd) hcore (Bool.not_eq_true _ ▸ ht), State.raise_mem]

end

/-- Settles O11: before training, a whole word that is open, and a word that is not. -/
theorem bar2Write_answers : Obligations.Bar2Write := by
  refine ⟨?untrained, ?opened, ?refused⟩
  case untrained => exact fun s off bs hd hcore ht => answers_runAlways (exec_bar2Write off bs s) (bar2Write_untrained hd hcore ht off bs)
  case opened =>
    intro s w bs hd hcore ht hlen hin hp
    refine ⟨_, exec_bar2Write (16 * w) bs s, fun i hi => ?_, fun a ha => ?_, ?_⟩ <;>
      rw [State.runAlways_eq, bar2Write_opened hlen hd hcore ht hin hp]
    · rw [State.keepQueue_mem, State.memWrite_word s 9 w bs hlen, State.put_mem, memByte_memPutAll, if_pos (by omega), Nat.add_sub_cancel_left]
    · exact State.memByte_memWrite_out s 9 (16 * w) a bs (by omega)
    · rw [State.memWrite_word s 9 w bs hlen]
      simp [State.poisonedAt, setErase]
  case refused =>
    exact fun s w bs hlen hcore hp hl => ⟨_, exec_bar2Write (16 * w) bs s, bar2Write_refused_mem hlen hcore hp hl⟩

/-! ## BAR2 reads -/

/-- What a read of [off, off + len) that meets no poison returns. -/
def State.bar2Bytes (s : State) (off len : Nat) : List Byte :=
  (List.range len).map (fun i => if off + i < memSize then memByte s.mem (off + i) else 0)

/-- The state in which a read of [off, off + len) completes: source 5 where it goes beyond memory. -/
def State.bar2Beyond (s : State) (off len : Nat) : State := s.raiseIf (decide (max off memSize < off + len)) 5 (max off memSize)

/-- The state in which a read that meets poison at `a` completes: it is noted, recorded with KIND 2, counted, and raises source 3. -/
def State.bar2Poisoned (s : State) (a : Nat) : State :=
  ((((s.notePoisonRead 9).wrN GCTL_ACCESS_FAULT (a / 64 % 2 ^ 26 + 2 ^ 29)).count GCTL_ACCESS_FAULT_CNT).raise 3 a).wrN
    GCTL_ACCESS_FAULT_HI (a / 2 ^ 32 % 16)

section
variable {s : State} {off len : Nat} (hd : s.pcie.d3 = false) (hcore : s.coreOn = true)
include hd hcore

theorem bar2Read_untrained (ht : s.on MEM_STATUS_TRAINED = false) :
    bar2Read off len s = (s.raise 4 off).complete (List.replicate len 0) false := by
  simp [bar2Read, hd, hcore, ht]

variable (ht : s.on MEM_STATUS_TRAINED = true) (hin : off + len ≤ 2 ^ s.bits GCTL_BAR2_SIZE 5 0)
include ht hin

theorem bar2Read_clean (hp : (wordSpans off len).all (fun w => !s.poisonedAt w.2.1) = true) :
    bar2Read off len s = (s.bar2Beyond off len).complete (s.bar2Bytes off len) false := by
  have hnone : (wordSpans off len).find? (fun w => s.poisonedAt w.2.1) = none := by simpa using hp
  simp only [bar2Read, hd, hcore, ht, State.bar2Len_inside hin, hnone, Bool.false_eq_true, ↓reduceIte, Bool.not_true]
  rfl

theorem bar2Read_poisoned {w : Nat × Nat × Nat} (hw : (wordSpans off len).find? (fun w => s.poisonedAt w.2.1) = some w) :
    bar2Read off len s = 
      (((s.bar2Beyond off len).bar2Poisoned w.2.1).complete (s.freeBytes len) true).freeSkip len := by
  simp only [bar2Read, hd, hcore, ht, State.bar2Len_inside hin, hw, Bool.false_eq_true, ↓reduceIte, Bool.not_true]
  rfl

end

theorem State.bar2Beyond_mem (s : State) (off len : Nat) : (s.bar2Beyond off len).mem = s.mem := State.raiseIf_mem s _ 5 _

theorem State.bar2Beyond_rdN (s : State) (off len o : Nat) : (s.bar2Beyond off len).rdN o = s.rdN o :=
  congrArg BitVec.toNat (State.raiseIf_rd s _ 5 _ o)

theorem State.bar2Beyond_raised (s : State) (off len : Nat) : (s.bar2Beyond off len).evc.raised =
    if max off memSize < off + len then raiseIn false 5 (sourceClass 5) (max off memSize) s.evc.raised else s.evc.raised := by
  by_cases h : max off memSize < off + len <;> simp [State.bar2Beyond, State.raiseIf, h, State.raise, State.raiseCls]

theorem State.bar2Poisoned_mem (s : State) (a : Nat) : (s.bar2Poisoned a).mem = s.mem := by
  rw [State.bar2Poisoned, State.wrN_mem, State.raise_mem, State.count_mem, State.wrN_mem, State.notePoisonRead_mem]

/-- The record of a poisoned word: its address with KIND 2, and the count of refused accesses. -/
theorem State.bar2Poisoned_fault (s : State) (a : Nat) : (s.bar2Poisoned a).rdN GCTL_ACCESS_FAULT = a / 64 % 2 ^ 26 + 2 ^ 28 * 2 := by
  rw [State.bar2Poisoned, State.rdN_wrN, if_neg (by decide), State.raise_rdN, State.rdN_count, if_neg (by decide), State.rdN_wrN, if_pos rfl]
  omega

theorem State.bar2Poisoned_faultHi (s : State) (a : Nat) : (s.bar2Poisoned a).rdN GCTL_ACCESS_FAULT_HI = a / 2 ^ 32 % 16 := by
  rw [State.bar2Poisoned, State.rdN_wrN, if_pos rfl]
  omega

theorem State.bar2Poisoned_count (s : State) (a : Nat) :
    (s.bar2Poisoned a).rdN GCTL_ACCESS_FAULT_CNT = min (s.rdN GCTL_ACCESS_FAULT_CNT + 1) 0xFFFFFFFF := by
  rw [State.bar2Poisoned, State.rdN_wrN, if_neg (by decide), State.raise_rdN, State.rdN_count, if_pos rfl, State.rdN_wrN, if_neg (by decide),
    State.notePoisonRead, State.raiseMask_rdN, State.rdN_count, if_neg (by decide)]

/-- Settles O12: before training, a read that meets no poison, and one that does. -/
theorem bar2Read_answers : Obligations.Bar2Read := by
  refine ⟨?untrained, ?clean, ?poisoned⟩
  case untrained => exact fun s off len hd hcore ht => answers_runAlways (exec_bar2Read off len s) (bar2Read_untrained hd hcore ht)
  case clean =>
    intro s off len hd hcore ht hin hp
    refine ⟨_, exec_bar2Read off len s, ?_, ?_, ?_⟩ <;> rw [State.runAlways_eq, bar2Read_clean hd hcore ht hin hp]
    · exact State.bar2Beyond_mem s off len
    · rfl
    · exact State.bar2Beyond_raised s off len
  case poisoned =>
    intro s off len w hd hcore ht hin hw
    refine ⟨_, ⟨s.freeBytes len, true⟩, exec_bar2Read off len s, ?_, ?_, rfl, ?_, ?_, ?_⟩ <;>
      rw [State.runAlways_eq, bar2Read_poisoned hd hcore ht hin hw]
    · rw [State.keepQueue_mem, State.freeSkip_mem, State.complete_mem, State.bar2Poisoned_mem, State.bar2Beyond_mem]
    · rfl
    · rw [State.keepQueue_rdN, State.freeSkip_rdN, State.complete_rdN, State.bar2Poisoned_fault]
    · rw [State.keepQueue_rdN, State.freeSkip_rdN, State.complete_rdN, State.bar2Poisoned_faultHi]
    · rw [State.keepQueue_rdN, State.freeSkip_rdN, State.complete_rdN, State.bar2Poisoned_count, State.bar2Beyond_rdN]

end Sys2Proof.Machine
end

section
/-!
PROOF. The memory subsystem (R341 to R361): requests, the patrol, refresh, self-refresh, training, retirement and migration.
-/

namespace Sys2Proof.Machine

theorem pairShared_memCmd : pairShared MEM_CMD = false := pairShared_between (by decide) (by decide)

theorem pairShared_memRetirePreset : pairShared MEM_RETIRE_PRESET = false := pairShared_between (by decide) (by decide)

/-- A memory command in CORE, after which the staged image is looked at (R56). -/
theorem answers_thenStaged {c : Instr} {s t : State} {f : State → State} (hc : exec c s = .next (s.runCore (thenStaged f)))
    (hcore : s.coreOn = true) (ht : f s = t) : answers c s t.stagedCheck :=
  answers_runCore hc hcore (congrArg State.stagedCheck ht)

/-! ## Requests (R343, R345, R349, R352, R355) -/

section
variable {s : State} {client rank a latency : Nat} {faults : List LineFault} {bs : List Byte}

theorem memReadLine_inside (h : 256 * (a / 256) < memSize) : memReadLine client rank a latency faults s =
    (faults.foldl (fun st f => st.applyFault client (256 * (a / 256)) f)
      (if s.poisonedIn (256 * (a / 256)) 256 then (s.requestLine client rank (256 * (a / 256))).notePoisonRead client
        else s.requestLine client rank (256 * (a / 256)))).noteLatency client (carriedRank client rank) latency :=
  if_neg (Nat.not_le.mpr h)

theorem memReadLine_outside (h : memSize ≤ 256 * (a / 256)) : memReadLine client rank a latency faults s = s := if_pos h

theorem memWriteLine_inside (h : a + bs.length ≤ memSize) : memWriteLine client rank a latency bs faults s =
    ((faults.foldl (fun st f => st.applyFault client (256 * (a / 256)) f) (s.requestLine client rank a)).memWrite client a bs).noteLatency
      client (carriedRank client rank) latency :=
  if_neg (Nat.not_lt.mpr h)

theorem memWriteLine_outside (h : memSize < a + bs.length) : memWriteLine client rank a latency bs faults s = s := if_pos h

theorem foldl_applyFault_mem (base : Nat) (t : State) : (faults.foldl (fun st f => st.applyFault client base f) t).mem = t.mem := by
  induction faults generalizing t with
  | nil => rfl
  | cons f rest ih => exact (ih _).trans (State.applyFault_mem t client base f)

/-- A write inside memory leaves the bytes outside its range. -/
theorem memByte_memWriteLine_out (hin : a + bs.length ≤ memSize) {x : Nat} (hx : x < a ∨ a + bs.length ≤ x) :
    memByte (memWriteLine client rank a latency bs faults s).mem x = memByte s.mem x := by
  rw [memWriteLine_inside hin, State.noteLatency_mem, State.memByte_memWrite_out _ client a x bs hx, foldl_applyFault_mem, State.requestLine_mem]

end

/-! ## The patrol and refresh (R348, R353) -/

section
variable {s : State}

/-- The patrol pointer behind its line. -/
def State.patrolled (s : State) : State := { s with hbm := { s.hbm with scrub := (s.hbm.scrub + 1) % (memSize / 256) } }

theorem scrubRead_off (h : s.rdN MEM_SCRUB = 0) (latency : Nat) (faults : List LineFault) : scrubRead latency faults s = s := if_pos h

section
variable (hper : s.rdN MEM_SCRUB ≠ 0)
include hper

theorem scrubRead_awake (h : bitAt (s.get MEM_STATUS_SELF_REFRESH) (stackOfTrio (lineAddr (256 * s.hbm.scrub)).trio) = false) (latency : Nat)
    (faults : List LineFault) : scrubRead latency faults s = memReadLine 16 7 (256 * s.hbm.scrub) latency faults s.patrolled :=
  (if_neg hper).trans (if_neg (ne_true_of_eq_false h))

theorem scrubRead_asleep (h : bitAt (s.get MEM_STATUS_SELF_REFRESH) (stackOfTrio (lineAddr (256 * s.hbm.scrub)).trio) = true) (latency : Nat)
    (faults : List LineFault) : scrubRead latency faults s = s.patrolled :=
  (if_neg hper).trans (if_pos h)

end

theorem refreshBank_awake {p : Nat} (hp : p < 64) (h : bitAt (s.get MEM_STATUS_SELF_REFRESH) (stackOfPc p) = false) : refreshBank p s =
    { s with hbm := { s.hbm with
        refBank := s.hbm.refBank.modify p (fun b => (b + 1) % 48)
        ctl := s.hbm.ctl.modify p (Controller.closeBank (s.hbm.refBank.getD p 0)) } } :=
  if_neg (by simp [h, Nat.not_le.mpr hp])

theorem refreshBank_idle {p : Nat} (h : 64 ≤ p ∨ bitAt (s.get MEM_STATUS_SELF_REFRESH) (stackOfPc p) = true) : refreshBank p s = s := if_pos h

theorem hbmTempRead_railsOn (h5 : s.pwrState ≠ 5) (h6 : s.pwrState ≠ 6) (t0 t1 : Int) :
    hbmTempRead t0 t1 s = (s.stackTemp 0 t0).stackTemp 1 t1 := if_neg (by simp [h5, h6])

/-! ## Self-refresh (R355) -/

/-- Stack `k` has no migration and its controllers hold no request: the condition under which self-refresh is not held off. -/
theorem selfRefresh_notBusy {k : Nat} (hmig : s.hbm.mig = none) (hidle : ∀ j < 32, (s.hbm.ctl.getD (32 * k + j) .reset).idle = true) :
    ((match s.hbm.mig with | some g => stackOfTrio g.trio == k | none => false)
      || (List.range 32).any (fun j => !(s.hbm.ctl.getD (32 * k + j) .reset).idle)) = false := by
  have hany : (List.range 32).any (fun j => !(s.hbm.ctl.getD (32 * k + j) .reset).idle) = false := by
    rw [List.any_eq_false]
    exact fun j hj => by rw [hidle j (List.mem_range.mp hj)]; exact Bool.false_ne_true
  rw [hany, hmig]
  rfl

/-- The rows of stack `k` closed. -/
def State.rowsClosed (s : State) (k : Nat) : State :=
  { s with hbm := { s.hbm with ctl := ((List.range 64).zip s.hbm.ctl).map (fun (e : Nat × Controller) =>
      if stackOfPc e.1 = k then { e.2 with rows := [] } else e.2) } }

theorem selfRefreshEnter_idleWindow {k : Nat} (hk : k < 2) (hi : s.bits MEM_SR_IDLE 15 0 ≠ 0) (hmig : s.hbm.mig = none)
    (hidle : ∀ j < 32, (s.hbm.ctl.getD (32 * k + j) .reset).idle = true)
    (ht : s.hbm.lastDone.getD k 0 + 2000 * s.bits MEM_SR_IDLE 15 0 < s.now + s.tickHalfNs) :
    selfRefreshEnter k s = (s.rowsClosed k).put MEM_STATUS_SELF_REFRESH (s.get MEM_STATUS_SELF_REFRESH ||| 2 ^ k) := by
  refine if_neg ?_
  rintro (h | h | h | h)
  · omega
  · exact hi h
  · exact ne_true_of_eq_false (selfRefresh_notBusy hmig hidle) h
  · omega

theorem selfRefreshEnter_stays {k : Nat}
    (h : s.bits MEM_SR_IDLE 15 0 = 0 ∨ s.now + s.tickHalfNs ≤ s.hbm.lastDone.getD k 0 + 2000 * s.bits MEM_SR_IDLE 15 0) :
    selfRefreshEnter k s = s :=
  if_pos (h.elim (fun h => .inr (.inl h)) (fun h => .inr (.inr (.inr h))))

/-! ## Training (R356) -/

theorem hbmTrainingDone_again (h : s.on MEM_STATUS_TRAINED = true) (results : List (List Window)) : hbmTrainingDone results s = s := if_pos h

theorem hbmTrainingDone_passed {results : List (List Window)} (h : s.on MEM_STATUS_TRAINED = false)
    (hpass : ∀ p < 64, (results.getD p []).any (fun w => windowWidth w == 0) = false) :
    hbmTrainingDone results s = ((List.range 64).foldl (fun st p => st.trainPc p (results.getD p [])) s).put MEM_STATUS_TRAINED 1 := by
  have hnone : (List.range 64).filter (fun p => (results.getD p []).any (fun w => windowWidth w == 0)) = [] :=
    List.filter_eq_nil_iff.mpr fun p hp => ne_true_of_eq_false (hpass p (List.mem_range.mp hp))
  simp only [hbmTrainingDone, h, hnone, List.filter_nil, List.foldl_nil, Bool.false_eq_true, ↓reduceIte]

/-! ## Migration (R360) -/

theorem migrationCopy_none (h : s.hbm.mig = none) (bad : List Nat) : migrationCopy bad s = s := by
  rw [migrationCopy, h]

theorem migrationCopy_goesOn {g : Migration} (h : s.hbm.mig = some g) (hn : g.line + 1 ≠ 2 ^ 23) : migrationCopy [] s =
    State.put { s with hbm := { s.hbm with mig := some { g with line := g.line + 1 } } } MEM_RETIRE_STATUS_PROGRESS ((g.line + 1) / 128) := by
  rw [migrationCopy, h]
  exact if_neg hn

theorem migrationCopy_last {g : Migration} (h : s.hbm.mig = some g) (hn : g.line + 1 = 2 ^ 23) :
    migrationCopy [] s = s.endMigration { g with line := g.line + 1 } := by
  rw [migrationCopy, h]
  exact if_pos hn

end

/-! ## The statement -/

/-- Settles O50, clause by clause: requests, the patrol, refresh, temperatures, self-refresh, training, retirement and migration. -/
theorem memorySubsystem : Obligations.MemorySubsystem := by
  refine ⟨?read, ?write, ?frame, ?readOutside, ?writeOutside, ?patrol, ?patrolAsleep, ?patrolOff, ?refresh, ?refreshIdle, ?temp, ?tempOff,
    ?enter, ?stays, ?trained, ?trainedAgain, ?retire, ?noRetire, ?preset, ?presetLate, ?migrates, ?migrated, ?noMigration⟩
  case read =>
    rintro s client rank a latency _ faults _ _ hcore rfl hin rfl rfl
    exact answers_thenStaged (exec_memRead client rank a latency faults s) hcore (memReadLine_inside hin)
  case write =>
    rintro s client rank a latency bs faults _ hcore hin rfl
    exact answers_thenStaged (exec_memWrite client rank a latency bs faults s) hcore (memWriteLine_inside hin)
  case frame =>
    intro s t client rank a latency x bs faults hcore hin hx ht
    rw [exec_memWrite, State.runCore_on hcore] at ht
    rw [← Host.Outcome.next.inj ht, State.keepQueue_mem, thenStaged, State.stagedCheck_mem, memByte_memWriteLine_out hin hx]
  case readOutside =>
    rintro s client rank a latency _ faults hcore rfl hout
    exact answers_thenStaged (exec_memRead client rank a latency faults s) hcore (memReadLine_outside hout)
  case writeOutside =>
    exact fun s client rank a latency bs faults hcore hout =>
      answers_thenStaged (exec_memWrite client rank a latency bs faults s) hcore (memWriteLine_outside hout)
  case patrol =>
    rintro s l _ _ hcore hper rfl rfl hawake
    exact answers_thenStaged (exec_scrubRead l s) hcore (scrubRead_awake hper hawake l.latency l.faults)
  case patrolAsleep =>
    rintro s l _ _ hcore hper rfl rfl hasleep
    exact answers_thenStaged (exec_scrubRead l s) hcore (scrubRead_asleep hper hasleep l.latency l.faults)
  case patrolOff => exact fun s l hcore hper => answers_thenStaged (exec_scrubRead l s) hcore (scrubRead_off hper l.latency l.faults)
  case refresh => exact fun s p hcore hp hawake => answers_runCore (exec_refresh p s) hcore (refreshBank_awake hp hawake)
  case refreshIdle => exact fun s p hcore h => answers_runCore (exec_refresh p s) hcore (refreshBank_idle h)
  case temp => exact fun s t0 t1 hgood h5 h6 => answers_runAon (exec_hbmTempRead t0 t1 s) hgood (hbmTempRead_railsOn h5 h6 t0 t1)
  case tempOff => exact fun s t0 t1 hgood h => answers_runAon (exec_hbmTempRead t0 t1 s) hgood (if_pos h)
  case enter =>
    rintro s k _ _ hcore hk rfl hi hmig hidle ht rfl
    exact answers_runCore (exec_selfRefreshEnter k s) hcore (selfRefreshEnter_idleWindow hk hi hmig hidle ht)
  case stays =>
    rintro s k _ hcore rfl h
    exact answers_runCore (exec_selfRefreshEnter k s) hcore (selfRefreshEnter_stays h)
  case trained =>
    exact fun s results hcore h hpass => answers_runCore (exec_hbmTrainingDone results s) hcore (hbmTrainingDone_passed h hpass)
  case trainedAgain =>
    exact fun s results hcore h => answers_runCore (exec_hbmTrainingDone results s) hcore (hbmTrainingDone_again h results)
  case retire => exact fun s val hr h => answers_runAlone (exec_memRetireCmd val s) hr pairShared_memCmd (if_pos h)
  case noRetire =>
    exact fun s val hr h => answers_runAlone (exec_memRetireCmd val s) hr pairShared_memCmd (if_neg (ne_true_of_eq_false h))
  case preset => exact fun s val hr h => answers_runAlone (exec_retirePreset val s) hr pairShared_memRetirePreset (if_pos h)
  case presetLate =>
    exact fun s val hr h => answers_runAlone (exec_retirePreset val s) hr pairShared_memRetirePreset (if_neg (ne_true_of_eq_false h))
  case migrates =>
    rintro s g _ hcore hmig rfl hn
    exact answers_thenStaged (exec_migrationCopy [] s) hcore (migrationCopy_goesOn hmig hn)
  case migrated =>
    intro s g hcore hmig hline
    have hlast := migrationCopy_last hmig (by omega)
    rw [hline] at hlast
    exact answers_thenStaged (exec_migrationCopy [] s) hcore hlast
  case noMigration => exact fun s bad hcore hmig => answers_thenStaged (exec_migrationCopy bad s) hcore (migrationCopy_none hmig bad)

end Sys2Proof.Machine
end

section
/-!
PROOF. The block copy engine (R364 to R370).
-/

namespace Sys2Proof.Machine

theorem pairShared_bceCmd : pairShared BCE_CMD = false := pairShared_between (by decide) (by decide)

/-- The commands of the list, all five alike, answer what the engine comes to whatever operation the row names. -/
theorem answers_bceRows {s u : State} (hcore : s.coreOn = true) (h : ∀ op, s.bceRun op = u) :
    answers .bceNop s u ∧ answers .bceCopy s u ∧ answers .bceFill s u ∧ answers .bceLink s u ∧ answers .bceStop s u :=
  ⟨answers_runCore (exec_bceNop s) hcore (h 0), answers_runCore (exec_bceCopy s) hcore (h 1), answers_runCore (exec_bceFill s) hcore (h 2),
    answers_runCore (exec_bceLink s) hcore (h 3), answers_runCore (exec_bceStop s) hcore (h 4)⟩

/-! ## START and ABORT -/

section
variable {s : State}

theorem bceStart_busy (h : s.get BCE_STATUS_STATE = 1) : bceStart s = (s.put BCE_STATUS_ERR 9).raise 705 0 := if_pos h

theorem bceStart_runs (h : s.get BCE_STATUS_STATE ≠ 1) {s1 : State}
    (h1 : s1 = ((s.put BCE_STATUS_STATE 1).put BCE_STATUS_ERR 0).put BCE_STATUS_LEASE_HIT 0) : bceStart s =
      State.putAddr36 { s1 with sup := { s1.sup with bceAt := s.now } } BCE_PTR_LO BCE_PTR_HI (s.addr36 BCE_LIST_LO BCE_LIST_HI) := by
  subst h1
  exact if_neg h

theorem bceAbort_running (h : s.get BCE_STATUS_STATE = 1) : bceAbort s = s.bcePart.put BCE_STATUS_STATE 4 := if_pos h

theorem bceAbort_idle (h : s.get BCE_STATUS_STATE ≠ 1) : bceAbort s = s := if_neg h

/-! ## A list command, before its operation is known -/

theorem State.bceRun_idle (h : s.get BCE_STATUS_STATE ≠ 1) (op : Nat) : s.bceRun op = s := if_pos h

section
variable (hrun : s.get BCE_STATUS_STATE = 1)
include hrun

theorem State.bceRun_badPointer (h : s.bcePtr % 64 ≠ 0 ∨ memSize ≤ s.bcePtr) (op : Nat) : s.bceRun op = s.bceFail 8 :=
  (if_neg (not_not.mpr hrun)).trans (if_pos h)

variable (hal : s.bcePtr % 64 = 0) (hin : s.bcePtr < memSize)
include hal hin

theorem State.bceRun_poisoned (h : s.poisonedIn s.bcePtr 64 = true) (op : Nat) : s.bceRun op = (s.notePoisonRead 10).bceFail 8 :=
  (if_neg (not_not.mpr hrun)).trans ((if_neg (by omega)).trans (if_pos h))

theorem State.bceRun_readable (h : s.poisonedIn s.bcePtr 64 = false) (op : Nat) :
    s.bceRun op = s.bceExec op s.bcePtr (s.bceCmdAt s.bcePtr) :=
  (if_neg (not_not.mpr hrun)).trans ((if_neg (by omega)).trans (if_neg (ne_true_of_eq_false h)))

end

/-! ## A readable command -/

variable {a : Nat} {d : BceCmd}

theorem State.bceExec_unknown (h : 4 < d.op) (op : Nat) : s.bceExec op a d = s.bceFail 1 := if_pos h

section
variable {op : Nat} (hle : d.op ≤ 4)
include hle

theorem State.bceExec_other (h : d.op ≠ op) : s.bceExec op a d = s := (if_neg (Nat.not_lt.mpr hle)).trans (if_pos h)

variable (hop : d.op = op)
include hop

theorem State.bceExec_refused (hcheck : op = 1 ∨ op = 2) (herr : s.bceError d ≠ 0) : s.bceExec op a d = s.bceFail (s.bceError d) :=
  (if_neg (Nat.not_lt.mpr hle)).trans ((if_neg (not_not.mpr hop)).trans (if_pos ⟨hcheck, herr⟩))

variable (hok : op = 1 ∨ op = 2 → s.bceError d = 0)
include hok

theorem State.bceExec_waits (hwait : s.bceReady d = false) : s.bceExec op a d = s := by
  rw [State.bceExec, if_neg (Nat.not_lt.mpr hle), if_neg (not_not.mpr hop), if_neg (fun h => h.2 (hok h.1)), if_pos (by simp [hwait])]

end

section
variable (hready : s.bceReady d = true)
include hready

theorem State.bceExec_nop (hop : d.op = 0) : s.bceExec 0 a d = (s.bcePace d).bceDone d (a + 64) := by
  simp [State.bceExec, hop, hready]

theorem State.bceExec_copy (hop : d.op = 1) (hok : s.bceError d = 0) :
    s.bceExec 1 a d = ((s.bcePace d).bceCopy d d.pieces).bceDone d (a + 64) := by
  simp [State.bceExec, hop, hok, hready]

theorem State.bceExec_fill (hop : d.op = 2) (hok : s.bceError d = 0) :
    s.bceExec 2 a d = ((s.bcePace d).bceFill d d.pieces).bceDone d (a + 64) := by
  simp [State.bceExec, hop, hok, hready]

theorem State.bceExec_badLink (hop : d.op = 3) (h : d.src % 64 ≠ 0 ∨ memSize ≤ d.src) : s.bceExec 3 a d = s.bceFail 8 := by
  simp only [State.bceExec, hop, hready, h, ↓reduceIte]
  simp

theorem State.bceExec_link (hop : d.op = 3) (hal : d.src % 64 = 0) (hin : d.src < memSize) :
    s.bceExec 3 a d = (s.bcePace d).bceDone d d.src := by
  simp [State.bceExec, hop, hready, hal, hin]

theorem State.bceExec_stop (hop : d.op = 4) :
    s.bceExec 4 a d = (((s.bcePace d).bceDone { d with irq := false } a).put BCE_STATUS_STATE 2).raise 704 0 := by
  simp [State.bceExec, hop, hready]

end

end

/-! ## The statement -/

/-- Settles O51, clause by clause: START and ABORT, the pointer, the checks of a command, its time, and the five operations. -/
theorem blockCopyEngine : Obligations.BlockCopyEngine := by
  refine ⟨?startBusy, ?start, ?abort, ?abortIdle, ?idle, ?pointer, ?poisoned, ?unknown, ?other, ?copyRefused, ?fillRefused, ?badLink, ?waits,
    ?nop, ?copy, ?fill, ?link, ?stop⟩
  case startBusy => exact fun s hr hrun => answers_runAlone (exec_bceStart s) hr pairShared_bceCmd (bceStart_busy hrun)
  case start => exact fun s s1 hr hrun h1 => answers_runAlone (exec_bceStart s) hr pairShared_bceCmd (bceStart_runs hrun h1)
  case abort => exact fun s hr hrun => answers_runAlone (exec_bceAbort s) hr pairShared_bceCmd (bceAbort_running hrun)
  case abortIdle => exact fun s hr hrun => answers_runAlone (exec_bceAbort s) hr pairShared_bceCmd (bceAbort_idle hrun)
  case idle => exact fun s hcore hrun => answers_bceRows hcore (State.bceRun_idle hrun)
  case pointer =>
    rintro s _ _ hcore hrun rfl hbad rfl
    exact answers_bceRows hcore (State.bceRun_badPointer hrun hbad)
  case poisoned =>
    rintro s _ _ _ hcore hrun rfl hal hin hp rfl rfl
    exact answers_bceRows hcore (State.bceRun_poisoned hrun hal hin hp)
  case unknown =>
    rintro s _ _ hcore hrun rfl hal hin hp hop rfl
    exact answers_bceRows hcore fun op => (State.bceRun_readable hrun hal hin hp op).trans (State.bceExec_unknown hop op)
  case other =>
    rintro s _ _ hcore hrun rfl hal hin hp rfl hle
    have hother (op : Nat) (h : (s.bceCmdAt s.bcePtr).op ≠ op) : s.bceRun op = s :=
      (State.bceRun_readable hrun hal hin hp op).trans (State.bceExec_other hle h)
    exact ⟨fun h => answers_runCore (exec_bceNop s) hcore (hother 0 h), fun h => answers_runCore (exec_bceCopy s) hcore (hother 1 h),
      fun h => answers_runCore (exec_bceFill s) hcore (hother 2 h), fun h => answers_runCore (exec_bceLink s) hcore (hother 3 h),
      fun h => answers_runCore (exec_bceStop s) hcore (hother 4 h)⟩
  case copyRefused =>
    rintro s _ _ hcore hrun rfl hal hin hp rfl hop herr
    exact answers_runCore (exec_bceCopy s) hcore
      ((State.bceRun_readable hrun hal hin hp 1).trans (State.bceExec_refused (by omega) hop (.inl rfl) herr))
  case fillRefused =>
    rintro s _ _ hcore hrun rfl hal hin hp rfl hop herr
    exact answers_runCore (exec_bceFill s) hcore
      ((State.bceRun_readable hrun hal hin hp 2).trans (State.bceExec_refused (by omega) hop (.inr rfl) herr))
  case badLink =>
    rintro s _ _ hcore hrun rfl hal hin hp rfl hop hready hbad
    exact answers_runCore (exec_bceLink s) hcore ((State.bceRun_readable hrun hal hin hp 3).trans (State.bceExec_badLink hready hop hbad))
  case waits =>
    rintro s _ _ _ hcore hrun rfl hal hin hp rfl rfl hwait
    have hwaits (op : Nat) (hop : (s.bceCmdAt s.bcePtr).op = op) (hle : op ≤ 4)
        (hok : op = 1 ∨ op = 2 → s.bceError (s.bceCmdAt s.bcePtr) = 0) : s.bceRun op = s :=
      (State.bceRun_readable hrun hal hin hp op).trans (State.bceExec_waits (by omega) hop hok hwait)
    exact ⟨fun h => answers_runCore (exec_bceNop s) hcore (hwaits 0 h (by omega) (by omega)),
      fun h hok => answers_runCore (exec_bceCopy s) hcore (hwaits 1 h (by omega) fun _ => hok),
      fun h hok => answers_runCore (exec_bceFill s) hcore (hwaits 2 h (by omega) fun _ => hok),
      fun h => answers_runCore (exec_bceLink s) hcore (hwaits 3 h (by omega) (by omega)),
      fun h => answers_runCore (exec_bceStop s) hcore (hwaits 4 h (by omega) (by omega))⟩
  case nop =>
    rintro s _ _ _ hcore hrun rfl hal hin hp rfl hop hready rfl
    exact answers_runCore (exec_bceNop s) hcore ((State.bceRun_readable hrun hal hin hp 0).trans (State.bceExec_nop hready hop))
  case copy =>
    rintro s _ _ _ hcore hrun rfl hal hin hp rfl hop hready rfl hok
    exact answers_runCore (exec_bceCopy s) hcore ((State.bceRun_readable hrun hal hin hp 1).trans (State.bceExec_copy hready hop hok))
  case fill =>
    rintro s _ _ _ hcore hrun rfl hal hin hp rfl hop hready rfl hok
    exact answers_runCore (exec_bceFill s) hcore ((State.bceRun_readable hrun hal hin hp 2).trans (State.bceExec_fill hready hop hok))
  case link =>
    rintro s _ _ _ hcore hrun rfl hal hin hp rfl hop hready rfl hsrc hmem
    exact answers_runCore (exec_bceLink s) hcore ((State.bceRun_readable hrun hal hin hp 3).trans (State.bceExec_link hready hop hsrc hmem))
  case stop =>
    rintro s _ _ _ hcore hrun rfl hal hin hp rfl hop hready rfl
    exact answers_runCore (exec_bceStop s) hcore ((State.bceRun_readable hrun hal hin hp 4).trans (State.bceExec_stop hready hop))

end Sys2Proof.Machine
end

section
/-!
PROOF. The check unit and the dictionary coder (R372 to R385).
-/

namespace Sys2Proof.Machine

theorem pairShared_ckuJobCmd : pairShared CKU_JOB_CMD = false := pairShared_between (by decide) (by decide)

theorem pairShared_ckuCtx {n : Nat} (hn : n < 32) (isRun : Bool) : pairShared (if isRun then CKU_CTX_RUN n else CKU_CTX_CFG n) = false := by
  have hrange : 0x1C00000 ≤ (if isRun then CKU_CTX_RUN n else CKU_CTX_CFG n) ∧ (if isRun then CKU_CTX_RUN n else CKU_CTX_CFG n) < 0x3800000 := by
    cases isRun <;> simp only [CKU_CTX_RUN, CKU_CTX_CFG, Bool.false_eq_true, ↓reduceIte] <;> omega
  exact pairShared_between hrange.1 hrange.2

theorem pairShared_dcoCmd : pairShared DCO_CMD = false := pairShared_between (by decide) (by decide)

/-! ## Check jobs (R375, R377) -/

/-- The job commands, all three alike, answer what a start comes to whatever the operation. -/
theorem answers_ckuStarts {s u : State} {ctx : Nat} {cont : Bool} (hr : s.reaches CKU_JOB_CMD) (h : ∀ op, s.ckuStart op ctx cont = u) :
    answers (.ckuCompute ctx cont) s u ∧ answers (.ckuAppend ctx cont) s u ∧ answers (.ckuCheck ctx cont) s u :=
  ⟨answers_runAlone (exec_ckuCompute ctx cont s) hr pairShared_ckuJobCmd (h 1),
    answers_runAlone (exec_ckuAppend ctx cont s) hr pairShared_ckuJobCmd (h 2),
    answers_runAlone (exec_ckuCheck ctx cont s) hr pairShared_ckuJobCmd (h 3)⟩

/-- The address and the length of the job that the registers ask for. -/
def State.ckuAddr (s : State) : Nat := s.addr36 CKU_JOB_ADDR_LO CKU_JOB_ADDR_HI
def State.ckuLen (s : State) : Nat := s.rdN CKU_JOB_LEN

/-- The job that a command asks for. -/
def State.ckuJob (s : State) (op ctx : Nat) (cont : Bool) : CkuJob :=
  { op, ctx, start := if cont then s.rdN (CKU_CTX_RUN ctx) else crcInit (s.ckuPoly ctx), addr := s.ckuAddr, len := s.ckuLen }

/-- The registers of a job that starts. -/
def State.ckuRunning (s : State) : State := ((s.put CKU_JOB_STATUS_STATE 1).put CKU_JOB_STATUS_ERR 0).put CKU_JOB_STATUS_MATCH 0

section
variable {s : State} {ctx : Nat} {cont : Bool}

theorem State.ckuStart_busy {j : CkuJob} (h : s.sup.cku = some j) (op : Nat) :
    s.ckuStart op ctx cont = (s.put CKU_JOB_STATUS_ERR 1).raise 737 0 := if_pos (by simp [h])

section
variable (hfree : s.sup.cku = none)
include hfree

theorem State.ckuStart_image (h : s.on (CKU_CTX_CFG_IMAGE ctx) = true) (op : Nat) : s.ckuStart op ctx cont = s.ckuFail 2 :=
  (if_neg (by simp [hfree])).trans (if_pos h)

variable (himg : s.on (CKU_CTX_CFG_IMAGE ctx) = false)
include himg

theorem State.ckuStart_software (op : Nat) : s.ckuStart op ctx cont =
    if s.ckuLen = 0 ∨ memSize < s.ckuAddr + s.ckuLen ∨ (op = 3 ∧ s.ckuLen < crcBytes (s.ckuPoly ctx)) then s.ckuFail 3
    else { s.ckuRunning with sup := { s.ckuRunning.sup with cku := some (s.ckuJob op ctx cont) } } :=
  (if_neg (by simp [hfree])).trans (if_neg (ne_true_of_eq_false himg))

theorem State.ckuStart_range {op : Nat}
    (h : s.ckuLen = 0 ∨ memSize < s.ckuAddr + s.ckuLen ∨ (op = 3 ∧ s.ckuLen < crcBytes (s.ckuPoly ctx))) :
    s.ckuStart op ctx cont = s.ckuFail 3 :=
  (State.ckuStart_software hfree himg op).trans (if_pos h)

theorem State.ckuStart_starts {op : Nat} (hlen : 0 < s.ckuLen) (hin : s.ckuAddr + s.ckuLen ≤ memSize)
    (hcrc : op = 3 → crcBytes (s.ckuPoly ctx) ≤ s.ckuLen) : s.ckuStart op ctx cont =
      { s.ckuRunning with sup := { s.ckuRunning.sup with cku := some (s.ckuJob op ctx cont) } } := by
  refine (State.ckuStart_software hfree himg op).trans (if_neg ?_)
  rintro (h | h | ⟨hop, h⟩)
  · omega
  · omega
  · exact absurd (hcrc hop) (Nat.not_le.mpr h)

end

/-! ## The end of a check job, and writes of contexts (R376) -/

theorem ckuJobDone_idle (h : s.sup.cku = none ∨ s.bits CKU_CTRL 0 0 = 0) : ckuJobDone s = s := by
  unfold ckuJobDone
  split
  case h_1 => rfl
  case h_2 j hj => exact if_pos (h.resolve_left (by simp [hj]))

section
variable {j : CkuJob} (hj : s.sup.cku = some j) (hen : s.bits CKU_CTRL 0 0 = 1)
include hj hen

theorem ckuJobDone_result (hp : s.poisonedIn j.addr j.len = false) : ckuJobDone s =
    ((State.ckuResult { s with sup := { s.sup with cku := none } } j).put CKU_JOB_STATUS_STATE 2).raise 736 0 := by
  simp only [ckuJobDone, hj, hen, hp, Nat.one_ne_zero, Bool.false_eq_true, ↓reduceIte]

theorem ckuJobDone_poisoned (hp : s.poisonedIn j.addr j.len = true) : ckuJobDone s =
    (State.notePoisonRead { s with sup := { s.sup with cku := none } } 17).ckuFail 4 := by
  simp only [ckuJobDone, hj, hen, hp, Nat.one_ne_zero, ↓reduceIte]

end

variable {n : Nat} {isRun : Bool}

theorem ckuCtxWrite_refused (h : s.on (CKU_CTX_CFG_IMAGE n) = true ∨ ∃ j, s.sup.cku = some j ∧ j.ctx = n) (val : Word) :
    ckuCtxWrite n isRun val s = (s.put CKU_JOB_STATUS_ERR 2).raise 737 0 := by
  refine if_pos ?_
  rcases h with h | ⟨j, hj, rfl⟩
  · rw [h, Bool.true_or]
  · simp [hj]

theorem ckuCtxWrite_free (himg : s.on (CKU_CTX_CFG_IMAGE n) = false) (hj : ∀ j, s.sup.cku = some j → j.ctx ≠ n) (val : Word) :
    ckuCtxWrite n isRun val s = if isRun then s.wr (CKU_CTX_RUN n) val else s.wrN (CKU_CTX_CFG n) (val.toNat &&& 0xFFFFFF7E) := by
  refine if_neg ?_
  cases hc : s.sup.cku with
  | none => simp [himg]
  | some j => simp [himg, hj j hc]

end

/-! ## The dictionary coder (R379 to R385) -/

section
variable {s : State}

section
variable (hfree : s.get DCO_STATUS_STATE ≠ 1)
include hfree

theorem State.dcoStart_outside (h : memSize < s.dcoIn + s.dcoInLen ∨ memSize < s.dcoOut + s.dcoOutLen) (compress : Bool) :
    s.dcoStart compress = s.dcoFail 2 := (if_neg hfree).trans (if_pos h)

variable (hin : s.dcoIn + s.dcoInLen ≤ memSize) (hout : s.dcoOut + s.dcoOutLen ≤ memSize)
include hin hout

theorem State.dcoStart_region (h : s.dcoOutOk = false) (compress : Bool) : s.dcoStart compress = s.dcoFail 3 :=
  (if_neg hfree).trans ((if_neg (by omega)).trans (if_pos (by simp [h])))

/-- A job that starts: of the input that the registers name, with STATE RUNNING and ERR clear. -/
theorem State.dcoStart_starts (h : s.dcoOutOk = true) (compress : Bool) : ∃ j k : DcoJob,
    j.compress = compress ∧ j.inAddr = s.dcoIn ∧ j.inLen = s.dcoInLen
    ∧ s.dcoStart compress = { ((s.put DCO_STATUS_STATE 1).put DCO_STATUS_ERR 0).dcoShow k with
        sup := { (((s.put DCO_STATUS_STATE 1).put DCO_STATUS_ERR 0).dcoShow k).sup with dco := some j } } :=
  ⟨_, _, rfl, rfl, rfl, (if_neg hfree).trans ((if_neg (by omega)).trans (if_neg (by simp [h])))⟩

end

theorem State.dcoShow_get (s : State) (j : DcoJob) {f : Fld} (hf : f.off = DCO_STATUS) : (s.dcoShow j).get f = s.get f := by
  rw [State.dcoShow, State.putAddr36, State.putAddr36]
  repeat rw [State.get_wrN_off _ _ _ _ (by rw [hf]; decide)]

/-- The status of a job that starts. -/
theorem State.dcoRunning_status (s : State) (k : DcoJob) :
    (((s.put DCO_STATUS_STATE 1).put DCO_STATUS_ERR 0).dcoShow k).get DCO_STATUS_STATE = 1
    ∧ (((s.put DCO_STATUS_STATE 1).put DCO_STATUS_ERR 0).dcoShow k).get DCO_STATUS_ERR = 0 := by
  rw [State.dcoShow_get _ k rfl, State.dcoShow_get _ k rfl]
  refine ⟨?_, State.get_put_same _ DCO_STATUS_ERR 0⟩
  rw [State.get_put_disjoint _ _ _ _ (by decide) (by decide) (by decide)]
  exact State.get_put_same s DCO_STATUS_STATE 1

/-- What a job that starts leaves: its status, memory, and the job itself. -/
theorem State.dcoStart_running (hfree : s.get DCO_STATUS_STATE ≠ 1) (hin : s.dcoIn + s.dcoInLen ≤ memSize)
    (hout : s.dcoOut + s.dcoOutLen ≤ memSize) (h : s.dcoOutOk = true) (compress : Bool) :
    (s.dcoStart compress).get DCO_STATUS_STATE = 1 ∧ (s.dcoStart compress).get DCO_STATUS_ERR = 0
    ∧ ∃ j, (s.dcoStart compress).sup.dco = some j ∧ j.compress = compress ∧ j.inAddr = s.dcoIn ∧ j.inLen = s.dcoInLen := by
  obtain ⟨j, k, hc, ha, hl, heq⟩ := State.dcoStart_starts hfree hin hout h compress
  obtain ⟨hstate, herr⟩ := s.dcoRunning_status k
  simp only [heq, State.get_mk, State.get_ofRegs, hstate, herr, true_and]
  exact ⟨j, rfl, hc, ha, hl⟩

theorem dcoResume_continues {j : DcoJob} (hst : s.get DCO_STATUS_STATE = 3) (hj : s.sup.dco = some j)
    (hout : s.dcoOut + s.dcoOutLen ≤ memSize) (hok : s.dcoOutOk = true) {s1 : State}
    (h1 : s1 = ((s.put DCO_STATUS_STATE 1).put DCO_STATUS_ERR 0).dcoShow { j with outDone := 0 }) :
    dcoResume s = { s1 with sup := { s1.sup with dco := some { j with outDone := 0 } } } := by
  subst h1
  rw [dcoResume, if_neg (by omega), hj]
  exact (if_neg (not_not.mpr hst)).trans ((if_neg (Nat.not_lt.mpr hout)).trans (if_neg (by simp [hok])))

theorem dcoResume_noJob (hfree : s.get DCO_STATUS_STATE ≠ 1) (h : s.get DCO_STATUS_STATE ≠ 3 ∨ s.sup.dco = none) :
    dcoResume s = s.dcoFail 9 := by
  rw [dcoResume, if_neg hfree]
  split
  case h_1 j hj => exact if_pos (h.resolve_right (by simp [hj]))
  case h_2 => rfl

/-! ## The end of a run of the coder -/

section
variable {j k : DcoJob} {bs : List Byte} (hj : s.sup.dco = some j) (hst : s.get DCO_STATUS_STATE = 1)
include hj hst

theorem dcoJobDone_poisoned {st : DcoStop} (hr : s.dcoOutcome j = (bs, k, st)) (hp : s.dcoHitsPoison j k = true) :
    dcoJobDone s = ((s.notePoisonRead 11).raise 771 0).dcoFail 8 := by
  simp only [dcoJobDone, hj, hr, hst, hp, ne_eq, not_true_eq_false, ↓reduceIte]

variable (hp : s.dcoHitsPoison j k = false) (hok : s.dcoOutOk = true)
include hp hok

theorem dcoOutFull_full (hr : s.dcoOutcome j = (bs, k, .full)) {s1 : State}
    (h1 : s1 = ((s.dcoStore bs k).put DCO_STATUS_STATE 3).raise 769 0) :
    dcoOutFull s = { s1 with sup := { s1.sup with dco := some { k with outDone := bs.length } } } := by
  subst h1
  simp only [dcoOutFull, hj, hr, hst, hp, hok, ne_eq, not_true_eq_false, Bool.false_eq_true, or_self, Bool.not_true, ↓reduceIte]

theorem dcoJobDone_done (hr : s.dcoOutcome j = (bs, k, .done)) {s1 : State}
    (h1 : s1 = ((s.dcoStore bs k).put DCO_STATUS_STATE 2).raise 768 0) :
    dcoJobDone s = { s1 with sup := { s1.sup with dco := none } } := by
  subst h1
  simp only [dcoJobDone, hj, hr, hst, hp, hok, ne_eq, not_true_eq_false, Bool.false_eq_true, Bool.not_true, ↓reduceIte]

theorem dcoJobDone_failed (hr : s.dcoOutcome j = (bs, k, .failed)) : dcoJobDone s = (s.dcoStore bs k).dcoFail k.err := by
  simp only [dcoJobDone, hj, hr, hst, hp, hok, ne_eq, not_true_eq_false, Bool.false_eq_true, Bool.not_true, ↓reduceIte]

end

end

/-! ## The statement -/

/-- Settles O52, clause by clause: check jobs, their end, contexts, and the commands and ends of the dictionary coder. -/
theorem checkAndDictionaryUnits : Obligations.CheckAndDictionaryUnits := by
  refine ⟨?busy, ?image, ?range, ?starts, ?result, ?poison, ?noJob, ?runWrite, ?cfgWrite, ?ctxRefused, ?dcoBusy, ?dcoStarts, ?dcoRefused,
    ?resume, ?noResume, ?abort, ?noAbort, ?full, ?done, ?failed, ?dcoPoison⟩
  case busy => exact fun s ctx cont j hr hj => answers_ckuStarts hr (State.ckuStart_busy hj)
  case image => exact fun s ctx cont hr hfree himg => answers_ckuStarts hr (State.ckuStart_image hfree himg)
  case range =>
    rintro s ctx _ _ cont hr hfree himg rfl rfl
    refine ⟨fun h => ?_, fun h => ?_⟩
    · exact answers_ckuStarts hr fun op => State.ckuStart_range hfree himg (h.imp_right .inl)
    · exact answers_runAlone (exec_ckuCheck ctx cont s) hr pairShared_ckuJobCmd (State.ckuStart_range hfree himg (.inr (.inr ⟨rfl, h⟩)))
  case starts =>
    rintro s _ ctx _ _ cont hr hfree himg rfl rfl hlen hin rfl _ op rfl
    refine ⟨?_, ?_, ?_⟩
    · rintro rfl
      exact answers_runAlone (exec_ckuCompute ctx cont s) hr pairShared_ckuJobCmd (State.ckuStart_starts hfree himg hlen hin (by omega))
    · rintro rfl
      exact answers_runAlone (exec_ckuAppend ctx cont s) hr pairShared_ckuJobCmd (State.ckuStart_starts hfree himg hlen hin (by omega))
    · rintro rfl hcrc
      exact answers_runAlone (exec_ckuCheck ctx cont s) hr pairShared_ckuJobCmd (State.ckuStart_starts hfree himg hlen hin fun _ => hcrc)
  case result =>
    rintro s j _ hcore hj hen hp rfl
    exact answers_runCore (exec_ckuJobDone s) hcore (ckuJobDone_result hj hen hp)
  case poison =>
    rintro s j _ hcore hj hen hp rfl
    exact answers_runCore (exec_ckuJobDone s) hcore (ckuJobDone_poisoned hj hen hp)
  case noJob => exact fun s hcore h => answers_runCore (exec_ckuJobDone s) hcore (ckuJobDone_idle h)
  case runWrite =>
    exact fun s n val hr hn himg hj =>
      answers_runAlone (exec_ckuCtxWrite n true val s) hr (pairShared_ckuCtx (by omega) true) (ckuCtxWrite_free himg hj val)
  case cfgWrite =>
    exact fun s n val hr hn himg hj =>
      answers_runAlone (exec_ckuCtxWrite n false val s) hr (pairShared_ckuCtx (by omega) false) (ckuCtxWrite_free himg hj val)
  case ctxRefused =>
    exact fun s n isRun val hr hn h =>
      answers_runAlone (exec_ckuCtxWrite n isRun val s) hr (pairShared_ckuCtx (by omega) isRun) (ckuCtxWrite_refused h val)
  case dcoBusy =>
    exact fun s hr hst => ⟨answers_runAlone (exec_dcoCompress s) hr pairShared_dcoCmd (if_pos hst),
      answers_runAlone (exec_dcoDecompress s) hr pairShared_dcoCmd (if_pos hst),
      answers_runAlone (exec_dcoResume s) hr pairShared_dcoCmd (if_pos hst)⟩
  case dcoStarts =>
    intro s hr hfree hin hout hok
    obtain ⟨hcst, hcerr, j, hj, hjc, hja, hjl⟩ := State.dcoStart_running hfree hin hout hok true
    obtain ⟨hdst, hderr, k, hk, hkc, hka, hkl⟩ := State.dcoStart_running hfree hin hout hok false
    refine ⟨_, _, (exec_dcoCompress s).trans (congrArg _ (State.runHost_alone hr pairShared_dcoCmd 1 dcoCompress)),
      (exec_dcoDecompress s).trans (congrArg _ (State.runHost_alone hr pairShared_dcoCmd 2 dcoDecompress)), hcst, hdst, hcerr, hderr,
      State.dcoStart_mem s true, State.dcoStart_mem s false, j, k, hj, hk, hjc, hkc, hja, hka, hjl, hkl⟩
  case dcoRefused =>
    refine fun s hr hfree => ⟨fun h => ⟨?_, ?_⟩, fun hin hout h => ⟨?_, ?_⟩⟩
    · exact answers_runAlone (exec_dcoCompress s) hr pairShared_dcoCmd (State.dcoStart_outside hfree h true)
    · exact answers_runAlone (exec_dcoDecompress s) hr pairShared_dcoCmd (State.dcoStart_outside hfree h false)
    · exact answers_runAlone (exec_dcoCompress s) hr pairShared_dcoCmd (State.dcoStart_region hfree hin hout h true)
    · exact answers_runAlone (exec_dcoDecompress s) hr pairShared_dcoCmd (State.dcoStart_region hfree hin hout h false)
  case resume =>
    exact fun s j s1 hr hst hj hout hok h1 =>
      answers_runAlone (exec_dcoResume s) hr pairShared_dcoCmd (dcoResume_continues hst hj hout hok h1)
  case noResume => exact fun s hr hfree h => answers_runAlone (exec_dcoResume s) hr pairShared_dcoCmd (dcoResume_noJob hfree h)
  case abort =>
    rintro s _ hr h rfl
    exact answers_runAlone (exec_dcoAbort s) hr pairShared_dcoCmd (if_pos h)
  case noAbort => exact fun s hr h1 h3 => answers_runAlone (exec_dcoAbort s) hr pairShared_dcoCmd (if_neg (not_or.mpr ⟨h1, h3⟩))
  case full =>
    exact fun s j k bs s1 hcore hj hst hr hp hok h1 => answers_runCore (exec_dcoOutFull s) hcore (dcoOutFull_full hj hst hp hok hr h1)
  case done =>
    exact fun s j k bs s1 hcore hj hst hr hp hok h1 => answers_runCore (exec_dcoJobDone s) hcore (dcoJobDone_done hj hst hp hok hr h1)
  case failed =>
    exact fun s j k bs hcore hj hst hr hp hok => answers_runCore (exec_dcoJobDone s) hcore (dcoJobDone_failed hj hst hp hok hr)
  case dcoPoison =>
    exact fun s j k bs st hcore hj hst hr hp => answers_runCore (exec_dcoJobDone s) hcore (dcoJobDone_poisoned hj hst hr hp)

end Sys2Proof.Machine
end

section
/-!
PROOF. Events (R386 to R396): raises by software, the end of a tick, the ring, the early queue and the messages.
-/

namespace Sys2Proof.Machine

/-! The pair shares no register of the event controller, and none of the MSI-X table. -/

theorem pairShared_swRaise : pairShared EVC_SW_RAISE = false := pairShared_below (by decide)

theorem pairShared_earlyPop : pairShared EVC_EARLY_POP = false := pairShared_below (by decide)

theorem pairShared_evcCtrl : pairShared EVC_CTRL = false := pairShared_below (by decide)

theorem pairShared_evcTick : pairShared EVC_TICK = false := pairShared_below (by decide)

theorem pairShared_msixTable {n : Nat} (hn : n < 256) : pairShared (MSIX_TABLE (4 * n + 3)) = false :=
  pairShared_below (by simp only [MSIX_TABLE]; omega)

/-! ## Raises (R387, R396) -/

/-- A source that the list does not hold goes to its end. -/
theorem raiseIn_new {l : List Raised} {src : Nat} (h : ∀ r ∈ l, r.source ≠ src) (mask : Bool) (cls data : Nat) :
    raiseIn mask src cls data l = l ++ [⟨src, cls, data, false⟩] := by
  induction l with
  | nil => rfl
  | cons r rest ih =>
    rw [raiseIn, if_neg (h r List.mem_cons_self), ih fun x hx => h x (List.mem_cons_of_mem r hx)]
    rfl

/-- Settles O53: a raise of class CLASS, a refused CLASS of 0, and what a raise adds and keeps. -/
theorem softwareRaise : Obligations.SoftwareRaise := by
  refine ⟨?raises, ?refused, ?adds⟩
  case raises => exact fun s val hr hcls => answers_runAlone (exec_swRaise val s) hr pairShared_swRaise (if_neg hcls)
  case refused => exact fun s val hr hcls => answers_runAlone (exec_swRaise val s) hr pairShared_swRaise (if_pos hcls)
  case adds => exact fun s src cls data hnew => ⟨raiseIn_new hnew false cls data, rfl, fun _ => rfl⟩

/-! ## The record of a tick (R388 to R393) -/

section
variable (s : State)

theorem State.noteFatal_evc : s.noteFatal.evc = s.evc := by
  unfold State.noteFatal
  split
  · split <;> rfl
  · rfl

theorem State.notePending_evc : s.notePending.evc = s.evc :=
  foldl_keeps (P := fun t => t.evc = s.evc) (fun st (r : Raised) => st.groupBit (EVC_PENDING (r.source / 32)) r.source)
    (fun _ _ h => h) _ s rfl

theorem State.loseRecord_evc (rec : List EvEntry) : (s.loseRecord rec).evc = s.evc :=
  foldl_keeps (P := fun t => t.evc = s.evc) (fun st (e : EvEntry) => st.groupBit (EVC_LOST (e.source / 32)) e.source)
    (fun _ _ h => h) rec s rfl

theorem State.showEarly_evc : s.showEarly.evc = s.evc :=
  foldl_keeps (P := fun t => t.evc = s.evc) _ (fun _ _ h => h) (List.range 8) (s.put EVC_EARLY_STATUS_COUNT s.evc.early.length) rfl

/-- Where a record goes changes neither the sources raised in the tick nor the record number. -/
theorem State.placeRecord_keeps (rec : List EvEntry) :
    (s.placeRecord rec).evc.raised = s.evc.raised ∧ (s.placeRecord rec).evc.recordNo = s.evc.recordNo := by
  by_cases hring : s.on EVC_CTRL_RING_EN = true
  · rw [State.placeRecord, if_pos hring]
    by_cases hroom : rec.length + (if urgentRecord rec then 0 else 16) ≤ s.ringFree
    · rw [if_pos hroom]
      exact ⟨rfl, rfl⟩
    · rw [if_neg hroom]
      simp only [State.loseRecord_evc, and_self]
  · rw [State.placeRecord, if_neg hring]
    split
    · simp only [State.showEarly_evc, and_self]
    · simp only [State.put_evc, State.loseRecord_evc, and_self]

/-- The sources of the tick are taken, with those of class FATAL and the disabled ones noted. -/
def State.raisesTaken : State :=
  { s.noteFatal.notePending with evc := { s.noteFatal.notePending.evc with raised := [] } }

theorem State.raisesTaken_evc : s.raisesTaken.evc = { s.evc with raised := [] } := by
  simp only [State.raisesTaken, State.notePending_evc, State.noteFatal_evc]

variable {s}

theorem State.formRecord_none (h : s.recordable = []) : s.formRecord = s.raisesTaken := by
  unfold State.formRecord
  exact if_pos (by rw [h]; rfl)

/-- A record takes the next number, wherever it goes. -/
theorem State.formRecord_some (h : s.recordable ≠ []) :
    s.formRecord.evc.raised = [] ∧ s.formRecord.evc.recordNo = (s.evc.recordNo + 1) % 2 ^ 32 := by
  have hne : ¬s.recordable.isEmpty = true := by simpa using h
  unfold State.formRecord
  dsimp only
  rw [if_neg hne]
  split
  · simp only [State.notePending_evc, State.noteFatal_evc, and_self]
  · refine ⟨(State.placeRecord_keeps _ _).1.trans ?_, (State.placeRecord_keeps _ _).2.trans ?_⟩ <;>
      simp only [State.notePending_evc, State.noteFatal_evc]

end

/-! ## The ring and the messages (R390, R392, R394, R395) -/

section
variable {s : State}

theorem eventTickEnd_powered (h : s.pwr.rails.powerGood = true) :
    eventTickEnd s = (eventTick s.settleCore.settleLinks.settlePower).keepWas := by
  rw [eventTickEnd, if_pos h]

theorem State.landRecord_eq {rec : List EvEntry} {s2 : State} {base wr : Nat} (hbase : s.addr36 EVC_RING_LO EVC_RING_HI = base)
    (hwr : s.rdN EVC_RING_WR = wr)
    (h2 : s2 = ((List.range rec.length).zip rec).foldl (fun st ie => st.memWrite 15 (base + 32 * ((wr + ie.1) % 4096)) ie.2.bytes) s) :
    s.landRecord rec =
      ((s2.wrN EVC_RING_WR ((wr + rec.length) % 2 ^ 32)).wrN EVC_RECORD_CNT (s2.rdN EVC_RECORD_CNT + 1)).postRecord rec := by
  subst hbase hwr h2
  rfl

theorem ringWriteDone_lands {rec : List EvEntry} {rest : List (List EvEntry)} (h : s.evc.waiting = rec :: rest) {s1 : State}
    (h1 : s1 = { s with evc := { s.evc with waiting := rest } }) : ringWriteDone s = s1.landRecord rec := by
  rw [ringWriteDone, h, h1]

/-- The record that leaves the queue does not change where the ring lies and how far it is written. -/
theorem ring_of_taken {rest : List (List EvEntry)} {s1 : State} (h1 : s1 = { s with evc := { s.evc with waiting := rest } }) :
    s1.addr36 EVC_RING_LO EVC_RING_HI = s.addr36 EVC_RING_LO EVC_RING_HI ∧ s1.rdN EVC_RING_WR = s.rdN EVC_RING_WR := by
  simp only [h1, State.addr36, State.rdN_mk, State.rdN_ofRegs, and_self]

theorem ringWriteDone_none (h : s.evc.waiting = []) : ringWriteDone s = s := by
  rw [ringWriteDone, h]

section
variable {val : Word}

theorem ringEnable_off (h : EVC_CTRL_RING_EN.ext val = 0) :
    ringEnable val s = (s.put EVC_CTRL_MSIX_EN (EVC_CTRL_MSIX_EN.ext val)).put EVC_CTRL_RING_EN 0 := if_pos h

variable (hval : EVC_CTRL_RING_EN.ext val = 1)
include hval

theorem ringEnable_on (hoff : s.on EVC_CTRL_RING_EN = false) (himg : s.on CSU_STATUS_IMAGE_VALID = true) :
    ringEnable val s = ((s.put EVC_CTRL_MSIX_EN (EVC_CTRL_MSIX_EN.ext val)).put EVC_CTRL_RING_EN 1).moveEarly :=
  (if_neg (by omega)).trans (if_neg (by simp [hoff, himg]))

theorem ringEnable_stays (h : s.on EVC_CTRL_RING_EN = true ∨ s.on CSU_STATUS_IMAGE_VALID = false) :
    ringEnable val s = s.put EVC_CTRL_MSIX_EN (EVC_CTRL_MSIX_EN.ext val) :=
  (if_neg (by omega)).trans (if_pos (by simpa using h))

end

theorem exec_msixUnmask_vector (n : Nat) (s : State) :
    exec (.msixUnmask (some n)) s = .next (s.runHost (MSIX_TABLE (4 * n + 3)) 0 (msixUnmask (some n))) := rfl

theorem exec_msixUnmask_function (s : State) : exec (.msixUnmask none) s = .next (s.runAon (msixUnmask none)) := rfl

end

/-! ## The statement -/

/-- Settles O54, clause by clause: the end of a tick, its record, the ring, moderation, the early queue, and the masks. -/
theorem eventTicksAndMessages : Obligations.EventTicksAndMessages := by
  refine ⟨?tick, ?noPower, fun s => ⟨rfl, rfl⟩, ?record, ?lands, ?noRecord, ?expires, ?moderated, ?pop, ?ringOff, ?ringOn, ?ringStays, ?divider,
    ?unmask, ?unmaskAll⟩
  case tick => exact fun s hgood => answers_runAon (exec_eventTick s) hgood (eventTickEnd_powered hgood)
  case noPower =>
    intro s hgood
    rw [answers_iff, exec_eventTick, State.runAon_off hgood]
  case record =>
    intro s
    by_cases h : s.recordable = []
    · rw [State.formRecord_none h, State.raisesTaken_evc]
      exact ⟨rfl, fun _ => rfl, fun hne => absurd h hne⟩
    · obtain ⟨hraised, hno⟩ := State.formRecord_some h
      exact ⟨hraised, fun h' => absurd h' h, fun _ => hno⟩
  case lands =>
    rintro s rec rest s1 s2 _ _ _ hcore hw rfl rfl h1 h2 rfl
    obtain ⟨hbase, hwr⟩ := ring_of_taken h1
    exact answers_runCore (exec_ringWriteDone s) hcore ((ringWriteDone_lands hw h1).trans (State.landRecord_eq hbase hwr h2))
  case noRecord => exact fun s hcore hw => answers_runCore (exec_ringWriteDone s) hcore (ringWriteDone_none hw)
  case expires =>
    exact fun s c hcore hm => answers_runCore (exec_msixModerationExpire c s) hcore (if_neg (ne_true_of_eq_false hm))
  case moderated => exact fun s c hcore hm => answers_runCore (exec_msixModerationExpire c s) hcore (if_pos hm)
  case pop => exact fun s hr => answers_runAlone (exec_earlyPop s) hr pairShared_earlyPop rfl
  case ringOff => exact fun s val hr h => answers_runAlone (exec_ringEnable val s) hr pairShared_evcCtrl (ringEnable_off h)
  case ringOn =>
    exact fun s val hr h hoff himg => answers_runAlone (exec_ringEnable val s) hr pairShared_evcCtrl (ringEnable_on h hoff himg)
  case ringStays => exact fun s val hr h hst => answers_runAlone (exec_ringEnable val s) hr pairShared_evcCtrl (ringEnable_stays h hst)
  case divider => exact fun s val hr => answers_runAlone (exec_tickDivWrite val s) hr pairShared_evcTick rfl
  case unmask => exact fun s n hn hr => answers_runAlone (exec_msixUnmask_vector n s) hr (pairShared_msixTable hn) rfl
  case unmaskAll => exact fun s hgood => answers_runAon (exec_msixUnmask_function s) hgood rfl

end Sys2Proof.Machine
end

section
/-!
PROOF. The Kettle (R405 to R411): samples, the throttle stage and the end of a stop.
-/

namespace Sys2Proof.Machine

/-! ## Samples (R405, R406) -/

/-- The state behind the readings of a sample that completes. -/
def State.kettleRead (s : State) (readings : List SiteReading) : State :=
  State.showSites { s with pwr := { s.pwr with sampling := false } } readings

/-- What a sample that found `tmax` at `site` leaves, from the state `s` behind its readings. -/
def State.kettleResult (s : State) (readings : List SiteReading) (tmax : Int) (site : Nat) (degraded : Bool) (t0 t1 : Int) : State :=
  ((((((s.put PWR_KETTLE_STATUS_TMAX (unsignedOf 8 tmax)).put PWR_KETTLE_STATUS_SITE site).putB PWR_KETTLE_STATUS_DEGRADED degraded).putB
    PWR_KETTLE_STATUS_FAST (!(s.asleep) && decide (s.warnLimit - 5 ≤ tmax ∨ 90 ≤ max t0 t1))).judgeZones tmax (max t0 t1)).kettleActs
      (validSites readings).length tmax site t0 t1)

section
variable {s : State} {readings : List SiteReading}

theorem kettleSampleDone_idle (h : s.pwr.sampling = false) : kettleSampleDone readings s = s := if_pos (by simp [h])

variable (hsam : s.pwr.sampling = true)
include hsam

section
variable {k : Nat} (hk : hottest readings = some k)
include hk

theorem kettleSampleDone_full (hn : 20 ≤ (validSites readings).length) : kettleSampleDone readings s =
    (s.kettleRead readings).kettleResult readings (siteOf readings k).temp k false
      ((s.kettleRead readings).kettleStack readings (siteOf readings k).temp 0)
      ((s.kettleRead readings).kettleStack readings (siteOf readings k).temp 1) := by
  simp only [kettleSampleDone, hsam, hk, Nat.not_lt.mpr hn, decide_false, Bool.not_true, Bool.false_eq_true, Bool.false_and, ↓reduceIte,
    Option.isNone_some]
  rfl

theorem kettleSampleDone_degraded (hn : (validSites readings).length < 20) : kettleSampleDone readings s =
    (s.kettleRead readings).kettleResult readings ((siteOf readings k).temp + 5) k true
      ((s.kettleRead readings).kettleStack readings ((siteOf readings k).temp + 5) 0)
      ((s.kettleRead readings).kettleStack readings ((siteOf readings k).temp + 5) 1) := by
  simp only [kettleSampleDone, hsam, hk, hn, decide_true, Bool.not_true, Bool.not_false, Bool.and_self, Bool.false_eq_true, ↓reduceIte,
    Option.isNone_some]
  rfl

end

theorem kettleSampleDone_blind (hk : hottest readings = none) (hn : (validSites readings).length < 20) {tmax : Int} {site : Nat}
    (ht : tmax = signedOf 8 (s.kettleRead readings).freeVal.toNat) (hs : site = (s.kettleRead readings).freeVal.toNat / 256 % 24) :
    kettleSampleDone readings s = (s.kettleRead readings).freeNext.kettleResult readings tmax site true
      ((s.kettleRead readings).freeNext.kettleStack readings tmax 0) ((s.kettleRead readings).freeNext.kettleStack readings tmax 1) := by
  subst ht hs
  simp only [kettleSampleDone, hsam, hk, hn, decide_true, Bool.not_true, Bool.and_false, Bool.false_eq_true, ↓reduceIte, Option.isNone_none]
  rfl

end

/-! ## The throttle stage and the end of a stop (R408, R411) -/

section
variable {s : State}

/-- The throttle stage set to `n` now, with source 100. -/
def State.stageSet (s : State) (n : Nat) : State :=
  (State.put { s with pwr := { s.pwr with stageAt := s.now } } PWR_KETTLE_STATUS_STAGE n).raise 100 0

theorem throttleStep_throttled (h : s.pwr.throttle = true) : throttleStep s =
    if s.get PWR_KETTLE_STATUS_STAGE < 5 ∧ s.pwr.stageAt + s.stepHalfNs < s.now + s.tickHalfNs then
      s.stageSet (s.get PWR_KETTLE_STATUS_STAGE + 1) else s := if_pos h

theorem throttleStep_cooled (h : s.pwr.throttle = false) : throttleStep s =
    if 0 < s.get PWR_KETTLE_STATUS_STAGE ∧ s.pwr.stageAt + 10 * s.stepHalfNs < s.now + s.tickHalfNs then
      s.stageSet (s.get PWR_KETTLE_STATUS_STAGE - 1) else s := if_neg (ne_true_of_eq_false h)

theorem stopWindowExpire_boots {c : Nat} (hc : s.pwr.coolSince = some c) (hst : s.pwrState = 6) (ht : c + 20000000000 < s.now + s.tickHalfNs)
    {s1 : State} (h1 : s1 = s.setRails (fun r => { r with enHbm := true, enSds := true, pgHbm := true, pgSds := true })) :
    stopWindowExpire s = State.wakeBoot { s1 with pwr := { s1.pwr with thermN := s.pwr.warn || s.pwr.throttle } } true := by
  subst h1
  rw [stopWindowExpire, hc]
  exact if_pos (by simp [hst, ht])

theorem stopWindowExpire_waits (h : ∀ c ∈ s.pwr.coolSince, s.pwrState ≠ 6 ∨ s.now + s.tickHalfNs ≤ c + 20000000000) :
    stopWindowExpire s = s := by
  cases hc : s.pwr.coolSince with
  | none => rw [stopWindowExpire, hc]
  | some c =>
    rw [stopWindowExpire, hc]
    exact if_neg (by simpa [imp_iff_not_or, Nat.not_lt] using h c hc)

end

/-! ## The statement -/

/-- Settles O56, clause by clause: samples, the throttle stage, and the end of a stop. -/
theorem heatAndStops : Obligations.HeatAndStops := by
  refine ⟨?starts, ?full, ?degraded, ?blind, ?noSample, ?rises, ?staysHigh, ?falls, ?staysLow, ?boots, ?notStopped, ?notYet⟩
  case starts => exact fun s hgood => answers_runAon (exec_kettleSample s) hgood rfl
  case full =>
    rintro s readings k _ _ _ _ _ _ hgood hsam rfl rfl hk hn rfl rfl rfl rfl
    exact answers_runAon (exec_kettleSampleDone readings s) hgood (kettleSampleDone_full hsam hk hn)
  case degraded =>
    rintro s readings k _ _ _ _ _ _ hgood hsam rfl rfl hk hn rfl rfl rfl rfl
    exact answers_runAon (exec_kettleSampleDone readings s) hgood (kettleSampleDone_degraded hsam hk hn)
  case blind =>
    rintro s readings _ _ _ _ _ _ _ hgood hsam rfl rfl hk hn rfl ht hs rfl rfl
    exact answers_runAon (exec_kettleSampleDone readings s) hgood (kettleSampleDone_blind hsam hk hn ht hs)
  case noSample =>
    exact fun s readings hgood h => answers_runAon (exec_kettleSampleDone readings s) hgood (kettleSampleDone_idle h)
  case rises =>
    exact fun s hgood h hlt ht => answers_runAon (exec_throttleStep s) hgood ((throttleStep_throttled h).trans (if_pos ⟨hlt, ht⟩))
  case staysHigh =>
    exact fun s hgood h hst => answers_runAon (exec_throttleStep s) hgood ((throttleStep_throttled h).trans (if_neg (by omega)))
  case falls =>
    exact fun s hgood h hlt ht => answers_runAon (exec_throttleStep s) hgood ((throttleStep_cooled h).trans (if_pos ⟨hlt, ht⟩))
  case staysLow =>
    exact fun s hgood h hst => answers_runAon (exec_throttleStep s) hgood ((throttleStep_cooled h).trans (if_neg (by omega)))
  case boots =>
    exact fun s c s1 hgood hc hst ht h1 => answers_runAon (exec_stopWindowExpire s) hgood (stopWindowExpire_boots hc hst ht h1)
  case notStopped =>
    exact fun s hgood h => answers_runAon (exec_stopWindowExpire s) hgood
      (stopWindowExpire_waits fun c hc => .inl (h.resolve_right (Option.ne_none_iff_exists'.mpr ⟨c, hc⟩)))
  case notYet =>
    exact fun s c hgood hc ht => answers_runAon (exec_stopWindowExpire s) hgood
      (stopWindowExpire_waits fun d hd => .inr (Option.some.inj (hc.symm.trans hd) ▸ ht))

end Sys2Proof.Machine
end

section
/-!
PROOF. Messages that arrive on the Ehrus links (R418 to R436).
-/

namespace Sys2Proof.Machine

theorem State.powerGood_of_coreOn {s : State} (h : s.coreOn = true) : s.pwr.rails.powerGood = true := by
  simp only [State.coreOn, Bool.and_eq_true] at h
  exact h.1.1.1

/-! ## Reception (R418) -/

section
variable {s : State} {h : MsgHdr}

theorem State.ehlReceive_down (hdown : 9 ≤ h.link ∨ s.ehlUp h.link = false) (f : State → State) : s.ehlReceive h f = s :=
  if_pos (by simpa using hdown)

section
variable (hlt : h.link < 9) (hup : s.ehlUp h.link = true)
include hlt hup

/-- A link that carries messages passes the first test of a reception. -/
theorem ehlReceive_linkOk : ¬(decide (9 ≤ h.link) || !s.ehlUp h.link) = true := by
  simp [hup, hlt]

theorem State.ehlReceive_badCrc (hcrc : h.crcOk = false) (hnak : (s.ehlLink h.link).naked = false) (f : State → State) :
    s.ehlReceive h f = (s.setLink h.link (fun x => { x with naked := true })).ehlReply h.link false (s.ehlLink h.link).expect :=
  (if_neg (ehlReceive_linkOk hlt hup)).trans ((if_pos (by simp [hcrc])).trans (if_neg (ne_true_of_eq_false hnak)))

theorem State.ehlReceive_discarded
    (hbad : (h.crcOk = false ∧ (s.ehlLink h.link).naked = true) ∨ (h.crcOk = true ∧ h.seq ≠ (s.ehlLink h.link).expect)) (f : State → State) :
    s.ehlReceive h f = s.setLink h.link (fun x => { x with lastRx := s.now }) := by
  refine (if_neg (ehlReceive_linkOk hlt hup)).trans ?_
  rcases hbad with ⟨hcrc, hnak⟩ | ⟨hcrc, hseq⟩
  · exact (if_pos (by simp [hcrc])).trans (if_pos hnak)
  · exact (if_neg (by simp [hcrc])).trans (if_pos hseq)

end

section
variable (ha : s.accepts h)
include ha

theorem State.ehlReceive_accepted (f : State → State) : s.ehlReceive h f = f (s.acked h) := by
  obtain ⟨hlt, hup, hcrc, hseq⟩ := ha
  exact (if_neg (ehlReceive_linkOk hlt hup)).trans
    ((if_neg (by simp [hcrc])).trans ((if_neg (not_not.mpr hseq)).trans (by rw [State.acked, hseq])))

theorem State.fromPartner_accepted (hl : h.link = 0) (f : State → State) : s.fromPartner h f = f (s.acked h) :=
  (State.ehlReceive_accepted ha _).trans (if_pos hl)

theorem State.fromPartner_otherLink (hl : h.link ≠ 0) (f : State → State) : s.fromPartner h f = s.acked h :=
  (State.ehlReceive_accepted ha _).trans (if_neg hl)

theorem State.fromPrimary_accepted (hl : h.link = 0) (hsec : (s.acked h).isSecondary = true) (f : State → State) :
    s.fromPrimary h f = f (s.acked h) :=
  (State.fromPartner_accepted ha hl _).trans (if_pos hsec)

theorem State.fromPrimary_ignored (hno : h.link ≠ 0 ∨ (s.acked h).isSecondary = false) (f : State → State) : s.fromPrimary h f = s.acked h := by
  by_cases hl : h.link = 0
  · exact (State.fromPartner_accepted ha hl _).trans (if_neg (ne_true_of_eq_false (hno.resolve_left (not_not.mpr hl))))
  · exact State.fromPartner_otherLink ha hl _

theorem State.fromParent_accepted (hpar : (s.acked h).hasParent = true) (hl : h.link = (s.acked h).parentLink) (f : State → State) :
    s.fromParent h f = f (s.acked h) :=
  (State.ehlReceive_accepted ha _).trans (if_pos (by simp only [hpar, ← hl, beq_self_eq_true, Bool.and_self]))

theorem State.fromParent_ignored (hno : (s.acked h).hasParent = false ∨ h.link ≠ (s.acked h).parentLink) (f : State → State) :
    s.fromParent h f = s.acked h :=
  (State.ehlReceive_accepted ha _).trans (if_neg (by
    simp only [Bool.and_eq_true, beq_iff_eq, not_and_or, Bool.not_eq_true]
    exact hno))

end

/-- A command with core powered runs what it receives. -/
theorem exec_receives {c : Instr} {f g : State → State} (hc : exec c s = .next (s.runCore f)) (hcore : s.coreOn = true)
    (hf : f s = s.ehlReceive h g) : exec c s = .next (s.keepQueue (s.ehlReceive h g)) := by
  rw [hc, State.runCore_on hcore, hf]

/-- Every message, with CORE on, takes its effect through a reception. -/
theorem exec_message {c : Instr} (hc : messageHeader c = some h) (hcore : s.coreOn = true) :
    ∃ g, exec c s = .next (s.keepQueue (s.ehlReceive h g)) := by
  unfold messageHeader at hc
  split at hc <;> cases hc
  case h_1 pair sync => exact ⟨_, exec_receives (exec_alive h pair sync s) hcore rfl⟩
  case h_2 ws => exact ⟨_, exec_receives (exec_regw h ws s) hcore rfl⟩
  case h_3 m => exact ⟨_, exec_receives (exec_stack h m s) hcore rfl⟩
  case h_4 m => exact ⟨_, exec_receives (exec_commit h m s) hcore rfl⟩
  case h_5 m => exact ⟨_, exec_receives (exec_build h m s) hcore rfl⟩
  case h_6 r => exact ⟨_, exec_receives (exec_fstart h r s) hcore rfl⟩
  case h_7 r => exact ⟨_, exec_receives (exec_fend h r s) hcore rfl⟩
  case h_8 => exact ⟨_, exec_receives (exec_handover h s) hcore rfl⟩
  case h_9 op =>
    exact ⟨_, (exec_power h op s).trans (congrArg _ (State.runAon_on (State.powerGood_of_coreOn hcore) (power h op)))⟩
  case h_10 m => exact ⟨_, exec_receives (exec_join h m s) hcore rfl⟩
  case h_11 q t => exact ⟨_, exec_receives (exec_tlid h q t s) hcore rfl⟩
  case h_12 k t => exact ⟨_, exec_receives (exec_treset h k t s) hcore rfl⟩
  case h_13 ns => exact ⟨_, exec_receives (exec_ttime h ns s) hcore rfl⟩
  case h_14 m => exact ⟨_, exec_receives (exec_tdelay h m s) hcore rfl⟩
  case h_15 fr t => exact ⟨_, exec_receives (exec_tarm h fr t s) hcore rfl⟩
  case h_16 mask a bs => exact ⟨_, exec_receives (exec_tbcast h mask a bs s) hcore rfl⟩
  case h_17 => exact ⟨_, exec_receives (exec_tstatus h s) hcore rfl⟩

/-- A message answers what its reception comes to, where that does not depend on the message. -/
theorem answers_message {c : Instr} (hc : messageHeader c = some h) (hcore : s.coreOn = true) {u : State}
    (hu : ∀ g, s.ehlReceive h g = u) : answers c s u := by
  obtain ⟨g, hg⟩ := exec_message hc hcore
  rw [answers_iff, hg, hu]

/-! ## Messages of the partner (R425, R427, R430) -/

section
variable (ha : s.accepts h) (hl : h.link = 0)
include ha hl

theorem power_wakes : power h 3 s = (s.acked h).wake wakePartner := (State.fromPartner_accepted ha hl _).trans (if_pos rfl)

section
variable {op : Nat} (hop : op ≠ 3)
include hop

theorem power_notSecondary (hsec : (s.acked h).isSecondary = false) : power h op s = s.acked h :=
  (State.fromPartner_accepted ha hl _).trans ((if_neg hop).trans (if_neg (ne_true_of_eq_false hsec)))

variable (hsec : (s.acked h).isSecondary = true)
include hsec

theorem power_sleeps (href : State.sleepRefusal (s.acked h) (op == 2) false = none) :
    power h op s = State.sleepCmd (s.acked h) (op == 2) false :=
  (State.fromPartner_accepted ha hl _).trans ((if_neg hop).trans ((if_pos hsec).trans (if_neg (by simp [href]))))

theorem power_refuses (href : State.sleepRefusal (s.acked h) (op == 2) false ≠ none) :
    power h op s = (State.sleepCmd (s.acked h) (op == 2) false).desync 5 :=
  (State.fromPartner_accepted ha hl _).trans ((if_neg hop).trans ((if_pos hsec).trans (if_pos (Option.isSome_iff_ne_none.mpr href))))

end

theorem handover_secondary (hsec : (s.acked h).isSecondary = true) : handover h s = (s.acked h).takeover.startJoin :=
  (State.fromPartner_accepted ha hl _).trans (if_pos hsec)

theorem handover_notSecondary (hsec : (s.acked h).isSecondary = false) :
    handover h s = if (s.acked h).pairState = pairPrimary then (s.acked h).startJoin else s.acked h :=
  (State.fromPartner_accepted ha hl _).trans (if_neg (ne_true_of_eq_false hsec))

/-- What ALIVE notes of the partner, and what a primary makes of it. -/
theorem alive_noted {pair : Nat} {sync : Bool} {t : State} (ht : t = { s.acked h with
      ehl := { (s.acked h).ehl with lastAlive := (s.acked h).now, partnerPair := pair, partnerSync := sync } }) :
    alive h pair sync s =
      if t.pairState ≠ pairPrimary then t
      else if t.on EHL_STATUS_JOINING then
        (if t.ehl.selfDone && sync then State.enterSync { t with ehl := { t.ehl with selfDone := false } } else t)
      else if t.on EHL_STATUS_IN_SYNC && !sync && pair == pairSecondary then t.startJoin
      else t := by
  subst ht
  exact State.fromPartner_accepted ha hl _

end

/-! ## Messages that a role or a link decides (R419, R433, R435) -/

section
variable {c : Instr} {g f : State → State} {u t : State} (ha : s.accepts h) (hu : u = s.acked h)
include ha hu

section
variable (hc : exec c s = .next (s.runCore g)) (hcore : s.coreOn = true)
include hc hcore

theorem answers_accepted (hg : g s = s.ehlReceive h f) (ht : f u = t) : answers c s t :=
  answers_runCore hc hcore (hg.trans ((State.ehlReceive_accepted ha f).trans (hu ▸ ht)))

theorem answers_fromPrimary (hl : h.link = 0) (hsec : u.isSecondary = true) (hg : g s = s.fromPrimary h f) (ht : f u = t) :
    answers c s t :=
  answers_runCore hc hcore (hg.trans ((State.fromPrimary_accepted ha hl (hu ▸ hsec) f).trans (hu ▸ ht)))

theorem answers_fromPrimary_ignored (hno : h.link ≠ 0 ∨ u.isSecondary = false) (hg : g s = s.fromPrimary h f) : answers c s u :=
  answers_runCore hc hcore (hg.trans ((State.fromPrimary_ignored ha (hu ▸ hno) f).trans hu.symm))

theorem answers_fromParent (hpar : u.hasParent = true) (hl : h.link = u.parentLink) (hg : g s = s.fromParent h f) (ht : f u = t) :
    answers c s t :=
  answers_runCore hc hcore (hg.trans ((State.fromParent_accepted ha (hu ▸ hpar) (hu ▸ hl) f).trans (hu ▸ ht)))

theorem answers_fromParent_ignored (hno : u.hasParent = false ∨ h.link ≠ u.parentLink) (hg : g s = s.fromParent h f) : answers c s u :=
  answers_runCore hc hcore (hg.trans ((State.fromParent_ignored ha (hu ▸ hno) f).trans hu.symm))

end

theorem handover_ignored (hno : h.link ≠ 0 ∨ u.isSecondary = false) (hno' : h.link ≠ 0 ∨ u.pairState ≠ pairPrimary) : handover h s = u := by
  subst hu
  by_cases hl : h.link = 0
  · exact (handover_notSecondary ha hl (hno.resolve_left (not_not.mpr hl))).trans (if_neg (hno'.resolve_left (not_not.mpr hl)))
  · exact State.fromPartner_otherLink ha hl _

end

end

/-! ## The statement -/

/-- Settles O57, clause by clause: reception, the messages of the primary, of the partner and of the parent, and the messages of time and
of the tree. -/
theorem ehrusMessages : Obligations.EhrusMessages := by
  refine ⟨?down, ?badCrc, ?discarded, ?primary, ?build, ?frames, ?join, ?ignored, ?otherLink, ?power, ?alive, ?parent, ?noParent, ?time,
    ?reply, ?status⟩
  case down => exact fun s h c hc hcore hdown => answers_message hc hcore (State.ehlReceive_down hdown)
  case badCrc => exact fun s h c hc hcore hlt hup hcrc hnak => answers_message hc hcore (State.ehlReceive_badCrc hlt hup hcrc hnak)
  case discarded => exact fun s h c hc hcore hlt hup hbad => answers_message hc hcore (State.ehlReceive_discarded hlt hup hbad)
  case primary =>
    intro s u h ws sm cm hcore ha hu hl hsec
    exact ⟨answers_fromPrimary ha hu (exec_regw h ws s) hcore hl hsec rfl rfl,
      answers_fromPrimary ha hu (exec_stack h sm s) hcore hl hsec rfl rfl,
      answers_fromPrimary ha hu (exec_commit h cm s) hcore hl hsec rfl rfl,
      answers_runCore (exec_handover h s) hcore (hu ▸ handover_secondary ha hl (hu ▸ hsec))⟩
  case build =>
    intro s u h bm hcore ha hu hl hsec
    exact ⟨fun hfree => answers_fromPrimary ha hu (exec_build h bm s) hcore hl hsec rfl (if_neg (ne_true_of_eq_false hfree)),
      fun hbusy => answers_fromPrimary ha hu (exec_build h bm s) hcore hl hsec rfl (if_pos hbusy)⟩
  case frames =>
    intro s u h r f hcore ha hu hl hsec
    exact ⟨fun hsync => answers_fromPrimary ha hu (exec_fstart h r s) hcore hl hsec rfl (if_pos (by simpa using hsync)),
      fun hout hpart => answers_fromPrimary ha hu (exec_fstart h r s) hcore hl hsec rfl (if_neg (by simp [hout, hpart])),
      fun hknown => answers_fromPrimary ha hu (exec_fend h f s) hcore hl hsec rfl (if_pos hknown),
      fun hnew => answers_fromPrimary ha hu (exec_fend h f s) hcore hl hsec rfl (if_neg (ne_true_of_eq_false hnew))⟩
  case join =>
    intro s u h a bs cm sm cur hcore ha hu hl hsec
    exact ⟨answers_fromPrimary ha hu (exec_join h (.bytes a bs) s) hcore hl hsec rfl rfl,
      answers_fromPrimary ha hu (exec_join h (.commit cm) s) hcore hl hsec rfl rfl,
      answers_fromPrimary ha hu (exec_join h (.stack sm cur) s) hcore hl hsec rfl rfl,
      answers_fromPrimary ha hu (exec_join h .done s) hcore hl hsec rfl rfl⟩
  case ignored =>
    intro s u h ws sm cm bm r f j hcore ha hu hno
    exact ⟨answers_fromPrimary_ignored ha hu (exec_regw h ws s) hcore hno rfl,
      answers_fromPrimary_ignored ha hu (exec_stack h sm s) hcore hno rfl,
      answers_fromPrimary_ignored ha hu (exec_commit h cm s) hcore hno rfl,
      answers_fromPrimary_ignored ha hu (exec_build h bm s) hcore hno rfl,
      answers_fromPrimary_ignored ha hu (exec_fstart h r s) hcore hno rfl,
      answers_fromPrimary_ignored ha hu (exec_fend h f s) hcore hno rfl,
      answers_fromPrimary_ignored ha hu (exec_join h j s) hcore hno rfl,
      fun hl hpri => answers_runCore (exec_handover h s) hcore (hu ▸ (handover_notSecondary ha hl
        (hu ▸ hno.resolve_left (not_not.mpr hl))).trans (if_pos (hu ▸ hpri))),
      fun hno' => answers_runCore (exec_handover h s) hcore (handover_ignored ha hu hno hno')⟩
  case otherLink =>
    intro s u h pair op sync hcore ha hu hl
    exact ⟨answers_runCore (exec_alive h pair sync s) hcore (hu ▸ State.fromPartner_otherLink ha hl _),
      answers_runAon (exec_power h op s) (State.powerGood_of_coreOn hcore) (hu ▸ State.fromPartner_otherLink ha hl _)⟩
  case power =>
    rintro s u h op hgood ha rfl hl
    exact ⟨answers_runAon (exec_power h 3 s) hgood (power_wakes ha hl),
      fun hop hsec => answers_runAon (exec_power h op s) hgood (power_notSecondary ha hl hop hsec),
      fun hop hsec href => answers_runAon (exec_power h op s) hgood (power_sleeps ha hl hop hsec href),
      fun hop hsec href => answers_runAon (exec_power h op s) hgood (power_refuses ha hl hop hsec href)⟩
  case alive =>
    rintro s u h pair sync t hcore ha rfl hl ht
    have hnoted := alive_noted ha hl ht
    refine ⟨fun hpri => ?_, fun hpri hjoin hsync hout hsec => ?_, fun hpri hjoin hself hsync => ?_, fun hpri hjoin hwait => ?_,
      fun hpri hjoin hquiet => ?_⟩ <;> refine answers_runCore (exec_alive h pair sync s) hcore (hnoted.trans ?_)
    · exact if_pos hpri
    · rw [if_neg (not_not.mpr hpri), if_neg (ne_true_of_eq_false hjoin), if_pos (by simp [hsync, hout, hsec])]
    · rw [if_neg (not_not.mpr hpri), if_pos hjoin, if_pos (by simp [hself, hsync])]
    · rw [if_neg (not_not.mpr hpri), if_pos hjoin, if_neg (by simpa [imp_iff_not_or] using hwait)]
    · rw [if_neg (not_not.mpr hpri), if_neg (ne_true_of_eq_false hjoin), if_neg (by simpa [imp_iff_not_or, or_assoc] using hquiet)]
  case parent =>
    rintro s u h q t k mask a fr bs v w hcore ha hu hpar hl rfl rfl
    exact ⟨answers_fromParent ha hu (exec_tlid h q t s) hcore hpar hl rfl rfl,
      answers_fromParent ha hu (exec_treset h k t s) hcore hpar hl rfl rfl,
      answers_fromParent ha hu (exec_tarm h fr t s) hcore hpar hl rfl rfl,
      fun hin => answers_fromParent ha hu (exec_tbcast h mask a bs s) hcore hpar hl rfl (if_pos hin),
      fun hout => answers_fromParent ha hu (exec_tbcast h mask a bs s) hcore hpar hl rfl (if_neg (ne_true_of_eq_false hout))⟩
  case noParent =>
    intro s u h q t k mask a fr bs hcore ha hu hno
    exact ⟨answers_fromParent_ignored ha hu (exec_tlid h q t s) hcore hno rfl,
      answers_fromParent_ignored ha hu (exec_treset h k t s) hcore hno rfl,
      answers_fromParent_ignored ha hu (exec_tarm h fr t s) hcore hno rfl,
      answers_fromParent_ignored ha hu (exec_tbcast h mask a bs s) hcore hno rfl⟩
  case time =>
    intro s u h ns sent hcore ha hu
    exact ⟨fun hsrc => answers_accepted ha hu (exec_ttime h ns s) hcore rfl (if_pos hsrc),
      fun hsrc => answers_accepted ha hu (exec_ttime h ns s) hcore rfl (if_neg hsrc),
      answers_accepted ha hu (exec_tdelay h (.request sent) s) hcore rfl rfl⟩
  case reply =>
    rintro s u h sent received replied d hcore ha hu rfl
    exact ⟨fun hsrc hdue => answers_accepted ha hu (exec_tdelay h (.reply sent received replied) s) hcore rfl (if_pos (by simp [hsrc, hdue])),
      fun hno => answers_accepted ha hu (exec_tdelay h (.reply sent received replied) s) hcore rfl
        (if_neg (by simpa [imp_iff_not_or] using hno))⟩
  case status =>
    intro s u h hcore ha hu
    exact ⟨fun hl htree => answers_accepted ha hu (exec_tstatus h s) hcore rfl (if_pos (by simp [hl, htree])),
      fun hno => answers_accepted ha hu (exec_tstatus h s) hcore rfl (if_neg (by simpa [imp_iff_not_or, Nat.not_le] using hno))⟩

end Sys2Proof.Machine
end

section
/-!
PROOF. Pairs and hierarchies (R418 to R438): what a device sends and finishes by itself, the pair link, the EHL commands, the tree and
the lanes.
-/

namespace Sys2Proof.Machine

theorem pairShared_ehlCmd : pairShared EHL_CMD = false := pairShared_between (by decide) (by decide)

theorem pairShared_bcCtrl : pairShared EHL_BC_CTRL = false := pairShared_between (by decide) (by decide)

section
variable {s : State}

/-! ## Sending (R419, R435) -/

theorem aliveSend_due (hup : s.ehl.linkUp = true) (ht : s.ehl.aliveSent + 1000 < s.now + s.tickHalfNs) {s1 : State}
    (h1 : s1 = s.ehlSend 0 (.alive (s.evc.tick % 2 ^ 64) s.pairState (!s.drives) (s.on EHL_STATUS_IN_SYNC))) :
    aliveSend s = { s1 with ehl := { s1.ehl with aliveSent := s.now } } := by
  subst h1
  exact if_neg (by simp [hup, ht])

theorem aliveSend_waits (h : s.ehl.linkUp = false ∨ s.now + s.tickHalfNs ≤ s.ehl.aliveSent + 1000) : aliveSend s = s :=
  if_pos (by simpa using h)

theorem ttimeSend_due (ht : s.ehl.ttimeSent + 2000000 < s.now + s.tickHalfNs) {s1 : State}
    (h1 : s1 = (s.toChildren (.ttime s.ptpTotalNs)).ehlSend 0 (.ttime s.ptpTotalNs)) :
    ttimeSend s = { s1 with ehl := { s1.ehl with ttimeSent := s.now } } := by
  subst h1
  exact if_neg (Nat.not_le.mpr ht)

theorem tdelayExchange_asks {l : Nat} (hl : s.timeLink = some l) {s1 : State} (h1 : s1 = s.ehlSend l (.tdelay (.request s.ptpTotalNs))) :
    tdelayExchange s = { s1 with ehl := { s1.ehl with delay := some s.now } } := by
  subst h1
  rw [tdelayExchange, hl]

theorem tdelayExchange_noSource (h : s.timeLink = none) : tdelayExchange s = s := by rw [tdelayExchange, h]

/-! ## Acknowledgements (R418) -/

/-- An ACK up to `seq` on link `l`, apart from the join that it may let go on. -/
def State.ackReleased (s : State) (l seq : Nat) : State :=
  s.setLink l (fun x => { x with unacked := (s.ehlLink l).unacked.filter (fun m => !seqUpTo m.1 seq), sentAt := s.now, lastRx := s.now })

theorem ehlAck_releases {l seq : Nat} (hno : l ≠ 0 ∨ s.pairState ≠ pairPrimary ∨ ((s.ackReleased l seq).ehlLink 0).unacked ≠ [] ∨
    ((s.ackReleased l seq).ehlLink 0).waiting ≠ []) : ehlAck l seq s = s.ackReleased l seq :=
  if_neg (by simpa [State.ackReleased, imp_iff_not_or, or_assoc] using hno)

theorem ehlAck_pumps {seq : Nat} (hpri : s.pairState = pairPrimary) (hun : ((s.ackReleased 0 seq).ehlLink 0).unacked = [])
    (hwait : ((s.ackReleased 0 seq).ehlLink 0).waiting = []) : ehlAck 0 seq s = (s.ackReleased 0 seq).pumpJoin := by
  unfold State.ackReleased at hun hwait
  exact if_pos (by simp [hpri, hun, hwait])

theorem ehlReplayTimeout_replays {l : Nat} (hun : (s.ehlLink l).unacked ≠ []) (ht : (s.ehlLink l).sentAt + 4000 < s.now + s.tickHalfNs) :
    ehlReplayTimeout l s = s.ehlReplay l := if_neg (by simp [hun, ht])

theorem ehlReplayTimeout_waits {l : Nat} (h : (s.ehlLink l).unacked = [] ∨ s.now + s.tickHalfNs ≤ (s.ehlLink l).sentAt + 4000) :
    ehlReplayTimeout l s = s := if_pos (by simpa using h)

/-! ## The pair link (R421, R424) -/

/-- A pair whose roles outlast the loss of its link. -/
def State.keepsRoles (s : State) (theirs : Nat) : Prop :=
  (s.pairState = pairPrimary ∧ theirs = pairSecondary) ∨ (s.pairState = pairSecondary ∧ theirs = pairPrimary)

/-- The pair link with its lanes up and its numbering afresh, before the roles. -/
def State.pairLinked (s : State) (theirs : Nat) (eyes : List Nat) : State :=
  let s1 := (List.range 8).foldl (fun st l => st.laneUp l (eyes.getD l 0)) s
  State.setLink { s1 with ehl := { s1.ehl with linkUp := true, lastAlive := s.now, aliveSent := s.now, partnerPair := theirs } } 0
    (fun _ => linkAt s.now)

section
variable {theirs uid : Nat} {prio : Bool} {eyes : List Nat}

theorem pairLinkUp_ignored (h : s.on EHL_CFG_PAIR_EN = false ∨ s.pairState = pairUnpaired ∨ s.ehl.linkUp = true) :
    pairLinkUp theirs prio uid eyes s = s := if_pos (by simpa [or_assoc] using h)

section
variable (hen : s.on EHL_CFG_PAIR_EN = true) (hpair : s.pairState ≠ pairUnpaired) (hdown : s.ehl.linkUp = false) {t : State}
  (ht : t = s.pairLinked theirs eyes)
include hen hpair hdown ht

theorem pairLinkUp_keeps (hkeep : s.keepsRoles theirs) : pairLinkUp theirs prio uid eyes s =
    State.raise (if s.partnerGone then t.desync 4 else t) 800 0 := by
  subst ht
  have hk : ((s.pairState = pairPrimary && theirs = pairSecondary) || (s.isSecondary && theirs = pairPrimary) : Bool) = true := by
    simpa [State.isSecondary, State.keepsRoles] using hkeep
  refine (if_neg (by simp [hen, hpair, hdown])).trans ?_
  simp only [hk, if_true, Bool.not_true, Bool.false_and]
  rfl

theorem pairLinkUp_arbitrates (hkeep : ¬ s.keepsRoles theirs) : pairLinkUp theirs prio uid eyes s =
    ((if (s.arbitrate theirs prio uid).1 then (t.setPair pairPrimary).startJoin else t.enterSecondary).raise 800 0).raiseIf
      (s.arbitrate theirs prio uid).2 812 0 := by
  subst ht
  have hk : ((s.pairState = pairPrimary && theirs = pairSecondary) || (s.isSecondary && theirs = pairPrimary) : Bool) = false :=
    Bool.eq_false_iff.mpr fun h => hkeep (by simpa [State.isSecondary, State.keepsRoles] using h)
  refine (if_neg (by simp [hen, hpair, hdown])).trans ?_
  simp only [hk, Bool.false_eq_true, if_false, Bool.not_false, Bool.true_and]
  rfl

end

end

theorem pairLinkTimeout_solo (hst : s.pairState = pairLinking) (hdown : s.ehl.linkUp = false)
    (ht : s.ehl.since + 200000000 < s.now + s.tickHalfNs) : pairLinkTimeout s = s.setPair pairSolo := if_pos (by simp [hst, hdown, ht])

theorem pairLinkTimeout_waits (h : s.pairState ≠ pairLinking ∨ s.ehl.linkUp = true ∨ s.now + s.tickHalfNs ≤ s.ehl.since + 200000000) :
    pairLinkTimeout s = s := if_neg (by simpa [imp_iff_not_or, or_assoc, Nat.not_lt] using h)

theorem State.isSecondary_of_primary (h : s.pairState = pairPrimary) : s.isSecondary = false := by simp [State.isSecondary, h]

theorem partnerSilent_takesOver (hgone : s.partnerGone = true) (hsec : s.isSecondary = true) :
    partnerSilent s = (s.raise 801 0).takeover := (if_neg (by simp [hgone])).trans (if_pos hsec)

theorem partnerSilent_solo (hgone : s.partnerGone = true) (hpri : s.pairState = pairPrimary) (hpart : s.ehl.partnerPair ≠ 0) {s1 : State}
    (h1 : s1 = (((s.setPair pairSolo).put EHL_STATUS_IN_SYNC 0).put EHL_STATUS_JOINING 0).raise 801 0) :
    partnerSilent s = { s1 with ehl := { s1.ehl with partnerPair := 0, joinLeft := [], syncFrame := 0, selfDone := false } } := by
  subst h1
  exact (if_neg (by simp [hgone])).trans
    ((if_neg (by simp [State.isSecondary_of_primary hpri])).trans (if_pos (by simp [hpri, hpart])))

theorem partnerSilent_nothing (h : s.partnerGone = false ∨ (s.isSecondary = false ∧ (s.pairState ≠ pairPrimary ∨ s.ehl.partnerPair = 0))) :
    partnerSilent s = s := by
  rcases h with h | ⟨hsec, hno⟩
  · exact if_pos (by simp [h])
  · exact ite_eq_left_iff.mpr fun _ => (if_neg (by simp [hsec])).trans (if_neg (by simpa [imp_iff_not_or] using hno))

theorem lagMaxReached_desyncs (hsec : s.isSecondary = true) (hlag : 0 < s.lagHalfNs)
    (ht : 2000 * s.bits EHL_LAG_MAX 15 0 < s.lagHalfNs + s.tickHalfNs) : lagMaxReached s = s.desync 1 := if_pos (by simp [hsec, hlag, ht])

theorem lagMaxReached_nothing (h : s.isSecondary = false ∨ s.lagHalfNs = 0 ∨ s.lagHalfNs + s.tickHalfNs ≤ 2000 * s.bits EHL_LAG_MAX 15 0) :
    lagMaxReached s = s := if_neg (by simpa [imp_iff_not_or, or_assoc, Nat.not_lt] using h)

/-! ## Commands of a pair (R425, R427, R437) -/

theorem ehlResync_joins (hpri : s.pairState = pairPrimary) (hup : s.ehl.linkUp = true) : ehlResync s = s.startJoin :=
  if_pos (by simp [hpri, hup])

theorem ehlResync_refused (h : s.pairState ≠ pairPrimary ∨ s.ehl.linkUp = false) : ehlResync s = s.ehlRefuse :=
  if_neg (by simpa [imp_iff_not_or] using h)

theorem ehlHandover_hands (hpri : s.pairState = pairPrimary) (hup : s.ehl.linkUp = true) (hsync : s.on EHL_STATUS_IN_SYNC = true) :
    ehlHandover s = s.handOver := if_pos (by simp [hpri, hup, hsync])

theorem ehlHandover_refused (h : s.pairState ≠ pairPrimary ∨ s.ehl.linkUp = false ∨ s.on EHL_STATUS_IN_SYNC = false) :
    ehlHandover s = s.ehlRefuse := if_neg (by simpa [imp_iff_not_or, or_assoc] using h)

/-! ## The tree (R433, R434, R436) -/

theorem treeReset_sends (hman : s.manages = true) {k : Nat} (hk : k = 1 ∨ k = 2) {s1 : State} (h1 : s1 = s.toChildren (.treset k s.treeTime)) :
    treeReset k s = { s1 with ehl := { s1.ehl with treeReset := some (k, s.treeTime) } } := by
  subst h1
  exact if_pos (by simpa [hman] using hk)

theorem treeReset_refused {k : Nat} (h : s.manages = false ∨ (k ≠ 1 ∧ k ≠ 2)) : treeReset k s = s.ehlRefuse :=
  if_neg (by simpa [imp_iff_not_or] using h)

theorem treeResetApply_applies {k t : Nat} (hr : s.ehl.treeReset = some (k, t)) (ht : t < s.ptpTickEnd) :
    treeResetApply s = State.treeKind { s with ehl := { s.ehl with treeReset := none } } k := by
  rw [treeResetApply, hr]
  exact if_neg (Nat.not_le.mpr ht)

theorem treeResetApply_waits {k t : Nat} (hr : s.ehl.treeReset = some (k, t)) (ht : s.ptpTickEnd ≤ t) : treeResetApply s = s := by
  rw [treeResetApply, hr]
  exact if_pos ht

theorem snapshotTake_due {freeze : Bool} {t f : Nat} (ha : s.ehl.arm = some (freeze, t, f)) (ht : t < s.ptpTickEnd) (hf : f ≤ s.now)
    {s1 : State} (h1 : s1 = State.put { s with ehl := { s.ehl with arm := none } } ⟨EHL_SNAP_STATUS, 0, 0⟩ 0) :
    snapshotTake s = if freeze then s1.freezeImage else s1.ownSnapshot := by
  subst h1
  rw [snapshotTake, ha]
  exact if_neg (by simp; omega)

theorem snapshotTake_waits {e : Bool × Nat × Nat} (ha : s.ehl.arm = some e) (h : s.ptpTickEnd ≤ e.2.1 ∨ s.now < e.2.2) :
    snapshotTake s = s := by
  rw [snapshotTake, ha]
  exact if_pos (by simpa using h)

theorem parentSilent_loses (hpar : s.hasParent = true) (ht : (s.ehlLink s.parentLink).lastRx + 20000 < s.now + s.tickHalfNs) :
    parentSilent s = s.loseParent := if_pos (by simp [hpar, ht])

theorem parentSilent_waits (h : s.hasParent = false ∨ s.now + s.tickHalfNs ≤ (s.ehlLink s.parentLink).lastRx + 20000) : parentSilent s = s :=
  if_neg (by simpa [imp_iff_not_or, Nat.not_lt] using h)

/-! ## Broadcast (R434) -/

/-- The parts of a broadcast of `len` bytes leave for the children in `mask`. -/
def State.bcSend (s : State) (mask len : Nat) (t : State) : State :=
  (List.range (ceilDiv len 1024)).foldl (fun st k => (List.range 4).foldl (fun st1 n => if bitAt mask n then
    st1.ehlSend (5 + n) (.tbcast 15 (s.bcDst + 1024 * k) (s.memRead (s.bcSrc + 1024 * k) (min 1024 (len - 1024 * k)))) else st1) st) t

theorem bcastStart_busy {val : Word} (h : s.bits EHL_BC_STATUS 1 0 = 1) : bcastStart val s = s.wrN EHL_BC_CTRL (val.toNat % 16) := if_pos h

section
variable {val : Word} (hfree : s.bits EHL_BC_STATUS 1 0 ≠ 1)
include hfree

theorem bcastStart_outside (hout : memSize < s.bcSrc + s.rdN EHL_BC_LEN / 8 * 8) :
    bcastStart val s = (s.wrN EHL_BC_CTRL (val.toNat % 16)).bcFail 1 := (if_neg hfree).trans (if_pos hout)

variable (hin : s.bcSrc + s.rdN EHL_BC_LEN / 8 * 8 ≤ memSize)
include hin

theorem bcastStart_linkDown {n : Nat} (hn : n < 4) (hmask : bitAt (val.toNat % 16) n = true) (hdown : s.ehlUp (5 + n) = false) :
    bcastStart val s = (s.wrN EHL_BC_CTRL (val.toNat % 16)).bcFail 2 :=
  (if_neg hfree).trans ((if_neg (Nat.not_lt.mpr hin)).trans
    (if_pos (List.any_eq_true.mpr ⟨n, List.mem_range.mpr hn, by simp [hmask, hdown]⟩)))

theorem bcastStart_sends (hup : ∀ n < 4, bitAt (val.toNat % 16) n = true → s.ehlUp (5 + n) = true) {s1 s2 : State}
    (h1 : s1 = (s.wrN EHL_BC_CTRL (val.toNat % 16)).wrN EHL_BC_STATUS 1)
    (h2 : s2 = { s1 with ehl := { s1.ehl with bcast := some (val.toNat % 16, val.toNat % 16) } }) :
    bcastStart val s = s.bcSend (val.toNat % 16) (s.rdN EHL_BC_LEN / 8 * 8) s2 := by
  subst h1 h2
  refine (if_neg hfree).trans ((if_neg (Nat.not_lt.mpr hin)).trans (if_neg fun hany => ?_))
  obtain ⟨n, hn, hbad⟩ := List.any_eq_true.mp hany
  obtain ⟨hmask, hdown⟩ := (Bool.and_eq_true _ _).mp hbad
  simp [hup n (List.mem_range.mp hn) hmask] at hdown

end

theorem bcastDone_idle {err : Nat} (h : s.bits EHL_BC_STATUS 1 0 ≠ 1) : bcastDone err s = s := if_pos h

theorem bcastDone_good (h : s.bits EHL_BC_STATUS 1 0 = 1) {s1 : State} (h1 : s1 = (s.wrN EHL_BC_STATUS 2).raise 815 0) :
    bcastDone 0 s = { s1 with ehl := { s1.ehl with bcast := none } } := by
  subst h1
  exact (if_neg (not_not.mpr h)).trans (if_pos rfl)

theorem bcastDone_failed {err : Nat} (h : s.bits EHL_BC_STATUS 1 0 = 1) (herr : err ≠ 0) : bcastDone err s = s.bcFail (err % 256) :=
  (if_neg (not_not.mpr h)).trans (if_neg herr)

/-! ## Lanes (R431, R437, R438) -/

theorem laneDown_ignored {l : Nat} {failed : Bool} (h : 16 ≤ l ∨ s.get (EHL_LANE_STATUS_STATE l) ≠ 2) : laneDown l failed s = s := if_pos h

section
variable {l : Nat} {failed : Bool} {s0 s1 : State} (hl : l < 16) (hup : s.get (EHL_LANE_STATUS_STATE l) = 2)
  (h0 : s0 = (s.put (EHL_LANE_STATUS_STATE l) (if failed then 3 else 1)).raiseMask 808 (2 ^ l))
  (h1 : s1 = { s0 with ehl := { s0.ehl with elastic := s0.ehl.elastic.set l none } })
include hl hup h0 h1

/-- A lane that leaves UP takes its pair link, its child or its parent with it. -/
theorem laneDown_up : laneDown l failed s =
    if l < 8 then { s1 with ehl := { s1.ehl with linkUp := false } }
    else if 12 ≤ l then s1.putBit EHL_STATUS (16 + (l - 12)) false
    else if s.hasParent && s.get EHL_STATUS_PARENT == l - 8 then s1.loseParent
    else { s1 with ehl := { s1.ehl with parents := s1.ehl.parents.set (l - 8) none } } := by
  subst h0 h1
  exact if_neg (by omega)

end

theorem hierarchyLaneUp_ignored {l eye : Nat} {level : Option Nat} (h : l < 8 ∨ 15 < l) : hierarchyLaneUp l level eye s = s := if_pos h

section
variable {l eye : Nat} {level : Option Nat} {s1 s2 : State} (h8 : 8 ≤ l) (h16 : l < 16)
  (h1 : s1 = (s.laneUp l eye).setLink (laneLink l) (fun _ => linkAt s.now))
include h8 h16 h1

theorem hierarchyLaneUp_noTree (hen : s.on EHL_CFG_TREE_EN = false) : hierarchyLaneUp l level eye s = s1 := by
  subst h1
  exact (if_neg (by omega)).trans (if_pos (by simp [hen]))

section
variable (hen : s.on EHL_CFG_TREE_EN = true)
include hen

theorem hierarchyLaneUp_child (h12 : 12 ≤ l) : hierarchyLaneUp l level eye s =
    if level.isSome then s1.put EHL_STATUS_CHILDREN (s1.get EHL_STATUS_CHILDREN ||| 2 ^ (l - 12)) else s1 := by
  subst h1
  exact (if_neg (by omega)).trans ((if_neg (by simp [hen])).trans (if_pos h12))

variable (h12 : l < 12) (h2 : s2 = { s1 with ehl := { s1.ehl with parents := s1.ehl.parents.set (l - 8) level } })
include h12 h2

theorem hierarchyLaneUp_parent : hierarchyLaneUp l level eye s =
    if s.on EHL_CFG_MANAGER then s2
    else if !s.hasParent && level.isSome && !s.on EHL_CFG_MANAGER then ((s2.pickParent).sendStatus).raiseMask 809 (2 ^ l)
    else s2 := by
  subst h1 h2
  exact (if_neg (by omega)).trans ((if_neg (by simp [hen])).trans (if_neg (by omega)))

theorem hierarchyLaneUp_joins (hman : s.on EHL_CFG_MANAGER = false) (hpar : s.hasParent = false) (hlev : level.isSome = true) :
    hierarchyLaneUp l level eye s = ((s2.pickParent).sendStatus).raiseMask 809 (2 ^ l) :=
  (hierarchyLaneUp_parent h8 h16 h1 hen h12 h2).trans ((if_neg (by simp [hman])).trans (if_pos (by simp [hpar, hlev, hman])))

theorem hierarchyLaneUp_notes (hno : s.on EHL_CFG_MANAGER = true ∨ s.hasParent = true ∨ level = none) : hierarchyLaneUp l level eye s = s2 := by
  refine (hierarchyLaneUp_parent h8 h16 h1 hen h12 h2).trans (ite_eq_left_iff.mpr fun hman => if_neg ?_)
  rcases hno with h | h | h
  · exact absurd h hman
  · simp [h]
  · simp [h]

end

end

/-! ## Time lock (R435) -/

theorem timeLockChanged_lost (hlock : s.on EHL_STATUS_LOCK = true) (hnone : s.ehl.lockAt = none) :
    timeLockChanged s = (s.put EHL_STATUS_LOCK 0).raise 816 0 := by
  rw [timeLockChanged, if_pos hlock, if_pos (by simp [hnone])]

theorem timeLockChanged_held (hlock : s.on EHL_STATUS_LOCK = true) (hsome : s.ehl.lockAt.isSome = true) : timeLockChanged s = s := by
  rw [timeLockChanged, if_pos hlock, if_neg (by simpa [← Option.isSome_iff_ne_none] using hsome)]

section
variable (hlock : s.on EHL_STATUS_LOCK = false)
include hlock

theorem timeLockChanged_gained {t : Nat} (hat : s.ehl.lockAt = some t) (ht : t + 2000000000 < s.now + s.tickHalfNs) :
    timeLockChanged s = (s.put EHL_STATUS_LOCK 1).raise 816 0 := by
  rw [timeLockChanged, if_neg (ne_true_of_eq_false hlock), hat]
  exact if_pos (decide_eq_true ht)

theorem timeLockChanged_waits (h : ∀ t ∈ s.ehl.lockAt, s.now + s.tickHalfNs ≤ t + 2000000000) : timeLockChanged s = s := by
  rw [timeLockChanged, if_neg (ne_true_of_eq_false hlock)]
  cases hat : s.ehl.lockAt with
  | none => exact if_neg Bool.false_ne_true
  | some t => exact if_neg (by simpa using h t hat)

end

end

/-! ## The statement -/

/-- Settles O58, clause by clause: what leaves by itself, the acknowledgements, the pair link and the partner, the commands, what is due
at a time, the broadcast, the lanes and the time lock. -/
theorem pairsAndHierarchies : Obligations.PairsAndHierarchies := by
  refine ⟨?aliveDue, ?aliveWaits, ?ttimeDue, ?ttimeWaits, ?delayAsks, ?delayNoSource, ?ackReleases, ?ackPumps, ?nak, ?replays, ?replayWaits,
    ?linkKeeps, ?linkDesyncs, ?linkPrimary, ?linkSecondary, ?linkIgnored, ?timeoutSolo, ?timeoutWaits, ?takesOver, ?goesSolo, ?notSilent,
    ?lagDesyncs, ?lagNothing, ?resyncs, ?resyncRefused, ?hands, ?handRefused, ?takeover, ?takeoverRefused, ?treeRefused, ?lid, ?reset,
    ?resetRefused, ?snap, ?freeze, ?lids, ?resetApplies, ?resetWaits, ?snapTaken, ?freezeTaken, ?armWaits, ?bcSends, ?bcBusy, ?bcOutside,
    ?bcLinkDown, ?bcGood, ?bcFailed, ?bcIdle, ?parentLost, ?parentWaits, ?laneDown, ?laneDownIgnored, ?lockLost, ?lockGained, ?lockWaits,
    ?laneUp, ?laneUpIgnored⟩
  case aliveDue => exact fun s s1 hcore hup ht h1 => answers_runCore (exec_aliveSend s) hcore (aliveSend_due hup ht h1)
  case aliveWaits => exact fun s hcore h => answers_runCore (exec_aliveSend s) hcore (aliveSend_waits h)
  case ttimeDue => exact fun s s1 hcore ht h1 => answers_runCore (exec_ttimeSend s) hcore (ttimeSend_due ht h1)
  case ttimeWaits => exact fun s hcore h => answers_runCore (exec_ttimeSend s) hcore (if_pos h)
  case delayAsks => exact fun s l s1 hcore hl h1 => answers_runCore (exec_tdelayExchange s) hcore (tdelayExchange_asks hl h1)
  case delayNoSource => exact fun s hcore h => answers_runCore (exec_tdelayExchange s) hcore (tdelayExchange_noSource h)
  case ackReleases =>
    rintro s l seq s1 hcore rfl hno
    exact answers_runCore (exec_ehlAck l seq s) hcore (ehlAck_releases hno)
  case ackPumps =>
    rintro s seq s1 hcore rfl hpri hun hwait
    exact answers_runCore (exec_ehlAck 0 seq s) hcore (ehlAck_pumps hpri hun hwait)
  case nak => exact fun s l seq hcore => answers_runCore (exec_ehlNak l seq s) hcore rfl
  case replays => exact fun s l hcore hun ht => answers_runCore (exec_ehlReplayTimeout l s) hcore (ehlReplayTimeout_replays hun ht)
  case replayWaits => exact fun s l hcore h => answers_runCore (exec_ehlReplayTimeout l s) hcore (ehlReplayTimeout_waits h)
  case linkKeeps =>
    rintro s far prio uid s1 s2 hcore hen hpair hdown rfl h2 hkeep hgone
    exact answers_runCore (exec_pairLinkUp far prio uid s) hcore
      ((pairLinkUp_keeps hen hpair hdown h2 hkeep).trans (by rw [if_neg (ne_true_of_eq_false hgone)]))
  case linkDesyncs =>
    rintro s far prio uid s1 s2 hcore hen hpair hdown rfl h2 hkeep hgone
    exact answers_runCore (exec_pairLinkUp far prio uid s) hcore
      ((pairLinkUp_keeps hen hpair hdown h2 hkeep).trans (by rw [if_pos hgone]))
  case linkPrimary =>
    rintro s far prio uid s1 s2 hcore hen hpair hdown rfl h2 hkeep hrole
    exact answers_runCore (exec_pairLinkUp far prio uid s) hcore
      ((pairLinkUp_arbitrates hen hpair hdown h2 hkeep).trans (by rw [if_pos hrole]))
  case linkSecondary =>
    rintro s far prio uid s1 s2 hcore hen hpair hdown rfl h2 hkeep hrole
    exact answers_runCore (exec_pairLinkUp far prio uid s) hcore
      ((pairLinkUp_arbitrates hen hpair hdown h2 hkeep).trans (by rw [if_neg (ne_true_of_eq_false hrole)]))
  case linkIgnored => exact fun s far prio uid hcore h => answers_runCore (exec_pairLinkUp far prio uid s) hcore (pairLinkUp_ignored h)
  case timeoutSolo =>
    exact fun s hcore hst hdown ht => answers_runCore (exec_pairLinkTimeout s) hcore (pairLinkTimeout_solo hst hdown ht)
  case timeoutWaits => exact fun s hcore h => answers_runCore (exec_pairLinkTimeout s) hcore (pairLinkTimeout_waits h)
  case takesOver => exact fun s hcore hgone hsec => answers_runCore (exec_partnerSilent s) hcore (partnerSilent_takesOver hgone hsec)
  case goesSolo =>
    exact fun s s1 hcore hgone hpri hpart h1 => answers_runCore (exec_partnerSilent s) hcore (partnerSilent_solo hgone hpri hpart h1)
  case notSilent => exact fun s hcore h => answers_runCore (exec_partnerSilent s) hcore (partnerSilent_nothing h)
  case lagDesyncs =>
    exact fun s hcore hsec hlag ht => answers_runCore (exec_lagMaxReached s) hcore (lagMaxReached_desyncs hsec hlag ht)
  case lagNothing => exact fun s hcore h => answers_runCore (exec_lagMaxReached s) hcore (lagMaxReached_nothing h)
  case resyncs => exact fun s hr hpri hup => answers_runAlone (exec_ehlResync s) hr pairShared_ehlCmd (ehlResync_joins hpri hup)
  case resyncRefused => exact fun s hr h => answers_runAlone (exec_ehlResync s) hr pairShared_ehlCmd (ehlResync_refused h)
  case hands =>
    exact fun s hr hpri hup hsync => answers_runAlone (exec_ehlHandover s) hr pairShared_ehlCmd (ehlHandover_hands hpri hup hsync)
  case handRefused => exact fun s hr h => answers_runAlone (exec_ehlHandover s) hr pairShared_ehlCmd (ehlHandover_refused h)
  case takeover => exact fun s hr hsec => answers_runAlone (exec_ehlTakeover s) hr pairShared_ehlCmd (if_pos hsec)
  case takeoverRefused =>
    exact fun s hr hsec => answers_runAlone (exec_ehlTakeover s) hr pairShared_ehlCmd (if_neg (ne_true_of_eq_false hsec))
  case treeRefused =>
    exact fun s q hr hman => ⟨answers_runAlone (exec_treeLid q s) hr pairShared_ehlCmd (if_neg (ne_true_of_eq_false hman)),
      answers_runAlone (exec_treeReset q s) hr pairShared_ehlCmd (treeReset_refused (.inl hman)),
      answers_runAlone (exec_snapArm s) hr pairShared_ehlCmd (if_neg (ne_true_of_eq_false hman)),
      answers_runAlone (exec_freezeArm s) hr pairShared_ehlCmd (if_neg (ne_true_of_eq_false hman))⟩
  case lid => exact fun s q hr hman => answers_runAlone (exec_treeLid q s) hr pairShared_ehlCmd (if_pos hman)
  case reset => exact fun s k s1 hr hman hk h1 => answers_runAlone (exec_treeReset k s) hr pairShared_ehlCmd (treeReset_sends hman hk h1)
  case resetRefused =>
    exact fun s k hr h1 h2 => answers_runAlone (exec_treeReset k s) hr pairShared_ehlCmd (treeReset_refused (.inr ⟨h1, h2⟩))
  case snap => exact fun s hr hman => answers_runAlone (exec_snapArm s) hr pairShared_ehlCmd (if_pos hman)
  case freeze => exact fun s hr hman => answers_runAlone (exec_freezeArm s) hr pairShared_ehlCmd (if_pos hman)
  case lids =>
    rintro s s1 hcore rfl
    exact answers_runCore (exec_lidApply s) hcore rfl
  case resetApplies =>
    exact fun s k t hcore hr ht => answers_runCore (exec_treeResetApply s) hcore (treeResetApply_applies hr ht)
  case resetWaits => exact fun s hcore e he ht => answers_runCore (exec_treeResetApply s) hcore (treeResetApply_waits he ht)
  case snapTaken => exact fun s t f hcore ha ht hf => answers_runCore (exec_snapshotTake s) hcore (snapshotTake_due ha ht hf rfl)
  case freezeTaken => exact fun s t f hcore ha ht hf => answers_runCore (exec_snapshotTake s) hcore (snapshotTake_due ha ht hf rfl)
  case armWaits => exact fun s hcore e he h => answers_runCore (exec_snapshotTake s) hcore (snapshotTake_waits he h)
  case bcSends =>
    rintro s val _ _ s1 s2 hr rfl rfl hfree hin hup h1 h2
    exact answers_runAlone (exec_bcastStart val s) hr pairShared_bcCtrl (bcastStart_sends hfree hin hup h1 h2)
  case bcBusy => exact fun s val hr h => answers_runAlone (exec_bcastStart val s) hr pairShared_bcCtrl (bcastStart_busy h)
  case bcOutside =>
    exact fun s val hr hfree hout => answers_runAlone (exec_bcastStart val s) hr pairShared_bcCtrl (bcastStart_outside hfree hout)
  case bcLinkDown =>
    exact fun s val n hr hfree hin hn hmask hdown =>
      answers_runAlone (exec_bcastStart val s) hr pairShared_bcCtrl (bcastStart_linkDown hfree hin hn hmask hdown)
  case bcGood => exact fun s s1 hcore h h1 => answers_runCore (exec_bcastDone 0 s) hcore (bcastDone_good h h1)
  case bcFailed => exact fun s err hcore h herr => answers_runCore (exec_bcastDone err s) hcore (bcastDone_failed h herr)
  case bcIdle => exact fun s err hcore h => answers_runCore (exec_bcastDone err s) hcore (bcastDone_idle h)
  case parentLost => exact fun s hcore hpar ht => answers_runCore (exec_parentSilent s) hcore (parentSilent_loses hpar ht)
  case parentWaits => exact fun s hcore h => answers_runCore (exec_parentSilent s) hcore (parentSilent_waits h)
  case laneDown =>
    intro s s0 s1 l failed hcore hl hup h0 h1
    have hdown := laneDown_up hl hup h0 h1
    exact ⟨fun h8 => answers_runCore (exec_laneDown l failed s) hcore (hdown.trans (if_pos h8)),
      fun h12 => answers_runCore (exec_laneDown l failed s) hcore (hdown.trans ((if_neg (by omega)).trans (if_pos h12))),
      fun h8 h12 hpar hact => answers_runCore (exec_laneDown l failed s) hcore
        (hdown.trans ((if_neg (by omega)).trans ((if_neg (by omega)).trans (if_pos (by simp [hpar, hact]))))),
      fun h8 h12 hno => answers_runCore (exec_laneDown l failed s) hcore
        (hdown.trans ((if_neg (by omega)).trans ((if_neg (by omega)).trans (if_neg (by simpa [imp_iff_not_or] using hno)))))⟩
  case laneDownIgnored => exact fun s l failed hcore h => answers_runCore (exec_laneDown l failed s) hcore (laneDown_ignored h)
  case lockLost => exact fun s hcore hlock hat => answers_runCore (exec_timeLockChanged s) hcore (timeLockChanged_lost hlock hat)
  case lockGained =>
    exact fun s t hcore hlock hat ht => answers_runCore (exec_timeLockChanged s) hcore (timeLockChanged_gained hlock hat ht)
  case lockWaits =>
    rintro s hcore (⟨hlock, hat⟩ | ⟨hlock, hat⟩)
    · exact answers_runCore (exec_timeLockChanged s) hcore (timeLockChanged_held hlock hat)
    · exact answers_runCore (exec_timeLockChanged s) hcore (timeLockChanged_waits hlock hat)
  case laneUp =>
    intro s s1 s2 l far hcore h8 h16 h1 h2
    have hexec := exec_hierarchyLaneUp l far s
    exact ⟨fun hen => answers_runCore hexec hcore (hierarchyLaneUp_noTree h8 h16 h1 hen),
      fun hen h12 hlev => answers_runCore hexec hcore ((hierarchyLaneUp_child h8 h16 h1 hen h12).trans (if_pos hlev)),
      fun hen h12 hlev => answers_runCore hexec hcore ((hierarchyLaneUp_child h8 h16 h1 hen h12).trans (if_neg (by simp [hlev]))),
      fun hen h12 hman hpar hlev => answers_runCore hexec hcore (hierarchyLaneUp_joins h8 h16 h1 hen h12 h2 hman hpar hlev),
      fun hen h12 hno => answers_runCore hexec hcore (hierarchyLaneUp_notes h8 h16 h1 hen h12 h2 hno)⟩
  case laneUpIgnored => exact fun s l far hcore h => answers_runCore (exec_hierarchyLaneUp l far s) hcore (hierarchyLaneUp_ignored h)

end Sys2Proof.Machine
end

section
/-!
PROOF. Resets, rails, the stages of a boot and the calibration record (R411, R440, R446 to R454, R463, R464).
-/

namespace Sys2Proof.Machine

theorem pairShared_gctlReset : pairShared GCTL_RESET = false := pairShared_below (by decide)

theorem pairShared_calrecCmd : pairShared GCTL_CALREC_CMD = false := pairShared_below (by decide)

section
variable {s : State}

/-! ## The PCIe link and the FUNCTION reset (R440, R447, R448) -/

theorem pcieLinkTrained_eq {speed width : Nat} (hs : speed < 8) (hw : width < 16) {s1 : State}
    (h1 : s1 = s.wrN GCTL_PCIE_STATUS (speed + 2 ^ 4 * width + 2 ^ 8)) : pcieLinkTrained speed width s =
      State.raiseIf { s1 with pcie := { s1.pcie with linkSeen := true } } (decide (speed < 5 ∨ width < 8)) 9 0 := by
  subst h1
  rw [pcieLinkTrained, Nat.mod_eq_of_lt hs, Nat.mod_eq_of_lt hw]

theorem functionReset_absorbed {lost : Bool}
    (h : s.pwrState = 5 ∨ s.pwrState = 6 ∨ s.pcie.resetAsked ≠ none ∨ s.pcie.resetTick = some s.evc.tick) : functionReset lost s = s := by
  refine if_pos ?_
  rw [Option.isSome_iff_ne_none]
  tauto

theorem functionReset_resets {lost : Bool} (h5 : s.pwrState ≠ 5) (h6 : s.pwrState ≠ 6) (hask : s.pcie.resetAsked = none)
    (htick : s.pcie.resetTick ≠ some s.evc.tick) {s0 s1 : State}
    (h0 : s0 = if lost then (s.functionState.wrN GCTL_PCIE_STATUS 0).raise 9 0 else s.functionState)
    (h1 : s1 = (s0.put GCTL_BOOT_STATUS_LAST_RESET 3).raise 0 3) :
    functionReset lost s = { s1 with pcie := { s1.pcie with
      fnSaved := some (s.evc.tick, s.bits GCTL_BAR2_SIZE 5 0, s.pcie.msixEn, s.pcie.funcMask, s.pcie.d3) } } := by
  subst h0 h1
  exact if_neg (by simp [h5, h6, hask, htick])

/-! ## The reset pin and the rails (R447, R462 to R464) -/

theorem resetPin_ignored (h : s.pwr.rails.powerGood = false ∨ s.pwr.rails.waiting = true) : resetPin s = s := if_pos (by simpa using h)

section
variable (hgood : s.pwr.rails.powerGood = true) (hrun : s.pwr.rails.waiting = false)
include hgood hrun

theorem resetPin_acts : resetPin s =
    if s.pwrState = 6 then { s with pwr := { s.pwr with pinAsked := true } }
    else if s.pwrState = 5 then
      State.setRails { s with pwr := { s.pwr with pinAsked := true } } (fun r => { r with enHbm := true, enSds := true, waiting := true })
    else s.fullReset 1 := if_neg (by simp [hgood, hrun])

end

theorem powerGoodRise_boots {boot : Bool} (haon : s.pwr.rails.aonGood = true) (hhbm : s.pwr.rails.enHbm = true)
    (hsds : s.pwr.rails.enSds = true) : powerGoodRise boot s =
      ((State.fullState { s with pcie := { s.pcie with bootSel := boot } } 0).setRails
        (fun r => { r with powerGood := true, pgHbm := true, pgSds := true, waiting := false })).wrN PWR_PLL_STATUS 1 :=
  if_neg (by simp [haon, hhbm, hsds])

theorem powerGoodRise_ignored {boot : Bool} (h : s.pwr.rails.aonGood = false ∨ s.pwr.rails.enHbm = false ∨ s.pwr.rails.enSds = false) :
    powerGoodRise boot s = s := if_pos (by simpa [or_assoc] using h)

/-- The rails fall: the contents of CORE go with both enables. -/
theorem railPgFall_falls {sds : Bool} (h5 : s.pwrState ≠ 5) (hen : (if sds then s.pwr.rails.enSds else s.pwr.rails.enHbm) = true)
    (hpg : (if sds then s.pwr.rails.pgSds else s.pwr.rails.pgHbm) = true) : railPgFall sds s =
      ((s.dropCore).put ⟨PWR_STATE, 2, 0⟩ 0).setRails (fun r => { r with
        enHbm := false, enSds := false, pgHbm := false, pgSds := false, waiting := true, fallAt := s.now }) := by
  cases sds
  · exact if_neg (by simpa [h5] using ⟨hen, hpg⟩)
  · exact if_neg (by simpa [h5] using ⟨hen, hpg⟩)

theorem railPgFall_ignored {sds : Bool} (h : s.pwrState = 5 ∨ (sds = true ∧ (s.pwr.rails.enSds = false ∨ s.pwr.rails.pgSds = false)) ∨
    (sds = false ∧ (s.pwr.rails.enHbm = false ∨ s.pwr.rails.pgHbm = false))) : railPgFall sds s = s := by
  cases sds
  · exact if_pos (by simpa using h)
  · exact if_pos (by simpa using h)

theorem railReenable_enables (hwait : s.pwr.rails.waiting = true) (hoff : s.pwr.rails.enHbm = false)
    (ht : s.pwr.rails.fallAt + 20000000 < s.now + s.tickHalfNs) :
    railReenable s = s.setRails (fun r => { r with enHbm := true, enSds := true }) := if_pos (by simp [hwait, hoff, ht])

theorem railReenable_waits (h : s.pwr.rails.waiting = false ∨ s.pwr.rails.enHbm = true ∨ s.now + s.tickHalfNs ≤ s.pwr.rails.fallAt + 20000000) :
    railReenable s = s := if_neg (by simpa [imp_iff_not_or, or_assoc, Nat.not_lt] using h)

theorem powerEnableOutputs_enables (hgood : s.pwr.rails.powerGood = false) (h5 : s.pwrState ≠ 5) (h6 : s.pwrState ≠ 6) :
    powerEnableOutputs s = s.setRails (fun r => { r with aonGood := true, enHbm := true, enSds := true }) := if_neg (by simp [hgood, h5, h6])

theorem powerEnableOutputs_ignored (h : s.pwr.rails.powerGood = true ∨ s.pwrState = 5 ∨ s.pwrState = 6) : powerEnableOutputs s = s :=
  if_pos (by simpa [or_assoc] using h)

theorem pgHbmPgSdsRise_ignored (h : s.pwr.rails.enHbm = false ∨ s.pwr.rails.enSds = false) : pgHbmPgSdsRise s = s :=
  if_pos (by simpa using h)

theorem pgHbmPgSdsRise_enabled (hhbm : s.pwr.rails.enHbm = true) (hsds : s.pwr.rails.enSds = true) {s1 : State}
    (h1 : s1 = s.setRails (fun r => { r with pgHbm := true, pgSds := true, waiting := false })) : pgHbmPgSdsRise s =
      if !s.pwr.rails.waiting then s1
      else if s.pwrState = 5 then s1.wakeBoot false
      else (s1.fullState 0).wrN PWR_PLL_STATUS 1 := by
  subst h1
  exact if_neg (by simp [hhbm, hsds])

/-! ## Boot stages (R411, R449 to R451) -/

theorem fusesDone_loads (hst : s.get GCTL_BOOT_STATUS_STAGE = 0) (hpwr : s.pwrState = 0) (hpll : bitAt (s.rdN PWR_PLL_STATUS) 31 = false)
    (hrun : s.pwr.rails.waiting = false) : fusesDone s = (s.pllsLocked).startLoad := if_pos (by simp [hst, hpwr, hpll, hrun])

theorem fusesDone_ignored (h : s.get GCTL_BOOT_STATUS_STAGE ≠ 0 ∨ s.pwrState ≠ 0 ∨ bitAt (s.rdN PWR_PLL_STATUS) 31 = true ∨
    s.pwr.rails.waiting = true) : fusesDone s = s := if_neg (by simpa [imp_iff_not_or] using h)

theorem applyDone_ignored (h : s.get GCTL_BOOT_STATUS_STAGE ≠ 3 ∨ s.on PWR_KETTLE_STATUS_RESUME_HELD = true) : applyDone s = s := if_pos h

section
variable (hst : s.get GCTL_BOOT_STATUS_STAGE = 3) (hheld : s.on PWR_KETTLE_STATUS_RESUME_HELD = false)
include hst hheld

theorem applyDone_applies : applyDone s =
    if s.pwr.stopBoot && polResumeAck s.polSec == 1 then (s.put PWR_KETTLE_STATUS_RESUME_HELD 1).raise 107 0 else s.startLink :=
  if_neg (by simp [hst, hheld])

end

theorem firstFrameStart_starts (hseen : s.frame.seen = false) (hdrv : s.drives = true) (hmay : s.mayStart = true)
    (hst : s.linkDone.get GCTL_BOOT_STATUS_STAGE = 5) (hg : ∀ g < 6, s.gState g < gTrain ∨ gCaps < s.gState g) :
    firstFrameStart s = s.linkDone.startFrame true true := by
  have hall : (List.range 6).all (fun g => !(decide (gTrain ≤ s.gState g ∧ s.gState g ≤ gCaps))) = true := by
    refine List.all_eq_true.mpr fun g hr => ?_
    rw [Bool.not_eq_true', decide_eq_false_iff_not, not_and_or, Nat.not_le, Nat.not_le]
    exact hg g (List.mem_range.mp hr)
  exact if_pos (by simp only [hseen, hdrv, hmay, hst, hall, Bool.not_false, Bool.and_self, beq_self_eq_true])

theorem firstFrameStart_ignored (h : s.frame.seen = true ∨ s.drives = false ∨ s.mayStart = false ∨
    s.linkDone.get GCTL_BOOT_STATUS_STAGE ≠ 5 ∨ (∃ g, g < 6 ∧ gTrain ≤ s.gState g ∧ s.gState g ≤ gCaps)) : firstFrameStart s = s := by
  refine if_neg fun hcond => ?_
  simp only [Bool.and_eq_true, Bool.not_eq_true', beq_iff_eq, List.all_eq_true, List.mem_range, decide_eq_false_iff_not] at hcond
  obtain ⟨⟨⟨⟨hseen, hdrv⟩, hmay⟩, hst⟩, hall⟩ := hcond
  rcases h with h | h | h | h | ⟨g, hg, hbusy⟩
  · exact Bool.false_ne_true (hseen.symm.trans h)
  · exact Bool.false_ne_true (h.symm.trans hdrv)
  · exact Bool.false_ne_true (h.symm.trans hmay)
  · exact h hst
  · exact hall g hg hbusy

theorem bootLate_raises (hr : s.pcie.lateRaised = false) (hst : s.get GCTL_BOOT_STATUS_STAGE ≠ 6) (ht : 3600000000 < s.now + s.tickHalfNs) :
    bootLate s = State.raise { s with pcie := { s.pcie with lateRaised := true } } 12 (s.get GCTL_BOOT_STATUS_STAGE) :=
  if_neg (by simpa [hr, hst] using ht)

theorem bootLate_ignored (h : s.pcie.lateRaised = true ∨ s.get GCTL_BOOT_STATUS_STAGE = 6 ∨ s.now + s.tickHalfNs ≤ 3600000000) :
    bootLate s = s := if_pos (by simpa [or_assoc] using h)

/-! ## The calibration record (R453, R454) -/

theorem State.calrecStart_busy {restore : Bool} (h : s.pcie.calWork.isSome = true) :
    s.calrecStart restore = (s.put GCTL_CALREC_STATUS_ERR 1).raise 11 0 := if_pos h

section
variable {restore : Bool} (hidle : s.pcie.calWork = none)
include hidle

theorem calrecRestore_running (hcal : s.get CAL_RUN_STATUS_STATE ≠ 0) : calrecRestore s = s.calrecFail 1 :=
  (if_neg (by simp [hidle])).trans (if_pos (by simp [hcal]))

variable (hcal : restore = true → s.get CAL_RUN_STATUS_STATE = 0)
include hcal

/-- A record operation that is not refused with BUSY goes by its region. -/
theorem State.calrecStart_free {s1 : State} (h1 : s1 = (s.put GCTL_CALREC_STATUS_STATE 1).put GCTL_CALREC_STATUS_ERR 0) :
    s.calrecStart restore = if !s.inRegion 0 s.calrecAddr calrecLen then s.calrecFail 2
      else { s1 with pcie := { s1.pcie with calWork := some (restore, s.calrecAddr) } } := by
  subst h1
  exact (if_neg (by simp [hidle])).trans (if_neg (by simpa using hcal))

theorem State.calrecStart_starts (hin : s.inRegion 0 s.calrecAddr calrecLen = true) {s1 : State}
    (h1 : s1 = (s.put GCTL_CALREC_STATUS_STATE 1).put GCTL_CALREC_STATUS_ERR 0) :
    s.calrecStart restore = { s1 with pcie := { s1.pcie with calWork := some (restore, s.calrecAddr) } } :=
  (State.calrecStart_free hidle hcal h1).trans (if_neg (by simp only [hin, Bool.not_true, Bool.false_eq_true, not_false_eq_true]))

theorem State.calrecStart_outside (hout : s.inRegion 0 s.calrecAddr calrecLen = false) : s.calrecStart restore = s.calrecFail 2 :=
  (State.calrecStart_free hidle hcal rfl).trans (if_pos (by simp only [hout, Bool.not_false]))

end

theorem calrecDone_idle (h : s.pcie.calWork = none) : calrecDone s = s := by rw [calrecDone, h]

section
variable {a : Nat} {s1 : State} (h1 : s1 = { s with pcie := { s.pcie with calWork := none } })
include h1

theorem calrecDone_saves (hw : s.pcie.calWork = some (false, a)) :
    calrecDone s = ((s1.dmaWrite 12 writerHost a s.calrecBytes 0).1).calrecGood := by
  simp only [calrecDone, hw, ← h1, Bool.false_eq_true, if_false]

section
variable (hw : s.pcie.calWork = some (true, a))
include hw

theorem calrecDone_poisoned (hp : s.poisonedIn a calrecLen = true) : calrecDone s = (s1.notePoisonRead 12).calrecFail 7 := by
  simp only [calrecDone, hw, ← h1, if_true, hp]

variable (hp : s.poisonedIn a calrecLen = false)
include hp

theorem calrecDone_good (hgood : s.calrecCheck (s.memRead a calrecLen) = none) :
    calrecDone s = s1.calrecTake (s.memRead a calrecLen) := by
  simp only [calrecDone, hw, ← h1, if_true, hp, Bool.false_eq_true, if_false, hgood]

theorem calrecDone_bad {e : Nat} (hbad : s.calrecCheck (s.memRead a calrecLen) = some e) : calrecDone s = s1.calrecFail e := by
  simp only [calrecDone, hw, ← h1, if_true, hp, Bool.false_eq_true, if_false, hbad]

end

end

end

/-! ## The statement -/

/-- Settles O59, clause by clause: the link, the resets, the pin and the rails, the stages of a boot, and the calibration record. -/
theorem resetsRailsAndBoot : Obligations.ResetsRailsAndBoot := by
  refine ⟨?trained, ?function, ?functionLost, ?absorbed, ?full, ?image, ?noKey, ?pin, ?pinStopped, ?pinAsleep, ?pinIgnored, ?rise,
    ?riseIgnored, ?fall, ?fallIgnored, ?sdsFall, ?hbmFall, ?railFallIgnored, ?reenable, ?reenableWaits, ?enables, ?enablesIgnored,
    ?railsRise, ?railsRiseIgnored, ?vddAon, ?fuses, ?fusesIgnored, ?apply, ?applyHeld, ?applyIgnored, ?first, ?firstIgnored, ?late,
    ?lateIgnored, ?save, ?restore, ?busy, ?running, ?saveOutside, ?restoreOutside, ?saved, ?taken, ?bad, ?poisoned, ?idle⟩
  case trained =>
    exact fun s speed width s1 hgood hlock hs hw h1 =>
      answers_runPll (exec_pcieLinkTrained speed width s) hgood hlock (pcieLinkTrained_eq hs hw h1)
  case function =>
    exact fun s s1 hgood hlock h5 h6 hask htick h1 =>
      answers_runPll (exec_functionReset false s) hgood hlock
        (functionReset_resets h5 h6 hask htick (if_neg Bool.false_ne_true).symm h1)
  case functionLost =>
    exact fun s s1 hgood hlock h5 h6 hask htick h1 =>
      answers_runPll (exec_functionReset true s) hgood hlock (functionReset_resets h5 h6 hask htick (if_pos rfl).symm h1)
  case absorbed =>
    exact fun s lost hgood hlock h => answers_runPll (exec_functionReset lost s) hgood hlock (functionReset_absorbed h)
  case full => exact fun s val hr hkey => answers_runAlone (exec_gctlResetFull val s) hr pairShared_gctlReset (if_pos hkey)
  case image => exact fun s val hr hkey => answers_runAlone (exec_gctlResetImage val s) hr pairShared_gctlReset (if_pos hkey)
  case noKey =>
    exact fun s val hr hkey =>
      ⟨answers_runAlone (exec_gctlResetFull val s) hr pairShared_gctlReset (if_neg (ne_true_of_eq_false hkey)),
        answers_runAlone (exec_gctlResetImage val s) hr pairShared_gctlReset (if_neg (ne_true_of_eq_false hkey))⟩
  case pin =>
    exact fun s hgood hrun h5 h6 => answers_runAlways (exec_resetPin s) ((resetPin_acts hgood hrun).trans ((if_neg h6).trans (if_neg h5)))
  case pinStopped => exact fun s hgood hrun h6 => answers_runAlways (exec_resetPin s) ((resetPin_acts hgood hrun).trans (if_pos h6))
  case pinAsleep =>
    exact fun s hgood hrun h5 => answers_runAlways (exec_resetPin s)
      ((resetPin_acts hgood hrun).trans ((if_neg (by omega)).trans (if_pos h5)))
  case pinIgnored => exact fun s h => answers_runAlways (exec_resetPin s) (resetPin_ignored h)
  case rise =>
    exact fun s boot haon hhbm hsds => answers_runAlways (exec_powerGoodRise boot s) (powerGoodRise_boots haon hhbm hsds)
  case riseIgnored => exact fun s boot h => answers_runAlways (exec_powerGoodRise boot s) (powerGoodRise_ignored h)
  case fall => exact fun s hgood => answers_runAlways (exec_powerGoodFall s) (if_pos hgood)
  case fallIgnored => exact fun s hgood => answers_runAlways (exec_powerGoodFall s) (if_neg (ne_true_of_eq_false hgood))
  case sdsFall => exact fun s h5 hen hpg => answers_runAlways (exec_railPgFall true s) (railPgFall_falls h5 hen hpg)
  case hbmFall => exact fun s h5 hen hpg => answers_runAlways (exec_railPgFall false s) (railPgFall_falls h5 hen hpg)
  case railFallIgnored => exact fun s sds h => answers_runAlways (exec_railPgFall sds s) (railPgFall_ignored h)
  case reenable => exact fun s hwait hoff ht => answers_runAlways (exec_railReenable s) (railReenable_enables hwait hoff ht)
  case reenableWaits => exact fun s h => answers_runAlways (exec_railReenable s) (railReenable_waits h)
  case enables =>
    exact fun s hgood h5 h6 => answers_runAlways (exec_powerEnableOutputs s) (powerEnableOutputs_enables hgood h5 h6)
  case enablesIgnored => exact fun s h => answers_runAlways (exec_powerEnableOutputs s) (powerEnableOutputs_ignored h)
  case railsRise =>
    intro s s1 hhbm hsds h1
    have hrise := pgHbmPgSdsRise_enabled hhbm hsds h1
    exact ⟨fun hwait h5 => answers_runAlways (exec_pgHbmPgSdsRise s) (hrise.trans ((if_neg (by simp [hwait])).trans (if_neg h5))),
      fun hwait h5 => answers_runAlways (exec_pgHbmPgSdsRise s) (hrise.trans ((if_neg (by simp [hwait])).trans (if_pos h5))),
      fun hrun => answers_runAlways (exec_pgHbmPgSdsRise s) (hrise.trans (if_pos (by simp [hrun])))⟩
  case railsRiseIgnored => exact fun s h => answers_runAlways (exec_pgHbmPgSdsRise s) (pgHbmPgSdsRise_ignored h)
  case vddAon => exact fun s => answers_runAlways (exec_vddAonBelowMinimum s) rfl
  case fuses =>
    exact fun s hgood hst hpwr hpll hrun => answers_runAon (exec_fusesDone s) hgood (fusesDone_loads hst hpwr hpll hrun)
  case fusesIgnored => exact fun s hgood h => answers_runAon (exec_fusesDone s) hgood (fusesDone_ignored h)
  case apply =>
    exact fun s hcore hst hheld hfree => answers_runCore (exec_applyDone s) hcore
      ((applyDone_applies hst hheld).trans (if_neg (by simpa [imp_iff_not_or] using hfree)))
  case applyHeld =>
    exact fun s hcore hst hheld hstop hpol => answers_runCore (exec_applyDone s) hcore
      ((applyDone_applies hst hheld).trans (if_pos (by simp [hstop, hpol])))
  case applyIgnored => exact fun s hcore h => answers_runCore (exec_applyDone s) hcore (applyDone_ignored h)
  case first =>
    exact fun s hcore hseen hdrv hmay hst hg => answers_runCore (exec_firstFrameStart s) hcore (firstFrameStart_starts hseen hdrv hmay hst hg)
  case firstIgnored => exact fun s hcore h => answers_runCore (exec_firstFrameStart s) hcore (firstFrameStart_ignored h)
  case late => exact fun s hgood hr hst ht => answers_runAon (exec_bootLate s) hgood (bootLate_raises hr hst ht)
  case lateIgnored => exact fun s hgood h => answers_runAon (exec_bootLate s) hgood (bootLate_ignored h)
  case save =>
    exact fun s s1 hr hidle hin h1 => answers_runAlone (exec_calrecSave s) hr pairShared_calrecCmd
      (State.calrecStart_starts hidle (fun h => absurd h Bool.false_ne_true) hin h1)
  case restore =>
    exact fun s s1 hr hidle hcal hin h1 => answers_runAlone (exec_calrecRestore s) hr pairShared_calrecCmd
      (State.calrecStart_starts hidle (fun _ => hcal) hin h1)
  case busy =>
    exact fun s hr hbusy => ⟨answers_runAlone (exec_calrecSave s) hr pairShared_calrecCmd (State.calrecStart_busy hbusy),
      answers_runAlone (exec_calrecRestore s) hr pairShared_calrecCmd (State.calrecStart_busy hbusy)⟩
  case running =>
    exact fun s hr hidle hcal => answers_runAlone (exec_calrecRestore s) hr pairShared_calrecCmd (calrecRestore_running hidle hcal)
  case saveOutside =>
    exact fun s hr hidle hout => answers_runAlone (exec_calrecSave s) hr pairShared_calrecCmd
      (State.calrecStart_outside hidle (fun h => absurd h Bool.false_ne_true) hout)
  case restoreOutside =>
    exact fun s hr hidle hcal hout => answers_runAlone (exec_calrecRestore s) hr pairShared_calrecCmd
      (State.calrecStart_outside hidle (fun _ => hcal) hout)
  case saved => exact fun s a s1 hcore hw h1 => answers_runCore (exec_calrecDone s) hcore (calrecDone_saves h1 hw)
  case taken =>
    exact fun s a s1 hcore hw h1 hp hgood => answers_runCore (exec_calrecDone s) hcore (calrecDone_good h1 hw hp hgood)
  case bad =>
    exact fun s a e s1 hcore hw h1 hp hbad => answers_runCore (exec_calrecDone s) hcore (calrecDone_bad h1 hw hp hbad)
  case poisoned => exact fun s a s1 hcore hw h1 hp => answers_runCore (exec_calrecDone s) hcore (calrecDone_poisoned h1 hw hp)
  case idle => exact fun s hcore h => answers_runCore (exec_calrecDone s) hcore (calrecDone_idle h)

end Sys2Proof.Machine
end
